-- ==== Sys2Proof/Word.lean ====
section
/-! DEFINITION. The plain types of the model: the 32-bit register word of R4, bytes, and sparse maps. -/

namespace Sys2Proof

/-- A register word (R4). -/
abbrev Word := BitVec 32

/-- A byte of a message, a packet or a memory. -/
abbrev Byte := BitVec 8

/-- A sparse map: the entries whose value is not the one an unlisted key reads as, keys rising. -/
abbrev Sparse (α : Type) := List (Nat × α)

end Sys2Proof
end

