-- ==== Sys2Proof/Syntax.lean ====
section
/-! DEFINITION. The commands of the block: one constructor per row of the table of operations and events, and the
plain data they carry.  The table gives its rows no operand fields; the operands here are what the spec's rules say
such an operation or event brings from outside: who writes and what, the bytes of a message, what an engine
measured, when a clocked domain stamped an event (assumption 4). -/

namespace Sys2Proof

/-- Who makes a BAR 0 access (R10, R19, R654). -/
inductive Writer where
  | prompter
  | stageManager (core : Fin 4)
  | host
  | cueEngine (n : Fin 16)
  deriving DecidableEq, Repr

/-- A session message as it arrives (R135, R812): port, source address and UDP port, source MAC, arrival token, the
UDP payload. -/
structure NetMsg where
  port : Fin 4
  src : BitVec 128
  srcPort : BitVec 16
  mac : BitVec 48
  arrival : Nat
  bytes : List Byte
  deriving DecidableEq, Repr

/-- What a sequence parameter set says of a stream, as far as R262 to R269 judge it. -/
structure SpsInfo where
  h264 : Bool
  /-- its identifier, by which slices refer to it -/
  id : Nat
  /-- general_profile_idc or profile_idc -/
  profile : Nat
  /-- general_profile_compatibility_flags that are set, as profile numbers -/
  compat : List Nat
  /-- 0 for 4:0:0, 1 for 4:2:0, 2 for 4:2:2, 3 for 4:4:4 -/
  chroma : Nat
  bitDepth : Nat
  /-- constraint flags within the profile -/
  constraintsOk : Bool
  level : Nat
  width : Nat
  height : Nat
  /-- the conformance window: its left and top luma offsets, its luma size -/
  winLeft : Nat
  winTop : Nat
  winWidth : Nat
  winHeight : Nat
  /-- matrix_coefficients of the VUI, none where it is unspecified, and video_full_range_flag (R422) -/
  matrix : Option Nat
  fullRange : Bool
  /-- MaxFrameNum of an H.264 stream (R296) -/
  maxFrameNum : Nat
  /-- pictures of the decoded picture buffer; sps_max_num_reorder_pics[HighestTid] or max_num_reorder_frames;
  SpsMaxLatencyPictures where it sets a limit; pic_order_cnt_type 2 (R268, R278, R279) -/
  dpb : Nat
  maxReorder : Nat
  maxLatency : Option Nat
  pocType2 : Bool
  fieldSeq : Bool
  intraOnly : Bool
  tiles : Bool
  wpp : Bool
  mbaff : Bool
  fmo : Bool
  /-- CTUs across and down (macroblocks in H.264), the columns and the rows at which the tile columns and the tile rows after
  the first begin -/
  ctuCols : Nat
  ctuRows : Nat
  tileStarts : List Nat
  tileRows : List Nat
  deriving DecidableEq, Repr

/-- A reference picture that a slice names (R295): its number in the stream, its PicOrderCntVal, its frame_num. -/
structure RefName where
  pic : Nat
  poc : Int
  frameNum : Nat
  deriving DecidableEq, Repr

/-- What one slice segment NAL unit says, as far as the rules of the decoding chapter judge it. -/
structure SliceInfo where
  h264 : Bool
  /-- the number of its picture, which distinguishes the pictures of the stream (R275) -/
  pic : Nat
  /-- the sequence parameter set that it refers to through its picture parameter set -/
  sps : Nat
  firstCtu : Nat
  ctuCount : Nat
  irap : Bool
  /-- IDR, or CRA or BLA with NoRaslOutputFlag 1 (R297) -/
  noRasl : Bool
  rasl : Bool
  /-- a P or B slice -/
  inter : Bool
  isRef : Bool
  /-- PicOrderCntVal -/
  poc : Int
  /-- the pictures that its reference picture set or its reference lists name (R295); the pictures that the marking process of an
  H.264 picture takes out of reference; memory_management_control_operation 5 -/
  refs : List RefName
  drops : List Nat
  mmco5 : Bool
  /-- PicOutputFlag, NoOutputOfPriorPicsFlag (R278) -/
  output : Bool
  noPriorOut : Bool
  /-- a slice header error (R282 code 7) -/
  headerError : Bool
  /-- frame_num of an H.264 slice (R296) -/
  frameNum : Nat
  secondField : Bool
  firstField : Bool
  /-- a field picture of the bottom field -/
  bottom : Bool
  /-- a dependent slice segment (R284) -/
  dependent : Bool
  /-- its substreams, each the raster addresses of its CTUs in decoding order (R283); the CTUs from firstCtu on in one
  substream where this list is empty -/
  subs : List (List Nat)
  deriving DecidableEq, Repr

/-- One NAL unit of a packet. -/
inductive Nal where
  /-- nuh_layer_id above 0, a redundant slice, an SVC or MVC unit (R264, R266) -/
  | ignored
  | slice (i : SliceInfo)
  | paramSet (i : SpsInfo)
  /-- a parameter set that fails its syntax (R282 code 8) -/
  | badParamSet
  /-- a recovery point SEI message: exact_match_flag, recovery_poc_cnt or recovery_frame_cnt -/
  | recoveryPoint (exact : Bool) (cnt : Int)
  /-- a user data unregistered SEI message: UUID and body (R104) -/
  | userData (uuid : List Byte) (body : List Byte)
  | other
  deriving DecidableEq, Repr

/-- A NAL unit with its decoding order number where packets carry one (R272). -/
structure NalUnit where
  don : Nat
  nal : Nal
  deriving DecidableEq, Repr

/-- An RTP packet of a decode context's flow after the packet engine (R271 to R274). -/
structure RtpPacket where
  port : Fin 4
  src : BitVec 128
  seq : BitVec 16
  ts : Word
  ssrc : Word
  pt : BitVec 7
  marker : Bool
  arrival : Nat
  /-- PACI, STAP-B, MTAP or FU-B (R272, R273) -/
  unsupported : Bool
  nals : List NalUnit
  /-- a fragmentation unit: first fragment, last fragment -/
  fu : Option (Bool × Bool)
  deriving DecidableEq, Repr

/-- A block of inter prediction (R201): its luma position in the CTU and its size, the reference as pictures back (0 the most
recent), the motion vector in quarter samples. -/
structure InterBlock where
  x : Nat
  y : Nat
  w : Nat
  h : Nat
  ref : Nat
  mvx : Int
  mvy : Int
  deriving DecidableEq, Repr

/-- A block of intra block copy (R200): its luma position in the CTU and its size, the block vector in samples. -/
structure CopyBlock where
  x : Nat
  y : Nat
  w : Nat
  h : Nat
  bvx : Int
  bvy : Int
  deriving DecidableEq, Repr

/-- One way in which a CTU can be coded: its size in bits, the blocks it predicts from, palette entries (0 none), the samples
of each plane that a lossy coding reconstructs, in raster order. -/
structure CodeTrial where
  bits : Nat
  inter : List InterBlock
  copies : List CopyBlock
  palette : Nat
  recon : List (List Nat)
  deriving DecidableEq, Repr

/-- How an encoder coded a CTU (R195 to R201, R247 to R249): from its source or as skip, cu_transquant_bypass_flag, the blocks
it predicts from, the QP that its cu_qp_delta signals. -/
structure CtuCode where
  skip : Bool
  bypass : Bool
  inter : List InterBlock
  copies : List CopyBlock
  palette : Nat
  qp : Int
  deriving DecidableEq, Repr

/-- The codings that an encoder tries for a CTU (R195 to R201, R236, R244 to R248). -/
structure CtuTrials where
  /-- bits of the start of the slice that this CTU begins (R236) -/
  sliceBits : Nat
  /-- size as skip or blank in bits (R246 to R248) -/
  skipBits : Nat
  /-- lossless codings, the best first, and codings at the row's QP; the last of either predicts from nothing outside the
  CTU -/
  exact : List CodeTrial
  lossy : List CodeTrial
  /-- the samples of each plane of a blank, in raster order (R248) -/
  blank : List (List Nat)
  deriving DecidableEq, Repr, Inhabited

/-- A CTU whose samples prediction uses: of an earlier picture, by its number in the stream, or of the picture in decoding. -/
structure CtuRead where
  pic : Option Nat
  ctu : Nat
  deriving DecidableEq, Repr

/-- What the decoding of one CTU comes to. -/
structure CtuFacts where
  /-- the samples of each plane in raster order -/
  samples : List (List Nat)
  /-- code of R282 detected in this CTU, 0 none -/
  error : Nat
  /-- the CTUs whose samples its prediction uses (R286, R287) -/
  reads : List CtuRead
  deriving DecidableEq, Repr

/-- A sample that the Filter Stage changes (R293, R316): plane, position, value, and the samples of that plane across the edge
(deblocking) or beside it (SAO) that it looks at. -/
structure FilterEdit where
  plane : Nat
  x : Nat
  y : Nat
  value : Nat
  beside : List (Nat × Nat)
  deriving DecidableEq, Repr

/-- A sample in which echo differs from the encoder: plane, position, the value echo decodes. -/
structure SampleDiff where
  plane : Nat
  x : Nat
  y : Nat
  value : Nat
  deriving DecidableEq, Repr

/-- The work of a row job (R315). -/
inductive JobKind where
  | decode | encode | echo
  deriving DecidableEq, Repr

/-- A compositor work item (R390, R425, R426): the output, the window, the rectangle of its destination area that it draws. -/
structure WinItem where
  out : Fin 8
  win : Fin 16
  x : Nat
  y : Nat
  w : Nat
  h : Nat
  deriving DecidableEq, Repr

/-- Where the vendor's dispatch puts a work item: the entry of the dispatch table, the row-job slot in bay SRAM in
64-byte units (R317, R355, R374). -/
structure PxDispatch where
  entry : Fin 64
  slotBase : BitVec 16
  slotLen : Nat
  /-- a work item of a compositor in place of a CTU -/
  window : Option WinItem
  deriving DecidableEq, Repr

/-- What a row job leaves when it completes: the bins its lane coded, what the Filter Stage changes, and of an echo job the
samples in which it differs from the encoder after the filters (R216, R293, R316, R348). -/
structure JobEnd where
  bins : Nat
  edits : List FilterEdit
  diffs : List SampleDiff
  deriving DecidableEq, Repr

/-- What the ledger's 10 ms measurement brings (R325, R328, R348, R714, R715). -/
structure LedgerFacts where
  /-- work of each bay in the interval, 0.1 PWU -/
  loads : List Nat
  /-- handshake steps of canaries 0 to 23 -/
  canaries : List Nat
  /-- junction sensors, signed, 0.1 °C -/
  temps : List Int
  deriving DecidableEq, Repr

/-- A frame as a port receives it (R457, R458): its bytes from the destination MAC on, FCS not included; whether its
FCS is bad; the FEC codewords up to its end that were corrected and that could not be; the time base reading at its start at the
MAC/PCS boundary. -/
structure RxFrame where
  bytes : List Byte
  bad : Bool
  corrected : Nat
  uncorrectable : Nat
  reading : Nat
  deriving DecidableEq, Repr

/-- A frame and the port on which it arrives. -/
structure PortFrame where
  port : Fin 4
  frame : RxFrame
  deriving DecidableEq, Repr

/-- A reference command (R588): its requester and handle, the time token it carries, the source handle of its requester (R12,
R24). -/
structure PoolRefAsk where
  requester : Fin 64
  handle : Word
  time : Nat
  source : BitVec 16
  deriving DecidableEq, Repr

/-- What reaches the Cue Exchange in the same handshake step as an acknowledgement or a retarget (R569, R576). -/
inductive CuexSame where
  | doorbell (v : Word)
  | post (w : Writer) (v : Word)
  | route (w : Writer) (k : Fin 512) (v : Word)
  deriving DecidableEq, Repr

/-- A request to the prop room (R585, R589): requester, size in bytes, request class. -/
structure PoolAsk where
  requester : Fin 64
  size : BitVec 27
  cls : Fin 8
  deriving DecidableEq, Repr

/-- A write of CVU_POST: who, the value. -/
structure CvuPost where
  poster : Writer
  value : Word
  deriving DecidableEq, Repr

/-- The packet types of R211. -/
inductive RtpKind where
  | single | fragment | aggregation
  deriving DecidableEq, Repr

/-- An RTP packet an encode context hands to the packet engine (R211): its type, its payload in bytes, the value of its DONL
field where it has one, and what its PKT_BUILD hook wrote where its flow has one (R468; none: the hook was abandoned). -/
structure RtpOut where
  kind : RtpKind
  payload : Nat
  donl : Option Nat
  hook : Option Nat
  deriving DecidableEq, Repr

/-- A reply on the AUX channel of a DisplayPort output (R410, R445). -/
inductive AuxReply where
  | ack (bytes : List Byte)
  | nack
  | defer
  | i2cNack
  deriving DecidableEq, Repr

/-- An AUX request of the attached source to a DisplayPort input (R435): native or I2C, read or write. -/
structure AuxAsk where
  i2c : Bool
  read : Bool
  addr : BitVec 20
  len : Fin 17
  bytes : List Byte
  deriving DecidableEq, Repr

/-- What a DisplayPort output learns from its sink's test CRC (R434): whether DPCD 0x246 reports support, TEST_CRC_COUNT,
the sink's values for that frame. -/
structure LinkCrc where
  supported : Bool
  count : Fin 16
  sink : BitVec 16 × BitVec 16 × BitVec 16
  deriving DecidableEq, Repr

/-- The timing and link a DisplayPort input finds at lock (R435, R437, R450): pixel clock in kHz; the colorimetry of its MSA or
VSC SDP as matrix_coefficients and video_full_range_flag (R441). -/
structure SinkLock where
  width : BitVec 16
  height : BitVec 16
  hTotal : BitVec 16
  vTotal : BitVec 16
  clock : Nat
  format : Fin 8
  lanes : Fin 4
  rate : Fin 4
  interlaced : Bool
  matrix : Nat
  fullRange : Bool
  deriving DecidableEq, Repr

/-- A line a DisplayPort input captures (R438 to R440): its number, the time base reading when its first active pixel
arrived, whether it came whole, its samples at `depth` bits, RGB or YCbCr with chroma repeated from co-sited samples. -/
structure LineFacts where
  line : Nat
  reading : Nat
  whole : Bool
  rgb : Bool
  depth : Fin 11
  pixels : List (Nat × Nat × Nat)
  deriving DecidableEq, Repr

/-- A request of one 64-byte access as it reaches a DRAM channel (R612, R618): the requester's port number and its fault
source (one that names no block for the host), the device address, the class (0 Scan-out, 1 Real-time pixel, 2 Bulk,
3 Maintenance), NO_BREAK, of a write its 64 bytes, and the writer in the bit order of DRAM_FENCE_WRITERS. -/
structure DramAsk where
  port : Nat
  source : BitVec 10
  addr : BitVec 40
  cls : Fin 4
  noBreak : Bool
  write : Option (List Byte)
  writer : Fin 7
  deriving DecidableEq, Repr

/-- How far the start of a DRAM channel has come (R634): step 1 done, step 2 done, step 2 failed. -/
inductive DramTrain where
  | initialised
  | trained
  | failed
  deriving DecidableEq, Repr

/-- MR4 of one die: its byte and the refresh rate it calls for, 0 for 1×, 1 for 2×, 2 above 2× or the limit of the die
(R620 to R622). -/
structure DieMr4 where
  value : Byte
  rate : Fin 3
  deriving DecidableEq, Repr

/-- A BAR 0 access of another width or alignment than a naturally aligned word (R5): address, bytes, direction. -/
structure BadAsk where
  addr : BitVec 24
  bytes : Nat
  write : Bool
  deriving DecidableEq, Repr

/-- A request of the host to BAR 2 (R515 to R517): offset in the window, the bytes it writes or their number read, and
the places of the bytes that its byte enables leave out of a write (R516). -/
structure BarAsk where
  off : BitVec 26
  write : Option (List Byte)
  len : Nat
  skip : List Nat := []
  deriving DecidableEq, Repr

/-- What a release of a domain meets (R645): the load attempts that find no flash (R656), the image slots in which the
flash gives a read error (R380), the density and the rank count of the dies by MR8 (R660). -/
structure ReleaseFacts where
  absent : List (Fin 3)
  readErrors : List (Fin 6)
  density : Fin 4
  twoRanks : Bool
  deriving DecidableEq, Repr

/-- A page with a shadow set and a shadow control register (R543, R544): a context, a compositor, a DMA channel. -/
inductive ShadowPage where
  | ctx (c : Fin 256)
  | comp (n : Fin 8)
  | dma (c : Fin 32)
  deriving DecidableEq, Repr

/-- A PCI Express configuration request to function 0 (R648): the dword of configuration space; the value written and its
byte enables. -/
structure ConfigAsk where
  dword : BitVec 10
  write : Option (Word × BitVec 4)
  deriving DecidableEq, Repr

/-- A boundary-scan instruction (R675): the levels it drives onto balls, by number (none for a sample), and the scan cells
it shifts out. -/
structure ScanAsk where
  drive : List (Nat × Bool)
  cells : Nat
  deriving DecidableEq, Repr

/-- An engine-debug access (R675): a Pixel Engine or a Cue Engine, the register examined (its word address for none),
whether the engine is to go on. -/
structure DebugAsk where
  ce : Bool
  n : Fin 96
  look : Option (Fin 32)
  resume : Bool
  deriving DecidableEq, Repr

/-- The commands of the block: the rows of the table of operations and events, in its order, each with its mnemonic and
the rule that gives it. -/
inductive Instr where
  /-- REGISTER_WRITE (R10) -/
  | registerWrite (w : Writer) (a : BitVec 24) (v : Word)
  /-- RC_REGISTER_READ (R10) -/
  | rcRegisterRead (w : Writer) (a : BitVec 24)
  /-- LOW_WORD_READ (R7) -/
  | lowWordRead (w : Writer) (a : BitVec 24)
  /-- BAR0_BAD_ACCESS (R5) -/
  | bar0BadAccess (q : BadAsk)
  /-- SHEET_COMMIT (R72) -/
  | sheetCommit (c : Nat)
  /-- CELL_FIRST_LINE_CHECK (R75) -/
  | cellFirstLineCheck (n : Fin 8) (i : Fin 16) (cell : Nat)
  /-- FRESH_MAP_WRITE (R89) -/
  | freshMapWrite (c : Nat) (port : Nat)
  /-- FRESH_MAP_TIMER (R91) -/
  | freshMapTimer (c : Nat)
  /-- HELLO_RX (R145) -/
  | helloRx (ms : List NetMsg)
  /-- HELLO_ACK_RX (R151) -/
  | helloAckRx (m : NetMsg)
  /-- REFUSE_RX (R151) -/
  | refuseRx (m : NetMsg)
  /-- KEEPALIVE_RX (R148) -/
  | keepaliveRx (m : NetMsg)
  /-- KEEPALIVE_ACK_RX (R153) -/
  | keepaliveAckRx (m : NetMsg)
  /-- REFRESH_REQ_RX (R157) -/
  | refreshReqRx (m : NetMsg)
  /-- REFRESH_ACK_RX (R156) -/
  | refreshAckRx (m : NetMsg)
  /-- UPDATE_RX (R159) -/
  | updateRx (m : NetMsg)
  /-- UPDATE_ACK_RX (R161) -/
  | updateAckRx (m : NetMsg)
  /-- BYE_RX (R148) -/
  | byeRx (m : NetMsg)
  /-- HELLO_RETRY_TIMEOUT (R151) -/
  | helloRetryTimeout (c : Nat)
  /-- BACKOFF_EXPIRY (R151) -/
  | backoffExpiry (c : Nat)
  /-- REFUSED_EXPIRY (R151) -/
  | refusedExpiry (c : Nat)
  /-- KEEPALIVE_TIMER (R151) -/
  | keepaliveTimer (c : Nat)
  /-- ENC_SESSION_TIMEOUT (R148) -/
  | encSessionTimeout (c : Nat) (id : Nat) (src : Nat)
  /-- REFRESH_HOLDOFF_EXPIRY (R155) -/
  | refreshHoldoffExpiry (c : Nat)
  /-- REFRESH_REQ_RESEND (R156) -/
  | refreshReqResend (c : Nat)
  /-- UPDATE_RESEND (R161) -/
  | updateResend (c : Nat) (id : Nat) (src : Nat)
  /-- SESSION_MSG_RESOLVED (R812) -/
  | sessionMsgResolved (port : Nat) (addr : Nat) (mac : Nat)
  /-- ARP_WAIT_EXPIRY (R812) -/
  | arpWaitExpiry (port : Nat) (addr : Nat)
  /-- SESS_CTRL_WRITE (R165) -/
  | sessCtrlWrite (c : Nat) (v : Word)
  /-- SESS_TIMING_WRITE (R166) -/
  | sessTimingWrite (c : Nat) (v : Word)
  /-- ENC_PICTURE_START (R186) -/
  | encPictureStart (c : Nat) (pfx : List Byte) (hooks : List (Option Nat))
  /-- ROW_SEND (R208) -/
  | rowSend (c : Nat) (row : Nat) (hooks : List (Option Nat))
  /-- ECHO_ROW_CHECK (R212) -/
  | echoRowCheck (c : Nat) (sl : Nat) (diffs : List SampleDiff)
  /-- ENC_PICTURE_COMPLETE (R234) -/
  | encPictureComplete (c : Nat) (sfx : List Byte) (hooks : List (Option Nat)) (digest : Word)
  /-- CTX_ENABLE (R218) -/
  | ctxEnable (c : Nat)
  /-- CTX_STOP (R307) -/
  | ctxStop (c : Nat)
  /-- CTX_HALT (R218) -/
  | ctxHalt (c : Nat)
  /-- DEC_PACKET_RX (R274) -/
  | decPacketRx (c : Nat) (p : RtpPacket)
  /-- LOSS_WAIT_EXPIRY (R274) -/
  | lossWaitExpiry (c : Nat)
  /-- DEC_PICTURE_START (R298) -/
  | decPictureStart (c : Nat)
  /-- DEC_PICTURE_COMPLETE (R280) -/
  | decPictureComplete (c : Nat)
  /-- LEDGER_UPDATE (R325) -/
  | ledgerUpdate (f : LedgerFacts)
  /-- ADMISSION_DECIDE (R342) -/
  | admissionDecide
  /-- CTX_WORK_MEASURE (R334) -/
  | ctxWorkMeasure (c : Nat) (samples : Nat) (exact : Nat)
  /-- ROW_JOB_PLACE (R322) -/
  | rowJobPlace (c : Nat) (row : Nat) (tile : Nat) (kind : JobKind)
  /-- CTU_START (R317) -/
  | ctuStart (b : Fin 12) (d : PxDispatch) (f : CtuFacts)
  /-- ROW_JOB_COMPLETE (R316) -/
  | rowJobComplete (b : Fin 12) (c : Nat) (row : Nat) (tile : Nat) (kind : JobKind) (e : JobEnd)
  /-- ENTROPY_SEGMENT_START (R320) -/
  | entropySegmentStart (c : Nat)
  /-- PX_NANO (R355) -/
  | pxNano (n : Fin 96)
  /-- PX_IMM_LO (R355) -/
  | pxImmLo (n : Fin 96)
  /-- PX_IMM_HI (R355) -/
  | pxImmHi (n : Fin 96)
  /-- PX_LOOP (R355) -/
  | pxLoop (n : Fin 96)
  /-- PX_JUMP (R355) -/
  | pxJump (n : Fin 96)
  /-- PX_CALL (R355) -/
  | pxCall (n : Fin 96)
  /-- PX_LOOPBACK (R355) -/
  | pxLoopback (n : Fin 96)
  /-- PX_RETURN (R355) -/
  | pxReturn (n : Fin 96)
  /-- PX_END (R355) -/
  | pxEnd (n : Fin 96)
  /-- PX_WAIT (R355) -/
  | pxWait (n : Fin 96)
  /-- PX_WAIT_WAKE (R355) -/
  | pxWaitWake (n : Fin 96) (e : Fin 4)
  /-- PX_BREAK (R355) -/
  | pxBreak (n : Fin 96)
  /-- CE_ADD (R363) -/
  | ceAdd (n : Fin 16)
  /-- CE_SUB (R363) -/
  | ceSub (n : Fin 16)
  /-- CE_AND (R363) -/
  | ceAnd (n : Fin 16)
  /-- CE_OR (R363) -/
  | ceOr (n : Fin 16)
  /-- CE_XOR (R363) -/
  | ceXor (n : Fin 16)
  /-- CE_SHL (R363) -/
  | ceShl (n : Fin 16)
  /-- CE_SHR (R363) -/
  | ceShr (n : Fin 16)
  /-- CE_SAR (R363) -/
  | ceSar (n : Fin 16)
  /-- CE_MUL (R363) -/
  | ceMul (n : Fin 16)
  /-- CE_MULH (R363) -/
  | ceMulh (n : Fin 16)
  /-- CE_MIN (R363) -/
  | ceMin (n : Fin 16)
  /-- CE_MAX (R363) -/
  | ceMax (n : Fin 16)
  /-- CE_CMP (R363) -/
  | ceCmp (n : Fin 16)
  /-- CE_BFX (R363) -/
  | ceBfx (n : Fin 16)
  /-- CE_BFI (R363) -/
  | ceBfi (n : Fin 16)
  /-- CE_CLZ (R363) -/
  | ceClz (n : Fin 16)
  /-- CE_ADDI (R363) -/
  | ceAddi (n : Fin 16)
  /-- CE_ANDI (R363) -/
  | ceAndi (n : Fin 16)
  /-- CE_ORI (R363) -/
  | ceOri (n : Fin 16)
  /-- CE_XORI (R363) -/
  | ceXori (n : Fin 16)
  /-- CE_SHLI (R363) -/
  | ceShli (n : Fin 16)
  /-- CE_SHRI (R363) -/
  | ceShri (n : Fin 16)
  /-- CE_LI (R363) -/
  | ceLi (n : Fin 16)
  /-- CE_LUI (R363) -/
  | ceLui (n : Fin 16)
  /-- CE_LD (R363) -/
  | ceLd (n : Fin 16)
  /-- CE_ST (R363) -/
  | ceSt (n : Fin 16)
  /-- CE_LDC (R363) -/
  | ceLdc (n : Fin 16)
  /-- CE_STC (R363) -/
  | ceStc (n : Fin 16)
  /-- CE_LDH (R363) -/
  | ceLdh (n : Fin 16)
  /-- CE_STH (R363) -/
  | ceSth (n : Fin 16)
  /-- CE_JMP (R363) -/
  | ceJmp (n : Fin 16)
  /-- CE_CALL (R365) -/
  | ceCall (n : Fin 16)
  /-- CE_RET (R363) -/
  | ceRet (n : Fin 16)
  /-- CE_BR (R363) -/
  | ceBr (n : Fin 16)
  /-- CE_BZ (R363) -/
  | ceBz (n : Fin 16)
  /-- CE_BNZ (R363) -/
  | ceBnz (n : Fin 16)
  /-- CE_RETI (R368) -/
  | ceReti (n : Fin 16)
  /-- CE_HDR (R364) -/
  | ceHdr (n : Fin 16)
  /-- CE_CUE (R363) -/
  | ceCue (n : Fin 16)
  /-- CE_PGET (R363) -/
  | cePget (n : Fin 16) (asks : List PoolAsk)
  /-- CE_PPUT (R363) -/
  | cePput (n : Fin 16)
  /-- CE_TALLY (R363) -/
  | ceTally (n : Fin 16)
  /-- CE_LANE (R363) -/
  | ceLane (n : Fin 16)
  /-- CE_BAYJOB (R363) -/
  | ceBayjob (n : Fin 16)
  /-- CE_CVU (R363) -/
  | ceCvu (n : Fin 16)
  /-- CE_TIME (R363) -/
  | ceTime (n : Fin 16)
  /-- CE_BREAK (R363) -/
  | ceBreak (n : Fin 16)
  /-- CE_CUE_DISPATCH (R366) -/
  | ceCueDispatch (n : Fin 16)
  /-- STORE_RELOAD (R393) -/
  | storeReload (k : Fin 3) (i : Fin 96) (errs : List (Fin 6))
  /-- SCRUB_READ (R396) -/
  | scrubRead (k : Fin 3) (i : Fin 96) (a : BitVec 13) (served : Bool)
  /-- UC_DEBUG_READ (R400) -/
  | ucDebugRead (ce : Bool) (n : Fin 96) (v : Word)
  /-- DP_OUT_ENABLE (R408) -/
  | dpOutEnable (n : Fin 8)
  /-- DP_OUT_HPD_HIGH (R408) -/
  | dpOutHpdHigh (n : Fin 8)
  /-- DP_OUT_TRAINING_COMPLETE (R406) -/
  | dpOutTrainingComplete (n : Fin 8) (ok : List (Nat × Nat))
  /-- DP_OUT_LINK_LOSS (R407) -/
  | dpOutLinkLoss (n : Fin 8) (low : Bool)
  /-- DP_OUT_STOP (R408) -/
  | dpOutStop (n : Fin 8)
  /-- DP_OUT_HALT (R408) -/
  | dpOutHalt (n : Fin 8)
  /-- AUX_TRANSACTION (R410) -/
  | auxTransaction (n : Fin 8) (v : Word)
  /-- AUX_REPLY (R410) -/
  | auxReply (n : Fin 8) (r : AuxReply)
  /-- AUX_TIMEOUT (R410) -/
  | auxTimeout (n : Fin 8)
  /-- DP_OUT_FRAME_START (R413) -/
  | dpOutFrameStart (n : Fin 8) (reading : Nat)
  /-- FOLLOW_SHEET_TIMEOUT (R414) -/
  | followSheetTimeout (n : Fin 8)
  /-- SCANOUT_UNDERRUN (R430) -/
  | scanoutUnderrun (n : Fin 8) (at_ : List (Nat × Nat))
  /-- CELL_VERIFY (R433) -/
  | cellVerify (n : Fin 8) (i : Fin 16) (cell : Nat)
  /-- LINK_CRC_COMPARE (R434) -/
  | linkCrcCompare (n : Fin 8) (f : LinkCrc)
  /-- DP_IN_ENABLE (R436) -/
  | dpInEnable (n : Fin 4)
  /-- DP_IN_LOCK (R437) -/
  | dpInLock (n : Fin 4) (f : SinkLock)
  /-- DP_IN_LOCK_LOSS (R437) -/
  | dpInLockLoss (n : Fin 4)
  /-- DP_IN_LINE_CAPTURE (R438) -/
  | dpInLineCapture (n : Fin 4) (f : LineFacts)
  /-- DP_IN_FRAME_COMPLETE (R442) -/
  | dpInFrameComplete (n : Fin 4)
  /-- DP_IN_STOP (R436) -/
  | dpInStop (n : Fin 4)
  /-- NET_ENABLE (R455) -/
  | netEnable (p : Fin 4)
  /-- NET_LINK_UP (R454) -/
  | netLinkUp (p : Fin 4)
  /-- NET_LINK_DOWN (R454) -/
  | netLinkDown (p : Fin 4) (block : Bool) (fec : Bool)
  /-- NET_STOP (R455) -/
  | netStop (p : Fin 4)
  /-- NET_HALT (R455) -/
  | netHalt (p : Fin 4)
  /-- NET_FRAME_RX (R457) -/
  | netFrameRx (fs : List PortFrame)
  /-- EGRESS_FRAME_SEND (R490) -/
  | egressFrameSend (p : Fin 4)
  /-- FLOW_READ (R464) -/
  | flowRead (f : Fin 256)
  /-- FLOW_WRITE_NEW (R464) -/
  | flowWriteNew (f : Fin 256)
  /-- FLOW_UPDATE (R464) -/
  | flowUpdate (f : Fin 256)
  /-- FLOW_INVALIDATE (R464) -/
  | flowInvalidate (f : Fin 256)
  /-- SHQ_WRITE (R492) -/
  | shqWrite (q : Fin 256) (rate : Bool) (v : Word)
  /-- POLICER_WRITE (R497) -/
  | policerWrite (which : Fin 5) (v : Word)
  /-- LAT_SAMPLE (R498) -/
  | latSample
  /-- LAT_SNAPSHOT (R499) -/
  | latSnapshot (v : Word)
  /-- LAT_CTRL_WRITE (R500) -/
  | latCtrlWrite (v : Word)
  /-- TIME_OFFSET_SAMPLE (R477) -/
  | timeOffsetSample (v : Word)
  /-- SAMPLE_TIMEOUT (R478) -/
  | sampleTimeout
  /-- TIME_STEP (R484) -/
  | timeStep (v : Word)
  /-- TIME_INCR_WRITE (R480) -/
  | timeIncrWrite (v : Word)
  /-- TIME_MAX_ADJ_WRITE (R480) -/
  | timeMaxAdjWrite (v : Word)
  /-- TIME_CTRL_WRITE (R478) -/
  | timeCtrlWrite (v : Word)
  /-- TIME_NOW_READ (R486) -/
  | timeNowRead
  /-- PPS_OUT_PULSE (R488) -/
  | ppsOutPulse
  /-- PPS_IN_EDGE (R488) -/
  | ppsInEdge (t : Nat)
  /-- PPS_IN_READ (R488) -/
  | ppsInRead
  /-- BAR2_ACCESS (R517) -/
  | bar2Access (q : BarAsk)
  /-- WIN_BASE_WRITE (R515) -/
  | winBaseWrite (v : Word)
  /-- POISONED_REQUEST (R512) -/
  | poisonedRequest
  /-- BUS_MASTER_RESUME (R513) -/
  | busMasterResume
  /-- DOORBELL_WRITE (R521) -/
  | doorbellWrite (q : Fin 16) (v : Word)
  /-- CMD_FETCH (R518) -/
  | cmdFetch
  /-- NOP (R523) -/
  | nop (q : Fin 16)
  /-- FLOW_CMD (R523) -/
  | flowCmd (q : Fin 16) (fault : Bool)
  /-- SDP_APPLY (R523) -/
  | sdpApply (q : Fin 16) (fault : Bool)
  /-- PTP_CONFIG (R523) -/
  | ptpConfig (q : Fin 16)
  /-- HOST_FLASH_READ (R523) -/
  | hostFlashRead (q : Fin 16) (fault : Bool)
  /-- HOST_FLASH_WRITE (R523) -/
  | hostFlashWrite (q : Fin 16) (fault : Bool)
  /-- TALLY_COUNT_WRITE (R526) -/
  | tallyCountWrite (q : Fin 16)
  /-- TALLY_ACK_WRITE (R528) -/
  | tallyAckWrite (q : Fin 16) (v : Word)
  /-- TALLY_ENABLE (R550) -/
  | tallyEnable (q : Fin 16)
  /-- TALLY_DISABLE (R551) -/
  | tallyDisable (q : Fin 16)
  /-- CMD_ENABLE (R550) -/
  | cmdEnable (q : Fin 16)
  /-- CMD_DISABLE (R551) -/
  | cmdDisable (q : Fin 16)
  /-- DMA_ENABLE (R539) -/
  | dmaEnable (c : Fin 32)
  /-- DMA_DESC_FETCH (R539) -/
  | dmaDescFetch (c : Fin 32)
  /-- DMA_DESC_MOVE_DONE (R533) -/
  | dmaDescMoveDone (c : Fin 32)
  /-- DMA_STOP (R540) -/
  | dmaStop (c : Fin 32)
  /-- DMA_HALT (R541) -/
  | dmaHalt (c : Fin 32)
  /-- DMA_PACE_RESUME (R542) -/
  | dmaPaceResume (c : Fin 32)
  /-- TARGET_TIMEOUT (R537) -/
  | targetTimeout (c : Fin 32)
  /-- SHADOW_ARM (R546) -/
  | shadowArm (p : ShadowPage)
  /-- SHADOW_DISARM (R544) -/
  | shadowDisarm (p : ShadowPage)
  /-- HANDOVER (R545) -/
  | handover (p : ShadowPage)
  /-- CUEX_DOORBELL (R562) -/
  | cuexDoorbell (v : Word)
  /-- CUEX_POST (R562) -/
  | cuexPost (w : Writer) (v : Word)
  /-- CUEX_CONSUME (R564) -/
  | cuexConsume (w : Writer) (v : Word)
  /-- CUEX_ACK (R568) -/
  | cuexAck (w : Writer) (t : Fin 20) (v : Word) (same : List CuexSame)
  /-- CUEX_COMPLETE (R570) -/
  | cuexComplete (w : Writer) (t : Fin 20) (v : Word)
  /-- CUEX_SLEEP (R573) -/
  | cuexSleep (w : Writer) (t : Fin 20) (v : Word)
  /-- TARGET_WAKE (R574) -/
  | targetWake (t : Fin 20)
  /-- CUEX_ROUTE_WRITE (R575) -/
  | cuexRouteWrite (w : Writer) (k : Fin 512) (v : Word) (same : List CuexSame)
  /-- HOLDOFF_EXPIRY (R571) -/
  | holdoffExpiry (t : Fin 20) (g : Fin 32)
  /-- POOL_REQUEST (R585) -/
  | poolRequest (refs : List (Bool × PoolRefAsk)) (asks : List PoolAsk)
  /-- POOL_REF_INCREMENT (R588) -/
  | poolRefIncrement (cs : List PoolRefAsk)
  /-- POOL_REF_DECREMENT (R588) -/
  | poolRefDecrement (cs : List PoolRefAsk)
  /-- POOL_ENABLE (R813) -/
  | poolEnable
  /-- POOL_STOP (R813) -/
  | poolStop
  /-- POOL_HALT (R813) -/
  | poolHalt (asks : List PoolAsk) (refs : List (Fin 64))
  /-- FIFO_PUSH (R593) -/
  | fifoPush (f : Fin 16) (v : Word)
  /-- FIFO_POP (R593) -/
  | fifoPop (f : Fin 16) (same : Option Word)
  /-- FIFO_CFG_WRITE (R597) -/
  | fifoCfgWrite (f : Fin 16) (v : Word)
  /-- BOUNDARY_OVERRUN (R596) -/
  | boundaryOverrun (d : Nat)
  /-- CVU_JOB_POST (R603) -/
  | cvuJobPost (posts : List CvuPost)
  /-- CVU_JOB_RUN (R600) -/
  | cvuJobRun (c : Fin 16)
  /-- CVU_COUNTER_CFG_WRITE (R603) -/
  | cvuCounterCfgWrite (w : Writer) (c : Fin 16) (v : Word)
  /-- DRAM_REQUEST_ACCEPT (R612) -/
  | dramRequestAccept (n : Fin 4) (qs : List DramAsk)
  /-- DRAM_ISSUE (R614) -/
  | dramIssue (n : Fin 4) (sub : Fin 2) (d1 : Bool) (d2 : Bool)
  /-- REFRESH_DUE (R618) -/
  | refreshDue (n : Fin 4) (sub : Fin 2)
  /-- MR4_POLL (R620) -/
  | mr4Poll (n : Fin 4) (dies : List DieMr4)
  /-- RETRAIN_PAUSE (R626) -/
  | retrainPause (n : Fin 4) (drift : Bool)
  /-- FULL_RETRAIN_DONE (R627) -/
  | fullRetrainDone (n : Fin 4) (ok : Bool)
  /-- DRAM_TRAINING_DONE (R634) -/
  | dramTrainingDone (n : Fin 4) (t : DramTrain)
  /-- DRAM_STOP (R634) -/
  | dramStop (n : Fin 4)
  /-- DRAM_HALT (R634) -/
  | dramHalt (n : Fin 4)
  /-- DRAM_ENABLE (R634) -/
  | dramEnable (n : Fin 4)
  /-- COMPRESSION_RATIO_UPDATE (R630) -/
  | compressionRatioUpdate
  /-- SUPPLY_RAMP_DONE (R790) -/
  | supplyRampDone
  /-- SUPPLY_DIP (R791) -/
  | supplyDip
  /-- SUPPLY_REMOVE (R792) -/
  | supplyRemove
  /-- RST_N_ASSERT (R641) -/
  | rstNAssert
  /-- RST_N_RELEASE (R641) -/
  | rstNRelease
  /-- PERST_N_ASSERT (R641) -/
  | perstNAssert
  /-- PERST_N_RELEASE (R641) -/
  | perstNRelease
  /-- PROMPTER_WATCHDOG (R642) -/
  | prompterWatchdog
  /-- PROMPTER_LOCKSTEP (R642) -/
  | prompterLockstep
  /-- SM_WATCHDOG (R643) -/
  | smWatchdog
  /-- RESET_PWD_KICK (R642) -/
  | resetPwdKick (w : Writer) (v : Word)
  /-- RESET_SMWD_KICK (R643) -/
  | resetSmwdKick (w : Writer) (v : Word)
  /-- SOFT_FULL (R640) -/
  | softFull (w : Writer)
  /-- SM_RESET (R640) -/
  | smReset (w : Writer)
  /-- RESET_PULSE_END (R641) -/
  | resetPulseEnd (which : BitVec 9)
  /-- DOMAIN_RELEASE (R645) -/
  | domainRelease (f : ReleaseFacts)
  /-- SW_RESET (R649) -/
  | swReset (w : Writer) (page : Nat)
  /-- BLOCK_RESET_RELEASE (R649) -/
  | blockResetRelease (page : Nat)
  /-- PROMPT_CALL_POST (R670) -/
  | promptCallPost (w : Writer) (n : Fin 4) (v : Word)
  /-- BLOCK_RESET (R673) -/
  | blockReset
  /-- SOFT_RESET (R673) -/
  | softReset
  /-- SET_OWNER (R673) -/
  | setOwner
  /-- SET_SEVERITY (R673) -/
  | setSeverity
  /-- SET_LEDGER (R673) -/
  | setLedger
  /-- SET_FENCE (R673) -/
  | setFence
  /-- SET_CVU_OWNER (R673) -/
  | setCvuOwner
  /-- PC_FLASH_READ (R673) -/
  | pcFlashRead (bad : Bool)
  /-- PC_FLASH_WRITE (R673) -/
  | pcFlashWrite
  /-- OTP_ENROL (R673) -/
  | otpEnrol (fail : Option (Nat × Byte))
  /-- OTP_REVOKE (R673) -/
  | otpRevoke (fail : Option (Nat × Byte))
  /-- OTP_RAISE_VERSION (R673) -/
  | otpRaiseVersion (fail : Option (Nat × Byte))
  /-- SET_DEBUG (R673) -/
  | setDebug
  /-- HOUSE_RATE_ALTERNATE (R677) -/
  | houseRateAlternate
  /-- HOUSE_GROUP_CLAIM (R677) -/
  | houseGroupClaim (heard : Bool)
  /-- FAULT_TAKE (R686) -/
  | faultTake
  /-- GLT_TOGGLE (R703) -/
  | gltToggle
  /-- FAULT_HEARTBEAT (R704) -/
  | faultHeartbeat (w : Writer) (v : Word)
  /-- HEARTBEAT_TIMEOUT (R704) -/
  | heartbeatTimeout
  /-- BLK_FORCE_RAISE (R705) -/
  | blkForceRaise (w : Writer) (page : Nat) (v : Word)
  /-- FAULT_CLEAR_FIRST (R700) -/
  | faultClearFirst
  /-- FAULT_CLEAR_STOP_RECORD (R701) -/
  | faultClearStopRecord
  /-- REH_BAY (R710) -/
  | rehBay (w : Writer) (b : Fin 16)
  /-- REH_FULL (R711) -/
  | rehFull (w : Writer)
  /-- REH_RUN (R713) -/
  | rehRun (v : Word)
  /-- REH_DRAIN_DONE (R710) -/
  | rehDrainDone
  /-- REH_BIST_DONE (R710) -/
  | rehBistDone (sigs : List Nat)
  /-- AVS_READBACK (R718) -/
  | avsReadback (ack : Bool) (vout : Option (BitVec 10))
  /-- AVS_RETRY (R718) -/
  | avsRetry
  /-- JOURNAL_WEEK_END (R719) -/
  | journalWeekEnd (ok : Bool)
  /-- JOURNAL_RETRY (R721) -/
  | journalRetry (ok : Bool)
  /-- PAIR_HELLO_TIMER (R733) -/
  | pairHelloTimer
  /-- PAIR_HELLO_RX (R728) -/
  | pairHelloRx (b : List Byte) (t : Nat)
  /-- PAIR_HEARTBEAT_TIMER (R734) -/
  | pairHeartbeatTimer
  /-- PAIR_HEARTBEAT_RX (R738) -/
  | pairHeartbeatRx (b : List Byte) (t : Nat)
  /-- HEARTBEAT_LOSS (R735) -/
  | heartbeatLoss
  /-- GLT_PEER_EDGE (R735) -/
  | gltPeerEdge
  /-- PEER_GLT_SILENT (R735) -/
  | peerGltSilent
  /-- PAIR_LANE_LOSS (R737) -/
  | pairLaneLoss (lane : Bool)
  /-- PAIR_BLOCK_LOCK (R735) -/
  | pairBlockLock (lane : Bool)
  /-- PAIR_LOCK_LOSS (R735) -/
  | pairLockLoss
  /-- PAIR_FRAME_WAIT_EXPIRY (R729) -/
  | pairFrameWaitExpiry
  /-- XCHECK_RX (R747) -/
  | xcheckRx (b : List Byte) (t : Nat)
  /-- XCHECK_WAIT_EXPIRY (R747) -/
  | xcheckWaitExpiry
  /-- PICTURE_RX (R739) -/
  | pictureRx (b : List Byte) (t : Nat)
  /-- DIGEST_RX (R743) -/
  | digestRx (b : List Byte) (t : Nat)
  /-- SESSION_FRAME_RX (R750) -/
  | sessionFrameRx (b : List Byte) (t : Nat)
  /-- SESSION_FRAME_TIMER (R750) -/
  | sessionFrameTimer
  /-- STATE_RX (R745) -/
  | stateRx (b : List Byte) (t : Nat)
  /-- RESYNC_REQ_RX (R745) -/
  | resyncReqRx (b : List Byte) (t : Nat)
  /-- SWITCH_REQ_RX (R754) -/
  | switchReqRx (b : List Byte) (t : Nat)
  /-- SWITCH_ACK_RX (R754) -/
  | switchAckRx (b : List Byte) (t : Nat)
  /-- SWITCH_REFUSE_RX (R754) -/
  | switchRefuseRx (b : List Byte) (t : Nat)
  /-- PAIR_RESET_RX (R644) -/
  | pairResetRx (b : List Byte) (t : Nat)
  /-- TAKEOVER (R752) -/
  | takeover
  /-- PAIR_SWITCH (R754) -/
  | pairSwitch
  /-- RESET_PEER (R755) -/
  | resetPeer
  /-- SUSPECT_CLEAR (R748) -/
  | suspectClear
  /-- TAP_RESET (R789) -/
  | tapReset
  /-- IDCODE (R797) -/
  | idcode
  /-- BYPASS (R797) -/
  | bypass (n : Nat) (v : Nat)
  /-- SMBUS_REGISTER_READ (R798) -/
  | smbusRegisterRead (cmd : Byte) (off : BitVec 24)
  /-- CONFIG_REQUEST (R648) -/
  | configRequest (q : ConfigAsk)
  /-- PCIE_LINK_UP (R648) -/
  | pcieLinkUp (up : Option (Fin 5 × Fin 9))
  /-- DP_IN_AUX_REQUEST (R435) -/
  | dpInAuxRequest (n : Fin 4) (q : AuxAsk)
  /-- BOUNDARY_SCAN (R675) -/
  | boundaryScan (q : ScanAsk)
  /-- ENGINE_DEBUG (R675) -/
  | engineDebug (q : DebugAsk)
  deriving DecidableEq, Repr

end Sys2Proof
end

