-- ==== Sys2Proof/Machine/Bits.lean ====
section
/-! DEFINITION. Bit fields, byte orders, serial-number order, saturation and the CRC-32C of R51: the arithmetic that
the chapters share. -/

namespace Sys2Proof.Machine

/-- Bits [hi:lo] of a word, as a number (R1). -/
def bits (w : Word) (hi lo : Nat) : Nat := (w.toNat / 2 ^ lo) % 2 ^ (hi - lo + 1)

/-- Bit n of a word. -/
def bit (w : Word) (n : Nat) : Bool := w.toNat / 2 ^ n % 2 == 1

/-- The word with bits [hi:lo] replaced by `v` (its low bits). -/
def putBits (w : Word) (hi lo v : Nat) : Word :=
  BitVec.ofNat 32 (w.toNat - bits w hi lo * 2 ^ lo + (v % 2 ^ (hi - lo + 1)) * 2 ^ lo)

/-- The word with bit n replaced. -/
def putBit (w : Word) (n : Nat) (b : Bool) : Word := putBits w n n (if b then 1 else 0)

/-- Bits [hi:lo] of a number. -/
def nbits (w hi lo : Nat) : Nat := (w / 2 ^ lo) % 2 ^ (hi - lo + 1)

/-- Bit n of a number. -/
def nbit (w n : Nat) : Bool := w / 2 ^ n % 2 == 1

/-- One of a Bool, as a bit. -/
def b2n (b : Bool) : Nat := if b then 1 else 0

/-- R13: sequence number a is later than b, over 2^32; so the later of two items of one source (R23). -/
def later32 (a b : Nat) : Bool :=
  let d := (a + 2 ^ 32 - b % 2 ^ 32) % 2 ^ 32
  Nat.ble 1 d && Nat.ble d 0x7FFFFFFF

/-- The pattern of R13 over 2^16 (R134). -/
def later16 (a b : Nat) : Bool :=
  let d := (a + 2 ^ 16 - b % 2 ^ 16) % 2 ^ 16
  Nat.ble 1 d && Nat.ble d 0x7FFF

/-- A number that stops at 0xFFFF_FFFF, as the counters do (R102, R167 and their like). -/
def sat32 (n : Nat) : Word := BitVec.ofNat 32 (min n 0xFFFFFFFF)

/-- A 32-bit word read as two's complement. -/
def s32 (n : Nat) : Int := if n % 2 ^ 32 < 2 ^ 31 then (n % 2 ^ 32 : Nat) else (n % 2 ^ 32 : Nat) - (2 ^ 32 : Int)

/-- A number of `w` bits read as two's complement. -/
def sx (w n : Nat) : Int := if n % 2 ^ w < 2 ^ (w - 1) then (n % 2 ^ w : Nat) else (n % 2 ^ w : Nat) - ((2 ^ w : Nat) : Int)

/-- An integer as a 32-bit two's complement word. -/
def w32 (i : Int) : Word := BitVec.ofInt 32 i

/-- An integer saturated to 32 signed bits. -/
def satS32 (i : Int) : Word := w32 (max (-2147483648) (min 2147483647 i))

/-- Big-endian number of a byte list (R2: frames, packets, SEI payloads). -/
def beNat (bs : List Byte) : Nat := bs.foldl (fun a b => a * 256 + b.toNat) 0

/-- Little-endian number of a byte list (R2: registers, structures in memory). -/
def leNat (bs : List Byte) : Nat := bs.foldr (fun b a => b.toNat + 256 * a) 0

/-- `n` as `k` bytes, low byte first. -/
def leBytes : Nat → Nat → List Byte
  | 0, _ => []
  | k + 1, n => BitVec.ofNat 8 n :: leBytes k (n / 256)

/-- `n` as `k` bytes, high byte first. -/
def beBytes (k n : Nat) : List Byte := (leBytes k n).reverse

/-- `n` bytes of a list from offset `o`. -/
def sliceB (bs : List Byte) (o n : Nat) : List Byte := (bs.drop o).take n

/-- Big-endian field of `n` bytes at offset `o`. -/
def beAt (bs : List Byte) (o n : Nat) : Nat := beNat (sliceB bs o n)

/-- Little-endian field of `n` bytes at offset `o`. -/
def leAt (bs : List Byte) (o n : Nat) : Nat := leNat (sliceB bs o n)

/-- `n` reversed over `k` bits. -/
def revBits : Nat → Nat → Nat
  | 0, _ => 0
  | k + 1, n => (n % 2) * 2 ^ k + revBits k (n / 2)

/-- One bit of a reflected CRC with reversed polynomial `rpoly`. -/
def crcBitR (rpoly r : Nat) : Nat := if r % 2 == 1 then (r / 2) ^^^ rpoly else r / 2

/-- `n` bits of a reflected CRC. -/
def crcBitsR (rpoly : Nat) : Nat → Nat → Nat
  | 0, r => r
  | k + 1, r => crcBitsR rpoly k (crcBitR rpoly r)

/-- CRC-32C of R51: polynomial 0x1EDC_6F41, reflected in and out, initial value and final XOR all ones. -/
def crc32c (bs : List Byte) : Nat :=
  (bs.foldl (fun r b => crcBitsR 0x82F63B78 8 (r ^^^ b.toNat)) 0xFFFFFFFF) ^^^ 0xFFFFFFFF

/-- Ceiling division. -/
def cdiv (a b : Nat) : Nat := (a + b - 1) / b

/-- Replace entry `i` of a list. -/
def setAt {α : Type} : List α → Nat → α → List α
  | [], _, _ => []
  | _ :: r, 0, v => v :: r
  | a :: r, i + 1, v => a :: setAt r i v

/-- The numbers from `a` on, `n` of them. -/
def rangeFrom (a n : Nat) : List Nat := (List.range n).map (a + ·)

/-- Insert by a key, stably, lowest first. -/
def insertBy {α : Type} (f : α → Nat) (x : α) : List α → List α
  | [] => [x]
  | y :: r => if f x < f y then x :: y :: r else y :: insertBy f x r

/-- Stable sort by a key, lowest first. -/
def sortBy {α : Type} (f : α → Nat) (l : List α) : List α := l.foldl (fun acc x => insertBy f x acc) []

/-- The element of least key, the first of equals. -/
def minBy? {α : Type} (f : α → Nat) : List α → Option α
  | [] => none
  | x :: r => match minBy? f r with
    | none => some x
    | some y => if f y < f x then some y else some x

/-- The sum of a number over a list. -/
def sumOf {α : Type} (f : α → Nat) (l : List α) : Nat := (l.map f).foldl (· + ·) 0

end Sys2Proof.Machine
end

