-- ==== Sys2Proof/Config.lean ====
section
/-! DEFINITION. The constants of one implementation and the free values: what the spec leaves open.  None of them
has a body, so nothing can be proved of their values (each is named in a row of the assumption log). -/

namespace Sys2Proof.Config

/-- A fresh value each time the machine goes on with a value the spec leaves undefined (assumption 2). -/
opaque freeValue : Nat → Word

/-- A byte of a memory region whose content the spec leaves undefined: the region's number, the address (assumption 2). -/
opaque freeByte : Nat → Nat → Byte

/-- The fixed transmitter latency of a DisplayPort output at a trained rate, in ns (DP_OUT_TX_LATENCY, R445; assumption 3). -/
opaque dpTxLatency : Nat → Word

/-- The fixed receiver latency of a DisplayPort input at a trained rate, in ns (DP_IN_RX_LATENCY, R450; assumption 3). -/
opaque dpRxLatency : Nat → Word

/-- A word of the ROM base of a microcode store, by kind (0 PX micro, 1 nano, 2 CE) and address (R385; assumption 11). -/
opaque romWord : Nat → Nat → Nat

/-- One partial-butterfly stage of a transform on a vector of 32 lanes, by TX_OP (R358; assumption 12). -/
opaque txStage : Nat → List Nat → List Nat

/-- A shift by 32 or more, by operation (0 left, 1 right, 2 arithmetic right), value and amount (R358, R363; assumption 12). -/
opaque wideShift : Nat → Word → Word → Word

/-- A lane of a vector operation whose result the spec does not state: operation, the two operands as lane patterns,
lane (R358, R360; assumption 12). -/
opaque laneGap : Nat → List Nat → List Nat → Nat → Nat

/-- Whether the permute unit's rotation moves lanes to higher numbers (R358; assumption 53). -/
opaque rotateUp : Bool

/-- The 16 lanes of 32 bits that two registers of 32 lanes of 16 bits hold as a pair (LANE_FMT 1, R358; assumption 53). -/
opaque pairLanes : List Nat → List Nat → List Nat

/-- Two registers as a pair after 16 lanes of 32 bits are written to them: the registers before, the lanes (LANE_FMT 1,
R358; assumption 53). -/
opaque pairStore : List Nat → List Nat → List Nat → List Nat × List Nat

/-- SHA-384 of a byte string, as its 48 bytes (R379; assumption 13). -/
opaque sha384 : List Byte → List Byte

/-- Whether an ECDSA P-384 signature verifies: public key, hash, signature (R379; assumption 13). -/
opaque ecdsaVerify : List Byte → List Byte → List Byte → Bool

/-- AES-256-GCM decryption: key, initialisation vector, additional data, tag, ciphertext; none where the tag is bad
(R379; assumption 13). -/
opaque aesGcmOpen : List Byte → List Byte → List Byte → List Byte → List Byte → Option (List Byte)

/-- The first 4 KB page of the reference copy of the microcode stores in DRAM (UC_COPY_BASE, R385; assumption 19). -/
opaque copyPage : Nat

/-- The test CRC of DisplayPort over one component of a frame, in raster order (R434; assumption 72). -/
opaque testCrc : List Nat → BitVec 16

/-- What a customer kernel or effect makes of a window pixel: of a free value's number, the entry, the position in the window
(R425; assumption 2). -/
opaque customPixel : Nat → Nat → Nat → Nat → Nat × Nat × Nat

/-- The vendor default of a PX entry (kind 0) or of a CE hook (kind 1), as a word address (R371, R372; assumption 19). -/
opaque vendorDefault : Nat → Nat → Nat

/-- The polarity of C after CMP: whether it is set by a borrow (R363; assumption 12). -/
opaque ceBorrow : Bool

/-- Whether MULH, MIN or MAX, by opcode, reads its operands as signed (R363; assumption 12). -/
opaque ceSigned : Nat → Bool

/-- Whether the register shifts of a Cue Engine take their amount from FN rather than from GB (R362, R363;
assumption 12). -/
opaque ceShiftByFn : Bool

/-- The width of the field of BFX and BFI, from FN and the value of GB (R362, R363; assumption 12). -/
opaque fieldWidth : Nat → Word → Nat

/-- The codings that the encoder tries for a CTU, of what R202 lets its choices depend on: the registers of the context, the
QP, the CTU's address, whether every CU has to be intra, how the slice is coded so far, and the samples of the source, of the
slice as reconstructed so far, of the reference pictures (R195 to R202; assumption 69). -/
opaque codings : List Word → Int → Nat → Bool → List (Nat × CtuCode) → List (Nat → Nat → Nat → Nat) → CtuTrials

/-- The bytes of a NAL unit that goes ahead of the slices, by what it says: 0 VPS, 1 SPS, 2 PPS, 3 buffering period, 4 picture
timing, 5 recovery point SEI message (R179, R204, R228; assumption 69). -/
opaque headBytes : Nat → List Nat → Nat

/-- The most bytes that the NAL unit of a kind takes under a configuration (R237; assumption 69). -/
opaque headMax : Nat → List Nat → Nat

end Sys2Proof.Config
end

