-- ==== Sys2Proof/Machine/Regs.lean ====
section
/-! DEFINITION. The registers of BAR 0: every register's address under the spec's own name, and for each page the
rows of its register tables (offset, repetition, access code, reset value, mask of the bits that are not reserved).
The tables are those of the spec's chapters (R98, R101, R163, R220, R222, R225, R257, R259, R311, R313, R345, R347,
R348, R397, R399, R402, R445, R447, R449, R450, R501 to R507, R549, R552, R580 to R582, R591, R597, R604, R636, R638,
R679, R681, R682, R722 to R724, R757, R778).  A register's key is its BAR 0 offset; where a CTX offset means one
register in an encode context and another in a decode context, the encode meaning has the key 2^24 higher. -/

namespace Sys2Proof.Machine

/-- The access codes of R10. -/
inductive Access where
  | rw | ro | wo | w1c | w1s | rc | rwp
  deriving DecidableEq, Repr

/-- One row of a register table: `count` registers from offset `off`, `stride` apart. -/
structure RegRow where
  off : Nat
  stride : Nat
  count : Nat
  access : Access
  reset : Nat
  mask : Nat
  deriving DecidableEq, Repr

/-- Whether offset `o` of the page is a register of the row. -/
def RegRow.covers (r : RegRow) (o : Nat) : Bool :=
  if r.count ≤ 1 then o == r.off
  else Nat.ble r.off o && (o - r.off) % r.stride == 0 && Nat.blt ((o - r.off) / r.stride) r.count

namespace Reg

/-- R98 -/
def FRESH_CTRL (c : Nat) : Nat := 0x200500 + 0x1000 * c

/-- R98 -/
def FRESH_DEADLINE_EXACT (c : Nat) : Nat := 0x200504 + 0x1000 * c

/-- R98 -/
def FRESH_DEADLINE_LOSSY (c : Nat) : Nat := 0x200508 + 0x1000 * c

/-- R98 -/
def FRESH_RENEWAL (c : Nat) : Nat := 0x20050C + 0x1000 * c

/-- R98 -/
def FRESH_NET_ALLOW (c : Nat) : Nat := 0x200510 + 0x1000 * c

/-- R98 -/
def FRESH_TRANSIT (c : Nat) : Nat := 0x200514 + 0x1000 * c

/-- R98 -/
def FRESH_MAP_BASE_LO (c : Nat) : Nat := 0x200518 + 0x1000 * c

/-- R98 -/
def FRESH_MAP_BASE_HI (c : Nat) : Nat := 0x20051C + 0x1000 * c

/-- R101 -/
def FRESH_STATUS (c : Nat) : Nat := 0x200300 + 0x1000 * c

/-- R101 -/
def FRESH_COUNTS (c : Nat) : Nat := 0x200304 + 0x1000 * c

/-- R101 -/
def FRESH_MAX_AGE (c : Nat) : Nat := 0x200308 + 0x1000 * c

/-- R101 -/
def FRESH_MAP_SEQ (c : Nat) : Nat := 0x20030C + 0x1000 * c

/-- R101 -/
def FRESH_ACCEPTED (c : Nat) : Nat := 0x200310 + 0x1000 * c

/-- R101 -/
def FRESH_REJ_ERROR (c : Nat) : Nat := 0x200314 + 0x1000 * c

/-- R101 -/
def FRESH_REJ_SOURCE (c : Nat) : Nat := 0x200318 + 0x1000 * c

/-- R101 -/
def FRESH_REJ_REF (c : Nat) : Nat := 0x20031C + 0x1000 * c

/-- R101 -/
def FRESH_REJ_CRC (c : Nat) : Nat := 0x200320 + 0x1000 * c

/-- R101 -/
def FRESH_REJ_REPEAT (c : Nat) : Nat := 0x200324 + 0x1000 * c

/-- R101 -/
def FRESH_REJ_TIME (c : Nat) : Nat := 0x200328 + 0x1000 * c

/-- R101 -/
def FRESH_DISCONT (c : Nat) : Nat := 0x20032C + 0x1000 * c

/-- R101 -/
def FRESH_NOT_LATER (c : Nat) : Nat := 0x200330 + 0x1000 * c

/-- R101 -/
def FRESH_STALE_ONSETS (c : Nat) : Nat := 0x200334 + 0x1000 * c

/-- R101 -/
def FRESH_RENEW_LATE (c : Nat) : Nat := 0x200338 + 0x1000 * c

/-- R101 -/
def FRESH_NULL_PICS (c : Nat) : Nat := 0x20033C + 0x1000 * c

/-- R101 -/
def FRESH_CELL_TABLE (c : Nat) : Nat := 0x200340 + 0x1000 * c

/-- R101 -/
def FRESH_CFG_STATUS (c : Nat) : Nat := 0x200344 + 0x1000 * c

/-- R101 -/
def FRESH_MAP_BUF (c : Nat) : Nat := 0x200348 + 0x1000 * c

/-- R101 -/
def FRESH_MAP_ADDR_LO (c : Nat) : Nat := 0x20034C + 0x1000 * c

/-- R101 -/
def FRESH_MAP_ADDR_HI (c : Nat) : Nat := 0x200350 + 0x1000 * c

/-- R163 -/
def SESS_CTRL (c : Nat) : Nat := 0x200380 + 0x1000 * c

/-- R163 -/
def SESS_PEER_PORT (c : Nat) : Nat := 0x200384 + 0x1000 * c

/-- R163 -/
def SESS_PEER_ADDR_0 (c : Nat) : Nat := 0x200388 + 0x1000 * c

/-- R163 -/
def SESS_PEER_ADDR_1 (c : Nat) : Nat := 0x20038C + 0x1000 * c

/-- R163 -/
def SESS_PEER_ADDR_2 (c : Nat) : Nat := 0x200390 + 0x1000 * c

/-- R163 -/
def SESS_PEER_ADDR_3 (c : Nat) : Nat := 0x200394 + 0x1000 * c

/-- R163 -/
def SESS_STREAM_ID (c : Nat) : Nat := 0x200398 + 0x1000 * c

/-- R163 -/
def SESS_TIMING (c : Nat) : Nat := 0x20039C + 0x1000 * c

/-- R163 -/
def SESS_SDP (c : Nat) : Nat := 0x2003A0 + 0x1000 * c

/-- R163 -/
def SESS_STATUS (c : Nat) : Nat := 0x2003C0 + 0x1000 * c

/-- R163 -/
def SESS_LAST_REFUSAL (c : Nat) : Nat := 0x2003C4 + 0x1000 * c

/-- R163 -/
def SESS_PEER_TERMS (c : Nat) : Nat := 0x2003C8 + 0x1000 * c

/-- R163 -/
def SESS_PEER_DEADLINES (c : Nat) : Nat := 0x2003CC + 0x1000 * c

/-- R163 -/
def SESS_REMOTE_STALE (c : Nat) : Nat := 0x2003D0 + 0x1000 * c

/-- R163 -/
def SESS_PEER_OFFSET (c : Nat) : Nat := 0x2003D4 + 0x1000 * c

/-- R163 -/
def SESS_MSG_TX (c : Nat) : Nat := 0x2003D8 + 0x1000 * c

/-- R163 -/
def SESS_MSG_RX (c : Nat) : Nat := 0x2003DC + 0x1000 * c

/-- R163 -/
def SESS_MSG_DROP (c : Nat) : Nat := 0x2003E0 + 0x1000 * c

/-- R163 -/
def SESS_LOSSES (c : Nat) : Nat := 0x2003E4 + 0x1000 * c

/-- R163 -/
def SESS_REFRESH (c : Nat) : Nat := 0x2003E8 + 0x1000 * c

/-- R163 -/
def SHEET_MALFORMED (c : Nat) : Nat := 0x2003EC + 0x1000 * c

/-- R163 -/
def SHEET_GEOM_MISMATCH (c : Nat) : Nat := 0x2003F0 + 0x1000 * c

/-- R163 -/
def SHEET_MISSING (c : Nat) : Nat := 0x2003F4 + 0x1000 * c

/-- R163 -/
def SHEET_SEQ_GAPS (c : Nat) : Nat := 0x2003F8 + 0x1000 * c

/-- R163 -/
def SHEET_IGNORED (c : Nat) : Nat := 0x2003FC + 0x1000 * c

/-- R220 -/
def CONTENT_EXACT : Nat := 0x1D0040

/-- R220 -/
def CONTENT_GRAPHIC : Nat := 0x1D0044

/-- R220 -/
def CONTENT_EDGE : Nat := 0x1D0048

/-- R220 -/
def CONTENT_HOLD : Nat := 0x1D004C

/-- R220 -/
def CONTENT_LOAD : Nat := 0x1D0050

/-- R220 -/
def CONTENT_CTUS : Nat := 0x1D0054

/-- R309 -/
def CTX_STATUS (c : Nat) : Nat := 0x200040 + 0x1000 * c

/-- R222 -/
def CTX_MODE (c : Nat) : Nat := 0x200400 + 0x1000 * c

/-- R222 -/
def ENC_FORMAT (c : Nat) : Nat := 0x1000000 + 0x200404 + 0x1000 * c

/-- R222 -/
def ENC_SIZE (c : Nat) : Nat := 0x1000000 + 0x200408 + 0x1000 * c

/-- R222 -/
def ENC_SOURCE (c : Nat) : Nat := 0x1000000 + 0x20040C + 0x1000 * c

/-- R222 -/
def ENC_REFS (c : Nat) : Nat := 0x1000000 + 0x200410 + 0x1000 * c

/-- R222 -/
def ENC_SEARCH (c : Nat) : Nat := 0x1000000 + 0x200414 + 0x1000 * c

/-- R222 -/
def ENC_REFRESH (c : Nat) : Nat := 0x1000000 + 0x200418 + 0x1000 * c

/-- R222 -/
def ENC_RTP (c : Nat) : Nat := 0x1000000 + 0x20041C + 0x1000 * c

/-- R222 -/
def ENC_SSRC (c : Nat) : Nat := 0x1000000 + 0x200420 + 0x1000 * c

/-- R222 -/
def ENC_RTP_INIT (c : Nat) : Nat := 0x1000000 + 0x200424 + 0x1000 * c

/-- R222 -/
def ENC_RTP_TS_OFFSET (c : Nat) : Nat := 0x1000000 + 0x200428 + 0x1000 * c

/-- R222 -/
def ENC_FLOW (c : Nat) : Nat := 0x1000000 + 0x20042C + 0x1000 * c

/-- R222 -/
def ENC_REGION_MAP_LO (c : Nat) : Nat := 0x1000000 + 0x200430 + 0x1000 * c

/-- R222 -/
def ENC_REGION_MAP_HI (c : Nat) : Nat := 0x1000000 + 0x200434 + 0x1000 * c

/-- R222 -/
def ENC_EXCLUDE_FILL (c : Nat) : Nat := 0x1000000 + 0x200438 + 0x1000 * c

/-- R225 -/
def ENC_STATUS (c : Nat) : Nat := 0x1000000 + 0x200200 + 0x1000 * c

/-- R225 -/
def ENC_CFG_STATUS (c : Nat) : Nat := 0x1000000 + 0x200204 + 0x1000 * c

/-- R225 -/
def ENC_PICS (c : Nat) : Nat := 0x1000000 + 0x200208 + 0x1000 * c

/-- R225 -/
def ENC_SRC_DROPPED (c : Nat) : Nat := 0x1000000 + 0x20020C + 0x1000 * c

/-- R225 -/
def ENC_SRC_REJ (c : Nat) : Nat := 0x1000000 + 0x200210 + 0x1000 * c

/-- R225 -/
def ENC_CTU_UNCHANGED (c : Nat) : Nat := 0x1000000 + 0x200214 + 0x1000 * c

/-- R225 -/
def ENC_CTU_EXACT (c : Nat) : Nat := 0x1000000 + 0x200218 + 0x1000 * c

/-- R225 -/
def ENC_CTU_GRAPHIC (c : Nat) : Nat := 0x1000000 + 0x20021C + 0x1000 * c

/-- R225 -/
def ENC_CTU_NATURAL (c : Nat) : Nat := 0x1000000 + 0x200220 + 0x1000 * c

/-- R225 -/
def ENC_CTU_EXCLUDED (c : Nat) : Nat := 0x1000000 + 0x200224 + 0x1000 * c

/-- R225 -/
def ENC_ECHO_ROW_FAIL (c : Nat) : Nat := 0x1000000 + 0x200228 + 0x1000 * c

/-- R225 -/
def ENC_ECHO_CELL_FAIL (c : Nat) : Nat := 0x1000000 + 0x20022C + 0x1000 * c

/-- R225 -/
def ENC_ECHO_PERSIST (c : Nat) : Nat := 0x1000000 + 0x200230 + 0x1000 * c

/-- R225 -/
def ENC_ECHO_DELAY_MAX (c : Nat) : Nat := 0x1000000 + 0x200234 + 0x1000 * c

/-- R225 -/
def ENC_REFRESH_CELLS (c : Nat) : Nat := 0x1000000 + 0x200238 + 0x1000 * c

/-- R225 -/
def ENC_RTP_LAST (c : Nat) : Nat := 0x1000000 + 0x20023C + 0x1000 * c

/-- R225 -/
def ENC_SRCQ_BASE_LO (c : Nat) : Nat := 0x1000000 + 0x200240 + 0x1000 * c

/-- R225 -/
def ENC_SRCQ_BASE_HI (c : Nat) : Nat := 0x1000000 + 0x200244 + 0x1000 * c

/-- R225 -/
def ENC_SRCQ_SIZE (c : Nat) : Nat := 0x1000000 + 0x200248 + 0x1000 * c

/-- R225 -/
def ENC_SRCQ_TAIL (c : Nat) : Nat := 0x1000000 + 0x20024C + 0x1000 * c

/-- R225 -/
def ENC_SRCQ_HEAD (c : Nat) : Nat := 0x1000000 + 0x200250 + 0x1000 * c

/-- R257 -/
def RC_CTRL (c : Nat) : Nat := 0x1000000 + 0x200440 + 0x1000 * c

/-- R257 -/
def RC_BITRATE (c : Nat) : Nat := 0x1000000 + 0x200444 + 0x1000 * c

/-- R257 -/
def RC_TARGET (c : Nat) : Nat := 0x1000000 + 0x200448 + 0x1000 * c

/-- R257 -/
def RC_CPB_SIZE (c : Nat) : Nat := 0x1000000 + 0x20044C + 0x1000 * c

/-- R257 -/
def RC_INIT_DELAY (c : Nat) : Nat := 0x1000000 + 0x200450 + 0x1000 * c

/-- R257 -/
def RC_ROW (c : Nat) : Nat := 0x1000000 + 0x200454 + 0x1000 * c

/-- R257 -/
def RC_EXACT (c : Nat) : Nat := 0x1000000 + 0x200458 + 0x1000 * c

/-- R257 -/
def RC_LOSSY_FLOOR (c : Nat) : Nat := 0x1000000 + 0x20045C + 0x1000 * c

/-- R259 -/
def RC_STATUS (c : Nat) : Nat := 0x1000000 + 0x200260 + 0x1000 * c

/-- R259 -/
def RC_CPB_FULLNESS (c : Nat) : Nat := 0x1000000 + 0x200264 + 0x1000 * c

/-- R259 -/
def RC_LAST_BITS (c : Nat) : Nat := 0x1000000 + 0x200268 + 0x1000 * c

/-- R259 -/
def RC_LAST_EXACT_BITS (c : Nat) : Nat := 0x1000000 + 0x20026C + 0x1000 * c

/-- R259 -/
def RC_CARRIED_CTUS (c : Nat) : Nat := 0x1000000 + 0x200270 + 0x1000 * c

/-- R259 -/
def RC_CLOSED_PICS (c : Nat) : Nat := 0x1000000 + 0x200274 + 0x1000 * c

/-- R259 -/
def RC_STARVED_PICS (c : Nat) : Nat := 0x1000000 + 0x200278 + 0x1000 * c

/-- R259 -/
def RC_FILLER_BYTES (c : Nat) : Nat := 0x1000000 + 0x20027C + 0x1000 * c

/-- R311 -/
def DEC_LIMITS (c : Nat) : Nat := 0x200404 + 0x1000 * c

/-- R311 -/
def DEC_LEVEL (c : Nat) : Nat := 0x200408 + 0x1000 * c

/-- R311 -/
def DEC_RATE (c : Nat) : Nat := 0x20040C + 0x1000 * c

/-- R311 -/
def DEC_RTP (c : Nat) : Nat := 0x200410 + 0x1000 * c

/-- R311 -/
def DEC_FLOW (c : Nat) : Nat := 0x200414 + 0x1000 * c

/-- R311 -/
def DEC_LOSS (c : Nat) : Nat := 0x200418 + 0x1000 * c

/-- R311 -/
def DEC_CTRL (c : Nat) : Nat := 0x20041C + 0x1000 * c

/-- R313 -/
def DEC_STATUS (c : Nat) : Nat := 0x200200 + 0x1000 * c

/-- R313 -/
def DEC_CFG_STATUS (c : Nat) : Nat := 0x200204 + 0x1000 * c

/-- R313 -/
def DEC_SIZE (c : Nat) : Nat := 0x200208 + 0x1000 * c

/-- R313 -/
def DEC_LAST_ERROR (c : Nat) : Nat := 0x20020C + 0x1000 * c

/-- R313 -/
def DEC_PICS (c : Nat) : Nat := 0x200210 + 0x1000 * c

/-- R313 -/
def DEC_PICS_OUT (c : Nat) : Nat := 0x200214 + 0x1000 * c

/-- R313 -/
def DEC_CTU_DAMAGED (c : Nat) : Nat := 0x200218 + 0x1000 * c

/-- R313 -/
def DEC_CTU_CONCEALED (c : Nat) : Nat := 0x20021C + 0x1000 * c

/-- R313 -/
def DEC_PKT_LOST (c : Nat) : Nat := 0x200220 + 0x1000 * c

/-- R313 -/
def DEC_PKT_LATE (c : Nat) : Nat := 0x200224 + 0x1000 * c

/-- R313 -/
def DEC_PKT_UNSUP (c : Nat) : Nat := 0x200228 + 0x1000 * c

/-- R313 -/
def DEC_PKT_FOREIGN (c : Nat) : Nat := 0x20022C + 0x1000 * c

/-- R313 -/
def DEC_NAL_IGNORED (c : Nat) : Nat := 0x200230 + 0x1000 * c

/-- R313 -/
def DEC_AU_DROPPED (c : Nat) : Nat := 0x200234 + 0x1000 * c

/-- R313 -/
def DEC_PLACEHOLDERS (c : Nat) : Nat := 0x200238 + 0x1000 * c

/-- R313 -/
def DEC_RASL_SKIPPED (c : Nat) : Nat := 0x20023C + 0x1000 * c

/-- R313 -/
def DEC_SKIPPED (c : Nat) : Nat := 0x200240 + 0x1000 * c

/-- R313 -/
def DEC_RECOVERIES (c : Nat) : Nat := 0x200244 + 0x1000 * c

/-- R313 -/
def DEC_OUT_RTP_TS (c : Nat) : Nat := 0x200248 + 0x1000 * c

/-- R345 -/
def LEDGER_CTRL : Nat := 0x7200

/-- R345 -/
def LEDGER_STATUS : Nat := 0x7204

/-- R345 -/
def LEDGER_CAPACITY : Nat := 0x7208

/-- R345 -/
def LEDGER_FLOOR : Nat := 0x720C

/-- R345 -/
def LEDGER_COMMITTED : Nat := 0x7210

/-- R345 -/
def LEDGER_COMMITTED_FULL : Nat := 0x7214

/-- R345 -/
def LEDGER_LIVE_EXACT : Nat := 0x7218

/-- R345 -/
def LEDGER_SEQ : Nat := 0x721C

/-- R345 -/
def LEDGER_EL_CAP : Nat := 0x7220

/-- R345 -/
def LEDGER_EL_COMMITTED : Nat := 0x7224

/-- R345 -/
def LEDGER_MSA_CAP : Nat := 0x7228

/-- R345 -/
def LEDGER_MSA_COMMITTED : Nat := 0x722C

/-- R345 -/
def LEDGER_DRAM_LIMIT : Nat := 0x7230

/-- R345 -/
def LEDGER_DRAM_COMMITTED : Nat := 0x7234

/-- R345 -/
def LEDGER_DRAM_RATIO : Nat := 0x7238

/-- R345 -/
def LEDGER_REFUSALS : Nat := 0x723C

/-- R345 -/
def LEDGER_BAY (i : Nat) : Nat := 0x7240 + 0x4 * i

/-- R347 -/
def CTX_ADMIT_SIZE (c : Nat) : Nat := 0x200280 + 0x1000 * c

/-- R347 -/
def CTX_ADMIT_RATE (c : Nat) : Nat := 0x200284 + 0x1000 * c

/-- R347 -/
def CTX_ADMIT_BITRATE (c : Nat) : Nat := 0x200288 + 0x1000 * c

/-- R347 -/
def CTX_ADMIT_STATUS (c : Nat) : Nat := 0x20028C + 0x1000 * c

/-- R347 -/
def CTX_CHARGE (c : Nat) : Nat := 0x200290 + 0x1000 * c

/-- R347 -/
def CTX_WORK (c : Nat) : Nat := 0x200294 + 0x1000 * c

/-- R347 -/
def CTX_PLACEMENT (c : Nat) : Nat := 0x200298 + 0x1000 * c

/-- R347 -/
def CTX_EL_CHARGE (c : Nat) : Nat := 0x20029C + 0x1000 * c

/-- R347 -/
def CTX_DRAM_CHARGE (c : Nat) : Nat := 0x2002A0 + 0x1000 * c

/-- R348 -/
def BAY_STATUS (n : Nat) : Nat := 0x80040 + 0x1000 * n

/-- R348 -/
def BAY_LOAD (n : Nat) : Nat := 0x80044 + 0x1000 * n

/-- R348 -/
def BAY_JOBS (n : Nat) : Nat := 0x80048 + 0x1000 * n

/-- R348 -/
def BAY_JOB_RERUN (n : Nat) : Nat := 0x8004C + 0x1000 * n

/-- R348 -/
def EL_STATUS (n : Nat) : Nat := 0x1A0040 + 0x1000 * n

/-- R348 -/
def EL_RATE (n : Nat) : Nat := 0x1A0044 + 0x1000 * n

/-- R348 -/
def EL_BINS (n : Nat) : Nat := 0x1A0048 + 0x1000 * n

/-- R348 -/
def MSA_STATUS (n : Nat) : Nat := 0x1C0040 + 0x1000 * n

/-- R348 -/
def MSA_RATE (n : Nat) : Nat := 0x1C0044 + 0x1000 * n

/-- R348 -/
def MSA_COMMITTED (n : Nat) : Nat := 0x1C0048 + 0x1000 * n

/-- R397 -/
def UC_FENCE_PX : Nat := 0x3100

/-- R397 -/
def UC_FENCE_NANO : Nat := 0x3104

/-- R397 -/
def UC_FENCE_CE : Nat := 0x3108

/-- R397 -/
def UC_FENCE_CTRL : Nat := 0x310C

/-- R397 -/
def UC_CUST_SCRATCH : Nat := 0x3110

/-- R397 -/
def UC_CUST_POOL : Nat := 0x3114

/-- R397 -/
def UC_HOOK_LIMIT : Nat := 0x3118

/-- R397 -/
def UC_LOAD_STATUS : Nat := 0x311C

/-- R397 -/
def UC_PATCH_VERSION : Nat := 0x3120

/-- R397 -/
def UC_CUST_VERSION : Nat := 0x3124

/-- R397 -/
def UC_COPY_BASE_LO : Nat := 0x3128

/-- R397 -/
def UC_COPY_BASE_HI : Nat := 0x312C

/-- R397 -/
def UC_COPY_CRC_PX : Nat := 0x3130

/-- R397 -/
def UC_COPY_CRC_NANO : Nat := 0x3134

/-- R397 -/
def UC_COPY_CRC_CE : Nat := 0x3138

/-- R397 -/
def UC_SCRUB_FIXES : Nat := 0x313C

/-- R399 -/
def PX_STATUS (n : Nat) : Nat := 0x100040 + 0x1000 * n

/-- R399 -/
def PX_MCHECK (n : Nat) : Nat := 0x100044 + 0x1000 * n

/-- R399 -/
def PX_UC_ADDR (n : Nat) : Nat := 0x100048 + 0x1000 * n

/-- R399 -/
def PX_UC_STAT (n : Nat) : Nat := 0x10004C + 0x1000 * n

/-- R399 -/
def PX_UC_DATA (n : Nat) (i : Nat) : Nat := 0x100050 + 0x1000 * n + 0x4 * i

/-- R399 -/
def PX_STEPS (n : Nat) : Nat := 0x100070 + 0x1000 * n

/-- R399 -/
def PX_DELAY_CLAMPS (n : Nat) : Nat := 0x100074 + 0x1000 * n

/-- R399 -/
def PX_MCHECKS (n : Nat) : Nat := 0x100078 + 0x1000 * n

/-- R399 -/
def PX_RELOADS (n : Nat) : Nat := 0x10007C + 0x1000 * n

/-- R399 -/
def PX_ABANDONS (n : Nat) : Nat := 0x100080 + 0x1000 * n

/-- R399 -/
def CE_STATUS (n : Nat) : Nat := 0x180040 + 0x1000 * n

/-- R399 -/
def CE_MCHECK (n : Nat) : Nat := 0x180044 + 0x1000 * n

/-- R399 -/
def CE_UC_ADDR (n : Nat) : Nat := 0x180048 + 0x1000 * n

/-- R399 -/
def CE_UC_DATA (n : Nat) : Nat := 0x18004C + 0x1000 * n

/-- R399 -/
def CE_UC_STAT (n : Nat) : Nat := 0x180050 + 0x1000 * n

/-- R399 -/
def CE_BINDING (n : Nat) : Nat := 0x180054 + 0x1000 * n

/-- R399 -/
def CE_YIELD_GAP (n : Nat) : Nat := 0x180058 + 0x1000 * n

/-- R399 -/
def CE_CUES (n : Nat) : Nat := 0x18005C + 0x1000 * n

/-- R399 -/
def CE_RESTARTS (n : Nat) : Nat := 0x180060 + 0x1000 * n

/-- R399 -/
def CE_DELAY_CLAMPS (n : Nat) : Nat := 0x180064 + 0x1000 * n

/-- R399 -/
def CE_MCHECKS (n : Nat) : Nat := 0x180068 + 0x1000 * n

/-- R399 -/
def CE_RELOADS (n : Nat) : Nat := 0x18006C + 0x1000 * n

/-- R399 -/
def CE_ABANDONS (n : Nat) : Nat := 0x180070 + 0x1000 * n

/-- R445 -/
def DP_OUT_CTRL (n : Nat) : Nat := 0x40040 + 0x1000 * n

/-- R445 -/
def DP_OUT_H_TIMING (n : Nat) : Nat := 0x40044 + 0x1000 * n

/-- R445 -/
def DP_OUT_H_SYNC (n : Nat) : Nat := 0x40048 + 0x1000 * n

/-- R445 -/
def DP_OUT_V_TIMING (n : Nat) : Nat := 0x4004C + 0x1000 * n

/-- R445 -/
def DP_OUT_V_SYNC (n : Nat) : Nat := 0x40050 + 0x1000 * n

/-- R445 -/
def DP_OUT_FRAME_PERIOD_LO (n : Nat) : Nat := 0x40054 + 0x1000 * n

/-- R445 -/
def DP_OUT_FRAME_PERIOD_HI (n : Nat) : Nat := 0x40058 + 0x1000 * n

/-- R445 -/
def DP_OUT_LOCK_CTRL (n : Nat) : Nat := 0x4005C + 0x1000 * n

/-- R445 -/
def DP_OUT_FRAME_OFFSET (n : Nat) : Nat := 0x40060 + 0x1000 * n

/-- R445 -/
def DP_OUT_STATUS (n : Nat) : Nat := 0x40064 + 0x1000 * n

/-- R445 -/
def DP_OUT_PHASE_ERR (n : Nat) : Nat := 0x40068 + 0x1000 * n

/-- R445 -/
def DP_OUT_FRAME_COUNT (n : Nat) : Nat := 0x4006C + 0x1000 * n

/-- R445 -/
def DP_OUT_FRAME_TIME_LO (n : Nat) : Nat := 0x40070 + 0x1000 * n

/-- R445 -/
def DP_OUT_FRAME_TIME_HI (n : Nat) : Nat := 0x40074 + 0x1000 * n

/-- R445 -/
def DP_OUT_AUX_CMD (n : Nat) : Nat := 0x40078 + 0x1000 * n

/-- R445 -/
def DP_OUT_AUX_STAT (n : Nat) : Nat := 0x4007C + 0x1000 * n

/-- R445 -/
def DP_OUT_AUX_DATA (n : Nat) (i : Nat) : Nat := 0x40080 + 0x1000 * n + 0x4 * i

/-- R445 -/
def DP_OUT_TX_LATENCY (n : Nat) : Nat := 0x40090 + 0x1000 * n

/-- R445 -/
def DP_OUT_CFG_STATUS (n : Nat) : Nat := 0x40094 + 0x1000 * n

/-- R445 -/
def DP_OUT_LINK_CRC_FAIL (n : Nat) : Nat := 0x40098 + 0x1000 * n

/-- R445 -/
def DP_OUT_RETRAINS (n : Nat) : Nat := 0x4009C + 0x1000 * n

/-- R447 -/
def COMP_CTRL (n : Nat) : Nat := 0x50400 + 0x1000 * n

/-- R447 -/
def COMP_BG (n : Nat) : Nat := 0x50404 + 0x1000 * n

/-- R447 -/
def COMP_HATCH_COLOUR (n : Nat) : Nat := 0x50408 + 0x1000 * n

/-- R447 -/
def WIN_CTRL (n : Nat) (i : Nat) : Nat := 0x50440 + 0x1000 * n + 0x20 * i

/-- R447 -/
def WIN_SRC_POS (n : Nat) (i : Nat) : Nat := 0x50444 + 0x1000 * n + 0x20 * i

/-- R447 -/
def WIN_SRC_SIZE (n : Nat) (i : Nat) : Nat := 0x50448 + 0x1000 * n + 0x20 * i

/-- R447 -/
def WIN_DST_POS (n : Nat) (i : Nat) : Nat := 0x5044C + 0x1000 * n + 0x20 * i

/-- R447 -/
def WIN_DST_SIZE (n : Nat) (i : Nat) : Nat := 0x50450 + 0x1000 * n + 0x20 * i

/-- R447 -/
def WIN_ALPHA (n : Nat) (i : Nat) : Nat := 0x50454 + 0x1000 * n + 0x20 * i

/-- R447 -/
def WIN_COLOUR (n : Nat) (i : Nat) : Nat := 0x50458 + 0x1000 * n + 0x20 * i

/-- R449 -/
def COMP_STATUS (n : Nat) : Nat := 0x50040 + 0x1000 * n

/-- R449 -/
def COMP_CFG_STATUS (n : Nat) : Nat := 0x50044 + 0x1000 * n

/-- R449 -/
def COMP_UNDERRUNS (n : Nat) : Nat := 0x50048 + 0x1000 * n

/-- R449 -/
def COMP_VERIFY_CELLS (n : Nat) : Nat := 0x5004C + 0x1000 * n

/-- R449 -/
def COMP_VERIFY_FAIL (n : Nat) : Nat := 0x50050 + 0x1000 * n

/-- R449 -/
def COMP_VERIFY_SKIPPED (n : Nat) : Nat := 0x50054 + 0x1000 * n

/-- R449 -/
def COMP_FRAME_CRC (n : Nat) : Nat := 0x50058 + 0x1000 * n

/-- R449 -/
def COMP_WIN_STATUS (n : Nat) (i : Nat) : Nat := 0x50080 + 0x1000 * n + 0x4 * i

/-- R450 -/
def DP_IN_CTRL (n : Nat) : Nat := 0x48040 + 0x1000 * n

/-- R450 -/
def DP_IN_STATUS (n : Nat) : Nat := 0x48044 + 0x1000 * n

/-- R450 -/
def DP_IN_ACTIVE (n : Nat) : Nat := 0x48048 + 0x1000 * n

/-- R450 -/
def DP_IN_TOTAL (n : Nat) : Nat := 0x4804C + 0x1000 * n

/-- R450 -/
def DP_IN_FRAME_PERIOD (n : Nat) : Nat := 0x48050 + 0x1000 * n

/-- R450 -/
def DP_IN_LINE_PERIOD (n : Nat) : Nat := 0x48054 + 0x1000 * n

/-- R450 -/
def DP_IN_FRAME_TIME_LO (n : Nat) : Nat := 0x48058 + 0x1000 * n

/-- R450 -/
def DP_IN_FRAME_TIME_HI (n : Nat) : Nat := 0x4805C + 0x1000 * n

/-- R450 -/
def DP_IN_RX_LATENCY (n : Nat) : Nat := 0x48060 + 0x1000 * n

/-- R450 -/
def DP_IN_LOCK_LOSSES (n : Nat) : Nat := 0x48064 + 0x1000 * n

/-- R450 -/
def DP_IN_FRAMES (n : Nat) : Nat := 0x48068 + 0x1000 * n

/-- R450 -/
def DP_IN_FRAMES_DECIMATED (n : Nat) : Nat := 0x4806C + 0x1000 * n

/-- R450 -/
def DP_IN_EDID (n : Nat) (i : Nat) : Nat := 0x48100 + 0x1000 * n + 0x4 * i

/-- R501 -/
def TIME_CTRL : Nat := 0x4040

/-- R501 -/
def TIME_STATUS : Nat := 0x4044

/-- R501 -/
def TIME_NOW_FRAC : Nat := 0x4048

/-- R501 -/
def TIME_NOW_NS : Nat := 0x404C

/-- R501 -/
def TIME_NOW_SEC_LO : Nat := 0x4050

/-- R501 -/
def TIME_NOW_SEC_HI : Nat := 0x4054

/-- R501 -/
def TIME_INCR_FRAC : Nat := 0x4058

/-- R501 -/
def TIME_INCR_NS : Nat := 0x405C

/-- R501 -/
def TIME_STEP_LO : Nat := 0x4060

/-- R501 -/
def TIME_STEP_HI : Nat := 0x4064

/-- R501 -/
def TIME_CMD : Nat := 0x4068

/-- R501 -/
def TIME_JUMP_THRESH : Nat := 0x406C

/-- R501 -/
def TIME_MAX_ADJ : Nat := 0x4070

/-- R501 -/
def TIME_OFFSET_SAMPLE : Nat := 0x4074

/-- R501 -/
def TIME_LOCK_CFG : Nat := 0x4078

/-- R501 -/
def TIME_UNLOCK_CFG : Nat := 0x407C

/-- R501 -/
def TIME_LAST_OFFSET : Nat := 0x4080

/-- R501 -/
def TIME_PPS_IN_NS : Nat := 0x4084

/-- R501 -/
def TIME_PPS_IN_SEC_LO : Nat := 0x4088

/-- R501 -/
def TIME_PPS_IN_SEC_HI : Nat := 0x408C

/-- R501 -/
def TIME_PPS_OUT_CFG : Nat := 0x4090

/-- R501 -/
def TIME_STEPS : Nat := 0x4094

/-- R501 -/
def TIME_JUMPS_REFUSED : Nat := 0x4098

/-- R501 -/
def TIME_LOCK_LOSSES : Nat := 0x409C

/-- R501 -/
def TIME_ADJ_CLAMPS : Nat := 0x40A0

/-- R502 -/
def NET_CTRL (n : Nat) : Nat := 0x30040 + 0x1000 * n

/-- R502 -/
def NET_MTU (n : Nat) : Nat := 0x30044 + 0x1000 * n

/-- R502 -/
def NET_MAC_LO (n : Nat) : Nat := 0x30048 + 0x1000 * n

/-- R502 -/
def NET_MAC_HI (n : Nat) : Nat := 0x3004C + 0x1000 * n

/-- R502 -/
def NET_IPV4 (n : Nat) : Nat := 0x30050 + 0x1000 * n

/-- R502 -/
def NET_IPV4_PREFIX (n : Nat) : Nat := 0x30054 + 0x1000 * n

/-- R502 -/
def NET_IPV6_LL (n : Nat) (i : Nat) : Nat := 0x30058 + 0x1000 * n + 0x4 * i

/-- R502 -/
def NET_IPV6_GL (n : Nat) (i : Nat) : Nat := 0x30068 + 0x1000 * n + 0x4 * i

/-- R502 -/
def NET_IPV6_GL_PREFIX (n : Nat) : Nat := 0x30078 + 0x1000 * n

/-- R502 -/
def NET_STATUS (n : Nat) : Nat := 0x3007C + 0x1000 * n

/-- R502 -/
def NET_PTP_ASYM (n : Nat) : Nat := 0x30080 + 0x1000 * n

/-- R502 -/
def NET_TX_LATENCY (n : Nat) : Nat := 0x30084 + 0x1000 * n

/-- R502 -/
def NET_RX_LATENCY (n : Nat) : Nat := 0x30088 + 0x1000 * n

/-- R502 -/
def NET_RX_FRAMES (n : Nat) : Nat := 0x30090 + 0x1000 * n

/-- R502 -/
def NET_RX_ERRORS (n : Nat) : Nat := 0x30094 + 0x1000 * n

/-- R502 -/
def NET_RX_PAUSE (n : Nat) : Nat := 0x30098 + 0x1000 * n

/-- R502 -/
def NET_RX_NOMATCH (n : Nat) : Nat := 0x3009C + 0x1000 * n

/-- R502 -/
def NET_RX_BAD_IP (n : Nat) : Nat := 0x300A0 + 0x1000 * n

/-- R502 -/
def NET_RX_FRAG (n : Nat) : Nat := 0x300A4 + 0x1000 * n

/-- R502 -/
def NET_TX_FRAMES (n : Nat) : Nat := 0x300A8 + 0x1000 * n

/-- R502 -/
def NET_TX_OVERSIZE (n : Nat) : Nat := 0x300AC + 0x1000 * n

/-- R502 -/
def NET_TX_LINK_DOWN (n : Nat) : Nat := 0x300B0 + 0x1000 * n

/-- R502 -/
def NET_FEC_CORRECTED (n : Nat) : Nat := 0x300B4 + 0x1000 * n

/-- R502 -/
def NET_FEC_UNCORR (n : Nat) : Nat := 0x300B8 + 0x1000 * n

/-- R502 -/
def NET_LINK_LOSSES (n : Nat) : Nat := 0x300BC + 0x1000 * n

/-- R504 -/
def PKT_CTRL : Nat := 0x34040

/-- R504 -/
def PKT_FLOW_CMD : Nat := 0x34044

/-- R504 -/
def PKT_FLOW_STAT : Nat := 0x34048

/-- R504 -/
def PKT_SMRX_BASE : Nat := 0x34050

/-- R504 -/
def PKT_SMRX_SIZE : Nat := 0x34054

/-- R504 -/
def PKT_SMRX_HEAD : Nat := 0x34058

/-- R504 -/
def PKT_SMRX_TAIL : Nat := 0x3405C

/-- R504 -/
def PKT_SMTX_BASE : Nat := 0x34060

/-- R504 -/
def PKT_SMTX_SIZE : Nat := 0x34064

/-- R504 -/
def PKT_SMTX_HEAD : Nat := 0x34068

/-- R504 -/
def PKT_SMTX_TAIL : Nat := 0x3406C

/-- R504 -/
def PKT_SMRX_DROPS : Nat := 0x34070

/-- R504 -/
def PKT_BUILD_ABANDONS : Nat := 0x34074

/-- R504 -/
def PKT_STALE_GEN_DROPS : Nat := 0x34078

/-- R504 -/
def PKT_SESS_DROPS : Nat := 0x3407C

/-- R504 -/
def PKT_FLOW_DATA (i : Nat) : Nat := 0x34080 + 0x4 * i

/-- R505 -/
def SHQ_CFG (i : Nat) : Nat := 0x35800 + 0x8 * i

/-- R505 -/
def SHQ_RATE (i : Nat) : Nat := 0x35804 + 0x8 * i

/-- R505 -/
def SHQ_CREDIT (i : Nat) : Nat := 0x36800 + 0x8 * i

/-- R505 -/
def SHQ_DEPTH (i : Nat) : Nat := 0x36804 + 0x8 * i

/-- R506 -/
def POL_SEL : Nat := 0x37040

/-- R506 -/
def POL_CIR : Nat := 0x37044

/-- R506 -/
def POL_CBS : Nat := 0x37048

/-- R506 -/
def POL_PIR : Nat := 0x3704C

/-- R506 -/
def POL_PBS : Nat := 0x37050

/-- R506 -/
def POL_MODE : Nat := 0x37054

/-- R506 -/
def POL_GREEN : Nat := 0x37058

/-- R506 -/
def POL_YELLOW : Nat := 0x3705C

/-- R506 -/
def POL_RED : Nat := 0x37060

/-- R506 -/
def POL_DSCP_MAP (i : Nat) : Nat := 0x37070 + 0x4 * i

/-- R507 -/
def LAT_CTRL : Nat := 0x38040

/-- R507 -/
def LAT_SEL : Nat := 0x38044

/-- R507 -/
def LAT_STAT : Nat := 0x38048

/-- R507 -/
def LAT_SAMPLES : Nat := 0x3804C

/-- R507 -/
def LAT_MAX_DELAY : Nat := 0x38050

/-- R507 -/
def LAT_TX_FRAMES : Nat := 0x38054

/-- R507 -/
def LAT_DROPS : Nat := 0x38058

/-- R507 -/
def LAT_DEPTH_BIN (i : Nat) : Nat := 0x38080 + 0x4 * i

/-- R507 -/
def LAT_DELAY_BIN (i : Nat) : Nat := 0x380C0 + 0x4 * i

/-- R549 -/
def HOSTQ_GCTRL : Nat := 0x28040

/-- R549 -/
def HOSTQ_WIN_BASE_LO : Nat := 0x28044

/-- R549 -/
def HOSTQ_WIN_BASE_HI : Nat := 0x28048

/-- R549 -/
def HOSTQ_PCIE_STATUS : Nat := 0x2804C

/-- R549 -/
def HOSTQ_WIN_ERRORS : Nat := 0x28050

/-- R549 -/
def HOSTQ_NOTICES_FOLDED : Nat := 0x28054

/-- R549 -/
def HOSTQ_PCIE_ERRORS : Nat := 0x28058

/-- R549 -/
def HOSTQ_CTRL (i : Nat) : Nat := 0x28400 + 0x40 * i

/-- R549 -/
def HOSTQ_CMD_BASE_LO (i : Nat) : Nat := 0x28404 + 0x40 * i

/-- R549 -/
def HOSTQ_CMD_BASE_HI (i : Nat) : Nat := 0x28408 + 0x40 * i

/-- R549 -/
def HOSTQ_CMD_SIZE (i : Nat) : Nat := 0x2840C + 0x40 * i

/-- R549 -/
def HOSTQ_DOORBELL (i : Nat) : Nat := 0x28410 + 0x40 * i

/-- R549 -/
def HOSTQ_HEAD (i : Nat) : Nat := 0x28414 + 0x40 * i

/-- R549 -/
def HOSTQ_TALLY_BASE_LO (i : Nat) : Nat := 0x28418 + 0x40 * i

/-- R549 -/
def HOSTQ_TALLY_BASE_HI (i : Nat) : Nat := 0x2841C + 0x40 * i

/-- R549 -/
def HOSTQ_TALLY_SIZE (i : Nat) : Nat := 0x28420 + 0x40 * i

/-- R549 -/
def HOSTQ_COUNT_ADDR_LO (i : Nat) : Nat := 0x28424 + 0x40 * i

/-- R549 -/
def HOSTQ_COUNT_ADDR_HI (i : Nat) : Nat := 0x28428 + 0x40 * i

/-- R549 -/
def HOSTQ_TALLY_ACK (i : Nat) : Nat := 0x2842C + 0x40 * i

/-- R549 -/
def HOSTQ_TALLY_COUNT_LO (i : Nat) : Nat := 0x28430 + 0x40 * i

/-- R549 -/
def HOSTQ_TALLY_COUNT_HI (i : Nat) : Nat := 0x28434 + 0x40 * i

/-- R549 -/
def HOSTQ_ISSUED (i : Nat) : Nat := 0x28438 + 0x40 * i

/-- R549 -/
def HOSTQ_Q_ERRORS (i : Nat) : Nat := 0x2843C + 0x40 * i

/-- R552 -/
def DMA_STALE_GEN_DROPS (n : Nat) : Nat := 0x20040 + 0x1000 * n

/-- R552 -/
def DMA_CTRL (c : Nat) : Nat := 0x20100 + 0x1000 * (c / 16) + 0x20 * (c % 16)

/-- R552 -/
def DMA_STATUS (c : Nat) : Nat := 0x20104 + 0x1000 * (c / 16) + 0x20 * (c % 16)

/-- R552 -/
def DMA_START_LO (c : Nat) : Nat := 0x20108 + 0x1000 * (c / 16) + 0x20 * (c % 16)

/-- R552 -/
def DMA_START_HI (c : Nat) : Nat := 0x2010C + 0x1000 * (c / 16) + 0x20 * (c % 16)

/-- R552 -/
def DMA_NEXT_LO (c : Nat) : Nat := 0x20110 + 0x1000 * (c / 16) + 0x20 * (c % 16)

/-- R552 -/
def DMA_NEXT_HI (c : Nat) : Nat := 0x20114 + 0x1000 * (c / 16) + 0x20 * (c % 16)

/-- R552 -/
def DMA_BYTES (c : Nat) : Nat := 0x20118 + 0x1000 * (c / 16) + 0x20 * (c % 16)

/-- R552 -/
def DMA_DESCS (c : Nat) : Nat := 0x2011C + 0x1000 * (c / 16) + 0x20 * (c % 16)

/-- R552 -/
def DMA_SHADOW_CTL (c : Nat) : Nat := 0x20300 + 0x1000 * (c / 16) + 0x4 * (c % 16)

/-- R552 -/
def DMA_CFG (c : Nat) : Nat := 0x20400 + 0x1000 * (c / 16) + 0x10 * (c % 16)

/-- R552 -/
def DMA_PACE (c : Nat) : Nat := 0x20404 + 0x1000 * (c / 16) + 0x10 * (c % 16)

/-- R552 -/
def DMA_PACE_LEVEL (c : Nat) : Nat := 0x20408 + 0x1000 * (c / 16) + 0x10 * (c % 16)

/-- R580 -/
def CUEX_CTRL : Nat := 0x8040

/-- R580 -/
def CUEX_DOORBELL : Nat := 0x8044

/-- R580 -/
def CUEX_POST : Nat := 0x8048

/-- R580 -/
def CUEX_CONSUME : Nat := 0x804C

/-- R580 -/
def CUEX_RING_BASE : Nat := 0x8050

/-- R580 -/
def CUEX_RING_OVERRUNS : Nat := 0x8054

/-- R580 -/
def CUEX_STACK_ERRORS : Nat := 0x8058

/-- R580 -/
def CUEX_STALE_GEN_DROPS : Nat := 0x805C

/-- R580 -/
def CUEX_DELIVERIES : Nat := 0x8060

/-- R580 -/
def CUEX_LAST_OVERRUN : Nat := 0x8064

/-- R580 -/
def CUEX_HOLDOFF (i : Nat) : Nat := 0x8100 + 0x4 * i

/-- R582 -/
def CUEX_TGT_CTRL (i : Nat) : Nat := 0xB040 + 0xC0 * i

/-- R582 -/
def CUEX_TGT_STATUS (i : Nat) : Nat := 0xB044 + 0xC0 * i

/-- R582 -/
def CUEX_TGT_ACK (i : Nat) : Nat := 0xB048 + 0xC0 * i

/-- R582 -/
def CUEX_TGT_COMPLETE (i : Nat) : Nat := 0xB04C + 0xC0 * i

/-- R582 -/
def CUEX_TGT_NEXT (i : Nat) : Nat := 0xB050 + 0xC0 * i

/-- R582 -/
def CUEX_TGT_STACK (t : Nat) (i : Nat) : Nat := 0xB060 + 0xC0 * t + 0x4 * i

/-- R582 -/
def CUEX_TGT_PEND (t : Nat) (i : Nat) : Nat := 0xB080 + 0xC0 * t + 0x4 * i

/-- R591 -/
def POOL_STATUS : Nat := 0x18040

/-- R591 -/
def POOL_REFUSE_EMPTY : Nat := 0x18044

/-- R591 -/
def POOL_REFUSE_QUOTA : Nat := 0x18048

/-- R591 -/
def POOL_REF_OVERFLOWS : Nat := 0x1804C

/-- R591 -/
def POOL_STALE_GEN_DROPS : Nat := 0x18050

/-- R591 -/
def POOL_ALLOCS : Nat := 0x18054

/-- R591 -/
def POOL_COUNT (i : Nat) : Nat := 0x18100 + 0x10 * i

/-- R591 -/
def POOL_BASE_LO (i : Nat) : Nat := 0x18104 + 0x10 * i

/-- R591 -/
def POOL_BASE_HI (i : Nat) : Nat := 0x18108 + 0x10 * i

/-- R591 -/
def POOL_FREE (i : Nat) : Nat := 0x1810C + 0x10 * i

/-- R591 -/
def POOL_LOW (i : Nat) : Nat := 0x18180 + 0x4 * i

/-- R591 -/
def POOL_QUOTA_PM (i : Nat) : Nat := 0x18400 + 0x8 * i

/-- R591 -/
def POOL_QUOTA_DRAM (i : Nat) : Nat := 0x18404 + 0x8 * i

/-- R591 -/
def POOL_HELD_PM (i : Nat) : Nat := 0x18600 + 0x8 * i

/-- R591 -/
def POOL_HELD_DRAM (i : Nat) : Nat := 0x18604 + 0x8 * i

/-- R591 -/
def POOL_REQ (i : Nat) : Nat := 0x18800 + 0x20 * i

/-- R591 -/
def POOL_RESULT (i : Nat) : Nat := 0x18804 + 0x20 * i

/-- R591 -/
def POOL_HANDLE (i : Nat) : Nat := 0x18808 + 0x20 * i

/-- R591 -/
def POOL_REF_HANDLE (i : Nat) : Nat := 0x1880C + 0x20 * i

/-- R591 -/
def POOL_REF_OP (i : Nat) : Nat := 0x18810 + 0x20 * i

/-- R591 -/
def POOL_REF_RESULT (i : Nat) : Nat := 0x18814 + 0x20 * i

/-- R597 -/
def FIFO_CFG (i : Nat) : Nat := 0x18A00 + 0x20 * i

/-- R597 -/
def FIFO_BASE (i : Nat) : Nat := 0x18A04 + 0x20 * i

/-- R597 -/
def FIFO_STATUS (i : Nat) : Nat := 0x18A08 + 0x20 * i

/-- R597 -/
def FIFO_FLAGS (i : Nat) : Nat := 0x18A0C + 0x20 * i

/-- R597 -/
def FIFO_PUSH (i : Nat) : Nat := 0x18A10 + 0x20 * i

/-- R597 -/
def FIFO_POP (i : Nat) : Nat := 0x18A14 + 0x20 * i

/-- R604 -/
def CVU_CFG (c : Nat) : Nat := 0x19100 + 0x1000 * (c / 8) + 0x40 * (c % 8)

/-- R604 -/
def CVU_POLY_LO (c : Nat) : Nat := 0x19104 + 0x1000 * (c / 8) + 0x40 * (c % 8)

/-- R604 -/
def CVU_POLY_HI (c : Nat) : Nat := 0x19108 + 0x1000 * (c / 8) + 0x40 * (c % 8)

/-- R604 -/
def CVU_INIT_LO (c : Nat) : Nat := 0x1910C + 0x1000 * (c / 8) + 0x40 * (c % 8)

/-- R604 -/
def CVU_INIT_HI (c : Nat) : Nat := 0x19110 + 0x1000 * (c / 8) + 0x40 * (c % 8)

/-- R604 -/
def CVU_XOROUT_LO (c : Nat) : Nat := 0x19114 + 0x1000 * (c / 8) + 0x40 * (c % 8)

/-- R604 -/
def CVU_XOROUT_HI (c : Nat) : Nat := 0x19118 + 0x1000 * (c / 8) + 0x40 * (c % 8)

/-- R604 -/
def CVU_COUNTER_CFG (c : Nat) : Nat := 0x1911C + 0x1000 * (c / 8) + 0x40 * (c % 8)

/-- R604 -/
def CVU_LAST_COUNTER (c : Nat) : Nat := 0x19120 + 0x1000 * (c / 8) + 0x40 * (c % 8)

/-- R604 -/
def CVU_STATUS (c : Nat) : Nat := 0x19124 + 0x1000 * (c / 8) + 0x40 * (c % 8)

/-- R604 -/
def CVU_JOBS (c : Nat) : Nat := 0x19128 + 0x1000 * (c / 8) + 0x40 * (c % 8)

/-- R604 -/
def CVU_MISMATCHES (c : Nat) : Nat := 0x1912C + 0x1000 * (c / 8) + 0x40 * (c % 8)

/-- R604 -/
def CVU_COUNTER_FAULTS (c : Nat) : Nat := 0x19130 + 0x1000 * (c / 8) + 0x40 * (c % 8)

/-- R604 -/
def CVU_OWNER (c : Nat) : Nat := 0x19134 + 0x1000 * (c / 8) + 0x40 * (c % 8)

/-- R604 -/
def CVU_RESULT_LO (c : Nat) : Nat := 0x19138 + 0x1000 * (c / 8) + 0x40 * (c % 8)

/-- R604 -/
def CVU_RESULT_HI (c : Nat) : Nat := 0x1913C + 0x1000 * (c / 8) + 0x40 * (c % 8)

/-- R636 -/
def DRAM_CFG (n : Nat) : Nat := 0x10040 + 0x1000 * n

/-- R636 -/
def DRAM_TRFC (n : Nat) : Nat := 0x10044 + 0x1000 * n

/-- R636 -/
def DRAM_SERVICE (n : Nat) : Nat := 0x10048 + 0x1000 * n

/-- R636 -/
def DRAM_WQ (n : Nat) : Nat := 0x1004C + 0x1000 * n

/-- R636 -/
def DRAM_REFRESH (n : Nat) : Nat := 0x10050 + 0x1000 * n

/-- R636 -/
def DRAM_NBR (n : Nat) : Nat := 0x10054 + 0x1000 * n

/-- R636 -/
def DRAM_RETRAIN (n : Nat) : Nat := 0x10058 + 0x1000 * n

/-- R636 -/
def DRAM_STATUS (n : Nat) : Nat := 0x1005C + 0x1000 * n

/-- R636 -/
def DRAM_MR4 (n : Nat) : Nat := 0x10060 + 0x1000 * n

/-- R636 -/
def DRAM_RATIO (n : Nat) : Nat := 0x10064 + 0x1000 * n

/-- R636 -/
def DRAM_CFG_STATUS (n : Nat) : Nat := 0x10068 + 0x1000 * n

/-- R636 -/
def DRAM_READS (n : Nat) : Nat := 0x1006C + 0x1000 * n

/-- R636 -/
def DRAM_WRITES (n : Nat) : Nat := 0x10070 + 0x1000 * n

/-- R636 -/
def DRAM_REFRESHES (n : Nat) : Nat := 0x10074 + 0x1000 * n

/-- R636 -/
def DRAM_FORCED_PAYS (n : Nat) : Nat := 0x10078 + 0x1000 * n

/-- R636 -/
def DRAM_MAX_PREEMPT (n : Nat) : Nat := 0x1007C + 0x1000 * n

/-- R636 -/
def DRAM_NBR_REFRESHES (n : Nat) : Nat := 0x10080 + 0x1000 * n

/-- R636 -/
def DRAM_RETRAINS (n : Nat) : Nat := 0x10084 + 0x1000 * n

/-- R636 -/
def DRAM_PROMOTIONS (n : Nat) : Nat := 0x10088 + 0x1000 * n

/-- R636 -/
def DRAM_MAX_READ_WAIT (n : Nat) : Nat := 0x1008C + 0x1000 * n

/-- R638 -/
def DRAM_FENCE_BASE (i : Nat) : Nat := 0x10100 + 0x10 * i

/-- R638 -/
def DRAM_FENCE_LIMIT (i : Nat) : Nat := 0x10104 + 0x10 * i

/-- R638 -/
def DRAM_FENCE_WRITERS (i : Nat) : Nat := 0x10108 + 0x10 * i

/-- R638 -/
def REFC_BAND_LIMIT : Nat := 0x10200

/-- R638 -/
def REFC_RESERVED : Nat := 0x10204

/-- R638 -/
def REFC_HITS : Nat := 0x10208

/-- R638 -/
def REFC_MISSES : Nat := 0x1020C

/-- R638 -/
def REFC_NO_BAND : Nat := 0x10210

/-- R679 -/
def RESET_STATUS : Nat := 0x1040

/-- R679 -/
def RESET_ASSERTED : Nat := 0x1044

/-- R679 -/
def RESET_CAUSE : Nat := 0x1048

/-- R679 -/
def RESET_CMD : Nat := 0x104C

/-- R679 -/
def RESET_PWD_CFG : Nat := 0x1050

/-- R679 -/
def RESET_PWD_KICK : Nat := 0x1054

/-- R679 -/
def RESET_SMWD_CFG : Nat := 0x1058

/-- R679 -/
def RESET_SMWD_KICK : Nat := 0x105C

/-- R679 -/
def RESET_PAIR : Nat := 0x1060

/-- R679 -/
def RESET_GAP (i : Nat) : Nat := 0x1064 + 0x4 * i

/-- R679 -/
def RESET_COUNT_RSTN : Nat := 0x1088

/-- R679 -/
def RESET_COUNT_PWD : Nat := 0x108C

/-- R679 -/
def RESET_COUNT_PERST : Nat := 0x1090

/-- R679 -/
def RESET_COUNT_SMWD : Nat := 0x1094

/-- R679 -/
def RESET_COUNT_PAIR : Nat := 0x1098

/-- R679 -/
def RESET_COUNT_SOFT : Nat := 0x109C

/-- R679 -/
def RESET_COUNT_PAIR_REFUSED : Nat := 0x10A0

/-- R679 -/
def RESET_COUNT_BLOCK : Nat := 0x10A4

/-- R681 -/
def OPT_STATUS : Nat := 0x2040

/-- R681 -/
def OPT_OTP_CRC : Nat := 0x2044

/-- R681 -/
def OPT_FLASH_CRC : Nat := 0x2048

/-- R681 -/
def OPT_LOADS : Nat := 0x204C

/-- R681 -/
def OPT_OTP (i : Nat) : Nat := 0x2100 + 0x4 * i

/-- R681 -/
def OPT_FLASH (i : Nat) : Nat := 0x2800 + 0x4 * i

/-- R682 -/
def TRUST_STATUS : Nat := 0x3040

/-- R682 -/
def TRUST_STAGE_VERSION : Nat := 0x3044

/-- R682 -/
def TRUST_SM_VERSION : Nat := 0x3048

/-- R682 -/
def TRUST_DEBUG : Nat := 0x304C

/-- R682 -/
def TRUST_SEV_POLICY : Nat := 0x3050

/-- R682 -/
def TRUST_KEYS : Nat := 0x3054

/-- R682 -/
def TRUST_MIN_VER (i : Nat) : Nat := 0x3058 + 0x4 * i

/-- R682 -/
def TRUST_PC_BASE : Nat := 0x3068

/-- R682 -/
def TRUST_PC_CTRL : Nat := 0x306C

/-- R682 -/
def TRUST_PC_POST (i : Nat) : Nat := 0x3070 + 0x4 * i

/-- R682 -/
def TRUST_PC_DONE (i : Nat) : Nat := 0x3080 + 0x4 * i

/-- R682 -/
def TRUST_FENCE_VIOLATIONS : Nat := 0x3090

/-- R682 -/
def TRUST_FENCE_LAST_LO : Nat := 0x3094

/-- R682 -/
def TRUST_FENCE_LAST_HI : Nat := 0x3098

/-- R682 -/
def TRUST_SM_CODE_BASE_LO : Nat := 0x309C

/-- R682 -/
def TRUST_SM_CODE_BASE_HI : Nat := 0x30A0

/-- R682 -/
def TRUST_OTP_ADDR : Nat := 0x30A4

/-- R682 -/
def TRUST_OTP_DATA : Nat := 0x30A8

/-- R722 -/
def FAULT_CTRL : Nat := 0x5040

/-- R722 -/
def FAULT_STATUS : Nat := 0x5044

/-- R722 -/
def FAULT_TAKEN : Nat := 0x5048

/-- R722 -/
def FAULT_FIRST_CFG : Nat := 0x504C

/-- R722 -/
def FAULT_CLEAR : Nat := 0x5050

/-- R722 -/
def FAULT_HEARTBEAT : Nat := 0x5054

/-- R722 -/
def FAULT_HB_CFG : Nat := 0x5058

/-- R722 -/
def FAULT_SUPPRESSED : Nat := 0x505C

/-- R722 -/
def FAULT_CONSEQUENTIAL : Nat := 0x5060

/-- R722 -/
def FAULT_ESCALATIONS : Nat := 0x5064

/-- R722 -/
def FAULT_OVERFLOWS : Nat := 0x5068

/-- R722 -/
def FAULT_STOPS : Nat := 0x506C

/-- R722 -/
def FAULT_FIRST (i : Nat) : Nat := 0x5080 + 0x4 * i

/-- R722 -/
def FAULT_STOP (i : Nat) : Nat := 0x50A0 + 0x4 * i

/-- R722 -/
def FAULT_SEV (i : Nat) : Nat := 0x5100 + 0x4 * i

/-- R722 -/
def FAULT_KIND_COUNT (i : Nat) : Nat := 0x5300 + 0x4 * i

/-- R722 -/
def FAULT_CB (i : Nat) : Nat := 0x5400 + 0x4 * i

/-- R723 -/
def REH_CMD : Nat := 0x6040

/-- R723 -/
def REH_STATUS : Nat := 0x6044

/-- R723 -/
def REH_FAILED : Nat := 0x6048

/-- R723 -/
def REH_SIG_SEL : Nat := 0x604C

/-- R723 -/
def REH_SIG_LO : Nat := 0x6050

/-- R723 -/
def REH_SIG_HI : Nat := 0x6054

/-- R723 -/
def REH_END_TIME_LO : Nat := 0x6058

/-- R723 -/
def REH_END_TIME_HI : Nat := 0x605C

/-- R723 -/
def REH_PASSES : Nat := 0x6060

/-- R723 -/
def REH_FAILS : Nat := 0x6064

/-- R723 -/
def REH_INTERRUPTS : Nat := 0x6068

/-- R724 -/
def MARGIN_CTRL : Nat := 0x7040

/-- R724 -/
def MARGIN_VDD_LIMITS : Nat := 0x7044

/-- R724 -/
def MARGIN_COLD : Nat := 0x7048

/-- R724 -/
def MARGIN_VDD : Nat := 0x704C

/-- R724 -/
def MARGIN_STATUS : Nat := 0x7050

/-- R724 -/
def MARGIN_TEMP : Nat := 0x7054

/-- R724 -/
def MARGIN_HOURS : Nat := 0x7058

/-- R724 -/
def MARGIN_JOURNAL_NEXT : Nat := 0x705C

/-- R724 -/
def MARGIN_JOURNAL_SEQ : Nat := 0x7060

/-- R724 -/
def MARGIN_RAISES : Nat := 0x7064

/-- R724 -/
def MARGIN_LOWERS : Nat := 0x7068

/-- R724 -/
def MARGIN_AVS_ERRORS : Nat := 0x706C

/-- R724 -/
def MARGIN_JOURNAL_FAILS : Nat := 0x7070

/-- R724 -/
def MARGIN_CANARY (i : Nat) : Nat := 0x7100 + 0x4 * i

/-- R724 -/
def MARGIN_CANARY_REF (i : Nat) : Nat := 0x7180 + 0x4 * i

/-- R757 -/
def PAIR_CTRL : Nat := 0x60040

/-- R757 -/
def PAIR_STATUS : Nat := 0x60044

/-- R757 -/
def PAIR_CMD : Nat := 0x60048

/-- R757 -/
def PAIR_CMD_STATUS : Nat := 0x6004C

/-- R757 -/
def PAIR_PEER_SERIAL_LO : Nat := 0x60050

/-- R757 -/
def PAIR_PEER_SERIAL_HI : Nat := 0x60054

/-- R757 -/
def PAIR_TIME_OFFSET : Nat := 0x60058

/-- R757 -/
def PAIR_TIME_LIMIT : Nat := 0x6005C

/-- R757 -/
def PAIR_XCHECK_WAIT : Nat := 0x60060

/-- R757 -/
def PAIR_MATCH : Nat := 0x60064

/-- R757 -/
def PAIR_LAST_TAKEOVER_LO : Nat := 0x60068

/-- R757 -/
def PAIR_LAST_TAKEOVER_HI : Nat := 0x6006C

/-- R757 -/
def PAIR_DIVERGED (i : Nat) : Nat := 0x60080 + 0x4 * i

/-- R757 -/
def PAIR_FRAMES_TX : Nat := 0x600A0

/-- R757 -/
def PAIR_FRAMES_RX : Nat := 0x600A4

/-- R757 -/
def PAIR_FRAME_ERRORS : Nat := 0x600A8

/-- R757 -/
def PAIR_XCHECK_CELLS : Nat := 0x600AC

/-- R757 -/
def PAIR_XCHECK_SELF : Nat := 0x600B0

/-- R757 -/
def PAIR_XCHECK_PEER : Nat := 0x600B4

/-- R757 -/
def PAIR_XCHECK_SOURCE : Nat := 0x600B8

/-- R757 -/
def PAIR_XCHECK_UNDECIDED : Nat := 0x600BC

/-- R757 -/
def PAIR_XCHECK_UNMATCHED : Nat := 0x600C0

/-- R757 -/
def PAIR_XCHECK_TIME_DIFF : Nat := 0x600C4

/-- R757 -/
def PAIR_DIVERGENCES : Nat := 0x600C8

/-- R757 -/
def PAIR_TAKEOVERS : Nat := 0x600CC

/-- R757 -/
def PAIR_TAKEOVER_REFRESHES : Nat := 0x600D0

/-- R757 -/
def PAIR_SVC_IPV4 (i : Nat) : Nat := 0x60100 + 0x20 * i

/-- R757 -/
def PAIR_SVC_IPV6 (p : Nat) (i : Nat) : Nat := 0x60104 + 0x20 * p + 0x4 * i

/-- R757 -/
def PAIR_SVC_MAC_LO (i : Nat) : Nat := 0x60114 + 0x20 * i

/-- R757 -/
def PAIR_SVC_MAC_HI (i : Nat) : Nat := 0x60118 + 0x20 * i

/-- R778 -/
def CHIP_ID : Nat := 0x40

/-- R778 -/
def CHIP_REV : Nat := 0x44

/-- R778 -/
def CHIP_SERIAL_LO : Nat := 0x48

/-- R778 -/
def CHIP_SERIAL_HI : Nat := 0x4C

/-- R778 -/
def CHIP_GRADE : Nat := 0x50

/-- R778 -/
def CHIP_STRAPS : Nat := 0x54

/-- R778 -/
def CHIP_LIMITS : Nat := 0x58

/-- R778 -/
def CHIP_INVENTORY : Nat := 0x5C

/-- R778 -/
def CHIP_SCRATCH : Nat := 0x60

/-- R581 -/
def CUEX_ROUTE (i : Nat) : Nat := 0x9800 + 0x4 * i

/-- R581 -/
def CUEX_RING (i : Nat) : Nat := 0xA800 + 0x4 * i

/-- R604 -/
def CVU_POST : Nat := 0x19040

/-- R604 -/
def CVU_STALE_GEN_DROPS : Nat := 0x19044

/-- R505 -/
def SHAPER_STATUS : Nat := 0x35040

/-- R402 -/
def UCW_INFO (n : Nat) : Nat := 0x800040 + 0x1000 * n

end Reg

/-- The register rows of the CTX pages. -/
def rowsCtx : List RegRow :=
  [⟨0x40, 0x0, 1, .ro, 0x0, 0x1F⟩,
   ⟨0x500, 0x0, 1, .ro, 0x11, 0xF1F⟩,
   ⟨0x900, 0x0, 1, .rw, 0x11, 0xF1F⟩,
   ⟨0x504, 0x0, 1, .ro, 0xFA, 0xFFFF⟩,
   ⟨0x904, 0x0, 1, .rw, 0xFA, 0xFFFF⟩,
   ⟨0x508, 0x0, 1, .ro, 0x1F4, 0xFFFF⟩,
   ⟨0x908, 0x0, 1, .rw, 0x1F4, 0xFFFF⟩,
   ⟨0x50C, 0x0, 1, .ro, 0x64, 0xFFFF⟩,
   ⟨0x90C, 0x0, 1, .rw, 0x64, 0xFFFF⟩,
   ⟨0x510, 0x0, 1, .ro, 0x14, 0xFFFF⟩,
   ⟨0x910, 0x0, 1, .rw, 0x14, 0xFFFF⟩,
   ⟨0x514, 0x0, 1, .ro, 0x1388, 0xFFFFFF⟩,
   ⟨0x914, 0x0, 1, .rw, 0x1388, 0xFFFFFF⟩,
   ⟨0x518, 0x0, 1, .ro, 0x0, 0xFFFFFF00⟩,
   ⟨0x918, 0x0, 1, .rw, 0x0, 0xFFFFFF00⟩,
   ⟨0x51C, 0x0, 1, .ro, 0x0, 0xFF⟩,
   ⟨0x91C, 0x0, 1, .rw, 0x0, 0xFF⟩,
   ⟨0x300, 0x0, 1, .ro, 0x0, 0x3F3F7F⟩,
   ⟨0x304, 0x0, 1, .ro, 0x0, 0x3FF03FF⟩,
   ⟨0x308, 0x0, 1, .ro, 0x0, 0xFFFFFFFF⟩,
   ⟨0x30C, 0x0, 1, .ro, 0x0, 0xFFFFFFFF⟩,
   ⟨0x310, 0x0, 1, .rc, 0x0, 0xFFFFFFFF⟩,
   ⟨0x314, 0x0, 1, .rc, 0x0, 0xFFFFFFFF⟩,
   ⟨0x318, 0x0, 1, .rc, 0x0, 0xFFFFFFFF⟩,
   ⟨0x31C, 0x0, 1, .rc, 0x0, 0xFFFFFFFF⟩,
   ⟨0x320, 0x0, 1, .rc, 0x0, 0xFFFFFFFF⟩,
   ⟨0x324, 0x0, 1, .rc, 0x0, 0xFFFFFFFF⟩,
   ⟨0x328, 0x0, 1, .rc, 0x0, 0xFFFFFFFF⟩,
   ⟨0x32C, 0x0, 1, .rc, 0x0, 0xFFFFFFFF⟩,
   ⟨0x330, 0x0, 1, .rc, 0x0, 0xFFFFFFFF⟩,
   ⟨0x334, 0x0, 1, .rc, 0x0, 0xFFFFFFFF⟩] ++
  [⟨0x338, 0x0, 1, .rc, 0x0, 0xFFFFFFFF⟩,
   ⟨0x33C, 0x0, 1, .rc, 0x0, 0xFFFFFFFF⟩,
   ⟨0x340, 0x0, 1, .ro, 0x0, 0xFFFFFFFF⟩,
   ⟨0x344, 0x0, 1, .ro, 0x0, 0xFF0F⟩,
   ⟨0x348, 0x0, 1, .ro, 0x0, 0xFFFFFFFF⟩,
   ⟨0x34C, 0x0, 1, .ro, 0x0, 0xFFFFFFFF⟩,
   ⟨0x350, 0x0, 1, .ro, 0x0, 0xFF⟩,
   ⟨0x380, 0x0, 1, .rw, 0x20120, 0xFFFF3F⟩,
   ⟨0x384, 0x0, 1, .rw, 0x1394, 0xFFFF⟩,
   ⟨0x388, 0x0, 1, .rw, 0x0, 0xFFFFFFFF⟩,
   ⟨0x38C, 0x0, 1, .rw, 0x0, 0xFFFFFFFF⟩,
   ⟨0x390, 0x0, 1, .rw, 0x0, 0xFFFFFFFF⟩,
   ⟨0x394, 0x0, 1, .rw, 0x0, 0xFFFFFFFF⟩,
   ⟨0x398, 0x0, 1, .rw, 0x0, 0xFFFFFFFF⟩,
   ⟨0x39C, 0x0, 1, .rw, 0x320400FA, 0xFF0FFFFF⟩,
   ⟨0x3A0, 0x0, 1, .rw, 0x0, 0xFFFFFF⟩,
   ⟨0x3C0, 0x0, 1, .ro, 0x0, 0x1FFFF0F⟩,
   ⟨0x3C4, 0x0, 1, .ro, 0x0, 0x1FFFF⟩,
   ⟨0x3C8, 0x0, 1, .ro, 0x0, 0xFFFFFFFF⟩,
   ⟨0x3CC, 0x0, 1, .ro, 0x0, 0xFFFFFFFF⟩,
   ⟨0x3D0, 0x0, 1, .ro, 0x0, 0xFFFFFFFF⟩,
   ⟨0x3D4, 0x0, 1, .ro, 0x0, 0xFFFFFFFF⟩,
   ⟨0x3D8, 0x0, 1, .rc, 0x0, 0xFFFFFFFF⟩,
   ⟨0x3DC, 0x0, 1, .rc, 0x0, 0xFFFFFFFF⟩,
   ⟨0x3E0, 0x0, 1, .rc, 0x0, 0xFFFFFFFF⟩,
   ⟨0x3E4, 0x0, 1, .rc, 0x0, 0xFFFFFFFF⟩,
   ⟨0x3E8, 0x0, 1, .rc, 0x0, 0xFFFFFFFF⟩,
   ⟨0x3EC, 0x0, 1, .rc, 0x0, 0xFFFFFFFF⟩,
   ⟨0x3F0, 0x0, 1, .rc, 0x0, 0xFFFFFFFF⟩,
   ⟨0x3F4, 0x0, 1, .rc, 0x0, 0xFFFFFFFF⟩] ++
  [⟨0x3F8, 0x0, 1, .rc, 0x0, 0xFFFFFFFF⟩,
   ⟨0x3FC, 0x0, 1, .rc, 0x0, 0xFFFFFFFF⟩,
   ⟨0x400, 0x0, 1, .ro, 0x4, 0xFF⟩,
   ⟨0x800, 0x0, 1, .rw, 0x4, 0xFF⟩,
   ⟨0x404, 0x0, 1, .ro, 0x8800F00, 0xFFFFFFFF⟩,
   ⟨0x804, 0x0, 1, .rw, 0x8800F00, 0xFFFFFFFF⟩,
   ⟨0x408, 0x0, 1, .ro, 0x60A99, 0x1F3FFF⟩,
   ⟨0x808, 0x0, 1, .rw, 0x60A99, 0x1F3FFF⟩,
   ⟨0x40C, 0x0, 1, .ro, 0x41770, 0x1FFFFF⟩,
   ⟨0x80C, 0x0, 1, .rw, 0x41770, 0x1FFFFF⟩,
   ⟨0x410, 0x0, 1, .ro, 0x60, 0x7FFFFF⟩,
   ⟨0x810, 0x0, 1, .rw, 0x60, 0x7FFFFF⟩,
   ⟨0x414, 0x0, 1, .ro, 0x0, 0xFFFF⟩,
   ⟨0x814, 0x0, 1, .rw, 0x0, 0xFFFF⟩,
   ⟨0x418, 0x0, 1, .ro, 0x200C8, 0xFFFFF⟩,
   ⟨0x818, 0x0, 1, .rw, 0x200C8, 0xFFFFF⟩,
   ⟨0x41C, 0x0, 1, .ro, 0x3, 0x3⟩,
   ⟨0x81C, 0x0, 1, .rw, 0x3, 0x3⟩,
   ⟨0x200, 0x0, 1, .ro, 0x0, 0xFFFFF⟩,
   ⟨0x204, 0x0, 1, .ro, 0x0, 0xFFFF⟩,
   ⟨0x208, 0x0, 1, .ro, 0x0, 0xFFFFFFFF⟩,
   ⟨0x20C, 0x0, 1, .ro, 0x0, 0xFFFF00FF⟩,
   ⟨0x210, 0x0, 1, .rc, 0x0, 0xFFFFFFFF⟩,
   ⟨0x214, 0x0, 1, .rc, 0x0, 0xFFFFFFFF⟩,
   ⟨0x218, 0x0, 1, .rc, 0x0, 0xFFFFFFFF⟩,
   ⟨0x21C, 0x0, 1, .rc, 0x0, 0xFFFFFFFF⟩,
   ⟨0x220, 0x0, 1, .rc, 0x0, 0xFFFFFFFF⟩,
   ⟨0x224, 0x0, 1, .rc, 0x0, 0xFFFFFFFF⟩,
   ⟨0x228, 0x0, 1, .rc, 0x0, 0xFFFFFFFF⟩,
   ⟨0x22C, 0x0, 1, .rc, 0x0, 0xFFFFFFFF⟩] ++
  [⟨0x230, 0x0, 1, .rc, 0x0, 0xFFFFFFFF⟩,
   ⟨0x234, 0x0, 1, .rc, 0x0, 0xFFFFFFFF⟩,
   ⟨0x238, 0x0, 1, .rc, 0x0, 0xFFFFFFFF⟩,
   ⟨0x23C, 0x0, 1, .rc, 0x0, 0xFFFFFFFF⟩,
   ⟨0x240, 0x0, 1, .rc, 0x0, 0xFFFFFFFF⟩,
   ⟨0x244, 0x0, 1, .rc, 0x0, 0xFFFFFFFF⟩,
   ⟨0x248, 0x0, 1, .ro, 0x0, 0xFFFFFFFF⟩,
   ⟨0x280, 0x0, 1, .rw, 0x0, 0xFFFFFFFF⟩,
   ⟨0x284, 0x0, 1, .rw, 0x20000, 0xFFFFFF⟩,
   ⟨0x288, 0x0, 1, .rw, 0x0, 0xFFFFF⟩,
   ⟨0x28C, 0x0, 1, .ro, 0x0, 0xFFFF03FF⟩,
   ⟨0x290, 0x0, 1, .ro, 0x0, 0xFFFFFFFF⟩,
   ⟨0x294, 0x0, 1, .ro, 0x0, 0xFFFFFFFF⟩,
   ⟨0x298, 0x0, 1, .ro, 0xF0000, 0x1FFFFFF⟩,
   ⟨0x29C, 0x0, 1, .ro, 0x0, 0xFFFF⟩,
   ⟨0x2A0, 0x0, 1, .ro, 0x0, 0xFFFF⟩]

/-- The register rows of the CONTENT pages. -/
def rowsContent : List RegRow :=
  [⟨0x40, 0x0, 1, .rw, 0x2010, 0xFFFF7F⟩,
   ⟨0x44, 0x0, 1, .rw, 0x40, 0x7F⟩,
   ⟨0x48, 0x0, 1, .rw, 0x30, 0xFF⟩,
   ⟨0x4C, 0x0, 1, .rw, 0x1E, 0xFF⟩,
   ⟨0x50, 0x0, 1, .ro, 0x0, 0xFFFF⟩,
   ⟨0x54, 0x0, 1, .rc, 0x0, 0xFFFFFFFF⟩]

/-- The register rows of the ENC pages. -/
def rowsEnc : List RegRow :=
  [⟨0x404, 0x0, 1, .ro, 0x3409905, 0x37FFF1F⟩,
   ⟨0x804, 0x0, 1, .rw, 0x3409905, 0x37FFF1F⟩,
   ⟨0x408, 0x0, 1, .ro, 0x8700F00, 0xFFFFFFFF⟩,
   ⟨0x808, 0x0, 1, .rw, 0x8700F00, 0xFFFFFFFF⟩,
   ⟨0x40C, 0x0, 1, .ro, 0x0, 0xFF07⟩,
   ⟨0x80C, 0x0, 1, .rw, 0x0, 0xFF07⟩,
   ⟨0x410, 0x0, 1, .ro, 0x1, 0xF⟩,
   ⟨0x810, 0x0, 1, .rw, 0x1, 0xF⟩,
   ⟨0x414, 0x0, 1, .ro, 0x800100, 0xFF01FF⟩,
   ⟨0x814, 0x0, 1, .rw, 0x800100, 0xFF01FF⟩,
   ⟨0x418, 0x0, 1, .ro, 0x407D0, 0xFFFFFF⟩,
   ⟨0x818, 0x0, 1, .rw, 0x407D0, 0xFFFFFF⟩,
   ⟨0x41C, 0x0, 1, .ro, 0x5780060, 0x3FFF007F⟩,
   ⟨0x81C, 0x0, 1, .rw, 0x5780060, 0x3FFF007F⟩,
   ⟨0x420, 0x0, 1, .ro, 0x0, 0xFFFFFFFF⟩,
   ⟨0x820, 0x0, 1, .rw, 0x0, 0xFFFFFFFF⟩,
   ⟨0x424, 0x0, 1, .ro, 0x0, 0xFFFF⟩,
   ⟨0x824, 0x0, 1, .rw, 0x0, 0xFFFF⟩,
   ⟨0x428, 0x0, 1, .ro, 0x0, 0xFFFFFFFF⟩,
   ⟨0x828, 0x0, 1, .rw, 0x0, 0xFFFFFFFF⟩,
   ⟨0x42C, 0x0, 1, .ro, 0x0, 0xFFFF⟩,
   ⟨0x82C, 0x0, 1, .rw, 0x0, 0xFFFF⟩,
   ⟨0x430, 0x0, 1, .ro, 0x0, 0xFFFFFFC0⟩,
   ⟨0x830, 0x0, 1, .rw, 0x0, 0xFFFFFFC0⟩,
   ⟨0x434, 0x0, 1, .ro, 0x0, 0xFF⟩,
   ⟨0x834, 0x0, 1, .rw, 0x0, 0xFF⟩,
   ⟨0x438, 0x0, 1, .ro, 0x20080040, 0x3FFFFFFF⟩,
   ⟨0x838, 0x0, 1, .rw, 0x20080040, 0x3FFFFFFF⟩,
   ⟨0x200, 0x0, 1, .ro, 0x0, 0x3F0F0F⟩,
   ⟨0x204, 0x0, 1, .ro, 0x0, 0xFFFF⟩] ++
  [⟨0x208, 0x0, 1, .rc, 0x0, 0xFFFFFFFF⟩,
   ⟨0x20C, 0x0, 1, .rc, 0x0, 0xFFFFFFFF⟩,
   ⟨0x210, 0x0, 1, .rc, 0x0, 0xFFFFFFFF⟩,
   ⟨0x214, 0x0, 1, .ro, 0x0, 0xFFFFFFFF⟩,
   ⟨0x218, 0x0, 1, .ro, 0x0, 0xFFFFFFFF⟩,
   ⟨0x21C, 0x0, 1, .ro, 0x0, 0xFFFFFFFF⟩,
   ⟨0x220, 0x0, 1, .ro, 0x0, 0xFFFFFFFF⟩,
   ⟨0x224, 0x0, 1, .ro, 0x0, 0xFFFFFFFF⟩,
   ⟨0x228, 0x0, 1, .rc, 0x0, 0xFFFFFFFF⟩,
   ⟨0x22C, 0x0, 1, .rc, 0x0, 0xFFFFFFFF⟩,
   ⟨0x230, 0x0, 1, .rc, 0x0, 0xFFFFFFFF⟩,
   ⟨0x234, 0x0, 1, .rc, 0x0, 0xFFFFFFFF⟩,
   ⟨0x238, 0x0, 1, .rc, 0x0, 0xFFFFFFFF⟩,
   ⟨0x23C, 0x0, 1, .ro, 0x0, 0xFFFF⟩,
   ⟨0x240, 0x0, 1, .rw, 0x0, 0xFFFFFFE0⟩,
   ⟨0x244, 0x0, 1, .rw, 0x0, 0xFF⟩,
   ⟨0x248, 0x0, 1, .rw, 0x10, 0x1FF⟩,
   ⟨0x24C, 0x0, 1, .rw, 0x0, 0xFF⟩,
   ⟨0x250, 0x0, 1, .ro, 0x0, 0xFF⟩,
   ⟨0x440, 0x0, 1, .ro, 0x1E331223, 0x3F3F3F73⟩,
   ⟨0x840, 0x0, 1, .rw, 0x1E331223, 0x3F3F3F73⟩,
   ⟨0x444, 0x0, 1, .ro, 0x186A0, 0xFFFFF⟩,
   ⟨0x844, 0x0, 1, .rw, 0x186A0, 0xFFFFF⟩,
   ⟨0x448, 0x0, 1, .ro, 0xEA60, 0xFFFFF⟩,
   ⟨0x848, 0x0, 1, .rw, 0xEA60, 0xFFFFF⟩,
   ⟨0x44C, 0x0, 1, .ro, 0xD48, 0xFFFFFF⟩,
   ⟨0x84C, 0x0, 1, .rw, 0xD48, 0xFFFFFF⟩,
   ⟨0x450, 0x0, 1, .ro, 0x5DC, 0x1FFFF⟩,
   ⟨0x850, 0x0, 1, .rw, 0x5DC, 0x1FFFF⟩,
   ⟨0x454, 0x0, 1, .ro, 0x2002, 0xFF0F⟩] ++
  [⟨0x854, 0x0, 1, .rw, 0x2002, 0xFF0F⟩,
   ⟨0x458, 0x0, 1, .ro, 0x200000A, 0xFFFF007F⟩,
   ⟨0x858, 0x0, 1, .rw, 0x200000A, 0xFFFF007F⟩,
   ⟨0x45C, 0x0, 1, .ro, 0x40, 0xFFFF⟩,
   ⟨0x85C, 0x0, 1, .rw, 0x40, 0xFFFF⟩,
   ⟨0x260, 0x0, 1, .ro, 0x0, 0x73F3F⟩,
   ⟨0x264, 0x0, 1, .ro, 0x0, 0xFFFFFFFF⟩,
   ⟨0x268, 0x0, 1, .ro, 0x0, 0xFFFFFFFF⟩,
   ⟨0x26C, 0x0, 1, .ro, 0x0, 0xFFFFFFFF⟩,
   ⟨0x270, 0x0, 1, .rc, 0x0, 0xFFFFFFFF⟩,
   ⟨0x274, 0x0, 1, .rc, 0x0, 0xFFFFFFFF⟩,
   ⟨0x278, 0x0, 1, .rc, 0x0, 0xFFFFFFFF⟩,
   ⟨0x27C, 0x0, 1, .rc, 0x0, 0xFFFFFFFF⟩]

/-- The register rows of the MARGIN pages. -/
def rowsMargin : List RegRow :=
  [⟨0x200, 0x0, 1, .rwp, 0x41E, 0xFFF⟩,
   ⟨0x204, 0x0, 1, .ro, 0x0, 0xFFFFFFFF⟩,
   ⟨0x208, 0x0, 1, .ro, 0x0, 0xFFFFFFFF⟩,
   ⟨0x20C, 0x0, 1, .ro, 0x7EF40, 0xFFFFFFFF⟩,
   ⟨0x210, 0x0, 1, .ro, 0x0, 0xFFFFFFFF⟩,
   ⟨0x214, 0x0, 1, .ro, 0x0, 0xFFFFFFFF⟩,
   ⟨0x218, 0x0, 1, .ro, 0x0, 0xFFFFFFFF⟩,
   ⟨0x21C, 0x0, 1, .ro, 0x0, 0xFFFFFFFF⟩,
   ⟨0x220, 0x0, 1, .ro, 0x0, 0xFFFFFFFF⟩,
   ⟨0x224, 0x0, 1, .ro, 0x0, 0xFFFFFFFF⟩,
   ⟨0x228, 0x0, 1, .ro, 0x0, 0xFFFFFFFF⟩,
   ⟨0x22C, 0x0, 1, .ro, 0x0, 0xFFFFFFFF⟩,
   ⟨0x230, 0x0, 1, .ro, 0x0, 0xFFFFFFFF⟩,
   ⟨0x234, 0x0, 1, .ro, 0x0, 0xFFFFFFFF⟩,
   ⟨0x238, 0x0, 1, .ro, 0x0, 0xFFFFFFFF⟩,
   ⟨0x23C, 0x0, 1, .rc, 0x0, 0xFFFFFFFF⟩,
   ⟨0x240, 0x4, 12, .ro, 0x0, 0xFFFFFFFF⟩,
   ⟨0x40, 0x0, 1, .rwp, 0x502801, 0xFFFF01⟩,
   ⟨0x44, 0x0, 1, .rwp, 0x2BC0320, 0x3FF03FF⟩,
   ⟨0x48, 0x0, 1, .rwp, 0xF60352, 0xFF03FF⟩,
   ⟨0x4C, 0x0, 1, .ro, 0x0, 0x3FF03FF⟩,
   ⟨0x50, 0x0, 1, .ro, 0x0, 0xF⟩,
   ⟨0x54, 0x0, 1, .ro, 0x0, 0xFFFFFFFF⟩,
   ⟨0x58, 0x0, 1, .ro, 0x0, 0xFFFFFFFF⟩,
   ⟨0x5C, 0x0, 1, .ro, 0x93A80, 0xFFFFF⟩,
   ⟨0x60, 0x0, 1, .ro, 0x0, 0xFFFFFFFF⟩,
   ⟨0x64, 0x0, 1, .rc, 0x0, 0xFFFFFFFF⟩,
   ⟨0x68, 0x0, 1, .rc, 0x0, 0xFFFFFFFF⟩,
   ⟨0x6C, 0x0, 1, .rc, 0x0, 0xFFFFFFFF⟩,
   ⟨0x70, 0x0, 1, .rc, 0x0, 0xFFFFFFFF⟩] ++
  [⟨0x100, 0x4, 24, .ro, 0x0, 0xFFFFFFFF⟩,
   ⟨0x180, 0x4, 24, .ro, 0x0, 0xFFFFFFFF⟩]

/-- The register rows of the BAY pages. -/
def rowsBay : List RegRow :=
  [⟨0x40, 0x0, 1, .ro, 0x0, 0x31FFF⟩,
   ⟨0x44, 0x0, 1, .ro, 0x0, 0xFFFFFFFF⟩,
   ⟨0x48, 0x0, 1, .rc, 0x0, 0xFFFFFFFF⟩,
   ⟨0x4C, 0x0, 1, .rc, 0x0, 0xFFFFFFFF⟩]

/-- The register rows of the EL pages. -/
def rowsEl : List RegRow :=
  [⟨0x40, 0x0, 1, .ro, 0x0, 0xFF03⟩,
   ⟨0x44, 0x0, 1, .ro, 0x0, 0xFFFFFFFF⟩,
   ⟨0x48, 0x0, 1, .rc, 0x0, 0xFFFFFFFF⟩]

/-- The register rows of the MSA pages. -/
def rowsMsa : List RegRow :=
  [⟨0x40, 0x0, 1, .ro, 0x0, 0xFF07⟩,
   ⟨0x44, 0x0, 1, .ro, 0x0, 0xFFFFFFFF⟩,
   ⟨0x48, 0x0, 1, .ro, 0x0, 0xFFFFFFFF⟩]

/-- The register rows of the TRUST pages. -/
def rowsTrust : List RegRow :=
  [⟨0x100, 0x0, 1, .rwp, 0x1800, 0x1FFF⟩,
   ⟨0x104, 0x0, 1, .rwp, 0xE00, 0xFFF⟩,
   ⟨0x108, 0x0, 1, .rwp, 0xC00, 0xFFF⟩,
   ⟨0x10C, 0x0, 1, .rwp, 0x0, 0x7⟩,
   ⟨0x110, 0x0, 1, .rwp, 0xFC00, 0xFFFF⟩,
   ⟨0x114, 0x0, 1, .rwp, 0x0, 0x7FFF7FFF⟩,
   ⟨0x118, 0x0, 1, .rwp, 0x400400, 0xFFFFFF⟩,
   ⟨0x11C, 0x0, 1, .ro, 0x0, 0xFF0FFFFF⟩,
   ⟨0x120, 0x0, 1, .ro, 0x0, 0xFFFFFFFF⟩,
   ⟨0x124, 0x0, 1, .ro, 0x0, 0xFFFFFFFF⟩,
   ⟨0x128, 0x0, 1, .ro, 0x0, 0xFFFFFFFF⟩,
   ⟨0x12C, 0x0, 1, .ro, 0x0, 0xFF⟩,
   ⟨0x130, 0x0, 1, .ro, 0x0, 0xFFFFFFFF⟩,
   ⟨0x134, 0x0, 1, .ro, 0x0, 0xFFFFFFFF⟩,
   ⟨0x138, 0x0, 1, .ro, 0x0, 0xFFFFFFFF⟩,
   ⟨0x13C, 0x0, 1, .rc, 0x0, 0xFFFFFFFF⟩,
   ⟨0x40, 0x0, 1, .ro, 0x0, 0xFFFF7F⟩,
   ⟨0x44, 0x0, 1, .ro, 0x0, 0xFFFFFFFF⟩,
   ⟨0x48, 0x0, 1, .ro, 0x0, 0xFFFFFFFF⟩,
   ⟨0x4C, 0x0, 1, .rwp, 0x0, 0x1⟩,
   ⟨0x50, 0x0, 1, .ro, 0x0, 0x3⟩,
   ⟨0x54, 0x0, 1, .ro, 0x0, 0x3F3F⟩,
   ⟨0x58, 0x4, 4, .ro, 0x0, 0x7F⟩,
   ⟨0x68, 0x0, 1, .rwp, 0x7F0000, 0x7FFE00⟩,
   ⟨0x6C, 0x0, 1, .rwp, 0x1, 0x1⟩,
   ⟨0x70, 0x4, 4, .wo, 0x0, 0x7⟩,
   ⟨0x80, 0x4, 4, .ro, 0x0, 0xFFFF⟩,
   ⟨0x90, 0x0, 1, .rc, 0x0, 0xFFFFFFFF⟩,
   ⟨0x94, 0x0, 1, .ro, 0x0, 0xFFFFFFFF⟩,
   ⟨0x98, 0x0, 1, .ro, 0x0, 0xFFF⟩] ++
  [⟨0x9C, 0x0, 1, .rwp, 0x0, 0xFFF00000⟩,
   ⟨0xA0, 0x0, 1, .rwp, 0x0, 0xFF⟩,
   ⟨0xA4, 0x0, 1, .rw, 0x100, 0xFFC⟩,
   ⟨0xA8, 0x0, 1, .ro, 0x0, 0xFFFFFFFF⟩]

/-- The register rows of the PX pages. -/
def rowsPx : List RegRow :=
  [⟨0x40, 0x0, 1, .ro, 0x0, 0x1FFF001F⟩,
   ⟨0x44, 0x0, 1, .ro, 0x0, 0x1FFF000F⟩,
   ⟨0x48, 0x0, 1, .rw, 0x0, 0x11FFF⟩,
   ⟨0x4C, 0x0, 1, .ro, 0x0, 0x1F3⟩,
   ⟨0x50, 0x4, 8, .ro, 0x0, 0xFFFFFF⟩,
   ⟨0x70, 0x0, 1, .rc, 0x0, 0xFFFFFFFF⟩,
   ⟨0x74, 0x0, 1, .rc, 0x0, 0xFFFFFFFF⟩,
   ⟨0x78, 0x0, 1, .rc, 0x0, 0xFFFFFFFF⟩,
   ⟨0x7C, 0x0, 1, .rc, 0x0, 0xFFFFFFFF⟩,
   ⟨0x80, 0x0, 1, .rc, 0x0, 0xFFFFFFFF⟩]

/-- The register rows of the CE pages. -/
def rowsCe : List RegRow :=
  [⟨0x40, 0x0, 1, .ro, 0x0, 0xFFF007F⟩,
   ⟨0x44, 0x0, 1, .ro, 0x0, 0xFFF000F⟩,
   ⟨0x48, 0x0, 1, .rw, 0x0, 0xFFF⟩,
   ⟨0x4C, 0x0, 1, .ro, 0x0, 0xFFFFFFFF⟩,
   ⟨0x50, 0x0, 1, .ro, 0x0, 0x7⟩,
   ⟨0x54, 0x0, 1, .ro, 0x0, 0x31F⟩,
   ⟨0x58, 0x0, 1, .rc, 0x0, 0xFFFFFFFF⟩,
   ⟨0x5C, 0x0, 1, .rc, 0x0, 0xFFFFFFFF⟩,
   ⟨0x60, 0x0, 1, .rc, 0x0, 0xFFFFFFFF⟩,
   ⟨0x64, 0x0, 1, .rc, 0x0, 0xFFFFFFFF⟩,
   ⟨0x68, 0x0, 1, .rc, 0x0, 0xFFFFFFFF⟩,
   ⟨0x6C, 0x0, 1, .rc, 0x0, 0xFFFFFFFF⟩,
   ⟨0x70, 0x0, 1, .rc, 0x0, 0xFFFFFFFF⟩]

/-- The register rows of the DP_OUT pages. -/
def rowsDpOut : List RegRow :=
  [⟨0x40, 0x0, 1, .rw, 0x41E, 0x1FFF⟩,
   ⟨0x44, 0x0, 1, .rw, 0x11300F00, 0xFFFFFFFF⟩,
   ⟨0x48, 0x0, 1, .rw, 0x805800B0, 0xFFFFFFFF⟩,
   ⟨0x4C, 0x0, 1, .rw, 0x8CA0870, 0xFFFFFFFF⟩,
   ⟨0x50, 0x0, 1, .rw, 0x800A0008, 0xFFFFFFFF⟩,
   ⟨0x54, 0x0, 1, .rw, 0xAAAAAAAB, 0xFFFFFFFF⟩,
   ⟨0x58, 0x0, 1, .rw, 0xFE502A, 0xFFFFFFFF⟩,
   ⟨0x5C, 0x0, 1, .rw, 0x3E80001, 0xFFFFFF03⟩,
   ⟨0x60, 0x0, 1, .rw, 0x0, 0xFFFFFFFF⟩,
   ⟨0x64, 0x0, 1, .ro, 0x0, 0xFFF⟩,
   ⟨0x68, 0x0, 1, .ro, 0x0, 0xFFFFFFFF⟩,
   ⟨0x6C, 0x0, 1, .ro, 0x0, 0xFFFFFFFF⟩,
   ⟨0x70, 0x0, 1, .ro, 0x0, 0xFFFFFFFF⟩,
   ⟨0x74, 0x0, 1, .ro, 0x0, 0xFFFFFFFF⟩,
   ⟨0x78, 0x0, 1, .wo, 0x0, 0xFFFFFFF⟩,
   ⟨0x7C, 0x0, 1, .ro, 0x0, 0x1FF⟩,
   ⟨0x80, 0x4, 4, .rw, 0x0, 0xFFFFFFFF⟩,
   ⟨0x90, 0x0, 1, .ro, 0x0, 0xFFFFFFFF⟩,
   ⟨0x94, 0x0, 1, .ro, 0x0, 0xFF⟩,
   ⟨0x98, 0x0, 1, .rc, 0x0, 0xFFFFFFFF⟩,
   ⟨0x9C, 0x0, 1, .rc, 0x0, 0xFFFFFFFF⟩]

/-- The register rows of the COMP pages. -/
def rowsComp : List RegRow :=
  [⟨0x400, 0x0, 1, .ro, 0x1, 0x1⟩,
   ⟨0x800, 0x0, 1, .rw, 0x1, 0x1⟩,
   ⟨0x404, 0x0, 1, .ro, 0x0, 0x3FFFFFFF⟩,
   ⟨0x804, 0x0, 1, .rw, 0x0, 0x3FFFFFFF⟩,
   ⟨0x408, 0x0, 1, .ro, 0xB0BFF, 0x3FFFFFFF⟩,
   ⟨0x808, 0x0, 1, .rw, 0xB0BFF, 0x3FFFFFFF⟩,
   ⟨0x440, 0x20, 16, .ro, 0x10000, 0xFFFFFF7⟩,
   ⟨0x840, 0x20, 16, .rw, 0x10000, 0xFFFFFF7⟩,
   ⟨0x444, 0x20, 16, .ro, 0x0, 0xFFFFFFFF⟩,
   ⟨0x844, 0x20, 16, .rw, 0x0, 0xFFFFFFFF⟩,
   ⟨0x448, 0x20, 16, .ro, 0x0, 0xFFFFFFFF⟩,
   ⟨0x848, 0x20, 16, .rw, 0x0, 0xFFFFFFFF⟩,
   ⟨0x44C, 0x20, 16, .ro, 0x0, 0xFFFFFFFF⟩,
   ⟨0x84C, 0x20, 16, .rw, 0x0, 0xFFFFFFFF⟩,
   ⟨0x450, 0x20, 16, .ro, 0x0, 0xFFFFFFFF⟩,
   ⟨0x850, 0x20, 16, .rw, 0x0, 0xFFFFFFFF⟩,
   ⟨0x454, 0x20, 16, .ro, 0x100, 0x1FF⟩,
   ⟨0x854, 0x20, 16, .rw, 0x100, 0x1FF⟩,
   ⟨0x458, 0x20, 16, .ro, 0x0, 0x3FFFFFFF⟩,
   ⟨0x858, 0x20, 16, .rw, 0x0, 0x3FFFFFFF⟩,
   ⟨0x40, 0x0, 1, .ro, 0x0, 0x1FFFF⟩,
   ⟨0x44, 0x0, 1, .ro, 0x0, 0xFF0FFF⟩,
   ⟨0x48, 0x0, 1, .rc, 0x0, 0xFFFFFFFF⟩,
   ⟨0x4C, 0x0, 1, .rc, 0x0, 0xFFFFFFFF⟩,
   ⟨0x50, 0x0, 1, .rc, 0x0, 0xFFFFFFFF⟩,
   ⟨0x54, 0x0, 1, .rc, 0x0, 0xFFFFFFFF⟩,
   ⟨0x58, 0x0, 1, .ro, 0x0, 0xFFFFFFFF⟩,
   ⟨0x80, 0x4, 16, .ro, 0x0, 0xFFFF03FF⟩]

/-- The register rows of the DP_IN pages. -/
def rowsDpIn : List RegRow :=
  [⟨0x40, 0x0, 1, .rw, 0xE, 0x33F⟩,
   ⟨0x44, 0x0, 1, .ro, 0x0, 0xFFF⟩,
   ⟨0x48, 0x0, 1, .ro, 0x0, 0xFFFFFFFF⟩,
   ⟨0x4C, 0x0, 1, .ro, 0x0, 0xFFFFFFFF⟩,
   ⟨0x50, 0x0, 1, .ro, 0x0, 0xFFFFFFFF⟩,
   ⟨0x54, 0x0, 1, .ro, 0x0, 0xFFFFFFFF⟩,
   ⟨0x58, 0x0, 1, .ro, 0x0, 0xFFFFFFFF⟩,
   ⟨0x5C, 0x0, 1, .ro, 0x0, 0xFFFFFFFF⟩,
   ⟨0x60, 0x0, 1, .ro, 0x0, 0xFFFFFFFF⟩,
   ⟨0x64, 0x0, 1, .rc, 0x0, 0xFFFFFFFF⟩,
   ⟨0x68, 0x0, 1, .rc, 0x0, 0xFFFFFFFF⟩,
   ⟨0x6C, 0x0, 1, .rc, 0x0, 0xFFFFFFFF⟩,
   ⟨0x100, 0x4, 64, .rw, 0x0, 0xFFFFFFFF⟩]

/-- The register rows of the TIME pages. -/
def rowsTime : List RegRow :=
  [⟨0x40, 0x0, 1, .rw, 0x3, 0x37⟩,
   ⟨0x44, 0x0, 1, .ro, 0x0, 0xFF31⟩,
   ⟨0x48, 0x0, 1, .ro, 0x0, 0xFFFFFFFF⟩,
   ⟨0x4C, 0x0, 1, .ro, 0x0, 0xFFFFFFFF⟩,
   ⟨0x50, 0x0, 1, .ro, 0x0, 0xFFFFFFFF⟩,
   ⟨0x54, 0x0, 1, .ro, 0x0, 0xFFFFFFFF⟩,
   ⟨0x58, 0x0, 1, .rw, 0x0, 0xFFFFFFFF⟩,
   ⟨0x5C, 0x0, 1, .rw, 0x2, 0xFF⟩,
   ⟨0x60, 0x0, 1, .rw, 0x0, 0xFFFFFFFF⟩,
   ⟨0x64, 0x0, 1, .rw, 0x0, 0xFFFFFFFF⟩,
   ⟨0x68, 0x0, 1, .wo, 0x0, 0x3⟩,
   ⟨0x6C, 0x0, 1, .rw, 0xF4240, 0xFFFFFFFF⟩,
   ⟨0x70, 0x0, 1, .rw, 0x1F4, 0x3FF⟩,
   ⟨0x74, 0x0, 1, .wo, 0x0, 0xFFFFFFFF⟩,
   ⟨0x78, 0x0, 1, .rw, 0x1003E8, 0xFFFFFF⟩,
   ⟨0x7C, 0x0, 1, .rw, 0x3E82710, 0xFFFFFFFF⟩,
   ⟨0x80, 0x0, 1, .ro, 0x0, 0xFFFFFFFF⟩,
   ⟨0x84, 0x0, 1, .ro, 0x0, 0xFFFFFFFF⟩,
   ⟨0x88, 0x0, 1, .ro, 0x0, 0xFFFFFFFF⟩,
   ⟨0x8C, 0x0, 1, .ro, 0x0, 0xFFFFFFFF⟩,
   ⟨0x90, 0x0, 1, .rw, 0x64, 0xFFFF⟩,
   ⟨0x94, 0x0, 1, .rc, 0x0, 0xFFFFFFFF⟩,
   ⟨0x98, 0x0, 1, .rc, 0x0, 0xFFFFFFFF⟩,
   ⟨0x9C, 0x0, 1, .rc, 0x0, 0xFFFFFFFF⟩,
   ⟨0xA0, 0x0, 1, .rc, 0x0, 0xFFFFFFFF⟩]

/-- The register rows of the NET pages. -/
def rowsNet : List RegRow :=
  [⟨0x40, 0x0, 1, .rw, 0x2, 0x7FFF7⟩,
   ⟨0x44, 0x0, 1, .rw, 0x2400, 0x3FFF⟩,
   ⟨0x48, 0x0, 1, .rw, 0x0, 0xFFFFFFFF⟩,
   ⟨0x4C, 0x0, 1, .rw, 0x0, 0xFFFF⟩,
   ⟨0x50, 0x0, 1, .rw, 0x0, 0xFFFFFFFF⟩,
   ⟨0x54, 0x0, 1, .rw, 0x0, 0x3F⟩,
   ⟨0x58, 0x4, 4, .rw, 0x0, 0xFFFFFFFF⟩,
   ⟨0x68, 0x4, 4, .rw, 0x0, 0xFFFFFFFF⟩,
   ⟨0x78, 0x0, 1, .rw, 0x0, 0xFF⟩,
   ⟨0x7C, 0x0, 1, .ro, 0x0, 0xFF7F⟩,
   ⟨0x80, 0x0, 1, .rw, 0x0, 0xFFFFFFFF⟩,
   ⟨0x84, 0x0, 1, .ro, 0x0, 0xFFFFFFFF⟩,
   ⟨0x88, 0x0, 1, .ro, 0x0, 0xFFFFFFFF⟩,
   ⟨0x90, 0x0, 1, .rc, 0x0, 0xFFFFFFFF⟩,
   ⟨0x94, 0x0, 1, .rc, 0x0, 0xFFFFFFFF⟩,
   ⟨0x98, 0x0, 1, .rc, 0x0, 0xFFFFFFFF⟩,
   ⟨0x9C, 0x0, 1, .rc, 0x0, 0xFFFFFFFF⟩,
   ⟨0xA0, 0x0, 1, .rc, 0x0, 0xFFFFFFFF⟩,
   ⟨0xA4, 0x0, 1, .rc, 0x0, 0xFFFFFFFF⟩,
   ⟨0xA8, 0x0, 1, .rc, 0x0, 0xFFFFFFFF⟩,
   ⟨0xAC, 0x0, 1, .rc, 0x0, 0xFFFFFFFF⟩,
   ⟨0xB0, 0x0, 1, .rc, 0x0, 0xFFFFFFFF⟩,
   ⟨0xB4, 0x0, 1, .rc, 0x0, 0xFFFFFFFF⟩,
   ⟨0xB8, 0x0, 1, .rc, 0x0, 0xFFFFFFFF⟩,
   ⟨0xBC, 0x0, 1, .rc, 0x0, 0xFFFFFFFF⟩]

/-- The register rows of the PKT pages. -/
def rowsPkt : List RegRow :=
  [⟨0x40, 0x0, 1, .rw, 0x1394, 0xFFFF⟩,
   ⟨0x44, 0x0, 1, .wo, 0x0, 0x3FF⟩,
   ⟨0x48, 0x0, 1, .ro, 0x0, 0xFF0F⟩,
   ⟨0x50, 0x0, 1, .rw, 0x0, 0x7FFFF0⟩,
   ⟨0x54, 0x0, 1, .rw, 0x100, 0x1FFF⟩,
   ⟨0x58, 0x0, 1, .ro, 0x0, 0xFFF⟩,
   ⟨0x5C, 0x0, 1, .rw, 0x0, 0xFFF⟩,
   ⟨0x60, 0x0, 1, .rw, 0x0, 0x7FFFF0⟩,
   ⟨0x64, 0x0, 1, .rw, 0x100, 0x1FFF⟩,
   ⟨0x68, 0x0, 1, .ro, 0x0, 0xFFF⟩,
   ⟨0x6C, 0x0, 1, .rw, 0x0, 0xFFF⟩,
   ⟨0x70, 0x0, 1, .rc, 0x0, 0xFFFFFFFF⟩,
   ⟨0x74, 0x0, 1, .rc, 0x0, 0xFFFFFFFF⟩,
   ⟨0x78, 0x0, 1, .rc, 0x0, 0xFFFFFFFF⟩,
   ⟨0x7C, 0x0, 1, .rc, 0x0, 0xFFFFFFFF⟩,
   ⟨0x80, 0x4, 16, .rw, 0x0, 0xFFFFFFFF⟩]

/-- The register rows of the SHAPER0 pages. -/
def rowsShaper0 : List RegRow :=
  [⟨0x800, 0x8, 256, .rw, 0x1001000, 0xFFFFFF7F⟩,
   ⟨0x804, 0x8, 256, .rw, 0x0, 0x1FFFFFF⟩,
   ⟨0x40, 0x0, 1, .ro, 0x0, 0xF⟩]

/-- The register rows of the SHAPER1 pages. -/
def rowsShaper1 : List RegRow :=
  [⟨0x800, 0x8, 256, .ro, 0x0, 0xFFFFFFFF⟩,
   ⟨0x804, 0x8, 256, .ro, 0x0, 0xFFFFFF⟩]

/-- The register rows of the POLICER pages. -/
def rowsPolicer : List RegRow :=
  [⟨0x40, 0x0, 1, .rw, 0x0, 0xFF⟩,
   ⟨0x44, 0x0, 1, .rw, 0x0, 0x1FFFFFF⟩,
   ⟨0x48, 0x0, 1, .rw, 0x2400, 0xFFFFFF⟩,
   ⟨0x4C, 0x0, 1, .rw, 0x0, 0x1FFFFFF⟩,
   ⟨0x50, 0x0, 1, .rw, 0x2400, 0xFFFFFF⟩,
   ⟨0x54, 0x0, 1, .rw, 0x0, 0x7⟩,
   ⟨0x58, 0x0, 1, .rc, 0x0, 0xFFFFFFFF⟩,
   ⟨0x5C, 0x0, 1, .rc, 0x0, 0xFFFFFFFF⟩,
   ⟨0x60, 0x0, 1, .rc, 0x0, 0xFFFFFFFF⟩,
   ⟨0x70, 0x4, 4, .rw, 0x0, 0xFFFFFFFF⟩]

/-- The register rows of the LATENCY pages. -/
def rowsLatency : List RegRow :=
  [⟨0x40, 0x0, 1, .rw, 0xA0901, 0x1F1F01⟩,
   ⟨0x44, 0x0, 1, .wo, 0x0, 0x1FF⟩,
   ⟨0x48, 0x0, 1, .ro, 0x0, 0xFF01⟩,
   ⟨0x4C, 0x0, 1, .ro, 0x0, 0xFFFFFFFF⟩,
   ⟨0x50, 0x0, 1, .ro, 0x0, 0xFFFFFFFF⟩,
   ⟨0x54, 0x0, 1, .ro, 0x0, 0xFFFFFFFF⟩,
   ⟨0x58, 0x0, 1, .ro, 0x0, 0xFFFFFFFF⟩,
   ⟨0x80, 0x4, 16, .ro, 0x0, 0xFFFFFFFF⟩,
   ⟨0xC0, 0x4, 16, .ro, 0x0, 0xFFFFFFFF⟩]

/-- The register rows of the HOSTQ pages. -/
def rowsHostq : List RegRow :=
  [⟨0x40, 0x0, 1, .rw, 0x0, 0x1F⟩,
   ⟨0x44, 0x0, 1, .rw, 0x0, 0xFFF00000⟩,
   ⟨0x48, 0x0, 1, .rw, 0x0, 0xFF⟩,
   ⟨0x4C, 0x0, 1, .ro, 0x0, 0x3FF⟩,
   ⟨0x50, 0x0, 1, .rc, 0x0, 0xFFFFFFFF⟩,
   ⟨0x54, 0x0, 1, .rc, 0x0, 0xFFFFFFFF⟩,
   ⟨0x58, 0x0, 1, .rc, 0x0, 0xFFFFFFFF⟩,
   ⟨0x400, 0x40, 16, .rw, 0x0, 0x3⟩,
   ⟨0x404, 0x40, 16, .rw, 0x0, 0xFFFFFFC0⟩,
   ⟨0x408, 0x40, 16, .rw, 0x0, 0xFFFFFFFF⟩,
   ⟨0x40C, 0x40, 16, .rw, 0x40, 0x1FFF⟩,
   ⟨0x410, 0x40, 16, .rw, 0x0, 0xFFF⟩,
   ⟨0x414, 0x40, 16, .ro, 0x0, 0xFFF⟩,
   ⟨0x418, 0x40, 16, .rw, 0x0, 0xFFFFFFC0⟩,
   ⟨0x41C, 0x40, 16, .rw, 0x0, 0xFFFFFFFF⟩,
   ⟨0x420, 0x40, 16, .rw, 0x40, 0x1FFF⟩,
   ⟨0x424, 0x40, 16, .rw, 0x0, 0xFFFFFFF8⟩,
   ⟨0x428, 0x40, 16, .rw, 0x0, 0xFFFFFFFF⟩,
   ⟨0x42C, 0x40, 16, .rw, 0x0, 0xFFFFFFFF⟩,
   ⟨0x430, 0x40, 16, .ro, 0x0, 0xFFFFFFFF⟩,
   ⟨0x434, 0x40, 16, .ro, 0x0, 0xFFFFFFFF⟩,
   ⟨0x438, 0x40, 16, .ro, 0x0, 0xFFFFFFFF⟩,
   ⟨0x43C, 0x40, 16, .rc, 0x0, 0xFFFFFFFF⟩]

/-- The register rows of the DMA pages. -/
def rowsDma : List RegRow :=
  [⟨0x40, 0x0, 1, .rc, 0x0, 0xFFFFFFFF⟩,
   ⟨0x100, 0x20, 16, .rw, 0x0, 0x3⟩,
   ⟨0x104, 0x20, 16, .ro, 0x0, 0xFFFFFFFF⟩,
   ⟨0x108, 0x20, 16, .rw, 0x0, 0xFFFFFFE1⟩,
   ⟨0x10C, 0x20, 16, .rw, 0x0, 0xFFFFFFFF⟩,
   ⟨0x110, 0x20, 16, .ro, 0x0, 0xFFFFFFE1⟩,
   ⟨0x114, 0x20, 16, .ro, 0x0, 0xFFFFFFFF⟩,
   ⟨0x118, 0x20, 16, .ro, 0x0, 0xFFFFFFFF⟩,
   ⟨0x11C, 0x20, 16, .ro, 0x0, 0xFFFFFFFF⟩,
   ⟨0x300, 0x4, 16, .rw, 0x0, 0x0⟩,
   ⟨0x400, 0x10, 16, .ro, 0x10000000, 0xFFFF000F⟩,
   ⟨0x800, 0x10, 16, .rw, 0x10000000, 0xFFFF000F⟩,
   ⟨0x404, 0x10, 16, .ro, 0x0, 0xFF07⟩,
   ⟨0x804, 0x10, 16, .rw, 0x0, 0xFF07⟩,
   ⟨0x408, 0x10, 16, .ro, 0x0, 0xFFFFFFFF⟩,
   ⟨0x808, 0x10, 16, .rw, 0x0, 0xFFFFFFFF⟩]

/-- The register rows of the CUEX0 pages. -/
def rowsCuex0 : List RegRow :=
  [⟨0x40, 0x0, 1, .rw, 0x0, 0x1⟩,
   ⟨0x44, 0x0, 1, .wo, 0x0, 0x3FF⟩,
   ⟨0x48, 0x0, 1, .wo, 0x0, 0x7FFFFF⟩,
   ⟨0x4C, 0x0, 1, .wo, 0x0, 0x1F03FF⟩,
   ⟨0x50, 0x0, 1, .rw, 0x740000, 0x7C0000⟩,
   ⟨0x54, 0x0, 1, .rc, 0x0, 0xFFFFFFFF⟩,
   ⟨0x58, 0x0, 1, .rc, 0x0, 0xFFFFFFFF⟩,
   ⟨0x5C, 0x0, 1, .rc, 0x0, 0xFFFFFFFF⟩,
   ⟨0x60, 0x0, 1, .rc, 0x0, 0xFFFFFFFF⟩,
   ⟨0x64, 0x0, 1, .ro, 0x0, 0x3FF⟩,
   ⟨0x100, 0x4, 32, .rw, 0x0, 0xFFFF⟩]

/-- The register rows of the CUEX3 pages. -/
def rowsCuex3 : List RegRow :=
  [⟨0x40, 0xC0, 20, .rw, 0x0, 0x1⟩,
   ⟨0x44, 0xC0, 20, .ro, 0x0, 0x3FF0F03⟩,
   ⟨0x48, 0xC0, 20, .wo, 0x0, 0x3FF⟩,
   ⟨0x4C, 0xC0, 20, .wo, 0x0, 0x3FF⟩,
   ⟨0x50, 0xC0, 20, .ro, 0x400, 0x7FF⟩,
   ⟨0x60, 0x4, 8, .ro, 0x0, 0x3FF⟩,
   ⟨0x120, 0x4, 8, .ro, 0x0, 0x3FF⟩,
   ⟨0x1E0, 0x4, 8, .ro, 0x0, 0x3FF⟩,
   ⟨0x2A0, 0x4, 8, .ro, 0x0, 0x3FF⟩,
   ⟨0x360, 0x4, 8, .ro, 0x0, 0x3FF⟩,
   ⟨0x420, 0x4, 8, .ro, 0x0, 0x3FF⟩,
   ⟨0x4E0, 0x4, 8, .ro, 0x0, 0x3FF⟩,
   ⟨0x5A0, 0x4, 8, .ro, 0x0, 0x3FF⟩,
   ⟨0x660, 0x4, 8, .ro, 0x0, 0x3FF⟩,
   ⟨0x720, 0x4, 8, .ro, 0x0, 0x3FF⟩,
   ⟨0x7E0, 0x4, 8, .ro, 0x0, 0x3FF⟩,
   ⟨0x8A0, 0x4, 8, .ro, 0x0, 0x3FF⟩,
   ⟨0x960, 0x4, 8, .ro, 0x0, 0x3FF⟩,
   ⟨0xA20, 0x4, 8, .ro, 0x0, 0x3FF⟩,
   ⟨0xAE0, 0x4, 8, .ro, 0x0, 0x3FF⟩,
   ⟨0xBA0, 0x4, 8, .ro, 0x0, 0x3FF⟩,
   ⟨0xC60, 0x4, 8, .ro, 0x0, 0x3FF⟩,
   ⟨0xD20, 0x4, 8, .ro, 0x0, 0x3FF⟩,
   ⟨0xDE0, 0x4, 8, .ro, 0x0, 0x3FF⟩,
   ⟨0xEA0, 0x4, 8, .ro, 0x0, 0x3FF⟩,
   ⟨0x80, 0x4, 32, .ro, 0x0, 0xFFFFFFFF⟩,
   ⟨0x140, 0x4, 32, .ro, 0x0, 0xFFFFFFFF⟩,
   ⟨0x200, 0x4, 32, .ro, 0x0, 0xFFFFFFFF⟩,
   ⟨0x2C0, 0x4, 32, .ro, 0x0, 0xFFFFFFFF⟩,
   ⟨0x380, 0x4, 32, .ro, 0x0, 0xFFFFFFFF⟩] ++
  [⟨0x440, 0x4, 32, .ro, 0x0, 0xFFFFFFFF⟩,
   ⟨0x500, 0x4, 32, .ro, 0x0, 0xFFFFFFFF⟩,
   ⟨0x5C0, 0x4, 32, .ro, 0x0, 0xFFFFFFFF⟩,
   ⟨0x680, 0x4, 32, .ro, 0x0, 0xFFFFFFFF⟩,
   ⟨0x740, 0x4, 32, .ro, 0x0, 0xFFFFFFFF⟩,
   ⟨0x800, 0x4, 32, .ro, 0x0, 0xFFFFFFFF⟩,
   ⟨0x8C0, 0x4, 32, .ro, 0x0, 0xFFFFFFFF⟩,
   ⟨0x980, 0x4, 32, .ro, 0x0, 0xFFFFFFFF⟩,
   ⟨0xA40, 0x4, 32, .ro, 0x0, 0xFFFFFFFF⟩,
   ⟨0xB00, 0x4, 32, .ro, 0x0, 0xFFFFFFFF⟩,
   ⟨0xBC0, 0x4, 32, .ro, 0x0, 0xFFFFFFFF⟩,
   ⟨0xC80, 0x4, 32, .ro, 0x0, 0xFFFFFFFF⟩,
   ⟨0xD40, 0x4, 32, .ro, 0x0, 0xFFFFFFFF⟩,
   ⟨0xE00, 0x4, 32, .ro, 0x0, 0xFFFFFFFF⟩,
   ⟨0xEC0, 0x4, 32, .ro, 0x0, 0xFFFFFFFF⟩]

/-- The register rows of the POOL pages. -/
def rowsPool : List RegRow :=
  [⟨0x40, 0x0, 1, .ro, 0x0, 0xFF⟩,
   ⟨0x44, 0x0, 1, .rc, 0x0, 0xFFFFFFFF⟩,
   ⟨0x48, 0x0, 1, .rc, 0x0, 0xFFFFFFFF⟩,
   ⟨0x4C, 0x0, 1, .rc, 0x0, 0xFFFFFFFF⟩,
   ⟨0x50, 0x0, 1, .rc, 0x0, 0xFFFFFFFF⟩,
   ⟨0x54, 0x0, 1, .rc, 0x0, 0xFFFFFFFF⟩,
   ⟨0x100, 0x10, 8, .rw, 0x0, 0x1FFFFF⟩,
   ⟨0x104, 0x10, 8, .rw, 0x0, 0xFFFFFFFF⟩,
   ⟨0x108, 0x10, 8, .rw, 0x0, 0xFF⟩,
   ⟨0x10C, 0x10, 8, .ro, 0x0, 0x1FFFFF⟩,
   ⟨0x180, 0x4, 8, .rc, 0x0, 0xFFFFFFFF⟩,
   ⟨0x400, 0x8, 28, .rw, 0xFFFF, 0xFFFF⟩,
   ⟨0x404, 0x8, 28, .rw, 0xFFFFF, 0xFFFFF⟩,
   ⟨0x600, 0x8, 64, .ro, 0x0, 0xFFFF⟩,
   ⟨0x604, 0x8, 64, .ro, 0x0, 0xFFFFF⟩,
   ⟨0x800, 0x20, 6, .wo, 0x0, 0x77FFFFFF⟩,
   ⟨0x804, 0x20, 6, .ro, 0x0, 0xF3⟩,
   ⟨0x808, 0x20, 6, .ro, 0x0, 0xFFFFFFFF⟩,
   ⟨0x80C, 0x20, 6, .rw, 0x0, 0xFFFFFFFF⟩,
   ⟨0x810, 0x20, 6, .wo, 0x0, 0x3⟩,
   ⟨0x814, 0x20, 6, .ro, 0x0, 0xFFF1⟩,
   ⟨0xA00, 0x20, 16, .rw, 0x1000, 0x1FF01⟩,
   ⟨0xA04, 0x20, 16, .rw, 0x0, 0x7FFFFC⟩,
   ⟨0xA08, 0x20, 16, .ro, 0x2, 0x3FF03⟩,
   ⟨0xA0C, 0x20, 16, .w1c, 0x0, 0x3⟩,
   ⟨0xA10, 0x20, 16, .wo, 0x0, 0xFFFFFFFF⟩,
   ⟨0xA14, 0x20, 16, .ro, 0x0, 0xFFFFFFFF⟩]

/-- The register rows of the CVU pages. -/
def rowsCvu : List RegRow :=
  [⟨0x100, 0x40, 8, .rw, 0x1A0, 0x1FF⟩,
   ⟨0x104, 0x40, 8, .rw, 0x1EDC6F41, 0xFFFFFFFF⟩,
   ⟨0x108, 0x40, 8, .rw, 0x0, 0xFFFFFFFF⟩,
   ⟨0x10C, 0x40, 8, .rw, 0xFFFFFFFF, 0xFFFFFFFF⟩,
   ⟨0x110, 0x40, 8, .rw, 0x0, 0xFFFFFFFF⟩,
   ⟨0x114, 0x40, 8, .rw, 0xFFFFFFFF, 0xFFFFFFFF⟩,
   ⟨0x118, 0x40, 8, .rw, 0x0, 0xFFFFFFFF⟩,
   ⟨0x11C, 0x40, 8, .rw, 0xE0108, 0xFFFF1F⟩,
   ⟨0x120, 0x40, 8, .ro, 0x0, 0x1FFFF⟩,
   ⟨0x124, 0x40, 8, .ro, 0x0, 0xFF0F⟩,
   ⟨0x128, 0x40, 8, .rc, 0x0, 0xFFFFFFFF⟩,
   ⟨0x12C, 0x40, 8, .rc, 0x0, 0xFFFFFFFF⟩,
   ⟨0x130, 0x40, 8, .rc, 0x0, 0xFFFFFFFF⟩,
   ⟨0x134, 0x40, 8, .rwp, 0x2, 0x3⟩,
   ⟨0x138, 0x40, 8, .ro, 0x0, 0xFFFFFFFF⟩,
   ⟨0x13C, 0x40, 8, .ro, 0x0, 0xFFFFFFFF⟩]

/-- The register rows of the DRAM pages. -/
def rowsDram : List RegRow :=
  [⟨0x40, 0x0, 1, .rwp, 0x0, 0x377⟩,
   ⟨0x44, 0x0, 1, .rwp, 0x0, 0xFFF⟩,
   ⟨0x48, 0x0, 1, .rw, 0x800, 0x7F01⟩,
   ⟨0x4C, 0x0, 1, .rw, 0x1030, 0x3F3F⟩,
   ⟨0x50, 0x0, 1, .rw, 0x408, 0xFF0F⟩,
   ⟨0x54, 0x0, 1, .rw, 0xB, 0x1F⟩,
   ⟨0x58, 0x0, 1, .rw, 0x1000A, 0x1FFFF⟩,
   ⟨0x5C, 0x0, 1, .ro, 0x0, 0xFFFF3F⟩,
   ⟨0x60, 0x0, 1, .ro, 0x0, 0xFFFFFFFF⟩,
   ⟨0x64, 0x0, 1, .ro, 0x0, 0xFFFFFFFF⟩,
   ⟨0x68, 0x0, 1, .ro, 0x0, 0xFF⟩,
   ⟨0x6C, 0x0, 1, .rc, 0x0, 0xFFFFFFFF⟩,
   ⟨0x70, 0x0, 1, .rc, 0x0, 0xFFFFFFFF⟩,
   ⟨0x74, 0x0, 1, .rc, 0x0, 0xFFFFFFFF⟩,
   ⟨0x78, 0x0, 1, .rc, 0x0, 0xFFFFFFFF⟩,
   ⟨0x7C, 0x0, 1, .rc, 0x0, 0xFFFFFFFF⟩,
   ⟨0x80, 0x0, 1, .rc, 0x0, 0xFFFFFFFF⟩,
   ⟨0x84, 0x0, 1, .rc, 0x0, 0xFFFFFFFF⟩,
   ⟨0x88, 0x0, 1, .rc, 0x0, 0xFFFFFFFF⟩,
   ⟨0x8C, 0x0, 1, .rc, 0x0, 0xFFFFFFFF⟩]

/-- The register rows of the DRAM0 pages. -/
def rowsDram0 : List RegRow :=
  [⟨0x100, 0x10, 4, .rwp, 0x0, 0xFFFFFFF⟩,
   ⟨0x104, 0x10, 4, .rwp, 0x0, 0xFFFFFFF⟩,
   ⟨0x108, 0x10, 4, .rwp, 0x0, 0x7F01⟩,
   ⟨0x200, 0x0, 1, .rw, 0x3000, 0x7FFF⟩,
   ⟨0x204, 0x0, 1, .ro, 0x0, 0x7FFF⟩,
   ⟨0x208, 0x0, 1, .rc, 0x0, 0xFFFFFFFF⟩,
   ⟨0x20C, 0x0, 1, .rc, 0x0, 0xFFFFFFFF⟩,
   ⟨0x210, 0x0, 1, .rc, 0x0, 0xFFFFFFFF⟩]

/-- The register rows of the RESET pages. -/
def rowsReset : List RegRow :=
  [⟨0x40, 0x0, 1, .ro, 0x0, 0x1F7FF⟩,
   ⟨0x44, 0x0, 1, .ro, 0x0, 0x1FE⟩,
   ⟨0x48, 0x0, 1, .ro, 0x1, 0x1⟩,
   ⟨0x4C, 0x0, 1, .rwp, 0x0, 0x3⟩,
   ⟨0x50, 0x0, 1, .rwp, 0x64, 0xFFFF⟩,
   ⟨0x54, 0x0, 1, .rwp, 0x0, 0xFFFFFFFF⟩,
   ⟨0x58, 0x0, 1, .rwp, 0x1F4, 0xFFFF⟩,
   ⟨0x5C, 0x0, 1, .wo, 0x0, 0xFF⟩,
   ⟨0x60, 0x0, 1, .ro, 0x0, 0x1⟩,
   ⟨0x64, 0x4, 9, .rwp, 0xFA, 0xFFFF⟩,
   ⟨0x88, 0x0, 1, .rc, 0x0, 0xFFFFFFFF⟩,
   ⟨0x8C, 0x0, 1, .rc, 0x0, 0xFFFFFFFF⟩,
   ⟨0x90, 0x0, 1, .rc, 0x0, 0xFFFFFFFF⟩,
   ⟨0x94, 0x0, 1, .rc, 0x0, 0xFFFFFFFF⟩,
   ⟨0x98, 0x0, 1, .rc, 0x0, 0xFFFFFFFF⟩,
   ⟨0x9C, 0x0, 1, .rc, 0x0, 0xFFFFFFFF⟩,
   ⟨0xA0, 0x0, 1, .rc, 0x0, 0xFFFFFFFF⟩,
   ⟨0xA4, 0x0, 1, .rc, 0x0, 0xFFFFFFFF⟩]

/-- The register rows of the OPTIONS pages. -/
def rowsOptions : List RegRow :=
  [⟨0x40, 0x0, 1, .ro, 0x0, 0xF737⟩,
   ⟨0x44, 0x0, 1, .ro, 0x0, 0xFFFFFFFF⟩,
   ⟨0x48, 0x0, 1, .ro, 0x0, 0xFFFFFFFF⟩,
   ⟨0x4C, 0x0, 1, .ro, 0x0, 0xFF⟩,
   ⟨0x100, 0x4, 64, .ro, 0x0, 0xFFFFFFFF⟩,
   ⟨0x800, 0x4, 128, .ro, 0x0, 0xFFFFFFFF⟩]

/-- The register rows of the FAULT pages. -/
def rowsFault : List RegRow :=
  [⟨0x40, 0x0, 1, .rwp, 0x0, 0x1⟩,
   ⟨0x44, 0x0, 1, .ro, 0x0, 0x3F3F⟩,
   ⟨0x48, 0x0, 1, .ro, 0x0, 0xFFFFFFFF⟩,
   ⟨0x4C, 0x0, 1, .rw, 0x1, 0x3⟩,
   ⟨0x50, 0x0, 1, .wo, 0x0, 0x3⟩,
   ⟨0x54, 0x0, 1, .rwp, 0x0, 0xFFFFFFFF⟩,
   ⟨0x58, 0x0, 1, .rwp, 0x96, 0xFF⟩,
   ⟨0x5C, 0x0, 1, .rc, 0x0, 0xFFFFFFFF⟩,
   ⟨0x60, 0x0, 1, .rc, 0x0, 0xFFFFFFFF⟩,
   ⟨0x64, 0x0, 1, .rc, 0x0, 0xFFFFFFFF⟩,
   ⟨0x68, 0x0, 1, .rc, 0x0, 0xFFFFFFFF⟩,
   ⟨0x6C, 0x0, 1, .rc, 0x0, 0xFFFFFFFF⟩,
   ⟨0x80, 0x4, 8, .ro, 0x0, 0xFFFFFFFF⟩,
   ⟨0xA0, 0x4, 8, .ro, 0x0, 0xFFFFFFFF⟩,
   ⟨0x100, 0x4, 64, .rwp, 0x0, 0xFFFFFFFF⟩,
   ⟨0x300, 0x4, 64, .rc, 0x0, 0xFFFFFFFF⟩,
   ⟨0x400, 0x4, 256, .ro, 0x0, 0xFFFFFFFF⟩]

/-- The register rows of the REH pages. -/
def rowsReh : List RegRow :=
  [⟨0x40, 0x0, 1, .wo, 0x0, 0xF03⟩,
   ⟨0x44, 0x0, 1, .ro, 0x0, 0xFF0F07⟩,
   ⟨0x48, 0x0, 1, .ro, 0x0, 0x210FFF⟩,
   ⟨0x4C, 0x0, 1, .rw, 0x0, 0x1F⟩,
   ⟨0x50, 0x0, 1, .ro, 0x0, 0xFFFFFFFF⟩,
   ⟨0x54, 0x0, 1, .ro, 0x0, 0xFFFFFFFF⟩,
   ⟨0x58, 0x0, 1, .ro, 0x0, 0xFFFFFFFF⟩,
   ⟨0x5C, 0x0, 1, .ro, 0x0, 0xFFFFFFFF⟩,
   ⟨0x60, 0x0, 1, .rc, 0x0, 0xFFFFFFFF⟩,
   ⟨0x64, 0x0, 1, .rc, 0x0, 0xFFFFFFFF⟩,
   ⟨0x68, 0x0, 1, .rc, 0x0, 0xFFFFFFFF⟩]

/-- The register rows of the PAIR pages. -/
def rowsPair : List RegRow :=
  [⟨0x40, 0x0, 1, .rw, 0x447820, 0xFFFF3F⟩,
   ⟨0x44, 0x0, 1, .ro, 0x0, 0xFFFFFFFF⟩,
   ⟨0x48, 0x0, 1, .wo, 0x0, 0x3⟩,
   ⟨0x4C, 0x0, 1, .ro, 0x0, 0xF1⟩,
   ⟨0x50, 0x0, 1, .ro, 0x0, 0xFFFFFFFF⟩,
   ⟨0x54, 0x0, 1, .ro, 0x0, 0xFFFFFFFF⟩,
   ⟨0x58, 0x0, 1, .ro, 0x0, 0xFFFFFFFF⟩,
   ⟨0x5C, 0x0, 1, .rw, 0x7D0, 0xFFFFFFFF⟩,
   ⟨0x60, 0x0, 1, .rw, 0x64, 0xFFFF⟩,
   ⟨0x64, 0x0, 1, .rw, 0x64, 0xFFFF⟩,
   ⟨0x68, 0x0, 1, .ro, 0x0, 0xFFFFFFFF⟩,
   ⟨0x6C, 0x0, 1, .ro, 0x0, 0xFFFFFFFF⟩,
   ⟨0x80, 0x4, 8, .ro, 0x0, 0xFFFFFFFF⟩,
   ⟨0xA0, 0x0, 1, .rc, 0x0, 0xFFFFFFFF⟩,
   ⟨0xA4, 0x0, 1, .rc, 0x0, 0xFFFFFFFF⟩,
   ⟨0xA8, 0x0, 1, .rc, 0x0, 0xFFFFFFFF⟩,
   ⟨0xAC, 0x0, 1, .rc, 0x0, 0xFFFFFFFF⟩,
   ⟨0xB0, 0x0, 1, .rc, 0x0, 0xFFFFFFFF⟩,
   ⟨0xB4, 0x0, 1, .rc, 0x0, 0xFFFFFFFF⟩,
   ⟨0xB8, 0x0, 1, .rc, 0x0, 0xFFFFFFFF⟩,
   ⟨0xBC, 0x0, 1, .rc, 0x0, 0xFFFFFFFF⟩,
   ⟨0xC0, 0x0, 1, .rc, 0x0, 0xFFFFFFFF⟩,
   ⟨0xC4, 0x0, 1, .rc, 0x0, 0xFFFFFFFF⟩,
   ⟨0xC8, 0x0, 1, .rc, 0x0, 0xFFFFFFFF⟩,
   ⟨0xCC, 0x0, 1, .rc, 0x0, 0xFFFFFFFF⟩,
   ⟨0xD0, 0x0, 1, .rc, 0x0, 0xFFFFFFFF⟩,
   ⟨0x100, 0x20, 4, .rw, 0x0, 0xFFFFFFFF⟩,
   ⟨0x104, 0x4, 4, .rw, 0x0, 0xFFFFFFFF⟩,
   ⟨0x124, 0x4, 4, .rw, 0x0, 0xFFFFFFFF⟩,
   ⟨0x144, 0x4, 4, .rw, 0x0, 0xFFFFFFFF⟩] ++
  [⟨0x164, 0x4, 4, .rw, 0x0, 0xFFFFFFFF⟩,
   ⟨0x114, 0x20, 4, .rw, 0x0, 0xFFFFFFFF⟩,
   ⟨0x118, 0x20, 4, .rw, 0x0, 0xFFFF⟩]

/-- The register rows of the CHIP pages. -/
def rowsChip : List RegRow :=
  [⟨0x40, 0x0, 1, .ro, 0x9616, 0xFFFFFFFF⟩,
   ⟨0x44, 0x0, 1, .ro, 0x101, 0xFFFF⟩,
   ⟨0x48, 0x0, 1, .ro, 0x0, 0xFFFFFFFF⟩,
   ⟨0x4C, 0x0, 1, .ro, 0x0, 0xFFFFFFFF⟩,
   ⟨0x50, 0x0, 1, .ro, 0x424649, 0xFFFFFF⟩,
   ⟨0x54, 0x0, 1, .ro, 0x0, 0x1⟩,
   ⟨0x58, 0x0, 1, .ro, 0x200100, 0xFFFFFF⟩,
   ⟨0x5C, 0x0, 1, .ro, 0x8181060, 0xF1F1F7F⟩,
   ⟨0x60, 0x0, 1, .rw, 0x0, 0xFFFFFFFF⟩]

/-- The register rows of the CUEX1 pages. -/
def rowsCuex1 : List RegRow :=
  [⟨0x800, 0x4, 512, .rw, 0x0, 0x3F003F⟩]

/-- The register rows of the CUEX2 pages. -/
def rowsCuex2 : List RegRow :=
  [⟨0x800, 0x4, 512, .ro, 0x0, 0xFFFFFFFF⟩]

/-- The register rows of the CVU0 pages. -/
def rowsCvu0 : List RegRow :=
  [⟨0x40, 0x0, 1, .wo, 0x0, 0x7FFFC0⟩,
   ⟨0x44, 0x0, 1, .rc, 0x0, 0xFFFFFFFF⟩]

/-- The register rows of the UCW pages. -/
def rowsUcw : List RegRow :=
  [⟨0x40, 0x0, 1, .ro, 0x0, 0xFFFF0003⟩]

/-- What R779 says of a page: the block it belongs to and its fixed capabilities. -/
structure PageInfo where
  /-- page of index 0 of the block -/
  block : Nat
  typ : Nat
  inst : Nat
  pages : Nat
  index : Nat
  domain : Nat
  enable : Bool
  blockReset : Bool
  shadow : Bool
  /-- first fault source, distance to the next, number of sources -/
  srcFirst : Nat
  srcStep : Nat
  srcCount : Nat
  deriving DecidableEq, Repr

/-- A family of blocks of R779: `count` blocks of `pages` pages from page `first`. -/
structure PageRow where
  first : Nat
  count : Nat
  pages : Nat
  typ : Nat
  domain : Nat
  enable : Bool
  blockReset : Bool
  shadow : Bool
  srcBase : Nat
  srcPerInst : Nat
  srcStep : Nat
  srcCount : Nat
  deriving DecidableEq, Repr

/-- The table of R779. -/
def pageRows : List PageRow :=
  [⟨0x000, 1, 1, 0x01, 1, false, false, false, 934, 0, 0, 1⟩,
   ⟨0x001, 1, 1, 0x02, 1, false, false, false, 502, 0, 0, 1⟩,
   ⟨0x002, 1, 1, 0x03, 2, false, false, false, 933, 0, 0, 1⟩,
   ⟨0x003, 1, 1, 0x04, 3, false, false, false, 896, 0, 36, 2⟩,
   ⟨0x004, 1, 1, 0x05, 1, false, false, false, 442, 0, 0, 1⟩,
   ⟨0x005, 1, 1, 0x06, 1, false, false, false, 498, 0, 0, 1⟩,
   ⟨0x006, 1, 1, 0x07, 1, false, false, false, 499, 0, 0, 1⟩,
   ⟨0x007, 1, 1, 0x08, 1, false, false, false, 500, 0, 0, 1⟩,
   ⟨0x008, 1, 4, 0x09, 5, true, true, false, 935, 0, 0, 1⟩,
   ⟨0x010, 1, 1, 0x0A, 4, true, false, false, 928, 0, 8, 2⟩,
   ⟨0x011, 3, 1, 0x0A, 4, true, false, false, 929, 1, 0, 1⟩,
   ⟨0x018, 1, 1, 0x0B, 5, true, true, false, 496, 0, 0, 1⟩,
   ⟨0x019, 1, 2, 0x0C, 5, false, true, false, 497, 0, 0, 1⟩,
   ⟨0x020, 1, 2, 0x0D, 9, false, true, true, 448, 0, 1, 16⟩,
   ⟨0x028, 1, 1, 0x0E, 9, false, true, false, 480, 0, 1, 16⟩,
   ⟨0x030, 4, 1, 0x0F, 7, true, true, false, 436, 1, 0, 1⟩,
   ⟨0x034, 1, 1, 0x10, 7, false, true, false, 440, 0, 1, 2⟩,
   ⟨0x035, 1, 2, 0x11, 7, false, true, false, 937, 0, 0, 1⟩,
   ⟨0x037, 1, 1, 0x12, 7, false, true, false, 938, 0, 0, 1⟩,
   ⟨0x038, 1, 1, 0x13, 7, false, true, false, 939, 0, 0, 1⟩,
   ⟨0x040, 8, 1, 0x14, 8, true, true, false, 416, 1, 0, 1⟩,
   ⟨0x048, 4, 1, 0x15, 8, true, true, false, 424, 1, 0, 1⟩,
   ⟨0x050, 8, 1, 0x16, 8, false, true, true, 428, 1, 0, 1⟩,
   ⟨0x060, 1, 1, 0x17, 7, false, true, false, 443, 0, 0, 1⟩,
   ⟨0x080, 12, 1, 0x18, 6, false, true, false, 352, 1, 0, 1⟩,
   ⟨0x100, 96, 1, 0x19, 6, false, true, false, 256, 1, 0, 1⟩,
   ⟨0x180, 16, 1, 0x1A, 6, false, true, false, 512, 16, 0, 1⟩,
   ⟨0x1A0, 24, 1, 0x1B, 6, false, true, false, 384, 1, 0, 1⟩,
   ⟨0x1C0, 8, 1, 0x1C, 6, false, true, false, 364, 1, 0, 1⟩,
   ⟨0x1D0, 1, 1, 0x1D, 6, false, true, false, 372, 0, 0, 1⟩,
   ⟨0x200, 256, 1, 0x1E, 6, true, true, true, 0, 1, 0, 1⟩,
   ⟨0x800, 1, 16, 0x1F, 5, false, true, false, 0, 0, 0, 0⟩,
   ⟨0x810, 1, 64, 0x1F, 5, false, true, false, 0, 0, 0, 0⟩,
   ⟨0x850, 1, 8, 0x1F, 5, false, true, false, 0, 0, 0, 0⟩,
   ⟨0x858, 1, 168, 0x1F, 5, false, true, false, 0, 0, 0, 0⟩]

/-- Whether page `p` lies in a block of the row. -/
def PageRow.covers (r : PageRow) (p : Nat) : Bool :=
  Nat.ble r.first p && Nat.blt p (r.first + r.count * r.pages)

/-- The instance number that BLK_ID shows (R770): the number of the instance, 0 for a block with one; the UCW
blocks are numbered 0 to 3 and DRAM_1 to DRAM_3 continue from DRAM_0. -/
def PageRow.instanceOf (r : PageRow) (p : Nat) : Nat :=
  if r.first == 0x810 then 1
  else if r.first == 0x850 then 2
  else if r.first == 0x858 then 3
  else if r.typ == 0x0A then p - 0x010
  else if r.count == 1 then 0
  else (p - r.first) / r.pages

/-- The page's entry in the table of R779, when the atlas assigns the page (R767). -/
def pageInfo (p : Nat) : Option PageInfo :=
  (pageRows.find? (·.covers p)).map fun r =>
    let k := (p - r.first) / r.pages
    let ix := (p - r.first) % r.pages
    { block := r.first + k * r.pages, typ := r.typ, inst := r.instanceOf p, pages := r.pages, index := ix,
      domain := r.domain, enable := r.enable, blockReset := r.blockReset, shadow := r.shadow,
      srcFirst := if r.typ == 0x0D then r.srcBase + 16 * ix else r.srcBase + k * r.srcPerInst,
      srcStep := r.srcStep, srcCount := r.srcCount }

/-- The page of a register key. -/
def pageOf (k : Nat) : Nat := k % 0x1000000 / 0x1000

/-- The offset in the page of a register key. -/
def offOf (k : Nat) : Nat := k % 0x1000

/-- The register rows of a page beyond its header (R780); `enc` chooses the encode meanings of a CTX page. -/
def rowsOfPage (p : Nat) (enc : Bool) : List RegRow :=
  if Nat.ble 0x200 p && Nat.blt p 0x300 then (if enc then rowsEnc else rowsCtx)
  else if p == 0x000 then rowsChip
  else if p == 0x001 then rowsReset
  else if p == 0x002 then rowsOptions
  else if p == 0x003 then rowsTrust
  else if p == 0x004 then rowsTime
  else if p == 0x005 then rowsFault
  else if p == 0x006 then rowsReh
  else if p == 0x007 then rowsMargin
  else if p == 0x008 then rowsCuex0
  else if p == 0x009 then rowsCuex1
  else if p == 0x00A then rowsCuex2
  else if p == 0x00B then rowsCuex3
  else if p == 0x010 then rowsDram ++ rowsDram0
  else if Nat.ble 0x011 p && Nat.blt p 0x014 then rowsDram
  else if p == 0x018 then rowsPool
  else if p == 0x019 then rowsCvu0 ++ rowsCvu
  else if p == 0x01A then rowsCvu
  else if p == 0x020 || p == 0x021 then rowsDma
  else if p == 0x028 then rowsHostq
  else if Nat.ble 0x030 p && Nat.blt p 0x034 then rowsNet
  else if p == 0x034 then rowsPkt
  else if p == 0x035 then rowsShaper0
  else if p == 0x036 then rowsShaper1
  else if p == 0x037 then rowsPolicer
  else if p == 0x038 then rowsLatency
  else if Nat.ble 0x040 p && Nat.blt p 0x048 then rowsDpOut
  else if Nat.ble 0x048 p && Nat.blt p 0x04C then rowsDpIn
  else if Nat.ble 0x050 p && Nat.blt p 0x058 then rowsComp
  else if p == 0x060 then rowsPair
  else if Nat.ble 0x080 p && Nat.blt p 0x08C then rowsBay
  else if Nat.ble 0x100 p && Nat.blt p 0x160 then rowsPx
  else if Nat.ble 0x180 p && Nat.blt p 0x190 then rowsCe
  else if Nat.ble 0x1A0 p && Nat.blt p 0x1B8 then rowsEl
  else if Nat.ble 0x1C0 p && Nat.blt p 0x1C8 then rowsMsa
  else if p == 0x1D0 then rowsContent
  else if Nat.ble 0x800 p && Nat.blt p 0x900 then rowsUcw
  else []

/-- The table row of a register key, when the page's map defines the offset (R8, R780). -/
def regRow (k : Nat) : Option RegRow :=
  (rowsOfPage (pageOf k) (Nat.ble 0x1000000 k)).find? (·.covers (offOf k))

/-- The reset severity of a fault source, under R690 (0 where no block has the source). -/
def resetSeverity (src : Nat) : Nat :=
  if Nat.ble src 255 then 1
  else if Nat.ble src 372 then 2
  else if Nat.ble 384 src && Nat.ble src 407 then 2
  else if Nat.ble 416 src && Nat.ble src 441 then 2
  else if src == 442 || src == 443 then 1
  else if Nat.ble 448 src && Nat.ble src 495 then 1
  else if src == 496 then 3
  else if src == 497 then 2
  else if src == 498 then 3
  else if src == 499 || src == 500 then 1
  else if src == 502 then 3
  else if Nat.ble 512 src && Nat.ble src 767 && src % 16 == 0 then 2
  else if Nat.ble 768 src && Nat.ble src 895 && src % 32 == 0 then 2
  else if src == 896 || src == 932 then 3
  else if Nat.ble 928 src && Nat.ble src 931 || src == 936 then 3
  else if src == 933 || src == 934 then 1
  else if src == 935 then 3
  else if Nat.ble 937 src && Nat.ble src 939 then 2
  else 0

/-- Sixteen severities packed from bit 0 upwards, as FAULT_SEV_k holds them (R722). -/
def packSev (k : Nat) : Nat → Nat
  | 0 => 0
  | j + 1 => packSev k j + resetSeverity (16 * k + j) * 4 ^ j

/-- BLK_ID of R770. -/
def blkId (i : PageInfo) : Nat := i.typ + i.inst * 0x100 + i.pages * 0x10000 + i.index * 0x1000000

/-- BLK_CAPS of R772. -/
def blkCaps (i : PageInfo) : Nat :=
  (if i.shadow then 1 else 0) + (if i.blockReset then 2 else 0) + (if i.enable then 4 else 0) +
  (if i.srcCount == 0 then 0 else 8) + i.domain * 16 + i.srcCount * 256

/-- The reset value of BLK_OWNER under R655. -/
def blkOwnerReset (i : PageInfo) : Nat :=
  if !i.blockReset then 0x100 else if i.typ == 0x0D || i.typ == 0x0E then 2 else 1

/-- The reset value of a header register (R769). -/
def headerReset (i : PageInfo) (o : Nat) : Nat :=
  if o == 0x000 then blkId i
  else if o == 0x004 then 1
  else if o == 0x008 then blkCaps i
  else if o == 0x024 && i.index == 0 then blkOwnerReset i
  else 0

/-- Pool counts and Pool Memory bases of R583. -/
def poolCountReset (p : Nat) : Nat :=
  if p == 0 then 4096 else if p == 1 then 2048 else if p == 2 then 1024 else if p == 3 then 256 else 0

/-- The reset base of a pool (R583). -/
def poolBaseReset (p : Nat) : Nat :=
  if p == 1 then 0x100000 else if p == 2 then 0x300000 else if p == 3 then 0x500000 else 0

/-- The value of a register after reset.  Where the register tables refer to another rule, that rule's values:
SHQ_CFG and SHQ_RATE (R505), POOL_COUNT and POOL_BASE_LO (R583), CVU_OWNER (R604), FAULT_SEV (R690), UCW_INFO (R402).
Registers whose tables say "From OTP" or "—" read 0 here: what loads them stands with the operation that does
(assumption 3).  An offset that no table defines reads 0 (R8). -/
def regReset (k : Nat) : Word :=
  let p := pageOf k
  let o := offOf k
  match pageInfo p with
  | none => 0
  | some i =>
    if Nat.blt o 0x40 then BitVec.ofNat 32 (headerReset i o)
    else if p == 0x035 && Nat.ble 0x800 o then
      let q := (o - 0x800) / 8
      if o % 8 == 0 then
        (if Nat.ble 252 q then BitVec.ofNat 32 (0x01001039 + 2 * (q - 252)) else 0x01001000)
      else if Nat.ble 252 q then 0x017D7840 else 0
    else if p == 0x018 && Nat.ble 0x100 o && Nat.blt o 0x180 then
      (if o % 16 == 0 then BitVec.ofNat 32 (poolCountReset ((o - 0x100) / 16))
       else if o % 16 == 4 then BitVec.ofNat 32 (poolBaseReset ((o - 0x100) / 16)) else 0)
    else if p == 0x005 && Nat.ble 0x100 o && Nat.blt o 0x200 then BitVec.ofNat 32 (packSev ((o - 0x100) / 4) 16)
    else if p == 0x019 && (o == 0x134 || o == 0x174) then 1
    else if p == 0x019 && o == 0x1B4 then 0
    else if Nat.ble 0x800 p && o == 0x040 then
      (if Nat.blt p 0x810 then BitVec.ofNat 32 (0x200 * (p - 0x800) * 0x10000)
       else if Nat.blt p 0x850 then BitVec.ofNat 32 (1 + 0x40 * (p - 0x810) * 0x10000)
       else if Nat.blt p 0x858 then BitVec.ofNat 32 (2 + 0x200 * (p - 0x850) * 0x10000)
       else 3)
    else match regRow k with
      | some r => BitVec.ofNat 32 r.reset
      | none => 0

end Sys2Proof.Machine
end

