-- ==== Sys2Proof/Machine/FaultKinds.lean ====
section
/-! DEFINITION. The fault kinds of R688: their codes and their severities. -/

namespace Sys2Proof.Machine

namespace FaultKind

/-- R688 -/
def FENCE_VIOLATION : Nat := 1

/-- R688 -/
def REQ_ABORTED : Nat := 2

/-- R688 -/
def PEER_UNAVAILABLE : Nat := 3

/-- R688 -/
def BOUNDARY_OVERRUN : Nat := 4

/-- R688 -/
def CUEX_STACK_ORDER : Nat := 5

/-- R688 -/
def PROMPTER_LOCKSTEP : Nat := 6

/-- R688 -/
def SM_WATCHDOG : Nat := 7

/-- R688 -/
def OPTIONS_FALLBACK : Nat := 8

/-- R688 -/
def STAGE_REJECTED : Nat := 9

/-- R688 -/
def SM_IMAGE_REJECTED : Nat := 10

/-- R688 -/
def PATCH_REJECTED : Nat := 11

/-- R688 -/
def CUSTOM_REJECTED : Nat := 12

/-- R688 -/
def PAIR_RESET_REFUSED : Nat := 13

/-- R688 -/
def UCODE_PARITY : Nat := 14

/-- R688 -/
def UCODE_ILLEGAL : Nat := 15

/-- R688 -/
def UCODE_STACK : Nat := 16

/-- R688 -/
def UCODE_BAD_ENTRY : Nat := 17

/-- R688 -/
def UCODE_NO_YIELD : Nat := 18

/-- R688 -/
def UCODE_FENCE : Nat := 19

/-- R688 -/
def UCODE_HOOK_OVERRUN : Nat := 20

/-- R688 -/
def UCODE_COPY_BAD : Nat := 21

/-- R688 -/
def UCODE_RELOAD_FAILED : Nat := 22

/-- R688 -/
def UCODE_STUCK : Nat := 23

/-- R688 -/
def UCODE_SCRUB : Nat := 24

/-- R688 -/
def DRAM_TRAIN_FAIL : Nat := 25

/-- R688 -/
def DRAM_HOT : Nat := 26

/-- R688 -/
def CELL_CRC_MISMATCH : Nat := 27

/-- R688 -/
def CELL_STALE : Nat := 28

/-- R688 -/
def SESSION_REFUSED : Nat := 29

/-- R688 -/
def SESSION_LOST : Nat := 30

/-- R688 -/
def ECHO_ROW_MISMATCH : Nat := 31

/-- R688 -/
def ECHO_PERSISTENT : Nat := 32

/-- R688 -/
def ECHO_CELL_MISMATCH : Nat := 33

/-- R688 -/
def EXACT_STARVED : Nat := 34

/-- R688 -/
def STREAM_UNSUPPORTED : Nat := 35

/-- R688 -/
def DECODE_ERROR : Nat := 36

/-- R688 -/
def REF_PLACEHOLDER : Nat := 37

/-- R688 -/
def CTX_DEGRADED : Nat := 38

/-- R688 -/
def CTX_OVER_CHARGE : Nat := 39

/-- R688 -/
def LEDGER_DEFICIT : Nat := 40

/-- R688 -/
def DP_LINK_LOST : Nat := 41

/-- R688 -/
def FRAME_UNLOCKED : Nat := 42

/-- R688 -/
def SCANOUT_UNDERRUN : Nat := 43

/-- R688 -/
def SCANOUT_CELL_MISMATCH : Nat := 44

/-- R688 -/
def LINK_CRC_MISMATCH : Nat := 45

/-- R688 -/
def CAPTURE_LOCK_LOST : Nat := 46

/-- R688 -/
def NET_LINK_LOST : Nat := 47

/-- R688 -/
def NET_TX_OVERSIZE : Nat := 48

/-- R688 -/
def QUEUE_DROP : Nat := 49

/-- R688 -/
def TIME_UNLOCKED : Nat := 50

/-- R688 -/
def TIME_JUMP_REFUSED : Nat := 51

/-- R688 -/
def DMA_CHAIN_ERROR : Nat := 52

/-- R688 -/
def PAIR_LINK_LOST : Nat := 53

/-- R688 -/
def PAIR_PARTITION : Nat := 54

/-- R688 -/
def PAIR_XCHECK_MISMATCH : Nat := 55

/-- R688 -/
def PAIR_TAKEOVER : Nat := 56

/-- R688 -/
def PAIR_SHADOW_DIVERGED : Nat := 57

/-- R688 -/
def REHEARSAL_FAIL : Nat := 58

/-- R688 -/
def PROMPTER_WATCHDOG : Nat := 59

/-- R688 -/
def VOLTAGE_LIMIT : Nat := 60

/-- R688 -/
def AVS_ERROR : Nat := 61

/-- R688 -/
def TEMP_HIGH : Nat := 62

/-- R688 -/
def HANDSHAKE_ERROR : Nat := 63

end FaultKind

/-- The severity of a kind under R688: none where the table says Table (R689). -/
def kindSeverity (kind : Nat) : Option Nat :=
  if [2, 3, 4, 5, 22, 23, 58, 62, 63].elem kind then none
  else if [6, 59].elem kind then some 3
  else if [24, 36, 49].elem kind then some 0
  else some 1

end Sys2Proof.Machine
end

