-- ==== Sys2Proof/Machine/Sparse.lean ====
section
/-! DEFINITION. Sparse maps: reading and writing a key of a map of which only the entries that differ from a default
are listed, keys rising.  Registers, memories and the records of contexts, flows, queues and engines are held so. -/

namespace Sys2Proof.Machine

/-- What a map reads as at a key: the listed entry, or the default where the key is not listed. -/
def Sparse.get {α : Type} (d : Nat → α) (m : Sparse α) (k : Nat) : α :=
  match m.find? (fun p => p.1 == k) with
  | some p => p.2
  | none => d k

/-- The entry placed before the first entry of a higher key. -/
def Sparse.place {α : Type} (k : Nat) (v : α) : Sparse α → Sparse α
  | [] => [(k, v)]
  | p :: r => if k < p.1 then (k, v) :: p :: r else p :: Sparse.place k v r

/-- The map without its entry for a key. -/
def Sparse.erase {α : Type} (k : Nat) (m : Sparse α) : Sparse α := m.filter (fun p => p.1 != k)

/-- Write a key.  Writing the value an unlisted key reads as removes the entry, so equal maps are equal data. -/
def Sparse.set {α : Type} [DecidableEq α] (d : Nat → α) (m : Sparse α) (k : Nat) (v : α) : Sparse α :=
  if v = d k then Sparse.erase k m else Sparse.place k v (Sparse.erase k m)

/-- The canonical form: keys strictly rising, no entry equal to the default. -/
abbrev Sparse.Wf {α : Type} (d : Nat → α) (m : Sparse α) : Prop :=
  m.Pairwise (fun a b => a.1 < b.1) ∧ ∀ p ∈ m, p.2 ≠ d p.1

/-- Write consecutive keys from `k` on. -/
def Sparse.setRange {α : Type} [DecidableEq α] (d : Nat → α) : Sparse α → Nat → List α → Sparse α
  | m, _, [] => m
  | m, k, v :: vs => Sparse.setRange d (Sparse.set d m k v) (k + 1) vs

/-- Read `n` consecutive keys from `k` on. -/
def Sparse.getRange {α : Type} (d : Nat → α) (m : Sparse α) (k : Nat) : Nat → List α
  | 0 => []
  | n + 1 => Sparse.get d m k :: Sparse.getRange d m (k + 1) n

end Sys2Proof.Machine
end

