-- ==== Sys2Proof/Machine/State.lean ====
section
/-! DEFINITION. The state of the block as plain data: the register file, the memories, and every queue, buffer,
counter and machine the spec gives the device beside its registers; the queue of waiting commands; the state after
power-on reset.  Registers are the one home of what they show; what stands here besides them is what the spec gives
the device and no register shows. -/

namespace Sys2Proof.Machine

/-- Why a step stops the block.  The spec gives every command of the table an effect, so no meaning raises one; the
constructor stands for the interface (safe: nothing is claimed of a state after it). -/
inductive Fault where
  /-- raised by no command -/
  | unreachable
  deriving DecidableEq, Repr

/-- Why a step refuses a command. -/
inductive Refusal where
  /-- a command whose meaning has not been written: raised by Dispatch alone; safe -/
  | notModelled (mnemonic : String)
  deriving DecidableEq, Repr

/-! ### Pictures -/

/-- The format of a picture: its coded size in luma samples, chroma_format_idc, bit depth. -/
structure PicFmt where
  w : Nat
  h : Nat
  chroma : Nat
  depth : Nat
  deriving DecidableEq, Repr

/-- A picture in device memory: where its buffer begins, its format, the conformance window (R37), its number (PIC_NUM of a
decoded picture, the count of coded pictures in an encode context), its colour description (R422), the cells of it that hold
concealed CTUs (R57). -/
structure PicRef where
  base : Nat
  fmt : PicFmt
  winX : Nat
  winY : Nat
  winW : Nat
  winH : Nat
  num : Nat
  matrix : Nat
  full : Bool
  bad : List Nat
  deriving DecidableEq, Repr

/-- The header of a slice as far as the rules fix it (R175, R176, R178): slice type (0 B, 1 P, 2 I), IDR_N_LP or TRAIL_R, the
references of either list as pictures back, slice_loop_filter_across_slices_enabled_flag. -/
structure SliceHead where
  typ : Nat
  idr : Bool
  list0 : List Nat
  list1 : List Nat
  acrossSlices : Bool
  deriving DecidableEq, Repr

/-- The coding tools of R181, by the names of the standard's syntax. -/
structure CodingTools where
  ctuSize : Nat
  minCu : Nat
  minTu : Nat
  maxTu : Nat
  maxTransformSkip : Nat
  amp : Bool
  mergeCandidates : Nat
  temporalMvp : Bool
  weighted : Bool
  deblocking : Bool
  sao : Bool
  scalingLists : Bool
  pcm : Bool
  signHiding : Bool
  cuQpDelta : Bool
  /-- diff_cu_qp_delta_depth: 0, one cu_qp_delta for every CTU -/
  cuQpDeltaDepth : Nat
  transquantBypass : Bool
  implicitRdpcm : Bool
  explicitRdpcm : Bool
  persistentRice : Bool
  crossComponent : Bool
  extendedPrecision : Bool
  paletteMax : Nat
  palettePredictor : Nat
  currPicRef : Bool
  colourTransform : Bool
  mvResolution : Nat
  deriving DecidableEq, Repr

/-- What the parameter sets of an encode context say (R168 to R181, R228, R441). -/
structure ParamSets where
  profileIdc : Nat
  highTier : Bool
  level : Nat
  chroma : Nat
  depth : Nat
  codedW : Nat
  codedH : Nat
  width : Nat
  height : Nat
  maxReorder : Nat
  maxLatencyPlus1 : Nat
  numRefs : Nat
  tileCols : Nat
  tileRows : Nat
  acrossTiles : Bool
  tools : CodingTools
  /-- matrix_coefficients and video_full_range_flag (R441) -/
  matrix : Nat
  fullRange : Bool
  /-- VUI timing and HRD of R228: units in a tick, time scale, NAL and VCL parameters, bit rate, CPB size, flags -/
  unitsInTick : Nat
  timeScale : Nat
  nalHrd : Bool
  vclHrd : Bool
  cpbCntMinus1 : Nat
  cbr : Bool
  bitRate : Nat
  cpbSize : Nat
  lowDelayHrd : Bool
  fixedRate : Bool
  subPicHrd : Bool
  deriving DecidableEq, Repr

/-! ### What the block puts out -/

/-- The header of an RTP packet (R211). -/
structure RtpHead where
  version : Nat
  padding : Bool
  extension : Bool
  csrcs : Nat
  marker : Bool
  pt : Nat
  seq : Nat
  ts : Nat
  ssrc : Nat
  deriving DecidableEq, Repr

/-- What the block sends, shows or answers, as far as the rules say what it is. -/
inductive Output where
  /-- the answer to a BAR 0, BAR 2, SMBus or configuration read -/
  | readData (v : Word)
  /-- the bytes a BAR 2 read returns (R517) -/
  | windowData (bytes : List Byte)
  /-- a request answered without data: 0 success, 1 REQ_ABORTED, 2 Unsupported Request, 3 retry status -/
  | completion (status : Nat)
  /-- a UDP datagram: port, source address and port, destination address and port, destination MAC, payload -/
  | datagram (port src srcPort dst dstPort mac : Nat) (bytes : List Byte)
  /-- an RTP packet of an encode context (R211): context, its header, packet type, payload bytes, the value of its DONL field,
  sprop-max-don-diff of its stream -/
  | rtp (ctx : Nat) (head : RtpHead) (kind : RtpKind) (len : Nat) (donl : Option Nat) (maxDonDiff : Nat)
  /-- a cue sheet handed to the stream as a user data SEI message (R104, R106, R107): context, NAL unit type (40 suffix, 39
  prefix), nuh_layer_id, TemporalId, payloadType, UUID, body -/
  | sheet (ctx nalType layer tid payloadType : Nat) (uuid body : List Byte)
  /-- a recovery point SEI message of an encode context: recovery_poc_cnt, exact_match_flag, broken_link_flag (R204, R206) -/
  | recovery (ctx count : Nat) (exact broken : Bool)
  /-- the VPS, SPS and PPS of an encode context (R179) -/
  | paramSets (ctx : Nat) (p : ParamSets)
  /-- a buffering period SEI message: initial_cpb_removal_delay (R228) -/
  | bufferingPeriod (ctx delay : Nat)
  /-- a picture timing SEI message: au_cpb_removal_delay_minus1, the du_cpb_removal_delay_increments (R228) -/
  | picTiming (ctx auDelay : Nat) (dus : List Nat)
  /-- a slice of a picture: context, number in the order of R208, header, how its CTUs are coded -/
  | slice (ctx num : Nat) (h : SliceHead) (ctus : List CtuCode)
  /-- a user data SEI message that is no cue sheet, handed to the SEI_RX hook (R105, R372): context, entry, UUID, body -/
  | seiRx (ctx entry : Nat) (uuid body : List Byte)
  /-- a customer scaler kernel or effect run on a window: compositor, window, entry (R425) -/
  | kernel (comp win entry : Nat)
  /-- what the SEI_PREFIX or the SEI_SUFFIX hook wrote, ahead of a sheet in its NAL unit (R372): context, NAL unit type (39
  prefix, 40 suffix), bytes -/
  | hookSei (ctx nalType : Nat) (body : List Byte)
  /-- a NAL unit of filler data: context, bytes (R234) -/
  | filler (ctx bytes : Nat)
  /-- a decoded picture output: context, RTP timestamp, arrival token (R278) -/
  | picture (ctx ts arrival : Nat)
  /-- a hatch decision: compositor, window, cell, 0 none, 1 Unsourced, 2 Unlocked, 3 Stale (R76, R78) -/
  | hatch (comp win cell pattern : Nat)
  /-- a frame on the wire of a network port: port, queue, length; of a frame of the control path its bytes -/
  | frame (port queue len : Nat) (bytes : List Byte)
  /-- an answer or message of the Stage Manager's network firmware (R461, R752): port, 0 ARP reply, 1 Neighbor
  Advertisement, 2 echo reply, 3 membership report, 4 membership leave, 5 gratuitous ARP, 6 unsolicited
  Neighbor Advertisement; address; of a report the source of INCLUDE, 0 EXCLUDE of nothing -/
  | netAnswer (port kind addr src : Nat)
  /-- an egress packet built: flow, queue, context, RTP sequence number, source address and MAC, identification, its Ethernet, IP
  and UDP headers but for the UDP checksum (R463, R468) -/
  | packet (flow queue ctx seq src mac ident : Nat) (head : List Byte)
  /-- an egress packet of house mode delivered to a local ingress flow (R678): flow, context, sequence number -/
  | loopback (flow ctx seq : Nat)
  /-- an ARP or Neighbor Discovery query of the Stage Manager (R812) -/
  | resolve (port addr : Nat)
  /-- the timestamp of a PTP message as the servo reads it: port, message type, seconds, nanoseconds (R473) -/
  | ptpTime (port typ sec ns : Nat)
  /-- an AUX transaction on a DisplayPort output: port, request, address, bytes -/
  | aux (port req addr : Nat) (bytes : List Byte)
  /-- an AUX reply of a DisplayPort input: port, code, bytes -/
  | auxReply (port code : Nat) (bytes : List Byte)
  /-- a DisplayPort output sends the idle pattern (R408) -/
  | idlePattern (port : Nat)
  /-- a setting tried in link training: lanes and rate by their codes, training patterns in their order, down-spread (R403, R406) -/
  | linkTrain (port lanes rate : Nat) (patterns : List Nat) (ssc : Bool)
  /-- secondary data of a vertical blanking period: the MSA (timing registers, FORMAT, MATRIX, RANGE), the same colour fields in the VSC
  SDP where one is sent (R403) -/
  | blanking (port : Nat) (msa : List Nat) (vsc : Option (List Nat))
  /-- the pixels of a frame sent on a DisplayPort output, in its format and in raster order (R428) -/
  | scanned (port : Nat) (pixels : List (Nat × Nat × Nat))
  /-- a DisplayPort output starts a frame: port, frame-start token, 1 when it draws the Unsourced hatch -/
  | frameStart (port token hatched : Nat)
  /-- a frame on the Understudy Link: type, payload -/
  | pairFrame (typ : Nat) (bytes : List Byte)
  /-- a ball driven: its name by number, its level -/
  | ball (name : Nat) (level : Bool)
  /-- a ball driven high for a time, in µs (R488) -/
  | pulse (name width : Nat)
  /-- a fault notice to the host (R530): collector sequence number -/
  | notice (seq : Nat)
  /-- a JTAG register shifted out: bits -/
  | tdo (bits : Nat)
  /-- a unit request of a microword or of a Cue Engine instruction: engine, unit, operands -/
  | unitReq (engine unit a b : Nat)
  /-- an answer of the prop room to a requester without a window: requester, status, handle (R589, R590) -/
  | poolAnswer (requester status handle : Nat)
  /-- a DRAM read served: channel, device address, its 64 bytes (R612) -/
  | dramData (channel addr : Nat) (bytes : List Byte)
  /-- an AVSBus command: 0 write Vout, 1 read Vout; value -/
  | avs (op v : Nat)
  deriving DecidableEq, Repr
/-! ### Contexts -/

/-- A cell record of R59. -/
structure CellRec where
  time : Nat
  check : Nat
  alive : Nat
  exact : Bool
  hasTime : Bool
  placeholder : Bool
  unproven : Bool
  expired : Bool
  arrival : Bool
  seen : Bool
  picNum : Nat
  /-- encode: time token at which the cell's last entry was issued, none before the first (R48, R50, R56) -/
  issued : Option Nat
  /-- encode: counted in FRESH_RENEW_LATE since its last entry (R50) -/
  late : Bool
  deriving DecidableEq, Repr

/-- The zero record of R60. -/
def CellRec.zero : CellRec :=
  { time := 0, check := 0, alive := 0, exact := false, hasTime := false, placeholder := false, unproven := false,
    expired := false, arrival := false, seen := false, picNum := 0, issued := none, late := false }

/-- What the picture in decoding did to a cell: the conditions of R64 that the decoder finds. -/
structure CellMark where
  error : Bool
  badRef : Bool
  placeholder : Bool
  deriving DecidableEq, Repr

def CellMark.zero : CellMark := { error := false, badRef := false, placeholder := false }

/-- A cue sheet held for its picture: its body and the arrival token of the packet that carried its first byte (R82). -/
structure HeldSheet where
  body : List Byte
  arrival : Nat
  deriving DecidableEq, Repr

/-- A NAL unit of a decode context on its way to decoding (R272): with the timestamp and SSRC of its packet and the arrival of the
first packet that carried it. -/
structure HeldNal where
  don : Nat
  ts : Nat
  ssrc : Nat
  arrival : Nat
  nal : Nal
  deriving DecidableEq, Repr

/-- An access unit of a decode context (R275). -/
structure AccessUnit where
  ts : Nat
  ssrc : Nat
  arrival : Nat
  slices : List SliceInfo
  /-- its sequence parameter sets in their order -/
  sets : List SpsInfo
  /-- its recovery point SEI message: exact_match_flag, recovery_poc_cnt or recovery_frame_cnt -/
  recovery : Option (Bool × Int)
  sheets : List HeldSheet
  /-- some NAL unit of it was lost (R282 code 6) -/
  lost : Bool
  /-- discarded whole as it arrives (R276); refused or skipped before its end -/
  dropped : Bool
  skipped : Bool
  deriving DecidableEq, Repr

/-- The picture a decode context is working on. -/
structure DecPicture where
  au : AccessUnit
  /-- its access unit is still in assembly (R270) -/
  arriving : Bool
  irap : Bool
  /-- it is a recovery-point picture (R289) -/
  recovers : Bool
  /-- R289 suspends the tracking of references in this picture -/
  trusted : Bool
  concealCopy : Bool
  marks : Sparse CellMark
  damaged : List Nat
  /-- the slice segments that are decoded, in decoding order; the CTUs of slice segments and of gaps before them; the CTUs handed
  to Entropy Lanes (R320, R392); the CTUs decoded -/
  slices : List SliceInfo
  cover : List Nat
  handed : List Nat
  done : List Nat
  /-- bays of the crew (R322) -/
  crew : List Nat
  /-- where it is stored; the last good pictures that concealment copies, of top and of bottom lines (R290, R291) -/
  pic : PicRef
  good : Option PicRef × Option PicRef
  /-- its samples before deblocking, by `rawKey` (R292) -/
  raw : Sparse Nat
  /-- of a field picture, 0 for the top field, 1 for the bottom one (R281, R291) -/
  parity : Option Nat
  /-- CTUs invalid by what they read (R286), placeholder-derived ones, concealed ones whose samples are filled; of each CTU
  decoded, the CTUs of this picture that it read -/
  badCtus : List Nat
  holders : List Nat
  filled : List Nat
  reads : List (Nat × List Nat)
  /-- row jobs that have ended: row and tile column; CTU rows filtered and written (R316, R419) -/
  jobsDone : List (Nat × Nat)
  rowsDone : List Nat
  deriving DecidableEq, Repr

/-- A frame of the decoded picture buffer of a decode context (R278, R286, R287, R295). -/
structure DpbEntry where
  /-- the pictures it holds, a frame or the fields of one, by their numbers in the stream; those used for reference -/
  ids : List Nat
  refs : List Nat
  poc : Int
  frameNum : Nat
  placeholder : Bool
  /-- where it is stored; what its output needs while it waits for it; its PicLatencyCount -/
  pic : PicRef
  out : Option DecPicture
  latency : Nat
  /-- invalid and placeholder-derived CTUs, each with its picture -/
  invalid : List (Nat × Nat)
  derived : List (Nat × Nat)
  deriving DecidableEq, Repr

/-- A recovery point SEI message whose picture is looked for (R289): exact_match_flag, the PicOrderCntVal or frame_num of that
picture, the one of the picture found. -/
structure RecoveryWait where
  exact : Bool
  target : Int
  found : Option Int
  deriving DecidableEq, Repr

/-- The state of the session machine of a decode context (R151; the codes of SESS_STATUS). -/
inductive SessState where
  | idle | waitStream | helloSent | opened | backoff | refused
  deriving DecidableEq, Repr

/-- A set of cells, and the ALL flag of REFRESH_REQ. -/
structure RefreshSet where
  all : Bool
  cells : List Nat
  deriving DecidableEq, Repr

def RefreshSet.empty : RefreshSet := { all := false, cells := [] }

/-- A message that waits for its answer: the SEQ of each of its transmissions, the latest first, and how often it has been
sent again (R156, R161). -/
structure Await where
  seqs : List Nat
  resends : Nat
  deriving DecidableEq, Repr

/-- A REFRESH_REQ that waits for its REFRESH_ACK (R156). -/
structure AwaitRefresh where
  wait : Await
  cells : RefreshSet
  deriving DecidableEq, Repr

/-- The session of a decode context. -/
structure DecSession where
  st : SessState
  /-- the SESSION_ID in use, the previous one when the machine leaves IDLE or WAIT_STREAM (R141) -/
  id : Nat
  /-- SEQ of the last message sent -/
  seq : Nat
  helloSeq : Nat
  attempts : Nat
  /-- last SEQ accepted from the encoding end; none: any is accepted (R141) -/
  lastSeq : Option Nat
  version : Nat
  peerAddr : Nat
  ssrc : Nat
  /-- the port on which the latest packet of the stream arrived, 4 before any (R135) -/
  port : Nat
  /-- CELL_COLS × CELL_ROWS of the HELLO_ACK, 0 when it carried none (R154) -/
  cells : Nat
  misses : Nat
  /-- the unanswered KEEPALIVEs of the session: SEQ and send time, the latest first (R153) -/
  kaSent : List (Nat × Nat)
  rejCrc : Nat
  pending : RefreshSet
  /-- REFRESH_REQs that wait for their answers, the one sent least recently first -/
  refreshWait : List AwaitRefresh
  holdoff : Bool
  /-- UPDATEs that wait for their answers, the one sent least recently first -/
  updWait : List Await
  deriving DecidableEq, Repr

def DecSession.init : DecSession :=
  { st := .idle, id := 0, seq := 0, helloSeq := 0, attempts := 0, lastSeq := none, version := 0,
    peerAddr := 0, ssrc := 0, port := 4, cells := 0, misses := 0, kaSent := [], rejCrc := 0,
    pending := RefreshSet.empty, refreshWait := [], holdoff := false, updWait := [] }

/-- An open session of an encode context (R145). -/
structure EncSession where
  id : Nat
  src : Nat
  srcPort : Nat
  port : Nat
  version : Nat
  dlExact : Nat
  dlLossy : Nat
  netAllow : Nat
  kaMs : Nat
  lastSeq : Nat
  seq : Nat
  stale : Nat
  unsourced : Nat
  /-- UPDATEs that wait for their answers, the one sent least recently first -/
  updWait : List Await
  deriving DecidableEq, Repr

/-- The classes of R189. -/
inductive CtuClass where
  | unchanged | exact | graphic | natural | excluded
  deriving DecidableEq, Repr

/-- What an encode context keeps of each CTU. -/
structure CtuRec where
  /-- represented time of R44 to R46; none stands for "no time" (R248) -/
  time : Option Nat
  /-- class of the current picture -/
  cls : CtuClass
  /-- class it had when last coded, for R39 -/
  exactCell : Bool
  held : Nat
  mapEntry : Nat
  policy : Nat
  /-- capture time of the previous source picture at the CTU (R45) -/
  prevSrc : Option Nat
  /-- carried or blanked in the previous coded picture (R251) -/
  owed : Bool
  exactOwed : Bool
  /-- coded intra required until coded (R253) -/
  intra : Bool
  /-- the fill of R198 has been coded -/
  filled : Bool
  /-- asked for by a refresh and not coded intra since; the picture before which no other block may read it (R207) -/
  asked : Bool
  since : Nat
  /-- the refresh wave that has coded it (R205) -/
  fresh : Nat
  /-- in the picture in coding: decided, coded, carried -/
  decided : Bool
  coded : Bool
  carried : Bool
  deriving DecidableEq, Repr

/-- A CTU before anything was coded; the hold count of R189 starts at EXACT_HOLD, which enabling writes. -/
def CtuRec.zero : CtuRec :=
  { time := none, cls := .natural, exactCell := false, held := 0, mapEntry := 0, policy := 0, prevSrc := none, owed := false,
    exactOwed := false, intra := false, filled := false, asked := false, since := 0, fresh := 0, decided := false, coded := false, carried := false }

/-- The rate controller of an encode context between pictures (R235 to R252). -/
structure RateState where
  /-- first picture after enable or an IDR -/
  first : Bool
  fullness : Int
  prevTs : Nat
  exactPrev : Nat
  qp : Int
  row : Nat
  deriving DecidableEq, Repr

def RateState.init : RateState := { first := true, fullness := 0, prevTs := 0, exactPrev := 0, qp := 0, row := 0 }

/-- One slice of the picture in coding: the rate-control state at its first start (R255), what it has spent, whether it closed
its segment (R244) or its segment's Lossy CTUs (R245), its echo failures (R212 to R214). -/
structure SliceRec where
  started : Bool
  spent0 : Nat
  exact0 : Nat
  qp0 : Int
  bits : Nat
  exactBits : Nat
  closes : Bool
  lossyCloses : Bool
  fails : Nat
  passed : Bool
  deriving DecidableEq, Repr

def SliceRec.zero : SliceRec :=
  { started := false, spent0 := 0, exact0 := 0, qp0 := 0, bits := 0, exactBits := 0, closes := false, lossyCloses := false,
    fails := 0, passed := false }

/-- A reference picture of an encode context (R176): where it is stored, the refresh wave in force when it was coded and the
CTUs that wave had refreshed by then (R205). -/
structure EncRef where
  pic : PicRef
  wave : Nat
  fresh : List Nat
  deriving DecidableEq, Repr

/-- The picture an encode context is coding. -/
structure EncPicture where
  ts : Nat
  /-- capture time of luma row 0, none for "no time" -/
  time : Option Nat
  linePs : Nat
  idr : Bool
  null : Bool
  /-- the picture that R304 puts in place of one not started: every CTU carried -/
  allCarried : Bool
  /-- the size of its parameter sets, SEI messages and version 1 sheet, in bits (R237) -/
  sei : Nat
  /-- cells whose source is not proven (R57) -/
  badCells : List Nat
  overhead : Nat
  /-- Bc of R237, and 100 times RE of R239 -/
  budget : Int
  reserve : Int
  lead : Nat
  f : Int
  dt : Nat
  k : Nat
  spent : Nat
  exactSpent : Nat
  qp : Int
  starved : Bool
  decided : Nat
  slices : Sparse SliceRec
  rowsSent : List Nat
  /-- packets that wait for the sheet in frame latency mode (R210) -/
  outbox : List RtpOut
  crew : List Nat
  /-- slices handed to Entropy Lanes (R320) -/
  handed : List Nat
  /-- its source after R173 and R183, its reconstruction, the samples of that before deblocking, by `rawKey` (R212) -/
  src : PicRef
  pic : PicRef
  raw : Sparse Nat
  codes : Sparse CtuCode
  /-- the part of its refresh wave: CTU rows from, to (R203) -/
  waveRows : Nat × Nat
  /-- the decoding order number of its first slice, the bytes that the SEI_PREFIX hook wrote for it (R211, R373) -/
  don : Nat
  pfxBytes : Nat
  /-- slices sent, those that echo held back (R213 to R215) -/
  slicesSent : Nat
  heldSlices : List Nat
  /-- samples in which echo differs after the filters, echo row jobs that have ended, cells compared (R216) -/
  echo : Sparse (Option Nat)
  echoJobs : List (Nat × Nat)
  echoCells : List Nat
  deriving DecidableEq, Repr

/-- A CTU as it is before it is coded. -/
def CtuCode.none : CtuCode := { skip := false, bypass := false, inter := [], copies := [], palette := 0, qp := 0 }

/-- What admission charges a context: its direction and class, its charge in 0.1 PWU, its lane charge in Mbin/s, its
sample rate S in 1/(2 × 10^8) Msample/s, its DRAM charge in MB/s, the search charge of each reference in Mpx/s, its
references, its picture rate in 0.01 Hz (R329 to R333). -/
structure Charge where
  enc : Bool
  cls : Nat
  pwu : Nat
  el : Nat
  smp : Nat
  dram : Nat
  msa : Nat
  refs : Nat
  rate : Nat
  deriving DecidableEq, Repr

def Charge.zero : Charge := { enc := false, cls := 0, pwu := 0, el := 0, smp := 0, dram := 0, msa := 0, refs := 0, rate := 0 }

/-- One context CTX_n. -/
structure Ctx where
  /-- coded size, and the conformance window: its left and top luma offsets and its size (R35, R37) -/
  codedW : Nat
  codedH : Nat
  winX : Nat
  winY : Nat
  winW : Nat
  winH : Nat
  cells : Sparse CellRec
  outCount : Nat
  mapK : Nat
  mapStale : Nat
  unlocked : Bool
  -- cue sheets
  lastSheetSeq : Option Nat
  nextSheetSeq : Nat
  v1Active : Bool
  -- sessions
  dec : DecSession
  encs : List EncSession
  encPending : RefreshSet
  /-- REFRESH_REQ merged and not yet answered: session id, source, SEQ, the port it arrived on (R135, R157) -/
  refreshAcks : List (Nat × Nat × Nat × Nat)
  /-- the version in force for the last complete access unit (R128) -/
  auVersion : Nat
  -- encode
  ctus : Sparse CtuRec
  prevSource : Bool
  srcBuf : Option Nat
  lastSrcSeq : Option Nat
  rtpSeq : Nat
  wantIdr : Bool
  waveStart : Nat
  /-- next CTU row of the refresh wave, none when no wave runs (R203) -/
  waveRow : Option Nat
  intraCells : List Nat
  rate : RateState
  pic : Option EncPicture
  /-- reference pictures, the latest first (R176); the previous source of the Content Analyser (R188, R189); coded pictures so
  far; refresh waves so far (R205) -/
  refs : List EncRef
  prevPic : Option PicRef
  codedNum : Nat
  wave : Nat
  /-- RTP timestamp and time of the last access unit with a buffering period SEI message (R228) -/
  lastBp : Option (Nat × Nat)
  /-- the captured or decoded picture last taken: its source (a port, or 8 and more for a context), its number (R442) -/
  lastCap : Option (Nat × Nat)
  /-- the parameter sets of the latest IDR picture (R179); the decoding order number of the next NAL unit (R211) -/
  psets : Option ParamSets
  don : Nat
  -- decode
  expSeq : Option Nat
  waiting : List RtpPacket
  /-- NAL units that wait for their turn in decoding order, the number of the last one passed, the timestamps of access units whose
  marker has come (R272) -/
  donWait : List HeldNal
  lastDon : Option Nat
  marked : List Nat
  assembling : Option AccessUnit
  fuLost : Bool
  /-- arrival token of the first fragment of the fragmentation unit in progress (R82) -/
  fuArrival : Nat
  queue : List AccessUnit
  /-- the sequence parameter sets met, the one in force, the refused one (R268, R269); those of an access unit without a
  picture, for the next -/
  spss : List SpsInfo
  sps : Option SpsInfo
  refused : Option SpsInfo
  nextSets : List SpsInfo
  started : Bool
  skipChain : Bool
  lastDerived : Bool
  dpic : Option DecPicture
  /-- the decoded picture buffer (R278, R295) -/
  dpb : List DpbEntry
  recov : Option RecoveryWait
  /-- the last good picture of top and of bottom lines (R291), the newest complete one (R280), of each CTU row the newest in which
  it is written (R419) -/
  good : Option PicRef × Option PicRef
  shown : Option PicRef
  rowPics : Sparse (Option PicRef)
  /-- pictures of the frame store by the order of their last use, the latest first -/
  storeUse : List Nat
  /-- a decoded first field whose second has not come (R281) -/
  fieldPic : Option DecPicture
  /-- frame_num of the previous reference frame (R296) -/
  prevFrameNum : Option Nat
  /-- RASL pictures of the last IRAP picture are discarded (R297) -/
  raslSkip : Bool
  /-- output pictures whose sheet has not committed, in output order (R72) -/
  commits : List DecPicture
  starts : List Nat
  frameStore : Nat
  -- admission
  admitted : Bool
  chg : Charge
  /-- Motion Search Array of each reference (R321), Cue Engine (R319) -/
  msas : List Nat
  ce : Nat
  admitOrder : Nat
  degrade : Nat
  /-- its Entropy Lanes, each with its segment: the slice of an encode context, the first CTU of a decode substream (R320); row jobs
  lost with a bay that wait to be placed again (R323) -/
  lanes : List (Nat × Nat)
  reruns : List (Nat × Nat × JobKind)
  overCharges : Nat
  overRaised : Bool
  /-- STOP is written and the picture in progress runs on (R307) -/
  stopping : Bool
  /-- the latest committed version 2 sheet: PIC_TIME, its LOCKED flag, when it committed (R412, R414) -/
  sheetTime : Option Nat
  sheetLocked : Bool
  sheetAt : Option Nat
  deriving DecidableEq, Repr

/-- A context that has never been enabled. -/
def Ctx.init : Ctx :=
  { codedW := 0, codedH := 0, winX := 0, winY := 0, winW := 0, winH := 0, cells := [], outCount := 0, mapK := 0, mapStale := 0,
    unlocked := false, lastSheetSeq := none, nextSheetSeq := 0, v1Active := false, dec := DecSession.init,
    encs := [], encPending := RefreshSet.empty, refreshAcks := [], auVersion := 0, ctus := [],
    prevSource := false, srcBuf := none, lastSrcSeq := none, rtpSeq := 0, wantIdr := false, waveStart := 0,
    waveRow := none, intraCells := [], rate := RateState.init, pic := none, refs := [], prevPic := none, codedNum := 0, wave := 0,
    lastBp := none, lastCap := none, psets := none, don := 0, expSeq := none, waiting := [], donWait := [], lastDon := none, marked := [],
    assembling := none, fuLost := false, fuArrival := 0, queue := [], spss := [], sps := none, refused := none, nextSets := [],
    started := false, skipChain := false, lastDerived := false, dpic := none, dpb := [], recov := none, good := (none, none),
    shown := none, rowPics := [], storeUse := [], fieldPic := none, prevFrameNum := none, raslSkip := false, commits := [],
    starts := [], frameStore := 0,
    admitted := false, chg := Charge.zero, msas := [], ce := 0,
    admitOrder := 0, degrade := 0, lanes := [], reruns := [], overCharges := 0, overRaised := false, stopping := false,
    sheetTime := none, sheetLocked := false, sheetAt := none }

/-! ### Bays, lanes, arrays and the ledger -/

/-- A row job resident in a bay (R316). -/
structure RowJob where
  ctx : Nat
  row : Nat
  tile : Nat
  kind : JobKind
  /-- its CTUs, left to right -/
  ctus : List Nat
  started : List Nat
  /-- Pixel Engines at work on it, with the CTU each holds -/
  on : List (Nat × Nat)
  deriving DecidableEq, Repr

/-- What a Pixel Engine works on: a CTU of a row job of a context, or a work item of a compositor (R317, R390). -/
inductive PxWork where
  | ctu (ctx : Nat) (kind : JobKind) (ctu : Nat)
  | window (i : WinItem)
  deriving DecidableEq, Repr

/-- A work item of a Pixel Engine: its work, its dispatch entry, its row-job slot in bay SRAM, in 64-byte units (R317, R355,
R374). -/
structure PxItem where
  work : PxWork
  entry : Nat
  slotBase : Nat
  slotLen : Nat
  deriving DecidableEq, Repr

/-- A bay: its resident row jobs and what holds it out of service. -/
structure Bay where
  jobs : List RowJob
  /-- out of service for a rehearsal, granted or run (R324, R344) -/
  granted : Bool
  /-- out of service since a failed rehearsal, a reset or a machine check of all engines -/
  out : Bool
  /-- its last rehearsal failed (R710, R711) -/
  failed : Bool
  /-- its nano store has had a parity error and is out for it (R391), for good when it is stuck (R395); its reload is under way (R393) -/
  nano : Bool
  stuck : Bool
  reloading : Bool
  /-- compositor work items that wait for an engine (R390) -/
  items : List PxItem
  deriving DecidableEq, Repr

def Bay.init : Bay :=
  { jobs := [], granted := false, out := false, failed := false, nano := false, stuck := false, reloading := false, items := [] }

/-- A Pixel Engine beside its page: the registers before R355, its work item, the events it waits for and those that
have occurred (bits as in WAIT), the call into the customer region it is in (the return stack at its entry, the entry word),
whether BREAK stopped it, its steps below 2^16; whether a machine check of its own holds it out of service, and for good; whether the
reload of its micro store is under way (R389, R393, R395). -/
structure Px where
  item : Option PxItem
  pc : Nat
  /-- vector registers and accumulators, as lists of lanes -/
  v : Sparse (List Nat)
  acc : Sparse (List Nat)
  masks : Sparse Nat
  s : Sparse Nat
  /-- clip ranges: low and high, as lane values -/
  cl : Sparse (Int × Int)
  il : Nat
  lc : Nat
  stack : List Nat
  z : Bool
  n : Bool
  any : Bool
  all : Bool
  wait : Option Nat
  seen : Nat
  cust : Option (List Nat)
  custEntry : Nat
  broken : Bool
  steps : Nat
  down : Bool
  stuck : Bool
  reloading : Bool
  deriving DecidableEq, Repr

def Px.init : Px :=
  { item := none, pc := 0, v := [], acc := [], masks := [], s := [], cl := [], il := 0, lc := 0, stack := [], z := false, n := false,
    any := false, all := false, wait := none, seen := 0, cust := none, custEntry := 0, broken := false, steps := 0,
    down := false, stuck := false, reloading := false }

/-- The yield frame of a Cue Engine (R366), and the hook call that the task is in. -/
structure YieldFrame where
  pc : Nat
  z : Bool
  n : Bool
  c : Bool
  stack : List Nat
  hook : Option (List Nat × Nat)
  deriving DecidableEq, Repr

/-- A Cue Engine beside its page: its registers (G1 to G15 of the handler level at 32 more), flags, call stack, level (0
idle, 1 task, 2 handler), yield frame, the outermost routine of its task, the count of R370, its hook call (call stack
at its entry, words executed), whether BREAK stopped it. -/
structure CeEng where
  g : Sparse Nat
  z : Bool
  n : Bool
  c : Bool
  pc : Nat
  stack : List Nat
  level : Nat
  frame : Option YieldFrame
  outer : Nat
  count : Nat
  hook : Option (List Nat × Nat)
  broken : Bool
  deriving DecidableEq, Repr

def CeEng.init : CeEng :=
  { g := [], z := false, n := false, c := false, pc := 0, stack := [], level := 0, frame := none, outer := 0, count := 0,
    hook := none, broken := false }

/-- The microcode stores: the words every instance of a kind holds, the instances' own words where they differ (with
the parity bits above the word), by kind × 2^24 + instance × 2^13 + address; the words at which a parity error was found, each
with the time of the reload that followed it (R350, R395). -/
structure Stores where
  px : Sparse Nat
  nano : Sparse Nat
  ce : Sparse Nat
  own : Sparse (Option Nat)
  reloads : List (Nat × Option Nat)
  deriving DecidableEq, Repr

def Stores.init : Stores := { px := [], nano := [], ce := [], own := [], reloads := [] }

/-- One degradation step applied, newest first in the list of the ledger (R337). -/
structure Degradation where
  ctx : Nat
  step : Nat
  /-- CTX_STATUS.DEGRADE before the step -/
  prev : Nat
  deriving DecidableEq, Repr

/-- An admission request (R342): of a context, at its enable or at a hand-over, or of a compositor. -/
structure AdmitReq where
  ctx : Nat
  comp : Bool
  handover : Bool
  deriving DecidableEq, Repr

/-- A decision on a hand-over that has not been taken up (R548): the request, the charges it asked for, its status, and
what was committed before. -/
structure AdmitDec where
  req : AdmitReq
  chg : Charge
  /-- of a compositor, the charge of each window -/
  wins : List Nat
  status : Nat
  oldChg : Charge
  oldMsas : List Nat
  oldWins : List Nat
  deriving DecidableEq, Repr

structure Ledger where
  /-- raw ledgers of the last updates, newest first, at most 8 -/
  raws : List Nat
  stack : List Degradation
  /-- updates since the present undo qualification began, none when it is broken -/
  qualify : Option Nat
  waiting : List AdmitReq
  decided : List AdmitDec
  order : Nat
  /-- R817: the DRAM charge formed last for each port: DP_OUT_n at n, DP_IN_n at 8 + n; 0 when none is listed -/
  ports : List (Nat × Nat)
  deriving DecidableEq, Repr

def Ledger.init : Ledger :=
  { raws := [], stack := [], qualify := none, waiting := [], decided := [], order := 0, ports := [] }

/-- The margin machinery beside its registers: the quiet updates of R716, the tries on the VDD_CORE rail and the limit
of R718, the operating time in ticks of the time base, and the journal cache of R719. -/
structure Margin where
  quiet : Nat
  avsTries : Nat
  avsLimit : Nat
  opTicks : Nat
  updates : Nat
  canSums : List Nat
  canMax : List Nat
  spSum : Nat
  spMax : Nat
  tempSum : Int
  tempMax : Int
  rawSum : Nat
  rawMin : Option Nat
  raises : Nat
  limited : Nat
  rehPass : Bool
  rehFail : Bool
  avsError : Bool
  deriving DecidableEq, Repr

def Margin.init : Margin :=
  { quiet := 0, avsTries := 0, avsLimit := 0, opTicks := 0, updates := 0, canSums := [], canMax := [], spSum := 0, spMax := 0,
    tempSum := 0, tempMax := 0, rawSum := 0, rawMin := none, raises := 0, limited := 0, rehPass := false, rehFail := false,
    avsError := false }
/-! ### Display and capture -/

/-- A cell of a decode window as the compositor reads it in a frame: window, cell, pattern of R78, of each CTU row of the cell
the picture it is read from (R419). -/
structure CellRead where
  win : Nat
  cell : Nat
  pattern : Nat
  rows : List (Option PicRef)
  deriving DecidableEq, Repr

/-- A DisplayPort output and its compositor beside their pages: the AUX transaction in progress (its command, the defers
and the timeouts so far), video that starts at the next frame start, STOP written, the pixel clock's distance from
nominal in 10^−6; of the frame in scan-out: whether it draws the Stop state, the window cells judged, the windows that
drew hatch, whether a pixel was late; the picture each decode window shows complete since the frame start, the cells read so far,
the check value of the frame once it is composed (R419, R449); the pixels that were late (R430), the window cells verified
(R432). -/
structure DpOut where
  aux : Option (Word × Nat × Nat)
  go : Bool
  stopping : Bool
  slew : Int
  stopped : Bool
  checked : List (Nat × Nat)
  drew : Nat
  late : Bool
  shown : Sparse (Option PicRef)
  reads : List CellRead
  composed : Option Nat
  latePix : List (Nat × Nat)
  verified : List (Nat × Nat)
  /-- of the frame to be composed, the work items whose kernel, or whose effect, customer code abandoned (R376) -/
  defaults : List (WinItem × Bool)
  /-- the sink's test CRC is started; the frames sent since, the CRCs of their components, newest first, for the last 16 (R434) -/
  testOn : Bool
  testCount : Nat
  testCrcs : List (BitVec 16 × BitVec 16 × BitVec 16)
  deriving DecidableEq, Repr

def DpOut.init : DpOut :=
  { aux := none, go := false, stopping := false, slew := 0, stopped := false, checked := [], drew := 0, late := false,
    shown := [], reads := [], composed := none, latePix := [], verified := [], defaults := [],
    testOn := false, testCount := 0, testCrcs := [] }

/-- A frame in a source buffer of a DisplayPort input (R438, R439, R442): its number, the capture time of each line, lines
captured without lock, whether its last active line has come. -/
structure CapFrame where
  num : Nat
  times : Sparse (Option Nat)
  lost : List Nat
  complete : Bool
  deriving DecidableEq, Repr

def CapFrame.init : CapFrame := { num := 0, times := [], lost := [], complete := false }

/-- A DisplayPort input beside its page: its DPCD bytes that the source wrote, the EDID pointer of its I2C target, its
converted lines, the ring of source buffers, the one in use, the frame-start tokens since lock, frames since the last
one written; the frames in its buffers, by their place in the ring, frames begun so far; the colorimetry of a
YCbCr input (R441). -/
structure DpIn where
  dpcd : Sparse Byte
  ptr : Nat
  lines : Sparse (List (Nat × Nat × Nat))
  ring : List Nat
  at_ : Nat
  starts : List Nat
  decim : Nat
  frames : Sparse CapFrame
  count : Nat
  colour : Nat × Bool
  deriving DecidableEq, Repr

def DpIn.init : DpIn :=
  { dpcd := [], ptr := 0, lines := [], ring := [], at_ := 0, starts := [], decim := 0, frames := [], count := 0, colour := (1, true) }

/-! ### Faults -/

/-- A fault message of R684. -/
structure FaultMsg where
  source : Nat
  kind : Nat
  severity : Nat
  consequential : Bool
  escalated : Bool
  forced : Bool
  time : Nat
  addr : Nat
  deriving DecidableEq, Repr

/-- The fault collector beside its registers. -/
structure FaultCtl where
  /-- messages raised and not taken, oldest first; at most two per source (R687) -/
  inputs : List FaultMsg
  /-- raised in a full input: what R687 leaves of their reactions is due -/
  lost : List FaultMsg
  containStart : Sparse (Option Nat)
  /-- curtain windows: block, and the time it closes once the reset has ended (R696) -/
  windows : List (Nat × Option Nat)
  reqAborted : Sparse (Option Nat)
  /-- the last heartbeat (R704), the last edge of the ghost light -/
  beat : Option Nat
  deriving DecidableEq, Repr

def FaultCtl.init : FaultCtl :=
  { inputs := [], lost := [], containStart := [], windows := [], reqAborted := [], beat := none }

/-! ### Reset controller -/

/-- The reset sources of R640, and a full rehearsal, which holds domains as a source does (R711). -/
inductive ResetSource where
  | powerOn | rstN | pwd | lockstep | softFull | pair | perstN | smwd | smReset | rehearsal
  deriving DecidableEq, Repr

/-- The reset controller beside its registers.  Domains are numbered 1 to 8 as in the table of domains, 9 for 9a,
10 for 9b and 11 for domain 10, which is the order of their release (R645). -/
structure ResetCtl where
  asserted : List ResetSource
  held : List Nat
  /-- released domains that are not ready yet -/
  notReady : List Nat
  /-- ball levels, true high -/
  rstN : Bool
  perstN : Bool
  /-- supplies up (the power-on detector of R791) -/
  powered : Bool
  pwdStart : Nat
  smwdStart : Nat
  /-- the last valid kick, none since release (R643) -/
  smKick : Option Nat
  /-- whether the house Stage Manager runs -/
  house : Bool
  /-- the first group of the range that the house device claims, none before it has listened (R677) -/
  claim : Option Nat
  deriving DecidableEq, Repr

/-- Power-on: every domain held. -/
def ResetCtl.init : ResetCtl :=
  { asserted := [.powerOn], held := [1, 2, 3, 4, 5, 6, 7, 8, 9, 10, 11], notReady := [], rstN := true, perstN := true,
    powered := false, pwdStart := 0, smwdStart := 0, smKick := none, house := false, claim := none }
/-! ### Trust -/

/-- The prompt-call mailbox beside the TRUST page (R669 to R672) and what the Prompter recorded: calls posted and not
taken as core and slot, the CALL_SEQ of the last call of each core since domain 10 was released, the SHA-384 of the
loaded code region (R666). -/
structure TrustCtl where
  posts : List (Nat × Nat)
  last : Sparse (Option Nat)
  smHash : Option (List Byte)
  deriving DecidableEq, Repr

def TrustCtl.init : TrustCtl := { posts := [], last := [], smHash := none }

/-! ### Network and time -/

/-- A flow entry and its generation (R462, R463). -/
structure Flow where
  words : List Nat
  gen : Nat
  /-- identification of its next IPv4 packet (R468) -/
  ident : Nat
  /-- packets of the flow discarded as oversize raise at most one fault a second (R470) -/
  overAt : Option Nat
  deriving DecidableEq, Repr

def Flow.init : Flow := { words := [], gen := 0, ident := 0, overAt := none }

/-- Bit 0 of word 0. -/
def Flow.valid (x : Flow) : Bool := x.words.getD 0 0 % 2 == 1

/-- The source MAC of the latest frame from an address on a port (R812). -/
structure MacEntry where
  port : Nat
  addr : Nat
  mac : Nat
  deriving DecidableEq, Repr

/-- A session message that waits for its address to be resolved (R812). -/
structure WaitMsg where
  ctx : Nat
  port : Nat
  addr : Nat
  dport : Nat
  bytes : List Byte
  deriving DecidableEq, Repr

/-- A frame that waits in a shaper queue: its bytes with FCS, when it was queued, for the control path its slot of the
transmit ring, for an RTP packet its context and sequence number. -/
structure QFrame where
  len : Nat
  at_ : Nat
  slot : Option Nat
  ctx : Nat
  seq : Nat
  deriving DecidableEq, Repr

/-- A shaper queue (R489 to R492, R498). Credit in units of 10^−9 bit, times of the wire in ps. -/
structure SQueue where
  credit : Int
  last : Nat
  wireEnd : Nat
  /-- a write waits for the end of the frame on the wire: configuration and rate in force until then (R492) -/
  old : Option (Nat × Nat)
  frames : List QFrame
  drops : Nat
  dropAt : Option Nat
  sent : Nat
  depthBins : List Nat
  delayBins : List Nat
  samples : Nat
  maxDelay : Nat
  deriving DecidableEq, Repr

def SQueue.init : SQueue :=
  { credit := 0, last := 0, wireEnd := 0, old := none, frames := [], drops := 0, dropAt := none, sent := 0,
    depthBins := [], delayBins := [], samples := 0, maxDelay := 0 }

/-- A policer (R494 to R497): its registers, its bucket levels in units of 10^−6 bit, and the arrival token they stand
at. -/
structure Policer where
  cir : Nat
  cbs : Nat
  pir : Nat
  pbs : Nat
  mode : Nat
  cLevel : Nat
  pLevel : Nat
  at_ : Nat
  green : Nat
  yellow : Nat
  red : Nat
  deriving DecidableEq, Repr

/-- The reset values of R506, both buckets full. -/
def Policer.init : Policer :=
  { cir := 0, cbs := 0x2400, pir := 0, pbs := 0x2400, mode := 0, cLevel := 0x2400 * 8000000,
    pLevel := 0x2400 * 8000000, at_ := 0, green := 0, yellow := 0, red := 0 }

/-- The time base (R477 to R488). -/
structure TimeBase where
  sec : Nat
  ns : Nat
  frac : Nat
  /-- increment in use: ns and fraction -/
  incNs : Nat
  incFrac : Nat
  /-- a step and an increment that apply from the next tick (R480, R483) -/
  step : Option Int
  inc : Option (Nat × Nat)
  /-- since when the base has been locked without interruption (R113) -/
  lockedSince : Nat
  /-- the seconds that PPS_IN latched and no read has shown yet (R488) -/
  ppsSec : Nat
  deriving DecidableEq, Repr

def TimeBase.init : TimeBase :=
  { sec := 0, ns := 0, frac := 0, incNs := 2, incFrac := 0, step := none, inc := none, lockedSince := 0, ppsSec := 0 }

/-! ### DRAM -/

/-- A request queued at a DRAM channel (R612): its device address, class (0 Scan-out, 1 Real-time pixel, 2 Bulk, 3
Maintenance), NO_BREAK, its requester's fault source, when it was accepted, whether R616 has promoted it; of a read, the data of the latest write
accepted before it. -/
structure DramReq where
  write : Bool
  addr : Nat
  cls : Nat
  noBreak : Bool
  source : Nat
  at_ : Nat
  promoted : Bool
  data : List Byte
  deriving DecidableEq, Repr

/-- A DRAM channel beside its page: its read and write queues, oldest first; of sub-channels A and B whether they drain,
their open rows by bank, their MR4 rate, when they last refreshed; a training failure that holds ordered service, the
retrainings that failed since; a retraining pause that waits; requests issued below 2^16. -/
structure DramCh where
  reads : List DramReq
  writes : List DramReq
  drain : List Nat
  rows : Sparse (Option Nat)
  rates : Sparse Nat
  refAt : Sparse Nat
  failed : Bool
  tries : Nat
  pause : Option Nat
  readRem : Nat
  writeRem : Nat
  /-- raw bytes and sector bytes of the blocks written since the last update of its ratio (R630) -/
  raw : Nat
  sect : Nat
  deriving DecidableEq, Repr

def DramCh.init : DramCh :=
  { reads := [], writes := [], drain := [], rows := [], rates := [], refAt := [], failed := false, tries := 0, pause := none,
    readRem := 0, writeRem := 0, raw := 0, sect := 0 }

/-- A block slot in the Reference Cache (R631): its device address in 128-byte units, the 64-byte units of it that were read,
with their bytes. -/
structure RefSlot where
  addr : Nat
  units : Sparse (List Byte)
  deriving DecidableEq, Repr

/-- The Reference Cache: the slots of each set, the one used last first, and the sectors that hit and missed below 2^16. -/
structure RefCache where
  sets : Sparse (List RefSlot)
  hits : Nat
  misses : Nat
  deriving DecidableEq, Repr

def RefCache.init : RefCache := { sets := [], hits := 0, misses := 0 }

/-! ### Services -/

/-- A buffer of the prop room (R587, R588): times freed, reference count (0 free), requester charged, and for the first
buffer of a span the buffers of it. -/
structure PoolBuf where
  frees : Nat
  count : Nat
  owner : Nat
  span : Nat
  deriving DecidableEq, Repr

def PoolBuf.init : PoolBuf := { frees := 0, count := 0, owner := 0, span := 1 }

/-- The prop room beside its registers: the enables so far (R813 step 1), its buffers by pool × 2^21 + index. -/
structure PoolCtl where
  adv : Nat
  bufs : Sparse PoolBuf
  deriving DecidableEq, Repr

def PoolCtl.init : PoolCtl := { adv := 0, bufs := [] }

/-- The Cue Exchange beside its registers: generation of each source (R558), sources whose next stored cue carries
LOST_BEFORE or AFTER_RESET (R563, R565), hold-offs running by target and group (R571), sequence numbers of the
sources of the hardware blocks (R565). -/
structure CuexCtl where
  gens : Sparse Nat
  lost : List Nat
  fresh : List Nat
  holdoff : List (Nat × Nat)
  seqs : Sparse Nat
  deriving DecidableEq, Repr

def CuexCtl.init : CuexCtl := { gens := [], lost := [], fresh := [], holdoff := [], seqs := [] }

/-- The two banks of a service FIFO, oldest item first (R592). -/
structure Fifo where
  fill : List Nat
  drain : List Nat
  deriving DecidableEq, Repr

def Fifo.init : Fifo := { fill := [], drain := [] }

/-- A job of a check-value channel: who posted it (R601: 0 hardware, 1 Prompter, 2 Stage Manager and Cue Engines, 3
host), its descriptor's Pool Memory offset. -/
structure CvuJob where
  poster : Nat
  offset : Nat
  deriving DecidableEq, Repr

/-! ### Host -/

/-- A host command fetched and not completed (R518, R520): its queue, its fetch number, its tally sequence, its 64
bytes. -/
structure CmdJob where
  queue : Nat
  num : Nat
  seq : Nat
  entry : List Byte
  deriving DecidableEq, Repr

/-- A command queue with its tally ring (R525, R526): sequences issued, those at or above C whose entries are written,
the count word last written, commands fetched, a count word that waits for the host (R513). -/
structure HostQ where
  issued : Nat
  written : List Nat
  counted : Nat
  fetched : Nat
  countDue : Bool
  deriving DecidableEq, Repr

def HostQ.init : HostQ := { issued := 0, written := [], counted := 0, fetched := 0, countDue := false }

/-- The host queues beside their page: the commands at work, the queue fetched last, the notices folded since the last
fold entry, tally entries that wait for the host (queue, sequence, bytes). -/
structure HostCtl where
  queues : Sparse HostQ
  jobs : List CmdJob
  last : Nat
  fold : Nat
  waiting : List (Nat × Nat × List Byte)
  deriving DecidableEq, Repr

def HostCtl.init : HostCtl := { queues := [], jobs := [], last := 15, fold := 0, waiting := [] }

/-- A DMA channel beside its page: the tally job it holds (ring, sequence), the descriptor in progress, the address of
the next one and whether the host holds it, the count of R536. -/
structure DmaCh where
  job : Option (Nat × Nat)
  desc : Option (List Byte)
  next : Nat
  nextHost : Bool
  hops : Nat
  deriving DecidableEq, Repr

def DmaCh.init : DmaCh := { job := none, desc := none, next := 0, nextHost := false, hops := 0 }

/-- The PCI Express endpoint beside the HOSTQ page: link, speed, width, and the configuration space by dword. -/
structure Pcie where
  up : Bool
  speed : Nat
  width : Nat
  cfg : Sparse Word
  deriving DecidableEq, Repr

def Pcie.init : Pcie := { up := false, speed := 0, width := 0, cfg := [] }

/-- The JTAG instruction in force (R713, R789, R797). -/
inductive TapIr where
  | idcode | bypass | rehRun | boundary | debug
  deriving DecidableEq, Repr

/-- The TAP: its instruction, the balls that boundary scan drives. -/
structure Tap where
  ir : TapIr
  driven : List (Nat × Bool)
  deriving DecidableEq, Repr

/-- A TAP just reset. -/
def Tap.init : Tap := { ir := .idcode, driven := [] }

/-! ### Redundant pairs -/

/-- An RTP packet of a shadow access unit in the hold (R746). -/
structure HeldPkt where
  seq : Nat
  ts : Nat
  marker : Bool
  pkt : RtpOut
  deriving DecidableEq, Repr

/-- A PICTURE frame of the lead (R732, R740): its TX_TIME, FLAGS, HANDOVER_GEN, SRC_KEY, LINE_PERIOD, the cells of its two
bitmaps, the capture tokens of its CTU rows. -/
structure PairPic where
  tx : Nat
  flags : Nat
  gen : Nat
  key : Nat
  line : Nat
  unproven : List Nat
  refresh : List Nat
  times : List Nat
  deriving DecidableEq, Repr

/-- The four values of a DIGEST and its RTP timestamp (R743). -/
structure PairDigest where
  ts : Nat
  first : Nat
  last : Nat
  bytes : Nat
  crc : Nat
  deriving DecidableEq, Repr

/-- An XCHECK entry (R732) and the token at which it came to be here. -/
structure XEntry where
  ctx : Nat
  ts : Nat
  cell : Nat
  outcome : Nat
  mine : Nat
  sheet : Nat
  time : Nat
  at_ : Nat
  deriving DecidableEq, Repr

/-- A session of an encode context as the lead's SESSION frames tell it (R750). -/
structure SessCopy where
  ctx : Nat
  id : Nat
  peer : Nat
  peerPort : Nat
  version : Nat
  lastSent : Nat
  lastAcc : Nat
  kaMs : Nat
  dlExact : Nat
  dlLossy : Nat
  netAllow : Nat
  deriving DecidableEq, Repr

/-- What a redundant pair keeps of an encode context: the hold by access unit, the packets of the access unit in coding,
HOLD_FULL, the lead's LAST_SENT, PICTURE frames that wait, the digests of either partner that wait for the other's, STATE
bytes by offset, a snapshot that is due (a lead) or awaited (an understudy), a switch that has reached the context; sequence
number and bytes of the packets of the access unit so far. -/
structure PairCtx where
  hold : List (List HeldPkt)
  building : List HeldPkt
  full : Bool
  lastSent : Option Nat
  pics : List PairPic
  mine : List PairDigest
  theirs : List PairDigest
  snap : Sparse (Option Byte)
  resync : Bool
  switched : Bool
  au : List (Nat × Nat)
  deriving DecidableEq, Repr

def PairCtx.init : PairCtx :=
  { hold := [], building := [], full := false, lastSent := none, pics := [], mine := [], theirs := [], snap := [],
    resync := false, switched := false, au := [] }

/-- The Understudy Link beside the PAIR page: the next SEQ sent and the next one awaited, frames that wait for a missing SEQ
(SEQ, bytes, arrival token), TX_TIME and arrival of the last heartbeat received, LEAD_SINCE, times of self-faulty verdicts,
cross-check entries of either partner, the copy of the session table, contexts, the SWITCH_TIME of a planned switch and
whether the partner has agreed to it, the token at which a RESET was sent and may still cross, a HELLO without a common version met. -/
structure PairCtl where
  txSeq : Nat
  rxNext : Nat
  waiting : List (Nat × List Byte × Nat)
  echo : Nat × Nat
  leadSince : Nat
  suspects : List Nat
  mine : List XEntry
  theirs : List XEntry
  sessions : List SessCopy
  ctxs : Sparse PairCtx
  swTime : Option Nat
  swAgreed : Bool
  resetSent : Option Nat
  noVersion : Bool
  deriving DecidableEq, Repr

def PairCtl.init : PairCtl :=
  { txSeq := 0, rxNext := 0, waiting := [], echo := (0, 0), leadSince := 0, suspects := [], mine := [], theirs := [],
    sessions := [], ctxs := [], swTime := none, swAgreed := false, resetSent := none, noVersion := false }

/-! ### The whole -/

/-- The state of the block. -/
structure State where
  /-- commands that wait, first in first out -/
  pending : List Instr
  /-- the register file: keys are BAR 0 offsets, unlisted registers at their reset values -/
  regs : Sparse Word
  /-- latched high words of 64-bit quantities (R7): register of the high word, value -/
  latches : Sparse (Option Word)
  /-- device memory by device address: DRAM, and Pool Memory at its place (R609) -/
  mem : Sparse Byte
  /-- regions of device memory whose content is undefined, latest first: base, bytes, number (the model's own) -/
  scrap : List (Nat × Nat × Nat)
  /-- host memory -/
  hostMem : Sparse Byte
  /-- reset controller -/
  rc : ResetCtl
  fc : FaultCtl
  trust : TrustCtl
  tb : TimeBase
  ctxs : Sparse Ctx
  bays : Sparse Bay
  px : Sparse Px
  ce : Sparse CeEng
  stores : Stores
  /-- bay SRAM, by bay × 2^22 + byte address (R358) -/
  sram : Sparse Byte
  /-- bins of each lane below 2^16 (EL_BINS) -/
  bins : Sparse Nat
  ledger : Ledger
  margin : Margin
  /-- the signature of each rehearsal unit in its last rehearsal, by unit number (REH_SIG_LO, REH_SIG_HI) -/
  sigs : Sparse Nat
  dpOuts : Sparse DpOut
  drams : Sparse DramCh
  /-- the Reference Cache: of each set its slots, the one used last first (R631) -/
  refc : RefCache
  dpIns : Sparse DpIn
  /-- the one-time programmable memory (R662) and the flash, by byte offset -/
  otp : Sparse Byte
  flash : Sparse Byte
  flows : Sparse Flow
  macs : List MacEntry
  sessWait : List WaitMsg
  queues : Sparse SQueue
  /-- the queue each port served last at each priority: key 8 × port + PRIO (R490) -/
  served : Sparse Nat
  policers : Sparse Policer
  pool : PoolCtl
  cuex : CuexCtl
  fifos : Sparse Fifo
  /-- jobs of the check-value channels, the first the one that runs -/
  cvu : Sparse (List CvuJob)
  host : HostCtl
  dma : Sparse DmaCh
  pcie : Pcie
  tap : Tap
  pair : PairCtl
  /-- PTP settings of each network port: the bytes of PTP_CONFIG from domainNumber on (R471, R523) -/
  ptp : Sparse (List Byte)
  /-- the model's own: what the block has put out, newest first -/
  out : List Output
  /-- the model's own: free values taken so far -/
  freeCtr : Nat
  deriving DecidableEq, Repr

/-- Power-on: every register at its reset value, every domain held, nothing in any memory or queue. -/
def State.reset : State :=
  { pending := [], regs := [], latches := [], mem := [], scrap := [], hostMem := [], rc := ResetCtl.init, fc := FaultCtl.init, trust := TrustCtl.init,
    tb := TimeBase.init, ctxs := [], bays := [], px := [], ce := [], stores := Stores.init, sram := [], bins := [], ledger := Ledger.init, margin := Margin.init,
    sigs := [], dpOuts := [], drams := [], refc := RefCache.init, dpIns := [], otp := [], flash := [], flows := [], macs := [], sessWait := [],
    queues := [], served := [], policers := [], pool := PoolCtl.init, cuex := CuexCtl.init, fifos := [], cvu := [],
    host := HostCtl.init, dma := [], pcie := Pcie.init, tap := Tap.init, pair := PairCtl.init, ptp := [], out := [], freeCtr := 0 }

end Sys2Proof.Machine
end

