-- ==== Sys2Proof/Machine/Ops.lean ====
section
/-! DEFINITION. The named operations every chapter uses: registers and their fields, counters, memories, the time
token, outputs, free values, the records of contexts, and the raising of a fault message (R684 to R695). -/

namespace Sys2Proof.Machine

/-! ### Registers -/

/-- The value a register holds. -/
def State.reg (s : State) (k : Nat) : Word := Sparse.get regReset s.regs k

/-- The value a register holds, as a number. -/
def State.regN (s : State) (k : Nat) : Nat := (s.reg k).toNat

/-- A register set to a word. -/
def State.setReg (s : State) (k : Nat) (v : Word) : State := { s with regs := Sparse.set regReset s.regs k v }

/-- A register set to a number, modulo 2^32. -/
def State.setRegN (s : State) (k v : Nat) : State := s.setReg k (BitVec.ofNat 32 v)

/-- Bits [hi:lo] of a register. -/
def State.fld (s : State) (k hi lo : Nat) : Nat := bits (s.reg k) hi lo

/-- Bits [hi:lo] of a register replaced. -/
def State.setFld (s : State) (k hi lo v : Nat) : State := s.setReg k (putBits (s.reg k) hi lo v)

/-- Bit n of a register. -/
def State.rbit (s : State) (k n : Nat) : Bool := bit (s.reg k) n

/-- Bit n of a register replaced. -/
def State.setRbit (s : State) (k n : Nat) (b : Bool) : State := s.setReg k (putBit (s.reg k) n b)

/-- A counter that stops at 0xFFFF_FFFF, `n` more (R260, R314, R349, R451, R508, R555, R606, R639, R683, R725). -/
def State.bump (s : State) (k n : Nat) : State := s.setReg k (sat32 (s.regN k + n))

/-- A counter that wraps, `n` more. -/
def State.wrapAdd (s : State) (k n : Nat) : State := s.setRegN k (s.regN k + n)

/-- A register that keeps the largest value seen. -/
def State.keepMax (s : State) (k v : Nat) : State := if s.regN k < v then s.setReg k (sat32 v) else s

/-- A 64-bit quantity in two consecutive registers, low word first (R6). -/
def State.reg64 (s : State) (k : Nat) : Nat := s.regN k + 2 ^ 32 * s.regN (k + 4)

/-- A 64-bit quantity written. -/
def State.setReg64 (s : State) (k v : Nat) : State := (s.setRegN k v).setRegN (k + 4) (v / 2 ^ 32)

/-- The shadow copy of an active-set register stands 0x400 higher (R98, R222, R447, R543). -/
def shadowOf (k : Nat) : Nat := k + 0x400

/-- Copy a list of registers, each from its shadow to its active place. -/
def State.copyShadow (s : State) (ks : List Nat) : State :=
  ks.foldl (fun t k => t.setReg k (t.reg (shadowOf k))) s

/-! ### Outputs and free values -/

/-- The block puts something out. -/
def State.emit (s : State) (o : Output) : State := { s with out := o :: s.out }

/-- The next free value, and the state that has used it (assumption 2). -/
def State.takeFree (s : State) : Word × State :=
  (Config.freeValue s.freeCtr, { s with freeCtr := s.freeCtr + 1 })

/-! ### Time -/

/-- The time token of now: nanoseconds since the PTP epoch on the time base.  What a clocked domain stamped earlier comes
as an operand of the event (R18). -/
def State.now (s : State) : Nat := s.tb.sec * 1000000000 + s.tb.ns

/-- Whether the time base is locked (TIME_STATUS.LOCKED). -/
def State.locked (s : State) : Bool := s.rbit Reg.TIME_STATUS 0

/-- The time base changed by a function. -/
def State.modTb (s : State) (f : TimeBase → TimeBase) : State := { s with tb := f s.tb }

/-! ### Memory -/

/-- What a byte of memory that nothing has written reads as: zero (assumption 5), and inside a region whose content
the spec calls undefined, a free byte of the latest such region (R587, R635; assumption 2). -/
def memDefault (scrap : List (Nat × Nat × Nat)) (a : Nat) : Byte :=
  match scrap.find? (fun r => Nat.ble r.1 a && Nat.blt a (r.1 + r.2.1)) with
  | some r => Config.freeByte r.2.2 a
  | none => 0

/-- What a byte of host memory that nothing has written reads as (assumption 5). -/
def memReset (_ : Nat) : Byte := 0

/-- A byte of device memory: DRAM, and Pool Memory at its place of R609. -/
def State.mem8 (s : State) (a : Nat) : Byte := Sparse.get (memDefault s.scrap) s.mem a

/-- `n` bytes of device memory from an address. -/
def State.memBytes (s : State) (a n : Nat) : List Byte := Sparse.getRange (memDefault s.scrap) s.mem a n

/-- Device memory with bytes written from an address. -/
def State.memWrite (s : State) (a : Nat) (bs : List Byte) : State :=
  { s with mem := Sparse.setRange (memDefault s.scrap) s.mem a bs }

/-- A region of device memory whose content is now undefined: every byte of it free, none listed. -/
def State.memScrap (s : State) (a n : Nat) : State :=
  { s with
    mem := s.mem.filter (fun p => !(Nat.ble a p.1 && Nat.blt p.1 (a + n))),
    scrap := (a, n, s.freeCtr) :: s.scrap,
    freeCtr := s.freeCtr + 1 }

/-- A little-endian number of `n` bytes of device memory (R2). -/
def State.memLE (s : State) (a n : Nat) : Nat := leNat (s.memBytes a n)

/-- The device address of Pool Memory (R609). -/
def poolBase : Nat := 0x0800000000

/-- `n` bytes of Pool Memory from an offset. -/
def State.pmBytes (s : State) (o n : Nat) : List Byte := s.memBytes (poolBase + o) n

/-- Pool Memory with bytes written from an offset. -/
def State.pmWrite (s : State) (o : Nat) (bs : List Byte) : State := s.memWrite (poolBase + o) bs

/-- `n` bytes of host memory from an address. -/
def State.hostBytes (s : State) (a n : Nat) : List Byte := Sparse.getRange memReset s.hostMem a n

/-- Host memory with bytes written from an address. -/
def State.hostWrite (s : State) (a : Nat) (bs : List Byte) : State :=
  { s with hostMem := Sparse.setRange memReset s.hostMem a bs }

/-! ### Records -/

/-- Context c. -/
def State.ctx (s : State) (c : Nat) : Ctx := Sparse.get (fun _ => Ctx.init) s.ctxs c

/-- Context c replaced. -/
def State.setCtx (s : State) (c : Nat) (x : Ctx) : State :=
  { s with ctxs := Sparse.set (fun _ => Ctx.init) s.ctxs c x }

/-- Context c changed by a function. -/
def State.modCtx (s : State) (c : Nat) (f : Ctx → Ctx) : State := s.setCtx c (f (s.ctx c))

/-- Bay b. -/
def State.bay (s : State) (b : Nat) : Bay := Sparse.get (fun _ => Bay.init) s.bays b

/-- Bay b replaced. -/
def State.setBay (s : State) (b : Nat) (x : Bay) : State :=
  { s with bays := Sparse.set (fun _ => Bay.init) s.bays b x }

/-- Bay b changed by a function. -/
def State.modBay (s : State) (b : Nat) (f : Bay → Bay) : State := s.setBay b (f (s.bay b))

/-! ### Blocks and their domains -/

/-- The header register of a block at an offset, in its page of index 0 (R777). -/
def hdr (block off : Nat) : Nat := block * 0x1000 + off

/-- BLK_CTRL, BLK_STAT, BLK_FAULT and BLK_SEQ of a block. -/
def blkCtrl (block : Nat) : Nat := hdr block 0x00C
def blkStat (block : Nat) : Nat := hdr block 0x010
def blkFault (block : Nat) : Nat := hdr block 0x014
def blkForce (block : Nat) : Nat := hdr block 0x018
def blkSeq (block : Nat) : Nat := hdr block 0x01C
def blkShadow (block : Nat) : Nat := hdr block 0x020
def blkOwner (block : Nat) : Nat := hdr block 0x024

/-- Whether ENABLE of the block is 1. -/
def State.enabled (s : State) (block : Nat) : Bool := s.rbit (blkCtrl block) 0

/-- Whether the block is in block reset (R649). -/
def State.inReset (s : State) (block : Nat) : Bool := s.rbit (blkStat block) 2

/-- The release position of a page's domain: 1 to 8, 9 for 9a, 10 for 9b, 11 for domain 10 (R645, R772). The HOSTQ and
DMA pages are domain 9b. -/
def domainPos (domain : Nat) : Nat := if domain == 9 then 10 else domain

/-- Whether a domain is held by a reset or a full rehearsal (R768). -/
def State.domainHeld (s : State) (pos : Nat) : Bool := s.rc.held.elem pos

/-- Whether the page's domain is held. -/
def State.pageHeld (s : State) (i : PageInfo) : Bool := s.domainHeld (domainPos i.domain)

/-- The page of context c. -/
def ctxPage (c : Nat) : Nat := 0x200 + c

/-- Whether the context runs: ENABLE of its page is 1 and it is not in block reset. -/
def State.ctxEnabled (s : State) (c : Nat) : Bool := s.enabled (ctxPage c) && !s.inReset (ctxPage c)

/-- Whether the active set of the context codes (CTX_MODE.DIRECTION, R223). -/
def State.isEncode (s : State) (c : Nat) : Bool := s.rbit (Reg.CTX_MODE c) 0

/-- Whether a block answers: its page is assigned, its domain is not held and it is not in block reset (R649, R768). -/
def State.live (s : State) (b : Nat) : Bool :=
  match pageInfo b with
  | some i => !s.pageHeld i && !s.inReset b
  | none => false

/-- What an event or a command brings to a block: nothing while its domain is held or the block is in reset. -/
def State.ifLive (s : State) (b : Nat) (f : State → State) : State := if s.live b then f s else s

/-- A word stored in the bits of a register that its table defines (R8). -/
def State.store (s : State) (k : Nat) (v : Word) : State :=
  match regRow k with
  | some r => s.setReg k (v &&& BitVec.ofNat 32 r.mask)
  | none => s

/-- A word written to a register of a block in reset lands when the register is RW (R653). -/
def State.land (s : State) (k : Nat) (v : Word) : State :=
  match regRow k with
  | some r => if r.access == .rw || r.access == .rwp then s.store k v else s
  | none => s

/-- A write of a register with effects: none while the domain is held, only the value while the block is in reset (R653,
R768). -/
def State.ifWritten (s : State) (b k : Nat) (v : Word) (f : State → State) : State :=
  if s.live b then f s
  else if s.inReset b && (match pageInfo b with
    | some i => !s.pageHeld i
    | none => false) then s.land k v
  else s

/-! ### Fault messages -/

/-- The block of a fault source (R685, R779): the page of index 0 whose block holds the source. -/
def sourceBlock (src : Nat) : Option Nat :=
  if Nat.ble src 255 then some (0x200 + src)
  else if Nat.ble src 351 then some (0x100 + (src - 256))
  else if Nat.ble src 363 then some (0x080 + (src - 352))
  else if Nat.ble src 371 then some (0x1C0 + (src - 364))
  else if src == 372 then some 0x1D0
  else if Nat.ble 384 src && Nat.ble src 407 then some (0x1A0 + (src - 384))
  else if Nat.ble 416 src && Nat.ble src 423 then some (0x040 + (src - 416))
  else if Nat.ble 424 src && Nat.ble src 427 then some (0x048 + (src - 424))
  else if Nat.ble 428 src && Nat.ble src 435 then some (0x050 + (src - 428))
  else if Nat.ble 436 src && Nat.ble src 439 then some (0x030 + (src - 436))
  else if src == 440 || src == 441 then some 0x034
  else if src == 442 then some 0x004
  else if src == 443 then some 0x060
  else if Nat.ble 448 src && Nat.ble src 479 then some 0x020
  else if Nat.ble 480 src && Nat.ble src 495 then some 0x028
  else if src == 496 then some 0x018
  else if src == 497 then some 0x019
  else if src == 498 then some 0x005
  else if src == 499 then some 0x006
  else if src == 500 then some 0x007
  else if src == 502 then some 0x001
  else if Nat.ble 512 src && Nat.ble src 767 && src % 16 == 0 then some (0x180 + (src - 512) / 16)
  else if src == 896 || src == 932 then some 0x003
  else if Nat.ble 928 src && Nat.ble src 931 then some (0x010 + (src - 928))
  else if src == 936 then some 0x010
  else if src == 933 then some 0x002
  else if src == 934 then some 0x000
  else if src == 935 then some 0x008
  else if src == 937 then some 0x035
  else if src == 938 then some 0x037
  else if src == 939 then some 0x038
  else none

/-- Whether a number names a fault source: a block's, or a Stage Manager core's (R685). -/
def isSource (src : Nat) : Bool :=
  (sourceBlock src).isSome || (Nat.ble 768 src && Nat.ble src 895 && src % 32 == 0)

/-- The domain position of a fault source: its page's; domain 10 for a Stage Manager core. -/
def sourceDomain (src : Nat) : Nat :=
  match sourceBlock src with
  | some b => match pageInfo b with
    | some i => domainPos i.domain
    | none => 0
  | none => 11

/-- The rehearsal of a source's bay suppresses the bay's and its engines' messages (R695, R710). -/
def State.inRehearsal (s : State) (src : Nat) : Bool :=
  if Nat.ble 256 src && Nat.ble src 351 then s.rbit (Reg.BAY_STATUS ((src - 256) / 8)) 17
  else if Nat.ble 352 src && Nat.ble src 363 then s.rbit (Reg.BAY_STATUS (src - 352)) 17
  else false

/-- Whether a message of the source is suppressed (R695). -/
def State.suppressed (s : State) (src : Nat) : Bool :=
  (match sourceBlock src with
   | some b => s.inReset b
   | none => false) || s.domainHeld (sourceDomain src) || s.inRehearsal src

/-- The severity a message starts with: its kind's, or its source's field of FAULT_SEV (R689). -/
def State.baseSeverity (s : State) (src kind : Nat) : Nat :=
  match kindSeverity kind with
  | some v => v
  | none => s.fld (Reg.FAULT_SEV (src / 16)) (2 * (src % 16) + 1) (2 * (src % 16))

/-- Raise a fault message: suppressed under R695, lost under R687 when the source's input holds two (what is left of
its reaction is applied when the collector next takes a message), else placed in the input. -/
def State.raiseMsg (s : State) (src kind addr : Nat) (forced : Bool) : State :=
  if kind == 0 || !isSource src then s
  else if s.suppressed src then s.bump Reg.FAULT_SUPPRESSED 1
  else
    let m : FaultMsg := { source := src, kind := kind, severity := s.baseSeverity src kind, consequential := false,
                          escalated := false, forced := forced, time := s.now, addr := addr % 2 ^ 40 }
    if (s.fc.inputs.filter (fun x => x.source == src)).length ≥ 2 then
      let s := (s.bump Reg.FAULT_OVERFLOWS 1).bump (Reg.FAULT_KIND_COUNT kind) 1
      { s with fc := { s.fc with lost := s.fc.lost ++ [m] } }
    else { s with fc := { s.fc with inputs := s.fc.inputs ++ [m] } }

/-- Raise a message the hardware finds. -/
def State.raise (s : State) (src kind addr : Nat) : State := s.raiseMsg src kind addr false

/-- A request of a source is answered REQ_ABORTED (R649, R688): the message at most once in 1 ms for each source. -/
def State.aborted (s : State) (src addr : Nat) : State :=
  let s := s.emit (.completion 1)
  match Sparse.get (fun _ => none) s.fc.reqAborted src with
  | some t =>
    if Nat.blt s.now (t + 1000000) then s
    else { s with fc := { s.fc with reqAborted := Sparse.set (fun _ => none) s.fc.reqAborted src (some s.now) } }.raise src
      FaultKind.REQ_ABORTED addr
  | none => { s with fc := { s.fc with reqAborted := Sparse.set (fun _ => none) s.fc.reqAborted src (some s.now) } }.raise src
      FaultKind.REQ_ABORTED addr

/-- FENCE_VIOLATION (R19, R682): raised from TRUST, counted, with the address and the writer of the last violation
in the bit order of DRAM_FENCE_WRITERS. -/
def State.fenceViolation (s : State) (addr writer : Nat) : State :=
  ((((s.bump Reg.TRUST_FENCE_VIOLATIONS 1).setRegN Reg.TRUST_FENCE_LAST_LO addr).setRegN Reg.TRUST_FENCE_LAST_HI
    (addr / 2 ^ 32 % 256 + 256 * writer))).raise 932 FaultKind.FENCE_VIOLATION addr

/-- Do something for each element of a list, in order. -/
def State.forEach {α : Type} (s : State) (l : List α) (f : α → State → State) : State := l.foldl (fun t x => f x t) s

/-- Do something when a condition holds. -/
def State.doIf (s : State) (b : Bool) (f : State → State) : State := if b then f s else s

/-- DisplayPort output n beside its page. -/
def State.dpOut (s : State) (n : Nat) : DpOut := Sparse.get (fun _ => DpOut.init) s.dpOuts n
def State.setDpOut (s : State) (n : Nat) (x : DpOut) : State :=
  { s with dpOuts := Sparse.set (fun _ => DpOut.init) s.dpOuts n x }
def State.modDpOut (s : State) (n : Nat) (f : DpOut → DpOut) : State := s.setDpOut n (f (s.dpOut n))

end Sys2Proof.Machine
end

