-- ==== Sys2Proof/Machine/Crew.lean ====
section
/-! DEFINITION. Bays in service and the crew of a picture (R322, R324), the figures of a bay's page (R348), and the
limit on picture starts of a degraded context (R302). -/

namespace Sys2Proof.Machine

/-- A bay in service (R324, R348). -/
def State.bayInService (s : State) (b : Nat) : Bool := s.rbit (Reg.BAY_STATUS b) 16

/-- The Pixel Engines of a bay in service. -/
def State.bayEngines (s : State) (b : Nat) : List Nat := (List.range 8).filter fun i => s.rbit (Reg.BAY_STATUS b) i

/-- The number of resident row jobs shown in the bay's page. -/
def State.syncBay (s : State) (b : Nat) : State := s.setFld (Reg.BAY_STATUS b) 12 8 (s.bay b).jobs.length

/-- R322: the crew of a picture: the CREW_SIZE in-service bays of lowest load, lower numbers first among equals,
but for a bay granted to a rehearsal (R710). -/
def State.pickCrew (s : State) : List Nat :=
  let bays := (List.range 12).filter fun b => s.bayInService b && !(s.bay b).granted
  (sortBy (fun b => s.regN (Reg.BAY_LOAD b)) bays).take (s.fld Reg.LEDGER_CTRL 11 8)

/-- The crew shown in CTX_PLACEMENT (R347). -/
def State.showCrew (s : State) (c : Nat) (crew : List Nat) : State :=
  s.setFld (Reg.CTX_PLACEMENT c) 15 4 ((crew.map fun b => 2 ^ b).foldl (· + ·) 0)

/-- R302: whether a context may start a picture now, at its admitted picture rate. -/
def State.mayStart (s : State) (c : Nat) : Bool :=
  let x := s.ctx c
  if x.degrade == 2 then false
  else if x.degrade == 1 then
    let n := (x.starts.filter fun t => Nat.blt (s.now) (t + 1000000000)).length + 1
    Nat.ble (200 * n) x.chg.rate
  else true

/-- A picture start noted for R302: the starts of the last second are kept. -/
def State.noteStart (s : State) (c : Nat) : State :=
  let t := s.now
  s.modCtx c fun x => { x with starts := t :: x.starts.filter fun u => Nat.blt t (u + 1000000000) }

end Sys2Proof.Machine
end

