-- ==== Sys2Proof/Machine/Cuex.lean ====
section
/-! DEFINITION. The Cue Exchange: sources and routes (R559 to R561), posting and the cue rings (R562 to R565),
delivery, acknowledgement and completion (R566 to R572), sleep, retargeting and resets (R573 to R578), its writes
(R579 to R582). -/

namespace Sys2Proof.Machine

/-! ### Routes and pending bits -/

/-- The route of a source: target, ENABLE (R560, R581). -/
def State.route (s : State) (src : Nat) : Nat := s.fld (Reg.CUEX_ROUTE (src / 2)) (16 * (src % 2) + 15) (16 * (src % 2))
def State.routeTarget (s : State) (src : Nat) : Nat := s.route src % 32
def State.routeEnabled (s : State) (src : Nat) : Bool := nbit (s.route src) 5

/-- Whether source `src` is pending at target `t`. -/
def State.pendingAt (s : State) (t src : Nat) : Bool := s.rbit (Reg.CUEX_TGT_PEND t (src / 32)) (src % 32)

/-- The sources pending at a target, lowest first. -/
def State.pendingList (s : State) (t : Nat) : List Nat :=
  (s.regs.filter fun p => Nat.ble (Reg.CUEX_TGT_PEND t 0) p.1 && Nat.ble p.1 (Reg.CUEX_TGT_PEND t 31)).flatMap fun p =>
    ((List.range 32).filter fun j => bit p.2 j).map fun j => 8 * (p.1 - Reg.CUEX_TGT_PEND t 0) + j

def State.asleep (s : State) (t : Nat) : Bool := s.rbit (Reg.CUEX_TGT_STATUS t) 0

/-- The conditions of R566 but the last, that the target is awake. -/
def State.readyFor (s : State) (t src : Nat) : Bool :=
  s.pendingAt t src && s.routeEnabled src && !s.cuex.holdoff.elem (t, src / 32) && !s.rbit Reg.CUEX_CTRL 0

/-- R566. -/
def State.deliverable (s : State) (t src : Nat) : Bool := s.readyFor t src && !s.asleep t

/-- The lowest deliverable source of a target (R567). -/
def State.nextSource (s : State) (t : Nat) : Option Nat := (s.pendingList t).find? fun src => s.deliverable t src

/-- CUEX_TGT_NEXT of a target; an idle Cue Engine sleeps when nothing is deliverable to it (R573); the wake request of R574 when
the target sleeps and a source would be deliverable. -/
def State.cuexSync (s : State) (t : Nat) : State :=
  let s := s.setRegN (Reg.CUEX_TGT_NEXT t) ((s.nextSource t).getD 0x400)
  let s := s.doIf (Nat.blt t 16 && s.rbit (Reg.CE_STATUS t) 6 && (s.nextSource t).isNone) fun s =>
    s.setRbit (Reg.CUEX_TGT_STATUS t) 0 true
  s.doIf (s.asleep t && (s.pendingList t).any fun src => s.readyFor t src) fun s =>
    s.setRbit (Reg.CUEX_TGT_STATUS t) 1 true

/-- Set the pending bit of a source at the target of its route (R561). -/
def State.cuePend (s : State) (src : Nat) : State :=
  let t := s.routeTarget src
  (s.setRbit (Reg.CUEX_TGT_PEND t (src / 32)) (src % 32) true).cuexSync t

/-! ### Rings -/

/-- Posted and consumed counts of a source modulo 256 (R581). -/
def State.ringPosted (s : State) (src : Nat) : Nat := s.fld (Reg.CUEX_RING (src / 2)) (16 * (src % 2) + 7) (16 * (src % 2))
def State.ringConsumed (s : State) (src : Nat) : Nat :=
  s.fld (Reg.CUEX_RING (src / 2)) (16 * (src % 2) + 15) (16 * (src % 2) + 8)
def State.ringWaiting (s : State) (src : Nat) : Nat := (s.ringPosted src + 256 - s.ringConsumed src) % 256

def State.setPosted (s : State) (src n : Nat) : State :=
  s.setFld (Reg.CUEX_RING (src / 2)) (16 * (src % 2) + 7) (16 * (src % 2)) n
def State.setConsumed (s : State) (src n : Nat) : State :=
  s.setFld (Reg.CUEX_RING (src / 2)) (16 * (src % 2) + 15) (16 * (src % 2) + 8) n

/-- The current generation of a source (R558); 0 before any reset of its block (assumption 7). -/
def State.cueGen (s : State) (src : Nat) : Nat := Sparse.get (fun _ => 0) s.cuex.gens src

/-- The Pool Memory offset of a slot of a source's ring (R562). -/
def State.cueSlot (s : State) (src n : Nat) : Nat := s.fld Reg.CUEX_RING_BASE 22 18 * 0x40000 + 512 * src + 32 * (n % 16)

/-- The sources of a block's page (R559). -/
def pageSources (page : Nat) : List Nat :=
  if Nat.ble 0x200 page && Nat.ble page 0x2FF then [page - 0x200]
  else if Nat.ble 0x100 page && Nat.ble page 0x15F then [256 + page - 0x100]
  else if Nat.ble 0x080 page && Nat.ble page 0x08B then [352 + page - 0x080]
  else if Nat.ble 0x1C0 page && Nat.ble page 0x1C7 then [364 + page - 0x1C0]
  else if page == 0x1D0 then [372]
  else if Nat.ble 0x1A0 page && Nat.ble page 0x1B7 then [384 + page - 0x1A0]
  else if Nat.ble 0x040 page && Nat.ble page 0x047 then [416 + page - 0x040]
  else if Nat.ble 0x048 page && Nat.ble page 0x04B then [424 + page - 0x048]
  else if Nat.ble 0x050 page && Nat.ble page 0x057 then [428 + page - 0x050]
  else if Nat.ble 0x030 page && Nat.ble page 0x033 then [436 + page - 0x030]
  else if page == 0x034 then [440, 441]
  else if page == 0x004 then [442]
  else if page == 0x060 then [443]
  else if page == 0x020 then rangeFrom 448 32
  else if page == 0x028 then rangeFrom 480 16
  else if page == 0x018 then [496]
  else if page == 0x019 then [497]
  else if page == 0x005 then [498]
  else if page == 0x006 then [499]
  else if page == 0x007 then [500]
  else if Nat.ble 0x010 page && Nat.ble page 0x013 then [501]
  else if page == 0x001 then [502]
  else if Nat.ble 0x180 page && Nat.ble page 0x18F then rangeFrom (512 + 16 * (page - 0x180)) 16
  else []

/-- The block whose page shows the sequence number of a source's cues in BLK_SEQ (R776). -/
def State.seqPage (_ : State) (src : Nat) : Option Nat :=
  match sourceBlock src with
  | some b => if (pageSources b).head? == some src then some b else none
  | none => none

/-- A cue of 32 bytes posted by a source (R562, R563, R565): discarded when its handle's generation is not current
(R557), or the Cue Exchange in reset; else BLK_SEQ shows its number (R776). -/
def State.cuePost (s : State) (src : Nat) (cue : List Byte) : State :=
  if !s.live 0x008 then s
  else if leAt cue 1 1 != s.cueGen src then s.bump Reg.CUEX_STALE_GEN_DROPS 1
  else
    let s := match s.seqPage src with
      | some b => s.setRegN (blkSeq b) (leAt cue 4 4)
      | none => s
    if s.ringWaiting src == 16 then
      let s := (s.bump Reg.CUEX_RING_OVERRUNS 1).setRegN Reg.CUEX_LAST_OVERRUN src
      ({ s with cuex := { s.cuex with lost := src :: s.cuex.lost.erase src } }).cuePend src
    else
      let old := leAt cue 3 1
      let flags := old / 16 * 16 + old / 2 % 4 * 2
      let flags := flags + b2n (s.cuex.lost.elem src)
      let flags := if s.cuex.fresh.elem src && !nbit flags 2 then flags + 4 else flags
      let n := s.ringPosted src
      let s := s.pmWrite (s.cueSlot src n) (cue.take 3 ++ [BitVec.ofNat 8 flags] ++ cue.drop 4)
      let s := s.setPosted src (n + 1)
      ({ s with cuex := { s.cuex with lost := s.cuex.lost.erase src, fresh := s.cuex.fresh.erase src } }).cuePend src

/-- A cue of a hardware block on its own source (R12, R564): its sequence number continues over resets (R565); its kind,
payload and own flags are free bytes, since no chapter gives them (assumption 2).  The id of its handle is the source number modulo
256: R12 gives the id 8 bits, R559 numbers sources in 10 (DESIGN CHOICE, assumption 68). -/
def State.blockCue (s : State) (src : Nat) (consequential : Bool) : State :=
  let q := Sparse.get (fun _ => 0) s.cuex.seqs src
  let free (i : Nat) : Byte := Config.freeByte s.freeCtr i
  let cue := leBytes 1 src ++ leBytes 1 (s.cueGen src) ++ [free 2] ++
    [(free 3 &&& 0xF0) ||| (if consequential then 2 else 0)] ++ leBytes 4 q ++ leBytes 8 s.now ++ (rangeFrom 16 16).map free
  let s := { s with freeCtr := s.freeCtr + 1,
                    cuex := { s.cuex with seqs := Sparse.set (fun _ => 0) s.cuex.seqs src ((q + 1) % 2 ^ 32) } }
  s.cuePost src cue

/-! ### Acknowledgement and completion -/

/-- The fault source of a target (R570). -/
def targetSource (t : Nat) : Nat := if Nat.blt t 16 then 512 + 16 * t else 768 + 32 * (t - 16)

def State.stackDepth (s : State) (t : Nat) : Nat := s.fld (Reg.CUEX_TGT_STATUS t) 11 8

/-- The source on top of a target's in-service stack. -/
def State.stackTop (s : State) (t : Nat) : Option Nat :=
  if s.stackDepth t == 0 then none else some (s.fld (Reg.CUEX_TGT_STACK t (s.stackDepth t - 1)) 9 0)

/-- STATUS of a target with a new depth, and the top that the stack then has. -/
def State.setDepth (s : State) (t n : Nat) : State :=
  let s := s.setFld (Reg.CUEX_TGT_STATUS t) 11 8 n
  s.setFld (Reg.CUEX_TGT_STATUS t) 25 16 (if n == 0 then 0 else s.regN (Reg.CUEX_TGT_STACK t (n - 1)))

/-- CUEX_STACK_ORDER with the target as source. -/
def State.stackError (s : State) (t src : Nat) : State :=
  (s.bump Reg.CUEX_STACK_ERRORS 1).raise (targetSource t) FaultKind.CUEX_STACK_ORDER src

/-- R568, R571: target `t` acknowledges source `src`. -/
def State.cueAck (s : State) (t src : Nat) : State :=
  if !s.pendingAt t src then s
  else
    let n := s.stackDepth t
    if Nat.ble 8 n then s.stackError t src
    else
      let s := s.setRbit (Reg.CUEX_TGT_PEND t (src / 32)) (src % 32) false
      let s := (s.setRegN (Reg.CUEX_TGT_STACK t n) src).setDepth t (n + 1)
      let s := s.doIf (s.fld (Reg.CUEX_HOLDOFF (src / 32)) 15 0 != 0) fun s =>
        { s with cuex := { s.cuex with holdoff := (t, src / 32) :: s.cuex.holdoff.filter fun h => h != (t, src / 32) } }
      (s.bump Reg.CUEX_DELIVERIES 1).cuexSync t

/-- R570: target `t` completes source `src`. -/
def State.cueComplete (s : State) (t src : Nat) : State :=
  if s.stackTop t == some src then
    let n := s.stackDepth t - 1
    (s.setRegN (Reg.CUEX_TGT_STACK t n) 0).setDepth t n
  else s.stackError t src

/-! ### Resets -/

/-- R577 for one source. -/
def State.cueSourceReset (s : State) (src : Nat) : State :=
  let n := s.ringWaiting src
  let s := { s with cuex := { s.cuex with
    gens := Sparse.set (fun _ => 0) s.cuex.gens src ((s.cueGen src + 1) % 256),
    fresh := src :: s.cuex.fresh.erase src } }
  let s := (s.setConsumed src (s.ringPosted src)).bump Reg.CUEX_STALE_GEN_DROPS n
  let t := s.routeTarget src
  (s.setRbit (Reg.CUEX_TGT_PEND t (src / 32)) (src % 32) false).cuexSync t

/-- R578: a target is reset. -/
def State.cueTargetReset (s : State) (t : Nat) : State :=
  let s := s.forEach (List.range 8) fun i s => s.setRegN (Reg.CUEX_TGT_STACK t i) 0
  ({ s.setDepth t 0 with cuex := { s.cuex with holdoff := s.cuex.holdoff.filter fun h => h.1 != t } }).cuexSync t

/-! ### Writes -/

/-- The target a writer is (R560). -/
def targetOf : Writer → Option Nat
  | .cueEngine n => some n.val
  | .stageManager n => some (16 + n.val)
  | _ => none

/-- CUEX_DOORBELL (R562, R579): only sources 960 to 1023, from any writer. -/
def State.cueDoorbell (s : State) (v : Word) : State :=
  s.doIf (Nat.ble 960 (bits v 9 0)) fun s => s.cuePend (bits v 9 0)

def execCuexDoorbell (v : Word) (s : State) : Host.Outcome State Fault Refusal :=
  .next <| s.ifLive 0x008 fun s => s.cueDoorbell v

/-- CUEX_POST (R562 to R564, R579): the cue at a Pool Memory offset, posted to a source of the writer's own range. -/
def State.cuePostWrite (s : State) (w : Writer) (v : Word) : State :=
  let cue := s.pmBytes (bits v 22 5 * 32) 32
  match w with
  | .stageManager n => s.cuePost (768 + 32 * n.val + bits v 4 0) cue
  | .prompter => s.cuePost (896 + bits v 4 0) cue
  | _ => s

def execCuexPost (w : Writer) (v : Word) (s : State) : Host.Outcome State Fault Refusal :=
  .next <| s.ifLive 0x008 fun s => s.cuePostWrite w v

/-- CUEX_CONSUME (R564, R580). -/
def State.cueConsume (s : State) (w : Writer) (v : Word) : State :=
  let src := bits v 9 0
  let n := bits v 20 16
  s.doIf (w != .host && Nat.ble n (s.ringWaiting src) && Nat.ble n 16) fun s => s.setConsumed src (s.ringConsumed src + n)

def execCuexConsume (w : Writer) (v : Word) (s : State) : Host.Outcome State Fault Refusal :=
  .next <| s.ifLive 0x008 fun s => s.cueConsume w v

/-- A write of CUEX_ACK (R568, R579): only from the target itself. -/
def State.cueAckWrite (s : State) (w : Writer) (t : Nat) (v : Word) : State :=
  s.doIf (targetOf w == some t) fun s => s.cueAck t (bits v 9 0)

/-- CUEX_COMPLETE (R570, R579). -/
def State.cueCompleteWrite (s : State) (w : Writer) (t : Nat) (v : Word) : State :=
  s.doIf (targetOf w == some t) fun s => s.cueComplete t (bits v 9 0)

def execCuexComplete (w : Writer) (t : Fin 20) (v : Word) (s : State) : Host.Outcome State Fault Refusal :=
  .next <| s.ifLive 0x008 fun s => s.cueCompleteWrite w t.val v

/-- CUEX_SLEEP (R573, R579, R582): SLEEP of a Stage Manager core, with nothing deliverable to it. -/
def State.cueSleep (s : State) (w : Writer) (t : Nat) (v : Word) : State :=
  s.doIf (targetOf w == some t && Nat.ble 16 t && bit v 0 && (s.nextSource t).isNone) fun s =>
    (s.setRbit (Reg.CUEX_TGT_STATUS t) 0 true).cuexSync t

def execCuexSleep (w : Writer) (t : Fin 20) (v : Word) (s : State) : Host.Outcome State Fault Refusal :=
  .next <| s.ifLive 0x008 fun s => s.cueSleep w t.val v

/-- TARGET_WAKE (R574): a target with a wake request is awake, its state restored. -/
def execTargetWake (t : Fin 20) (s : State) : Host.Outcome State Fault Refusal :=
  .next <| s.ifLive 0x008 fun s =>
    s.doIf (s.rbit (Reg.CUEX_TGT_STATUS t.val) 1) fun s =>
      ((s.setRbit (Reg.CUEX_TGT_STATUS t.val) 0 false).setRbit (Reg.CUEX_TGT_STATUS t.val) 1 false).cuexSync t.val

/-- A route set: the pending bit moves with it in the same step (R575). -/
def State.setRoute (s : State) (src r : Nat) : State :=
  let t := s.routeTarget src
  let p := s.pendingAt t src
  let s := s.setRbit (Reg.CUEX_TGT_PEND t (src / 32)) (src % 32) false
  let s := s.setFld (Reg.CUEX_ROUTE (src / 2)) (16 * (src % 2) + 15) (16 * (src % 2)) (r % 64)
  let s := s.doIf p fun s => s.setRbit (Reg.CUEX_TGT_PEND (r % 32) (src / 32)) (src % 32) true
  (s.cuexSync t).cuexSync (r % 32)

/-- A write of CUEX_ROUTE (R560, R575, R579, R581): the routes of sources 2k and 2k + 1. -/
def State.cueRouteWrite (s : State) (w : Writer) (k : Nat) (v : Word) : State :=
  if w == .host || Nat.blt k 128 then s
  else
    let s := s.doIf (Nat.ble (bits v 4 0) 19) fun s => s.setRoute (2 * k) (bits v 5 0)
    s.doIf (Nat.ble (bits v 20 16) 19) fun s => s.setRoute (2 * k + 1) (bits v 21 16)

/-- What else reaches the Cue Exchange in the step of an acknowledgement or a retarget, applied after it: retargets first, then
posts and doorbells (R569, R576). -/
def State.cueSame (s : State) (l : List CuexSame) : State :=
  let s := s.forEach l fun q s => match q with
    | .route w k v => s.cueRouteWrite w k.val v
    | _ => s
  s.forEach l fun q s => match q with
    | .doorbell v => s.cueDoorbell v
    | .post w v => s.cuePostWrite w v
    | .route _ _ _ => s

def execCuexAck (w : Writer) (t : Fin 20) (v : Word) (same : List CuexSame) (s : State) : Host.Outcome State Fault Refusal :=
  .next <| s.ifLive 0x008 fun s => (s.cueAckWrite w t.val v).cueSame same

def execCuexRouteWrite (w : Writer) (k : Fin 512) (v : Word) (same : List CuexSame) (s : State) : Host.Outcome State Fault Refusal :=
  .next <| s.ifWritten 0x008 (Reg.CUEX_ROUTE k.val) v fun s => (s.cueRouteWrite w k.val v).cueSame same

/-- HOLDOFF_EXPIRY (R571). -/
def execHoldoffExpiry (t : Fin 20) (g : Fin 32) (s : State) : Host.Outcome State Fault Refusal :=
  .next <| s.ifLive 0x008 fun s =>
    ({ s with cuex := { s.cuex with holdoff := s.cuex.holdoff.filter fun h => h != (t.val, g.val) } }).cuexSync t.val

end Sys2Proof.Machine
end

