-- ==== Sys2Proof/Machine/Flows.lean ====
section
/-! DEFINITION. The flow table of the packet engine as the other chapters read it: entries, handles, the match of a
flow and a context (R462, R463, R466, R467). -/

namespace Sys2Proof.Machine

/-- Flow f. -/
def State.flow (s : State) (f : Nat) : Flow := Sparse.get (fun _ => Flow.init) s.flows f

/-- Flow f replaced. -/
def State.setFlow (s : State) (f : Nat) (x : Flow) : State :=
  { s with flows := Sparse.set (fun _ => Flow.init) s.flows f x }

/-- Word i of a flow entry. -/
def Flow.word (x : Flow) (i : Nat) : Nat := x.words.getD i 0

def Flow.egress (x : Flow) : Bool := nbit (x.word 0) 1
def Flow.portMask (x : Flow) : Nat := nbits (x.word 0) 5 2
def Flow.ipv6 (x : Flow) : Bool := nbit (x.word 0) 6
def Flow.matchSrc (x : Flow) : Bool := nbit (x.word 0) 7
def Flow.ctx (x : Flow) : Nat := nbits (x.word 0) 15 8
def Flow.vlan (x : Flow) : Bool := nbit (x.word 0) 16
def Flow.builder (x : Flow) : Bool := nbit (x.word 0) 17
def Flow.dst (x : Flow) : Nat := x.word 1 + 2 ^ 32 * (x.word 2 + 2 ^ 32 * (x.word 3 + 2 ^ 32 * x.word 4))
def Flow.src (x : Flow) : Nat := x.word 6 + 2 ^ 32 * (x.word 7 + 2 ^ 32 * (x.word 8 + 2 ^ 32 * x.word 9))
def Flow.dstPort (x : Flow) : Nat := nbits (x.word 5) 15 0
def Flow.srcPort (x : Flow) : Nat := nbits (x.word 5) 31 16
def Flow.queue (x : Flow) : Nat := nbits (x.word 10) 7 0

def Flow.dscp (x : Flow) : Nat := nbits (x.word 10) 13 8
def Flow.ttl (x : Flow) : Nat := nbits (x.word 10) 23 16
def Flow.pcp (x : Flow) : Nat := nbits (x.word 10) 26 24

/-- A multicast address of a family. -/
def multicastAddr (v6 : Bool) (a : Nat) : Bool := if v6 then a / 2 ^ 120 == 0xFF else nbits a 31 28 == 0xE

/-- The destination MAC of an egress flow: that of RFC 1112 or RFC 2464 for a group, else the entry's (R463). -/
def Flow.dstMac (x : Flow) : Nat :=
  if multicastAddr x.ipv6 x.dst then
    (if x.ipv6 then 0x3333 * 2 ^ 32 + x.dst % 2 ^ 32 else 0x01005E * 2 ^ 24 + x.dst % 2 ^ 23)
  else x.word 12 % 2 ^ 16 * 2 ^ 32 + x.word 11

/-- The source of an IGMPv3 or MLDv2 membership: INCLUDE of it, or 0 for EXCLUDE of nothing (R461). -/
def Flow.include (x : Flow) : Nat := if x.matchSrc then x.src else 0

/-- The lowest port of a mask. -/
def lowPort (mask : Nat) : Nat := ((List.range 4).find? fun p => nbit mask p).getD 0

/-! ### Addresses of a port -/

/-- The IPv6 address in four registers (layout of R463). -/
def State.addr4 (s : State) (k : Nat) : Nat := s.reg64 k + 2 ^ 64 * s.reg64 (k + 8)

/-- The IPv4 address of a port as ::ffff:a.b.c.d. -/
def v4Mapped (a : Nat) : Nat := 0xFFFF * 2 ^ 32 + a

def isV4 (a : Nat) : Bool := a / 2 ^ 32 == 0xFFFF

def linkLocal (a : Nat) : Bool := a / 2 ^ 118 == 0xFE80 / 64

/-- SVC_EN of a port and SVC_HELD (R749, R758). -/
def State.svcOn (s : State) : Bool := s.rbit Reg.PAIR_CTRL 3 && s.rbit Reg.PAIR_STATUS 13

/-- The source address of a packet that leaves a port for `dst` (R463, R468, R749, R812): a service address, or the port's
own of the family. -/
def State.portAddr (s : State) (p : Nat) (v6 : Bool) (dst : Nat) (svc : Bool) : Nat :=
  if svc then (if v6 then s.addr4 (Reg.PAIR_SVC_IPV6 p 0) else v4Mapped (s.regN (Reg.PAIR_SVC_IPV4 p)))
  else if v6 then
    (if s.addr4 (Reg.NET_IPV6_GL p 0) != 0 && !linkLocal dst then s.addr4 (Reg.NET_IPV6_GL p 0)
     else s.addr4 (Reg.NET_IPV6_LL p 0))
  else v4Mapped (s.regN (Reg.NET_IPV4 p))

/-- The current handle of a flow (R462). -/
def State.flowHandle (s : State) (f : Nat) : Nat := (s.flow f).gen * 256 + f

/-- The flow that a handle names now, when the handle is current and the flow valid. -/
def State.flowOfHandle (s : State) (h : Nat) : Option Flow :=
  let x := s.flow (h % 256)
  if x.valid && x.gen == h / 256 % 256 then some x else none

/-- R467: packets pass between flow f and context c. -/
def State.flowServes (s : State) (f c : Nat) : Bool :=
  let x := s.flow f
  x.valid && x.ctx == c && s.ctxEnabled c && x.egress == s.isEncode c &&
    s.fld (if s.isEncode c then Reg.ENC_FLOW c else Reg.DEC_FLOW c) 15 0 == s.flowHandle f

end Sys2Proof.Machine
end

