-- ==== Sys2Proof/Machine/Link.lean ====
section
/-! DEFINITION. The Understudy Link as the other chapters use it: the role in force, the frames a device sends (R729, R730),
the SESSION frames of the lead (R750), the hold of a shadow context (R746), the XCHECK entries it sends (R747). -/

namespace Sys2Proof.Machine

/-- The role in force in a redundant pair (R726): 0 single, 1 lead, 2 understudy. -/
def State.pairRole (s : State) : Nat := s.fld Reg.PAIR_STATUS 4 3
/-- LINK_STATE (R759): 0 DOWN, 1 HELLO, 2 OPEN, 3 LOST, 4 PARTITION. -/
def State.linkState (s : State) : Nat := s.fld Reg.PAIR_STATUS 2 0
def State.setLink (s : State) (n : Nat) : State := s.setFld Reg.PAIR_STATUS 2 0 n
/-- Whether the link runs: EN, which reads 0 in house mode (interaction C39). -/
def State.pairOn (s : State) : Bool := s.live 0x060 && s.rbit Reg.PAIR_CTRL 0 && !s.rbit Reg.OPT_STATUS 12
def State.linkOpen (s : State) : Bool := s.pairOn && s.linkState == 2

/-- What the pair keeps of a context. -/
def State.pairCtx (s : State) (c : Nat) : PairCtx := Sparse.get (fun _ => PairCtx.init) s.pair.ctxs c
def State.setPairCtx (s : State) (c : Nat) (x : PairCtx) : State :=
  { s with pair := { s.pair with ctxs := Sparse.set (fun _ => PairCtx.init) s.pair.ctxs c x } }
def State.modPairCtx (s : State) (c : Nat) (f : PairCtx → PairCtx) : State := s.setPairCtx c (f (s.pairCtx c))

/-! ### The role -/

/-- The role comes into force: the service addresses pass with it (R749), LEAD_SINCE is kept (R732), a new lead has no shadow
contexts any more. -/
def State.putRole (s : State) (r : Nat) : State :=
  let was := s.pairRole
  let s := (s.setFld Reg.PAIR_STATUS 4 3 r).setRbit Reg.PAIR_STATUS 13 (r == 1 && s.rbit Reg.PAIR_CTRL 3)
  if r == 1 && was != 1 then
    s.forEach (List.range 8) (fun k s => s.setRegN (Reg.PAIR_DIVERGED k) 0) |> fun s =>
      { s with pair := { s.pair with leadSince := s.now } }
  else s

/-- EN cleared: the link goes down and no role is in force. -/
def State.pairDown (s : State) : State :=
  let s := ((((s.setLink 0).putRole 0).setFld Reg.PAIR_STATUS 9 8 0).setFld Reg.PAIR_STATUS 23 16 0).setRbit Reg.PAIR_STATUS 5 false
  { s with pair := { s.pair with waiting := [], swTime := none, swAgreed := false, resetSent := none } }

/-! ### Frames -/

/-- The bytes of a frame (R730). -/
def linkFrame (ver typ seq tx : Nat) (payload : List Byte) : List Byte :=
  let b := beBytes 1 ver ++ beBytes 1 typ ++ beBytes 2 (20 + payload.length) ++ beBytes 4 seq ++ beBytes 8 tx ++ payload
  b ++ beBytes 4 (crc32c b)

/-- A frame sent on the open link. -/
def State.linkSend (s : State) (typ : Nat) (payload : List Byte) : State :=
  if !s.linkOpen then s
  else
    let q := s.pair.txSeq
    let s := (s.emit (.pairFrame typ (linkFrame (s.fld Reg.PAIR_STATUS 23 16) typ q s.now payload))).bump Reg.PAIR_FRAMES_TX 1
    { s with pair := { s.pair with txSeq := (q + 1) % 2 ^ 32 } }

/-- A COMMAND frame (R732): CMD, CTX, STATUS, SWITCH_TIME. -/
def State.linkCommand (s : State) (cmd ctx status time : Nat) : State :=
  s.linkSend 7 (beBytes 1 cmd ++ beBytes 1 ctx ++ beBytes 2 status ++ beBytes 8 time)

/-- A SESSION frame of the lead: OP 1 open or replace, 2 close, 3 terms, 4 the refresh of all (R732, R750). -/
def State.linkSession (s : State) (c op : Nat) (e : EncSession) : State :=
  if s.pairRole != 1 then s
  else s.linkSend 6 (beBytes 1 c ++ beBytes 1 op ++ beBytes 2 0 ++ beBytes 4 e.id ++ beBytes 16 e.src ++ beBytes 2 e.srcPort ++
    beBytes 2 e.version ++ beBytes 4 e.seq ++ beBytes 4 e.lastSeq ++ beBytes 2 e.kaMs ++ beBytes 2 e.dlExact ++
    beBytes 2 e.dlLossy ++ beBytes 2 e.netAllow)

/-! ### Transmission and the hold -/

/-- Whether the access units of an encode context are transmitted (R726); a planned switch that has reached the context
turns it over (R754 step 3). -/
def State.transmits (s : State) (c : Nat) : Bool := (s.pairRole == 2) == (s.pairCtx c).switched

/-- An access unit placed whole in the hold (R746). -/
def PairCtx.keepAu (x : PairCtx) (limit : Nat) (u : List HeldPkt) : PairCtx :=
  if x.full || Nat.ble limit x.hold.length then { x with full := true } else { x with hold := x.hold ++ [u] }

/-- A packet of a shadow access unit; its marker packet ends it. -/
def State.holdPkt (s : State) (c : Nat) (p : HeldPkt) : State :=
  let lim := s.fld Reg.PAIR_CTRL 19 16
  s.modPairCtx c fun x =>
    if p.marker then { x.keepAu lim (x.building ++ [p]) with building := [] } else { x with building := x.building ++ [p] }

/-- A packet counts for the digest of its access unit (R743): RTP header and payload. -/
def State.notePkt (s : State) (c seq payload : Nat) : State :=
  if s.pairRole == 0 then s else s.modPairCtx c fun x => { x with au := x.au ++ [(seq, 12 + payload)] }

/-- Packets up to a sequence number freed (R746); an empty hold takes access units again. -/
def PairCtx.freeUpTo (x : PairCtx) (last : Nat) : PairCtx :=
  let h := (x.hold.map fun u => u.filter fun p => later16 p.seq last).filter fun u => !u.isEmpty
  { x with hold := h, full := x.full && !h.isEmpty, lastSent := some last }

/-! ### Cross-checks -/

/-- The bytes of an XCHECK entry (R732). -/
def XEntry.bytes (e : XEntry) : List Byte :=
  beBytes 2 e.cell ++ beBytes 1 e.outcome ++ beBytes 1 0 ++ beBytes 4 e.mine ++ beBytes 4 e.sheet ++ beBytes 8 e.time

/-- XCHECK frames of a picture, 64 entries in each. -/
def State.sendXcheck (s : State) (c ts : Nat) : Nat → List XEntry → State
  | 0, _ => s
  | k + 1, es =>
    if es.isEmpty then s
    else
      let h := es.take 64
      (s.linkSend 3 (beBytes 1 c ++ beBytes 1 h.length ++ beBytes 2 0 ++ beBytes 4 ts ++ h.flatMap XEntry.bytes)).sendXcheck c ts k
        (es.drop 64)

/-! ### A planned switch -/

/-- R754 step 1: the lead asks for a switch 50 ms from now. -/
def State.switchStart (s : State) : State :=
  let t := s.now + 50000000
  let s := (s.setRegN Reg.PAIR_CMD_STATUS 1).linkCommand 1 0 0 t
  { s with pair := { s.pair with swTime := some t, swAgreed := false } }

/-- Why a switch is refused (R754): 0 when it is not. -/
def State.switchRefusal (s : State) : Nat :=
  if !s.linkOpen then 2
  else if s.rbit Reg.PAIR_CMD_STATUS 0 then 3
  else if (List.range 8).any fun k => s.regN (Reg.PAIR_DIVERGED k) != 0 then 4
  else 0

/-! ### Verdicts -/

/-- The verdicts of R747; `skip` where an OUTCOME of 1, 3 or 6 gives none. -/
inductive XVerdict where
  | skip | agree | source | peer | self | undecided
  deriving DecidableEq, Repr

/-- The first row of R747 that applies to an entry of this device and the partner's. -/
def xverdict (l p : XEntry) : XVerdict :=
  if [1, 3, 6].elem l.outcome || [1, 3, 6].elem p.outcome then .skip
  else if l.sheet != p.sheet then .undecided
  else if l.mine == p.mine then (if l.mine == l.sheet then .agree else .source)
  else if l.mine == l.sheet then .peer
  else if p.mine == l.sheet then .self
  else .undecided

/-- PAIR_XCHECK_MISMATCH with its address field (R756). -/
def State.xmismatch (s : State) (e : XEntry) (verdict : Nat) : State :=
  s.raise 443 FaultKind.PAIR_XCHECK_MISMATCH (e.cell % 65536 + 65536 * (e.ctx % 256) + 2 ^ 24 * verdict)

/-- R748: a self-faulty verdict; the flag sets at the limit within 1 s, and a lead may then yield. -/
def State.suspect (s : State) : State :=
  let t := s.now
  let l := t :: s.pair.suspects.filter fun u => Nat.blt t (u + 1000000000)
  let s := { s with pair := { s.pair with suspects := l } }
  if s.rbit Reg.PAIR_STATUS 10 || Nat.blt l.length (s.fld Reg.PAIR_CTRL 23 20) then s
  else
    let s := s.setRbit Reg.PAIR_STATUS 10 true
    s.doIf (s.pairRole == 1 && s.rbit Reg.PAIR_CTRL 4 && !s.rbit Reg.PAIR_STATUS 11 && s.switchRefusal == 0) fun s => s.switchStart

/-- A verdict given (R747). -/
def State.xjudge (s : State) (l p : XEntry) : State :=
  match xverdict l p with
  | .skip => s
  | .agree => (s.bump Reg.PAIR_XCHECK_CELLS 1).bump Reg.PAIR_XCHECK_TIME_DIFF (b2n (l.time != p.time))
  | .source => s.bump Reg.PAIR_XCHECK_SOURCE 1
  | .peer => (s.bump Reg.PAIR_XCHECK_PEER 1).xmismatch l 2
  | .self => ((s.bump Reg.PAIR_XCHECK_SELF 1).xmismatch l 1).suspect
  | .undecided => (s.bump Reg.PAIR_XCHECK_UNDECIDED 1).xmismatch l 4

def XEntry.same (l p : XEntry) : Bool := l.ctx == p.ctx && l.ts == p.ts && l.cell == p.cell

/-- Entries that have come from both partners are judged and leave. -/
def State.xmatch (s : State) : State :=
  s.forEach s.pair.mine fun l s =>
    match s.pair.theirs.find? fun p => l.same p with
    | some p => { s with pair := { s.pair with mine := s.pair.mine.erase l, theirs := s.pair.theirs.erase p } }.xjudge l p
    | none => s

end Sys2Proof.Machine
end

