-- ==== Sys2Proof/Machine/Fences.lean ====
section
/-! DEFINITION. The DRAM fences (R388, R633, R638, R667): regions of whole 4 KB pages that only some writers reach. -/

namespace Sys2Proof.Machine

/-- The writers in the bit order of DRAM_FENCE_WRITERS, from bit 8. -/
def byPrompter : Nat := 0
def byReload : Nat := 1
def byStageManager : Nat := 2
def byCueEngine : Nat := 3
def byDma : Nat := 4
def byHost : Nat := 5
def byHardware : Nat := 6

/-- Whether an address lies in an enabled fence region. -/
def State.inFence (s : State) (f a : Nat) : Bool :=
  s.rbit (Reg.DRAM_FENCE_WRITERS f) 0 && Nat.ble (s.fld (Reg.DRAM_FENCE_BASE f) 27 0) (a / 4096) &&
    Nat.ble (a / 4096) (s.fld (Reg.DRAM_FENCE_LIMIT f) 27 0)

/-- Whether a write of a byte by a writer is fenced off. -/
def State.fencedOff (s : State) (w a : Nat) : Bool :=
  (List.range 4).any fun f => s.inFence f a && !s.rbit (Reg.DRAM_FENCE_WRITERS f) (8 + w)

/-- Whether an address lies in any fence region. -/
def State.fencedRead (s : State) (a : Nat) : Bool := (List.range 4).any fun f => s.inFence f a

/-- The 4 KB pages that bytes lie in. -/
def pagesOf (a n : Nat) : List Nat := if n == 0 then [] else rangeFrom (a / 4096) ((a + n - 1) / 4096 + 1 - a / 4096)

/-- The first byte of a range that a writer is kept from. -/
def State.firstFenced (s : State) (w a n : Nat) : Option Nat :=
  ((pagesOf a n).find? fun p => s.fencedOff w (4096 * p)).map fun p => max a (4096 * p)

/-- Ranges of bytes, as first byte and number, without the `m` bytes from `b` on. -/
def cutRange (rs : List (Nat × Nat)) (b m : Nat) : List (Nat × Nat) :=
  (rs.flatMap fun r => [(r.1, min r.2 (b - r.1)), (max r.1 (b + m), r.1 + r.2 - max r.1 (b + m))]).filter fun r => r.2 != 0

/-- The part of a range that no fence keeps the hardware blocks from. -/
def State.openRanges (s : State) (a n : Nat) : List (Nat × Nat) :=
  (List.range 4).foldl (fun rs f =>
    if s.rbit (Reg.DRAM_FENCE_WRITERS f) 0 && !s.rbit (Reg.DRAM_FENCE_WRITERS f) (8 + byHardware) then
      let b := s.fld (Reg.DRAM_FENCE_BASE f) 27 0
      cutRange rs (4096 * b) (4096 * (s.fld (Reg.DRAM_FENCE_LIMIT f) 27 0 + 1 - b))
    else rs) [(a, n)]

end Sys2Proof.Machine
end

