-- ==== Sys2Proof/Machine/Pool.lean ====
section
/-! DEFINITION. The device address map (R609) and the prop room: pools (R583, R584), requests (R585 to R587), reference
counts and generations (R556 to R558, R588), its enable, stop and halt (R813), its windows (R589 to R591). -/

namespace Sys2Proof.Machine

/-! ### The device address map -/

/-- The installed DRAM capacity in bytes, from DRAM_CFG of channel 0 (R607, R608: all channels alike). -/
def State.dramSize (s : State) : Nat :=
  8 * (if s.rbit (Reg.DRAM_CFG 0) 6 then 2 else 1) * 2 ^ (s.fld (Reg.DRAM_CFG 0) 5 4) * 0x20000000

/-- Whether `n` bytes from a device address are backed by DRAM or Pool Memory (R609). -/
def State.backed (s : State) (a n : Nat) : Bool :=
  Nat.ble (a + n) s.dramSize || (Nat.ble poolBase a && Nat.ble (a + n) (poolBase + 0x800000))

/-- Whether two ranges of bytes share one. -/
def overlap (a n b m : Nat) : Bool := Nat.blt 0 n && Nat.blt 0 m && Nat.blt a (b + m) && Nat.blt b (a + n)

/-! ### Pools -/

/-- The buffer size of a pool (R583). -/
def poolSize (p : Nat) : Nat := [256, 1024, 2048, 9216, 0x10000, 0x40000, 0x100000, 0x400000].getD p 0

/-- Whether the pool lies in DRAM. -/
def poolInDram (p : Nat) : Bool := Nat.ble 4 p

/-- What a buffer of the pool charges, in the unit of its storage (R585). -/
def poolCharge (p : Nat) : Nat := if poolInDram p then poolSize p / 0x10000 else poolSize p / 256

def State.poolCount (s : State) (p : Nat) : Nat := s.fld (Reg.POOL_COUNT p) 20 0

/-- POOL_BASE of a pool. -/
def State.poolOrigin (s : State) (p : Nat) : Nat :=
  s.regN (Reg.POOL_BASE_LO p) + 2 ^ 32 * s.fld (Reg.POOL_BASE_HI p) 7 0

/-- The device address where a pool begins. -/
def State.poolAddr (s : State) (p : Nat) : Nat := if poolInDram p then s.poolOrigin p else poolBase + s.poolOrigin p

/-- Whether a range of Pool Memory meets a pool of non-zero count that lies there. -/
def State.meetsPool (s : State) (o n : Nat) : Bool :=
  (List.range 4).any fun p => overlap o n (s.poolOrigin p) (s.poolCount p * poolSize p)

/-- The offset of the cue ring area (R580). -/
def State.cueRingBase (s : State) : Nat := s.fld Reg.CUEX_RING_BASE 22 18 * 0x40000

/-- The storage of an enabled service FIFO: offset and bytes (R597). -/
def State.fifoStorage (s : State) (f : Nat) : Nat × Nat :=
  if s.rbit (Reg.FIFO_CFG f) 0 then (s.fld (Reg.FIFO_BASE f) 22 2 * 4, 8 * s.fld (Reg.FIFO_CFG f) 16 8) else (0, 0)

/-- R584: the pool configuration is good. -/
def State.poolsGood (s : State) : Bool :=
  let ps := (List.range 8).filter fun p => s.poolCount p != 0
  ps.all (fun p =>
    let n := s.poolCount p * poolSize p
    if poolInDram p then s.poolOrigin p % poolSize p == 0 && Nat.ble (s.poolOrigin p + n) s.dramSize
    else Nat.ble (s.poolOrigin p + n) 0x800000 && !overlap (s.poolOrigin p) n s.cueRingBase 0x80000) &&
  ps.all (fun p => ps.all fun q => p == q || !overlap (s.poolAddr p) (s.poolCount p * poolSize p) (s.poolAddr q)
    (s.poolCount q * poolSize q))

/-! ### Buffers and handles -/

/-- The buffer of a handle's low 24 bits. -/
def State.poolBuf (s : State) (k : Nat) : PoolBuf := Sparse.get (fun _ => PoolBuf.init) s.pool.bufs k

def State.setPoolBuf (s : State) (k : Nat) (b : PoolBuf) : State :=
  { s with pool := { s.pool with bufs := Sparse.set (fun _ => PoolBuf.init) s.pool.bufs k b } }

/-- The generation of a buffer: 1 to 255 in turn, one on at each free and at each enable of the prop room (R558, R813);
before the first enable it is 1 (assumption 7). -/
def State.poolGen (s : State) (k : Nat) : Nat := 1 + (s.pool.adv + (s.poolBuf k).frees) % 255

/-- The handle of a buffer (R558). -/
def State.poolHandle (s : State) (k : Nat) : Nat := s.poolGen k * 2 ^ 24 + k

/-- The buffer a handle names now: given, and of the current generation (R556). -/
def State.bufOf (s : State) (h : Nat) : Option Nat :=
  let k := h % 2 ^ 24
  if s.poolGen k == h / 2 ^ 24 % 256 && (s.poolBuf k).count != 0 then some k else none

/-- The device address and the bytes of the buffer, or of the span, that begins at `k`. -/
def State.bufAddr (s : State) (k : Nat) : Nat := s.poolAddr (k / 2 ^ 21) + k % 2 ^ 21 * poolSize (k / 2 ^ 21)
def State.bufSize (s : State) (k : Nat) : Nat := (s.poolBuf k).span * poolSize (k / 2 ^ 21)

/-- The lowest index from `i` on of `n` consecutive free buffers among `count`, with the used indices rising. -/
def firstFree (n count : Nat) : Nat → List Nat → Option Nat
  | i, [] => if Nat.ble (i + n) count then some i else none
  | i, u :: r => if Nat.ble (i + n) u then some i else firstFree n count (max i (u + 1)) r

/-- The used indices of a pool, rising; every buffer of a span is used. -/
def State.poolUsed (s : State) (p : Nat) : List Nat :=
  (s.pool.bufs.filter fun q => q.1 / 2 ^ 21 == p && q.2.count != 0).flatMap fun q => rangeFrom (q.1 % 2 ^ 21) q.2.span

/-- The POOL_HELD and POOL_QUOTA registers of a requester for a storage. -/
def heldReg (r : Nat) (dram : Bool) : Nat := if dram then Reg.POOL_HELD_DRAM r else Reg.POOL_HELD_PM r
def State.poolQuota (s : State) (r : Nat) (dram : Bool) : Nat :=
  if Nat.ble 28 r then 0
  else if dram then s.fld (Reg.POOL_QUOTA_DRAM r) 19 0 else s.fld (Reg.POOL_QUOTA_PM r) 15 0

/-! ### Requests -/

/-- The prop-room statuses (R590). -/
def stPoolOk : Nat := 0
def stPoolEmpty : Nat := 1
def stPoolQuota : Nat := 2
def stPoolBadSize : Nat := 3
def stPoolRefOverflow : Nat := 4
def stPoolStale : Nat := 5

/-- The content of a buffer is undefined (R587), but for what a fence keeps as it is (R388). -/
def State.scrapOpen (s : State) (a n : Nat) : State := s.forEach (s.openRanges a n) fun r s => s.memScrap r.1 r.2

/-- A buffer given (R587): the lowest free one of pool `p` at index `i`, `n` of them for a span. -/
def State.giveBuf (s : State) (r p i n : Nat) : State :=
  let k := p * 2 ^ 21 + i
  let s := s.setPoolBuf k { s.poolBuf k with count := 1, owner := r, span := n }
  let free := s.regN (Reg.POOL_FREE p) - n
  let s := (s.setRegN (Reg.POOL_FREE p) free).setRegN (Reg.POOL_LOW p) (min (s.regN (Reg.POOL_LOW p)) free)
  let s := s.wrapAdd (heldReg r (poolInDram p)) (n * poolCharge p)
  (s.bump Reg.POOL_ALLOCS 1).scrapOpen (s.bufAddr k) (n * poolSize p)

/-- The candidates of R585 in turn. -/
def State.tryPools (s : State) (r n : Nat) : List Nat → State × Nat × Nat
  | [] => (s.bump Reg.POOL_REFUSE_EMPTY 1, stPoolEmpty, 0)
  | p :: ps =>
    let d := poolInDram p
    if s.poolQuota r d < s.regN (heldReg r d) + n * poolCharge p then (s.bump Reg.POOL_REFUSE_EMPTY 1, stPoolEmpty, 0)
    else match firstFree n (s.poolCount p) 0 (s.poolUsed p) with
      | some i => (s.giveBuf r p i n, stPoolOk, s.poolHandle (p * 2 ^ 21 + i))
      | none => s.tryPools r n ps

/-- R585: a request of requester `r` decided: the state after it, its status, the handle given or 0. -/
def State.poolAsk (s : State) (r size : Nat) : State × Nat × Nat :=
  if !s.enabled 0x018 then (s.bump Reg.POOL_REFUSE_EMPTY 1, stPoolEmpty, 0)
  else if size == 0 || Nat.blt 0x4000000 size then (s, stPoolBadSize, 0)
  else
    let n := if Nat.blt 0x400000 size then cdiv size 0x400000 else 1
    let ps := if Nat.blt 0x400000 size then [7] else (List.range 8).filter fun p => Nat.ble size (poolSize p)
    match ps with
    | [] => (s, stPoolBadSize, 0)
    | p :: _ =>
      let d := poolInDram p
      if s.poolQuota r d < s.regN (heldReg r d) + n * poolCharge p then (s.bump Reg.POOL_REFUSE_QUOTA 1, stPoolQuota, 0)
      else s.tryPools r n ps

/-- Free the buffer, or the span, that begins at `k` (R588). -/
def State.freeBuf (s : State) (k : Nat) : State :=
  let b := s.poolBuf k
  let p := k / 2 ^ 21
  let s := s.setRegN (Reg.POOL_FREE p) (s.regN (Reg.POOL_FREE p) + b.span)
  let s := s.setRegN (heldReg b.owner (poolInDram p)) (s.regN (heldReg b.owner (poolInDram p)) - b.span * poolCharge p)
  let s := s.setPoolBuf k { frees := b.frees + 1, count := 0, owner := 0, span := 1 }
  s.forEach (rangeFrom (k + 1) (b.span - 1)) fun j s =>
    s.setPoolBuf j { s.poolBuf j with frees := (s.poolBuf j).frees + 1 }

/-- A reference command (R588, R557, R813): its status and the count afterwards. -/
def State.poolRef (s : State) (h : Nat) (up : Bool) : State × Nat × Nat :=
  if !s.enabled 0x018 then (s, stPoolStale, 0)
  else match s.bufOf h with
    | none => (s.bump Reg.POOL_STALE_GEN_DROPS 1, stPoolStale, 0)
    | some k =>
      let b := s.poolBuf k
      if up then
        if b.count == 255 then (s.bump Reg.POOL_REF_OVERFLOWS 1, stPoolRefOverflow, 255)
        else (s.setPoolBuf k { b with count := b.count + 1 }, stPoolOk, b.count + 1)
      else if b.count == 1 then (s.freeBuf k, stPoolOk, 0)
      else (s.setPoolBuf k { b with count := b.count - 1 }, stPoolOk, b.count - 1)

/-- A decrement by a hardware block. -/
def State.poolDrop (s : State) (h : Nat) : State := (s.poolRef h false).1

/-- The window of a requester (R589, R591). -/
def windowOf (r : Nat) : Option Nat :=
  if r == 27 then some 0 else if Nat.ble 16 r && Nat.ble r 20 then some (r - 15) else none

/-- The requester a writer is in the prop room (R589). -/
def requesterOf : Writer → Nat
  | .prompter => 20
  | .stageManager n => 16 + n.val
  | .host => 27
  | .cueEngine n => n.val

/-- The answer to a request, in its window or to its block. -/
def State.poolReply (s : State) (r st h : Nat) : State :=
  match windowOf r with
  | some w => (s.setRegN (Reg.POOL_RESULT w) (1 + 16 * st)).setRegN (Reg.POOL_HANDLE w) h
  | none => s.emit (.poolAnswer r st h)

/-- R586: descending class, within a class ascending requester. -/
def askOrder (a : PoolAsk) : Nat := (7 - a.cls.val) * 64 + a.requester.val

/-- The fault source of a requester; the host has none (R589, R685). -/
def requesterSource (r : Nat) : Nat :=
  if Nat.blt r 16 then 512 + 16 * r
  else if Nat.blt r 20 then 768 + 32 * (r - 16)
  else if r == 20 then 896
  else if Nat.blt r 25 then 424 + (r - 21)
  else if r == 25 then 440
  else if r == 26 then 443
  else 1023

/-- The prop room does not answer: its block is in reset, its domain held (R649, R768). -/
def State.poolShut (s : State) : Bool := s.inReset 0x018 || s.domainHeld 5

/-- The answer to a reference command of a requester. -/
def State.refReply (s : State) (r st n : Nat) : State :=
  match windowOf r with
  | some w => s.setRegN (Reg.POOL_REF_RESULT w) (1 + 16 * st + 256 * n)
  | none => s.emit (.poolAnswer r st n)

/-- R24 as a number: time token, then id, then generation of the source handle. -/
def tokenOrder (time handle : Nat) : Nat := time * 65536 + handle % 256 * 256 + handle / 256 % 256

/-- One reference command applied (R588). -/
def State.refApply (s : State) (up : Bool) (a : PoolRefAsk) : State :=
  if s.poolShut then s.aborted (requesterSource a.requester.val) 0
  else match s.poolRef a.handle.toNat up with
    | (s, st, n) => s.refReply a.requester.val st n

/-- The order in which reference commands of one handshake step are applied (R24, R588). -/
def refOrder (a : PoolRefAsk) : Nat := tokenOrder a.time a.source.toNat

/-- POOL_REF_INCREMENT (R588): the increments that reach the prop room in one handshake step. -/
def execPoolRefIncrement (cs : List PoolRefAsk) (s : State) : Host.Outcome State Fault Refusal :=
  .next (s.forEach (sortBy refOrder cs) fun a s => s.refApply true a)

/-- POOL_REF_DECREMENT (R588): the decrements that reach the prop room in one handshake step. -/
def execPoolRefDecrement (cs : List PoolRefAsk) (s : State) : Host.Outcome State Fault Refusal :=
  .next (s.forEach (sortBy refOrder cs) fun a s => s.refApply false a)

/-- One request decided (R585, R586). -/
def State.askApply (s : State) (a : PoolAsk) : State :=
  if s.poolShut then s.aborted (requesterSource a.requester.val) 0
  else match s.poolAsk a.requester.val a.size.toNat with
    | (s, st, h) => s.poolReply a.requester.val st h

/-- POOL_REQUEST (R585, R586, R588): the requests that reach the prop room in one handshake step, decided one after another once
every reference command of the step (an increment or not) is applied; each answered REQ_ABORTED while its block is in reset. -/
def execPoolRequest (refs : List (Bool × PoolRefAsk)) (asks : List PoolAsk) (s : State) : Host.Outcome State Fault Refusal :=
  .next <|
    let s := s.forEach (sortBy (fun r => refOrder r.2) refs) fun r s => s.refApply r.1 r.2
    s.forEach (sortBy askOrder asks) fun a s => s.askApply a

/-- POOL_ENABLE (R584, R813 step 1). -/
def State.poolEnable (s : State) : State :=
  if s.enabled 0x018 then s
  else if !s.poolsGood then (s.setRbit (blkCtrl 0x018) 0 false).setRegN Reg.POOL_STATUS 6
  else
    let freed := (s.pool.bufs.filter fun q => q.2.frees != 0).map fun q => (q.1, { PoolBuf.init with frees := q.2.frees })
    let s := { s with pool := ({ adv := s.pool.adv + 1, bufs := freed } : PoolCtl) }
    let s := s.forEach (List.range 8) fun p s => s.setRegN (Reg.POOL_FREE p) (s.poolCount p)
    let s := s.forEach (List.range 64) fun r s => (s.setRegN (Reg.POOL_HELD_PM r) 0).setRegN (Reg.POOL_HELD_DRAM r) 0
    s.setRbit (blkCtrl 0x018) 0 true

def execPoolEnable (s : State) : Host.Outcome State Fault Refusal :=
  .next <| s.ifLive 0x018 fun s => s.poolEnable

/-- POOL_STOP (R813 step 2): what has arrived is decided, each command of it in its own step here; ENABLE cleared. -/
def execPoolStop (s : State) : Host.Outcome State Fault Refusal :=
  .next <| s.ifLive 0x018 fun s => s.setRbit (blkCtrl 0x018) 0 false

/-- POOL_HALT (R813 step 3): requests not yet decided are answered POOL_EMPTY, reference commands not yet applied
STALE_HANDLE; ENABLE cleared. -/
def execPoolHalt (asks : List PoolAsk) (refs : List (Fin 64)) (s : State) : Host.Outcome State Fault Refusal :=
  .next <| s.ifLive 0x018 fun s =>
    let s := s.setRbit (blkCtrl 0x018) 0 false
    let s := s.forEach (sortBy askOrder asks) fun a s =>
    (s.bump Reg.POOL_REFUSE_EMPTY 1).poolReply a.requester.val stPoolEmpty 0
    (s.forEach refs fun r s => s.refReply r.val stPoolStale 0)

end Sys2Proof.Machine
end

