-- ==== Sys2Proof/Machine/Net.lean ====
section
/-! DEFINITION. Network ports (R452 to R455), the flow table's commands (R462 to R465), the shaper (R489 to R493,
R811), building and queueing egress packets (R467 to R470), sending a frame (R490, R460, R472 to R476). -/

namespace Sys2Proof.Machine

/-! ### Ports -/

/-- STATE of a port (R455). -/
def State.portState (s : State) (p : Nat) : Nat := s.fld (Reg.NET_STATUS p) 3 0
def State.setPortState (s : State) (p n : Nat) : State := s.setFld (Reg.NET_STATUS p) 3 0 n

/-- The page of a port, and the fault source of it. -/
def netPage (p : Nat) : Nat := 0x030 + p
def netSource (p : Nat) : Nat := 436 + p

/-- The corrections of R475, in ps: transmit and receive latency of a port's setting. -/
def State.portLatency (s : State) (p : Nat) : Nat × Nat :=
  if s.rbit (Reg.NET_CTRL p) 0 then (96000, 131200)
  else if s.rbit (Reg.NET_CTRL p) 1 then (71700, 214300) else (38400, 52500)

/-- NET_TX_LATENCY and NET_RX_LATENCY follow the setting (R475). -/
def State.syncLatency (s : State) (p : Nat) : State :=
  (s.setRegN (Reg.NET_TX_LATENCY p) (s.portLatency p).1).setRegN (Reg.NET_RX_LATENCY p) (s.portLatency p).2

/-- The line rate of a port in kb/s. -/
def State.lineRate (s : State) (p : Nat) : Nat := if s.rbit (Reg.NET_CTRL p) 0 then 10000000 else 25000000

/-- NET_ENABLE (R453, R455 step 1). -/
def State.netEnable (s : State) (p : Nat) : State :=
  let mtu := s.fld (Reg.NET_MTU p) 13 0
  if s.portState p != 0 then s
  else if (s.rbit (Reg.NET_CTRL p) 0 && s.rbit (Reg.NET_CTRL p) 1) || Nat.blt mtu 1518 || Nat.blt 9216 mtu then
    (s.setFld (Reg.NET_STATUS p) 15 8 1).setRbit (blkCtrl (netPage p)) 0 false
  else (((s.setFld (Reg.NET_STATUS p) 15 8 0).setRbit (blkCtrl (netPage p)) 0 true).setPortState p 1).syncLatency p

def execNetEnable (p : Fin 4) (s : State) : Host.Outcome State Fault Refusal :=
  .next <| s.ifLive (netPage p.val) fun s => s.netEnable p.val

/-- NET_LINK_UP (R454, R455 step 2): the locks have held for 10 ms. -/
def execNetLinkUp (p : Fin 4) (s : State) : Host.Outcome State Fault Refusal :=
  .next <| s.ifLive (netPage p.val) fun s =>
    s.doIf (s.portState p.val == 1 || s.portState p.val == 3) fun s =>
      let s := (s.setPortState p.val 2).setFld (Reg.NET_STATUS p.val) 5 4 3
      s.setRbit (Reg.NET_STATUS p.val) 6 (s.rbit (Reg.NET_CTRL p.val) 1)

/-- NET_LINK_DOWN (R454, R455 step 3): a lock lost for 1 ms; `block` and `fec` the locks that are left. -/
def execNetLinkDown (p : Fin 4) (block fec : Bool) (s : State) : Host.Outcome State Fault Refusal :=
  .next <| s.ifLive (netPage p.val) fun s =>
    s.doIf (s.portState p.val == 2) fun s =>
      let s := (s.setPortState p.val 3).setFld (Reg.NET_STATUS p.val) 6 4 (2 * b2n block + 4 * b2n fec)
      (s.bump (Reg.NET_LINK_LOSSES p.val) 1).raise (netSource p.val) FaultKind.NET_LINK_LOST 0

/-! ### Shaper queues -/

def State.queue (s : State) (q : Nat) : SQueue := Sparse.get (fun _ => SQueue.init) s.queues q

/-- The queues that are not as at reset. -/
def State.queueIds (s : State) : List Nat := (s.queues.map (·.1)).filter fun q => Nat.blt q 256

/-- The configuration and the rate in force of a queue (R492). -/
def State.qCfg (s : State) (q : Nat) : Nat := ((s.queue q).old.map (·.1)).getD (s.regN (Reg.SHQ_CFG q))
def State.qRate (s : State) (q : Nat) : Nat := (((s.queue q).old.map (·.2)).getD (s.regN (Reg.SHQ_RATE q))) % 2 ^ 25

def cfgEn (v : Nat) : Bool := nbit v 0
def cfgPort (v : Nat) : Nat := nbits v 2 1
def cfgPrio (v : Nat) : Nat := nbits v 5 3
def cfgResetTo (v : Nat) : Bool := nbit v 6
def cfgLimit (v : Nat) : Nat := nbits v 15 8 * 16384
/-- BURST in 10^−9 bit. -/
def cfgBurst (v : Nat) : Nat := nbits v 31 16 * 64 * 8000000000

def SQueue.depth (x : SQueue) : Nat := (x.frames.map (·.len)).foldl (· + ·) 0

/-- A queue replaced, and the registers that show it. -/
def State.setQueue (s : State) (q : Nat) (x : SQueue) : State :=
  let s := { s with queues := Sparse.set (fun _ => SQueue.init) s.queues q x }
  (s.setReg (Reg.SHQ_CREDIT q) (satS32 (x.credit / 8000000000))).setRegN (Reg.SHQ_DEPTH q) (min x.depth (2 ^ 24 - 1))

/-- R489: a credit moved from one time to a later one, in ps: falling at the send slope while a frame is on the wire,
rising at IDLE_SLOPE at every other time, at most BURST; an unshaped queue's stays at BURST. -/
def creditAt (credit : Int) (t0 t1 wireEnd slope line burst : Nat) : Int :=
  if line ≤ slope then burst
  else
    let onWire := min t1 wireEnd - min t0 wireEnd
    let off := (t1 - t0) - onWire
    min (burst : Int) (credit - ((line - slope) * onWire : Nat) + (slope * off : Nat))

/-- The time base in ps. -/
def State.nowPs (s : State) : Nat := s.now * 1000

/-- A queue brought to now (R489); a write that waited takes effect once its frame has left the wire (R492). -/
def State.settleQueue (s : State) (q : Nat) : State :=
  let x := s.queue q
  let t := s.nowPs
  let line := s.lineRate (cfgPort (s.qCfg q))
  if x.old.isSome && Nat.ble x.wireEnd t then
    let cfg := s.regN (Reg.SHQ_CFG q)
    let cut := !cfgEn cfg
    let start : Int := if cfgResetTo cfg then cfgBurst cfg else 0
    s.setQueue q { x with
      old := none, last := t,
      credit := creditAt start x.wireEnd t x.wireEnd (s.fld (Reg.SHQ_RATE q) 24 0) (s.lineRate (cfgPort cfg)) (cfgBurst cfg),
      frames := if cut then [] else x.frames, drops := if cut then min (x.drops + x.frames.length) 0xFFFFFFFF else x.drops }
  else s.setQueue q { x with
    credit := creditAt x.credit x.last t x.wireEnd (s.qRate q) line (cfgBurst (s.qCfg q)), last := max x.last t }

/-- R493: OVERSUBSCRIBED of a port. -/
def State.oversubscribed (s : State) (p : Nat) : Bool :=
  let line := s.lineRate p
  let rates := (List.range 256).map fun q =>
    let cfg := s.regN (Reg.SHQ_CFG q)
    let r := s.fld (Reg.SHQ_RATE q) 24 0
    if cfgEn cfg && cfgPort cfg == p && Nat.blt r line then r else 0
  Nat.blt line (rates.foldl (· + ·) 0)

/-- SHAPER_STATUS (R493). -/
def State.shaperStatus (s : State) : State :=
  s.setRegN Reg.SHAPER_STATUS (((List.range 4).map fun p => 2 ^ p * b2n (s.oversubscribed p)).foldl (· + ·) 0)

/-- SHQ_WRITE (R492, R505): a write of SHQ_CFG_q or SHQ_RATE_q. -/
def State.shqWrite (s : State) (q : Nat) (rate : Bool) (v : Word) : State :=
  let s := s.settleQueue q
  let x := s.queue q
  if !rate && bits v 15 8 == 0 then s
  else
    let before := (s.qCfg q, s.qRate q)
    let s := if rate then s.setRegN (Reg.SHQ_RATE q) (bits v 24 0) else s.setReg (Reg.SHQ_CFG q) (v &&& 0xFFFFFF7F)
    let s := s.setQueue q { x with old := some before, wireEnd := max x.wireEnd s.nowPs }
    (s.settleQueue q).shaperStatus

def execShqWrite (q : Fin 256) (rate : Bool) (v : Word) (s : State) : Host.Outcome State Fault Refusal :=
  .next <| s.ifWritten 0x035 (if rate then Reg.SHQ_RATE q.val else Reg.SHQ_CFG q.val) v fun s => s.shqWrite q.val rate v

/-- QUEUE_DROP (R491): a drop of the queue counted; the fault at most once a second. -/
def State.queueDrop (s : State) (q : Nat) : State :=
  let x := s.queue q
  let again := match x.dropAt with
    | some t => Nat.blt s.now (t + 1000000000)
    | none => false
  let s := s.setQueue q { x with drops := min (x.drops + 1) 0xFFFFFFFF, dropAt := if again then x.dropAt else some s.now }
  s.doIf (!again) fun s => s.raise 937 FaultKind.QUEUE_DROP q

/-- A frame queued, or dropped above LIMIT (R491): whether it was queued. -/
def State.enqueue (s : State) (q : Nat) (f : QFrame) : State × Bool :=
  let s := s.settleQueue q
  let x := s.queue q
  if Nat.blt (cfgLimit (s.qCfg q)) (x.depth + f.len) then (s.queueDrop q, false)
  else (s.setQueue q { x with frames := x.frames ++ [f] }, true)

/-! ### Egress packets -/

/-- The length of an egress frame that carries an RTP packet of a payload (R468, R470). -/
def State.egressLen (s : State) (x : Flow) (payload : Nat) : Nat :=
  max 64 (14 + (if x.vlan && s.rbit (Reg.NET_CTRL (lowPort x.portMask)) 2 then 4 else 0) + (if x.ipv6 then 40 else 20) +
    8 + 12 + payload + 4)

/-- The source address and MAC of an egress packet of a flow (R463, R468, R749). -/
def State.egressSource (s : State) (x : Flow) : Nat × Nat :=
  let p := lowPort x.portMask
  (s.portAddr p x.ipv6 x.dst s.svcOn,
   if s.svcOn then s.fld (Reg.PAIR_SVC_MAC_HI p) 15 0 * 2 ^ 32 + s.regN (Reg.PAIR_SVC_MAC_LO p)
   else s.fld (Reg.NET_MAC_HI p) 15 0 * 2 ^ 32 + s.regN (Reg.NET_MAC_LO p))

/-- Ones' complement sum of 16-bit words. -/
def onesSum (b : List Byte) : Nat :=
  let rec go : List Byte → Nat → Nat
    | x :: y :: r, a => go r (a + x.toNat * 256 + y.toNat)
    | [x], a => a + x.toNat * 256
    | [], a => a
  let t := go b 0
  let t := t % 65536 + t / 65536
  let t := t % 65536 + t / 65536
  t % 65536 + t / 65536

/-- The tag of an egress frame: priority of the flow, VID of the port (R452, R463). -/
def State.egressTag (s : State) (x : Flow) : List Byte :=
  let p := lowPort x.portMask
  if x.vlan && s.rbit (Reg.NET_CTRL p) 2 then [0x81, 0x00] ++ beBytes 2 (x.pcp * 2 ^ 13 + s.fld (Reg.NET_CTRL p) 15 4) else []

/-- The IPv4 header of a packet of `n` bytes of UDP payload (R468): DF, the flow's identification, DSCP with ECN 0, its checksum. -/
def ip4Head (x : Flow) (src n : Nat) : List Byte :=
  let f (sum : Nat) : List Byte :=
    [0x45] ++ beBytes 1 (4 * x.dscp) ++ beBytes 2 (28 + n) ++ beBytes 2 x.ident ++ [0x40, 0x00] ++ beBytes 1 x.ttl ++ [17] ++
      beBytes 2 sum ++ beBytes 4 (src % 2 ^ 32) ++ beBytes 4 (x.dst % 2 ^ 32)
  f (65535 - onesSum (f 0))

/-- The IPv6 header (R468). -/
def ip6Head (x : Flow) (src n : Nat) : List Byte :=
  beBytes 4 (6 * 2 ^ 28 + x.dscp * 2 ^ 22) ++ beBytes 2 (8 + n) ++ [17] ++ beBytes 1 x.ttl ++ beBytes 16 src ++ beBytes 16 x.dst

/-- The headers of an egress packet of `n` bytes of UDP payload, but for the UDP checksum, which covers coded data (R468). -/
def State.egressHead (s : State) (x : Flow) (src mac n : Nat) : List Byte :=
  beBytes 6 x.dstMac ++ beBytes 6 mac ++ s.egressTag x ++
    (if x.ipv6 then [0x86, 0xDD] ++ ip6Head x src n else [0x08, 0x00] ++ ip4Head x src n) ++
    beBytes 2 x.srcPort ++ beBytes 2 x.dstPort ++ beBytes 2 (8 + n)

/-- The flows that a local ingress flow of the same group and port takes in house mode (R678). -/
def State.localFlows (s : State) (x : Flow) : List Nat :=
  (s.flows.filter fun q => q.2.valid && !q.2.egress && q.2.dst == x.dst && q.2.dstPort == x.dstPort).map (·.1)

/-- NET_TX_OVERSIZE (R470): counted; the fault once a second per flow. -/
def State.oversize (s : State) (f : Nat) : State :=
  let x := s.flow f
  let again := match x.overAt with
    | some t => Nat.blt s.now (t + 1000000000)
    | none => false
  let s := (s.bump (Reg.NET_TX_OVERSIZE (lowPort x.portMask)) 1).setFlow f { x with overAt := if again then x.overAt else some s.now }
  s.doIf (!again) fun s => s.raise (netSource (lowPort x.portMask)) FaultKind.NET_TX_OVERSIZE f

/-- R468 to R470, R491, R811: a packet of context `c` for flow `f`, whose PKT_BUILD hook, when the flow has BUILDER
set, wrote `hook` bytes (none: abandoned). -/
def State.egressPacket (s : State) (f c seq payload : Nat) (hook : Option Nat) : State :=
  let x := s.flow f
  let built := match hook with
    | some n => if Nat.ble n 256 then n else 0
    | none => 0
  let lost := x.builder && (match hook with
    | some n => Nat.blt 256 n
    | none => true)
  let s := s.doIf lost fun s => s.bump Reg.PKT_BUILD_ABANDONS 1
  let bytes := payload + (if x.builder then built else 0)
  let len := s.egressLen x bytes
  let p := lowPort x.portMask
  if Nat.blt (s.fld (Reg.NET_MTU p) 13 0) len then s.oversize f
  else
    let src := s.egressSource x
    let s := s.setFlow f { x with ident := (x.ident + 1) % 65536 }
    let s := s.settleQueue x.queue
    let cfg := s.qCfg x.queue
    if !cfgEn cfg || cfgPort cfg != p then s.queueDrop x.queue
    else
      match s.enqueue x.queue { len := len, at_ := s.now, slot := none, ctx := c, seq := seq } with
      | (s, false) => s
      | (s, true) =>
        let s := s.emit (.packet f x.queue c seq src.1 src.2 x.ident (s.egressHead x src.1 src.2 (12 + bytes)))
        s.doIf s.rc.house fun s => s.forEach (s.localFlows x) fun g s => s.emit (.loopback g (s.flow g).ctx seq)

/-- The flow an encode context's packets leave by, when it serves the context (R467). -/
def State.egressFlow (s : State) (c : Nat) : Option Nat :=
  let h := s.fld (Reg.ENC_FLOW c) 15 0
  if s.flowServes (h % 256) c && (s.flow (h % 256)).gen == h / 256 then some (h % 256) else none

/-- An RTP packet of an encode context handed to the packet engine: discarded in the Stop state (R693) and by a partner
that does not transmit it (R726); without its flow it is counted in STALE_GEN_DROPS (R467). -/
def State.egressRtp (s : State) (c seq payload : Nat) (hook : Option Nat) : State :=
  if s.rbit Reg.FAULT_STATUS 0 || !s.transmits c then s
  else match s.egressFlow c with
    | none => s.bump Reg.PKT_STALE_GEN_DROPS 1
    | some f => s.egressPacket f c seq payload hook

/-! ### PTP event messages (R471 to R476) -/

/-- Where the PTP message of a frame begins, when it carries one to one of some UDP ports; the flag tells IPv4 (1) and IPv6 (2) from
IEEE 802.3 (0). -/
def ptpMessage (ports : List Nat) (b : List Byte) : Option (Nat × Nat) :=
  let o := if beAt b 12 2 == 0x8100 then 18 else 14
  let et := beAt b (o - 2) 2
  if et == 0x88F7 then some (o, 0)
  else if et == 0x0800 && beAt b (o + 9) 1 == 17 then
    let h := beAt b o 1 % 16 * 4
    if ports.elem (beAt b (o + h + 2) 2) then some (o + h + 8, 1) else none
  else if et == 0x86DD && beAt b (o + 6) 1 == 17 then
    if ports.elem (beAt b (o + 42) 2) then some (o + 48, 2) else none
  else none

/-- Where the PTP event message of a frame begins (R472). -/
def ptpAt (b : List Byte) : Option (Nat × Nat) := ptpMessage [319] b

/-- The 48-bit seconds of a field on the wire extended to 64 bits: the nearest to the local seconds (R473; of two as near the later). -/
def State.wireSeconds (s : State) (v : Nat) : Nat :=
  let d := (v % 2 ^ 48 + 2 ^ 48 - s.tb.sec % 2 ^ 48) % 2 ^ 48
  (if Nat.ble d (2 ^ 47) then s.tb.sec + d else s.tb.sec + d + 2 ^ 64 - 2 ^ 48) % 2 ^ 64

/-- Bytes of a list replaced from an offset. -/
def spliceB (b : List Byte) (o : Nat) (v : List Byte) : List Byte := b.take o ++ v ++ b.drop (o + v.length)

/-- The correctionField of the message moved by a signed number of 2^−16 ns. -/
def addCorrection (b : List Byte) (o : Nat) (d : Int) : List Byte :=
  spliceB b (o + 8) (beBytes 8 ((sx 64 (beAt b (o + 8) 8) + d) % (2 ^ 64 : Int)).toNat)

/-- NET_PTP_ASYM of a port in 2^−16 ns. -/
def State.asym (s : State) (p : Nat) : Int := sx 32 (s.regN (Reg.NET_PTP_ASYM p)) * 65536 / 1000

/-- A departure or arrival reading: seconds, nanoseconds, and 2^−16 ns, `ps` after now. -/
def State.stampAfter (s : State) (ps : Nat) : Nat × Nat × Nat :=
  let v := (s.tb.ns * 2 ^ 32 + s.tb.frac) + ps * 2 ^ 32 / 1000
  (s.tb.sec + v / 2 ^ 32 / 1000000000, v / 2 ^ 32 % 1000000000, v % 2 ^ 32 / 65536)

/-- The UDP checksum of an IPv6 packet whose header begins at `o`. -/
def udp6Sum (b : List Byte) (o : Nat) : Nat :=
  let n := beAt b (o + 44) 2
  let v := 65535 - onesSum (sliceB b (o + 8) 32 ++ beBytes 4 n ++ beBytes 4 17 ++ spliceB (sliceB b (o + 40) n) 6 [0, 0])
  if v == 0 then 65535 else v

/-- A frame of the control path as it is sent: the one-step timestamp of R474, the asymmetry of R476. -/
def State.stampFrame (s : State) (p : Nat) (oneStep : Bool) (b : List Byte) : List Byte :=
  match ptpAt b with
  | none => b
  | some (o, kind) =>
    let typ := beAt b o 1 % 16
    let b := if typ == 1 || typ == 2 then addCorrection b o (-(s.asym p)) else b
    if oneStep && typ == 0 then
      let d := s.stampAfter (s.portLatency p).1
      let b := addCorrection (spliceB b (o + 34) (beBytes 6 d.1 ++ beBytes 4 d.2.1)) o d.2.2
      if kind == 1 then spliceB b (o - 2) [0, 0]
      else if kind == 2 then spliceB b (o - 2) (beBytes 2 (udp6Sum b (o - 48))) else b
    else if kind == 2 && (typ == 1 || typ == 2) then spliceB b (o - 2) (beBytes 2 (udp6Sum b (o - 48)))
    else if kind == 1 && (typ == 1 || typ == 2) then spliceB b (o - 2) [0, 0]
    else b

/-! ### The transmit ring of the control path (R459, R460) -/

def State.smtxSlot (s : State) (i : Nat) : Nat := s.fld Reg.PKT_SMTX_BASE 22 4 * 16 + 16 * i
def State.smtxSize (s : State) : Nat := s.fld Reg.PKT_SMTX_SIZE 12 0

/-- The device ends a transmit descriptor: FLAGS with DONE and what else, TIME when asked for, the head past every
descriptor that is done (R460). -/
def State.smtxDone (s : State) (i : Nat) (error : Bool) (time : Option Nat) : State :=
  let a := s.smtxSlot i
  let fl := leAt (s.pmBytes (a + 7) 1) 0 1
  let s := match time with
    | some t => s.pmWrite (a + 8) (leBytes 8 t)
    | none => s
  let s := s.pmWrite (a + 7) [BitVec.ofNat 8 (fl / 16 * 16 + 8 * b2n error + fl % 8 / 2 * 2 + 1)]
  (s.setRegN Reg.PKT_SMTX_HEAD ((i + 1) % s.smtxSize)).blockCue 441 false

/-- A control frame with the tag of its port, PCP and VID of NET_CTRL, where VLAN_EN is set and it has none (DEDUCED, assumption
44). -/
def State.tagControl (s : State) (p : Nat) (b : List Byte) : List Byte :=
  if s.rbit (Reg.NET_CTRL p) 2 && beAt b 12 2 != 0x8100 then
    b.take 12 ++ [0x81, 0x00] ++ beBytes 2 (s.fld (Reg.NET_CTRL p) 18 16 * 2 ^ 13 + s.fld (Reg.NET_CTRL p) 15 4) ++ b.drop 12
  else b

/-- The next descriptor of the ring taken (R459, R460): queued on queue 252 + PORT, or ended with ERROR when it is
longer than NET_MTU or its buffer is not there. -/
def State.smtxTake (s : State) (i : Nat) : State :=
  let d := s.pmBytes (s.smtxSlot i) 16
  let p := leAt d 6 1 % 4
  let n := leAt d 4 2
  match s.bufOf (leAt d 0 4) with
  | none => (s.bump Reg.PKT_STALE_GEN_DROPS 1).smtxDone i true none
  | some k =>
    let len := max 64 ((s.tagControl p (s.memBytes (s.bufAddr k) n)).length + 4)
    if Nat.blt (s.fld (Reg.NET_MTU p) 13 0) len then s.smtxDone i true none
    else match s.enqueue (252 + p) { len := len, at_ := s.now, slot := some i, ctx := 0, seq := 0 } with
      | (s, true) => s
      | (s, false) => s.smtxDone i true none

/-- A write of PKT_SMTX_TAIL: the descriptors from the last tail to the new one are taken in ring order. -/
def State.smtxTailWrite (s : State) (v : Word) : State :=
  let n := s.smtxSize
  let old := s.fld Reg.PKT_SMTX_TAIL 11 0
  let k := (bits v 11 0 + n - old % n) % n
  let s := s.setRegN Reg.PKT_SMTX_TAIL (bits v 11 0)
  if n == 0 then s else s.forEach (List.range k) fun j s => s.smtxTake ((old + j) % n)

/-! ### Sending -/

/-- The queues of a port that may send now (R490). -/
def State.eligible (s : State) (p : Nat) : List Nat :=
  (s.queueIds.filter fun q =>
    let x := s.queue q
    cfgEn (s.qCfg q) && cfgPort (s.qCfg q) == p && !x.frames.isEmpty && decide (0 ≤ x.credit))

/-- R490: the eligible queue of the highest PRIO; among equals the first after the one served last at that PRIO. -/
def State.chooseQueue (s : State) (p : Nat) : Option Nat :=
  let es := s.eligible p
  let top := (es.map fun q => cfgPrio (s.qCfg q)).foldl max 0
  let es := es.filter fun q => cfgPrio (s.qCfg q) == top
  let last := Sparse.get (fun _ => 255) s.served (8 * p + top)
  (es.find? fun q => Nat.blt last q) <|> es.head?

/-- The frame of a control descriptor on the wire (R460, R472 to R476): bytes as sent, TIME when asked for. -/
def State.sendControl (s : State) (p q i len : Nat) : State :=
  let d := s.pmBytes (s.smtxSlot i) 16
  let fl := leAt d 7 1
  let body := match s.bufOf (leAt d 0 4) with
    | some k => s.memBytes (s.bufAddr k) (leAt d 4 2)
    | none => []
  let t := s.stampAfter (s.portLatency p).1
  let time := if nbit fl 1 || nbit fl 2 then some (t.1 * 1000000000 + t.2.1) else none
  (s.emit (.frame p q len (s.stampFrame p (nbit fl 2) (s.tagControl p body)))).smtxDone i false time

/-- EGRESS_FRAME_SEND (R490, R489, R460): a frame boundary of the port. -/
def State.frameBoundary (s : State) (p : Nat) : State :=
  if s.portState p != 2 && s.portState p != 3 then s
  else
    let s := s.forEach s.queueIds fun q s => s.settleQueue q
    match s.chooseQueue p with
    | none => s
    | some q =>
      let x := s.queue q
      match x.frames with
      | [] => s
      | f :: r =>
        let t := s.nowPs
        let dur := (f.len + 20) * 8000000000 / s.lineRate p
        let up := s.portState p == 2
        let s := s.setQueue q { x with frames := r, wireEnd := t + dur, last := t, sent := min (x.sent + b2n up) 0xFFFFFFFF }
        let s := { s with served := Sparse.set (fun _ => 255) s.served (8 * p + cfgPrio (s.qCfg q)) q }
        if !up then
          let s := s.bump (Reg.NET_TX_LINK_DOWN p) 1
          match f.slot with
          | some i => s.smtxDone i true none
          | none => s
        else
          let s := s.bump (Reg.NET_TX_FRAMES p) 1
          match f.slot with
          | some i => s.sendControl p q i f.len
          | none => s.emit (.frame p q f.len [])

def execEgressFrameSend (p : Fin 4) (s : State) : Host.Outcome State Fault Refusal :=
  .next <| s.ifLive (netPage p.val) fun s => s.frameBoundary p.val

/-- R455 steps 4 and 5: queued egress frames of a port discarded and counted in NET_TX_LINK_DOWN. -/
def State.dropPortQueues (s : State) (p : Nat) : State :=
  s.forEach (s.queueIds.filter fun q => cfgPort (s.qCfg q) == p) fun q s =>
    let x := s.queue q
    let s := (s.bump (Reg.NET_TX_LINK_DOWN p) x.frames.length).setQueue q { x with frames := [] }
    s.forEach (x.frames.filterMap (·.slot)) fun i s => s.smtxDone i true none

/-- NET_STOP (R455 step 4). -/
def State.netStop (s : State) (p : Nat) : State :=
  (((s.dropPortQueues p).setPortState p 0).setFld (Reg.NET_STATUS p) 6 4 0).setRbit (blkCtrl (netPage p)) 0 false

def execNetStop (p : Fin 4) (s : State) : Host.Outcome State Fault Refusal :=
  .next <| s.ifLive (netPage p.val) fun s => s.netStop p.val

/-- NET_HALT (R455 step 5): as NET_STOP, and a frame in transmission ends with an invalid FCS. -/
def State.netHalt (s : State) (p : Nat) : State :=
  let s := s.forEach (s.queueIds.filter fun q => cfgPort (s.qCfg q) == p) fun q s =>
    s.setQueue q { s.queue q with wireEnd := min (s.queue q).wireEnd s.nowPs }
  s.netStop p

def execNetHalt (p : Fin 4) (s : State) : Host.Outcome State Fault Refusal :=
  .next <| s.ifLive (netPage p.val) fun s => s.netHalt p.val

/-! ### Flow commands (R462 to R465) -/

def stFlowOk : Nat := 0
def stFlowDup : Nat := 1
def stFlowBad : Nat := 2
def stFlowInvalid : Nat := 3

/-- The window as an entry's words. -/
def State.flowWindow (s : State) : List Nat := (List.range 16).map fun i => s.regN (Reg.PKT_FLOW_DATA i)

/-- PKT_FLOW_STAT after a command (R464). -/
def State.flowStat (s : State) (f st : Nat) : State := s.setRegN Reg.PKT_FLOW_STAT (2 * st + 256 * (s.flow f).gen)

/-- R464, WRITE_NEW: the refusals of PKT_FLOW_BAD. -/
def State.flowBad (s : State) (x : Flow) : Bool :=
  nbits (x.word 0) 31 18 != 0 || nbits (x.word 10) 15 14 != 0 || nbits (x.word 10) 31 27 != 0 ||
    nbits (x.word 12) 31 16 != 0 || x.word 13 != 0 || x.word 14 != 0 || x.word 15 != 0 || x.portMask == 0 ||
    (x.egress && ((x.portMask != 1 && x.portMask != 2 && x.portMask != 4 && x.portMask != 8) ||
      Nat.blt 251 x.queue || x.ttl == 0 || x.src != 0)) ||
    (!x.egress && x.dstPort == s.fld Reg.PKT_CTRL 15 0)

/-- The zero fields of an ingress flow's ignored words: none is looked at (R464). -/
def Flow.ingressView (x : Flow) : Flow :=
  if x.egress then x else { x with words := [x.word 0 % 2 ^ 16 + x.word 0 / 2 ^ 18 * 2 ^ 18, x.word 1, x.word 2, x.word 3,
    x.word 4, x.word 5, x.word 6, x.word 7, x.word 8, x.word 9, nbits (x.word 10) 15 14 * 2 ^ 14 + nbits (x.word 10) 31 27 * 2 ^ 27,
    0, nbits (x.word 12) 31 16 * 2 ^ 16, x.word 13, x.word 14, x.word 15] }

/-- PKT_FLOW_DUP (R464). -/
def State.flowDup (s : State) (f : Nat) (x : Flow) : Bool :=
  !x.egress && s.flows.any fun q => q.1 != f && q.2.valid && !q.2.egress && q.2.dst == x.dst && q.2.dstPort == x.dstPort &&
    q.2.srcPort == x.srcPort && q.2.matchSrc == x.matchSrc && q.2.src == x.src &&
    (List.range 4).any fun p => nbit q.2.portMask p && nbit x.portMask p

/-- FLOW_READ: the entry copied into the window. -/
def State.flowRead (s : State) (f : Nat) : State :=
  (s.forEach (List.range 16) fun i s => s.setRegN (Reg.PKT_FLOW_DATA i) ((s.flow f).word i)).flowStat f stFlowOk

def execFlowRead (f : Fin 256) (s : State) : Host.Outcome State Fault Refusal :=
  .next <| s.ifLive 0x034 fun s => s.flowRead f.val

/-- The ports of a flow's mask on which it needs a membership (R461). -/
def Flow.memberPorts (x : Flow) : List Nat :=
  if !x.egress && multicastAddr x.ipv6 x.dst then (List.range 4).filter fun p => nbit x.portMask p else []

/-- The two unsolicited reports of a flow that has been written (R461). -/
def State.joinGroups (s : State) (x : Flow) : State :=
  s.forEach x.memberPorts fun p s => (s.emit (.netAnswer p 3 x.dst x.include)).emit (.netAnswer p 3 x.dst x.include)

/-- The group is left on a port where no other valid flow names it (R461). -/
def State.leaveGroups (s : State) (x : Flow) : State :=
  s.forEach (x.memberPorts.filter fun p => !(s.flows.any fun q => q.2.valid && q.2.dst == x.dst && q.2.memberPorts.elem p))
    fun p s => s.emit (.netAnswer p 4 x.dst 0)

/-- Words as the device stores them: VALID set. -/
def validWords (ws : List Nat) : List Nat := (ws.getD 0 0 / 2 * 2 + 1) :: ws.drop 1

/-- FLOW_WRITE_NEW with words from a window. -/
def State.flowWriteNew (s : State) (f : Nat) (ws : List Nat) : State × Nat :=
  let x := s.flow f
  let y : Flow := { words := validWords ws, gen := (x.gen + 1) % 256, ident := 0, overAt := none }
  if s.flowBad y.ingressView then (s.flowStat f stFlowBad, stFlowBad)
  else if s.flowDup f y then (s.flowStat f stFlowDup, stFlowDup)
  else (((s.setFlow f y).joinGroups y).flowStat f stFlowOk, stFlowOk)

def execFlowWriteNew (f : Fin 256) (s : State) : Host.Outcome State Fault Refusal :=
  .next <| s.ifLive 0x034 fun s => (s.flowWriteNew f.val s.flowWindow).1

/-- The words of a flow without what UPDATE may change: VLAN, QUEUE, DSCP, TTL, PCP, the MAC, and VALID (R464). -/
def Flow.fixedPart (x : Flow) : List Nat :=
  let w0 := x.word 0 - x.word 0 % 2 - 65536 * b2n x.vlan
  [w0, x.word 1, x.word 2, x.word 3, x.word 4, x.word 5, x.word 6, x.word 7, x.word 8, x.word 9,
    nbits (x.word 10) 15 14 + 4 * nbits (x.word 10) 31 27, nbits (x.word 12) 31 16, x.word 13, x.word 14, x.word 15]

/-- FLOW_UPDATE. -/
def State.flowUpdate (s : State) (f : Nat) (ws : List Nat) : State × Nat :=
  let x := s.flow f
  let y : Flow := { x with words := validWords ws }
  if !x.valid || y.fixedPart != x.fixedPart then (s.flowStat f stFlowInvalid, stFlowInvalid)
  else ((s.setFlow f y).flowStat f stFlowOk, stFlowOk)

def execFlowUpdate (f : Fin 256) (s : State) : Host.Outcome State Fault Refusal :=
  .next <| s.ifLive 0x034 fun s => (s.flowUpdate f.val s.flowWindow).1

/-- FLOW_INVALIDATE. -/
def State.flowInvalidate (s : State) (f : Nat) : State :=
  let x := s.flow f
  let y : Flow := { x with words := (x.word 0 / 2 * 2) :: x.words.drop 1, gen := (x.gen + 1) % 256 }
  (((s.setFlow f y).doIf x.valid fun s => s.leaveGroups x)).flowStat f stFlowOk

def execFlowInvalidate (f : Fin 256) (s : State) : Host.Outcome State Fault Refusal :=
  .next <| s.ifLive 0x034 fun s => s.flowInvalidate f.val

end Sys2Proof.Machine
end

