-- ==== Sys2Proof/Machine/Pixels.lean ====
section
/-! DEFINITION. The arithmetic on samples: the colour matrices (R422, R423, R428, R440, R441, R444), scaling positions
(R424), the blends (R78, R427) and the hatch patterns (R78), the formats of the ports (R428, R446). A pixel is three
components; in YCbCr they are Y, Cb and Cr, in RGB they are R, G and B. -/

namespace Sys2Proof.Machine

abbrev Pixel := Nat × Nat × Nat

/-- A number clipped to a range from 0 (R422, R444). -/
def clipTo (hi : Nat) (v : Int) : Nat := (max 0 (min (hi : Int) v)).toNat

/-- The forward matrices in 14-bit coefficients: for Y, Cb and Cr those of R, G and B.  BT.709 is R444; BT.2020 follows
from Kr 0.2627 and Kb 0.0593 in the same way (DEDUCED: coefficients rounded to nearest). -/
def matrixRows (bt2020 : Bool) : (Int × Int × Int) × (Int × Int × Int) × (Int × Int × Int) :=
  if bt2020 then ((4304, 11108, 972), (-2288, -5904, 8192), (8192, -7533, -659))
  else ((3483, 11718, 1183), (-1877, -6315, 8192), (8192, -7441, -751))

/-- One component of a matrix product, with its rounding (R444). -/
def mulRow (r : Int × Int × Int) (p : Pixel) : Int := (r.1 * p.1 + r.2.1 * p.2.1 + r.2.2 * p.2.2 + 8192) / 16384

/-- 10-bit full-range RGB to YCbCr (R444). -/
def toYcc (bt2020 : Bool) (p : Pixel) : Pixel :=
  let m := matrixRows bt2020
  (clipTo 1023 (mulRow m.1 p), clipTo 1023 (mulRow m.2.1 p + 512), clipTo 1023 (mulRow m.2.2 p + 512))

/-- Limited range of R444. -/
def limitRange (p : Pixel) : Pixel :=
  (64 + (p.1 * 876 + 512) / 1024, clipTo 1023 (512 + (((p.2.1 : Int) - 512) * 896 + 512) / 1024),
    clipTo 1023 (512 + (((p.2.2 : Int) - 512) * 896 + 512) / 1024))

/-- Full range from limited (R422; DEDUCED as the inverse of R444, rounded to nearest). -/
def widenRange (p : Pixel) : Pixel :=
  (clipTo 1023 ((((p.1 : Int) - 64) * 1024 + 438) / 876), clipTo 1023 (512 + (((p.2.1 : Int) - 512) * 1024 + 448) / 896),
    clipTo 1023 (512 + (((p.2.2 : Int) - 512) * 1024 + 448) / 896))

/-- The inverse matrices in 14-bit coefficients, by matrix_coefficients: Cb and Cr into R, into G, into B (R422; DEDUCED from the Kr and Kb
of each; PRESUMED, assumption 72: the codes of H.273, a code not named here as BT.709). -/
def inverseRows (matrix : Nat) : (Int × Int) × (Int × Int) × (Int × Int) :=
  if matrix == 9 || matrix == 10 then ((0, 24160), (-2696, -9361), (30825, 0))
  else if matrix == 4 then ((0, 22938), (-5437, -11663), (29164, 0))
  else if matrix == 5 || matrix == 6 then ((0, 22970), (-5638, -11700), (29032, 0))
  else if matrix == 7 then ((0, 25821), (-3713, -7809), (29917, 0))
  else if matrix == 8 then ((-16384, 16384), (16384, 0), (-16384, -16384))
  else ((0, 25802), (-3069, -7670), (30402, 0))

/-- YCbCr to 10-bit RGB (R422 step 3, R423 for identity, matrix 0). -/
def toRgb (matrix : Nat) (full : Bool) (p : Pixel) : Pixel :=
  if matrix == 0 then (p.2.2, p.1, p.2.1)
  else
    let q := if full then p else widenRange p
    let k := inverseRows matrix
    let out (r : Int × Int) : Nat :=
      clipTo 1023 (q.1 + (r.1 * ((q.2.1 : Int) - 512) + r.2 * ((q.2.2 : Int) - 512) + 8192) / 16384)
    (out k.1, out k.2.1, out k.2.2)

/-- A captured pixel as it is stored (R440, R441): samples of `depth` bits, RGB converted by CSC. -/
def captured (rgb : Bool) (csc depth : Nat) (p : Pixel) : Pixel :=
  let up (v : Nat) : Nat := v * 2 ^ (10 - depth) % 1024
  let q : Pixel := (up p.1, up p.2.1, up p.2.2)
  if !rgb then q
  else if csc == 2 then (q.2.1, q.2.2, q.1)
  else toYcc (csc == 1) q

/-- The source sample of an output pixel in one axis, unfiltered (R424). -/
def nearest (x ws wd : Nat) : Nat := x * ws / wd

/-- The bilinear position of an output pixel in one axis: left or upper sample, right or lower, phase in 1/64 (R424). -/
def bilinear (x ws wd : Nat) : Nat × Nat × Nat :=
  let p : Int := (((2 * x + 1) * ws * 32 : Nat) : Int) / (wd : Int) - 32
  let q := max 0 (min p (64 * ((ws : Int) - 1)))
  let i := (q / 64).toNat
  (i, min (i + 1) (ws - 1), (q % 64).toNat)

/-- Four neighbours mixed at two phases (R424). -/
def mix4 (a b c d fx fy : Nat) : Nat :=
  (a * ((64 - fx) * (64 - fy)) + b * (fx * (64 - fy)) + c * ((64 - fx) * fy) + d * (fx * fy) + 2048) / 4096

/-- A window value over the value beneath it (R427). -/
def alphaOver (a w b : Nat) : Nat := (a * w + (256 - a) * b + 128) / 256

/-- Half of each (R78). -/
def half (p a : Nat) : Nat := (p + a + 1) / 2

/-- Whether a raster position belongs to the pattern of a variant (R78): 1 Unsourced, 2 Unlocked, 3 Stale. -/
def inPattern (variant x y : Nat) : Bool :=
  let d : Nat := ((x : Int) - (y : Int)).emod 8 |>.toNat
  if variant == 2 then Nat.blt ((x + y) % 8) 4 && Nat.blt d 4
  else if variant == 0 then false
  else Nat.blt ((x + y) % 8) 4

/-- A window pixel with its hatch (R78, R429): `amber` is COMP_HATCH_COLOUR. -/
def hatched (variant x y : Nat) (amber p : Pixel) : Pixel :=
  if !inPattern variant x y then p
  else if variant == 1 then amber
  else (half p.1 amber.1, half p.2.1 amber.2.1, half p.2.2 amber.2.2)

/-- A composed pixel in a port's format (R428, R446): FORMAT, MATRIX and RANGE of DP_OUT_CTRL. -/
def toPort (format : Nat) (bt2020 limited : Bool) (p : Pixel) : Pixel :=
  let r8 (v : Nat) : Nat := min 255 ((v + 2) / 4)
  let r6 (v : Nat) : Nat := min 63 ((v + 8) / 16)
  let y := toYcc bt2020 p
  let y := if limited then limitRange y else y
  if format == 0 then (r8 p.1, r8 p.2.1, r8 p.2.2)
  else if format == 1 then p
  else if format == 2 then (r6 p.1, r6 p.2.1, r6 p.2.2)
  else if format == 3 || format == 5 then (r8 y.1, r8 y.2.1, r8 y.2.2)
  else y

end Sys2Proof.Machine
end

