-- ==== Sys2Proof/Machine/Frames.lean ====
section
/-! DEFINITION. Picture buffers: the block code (R629), the planes of a buffer and their blocks (R628), samples read and
written (R31), the Reference Cache (R631), the samples and the check value of a cell (R34 to R38, R51 to R53), where the
contexts keep their pictures. -/

namespace Sys2Proof.Machine

/-! ### The block code (R629) -/

/-- The residuals of a block of 64 samples in raster order (R629). -/
def blockResiduals (b : List Nat) : List Int :=
  (rangeFrom 1 63).map fun q =>
    let i := q % 8
    let p := if i == 0 then q - 8 else q - 1
    (b.getD q 0 : Int) - (b.getD p 0 : Int)

/-- The smallest k from 0 to d + 1 such that every residual fits k-bit two's complement (R629). -/
def blockK (d : Nat) (b : List Nat) : Nat :=
  let fits (k : Nat) : Bool := (blockResiduals b).all fun r =>
    if k == 0 then decide (r = 0) else decide (-(2 ^ (k - 1) : Int) ≤ r) && decide (r < (2 ^ (k - 1) : Int))
  ((List.range (d + 2)).find? fits).getD (d + 1)

/-- The code of a block: its header byte and its bits as a number, bit 0 first (R629). -/
def blockCode (d : Nat) (b : List Nat) : Nat × Nat :=
  let k := blockK d b
  let pack (w : Nat) (l : List Nat) : Nat := l.foldr (fun v a => v % 2 ^ w + 2 ^ w * a) 0
  if Nat.ble (d + 63 * k) (64 * d) then
    (k + 16 * cdiv (d + 63 * k) 256, b.getD 0 0 % 2 ^ d + 2 ^ d * pack k ((blockResiduals b).map fun r => (r.emod (2 ^ k : Nat)).toNat))
  else (15 + 16 * cdiv (64 * d) 256, pack d b)

/-- The block that a code stands for (R629). -/
def blockRead (d header bits : Nat) : List Nat :=
  let k := header % 16
  if k == 15 then (List.range 64).map fun i => bits / 2 ^ (d * i) % 2 ^ d
  else
    let res (q : Nat) : Int := if k == 0 then 0 else sx k (bits / 2 ^ (d + k * (q - 1)))
    (List.range 64).foldl (fun l q =>
      if q == 0 then [bits % 2 ^ d]
      else l ++ [((l.getD (if q % 8 == 0 then q - 8 else q - 1) 0 : Int) + res q).toNat]) []

/-! ### Planes and blocks (R628) -/

/-- SubWidthC and SubHeightC of a format. -/
def PicFmt.subW (f : PicFmt) : Nat := if f.chroma == 1 || f.chroma == 2 then 2 else 1
def PicFmt.subH (f : PicFmt) : Nat := if f.chroma == 1 then 2 else 1

/-- The planes of a format: Y, and Cb and Cr where it has them. -/
def PicFmt.planes (f : PicFmt) : List Nat := if f.chroma == 0 then [0] else [0, 1, 2]

/-- Width and height of a plane. -/
def PicFmt.pw (f : PicFmt) (k : Nat) : Nat := if k == 0 then f.w else cdiv f.w f.subW
def PicFmt.ph (f : PicFmt) (k : Nat) : Nat := if k == 0 then f.h else cdiv f.h f.subH

/-- Blocks of 8 × 8 samples across a plane, and in it. -/
def PicFmt.across (f : PicFmt) (k : Nat) : Nat := cdiv (f.pw k) 8
def PicFmt.blocks (f : PicFmt) (k : Nat) : Nat := f.across k * cdiv (f.ph k) 8

/-- Bytes rounded up to a 4 KB boundary. -/
def up4k (n : Nat) : Nat := cdiv n 4096 * 4096

/-- The bytes of a plane: its header array and its block array, each from a 4 KB boundary on. -/
def PicFmt.planeBytes (f : PicFmt) (k : Nat) : Nat := up4k (f.blocks k) + up4k (128 * f.blocks k)

/-- The bytes of a picture buffer. -/
def PicFmt.bytes (f : PicFmt) : Nat := sumOf f.planeBytes f.planes

/-- The address of a plane's header array, and of its block array. -/
def PicRef.headers (p : PicRef) (k : Nat) : Nat := p.base + sumOf p.fmt.planeBytes (List.range k)
def PicRef.slots (p : PicRef) (k : Nat) : Nat := p.headers k + up4k (p.fmt.blocks k)

/-! ### The Reference Cache (R631) -/

/-- The set of a slot: 16 MB in 16 ways are 8,192 sets of 128-byte slots, taken in address order (DESIGN CHOICE,
assumption 64). -/
def refSet (slot : Nat) : Nat := slot % 8192

/-- The slots of a set, the one used last first. -/
def State.refSlots (s : State) (slot : Nat) : List RefSlot := Sparse.get (fun _ => []) s.refc.sets (refSet slot)

def State.setRefSlots (s : State) (slot : Nat) (l : List RefSlot) : State :=
  { s with refc := { s.refc with sets := Sparse.set (fun _ => []) s.refc.sets (refSet slot) l } }

/-- What stays of a set of more than 16: the slot used least recently leaves, but none that a reservation keeps resident. -/
def evict (keep : Nat → Bool) (l : List RefSlot) : List RefSlot :=
  if Nat.ble l.length 16 then l
  else match l.reverse.find? fun q => !keep q.addr with
    | some q => l.filter fun r => r.addr != q.addr
    | none => l.take 16

/-- A slot is the one used last of its set. -/
def State.refTouch (s : State) (keep : Nat → Bool) (r : RefSlot) : State :=
  s.setRefSlots r.addr (evict keep (r :: (s.refSlots r.addr).filter fun q => q.addr != r.addr))

/-- The slot of a 64-byte unit that the cache holds, and whether it holds the unit. -/
def State.refSlot (s : State) (a : Nat) : RefSlot :=
  ((s.refSlots (a / 128)).find? fun q => q.addr == a / 128).getD { addr := a / 128, units := [] }
def State.refHolds (s : State) (a : Nat) : Bool := !(Sparse.get (fun _ => []) (s.refSlot a).units (a / 64 % 2)).isEmpty

/-- The two sectors of a 64-byte unit that a Prediction Fetch Unit reads fill their slot. -/
def State.refFill (s : State) (keep : Nat → Bool) (a : Nat) (bytes : List Byte) : State :=
  s.refTouch keep { s.refSlot a with units := Sparse.set (fun _ => []) (s.refSlot a).units (a / 64 % 2) bytes }

/-- Two sectors that hit, or missed, counted in units of 2^16 (R638). -/
def State.refCount (s : State) (hit : Bool) : State :=
  if hit then
    ({ s with refc := { s.refc with hits := (s.refc.hits + 2) % 65536 } }).bump Reg.REFC_HITS ((s.refc.hits + 2) / 65536)
  else
    ({ s with refc := { s.refc with misses := (s.refc.misses + 2) % 65536 } }).bump Reg.REFC_MISSES ((s.refc.misses + 2) / 65536)

/-- A write to DRAM that has just been made updates the slots that hold the bytes; it does not count as a use. -/
def State.refUpdate (s : State) (a n : Nat) : State :=
  if s.refc.sets.isEmpty then s
  else s.forEach (rangeFrom (a / 64) (cdiv (a % 64 + n) 64)) fun u s =>
    let up (r : RefSlot) : RefSlot :=
      if r.addr == u / 2 && !(Sparse.get (fun _ => []) r.units (u % 2)).isEmpty then
        { r with units := Sparse.set (fun _ => []) r.units (u % 2) (s.memBytes (64 * u) 64) }
      else r
    s.setRefSlots (u / 2) ((s.refSlots (u / 2)).map up)

/-- Bytes written to DRAM, the Reference Cache with them. -/
def State.dramWrite (s : State) (a : Nat) (bs : List Byte) : State := (s.memWrite a bs).refUpdate a bs.length

/-- A write of bytes to device memory by a writer: what is fenced off stays, and raises FENCE_VIOLATION once (R388, R633). -/
def State.devWrite (s : State) (w a : Nat) (bs : List Byte) : State :=
  match s.firstFenced w a bs.length with
  | none => s.dramWrite a bs
  | some v =>
    let s := s.forEach (List.range bs.length) fun j s =>
      s.doIf (!s.fencedOff w (a + j)) fun s => s.dramWrite (a + j) [bs.getD j 0]
    s.fenceViolation v w

/-- A write by a hardware block, which every fence but one that names them keeps out (R388). -/
def State.hwWrite (s : State) (a : Nat) (bs : List Byte) : State := s.devWrite byHardware a bs

/-! ### Channels -/

/-- The channel that serves a DRAM address (R610). -/
def chanOf (a : Nat) : Nat := (a / 2 ^ 8 % 4) ^^^ (a / 2 ^ 12 % 4) ^^^ (a / 2 ^ 16 % 4) ^^^ (a / 2 ^ 20 % 4)

def State.dram (s : State) (n : Nat) : DramCh := Sparse.get (fun _ => DramCh.init) s.drams n
def State.setDram (s : State) (n : Nat) (x : DramCh) : State :=
  { s with drams := Sparse.set (fun _ => DramCh.init) s.drams n x }
def State.modDram (s : State) (n : Nat) (f : DramCh → DramCh) : State := s.setDram n (f (s.dram n))

/-! ### Samples -/

/-- The 64 samples of a block, from the sectors that its header names. -/
def State.blockAt (s : State) (p : PicRef) (k b : Nat) : List Nat :=
  let h := (s.mem8 (p.headers k + b)).toNat
  blockRead p.fmt.depth h (s.memLE (p.slots k + 128 * b) (32 * (h / 16 % 8)))

/-- A sample of a picture. -/
def State.sample (s : State) (p : PicRef) (k x y : Nat) : Nat :=
  (s.blockAt p k (y / 8 * p.fmt.across k + x / 8)).getD (y % 8 * 8 + x % 8) 0

/-- A block written: its header, its sectors; the channel of its slot counts its raw and its sector bytes (R630). -/
def State.putBlock (s : State) (p : PicRef) (k b : Nat) (v : List Nat) : State :=
  let q := blockCode p.fmt.depth v
  let n := 32 * (q.1 / 16 % 8)
  let a := p.slots k + 128 * b
  let s := (s.hwWrite (p.headers k + b) (leBytes 1 q.1)).hwWrite a (leBytes n q.2)
  s.modDram (chanOf a) fun x => { x with raw := x.raw + 8 * p.fmt.depth, sect := x.sect + n }

/-- The blocks of a plane that a rectangle of samples meets, by column and row. -/
def rectBlocks (x y w h : Nat) : List (Nat × Nat) :=
  if w == 0 || h == 0 then []
  else (rangeFrom (y / 8) ((y + h - 1) / 8 + 1 - y / 8)).flatMap fun j =>
    (rangeFrom (x / 8) ((x + w - 1) / 8 + 1 - x / 8)).map fun i => (i, j)

/-- A rectangle of a plane written with the samples that `f` gives; a plane that is no multiple of 8 is extended by its last
column and its last line (R628). -/
def State.putRect (s : State) (p : PicRef) (k x y w h : Nat) (f : Nat → Nat → Nat) : State :=
  let w := min w (p.fmt.pw k - x)
  let h := min h (p.fmt.ph k - y)
  s.forEach (rectBlocks x y w h) fun b s =>
    let i := b.2 * p.fmt.across k + b.1
    let old := s.blockAt p k i
    s.putBlock p k i ((List.range 64).map fun q =>
      let u := min (8 * b.1 + q % 8) (p.fmt.pw k - 1)
      let v := min (8 * b.2 + q / 8) (p.fmt.ph k - 1)
      if Nat.ble x u && Nat.blt u (x + w) && Nat.ble y v && Nat.blt v (y + h) then f u v % 2 ^ p.fmt.depth
      else old.getD (v % 8 * 8 + u % 8) 0)

/-- The part of a plane under a rectangle of luma samples: position and size (R37). -/
def PicFmt.planeRect (f : PicFmt) (k x y w h : Nat) : Nat × Nat × Nat × Nat :=
  if k == 0 then (x, y, w, h)
  else (cdiv x f.subW, cdiv y f.subH, cdiv (x + w) f.subW - cdiv x f.subW, cdiv (y + h) f.subH - cdiv y f.subH)

/-- Every plane of a luma rectangle written with the samples that `f` gives by plane and position. -/
def State.putArea (s : State) (p : PicRef) (x y w h : Nat) (f : Nat → Nat → Nat → Nat) : State :=
  s.forEach p.fmt.planes fun k s =>
    let r := p.fmt.planeRect k x y w h
    s.putRect p k r.1 r.2.1 r.2.2.1 r.2.2.2 (f k)

/-! ### Samples before the filters -/

/-- The key of a sample in a picture's samples before deblocking. -/
def rawKey (k x y : Nat) : Nat := k * 2 ^ 32 + y * 2 ^ 16 + x
def keyPlane (q : Nat) : Nat := q / 2 ^ 32
def keyX (q : Nat) : Nat := q % 2 ^ 16
def keyY (q : Nat) : Nat := q / 2 ^ 16 % 2 ^ 16
def rawAt (m : Sparse Nat) (k x y : Nat) : Nat := Sparse.get (fun _ => 0) m (rawKey k x y)

/-- A luma rectangle of them written. -/
def rawPut (m : Sparse Nat) (t : PicFmt) (x y w h : Nat) (f : Nat → Nat → Nat → Nat) : Sparse Nat :=
  t.planes.foldl (fun m k =>
    let r := t.planeRect k x y w h
    (rangeFrom r.2.1 (min r.2.2.2 (t.ph k - r.2.1))).foldl (fun m v =>
      (rangeFrom r.1 (min r.2.2.1 (t.pw k - r.1))).foldl (fun m u =>
        Sparse.set (fun _ => 0) m (rawKey k u v) (f k u v)) m) m) m

/-! ### Cells -/

/-- CELL_COLS of R35 for a coded width, and CELL_ROWS for a coded height. -/
def cellsAcross (w : Nat) : Nat := cdiv w 256

/-- The part of a window of `n` samples from `o` on that the 256 samples of cell column or row `k` hold: its first sample and
the one after its last (R34, R37). -/
def cellSpan (o n k : Nat) : Nat × Nat := (max o (256 * k), min (o + n) (256 * k + 256))

/-- The samples of a plane that belong to a cell (R37): columns from, to; lines from, to.  A chroma sample belongs to the cell
of its luma position. -/
def PicRef.cellArea (p : PicRef) (k i : Nat) : (Nat × Nat) × (Nat × Nat) :=
  let n := max 1 (cellsAcross p.fmt.w)
  let cx := cellSpan p.winX p.winW (i % n)
  let cy := cellSpan p.winY p.winH (i / n)
  if k == 0 then (cx, cy)
  else ((cdiv cx.1 p.fmt.subW, cdiv cx.2 p.fmt.subW), (cdiv cy.1 p.fmt.subH, cdiv cy.2 p.fmt.subH))

/-- The samples of a cell in the order of R52, as `f` gives them by plane and position. -/
def PicRef.cellSamples (p : PicRef) (i : Nat) (f : Nat → Nat → Nat → Nat) : List Nat :=
  p.fmt.planes.flatMap fun k =>
    let r := p.cellArea k i
    (rangeFrom r.2.1 (r.2.2 - r.2.1)).flatMap fun y => (rangeFrom r.1.1 (r.1.2 - r.1.1)).map fun x => f k x y

/-- CRC-32C over samples, each fed as 16 bits, low byte first (R51, R52). -/
def sampleCrc (l : List Nat) : Nat := crc32c (l.flatMap fun v => leBytes 2 v)

/-- The check value of a cell of a stored picture (R51 to R53); over no sample it is 0 (R38). -/
def State.cellCrc (s : State) (p : PicRef) (i : Nat) : Nat := sampleCrc (p.cellSamples i fun k x y => s.sample p k x y)

/-- The check values of the cells of a picture. -/
def State.cellCrcs (s : State) (p : PicRef) : List Nat :=
  (List.range (cellsAcross p.fmt.w * cellsAcross p.fmt.h)).map fun i => s.cellCrc p i

/-! ### Where contexts keep their pictures -/

/-- Where picture `k` of a context stands: above device memory, since the spec gives it no address (DESIGN CHOICE,
assumption 10). -/
def ctxStore (c k : Nat) : Nat := 2 ^ 41 + c * 2 ^ 34 + k * 2 ^ 28

/-- Which of a context's pictures stands at an address. -/
def storeIndex (a : Nat) : Nat := a / 2 ^ 28 % 64

/-- A DisplayPort input beside its page. -/
def State.dpIn (s : State) (n : Nat) : DpIn := Sparse.get (fun _ => DpIn.init) s.dpIns n
def State.setDpIn (s : State) (n : Nat) (x : DpIn) : State := { s with dpIns := Sparse.set (fun _ => DpIn.init) s.dpIns n x }
def State.modDpIn (s : State) (n : Nat) (f : DpIn → DpIn) : State := s.setDpIn n (f (s.dpIn n))

/-- The picture in a prop-room buffer with the whole of it inside the window, in the colours of a capture or a host source. -/
def bufPic (a : Nat) (f : PicFmt) (num : Nat) : PicRef :=
  { base := a, fmt := f, winX := 0, winY := 0, winW := f.w, winH := f.h, num := num, matrix := 1, full := true,
    bad := [] }

end Sys2Proof.Machine
end

