-- ==== Sys2Proof/Machine/Freshness.lean ====
section
/-! DEFINITION. The freshness contract: cells and their geometry (R34 to R39), the bytes of a cue sheet (R110 to
R125), the evaluation of its entries (R62 to R73, R80 to R85), staleness and the hatch (R74 to R88), the freshness
map (R89 to R97). -/

namespace Sys2Proof.Machine

/-! ### Cells -/

def Ctx.cols (x : Ctx) : Nat := cellsAcross x.codedW
def Ctx.rows (x : Ctx) : Nat := cellsAcross x.codedH
def Ctx.cellCount (x : Ctx) : Nat := x.cols * x.rows

/-- R38: no sample of the cell lies inside the conformance window. -/
def Ctx.emptyCell (x : Ctx) (i : Nat) : Bool :=
  Nat.ble (cellSpan x.winX x.winW (i % x.cols)).2 (cellSpan x.winX x.winW (i % x.cols)).1 ||
    Nat.ble (cellSpan x.winY x.winH (i / x.cols)).2 (cellSpan x.winY x.winH (i / x.cols)).1

/-- The record of a cell. -/
def Ctx.cell (x : Ctx) (i : Nat) : CellRec := Sparse.get (fun _ => CellRec.zero) x.cells i

/-- The record of a cell replaced, as one unit (R73). -/
def Ctx.setCell (x : Ctx) (i : Nat) (r : CellRec) : Ctx :=
  { x with cells := Sparse.set (fun _ => CellRec.zero) x.cells i r }

/-- The bytes of a cell record (R59). -/
def CellRec.bytes (r : CellRec) (v1 : Bool) : List Byte :=
  leBytes 8 (if r.hasTime then r.time else 0) ++ leBytes 4 r.check ++ leBytes 1 r.alive ++
    leBytes 1 (b2n (r.exact && !v1) + 2 * b2n r.hasTime + 4 * b2n r.placeholder + 8 * b2n r.unproven + 16 * b2n r.expired +
      32 * b2n r.arrival + 64 * b2n r.seen) ++ leBytes 2 r.picNum

/-! ### The version in force -/

/-- MODE of SESS_CTRL (R164): 0 Protocol, 1 SDP, 2 and 3 Sheet-only. -/
def State.sessMode (s : State) (c : Nat) : Nat := s.fld (Reg.SESS_CTRL c) 2 1

/-- The version in force as it stands between access units (R86, R93, R128, R163): that of SDP mode or of an open session,
else that of the last complete access unit. -/
def State.curVersion (s : State) (c : Nat) : Nat :=
  let x := s.ctx c
  if s.sessMode c == 1 then (if s.fld (Reg.SESS_SDP c) 7 0 == 1 then 1 else 2)
  else if s.sessMode c == 0 && decide (x.dec.st = .opened) then x.dec.version
  else x.auVersion

/-- Whether the contract is on in the active set: FRESH_CTRL.MODE is Contract (R88, R99). -/
def State.contract (s : State) (c : Nat) : Bool := s.fld (Reg.FRESH_CTRL c) 1 0 == 1

/-- The cue-sheet version in use that FRESH_STATUS and the map show: none with MODE Off (R88); an encode context sends version
2 sheets in every picture (R149). -/
def State.useVersion (s : State) (c : Nat) : Nat :=
  if !s.contract c then 0 else if s.isEncode c then (if s.ctxEnabled c then 2 else 0) else s.curVersion c

/-! ### The cell table -/

/-- One record as it stands in the buffer of the cell table, 16 bytes as one unit (R59, R73, R101). -/
def State.storeCell (s : State) (c i : Nat) : State :=
  match s.bufOf (s.regN (Reg.FRESH_CELL_TABLE c)) with
  | some k => s.doIf (Nat.blt i 576) fun s => s.hwWrite (s.bufAddr k + 16 * i) (((s.ctx c).cell i).bytes (s.useVersion c == 1))
  | none => s

/-- The whole cell table as it stands in its buffer; records beyond the grid are zero (R59, R60, R132). -/
def State.storeCells (s : State) (c : Nat) : State :=
  match s.bufOf (s.regN (Reg.FRESH_CELL_TABLE c)) with
  | some k =>
    let x := s.ctx c
    s.hwWrite (s.bufAddr k) ((List.range 576).flatMap fun i => (if Nat.blt i x.cellCount then x.cell i else CellRec.zero).bytes (s.useVersion c == 1))
  | none => s

/-- A record of the cell table replaced, in the context and in its buffer. -/
def State.putCell (s : State) (c i : Nat) (r : CellRec) : State := (s.modCtx c fun x => x.setCell i r).storeCell c i

/-- The cell that holds a CTU of 64 × 64 samples, by CTU column and row (R34, R36); in an H.264 context the CTU is a
macroblock (R261). -/
def Ctx.cellOfCtu (x : Ctx) (ctuSize col row : Nat) : Nat :=
  row * ctuSize / 256 * x.cols + col * ctuSize / 256

/-! ### Bytes of a sheet -/

/-- An entry as a sheet states it (R115, R119); `time` is none for "no time" (R116). -/
structure Entry where
  idx : Nat
  exact : Bool
  concSrc : Bool
  carried : Bool
  renewed : Bool
  coded : Bool
  alive : Nat
  time : Option Int
  check : Nat
  deriving DecidableEq, Repr

/-- A version 2 sheet read under R112 to R119; `picTime` none for "no time". -/
structure Sheet2 where
  locked : Bool
  seq : Nat
  picTime : Option Nat
  cols : Nat
  rows : Nat
  entries : List Entry
  deriving DecidableEq, Repr

/-- R110, R111: a PTP timestamp at an offset: none when malformed, `some none` for "no time".  One beyond 64 bits of
nanoseconds is neither wrapped nor malformed (DESIGN CHOICE, assumption 68: R110 does not say). -/
def readPtp (b : List Byte) (o : Nat) : Option (Option Nat) :=
  let ns := beAt b (o + 6) 4
  if ns == 0xFFFFFFFF then some none
  else if Nat.ble 1000000000 ns then none
  else some (some (beAt b o 6 * 1000000000 + ns))

/-- A full entry of R115 at an offset. -/
def readFull (b : List Byte) (o : Nat) (pic : Option Nat) : Entry :=
  let h := beAt b o 2
  let off := beAt b (o + 4) 4
  { idx := h / 64, exact := nbit h 5, coded := nbit h 4, renewed := nbit h 3, carried := nbit h 2,
    concSrc := nbit h 1, alive := beAt b (o + 2) 1,
    time := match pic with
      | none => none
      | some p => if off == 0x80000000 then none else some ((p : Int) + s32 off * 1000),
    check := beAt b (o + 8) 4 }

/-- One renewal run of R118: its cells, and the bytes after it. -/
def readRun (b : List Byte) (cols rowStep : Nat) (pic : Option Nat) : List Entry × List Byte :=
  let h := beAt b 0 4
  let first := nbits h 31 22
  let n := nbits h 21 12 + 1
  let bm := cdiv n 8
  let es := (List.range n).map fun i =>
    let cls := nbit (beAt b (4 + i / 8) 1) (7 - i % 8)
    let o := 4 + bm + 5 * i
    { idx := first + i, exact := cls, coded := false, renewed := true, carried := false, concSrc := false,
      alive := beAt b o 1,
      time := pic.map fun p => (p : Int) + ((first + i) / cols * rowStep : Nat),
      check := beAt b (o + 1) 4 : Entry }
  (es, b.drop (4 + bm + 5 * n))

/-- The bytes a run takes, from its header. -/
def runLength (b : List Byte) : Nat :=
  let n := nbits (beAt b 0 4) 21 12 + 1
  4 + cdiv n 8 + 5 * n

/-- `n` renewal runs: none when the body ends before them. -/
def readRuns : Nat → List Byte → Nat → Nat → Option Nat → Option (List (List Entry))
  | 0, b, _, _, _ => if b.isEmpty then some [] else none
  | n + 1, b, cols, rowStep, pic =>
    if b.length < 4 then none
    else if b.length < runLength b then none
    else
      let (es, rest) := readRun b cols rowStep pic
      (readRuns n rest cols rowStep pic).map (es :: ·)

/-- Whether a list of numbers rises strictly. -/
def rising : List Nat → Bool
  | [] => true
  | [_] => true
  | a :: b :: r => Nat.blt a b && rising (b :: r)

/-- Whether runs rise in FIRST_INDEX and none overlaps the next (R121). -/
def runsApart : List (List Entry) → Bool
  | [] => true
  | [_] => true
  | a :: b :: r =>
    (match a.getLast?, b.head? with
     | some x, some y => Nat.blt x.idx y.idx
     | _, _ => true) && runsApart (b :: r)

/-- A version 2 body: none when it is malformed (R121). -/
def readSheet2 (b : List Byte) : Option Sheet2 :=
  if b.length < 24 then none
  else match readPtp b 4 with
    | none => none
    | some pic =>
      let cols := beAt b 14 1
      let rows := beAt b 15 1
      let step := beAt b 16 4
      let ne := beAt b 20 2
      let nr := beAt b 22 2
      if b.length < 24 + 12 * ne then none
      else
        let full := (List.range ne).map fun i => readFull b (24 + 12 * i) pic
        match readRuns nr (b.drop (24 + 12 * ne)) cols step pic with
        | none => none
        | some runs =>
          let es := full ++ runs.flatten
          if es.all (fun e => Nat.blt e.idx (cols * rows)) && rising (full.map (·.idx)) && runsApart runs then
            some { locked := nbit (beAt b 1 1) 0, seq := beAt b 2 2, picTime := pic, cols := cols, rows := rows,
                   entries := es }
          else none

/-- A version 1 body (R124, R125): its lock indication and its time; none when malformed. -/
def readSheet1 (b : List Byte) : Option (Bool × Option Nat) :=
  if b.length < 12 then none else (readPtp b 2).map fun t => (nbit (beAt b 1 1) 0, t)

/-! ### Status -/

/-- FRESH_STATUS written from the context (R101), with the lock indication of the last committed sheet; as a version 1 session begins
or ends, CLASS in the cell table reads 0 or its value (R86). -/
def State.freshStatus (s : State) (c : Nat) (peer : Bool) : State :=
  let x := s.ctx c
  let s := s.doIf ((s.fld (Reg.FRESH_STATUS c) 3 0 == 1) != (s.useVersion c == 1)) fun s => s.storeCells c
  s.setRegN (Reg.FRESH_STATUS c) (s.useVersion c % 16 + 16 * b2n s.locked + 32 * b2n peer + 64 * b2n x.unlocked +
    256 * (x.cols % 64) + 65536 * (x.rows % 64))

/-- FRESH_STATUS brought up to date, its PEER_LOCKED kept. -/
def State.showFresh (s : State) (c : Nat) : State := s.freshStatus c (s.rbit (Reg.FRESH_STATUS c) 5)

def State.arrivalRelative (s : State) (c : Nat) : Bool := s.rbit (Reg.FRESH_CTRL c) 2
def State.mismatchExpire (s : State) (c : Nat) : Bool := s.rbit (Reg.FRESH_CTRL c) 3

/-- Whether a context shows a freshness status: it is enabled, or it keeps the cell table of an earlier enable, whose cells the
compositors still judge (R307 step 5, R814). -/
def State.hasCells (s : State) (c : Nat) : Bool := s.ctxEnabled c || s.regN (Reg.FRESH_CELL_TABLE c) != 0

/-- FRESH_STATUS as a read finds it (R101): LOCAL_LOCKED is the lock of the moment in every context. -/
def State.freshView (s : State) (c : Nat) : Word := putBit (s.reg (Reg.FRESH_STATUS c)) 4 s.locked

/-- R80: the local time base has lost lock: every decode context enters the unlocked state, a stopped one among them. -/
def State.localLockLost (s : State) : State :=
  s.forEach (s.ctxs.map (·.1)) fun c s => s.doIf (s.hasCells c) fun s =>
    (s.doIf (!s.isEncode c) fun s => s.modCtx c fun x => { x with unlocked := true }).showFresh c

/-- The local time base has locked: LOCAL_LOCKED follows; the unlocked state waits for a sheet (R80). -/
def State.localLockGained (s : State) : State :=
  s.forEach (s.ctxs.map (·.1)) fun c s => s.doIf (s.hasCells c) fun s => s.showFresh c

/-! ### Outputs that follow a context (R413, R414) -/

/-- LOCKED of an output; FRAME_UNLOCKED is raised as it clears. -/
def State.setOutLocked (s : State) (n : Nat) (b : Bool) : State :=
  let k := Reg.DP_OUT_STATUS n
  if s.rbit k 5 && !b then (s.setRbit k 5 false).raise (416 + n) FaultKind.FRAME_UNLOCKED 0 else s.setRbit k 5 b

/-- A sheet of a context committed: its time for FOLLOW, none from a version 1 sheet (R412); one whose LOCKED flag is clear holds the
outputs that follow the context (R414). -/
def State.followSheet (s : State) (c : Nat) (locked : Bool) (time : Option (Option Nat)) : State :=
  let now := s.now
  let s := s.modCtx c fun x => { x with sheetTime := time.getD x.sheetTime, sheetLocked := locked, sheetAt := some now }
  s.forEach (List.range 8) fun n s =>
    s.doIf (!locked && s.fld (Reg.DP_OUT_STATUS n) 3 0 != 0 && s.fld (Reg.DP_OUT_LOCK_CTRL n) 1 0 == 2 &&
      s.fld (Reg.DP_OUT_LOCK_CTRL n) 15 8 == c) fun s => s.setOutLocked n false

/-! ### Acceptance -/

/-- R68: the cell's content has changed without proof. -/
def CellRec.unprove (r : CellRec) (expire : Bool) : CellRec :=
  { r with unproven := true, expired := r.expired || expire }

/-- A cell of context c marked under R68, and under R69 when a CTU of it predicts from a placeholder. -/
def State.markCell (s : State) (c i : Nat) (placeholder : Bool) : State :=
  let r := ((s.ctx c).cell i).unprove (s.mismatchExpire c)
  s.putCell c i (if placeholder then { r with placeholder := true } else r)

/-- R69 alone. -/
def State.markPlaceholder (s : State) (c i : Nat) : State :=
  s.putCell c i { (s.ctx c).cell i with placeholder := true }

/-- The capture time an entry counts with, or its rejection under R64 condition 5: under arrival-relative in the
unlocked state the time of R82, otherwise its own, no later than the sheet's arrival plus 1 ms. -/
def entryTime (relative : Bool) (transitNs : Nat) (arrival : Nat) (pic : Option Nat) (e : Option Int) : Option Int :=
  match pic, e with
  | some p, some t =>
    if relative then some ((arrival : Int) - transitNs - ((p : Int) - t))
    else if t > (arrival : Int) + 1000000 then none else some t
  | _, _ => none

/-- What evaluating a sheet has found so far. -/
structure CommitAcc where
  st : State
  seen : List Nat
  crcRej : Option Nat
  refresh : List Nat
  /-- of each entry: cell, OUTCOME of an XCHECK entry (R732), check value, capture time -/
  outcomes : List (Nat × Nat × Nat × Nat)

/-- A time token of an integer; negative times read as 0. -/
def tokenOf (t : Int) : Nat := t.toNat

/-- CAPTURE_TIME of a record (R59): 0 while HAS_TIME is 0. -/
def CellRec.capture (r : CellRec) : Nat := if r.hasTime then r.time else 0

/-- An accepted entry (R65 to R67, R81, R82).  ARRIVAL follows CAPTURE_TIME: an entry that does not advance it leaves ARRIVAL
as it was (DESIGN CHOICE, assumption 63: R59 ties the flag to CAPTURE_TIME, R82 does not say). -/
def State.acceptEntry (s : State) (c : Nat) (e : Entry) (t : Int) (prevSeen : Bool) (prevAlive : Nat) : State :=
  let x := s.ctx c
  let r := x.cell e.idx
  let advance := (!x.unlocked || s.arrivalRelative c) && decide ((r.capture : Int) < t)
  let r' := { r with check := e.check, exact := e.exact, picNum := x.outCount % 65536, hasTime := true,
                     placeholder := false, unproven := false, expired := false,
                     time := if advance then tokenOf t else r.capture,
                     arrival := if advance then x.unlocked && s.arrivalRelative c else r.arrival }
  let s := (s.putCell c e.idx r').bump (Reg.FRESH_ACCEPTED c) 1
  let s := s.doIf (!advance) fun s => s.bump (Reg.FRESH_NOT_LATER c) 1
  let jump := (e.alive + 256 - prevAlive) % 256
  s.doIf (prevSeen && Nat.ble 16 jump) fun s => s.bump (Reg.FRESH_DISCONT c) 1

/-- An entry judged: its OUTCOME noted. -/
def CommitAcc.note (a : CommitAcc) (s : State) (e : Entry) (outcome time : Nat) : CommitAcc :=
  { a with st := s, outcomes := a.outcomes ++ [(e.idx, outcome, e.check, time)] }

/-- Evaluate one entry of a version 2 sheet (R62 to R68). -/
def evalEntry (c : Nat) (sh : Sheet2) (arrival : Nat) (marks : Nat → CellMark) (crc : Nat → Nat)
    (a : CommitAcc) (e : Entry) : CommitAcc :=
  let s := a.st
  let x := s.ctx c
  let r := x.cell e.idx
  let et := entryTime (x.unlocked && s.arrivalRelative c) (1000 * s.fld (Reg.FRESH_TRANSIT c) 23 0) arrival sh.picTime e.time
  let tok := (et.map tokenOf).getD 0
  if a.seen.elem e.idx || (r.seen && r.alive == e.alive) then
    { a with seen := e.idx :: a.seen }.note (s.bump (Reg.FRESH_REJ_REPEAT c) 1) e 6 tok
  else
    let s := s.putCell c e.idx { r with alive := e.alive, seen := true }
    let m := marks e.idx
    let a := { a with seen := e.idx :: a.seen }
    let unp (s : State) := s.markCell c e.idx false
    if m.error then a.note (unp (s.bump (Reg.FRESH_REJ_ERROR c) 1)) e 1 tok
    else if e.concSrc then a.note (unp (s.bump (Reg.FRESH_REJ_SOURCE c) 1)) e 2 tok
    else if m.badRef || m.placeholder then
      { a with refresh := a.refresh ++ [e.idx] }.note (unp (s.bump (Reg.FRESH_REJ_REF c) 1)) e 3 tok
    else if crc e.idx != e.check then
      { a with refresh := a.refresh ++ [e.idx],
               crcRej := some (match a.crcRej with
                 | none => e.idx
                 | some i => min i e.idx) }.note (unp (s.bump (Reg.FRESH_REJ_CRC c) 1)) e 4 tok
    else
      match et with
      | none => a.note (s.bump (Reg.FRESH_REJ_TIME c) 1) e 5 tok
      | some t => a.note (s.acceptEntry c e t r.seen r.alive) e 0 tok

/-- R80 at a committed sheet. -/
def State.sheetLock (s : State) (c : Nat) (locked : Bool) : State :=
  s.modCtx c fun x => { x with unlocked := if !locked then true else if s.locked then false else x.unlocked }

/-- R134: the SHEET_SEQ of a version 2 sheet seen: a gap is added to SHEET_SEQ_GAPS, and the number is the last one seen. -/
def State.sheetSeq (s : State) (c seq : Nat) : State :=
  let gap := match (s.ctx c).lastSheetSeq with
    | some l => if later16 seq l then (seq + 65536 - l) % 65536 - 1 else 0
    | none => 0
  (s.modCtx c fun x => { x with lastSheetSeq := some seq }).bump (Reg.SHEET_SEQ_GAPS c) gap

/-- The mark of a cell in the picture in decoding. -/
def DecPicture.mark (p : DecPicture) (i : Nat) : CellMark := Sparse.get (fun _ => CellMark.zero) p.marks i

/-- Commit a version 2 sheet: the entries of R123's order, CELL_CRC_MISMATCH once (R71); the cells whose entries were
rejected under conditions 3 and 4 are answered for R154, and the outcomes for R747. -/
def State.commit2 (s : State) (c : Nat) (sh : Sheet2) (arrival : Nat) (p : DecPicture) (crcs : List Nat) :
    State × List Nat × List (Nat × Nat × Nat × Nat) :=
  let s := (s.sheetLock c sh.locked).followSheet c sh.locked (some sh.picTime)
  let a := sh.entries.foldl (evalEntry c sh arrival p.mark (fun i => crcs.getD i 0))
    { st := s, seen := [], crcRej := none, refresh := [], outcomes := [] }
  let s := match a.crcRej with
    | none => a.st
    | some i => a.st.raise c FaultKind.CELL_CRC_MISMATCH i
  (s.freshStatus c sh.locked, a.refresh, a.outcomes)

/-- The record of a cell after a version 1 sheet accepted with a capture time (R65, R85): the time advances where `adv`. -/
def CellRec.proved1 (r : CellRec) (adv : Bool) (time picNum : Nat) (arrival : Bool) : CellRec :=
  { r with
    exact := false, picNum := picNum % 65536, hasTime := true, placeholder := false, unproven := false, expired := false,
    time := if adv then time else r.capture, arrival := if adv then arrival else r.arrival }

/-- Commit a version 1 sheet (R85, R86): the picture as a whole is accepted or rejected.  One that advances CAPTURE_TIME in some cells
only is not counted in FRESH_NOT_LATER (DESIGN CHOICE, assumption 63: R85 counts the picture once and does not say).  It counts as
a committed sheet for the outputs that follow the context (R414). -/
def State.commit1 (s : State) (c : Nat) (locked : Bool) (time : Option Nat) (arrival : Nat) (p : DecPicture) : State :=
  let s := (s.sheetLock c locked).followSheet c locked none
  let x := s.ctx c
  let is := List.range x.cellCount
  let anyErr := is.any fun i => (p.mark i).error
  let anyRef := is.any fun i => (p.mark i).badRef || (p.mark i).placeholder
  let s := if anyErr || anyRef then
      (s.forEach is fun i s => s.doIf ((p.mark i).error || (p.mark i).badRef || (p.mark i).placeholder)
        fun s => s.markCell c i (p.mark i).placeholder).bump
          (if anyErr then Reg.FRESH_REJ_ERROR c else Reg.FRESH_REJ_REF c) 1
    else match entryTime (x.unlocked && s.arrivalRelative c) (1000 * s.fld (Reg.FRESH_TRANSIT c) 23 0) arrival
                time (time.map (fun t => (t : Int))) with
      | none => s.bump (Reg.FRESH_REJ_TIME c) 1
      | some t =>
        let may := !x.unlocked || s.arrivalRelative c
        let adv (r : CellRec) := may && decide ((r.capture : Int) < t)
        let s' := s.forEach is fun i s =>
          s.putCell c i (((s.ctx c).cell i).proved1 (adv ((s.ctx c).cell i)) (tokenOf t) x.outCount
            (x.unlocked && s.arrivalRelative c))
        let s' := s'.bump (Reg.FRESH_ACCEPTED c) 1
        s'.doIf (is.all fun i => !adv (x.cell i)) fun s => s.bump (Reg.FRESH_NOT_LATER c) 1
  s.freshStatus c locked

/-! ### Age and the hatch -/

/-- The deadline of a cell in ms: by its class, or the smaller of the two in a version 1 session (R77, R86). -/
def State.deadline (s : State) (c : Nat) (r : CellRec) : Nat :=
  let e := s.fld (Reg.FRESH_DEADLINE_EXACT c) 15 0
  let l := s.fld (Reg.FRESH_DEADLINE_LOSSY c) 15 0
  if s.curVersion c == 1 then min e l else if r.exact then e else l

/-- R61. -/
def CellRec.unsourced (r : CellRec) : Bool := !r.hasTime || r.placeholder

/-- R75: the age at a time; a negative age counts as zero. -/
def CellRec.age (r : CellRec) (t : Nat) : Nat := t - r.capture

/-- The pattern of R78 for a cell judged at a time under R77: 0 not stale, 1 Unsourced, 2 Unlocked, 3 Stale.  A context that
has decoded no picture yet is judged by its windows alone (`State.judgeCell`; DEDUCED, assumption 54). -/
def State.cellPattern (s : State) (c i t : Nat) : Nat :=
  let x := s.ctx c
  let r := x.cell i
  if !s.contract c || x.emptyCell i then 0
  else if r.unsourced then 1
  else if x.unlocked && !s.arrivalRelative c then 2
  else if r.expired then 3
  else if r.age t > s.deadline c r * 1000000 then (if r.arrival then 2 else 3)
  else 0

/-! ### The freshness map -/

/-- The map base M of R89: the programmed one, or the context's own buffer (R90). -/
def State.mapBase (s : State) (c : Nat) : Nat :=
  let b := s.regN (Reg.FRESH_MAP_BASE_LO c) + 2 ^ 32 * s.regN (Reg.FRESH_MAP_BASE_HI c)
  if b == 0 then s.regN (Reg.FRESH_MAP_ADDR_LO c) + 2 ^ 32 * s.regN (Reg.FRESH_MAP_ADDR_HI c) else b

/-- The two bits of a cell in the map (R94): [0] stale, [1] Unsourced. -/
def State.mapBits (s : State) (c t i : Nat) : Nat :=
  if Nat.ble (s.ctx c).cellCount i then 0
  else match s.cellPattern c i t with
    | 0 => 0
    | 1 => 3
    | _ => 1

/-- The map of context c at an evaluation time (R92 to R97): written, its figures in the status registers, an onset
counted and reported. -/
def State.writeMap (s : State) (c t : Nat) : State :=
  let x := s.ctx c
  let is := List.range x.cellCount
  let ps := is.map fun i => s.cellPattern c i t
  let stale := (ps.filter (· != 0)).length
  let uns := (ps.filter (· == 1)).length
  let maxAge := (is.map fun i => if x.emptyCell i || (x.cell i).unsourced then 0 else (x.cell i).age t / 1000).foldl max 0
  let age := min maxAge 0xFFFFFFFF
  let k := x.mapK
  let flags := b2n x.unlocked + 2 * b2n (s.arrivalRelative c) + 4 * b2n (s.useVersion c == 1) +
    8 * b2n (s.rbit (Reg.FRESH_CTRL c) 11)
  let cellBytes := (List.range 144).map fun j => (BitVec.ofNat 8 (s.mapBits c t (4 * j) +
    4 * s.mapBits c t (4 * j + 1) + 16 * s.mapBits c t (4 * j + 2) + 64 * s.mapBits c t (4 * j + 3)) : Byte)
  let body := leBytes 8 t ++ [BitVec.ofNat 8 x.cols, BitVec.ofNat 8 x.rows, BitVec.ofNat 8 flags,
    BitVec.ofNat 8 (s.useVersion c)] ++ leBytes 2 stale ++ leBytes 2 uns ++ leBytes 4 age ++ leBytes 4 x.outCount ++
    leBytes 4 0 ++ cellBytes ++ leBytes 80 0
  let a := s.mapBase c + 0x100 * (k % 2)
  let onset := x.mapStale == 0 && stale != 0
  let s := (s.hwWrite (a + 4) body).hwWrite a (leBytes 4 k)
  let s := s.modCtx c fun x => { x with mapK := (k + 1) % 2 ^ 32, mapStale := stale }
  let s := ((s.setRegN (Reg.FRESH_COUNTS c) (stale % 1024 + 65536 * (uns % 1024))).setRegN (Reg.FRESH_MAX_AGE c)
    age).setRegN (Reg.FRESH_MAP_SEQ c) k
  s.doIf onset fun s => (s.bump (Reg.FRESH_STALE_ONSETS c) 1).raise c FaultKind.CELL_STALE
    ((is.find? fun i => s.cellPattern c i t != 0).getD 0)

end Sys2Proof.Machine
end

