-- ==== Sys2Proof/Machine/Coding.lean ====
section
/-! DEFINITION. The samples of an encode context: geometry of the coded picture (R177, R178), conversion and padding of a source
(R173, R183), the Content Analyser's measures (R189), which codings of a CTU the rules allow (R195 to R201, R205, R207, R213),
what a coding reconstructs (R196 to R198, R247, R248), checks over a slice (R212), the parameter sets (R168 to R181, R228). -/

namespace Sys2Proof.Machine

/-! ### Geometry -/

def Ctx.ctuCols (x : Ctx) : Nat := cdiv x.codedW 64
def Ctx.ctuRows (x : Ctx) : Nat := cdiv x.codedH 64
def Ctx.ctuCount (x : Ctx) : Nat := x.ctuCols * x.ctuRows

/-- Tile columns (R177): a picture wider than 2,048 luma samples is split. -/
def Ctx.tileCols (x : Ctx) : Nat := if x.codedW ≤ 2048 then 1 else cdiv x.codedW 2048

/-- The tile column of a CTU column: uniform spacing. -/
def Ctx.tileOf (x : Ctx) (col : Nat) : Nat :=
  ((List.range x.tileCols).filter fun i => Nat.ble (i * x.ctuCols / x.tileCols) col).length - 1

/-- The slice of a CTU (R178), numbered in the transmission order of R208. -/
def Ctx.sliceOf (x : Ctx) (a : Nat) : Nat := a / x.ctuCols * x.tileCols + x.tileOf (a % x.ctuCols)

/-- The first CTU of a slice. -/
def Ctx.sliceFirst (x : Ctx) (sl : Nat) : Nat :=
  sl / x.tileCols * x.ctuCols + sl % x.tileCols * x.ctuCols / x.tileCols

def Ctx.ctu (x : Ctx) (a : Nat) : CtuRec := Sparse.get (fun _ => CtuRec.zero) x.ctus a
def Ctx.setCtu (x : Ctx) (a : Nat) (r : CtuRec) : Ctx :=
  { x with ctus := Sparse.set (fun _ => CtuRec.zero) x.ctus a r }

/-- The cell of a CTU address. -/
def Ctx.cellOfAddr (x : Ctx) (a : Nat) : Nat := x.cellOfCtu 64 (a % x.ctuCols) (a / x.ctuCols)

/-- The CTUs of a cell. -/
def Ctx.ctusOfCell (x : Ctx) (i : Nat) : List Nat := (List.range x.ctuCount).filter fun a => x.cellOfAddr a == i

/-- The CTUs of a slice. -/
def Ctx.sliceCtus (x : Ctx) (sl : Nat) : List Nat :=
  (rangeFrom (sl / x.tileCols * x.ctuCols) x.ctuCols).filter fun a => x.sliceOf a == sl

/-! ### The source in the coded format -/

/-- The format an encode context codes: 4:2:0 in profiles 1 and 2, else 4:4:4; 8 bits in profiles 1, 3 (R169). -/
def State.encFmt (s : State) (c : Nat) : PicFmt :=
  let p := s.fld (Reg.ENC_FORMAT c) 3 0
  { w := (s.ctx c).codedW, h := (s.ctx c).codedH, chroma := if Nat.ble p 2 then 1 else 3,
    depth := if p == 1 || p == 3 then 8 else 10 }

/-- A sample of a source as if in 4:4:4, by its position in the conformance window; chroma it lacks is repeated from the
co-sited sample, and a plane it lacks is mid-grey (DESIGN CHOICE for formats that R183 does not name, assumption 65). -/
def State.srcAt (s : State) (p : PicRef) (k x y : Nat) : Nat :=
  let u := p.winX + min x (p.winW - 1)
  let v := p.winY + min y (p.winH - 1)
  if k == 0 then s.sample p 0 u v
  else if p.fmt.chroma == 0 then 2 ^ (p.fmt.depth - 1)
  else s.sample p k (u / p.fmt.subW) (v / p.fmt.subH)

/-- R183 step 1. -/
def convDepth (src dst v : Nat) : Nat := if src == 10 && dst == 8 then min 255 ((v + 2) / 4) else if src == 8 && dst == 10 then 4 * v else v

/-- R183 step 2 for one chroma sample: the rounded mean of two source lines, filtered by [1 2 1] / 4; `f` gives the 4:4:4
source. -/
def downChroma (f : Nat → Nat → Nat) (x y : Nat) : Nat :=
  let m (u : Nat) : Nat := (f u (2 * y) + f u (2 * y + 1) + 1) / 2
  (m (2 * x - 1) + 2 * m (2 * x) + m (2 * x + 1) + 2) / 4

/-- A sample of a source of `w` × `h` luma samples after R183, and outside the conformance window after R173. -/
def State.converted (s : State) (p : PicRef) (t : PicFmt) (w h k x y : Nat) : Nat :=
  if k == 0 then convDepth p.fmt.depth t.depth (s.srcAt p 0 (min x (w - 1)) (min y (h - 1)))
  else
    let u := min x (cdiv w t.subW - 1)
    let v := min y (cdiv h t.subH - 1)
    let f (a b : Nat) : Nat := convDepth p.fmt.depth t.depth (s.srcAt p k (min a (w - 1)) (min b (h - 1)))
    if t.chroma != 1 then f u v else if p.fmt.chroma == 1 then f (2 * u) (2 * v) else downChroma f u v

/-! ### The Content Analyser -/

/-- The analyser's measures of a CTU: N, E, equality (R189). -/
structure CtuMeas where
  n : Nat
  e : Nat
  equal : Bool
  deriving DecidableEq, Repr

/-- The luma positions of a CTU inside the conformance window. -/
def PicRef.ctuSpots (p : PicRef) (col row : Nat) : List (Nat × Nat) :=
  (rangeFrom (64 * row) (min 64 (p.winH - 64 * row))).flatMap fun y =>
    (rangeFrom (64 * col) (min 64 (p.winW - 64 * col))).map fun x => (x, y)

/-- The triplet at a luma position. -/
def State.triplet (s : State) (p : PicRef) (q : Nat × Nat) : Pixel :=
  let c (k : Nat) : Nat := if p.fmt.chroma == 0 then 0 else s.sample p k (q.1 / p.fmt.subW) (q.2 / p.fmt.subH)
  (s.sample p 0 q.1 q.2, c 1, c 2)

/-- The measures of a CTU of a converted source against the one before; `delta` is EDGE_DELTA (R189). -/
def State.measure64 (s : State) (p : PicRef) (prev : Option PicRef) (delta col row : Nat) : CtuMeas :=
  let spots := p.ctuSpots col row
  let y (q : Nat × Nat) : Int := s.sample p 0 q.1 q.2
  let edge (q r : Nat × Nat) : Nat :=
    b2n (spots.elem r && Nat.ble (if p.fmt.depth == 10 then 4 * delta else delta) (y q - y r).natAbs)
  { n := min 65 (spots.map fun q => s.triplet p q).eraseDups.length,
    e := sumOf (fun q => edge q (q.1 + 1, q.2) + edge q (q.1, q.2 + 1)) spots,
    equal := match prev with
      | some o => decide (o.fmt = p.fmt) && spots.all fun q => s.triplet p q == s.triplet o q
      | none => false }

/-! ### Codings -/

/-- The registers that bound the coding of a CTU: whether intra block copy may be tried, the palette entries allowed, 1 to 64
(profile 5 with IBC_EN and PALETTE_EN, R181, R224; a PALETTE_MAX outside that range counts as the nearest value in it: DESIGN
CHOICE, assumption 69), H_RANGE, V_RANGE. -/
structure CodeLimits where
  copies : Bool
  palette : Nat
  hRange : Nat
  vRange : Nat

def State.codeLimits (s : State) (c : Nat) : CodeLimits :=
  let screen := s.fld (Reg.ENC_FORMAT c) 3 0 == 5
  { copies := screen && s.rbit (Reg.ENC_FORMAT c) 24,
    palette := if screen && s.rbit (Reg.ENC_FORMAT c) 25 then min 64 (max 1 (s.fld (Reg.ENC_FORMAT c) 22 16)) else 0,
    hRange := s.fld (Reg.ENC_SEARCH c) 8 0, vRange := s.fld (Reg.ENC_SEARCH c) 23 16 }

/-- The luma samples a block reads of its reference, with every interpolation tap: first and last column, first and last line,
inside the picture, whose edges repeat. -/
def interReads (b : InterBlock) (x : Ctx) (a : Nat) : (Nat × Nat) × (Nat × Nat) :=
  let side (o : Nat) (mv : Int) (n len : Nat) : Nat × Nat :=
    let tap : Int := if mv % 8 = 0 then 0 else 4
    let lo : Int := (o : Int) + mv / 4
    ((max 0 (min ((n : Int) - 1) (lo - tap))).toNat, (max 0 (min ((n : Int) - 1) (lo + len - 1 + tap))).toNat)
  (side (64 * (a % x.ctuCols) + b.x) b.mvx x.codedW b.w, side (64 * (a / x.ctuCols) + b.y) b.mvy x.codedH b.h)

/-- The CTUs that a block reads of its reference. -/
def interCtus (b : InterBlock) (x : Ctx) (a : Nat) : List Nat :=
  let r := interReads b x a
  (rangeFrom (r.2.1 / 64) (r.2.2 / 64 + 1 - r.2.1 / 64)).flatMap fun j =>
    (rangeFrom (r.1.1 / 64) (r.1.2 / 64 + 1 - r.1.1 / 64)).map fun i => j * x.ctuCols + i

/-- Whether a block of inter prediction is allowed: its reference held, its vector in the search range with its refinement
(R201); nothing older than a requested cell's intra coding is read (R207); a CTU that the wave has refreshed reads only what the
wave has refreshed (R205). -/
def interAllowed (b : InterBlock) (x : Ctx) (l : CodeLimits) (a : Nat) : Bool :=
  match x.refs[b.ref]? with
  | none => false
  | some r =>
    Nat.ble b.mvx.natAbs (4 * l.hRange + 3) && Nat.ble b.mvy.natAbs (4 * l.vRange + 3) &&
      (interCtus b x a).all fun q =>
        !(x.ctu q).asked && Nat.ble (x.ctu q).since r.pic.num &&
          (x.wave == 0 || (x.ctu a).fresh != x.wave || (r.wave == x.wave && r.fresh.elem q))

/-- The place of a sample of a CTU in its coding order, by 4 × 4 units: the bits of column and row interleaved. -/
def zOrder (x y : Nat) : Nat :=
  sumOf (fun i => 4 ^ i * (x / 4 / 2 ^ i % 2 + 2 * (y / 4 / 2 ^ i % 2))) (List.range 4)

/-- Whether a block vector is allowed (R200): what it points to lies in CTUs to the left in the same slice, or before the block
in the coding order of its CTU. -/
def copyAllowed (b : CopyBlock) (x : Ctx) (a : Nat) : Bool :=
  let first : Int := -(64 * (((a % x.ctuCols : Nat) : Int) - ((x.sliceFirst (x.sliceOf a) % x.ctuCols : Nat) : Int)))
  let u : Int := b.x + b.bvx
  let v : Int := b.y + b.bvy
  let inRow := decide (first ≤ u) && decide (0 ≤ v) && decide (v + b.h ≤ 64)
  let own := decide (0 ≤ u + b.w - 1) && decide (u + b.w ≤ 64) &&
    Nat.blt (zOrder (u + b.w - 1).toNat (v + b.h - 1).toNat) (zOrder b.x b.y) &&
    (decide (0 ≤ u) || Nat.blt (zOrder 0 (v + b.h - 1).toNat) (zOrder b.x b.y))
  inRow && (decide (u + b.w ≤ 0) || own)

/-- Whether the blocks that a coding predicts lie in the 64 × 64 samples of its CTU. -/
def trialFits (t : CodeTrial) : Bool :=
  t.inter.all (fun b => Nat.blt 0 b.w && Nat.blt 0 b.h && Nat.ble (b.x + b.w) 64 && Nat.ble (b.y + b.h) 64) &&
    t.copies.all fun b => Nat.blt 0 b.w && Nat.blt 0 b.h && Nat.ble (b.x + b.w) 64 && Nat.ble (b.y + b.h) 64

/-- Whether a coding of a CTU is allowed: its blocks lie in the CTU; `must` when every CU has to be intra (R203 to R207, R213,
R216); palette and intra block copy belong to profile 5 and are not tried for a Natural CTU (R199). -/
def trialAllowed (t : CodeTrial) (x : Ctx) (l : CodeLimits) (a : Nat) (idr must : Bool) : Bool :=
  let screen := !decide ((x.ctu a).cls = .natural)
  trialFits t && t.inter.all (fun b => !idr && !must && interAllowed b x l a) &&
    t.copies.all (fun b => screen && l.copies && !must && copyAllowed b x a) &&
    (t.palette == 0 || (screen && Nat.ble t.palette l.palette))

/-- The coding taken of those tried: the first that is allowed; else the last, which predicts from nothing outside the CTU. -/
def pickTrial (ts : List CodeTrial) (x : Ctx) (l : CodeLimits) (a : Nat) (idr must : Bool) : CodeTrial :=
  match ts.find? fun t => trialAllowed t x l a idr must with
  | some t => t
  | none => { ts.getLastD { bits := 0, inter := [], copies := [], palette := 0, recon := [] } with
              inter := [], copies := [], palette := 0 }

/-- A sample of a list of planes in raster order, `w` samples across. -/
def rasterAt (l : List (List Nat)) (w k x y : Nat) : Nat := (l.getD k []).getD (y * w + x) 0

/-- The samples of a CTU of 64 × 64 in raster order, by the position in its plane. -/
def ctuRaster (t : PicFmt) (cols a : Nat) (l : List (List Nat)) (k x y : Nat) : Nat :=
  let r := t.planeRect k (64 * (a % cols)) (64 * (a / cols)) 64 64
  rasterAt l r.2.2.1 k (x - r.1) (y - r.2.1)

/-- The CTU of a sample of a plane. -/
def ctuAt (t : PicFmt) (cols k u v : Nat) : Nat :=
  if k == 0 then v / 64 * cols + u / 64 else v * t.subH / 64 * cols + u * t.subW / 64

/-- The samples of a stored picture by plane and position, 0 outside it. -/
def State.planeAt (s : State) (p : PicRef) (k u v : Nat) : Nat :=
  if Nat.blt u (p.fmt.pw k) && Nat.blt v (p.fmt.ph k) then s.sample p k u v else 0

/-- ENC_EXCLUDE_FILL in the coded format (R198). -/
def State.fillAt (s : State) (c : Nat) (t : PicFmt) (k : Nat) : Nat :=
  let v := s.fld (Reg.ENC_EXCLUDE_FILL c) (10 * k + 9) (10 * k)
  convDepth 10 t.depth v

/-- The reconstruction of a CTU written: before the filters, and as the filters find it. -/
def State.putCtu (s : State) (c a : Nat) (f : Nat → Nat → Nat → Nat) : State :=
  let x := s.ctx c
  match x.pic with
  | none => s
  | some p =>
    let u := 64 * (a % x.ctuCols)
    let v := 64 * (a / x.ctuCols)
    (s.modCtx c fun x => { x with pic := x.pic.map fun p => { p with raw := rawPut p.raw p.pic.fmt u v 64 64 f } }).putArea p.pic u v 64 64 f

/-- The samples that a skip copies: those of the most recent reference at the same place (R197, R247). -/
def State.skipAt (s : State) (x : Ctx) (k u v : Nat) : Nat :=
  match x.refs.head? with
  | some r => s.sample r.pic k u v
  | none => 0

/-! ### Checks over a slice (R212) -/

/-- The samples before the filters of a slice's area, in the order of R52, as `f` gives them. -/
def Ctx.sliceSamples (x : Ctx) (t : PicFmt) (sl : Nat) (f : Nat → Nat → Nat → Nat) : List Nat :=
  let as := x.sliceCtus sl
  let a := as.headD 0
  t.planes.flatMap fun k =>
    let r := t.planeRect k (64 * (a % x.ctuCols)) (64 * (a / x.ctuCols)) (64 * as.length) 64
    (rangeFrom r.2.1 (min r.2.2.2 (t.ph k - r.2.1))).flatMap fun v => (rangeFrom r.1 (min r.2.2.1 (t.pw k - r.1))).map fun u => f k u v

/-- What echo decodes where it differs. -/
def diffAt (ds : List SampleDiff) (f : Nat → Nat → Nat → Nat) (k u v : Nat) : Nat :=
  match ds.find? fun d => d.plane == k && d.x == u && d.y == v with
  | some d => d.value
  | none => f k u v

/-! ### Parameter sets -/

/-- The tools of R181. -/
def codingTools (screen : Bool) (l : CodeLimits) : CodingTools :=
  { ctuSize := 64, minCu := 8, minTu := 4, maxTu := 32, maxTransformSkip := 4, amp := true, mergeCandidates := 5,
    temporalMvp := false, weighted := false, deblocking := true, sao := true, scalingLists := false, pcm := false,
    signHiding := false, cuQpDelta := true, cuQpDeltaDepth := 0, transquantBypass := true, implicitRdpcm := true, explicitRdpcm := false,
    persistentRice := true, crossComponent := false, extendedPrecision := false,
    paletteMax := l.palette, palettePredictor := if screen then 128 else 0, currPicRef := screen, colourTransform := false, mvResolution := 0 }

end Sys2Proof.Machine
end

