-- ==== Sys2Proof/Machine/RateControl.lean ====
section
/-! DEFINITION. Rate control of an encode context: the picture budget (R235 to R239),
the decision on one CTU (R240 to R248), the QP of the next row (R249), carrying and row rotation (R250 to R252), the
CPB (R228 to R234). -/

namespace Sys2Proof.Machine

def EncPicture.slice (p : EncPicture) (sl : Nat) : SliceRec := Sparse.get (fun _ => SliceRec.zero) p.slices sl
def EncPicture.setSlice (p : EncPicture) (sl : Nat) (r : SliceRec) : EncPicture :=
  { p with slices := Sparse.set (fun _ => SliceRec.zero) p.slices sl r }

/-! ### Configuration -/

/-- The signalled bit rate in bit/s and CPB size in bits: rounded down to the granularity of the syntax with scale 0,
64 bit/s and 16 bits (R228, R230; assumption 6). -/
def State.bitrate (s : State) (c : Nat) : Nat := s.fld (Reg.RC_BITRATE c) 19 0 * 1000 / 64 * 64
def State.cpbSize (s : State) (c : Nat) : Nat := s.fld (Reg.RC_CPB_SIZE c) 23 0 * 1000 / 16 * 16

def State.rcCbr (s : State) (c : Nat) : Bool := !s.rbit (Reg.RC_CTRL c) 0

/-- f_goal of a bit rate and a delay, to the nearest bit as the text under R257 states it (R232; assumption 6). -/
def goalBits (bitrate delay : Nat) : Nat := (bitrate * delay + 45000) / 90000

/-- The goal fullness f_goal (R232). -/
def State.fGoal (s : State) (c : Nat) : Nat := goalBits (s.bitrate c) (s.fld (Reg.RC_INIT_DELAY c) 16 0)

/-- The picture rate F of R329 in 0.01 Hz for an encode context; 0 when none is known. -/
def State.encRate (s : State) (c : Nat) : Nat :=
  let r := s.fld (Reg.CTX_ADMIT_RATE c) 15 0
  if r != 0 then r
  else
    let sel := s.fld (Reg.ENC_SOURCE c) 2 0
    if Nat.ble sel 3 then
      let p := s.regN (Reg.DP_IN_FRAME_PERIOD sel)
      if p == 0 then 0 else 100000000000 / p
    else if sel == 5 then
      let d := s.fld (Reg.ENC_SOURCE c) 15 8
      let a := s.fld (Reg.CTX_ADMIT_RATE d) 15 0
      if a != 0 then a else if s.isEncode d then 0 else s.fld (Reg.DEC_RATE d) 15 0
    else 0

/-- The source picture period in ns, from the rate of the source rounded down, 0 while that is unknown (DESIGN CHOICE,
assumption 67: R48 does not say what one source picture period is computed from). -/
def State.encPeriod (s : State) (c : Nat) : Nat := if s.encRate c == 0 then 0 else 100000000000 / s.encRate c

/-- floor(90000 / F), the nominal period in ticks. -/
def State.nominalTicks (s : State) (c : Nat) : Nat := if s.encRate c == 0 then 0 else 9000000 / s.encRate c

/-! ### The picture budget -/

/-- The budget of a picture: fullness f, B, Bc, 100 × RE (R235, R237, R239). -/
structure Budget where
  dt : Nat
  f : Int
  b : Int
  bc : Int
  re100 : Int
  deriving DecidableEq, Repr

/-- The maximum size of the version 2 sheet, in bits (R237). -/
def sheetMaxBits (cells : Nat) : Nat := 8 * (24 + 12 * cells + 23)

/-- The bits reserved for the customer's SEI payloads (R373): SEI_MAX bytes while a customer image is loaded; none without
one, as the example of the rate control chapter counts (assumption 21). -/
def State.seiReserve (s : State) : Nat :=
  if s.fld Reg.UC_LOAD_STATUS 19 12 == 1 then 8 * s.fld Reg.UC_HOOK_LIMIT 23 16 else 0

/-- An RTP timestamp of the context without its offset (R228). -/
def State.rtpTick (s : State) (c ts : Nat) : Nat := (ts + 2 ^ 32 - s.regN (Reg.ENC_RTP_TS_OFFSET c)) % 2 ^ 32

/-- Compute the budget at a picture start; the time since the previous picture leaves the offset of the timestamps out (R228,
R235). -/
def State.pictureBudget (s : State) (c : Nat) (ts overhead : Nat) (idr : Bool) : Budget :=
  let x := s.ctx c
  let first := x.rate.first || idr
  let dt := if first then s.nominalTicks c else (s.rtpTick c ts + 2 ^ 32 - x.rate.prevTs) % 2 ^ 32
  let br := s.bitrate c
  let f : Int := if first then s.fGoal c else min (s.cpbSize c : Int) (x.rate.fullness + (br * dt / 90000 : Nat))
  let rate := if s.rcCbr c then br else s.fld (Reg.RC_TARGET c) 19 0 * 1000
  let sh := s.fld (Reg.RC_CTRL c) 6 4
  let target : Int := (rate * dt / 90000 : Nat) + (f - s.fGoal c).fdiv (2 ^ sh)
  let b := max 0 (min target f)
  let bc := b - overhead
  let ePrev : Nat := if idr then 0 else x.rate.exactPrev
  let pct := s.fld (Reg.RC_EXACT c) 6 0
  let re := min (125 * (ePrev : Int) + 2 * b) (100 * (bc - (bc * pct).fdiv 100))
  { dt := dt, f := f, b := b, bc := bc, re100 := re }

/-- R236: 2 bits for every CTU not yet coded, 192 for every slice not yet started. -/
def closingCost (ctusLeft slicesLeft : Nat) : Nat := 2 * ctusLeft + 192 * slicesLeft

/-- Elead of R242: the CTUs carried in the previous picture that lie in rows k and below. -/
def State.leadEstimate (s : State) (c k : Nat) : Nat :=
  let x := s.ctx c
  (x.ctus.map fun p => if p.2.owed && Nat.ble k (p.1 / x.ctuCols) then
      (if p.2.exactOwed then s.fld (Reg.RC_EXACT c) 31 16 * 8 else s.fld (Reg.RC_LOSSY_FLOOR c) 15 0)
    else 0).foldl (· + ·) 0

/-! ### One CTU -/

/-- What rate control decides for a CTU. -/
inductive CtuChoice where
  | skip | code (exact : Bool) | carry (closes lossyClose : Bool) (by244 : Bool)
  deriving DecidableEq, Repr

/-- The bits of the slices of the CTU rows from the first to one (R243). -/
def EncPicture.spentTo (p : EncPicture) (tileCols row : Nat) : Nat :=
  sumOf (fun q => q.2.bits) (p.slices.filter fun q => Nat.blt q.1 ((row + 1) * tileCols))

/-- R243 for a CTU of a row: what is left of the CPB by the removal of the decoding unit of that row, and of every later row that
has spent bits, as it can when a slice is coded again. -/
def State.unitRoom (s : State) (c row : Nat) (x : Ctx) (p : EncPicture) : Int :=
  let before : Int := if x.rate.first || p.idr then p.f - (s.bitrate c * p.dt / 90000 : Nat) else x.rate.fullness
  let room (r : Nat) : Int := before + (s.bitrate c * p.dt * (r + 1) / (90000 * x.ctuRows) : Nat) - (p.spentTo x.tileCols r : Int)
  ((rangeFrom row (x.ctuRows - row)).filter fun r => (p.slice r).started).foldl (fun m r => min m (room r)) (room row)

/-- What every CTU but one, and every slice that is not open, still need (R236): those of a slice that waits to be coded again
count as not coded. -/
def Ctx.closingBut (x : Ctx) (p : EncPicture) (a : Nat) : Nat :=
  closingCost ((List.range x.ctuCount).filter fun b => b != a && !(x.ctu b).decided).length
    ((List.range (x.ctuRows * x.tileCols)).filter fun sl => !(p.slice sl).started).length

/-- The available budget of a CTU (R242, R243).  Rate-control order is the raster scan (R240), so the CTUs and slices that follow are
those of higher number.  In a slice coded again it is what it was at the first coding (R255), and no more than the picture has left
(R229; DEDUCED, assumption 48). -/
def State.available (s : State) (c a : Nat) : Int :=
  let x := s.ctx c
  match x.pic with
  | none => 0
  | some p =>
    let sl := x.sliceOf a
    let r := p.slice sl
    let row := a / x.ctuCols
    let lead : Int := if row < p.k then (p.lead : Int) else 0
    let left : Int := p.budget - p.spent - x.closingBut p a
    let first : Int := p.budget - (r.spent0 + r.bits : Nat) - lead -
      closingCost (x.ctuCount - (a + 1)) (x.ctuRows * x.tileCols - (sl + 1))
    let av := if r.fails == 0 then left - lead else min first left
    if x.tileCols == 1 && s.rbit (Reg.RC_CTRL c) 1 then min av (s.unitRoom c row x p) else av

/-- Whether every CU of a CTU has to be intra: a refresh or an echo mismatch asks for it (R253), or its slice failed echo
(R213). -/
def Ctx.mustIntra (x : Ctx) (p : EncPicture) (a : Nat) : Bool := (x.ctu a).intra || Nat.blt 0 (p.slice (x.sliceOf a)).fails

/-- The QP of the Lossy CTUs of a slice (R249): that of its row at its first coding. -/
def EncPicture.qpOf (p : EncPicture) (sl : Nat) : Int := if (p.slice sl).started || Nat.blt 0 (p.slice sl).fails then (p.slice sl).qp0 else p.qp

/-- The codings tried for a CTU: what they come to depends on nothing but what R202 names. -/
def State.trialsOf (s : State) (c a : Nat) (p : EncPicture) : CtuTrials :=
  let x := s.ctx c
  let sl := x.sliceOf a
  let own (b : Nat) : Bool := x.sliceOf b == sl && (x.ctu b).decided
  Config.codings ([Reg.CTX_MODE c, Reg.ENC_FORMAT c, Reg.ENC_SIZE c, Reg.ENC_REFS c, Reg.ENC_SEARCH c, Reg.ENC_EXCLUDE_FILL c].map s.reg)
    (p.qpOf sl) a (p.idr || x.mustIntra p a) (p.codes.filter fun q => own q.1)
    (s.planeAt p.src :: (fun k u v => if own (ctuAt p.pic.fmt x.ctuCols k u v) then rawAt p.raw k u v else 0) ::
      x.refs.map fun r => s.planeAt r.pic)

/-- The coding of a CTU that would be taken: losslessly, or at the row's QP. -/
def State.trialOf (s : State) (c a : Nat) (p : EncPicture) (f : CtuTrials) (exact : Bool) : CodeTrial :=
  pickTrial (if exact then f.exact else f.lossy) (s.ctx c) (s.codeLimits c) a p.idr ((s.ctx c).mustIntra p a)

/-- Whether a CTU is coded losslessly when it is coded: an Exact one, the fill of an Excluded one, and in a slice coded again
an Unchanged one whose class was Exact (R195, R198, R213). -/
def CtuRec.lossless (r : CtuRec) : Bool :=
  decide (r.cls = .exact) || decide (r.cls = .excluded) || (decide (r.cls = .unchanged) && r.exactCell)

/-- Whether R246 keeps a CTU from being carried: an Unchanged one, an Excluded one after its fill picture. -/
def CtuRec.settled (r : CtuRec) : Bool := decide (r.cls = .unchanged) || (decide (r.cls = .excluded) && r.filled)

/-- Whether a slice at or before one, of the same segment in rate-control order, has closed it in the sense of `f`. -/
def EncPicture.closedBy (p : EncPicture) (tileCols sl : Nat) (f : SliceRec → Bool) : Bool :=
  p.slices.any fun q => Nat.ble q.1 sl && f q.2 && Nat.blt (q.1 / tileCols) p.k == Nat.blt (sl / tileCols) p.k

/-- R244 to R246: what becomes of a CTU of a class, with the codings tried.  In a slice that is coded again every CU is intra
(R213): a CTU that R246 never carries is coded so when that fits, and else stays a skip (R229, R246; DEDUCED, assumption 48). -/
def State.chooseCtu (s : State) (c a : Nat) (f : CtuTrials) : CtuChoice :=
  let x := s.ctx c
  match x.pic with
  | none => .skip
  | some p =>
    let r := x.ctu a
    let sl := x.sliceOf a
    let again := Nat.blt 0 (p.slice sl).fails
    let exSpent := if again then (p.slice sl).exact0 + (p.slice sl).exactBits else p.exactSpent
    let av := s.available c a
    if p.allCarried then .carry false false false
    else if r.settled then
      if again && decide (((s.trialOf c a p f r.lossless).bits : Int) ≤ av) then .code r.lossless else .skip
    else if p.closedBy x.tileCols sl (·.closes) then .carry false false true
    else if r.lossless then
      if ((s.trialOf c a p f true).bits : Int) > av then .carry true false true else .code true
    else if p.closedBy x.tileCols sl (·.lossyCloses) then .carry false false false
    else if 100 * ((s.trialOf c a p f false).bits : Int) > 100 * av - max 0 (p.reserve - 100 * exSpent) then .carry false true false
    else .code false

/-- R249, exact halves away from zero. -/
def roundDiv (n d : Int) : Int := if 0 ≤ n then (2 * n + d).fdiv (2 * d) else -((2 * (-n) + d).fdiv (2 * d))

/-- The QP of the row after row r (R249). -/
def State.nextQp (s : State) (c row : Nat) (p : EncPicture) : Int :=
  let n := (s.ctx c).ctuRows
  let gain := s.fld (Reg.RC_ROW c) 15 8
  let step : Int := s.fld (Reg.RC_ROW c) 3 0
  let err : Int := (p.spent : Int) * n - p.budget * (row + 1)
  let d := if p.budget ≤ 0 then 0 else roundDiv (gain * err) (16 * p.budget)
  let d := min step (max (-step) d)
  min (s.fld (Reg.RC_CTRL c) 21 16 : Int) (max (s.fld (Reg.RC_CTRL c) 13 8 : Int) (p.qp + d))

/-- The slice of a CTU started: its first bits spent, of the 192 that R236 counts for it at most 176 and the two bytes of it that
stay undetermined while it is open (R230; DESIGN CHOICE, assumption 66); the sums before it are kept for a second coding (R255). -/
def EncPicture.startSlice (p : EncPicture) (sl bits : Nat) : EncPicture :=
  let r := p.slice sl
  let n := min 176 bits + 16
  let r' := { r with started := true, bits := n, exactBits := 0, closes := false, lossyCloses := false }
  if r.started then p
  else ({ p with spent := p.spent + n }).setSlice sl
    (if r.fails > 0 then r' else { r' with spent0 := p.spent, exact0 := p.exactSpent, qp0 := p.qp })

/-- The bytes of a slice's NAL unit: its bits without the two bytes left open, in whole bytes, at least its header. -/
def SliceRec.bytes (r : SliceRec) : Nat := max 2 (cdiv (r.bits - 16) 8)

/-- A slice whose last CTU is decided: from now on it counts as the bytes of its NAL unit (R230). -/
def EncPicture.endSlice (p : EncPicture) (sl : Nat) : EncPicture :=
  let r := p.slice sl
  ({ p with spent := p.spent - r.bits + 8 * r.bytes }).setSlice sl { r with bits := 8 * r.bytes }

/-- What a choice costs: bits, bits that count as Exact spending.  A skip takes at most the 2 bits that R236 counts for it
(DESIGN CHOICE, assumption 66). -/
def CtuChoice.cost (ch : CtuChoice) (t : CodeTrial) (skipBits : Nat) : Nat × Nat :=
  match ch with
  | .code true => (t.bits, t.bits)
  | .code false => (t.bits, 0)
  | _ => (min 2 skipBits, 0)

/-- How a choice codes a CTU (R195 to R201, R247, R248): every CU of a lossless one bypasses transform and quantisation. -/
def CtuChoice.codeOf (ch : CtuChoice) (t : CodeTrial) (idr : Bool) (qp : Int) : CtuCode :=
  match ch with
  | .code exact => { skip := false, bypass := exact, inter := t.inter, copies := t.copies, palette := t.palette, qp := qp }
  | _ => { CtuCode.none with skip := !idr, qp := qp }

/-- What a choice reconstructs of a CTU by plane and position: its source, the fill, what the coding gives, the most recent
reference, the blank of an IDR picture (R196 to R198, R247, R248). -/
def State.reconAt (s : State) (c a : Nat) (p : EncPicture) (ch : CtuChoice) (t : CodeTrial) (blank : List (List Nat)) :
    Nat → Nat → Nat → Nat :=
  let x := s.ctx c
  match ch with
  | .code true => if decide ((x.ctu a).cls = .excluded) then fun k _ _ => s.fillAt c p.pic.fmt k else fun k u v => s.sample p.src k u v
  | .code false => ctuRaster p.pic.fmt x.ctuCols a t.recon
  | _ => if p.idr then ctuRaster p.pic.fmt x.ctuCols a blank else fun k u v => s.skipAt x k u v

/-- The record of a CTU after a choice. -/
def CtuRec.after (r : CtuRec) (ch : CtuChoice) : CtuRec :=
  match ch with
  | .skip => { r with decided := true, coded := false, carried := false }
  | .code _ => { r with decided := true, coded := true, carried := false }
  | .carry _ _ _ => { r with decided := true, coded := false, carried := true }

/-- The record of a CTU once its picture is complete (R39, R44 to R46, R198, R248, R251, R253): `num` is the picture's number,
`wave` the refresh wave in force (R205, R207). -/
def CtuRec.settle (r : CtuRec) (idr : Bool) (num wave : Nat) : CtuRec :=
  let exact := decide (r.cls = .exact)
  let r' : CtuRec :=
    if r.coded then { r with
      time := r.prevSrc, intra := false, exactCell := exact || (decide (r.cls = .unchanged) && r.exactCell),
      filled := decide (r.cls = .excluded), asked := false,
      since := if r.asked then num else r.since, fresh := if r.intra then wave else r.fresh }
    else if r.carried then { r with time := if idr then none else r.time }
    else { r with time := r.prevSrc }
  { r' with decided := false, coded := false, carried := false, owed := r.carried,
            exactOwed := r.carried && exact }

/-- The record of a CTU whose source is omitted under R180: its represented time advances with the source (R45, R198); what the
last coded picture carried stays owed (R251). -/
def CtuRec.omit (r : CtuRec) : CtuRec := { r with time := r.prevSrc, decided := false, coded := false, carried := false }

/-- The picture's sums after a choice on a CTU, and the sums and closings of its slice (R244, R245, R250). -/
def EncPicture.after (p : EncPicture) (ch : CtuChoice) (sl : Nat) (cost : Nat × Nat) : EncPicture :=
  let r := p.slice sl
  let (closes, lossy) : Bool × Bool := match ch with
    | .carry c l _ => (c, l)
    | _ => (false, false)
  ({ p with spent := p.spent + cost.1, exactSpent := p.exactSpent + cost.2, decided := p.decided + 1 }).setSlice sl
    { r with bits := r.bits + cost.1, exactBits := r.exactBits + cost.2, closes := r.closes || closes,
             lossyCloses := r.lossyCloses || lossy }

/-- R240: whether every CTU before `a` in rate-control order is decided; a slice that is coded again is decided on its
own (R255). -/
def Ctx.decidable (x : Ctx) (a : Nat) (p : EncPicture) : Bool :=
  (List.range a).all fun b => (x.ctu b).decided || (x.sliceOf b != x.sliceOf a && Nat.blt 0 (p.slice (x.sliceOf b)).fails) ||
    (x.sliceOf b != x.sliceOf a && Nat.blt 0 (p.slice (x.sliceOf a)).fails)

/-- What becomes of one CTU of the picture in coding (R244 to R252): its new record, the picture's sums, how it is coded, its
samples, EXACT_STARVED.  What is counted per picture is counted when the picture is complete. -/
def State.settleCtu (s : State) (c a : Nat) (ch : CtuChoice) (cost : Nat × Nat) (code : CtuCode) (f : Nat → Nat → Nat → Nat) :
    State :=
  let x := s.ctx c
  match x.pic with
  | none => s
  | some p =>
    let r := x.ctu a
    let slN := x.sliceOf a
    let sl := p.slice slN
    let row := a / x.ctuCols
    let (carried, by244) : Bool × Bool := match ch with
      | .carry _ _ b => (true, b)
      | _ => (false, false)
    let p' := p.after ch slN cost
    let p' := if (x.sliceCtus slN).all fun b => b == a || (x.ctu b).decided then p'.endSlice slN else p'
    let owedRow := !p.idr && (x.ctus.any fun q => q.2.owed && q.1 / x.ctuCols == row)
    let starve := carried && owedRow && !p.starved
    let p' := { p' with starved := p.starved || starve, codes := Sparse.set (fun _ => CtuCode.none) p'.codes a code }
    let p' := if sl.fails == 0 && a % x.ctuCols == x.ctuCols - 1 && Nat.blt (row + 1) x.ctuRows then
        { p' with qp := s.nextQp c row p' } else p'
    let s := (s.modCtx c fun x => { (x.setCtu a (r.after ch)) with pic := some p' }).putCtu c a f
    s.doIf starve fun s => s.raise c FaultKind.EXACT_STARVED (a + 65536 * b2n by244)

/-- The Motion Search Arrays of the references that a CTU's trials search show the context (R321, R348). -/
def State.noteSearch (s : State) (c : Nat) (l : List CodeTrial) : State :=
  s.forEach (((l.flatMap fun t => t.inter.map (·.ref)).filterMap fun r => (s.ctx c).msas[r]?).eraseDups) fun a s =>
    s.setFld (Reg.MSA_STATUS a) 15 8 c

/-- Decide one CTU of the picture in coding, in rate-control order (R240). -/
def State.decideCtu (s : State) (c a : Nat) : State :=
  let x := s.ctx c
  match x.pic with
  | none => s
  | some p0 =>
    if (x.ctu a).decided || Nat.ble x.ctuCount a || !x.decidable a p0 then s
    else
      let f := s.trialsOf c a p0
      let p := p0.startSlice (x.sliceOf a) f.sliceBits
      let s := s.modCtx c fun x => { x with pic := some p }
      let ch := s.chooseCtu c a f
      let t := s.trialOf c a p f (match ch with
        | .code e => e
        | _ => true)
      let s := match ch with
        | .code _ => s.noteSearch c (f.exact ++ f.lossy)
        | _ => s
      s.settleCtu c a ch (ch.cost t f.skipBits) (ch.codeOf t p.idr (p.qpOf (x.sliceOf a))) (s.reconAt c a p ch t f.blank)

/-- R250: the rotation row of the next picture: the first row of this one, in priority order, with a carried or blanked CTU. -/
def Ctx.nextRow (x : Ctx) (p : EncPicture) : Nat :=
  ((rangeFrom p.k (x.ctuRows - p.k) ++ List.range (min p.k x.ctuRows)).find? fun r =>
    (List.range x.ctuCols).any fun i => (x.ctu (r * x.ctuCols + i)).carried).getD 0

end Sys2Proof.Machine
end

