-- ==== Sys2Proof/Machine/Session.lean ====
section
/-! DEFINITION. The session protocol at both ends: the bytes of its messages (R137, R142, R809), their acceptance
(R138 to R141, R816, R818), opening and closing a session (R145 to R150), the session machine of a decode context
(R151, R815), refresh requests (R154 to R157), changes of terms (R158 to R161), and their commands. -/

namespace Sys2Proof.Machine

/-! ### Messages -/

/-- The statuses of R144. -/
def stOk : Nat := 0
def stNoCommonVersion : Nat := 1
def stUnknownStream : Nat := 2
def stRenewalTooLong : Nat := 3
def stTableFull : Nat := 4
def stTooManyCells : Nat := 5
def stBadTerms : Nat := 6
def stStreamStopped : Nat := 7
def stAdminClose : Nat := 8

/-- A message of R137: header, body, CRC. -/
def sessMsg (ver typ id seq ack : Nat) (body : List Byte) : List Byte :=
  let m := beBytes 2 0x5551 ++ beBytes 2 ver ++ [BitVec.ofNat 8 typ, 0] ++ beBytes 2 (24 + body.length) ++
    beBytes 4 id ++ beBytes 4 seq ++ beBytes 4 ack ++ body
  m ++ beBytes 4 (crc32c m)

def msgVer (b : List Byte) : Nat := beAt b 2 2
def msgType (b : List Byte) : Nat := beAt b 4 1
def msgId (b : List Byte) : Nat := beAt b 8 4
def msgSeq (b : List Byte) : Nat := beAt b 12 4
def msgAck (b : List Byte) : Nat := beAt b 16 4

/-- The least length of a message (R809). -/
def msgLeast (b : List Byte) : Nat :=
  match msgType b with
  | 1 => 40
  | 2 => if beAt b 20 2 == 2 then 44 else 36
  | 3 => 32
  | 4 => if msgVer b == 2 then 44 else 32
  | 5 => 36
  | 6 => 100
  | 7 => 28
  | 8 => 40
  | 9 => 32
  | 10 => 28
  | _ => 24

/-- MAGIC, LENGTH and CRC are right, the least length of the message among them (R140, R818). -/
def msgFramed (b : List Byte) : Bool :=
  Nat.ble (msgLeast b) b.length && beAt b 0 2 == 0x5551 && beAt b 6 2 == b.length &&
    beAt b (b.length - 4) 4 == crc32c (b.take (b.length - 4))

/-- The rest of R140 that needs no session: PROTO_VERSION 1 or 2, a type defined in it, and version 1 for HELLO, HELLO_ACK
and REFUSE (R138). -/
def msgSound (b : List Byte) (typ : Nat) : Bool :=
  (msgVer b == 1 || msgVer b == 2) && msgType b == typ &&
    (!(Nat.ble 6 typ && Nat.ble typ 9) || msgVer b == 2) && (Nat.blt 3 typ || msgVer b == 1)

/-! ### Configuration -/

def State.verMin (s : State) (c : Nat) : Nat := s.fld (Reg.SESS_CTRL c) 15 8
/-- VER_MAX, of which values above 2 act as 2 (R164). -/
def State.verMax (s : State) (c : Nat) : Nat := min 2 (s.fld (Reg.SESS_CTRL c) 23 16)
def State.v1Policy (s : State) (c : Nat) : Nat := s.fld (Reg.SESS_CTRL c) 4 3

/-- R815: the session machine runs. -/
def State.sessRuns (s : State) (c : Nat) : Bool := s.rbit (Reg.SESS_CTRL c) 0 && s.ctxEnabled c && s.sessMode c == 0

/-- The peer address registers (R163). -/
def State.peerAddrReg (s : State) (c : Nat) : Nat :=
  s.reg64 (Reg.SESS_PEER_ADDR_0 c) + 2 ^ 64 * s.reg64 (Reg.SESS_PEER_ADDR_2 c)

/-- The version in force for an access unit that carries sheets of the versions told (R128, R162); 0 none. -/
def State.versionInForce (s : State) (c : Nat) (has1 has2 : Bool) : Nat :=
  let d := (s.ctx c).dec
  if s.sessMode c == 1 then (if s.fld (Reg.SESS_SDP c) 7 0 == 1 then 1 else 2)
  else if s.sessMode c == 0 && decide (d.st = .opened) then d.version
  else if has2 && Nat.ble 2 (s.verMax c) then 2
  else if has1 && Nat.ble (s.verMin c) 1 then 1
  else 0

/-- The code of SESS_STATUS.STATE. -/
def SessState.code : SessState → Nat
  | .idle => 0
  | .waitStream => 1
  | .helloSent => 2
  | .opened => 3
  | .backoff => 4
  | .refused => 5

/-- The largest renewal interval a session accepts (R41, R145 row 5). -/
def renewLimit (e : EncSession) (ownAllow : Nat) : Int :=
  (min e.dlExact e.dlLossy : Nat) - (max e.netAllow ownAllow : Nat)

/-- SESS_STATUS and the figures of the open sessions, written from the context (R163), and the version in use in FRESH_STATUS
(R101). -/
def State.sessStatus (s : State) (c : Nat) : State :=
  let x := s.ctx c
  let s := s.showFresh c
  if s.isEncode c then
    let vs := x.encs.map (·.version)
    let own := s.fld (Reg.FRESH_NET_ALLOW c) 15 0
    let lim := x.encs.map fun e => (renewLimit e own).toNat
    let s := s.setRegN (Reg.SESS_STATUS c) ((if s.sessRuns c then 8 else 0) + 256 * (vs.foldl max 0) +
      65536 * x.encs.length + 2 ^ 24 * b2n x.v1Active)
    let s := s.setRegN (Reg.SESS_PEER_TERMS c) (if x.encs.isEmpty then 0 else lim.foldl min 65535)
    let s := s.setRegN (Reg.SESS_PEER_DEADLINES c) (if x.encs.isEmpty then 0 else
      (x.encs.map (·.dlExact)).foldl min 65535 + 65536 * (x.encs.map (·.dlLossy)).foldl min 65535)
    s.setRegN (Reg.SESS_REMOTE_STALE c) ((x.encs.map (·.stale)).foldl max 0 +
      65536 * (x.encs.map (·.unsourced)).foldl max 0)
  else
    s.setRegN (Reg.SESS_STATUS c) (x.dec.st.code + 256 * s.curVersion c)

/-- SESS_LAST_REFUSAL: the status, and whether this end sent it. -/
def State.lastRefusal (s : State) (c status : Nat) (sent : Bool) : State :=
  s.setRegN (Reg.SESS_LAST_REFUSAL c) (status % 65536 + 65536 * b2n sent)

/-! ### Sending -/

/-- The MAC last seen from an address on a port (R812). -/
def State.macOf (s : State) (port addr : Nat) : Option Nat :=
  (s.macs.find? fun m => m.port == port && m.addr == addr).map (·.mac)

/-- The MAC of a frame accepted from an address on a port is remembered (R812); a session message counts as accepted when
R140 discards it on no ground. -/
def State.learnMac (s : State) (port addr mac : Nat) : State :=
  { s with macs := ({ port := port, addr := addr, mac := mac } : MacEntry) ::
      s.macs.filter fun m => !(m.port == port && m.addr == addr) }

/-- A datagram of the session protocol put on a port (R812): from SESSION_PORT and the port's own address of the family of
its destination; a message of an encode context from the service address where the device holds it (R749). -/
def State.putUdp (s : State) (enc : Bool) (port addr dport mac : Nat) (b : List Byte) : State :=
  s.emit (.datagram port (s.portAddr port (!isV4 addr) addr (enc && s.svcOn)) (s.fld Reg.PKT_CTRL 15 0) addr dport mac b)

/-- A message of a context leaves the port: it is counted in SESS_MSG_TX, a REFRESH_REQ in SESS_REFRESH too (R163). -/
def State.leaveUdp (s : State) (c port addr dport mac : Nat) (b : List Byte) : State :=
  ((s.putUdp (s.isEncode c) port addr dport mac b).bump (Reg.SESS_MSG_TX c) 1).doIf (msgType b == 6) fun s =>
    s.bump (Reg.SESS_REFRESH c) 1

/-- A message with the TX_TIME of its transmission (R142): KEEPALIVE and KEEPALIVE_ACK carry one, under their CRC. -/
def stampMsg (t : Nat) (b : List Byte) : List Byte :=
  if msgType b == 4 || msgType b == 5 then
    let m := b.take 20 ++ beBytes 8 t ++ (b.take (b.length - 4)).drop 28
    m ++ beBytes 4 (crc32c m)
  else b

/-- The local send time of a KEEPALIVE of the context is now (R153). -/
def State.noteSent (s : State) (c : Nat) (b : List Byte) : State :=
  s.doIf (msgType b == 4) fun s => s.modCtx c fun x => { x with dec := { x.dec with
    kaSent := x.dec.kaSent.map fun q => if q.1 == msgSeq b then (q.1, s.now) else q } }

/-- Send a session message, or hold it while its address is resolved (R812). -/
def State.sendUdp (s : State) (c port addr dport : Nat) (b : List Byte) : State :=
  match s.macOf port addr with
  | some m => s.leaveUdp c port addr dport m b
  | none =>
    let first := !(s.sessWait.any fun w => w.port == port && w.addr == addr)
    let s := { s with sessWait := s.sessWait ++ [({ ctx := c, port := port, addr := addr, dport := dport, bytes := b } : WaitMsg)] }
    s.doIf first fun s => s.emit (.resolve port addr)

/-- Whether DEC_FLOW holds the current handle of a valid ingress flow, without which the decoding end sends nothing (R135). -/
def State.decSends (s : State) (c : Nat) : Bool :=
  match s.flowOfHandle (s.fld (Reg.DEC_FLOW c) 15 0) with
  | some f => !f.egress
  | none => false

/-- The decoding end sends a message of the next SEQ (R135: no message without a current, valid ingress flow). A message
that is not sent for want of a flow has taken its SEQ all the same: R141 does not say. DESIGN CHOICE (log 73). -/
def State.sendDec (s : State) (c ver typ ack : Nat) (body : List Byte) : State :=
  let d := (s.ctx c).dec
  let q := (d.seq + 1) % 2 ^ 32
  let s := s.modCtx c fun x => { x with dec := { x.dec with seq := q } }
  match s.flowOfHandle (s.fld (Reg.DEC_FLOW c) 15 0) with
  | none => s
  | some f => if f.egress then s else
    s.sendUdp c (if d.port == 4 then lowPort f.portMask else d.port) d.peerAddr (s.fld (Reg.SESS_PEER_PORT c) 15 0)
      (sessMsg ver typ d.id q ack body)

/-- The encoding end sends a message of a session: to where its latest message came from (R135, R812). -/
def State.sendEnc (s : State) (c ver typ ack : Nat) (e : EncSession) (body : List Byte) : State :=
  s.sendUdp c e.port e.src e.srcPort (sessMsg ver typ e.id e.seq ack body)

/-- The sender's MAC of a session message that is accepted (R812). -/
def State.heard (s : State) (m : NetMsg) : State := s.learnMac m.port.val m.src.toNat m.mac.toNat

/-- The session of an id in a context changed. -/
def State.modEnc (s : State) (c id src : Nat) (f : EncSession → EncSession) : State :=
  s.modCtx c fun x => { x with encs := x.encs.map fun e => if e.id == id && e.src == src then f e else e }

/-- A session removed with what it waits for (R146, R148). -/
def State.dropEnc (s : State) (c id src : Nat) : State :=
  (s.modCtx c fun x => { x with
    encs := x.encs.filter fun e => !(e.id == id && e.src == src),
    refreshAcks := x.refreshAcks.filter fun q => !(q.1 == id && q.2.1 == src) }).sessStatus c

/-- A session closed: the lead tells its partner (R750). -/
def State.closeEnc (s : State) (c id src : Nat) : State :=
  match (s.ctx c).encs.find? fun e => e.id == id && e.src == src with
  | some e => (s.dropEnc c id src).linkSession c 2 e
  | none => s.dropEnc c id src

/-- Send the next message of an open session of the encoding end. -/
def State.sendEncNext (s : State) (c id src typ ack : Nat) (body : List Byte) : State :=
  let s := s.modEnc c id src fun e => { e with seq := (e.seq + 1) % 2 ^ 32 }
  match (s.ctx c).encs.find? fun e => e.id == id && e.src == src with
  | some e => s.sendEnc c e.version typ ack e body
  | none => s

/-- The same from a port of its own (R135: an answer leaves from the port on which its message arrived). -/
def State.sendEncFrom (s : State) (c id src port typ ack : Nat) (body : List Byte) : State :=
  let s := s.modEnc c id src fun e => { e with seq := (e.seq + 1) % 2 ^ 32 }
  match (s.ctx c).encs.find? fun e => e.id == id && e.src == src with
  | some e => s.sendEnc c e.version typ ack { e with port := port } body
  | none => s

/-! ### Answers that are awaited -/

/-- A message just sent, under its SEQ. -/
def Await.sent (q : Nat) : Await := { seqs := [q], resends := 0 }

/-- The message sent again, under another SEQ. -/
def Await.again (a : Await) (q : Nat) : Await := { seqs := q :: a.seqs, resends := a.resends + 1 }

/-- An awaited message, new or again, under the SEQ it has just taken. -/
def Await.next (old : Option Await) (q : Nat) : Await :=
  match old with
  | some a => a.again q
  | none => Await.sent q

/-- Whether an ACK_SEQ answers any transmission of the message. -/
def Await.hit (a : Await) (ack : Nat) : Bool := a.seqs.elem ack

/-- The messages still awaited after an answer. -/
def awaitsAfter (l : List Await) (ack : Nat) : List Await := l.filter fun a => !a.hit ack

/-! ### The decoding end -/

/-- Every SESSION_ID the device holds in either role (R816). -/
def State.sessionIds (s : State) : List Nat :=
  (s.ctxs.map fun p => (if decide (p.2.dec.st = .idle) || decide (p.2.dec.st = .waitStream) then [] else [p.2.dec.id]) ++
    p.2.encs.map (·.id)).flatten

/-- The first number from `v` on, wrapping past 0, that is not forbidden; `n` tries. -/
def freeId (forbidden : List Nat) : Nat → Nat → Nat
  | 0, v => v
  | n + 1, v =>
    let v := if v % 2 ^ 32 == 0 then 1 else v % 2 ^ 32
    if forbidden.elem v then freeId forbidden n (v + 1) else v

/-- A new SESSION_ID under R141: neither the context's previous one nor one that the device holds. -/
def State.newSessionId (s : State) (c : Nat) : Nat :=
  let bad := (s.ctx c).dec.id :: s.sessionIds
  freeId bad (bad.length + 1) (s.now % 2 ^ 32)

/-- The body of a HELLO (R142). -/
def State.helloBody (s : State) (c : Nat) : List Byte :=
  let e := s.fld (Reg.FRESH_DEADLINE_EXACT c) 15 0
  let l := s.fld (Reg.FRESH_DEADLINE_LOSSY c) 15 0
  beBytes 2 (s.verMin c) ++ beBytes 2 (s.verMax c) ++ beBytes 4 (s.ctx c).dec.ssrc ++ beBytes 2 (min e l) ++
    beBytes 2 (s.fld (Reg.FRESH_NET_ALLOW c) 15 0) ++ beBytes 2 (s.fld (Reg.SESS_TIMING c) 15 0) ++
    [BitVec.ofNat 8 (b2n (s.arrivalRelative c) + 2 * b2n s.locked), 0] ++ beBytes 2 e ++ beBytes 2 l ++
    beBytes 2 576 ++ beBytes 2 0

/-- Send a HELLO, with a new SESSION_ID or the present one, and await its answer (R136, R141, R151). -/
def State.sendHello (s : State) (c : Nat) (newId : Bool) (attempts : Nat) : State :=
  let s := s.doIf newId fun s =>
    let id := s.newSessionId c
    s.modCtx c fun x => { x with dec := { x.dec with id := id, seq := 0 } }
  let s := s.modCtx c fun x => { x with dec := { x.dec with
    st := .helloSent, attempts := attempts, lastSeq := none, helloSeq := (x.dec.seq + 1) % 2 ^ 32, version := 0,
    refreshWait := [], updWait := [], kaSent := [], pending := RefreshSet.empty } }
  (s.sendDec c 1 1 0 (s.helloBody c)).sessStatus c

/-- The decode session's state set. -/
def State.setSess (s : State) (c : Nat) (st : SessState) : State :=
  (s.modCtx c fun x => { x with dec := { x.dec with st := st } }).sessStatus c

/-- Send a KEEPALIVE (R142, R151): one more unanswered. -/
def State.sendKeepalive (s : State) (c : Nat) : State :=
  let x := s.ctx c
  let v2 := if x.dec.version == 2 then
      beBytes 2 (s.fld (Reg.FRESH_COUNTS c) 9 0) ++ beBytes 2 (s.fld (Reg.FRESH_COUNTS c) 25 16) ++
        beBytes 4 x.dec.rejCrc ++ beBytes 2 (x.lastSheetSeq.getD 0) ++ beBytes 2 0
    else []
  let s := s.sendDec c x.dec.version 4 0 (beBytes 8 s.now ++ v2)
  s.modCtx c fun x => { x with dec := { x.dec with
    kaSent := (x.dec.seq, s.now) :: x.dec.kaSent, misses := x.dec.misses + 1 } }

/-- Join two refresh sets. -/
def RefreshSet.join (a b : RefreshSet) : RefreshSet :=
  { all := a.all || b.all, cells := a.cells ++ b.cells.filter fun i => !a.cells.elem i }

def RefreshSet.isEmpty (a : RefreshSet) : Bool := !a.all && a.cells.isEmpty

/-- The bitmap of REFRESH_REQ (R142): cell i at byte i / 8, bit 7 − (i mod 8). -/
def refreshBitmap (r : RefreshSet) (total : Nat) : List Byte :=
  (List.range 72).map fun j => (BitVec.ofNat 8 (((List.range 8).map fun k =>
    if (r.all && Nat.blt (8 * j + k) total) || r.cells.elem (8 * j + k) then 2 ^ (7 - k) else 0).foldl (· + ·) 0) : Byte)

/-- CELL_TOTAL at the decoding end: of the decoded picture, else of the HELLO_ACK (R154). -/
def Ctx.cellTotal (x : Ctx) : Nat := if x.cellCount == 0 then x.dec.cells else x.cellCount

/-- Send one REFRESH_REQ for a set, new or again; a hold-off starts unless REFRESH_HOLDOFF is 0 (R155, R156). -/
def State.sendRefreshReq (s : State) (c : Nat) (r : RefreshSet) (old : Option Await) : State :=
  let total := (s.ctx c).cellTotal
  let hold := s.fld (Reg.SESS_TIMING c) 31 24 != 0
  let s := s.sendDec c 2 6 0 ([BitVec.ofNat 8 (b2n r.all), 0] ++ beBytes 2 total ++ refreshBitmap r total)
  s.modCtx c fun x => { x with dec := { x.dec with
      pending := RefreshSet.empty, holdoff := hold,
      refreshWait := x.dec.refreshWait ++ [({ wait := Await.next old x.dec.seq, cells := r } : AwaitRefresh)] } }

/-- R155: the pending set leaves as one REFRESH_REQ unless a hold-off runs. -/
def State.flushRefresh (s : State) (c : Nat) : State :=
  let d := (s.ctx c).dec
  s.doIf (decide (d.st = .opened) && d.version == 2 && !d.holdoff && !d.pending.isEmpty) fun s =>
    s.sendRefreshReq c d.pending none

/-- R154: cells join the pending refresh set of an open version 2 session with AUTO_REFRESH. -/
def State.wantRefresh (s : State) (c : Nat) (r : RefreshSet) : State :=
  let d := (s.ctx c).dec
  if s.sessRuns c && decide (d.st = .opened) && d.version == 2 && s.rbit (Reg.SESS_CTRL c) 5 && !r.isEmpty then
    (s.modCtx c fun x => { x with dec := { x.dec with pending := x.dec.pending.join r } }).flushRefresh c
  else s

/-- R158 to R160: the fields of UPDATE that belong to this end, the rest zero (R143). -/
def State.updateBody (s : State) (c : Nat) : List Byte :=
  let x := s.ctx c
  if s.isEncode c then
    beBytes 6 0 ++ beBytes 2 (s.fld (Reg.FRESH_RENEWAL c) 15 0) ++ beBytes 2 x.codedW ++ beBytes 2 x.codedH ++
      [BitVec.ofNat 8 x.cols, BitVec.ofNat 8 x.rows, BitVec.ofNat 8 (s.fld (Reg.CTX_MODE c) 6 5), 0]
  else
    beBytes 2 (s.fld (Reg.FRESH_DEADLINE_EXACT c) 15 0) ++ beBytes 2 (s.fld (Reg.FRESH_DEADLINE_LOSSY c) 15 0) ++
      beBytes 2 (s.fld (Reg.FRESH_NET_ALLOW c) 15 0) ++ beBytes 10 0

/-- The decoding end sends UPDATE, new or again (R158, R161). One sent again carries the terms in force then: R161 does not
say whether they are those of the first. DESIGN CHOICE (log 73). -/
def State.sendDecUpdate (s : State) (c : Nat) (old : Option Await) : State :=
  let s := s.sendDec c 2 8 0 (s.updateBody c)
  s.modCtx c fun x => { x with dec := { x.dec with updWait := x.dec.updWait ++ [Await.next old x.dec.seq] } }

/-- The encoding end sends UPDATE on a session, new or again (R160, R161). -/
def State.sendEncUpdate (s : State) (c id src : Nat) (old : Option Await) : State :=
  let s := s.sendEncNext c id src 8 0 (s.updateBody c)
  s.modEnc c id src fun e => { e with updWait := e.updWait ++ [Await.next old e.seq] }

/-- R160: UPDATE on every open version 2 session of an encode context. -/
def State.updateAllEnc (s : State) (c : Nat) : State :=
  s.forEach ((s.ctx c).encs.filter (·.version == 2)) fun e s => s.sendEncUpdate c e.id e.src none

/-- The session is lost or given up after being open (R151): SESSION_LOST, counted, HELLO again; the cell table stays as it
is (R152). -/
def State.sessionLost (s : State) (c : Nat) : State :=
  ((s.raise c FaultKind.SESSION_LOST 0).bump (Reg.SESS_LOSSES c) 1).sendHello c false 1

/-- The decoding end sends BYE: with the negotiated version, or 1 where none is (R138). -/
def State.sendDecBye (s : State) (c reason : Nat) : State :=
  let d := (s.ctx c).dec
  s.sendDec c (if decide (d.st = .opened) then d.version else 1) 10 0 (beBytes 2 reason ++ beBytes 2 0)

/-- BYE on every open session of an encode context, which closes them all with what they wait for (R150). -/
def State.byeAll (s : State) (c reason : Nat) : State :=
  let s := s.forEach (s.ctx c).encs fun e s => (s.sendEncNext c e.id e.src 10 0 (beBytes 2 reason ++ beBytes 2 0)).linkSession c 2 e
  (s.modCtx c fun x => { x with encs := [], refreshAcks := [] }).sessStatus c

/-- Start or stop the session machine as R815 says, after anything its conditions depend on has changed. -/
def State.sessSync (s : State) (c : Nat) : State :=
  if s.isEncode c then
    if !s.sessRuns c && !(s.ctx c).encs.isEmpty then s.byeAll c stAdminClose else s.sessStatus c
  else
    let d := (s.ctx c).dec
    if s.sessRuns c then
      if decide (d.st = .idle) then
        let a := s.peerAddrReg c
        let i := s.regN (Reg.SESS_STREAM_ID c)
        let s := s.modCtx c fun x => { x with dec := { x.dec with peerAddr := a, ssrc := i } }
        if a != 0 && i != 0 then s.sendHello c true 1 else s.setSess c .waitStream
      else s.sessStatus c
    else if decide (d.st = .idle) then s.sessStatus c
    else
      let s := s.doIf (!decide (d.st = .waitStream)) fun s => s.sendDecBye c stAdminClose
      let s := s.modCtx c fun x => { x with dec := { x.dec with
        version := 0, pending := RefreshSet.empty, refreshWait := [], updWait := [], kaSent := [], holdoff := false, misses := 0 } }
      s.setSess c .idle

/-- A packet of the stream arrives (R135, R136, R151): the port, the first packet of WAIT_STREAM, a change of SSRC. -/
def State.streamPacket (s : State) (c port src ssrc : Nat) : State :=
  let s := s.modCtx c fun x => { x with dec := { x.dec with port := port } }
  let d := (s.ctx c).dec
  if !s.sessRuns c then s
  else if decide (d.st = .waitStream) then
    let s := s.modCtx c fun x => { x with dec := { x.dec with
      peerAddr := if d.peerAddr == 0 then src else d.peerAddr, ssrc := if d.ssrc == 0 then ssrc else d.ssrc } }
    s.sendHello c true 1
  else if decide (d.st = .opened) && d.ssrc != ssrc then
    let s := s.sendDecBye c stAdminClose
    let s := s.modCtx c fun x => { x with dec := { x.dec with
      ssrc := ssrc, peerAddr := if s.peerAddrReg c == 0 then src else x.dec.peerAddr } }
    s.sendHello c true 1
  else s

/-! ### Matching -/

/-- The open session of the device's encoding end that an id and a source name (R816): its context. -/
def State.findEnc (s : State) (id src : Nat) : Option (Nat × EncSession) :=
  s.ctxs.findSome? fun p => (p.2.encs.find? fun e => e.id == id && e.src == src).map fun e => (p.1, e)

/-- The decoding-end session that an id and a source name. -/
def State.findDec (s : State) (id src : Nat) : Option (Nat × DecSession) :=
  s.ctxs.findSome? fun p =>
    let d := p.2.dec
    if !decide (d.st = .idle) && !decide (d.st = .waitStream) && d.id == id && d.peerAddr == src then some (p.1, d)
    else none

/-- A message discarded: in the context that holds its session, or in the PKT page (R818). -/
def State.dropMsg (s : State) (c : Option Nat) : State :=
  match c with
  | some c => s.bump (Reg.SESS_MSG_DROP c) 1
  | none => s.bump Reg.PKT_SESS_DROPS 1

/-- A received message for the encoding end, judged under R140: the session found, or the discard counted. -/
def State.judgeEnc (s : State) (m : NetMsg) (typ : Nat) : Option (Nat × EncSession) × State :=
  if !msgFramed m.bytes then (none, s.dropMsg none)
  else match s.findEnc (msgId m.bytes) m.src.toNat with
    | none => (none, s.dropMsg none)
    | some (c, e) =>
      if msgSound m.bytes typ && (msgVer m.bytes == e.version || (typ == 10 && msgVer m.bytes == 1)) &&
          later32 (msgSeq m.bytes) e.lastSeq then
        let s := s.heard m
        let s := s.modEnc c e.id e.src fun e => { e with lastSeq := msgSeq m.bytes, srcPort := m.srcPort.toNat,
                                                         port := m.port.val }
        (some (c, e), s.bump (Reg.SESS_MSG_RX c) 1)
      else (none, s.dropMsg (some c))

/-- A received message for the decoding end, judged under R140; the SEQ check applies once an answer to the latest
HELLO has been accepted (R141). -/
def State.judgeDec (s : State) (m : NetMsg) (typ : Nat) : Option (Nat × DecSession) × State :=
  if !msgFramed m.bytes then (none, s.dropMsg none)
  else match s.findDec (msgId m.bytes) m.src.toNat with
    | none => (none, s.dropMsg none)
    | some (c, d) =>
      let verOk := typ == 2 || typ == 3 || msgVer m.bytes == d.version || (typ == 10 && msgVer m.bytes == 1)
      let seqOk := match d.lastSeq with
        | none => true
        | some l => later32 (msgSeq m.bytes) l
      if msgSound m.bytes typ && verOk && seqOk then (some (c, d), s.heard m)
      else (none, s.dropMsg (some c))

/-- The decoding end accepts a message; its SEQ is kept from the first answer to the latest HELLO on (R141). -/
def State.acceptDec (s : State) (c : Nat) (m : NetMsg) (answer : Bool) : State :=
  (s.modCtx c fun x => { x with dec := { x.dec with
    lastSeq := if answer || x.dec.lastSeq.isSome then some (msgSeq m.bytes) else none } }).bump (Reg.SESS_MSG_RX c) 1

/-! ### Opening a session at the encoding end -/

/-- The terms of a HELLO (R142, R809). -/
structure HelloTerms where
  verMin : Nat
  verMax : Nat
  stream : Nat
  dlPic : Nat
  netAllow : Nat
  kaMs : Nat
  dlExact : Nat
  dlLossy : Nat
  maxCells : Nat
  long : Bool
  deriving DecidableEq, Repr

def readHello (b : List Byte) : HelloTerms :=
  let long := Nat.ble 48 b.length
  let pic := beAt b 28 2
  { verMin := beAt b 20 2, verMax := if long then beAt b 22 2 else min 1 (beAt b 22 2), stream := beAt b 24 4,
    dlPic := pic, netAllow := beAt b 30 2, kaMs := beAt b 32 2,
    dlExact := if long then beAt b 36 2 else pic, dlLossy := if long then beAt b 38 2 else pic,
    maxCells := beAt b 40 2, long := long }

def badDeadline (d : Nat) : Bool := d == 0 || Nat.blt 60000 d

/-- R145 row 2: the byte offset of the first field out of range. -/
def helloBad (h : HelloTerms) : Option Nat :=
  if badDeadline h.dlPic then some 28
  else if Nat.blt h.kaMs 10 || Nat.blt 10000 h.kaMs then some 32
  else if badDeadline h.dlExact then some 36
  else if badDeadline h.dlLossy then some 38
  else none

/-- The decision of R145 on a HELLO for a context: a refusal's status and DETAIL, or the version opened. -/
def State.decideHello (s : State) (c : Nat) (h : HelloTerms) : (Nat × Nat) ⊕ Nat :=
  let x := s.ctx c
  match helloBad h with
  | some o => .inl (stBadTerms, o)
  | none =>
    let lo := max h.verMin (s.verMin c)
    let hi := min h.verMax (s.verMax c)
    let common := [2, 1].filter fun v => Nat.ble lo v && Nat.ble v hi
    match common with
    | [] => .inl (stNoCommonVersion, s.verMin c * 65536 + s.verMax c)
    | v :: _ =>
      if common == [1] && Nat.ble 2 (s.v1Policy c) then .inl (stNoCommonVersion, s.verMin c * 65536 + s.verMax c)
      else if v == 2 && Nat.blt h.maxCells x.cellCount then .inl (stTooManyCells, x.cellCount)
      else
        let d : Nat := if v == 2 then min h.dlExact h.dlLossy else h.dlPic
        let lim : Int := (d : Int) - (max h.netAllow (s.fld (Reg.FRESH_NET_ALLOW c) 15 0) : Nat)
        if ((s.fld (Reg.FRESH_RENEWAL c) 15 0 : Nat) : Int) > lim then .inl (stRenewalTooLong, lim.toNat)
        else if Nat.ble 32 x.encs.length then .inl (stTableFull, 0)
        else .inr v

/-- The body of a HELLO_ACK (R142). -/
def State.helloAckBody (s : State) (c v stream : Nat) : List Byte :=
  let x := s.ctx c
  beBytes 2 v ++ beBytes 2 (s.fld (Reg.FRESH_RENEWAL c) 15 0) ++ beBytes 4 stream ++ [BitVec.ofNat 8 (b2n s.locked)] ++
    beBytes 3 0 ++ beBytes 2 x.codedW ++ beBytes 2 x.codedH ++
    [BitVec.ofNat 8 x.cols, BitVec.ofNat 8 x.rows, BitVec.ofNat 8 (s.fld (Reg.CTX_MODE c) 6 5), 0]

/-- REFUSE to a HELLO, sent from no session: SEQ 1 (R141). -/
def State.sendRefuse (_ : State) (m : NetMsg) (status detail : Nat) : List Byte :=
  sessMsg 1 3 (msgId m.bytes) 1 (msgSeq m.bytes) (beBytes 2 status ++ beBytes 2 0 ++ beBytes 4 detail)

/-- The encode context in Protocol mode whose SSRC is the stream's (R145 row 1). -/
def State.ctxOfStream (s : State) (stream : Nat) : Option Nat :=
  (s.ctxs.map (·.1)).find? fun c => s.isEncode c && s.sessRuns c && s.regN (Reg.ENC_SSRC c) == stream

/-- A received HELLO decided and answered (R145, R146). One with SESSION_ID 0, which R137 does not allow, is discarded and
counted though R140 does not name that ground. DESIGN CHOICE (log 73). -/
def State.helloAt (s : State) (m : NetMsg) : State :=
  s.ifLive (0x030 + m.port.val) fun s =>
    if !msgFramed m.bytes || !msgSound m.bytes 1 || msgId m.bytes == 0 then s.dropMsg none
    else
      let s := s.heard m
      let h := readHello m.bytes
      -- R146: an open session of the same id and source is replaced
      let old := s.findEnc (msgId m.bytes) m.src.toNat
      let s := match old with
        | some (c, e) => s.dropEnc c e.id e.src
        | none => s
      let closed (s : State) : State := match old with
        | some (c, e) => s.linkSession c 2 e
        | none => s
      match s.ctxOfStream h.stream with
      | none => (closed s).putUdp true m.port.val m.src.toNat m.srcPort.toNat m.mac.toNat (s.sendRefuse m stUnknownStream 0)
      | some c =>
        let s := s.bump (Reg.SESS_MSG_RX c) 1
        match s.decideHello c h with
        | .inl (st, det) =>
          ((closed s).sendUdp c m.port.val m.src.toNat m.srcPort.toNat (s.sendRefuse m st det)).lastRefusal c st true
        | .inr v =>
          let e : EncSession :=
            { id := msgId m.bytes, src := m.src.toNat, srcPort := m.srcPort.toNat, port := m.port.val, version := v,
              dlExact := if v == 2 then h.dlExact else h.dlPic, dlLossy := if v == 2 then h.dlLossy else h.dlPic,
              netAllow := h.netAllow, kaMs := h.kaMs, lastSeq := msgSeq m.bytes, seq := 1, stale := 0, unsourced := 0,
              updWait := [] }
          let s := (s.modCtx c fun x => { x with encs := x.encs ++ [e] }).linkSession c 1 e
          (s.sendEnc c 1 2 (msgSeq m.bytes) e (s.helloAckBody c v h.stream)).sessStatus c

/-- HELLO_RX (R145 to R147): the HELLOs that have arrived and are not yet decided, in the order of their arrival tokens,
so that of two that compete for the last slot the earlier takes it. -/
def execHelloRx (ms : List NetMsg) (s : State) : Host.Outcome State Fault Refusal :=
  .next <| s.forEach (sortBy (·.arrival) ms) fun m s => s.helloAt m

/-! ### Messages at the decoding end -/

/-- HELLO_ACK_RX (R151): the session opens under the version and terms of the answer. SESS_PEER_DEADLINES of a decode context
takes the context's own deadlines, which are the session's, and keeps them through an UPDATE of R158: R163 does not say what
it shows there. DESIGN CHOICE (log 73). -/
def execHelloAckRx (m : NetMsg) (s : State) : Host.Outcome State Fault Refusal :=
  .next <| s.ifLive (0x030 + m.port.val) fun s =>
    match s.judgeDec m 2 with
      | (none, s) => s
      | (some (c, d), s) =>
        if decide (d.st = .helloSent) && msgAck m.bytes == d.helloSeq then
          let v := beAt m.bytes 20 2
          let geo := Nat.ble 44 m.bytes.length
          let s := s.acceptDec c m true
          let s := s.modCtx c fun x => { x with dec := { x.dec with
            st := .opened, version := v, misses := 0, rejCrc := 0, pending := RefreshSet.empty, refreshWait := [],
            updWait := [], kaSent := [], cells := if geo then beAt m.bytes 36 1 * beAt m.bytes 37 1 else 0 } }
          let s := s.setRegN (Reg.SESS_PEER_TERMS c) (beAt m.bytes 22 2 +
            (if geo then 65536 * beAt m.bytes 36 1 + 2 ^ 24 * beAt m.bytes 37 1 else 0))
          let s := s.setRegN (Reg.SESS_PEER_DEADLINES c) (s.fld (Reg.FRESH_DEADLINE_EXACT c) 15 0 +
            65536 * s.fld (Reg.FRESH_DEADLINE_LOSSY c) 15 0)
          let s := (s.sendKeepalive c).sessStatus c
          let x := s.ctx c
          let uns := x.cellCount == 0 || (List.range x.cellCount).any fun i => (x.cell i).unsourced
          s.doIf uns fun s => s.wantRefresh c { all := true, cells := [] }
        else s

/-- REFUSE_RX (R151). -/
def execRefuseRx (m : NetMsg) (s : State) : Host.Outcome State Fault Refusal :=
  .next <| s.ifLive (0x030 + m.port.val) fun s =>
    match s.judgeDec m 3 with
      | (none, s) => s
      | (some (c, d), s) =>
        if decide (d.st = .helloSent) && msgAck m.bytes == d.helloSeq then
          let st := beAt m.bytes 20 2
          (((s.acceptDec c m true).raise c FaultKind.SESSION_REFUSED st).lastRefusal c st false).setSess c .refused
        else s

/-- KEEPALIVE_ACK_RX (R151, R153): the miss count cleared, the peer's offset measured against the KEEPALIVE it answers. The
midpoint is rounded down to 1 ns, the offset down to 1 µs, and one outside the register stops at its end: R153 says nothing of
these. DESIGN CHOICE (log 73). -/
def execKeepaliveAckRx (m : NetMsg) (s : State) : Host.Outcome State Fault Refusal :=
  .next <| s.ifLive (0x030 + m.port.val) fun s =>
    match s.judgeDec m 5 with
      | (none, s) => s
      | (some (c, d), s) =>
        if decide (d.st = .opened) then
          let s := s.acceptDec c m false
          let s := s.modCtx c fun x => { x with dec := { x.dec with
            misses := 0, kaSent := x.dec.kaSent.filter fun q => q.1 != msgAck m.bytes } }
          match d.kaSent.find? fun q => q.1 == msgAck m.bytes with
          | some q =>
            let mid : Int := ((q.2 + m.arrival) / 2 : Nat)
            s.setReg (Reg.SESS_PEER_OFFSET c) (satS32 ((((beAt m.bytes 20 8 : Nat) : Int) - mid) / 1000))
          | none => s
        else s

/-- REFRESH_ACK_RX (R156): the request that it answers, in any of its transmissions, is no longer resent. -/
def execRefreshAckRx (m : NetMsg) (s : State) : Host.Outcome State Fault Refusal :=
  .next <| s.ifLive (0x030 + m.port.val) fun s =>
    match s.judgeDec m 7 with
      | (none, s) => s
      | (some (c, _), s) =>
        (s.acceptDec c m false).modCtx c fun x => { x with dec := { x.dec with
          refreshWait := x.dec.refreshWait.filter fun w => !w.wait.hit (msgAck m.bytes) } }

/-! ### Messages at the encoding end -/

/-- KEEPALIVE_RX: the session lives on; its figures are kept; KEEPALIVE_ACK (R142, R148). -/
def execKeepaliveRx (m : NetMsg) (s : State) : Host.Outcome State Fault Refusal :=
  .next <| s.ifLive (0x030 + m.port.val) fun s =>
    match s.judgeEnc m 4 with
      | (none, s) => s
      | (some (c, e), s) =>
        let s := s.modEnc c e.id e.src fun e => if e.version == 2 then
          { e with stale := beAt m.bytes 28 2, unsourced := beAt m.bytes 30 2 } else e
        let s := s.sendEncNext c e.id e.src 5 (msgSeq m.bytes)
          (beBytes 8 s.now ++ [BitVec.ofNat 8 (b2n s.locked)] ++ beBytes 3 0)
        s.sessStatus c

/-- The cells a REFRESH_REQ bitmap names. -/
def bitmapCells (b : List Byte) (total : Nat) : List Nat :=
  (List.range (min total 576)).filter fun i => nbit (beAt b (24 + i / 8) 1) (7 - i % 8)

/-- The RTP timestamp of R211 for a capture time. -/
def State.rtpTs (s : State) (c t : Nat) : Nat :=
  (t * 90000 / 1000000000 + s.regN (Reg.ENC_RTP_TS_OFFSET c)) % 2 ^ 32

/-- REFRESH_REQ_RX (R157): merged into the pending set; the REFRESH_ACK goes out when the next picture starts, whose
RTP timestamp it gives. -/
def execRefreshReqRx (m : NetMsg) (s : State) : Host.Outcome State Fault Refusal :=
  .next <| s.ifLive (0x030 + m.port.val) fun s =>
    match s.judgeEnc m 6 with
      | (none, s) => s
      | (some (c, e), s) =>
        let x := s.ctx c
        let all := nbit (beAt m.bytes 20 1) 0
        let cells := if beAt m.bytes 22 2 == x.cellCount then bitmapCells m.bytes x.cellCount else []
        let s := s.modCtx c fun x => { x with encPending := x.encPending.join { all := all, cells := cells },
                                              refreshAcks := x.refreshAcks ++ [(e.id, e.src, msgSeq m.bytes, m.port.val)] }
        s.bump (Reg.SESS_REFRESH c) 1

/-- UPDATE at the encoding end (R159): rows 2 and 5 of R145 on the new terms. -/
def State.updateAtEnc (s : State) (c : Nat) (e : EncSession) (m : NetMsg) : State :=
  let de := beAt m.bytes 20 2
  let dl := beAt m.bytes 22 2
  let na := beAt m.bytes 24 2
  let lim : Int := (min de dl : Nat) - (max na (s.fld (Reg.FRESH_NET_ALLOW c) 15 0) : Nat)
  let (st, det) : Nat × Nat :=
    if badDeadline de then (stBadTerms, 20) else if badDeadline dl then (stBadTerms, 22)
    else if ((s.fld (Reg.FRESH_RENEWAL c) 15 0 : Nat) : Int) > lim then (stRenewalTooLong, lim.toNat) else (0, 0)
  let s := s.doIf (st == 0) fun s =>
    (s.modEnc c e.id e.src fun e => { e with dlExact := de, dlLossy := dl, netAllow := na }).linkSession c 3
      { e with dlExact := de, dlLossy := dl, netAllow := na }
  let s := s.doIf (st != 0) fun s => s.lastRefusal c st true
  (s.sendEncNext c e.id e.src 9 (msgSeq m.bytes) (beBytes 2 st ++ beBytes 2 0 ++ beBytes 4 det)).sessStatus c

/-- UPDATE at the decoding end (R151): in OPEN the terms are stored and UPDATE_ACK OK is sent. -/
def State.updateAtDec (s : State) (c : Nat) (m : NetMsg) : State :=
  let s := s.acceptDec c m false
  let s := s.setRegN (Reg.SESS_PEER_TERMS c) (beAt m.bytes 26 2 + 65536 * beAt m.bytes 32 1 + 2 ^ 24 * beAt m.bytes 33 1)
  s.sendDec c 2 9 (msgSeq m.bytes) (beBytes 2 0 ++ beBytes 2 0 ++ beBytes 4 0)

/-- UPDATE_RX (R151, R159), matched first at the encoding end, then at the decoding end (R816). -/
def execUpdateRx (m : NetMsg) (s : State) : Host.Outcome State Fault Refusal :=
  .next <| s.ifLive (0x030 + m.port.val) fun s =>
    if msgFramed m.bytes && (s.findEnc (msgId m.bytes) m.src.toNat).isSome then
        match s.judgeEnc m 8 with
        | (none, s) => s
        | (some (c, e), s) => s.updateAtEnc c e m
      else match s.judgeDec m 8 with
        | (none, s) => s
        | (some (c, d), s) => s.doIf (decide (d.st = .opened)) fun s => s.updateAtDec c m

/-- UPDATE_ACK_RX (R159, R161). -/
def execUpdateAckRx (m : NetMsg) (s : State) : Host.Outcome State Fault Refusal :=
  .next <| s.ifLive (0x030 + m.port.val) fun s =>
    let st := beAt m.bytes 20 2
    if msgFramed m.bytes && (s.findEnc (msgId m.bytes) m.src.toNat).isSome then
        match s.judgeEnc m 9 with
        | (none, s) => s
        | (some (c, e), s) =>
          let hit := e.updWait.any fun a => a.hit (msgAck m.bytes)
          let s := s.modEnc c e.id e.src fun e => { e with updWait := awaitsAfter e.updWait (msgAck m.bytes) }
          s.doIf (hit && st != 0) fun s => s.lastRefusal c st false
      else match s.judgeDec m 9 with
        | (none, s) => s
        | (some (c, d), s) =>
          let hit := d.updWait.any fun a => a.hit (msgAck m.bytes)
          let s := s.acceptDec c m false
          let s := s.modCtx c fun x => { x with dec := { x.dec with updWait := awaitsAfter x.dec.updWait (msgAck m.bytes) } }
          s.doIf (hit && st != 0) fun s => s.lastRefusal c st false

/-- BYE_RX (R148, R151): in OPEN the session is refused, and no version is negotiated any more (R138). -/
def execByeRx (m : NetMsg) (s : State) : Host.Outcome State Fault Refusal :=
  .next <| s.ifLive (0x030 + m.port.val) fun s =>
    if msgFramed m.bytes && (s.findEnc (msgId m.bytes) m.src.toNat).isSome then
        match s.judgeEnc m 10 with
        | (none, s) => s
        | (some (c, e), s) => s.closeEnc c e.id e.src
      else match s.judgeDec m 10 with
        | (none, s) => s
        | (some (c, d), s) =>
          let s := s.acceptDec c m false
          s.doIf (decide (d.st = .opened)) fun s =>
            ((s.lastRefusal c (beAt m.bytes 20 2) false).modCtx c fun x => { x with dec := { x.dec with version := 0 } }).setSess c .refused

/-! ### Timers -/

/-- HELLO_RETRY_TIMEOUT (R151): 100 ms without an answer in HELLO_SENT. -/
def execHelloRetryTimeout (c : Nat) (s : State) : Host.Outcome State Fault Refusal :=
  let d := (s.ctx c).dec
  .next <| if !(s.sessRuns c && decide (d.st = .helloSent)) then s
    else if d.attempts < 5 then s.sendHello c false (d.attempts + 1)
    else (s.bump (Reg.SESS_LOSSES c) 1).setSess c .backoff

/-- BACKOFF_EXPIRY (R151): 1 s in BACKOFF. -/
def execBackoffExpiry (c : Nat) (s : State) : Host.Outcome State Fault Refusal :=
  .next <| s.doIf (s.sessRuns c && decide ((s.ctx c).dec.st = .backoff)) fun s => s.sendHello c false 1

/-- REFUSED_EXPIRY (R151): 10 s in REFUSED. -/
def execRefusedExpiry (c : Nat) (s : State) : Host.Outcome State Fault Refusal :=
  .next <| s.doIf (s.sessRuns c && decide ((s.ctx c).dec.st = .refused)) fun s => s.sendHello c false 1

/-- KEEPALIVE_TIMER (R151): KA_MS since the last KEEPALIVE: another, or the session is lost after KA_MISS. -/
def execKeepaliveTimer (c : Nat) (s : State) : Host.Outcome State Fault Refusal :=
  let d := (s.ctx c).dec
  .next <| if !(s.sessRuns c && decide (d.st = .opened)) then s
    else if Nat.ble (s.fld (Reg.SESS_TIMING c) 19 16) d.misses then s.sessionLost c
    else s.sendKeepalive c

/-- ENC_SESSION_TIMEOUT (R148): no KEEPALIVE accepted for 4 × KA_MS of the session. -/
def execEncSessionTimeout (c id src : Nat) (s : State) : Host.Outcome State Fault Refusal := .next (s.closeEnc c id src)

/-- REFRESH_HOLDOFF_EXPIRY (R155): the cells that waited are asked for. -/
def execRefreshHoldoffExpiry (c : Nat) (s : State) : Host.Outcome State Fault Refusal :=
  .next ((s.modCtx c fun x => { x with dec := { x.dec with holdoff := false } }).flushRefresh c)

/-- REFRESH_REQ_RESEND (R156): 50 ms without REFRESH_ACK for the request sent least recently; up to 3 times, joined by the
cells added since. -/
def execRefreshReqResend (c : Nat) (s : State) : Host.Outcome State Fault Refusal :=
  let d := (s.ctx c).dec
  .next <| match d.refreshWait with
    | [] => s
    | w :: r =>
      if !(s.sessRuns c && decide (d.st = .opened)) then s
      else
        let s := s.modCtx c fun x => { x with dec := { x.dec with refreshWait := r } }
        s.doIf (Nat.blt w.wait.resends 3) fun s => s.sendRefreshReq c (w.cells.join d.pending) (some w.wait)

/-- UPDATE_RESEND (R161): 100 ms without UPDATE_ACK for the UPDATE sent least recently; up to 5 times, then the session is
lost or closed. -/
def execUpdateResend (c id src : Nat) (s : State) : Host.Outcome State Fault Refusal :=
  .next <| if s.isEncode c then
      match (s.ctx c).encs.find? fun e => e.id == id && e.src == src with
      | some e => match e.updWait with
        | a :: r =>
          if Nat.blt a.resends 5 then (s.modEnc c id src fun e => { e with updWait := r }).sendEncUpdate c id src (some a)
          else s.closeEnc c id src
        | [] => s
      | none => s
    else
      let d := (s.ctx c).dec
      match d.updWait with
      | a :: r =>
        if !(s.sessRuns c && decide (d.st = .opened)) then s
        else if Nat.blt a.resends 5 then
          (s.modCtx c fun x => { x with dec := { x.dec with updWait := r } }).sendDecUpdate c (some a)
        else s.sessionLost c
      | [] => s

/-- SESSION_MSG_RESOLVED (R812): the address is resolved; the messages that waited for it leave, each with the time of its
transmission (R142, R153). -/
def execSessionMsgResolved (port addr mac : Nat) (s : State) : Host.Outcome State Fault Refusal :=
  .next <| s.ifLive (0x030 + port) fun s =>
    let s := s.learnMac port addr mac
    let go := s.sessWait.filter fun w => w.port == port && w.addr == addr
    let s := { s with sessWait := s.sessWait.filter fun w => !(w.port == port && w.addr == addr) }
    s.forEach go fun w s => (s.leaveUdp w.ctx w.port w.addr w.dport mac (stampMsg s.now w.bytes)).noteSent w.ctx w.bytes

/-- ARP_WAIT_EXPIRY (R812): no answer within 100 ms; the oldest message that waits for the address is not sent. -/
def execArpWaitExpiry (port addr : Nat) (s : State) : Host.Outcome State Fault Refusal :=
  .next { s with sessWait := s.sessWait.eraseP fun w => w.port == port && w.addr == addr }

/-! ### Session control -/

/-- What SESS_CTRL holds after a write (R164, R165): all fields, or only ENABLE changes while ENABLE is 1. -/
def sessCtrlTakes (old v : Word) : Word := if bit old 0 then putBit old 0 (bit v 0) else v &&& 0x00FFFF3F

/-- SESS_CTRL_WRITE: the register, and the machine follows (R815). -/
def State.writeSessCtrl (s : State) (c : Nat) (v : Word) : State :=
  (s.setReg (Reg.SESS_CTRL c) (sessCtrlTakes (s.reg (Reg.SESS_CTRL c)) v)).sessSync c

/-- A field of SESS_SDP from an SDP text, which ENABLE shuts like the register's own writes (R165); the version in use follows
(R101, R162). -/
def State.sdpField (s : State) (c hi lo v : Nat) : State :=
  s.doIf (!s.rbit (Reg.SESS_CTRL c) 0) fun s => (s.setFld (Reg.SESS_SDP c) hi lo v).sessStatus c

def execSessCtrlWrite (c : Nat) (v : Word) (s : State) : Host.Outcome State Fault Refusal :=
  .next <| s.ifWritten (ctxPage c) (Reg.SESS_CTRL c) (sessCtrlTakes (s.reg (Reg.SESS_CTRL c)) v) fun s => s.writeSessCtrl c v

/-- R166: the fields of SESS_TIMING lie in their ranges. -/
def sessTimingOk (v : Word) : Bool := Nat.ble 10 (bits v 15 0) && Nat.ble (bits v 15 0) 10000 && Nat.ble 2 (bits v 19 16)

/-- SESS_TIMING_WRITE (R166): a field outside its range makes the write ineffective. -/
def State.writeSessTiming (s : State) (c : Nat) (v : Word) : State :=
  if sessTimingOk v then s.setReg (Reg.SESS_TIMING c) (v &&& 0xFF0FFFFF) else s

def execSessTimingWrite (c : Nat) (v : Word) (s : State) : Host.Outcome State Fault Refusal :=
  .next <| s.doIf (sessTimingOk v) fun s => s.ifWritten (ctxPage c) (Reg.SESS_TIMING c) v fun s => s.writeSessTiming c v

end Sys2Proof.Machine
end

