-- ==== Sys2Proof/Machine/Encode.lean ====
section
/-! DEFINITION. An encode context (R168 to R217, with R43 to R50, R55 to R59, R106 to R126, R149, R157, R228 to R259):
taking a source, classification, the refresh plan, the start of a picture, sending its rows, the echo check of a
slice, and the end of a picture with its sheet and filler. -/

namespace Sys2Proof.Machine

/-! ### The source -/

/-- A source picture taken: where it is stored, the capture times of its luma row 0 and of the top luma line of each CTU row,
its line period in ps (0 where it has none), the cells whose source is not proven (R43, R57), the buffer of a host picture, the
number of a captured or decoded picture. -/
structure EncSource where
  pic : PicRef
  time : Option Nat
  rowTimes : List (Option Nat)
  linePs : Nat
  badCells : List Nat
  buf : Option Nat
  num : Option Nat
  deriving DecidableEq, Repr

/-- ENC_SOURCE.SEL. -/
def State.encSel (s : State) (c : Nat) : Nat := s.fld (Reg.ENC_SOURCE c) 2 0

/-- The ring size of a host source queue. -/
def State.srcqSize (s : State) (c : Nat) : Nat := s.fld (Reg.ENC_SRCQ_SIZE c) 8 0

/-- Source descriptor i of a context's ring (R185). -/
def State.srcDesc (s : State) (c i : Nat) : List Byte :=
  s.memBytes (s.fld (Reg.ENC_SRCQ_BASE_LO c) 31 5 * 32 + s.fld (Reg.ENC_SRCQ_BASE_HI c) 7 0 * 2 ^ 32 + 32 * i) 32

/-- R187. -/
def State.descValid (s : State) (c : Nat) (d : List Byte) : Bool :=
  nbit (leAt d 4 1) 0 && leAt d 16 2 == s.fld (Reg.ENC_SIZE c) 15 0 && leAt d 18 2 == s.fld (Reg.ENC_SIZE c) 31 16 &&
    Nat.ble (leAt d 5 1) 3 && Nat.ble (leAt d 8 8) s.now &&
    (match (s.ctx c).lastSrcSeq with
     | none => true
     | some q => later32 (leAt d 20 4) q)

/-- R186: every descriptor from HEAD to TAIL consumed; the last valid one kept. -/
def State.takeDescs (s : State) (c : Nat) : State × Option (List Byte) :=
  let size := max 1 (s.srcqSize c)
  let head := s.fld (Reg.ENC_SRCQ_HEAD c) 7 0 % size
  let tail := s.fld (Reg.ENC_SRCQ_TAIL c) 7 0 % size
  let n := (tail + size - head) % size
  let r := (List.range n).foldl (fun (a : State × Option (List Byte)) j =>
    let d := a.1.srcDesc c ((head + j) % size)
    if a.1.descValid c d then
      let s := a.1.modCtx c fun x => { x with lastSrcSeq := some (leAt d 20 4) }
      match a.2 with
      | none => (s, some d)
      | some o => ((s.bump (Reg.ENC_SRC_DROPPED c) 1).poolDrop (leAt o 0 4), some d)
    else ((a.1.bump (Reg.ENC_SRC_REJ c) 1).poolDrop (leAt d 0 4), a.2)) (s, none)
  (r.1.setRegN (Reg.ENC_SRCQ_HEAD c) tail, r.2)

/-- The lesser of two optional times, none counting as later than all. -/
def earlier (a b : Option Nat) : Option Nat :=
  match a, b with
  | some x, some y => some (min x y)
  | some x, none => some x
  | none, b => b

/-- The cells of a decoded picture that feed a rectangle of a source made of it, by its luma positions in the conformance
window (R43, R57): those that hold a sample of it. -/
def PicRef.feeding (p : PicRef) (x0 x1 y0 y1 : Nat) : List Nat :=
  let n := cellsAcross p.fmt.w
  let a := p.winX + min x0 (p.winW - 1)
  let b := p.winX + min (x1 - 1) (p.winW - 1)
  let c := p.winY + min y0 (p.winH - 1)
  let d := p.winY + min (y1 - 1) (p.winH - 1)
  (rangeFrom (c / 256) (d / 256 + 1 - c / 256)).flatMap fun j => (rangeFrom (a / 256) (b / 256 + 1 - a / 256)).map fun i => j * n + i

/-- The capture time of a line of a decoded picture: the earliest accepted capture time among the cells that feed it; no time
when one of them has none, since the relay never renews freshness (R43; that a cell without a time leaves none is a DESIGN
CHOICE, assumption 65). -/
def Ctx.rowTime (x : Ctx) (p : PicRef) (w y : Nat) : Option Nat :=
  let cs := (p.feeding 0 w y (y + 1)).map fun i => x.cell i
  if cs.any (fun q => !q.hasTime) then none else (cs.map fun q => some q.time).foldl earlier none

/-- What a context does when it takes picture `n` of a source (a port, 8 and more for a context): the pictures of that source passed
over since the one it took before count as not coded (R182, R442); those of another source do not. -/
def State.takeNum (s : State) (c tag n : Nat) : State :=
  let passed := match (s.ctx c).lastCap with
    | some m => if m.1 == tag then n - m.2 - 1 else 0
    | none => 0
  (s.bump (Reg.ENC_SRC_DROPPED c) passed).modCtx c fun x => { x with lastCap := some (tag, n) }

/-- The newest complete frame in the buffers of a port, by its place in the ring. -/
def DpIn.newest (x : DpIn) : Option (Nat × CapFrame) :=
  (minBy? (fun q : Nat × CapFrame => x.count - q.2.num) (x.frames.filter fun q => q.2.complete)).bind fun q => some q

/-- The matrix_coefficients and the range of a port's pictures (R441): by CSC for RGB input, else those received. -/
def State.portColour (s : State) (n : Nat) : Nat × Bool :=
  let csc := s.fld (Reg.DP_IN_CTRL n) 5 4
  if Nat.ble (s.fld (Reg.DP_IN_STATUS n) 7 4) 2 then ((if csc == 1 then 9 else if csc == 2 then 0 else 1), true) else (s.dpIn n).colour

/-- The format of a port's captured frames (R440). -/
def State.capFmt (s : State) (n : Nat) : PicFmt :=
  { w := s.fld (Reg.DP_IN_ACTIVE n) 15 0, h := s.fld (Reg.DP_IN_ACTIVE n) 31 16, chroma := 3, depth := 10 }

/-- A captured frame as a source (R43, R57, R182, R439, R442): the newest complete one that the context has not taken; frames
passed over count as not coded because a later one was ready. -/
def State.takeCapture (s : State) (c n : Nat) : State × Option EncSource :=
  let x := s.ctx c
  match (s.dpIn n).newest with
  | none => (s, none)
  | some (i, f) =>
    match (s.dpIn n).ring[i]? with
    | none => (s, none)
    | some h =>
      if x.lastCap == some (n, f.num) then (s, none)
      else
        let at_ (y : Nat) : Option Nat := Sparse.get (fun _ => none) f.times y
        let pic := bufPic (s.bufAddr (h % 2 ^ 24)) (s.capFmt n) f.num
        (s.takeNum c n f.num, some
          { pic := { pic with matrix := (s.portColour n).1, full := (s.portColour n).2 }, time := at_ 0,
            rowTimes := (List.range x.ctuRows).map fun r => at_ (64 * r),
            linePs := s.regN (Reg.DP_IN_LINE_PERIOD n), buf := none, num := some f.num,
            badCells := (List.range x.cellCount).filter fun i => f.lost.any fun y => y / 256 == i / x.cols })

/-- The format of a host picture (R185). -/
def hostFmt (w h fmt : Nat) : PicFmt := { w := w, h := h, chroma := if fmt % 2 == 1 then 1 else 3, depth := if Nat.ble 2 fmt then 8 else 10 }

/-- A source descriptor as a source (R43, R57, R185).  Its buffer holds the picture in the layout of R628, compressed as R629 says,
and whoever fills it writes it so (DESIGN CHOICE, assumption 65: R31 sends every source through the compressor and the DMA moves
plain bytes; no rule says what codes a picture that the host brings). -/
def State.hostSource (s : State) (c : Nat) (d : List Byte) : EncSource :=
  let x := s.ctx c
  { pic := bufPic (s.bufAddr (leAt d 0 4 % 2 ^ 24)) (hostFmt (leAt d 16 2) (leAt d 18 2) (leAt d 5 1)) 0,
    time := some (leAt d 8 8), linePs := 0, buf := some (leAt d 0 4), num := none,
    rowTimes := (List.range x.ctuRows).map fun _ => some (leAt d 8 8),
    badCells := if nbit (leAt d 4 1) 1 then List.range x.cellCount else [] }

/-- The decoded picture of another context as a source (R43, R57): a cell is not proven when a cell that feeds it is Unsourced,
holds concealed content, or is stale now.  It has no line period (DESIGN CHOICE, assumption 65). -/
def State.takeRelay (s : State) (c d : Nat) : State × Option EncSource :=
  let x := s.ctx c
  let y := s.ctx d
  match y.shown with
  | none => (s, none)
  | some p =>
    if x.lastCap == some (8 + d, p.num) then (s, none)
    else
      let w := s.fld (Reg.ENC_SIZE c) 15 0
      let bad (j : Nat) : Bool := (y.cell j).unsourced || p.bad.elem j || s.cellPattern d j s.now != 0
      (s.takeNum c (8 + d) p.num, some
        { pic := p, time := y.rowTime p w 0, linePs := 0, buf := none, num := some p.num,
          rowTimes := (List.range x.ctuRows).map fun r => y.rowTime p w (64 * r),
          badCells := (List.range x.cellCount).filter fun i =>
            (p.feeding (256 * (i % x.cols)) (256 * (i % x.cols) + 256) (256 * (i / x.cols)) (256 * (i / x.cols) + 256)).any bad })

/-- The source of a picture start: none when there is none (R182, R186). -/
def State.takeSource (s : State) (c : Nat) : State × Option EncSource :=
  let sel := s.encSel c
  if Nat.ble sel 3 then s.takeCapture c sel
  else if sel == 4 then
    match s.takeDescs c with
    | (s, none) => (s, none)
    | (s, some d) => (s, some (s.hostSource c d))
  else if sel == 5 then s.takeRelay c (s.fld (Reg.ENC_SOURCE c) 15 8)
  else (s, none)

/-- The source converted and padded in the picture that the context keeps of it (R31, R173, R183); it stands beside the previous
one (DESIGN CHOICE, assumption 65). -/
def State.loadSource (s : State) (c : Nat) (src : EncSource) : State × PicRef :=
  let x := s.ctx c
  let k := match x.prevPic with
    | some p => 1 - storeIndex p.base
    | none => 0
  let w := s.fld (Reg.ENC_SIZE c) 15 0
  let h := s.fld (Reg.ENC_SIZE c) 31 16
  let p : PicRef := { base := ctxStore c k, fmt := s.encFmt c, winX := 0, winY := 0, winW := w, winH := h, num := 0,
                      matrix := src.pic.matrix, full := src.pic.full, bad := [] }
  (s.putArea p 0 0 p.fmt.w p.fmt.h fun k u v => s.converted src.pic p.fmt w h k u v, p)

/-! ### Classification -/

/-- The region map entry of a CTU (R193, R194): 0 Auto, 1 Force-Exact, 2 Force-Lossy, 3 Exclude. -/
def State.mapEntry (s : State) (c col row : Nat) : Nat :=
  let base := s.fld (Reg.ENC_REGION_MAP_LO c) 31 6 * 64 + s.fld (Reg.ENC_REGION_MAP_HI c) 7 0 * 2 ^ 32
  if base == 0 then 0
  else nbits (s.mem8 (base + 16 * row + col / 4)).toNat (2 * (col % 4) + 1) (2 * (col % 4))

/-- The analyser's own test of R189. -/
def State.exactTest (s : State) (m : CtuMeas) : Bool :=
  Nat.ble 2 m.n && Nat.ble m.n (s.fld Reg.CONTENT_EXACT 6 0) && Nat.ble (s.fld Reg.CONTENT_EXACT 23 8) m.e

/-- R189 for a CTU: `need` when it must be coded intra, `prev` whether a previous source exists. -/
def State.classOf (s : State) (c map : Nat) (prev need : Bool) (m : CtuMeas) (r : CtuRec) : CtuClass :=
  let pol := s.fld (Reg.CTX_MODE c) 6 5
  let same := m.equal && prev && r.time.isSome && r.time == r.prevSrc && map == r.mapEntry && pol == r.policy && !need
  if map == 3 then .excluded
  else if same then .unchanged
  else if map == 1 || (map == 0 && pol == 1) then .exact
  else
    let a : CtuClass := if s.exactTest m then .exact
      else if Nat.ble m.n (s.fld Reg.CONTENT_GRAPHIC 6 0) || m.n == 1 then .graphic else .natural
    let a : CtuClass := if decide (a = .exact) && (map == 2 || pol == 2) then .graphic else a
    if map == 0 && pol == 0 && Nat.blt r.held (s.fld Reg.CONTENT_HOLD 7 0) && decide (a = .graphic) then .exact else a

/-- Whether a class is Exact by the analyser's own test (R189): not by the region map, the policy or the hold. -/
def State.exactByTest (s : State) (c map : Nat) (k : CtuClass) (m : CtuMeas) : Bool :=
  decide (k = .exact) && map == 0 && s.fld (Reg.CTX_MODE c) 6 5 != 1 && s.exactTest m

/-- A CTU classed: what R189 keeps of it, with the capture time of the source at it. -/
def State.classify (s : State) (c a : Nat) (prev need idr : Bool) (m : CtuMeas) (t : Option Nat) (r : CtuRec) : CtuRec :=
  let x := s.ctx c
  let map := s.mapEntry c (a % x.ctuCols) (a / x.ctuCols)
  let k := s.classOf c map prev need m r
  let un := decide (k = .unchanged)
  { r with cls := k, held := if s.exactByTest c map k m then 0 else min 255 (r.held + 1), prevSrc := t,
           mapEntry := if un then r.mapEntry else map, policy := if un then r.policy else s.fld (Reg.CTX_MODE c) 6 5,
           filled := r.filled && decide (k = .excluded) && !need && !idr, decided := false, coded := false, carried := false }

/-! ### Refresh -/

/-- What refresh asks of the picture about to start (R203 to R207, R216): which CTUs it needs intra, the
recovery_poc_cnt of a recovery point SEI message, where the wave stands after it. -/
structure RefreshPlan where
  rowFrom : Nat
  rowTo : Nat
  cells : List Nat
  recovery : Option Nat
  waveStart : Nat
  waveRow : Option Nat
  /-- the refresh wave in force, by the number of its first picture, 0 none (R205) -/
  wave : Nat

/-- The plan of a picture; an understudy takes the start of a wave from its lead (R740). -/
def State.refreshPlan (s : State) (c : Nat) (idr : Bool) (wave : Option Bool) : RefreshPlan :=
  let x := s.ctx c
  let rows := x.ctuRows
  let per := s.fld (Reg.ENC_REFRESH c) 15 0 * 1000000
  let gr := s.fld (Reg.ENC_REFRESH c) 23 16
  let g := if Nat.ble 1 gr && Nat.blt gr rows then gr else rows
  let next (r : Nat) : Option Nat := if Nat.blt (r + g) rows then some (r + g) else none
  let cells := if x.encPending.all then [] else
    ((RefreshSet.join x.encPending { all := false, cells := x.intraCells }).cells).filter fun i => Nat.blt i x.cellCount
  if idr then
    { rowFrom := 0, rowTo := if x.encPending.all then rows else 0, cells := cells,
      recovery := if x.encPending.all then some 1 else none, waveStart := s.now, waveRow := none,
      wave := if x.encPending.all then x.codedNum + 1 else 0 }
  else if x.encPending.all then
    { rowFrom := 0, rowTo := rows, cells := [], recovery := some 1, waveStart := s.now, waveRow := none, wave := x.codedNum + 1 }
  else if wave.getD (per != 0 && Nat.ble (x.waveStart + per) s.now) then
    { rowFrom := 0, rowTo := g, cells := cells, recovery := some (2 * cdiv rows g - 1), waveStart := s.now, waveRow := next 0,
      wave := x.codedNum + 1 }
  else match x.waveRow with
    | some r => { rowFrom := r, rowTo := r + g, cells := cells, recovery := none, waveStart := x.waveStart, waveRow := next r,
                  wave := x.wave }
    | none => { rowFrom := 0, rowTo := 0, cells := cells, recovery := none, waveStart := x.waveStart, waveRow := none,
                wave := x.wave }

/-- Whether the plan needs a CTU intra. -/
def RefreshPlan.needs (p : RefreshPlan) (x : Ctx) (a : Nat) : Bool :=
  (Nat.ble p.rowFrom (a / x.ctuCols) && Nat.blt (a / x.ctuCols) p.rowTo) || p.cells.elem (x.cellOfAddr a)

/-! ### Sheets of a picture -/

/-- The Yilham cue-sheet UUID (R104). -/
def sheetUuid : List Byte :=
  [0xA3, 0xD9, 0x5E, 0x17, 0x6C, 0x0B, 0x42, 0xF8, 0x9B, 0x61, 0xE4, 0xA0, 0x27, 0xCD, 0x58, 0x13]

/-- The bytes of a NAL unit's payload with its emulation-prevention bytes (R230): a 3 after two zero bytes before a byte up to
3; `z` counts the zero bytes just written. -/
def emulation : Nat → List Byte → List Byte
  | _, [] => []
  | z, b :: r =>
    if Nat.ble 2 z && Nat.ble b.toNat 3 then 3 :: b :: emulation (if b == 0 then 1 else 0) r
    else b :: emulation (if b == 0 then z + 1 else 0) r

/-- A SEI NAL unit: its 2-byte header with nuh_layer_id 0 and TemporalId 0 (the encoder has one temporal layer), its messages, the
trailing byte. -/
def seiNal (nalType : Nat) (messages : List Byte) : List Byte :=
  beBytes 1 (2 * nalType) ++ [1] ++ emulation 0 (messages ++ [0x80])

/-- The SEI message of a cue sheet (R104): payloadType 5, payloadSize, the UUID, the body. -/
def sheetMessage (body : List Byte) : List Byte :=
  let n := 16 + body.length
  [5] ++ List.replicate (n / 255) 0xFF ++ beBytes 1 (n % 255) ++ sheetUuid ++ body

/-- The SEI NAL unit of a cue sheet (R104, R106, R107), the SEI messages of a hook ahead of the sheet (R372). -/
def sheetNal (nalType : Nat) (ahead body : List Byte) : List Byte := seiNal nalType (ahead ++ sheetMessage body)

/-- A sheet put out in a SEI NAL unit: 40 suffix, 39 prefix. -/
def State.emitSheet (s : State) (c nalType : Nat) (body : List Byte) : State := s.emit (.sheet c nalType 0 0 5 sheetUuid body)

/-- A PTP timestamp of R110; none as "no time" (R111). -/
def ptpBytes (t : Option Nat) : List Byte :=
  match t with
  | some t => beBytes 6 (t / 1000000000) ++ beBytes 4 (t % 1000000000)
  | none => beBytes 6 0 ++ beBytes 4 0xFFFFFFFF

/-- R113 for the earliest capture time a sheet states; a sheet that states none has LOCKED when the time base is locked now
(DESIGN CHOICE, assumption 67). -/
def State.lockedSince (s : State) (t : Option Nat) : Bool :=
  s.locked && (match t with
    | some t => Nat.blt s.tb.lockedSince t
    | none => true)

/-- PIC_TIME of a version 1 sheet (R126, R127), before the picture is coded; the cells of a host picture that its descriptor calls
unproven are in neither case of R127.  A CTU whose represented time is no time makes the
sheet no time when it is owed, since it shows a blank (R248); before its first coding it is left out of the earliest (DESIGN
CHOICE, assumption 67). -/
def Ctx.v1Time (x : Ctx) (src : EncSource) : Option Nat :=
  if (src.buf.isNone && !src.badCells.isEmpty) || (x.ctus.any fun q => q.2.owed && q.2.time.isNone) then none
  else match src.time with
    | none => none
    | some t => (x.ctus.map fun q => q.2.time).foldl earlier (some t)

/-- A version 1 body (R124). -/
def State.v1Body (s : State) (t : Option Nat) : List Byte :=
  [1, BitVec.ofNat 8 (b2n (s.lockedSince t))] ++ ptpBytes t

/-- R149: version 1 sheets go with the picture about to start. -/
def State.v1Wanted (s : State) (c : Nat) : Bool :=
  s.v1Policy c == 1 || (s.v1Policy c == 0 && (s.ctx c).encs.any fun e => e.version == 1)

/-! ### Picture start -/

/-- Whether an entry is due for a cell at a source picture of time `t` (R48, third case).  An entry counts as issued at the
capture time of its picture (DESIGN CHOICE, assumption 67). -/
def State.entryDue (s : State) (c t i : Nat) : Bool :=
  match ((s.ctx c).cell i).issued with
  | none => true
  | some u => Nat.ble (u + s.fld (Reg.FRESH_RENEWAL c) 15 0 * 1000000) (t + s.encPeriod c)

/-- R50: cells whose last entry is older than FRESH_RENEWAL, counted once. -/
def State.countLate (s : State) (c t : Nat) : State :=
  s.forEach (List.range (s.ctx c).cellCount) fun i s =>
    let r := (s.ctx c).cell i
    match r.issued with
    | some u => s.doIf (s.contract c && !r.late && Nat.blt (u + s.fld (Reg.FRESH_RENEWAL c) 15 0 * 1000000) t) fun s =>
        (s.putCell c i { (s.ctx c).cell i with late := true }).bump (Reg.FRESH_RENEW_LATE c) 1
    | none => s

/-- The number of CTUs of a class. -/
def Ctx.countClass (x : Ctx) (k : CtuClass) : Nat :=
  ((List.range x.ctuCount).filter fun a => decide ((x.ctu a).cls = k)).length

/-- The class counters of the last picture (R225). -/
def State.showClasses (s : State) (c : Nat) : State :=
  let x := s.ctx c
  ((((s.setRegN (Reg.ENC_CTU_UNCHANGED c) (x.countClass .unchanged)).setRegN (Reg.ENC_CTU_EXACT c)
    (x.countClass .exact)).setRegN (Reg.ENC_CTU_GRAPHIC c) (x.countClass .graphic)).setRegN (Reg.ENC_CTU_NATURAL c)
    (x.countClass .natural)).setRegN (Reg.ENC_CTU_EXCLUDED c) (x.countClass .excluded)

/-- ENC_STATUS (R225). -/
def State.encStatus (s : State) (c st : Nat) : State :=
  let x := s.ctx c
  s.setRegN (Reg.ENC_STATUS c) (st + 256 * (x.tileCols % 16) + 65536 * (x.ctuRows % 64))

/-- The CTUs of a context changed one by one. -/
def Ctx.mapCtus (x : Ctx) (f : Nat → CtuRec → CtuRec) : Ctx :=
  (List.range x.ctuCount).foldl (fun x a => x.setCtu a (f a (x.ctu a))) x

/-- Where the reconstruction of a picture goes: the first of the context's places that no reference holds. -/
def Ctx.freePlace (x : Ctx) : Nat := (([2, 3, 4, 5, 6, 7].find? fun k => !x.refs.any fun r => storeIndex r.pic.base == k)).getD 7

/-- The picture of a budget and a plan, nothing of it decided. -/
def State.newPicture (s : State) (c ts : Nat) (src : EncSource) (pic : PicRef) (b : Budget) (idr null all : Bool) (overhead k : Nat)
    (rows : Nat × Nat) : EncPicture :=
  let x := s.ctx c
  { ts := ts, time := src.time, linePs := src.linePs, idr := idr, null := null, allCarried := all,
    sei := 0, badCells := src.badCells, overhead := overhead, budget := b.bc,
    reserve := b.re100, lead := s.leadEstimate c k, f := b.f, dt := b.dt, k := k, spent := 0, exactSpent := 0,
    qp := if idr || x.rate.first then (s.fld (Reg.RC_CTRL c) 29 24 : Int) else x.rate.qp,
    starved := false, decided := 0, slices := [], rowsSent := [],
    outbox := [], crew := s.pickCrew, src := pic, pic := { pic with base := ctxStore c x.freePlace, num := x.codedNum + 1 },
    handed := [], raw := [], codes := [], waveRows := rows, don := 0, pfxBytes := 0, slicesSent := 0,
    heldSlices := [], echo := [], echoJobs := [], echoCells := [] }

/-- R188: the buffer of the picture before is given back, that of this one kept. -/
def State.keepBuffer (s : State) (c : Nat) (buf : Option Nat) : State :=
  let s := match (s.ctx c).srcBuf with
    | some h => s.poolDrop h
    | none => s
  s.modCtx c fun x => { x with srcBuf := buf }

/-- The RTP timestamp of R211 for a source, a free value where the source's first row states no time (assumption 2). -/
def State.sourceTs (s : State) (c : Nat) (t : Option Nat) : Nat × State :=
  match t with
  | some t => (s.rtpTs c t, s)
  | none => let q := s.takeFree; (q.1.toNat, q.2)

/-- Every REFRESH_REQ merged so far is answered with the timestamp of the picture that starts (R157). -/
def State.ackRefresh (s : State) (c ts : Nat) : State :=
  let s := s.forEach (s.ctx c).refreshAcks fun q s => s.sendEncFrom c q.1 q.2.1 q.2.2.2 7 q.2.2.1 (beBytes 4 ts)
  s.modCtx c fun x => { x with refreshAcks := [], encPending := RefreshSet.empty, intraCells := [] }

/-! ### Sending -/

/-- sprop-max-don-diff of a stream (R211). -/
def Ctx.maxDonDiff (x : Ctx) : Nat := (x.tileCols - 1) * x.ctuRows

/-- An RTP packet leaves with its header, its sequence number the last one sent (R211). -/
def State.putRtp (s : State) (c : Nat) (p : HeldPkt) : State :=
  let h : RtpHead := { version := 2, padding := false, extension := false, csrcs := 0, marker := p.marker,
                       pt := s.fld (Reg.ENC_RTP c) 6 0, seq := p.seq, ts := p.ts, ssrc := s.regN (Reg.ENC_SSRC c) }
  let o := Output.rtp c h p.pkt.kind p.pkt.payload p.pkt.donl (s.ctx c).maxDonDiff
  ((s.emit o).egressRtp c p.seq p.pkt.payload p.pkt.hook).setRegN (Reg.ENC_RTP_LAST c) p.seq

/-- One RTP packet of the stream leaves (R211): the next sequence number, the timestamp, the marker; that of a shadow
access unit goes to the hold (R746). -/
def State.sendRtp (s : State) (c ts : Nat) (marker : Bool) (o : RtpOut) : State :=
  let q := (s.ctx c).rtpSeq
  let s := (s.modCtx c fun x => { x with rtpSeq := (q + 1) % 65536 }).notePkt c q o.payload
  let p : HeldPkt := { seq := q, ts := ts, marker := marker, pkt := o }
  if s.transmits c then s.putRtp c p else s.holdPkt c p

/-- A list of packets leaves; the last carries the marker when asked. -/
def State.sendAll (s : State) (c ts : Nat) (last : Bool) : List RtpOut → State
  | [] => s
  | [o] => s.sendRtp c ts last o
  | o :: r => (s.sendRtp c ts false o).sendAll c ts last r

/-- The bytes of a DONL field. -/
def donlBytes (don : Option Nat) : Nat := if don.isSome then 2 else 0

/-- The packets of a NAL unit of `n` bytes and decoding order number `don`, none where packets have no DONL (R211): one packet, or
fragmentation units. -/
def nalPackets (max n : Nat) (don : Option Nat) (hooks : List (Option Nat)) : List RtpOut :=
  let d := donlBytes don
  if Nat.ble (n + d) max then [{ kind := .single, payload := n + d, donl := don, hook := hooks.getD 0 none }]
  else
    let room := max - 3 - d
    let k := cdiv (n - 2) (if room == 0 then 1 else room)
    (List.range k).map fun i =>
      { kind := .fragment, payload := (if i + 1 == k then (n - 2) - room * (k - 1) else room) + 3 + d, donl := don,
        hook := hooks.getD i none }

/-! ### The start of an access unit -/

/-- What the parameter sets say (R168 to R181, R228, R441). -/
def State.paramSets (s : State) (c : Nat) (p : EncPicture) : ParamSets :=
  let x := s.ctx c
  let fmt := s.reg (Reg.ENC_FORMAT c)
  { profileIdc := [0, 1, 2, 4, 4, 9].getD (bits fmt 3 0) 0, highTier := bit fmt 4, level := bits fmt 15 8,
    chroma := p.pic.fmt.chroma, depth := p.pic.fmt.depth, codedW := x.codedW, codedH := x.codedH, width := x.winW, height := x.winH,
    maxReorder := 0, maxLatencyPlus1 := 0, numRefs := s.fld (Reg.ENC_REFS c) 2 0, tileCols := x.tileCols, tileRows := 1,
    acrossTiles := true, tools := codingTools (bits fmt 3 0 == 5) (s.codeLimits c), matrix := p.pic.matrix, fullRange := p.pic.full,
    unitsInTick := 1, timeScale := 90000, nalHrd := true, vclHrd := false, cpbCntMinus1 := 0, cbr := s.rcCbr c,
    bitRate := s.bitrate c, cpbSize := s.cpbSize c, lowDelayHrd := false, fixedRate := false,
    subPicHrd := s.rbit (Reg.RC_CTRL c) 1 && x.tileCols == 1 }

/-- The header of the slices of a picture (R175, R176): P slices, or B slices with LOWDELAY_B and at least two references, whose
lists hold the most recent coded pictures, the latest first; an IDR picture has I slices. -/
def State.sliceHead (s : State) (c : Nat) (p : EncPicture) : SliceHead :=
  let refs := if p.idr then [] else rangeFrom 1 (s.ctx c).refs.length
  let low := s.rbit (Reg.ENC_REFS c) 3 && Nat.ble 2 (s.fld (Reg.ENC_REFS c) 2 0)
  { typ := if p.idr then 2 else if low then 0 else 1, idr := p.idr, list0 := refs, list1 := if low then refs else [],
    acrossSlices := true }

/-- The bytes that a packet of NAL units of these sizes carries: one alone, or an aggregation packet (R211). -/
def aggregate (donl : Nat) (ns : List Nat) : Nat :=
  match ns with
  | [n] => n + donl
  | _ => 2 + donl + sumOf (fun n => 2 + n) ns + (if donl == 0 then 0 else ns.length - 1)

/-- NAL units cut into packets, in order, each packet as full as PAYLOAD_MAX allows. -/
def aggregates (max donl : Nat) : List (List Nat) → List Nat → List (List Nat)
  | done, [] => done
  | done, n :: r =>
    match done.getLast? with
    | some g => if Nat.ble (aggregate donl (g ++ [n])) max then aggregates max donl (done.dropLast ++ [g ++ [n]]) r
        else aggregates max donl (done ++ [[n]]) r
    | none => aggregates max donl [[n]] r

/-- The packets of the parameter sets and prefix SEI messages of an access unit (R208, R211), the first of decoding order number
`don`: those that share a packet take the DONL of the first. -/
def prefixPackets (max : Nat) (don : Option Nat) (ns : List Nat) (hooks : List (Option Nat)) : List RtpOut :=
  let r := (aggregates max (donlBytes don) [] ns).foldl (fun (q : List RtpOut × Nat) g =>
    let d := don.map fun d => (d + q.2) % 65536
    (q.1 ++ (match g with
      | [n] => nalPackets max n d []
      | _ => [{ kind := .aggregation, payload := aggregate (donlBytes don) g, donl := d, hook := none }]), q.2 + g.length)) ([], 0)
  (List.range r.1.length).filterMap fun i => r.1[i]?.map fun o => { o with hook := hooks.getD i none }

/-- Whether the access unit carries a buffering period SEI message (R228): in the last picture from which the next could come more
than 60 s after the one before.  The next comes within FRESH_RENEWAL and a picture period while the source runs (DESIGN CHOICE,
assumption 69). -/
def State.wantsBp (s : State) (c : Nat) (idr recovery : Bool) : Bool :=
  idr || recovery || (match (s.ctx c).lastBp with
    | some q => Nat.blt (q.2 + 60000000000) (s.now + s.fld (Reg.FRESH_RENEWAL c) 15 0 * 1000000 + s.encPeriod c)
    | none => true)

/-- The decoding order number that packets of the context carry (R211): none with one tile column. -/
def Ctx.donOf (x : Ctx) (n : Nat) : Option Nat := if Nat.blt 1 x.tileCols then some (n % 65536) else none

/-- The contents of parameter sets as numbers. -/
def ParamSets.numbers (p : ParamSets) : List Nat :=
  [p.profileIdc, b2n p.highTier, p.level, p.chroma, p.depth, p.codedW, p.codedH, p.width, p.height, p.numRefs, p.tileCols,
   p.tools.paletteMax, p.matrix, b2n p.fullRange, b2n p.cbr, p.bitRate, p.cpbSize, b2n p.subPicHrd]

/-- The bytes of a NAL unit that goes ahead of the slices, no more than its kind takes at most (R230, R237; assumption 69). -/
def headSize (kind : Nat) (cfg text : List Nat) : Nat := min (Config.headBytes kind text) (Config.headMax kind cfg)

/-- The NAL units of parameter sets, buffering period, picture timing and recovery point SEI messages that an access unit has: kind
and what it says (R179, R204, R228). -/
def headUnits (ps : ParamSets) (sets bp : Bool) (delay : Nat) (timing : List Nat) (recovery : Option Nat) : List (Nat × List Nat) :=
  (if sets then [(0, ps.numbers), (1, ps.numbers), (2, ps.numbers)] else []) ++ (if bp then [(3, [delay])] else []) ++ [(4, timing)] ++
    (match recovery with
     | some n => [(5, [n])]
     | none => [])

/-- What goes ahead of the slices of a picture: whether the parameter sets and a buffering period SEI message do, the recovery point,
the PIC_TIME of a version 1 sheet, what the SEI_PREFIX hook wrote (R107, R149, R179, R204, R228, R372). -/
structure AuHead where
  idr : Bool
  sets : Bool
  bp : Bool
  recovery : Option Nat
  v1 : Option (Option Nat)
  pfx : List Byte
  deriving DecidableEq, Repr

/-- What the SEI_PREFIX hook writes, at most SEI_MAX bytes of it (R372, R373; assumption 21). -/
def State.seiPrefix (s : State) (l : List Byte) : List Byte := l.take (s.seiReserve / 8)

/-- What an access unit about to start has ahead of its slices. -/
def State.auHead (s : State) (c : Nat) (idr : Bool) (recovery : Option Nat) (v1 : Option (Option Nat)) (pfx : List Byte) : AuHead :=
  { idr := idr, sets := idr || recovery.isSome, bp := s.wantsBp c idr recovery.isSome, recovery := recovery, v1 := v1,
    pfx := s.seiPrefix pfx }

/-- What a parameter-set or SEI NAL unit can vary in besides the message itself. -/
def State.headCfg (s : State) (c : Nat) : List Nat :=
  [Reg.CTX_MODE c, Reg.ENC_FORMAT c, Reg.ENC_SIZE c, Reg.ENC_REFS c, Reg.RC_CTRL c].map s.regN

/-- The most bits of a version 1 sheet's NAL unit: header, payload header, UUID, body and trailing byte, and three
emulation-prevention bytes; without a sheet those of a SEI NAL unit around what the hook writes (R237). -/
def AuHead.seiMax (h : AuHead) (hook : Bool) : Nat := if h.v1.isSome then 8 * 36 else if hook then 24 else 0

/-- The overhead of a picture (R237, R373): parameter sets, SEI messages and sheets, each at its maximum. -/
def State.overhead (s : State) (c : Nat) (h : AuHead) : Nat :=
  let cfg := s.headCfg c
  let kinds := (if h.sets then [0, 1, 2] else []) ++ (if h.bp then [3] else []) ++ [4] ++ (if h.recovery.isSome then [5] else [])
  8 * sumOf (fun k => Config.headMax k cfg) kinds + h.seiMax (s.seiReserve != 0) + sheetMaxBits (s.ctx c).cellCount + s.seiReserve

/-- What goes ahead of the first slice of an access unit (R107, R179, R204, R208, R228, R372): parameter sets, those of the latest
IDR picture, buffering period, picture timing and recovery point SEI messages, what the SEI_PREFIX hook wrote and the version 1
sheet; its packets leave, in frame latency mode with the rest.  The decoding order number counts the NAL units of the stream in
decoding order, which is tile column by tile column (R211; assumption 69). -/
def State.openAu (s : State) (c : Nat) (p : EncPicture) (h : AuHead) (hooks : List (Option Nat)) : State :=
  let x := s.ctx c
  let t := s.rtpTick c p.ts
  let delay := match x.lastBp with
    | some q => (t + 2 ^ 32 - q.1) % 2 ^ 32 - 1
    | none => 0
  let dus := if s.rbit (Reg.RC_CTRL c) 1 && x.tileCols == 1 then
      (List.range x.ctuRows).map fun j => (j + 1) * p.dt / x.ctuRows - j * p.dt / x.ctuRows else []
  let ps := if h.idr then s.paramSets c p else x.psets.getD (s.paramSets c p)
  let s := s.modCtx c fun x => { x with psets := some ps }
  let s := s.doIf h.sets fun s => s.emit (.paramSets c ps)
  let init := s.fld (Reg.RC_INIT_DELAY c) 16 0
  let s := s.doIf h.bp fun s => (s.emit (.bufferingPeriod c init)).modCtx c fun x => { x with lastBp := some (t, s.now) }
  let s := s.emit (.picTiming c delay dus)
  let s := match h.recovery with
    | some n => s.emit (.recovery c n true false)
    | none => s
  let s := s.doIf (!h.pfx.isEmpty) fun s => s.emit (.hookSei c 39 h.pfx)
  let body := h.v1.map s.v1Body
  let s := match body with
    | some b => s.emitSheet c 39 b
    | none => s
  let messages := h.pfx ++ (body.map sheetMessage).getD []
  let ns := (headUnits ps h.sets h.bp init (delay :: dus) h.recovery).map (fun q => headSize q.1 (s.headCfg c) q.2) ++
    (if messages.isEmpty then [] else [(seiNal 39 messages).length])
  let pkts := prefixPackets (s.fld (Reg.ENC_RTP c) 29 16) (x.donOf x.don) ns hooks
  let p := { p with sei := 8 * sumOf id ns, don := x.don + ns.length, pfxBytes := h.pfx.length }
  if s.rbit (Reg.CTX_MODE c) 4 then s.modCtx c fun x => { x with pic := some { p with outbox := pkts } }
  else (s.modCtx c fun x => { x with pic := some p }).sendAll c p.ts false pkts

/-- The picture starts (R186 to R253): its records, counters, what goes ahead of its slices, its crew. -/
def State.beginPicture (s : State) (c : Nat) (p : EncPicture) (plan : RefreshPlan) (h : AuHead) (hooks : List (Option Nat)) : State :=
  let x := s.ctx c
  let s := s.modCtx c fun x =>
    { (x.mapCtus fun a r => { r with
        intra := r.intra || plan.needs x a, asked := r.asked || plan.cells.elem (x.cellOfAddr a) }) with
      pic := some p, wantIdr := false, waveStart := plan.waveStart, waveRow := plan.waveRow, wave := plan.wave,
      refs := if p.idr then [] else x.refs }
  let s := s.doIf (!x.encPending.all) fun s => s.bump (Reg.ENC_REFRESH_CELLS c) plan.cells.length
  let s := (s.ackRefresh c p.ts).openAu c p h hooks
  ((((s.showClasses c).showCrew c p.crew).noteStart c).encStatus c 2)

/-- The version 1 sheet of a picture about to start, when R149 calls for one. -/
def State.v1Sheet (s : State) (c : Nat) (src : EncSource) (lead : Option (Bool × Bool)) : Option (Option Nat) :=
  if (lead.map (·.1)).getD (s.v1Wanted c) then some ((s.ctx c).v1Time src) else none

/-- The source is the previous one from now on (R188). -/
def State.keepSource (s : State) (c : Nat) (src : EncSource) (pic : PicRef) : State :=
  (s.keepBuffer c src.buf).modCtx c fun x => { x with prevSource := true, prevPic := some pic }

/-- Version 1 sheets go with the picture that starts, or do not. -/
def State.noteV1 (s : State) (c : Nat) (on : Bool) : State := (s.modCtx c fun x => { x with v1Active := on }).sessStatus c

/-- A source picture not started under R302 (R304): counted; in CBR a picture of carried CTUs goes in its place, when its
closing cost fits (R229, R238).  An IDR picture that is due stays due while there is a reference to carry from; where there is none
the picture is an IDR picture of blanks (R175, R248; DESIGN CHOICE, assumption 70). -/
def State.skipSource (s : State) (c : Nat) (src : EncSource) (pfx : List Byte) (hooks : List (Option Nat)) : State :=
  let x := s.ctx c
  let idr := x.refs.isEmpty
  let h := s.auHead c idr none (s.v1Sheet c src none) pfx
  let s := (s.bump (Reg.ENC_SRC_DROPPED c) 1).countLate c (src.time.getD s.now)
  let q := s.loadSource c src
  let s := q.1.keepSource c src q.2
  let s := s.modCtx c fun x => x.mapCtus fun a r => { r with
    prevSrc := src.rowTimes.getD (a / x.ctuCols) none, decided := false, coded := false, carried := false }
  if s.rcCbr c then
    let t := s.sourceTs c src.time
    let extra := t.2.overhead c h
    let b := t.2.pictureBudget c t.1 extra idr
    if b.bc < closingCost x.ctuCount (x.ctuRows * x.tileCols) then t.2
    else
      let p := t.2.newPicture c t.1 src q.2 b idr false true extra (if idr then 0 else x.rate.row) (0, 0)
      let s := (t.2.noteV1 c h.v1.isSome).showCrew c p.crew
      (s.modCtx c fun x => { x with wantIdr := x.wantIdr && !idr }).openAu c p h hooks
  else s

/-- A source picture is analysed, classified, budgeted, and started, omitted (R180) or dropped (R238); `lead` holds V1_SHEET and
WAVE_START of the lead's PICTURE frame (R740), `pfx` what the SEI_PREFIX hook writes.  It is a null picture when no CTU differs from
the previous source and none is coded (R49). -/
def State.startSource (s : State) (c : Nat) (src : EncSource) (pfx : List Byte) (hooks : List (Option Nat))
    (lead : Option (Bool × Bool)) : State :=
  let x := s.ctx c
  let idr := x.wantIdr || x.rate.first
  let plan := s.refreshPlan c idr (lead.map (·.2))
  let h := s.auHead c idr plan.recovery (s.v1Sheet c src lead) pfx
  let s := s.noteV1 c h.v1.isSome
  let t := src.time.getD s.now
  let s := (s.countLate c t).bump Reg.CONTENT_CTUS x.ctuCount
  let q := s.loadSource c src
  let s := q.1
  let old := if x.prevSource then x.prevPic else none
  let m := (List.range x.ctuCount).map fun a =>
    s.measure64 q.2 old (s.fld Reg.CONTENT_EDGE 7 0) (a % x.ctuCols) (a / x.ctuCols)
  let s0 := s
  let s := s.modCtx c fun x => x.mapCtus fun a r =>
    s0.classify c a (x.prevSource && !idr) (r.intra || plan.needs x a) idr (m.getD a { n := 65, e := 0, equal := false })
      (src.rowTimes.getD (a / x.ctuCols) none) r
  let s := s.keepSource c src q.2
  let x := s.ctx c
  let null := m.all (·.equal) && (List.range x.ctuCount).all fun a => (x.ctu a).settled
  let due := (List.range x.cellCount).any fun i => s.entryDue c t i
  if null && !due && !s.rcCbr c then s.modCtx c fun x => x.mapCtus fun _ r => r.omit
  else
    let u := s.sourceTs c src.time
    let s := u.2
    let extra := s.overhead c h
    let b := s.pictureBudget c u.1 extra idr
    if b.bc < closingCost x.ctuCount (x.ctuRows * x.tileCols) then s.bump (Reg.ENC_SRC_DROPPED c) 1
    else s.beginPicture c (s.newPicture c u.1 src q.2 b idr null false extra (if idr then 0 else x.rate.row) (plan.rowFrom, plan.rowTo))
      plan h hooks

/-- The access unit that a decode context would start next, and whether it has ended: the oldest that waits; with none waiting the
one in assembly, as soon as a slice of it has come (R270), but for the first after enable, which START_ANY wants complete
(R277). -/
def State.nextAu (s : State) (c : Nat) : Option (AccessUnit × Bool) :=
  let x := s.ctx c
  match x.queue, x.assembling with
  | u :: _, _ => some (u, true)
  | [], some u =>
    let starts := x.started || (!s.rbit (Reg.DEC_CTRL c) 0 && (u.recovery.isSome || u.slices.any (·.irap)))
    if u.slices.isEmpty || u.dropped || u.skipped || !starts then none else some (u, false)
  | [], none => none

/-- The time by which R299 orders the picture that a context has ready, none where it has none ready: the arrival of an access
unit's first packet, the capture of row 0 of a source. -/
def State.readyTime (s : State) (c : Nat) : Option Nat :=
  let x := s.ctx c
  if !s.ctxEnabled c || s.inReset (ctxPage c) || x.pic.isSome || x.dpic.isSome || !s.mayStart c then none
  else if s.isEncode c then
    if s.pairRole == 2 || x.stopping then none else (s.takeSource c).2.map fun src => src.time.getD s.now
  else (s.nextAu c).map fun q => q.1.arrival

/-- R299: no other context has a picture ready that goes before that of context c: of a higher class, or of its class and
earlier in the order of R24. -/
def State.goesFirst (s : State) (c : Nat) : Bool :=
  match s.readyTime c with
  | none => true
  | some t =>
    let cls (d : Nat) : Nat := s.fld (Reg.CTX_MODE d) 3 2
    s.ctxs.all fun q => q.1 == c || match s.readyTime q.1 with
      | none => true
      | some u => Nat.blt (cls c) (cls q.1) || (cls c == cls q.1 && (Nat.blt t u || (t == u && Nat.blt c q.1)))

/-- An encode picture start (R186, R299): a running context without a picture in coding takes the source that is there; without a
source the cells whose entries are overdue are counted all the same (R50). -/
def State.encPictureStart (s : State) (c : Nat) (pfx : List Byte) (hooks : List (Option Nat)) : State :=
  let x := s.ctx c
  if !s.ctxEnabled c || !s.isEncode c || x.pic.isSome || x.stopping || !s.goesFirst c then s
  else match s.takeSource c with
    | (s, none) => s.countLate c s.now
    | (s, some src) => if s.mayStart c then s.startSource c src pfx hooks none else s.skipSource c src pfx hooks

/-! ### Rows -/

/-- Whether every CTU of a slice is decided, its row job has coded them all (R323; the bottom edge may still wait for its filter, R318,
which R209 leaves no time for; DEDUCED, assumption 71) and, with echo on, the slice has passed. -/
def State.sliceReady (s : State) (c sl : Nat) (p : EncPicture) : Bool :=
  let x := s.ctx c
  !(s.bays.any fun b => b.2.jobs.any fun j =>
    j.ctx == c && j.row == sl / x.tileCols && j.tile == sl % x.tileCols && decide (j.kind = .encode) &&
    !(j.on.isEmpty && j.ctus.all j.started.elem)) &&
  !x.reruns.elem (sl / x.tileCols, sl % x.tileCols, .encode) &&
  ((List.range x.ctuCols).all fun k =>
    let a := sl / x.tileCols * x.ctuCols + k
    x.sliceOf a != sl || (x.ctu a).decided) && (!s.rbit (Reg.CTX_MODE c) 7 || (p.slice sl).passed)

/-- The end of the capture of a CTU row: that of its last line. -/
def State.rowCaptured (s : State) (c row : Nat) (p : EncPicture) : Option Nat :=
  p.time.map fun t => t + p.linePs * (min (64 * row + 63) (s.fld (Reg.ENC_SIZE c) 31 16 - 1)) / 1000

/-- R215: the time from the capture of the last line of a slice's row to the slice's first packet, which leaves now, kept when echo
held the slice. -/
def State.echoDelay (s : State) (c sl : Nat) (p : EncPicture) : State :=
  match s.rowCaptured c (sl / (s.ctx c).tileCols) p with
  | some t => s.doIf (p.heldSlices.elem sl) fun s => s.keepMax (Reg.ENC_ECHO_DELAY_MAX c) ((s.now - t) / 1000)
  | none => s

/-- The slice next in the order of R208 leaves when it is ready (R208, R213): its NAL unit in packets, at once in sub-frame
mode, with the rest of the picture in frame mode (R210).  `hooks` holds the PKT_BUILD results of the packets to come. -/
def State.sliceSend (s : State) (c : Nat) (hooks : List (Option Nat)) : State × List (Option Nat) :=
  let x := s.ctx c
  match x.pic with
  | none => (s, hooks)
  | some p =>
    let sl := p.slicesSent
    let row := sl / x.tileCols
    if Nat.ble (x.ctuRows * x.tileCols) sl || !s.sliceReady c sl p then (s, hooks)
    else
      let pkts := nalPackets (s.fld (Reg.ENC_RTP c) 29 16) ((p.slice sl).bits / 8) (x.donOf (p.don + sl % x.tileCols * x.ctuRows + row)) hooks
      let frame := s.rbit (Reg.CTX_MODE c) 4
      let s := s.doIf (!frame) fun s => s.echoDelay c sl p
      let s := s.emit (.slice c sl (s.sliceHead c p) ((x.sliceCtus sl).map fun a => Sparse.get (fun _ => CtuCode.none) p.codes a))
      let s := s.modCtx c fun x => { x with pic := some { p with
        slicesSent := sl + 1, rowsSent := if sl % x.tileCols == x.tileCols - 1 then p.rowsSent ++ [row] else p.rowsSent,
        outbox := if frame then p.outbox ++ pkts else p.outbox } }
      (s.doIf (!frame) fun s => s.sendAll c p.ts false pkts, hooks.drop pkts.length)

/-- ROW_SEND (R208 to R210): the slices of a CTU row that are ready leave, tile column by tile column, rows in order. -/
def State.rowSend (s : State) (c row : Nat) (hooks : List (Option Nat)) : State :=
  match (s.ctx c).pic with
  | none => s
  | some p =>
    if row != p.slicesSent / (s.ctx c).tileCols then s
    else ((List.range ((s.ctx c).tileCols - p.slicesSent % (s.ctx c).tileCols)).foldl (fun q _ => q.1.sliceSend c q.2) (s, hooks)).1

def execRowSend (c row : Nat) (hooks : List (Option Nat)) (s : State) : Host.Outcome State Fault Refusal :=
  .next <| s.ifLive (ctxPage c) fun s => s.rowSend c row hooks

/-! ### Echo -/

/-- What R214 makes of a slice: every CTU a skip of the most recent reference, a blank in an IDR picture, carried. -/
def State.carrySlice (s : State) (c sl : Nat) : State :=
  let x := s.ctx c
  match x.pic with
  | none => s
  | some p =>
    let s := s.modCtx c fun x => { x with pic := some (p.startSlice sl 176) }
    s.forEach (x.sliceCtus sl) fun a s =>
      let ch : CtuChoice := .carry false false false
      let code : CtuCode := { CtuCode.none with skip := !p.idr, qp := p.qpOf sl }
      s.settleCtu c a ch (2, 0) code (if p.idr then fun _ _ _ => 2 ^ (p.pic.fmt.depth - 1) else fun k u v => s.skipAt x k u v)

/-- A picture whose slice has failed: what the slice spent is not counted, its CTUs are open again (R255), nothing that echo found
of it stands (R216). -/
def EncPicture.reopen (p : EncPicture) (x : Ctx) (sl : Nat) : EncPicture :=
  let r := p.slice sl
  let row := sl / x.tileCols
  ({ p with handed := p.handed.filter (· != sl), spent := p.spent - r.bits, exactSpent := p.exactSpent - r.exactBits,
            decided := p.decided - (x.sliceCtus sl).length,
            codes := p.codes.filter fun q => x.sliceOf q.1 != sl,
            echo := p.echo.filter fun q => x.sliceOf (ctuAt p.pic.fmt x.ctuCols (keyPlane q.1) (keyX q.1) (keyY q.1)) != sl,
            echoJobs := p.echoJobs.filter fun q => q != (row, sl % x.tileCols),
            echoCells := p.echoCells.filter fun i => Nat.blt row (4 * (i / x.cols)) || Nat.blt (4 * (i / x.cols) + 4) row }).setSlice sl
    { r with started := false, bits := 0, exactBits := 0, closes := false, lossyCloses := false, fails := r.fails + 1 }

/-- Slices that an open failure holds: the failed one, and those after it that are ready (R213). -/
def EncPicture.hold (p : EncPicture) (n : Nat) : EncPicture :=
  let open_ (sl : Nat) : Bool := Nat.blt 0 (p.slice sl).fails && !(p.slice sl).passed
  { p with heldSlices := p.heldSlices ++ (rangeFrom p.slicesSent (n - p.slicesSent)).filter fun sl =>
      !p.heldSlices.elem sl && (open_ sl || ((p.slice sl).passed && (List.range sl).any open_)) }

/-- ECHO_ROW_CHECK (R212 to R215): the row checks of the encoder and of echo over a slice; `diffs` are the samples in which echo
differs before the filters. -/
def State.echoRowCheck (s : State) (c sl : Nat) (diffs : List SampleDiff) : State :=
  let x := s.ctx c
  match x.pic with
  | none => s
  | some p =>
    let r := p.slice sl
    let as := x.sliceCtus sl
    let n := x.ctuRows * x.tileCols
    let own := sampleCrc (x.sliceSamples p.pic.fmt sl (rawAt p.raw))
    let echo := sampleCrc (x.sliceSamples p.pic.fmt sl (diffAt diffs (rawAt p.raw)))
    if !s.rbit (Reg.CTX_MODE c) 7 || r.passed || as.isEmpty || !(as.all fun a => (x.ctu a).decided) then s
    else if own == echo then
      s.modCtx c fun x => { x with pic := some ((p.setSlice sl { r with passed := true }).hold n) }
    else
    let first := r.fails == 0
    let s := s.modCtx c fun x => as.foldl (fun x a => x.setCtu a { x.ctu a with
      decided := false, coded := false, carried := false }) { x with pic := some (let q := p.reopen x sl; if first then q.hold n else q) }
    if first then (s.bump (Reg.ENC_ECHO_ROW_FAIL c) 1).raise c FaultKind.ECHO_ROW_MISMATCH (x.sliceFirst sl)
    else
      let s := s.carrySlice c sl
      let s := s.modCtx c fun x => { x with pic := x.pic.map fun p => (p.setSlice sl { p.slice sl with passed := true }).hold n }
      (s.bump (Reg.ENC_ECHO_PERSIST c) 1).raise c FaultKind.ECHO_PERSISTENT (x.sliceFirst sl)

def execEchoRowCheck (c sl : Nat) (diffs : List SampleDiff) (s : State) : Host.Outcome State Fault Refusal :=
  .next <| s.ifLive (ctxPage c) fun s => s.echoRowCheck c sl diffs

/-- R216: the CRCs of a completed cell from the encoder and from echo differ. -/
def State.echoCellCheck (s : State) (c i : Nat) (p : EncPicture) : State :=
  let own (k u v : Nat) : Nat := s.sample p.pic k u v
  let echo (k u v : Nat) : Nat := (Sparse.get (fun _ => none) p.echo (rawKey k u v)).getD (own k u v)
  s.doIf (sampleCrc (p.pic.cellSamples i own) != sampleCrc (p.pic.cellSamples i echo)) fun s =>
    ((s.modCtx c fun x => { x with intraCells := i :: x.intraCells.erase i }).bump (Reg.ENC_ECHO_CELL_FAIL c) 1).raise c
      FaultKind.ECHO_CELL_MISMATCH i

/-- Whether a cell is complete in echo (R54): the CTU row below its last one has been filtered in every tile column, or its last
one when that is the picture's. -/
def Ctx.echoComplete (x : Ctx) (p : EncPicture) (i : Nat) : Bool :=
  let last := min (4 * (i / x.cols) + 4) (x.ctuRows - 1)
  (List.range (last + 1)).all fun r => (List.range x.tileCols).all fun t => p.echoJobs.elem (r, t)

/-- An echo row job ends: where it differs is noted, and the cells it completes are compared (R54, R216).  The job of a coding that
has failed counts for nothing. -/
def State.echoJobEnd (s : State) (c row tile : Nat) (diffs : List SampleDiff) : State :=
  let x := s.ctx c
  match x.pic with
  | none => s
  | some p =>
    if (x.sliceCtus (row * x.tileCols + tile)).any fun a => !(x.ctu a).decided then s
    else
    let p := { p with echoJobs := p.echoJobs ++ [(row, tile)],
                      echo := diffs.foldl (fun m d => Sparse.set (fun _ => none) m (rawKey d.plane d.x d.y) (some d.value)) p.echo }
    let new := (List.range x.cellCount).filter fun i => !p.echoCells.elem i && x.echoComplete p i
    let p := { p with echoCells := p.echoCells ++ new }
    (s.modCtx c fun x => { x with pic := some p }).forEach new fun i s => s.echoCellCheck c i p

/-- The Filter Stage's changes in the reconstruction of a picture (R196, R293, R318): none in a CTU that bypasses transform and
quantisation, and none that looks at a CTU not yet reconstructed. -/
def State.filterEnc (s : State) (c : Nat) (es : List FilterEdit) : State :=
  let x := s.ctx c
  match x.pic with
  | none => s
  | some p =>
    let addr := ctuAt p.pic.fmt x.ctuCols
    s.forEach es fun e s =>
      let ready := ((e.x, e.y) :: e.beside).all fun q => (x.ctu (addr e.plane q.1 q.2)).decided
      s.doIf (ready && !(Sparse.get (fun _ => CtuCode.none) p.codes (addr e.plane e.x e.y)).bypass) fun s =>
        s.putRect p.pic e.plane e.x e.y 1 1 fun _ _ => e.value

/-! ### The sheet -/

/-- The entry an encode context issues for a cell (R47, R55 to R58), its CTUs settled: `coded` and `carried` of the
picture in coding, `check` its check value. -/
structure NewEntry where
  idx : Nat
  exact : Bool
  concSrc : Bool
  carried : Bool
  coded : Bool
  alive : Nat
  time : Option Nat
  check : Nat
  deriving DecidableEq, Repr

/-- Whether the entry renews unchanged content. -/
def NewEntry.renewed (e : NewEntry) : Bool := !e.coded && !e.carried

/-- The entry for cell `i` of the picture `p` about to end: none where R48 and R49 call for none.  `before` holds the
records with the picture's marks, `after` the settled ones. -/
def newEntry (s : State) (c : Nat) (p : EncPicture) (before after : Ctx) (i : Nat) : Option NewEntry :=
  let as := before.ctusOfCell i
  let coded := as.any fun a => (before.ctu a).coded
  let carried := as.any fun a => (before.ctu a).carried
  if !(p.null || coded || carried || s.entryDue c (p.time.getD s.now) i) then none
  else
    let r := before.cell i
    let ts := as.map fun a => (after.ctu a).time
    some { idx := i,
           exact := as.any fun a => decide ((before.ctu a).cls = .exact) ||
             (decide ((before.ctu a).cls = .unchanged) && (before.ctu a).exactCell),
           concSrc := p.badCells.elem i, carried := carried, coded := coded,
           alive := if r.seen then (r.alive + 1) % 256 else 0,
           time := if ts.any (·.isNone) then none else ts.foldl earlier none,
           check := s.cellCrc p.pic i }

/-- OFFSET of a full entry (R115 to R117): the true offset is what R117 bounds, and what is sent is rounded down. -/
def offsetField (pic time : Option Nat) : Nat :=
  match pic, time with
  | some p, some t =>
    let d : Int := (t : Int) - (p : Int)
    if d < -2147483647000 || d > 2147483647000 then 0x80000000 else (w32 (d.fdiv 1000)).toNat
  | _, _ => 0x80000000

/-- R120: the entry may be sent in a renewal run. -/
def NewEntry.compact (e : NewEntry) (cols step : Nat) (pic : Option Nat) : Bool :=
  match pic, e.time with
  | some p, some t =>
    let d := p + e.idx / cols * step
    e.renewed && !e.concSrc && Nat.ble d t && Nat.ble t (d + 1000)
  | _, _ => false

/-- The bytes of a full entry (R115). -/
def NewEntry.full (e : NewEntry) (pic : Option Nat) : List Byte :=
  beBytes 2 (e.idx * 64 + 32 * b2n e.exact + 16 * b2n e.coded + 8 * b2n e.renewed + 4 * b2n e.carried + 2 * b2n e.concSrc) ++
    beBytes 1 e.alive ++ [0] ++ beBytes 4 (offsetField pic e.time) ++ beBytes 4 e.check

/-- Entries of rising index cut into runs of consecutive cells. -/
def cutRuns : List NewEntry → List (List NewEntry)
  | [] => []
  | e :: r => match cutRuns r with
    | (f :: g) :: rs => if f.idx == e.idx + 1 then (e :: f :: g) :: rs else [e] :: (f :: g) :: rs
    | rs => [e] :: rs

/-- The bytes of a renewal run (R118). -/
def runBytes (es : List NewEntry) : List Byte :=
  let n := es.length
  beBytes 4 ((es.map (·.idx)).headD 0 * 2 ^ 22 + (n - 1) * 2 ^ 12) ++
    ((List.range (cdiv n 8)).map fun j => (BitVec.ofNat 8 (((List.range 8).map fun k =>
      if ((es.map (·.exact)).getD (8 * j + k) false) then 2 ^ (7 - k) else 0).foldl (· + ·) 0) : Byte)) ++
    es.flatMap fun e => beBytes 1 e.alive ++ beBytes 4 e.check

/-- The capture time an entry states (R116, R117, R119): derived in a renewal run, rounded down in a full entry, none where its
offset says no time. -/
def NewEntry.stated (e : NewEntry) (cols step : Nat) (pic : Option Nat) : Option Nat :=
  match pic, e.time with
  | some p, some t =>
    if e.compact cols step pic then some (p + e.idx / cols * step)
    else if offsetField pic e.time == 0x80000000 then none
    else some ((p : Int) + ((t : Int) - (p : Int)).fdiv 1000 * 1000).toNat
  | _, _ => none

/-- The version 2 body (R112 to R120). -/
def State.v2Body (s : State) (x : Ctx) (p : EncPicture) (es : List NewEntry) : List Byte :=
  let step := p.linePs * 256 / 1000
  let runs := cutRuns (es.filter fun e => e.compact x.cols step p.time)
  let full := es.filter fun e => !e.compact x.cols step p.time
  let first := (es.map fun e => e.stated x.cols step p.time).foldl earlier p.time
  [2, BitVec.ofNat 8 (b2n (s.lockedSince first) + 2 * b2n p.null)] ++ beBytes 2 x.nextSheetSeq ++ ptpBytes p.time ++
    beBytes 1 x.cols ++ beBytes 1 x.rows ++ beBytes 4 step ++ beBytes 2 full.length ++ beBytes 2 runs.length ++
    full.flatMap (fun e => e.full p.time) ++ runs.flatMap runBytes

/-- The record of an issued entry: in an encode context the cell table holds the last issued entry (R102). -/
def Ctx.issue (x : Ctx) (t : Nat) (e : NewEntry) : Ctx :=
  x.setCell e.idx { CellRec.zero with
    time := e.time.getD 0, check := e.check, alive := e.alive, exact := e.exact, hasTime := e.time.isSome, seen := true,
    picNum := x.outCount % 65536, issued := some t }

/-! ### Picture end -/

/-- Rate control after a picture (R234, R247, R250 to R252, R259): its filler bytes and the state. -/
def State.rateEnd (s : State) (c : Nat) (p : EncPicture) (auBits : Nat) : State × Nat :=
  let after : Int := p.f - auBits
  let arrive : Int := (s.bitrate c * s.nominalTicks c / 90000 : Nat)
  let excess : Int := after + arrive - (s.cpbSize c : Nat)
  let fill := if s.rcCbr c && excess > 0 then cdiv excess.toNat 8 else 0
  let x := s.ctx c
  let carried := ((List.range x.ctuCount).filter fun a => (x.ctu a).carried).length
  let closed := p.slices.any fun q => q.2.closes
  let s := s.modCtx c fun x => { x with rate :=
    { first := false, fullness := after - 8 * fill, prevTs := s.rtpTick c p.ts, exactPrev := p.exactSpent, qp := p.qp, row := x.nextRow p } }
  let s := s.setRegN (Reg.RC_STATUS c) (p.k % 64 + 256 * (p.qp.toNat % 64) + 65536 * b2n p.starved + 2 ^ 17 * b2n closed +
    2 ^ 18 * b2n (fill != 0))
  let s := ((s.setReg (Reg.RC_CPB_FULLNESS c) (sat32 p.f.toNat)).setReg (Reg.RC_LAST_BITS c) (sat32 auBits)).setReg
    (Reg.RC_LAST_EXACT_BITS c) (sat32 p.exactSpent)
  let s := (s.bump (Reg.RC_CARRIED_CTUS c) carried).bump (Reg.RC_CLOSED_PICS c) (b2n closed)
  ((s.bump (Reg.RC_STARVED_PICS c) (b2n p.starved)).bump (Reg.RC_FILLER_BYTES c) fill, fill)

/-- A context whose picture is complete: its entries issued, its CTUs settled, the picture among its references (R176, R205),
no picture in coding. -/
def Ctx.finishPicture (x : Ctx) (p : EncPicture) (es : List NewEntry) (now refs filler : Nat) : Ctx :=
  let y := es.foldl (fun x e => x.issue now e) (x.mapCtus fun _ r => r.settle p.idr p.pic.num x.wave)
  let fresh := if y.wave == 0 then [] else (List.range y.ctuCount).filter fun a => (y.ctu a).fresh == y.wave
  { y with pic := none, nextSheetSeq := (x.nextSheetSeq + 1) % 65536, outCount := x.outCount + 1, codedNum := p.pic.num,
           don := (p.don + x.tileCols * x.ctuRows + filler + 1) % 65536,
           refs := (({ pic := p.pic, wave := y.wave, fresh := fresh } : EncRef) :: x.refs).take refs }

/-- What the SEI_SUFFIX hook writes: what the SEI_PREFIX hook has left of the SEI_MAX bytes of the access unit (R372, R373;
assumption 21). -/
def State.seiSuffix (s : State) (p : EncPicture) (l : List Byte) : List Byte := l.take (s.seiReserve / 8 - p.pfxBytes)

/-- The end of a picture: rate control, the entries and the sheet, filler, the last packets; the sheet goes last (R106, R208), in
its NAL unit after the SEI messages `sfx` of the SEI_SUFFIX hook.  The entries count as issued at the capture time of the picture
(DESIGN CHOICE, assumption 67: R48 and R50 do not name the moment). -/
def State.encPictureEnd (s : State) (c : Nat) (p : EncPicture) (sfx : List Byte) (hooks : List (Option Nat)) : State :=
  let before := s.ctx c
  let after := before.mapCtus fun _ r => r.settle p.idr p.pic.num before.wave
  let es := (List.range before.cellCount).filterMap (newEntry s c p before after)
  let body := s.v2Body before p es
  let ahead := s.seiSuffix p sfx
  let size := (sheetNal 40 ahead body).length
  let q := s.rateEnd c p (p.spent + p.sei + 8 * size)
  let s := q.1
  let filler := b2n (q.2 != 0)
  let refs := s.fld (Reg.ENC_REFS c) 2 0
  let s := s.modCtx c fun x => x.finishPicture p es (p.time.getD s.now) refs filler
  let s := s.doIf (q.2 != 0) fun s => s.emit (.filler c q.2)
  let s := s.storeCells c
  let s := s.doIf (!ahead.isEmpty) fun s => s.emit (.hookSei c 40 ahead)
  let s := s.emitSheet c 40 body
  let slices := before.tileCols * before.ctuRows
  let s := s.doIf (s.rbit (Reg.CTX_MODE c) 4) fun s => s.forEach (List.range slices) fun sl s => s.echoDelay c sl p
  let max := s.fld (Reg.ENC_RTP c) 29 16
  let fill := if q.2 == 0 then [] else nalPackets max q.2 (before.donOf (p.don + slices)) hooks
  let tail := fill ++ nalPackets max size (before.donOf (p.don + slices + filler)) (hooks.drop fill.length)
  let s := s.sendAll c p.ts true (p.outbox ++ tail)
  let s := (s.bump (Reg.ENC_PICS c) 1).bump (Reg.FRESH_NULL_PICS c) (b2n (p.null && s.contract c))
  s.showFresh c

/-- Whether a row job of a kind of a context is resident in a bay or waits to be placed again (R323). -/
def State.hasJob (s : State) (c : Nat) (kind : JobKind) : Bool :=
  (s.bays.any fun b => b.2.jobs.any fun j => j.ctx == c && decide (j.kind = kind)) || (s.ctx c).reruns.any fun r => decide (r.2.2 = kind)

/-- Whether echo has decoded and filtered every slice, so that every cell has been compared (R216). -/
def State.echoDone (s : State) (c : Nat) (p : EncPicture) : Bool :=
  let x := s.ctx c
  !s.rbit (Reg.CTX_MODE c) 7 ||
    ((List.range x.ctuRows).all fun r => (List.range x.tileCols).all fun t => p.echoJobs.elem (r, t))

/-- ENC_PICTURE_COMPLETE (R54, R106, R216, R234, R250): every CTU decided, every row filtered and sent, with echo on every cell
compared; what the SEI_SUFFIX hook writes, the PKT_BUILD results of the last packets. -/
def State.encPictureComplete (s : State) (c : Nat) (sfx : List Byte) (hooks : List (Option Nat)) : State :=
  let x := s.ctx c
  match x.pic with
  | none => s
  | some p =>
    if ((List.range x.ctuCount).all fun a => (x.ctu a).decided) && p.rowsSent.length == x.ctuRows && !s.hasJob c .encode && s.echoDone c p then
      s.encPictureEnd c p sfx hooks
    else s

end Sys2Proof.Machine
end

