-- ==== Sys2Proof/Machine/Ledger.lean ====
section
/-! DEFINITION. The capacity ledger: measurement (R325 to R328), charges (R329 to R334, R426, R817), the sums (R335),
degradation and undo (R300 to R306, R336 to R338, R742), admission (R319, R321, R339 to R343), and the voltage plan
(R714 to R717). -/

namespace Sys2Proof.Machine

/-! ### One-time programmable memory and flash -/

/-- A little-endian number of `n` bytes of the OTP (R662); unprogrammed bytes are zero (assumption 3). -/
def State.otpLE (s : State) (o n : Nat) : Nat := leNat (Sparse.getRange memReset s.otp o n)

/-- Bytes of the flash; what nothing has written reads as zero (assumption 3). -/
def State.flashBytes (s : State) (o n : Nat) : List Byte := Sparse.getRange memReset s.flash o n

/-! ### Picture rates of a set of registers -/

/-- The register of the active set, or of the shadow set that a hand-over brings in. -/
def inSet (shadow : Bool) (k : Nat) : Nat := if shadow then shadowOf k else k

/-- F of R329 for an encode context, in 0.01 Hz; 0 when none is known. -/
def State.setEncRate (s : State) (sh : Bool) (c : Nat) : Nat :=
  let r := s.fld (Reg.CTX_ADMIT_RATE c) 15 0
  let src := inSet sh (Reg.ENC_SOURCE c)
  let sel := s.fld src 2 0
  if r != 0 then r
  else if Nat.ble sel 3 then
    let p := s.regN (Reg.DP_IN_FRAME_PERIOD sel)
    if p == 0 then 0 else 100000000000 / p
  else if sel == 5 then
    let d := s.fld src 15 8
    let a := s.fld (Reg.CTX_ADMIT_RATE d) 15 0
    if a != 0 then a else if s.isEncode d then 0 else s.fld (Reg.DEC_RATE d) 15 0
  else 0

/-- F of R329 for a decode context. -/
def State.setDecRate (s : State) (sh : Bool) (c : Nat) : Nat :=
  let r := s.fld (Reg.CTX_ADMIT_RATE c) 15 0
  if r != 0 then r else s.fld (inSet sh (Reg.DEC_RATE c)) 15 0

/-! ### Charges -/

/-- MaxBR in kb/s of the H.265 levels (Main tier, High tier) and of the H.264 levels: tables A.8 and A-1 of the
standards (assumption 9). -/
def h265MaxBr (high : Bool) (level : Nat) : Nat :=
  let main : List (Nat × Nat) := [(30, 128), (60, 1500), (63, 3000), (90, 6000), (93, 10000), (120, 12000),
    (123, 20000), (150, 25000), (153, 40000), (156, 60000), (180, 60000), (183, 120000)]
  let hi : List (Nat × Nat) := [(120, 30000), (123, 50000), (150, 100000), (153, 160000), (156, 240000), (180, 240000),
    (183, 480000)]
  let of (t : List (Nat × Nat)) := (t.find? fun p => p.1 == level).map (·.2)
  ((if high then of hi else none) <|> of main).getD 0

def h264MaxBr (level : Nat) : Nat :=
  let t : List (Nat × Nat) := [(9, 128), (10, 64), (11, 192), (12, 384), (13, 768), (20, 2000), (21, 4000), (22, 4000),
    (30, 10000), (31, 14000), (32, 20000), (40, 20000), (41, 50000), (42, 50000), (50, 135000), (51, 240000),
    (52, 240000)]
  ((t.find? fun p => p.1 == level).map (·.2)).getD 0

/-- The weight of R330 in 1/10,000: of an encode context by EXACT_PCT, references and echo, of a decode context by
codec, MAX_CHROMA and MAX_BIT_DEPTH. -/
def encWeight (pct refs : Nat) (echo : Bool) : Nat := 32000 + 128 * pct + 3000 * (refs - 1) + (if echo then 10000 else 0)
def decWeight (h264 : Bool) (chroma depth : Nat) : Nat :=
  if h264 then 9000 else if Nat.ble 1 chroma then 12000 else if depth == 10 then 11000 else 10000

/-- Twice k of R329. -/
def chromaK2 (chroma : Nat) : Nat := if chroma == 0 then 3 else if chroma == 1 then 4 else 6

/-- R330: a charge in 0.1 PWU of a sample rate in 1/(2 × 10^8) Msample/s. -/
def pwuCharge (smp weight : Nat) : Nat := cdiv (smp * weight) 200000000000

/-- A DRAM charge n / d MB/s under the measured ratio in 1/256, 0 when none is measured (R333, R817). -/
def dramScale (n d ratio : Nat) : Nat :=
  if ratio != 0 && Nat.blt (10 * ratio) 4096 then cdiv (n * 4096) (d * (10 * ratio)) else cdiv n d

/-- R333. -/
def dramCharge (enc : Bool) (smp ratio : Nat) : Nat := dramScale (smp * (if enc then 3149 else 3962)) 200000000000 ratio

/-- The charge of the shadow set of a context, or the status of check 1 or 2 of R339. -/
def State.formCharge (s : State) (c : Nat) : Nat ⊕ Charge :=
  let mode := s.reg (shadowOf (Reg.CTX_MODE c))
  let enc := bit mode 0
  let lim := s.reg (shadowOf (if enc then Reg.ENC_SIZE c else Reg.DEC_LIMITS c))
  let size := s.reg (Reg.CTX_ADMIT_SIZE c)
  let of := if size == 0 then lim else size
  let w := bits of 15 0
  let h := bits of 31 16
  let pct := s.fld (Reg.CTX_ADMIT_RATE c) 23 16
  let rate := if enc then s.setEncRate true c else s.setDecRate true c
  if Nat.blt 100 pct || w == 0 || h == 0 || Nat.blt (bits lim 15 0) w || Nat.blt (bits lim 31 16) h then .inl 1
  else if rate == 0 then .inl 2
  else
    let lvl := s.reg (shadowOf (Reg.DEC_LEVEL c))
    let prof := s.fld (shadowOf (Reg.ENC_FORMAT c)) 3 0
    let k2 := if enc then (if Nat.ble prof 2 then 3 else 6) else chromaK2 (bits lvl 13 12)
    let smp := w * h * rate * k2
    let refs := if enc then s.fld (shadowOf (Reg.ENC_REFS c)) 2 0 else 0
    let echo := enc && bit mode 7
    let wt := if enc then encWeight pct refs echo else decWeight (bit mode 1) (bits lvl 13 12) (bits lvl 11 8)
    let kb := s.fld (Reg.CTX_ADMIT_BITRATE c) 19 0
    let el :=
      if kb != 0 then cdiv (3 * kb) 2000
      else if enc then cdiv (3 * s.fld (shadowOf (Reg.RC_BITRATE c)) 19 0) 2000
      else cdiv (18 * (if bit mode 1 then h264MaxBr (bits lvl 7 0) else h265MaxBr true (bits lvl 7 0))) 10000
    .inr { enc := enc, cls := bits mode 3 2, pwu := pwuCharge smp wt, el := if echo then 2 * el else el, smp := smp,
           dram := dramCharge enc smp (s.regN Reg.LEDGER_DRAM_RATIO), msa := if enc then cdiv (w * h * rate) 100000000 else 0,
           refs := refs, rate := rate }

/-- Whether two charges differ otherwise than by the measured compression ratio. -/
def Charge.differs (a b : Charge) : Bool := { a with dram := 0 } != { b with dram := 0 }

/-! ### Compositor windows -/

/-- The frame period of an output in 2^−32 ns. -/
def State.outPeriod (s : State) (n : Nat) : Nat := s.reg64 (Reg.DP_OUT_FRAME_PERIOD_LO n)

/-- The charge of window i in the shadow set of compositor n (R330, R426), 0 when it is not charged. -/
def State.formWin (s : State) (n i : Nat) : Nat :=
  let ctl := s.reg (shadowOf (Reg.WIN_CTRL n i))
  let src := s.reg (shadowOf (Reg.WIN_SRC_SIZE n i))
  let dst := s.reg (shadowOf (Reg.WIN_DST_SIZE n i))
  let scaled := src != dst && bits ctl 2 1 != 2
  if bit ctl 0 && (scaled || bit ctl 22 || bit ctl 27) && s.outPeriod n != 0 then
    cdiv (bits dst 15 0 * bits dst 31 16 * (6000 * 2 ^ 32)) (s.outPeriod n)
  else 0

def State.formWins (s : State) (n : Nat) : List Nat := (List.range 16).map (s.formWin n)

/-- The charges of the windows in force, and their writing: COMP_WIN_STATUS (R449). -/
def State.winCharges (s : State) (n : Nat) : List Nat := (List.range 16).map fun i => s.fld (Reg.COMP_WIN_STATUS n i) 31 16
def State.setWinCharges (s : State) (n : Nat) (l : List Nat) : State :=
  s.forEach (List.range 16) fun i s =>
    let v := l.getD i 0
    let k := Reg.COMP_WIN_STATUS n i
    if v == 0 then (s.setFld k 9 8 0).setFld k 31 16 0 else (s.setFld k 9 8 3).setFld k 31 16 v

/-! ### Display and capture ports -/

/-- R817: the DRAM charge of an enabled output, in MB/s. -/
def State.outDram (s : State) (n : Nat) : Nat :=
  if s.enabled (0x040 + n) && s.outPeriod n != 0 then
    let wide := (List.range 16).any fun i =>
      let ctl := s.reg (Reg.WIN_CTRL n i)
      bit ctl 0 && bits ctl 2 1 == 0 && !s.isEncode (bits ctl 11 4) && s.fld (Reg.DEC_LEVEL (bits ctl 11 4)) 13 12 != 0
    let k2 := if wide then 6 else 3
    dramScale (s.fld (Reg.DP_OUT_H_TIMING n) 15 0 * s.fld (Reg.DP_OUT_V_TIMING n) 15 0 * k2 * (390625 * 2 ^ 32))
      (s.outPeriod n * 1000) (s.regN Reg.LEDGER_DRAM_RATIO)
  else 0

/-- R817: the DRAM charge of an enabled capture port, in MB/s. -/
def State.inDram (s : State) (n : Nat) : Nat :=
  let p := s.regN (Reg.DP_IN_FRAME_PERIOD n)
  if s.enabled (0x048 + n) && p != 0 then
    dramScale (s.fld (Reg.DP_IN_ACTIVE n) 15 0 * s.fld (Reg.DP_IN_ACTIVE n) 31 16 * 234375)
      (100 * p * (s.fld (Reg.DP_IN_CTRL n) 9 8 + 1)) (s.regN Reg.LEDGER_DRAM_RATIO)
  else 0

/-- The page of port i of `Ledger.ports`. -/
def portPage (i : Nat) : Nat := 0x040 + i

/-- The charge of a port formed again (R817): a DP_OUT at a hand-over of its compositor and when its timing comes into force, a
DP_IN at a change of its size or its measured frame period. -/
def State.formPort (s : State) (i : Nat) : State :=
  let v := if Nat.blt i 8 then s.outDram i else s.inDram (i - 8)
  { s with ledger := { s.ledger with ports := Sparse.set (fun _ => 0) s.ledger.ports i v } }

/-- The DRAM charges of all enabled ports, each as it was formed last. -/
def State.portDram (s : State) : Nat :=
  sumOf (fun i => if s.enabled (portPage i) then Sparse.get (fun _ => 0) s.ledger.ports i else 0) (List.range 12)

/-! ### The sums -/

/-- The contexts that hold an admission. -/
def State.admittedCtxs (s : State) : List (Nat × Ctx) := s.ctxs.filter fun p => p.2.admitted

/-- The charge in effect (R334). -/
def State.effective (s : State) (p : Nat × Ctx) : Nat := max p.2.chg.pwu (s.regN (Reg.CTX_WORK p.1))

/-- What the degradation of a context releases (R300): half of its charge, or all of it. -/
def releasedAt (level pwu : Nat) : Nat := if level == 1 then pwu / 2 else if level == 2 then pwu else 0

def State.allWins (s : State) : Nat := sumOf (fun n => sumOf id (s.winCharges n)) (List.range 8)

/-- R335. -/
def State.committedFull (s : State) : Nat := sumOf (fun p => p.2.chg.pwu) s.admittedCtxs + s.allWins
def State.committed (s : State) : Nat :=
  sumOf (fun p => s.effective p - releasedAt p.2.degrade p.2.chg.pwu) s.admittedCtxs + s.allWins
def State.liveExact (s : State) : Nat :=
  sumOf (fun p => s.effective p) (s.admittedCtxs.filter fun p => p.2.chg.cls == 0) + s.allWins

/-- The DRAM limit: 75 % of the configured peak of four 32-bit channels (R32, R345, R636). -/
def State.dramMts (s : State) : Nat := [3200, 4267, 5500, 6400, 7500].getD (s.fld (Reg.DRAM_CFG 0) 2 0) 7500
def State.dramLimit (s : State) : Nat := 12 * s.dramMts

/-- The conditions of R32; a ratio not measured yet is not below 1.6. -/
def State.dramCheck (s : State) : Bool :=
  let r := s.regN Reg.LEDGER_DRAM_RATIO
  Nat.blt s.dramMts 7500 || (r != 0 && Nat.blt (10 * r) 4096)

def State.committedDram (s : State) : Nat := sumOf (fun p => p.2.chg.dram) s.admittedCtxs + s.portDram

/-- The reference searches of an array: those of the other contexts than `but`, or of all. -/
def State.arrayLoad (s : State) (but : Option Nat) (a : Nat) : Nat :=
  sumOf (fun p => p.2.chg.msa * (p.2.msas.filter (· == a)).length) (s.admittedCtxs.filter fun p => some p.1 != but)

/-- The registers that show the sums (R345, R348, R401). -/
def State.showSums (s : State) : State :=
  let cs := s.admittedCtxs
  let step := (s.ledger.stack.map (·.step)).foldl max 0
  let s := ((s.setRegN Reg.LEDGER_COMMITTED s.committed).setRegN Reg.LEDGER_COMMITTED_FULL s.committedFull).setRegN
    Reg.LEDGER_LIVE_EXACT s.liveExact
  let s := (s.setRegN Reg.LEDGER_EL_COMMITTED (sumOf (fun p => p.2.chg.el) cs)).setRegN Reg.LEDGER_MSA_COMMITTED
    (sumOf (fun p => p.2.chg.msa * p.2.chg.refs) cs)
  let s := (s.setRegN Reg.LEDGER_DRAM_COMMITTED s.committedDram).setRegN Reg.LEDGER_DRAM_LIMIT s.dramLimit
  let s := (s.setFld Reg.LEDGER_STATUS 6 4 step).setRbit Reg.LEDGER_STATUS 10 s.dramCheck
  let s := s.forEach (List.range 8) fun a s =>
    let refs := sumOf (fun p => (p.2.msas.filter (· == a)).length) cs
    (s.setFld (Reg.MSA_STATUS a) 2 0 (min refs 7)).setRegN (Reg.MSA_COMMITTED a) (s.arrayLoad none a)
  s.forEach (List.range 16) fun e s =>
    let on := cs.filter fun p => p.2.ce == e
    (s.setFld (Reg.CE_BINDING e) 4 0 on.length).setFld (Reg.CE_BINDING e) 9 8 (on.filter fun p => p.2.chg.enc).length

/-- The registers of R347 that show a context's charges. -/
def State.showCharge (s : State) (c : Nat) : State :=
  let x := s.ctx c
  let g := if x.admitted then x.chg else Charge.zero
  let s := (s.setRegN (Reg.CTX_CHARGE c) g.pwu).setRegN (Reg.CTX_EL_CHARGE c) (min g.el 0xFFFF)
  let s := (s.setRegN (Reg.CTX_DRAM_CHARGE c) (min g.dram 0xFFFF)).setRbit (Reg.CTX_ADMIT_STATUS c) 8 x.admitted
  let s := s.setFld (Reg.CTX_PLACEMENT c) 3 0 (if x.admitted then x.ce else 0)
  s.setFld (Reg.CTX_PLACEMENT c) 19 16 (if x.admitted then x.msas.headD 0xF else 0xF)

/-- A status in CTX_ADMIT_STATUS with LEDGER_SEQ at the decision. -/
def State.admitStatus (s : State) (c st : Nat) : State :=
  let k := Reg.CTX_ADMIT_STATUS c
  ((s.setFld k 7 0 st).setRbit k 9 false).setFld k 31 16 (s.regN Reg.LEDGER_SEQ)

/-! ### Admission -/

/-- R319: the Cue Engine a new context binds to. -/
def State.pickCe (s : State) (enc : Bool) : Option Nat :=
  let all (e : Nat) := (s.admittedCtxs.filter fun p => p.2.ce == e).length
  let encs (e : Nat) := (s.admittedCtxs.filter fun p => p.2.ce == e && p.2.chg.enc).length
  let room := (List.range 16).filter fun e => Nat.blt (all e) 16 && (!enc || Nat.blt (encs e) 2)
  minBy? (fun e => (if enc then 32 * encs e else 0) + all e) room

/-- R321: the arrays of a context's references, those kept first; none when one does not fit and must. -/
def State.assignArrays (s : State) (c need : Nat) (must : Bool) : Nat → List Nat → Option (List Nat)
  | 0, got => some got
  | n + 1, got =>
    let others (a : Nat) := (s.admittedCtxs.filter fun p => p.1 != c && p.2.msas.elem a).length
    let load (a : Nat) := s.arrayLoad (some c) a + need * (got.filter (· == a)).length
    let room := (List.range 8).filter fun a => got.elem a || Nat.blt (others a) 4
    let room := if must || !room.isEmpty then room else List.range 8
    let rank (a : Nat) := 2 ^ 40 + load a - s.regN (Reg.MSA_RATE a)
    match minBy? rank room with
    | none => none
    | some a =>
      if must && Nat.blt (s.regN (Reg.MSA_RATE a)) (load a + need) then none
      else s.assignArrays c need must n (got ++ [a])

/-- Whether the references a context keeps still fit their arrays. -/
def State.arraysFit (s : State) (c need : Nat) (as : List Nat) : Bool :=
  as.all fun a => Nat.ble (s.arrayLoad (some c) a + need * (as.filter (· == a)).length) (s.regN (Reg.MSA_RATE a))

/-- R341: a hand-over that lowers a charge, or moves the context to a lower class, passes checks 5 to 9. -/
def Charge.eases (new old : Charge) : Bool :=
  Nat.blt new.pwu old.pwu || Nat.blt old.cls new.cls ||
    (new.pwu == old.pwu && new.cls == old.cls && Nat.ble new.el old.el && Nat.ble (new.msa * new.refs) (old.msa * old.refs) &&
      Nat.ble new.smp old.smp)

/-- The sums against which a context's checks 5 and 6 are made: those of everything else. -/
def State.fullBut (s : State) (c : Nat) : Nat :=
  sumOf (fun p => p.2.chg.pwu) (s.admittedCtxs.filter fun p => p.1 != c) + s.allWins
def State.exactBut (s : State) (c : Nat) : Nat :=
  sumOf (fun p => s.effective p) (s.admittedCtxs.filter fun p => p.1 != c && p.2.chg.cls == 0) + s.allWins

/-- Checks 3 to 9 of R339 for a context and a charge: the failing check, or the Cue Engine and the arrays. -/
def State.admitChecks (s : State) (c : Nat) (g : Charge) : Nat ⊕ (Nat × List Nat) :=
  let x := s.ctx c
  let ease := x.admitted && g.eases x.chg
  let encs := (s.admittedCtxs.filter fun p => p.2.chg.enc).length
  let ce := if x.admitted then some x.ce else s.pickCe g.enc
  let cap := s.regN Reg.LEDGER_CAPACITY
  let els := sumOf (fun p => p.2.chg.el) (s.admittedCtxs.filter fun p => p.1 != c)
  let lane := ((List.range 24).map fun n => s.regN (Reg.EL_RATE n)).foldl min 0xFFFFFFFF
  let kept := if x.admitted then x.msas.take g.refs else []
  let drams := sumOf (fun p => p.2.chg.dram) (s.admittedCtxs.filter fun p => p.1 != c) + s.portDram
  if g.enc && !x.admitted && Nat.ble 32 encs then .inl 3
  else match ce with
    | none => .inl 4
    | some ce =>
      if !ease && g.cls == 0 && Nat.blt (min cap (s.regN Reg.LEDGER_FLOOR)) (s.exactBut c + g.pwu) then .inl 5
      else if !ease && Nat.blt cap (s.fullBut c + g.pwu) then .inl 6
      else if !ease && (Nat.blt (s.regN Reg.LEDGER_EL_CAP) (els + g.el) || (!g.enc && Nat.blt lane g.el)) then .inl 7
      else if !ease && !s.arraysFit c g.msa kept then .inl 8
      else match s.assignArrays c g.msa (!ease) (g.refs - kept.length) kept with
        | none => .inl 8
        | some arrays =>
          if !ease && s.dramCheck && Nat.blt s.dramLimit (drams + g.dram) then .inl 9
          else .inr (ce, arrays)

/-- A context's degradation is undone outside R337, and leaves the undo order (R301, R343). -/
def State.dropDegradation (s : State) (c : Nat) : State :=
  let old := s.ledger.stack
  let new := old.filter fun d => d.ctx != c
  let q := if new.head? == old.head? then s.ledger.qualify else none
  let s := { s with ledger := { s.ledger with stack := new, qualify := q } }
  (s.modCtx c fun x => { x with degrade := 0 }).setFld (Reg.CTX_STATUS c) 4 3 0

/-- A context admitted at a charge: committed, with its Cue Engine and its arrays (R319, R321). -/
def State.commitCharge (s : State) (c : Nat) (g : Charge) (ce : Nat) (arrays : List Nat) : State :=
  let order := s.ledger.order + 1
  let s := { s with ledger := { s.ledger with order := order } }
  let s := s.modCtx c fun x => { x with admitted := true, chg := g, ce := ce, msas := arrays, admitOrder := order }
  (s.showCharge c).showSums

/-- The admission of a context on a charge (R339): the state and the status. -/
def State.admitCtx (s : State) (c : Nat) (g : Charge) : State × Nat :=
  match s.admitChecks c g with
  | .inl st => (((s.bump Reg.LEDGER_REFUSALS 1).admitStatus c st), st)
  | .inr (ce, arrays) => ((s.commitCharge c g ce arrays).admitStatus c 0, 0)

/-! ### The Reference Cache's bands (R632) -/

/-- The reservation of one reference in KB: the luma of 320 rows at the planning ratio (DEDUCED, assumption 16). -/
def bandKb (width : Nat) : Nat := cdiv (width * 250) 1024

/-- The reservations in admission order under the limit: KB reserved, and the references without one, by context. -/
def State.bands (s : State) : Nat × List (Nat × Nat) :=
  let limit := s.fld Reg.REFC_BAND_LIMIT 14 0
  let cs := sortBy (fun p => p.2.admitOrder) (s.admittedCtxs.filter fun p => p.2.chg.enc)
  cs.foldl (fun a p =>
    let kb := bandKb p.2.codedW
    let n := if kb == 0 then p.2.chg.refs else min p.2.chg.refs ((limit - a.1) / kb)
    (a.1 + n * kb, (p.1, p.2.chg.refs - n) :: a.2)) (0, [])

/-- The bands reserved anew; those that context c finds no room for are counted. -/
def State.reserveBands (s : State) (c : Nat) : State :=
  let b := s.bands
  let miss := (b.2.find? fun p => p.1 == c).map (·.2)
  (s.setFld Reg.REFC_RESERVED 14 0 b.1).bump Reg.REFC_NO_BAND (miss.getD 0)

/-- The bands after a context has gone. -/
def State.freeBands (s : State) : State := s.setFld Reg.REFC_RESERVED 14 0 s.bands.1

/-- R343: charges, binding, arrays and degradation of a context given up. -/
def State.releaseCtx (s : State) (c : Nat) : State :=
  if (s.ctx c).admitted then
    let s := s.dropDegradation c
    let s := s.modCtx c fun x =>
      { x with admitted := false, chg := Charge.zero, msas := [], ce := 0, admitOrder := 0, overCharges := 0, overRaised := false }
    ((s.setRegN (Reg.CTX_WORK c) 0).showCharge c).showSums.freeBands
  else s

/-- The charges of a compositor's windows admitted one after another (R339 checks 5 and 6, R426): the state, and the
first window refused with its status. -/
def State.admitWins (s : State) (n : Nat) (new : List Nat) : State × Option (Nat × Nat) :=
  let old := s.winCharges n
  (List.range 16).foldl (fun (a : State × Option (Nat × Nat)) i =>
    match a.2 with
    | some _ => a
    | none =>
      let s := a.1
      let v := new.getD i 0
      let o := s.fld (Reg.COMP_WIN_STATUS n i) 31 16
      let cap := s.regN Reg.LEDGER_CAPACITY
      let st := if Nat.ble v o then 0
        else if Nat.blt (min cap (s.regN Reg.LEDGER_FLOOR)) (s.liveExact - o + v) then 5
        else if Nat.blt cap (s.committedFull - o + v) then 6
        else 0
      if st == 0 then (s.setFld (Reg.COMP_WIN_STATUS n i) 31 16 v, none)
      else (((s.setWinCharges n old).setFld (Reg.COMP_WIN_STATUS n i) 7 0 st), some (i, st))) (s, none)

/-! ### Requests and decisions -/

/-- The order of requests (R342): contexts ascending, compositors after them. -/
def AdmitReq.order (r : AdmitReq) : Nat := r.ctx + (if r.comp then 256 else 0)

/-- A request put before the ledger: PENDING of its context. -/
def State.askAdmission (s : State) (r : AdmitReq) : State :=
  if s.ledger.waiting.elem r then s
  else
    let s := { s with ledger := { s.ledger with waiting := s.ledger.waiting ++ [r] } }
    if r.comp then s else s.setRbit (Reg.CTX_ADMIT_STATUS r.ctx) 9 true

/-- A request withdrawn. -/
def State.dropRequest (s : State) (r : AdmitReq) : State :=
  let s := { s with ledger := { s.ledger with waiting := s.ledger.waiting.filter (· != r) } }
  if r.comp then s else s.setRbit (Reg.CTX_ADMIT_STATUS r.ctx) 9 false

/-- The decision on a hand-over that waits for its hand-over point (R548). -/
def State.decisionOf (s : State) (r : AdmitReq) : Option AdmitDec := s.ledger.decided.find? fun d => d.req == r

def State.forgetDecision (s : State) (r : AdmitReq) : State :=
  { s with ledger := { s.ledger with decided := s.ledger.decided.filter fun d => d.req != r } }

def State.noteDecision (s : State) (d : AdmitDec) : State :=
  { s with ledger := { s.ledger with decided := s.ledger.decided ++ [d] } }

/-- A decision discarded: what was committed before it stands again. -/
def State.discardDecision (s : State) (d : AdmitDec) : State :=
  let s := s.forgetDecision d.req
  if d.status != 0 then s
  else if d.req.comp then (s.setWinCharges d.req.ctx d.oldWins).showSums
  else
    let s := s.modCtx d.req.ctx fun x => { x with chg := d.oldChg, msas := d.oldMsas }
    (s.showCharge d.req.ctx).showSums

/-- The decision on a hand-over of a context that is admitted (R339, R341). -/
def State.decideCtxHandover (s : State) (r : AdmitReq) : State :=
  let x := s.ctx r.ctx
  let s := s.dropRequest r
  match s.formCharge r.ctx with
  | .inl st => ((s.bump Reg.LEDGER_REFUSALS 1).admitStatus r.ctx st).noteDecision
      { req := r, chg := Charge.zero, wins := [], status := st, oldChg := x.chg, oldMsas := x.msas, oldWins := [] }
  | .inr g =>
    let a := s.admitCtx r.ctx g
    a.1.noteDecision { req := r, chg := g, wins := [], status := a.2, oldChg := x.chg, oldMsas := x.msas, oldWins := [] }

/-- The decision on a hand-over of a compositor (R426). -/
def State.decideComp (s : State) (r : AdmitReq) : State :=
  let old := s.winCharges r.ctx
  let new := s.formWins r.ctx
  let s := s.dropRequest r
  let d : AdmitDec := { req := r, chg := Charge.zero, wins := new, status := 0, oldChg := Charge.zero, oldMsas := [], oldWins := old }
  match s.admitWins r.ctx new with
  | (t, none) => t.showSums.noteDecision d
  | (t, some (i, st)) => ((t.bump Reg.LEDGER_REFUSALS 1).showSums).noteDecision { d with status := 16 * st + i + 256 }

/-! ### Measurement -/

/-- h × K × p of a bay, in 1/(8 × 2^16) of 0.1 PWU (R325, R708); 0 out of service or granted. -/
def State.bayRaw (s : State) (b : Nat) : Nat :=
  if s.bayInService b && !(s.bay b).granted then
    s.regN (Reg.MARGIN_CANARY b) * s.otpLE (0x320 + 4 * b) 4 * (s.bayEngines b).length
  else 0

/-- The measured rate of canary i beside the lanes or the arrays, in Mbin/s or Mpx/s (R328, R708). -/
def State.unitRate (s : State) (i : Nat) : Nat := s.regN (Reg.MARGIN_CANARY i) * s.otpLE (0x320 + 4 * i) 4 / 65536

/-- Lane n and array n at the rates of their canaries (R714). -/
def State.measureUnits (s : State) : State :=
  let s := s.forEach (List.range 24) fun n s => s.setRegN (Reg.EL_RATE n) (s.unitRate (12 + n / 4))
  let s := s.forEach (List.range 8) fun n s => s.setRegN (Reg.MSA_RATE n) (s.unitRate (18 + n / 2))
  (s.setRegN Reg.LEDGER_EL_CAP (sumOf (fun n => s.regN (Reg.EL_RATE n)) (List.range 24))).setRegN Reg.LEDGER_MSA_CAP
    (sumOf (fun n => s.regN (Reg.MSA_RATE n)) (List.range 8))

def intMax (l : List Int) : Int := match l with
  | [] => 0
  | x :: r => r.foldl max x

/-- The readings of an interval (R714, R715). -/
def State.readMonitors (s : State) (f : LedgerFacts) : State :=
  let s := s.forEach (List.range 24) fun i s => s.setRegN (Reg.MARGIN_CANARY i) (f.canaries.getD i 0)
  let s := s.forEach (List.range 12) fun b s => s.setRegN (Reg.BAY_LOAD b) (f.loads.getD b 0)
  let hi := intMax f.temps
  let mean := if f.temps.isEmpty then 0 else f.temps.foldl (· + ·) 0 / (f.temps.length : Int)
  let s := s.setReg Reg.MARGIN_TEMP (putBits (putBits 0 15 0 (w32 hi).toNat) 31 16 (w32 mean).toNat)
  if s.rbit Reg.MARGIN_STATUS 3 then s.setRbit Reg.MARGIN_STATUS 3 !(decide (hi < 1000))
  else if 1050 < hi then (s.setRbit Reg.MARGIN_STATUS 3 true).raise 500 FaultKind.TEMP_HIGH (w32 hi).toNat
  else s

/-- The highest reading of the last interval, 0.1 °C. -/
def State.hottest (s : State) : Int := sx 16 (s.fld Reg.MARGIN_TEMP 15 0)

/-- The raw ledger of an update and what follows from it (R325 to R327). -/
def State.measure (s : State) : State :=
  let raws := (List.range 12).map s.bayRaw
  let s := s.forEach (List.range 12) fun b s => s.setRegN (Reg.LEDGER_BAY b) (raws.getD b 0 / 524288)
  let raw := sumOf id raws * (1000 - s.fld Reg.LEDGER_CTRL 7 0) / 524288000
  let l := (raw :: s.ledger.raws).take 8
  let s := { s with ledger := { s.ledger with raws := l } }
  let s := s.setRegN Reg.LEDGER_CAPACITY (l.foldl min raw)
  let n := ((List.range 12).filter fun b => s.bayInService b && !(s.bay b).granted).length
  ((s.setFld Reg.LEDGER_STATUS 3 0 n).setRbit Reg.LEDGER_STATUS 11 true).wrapAdd Reg.LEDGER_SEQ 1

/-- R346: the fields of LEDGER_CTRL lie in their ranges. -/
def ledgerCtrlOk (v : Word) : Bool :=
  Nat.ble (bits v 7 0) 100 && Nat.ble 1 (bits v 11 8) && Nat.ble (bits v 11 8) 12

/-- R338. -/
def State.judgeDeficit (s : State) : State :=
  let d := Nat.blt (s.regN Reg.LEDGER_CAPACITY) s.liveExact
  (s.doIf (d && !s.rbit Reg.LEDGER_STATUS 8) fun s => s.raise 500 FaultKind.LEDGER_DEFICIT 0).setRbit Reg.LEDGER_STATUS 8 d

/-- R344, R710 steps 1 and 2: a bay asked for by REH_CMD is granted or not. -/
def State.judgeRehearsal (s : State) : State :=
  if s.fld Reg.REH_STATUS 2 0 == 1 then
    let b := s.fld Reg.REH_STATUS 11 8
    let left := s.regN Reg.LEDGER_CAPACITY - s.regN (Reg.LEDGER_BAY b)
    let fits := Nat.ble (s.regN (Reg.LEDGER_BAY b)) (s.regN Reg.LEDGER_CAPACITY) && Nat.ble s.committed left &&
      Nat.ble s.liveExact left
    if fits then (s.setFld Reg.REH_STATUS 2 0 2).modBay b fun x => { x with granted := true }
    else (s.setFld Reg.REH_STATUS 2 0 0).setFld Reg.REH_STATUS 23 16 4
  else s

/-! ### Degradation -/

/-- Class and DEGRADE that each step of R300 brings. -/
def stepClass (step : Nat) : Nat := [0, 3, 2, 1, 2, 1].getD step 0
def stepLevel (step : Nat) : Nat := if step == 2 || step == 3 then 1 else 2

/-- Whether a context codes as understudy (R726, R742). -/
def State.shadowCoding (s : State) (c : Nat) : Bool := s.isEncode c && s.fld Reg.PAIR_STATUS 4 3 == 2

/-- The class of an admitted context: that of its active set, in which a decision on a hand-over changes nothing before the copy
(R301, R341, R548); of a context that is not enabled, that of its charge. -/
def State.activeClass (s : State) (p : Nat × Ctx) : Nat :=
  if s.ctxEnabled p.1 then s.fld (Reg.CTX_MODE p.1) 3 2 else p.2.chg.cls

/-- The contexts a step may act on, the one admitted most recently first. -/
def State.stepTargets (s : State) (step : Nat) : List Nat :=
  let cs := s.admittedCtxs.filter fun p =>
    s.activeClass p == stepClass step && Nat.blt p.2.degrade (stepLevel step) && !s.shadowCoding p.1
  (sortBy (fun p => s.ledger.order - p.2.admitOrder) cs).map (·.1)

/-- A step applied to a context (R306). -/
def State.degradeCtx (s : State) (c step : Nat) : State :=
  let prev := (s.ctx c).degrade
  let s := s.modCtx c fun x => { x with degrade := stepLevel step }
  let s := { s with ledger := { s.ledger with stack := { ctx := c, step := step, prev := prev } :: s.ledger.stack, qualify := none } }
  (s.setFld (Reg.CTX_STATUS c) 4 3 (stepLevel step)).raise c FaultKind.CTX_DEGRADED step

/-- R300: steps in order, one context at a time, until committed work no longer exceeds capacity. -/
def State.degrade (s : State) : State :=
  s.forEach [1, 2, 3, 4, 5] fun step s =>
    s.forEach (s.stepTargets step) fun c s =>
      if Nat.blt (s.regN Reg.LEDGER_CAPACITY) s.committed then s.degradeCtx c step else s

/-- Whether capacity exceeds committed work by what the newest step released and 5 % of capacity (R305). -/
def State.qualifies (s : State) : Bool :=
  match s.ledger.stack with
  | [] => false
  | d :: _ =>
    let x := s.ctx d.ctx
    let rel := releasedAt x.degrade x.chg.pwu - releasedAt d.prev x.chg.pwu
    let cap := s.regN Reg.LEDGER_CAPACITY
    Nat.ble (100 * s.committed + 100 * rel + 5 * cap) (100 * cap)

def State.setQualify (s : State) (q : Option Nat) : State := { s with ledger := { s.ledger with qualify := q } }

/-- R305, R337: the newest step undone at the 100th update after the one from which it qualified without a break; the
qualification of the step below it starts at the undo. -/
def State.undoStep (s : State) : State :=
  if !s.qualifies then s.setQualify none
  else match s.ledger.stack, s.ledger.qualify with
    | [], _ => s
    | _, none => s.setQualify (some 0)
    | d :: rest, some n =>
      if Nat.blt (n + 1) 100 then s.setQualify (some (n + 1))
      else
        let s := { s with ledger := { s.ledger with stack := rest } }
        let s := (s.modCtx d.ctx fun x => { x with degrade := d.prev }).setFld (Reg.CTX_STATUS d.ctx) 4 3 d.prev
        s.setQualify (if s.qualifies then some 0 else none)

/-- R300 or R337 at an update (R336). -/
def State.balance (s : State) : State :=
  (if Nat.blt (s.regN Reg.LEDGER_CAPACITY) s.committed then
    let s := { s with ledger := { s.ledger with qualify := none } }
    s.degrade
  else s.undoStep).showSums

/-! ### The voltage plan -/

def State.setpoint (s : State) : Nat := s.fld Reg.MARGIN_VDD 9 0

/-- A setpoint written to the rail (R718): the tries start again. -/
def State.writeSetpoint (s : State) (mv : Nat) : State :=
  let s := (s.setFld Reg.MARGIN_VDD 9 0 mv).emit (.avs 0 mv)
  { s with margin := { s.margin with avsTries := 0 } }

/-- The limit in force (R717, R718). -/
def State.vddLimit (s : State) : Nat :=
  if s.rbit Reg.MARGIN_STATUS 2 then s.margin.avsLimit
  else if s.rbit Reg.MARGIN_STATUS 1 then s.fld Reg.MARGIN_COLD 9 0
  else s.fld Reg.MARGIN_VDD_LIMITS 9 0

def State.voltageLimit (s : State) (b : Bool) : State :=
  (s.setRbit Reg.MARGIN_STATUS 0 b).setRbit Reg.LEDGER_STATUS 9 b

def State.raiseRail (s : State) (mv : Nat) : State :=
  let s := (s.writeSetpoint mv).bump Reg.MARGIN_RAISES 1
  { s with margin := { s.margin with raises := s.margin.raises + 1 } }

def State.lowerRail (s : State) (mv : Nat) : State := (s.writeSetpoint mv).bump Reg.MARGIN_LOWERS 1

def State.setQuiet (s : State) (n : Nat) : State := { s with margin := { s.margin with quiet := n } }

/-- R717: COLD follows the highest reading. -/
def State.judgeCold (s : State) : State :=
  let t : Int := 10 * sx 8 (s.fld Reg.MARGIN_COLD 23 16)
  if s.hottest < t then s.setRbit Reg.MARGIN_STATUS 1 true
  else if t + 50 < s.hottest then s.setRbit Reg.MARGIN_STATUS 1 false
  else s

/-- R716 on a raw ledger; R717 first. -/
def State.plan (s : State) (raw : Nat) : State :=
  let s := s.judgeCold
  let age := s.fld Reg.MARGIN_VDD_LIMITS 9 0
  let sp := s.setpoint
  let m := max (s.regN Reg.LEDGER_FLOOR) s.committedFull * (1000 + s.fld Reg.MARGIN_CTRL 15 8)
  if !s.rbit Reg.MARGIN_STATUS 1 && Nat.blt age sp then s.lowerRail (max age (sp - 5))
  else if !s.rbit Reg.MARGIN_CTRL 0 then s
  else if Nat.blt (1000 * raw) m then
    let s := s.setQuiet 0
    if Nat.blt sp s.vddLimit then s.raiseRail (min (sp + 5) s.vddLimit)
    else if s.rbit Reg.MARGIN_STATUS 0 then s
    else (s.voltageLimit true).raise 500 FaultKind.VOLTAGE_LIMIT sp
  else
    let s := s.voltageLimit false
    let quiet := Nat.ble (m * (1000 + s.fld Reg.MARGIN_CTRL 23 16)) (1000000 * raw)
    let s := s.setQuiet (if quiet then s.margin.quiet + 1 else 0)
    if Nat.ble 1000 s.margin.quiet && Nat.blt (s.fld Reg.MARGIN_VDD_LIMITS 25 16) sp then
      (s.lowerRail (sp - 5)).setQuiet 0
    else s

/-- Entry by entry, two lists of numbers, the shorter taken as zeros. -/
def zipNats (f : Nat → Nat → Nat) (a b : List Nat) : List Nat :=
  (List.range (max a.length b.length)).map fun i => f (a.getD i 0) (b.getD i 0)

/-- The journal cache takes an update (R719). -/
def State.journalUpdate (s : State) (raw : Nat) : State :=
  let m := s.margin
  let cs := (List.range 24).map fun i => s.regN (Reg.MARGIN_CANARY i)
  let t := s.hottest
  let m' : Margin := { m with
    updates := m.updates + 1, canSums := zipNats (· + ·) m.canSums cs, canMax := zipNats max m.canMax cs,
    spSum := m.spSum + s.setpoint, spMax := max m.spMax s.setpoint, tempSum := m.tempSum + t,
    tempMax := if m.updates == 0 then t else max m.tempMax t, rawSum := m.rawSum + raw,
    rawMin := some (min raw (m.rawMin.getD raw)), limited := m.limited + b2n (s.rbit Reg.MARGIN_STATUS 0) }
  { s with margin := m' }

/-! ### Work -/

/-- CTX_WORK_MEASURE (R334): what a context processed in the last second, in samples of all components, and how much of
it was coded Exact. -/
def State.workMeasure (s : State) (c samples exact : Nat) : State :=
  let x := s.ctx c
  if !x.admitted then s
  else
    let mode := s.reg (Reg.CTX_MODE c)
    let lvl := s.reg (Reg.DEC_LEVEL c)
    let work := if x.chg.enc then
        cdiv (samples * encWeight 0 x.chg.refs (bit mode 7) + exact * 12800) 1000000000
      else cdiv (samples * decWeight (bit mode 1) (bits lvl 13 12) (bits lvl 11 8)) 1000000000
    let above := Nat.blt (11 * x.chg.pwu) (10 * work)
    let n := if above then x.overCharges + 1 else 0
    let fire := Nat.ble 2 n && !x.overRaised
    let s := s.setReg (Reg.CTX_WORK c) (sat32 work)
    let s := s.modCtx c fun x =>
      { x with overCharges := n, overRaised := (x.overRaised || fire) && Nat.blt x.chg.pwu work }
    (s.doIf fire fun s => s.raise c FaultKind.CTX_OVER_CHARGE 0).showSums

def execCtxWorkMeasure (c samples exact : Nat) (s : State) : Host.Outcome State Fault Refusal :=
  .next <| s.ifLive (ctxPage c) fun s => s.workMeasure c samples exact

end Sys2Proof.Machine
end

