-- ==== Sys2Proof/Machine/Decoder.lean ====
section
/-! DEFINITION. A decode context's pictures (R261 to R270, R276 to R297): judging a stream, damage, references and output, the
start of a picture, what each CTU comes to, concealment, the end of a picture, the commit of its sheet (R72). -/

namespace Sys2Proof.Machine

/-! ### Errors -/

/-- DEC_LAST_ERROR (R282). -/
def State.lastError (s : State) (c code addr : Nat) : State :=
  s.setRegN (Reg.DEC_LAST_ERROR c) (code % 256 + 65536 * (addr % 65536))

/-- DEC_STATUS.STATE (R313). -/
def State.decState (s : State) (c : Nat) : Nat := s.fld (Reg.DEC_STATUS c) 3 0
def State.setDecState (s : State) (c n : Nat) : State := s.setFld (Reg.DEC_STATUS c) 3 0 n

/-! ### Judging a stream -/

/-- The code of DEC_STATUS.PROFILE (R313); none where R262 and R265 accept no profile at the level. -/
def profileCode (i : SpsInfo) : Option Nat :=
  if !i.constraintsOk then none
  else if i.h264 then
    if i.bitDepth != 8 || Nat.blt 52 i.level then none
    else if i.profile == 66 && i.chroma == 1 then some (if i.compat.elem 77 then 8 else 9)
    else if i.profile == 77 && i.chroma == 1 then some 10
    else if i.profile == 100 && Nat.ble i.chroma 1 then some 11
    else none
  else if Nat.blt 183 i.level then none
  else
    let has (n : Nat) : Bool := i.profile == n || i.compat.elem n
    if has 1 && i.chroma == 1 && i.bitDepth == 8 then some 1
    else if has 2 && i.chroma == 1 && (i.bitDepth == 8 || i.bitDepth == 10) then some 2
    else if has 4 && (i.bitDepth == 8 || i.bitDepth == 10) then some (if i.bitDepth == 8 then 3 else 4)
    else if has 9 && (i.bitDepth == 8 || i.bitDepth == 10) then some 5
    else none

/-- R262, R265, R266, R268: the code under which an activated sequence parameter set is refused, 0 accepted. -/
def State.judgeSps (s : State) (c : Nat) (i : SpsInfo) : Nat :=
  let maxChroma := s.fld (Reg.DEC_LEVEL c) 13 12 + 1
  if (profileCode i).isNone then 10
  else if i.h264 && (i.mbaff || i.fmo) then 11
  else if Nat.blt (s.fld (Reg.DEC_LIMITS c) 15 0) i.width || Nat.blt (s.fld (Reg.DEC_LIMITS c) 31 16) i.height ||
      Nat.blt (s.fld (Reg.DEC_LEVEL c) 7 0) i.level || Nat.blt (s.fld (Reg.DEC_LEVEL c) 11 8) i.bitDepth ||
      Nat.blt maxChroma i.chroma || Nat.blt (s.fld (Reg.DEC_LEVEL c) 20 16) i.dpb then 12
  else 0

/-- Whether a stream needs reordering (R279). -/
def needsReorder (i : SpsInfo) : Bool := i.maxReorder != 0 && !(i.h264 && i.pocType2)

/-- The luma size of a CTU, a macroblock in H.264 (R261). -/
def spsCtuSize (i : SpsInfo) : Nat :=
  if i.h264 then 16
  else ([64, 32, 16].find? fun n => cdiv i.width n == i.ctuCols && cdiv i.height n == i.ctuRows).getD 64

def spsCtuCount (i : SpsInfo) : Nat := i.ctuCols * i.ctuRows

/-- The format a stream's frames are stored in: a monochrome H.264 stream has chroma planes of one value (R265). -/
def spsFmt (i : SpsInfo) : PicFmt :=
  { w := i.width, h := i.height, chroma := if i.h264 && i.chroma == 0 then 1 else i.chroma, depth := i.bitDepth }

/-- The tile of a CTU: tile row and tile column. -/
def spsTile (i : SpsInfo) (a : Nat) : Nat × Nat :=
  let n (l : List Nat) (k : Nat) : Nat := (l.filter fun t => Nat.ble t k).length
  (n i.tileRows (a / max 1 i.ctuCols), n i.tileStarts (a % max 1 i.ctuCols))

/-- What orders CTUs in decoding order: tile row, tile column, raster address. -/
def decKey (i : SpsInfo) (a : Nat) : Nat :=
  let t := spsTile i a
  (t.1 * 2 ^ 20 + t.2) * 2 ^ 40 + a

/-- Whether an access unit holds a first field, a second field, an IRAP picture, one with NoRaslOutputFlag 1. -/
def AccessUnit.isFirst (u : AccessUnit) : Bool := u.slices.any (·.firstField)
def AccessUnit.isSecond (u : AccessUnit) : Bool := u.slices.any (·.secondField)
def AccessUnit.irap (u : AccessUnit) : Bool := u.slices.any (·.irap)
def AccessUnit.noRasl (u : AccessUnit) : Bool := u.slices.any (·.noRasl)
def AccessUnit.isRef (u : AccessUnit) : Bool := u.slices.any (·.isRef)

/-- Its picture's number in the stream, PicOrderCntVal, frame_num. -/
def AccessUnit.picId (u : AccessUnit) : Option Nat := u.slices.head?.map (·.pic)
def AccessUnit.poc (u : AccessUnit) : Int := (u.slices.head?.map (·.poc)).getD 0
def AccessUnit.frameNum (u : AccessUnit) : Nat := (u.slices.head?.map (·.frameNum)).getD 0

/-- The parity of a field picture: 0 top, 1 bottom; none of a frame. -/
def AccessUnit.parity (u : AccessUnit) : Option Nat :=
  match u.slices.find? fun j => j.firstField || j.secondField with
  | some j => some (b2n j.bottom)
  | none => none

/-- The CTUs of a picture: a field picture of an H.264 frame has half the macroblock rows. -/
def fieldCtus (i : SpsInfo) (parity : Option Nat) : Nat :=
  if i.h264 && parity.isSome then i.ctuCols * (i.ctuRows / 2) else spsCtuCount i
def DecPicture.ctuCount (p : DecPicture) (i : SpsInfo) : Nat := fieldCtus i p.parity

/-- The line of the frame that a line of a picture is. -/
def DecPicture.line (p : DecPicture) (v : Nat) : Nat :=
  match p.parity with
  | some b => 2 * v + b
  | none => v

/-- The cell of a CTU of the picture in decoding. -/
def Ctx.decCell (x : Ctx) (a : Nat) : Nat :=
  match x.sps with
  | some i =>
    let row := a / max 1 i.ctuCols
    let field := (x.dpic.map fun p => p.parity.isSome).getD false
    x.cellOfCtu (spsCtuSize i) (a % max 1 i.ctuCols) (if field then 2 * row else row)
  | none => 0

/-- DEC_STATUS and DEC_SIZE of an accepted stream, and its effect on latency (R279, R309, R313). -/
def State.showStream (s : State) (c : Nat) (i : SpsInfo) : State :=
  let st := s.decState c
  let s := s.setRegN (Reg.DEC_STATUS c) (st + 16 * ((profileCode i).getD 0) + 256 * (i.level % 256) + 65536 * b2n (needsReorder i) +
    2 ^ 17 * b2n i.fieldSeq + 2 ^ 18 * b2n i.tiles + 2 ^ 19 * b2n i.wpp)
  let s := s.setRegN (Reg.DEC_SIZE c) (i.width % 65536 + 65536 * (i.height % 65536))
  s.setRbit (Reg.CTX_STATUS c) 2 (s.rbit (Reg.CTX_MODE c) 4 || needsReorder i)

/-- R132: a change of the coded picture size returns every cell record to zero; FRESH_STATUS shows the new grid (R101). -/
def State.takeSize (s : State) (c : Nat) (i : SpsInfo) : State :=
  let x := s.ctx c
  let same := x.codedW == i.width && x.codedH == i.height
  let s := s.modCtx c fun x => { x with
    codedW := i.width, codedH := i.height, winX := i.winLeft, winY := i.winTop, winW := i.winWidth, winH := i.winHeight,
    cells := if same then x.cells else [] }
  (s.doIf (!same) fun s => s.storeCells c).showFresh c

/-- A sequence parameter set met (R268): it takes the place of the one with its identifier. -/
def State.storeSets (s : State) (c : Nat) (l : List SpsInfo) : State :=
  s.modCtx c fun x => { x with spss := l.foldl (fun m i => m.filter (fun k => k.id != i.id) ++ [i]) x.spss }

/-- Whether a slice belongs to the codec of its context and its header is valid so far as one slice tells (R282 code 7, R310). -/
def State.headerOk (s : State) (c : Nat) (j : SliceInfo) : Bool :=
  j.h264 == s.rbit (Reg.CTX_MODE c) 1 && !j.headerError && (s.ctx c).spss.any fun i => i.id == j.sps

/-- The sequence parameter set that a picture refers to: that of its first slice with a valid header; of a picture without one the
set in force. -/
def State.pictureSps (s : State) (c : Nat) (u : AccessUnit) : Option SpsInfo :=
  match u.slices.find? fun j => s.headerOk c j with
  | some j => (s.ctx c).spss.find? fun i => i.id == j.sps
  | none => (s.ctx c).sps

/-- A picture refers to a sequence parameter set (R268, R269): an IRAP picture activates it, and so does another one that refers to a
set not in force.  A refused set is reported at each activation; decoding that is refused resumes at an IRAP picture. -/
def State.activate (s : State) (c : Nat) (i : SpsInfo) (irap : Bool) : State :=
  let x := s.ctx c
  if !irap && (x.refused <|> x.sps) == some i then s
  else
    let code := s.judgeSps c i
    if code != 0 then
      let s := s.modCtx c fun x => { x with refused := some i }
      ((s.lastError c code 0).setDecState c 4).raise c FaultKind.STREAM_UNSUPPORTED code
    else if x.refused.isSome && !irap then s
    else
      let s := s.modCtx c fun x => { x with sps := some i, refused := none }
      (s.takeSize c i).showStream c i

/-! ### Damage -/

/-- The substreams of a slice segment. -/
def sliceStreams (i : SliceInfo) : List (List Nat) := if i.subs.isEmpty then [rangeFrom i.firstCtu i.ctuCount] else i.subs

/-- The CTUs of a slice segment in decoding order. -/
def sliceCtus (i : SliceInfo) : List Nat := (sliceStreams i).flatten

/-- The CTU whose state the substream beginning at `f` takes its CABAC initialisation from under wavefront synchronisation: the
second one of the row above, in its tile (R283). -/
def wppSource (i : SpsInfo) (f : Nat) : Option Nat :=
  let w := i.ctuCols
  if Nat.ble w f && Nat.blt (f % max 1 w + 1) w && spsTile i (f - w + 1) == spsTile i f then some (f - w + 1) else none

/-- The later substreams that a damaged CTU reaches through wavefront synchronisation. -/
def wppDamage (i : SpsInfo) : List Nat → List (List Nat) → List Nat
  | _, [] => []
  | dam, t :: r =>
    let hit := (match t with
      | f :: _ => (wppSource i f).any dam.elem
      | [] => false)
    if hit then t ++ wppDamage i (dam ++ t) r else wppDamage i dam r

/-- R283: the CTUs an error of code 1 to 3 in CTU `a` of a slice segment damages, in decoding order. -/
def sliceDamaged (i : SpsInfo) (j : SliceInfo) (a backoff : Nat) : List Nat :=
  let before := (sliceCtus j).takeWhile (· != a)
  let back := before.drop (before.length - backoff)
  match (sliceStreams j).dropWhile fun t => !t.elem a with
  | [] => back ++ [a]
  | t :: later =>
    let d := back ++ t.dropWhile (· != a)
    d ++ (if i.wpp then wppDamage i d later else [])

/-- The dependent slice segments that follow a damaged one, before the next independent one (R284). -/
def dependents (j : SliceInfo) (l : List SliceInfo) : List SliceInfo :=
  ((l.dropWhile fun k => k.firstCtu != j.firstCtu).drop 1).takeWhile (·.dependent)

/-- The picture in decoding changed. -/
def State.modPic (s : State) (c : Nat) (f : DecPicture → DecPicture) : State :=
  s.modCtx c fun x => { x with dpic := x.dpic.map f }

/-- A mark set on a cell of the picture. -/
def DecPicture.setMark (p : DecPicture) (i : Nat) (f : CellMark → CellMark) : DecPicture :=
  { p with marks := Sparse.set (fun _ => CellMark.zero) p.marks i (f (p.mark i)) }

/-- Whether a CTU is concealed in the picture, and whether it is invalid in it (R286, R290). -/
def DecPicture.conceals (p : DecPicture) (a : Nat) : Bool := p.damaged.elem a || p.holders.elem a
def DecPicture.invalid (p : DecPicture) (a : Nat) : Bool := p.conceals a || p.badCtus.elem a

/-- The CTUs that have become invalid by what they read of the picture itself, in the order of their decoding (R286). -/
def DecPicture.spread (p : DecPicture) : List Nat :=
  p.reads.foldl (fun acc q => if !p.invalid q.1 && q.2.any (fun b => p.invalid b || acc.elem b) then acc ++ [q.1] else acc) []

/-- The invalidity of a CTU carried on to those that read it. -/
def State.spreadDamage (s : State) (c : Nat) : State :=
  let x := s.ctx c
  s.modPic c fun p =>
    let l := p.spread
    l.foldl (fun p a => p.setMark (x.decCell a) fun m => { m with badRef := true }) { p with badCtus := p.badCtus ++ l }

/-- CTUs damaged (R285, R290, R294): concealed, their cells marked; under a code of R282 recorded, none where R284 damages them. -/
def State.damageCtus (s : State) (c : Nat) (code : Option Nat) (as : List Nat) : State :=
  match (s.ctx c).dpic with
  | none => s
  | some p =>
    let as := (as.filter fun a => !p.damaged.elem a).eraseDups
    match as with
    | [] => s
    | a :: _ =>
      let fresh := as.filter fun a => !p.holders.elem a
      let s := s.modPic c fun p => as.foldl (fun p a => p.setMark ((s.ctx c).decCell a) fun m => { m with error := true })
        { p with damaged := p.damaged ++ as, done := p.done.filter fun a => !as.elem a }
      let s := s.forEach ((as.map fun a => (s.ctx c).decCell a).eraseDups) fun i s => s.markCell c i false
      let s := (s.bump (Reg.DEC_CTU_DAMAGED c) as.length).bump (Reg.DEC_CTU_CONCEALED c) fresh.length
      (match code with
       | some n => s.lastError c n a
       | none => s).spreadDamage c

/-- An error of code 1 to 3 in a CTU (R283, R284). -/
def State.ctuError (s : State) (c : Nat) (i : SpsInfo) (a code : Nat) : State :=
  match (s.ctx c).dpic with
  | none => s
  | some p => match p.slices.find? fun j => (sliceCtus j).elem a with
    | some j => s.damageCtus c (some code)
        (sliceDamaged i j a (s.fld (Reg.DEC_LOSS c) 19 16) ++ (dependents j p.slices).flatMap sliceCtus)
    | none => s.damageCtus c (some code) [a]

/-- DECODE_ERROR (R285): once for a picture with damaged CTUs, as it ends, with the first of them in decoding order (DEDUCED,
assumption 50: only then it is known). -/
def State.raiseDamage (s : State) (c : Nat) (p : DecPicture) (i : SpsInfo) : State :=
  match minBy? (decKey i) p.damaged with
  | some a => s.raise c FaultKind.DECODE_ERROR a
  | none => s

/-! ### The frame store (R307) -/

/-- The picture that a stream's frame is stored as. -/
def decPic (c k : Nat) (i : SpsInfo) : PicRef :=
  { base := ctxStore c k, fmt := spsFmt i, winX := i.winLeft, winY := i.winTop, winW := i.winWidth, winH := i.winHeight, num := 0,
    matrix := i.matrix.getD 1, full := i.fullRange, bad := [] }

/-- Pictures that a context's frame store keeps for a use yet to come: those of the decoded picture buffer, those that wait for
their sheet, the newest complete one, those that rows are shown from, those that concealment copies, a first field. -/
def Ctx.keptPlaces (x : Ctx) : List Nat :=
  ((x.dpb.map fun e => e.pic.base) ++ (x.commits.map fun p => p.pic.base) ++ (x.rowPics.filterMap fun q => q.2.map (·.base)) ++
    ([x.shown, x.good.1, x.good.2, x.fieldPic.map (·.pic)].filterMap fun q => q.map (·.base))).map storeIndex

/-- The place of the next picture: of MAX_DPB + 2 the one used least recently among those that nothing needs (R307; the order
is a DESIGN CHOICE, assumption 10). -/
def State.decPlace (s : State) (c : Nat) : Nat :=
  let x := s.ctx c
  let all := List.range (s.fld (Reg.DEC_LEVEL c) 20 16 + 2)
  let free := all.filter fun k => !x.keptPlaces.elem k
  match free.find? fun k => !x.storeUse.elem k with
  | some k => k
  | none => (x.storeUse.reverse.find? fun k => free.elem k).getD 0

/-- A place of the frame store used now. -/
def State.usePlace (s : State) (c base : Nat) : State :=
  s.modCtx c fun x => { x with storeUse := storeIndex base :: x.storeUse.filter (· != storeIndex base) }

/-- Rows are shown from a picture from now on (R419). -/
def State.showRows (s : State) (c : Nat) (p : PicRef) (rows : List Nat) : State :=
  s.modCtx c fun x => { x with rowPics := rows.foldl (fun m r => Sparse.set (fun _ => none) m r (some p)) x.rowPics }

/-- The CTU rows of a stream's frame. -/
def frameRows (i : SpsInfo) : Nat := cdiv i.height (spsCtuSize i)

/-! ### Output (R278) -/

/-- A picture is output (R278, R93): counted, numbered, shown whole, its sheet ready to commit. -/
def State.outputPicture (s : State) (c : Nat) (p : DecPicture) : State :=
  let s := (s.bump (Reg.DEC_PICS_OUT c) 1).setRegN (Reg.DEC_OUT_RTP_TS c) p.au.ts
  let pic := { p.pic with num := (s.ctx c).outCount + 1 }
  let p := { p with pic := pic }
  let s := s.modCtx c fun x => { x with outCount := (x.outCount + 1) % 2 ^ 32, shown := some pic,
                                        commits := if p.au.sheets.isEmpty then x.commits else x.commits ++ [p] }
  let s := match (s.ctx c).sps with
    | some i => s.showRows c pic (List.range (frameRows i))
    | none => s
  s.emit (.picture c p.au.ts p.au.arrival)

/-- Whether a frame stays in the decoded picture buffer: used for reference, waiting for output, or for its second field. -/
def Ctx.keeps (x : Ctx) (e : DpbEntry) : Bool :=
  !e.refs.isEmpty || e.out.isSome || (e.placeholder && e.ids.isEmpty) || (x.fieldPic.map fun q => q.pic.base) == some e.pic.base

/-- Frames that nothing needs leave the decoded picture buffer. -/
def State.tidyDpb (s : State) (c : Nat) : State := s.modCtx c fun x => { x with dpb := x.dpb.filter x.keeps }

/-- The frames that wait for output. -/
def Ctx.outWait (x : Ctx) : List DpbEntry := x.dpb.filter fun e => e.out.isSome

/-- The bumping process: the waiting frame that is first in output order is output. -/
def State.bumpOne (s : State) (c : Nat) : State :=
  match minBy? (fun e : DpbEntry => (e.poc + 2 ^ 40).toNat) (s.ctx c).outWait with
  | none => s
  | some e =>
    let s := (s.modCtx c fun x => { x with dpb := x.dpb.map fun k => if k == e then { k with out := none } else k }).tidyDpb c
    match e.out with
    | some p => s.outputPicture c p
    | none => s

/-- Bumping while a condition holds. -/
def State.bumpWhile (s : State) (c : Nat) (f : Ctx → Bool) : State :=
  s.forEach (List.range (s.ctx c).dpb.length) fun _ s => s.doIf (f (s.ctx c)) fun s => s.bumpOne c

/-- Whether more frames wait for output than reordering needs, or one has waited as long as it may (clause C.5.2.2 of H.265; in an
H.264 stream the first alone). -/
def Ctx.overReorder (x : Ctx) (i : SpsInfo) : Bool :=
  Nat.blt (if needsReorder i then i.maxReorder else 0) x.outWait.length ||
    (match i.maxLatency with
     | some n => !i.h264 && x.outWait.any fun e => Nat.ble n e.latency
     | none => false)

/-- A first field that no second field follows: its frame is output as it is, without a sheet (R281). -/
def State.settleField (s : State) (c : Nat) (second : Bool) : State :=
  match (s.ctx c).fieldPic with
  | none => s
  | some q =>
    if second then s
    else s.modCtx c fun x => { x with
      fieldPic := none,
      dpb := x.dpb.map fun e => if e.pic.base == q.pic.base then { e with out := some { q with au := { q.au with sheets := [] } } } else e }

/-! ### References (R295, R296) -/

/-- A placeholder inserted for a missing reference (R295): of the size in force, every sample at half the range, every CTU invalid,
marked as the picture it stands for; the first asks for a refresh (R154).  `r` names that picture, none for a frame that the
frame_num gap process infers (R296). -/
def State.placeholder (s : State) (c : Nat) (i : SpsInfo) (r : Option RefName) (frameNum : Nat) : State :=
  let s := ((s.bump (Reg.DEC_PLACEHOLDERS c) 1).raise c FaultKind.REF_PLACEHOLDER 0).lastError c 9 0
  let pic := decPic c (s.decPlace c) i
  let ids := (r.map (·.pic)).toList
  let e : DpbEntry := { ids := ids, refs := ids, poc := (r.map (·.poc)).getD 0, frameNum := frameNum, placeholder := true, pic := pic,
                        out := none, latency := 0, invalid := [], derived := [] }
  let s := (s.modCtx c fun x => { x with dpb := x.dpb ++ [e] }).usePlace c pic.base
  let s := s.forEach pic.fmt.planes fun k s =>
    s.putRect pic k 0 0 (pic.fmt.pw k) (pic.fmt.ph k) fun _ _ => 2 ^ (pic.fmt.depth - 1)
  s.wantRefresh c { all := true, cells := [] }

/-- The pictures that the slices of an access unit name as references. -/
def AccessUnit.named (u : AccessUnit) : List RefName :=
  (u.slices.flatMap (·.refs)).foldl (fun l r => if l.any fun k => k.pic == r.pic then l else l ++ [r]) []

/-- A named reference found in the decoded picture buffer, or a placeholder inserted for it; an inferred frame of its frame_num stands
for it. -/
def State.needRef (s : State) (c : Nat) (i : SpsInfo) (r : RefName) : State :=
  let inferred (e : DpbEntry) : Bool := i.h264 && e.placeholder && e.ids.isEmpty && e.frameNum == r.frameNum
  if (s.ctx c).dpb.any fun e => e.refs.elem r.pic then s
  else if (s.ctx c).dpb.any inferred then
    s.modCtx c fun x => { x with dpb := x.dpb.map fun e => if inferred e then { e with ids := [r.pic], refs := [r.pic], poc := r.poc } else e }
  else s.placeholder c i (some r) r.frameNum

/-- Pictures no longer used for reference. -/
def State.unmark (s : State) (c : Nat) (f : Nat → Bool) : State :=
  s.modCtx c fun x => { x with dpb := x.dpb.map fun e => { e with refs := e.refs.filter fun r => !f r } }

/-- Every frame leaves the decoded picture buffer: the waiting ones output first, or not. -/
def State.flushDpb (s : State) (c : Nat) (output : Bool) : State :=
  let s := (s.unmark c fun _ => true).doIf output fun s => s.bumpWhile c fun _ => true
  s.modCtx c fun x => { x with dpb := x.dpb.filter fun e => (x.fieldPic.map fun q => q.pic.base) == some e.pic.base }

/-- The decoded picture buffer as a picture begins (R278, R295; clauses C.5.2.2 of H.265, C.4.4 and C.4.5.3 of H.264). -/
def State.startDpb (s : State) (c : Nat) (i : SpsInfo) (u : AccessUnit) (paired : Bool) : State :=
  let names := u.named
  let s := if u.noRasl && !paired then s.flushDpb c !(u.slices.any (·.noPriorOut))
    else if i.h264 then s
    else s.unmark c fun r => !names.any fun n => n.pic == r
  let s := (s.tidyDpb c).forEach names fun r s => s.needRef c i r
  s.doIf (!paired) fun s => s.bumpWhile c fun x => x.overReorder i || Nat.ble i.dpb x.dpb.length

/-- R296: in H.264 each frame that the frame_num gap process infers is a placeholder. -/
def State.frameGap (s : State) (c : Nat) (u : AccessUnit) (i : SpsInfo) : State :=
  match u.slices with
  | [] => s
  | j :: _ =>
    if !i.h264 then s
    else
      let m := max 1 i.maxFrameNum
      let first := ((s.ctx c).prevFrameNum.map fun q => (q + 1) % m).getD j.frameNum
      let n := if j.noRasl || (s.ctx c).prevFrameNum == some j.frameNum then 0 else (j.frameNum + m - first) % m
      let s := s.forEach (List.range n) fun k s =>
        let s := s.doIf (Nat.ble i.dpb ((s.ctx c).dpb.filter fun e => e.placeholder && e.ids.isEmpty).length) fun s =>
          s.modCtx c fun x => { x with dpb := x.dpb.eraseP fun e => e.placeholder && e.ids.isEmpty }
        (s.placeholder c i none ((first + k) % m)).modCtx c fun x => { x with prevFrameNum := some ((first + k) % m) }
      s.doIf j.isRef fun s => s.modCtx c fun x => { x with prevFrameNum := some (if j.mmco5 then 0 else j.frameNum) }

/-! ### Recovery points (R289) -/

/-- The recovery point that is looked for as a picture begins: its own SEI message's, else the earlier one's, which an IRAP picture
ends. -/
def Ctx.recoveryWait (x : Ctx) (i : SpsInfo) (u : AccessUnit) : Option RecoveryWait :=
  match u.recovery with
  | some (e, n) =>
    let target : Int := if i.h264 then ((u.frameNum : Int) + n) % (max 1 i.maxFrameNum : Nat) else u.poc + n
    some { exact := e, target := target, found := none }
  | none => if u.irap then none else x.recov

/-- Whether a picture is the recovery-point picture that is looked for: in H.265 the first in output order of those met so far that
reach it (DEDUCED, assumption 71), in H.264 that of its frame_num. -/
def RecoveryWait.hits (r : RecoveryWait) (i : SpsInfo) (u : AccessUnit) : Bool :=
  if i.h264 then (u.frameNum : Int) == r.target && (r.found.isNone || u.isSecond)
  else decide (r.target ≤ u.poc) && (match r.found with
    | some n => decide (u.poc < n)
    | none => true)

/-! ### Picture start -/

/-- Whether concealment in a picture copies from the last good picture (R290). -/
def copiesGood (g : Option PicRef × Option PicRef) (i : SpsInfo) (parity : Option Nat) : Bool :=
  let ok (q : Option PicRef) : Bool := match q with
    | some q => q.fmt.w == i.width && q.fmt.h == i.height && q.fmt.chroma == (spsFmt i).chroma
    | none => false
  !i.intraOnly && (match parity with
    | some 0 => ok g.1
    | some _ => ok g.2
    | none => ok g.1 && ok g.2)

/-- The CTUs before one in decoding order in its tile. -/
def ctusBefore (i : SpsInfo) (a : Nat) : List Nat := (List.range a).filter fun k => spsTile i k == spsTile i a

/-- Whether the slice segment before a CTU in decoding order is damaged. -/
def DecPicture.brokenBefore (p : DecPicture) (i : SpsInfo) (a : Nat) : Bool :=
  match (sortBy (fun k => decKey i a - decKey i k) ((List.range (p.ctuCount i)).filter fun k => Nat.blt (decKey i k) (decKey i a))).head? with
  | none => false
  | some b => p.damaged.elem b || p.slices.any fun j => (sliceCtus j).elem b && (sliceCtus j).any p.damaged.elem

/-- A slice segment of the picture in decoding arrives (R265, R272, R282 codes 4 to 7, R284): the CTUs that a gap leaves out are
damaged; one that covers CTUs again is discarded; one with an invalid header, or that depends on a damaged one, is damaged whole. -/
def State.addSlice (s : State) (c : Nat) (i : SpsInfo) (lost : Bool) (j : SliceInfo) : State :=
  match (s.ctx c).dpic with
  | none => s
  | some p =>
    let own := sliceCtus j
    if own.any p.cover.elem then s.lastError c 5 j.firstCtu
    else
      let gap := if i.h264 && i.profile == 66 then [] else (ctusBefore i j.firstCtu).filter fun a => !p.cover.elem a
      let s := s.modPic c fun p => { p with cover := p.cover ++ gap ++ own }
      let s := s.damageCtus c (some (if lost then 6 else 4)) gap
      let broken := (s.ctx c).dpic.any fun p => p.brokenBefore i j.firstCtu
      if !s.headerOk c j || j.sps != i.id then s.damageCtus c (some 7) own
      else if j.dependent && broken then s.damageCtus c none own
      else s.modPic c fun p => { p with slices := insertBy (fun k => decKey i k.firstCtu) j p.slices }

/-- The access unit of the picture in decoding has ended: what it did not deliver is damaged (R282 code 6). -/
def State.closePicture (s : State) (c : Nat) (i : SpsInfo) (u : AccessUnit) : State :=
  match (s.ctx c).dpic with
  | none => s
  | some p =>
    let left := sortBy (decKey i) ((List.range (p.ctuCount i)).filter fun a => !p.cover.elem a)
    (s.modPic c fun p => { p with au := u, arriving := false, cover := p.cover ++ left }).damageCtus c (some 6) left

/-- Work on a picture begins (R289, R295, R298, R322), of an access unit that has ended or is still in assembly (R270). -/
def State.beginDecode (s : State) (c : Nat) (u : AccessUnit) (i : SpsInfo) (ended : Bool) : State :=
  let s := s.settleField c u.isSecond
  let x := s.ctx c
  let partner := if u.isSecond then x.fieldPic else none
  let wait := x.recoveryWait i u
  let rp := wait.any fun r => r.hits i u
  let trusted := u.irap || (rp && (wait.any (·.exact)) && s.rbit (Reg.DEC_CTRL c) 1)
  let s := s.startDpb c i u partner.isSome
  let x := s.ctx c
  let crew := s.pickCrew
  let store := (partner.map (·.pic)).getD (decPic c (s.decPlace c) i)
  let pic : DecPicture :=
    { au := u, arriving := true, irap := u.irap, recovers := rp, trusted := trusted, concealCopy := copiesGood x.good i u.parity,
      marks := (partner.map (·.marks)).getD [], damaged := [], slices := [], cover := [], handed := [], done := [], crew := crew,
      pic := store, good := x.good, raw := [], parity := u.parity, badCtus := [], holders := [], filled := [], reads := [],
      jobsDone := [], rowsDone := [] }
  let s := (s.modCtx c fun x => { x with
    dpic := some pic, started := true,
    recov := wait.map fun r => if rp then { r with found := some (if i.h264 then (u.frameNum : Int) else u.poc) } else r }).usePlace c store.base
  let s := ((s.showCrew c crew).noteStart c).setDecState c (if x.lastDerived then 3 else 2)
  let s := s.forEach u.slices fun j s => s.addSlice c i u.lost j
  s.doIf ended fun s => s.closePicture c i u

/-- A picture passed over; the rest of an access unit still in assembly is discarded. -/
def State.passOver (s : State) (c : Nat) (ended : Bool) : State :=
  s.doIf (!ended) fun s => s.modCtx c fun x => { x with assembling := x.assembling.map fun u => { u with skipped := true } }

/-- A skipped picture that is a reference has a placeholder in its place (R303). -/
def State.skipRef (s : State) (c : Nat) (i : SpsInfo) (u : AccessUnit) : State :=
  s.doIf u.isRef fun s => s.placeholder c i (u.slices.head?.map fun j => { pic := j.pic, poc := j.poc, frameNum := j.frameNum }) u.frameNum

/-- A picture whose stream is accepted is started or skipped (R277, R296, R297, R302, R303). -/
def State.admitPicture (s : State) (c : Nat) (u : AccessUnit) (i : SpsInfo) (ended : Bool) : State :=
  let x := s.ctx c
  let anchor := u.irap || u.recovery.isSome
  if u.slices.any (·.rasl) && x.raslSkip then (s.bump (Reg.DEC_RASL_SKIPPED c) 1).passOver c ended
  else
    let s := s.doIf u.irap fun s => s.modCtx c fun x => { x with raslSkip := u.noRasl }
    let s := s.frameGap c u i
    if x.skipChain && !anchor then ((s.bump (Reg.DEC_SKIPPED c) 1).skipRef c i u).passOver c ended
    else if !s.mayStart c then
      let s := (s.bump (Reg.DEC_SKIPPED c) 1).modCtx c fun x => { x with skipChain := x.skipChain || u.isRef }
      (s.skipRef c i u).passOver c ended
    else (s.modCtx c fun x => { x with skipChain := false }).beginDecode c u i ended

/-- Whether an access unit that has ended is complete: nothing of it lost, every CTU delivered. -/
def State.auComplete (s : State) (c : Nat) (u : AccessUnit) : Bool :=
  match s.pictureSps c u with
  | some i =>
    let got := u.slices.flatMap sliceCtus
    !u.lost && (List.range (fieldCtus i u.parity)).all got.elem
  | none => false

/-- Whether decoding starts with an access unit (R277). -/
def State.startsHere (s : State) (c : Nat) (u : AccessUnit) : Bool :=
  if s.rbit (Reg.DEC_CTRL c) 0 then s.auComplete c u else u.irap || u.recovery.isSome

/-- DEC_PICTURE_START (R269, R270, R277, R298, R299): the oldest access unit that waits, or the one in assembly. -/
def State.decPictureStart (s : State) (c : Nat) : State :=
  if !s.ctxEnabled c || s.isEncode c || (s.ctx c).dpic.isSome || !s.goesFirst c then s
  else match s.nextAu c with
    | none => s
    | some (u, ended) =>
      let s := s.doIf ended fun s => s.modCtx c fun x => { x with queue := x.queue.drop 1 }
      let s := s.storeSets c u.sets
      if !(s.ctx c).started && !s.startsHere c u then s
      else match s.pictureSps c u with
        | none => (s.lastError c 7 ((u.slices.head?.map (·.firstCtu)).getD 0)).passOver c ended
        | some i =>
          let s := s.activate c i u.irap
          if (s.ctx c).refused.isSome then (s.bump (Reg.DEC_AU_DROPPED c) 1).passOver c ended
          else s.admitPicture c u i ended

/-! ### Samples -/

/-- The luma rectangle of a CTU of the picture in decoding, in the picture: left, top, size. -/
def ctuBox (i : SpsInfo) (a : Nat) : Nat × Nat × Nat :=
  let n := spsCtuSize i
  (a % max 1 i.ctuCols * n, a / max 1 i.ctuCols * n, n)

/-- A plane of the picture in decoding: a field picture's has half the frame's lines. -/
def DecPicture.planeSize (p : DecPicture) (k : Nat) : Nat × Nat :=
  (p.pic.fmt.pw k, if p.parity.isSome then p.pic.fmt.ph k / 2 else p.pic.fmt.ph k)

/-- A CTU's samples written: before the filters, and as the filters find them; `f` gives them by plane and position in the
picture. -/
def State.putDec (s : State) (c : Nat) (p : DecPicture) (i : SpsInfo) (a : Nat) (f : Nat → Nat → Nat → Nat) : State :=
  let b := ctuBox i a
  let fmt := { p.pic.fmt with h := (p.planeSize 0).2 }
  let s := s.modPic c fun p => { p with raw := rawPut p.raw fmt b.1 b.2.1 b.2.2 b.2.2 f }
  s.forEach p.pic.fmt.planes fun k s =>
    let r := fmt.planeRect k b.1 b.2.1 b.2.2 b.2.2
    if p.parity.isNone then s.putRect p.pic k r.1 r.2.1 r.2.2.1 r.2.2.2 (f k)
    else s.forEach (rangeFrom r.2.1 (min r.2.2.2 ((p.planeSize k).2 - r.2.1))) fun v s =>
      s.putRect p.pic k r.1 (p.line v) r.2.2.1 1 fun u _ => f k u v

/-- The samples of a CTU told in raster order; the chroma of a monochrome H.264 stream is half the range (R265). -/
def decRaster (fmt : PicFmt) (i : SpsInfo) (a : Nat) (l : List (List Nat)) (k u v : Nat) : Nat :=
  if i.chroma == 0 && k != 0 then 2 ^ (fmt.depth - 1)
  else
    let b := ctuBox i a
    let r := fmt.planeRect k b.1 b.2.1 b.2.2 b.2.2
    rasterAt l r.2.2.1 k (u - r.1) (v - r.2.1)

/-! ### Concealment (R290 to R293) -/

/-- R292 for a sample at (u, v) of a plane, in a block of `n` × `m` samples whose first sample is (x0, y0): the neighbours'
weights and samples before deblocking; `ok` says which of left, right and above lie in a valid CTU of the picture. -/
def interpolate (raw : Sparse Nat) (depth k x0 y0 n m u v : Nat) (ok : Bool × Bool × Bool) : Nat :=
  let i := u - x0
  let j := v - y0
  let wl := if ok.1 then n - i else 0
  let wr := if ok.2.1 then i + 1 else 0
  let wt := if ok.2.2 then m - j else 0
  let w := wl + wr + wt
  if w == 0 then 2 ^ (depth - 1)
  else (wl * rawAt raw k (x0 - 1) v + wr * rawAt raw k (x0 + n) v + wt * rawAt raw k u (y0 - 1) + w / 2) / w

/-- The CTUs left of, right of and above a CTU of the picture, none outside it. -/
def DecPicture.around (p : DecPicture) (i : SpsInfo) (a : Nat) : Option Nat × Option Nat × Option Nat :=
  let w := max 1 i.ctuCols
  (if Nat.blt 0 (a % w) then some (a - 1) else none,
   if Nat.blt (a % w + 1) w && Nat.blt (a + 1) (p.ctuCount i) then some (a + 1) else none,
   if Nat.ble w a then some (a - w) else none)

/-- Whether every neighbour that spatial interpolation of a CTU looks at is decoded or damaged. -/
def DecPicture.settledAround (p : DecPicture) (i : SpsInfo) (a : Nat) : Bool :=
  let n := p.around i a
  [n.1, n.2.1, n.2.2].all fun k => k.all fun b => p.done.elem b || p.damaged.elem b

/-- A concealed CTU's samples: those of the last good picture at the same place, or interpolated (R290 to R292). -/
def State.concealCtu (s : State) (c : Nat) (i : SpsInfo) (a : Nat) : State :=
  match (s.ctx c).dpic with
  | none => s
  | some p =>
    let b := ctuBox i a
    let n := p.around i a
    let good (k : Option Nat) : Bool := k.any fun b => !p.invalid b
    let fmt := { p.pic.fmt with h := (p.planeSize 0).2 }
    let spatial (k u v : Nat) : Nat :=
      let r := fmt.planeRect k b.1 b.2.1 b.2.2 b.2.2
      interpolate p.raw p.pic.fmt.depth k r.1 r.2.1 (min r.2.2.1 (fmt.pw k - r.1)) (min r.2.2.2 (fmt.ph k - r.2.1)) u v
        (good n.1, good n.2.1, good n.2.2)
    let copy (k u v : Nat) : Nat := match if p.line v % 2 == 0 then p.good.1 else p.good.2 with
      | some g => s.sample g k u (p.line v)
      | none => spatial k u v
    (s.modPic c fun p => { p with filled := p.filled ++ [a] }).putDec c p i a (if p.concealCopy then copy else spatial)

/-- The concealed CTUs among some are filled, each once: interpolation waits until the neighbours are settled. -/
def State.concealAll (s : State) (c : Nat) (i : SpsInfo) (as : List Nat) : State :=
  s.forEach as fun a s => match (s.ctx c).dpic with
    | some p => s.doIf (p.conceals a && !p.filled.elem a && (p.concealCopy || p.settledAround i a)) fun s => s.concealCtu c i a
    | none => s

/-- The CTU of a sample of the picture. -/
def sampleCtu (fmt : PicFmt) (i : SpsInfo) (k u v : Nat) : Nat :=
  let n := spsCtuSize i
  let u := if k == 0 then u else u * fmt.subW
  let v := if k == 0 then v else v * fmt.subH
  v / n * i.ctuCols + u / n

/-- The Filter Stage's changes in the picture in decoding: none in a concealed CTU, none across an edge of one or beside a
sample of one (R293), none that looks at a CTU not yet reconstructed (R318). -/
def State.filterDec (s : State) (c : Nat) (es : List FilterEdit) : State :=
  match (s.ctx c).dpic, (s.ctx c).sps with
  | some p, some i =>
    s.forEach es fun e s =>
      let at_ (q : Nat × Nat) : Bool := p.conceals (sampleCtu p.pic.fmt i e.plane q.1 q.2)
      let ready := ((e.x, e.y) :: e.beside).all fun q =>
        let a := sampleCtu p.pic.fmt i e.plane q.1 q.2
        p.done.elem a || p.damaged.elem a
      s.doIf (ready && !at_ (e.x, e.y) && !e.beside.any at_) fun s => s.putRect p.pic e.plane e.x (p.line e.y) 1 1 fun _ _ => e.value
  | _, _ => s

/-! ### One CTU -/

/-- What reading a CTU brings: whether it is invalid, whether it is a placeholder's or placeholder-derived (R286, R287); where R289
suspends the tracking, reading an earlier picture brings neither.  A picture that is not in the decoded picture buffer counts as a
placeholder (DEDUCED, assumption 71). -/
def Ctx.readMarks (x : Ctx) (p : DecPicture) (r : CtuRead) : Bool × Bool :=
  match r.pic with
  | none => (p.invalid r.ctu, p.holders.elem r.ctu)
  | some n =>
    if p.trusted then (false, false)
    else match x.dpb.find? fun e => e.ids.elem n with
      | some e => (e.placeholder || e.invalid.elem (n, r.ctu), e.placeholder || e.derived.elem (n, r.ctu))
      | none => (true, true)

/-- A CTU of the picture in decoding (R282 to R290, R294): decoded, damaged, or concealed. -/
def State.decodeCtu (s : State) (c a : Nat) (f : CtuFacts) : State :=
  let x := s.ctx c
  match x.dpic, x.sps with
  | some p, some i =>
    if p.damaged.elem a || p.done.elem a || !p.slices.any fun j => (sliceCtus j).elem a then s
    else if f.error != 0 then s.ctuError c i a f.error
    else
      let marks := f.reads.map (x.readMarks p)
      let own := f.reads.filterMap fun r => if r.pic.isNone then some r.ctu else none
      let s := s.modPic c fun p => { p with done := p.done ++ [a], reads := p.reads ++ [(a, own)] }
      if marks.any (·.2) then
        let s := s.modPic c fun p => ({ p with holders := p.holders ++ [a] }).setMark (x.decCell a) fun m => { m with placeholder := true }
        (s.markCell c (x.decCell a) true).bump (Reg.DEC_CTU_CONCEALED c) 1
      else
        let s := s.putDec c p i a (decRaster { p.pic.fmt with h := (p.planeSize 0).2 } i a f.samples)
        s.doIf (marks.any (·.1)) fun s => s.modPic c fun p =>
          ({ p with badCtus := p.badCtus ++ [a] }).setMark (x.decCell a) fun m => { m with badRef := true }
  | _, _ => s

/-! ### Rows -/

/-- The tile columns of a picture. -/
def spsTiles (i : SpsInfo) : Nat := i.tileStarts.length + 1

/-- Whether the context runs in sub-frame latency mode: set so (R223, R308), and its stream needs no reordering (R279). -/
def State.subFrame (s : State) (c : Nat) : Bool := !s.rbit (Reg.CTX_MODE c) 4 && !s.rbit (Reg.CTX_STATUS c) 2

/-- A decode row job ends (R290, R293, R316, R419): the concealed CTUs up to its row are filled, what the Filter Stage changes is
written; with every tile column of the row done, the row can be shown in sub-frame mode under the number its picture will
have. -/
def State.decodeJobEnd (s : State) (c row tile : Nat) (es : List FilterEdit) : State :=
  match (s.ctx c).dpic, (s.ctx c).sps with
  | some p, some i =>
    let s := (s.concealAll c i (List.range ((row + 1) * i.ctuCols))).filterDec c es
    let jobs := p.jobsDone ++ [(row, tile)]
    let full := (List.range (spsTiles i)).all fun t => jobs.elem (row, t)
    let s := s.modPic c fun p => { p with jobsDone := jobs, rowsDone := if full then p.rowsDone ++ [row] else p.rowsDone }
    s.doIf (full && s.subFrame c && p.parity.isNone) fun s =>
      s.showRows c { p.pic with num := (s.ctx c).outCount + 1 } [row]
  | _, _ => s

/-! ### Picture end -/

/-- The cells of a picture that hold concealed CTUs (R57). -/
def DecPicture.concealedCells (p : DecPicture) : List Nat := (p.marks.filter fun q => q.2.error || q.2.placeholder).map (·.1)

/-- The frame of the decoded picture buffer that a picture which ends makes, or adds its field to (R278, R281, R286, R287): `out`
is what its output needs. -/
def Ctx.storeDpb (x : Ctx) (i : SpsInfo) (p : DecPicture) (out : Option DecPicture) : List DpbEntry :=
  let ids := p.au.picId.toList
  let refs := if i.h264 && !p.au.isRef then [] else ids
  let tag (l : List Nat) : List (Nat × Nat) := ids.flatMap fun n => l.map fun a => (n, a)
  let bad := tag ((List.range (p.ctuCount i)).filter p.invalid)
  let dpb := if out.isSome then x.dpb.map fun e => if e.out.isSome && decide (p.au.poc < e.poc) then { e with latency := e.latency + 1 } else e
    else x.dpb
  if p.au.isSecond && x.fieldPic.isSome then
    dpb.map fun e => if e.pic.base == p.pic.base then
      { e with ids := e.ids ++ ids, refs := e.refs ++ refs, poc := min e.poc p.au.poc, out := out, invalid := e.invalid ++ bad,
               derived := e.derived ++ tag p.holders } else e
  else dpb ++ [({ ids := ids, refs := refs, poc := p.au.poc, frameNum := p.au.frameNum, placeholder := false, pic := p.pic, out := out,
                  latency := 0, invalid := bad, derived := tag p.holders } : DpbEntry)]

/-- The picture in decoding ends: every CTU of it decoded or damaged; an IRAP or recovery-point picture without placeholder-derived
CTUs after one that held some is a recovery (R289); its frame is stored and output as the output process has it (R278).  A
first field is held for the frame it forms; a field without a partner carries no sheet (R281). -/
def State.endDecode (s : State) (c : Nat) (i : SpsInfo) : State :=
  let s := s.concealAll c i (List.range (((s.ctx c).dpic.map fun p => p.ctuCount i).getD 0))
  match (s.ctx c).dpic with
  | none => s
  | some p =>
    let s := s.raiseDamage c p i
    let x := s.ctx c
    let alone := p.au.isSecond && x.fieldPic.isNone
    let p := { p with pic := { p.pic with bad := p.concealedCells }, raw := [], au := if alone then { p.au with sheets := [] } else p.au }
    let derived := !p.holders.isEmpty
    let s := s.doIf ((p.irap || p.recovers) && x.lastDerived && !derived) fun s => s.bump (Reg.DEC_RECOVERIES c) 1
    let mmco5 := p.au.slices.any (·.mmco5)
    let s := s.doIf (i.h264 && mmco5) fun s => s.flushDpb c true
    let first := p.au.isFirst
    let shows := p.au.slices.isEmpty || p.au.slices.any (·.output)
    let dpb := (s.ctx c).storeDpb i p (if first || !shows then none else some p)
    let good := (if p.parity == some 1 then x.good.1 else some p.pic, if p.parity == some 0 then x.good.2 else some p.pic)
    let s := (s.bump (Reg.DEC_PICS c) 1).modCtx c fun x => { x with
      dpic := none, lastDerived := derived, good := good, fieldPic := if first then some p else none, dpb := dpb }
    let s := s.setDecState c (if derived then 3 else 2)
    let s := s.doIf i.h264 fun s => s.unmark c fun r => p.au.slices.any fun j => j.drops.elem r
    (s.tidyDpb c).bumpWhile c fun x => x.overReorder i

/-- DEC_PICTURE_COMPLETE (R278, R282, R298): its access unit has ended, every CTU is decoded or damaged, every row filtered. -/
def State.decPictureComplete (s : State) (c : Nat) : State :=
  let x := s.ctx c
  match x.dpic, x.sps with
  | some p, some i =>
    if !p.arriving && ((List.range (p.ctuCount i)).all fun a => p.done.elem a || p.damaged.elem a) && !s.hasJob c .decode then s.endDecode c i else s
  | _, _ => s

/-! ### Sheets -/

/-- R747: the entries of a version 2 sheet just evaluated go to the partner and wait for its own. -/
def State.xcheckSend (s : State) (c ts : Nat) (crcs : List Nat) (os : List (Nat × Nat × Nat × Nat)) : State :=
  if !s.linkOpen || s.pairRole == 0 then s
  else
    let t := s.now
    let es := os.map fun o => XEntry.mk c ts o.1 o.2.1 (crcs.getD o.1 0) o.2.2.1 o.2.2.2 t
    let s := s.sendXcheck c ts es.length es
    { s with pair := { s.pair with mine := s.pair.mine ++ es } }.xmatch

/-- SHEET_COMMIT (R72, R88, R123, R131): the sheet of the oldest output picture that has one, against the check values of that
picture's stored samples.  A sheet discarded for its geometry is counted as rejected, not as missing too (DEDUCED, assumption
49).  With MODE Off nothing is evaluated; the geometry is that of the picture; after a change of the coded size its cells are
no longer those of the context, and nothing is evaluated (DEDUCED, assumption 67). -/
def State.sheetCommit (s : State) (c : Nat) : State :=
  match (s.ctx c).commits with
  | [] => s
  | p :: rest =>
    let s := s.modCtx c fun x => { x with commits := rest }
    let x := s.ctx c
    let resized := p.pic.fmt.w != x.codedW || p.pic.fmt.h != x.codedH
    match p.au.sheets with
    | [] => s
    | h :: _ =>
      if !s.contract c then s
      else if beAt h.body 0 1 == 1 then
        match readSheet1 h.body with
        | some (l, t) => if resized then s else s.commit1 c l t h.arrival p
        | none => s
      else match readSheet2 h.body with
        | none => s
        | some sh =>
          if sh.cols != cellsAcross p.pic.fmt.w || sh.rows != cellsAcross p.pic.fmt.h then s.bump (Reg.SHEET_GEOM_MISMATCH c) 1
          else if resized then s
          else
            let crcs := s.cellCrcs p.pic
            let r := s.commit2 c sh h.arrival p crcs
            let n := (r.2.2.filter fun o => o.2.1 == 4).length
            let s := r.1.modCtx c fun x => { x with dec := { x.dec with rejCrc := min 0xFFFFFFFF (x.dec.rejCrc + n) } }
            (s.wantRefresh c { all := false, cells := r.2.1 }).xcheckSend c p.au.ts crcs r.2.2

def execSheetCommit (c : Nat) (s : State) : Host.Outcome State Fault Refusal :=
  .next <| s.ifLive (ctxPage c) fun s => s.sheetCommit c

end Sys2Proof.Machine
end

