-- ==== Sys2Proof/Machine/Packets.lean ====
section
/-! DEFINITION. From packets to access units (R264, R266, R270 to R276): decoding order, access units, their cue sheets (R108, R109,
R128 to R134), and the rows DEC_PACKET_RX and LOSS_WAIT_EXPIRY. -/

namespace Sys2Proof.Machine

/-! ### Access units -/

/-- An access unit with nothing in it. -/
def AccessUnit.start (ts ssrc arrival : Nat) (lost : Bool) : AccessUnit :=
  { ts := ts, ssrc := ssrc, arrival := arrival, slices := [], sets := [], recovery := none, sheets := [], lost := lost,
    dropped := false, skipped := false }

/-- Whether an access unit holds a picture: a slice of one, or a lost NAL unit. -/
def AccessUnit.hasPicture (u : AccessUnit) : Bool := !u.slices.isEmpty || u.lost

/-- The first sheet of a version in an access unit. -/
def AccessUnit.sheetOf (u : AccessUnit) (v : Nat) : Option HeldSheet := u.sheets.find? fun h => beAt h.body 0 1 == v && !h.body.isEmpty

/-- The sheets of a complete access unit judged: the one of the version in force is kept (R108, R109, R128 to R130,
R133, R281), its number seen (R134), the version shown (R163); with MODE Off no sheet is taken and nothing counted (R88).  A
message of another UUID is no sheet and counts nowhere (R105).  An empty sheet leaves a good one of the version in force to be
evaluated; the counters count when the access unit is complete, also for one that is then discarded, refused or skipped (DESIGN
CHOICE, assumption 49). -/
def State.takeSheets (s : State) (c : Nat) (u : AccessUnit) : State × AccessUnit :=
  if !s.contract c then (s, { u with sheets := [] })
  else if u.isFirst then (s.bump (Reg.SHEET_IGNORED c) u.sheets.length, { u with sheets := [] })
  else
    let empty := (u.sheets.filter fun h => h.body.isEmpty).length
    let one := u.sheetOf 1
    let two := u.sheetOf 2
    let kept := (if one.isSome then 1 else 0) + (if two.isSome then 1 else 0)
    let s := (s.bump (Reg.SHEET_MALFORMED c) empty).bump (Reg.SHEET_IGNORED c) (u.sheets.length - empty - kept)
    let v := s.versionInForce c one.isSome two.isSome
    let s := (s.modCtx c fun x => { x with auVersion := v }).sessStatus c
    let pick := if v == 1 then one else if v == 2 then two else none
    match pick with
    | some h =>
      let bad := if v == 1 then (readSheet1 h.body).isNone else (readSheet2 h.body).isNone
      if bad then (s.bump (Reg.SHEET_MALFORMED c) 1, { u with sheets := [] })
      else (match readSheet2 h.body with
        | some sh => s.doIf (v == 2) fun s => s.sheetSeq c sh.seq
        | none => s, { u with sheets := [h] })
    | none => (s.doIf (empty == 0) fun s => s.bump (Reg.SHEET_MISSING c) 1, { u with sheets := [] })

/-- The access unit in assembly ends (R275): its picture is in decoding already, or waits for its start; one without a picture
leaves its parameter sets to the next. -/
def State.endAu (s : State) (c : Nat) : State :=
  match (s.ctx c).assembling with
  | none => s
  | some u =>
    let s := s.modCtx c fun x => { x with assembling := none, marked := x.marked.filter (· != u.ts) }
    if u.dropped then s
    else if !u.hasPicture then s.modCtx c fun x => { x with nextSets := x.nextSets ++ u.sets }
    else
      let r := s.takeSheets c u
      if u.skipped then r.1
      else match (r.1.ctx c).dpic, (r.1.ctx c).sps with
        | some p, some i => if p.arriving then r.1.closePicture c i r.2 else r.1.modCtx c fun x => { x with queue := x.queue ++ [r.2] }
        | _, _ => r.1.modCtx c fun x => { x with queue := x.queue ++ [r.2] }

/-- The access unit in assembly changed. -/
def State.modAu (s : State) (c : Nat) (f : AccessUnit → AccessUnit) : State :=
  s.modCtx c fun x => { x with assembling := x.assembling.map f }

/-- The access unit of a packet or NAL unit that belongs to none: it begins, and is discarded whole while AU_QUEUE others wait (R276);
its arrival is that of its first packet. -/
def State.joinAu (s : State) (c ts ssrc arrival : Nat) : State :=
  match (s.ctx c).assembling with
  | some _ => s.modAu c fun u => { u with arrival := min u.arrival arrival }
  | none =>
    let x := s.ctx c
    let full := Nat.ble (s.fld (Reg.DEC_RATE c) 20 16) x.queue.length
    let u := { AccessUnit.start ts ssrc arrival x.fuLost with sets := x.nextSets, dropped := full }
    let s := s.modCtx c fun x => { x with assembling := some u, nextSets := if full then x.nextSets else [] }
    s.doIf full fun s => (s.bump (Reg.DEC_AU_DROPPED c) 1).lastError c 13 0

/-- Whether the picture in decoding is that of the access unit in assembly (R270). -/
def Ctx.arriving (x : Ctx) : Bool := (x.dpic.map (·.arriving)).getD false

/-- A slice segment of the access unit in assembly; its picture may be in decoding already. -/
def State.takeSlice (s : State) (c : Nat) (j : SliceInfo) : State :=
  let s := s.modAu c fun u => { u with slices := u.slices ++ [j] }
  match (s.ctx c).assembling, (s.ctx c).sps with
  | some u, some i => s.doIf (s.ctx c).arriving fun s => s.addSlice c i u.lost j
  | _, _ => s

/-- A NAL unit in decoding order joins the access unit of its timestamp; another timestamp or the first slice of a different picture
begins another (R264, R266, R275); while STOP is written only that of the picture in progress goes on (R307); user data that is no
cue sheet goes to the SEI_RX hook (R105, R372); a parameter set that fails, or is the other codec's, is discarded (R282 code 8,
R310). -/
def State.passUnit (s : State) (c : Nat) (w : HeldNal) : State :=
  let other := (match (s.ctx c).assembling with
    | none => false
    | some u => u.ts != w.ts || (match w.nal with
      | .slice j => u.slices.any fun k => k.pic != j.pic
      | _ => false))
  let s := s.doIf other fun s => s.endAu c
  if (s.ctx c).stopping && (s.ctx c).assembling.isNone then s
  else match w.nal with
    | .ignored => s.bump (Reg.DEC_NAL_IGNORED c) 1
    | n =>
      let s := s.joinAu c w.ts w.ssrc w.arrival
      if ((s.ctx c).assembling.map (·.dropped)).getD true then s
      else match n with
        | .slice j => s.takeSlice c j
        | .paramSet i =>
          if i.h264 != s.rbit (Reg.CTX_MODE c) 1 then s.lastError c 8 0
          else if (s.ctx c).arriving then s.storeSets c [i]
          else s.modAu c fun u => { u with sets := u.sets ++ [i] }
        | .badParamSet => s.lastError c 8 0
        | .recoveryPoint e k => s.modAu c fun u => { u with recovery := some (e, k) }
        | .userData uuid body =>
          if uuid == sheetUuid then s.modAu c fun u => { u with sheets := u.sheets ++ [({ body := body, arrival := w.arrival } : HeldSheet)] }
          else s.emit (.seiRx c 0xC03 uuid body)
        | _ => s

/-! ### Decoding order (R272) -/

/-- Whether NAL units come with decoding order numbers. -/
def State.usesDon (s : State) (c : Nat) : Bool := !s.rbit (Reg.CTX_MODE c) 1 && s.fld (Reg.DEC_RTP c) 22 8 != 0

/-- The distance of a decoding order number from another, under 16-bit serial arithmetic, above 32768 by as much as it is later. -/
def donKey (d n : Nat) : Nat := (n + 98304 - d % 65536) % 65536

/-- The waiting NAL unit that is first in decoding order. -/
def Ctx.firstDon (x : Ctx) : Option HeldNal :=
  match x.donWait with
  | [] => none
  | w :: _ => minBy? (fun v => donKey w.don v.don) x.donWait

/-- Whether a waiting slice is the next one of its tile in the picture in assembly: slices of different tile columns are decoded in
the order they arrive. -/
def State.nextInTile (s : State) (c : Nat) (w : HeldNal) : Bool :=
  match w.nal, (s.ctx c).assembling with
  | .slice j, some u =>
    let got := u.slices.flatMap sliceCtus
    u.ts == w.ts && (u.slices.any fun k => k.pic == j.pic) &&
      (match s.pictureSps c u with
       | some i => (ctusBefore i j.firstCtu).all got.elem
       | none => false)
  | _, _ => false

/-- The waiting NAL unit that may pass to decoding: the next slice of a tile; else the first in decoding order, when it follows the last
one passed, when none has passed since the start or since a loss, or when the numbers waiting span MAX_DON_DIFF, so that none before
it can still come (DEDUCED, assumption 67). -/
def State.readyDon (s : State) (c : Nat) : Option HeldNal :=
  let x := s.ctx c
  match x.donWait.find? fun w => s.nextInTile c w with
  | some w => some w
  | none => match x.firstDon with
    | none => none
    | some w =>
      let span := (x.donWait.map fun v => donKey w.don v.don - 32768).foldl max 0
      let follows := (match x.lastDon with
        | none => true
        | some d => (d + 1) % 65536 == w.don % 65536)
      if follows || Nat.ble (s.fld (Reg.DEC_RTP c) 22 8) span then some w else none

/-- An access unit whose marker has come ends once none of its NAL units waits. -/
def State.endMarked (s : State) (c : Nat) : State :=
  let x := s.ctx c
  match x.assembling with
  | some u => s.doIf (x.marked.elem u.ts && !x.donWait.any fun w => w.ts == u.ts) fun s => s.endAu c
  | none => s

/-- The NAL units whose turn has come pass to decoding. -/
def State.drainDon (s : State) (c : Nat) : State :=
  s.forEach (List.range (s.ctx c).donWait.length) fun _ s => match s.readyDon c with
    | none => s
    | some w =>
      let s := s.modCtx c fun x => { x with
        donWait := x.donWait.erase w,
        lastDon := if x.lastDon.all fun d => later16 w.don d then some (w.don % 65536) else x.lastDon }
      (s.passUnit c w).endMarked c

/-- A NAL unit of a packet: passed at once, or in the order of the decoding order numbers. -/
def State.unitIn (s : State) (c : Nat) (w : HeldNal) : State :=
  if s.usesDon c then (s.modCtx c fun x => { x with donWait := x.donWait ++ [w] }).drainDon c else s.passUnit c w

/-! ### Packets -/

/-- A lost NAL unit: it belongs to the access unit of this packet. -/
def State.loseUnit (s : State) (c : Nat) (p : RtpPacket) (arrival : Nat) : State :=
  if (s.ctx c).stopping && (s.ctx c).assembling.isNone then s
  else (s.joinAu c p.ts.toNat p.ssrc.toNat arrival).modAu c fun u => { u with lost := true }

/-- The NAL units of a packet, or of the fragmentation unit that it completes. -/
def State.packetUnits (s : State) (c : Nat) (p : RtpPacket) (arrival : Nat) : State :=
  s.forEach p.nals fun n s => s.unitIn c { don := n.don, ts := p.ts.toNat, ssrc := p.ssrc.toNat, arrival := arrival, nal := n.nal }

/-- A packet in order (R272 to R275). -/
def State.takePacket (s : State) (c : Nat) (p : RtpPacket) : State :=
  if p.unsupported then s
  else
    let s := match (s.ctx c).assembling with
      | some u => s.doIf (u.ts != p.ts.toNat && !s.usesDon c) fun s => s.endAu c
      | none => s
    let s := match p.fu with
      | none => (s.packetUnits c p p.arrival).modCtx c fun x => { x with fuLost := false }
      | some (first, last) =>
        let s := s.doIf first fun s => s.modCtx c fun x => { x with fuLost := false, fuArrival := p.arrival }
        if (s.ctx c).fuLost then
          (s.loseUnit c p p.arrival).doIf last fun s => s.modCtx c fun x => { x with fuLost := false }
        else s.doIf last fun s => s.packetUnits c p (s.ctx c).fuArrival
    s.doIf p.marker fun s => (s.modCtx c fun x => { x with marked := x.marked ++ [p.ts.toNat] }).endMarked c

/-- Waiting packets that are now in order. -/
def State.drainPackets (s : State) (c : Nat) : Nat → State
  | 0 => s
  | n + 1 =>
    let x := s.ctx c
    match x.waiting.find? fun p => some p.seq.toNat == x.expSeq with
    | none => s
    | some p =>
      let s := s.modCtx c fun x => { x with waiting := x.waiting.filter fun q => q.seq != p.seq,
                                            expSeq := some ((p.seq.toNat + 1) % 65536) }
      (s.takePacket c p).drainPackets c n

/-- DEC_PACKET_RX (R271 to R275): checked, ordered by sequence number, depacketised. -/
def State.decPacketRx (s : State) (c : Nat) (p : RtpPacket) : State :=
  let id := s.regN (Reg.SESS_STREAM_ID c)
  if !s.ctxEnabled c || s.isEncode c then s
  else if (!s.rbit (Reg.DEC_RTP c) 7 && s.fld (Reg.DEC_RTP c) 6 0 != p.pt.toNat) || (id != 0 && id != p.ssrc.toNat) then
    s.bump (Reg.DEC_PKT_FOREIGN c) 1
  else
    let s := s.streamPacket c p.port.val p.src.toNat p.ssrc.toNat
    let x := s.ctx c
    let q := p.seq.toNat
    let late := match x.expSeq with
      | none => false
      | some e => q != e && !later16 q e
    if late || x.waiting.any (fun w => w.seq == p.seq) then s.bump (Reg.DEC_PKT_LATE c) 1
    else
      let s := s.doIf p.unsupported fun s => s.bump (Reg.DEC_PKT_UNSUP c) 1
      let s := s.modCtx c fun x => { x with expSeq := some (x.expSeq.getD q), waiting := x.waiting ++ [p] }
      s.drainPackets c (x.waiting.length + 1)

def execDecPacketRx (c : Nat) (p : RtpPacket) (s : State) : Host.Outcome State Fault Refusal :=
  .next <| s.ifLive (ctxPage c) fun s => s.decPacketRx c p

/-- The first CTU that the access unit in assembly has not delivered, 0 where none is. -/
def State.missingAt (s : State) (c : Nat) : Nat :=
  match (s.ctx c).assembling with
  | none => 0
  | some u =>
    let got := u.slices.flatMap sliceCtus
    match s.pictureSps c u with
    | some i => (minBy? (decKey i) ((List.range (fieldCtus i u.parity)).filter fun a => !got.elem a)).getD 0
    | none => 0

/-- LOSS_WAIT_EXPIRY (R274, R282 code 6): LOSS_WAIT has passed since the first packet after the gap: what is missing is lost.  With
STOP written and nothing waiting, the access unit in assembly has no more to come (R307; DESIGN CHOICE, assumption 71). -/
def State.lossWaitExpiry (s : State) (c : Nat) : State :=
  let x := s.ctx c
  match x.expSeq, minBy? (fun p : RtpPacket => (p.seq.toNat + 65536 - x.expSeq.getD 0) % 65536) x.waiting with
  | some e, some p =>
    let s := s.bump (Reg.DEC_PKT_LOST c) ((p.seq.toNat + 65536 - e) % 65536)
    let s := s.lastError c 6 (s.missingAt c)
    let s := (s.modAu c fun u => { u with lost := true }).modCtx c fun x => { x with
      expSeq := some p.seq.toNat, fuLost := true, lastDon := none }
    s.drainPackets c x.waiting.length
  | _, _ => s.doIf x.stopping fun s => s.endAu c

def execLossWaitExpiry (c : Nat) (s : State) : Host.Outcome State Fault Refusal :=
  .next <| s.ifLive (ctxPage c) fun s => s.lossWaitExpiry c

end Sys2Proof.Machine
end

