-- ==== Sys2Proof/Machine/Bay.lean ====
section
/-! DEFINITION. Row jobs and Entropy Lanes: placing (R315, R316, R322), the bay sequencer (R317), completion, lanes (R320),
and a bay that leaves service abruptly (R323, R324, R390, R391). -/

namespace Sys2Proof.Machine

/-- Pixel Engine n of the device, its page and its fault source. -/
def State.pxEng (s : State) (n : Nat) : Px := Sparse.get (fun _ => Px.init) s.px n
def State.setPx (s : State) (n : Nat) (x : Px) : State := { s with px := Sparse.set (fun _ => Px.init) s.px n x }
def State.modPx (s : State) (n : Nat) (f : Px → Px) : State := s.setPx n (f (s.pxEng n))

/-- Whether engine n could serve its bay: no machine check of its own holds it out, its block is not in reset. -/
def State.pxUp (s : State) (n : Nat) : Bool := !(s.pxEng n).down && !s.inReset (0x100 + n)

/-- Engine n in PX_STATUS and BAY_STATUS (R324, R348, R391, R395, R399): in service with its bay, halted by a machine check of
its own or of its bay's nano store, the reload of either store under way, stuck with either. -/
def State.servePx (s : State) (n : Nat) : State :=
  let x := s.pxEng n
  let y := s.bay (n / 8)
  let up := s.pxUp n && !y.out
  ((((s.setRbit (Reg.PX_STATUS n) 0 up).setRbit (Reg.PX_STATUS n) 1 (x.down || y.nano)).setRbit (Reg.PX_STATUS n) 2
    (x.reloading || y.reloading)).setRbit (Reg.PX_STATUS n) 3 (x.stuck || y.stuck)).setRbit (Reg.BAY_STATUS (n / 8)) (n % 8) up

/-- The eight engines of a bay, and something done for each. -/
def enginesOf (b : Nat) : List Nat := rangeFrom (8 * b) 8
def State.serveBay (s : State) (b : Nat) : State := s.forEach (enginesOf b) fun n s => s.servePx n

/-- A bay that is out returns once its reset is released, its nano store is good and an engine can serve (R324), unless a
rehearsal has it or found it failing (R710). -/
def State.bayReturn (s : State) (b : Nat) : State :=
  let y := s.bay b
  let back := y.out && !y.nano && !y.granted && !y.failed && !s.inReset (0x080 + b) && (enginesOf b).any s.pxUp
  let s := s.doIf back fun s => (s.modBay b fun x => { x with out := false }).setRbit (Reg.BAY_STATUS b) 16 true
  s.serveBay b

/-- The address of the word in execution, in PX_STATUS (R399). -/
def State.showPx (s : State) (n : Nat) : State :=
  let x := s.pxEng n
  (s.setFld (Reg.PX_STATUS n) 28 16 x.pc).setRbit (Reg.PX_STATUS n) 4 x.cust.isSome

/-! ### Lanes -/

/-- The lanes of a context shown (R347). -/
def State.showLanes (s : State) (c : Nat) : State :=
  s.setFld (Reg.CTX_PLACEMENT c) 24 20 (s.ctx c).lanes.length

/-- The CTUs of a lane's segment (R320): of a slice, or of the substream of a decode picture that begins at a CTU. -/
def State.laneCtus (s : State) (c seg : Nat) : List Nat :=
  let x := s.ctx c
  if s.isEncode c then x.sliceCtus seg
  else match x.dpic with
    | some p => ((p.slices.flatMap sliceStreams).find? fun t => t.head? == some seg).getD []
    | none => []

/-- The next segment or substream of a context that is ready for a lane and has none (R320): the first slice whose row job is resident;
the first substream in decoding order with a CTU yet to decode. -/
def State.nextSegment (s : State) (c : Nat) : Option Nat :=
  let x := s.ctx c
  if s.isEncode c then
    match x.pic with
    | none => none
    | some p => (List.range (x.ctuRows * x.tileCols)).find? fun sl =>
        !p.handed.elem sl && s.bays.any fun b => b.2.jobs.any fun j =>
          j.ctx == c && decide (j.kind = .encode) && j.row * x.tileCols + j.tile == sl
  else
    match x.dpic with
    | none => none
    | some p => ((p.slices.flatMap sliceStreams).find? fun t =>
        t.any fun a => !p.handed.elem a && !p.damaged.elem a).bind (·.head?)

/-- A segment noted as handed to a lane. -/
def State.noteHanded (s : State) (c seg : Nat) : State :=
  let as := s.laneCtus c seg
  s.modCtx c fun x => { x with
    pic := x.pic.map fun p => { p with handed := p.handed ++ [seg] },
    dpic := x.dpic.map fun p => { p with handed := p.handed ++ as } }

/-- ENTROPY_SEGMENT_START (R320): the next ready segment or substream of a context goes to the free lane of the lowest
number; an encode context uses at most 8. -/
def State.entropyStart (s : State) (c : Nat) : State :=
  let enc := s.isEncode c
  if !s.ctxEnabled c || (enc && Nat.ble 8 (s.ctx c).lanes.length) then s
  else match s.nextSegment c, (List.range 24).find? fun n => !s.rbit (Reg.EL_STATUS n) 0 && !s.inReset (0x1A0 + n) with
    | some seg, some n =>
      let s := (s.noteHanded c seg).setRegN (Reg.EL_STATUS n) (1 + 2 * b2n enc + 256 * c)
      (s.modCtx c fun x => { x with lanes := x.lanes ++ [(n, seg)] }).showLanes c
    | _, _ => s

def execEntropySegmentStart (c : Nat) (s : State) : Host.Outcome State Fault Refusal :=
  .next <| s.ifLive (ctxPage c) fun s => s.entropyStart c

/-- Bins that a lane has processed, counted in units of 2^16. -/
def State.laneBins (s : State) (n bins : Nat) : State :=
  let t := Sparse.get (fun _ => 0) s.bins n + bins
  ({ s with bins := Sparse.set (fun _ => 0) s.bins n (t % 65536) }).bump (Reg.EL_BINS n) (t / 65536)

/-- A lane is done with its segment. -/
def State.laneDone (s : State) (c n : Nat) : State :=
  let s := s.setRbit (Reg.EL_STATUS n) 0 false
  (s.modCtx c fun x => { x with lanes := x.lanes.filter fun l => l.1 != n }).showLanes c

/-- Every lane of a context free. -/
def State.freeLanes (s : State) (c : Nat) : State := s.forEach (s.ctx c).lanes fun l s => s.laneDone c l.1

/-! ### Row jobs -/

/-- The CTUs across and down of a context's picture. -/
def State.picCols (s : State) (c : Nat) : Nat :=
  if s.isEncode c then (s.ctx c).ctuCols else ((s.ctx c).sps.map (·.ctuCols)).getD 0
def State.picRows (s : State) (c : Nat) : Nat :=
  let x := s.ctx c
  if s.isEncode c then x.ctuRows
  else match x.sps, x.dpic with
    | some i, some p => p.ctuCount i / max 1 i.ctuCols
    | some i, none => i.ctuRows
    | none, _ => 0

/-- The tile column of a CTU column. -/
def State.tileCol (s : State) (c col : Nat) : Nat :=
  if s.isEncode c then (s.ctx c).tileOf col
  else (((s.ctx c).sps.map (·.tileStarts)).getD []).foldl (fun n f => if Nat.ble f col then n + 1 else n) 0

/-- The CTUs of a row in a tile column. -/
def State.jobCtus (s : State) (c row tile : Nat) : List Nat :=
  let w := s.picCols c
  if Nat.ble (s.picRows c) row then []
  else ((List.range w).filter fun col => s.tileCol c col == tile).map fun col => row * w + col

/-- Whether an engine holds a CTU of a context's picture in a job of the same kind. -/
def State.onEngine (s : State) (c a : Nat) : Bool :=
  s.bays.any fun b => b.2.jobs.any fun j => j.ctx == c && !decide (j.kind = .echo) && j.on.any fun e => e.2 == a

/-- Whether a CTU has been reconstructed, damaged ones among them. -/
def State.ctuDone (s : State) (c a : Nat) : Bool :=
  !s.onEngine c a &&
    (if s.isEncode c then ((s.ctx c).ctu a).decided
     else match (s.ctx c).dpic with
      | some p => p.done.elem a || p.damaged.elem a
      | none => true)

/-- Whether a damaged CTU is passed over by the sequencer. -/
def State.ctuGone (s : State) (c a : Nat) : Bool := (((s.ctx c).dpic.map fun p => p.damaged.elem a).getD false)

def RowJob.same (j : RowJob) (c row tile : Nat) (kind : JobKind) : Bool :=
  j.ctx == c && j.row == row && j.tile == tile && decide (j.kind = kind)

/-- Whether a row job of a kind is resident in a bay. -/
def State.resident (s : State) (c row tile : Nat) (kind : JobKind) : Bool :=
  s.bays.any fun b => b.2.jobs.any fun j => j.same c row tile kind

/-- Whether a row job waits to be placed: its picture is in progress, it is not resident, and it has work, or was lost with a bay
(R323).  A slice that failed echo waits until its echo row job has ended. -/
def State.jobWaits (s : State) (c row tile : Nat) (kind : JobKind) : Bool :=
  let x := s.ctx c
  let as := s.jobCtus c row tile
  !s.resident c row tile kind && !as.isEmpty &&
    (match kind with
     | .decode => !s.isEncode c && x.dpic.any fun p => as.any fun a => p.cover.elem a && !s.ctuDone c a
     | .encode => s.isEncode c && x.pic.isSome &&
        (x.reruns.elem (row, tile, .encode) || (!s.resident c row tile .echo && as.any fun a => !(x.ctu a).decided))
     | .echo => s.isEncode c && s.rbit (Reg.CTX_MODE c) 7 && x.pic.any fun p =>
        !p.echoJobs.elem (row, tile) && as.all fun a => s.ctuDone c a)

/-- The crew of a context's picture. -/
def State.crewOf (s : State) (c : Nat) : List Nat :=
  if s.isEncode c then ((s.ctx c).pic.map (·.crew)).getD [] else ((s.ctx c).dpic.map (·.crew)).getD []

/-- R322: the crew bay that has a free slot and the fewest resident row jobs, but one. -/
def State.bayFor (s : State) (c : Nat) (but : Option Nat) : Option Nat :=
  minBy? (fun b => (s.bay b).jobs.length)
    (sortBy id ((s.crewOf c).filter fun b => s.bayInService b && some b != but && Nat.blt (s.bay b).jobs.length 16))

/-- A row job resident in a bay. -/
def State.putJob (s : State) (b : Nat) (j : RowJob) : State :=
  (s.modBay b fun x => { x with jobs := x.jobs ++ [j] }).syncBay b

/-- ROW_JOB_PLACE (R315, R316, R322). -/
def State.placeJob (s : State) (c row tile : Nat) (kind : JobKind) : State :=
  if s.jobWaits c row tile kind then
    match s.bayFor c none with
    | some b =>
      let again := (s.ctx c).reruns.elem (row, tile, kind)
      let s := s.putJob b { ctx := c, row := row, tile := tile, kind := kind, ctus := s.jobCtus c row tile, started := [], on := [] }
      let s := s.doIf again fun s => s.bump (Reg.BAY_JOB_RERUN b) 1
      s.modCtx c fun x => { x with reruns := x.reruns.erase (row, tile, kind) }
    | none => s
  else s

def execRowJobPlace (c row tile : Nat) (kind : JobKind) (s : State) : Host.Outcome State Fault Refusal :=
  .next <| s.ifLive (ctxPage c) fun s => s.placeJob c row tile kind

/-! ### The sequencer -/

/-- The next CTU of a row job, when it is ready (R317): the one before it and those of the row above up to the next
column are reconstructed; nothing is needed across the edge of a tile but what the CTU itself reads (DEDUCED, assumption 71).  A
slice needs nothing of other slices, so echo decoding looks at its own row alone.  The data of a decode CTU has been handed to a
lane (R270, R320); an encode CTU comes in the order in which rate control decides. -/
def State.readyCtu (s : State) (j : RowJob) : Option Nat :=
  match j.ctus.find? fun a => !j.started.elem a && !s.ctuGone j.ctx a with
  | none => none
  | some a =>
    let x := s.ctx j.ctx
    let w := s.picCols j.ctx
    let up (k : Nat) : Bool := Nat.ble w k || s.tileCol j.ctx k != j.tile || s.ctuDone j.ctx (a - w - a % w + k)
    let above := decide (j.kind = .echo) || Nat.blt a w || (up (a % w) && up (a % w + 1))
    let turn := (match j.kind with
      | .encode => x.pic.any fun p => (x.ctu a).decided || x.decidable a p
      | .decode => x.dpic.any fun p => p.handed.elem a
      | .echo => true)
    if j.on.isEmpty && above && turn then some a else none

/-- The order in which a bay takes ready CTUs (R299, R317): class, row, column. -/
def State.ctuOrder (s : State) (j : RowJob) (a : Nat) : Nat :=
  s.fld (Reg.CTX_MODE j.ctx) 3 2 * 2 ^ 40 + a / max 1 (s.picCols j.ctx) * 2 ^ 20 + a % max 1 (s.picCols j.ctx)

/-- The engine of a bay that is free, the lowest number first. -/
def State.freeEngine (s : State) (b : Nat) : Option Nat :=
  (s.bayEngines b).find? fun e => (s.pxEng (8 * b + e)).item.isNone

/-- Whether what the decoding of a CTU reads of its own picture has been reconstructed (R317). -/
def State.readsReady (s : State) (j : RowJob) (f : CtuFacts) : Bool :=
  !decide (j.kind = .decode) || f.reads.all fun r => r.pic.isSome || s.ctuDone j.ctx r.ctu

/-- A work item on an engine, which starts at its entry. -/
def State.putItem (s : State) (n : Nat) (it : PxItem) : State :=
  (s.modPx n fun x => { x with
    item := some it, pc := it.entry, stack := [], wait := none, seen := 0, cust := none, broken := false }).showPx n

/-- A compositor work item on the free engine of the bay of the lowest number, or waiting for one (R390, R426). -/
def State.startWindow (s : State) (b : Nat) (it : PxItem) : State :=
  match s.freeEngine b with
  | some e => s.putItem (8 * b + e) it
  | none => s.modBay b fun x => { x with items := x.items ++ [it] }

/-- The compositor work item that waits longest, on an engine that is free. -/
def State.nextWindow (s : State) (b : Nat) : State :=
  match (s.bay b).items, s.freeEngine b with
  | it :: r, some e => (s.modBay b fun x => { x with items := r }).putItem (8 * b + e) it
  | _, _ => s

/-- Whether a window of a compositor runs on Pixel Engines: it is charged (R426, R449). -/
def State.runsWindow (s : State) (i : WinItem) : Bool := s.rbit (Reg.COMP_WIN_STATUS i.out.val i.win.val) 9

/-- A CTU of a row job on an engine of a bay (R317): what its coding or decoding comes to is settled by rate control or by the
decoding rules. -/
def State.startCtu (s : State) (b e : Nat) (j : RowJob) (a : Nat) (d : PxDispatch) (f : CtuFacts) : State :=
  let j' := { j with started := j.started ++ [a], on := (e, a) :: j.on }
  let s := s.modBay b fun x => { x with jobs := x.jobs.map fun k => if k == j then j' else k }
  let s := s.putItem (8 * b + e) { work := .ctu j.ctx j.kind a, entry := d.entry.val, slotBase := d.slotBase.toNat, slotLen := d.slotLen }
  match j.kind with
  | .encode => s.doIf (!((s.ctx j.ctx).ctu a).decided) fun s => s.decideCtu j.ctx a
  | .decode => s.decodeCtu j.ctx a f
  | .echo => s

/-- CTU_START (R317): the bay sequencer starts the first ready CTU on a free Pixel Engine, or a work item of a compositor window
that runs on engines (R426; which bay takes it is not said, assumption 74). -/
def State.ctuStart (s : State) (b : Nat) (d : PxDispatch) (f : CtuFacts) : State :=
  match d.window with
  | some i =>
    s.doIf (s.bayInService b && s.runsWindow i) fun s =>
      s.startWindow b { work := .window i, entry := d.entry.val, slotBase := d.slotBase.toNat, slotLen := d.slotLen }
  | none =>
    let ready := (s.bay b).jobs.filterMap fun j => (s.readyCtu j).bind fun a => if s.readsReady j f then some (j, a) else none
    match minBy? (fun p => s.ctuOrder p.1 p.2) ready, s.freeEngine b with
    | some (j, a), some e => s.startCtu b e j a d f
    | _, _ => s

def execCtuStart (b : Fin 12) (d : PxDispatch) (f : CtuFacts) (s : State) : Host.Outcome State Fault Refusal :=
  .next <| s.ifLive (0x080 + b.val) fun s => s.ctuStart b.val d f

/-- An engine is done with its work item, and takes a compositor's that waits. -/
def State.engineDone (s : State) (n : Nat) : State :=
  let s := s.modPx n fun x => { x with item := none, wait := none, cust := none, stack := [] }
  ((s.modBay (n / 8) fun x => { x with jobs := x.jobs.map fun j => { j with on := j.on.filter fun e => e.1 != n % 8 } }).showPx n).nextWindow
    (n / 8)

/-- Whether the bottom edge of a row job can be filtered (R318): the CTUs below it are reconstructed. -/
def State.edgeReady (s : State) (j : RowJob) : Bool :=
  decide (j.kind = .echo) || Nat.ble (s.picRows j.ctx) (j.row + 1) || j.ctus.all fun a => s.ctuDone j.ctx (a + s.picCols j.ctx)

/-- The lanes after a row job of a context (R320): one that works on it has processed its bins, and is free once its segment is
coded or decoded. -/
def State.jobLanes (s : State) (c : Nat) (j : RowJob) (bins : Nat) : State :=
  if decide (j.kind = .echo) then s
  else
    let mine := (s.ctx c).lanes.filter fun l => (s.laneCtus c l.2).any j.ctus.elem
    let s := match mine with
      | l :: _ => s.laneBins l.1 bins
      | [] => s
    s.forEach mine fun l s => s.doIf ((s.laneCtus c l.2).all fun a => s.ctuDone c a) fun s => s.laneDone c l.1

/-- ROW_JOB_COMPLETE (R54, R216, R293, R316): the last CTU of a row job is filtered and written; cells that are complete with it
are checked. -/
def State.jobComplete (s : State) (b c row tile : Nat) (kind : JobKind) (e : JobEnd) : State :=
  match (s.bay b).jobs.find? fun j => j.same c row tile kind with
  | none => s
  | some j =>
    if j.on.isEmpty && s.edgeReady j && j.ctus.all fun a => j.started.elem a || s.ctuGone c a then
      let s := (s.modBay b fun x => { x with jobs := x.jobs.erase j }).syncBay b
      let s := (s.bump (Reg.BAY_JOBS b) 1).jobLanes c j e.bins
      match kind with
      | .encode => s.filterEnc c e.edits
      | .decode => s.decodeJobEnd c row tile e.edits
      | .echo => s.echoJobEnd c row tile e.diffs
    else s

def execRowJobComplete (b : Fin 12) (c row tile : Nat) (kind : JobKind) (e : JobEnd) (s : State) :
    Host.Outcome State Fault Refusal :=
  .next <| s.ifLive (0x080 + b.val) fun s => s.jobComplete b.val c row tile kind e

/-! ### A bay out of service -/

/-- The end of a resident row job whose bay leaves service (R323): what a decode job has not written is damaged as
NAL_MISSING; an encode or echo job is placed again on another bay of the crew, from its first CTU, at once or, when none has a
free slot, as soon as one has (R322). -/
def State.endJob (s : State) (b : Nat) (j : RowJob) : State :=
  match j.kind with
  | .decode =>
    let lost := j.ctus.filter fun a => j.on.any (fun e => e.2 == a) || !j.started.elem a
    let s := s.modPic j.ctx fun p => { p with done := p.done.filter fun a => !lost.elem a }
    s.damageCtus j.ctx (some 6) lost
  | _ => match s.bayFor j.ctx (some b) with
    | some n => (s.putJob n { j with started := [], on := [] }).bump (Reg.BAY_JOB_RERUN n) 1
    | none => s.modCtx j.ctx fun x => { x with reruns := x.reruns ++ [(j.row, j.tile, j.kind)] }

/-- R323: a bay leaves service abruptly; its compositor work items are lost with it (assumption 74). -/
def State.bayAbort (s : State) (b : Nat) : State :=
  let jobs := (s.bay b).jobs
  let s := (s.setRbit (Reg.BAY_STATUS b) 16 false).modBay b fun x => { x with jobs := [], items := [], out := true }
  let s := s.forEach (enginesOf b) fun n s =>
    ((s.modPx n fun x => { x with item := none, wait := none, cust := none }).showPx n).servePx n
  (s.forEach jobs fun j s => s.endJob b j).syncBay b

/-- The jobs of a context leave every bay (R218 step 5, R307 step 4). -/
def State.dropJobs (s : State) (c : Nat) : State :=
  let bays := (s.bays.filter fun b => b.2.jobs.any fun j => j.ctx == c).map (·.1)
  let s := s.forEach bays fun b s =>
    let mine := (s.bay b).jobs.filter fun j => j.ctx == c
    let s := s.forEach (mine.flatMap fun j => j.on.map (·.1)) fun e s => s.engineDone (8 * b + e)
    (s.modBay b fun x => { x with jobs := x.jobs.filter fun j => j.ctx != c }).syncBay b
  (s.freeLanes c).modCtx c fun x => { x with reruns := [] }

end Sys2Proof.Machine
end

