-- ==== Sys2Proof/Machine/CeWord.lean ====
section
/-! DEFINITION. The Cue Engine's microword: its fields (R362), its floor (R352, R353), what makes it illegal (R357, R363,
R364). -/

namespace Sys2Proof.Machine

/-- OPCODE, DELAY_SEL, Y and the operand fields of R362. -/
def ceOp (w : Nat) : Nat := nbits w 31 26
def ceDelaySel (w : Nat) : Nat := nbits w 25 23
def ceY (w : Nat) : Bool := nbit w 22
def ceGd (w : Nat) : Nat := nbits w 21 17
def ceGa (w : Nat) : Nat := nbits w 16 12
def ceGb (w : Nat) : Nat := nbits w 11 7
def ceFn (w : Nat) : Nat := nbits w 6 0
def ceImm12 (w : Nat) : Int := sx 12 (nbits w 11 0)
def ceImm17 (w : Nat) : Nat := nbits w 16 0
def ceCond (w : Nat) : Nat := nbits w 21 19
def ceTarget (w : Nat) : Nat := nbits w 11 0

/-- The step length of R352. -/
def ceDelay (w : Nat) : Nat := [1, 2, 3, 4, 6, 8, 12, 16].getD (ceDelaySel w) 1

/-- The floor of the unit a word uses (R353). -/
def ceFloor (w : Nat) : Nat :=
  let o := ceOp w
  if [8, 9, 13, 14, 15].elem o then 3
  else if Nat.ble o 0x17 then 2
  else if o == 0x18 || o == 0x19 then 6
  else if o == 0x1A || o == 0x1B then 12
  else if o == 0x1C || o == 0x1D then 8
  else if Nat.ble 0x28 o && Nat.ble o 0x2F then 6
  else 1

/-- Reserved opcodes, zero fields that are not zero, BREAK without debug (R357, R363, R364; R589 for PGET, DEDUCED,
assumption 12). -/
def State.ceIllegal (s : State) (w : Nat) : Bool :=
  let o := ceOp w
  [0x1E, 0x1F].elem o || (Nat.ble 0x30 o && o != 0x3E) || (o == 0x3E && !s.rbit Reg.TRUST_DEBUG 0) ||
    (Nat.ble 0x20 o && Nat.ble o 0x26 && nbits w 18 17 != 0) || (o == 0x27 && nbits w 20 12 != 0) || (o == 0x29 && nbits w 11 3 != 0)

/-- An HDR word, and its LENGTH (R364). -/
def isHdr (w : Nat) : Bool := ceOp w == 0x27
def hdrLength (w : Nat) : Nat := nbits w 11 0
def hdrResumable (w : Nat) : Bool := nbit w 21

/-- A hook word's address (R372). -/
def isHook (a : Nat) : Bool := Nat.ble 0xC00 a && Nat.ble a 0xC0F

end Sys2Proof.Machine
end

