-- ==== Sys2Proof/Machine/Dram.lean ====
section
/-! DEFINITION. The LP5 DRAM controller: the address map (R609 to R611), requests and their service (R612 to
R617), refresh (R618 to R624), neighbour refresh (R625), retraining (R626, R627), compression ratios (R630),
enable, stop and halt (R608, R634). -/

namespace Sys2Proof.Machine

/-! ### Addresses -/

/-- The channel address of a DRAM address (R610). -/
def chanAddr (a : Nat) : Nat := a / 2 ^ 10 * 2 ^ 8 + a % 2 ^ 8

/-- A channel address split by the address order (R611): sub-channel, bank (group and bank in one number), row, column
of the 64-byte access, rank. -/
structure DramPlace where
  sub : Nat
  bank : Nat
  row : Nat
  col : Nat
  rank : Nat
  deriving DecidableEq, Repr

def placeOf (order rowBits : Nat) (twoRanks : Bool) (c : Nat) : DramPlace :=
  let row := nbits c (15 + rowBits) 16
  let bg := if order == 0 then nbits c 15 14 else if order == 1 then nbits c 8 7 else nbits c 15 14 ^^^ (row / 4 % 4)
  let ba := if order == 2 then nbits c 13 12 ^^^ (row % 4) else nbits c 13 12
  let col := if order == 1 then nbits c 11 9 + 8 * nbits c 15 14 else nbits c 11 7
  { sub := nbits c 6 6, bank := 4 * bg + ba, row := row, col := col, rank := if twoRanks then nbits c (16 + rowBits) (16 + rowBits) else 0 }

/-- The place of a device address in channel n, under its DRAM_CFG. -/
def State.dramPlace (s : State) (n a : Nat) : DramPlace :=
  placeOf (s.fld (Reg.DRAM_CFG n) 9 8) (14 + s.fld (Reg.DRAM_CFG n) 5 4) (s.rbit (Reg.DRAM_CFG n) 6) (chanAddr a)

/-! ### Channels -/

def State.dramState (s : State) (n : Nat) : Nat := s.fld (Reg.DRAM_STATUS n) 2 0
def State.setDramState (s : State) (n v : Nat) : State := s.setFld (Reg.DRAM_STATUS n) 2 0 v

/-- Ordered service (R613). -/
def State.ordered (s : State) (n : Nat) : Bool :=
  s.domainHeld 11 || s.fld Reg.REH_STATUS 2 0 == 4 || (s.dram n).failed || s.rbit (Reg.DRAM_SERVICE n) 0

/-- The refresh debt of a sub-channel (R618), in DRAM_STATUS. -/
def State.debt (s : State) (n sub : Nat) : Nat := s.fld (Reg.DRAM_STATUS n) (11 + 4 * sub) (8 + 4 * sub)
def State.setDebt (s : State) (n sub v : Nat) : State := s.setFld (Reg.DRAM_STATUS n) (11 + 4 * sub) (8 + 4 * sub) v

/-- MR4 rate of a sub-channel, and its postponement limit (R619, R622). -/
def State.subRate (s : State) (n sub : Nat) : Nat := Sparse.get (fun _ => 0) (s.dram n).rates sub
def State.subLimit (s : State) (n sub : Nat) : Nat :=
  let eff := s.fld (Reg.DRAM_STATUS n) 19 16
  if s.subRate n sub == 0 then eff else if s.subRate n sub == 1 then eff / 2 else 0

/-- POSTPONE_EFF (R619). -/
def State.postponeEff (s : State) (n : Nat) : Nat :=
  let ok (v : Nat) : Bool := Nat.ble v (s.fld (Reg.DRAM_REFRESH n) 3 0) && Nat.ble (3 * v * s.fld (Reg.DRAM_TRFC n) 11 0) 4000
  if ok 8 then 8 else if ok 4 then 4 else if ok 2 then 2 else 0

/-- The rate and the limit in force shown: the hotter sub-channel's. -/
def State.showRate (s : State) (n : Nat) : State :=
  let s := s.setFld (Reg.DRAM_STATUS n) 5 4 (max (s.subRate n 0) (s.subRate n 1))
  s.setFld (Reg.DRAM_STATUS n) 23 20 (min (s.subLimit n 0) (s.subLimit n 1))

/-- The sub-channel of a queued request. -/
def State.subOf (s : State) (n : Nat) (r : DramReq) : Nat := (s.dramPlace n r.addr).sub

/-- Whether a NO_BREAK request is queued in a sub-channel. -/
def State.noBreak (s : State) (n sub : Nat) : Bool :=
  ((s.dram n).reads ++ (s.dram n).writes).any fun r => r.noBreak && s.subOf n r == sub

/-- tREFI in ns at the rate of a sub-channel (the worked example of R619; PRESUMED halved and quartered above). -/
def State.tRefi (s : State) (n sub : Nat) : Nat := 3906 / 2 ^ s.subRate n sub

/-- Refreshes issued: counted, every row closed. -/
def State.refresh (s : State) (n sub k : Nat) : State :=
  let t := s.now
  let s := s.bump (Reg.DRAM_REFRESHES n) k
  s.modDram n fun x => { x with
    rows := x.rows.filter fun p => p.1 / 64 != sub, refAt := Sparse.set (fun _ => 0) x.refAt sub t }

/-- Whether a fault source is a bay: its reads are those of its Prediction Fetch Unit (DESIGN CHOICE, assumption 64). -/
def byFetch (source : Nat) : Bool := Nat.ble 352 source && Nat.blt source 364

/-- The slots that reservations keep resident (R632), as ranges of 128-byte units: of each reserved reference of an encode
context the luma of 320 rows around each CTU row that a bay codes. -/
def State.refBands (s : State) : List (Nat × Nat) :=
  let miss := s.bands.2
  (s.admittedCtxs.filter fun p => p.2.chg.enc).flatMap fun p =>
    let n := p.2.chg.refs - ((miss.find? fun q => q.1 == p.1).map (·.2)).getD 0
    let rows := s.bays.flatMap fun b => (b.2.jobs.filter fun j => j.ctx == p.1 && j.kind == .encode).map (·.row)
    (p.2.refs.take n).flatMap fun r => rows.map fun y =>
      (r.pic.slots 0 / 128 + (64 * y - 128) / 8 * r.pic.fmt.across 0,
        r.pic.slots 0 / 128 + cdiv (min r.pic.fmt.h (64 * y + 192)) 8 * r.pic.fmt.across 0)

def State.refKept (s : State) (slot : Nat) : Bool := s.refBands.any fun b => Nat.ble b.1 slot && Nat.blt slot b.2

/-- A read of a Prediction Fetch Unit that the Reference Cache holds is served from it and reaches no channel; another one
is counted and fills its slot (R631, R638). -/
def State.fetchHit (s : State) (n a : Nat) : State :=
  ((s.refCount true).refTouch s.refKept (s.refSlot a)).emit (.dramData n a (Sparse.get (fun _ => []) (s.refSlot a).units (a / 64 % 2)))

/-- A request accepted (R612); the sectors that a Prediction Fetch Unit reads enter the Reference Cache (R631).  Only requests
of the classes Scan-out and Real-time pixel carry NO_BREAK (R618). -/
def State.acceptDram (s : State) (n : Nat) (q : DramAsk) : State :=
  let a := q.addr.toNat / 64 * 64
  let x := s.dram n
  if Nat.ble s.dramSize a || chanOf a != n then s
  else if s.dramState n != 3 || s.enabled (0x010 + n) == false then s.aborted q.source.toNat a
  else
    let r : DramReq := { write := q.write.isSome, addr := a, cls := q.cls.val, noBreak := q.noBreak && Nat.blt q.cls.val 2,
                         source := q.source.toNat, at_ := s.now, promoted := false,
                         data := if q.write.isSome then [] else s.memBytes a 64 }
    match q.write with
    | some d =>
      if Nat.ble 64 x.writes.length then s
      else
        let s := s.setDram n { x with writes := x.writes ++ [r] }
        s.devWrite q.writer.val a ((List.range 64).map fun i => d.getD i 0)
    | none =>
      if byFetch q.source.toNat && s.refHolds a then s.fetchHit n a
      else if Nat.ble 64 x.reads.length then s
      else
        let sub := s.subOf n r
        let few := Nat.blt x.writes.length (s.fld (Reg.DRAM_WQ n) 5 0)
        let s := s.setDram n { x with reads := x.reads ++ [r], drain := if few then x.drain.filter (· != sub) else x.drain }
        s.doIf (byFetch q.source.toNat) fun s => (s.refCount false).refFill s.refKept a (s.memBytes a 64)

/-- DRAM_REQUEST_ACCEPT (R612): the requests that reach a channel in one handshake step, in the order of their ports. -/
def execDramRequestAccept (n : Fin 4) (qs : List DramAsk) (s : State) : Host.Outcome State Fault Refusal :=
  .next <| s.ifLive (0x010 + n.val) fun s => s.forEach (sortBy (fun q => q.port) qs) fun q s => s.acceptDram n.val q

/-- The key of a bank's open row: sub-channel, rank, bank. -/
def rowKey (p : DramPlace) : Nat := p.sub * 64 + p.rank * 16 + p.bank

/-- Whether a request is to an open row. -/
def State.rowOpen (s : State) (n : Nat) (r : DramReq) : Bool :=
  let p := s.dramPlace n r.addr
  Sparse.get (fun _ => none) (s.dram n).rows (rowKey p) == some p.row

/-- Open-row requests first, then the oldest (R614). -/
def State.byRow (s : State) (n : Nat) (l : List DramReq) : Option DramReq :=
  match l.find? fun r => s.rowOpen n r with
  | some r => some r
  | none => l.head?

/-- Neighbours refreshed on an activate (R625): `d1` and `d2` are the draws of the hardware random source. -/
def State.neighbours (s : State) (n row : Nat) (d1 d2 : Bool) : State :=
  let top := 2 ^ (14 + s.fld (Reg.DRAM_CFG n) 5 4)
  let count (k : Nat) : Nat := b2n (Nat.ble k row) + b2n (Nat.blt (row + k) top)
  let s := s.doIf d1 fun s => s.bump (Reg.DRAM_NBR_REFRESHES n) (count 1)
  s.doIf (d2 && s.rbit (Reg.DRAM_NBR n) 4) fun s => s.bump (Reg.DRAM_NBR_REFRESHES n) (count 2)

/-- A request issued: its row opened, its wait recorded, counted in units of 2^16; a read's data goes back. -/
def State.issueDram (s : State) (n : Nat) (r : DramReq) (d1 d2 : Bool) : State :=
  let p := s.dramPlace n r.addr
  let s := if s.rowOpen n r then s else s.neighbours n p.row d1 d2
  let s := s.modDram n fun x => { x with
    rows := Sparse.set (fun _ => none) x.rows (rowKey p) (some p.row), reads := x.reads.erase r, writes := x.writes.erase r }
  if r.write then
    let t := (s.dram n).writeRem + 1
    (s.modDram n fun x => { x with writeRem := t % 65536 }).bump (Reg.DRAM_WRITES n) (t / 65536)
  else
    let t := (s.dram n).readRem + 1
    let s := (s.modDram n fun x => { x with readRem := t % 65536 }).bump (Reg.DRAM_READS n) (t / 65536)
    (s.keepMax (Reg.DRAM_MAX_READ_WAIT n) (s.now - r.at_)).emit (.dramData n r.addr r.data)

/-- The next request of a sub-channel in normal service (R614), and whether it drains afterwards. -/
def State.pickNormal (s : State) (n sub : Nat) : Option DramReq × Bool :=
  let x := s.dram n
  let rs := x.reads.filter fun r => s.subOf n r == sub
  let ws := x.writes.filter fun r => s.subOf n r == sub
  let high := s.fld (Reg.DRAM_WQ n) 5 0
  let low := s.fld (Reg.DRAM_WQ n) 13 8
  let stay := x.drain.elem sub && Nat.blt low x.writes.length
  let drain := stay || Nat.ble high x.writes.length || rs.isEmpty
  if drain && !ws.isEmpty then (s.byRow n ws, true) else (s.byRow n rs, drain && rs.isEmpty)

/-- Requests that have waited AGE_LIMIT are promoted and counted once (R616). -/
def State.promote (s : State) (n : Nat) : State :=
  let limit := 250 * s.fld (Reg.DRAM_SERVICE n) 14 8
  let due (r : DramReq) : Bool := !r.promoted && Nat.ble (r.at_ + limit) s.now
  let x := s.dram n
  let k := ((x.reads ++ x.writes).filter due).length
  let up (l : List DramReq) : List DramReq := l.map fun r => if due r then { r with promoted := true } else r
  (s.setDram n { x with reads := up x.reads, writes := up x.writes }).bump (Reg.DRAM_PROMOTIONS n) k

/-- The next request of a sub-channel in ordered service (R616). -/
def State.pickOrdered (s : State) (n sub : Nat) : Option DramReq :=
  let x := s.dram n
  let l := sortBy (fun r => r.at_) ((x.reads ++ x.writes).filter fun r => s.subOf n r == sub)
  match l.find? fun r => r.promoted with
  | some r => some r
  | none => minBy? (fun r => r.cls) l

/-- A full retraining is in progress (R627): from the drift to its success or its third failure. -/
def State.retraining (s : State) (n : Nat) : Bool := (s.dram n).failed && Nat.blt (s.dram n).tries 3

/-- DRAM_ISSUE (R614, R616, R623 to R625): an owed refresh comes first when nothing asks for NO_BREAK and the sub-channel
is idle, or a quarter of tREFI has passed since its last refresh.  A channel in full retraining serves no request (R627). -/
def State.dramIssue (s : State) (n sub : Nat) (d1 d2 : Bool) : State :=
  if s.dramState n != 3 then s
  else
    let x := s.dram n
    let idle := !((x.reads ++ x.writes).any fun r => s.subOf n r == sub)
    let owed := Nat.blt 0 (s.debt n sub) && !s.noBreak n sub &&
      (idle || Nat.ble (Sparse.get (fun _ => 0) x.refAt sub + s.tRefi n sub / 4) s.now)
    if owed then (s.setDebt n sub (s.debt n sub - 1)).refresh n sub 1
    else if s.retraining n then s
    else if s.ordered n then
      let s := s.promote n
      match s.pickOrdered n sub with
      | some r => s.issueDram n r d1 d2
      | none => s
    else match s.pickNormal n sub with
      | (some r, drain) =>
        let s := s.modDram n fun x => { x with drain := if drain then sub :: x.drain.filter (· != sub) else x.drain.filter (· != sub) }
        s.issueDram n r d1 d2
      | (none, _) => s

def execDramIssue (n : Fin 4) (sub : Fin 2) (d1 d2 : Bool) (s : State) : Host.Outcome State Fault Refusal :=
  .next <| s.ifLive (0x010 + n.val) fun s => s.dramIssue n.val sub.val d1 d2

/-! ### Refresh -/

/-- REFRESH_DUE (R618): postponed while a NO_BREAK request is queued and the debt is below the limit, else issued. -/
def State.refreshDue (s : State) (n sub : Nat) : State :=
  if s.dramState n != 3 then s
  else if s.noBreak n sub && Nat.blt (s.debt n sub) (s.subLimit n sub) then s.setDebt n sub (s.debt n sub + 1)
  else s.refresh n sub 1

def execRefreshDue (n : Fin 4) (sub : Fin 2) (s : State) : Host.Outcome State Fault Refusal :=
  .next <| s.ifLive (0x010 + n.val) fun s => s.refreshDue n.val sub.val

/-- A sub-channel's rate as a poll finds it (R620 to R622); `rank` is the one that calls for it. -/
def State.setRate (s : State) (n sub new rank : Nat) : State :=
  let old := s.subRate n sub
  let d := s.debt n sub
  let s := s.modDram n fun x => { x with rates := Sparse.set (fun _ => 0) x.rates sub new }
  if new == 2 then
    let s := (s.refresh n sub d).setDebt n sub 0
    s.doIf (old != 2) fun s => s.raise (928 + n) FaultKind.DRAM_HOT (sub + 2 * rank)
  else if old == 0 && new == 1 then
    let pay := 2 * d - s.subLimit n sub
    if pay == 0 then s.setDebt n sub (2 * d)
    else
      let s := ((s.refresh n sub pay).setDebt n sub (s.subLimit n sub)).bump (Reg.DRAM_FORCED_PAYS n) 1
      s.keepMax (Reg.DRAM_MAX_PREEMPT n) (pay * s.fld (Reg.DRAM_TRFC n) 11 0)
  else if old == 1 && new == 0 then s.setDebt n sub (cdiv d 2)
  else s

/-- MR4_POLL (R620 to R622): MR4 of every die, rank 0 of A and B, then rank 1. -/
def State.mr4Poll (s : State) (n : Nat) (dies : List DieMr4) : State :=
  if s.dramState n != 3 then s
  else
    let two := s.rbit (Reg.DRAM_CFG n) 6
    let byte (i : Nat) : Nat := ((dies.drop i).head?.map fun d => d.value.toNat).getD 0
    let rate (i : Nat) : Nat := ((dies.drop i).head?.map fun d => d.rate.val).getD 0
    let s := s.setRegN (Reg.DRAM_MR4 n) (byte 0 + 256 * byte 1 + (if two then 65536 * byte 2 + 2 ^ 24 * byte 3 else 0))
    let sub (s : State) (i : Nat) : State :=
      let r0 := rate i
      let r1 := if two then rate (i + 2) else 0
      s.setRate n i (max r0 r1) (if r0 < r1 then 1 else 0)
    (sub (sub s 0) 1).showRate n

def execMr4Poll (n : Fin 4) (dies : List DieMr4) (s : State) : Host.Outcome State Fault Refusal :=
  .next <| s.ifLive (0x010 + n.val) fun s => s.mr4Poll n.val dies

/-! ### Retraining -/

/-- RETRAIN_PAUSE (R626, R627): `drift` says that tracking cannot follow.  A pause that meets a NO_BREAK request waits up
to 2 ms. -/
def State.retrainPause (s : State) (n : Nat) (drift : Bool) : State :=
  if s.dramState n != 3 || !s.rbit (Reg.DRAM_RETRAIN n) 16 then s
  else
    let due := ((s.dram n).pause).getD s.now
    if (s.noBreak n 0 || s.noBreak n 1) && Nat.blt s.now (due + 2000000) then s.modDram n fun x => { x with pause := some due }
    else
      let s := (s.modDram n fun x => { x with pause := none }).bump (Reg.DRAM_RETRAINS n) 1
      if drift then (s.modDram n fun x => { x with failed := true, tries := 0 }).raise (928 + n) FaultKind.DRAM_TRAIN_FAIL 0
      else s

def execRetrainPause (n : Fin 4) (drift : Bool) (s : State) : Host.Outcome State Fault Refusal :=
  .next <| s.ifLive (0x010 + n.val) fun s => s.retrainPause n.val drift

/-- FULL_RETRAIN_DONE (R627): the third failure in a row leaves ordered service for good. -/
def State.fullRetrain (s : State) (n : Nat) (ok : Bool) : State :=
  if !(s.dram n).failed then s
  else if ok then s.modDram n fun x => { x with failed := Nat.ble 3 x.tries, tries := x.tries }
  else s.modDram n fun x => { x with tries := x.tries + 1 }

def execFullRetrainDone (n : Fin 4) (ok : Bool) (s : State) : Host.Outcome State Fault Refusal :=
  .next <| s.ifLive (0x010 + n.val) fun s => s.fullRetrain n.val ok

/-! ### Enable, training, stop -/

/-- R608 and ORDER 3 (R611): the configuration of a channel is refused. -/
def State.dramBad (s : State) (n : Nat) : Bool :=
  let cfg (i : Nat) : Nat := s.fld (Reg.DRAM_CFG i) 6 4 * 8 + s.fld (Reg.DRAM_CFG i) 2 0
  let gb := s.dramSize / 2 ^ 30
  (List.range 4).any (fun i => cfg i != cfg 0) || Nat.blt gb 4 || Nat.blt 32 gb || s.fld (Reg.DRAM_CFG n) 9 8 == 3 ||
    Nat.ble 5 (s.fld (Reg.DRAM_CFG n) 2 0)

def dramPage (n : Nat) : Nat := 0x010 + n

/-- R634 step 1: a channel whose configuration stands starts to initialise and train. -/
def State.dramStart (s : State) (n : Nat) : State :=
  if s.dramBad n then ((s.setRegN (Reg.DRAM_CFG_STATUS n) 1).setRbit (blkCtrl (dramPage n)) 0 false).setDramState n 0
  else ((s.setDram n DramCh.init).setRbit (blkCtrl (dramPage n)) 0 true).setDramState n 1

/-- The postponement set at enable, and the channel serving. -/
def State.dramServe (s : State) (n : Nat) : State :=
  ((s.setDramState n 3).setFld (Reg.DRAM_STATUS n) 19 16 (s.postponeEff n)).showRate n

/-- DRAM_TRAINING_DONE (R634 steps 1 to 3): an initialised channel trains; a failure is retried from step 1 up to 3 times, and then
leaves the channel off. -/
def State.dramTrained (s : State) (n : Nat) (t : DramTrain) : State :=
  if s.dramState n != 1 && s.dramState n != 2 then s
  else if t == .initialised then s.setDramState n 2
  else if t == .trained then s.dramServe n
  else
    let s := s.raise (928 + n) FaultKind.DRAM_TRAIN_FAIL 0
    let k := (s.dram n).tries
    if Nat.blt k 3 then (s.modDram n fun x => { x with tries := k + 1 }).setDramState n 1
    else (s.setDramState n 0).setRbit (blkCtrl (dramPage n)) 0 false

/-- A queued request issued with draws of R625 that nothing constrains (assumption 2). -/
def State.issueFree (s : State) (n : Nat) (r : DramReq) : State :=
  match s.takeFree with
  | (v, s) => s.issueDram n r (bit v 0) (bit v 1)

/-- DRAM_STOP (R634 step 5): the queued requests complete, the debt is paid. -/
def State.dramStop (s : State) (n : Nat) : State :=
  if s.dramState n != 3 then s
  else
    let x := s.dram n
    let s := s.forEach (x.reads ++ x.writes) fun r s => s.issueFree n r
    let s := s.forEach [0, 1] fun sub s => (s.refresh n sub (s.debt n sub)).setDebt n sub 0
    ((s.modDram n fun x => { x with rows := [], drain := [] }).setDramState n 4).setRbit (blkCtrl (dramPage n)) 0 false

def execDramStop (n : Fin 4) (s : State) : Host.Outcome State Fault Refusal :=
  .next <| s.ifLive (0x010 + n.val) fun s => s.dramStop n.val

/-- DRAM_HALT (R634 step 6): queued requests end with REQ_ABORTED. -/
def State.dramHalt (s : State) (n : Nat) : State :=
  if s.dramState n != 3 then s
  else
    let x := s.dram n
    let s := s.forEach (x.reads ++ x.writes) fun r s => s.aborted r.source r.addr
    ((s.modDram n fun x => { x with reads := [], writes := [], rows := [], drain := [] }).setDramState n 4).setRbit
      (blkCtrl (dramPage n)) 0 false

def execDramHalt (n : Fin 4) (s : State) : Host.Outcome State Fault Refusal :=
  .next <| s.ifLive (0x010 + n.val) fun s => s.dramHalt n.val

/-- DRAM_ENABLE (R608, R634 step 7): from self-refresh, with one retraining pause. -/
def State.dramEnable (s : State) (n : Nat) : State :=
  if s.dramState n != 4 then s
  else if s.dramBad n then (s.setRegN (Reg.DRAM_CFG_STATUS n) 1).setRbit (blkCtrl (dramPage n)) 0 false
  else ((s.setRbit (blkCtrl (dramPage n)) 0 true).dramServe n).bump (Reg.DRAM_RETRAINS n) 1

def execDramEnable (n : Fin 4) (s : State) : Host.Outcome State Fault Refusal :=
  .next <| s.ifLive (0x010 + n.val) fun s => s.dramEnable n.val

/-! ### Compression -/

/-- A ratio register of raw and sector bytes (R630).  A second without a write has no ratio: the value is free (DESIGN CHOICE,
assumption 2). -/
def State.ratio (s : State) (k raw sect : Nat) : State :=
  if sect == 0 then
    match s.takeFree with
    | (v, t) => t.setReg k v
  else s.setReg k (sat32 (256 * raw / sect))

/-- COMPRESSION_RATIO_UPDATE (R333, R630): at the end of each second, over what each channel wrote in it. -/
def State.ratioUpdate (s : State) : State :=
  let ch := (List.range 4).map fun n => ((s.dram n).raw, (s.dram n).sect)
  let s := s.forEach (List.range 4) fun n s =>
    (s.ratio (Reg.DRAM_RATIO n) (s.dram n).raw (s.dram n).sect).modDram n fun x => { x with raw := 0, sect := 0 }
  let s := s.ratio Reg.LEDGER_DRAM_RATIO (sumOf (·.1) ch) (sumOf (·.2) ch)
  let r := s.regN Reg.LEDGER_DRAM_RATIO
  let s := s.forEach (s.admittedCtxs.map (·.1)) fun c s =>
    (s.modCtx c fun x => { x with chg := { x.chg with dram := dramCharge x.chg.enc x.chg.smp r } }).showCharge c
  s.showSums

def execCompressionRatioUpdate (s : State) : Host.Outcome State Fault Refusal :=
  .next <| s.ifLive 0x010 fun s => s.ratioUpdate

end Sys2Proof.Machine
end

