-- ==== Sys2Proof/Machine/Flash.lean ====
section
/-! DEFINITION. The flash and the prompt book in force: option bytes (R658, R659), image slots, the ranges that host
commands and prompt calls may write (R523, R673). -/

namespace Sys2Proof.Machine

/-- `n` bytes of the flash option block in use from an offset, as a number (OPT_FLASH_0 on, R681). -/
def State.optByte (s : State) (o : Nat) : Nat := bits (s.reg (Reg.OPT_FLASH (o / 4))) (8 * (o % 4) + 7) (8 * (o % 4))
def State.optN (s : State) (o n : Nat) : Nat := leNat ((rangeFrom o n).map fun k => BitVec.ofNat 8 (s.optByte k))

/-- A byte of the OTP option area in use (OPT_OTP_0 on). -/
def State.otpOpt (s : State) (o : Nat) : Nat := bits (s.reg (Reg.OPT_OTP (o / 4))) (8 * (o % 4) + 7) (8 * (o % 4))

/-- The entries of SLOTS: 0 Prompter stage, 1 and 2 Stage Manager A and B, 3 vendor patch, 4 customer image, 5 margin
journal: offset and length. -/
def State.slot (s : State) (i : Nat) : Nat × Nat := (s.optN (0x40 + 8 * i) 4, s.optN (0x44 + 8 * i) 4)

/-- Bytes written to the flash. -/
def State.flashWrite (s : State) (a : Nat) (bs : List Byte) : State :=
  { s with flash := Sparse.setRange memReset s.flash a bs }

/-- The ranges that may be written: the option block and the slots but the margin journal. -/
def State.flashRanges (s : State) : List (Nat × Nat) := (0, 0x1000) :: (List.range 5).map s.slot

/-- FLASH_WRITE of the host: the range lies wholly in one of them (R523). -/
def State.hostMayWrite (s : State) (a n : Nat) : Bool :=
  s.flashRanges.any fun r => Nat.ble r.1 a && Nat.ble (a + n) (r.1 + r.2)

/-- The bytes of a range from `a` of `n` that lie in one of some ranges, swept from the lowest address. -/
def coverEnd (a : Nat) : List (Nat × Nat) → Nat
  | [] => a
  | r :: l => coverEnd (if Nat.ble r.1 a && Nat.ble a (r.1 + r.2) then r.1 + r.2 else a) l

/-- FLASH_WRITE by prompt call: no byte lies outside them (R673). -/
def State.callMayWrite (s : State) (a n : Nat) : Bool :=
  n == 0 || Nat.ble (a + n) (coverEnd a (sortBy (·.1) s.flashRanges))

/-- The subsequent state of a bit field set, never cleared (R662). -/
def State.otpOr (s : State) (o : Nat) (bs : List Byte) : State :=
  let old := Sparse.getRange memReset s.otp o bs.length
  { s with otp := Sparse.setRange memReset s.otp o ((old.zip bs).map fun p => p.1 ||| p.2) }

end Sys2Proof.Machine
end

