-- ==== Sys2Proof/Machine/Stores.lean ====
section
/-! DEFINITION. The microcode stores: words and parity (R350, R351, R384, R385), machine checks of a Pixel Engine and their
consequences (R389 to R391), the scrubber (R396), debug reads (R400). -/

namespace Sys2Proof.Machine

/-- The stores by kind: words, width, parity bits, first customer word, fill word (R350, R384). -/
def ucWords (k : Nat) : Nat := [8192, 4096, 4096].getD k 0
def ucWidth (k : Nat) : Nat := [24, 256, 32].getD k 0
def ucInstances (k : Nat) : Nat := [96, 12, 16].getD k 0
def ucCustomer (k : Nat) : Nat := [0x1800, 0xE00, 0xC00].getD k 0
def ucFill (k : Nat) : Nat := [0xF00000, 0, 0xFC000000].getD k 0

/-- Whether an odd number of the low `n` bits is set. -/
def oddBits : Nat → Nat → Bool
  | 0, _ => false
  | k + 1, w => Bool.xor (w % 2 == 1) (oddBits k (w / 2))

/-- The parity bits of a word (R351): one, or one for each quarter of a nanoword. -/
def ucParity (k w : Nat) : Nat :=
  if k == 1 then (List.range 4).foldl (fun p q => p + 2 ^ q * b2n (oddBits 64 (w / 2 ^ (64 * q)))) 0
  else b2n (oddBits (ucWidth k) w)

/-- A word with its parity bits above it. -/
def ucStored (k w : Nat) : Nat := w % 2 ^ ucWidth k + ucParity k w * 2 ^ ucWidth k

/-- What a store holds where no image has written: the ROM base, or the fill word in a customer region. -/
def ucBase (k a : Nat) : Nat := if Nat.ble (ucCustomer k) a then ucFill k else Config.romWord k a % 2 ^ ucWidth k

/-- The words every instance of a kind holds. -/
def State.ucMap (s : State) (k : Nat) : Sparse Nat := if k == 0 then s.stores.px else if k == 1 then s.stores.nano else s.stores.ce
def State.ucCommon (s : State) (k a : Nat) : Nat := Sparse.get (ucBase k) (s.ucMap k) a
def State.setUcMap (s : State) (k : Nat) (m : Sparse Nat) : State :=
  { s with stores := if k == 0 then { s.stores with px := m } else if k == 1 then { s.stores with nano := m } else { s.stores with ce := m } }

/-- The place of a word of an instance. -/
def ucKey (k i a : Nat) : Nat := k * 2 ^ 24 + i * 2 ^ 13 + a

/-- A word of an instance as its store holds it, parity bits included. -/
def State.ucRead (s : State) (k i a : Nat) : Nat :=
  (Sparse.get (fun _ => none) s.stores.own (ucKey k i a)).getD (ucStored k (s.ucCommon k a))

def ucData (k w : Nat) : Nat := w % 2 ^ ucWidth k
def ucGood (k w : Nat) : Bool := ucStored k w == w

/-- The whole store of an instance reloaded from a copy that has passed its check: the words every instance holds; the time of the
reload for the parity errors found in it (R395). -/
def State.ucReload (s : State) (k i : Nat) : State :=
  let mine (key : Nat) : Bool := key / 2 ^ 13 == ucKey k i 0 / 2 ^ 13
  { s with stores := { s.stores with
    own := s.stores.own.filter fun p => !mine p.1,
    reloads := s.stores.reloads.map fun r => if mine r.1 && r.2.isNone then (r.1, some s.now) else r } }

/-! ### Machine checks of a Pixel Engine -/

/-- The address field of a machine check (R389). -/
def checkAddr (store inst a : Nat) : Nat := store * 2 ^ 36 + inst * 2 ^ 28 + a

/-- The work of an engine that stops (R390): a decode CTU is damaged, an encode or echo row job placed again, a compositor work
item run again from its start on another engine. -/
def State.engineLost (s : State) (n : Nat) : State :=
  match (s.pxEng n).item with
  | none => s
  | some it =>
    let b := n / 8
    let job := (s.bay b).jobs.find? fun j => j.on.any fun e => e.1 == n % 8
    let s := s.engineDone n
    match it.work, job with
    | .window i, _ => (s.modDpOut i.out.val fun d => { d with defaults := d.defaults.filter fun q => q.1 != i }).startWindow b it
    | .ctu c .decode a, _ => (s.modPic c fun p => { p with done := p.done.erase a }).damageCtus c (some 6) [a]
    | .ctu _ _ _, some j =>
      let j' := { j with on := j.on.filter fun e => e.1 != n % 8 }
      let s := (s.modBay b fun x => { x with jobs := x.jobs.filter fun k => k != j' }).syncBay b
      s.endJob b j
    | .ctu _ _ _, none => s

/-- A Pixel Engine held out of service: its bit in BAY_STATUS; a bay without engines leaves service (R323, R390). -/
def State.engineOut (s : State) (n : Nat) : State :=
  let s := (s.modPx n fun x => { x with down := true }).servePx n
  if (enginesOf (n / 8)).any s.pxUp then s.engineLost n else s.bayAbort (n / 8)

/-- R395: whether a parity error at a word follows the reload for the last one within 1 s. -/
def State.stuckWord (s : State) (key : Nat) : Bool :=
  s.stores.reloads.any fun r => r.1 == key && (match r.2 with
    | some t => Nat.blt s.now (t + 1000000000)
    | none => false)

/-- A parity error noted at a word, for the reload that follows; what is older than R395 looks back is forgotten. -/
def State.noteParity (s : State) (key : Nat) : State :=
  let keep (r : Nat × Option Nat) : Bool := r.1 != key && (match r.2 with
    | some t => Nat.blt s.now (t + 1000000000)
    | none => true)
  { s with stores := { s.stores with reloads := (key, none) :: s.stores.reloads.filter keep } }

/-- A machine check of a Pixel Engine (R389): cause of PX_MCHECK, fault kind, store, instance and address of the word.  A parity
error of the nano store halts the whole bay (R391); any other holds the engine out.  The Prompter begins to reload the store at once
(R393), but for one that is stuck (R395). -/
def State.pxCheck (s : State) (n cause kind store inst a : Nat) : State :=
  let s := (s.setRegN (Reg.PX_MCHECK n) (cause + 65536 * a)).bump (Reg.PX_MCHECKS n) 1
  let s := s.raise (256 + n) kind (checkAddr store inst a)
  let key := ucKey store inst a
  let parity := cause == 1 || cause == 2
  let stuck := parity && s.stuckWord key
  let s := s.doIf parity fun s => s.noteParity key
  let s := s.doIf stuck fun s => s.raise (256 + n) FaultKind.UCODE_STUCK (checkAddr store inst a)
  if cause == 2 then
    (s.modBay (n / 8) fun x => { x with nano := true, stuck := x.stuck || stuck, reloading := !(x.stuck || stuck) }).bayAbort (n / 8)
  else (s.modPx n fun x => { x with stuck := x.stuck || stuck, reloading := !(x.stuck || stuck) }).engineOut n

/-! ### Scrub, debug -/

/-- The reference copy's region of a kind: its offset from UC_COPY_BASE and its bytes (R385, R402). -/
def copyOffset (k : Nat) : Nat := [0, 0x8000, 0x28000].getD k 0
def copyBytes (k : Nat) : Nat := [0x8000, 0x20000, 0x4000].getD k 0
def wordBytes (k : Nat) : Nat := if k == 1 then 32 else 4
def State.copyBase (s : State) : Nat := s.regN Reg.UC_COPY_BASE_LO + 2 ^ 32 * s.fld Reg.UC_COPY_BASE_HI 7 0

/-- The CRC-32C recorded over a kind's reference copy, and whether the copy still has it (R385, R393). -/
def State.copyCrc (s : State) (k : Nat) : Nat :=
  s.regN (if k == 0 then Reg.UC_COPY_CRC_PX else if k == 1 then Reg.UC_COPY_CRC_NANO else Reg.UC_COPY_CRC_CE)
def State.copyGood (s : State) (k : Nat) : Bool :=
  crc32c (s.memBytes (s.copyBase + copyOffset k) (copyBytes k)) == s.copyCrc k

/-- The bytes of a kind's reference copy, from the words every instance holds (R382, R385). -/
def State.copyOf (s : State) (k : Nat) : List Byte :=
  (List.range (ucWords k)).flatMap fun a => leBytes (wordBytes k) (s.ucCommon k a)

/-- A word of the reference copy (R402). -/
def State.copyWord (s : State) (k a : Nat) : Nat := leNat (s.memBytes (s.copyBase + copyOffset k + a * wordBytes k) (wordBytes k))

/-- The fault source of an instance of a store. -/
def storeSource (k i : Nat) : Nat := if k == 2 then 512 + 16 * i else if k == 0 then 256 + i else 352 + i

/-- An instance's word rewritten from the reference copy (R396). -/
def State.ucRepair (s : State) (k i a : Nat) : State :=
  let w := ucStored k (s.copyWord k a)
  let v := if w == ucStored k (s.ucCommon k a) then none else some w
  { s with stores := { s.stores with own := Sparse.set (fun _ => none) s.stores.own (ucKey k i a) v } }

/-- SCRUB_READ (R396): the scrubber reads a word of an instance; `served` says that the engine's own fetch of the word
came in the same handshake step and is served first.  A block reset of the UCW pages ends no more than a read of their window. -/
def State.scrubRead (s : State) (k i a : Nat) (served : Bool) : State :=
  if served || ucGood k (s.ucRead k i a) then s
  else ((s.ucRepair k i a).raise (storeSource k i) FaultKind.UCODE_SCRUB (checkAddr k i a)).bump Reg.UC_SCRUB_FIXES 1

def execScrubRead (k : Fin 3) (i : Fin 96) (a : BitVec 13) (served : Bool) (s : State) : Host.Outcome State Fault Refusal :=
  .next <| s.doIf (!s.domainHeld 5) fun s =>
    if i.val < ucInstances k.val && a.toNat < ucWords k.val then s.scrubRead k.val i.val a.toNat served else s

/-- A debug read of a Pixel Engine's micro store or its bay's nano store (R399, R400). -/
def State.pxDebugRead (s : State) (n : Nat) (v : Word) : State :=
  let nano := bit v 16
  let a := if nano then bits v 11 0 else bits v 12 0
  let k := if nano then 1 else 0
  let w := s.ucRead k (if nano then n / 8 else n) a
  let par := w / 2 ^ ucWidth k
  let s := s.setRegN (Reg.PX_UC_ADDR n) (bits v 12 0 + 65536 * b2n nano)
  let s := s.forEach (List.range 8) fun j s => s.setRegN (Reg.PX_UC_DATA n j) (ucData k w / 2 ^ (32 * j))
  s.setRegN (Reg.PX_UC_STAT n) (1 + 2 * b2n (!ucGood k w) + (if nano then 16 * (par % 16) else 256 * (par % 2)))

/-- A debug read of a Cue Engine's store. -/
def State.ceDebugRead (s : State) (n : Nat) (v : Word) : State :=
  let w := s.ucRead 2 n (bits v 11 0)
  let s := (s.setRegN (Reg.CE_UC_ADDR n) (bits v 11 0)).setRegN (Reg.CE_UC_DATA n) (ucData 2 w)
  s.setRegN (Reg.CE_UC_STAT n) (1 + 2 * b2n (!ucGood 2 w) + 4 * (w / 2 ^ 32 % 2))

/-- UC_DEBUG_READ (R400): a write of PX_UC_ADDR of engine n, or of CE_UC_ADDR. -/
def execUcDebugRead (ce : Bool) (n : Fin 96) (v : Word) (s : State) : Host.Outcome State Fault Refusal :=
  .next <| if ce then
      (if n.val < 16 then s.ifWritten (0x180 + n.val) (Reg.CE_UC_ADDR n.val) v fun s => s.ceDebugRead n.val v else s)
    else s.ifWritten (0x100 + n.val) (Reg.PX_UC_ADDR n.val) v fun s => s.pxDebugRead n.val v

end Sys2Proof.Machine
end

