-- ==== Sys2Proof/Machine/Px.lean ====
section
/-! DEFINITION. The Pixel Engine: microwords (R355 to R357), nanowords (R358 to R361), the customer region (R374 to
R376), waiting, BREAK.  An engine runs the word its own store holds at its pc; a command of this file says that it
does. -/

namespace Sys2Proof.Machine

/-! ### The nanoword -/

/-- Reserved values and zero fields of an ALU quarter (R358, R360). -/
def aluIllegal (q : Nat) : Bool :=
  let op := nbits q 21 16
  (op == 0 && q != 0) || Nat.ble 0x14 op || nbits q 23 22 == 3 || Nat.ble 3 (nbits q 35 32) || Nat.ble 6 (nbits q 41 39) ||
    nbits q 50 49 == 3 || nbits q 53 51 == 7 || (nbits q 53 51 != 0 && nbits q 56 54 == 0) || nbits q 63 58 != 0

/-- Reserved values and zero fields of a nanoword (R357, R358, R360). -/
def nanoIllegal (w : Nat) : Bool :=
  aluIllegal (nbits w 63 0) || aluIllegal (nbits w 255 192) || Nat.ble 5 (nbits w 67 64) ||
    [6, 7, 8, 14, 15].elem (nbits w 86 83) || Nat.ble 11 (nbits w 100 97) || nbits w 127 114 != 0 ||
    Nat.ble 7 (nbits w 131 128) || Nat.ble 7 (nbits w 172 169) || nbits w 191 177 != 0

/-- The registers an ALU quarter writes: vectors by number, accumulators from 48, masks from 56, ANY and ALL as 64. -/
def aluWrites (q : Nat) : List Nat :=
  if nbits q 21 16 == 0 then []
  else
    nbits q 14 10 :: ((if nbits q 23 22 == 1 then [(nbits q 14 10 + 1) % 32] else []) ++
      (if [1, 2, 3, 5].elem (nbits q 41 39) then [48 + nbits q 38 36] else []) ++
      (if nbits q 53 51 != 0 then (56 + nbits q 56 54) :: (if nbit q 57 then [64] else []) else []))

/-- The registers each unit of a nanoword writes, the units in the order of R359; scalars count from 32. -/
def unitWrites (w : Nat) : List (List Nat) :=
  let mem := nbits w 131 128
  let sc := nbits w 100 97
  [if mem != 0 && nbits w 158 157 != 0 then [32 + nbits w 140 137] else [],
   if [1, 3, 5].elem mem then [nbits w 136 132] else [],
   if nbits w 67 64 != 0 then [nbits w 77 73] else [],
   if nbits w 86 83 != 0 then [nbits w 96 92] else [],
   if sc != 0 && sc != 10 then [32 + nbits w 112 109] else [],
   aluWrites (nbits w 63 0), aluWrites (nbits w 255 192)]

/-- Whether two of some lists share a member. -/
def sharing : List (List Nat) → Bool
  | [] => false
  | l :: r => r.any (fun m => m.any l.elem) || sharing r

/-- Whether several units of a nanoword write the same register: no loader takes such a word (R359). -/
def nanoClash (w : Nat) : Bool := sharing (unitWrites w)

/-- The floor of a step that runs a nanoword: the largest among the units it uses (R353). -/
def nanoFloor (w : Nat) : Nat :=
  let alu (q : Nat) : Nat :=
    if nbits q 41 39 != 0 then 5 else if nbits q 35 32 != 0 then 4 else if nbits q 21 16 != 0 then 2 else 1
  let mem := nbits w 131 128
  [alu (nbits w 63 0), alu (nbits w 255 192), if nbits w 67 64 != 0 then 3 else 1, if nbits w 86 83 != 0 then 4 else 1,
   if nbits w 172 169 != 0 then 2 else 1, if Nat.ble 5 mem then 12 else if mem != 0 then 6 else 1].foldl max 1

/-- Vectors, accumulators, masks, scalars and clip ranges of an engine. -/
def zeros32 : List Nat := List.replicate 32 0
def Px.vec (x : Px) (i : Nat) : List Nat := Sparse.get (fun _ => zeros32) x.v i
def Px.setVec (x : Px) (i : Nat) (l : List Nat) : Px := { x with v := Sparse.set (fun _ => zeros32) x.v i l }
def Px.accu (x : Px) (i : Nat) : List Nat := Sparse.get (fun _ => zeros32) x.acc i
def Px.setAccu (x : Px) (i : Nat) (l : List Nat) : Px := { x with acc := Sparse.set (fun _ => zeros32) x.acc i l }
def Px.mask (x : Px) (i : Nat) : Nat := if i == 0 then 2 ^ 64 - 1 else Sparse.get (fun _ => 0) x.masks i
def Px.setMask (x : Px) (i m : Nat) : Px := if i == 0 then x else { x with masks := Sparse.set (fun _ => 0) x.masks i m }
def Px.scalar (x : Px) (i : Nat) : Nat := Sparse.get (fun _ => 0) x.s i
def Px.setScalar (x : Px) (i v : Nat) : Px := { x with s := Sparse.set (fun _ => 0) x.s i (v % 2 ^ 32) }
def Px.clip (x : Px) (i : Nat) : Int × Int := Sparse.get (fun _ => (0, 0)) x.cl i

/-- The lanes of an operand in a lane format (R358): 0 for 32 lanes of 16 bits, 1 for 16 of 32 bits in a register pair, 2
for 64 of 8 bits. -/
def Px.lanes (x : Px) (fmt i : Nat) : List Nat :=
  if fmt == 1 then (List.range 16).map fun k => (Config.pairLanes (x.vec i) (x.vec ((i + 1) % 32))).getD k 0 % 2 ^ 32
  else if fmt == 2 then (x.vec i).flatMap fun v => [v % 256, v / 256 % 256]
  else x.vec i

def laneBits (fmt : Nat) : Nat := [16, 32, 8].getD fmt 16

/-- Lanes written back in a lane format, pattern by pattern. -/
def Px.putLanes (x : Px) (fmt i : Nat) (l : List Nat) : Px :=
  if fmt == 1 then
    let r := Config.pairStore (x.vec i) (x.vec ((i + 1) % 32)) l
    let lo := (List.range 32).map fun k => r.1.getD k 0 % 65536
    let hi := (List.range 32).map fun k => r.2.getD k 0 % 65536
    (x.setVec i lo).setVec ((i + 1) % 32) hi
  else if fmt == 2 then x.setVec i ((List.range 32).map fun k => l.getD (2 * k) 0 % 256 + 256 * (l.getD (2 * k + 1) 0 % 256))
  else x.setVec i (l.map fun v => v % 65536)

/-- Bits of a lane result: exact in 40 bits, then rounded, shifted, saturated or wrapped, in that order (R361). -/
def finishLane (q : Nat) (cl : Int × Int) (w : Nat) (r : Int) : Nat :=
  let sh := nbits q 31 27
  let r := sx 40 ((r % 2 ^ 40).toNat)
  let r := if nbit q 26 && 0 < sh then r + (2 ^ (sh - 1) : Nat) else r
  let r := r / (2 ^ sh : Nat)
  let r := if nbit q 25 then max cl.1 (min cl.2 r) else r
  (r % (2 ^ w : Nat)).toNat

/-- The exact lane results of an operation of R360 on lane patterns `a` and `b`, as integers by the SIGNED field. -/
def aluLanes (op w : Nat) (sgn : Bool) (a b : List Nat) (prod : List Int) (cl : Int × Int) : List Int :=
  let v (n : Nat) : Int := if sgn then sx w n else (n : Int)
  let each (f : Nat → Int) : List Int := (List.range a.length).map f
  let av (i : Nat) : Int := v (a.getD i 0)
  let bv (i : Nat) : Int := v (b.getD i 0)
  let first (r : Int) : List Int := each fun i => if i == 0 then r else 0
  if op == 0x01 then each av
  else if op == 0x02 then each fun i => av i + bv i
  else if op == 0x03 then each fun i => av i - bv i
  else if op == 0x04 then each fun i => ((av i - bv i).natAbs : Int)
  else if op == 0x05 then each fun i => min (av i) (bv i)
  else if op == 0x06 then each fun i => max (av i) (bv i)
  else if op == 0x07 then each fun i => v (a.getD i 0 &&& b.getD i 0)
  else if op == 0x08 then each fun i => v (a.getD i 0 ||| b.getD i 0)
  else if op == 0x09 then each fun i => v (a.getD i 0 ^^^ b.getD i 0)
  else if op == 0x0A then each fun i => (av i + bv i + 1) / 2
  else if op == 0x0B then each fun i =>
    if bv i < 0 then (Config.laneGap op a b i : Int) else if 40 ≤ bv i then 0 else av i * (2 ^ b.getD i 0 : Nat)
  else if op == 0x0C then first ((each av).foldl (· + ·) 0)
  else if op == 0x0D then first ((each fun i => ((av i - bv i).natAbs : Int)).foldl (· + ·) 0)
  else if op == 0x0E then each fun i => (((List.range b.length).find? fun k => b.getD k 0 == a.getD i 0).getD 0xFFFF : Nat)
  else if op == 0x0F then each fun i =>
    let k := a.getD i 0 % 32
    if k < b.length then v (b.getD k 0) else (Config.laneGap op a b i : Int)
  else if op == 0x10 then each fun i => max cl.1 (min cl.2 (av i))
  else if op == 0x11 then each fun i => - av i
  else if op == 0x12 then each fun i => ((av i).natAbs : Int)
  else prod

/-- Compare of CMP_OP. -/
def cmpLane (op : Nat) (a b : Int) : Bool :=
  if op == 1 then decide (a = b) else if op == 2 then decide (a ≠ b) else if op == 3 then decide (a < b)
  else if op == 4 then decide (a ≤ b) else if op == 5 then decide (b < a) else decide (b ≤ a)

/-- One quarter that drives an ALU: reads of `x`, the registers before the step; writes of `y` (R358 to R361). -/
def aluQuarter (q : Nat) (x y : Px) : Px :=
  if nbits q 21 16 == 0 then y
  else
    let fmt := nbits q 23 22
    let w := laneBits fmt
    let sgn := nbit q 24
    let v (n : Nat) : Int := if sgn then sx w n else (n : Int)
    let a := x.lanes fmt (nbits q 4 0)
    let imm : Int := if sgn then sx 16 (x.il % 65536) else ((x.il % 65536 : Nat) : Int)
    let immPat := (imm % (2 ^ w : Nat)).toNat
    let b := if nbit q 15 then a.map fun _ => immPat else x.lanes fmt (nbits q 9 5)
    let bi (i : Nat) : Int := if nbit q 15 then imm else v (b.getD i 0)
    let mul := nbits q 35 32
    let vb := x.lanes fmt (nbits q 9 5)
    let prod : List Int := (List.range a.length).map fun i =>
      if mul == 1 then v (a.getD i 0) * v (vb.getD i 0) else if mul == 2 then v (a.getD i 0) * imm else 0
    let cl := x.clip (nbits q 45 42)
    let acc := x.accu (nbits q 38 36)
    let accOp := nbits q 41 39
    let wide := fmt == 2
    let gap (i : Nat) : Nat := Config.laneGap (0x40 + accOp) acc (prod.map fun p => (p % 2 ^ 40).toNat) i
    let res := (aluLanes (nbits q 21 16) w sgn a b prod cl).map fun r => finishLane q cl w r
    let res := if accOp == 4 then (List.range a.length).map fun i =>
        if wide then gap i % 2 ^ w else finishLane q cl w (sx 32 (acc.getD i 0)) else res
    let m := x.mask (nbits q 48 46)
    let mode := nbits q 50 49
    let on (i : Nat) : Bool := mode == 0 || (mode == 1 && nbit m i) || (mode == 2 && !nbit m i)
    let old := y.lanes fmt (nbits q 14 10)
    let y := y.putLanes fmt (nbits q 14 10) ((List.range a.length).map fun i => if on i then res.getD i 0 else old.getD i 0)
    let accNew : List Nat := (List.range 32).map fun i =>
      let o := (acc.getD i 0 : Int)
      let p := prod.getD i 0
      if !on i || Nat.ble a.length i then (y.accu (nbits q 38 36)).getD i 0
      else if accOp == 1 then 0
      else if wide then gap i % 2 ^ 32
      else if accOp == 2 then ((o + p) % 2 ^ 32).toNat
      else if accOp == 3 then ((o - p) % 2 ^ 32).toNat
      else (p % 2 ^ 32).toNat
    let y := if [1, 2, 3, 5].elem accOp then y.setAccu (nbits q 38 36) accNew else y
    let op := nbits q 53 51
    if op == 0 then y
    else
      let c := (List.range a.length).map fun i => cmpLane op (v (a.getD i 0)) (bi i)
      let y := y.setMask (nbits q 56 54) ((List.range a.length).foldl (fun t i => t + 2 ^ i * b2n (c.getD i false)) 0)
      if nbit q 57 then { y with any := c.any id, all := c.all id } else y

/-- Permute (R358). -/
def permute (w : Nat) (x y : Px) : Px :=
  let op := nbits w 67 64
  let src := x.vec (nbits w 72 68)
  let idx := x.vec (nbits w 82 78)
  let lane (i : Nat) : Nat :=
    if op == 1 then src.getD (idx.getD i 0 % 32) 0
    else if op == 2 then src.getD (i / 16 * 16 + i % 4 * 4 + i % 16 / 4) 0
    else if op == 3 then src.getD ((if Config.rotateUp then i + 32 - x.il % 32 else i + x.il % 32) % 32) 0
    else if i % 2 == 0 then src.getD (i / 2) 0 else idx.getD (i / 2) 0
  if op == 0 then y else y.setVec (nbits w 77 73) ((List.range 32).map lane)

/-- Transform: a partial-butterfly stage (R358). -/
def transform (w : Nat) (x y : Px) : Px :=
  let op := nbits w 86 83
  if op == 0 then y
  else
    let l := Config.txStage op (x.vec (nbits w 91 87))
    y.setVec (nbits w 96 92) ((List.range 32).map fun i => l.getD i 0 % 65536)

/-- The scalar unit (R358). -/
def scalarUnit (w : Nat) (x y : Px) : Px :=
  let op := nbits w 100 97
  let a := x.scalar (nbits w 104 101)
  let b := if nbit w 113 then x.il else x.scalar (nbits w 108 105)
  let d := nbits w 112 109
  let wide (k : Nat) : Nat := (Config.wideShift k (BitVec.ofNat 32 a) (BitVec.ofNat 32 b)).toNat
  if op == 0 then y
  else if op == 1 then y.setScalar d (a + b)
  else if op == 2 then y.setScalar d (a + 2 ^ 32 - b)
  else if op == 3 then y.setScalar d (a &&& b)
  else if op == 4 then y.setScalar d (a ||| b)
  else if op == 5 then y.setScalar d (a ^^^ b)
  else if op == 6 then y.setScalar d (if b < 32 then a * 2 ^ b else wide 0)
  else if op == 7 then y.setScalar d (if b < 32 then a / 2 ^ b else wide 1)
  else if op == 8 then y.setScalar d x.il
  else if op == 9 then y.setScalar d ((x.vec (nbits w 104 101)).getD 0 0)
  else { y with z := a == b, n := nbit ((a + 2 ^ 32 - b) % 2 ^ 32) 31 }

/-- The byte address of a memory operation in the bay, and those of its lanes: the first byte and the bytes of each (R358). -/
def memUnits (w : Nat) (x : Px) : Nat := (x.scalar (nbits w 140 137) + nbits w 156 141) % 65536
def memLanes (w : Nat) (x : Px) : List (Nat × Nat) :=
  let op := nbits w 131 128
  let a := memUnits w x * 64
  if op == 1 || op == 2 then (List.range 32).map fun i => ((a + 2 * i) % 2 ^ 22, 2)
  else if op == 3 || op == 4 then (List.range 32).map fun i => ((a + i) % 2 ^ 22, 1)
  else if op == 5 || op == 6 then (List.range 32).map fun i => ((a + 2 * (x.vec (nbits w 167 163)).getD i 0) % 2 ^ 22, 2)
  else []

/-- A byte of a bay's SRAM. -/
def State.sram8 (s : State) (b a : Nat) : Nat := (Sparse.get (fun _ => (0 : Byte)) s.sram (b * 2 ^ 22 + a % 2 ^ 22)).toNat
def State.setSram (s : State) (b a v : Nat) : State :=
  { s with sram := Sparse.set (fun _ => (0 : Byte)) s.sram (b * 2 ^ 22 + a % 2 ^ 22) (BitVec.ofNat 8 v) }

/-- The lanes a load brings, from bay SRAM. -/
def State.loadLanes (s : State) (b : Nat) (ls : List (Nat × Nat)) : List Nat :=
  ls.map fun p => if p.2 == 2 then s.sram8 b p.1 + 256 * s.sram8 b (p.1 + 1) else s.sram8 b p.1

/-- The lanes of a vector stored. -/
def State.storeLanes (s : State) (b : Nat) (ls : List (Nat × Nat)) (v : List Nat) : State :=
  s.forEach (List.range ls.length) fun i s =>
    let p := ls.getD i (0, 1)
    let s := s.setSram b p.1 (v.getD i 0)
    s.doIf (p.2 == 2) fun s => s.setSram b (p.1 + 1) (v.getD i 0 / 256)

/-- Whether a customer word may make the accesses: inside the row-job slot or the customer scratch (R374). -/
def State.accessFenced (s : State) (it : PxItem) (ls : List (Nat × Nat)) : Bool :=
  let inside (base len a n : Nat) : Bool := Nat.ble ((a + 2 ^ 22 - base % 2 ^ 22) % 2 ^ 22 + n) len
  ls.any fun p =>
    !inside (64 * it.slotBase) (64 * it.slotLen) p.1 p.2 && !inside (64 * s.fld Reg.UC_CUST_SCRATCH 15 0) 65536 p.1 p.2

/-- One step that runs a nanoword: every unit reads what stood before the step, and the unit listed later in R359 writes
last. -/
def State.nanoStep (s : State) (n w : Nat) : State :=
  let x := s.pxEng n
  let b := n / 8
  let op := nbits w 131 128
  let base := nbits w 140 137
  let inc := nbits w 158 157
  let y := if op == 0 || inc == 0 then x else x.setScalar base
    (x.scalar base + (if inc == 1 then 1 else if inc == 2 then x.scalar (nbits w 162 159) else 2 ^ 32 - 1))
  let ls := memLanes w x
  let y := if [1, 3, 5].elem op then y.setVec (nbits w 136 132) (s.loadLanes b ls) else y
  let y := scalarUnit w x (transform w x (permute w x y))
  let y := aluQuarter (nbits w 255 192) x (aluQuarter (nbits w 63 0) x y)
  let s := s.doIf ([2, 4, 6].elem op) fun s => s.storeLanes b ls (x.vec (nbits w 136 132))
  let s := s.setPx n y
  let io := nbits w 172 169
  let s := s.doIf (io != 0) fun s => s.emit (.unitReq n io (x.scalar (nbits w 176 173)) 0)
  s.doIf (io == 4) fun s => s.modBay b fun z => { z with
    jobs := z.jobs.map fun j => { j with on := j.on.filter fun e => e.1 != n % 8 } }

/-! ### The microword -/

/-- Zero fields, reserved classes, BREAK without debug (R357). -/
def State.microIllegal (s : State) (w : Nat) : Bool :=
  let c := nbits w 23 20
  (Nat.ble 0xA c && Nat.ble c 0xE) || (c == 0xF && !s.rbit Reg.TRUST_DEBUG 0) || (c == 6 && nbits w 15 13 != 0) ||
    ((c == 7 || c == 0xF) && nbits w 15 0 != 0) || (c == 8 && nbits w 15 1 != 0) || (c == 9 && nbits w 15 4 != 0)

/-- COND of R356. -/
def Px.cond (x : Px) (k : Nat) : Bool :=
  if k == 0 then true else if k == 1 then x.z else if k == 2 then !x.z else if k == 3 then x.n else if k == 4 then !x.n
  else if k == 5 then x.any else if k == 6 then x.all else !x.any

/-- Steps counted in units of 2^16, and clamped steps (R353, R399). -/
def State.countSteps (s : State) (n k floor sel : Nat) : State :=
  let t := (s.pxEng n).steps + k
  let s := (s.modPx n fun x => { x with steps := t % 65536 }).bump (Reg.PX_STEPS n) (t / 65536)
  s.doIf (Nat.blt (sel + 1) floor) fun s => s.bump (Reg.PX_DELAY_CLAMPS n) k

/-- First customer word of the micro store, of the nano store. -/
def State.fencePx (s : State) : Nat := s.fld Reg.UC_FENCE_PX 12 0
def State.fenceNano (s : State) : Nat := s.fld Reg.UC_FENCE_NANO 11 0

/-- A cause of R376 at the word in execution: a machine check in the vendor region; in a customer region the call is
abandoned and the engine goes on in its vendor caller, which draws the vendor default for a compositor work item. -/
def State.pxTrouble (s : State) (n cause kind store inst a : Nat) : State :=
  let x := s.pxEng n
  match x.cust with
  | some (r :: stack) =>
    let s := ((s.setRegN (Reg.PX_MCHECK n) (6 + 65536 * x.pc)).bump (Reg.PX_ABANDONS n) 1).raise (256 + n) kind (checkAddr store inst a)
    let s := match x.item.map (·.work) with
      | some (.window i) => s.modDpOut i.out.val fun d => { d with defaults := (i, Nat.ble 0x1810 x.custEntry) :: d.defaults }
      | _ => s
    (s.modPx n fun x => { x with pc := r, stack := stack, cust := none }).showPx n
  | _ => s.pxCheck n cause kind store inst a

/-- The engine goes on at an address, which may lie in the other region. -/
def State.pxGo (s : State) (n tgt : Nat) : State :=
  let x := s.pxEng n
  let inside := Nat.ble s.fencePx tgt
  let cust := if inside then (match x.cust with
    | some c => some c
    | none => some x.stack) else none
  (s.modPx n fun x => { x with
    pc := tgt, cust := cust, custEntry := if inside && x.cust.isNone then tgt else x.custEntry }).showPx n

/-- A taken branch of a JUMP, CALL or LOOPBACK, fenced (R374): a customer word reaches the vendor region from an entry
word only. -/
def State.pxBranch (s : State) (n tgt : Nat) : State :=
  let x := s.pxEng n
  if x.cust.isSome && Nat.blt tgt s.fencePx && !(Nat.ble 0x1800 x.pc && Nat.ble x.pc 0x181F) then
    s.pxTrouble n 5 FaultKind.UCODE_FENCE 0 n x.pc
  else s.pxGo n tgt

/-- On to the next word. -/
def State.pxNext (s : State) (n : Nat) : State := s.pxGo n (((s.pxEng n).pc + 1) % 8192)

/-- Whether the engine runs: in service, not halted, at work, neither waiting nor stopped by BREAK. -/
def State.pxRuns (s : State) (n : Nat) : Bool :=
  let x := s.pxEng n
  s.rbit (Reg.PX_STATUS n) 0 && !s.rbit (Reg.PX_STATUS n) 1 && x.item.isSome && x.wait.isNone && !x.broken

/-- The engine runs its next word, when the word is of class `c`; a word that is illegal or fails its parity stops the
engine whatever the class (R351, R357, R389). -/
def State.pxWord (s : State) (n c : Nat) (run : Nat → State → State) : State :=
  if !s.pxRuns n then s
  else
    let a := (s.pxEng n).pc
    let raw := s.ucRead 0 n a
    let w := ucData 0 raw
    if !ucGood 0 raw then s.pxCheck n 1 FaultKind.UCODE_PARITY 0 n a
    else if s.microIllegal w then s.pxTrouble n 3 FaultKind.UCODE_ILLEGAL 0 n a
    else if nbits w 23 20 != c then s
    else run w (s.countSteps n (if c == 0 then nbits w 15 12 + 1 else 1) 1 (nbits w 19 16))

/-- The repeats of a NANO word; a customer word's access outside its fence ends them (R374). -/
def State.nanoRun (n w : Nat) : Nat → State → State
  | 0, s => s.pxNext n
  | k + 1, s =>
    let x := s.pxEng n
    let fenced := match x.item with
      | some it => x.cust.isSome && s.accessFenced it (memLanes w x)
      | none => false
    if fenced then s.pxTrouble n 5 FaultKind.UCODE_FENCE 0 n x.pc else nanoRun n w k (s.nanoStep n w)

/-- PX_NANO (R355, R358 to R361, R375, R391). -/
def State.pxNano (s : State) (n : Nat) : State :=
  s.pxWord n 0 fun w s =>
    let a := nbits w 11 0
    let raw := s.ucRead 1 (n / 8) a
    let nw := ucData 1 raw
    let sel := nbits w 19 16
    let k := nbits w 15 12 + 1
    if (s.pxEng n).cust.isNone && Nat.ble s.fenceNano a then s.pxCheck n 5 FaultKind.UCODE_FENCE 0 n (s.pxEng n).pc
    else if !ucGood 1 raw then s.pxCheck n 2 FaultKind.UCODE_PARITY 1 (n / 8) a
    else if nanoIllegal nw then s.pxTrouble n 3 FaultKind.UCODE_ILLEGAL 1 (n / 8) a
    else State.nanoRun n nw k (s.doIf (Nat.blt (sel + 1) (nanoFloor nw)) fun s => s.bump (Reg.PX_DELAY_CLAMPS n) k)

def execPxNano (n : Fin 96) (s : State) : Host.Outcome State Fault Refusal := .next (s.pxNano n.val)

/-- PX_IMM_LO (R355). -/
def execPxImmLo (n : Fin 96) (s : State) : Host.Outcome State Fault Refusal :=
  .next <| s.pxWord n.val 1 fun w s => (s.modPx n.val fun x => { x with il := nbits w 15 0 }).pxNext n.val

/-- PX_IMM_HI (R355). -/
def execPxImmHi (n : Fin 96) (s : State) : Host.Outcome State Fault Refusal :=
  .next <| s.pxWord n.val 2 fun w s =>
    (s.modPx n.val fun x => { x with il := x.il % 65536 + 65536 * nbits w 15 0 }).pxNext n.val

/-- PX_LOOP (R355). -/
def execPxLoop (n : Fin 96) (s : State) : Host.Outcome State Fault Refusal :=
  .next <| s.pxWord n.val 3 fun w s => (s.modPx n.val fun x => { x with lc := nbits w 15 0 }).pxNext n.val

/-- PX_JUMP (R355, R356). -/
def execPxJump (n : Fin 96) (s : State) : Host.Outcome State Fault Refusal :=
  .next <| s.pxWord n.val 4 fun w s =>
    if (s.pxEng n.val).cond (nbits w 15 13) then s.pxBranch n.val (nbits w 12 0) else s.pxNext n.val

/-- PX_CALL (R355 to R357): the return stack has four entries. -/
def State.pxCall (s : State) (n w : Nat) : State :=
  let x := s.pxEng n
  if !x.cond (nbits w 15 13) then s.pxNext n
  else if Nat.ble 4 x.stack.length then s.pxTrouble n 4 FaultKind.UCODE_STACK 0 n x.pc
  else if x.cust.isSome && Nat.blt (nbits w 12 0) s.fencePx && !(Nat.ble 0x1800 x.pc && Nat.ble x.pc 0x181F) then
    s.pxTrouble n 5 FaultKind.UCODE_FENCE 0 n x.pc
  else (s.modPx n fun x => { x with stack := (x.pc + 1) % 8192 :: x.stack }).pxGo n (nbits w 12 0)

def execPxCall (n : Fin 96) (s : State) : Host.Outcome State Fault Refusal :=
  .next <| s.pxWord n.val 5 fun w s => s.pxCall n.val w

/-- PX_LOOPBACK (R355): the count wraps below zero, and the branch is taken while it is not zero. -/
def State.pxLoopback (s : State) (n w : Nat) : State :=
  let s := s.modPx n fun x => { x with lc := (x.lc + 65535) % 65536 }
  if (s.pxEng n).lc == 0 then s.pxNext n else s.pxBranch n (nbits w 12 0)

def execPxLoopback (n : Fin 96) (s : State) : Host.Outcome State Fault Refusal :=
  .next <| s.pxWord n.val 6 fun w s => s.pxLoopback n.val w

/-- PX_RETURN (R355, R357). -/
def State.pxReturn (s : State) (n : Nat) : State :=
  let x := s.pxEng n
  match x.stack with
  | [] => s.pxTrouble n 4 FaultKind.UCODE_STACK 0 n x.pc
  | r :: rest => (s.modPx n fun x => { x with stack := rest }).pxGo n r

def execPxReturn (n : Fin 96) (s : State) : Host.Outcome State Fault Refusal :=
  .next <| s.pxWord n.val 7 fun _ s => s.pxReturn n.val

/-- PX_END (R355): the work item ends; with ERROR a CTU of a decode job is damaged as SYNTAX_ERROR, with what that error damages
beside it (R283, R284). -/
def State.pxEnd (s : State) (n w : Nat) : State :=
  match (s.pxEng n).item with
  | none => s
  | some it =>
    let s := s.engineDone n
    match it.work with
    | .ctu c .decode a => s.doIf (nbit w 0) fun s => match (s.ctx c).sps with
      | some i => s.ctuError c i a 1
      | none => s
    | _ => s

def execPxEnd (n : Fin 96) (s : State) : Host.Outcome State Fault Refusal :=
  .next <| s.pxWord n.val 8 fun w s => s.pxEnd n.val w

/-- PX_WAIT (R355): the events named that have not occurred are waited for. -/
def execPxWait (n : Fin 96) (s : State) : Host.Outcome State Fault Refusal :=
  .next <| s.pxWord n.val 9 fun w s =>
    let named := nbits w 3 0
    (s.modPx n.val fun x => { x with
      wait := if named &&& (15 - x.seen % 16) == 0 then none else some (named &&& (15 - x.seen % 16)),
      seen := x.seen &&& (15 - named) }).pxNext n.val

/-- PX_WAIT_WAKE (R355): event `e` of WAIT occurs; the last one named resumes the engine. -/
def State.pxWake (s : State) (n e : Nat) : State :=
  s.modPx n fun x =>
    match x.wait with
    | some m =>
      if nbit m e then { x with wait := if m == 2 ^ e then none else some (m - 2 ^ e) }
      else { x with seen := x.seen ||| 2 ^ e }
    | none => { x with seen := x.seen ||| 2 ^ e }

def execPxWaitWake (n : Fin 96) (e : Fin 4) (s : State) : Host.Outcome State Fault Refusal := .next (s.pxWake n.val e.val)

/-- PX_BREAK (R355): with debug enabled the engine stops at the word. -/
def execPxBreak (n : Fin 96) (s : State) : Host.Outcome State Fault Refusal :=
  .next <| s.pxWord n.val 15 fun _ s => s.modPx n.val fun x => { x with broken := true }

end Sys2Proof.Machine
end

