-- ==== Sys2Proof/Machine/Images.lean ====
section
/-! DEFINITION. Envelopes and microcode images: the checks of R379 to R383, R354, R369, R371, R372, and what loading an
image writes into the stores (R384 to R386). -/

namespace Sys2Proof.Machine

/-! ### Keys -/

/-- The position of a key slot in the OTP tables (R662): slots 0 to 3, 8, 9. -/
def keyPos (slot : Nat) : Option Nat :=
  if Nat.ble slot 3 then some slot else if slot == 8 then some 4 else if slot == 9 then some 5 else none

def State.otpBytes (s : State) (o n : Nat) : List Byte := Sparse.getRange memReset s.otp o n

/-- The SHA-384 enrolled at a key position; all zero means not enrolled. -/
def State.keyHash (s : State) (p : Nat) : List Byte := s.otpBytes (0x110 + 48 * p) 48
def State.enrolled (s : State) (p : Nat) : Bool := (s.keyHash p).any (· != 0)
def State.revoked (s : State) (p : Nat) : Bool := nbit (s.otpLE 0x2F0 1) p

/-- The number of bits set in a byte list. -/
def popCount (bs : List Byte) : Nat := (bs.flatMap fun b => (List.range 8).map fun i => b2n (nbit b.toNat i)).foldl (· + ·) 0

/-- The minimum SECURITY_VERSION of a KIND (R662). -/
def State.minVersion (s : State) (kind : Nat) : Nat := popCount (s.otpBytes (0x2F8 + 8 * kind) 8)

/-- Whether a key slot may sign a KIND (R663). -/
def State.keyAllowed (s : State) (kind slot : Nat) : Bool :=
  let vendor := Nat.ble slot 3
  let customer := slot == 8 || slot == 9
  if kind == 0 || kind == 2 then vendor
  else if kind == 1 then customer
  else vendor || (customer && nbit (s.otpOpt 0) 2)

/-! ### Envelopes -/

/-- The statuses of R380. -/
def envBadFormat : Nat := 2
def envBadKey : Nat := 3
def envBadSignature : Nat := 4
def envRollback : Nat := 5
def envBadTag : Nat := 6
def imageBadHeader : Nat := 7
def imageRegion : Nat := 8
def imageOverlap : Nat := 9
def imageBadWord : Nat := 10
def imageDelayShort : Nat := 11
def imageNoYield : Nat := 12
def imageBadEntry : Nat := 13
def flashReadError : Nat := 14

/-- An envelope accepted: its payload in clear, SECURITY_VERSION, its length in flash. -/
structure Envelope where
  payload : List Byte
  version : Nat
  bytes : Nat

def zeroB (bs : List Byte) : Bool := bs.all (· == 0)

/-- Check 1 of R380 for an envelope at a flash address with `room` bytes left in its slot. -/
def envFormatOk (b : List Byte) (kind room : Nat) : Bool :=
  let len := leAt b 16 4
  sliceB b 0 4 == [0x55, 0x51, 0x45, 0x4E] && leAt b 4 2 == 1 && leAt b 6 1 == kind && Nat.ble (leAt b 7 1) 1 &&
    zeroB (sliceB b 9 3) && len % 16 == 0 && Nat.ble len 261872 && leAt b 20 4 == 0x9616 &&
    (nbit (leAt b 7 1) 0 || zeroB (sliceB b 36 16)) && zeroB (sliceB b 52 12) && zeroB (sliceB b 161 15) && Nat.ble (272 + len) room

/-- Checks 2 to 5 of R380. -/
def State.envCheck (s : State) (b : List Byte) (kind : Nat) : Nat ⊕ Envelope :=
  let len := leAt b 16 4
  let slot := leAt b 8 1
  let ver := leAt b 12 4
  let key := sliceB b 64 97
  let sealed := nbit (leAt b 7 1) 0
  match keyPos slot with
  | none => .inl envBadKey
  | some p =>
    if !s.keyAllowed kind slot || s.revoked p || !s.enrolled p || Config.sha384 key != s.keyHash p then .inl envBadKey
    else if !Config.ecdsaVerify key (Config.sha384 (sliceB b 0 (176 + len))) (sliceB b (176 + len) 96) then .inl envBadSignature
    else if Nat.blt ver (s.minVersion kind) then .inl envRollback
    else if sealed then
      match Config.aesGcmOpen (s.otpBytes (0x230 + 32 * p) 32) (sliceB b 24 12) (sliceB b 0 24) (sliceB b 36 16) (sliceB b 176 len) with
      | some pay => .inr { payload := pay, version := ver, bytes := 272 + len }
      | none => .inl envBadTag
    else if kind == 0 || kind == 2 then .inl envBadTag
    else .inr { payload := sliceB b 176 len, version := ver, bytes := 272 + len }

/-- R380 checks 1 to 5 on the envelope at an offset of a slot; a flash read error gives its code. -/
def State.readEnvelope (s : State) (slot off kind : Nat) (bad : Bool) : Nat ⊕ Envelope :=
  let r := s.slot slot
  if bad then .inl flashReadError
  else
    let b := s.flashBytes (r.1 + off) (min 262144 (r.2 - off))
    if !envFormatOk b kind (r.2 - off) then .inl envBadFormat else s.envCheck b kind

/-! ### Images -/

/-- One word that an image writes: store, address, word. -/
structure ImageWord where
  store : Nat
  addr : Nat
  word : Nat

/-- A section of an image (R381). -/
structure Section where
  store : Nat
  start : Nat
  count : Nat
  data : Nat

def imageSection (p : List Byte) (i : Nat) : Section :=
  let o := 32 + 16 * i
  { store := leAt p o 1, start := leAt p (o + 2) 2, count := leAt p (o + 4) 2, data := leAt p (o + 8) 4 }

def imageSections (p : List Byte) : List Section := (List.range (leAt p 6 2)).map (imageSection p)

/-- The header, the section table and the CRC (R381; IMAGE_BAD_HEADER). -/
def imageHeaderOk (p : List Byte) (rev : Nat) : Bool :=
  let n := leAt p 6 2
  let clear := (p.take 28) ++ [0, 0, 0, 0] ++ p.drop 32
  sliceB p 0 4 == [0x55, 0x51, 0x4D, 0x43] && leAt p 4 2 == 1 && Nat.ble 1 n && Nat.ble n 16 && leAt p 12 4 == p.length &&
    leAt p 16 2 == 0x9616 && Nat.ble (leAt p 18 1) rev && zeroB (sliceB p 19 9) && Nat.ble (32 + 16 * n) p.length &&
    leAt p 28 4 == crc32c clear &&
    (List.range n).all fun i =>
      let x := imageSection p i
      let o := 32 + 16 * i
      Nat.ble x.store 2 && leAt p (o + 1) 1 == 0 && leAt p (o + 6) 2 == 0 && leAt p (o + 12) 4 == 0 && Nat.ble 1 x.count &&
        Nat.ble (x.start + x.count) (ucWords x.store) && x.data % 4 == 0 && Nat.ble (x.data + x.count * wordBytes x.store) p.length

/-- The words of an image, each as it stands in its bytes (R382). -/
def imageWords (p : List Byte) : List ImageWord :=
  (imageSections p).flatMap fun x => (List.range x.count).map fun i =>
    { store := x.store, addr := x.start + i, word := leAt p (x.data + i * wordBytes x.store) (wordBytes x.store) }

/-- Whether two sections write the same word. -/
def imageOverlaps (ss : List Section) : Bool :=
  (List.range ss.length).any fun i => match ss.drop i with
    | [] => false
    | x :: r => r.any fun y => x.store == y.store && overlap x.start x.count y.start y.count

/-- The words an image leaves in a store: its own over what the store holds. -/
def State.overlaid (s : State) (ws : List ImageWord) (k a : Nat) : Nat :=
  match ws.find? fun w => w.store == k && w.addr == a with
  | some w => w.word
  | none => s.ucCommon k a

/-- A PX entry word that stands for the vendor default, a CE hook word that does (R371, R372). -/
def entryDefault (w : ImageWord) : Bool :=
  (w.store == 0 && Nat.ble 0x1800 w.addr && Nat.ble w.addr 0x181F && w.word == 0xFFFFFF) ||
    (w.store == 2 && isHook w.addr && w.word == 0xFFFFFFFF)

/-- IMAGE_BAD_WORD (R357, R359, R360, R363, R371, R372). -/
def State.wordBad (s : State) (w : ImageWord) : Bool :=
  if entryDefault w then false
  else if w.store == 0 then
    nbits w.word 31 24 != 0 || s.microIllegal w.word ||
      (Nat.ble 0x1800 w.addr && Nat.ble w.addr 0x181F && !(nbits w.word 23 20 == 4 && nbits w.word 15 13 == 0))
  else if w.store == 1 then nanoIllegal w.word || nanoClash w.word
  else s.ceIllegal w.word || (isHook w.addr && (ceOp w.word != 0x20 || Nat.ble 0xC04 w.addr))

/-- IMAGE_DELAY_SHORT (R354). -/
def State.wordShort (s : State) (ws : List ImageWord) (w : ImageWord) : Bool :=
  if entryDefault w then false
  else if w.store == 0 then
    let floor := if nbits w.word 23 20 == 0 then nanoFloor (s.overlaid ws 1 (nbits w.word 11 0)) else 1
    Nat.blt (nbits w.word 19 16 + 1) floor
  else if w.store == 1 then false
  else Nat.blt (ceDelay w.word) (ceFloor w.word)

/-- The longest run of words without Y. -/
def runWithoutY : Nat → List Nat → Nat
  | best, ws => (ws.foldl (fun (a : Nat × Nat) w => if ceY w then (a.1, 0) else (max a.1 (a.2 + 1), a.2 + 1)) (best, 0)).1

/-- IMAGE_NO_YIELD (R369). -/
def State.routineStuck (s : State) (ws : List ImageWord) (w : ImageWord) : Bool :=
  w.store == 2 && !entryDefault w && isHdr w.word && Nat.blt 64 (hdrLength w.word) &&
    Nat.ble 64 (runWithoutY 0 ((List.range (hdrLength w.word)).map fun i => s.overlaid ws 2 ((w.addr + i) % 4096)))

/-- IMAGE_BAD_ENTRY (R365, R371, R374). -/
def State.entryBad (s : State) (ws : List ImageWord) (w : ImageWord) : Bool :=
  if entryDefault w then false
  else if w.store == 0 then
    Nat.ble 0x1800 w.addr && [4, 5, 6].elem (nbits w.word 23 20) && Nat.blt (nbits w.word 12 0) 0x1800
  else if w.store == 1 then false
  else
    let o := ceOp w.word
    let t := ceTarget w.word
    let hdr := isHdr (s.overlaid ws 2 t)
    (o == 0x21 && !isHook t && !hdr) || ((Nat.blt w.addr 0x20 || isHook w.addr) && (o != 0x20 || !hdr)) ||
      (Nat.ble 0xC00 w.addr && [0x20, 0x21, 0x23, 0x24, 0x25].elem o && Nat.blt t 0xC00)

/-- R383 on a payload; `customer` for a customer image. -/
def State.imageStatus (s : State) (p : List Byte) (customer : Bool) : Option Nat :=
  let ws := imageWords p
  if !imageHeaderOk p (s.fld Reg.CHIP_REV 7 0) then some imageBadHeader
  else if ws.any fun w => Nat.ble (ucCustomer w.store) w.addr != customer then some imageRegion
  else if imageOverlaps (imageSections p) then some imageOverlap
  else if ws.any s.wordBad then some imageBadWord
  else if ws.any (s.wordShort ws) then some imageDelayShort
  else if ws.any (s.routineStuck ws) then some imageNoYield
  else if ws.any (s.entryBad ws) then some imageBadEntry
  else none

/-- The words of an image over the stores (R385). -/
def State.overlay (s : State) (ws : List ImageWord) : State :=
  s.forEach ws fun w s => s.setUcMap w.store (Sparse.set (ucBase w.store) (s.ucMap w.store) w.addr w.word)

/-- A JUMP or a JMP to the vendor default of an entry or a hook (R371, R372). -/
def vendorJump (k i : Nat) : Nat :=
  if k == 0 then 0x400000 + Config.vendorDefault 0 i % 0x1800 else 0x80000000 + Config.vendorDefault 1 i % 0xC00

/-- Entry and hook words resolved (R371, R372): those that stand for the vendor default, or, without a customer image,
every one (R386). -/
def State.resolveEntries (s : State) (all : Bool) : State :=
  let put (k a i : Nat) (dflt : Nat) (s : State) : State :=
    s.doIf (all || s.ucCommon k a == dflt) fun s =>
      s.setUcMap k (Sparse.set (ucBase k) (s.ucMap k) a (vendorJump (if k == 0 then 0 else 1) i))
  let s := s.forEach (List.range 32) fun i s => put 0 (0x1800 + i) i 0xFFFFFF s
  s.forEach (List.range 16) fun i s => put 2 (0xC00 + i) i 0xFFFFFFFF s

end Sys2Proof.Machine
end

