-- ==== Sys2Proof/Machine/Context.lean ====
section
/-! DEFINITION. The life of a context: the checks of a shadow set (R40 to R42, R99, R100, R168 to R201, R211, R219, R232,
R267, R308, R312, R766), its enable (R90, R191, R218, R307, R814), its hand-overs (R158, R160, R179, R233, R543 to R548),
STOP and HALT (R218, R307, R343); the ledger's update and decisions, which complete enables that waited (R327, R342). -/

namespace Sys2Proof.Machine

/-! ### The checks of a shadow set -/

/-- The value of a register of the shadow set, by its active name. -/
def State.sh (s : State) (k : Nat) : Word := s.reg (shadowOf k)
def State.shF (s : State) (k hi lo : Nat) : Nat := bits (s.sh k) hi lo

/-- R766 order 1: changes refused while enabled, and CLASS_POLICY 0b11. -/
def State.badChange (s : State) (c : Nat) (enabling : Bool) : Bool :=
  let new := s.sh (Reg.CTX_MODE c)
  let old := s.reg (Reg.CTX_MODE c)
  bits new 6 5 == 3 || (!enabling &&
    (bit new 0 != bit old 0 || (!bit new 0 &&
      (bit new 1 != bit old 1 ||
        [Reg.DEC_LIMITS c, Reg.DEC_LEVEL c, Reg.DEC_FLOW c].any fun k => s.sh k != s.reg k))))

/-- A dimension of ENC_SIZE as it is coded (R171). -/
def codedDim (n : Nat) : Nat := cdiv n 64 * 64

/-- MaxLumaPs and MaxLumaSr of the levels of R170 (R172; assumption 9). -/
def levelLuma (level : Nat) : Option (Nat × Nat) :=
  let t : List (Nat × Nat × Nat) := [(30, 36864, 552960), (60, 122880, 3686400), (63, 245760, 7372800),
    (90, 552960, 16588800), (93, 983040, 33177600), (120, 2228224, 66846720), (123, 2228224, 133693440),
    (150, 8912896, 267386880), (153, 8912896, 534773760)]
  (t.find? fun p => p.1 == level).map (·.2)

/-- The analysis load of a context in the active set: coded size times picture rate, in 1/100 px/s (R191). -/
def State.analyserLoad (s : State) (p : Nat × Ctx) : Nat :=
  if s.enabled (ctxPage p.1) && s.isEncode p.1 then p.2.codedW * p.2.codedH * s.setEncRate false p.1 else 0
def State.analyserTotal (s : State) (but : Option Nat) : Nat :=
  sumOf s.analyserLoad (s.ctxs.filter fun p => some p.1 != but)

/-- CONTENT_LOAD (R220). -/
def State.showLoad (s : State) : State := s.setFld Reg.CONTENT_LOAD 15 0 (s.analyserTotal none / 100000000)

/-- R766 order 2 for an encode context: the code of ENC_CFG_STATUS, 0 when the set passes. -/
def State.encConfig (s : State) (c : Nat) (enabling : Bool) : Nat :=
  let fmt := s.sh (Reg.ENC_FORMAT c)
  let w := s.shF (Reg.ENC_SIZE c) 15 0
  let h := s.shF (Reg.ENC_SIZE c) 31 16
  let coded := codedDim w * codedDim h
  let rate := s.setEncRate true c
  let sel := s.shF (Reg.ENC_SOURCE c) 2 0
  let base := s.shF (Reg.ENC_REGION_MAP_LO c) 31 6 * 64 + s.shF (Reg.ENC_REGION_MAP_HI c) 7 0 * 2 ^ 32
  let pay := s.shF (Reg.ENC_RTP c) 29 16
  let badSize := w % 8 != 0 || h % 8 != 0 || Nat.blt w 64 || Nat.blt 4096 w || Nat.blt h 64 || Nat.blt 2304 h ||
    Nat.blt 8912896 coded
  let refs := s.shF (Reg.ENC_REFS c) 2 0
  if bit (s.sh (Reg.CTX_MODE c)) 1 then 1
  else if bits fmt 3 0 == 0 || Nat.blt 5 (bits fmt 3 0) then 2
  else match levelLuma (bits fmt 15 8) with
    | none => 4
    | some lim =>
      if badSize then 3
      else if Nat.blt lim.1 coded || Nat.blt (100 * lim.2) (coded * rate) then 4
      else if refs == 0 || Nat.blt 4 refs then 6
      else if Nat.ble 6 sel || (sel == 5 && s.isEncode (s.shF (Reg.ENC_SOURCE c) 15 8)) then 5
      else if enabling && Nat.blt 420000000000 (s.analyserTotal (some c) + coded * rate) then 10
      else if base != 0 && !s.backed base 576 then 8
      else if Nat.blt 256 (s.shF (Reg.ENC_SEARCH c) 8 0) || Nat.blt 128 (s.shF (Reg.ENC_SEARCH c) 23 16) then 6
      else if s.sh (Reg.ENC_SSRC c) == 0 || Nat.blt pay 256 || Nat.blt 8960 pay then 7
      else 0

/-- CpbNalFactor of the profile (R232; assumption 9). -/
def cpbNalFactor (profile : Nat) : Nat :=
  if Nat.ble profile 2 then 1100 else if profile == 3 then 2200 else 2750

/-- MaxCPB in 1,000 bits of a level and tier (R232; assumption 9). -/
def maxCpb (high : Bool) (level : Nat) : Nat := if level == 30 then 350 else h265MaxBr high level

/-- R766 order 3 (R232): the code of ENC_CFG_STATUS, 0 when the set passes. -/
def State.rateConfig (s : State) (c : Nat) : Nat :=
  let fmt := s.sh (Reg.ENC_FORMAT c)
  let br := s.shF (Reg.RC_BITRATE c) 19 0
  let cpb := s.shF (Reg.RC_CPB_SIZE c) 23 0
  let delay := s.shF (Reg.RC_INIT_DELAY c) 16 0
  let target := s.shF (Reg.RC_TARGET c) 19 0
  let ctl := s.sh (Reg.RC_CTRL c)
  let f := cpbNalFactor (bits fmt 3 0)
  let goal2 := 2 * goalBits (br * 1000 / 64 * 64) delay
  let step := s.shF (Reg.RC_ROW c) 3 0
  if Nat.blt br 8000 || Nat.blt (h265MaxBr (bit fmt 4) (bits fmt 15 8) * f) (br * 1000) then 11
  else if bit ctl 0 && (target == 0 || Nat.blt br target) then 11
  else if Nat.blt (cpb * 1000) goal2 || Nat.blt (maxCpb (bit fmt 4) (bits fmt 15 8) * f) (cpb * 1000) then 12
  else if Nat.blt delay 90 || Nat.blt 90000 delay then 12
  else if Nat.blt 51 (bits ctl 21 16) || Nat.blt (bits ctl 29 24) (bits ctl 13 8) || Nat.blt (bits ctl 21 16) (bits ctl 29 24) then 13
  else if step == 0 || Nat.blt 8 step then 13
  else if Nat.blt 90 (s.shF (Reg.RC_EXACT c) 6 0) then 11
  else 0

/-- R766 order 2 for a decode context (R267, R312): the code of DEC_CFG_STATUS, 0 when the set passes. -/
def State.decConfig (s : State) (c : Nat) : Nat :=
  let h264 := bit (s.sh (Reg.CTX_MODE c)) 1
  let w := s.shF (Reg.DEC_LIMITS c) 15 0
  let h := s.shF (Reg.DEC_LIMITS c) 31 16
  let lvl := s.sh (Reg.DEC_LEVEL c)
  let rate := s.shF (Reg.DEC_RATE c) 15 0
  let wait := s.shF (Reg.DEC_LOSS c) 15 0
  let levels := if h264 then [9, 10, 11, 12, 13, 20, 21, 22, 30, 31, 32, 40, 41, 42, 50, 51, 52]
    else [30, 60, 63, 90, 93, 120, 123, 150, 153, 156, 180, 183]
  let above := Nat.blt 8192 w || Nat.blt 4352 h || Nat.blt 35651584 (w * h) || Nat.blt 106954752000 (w * h * rate) ||
    (h264 && Nat.blt 36864 (cdiv w 16 * cdiv h 16)) || Nat.blt 16 (bits lvl 20 16) ||
    Nat.blt 16 (s.shF (Reg.DEC_RATE c) 20 16)
  let bad := bits lvl 20 16 == 0 || s.shF (Reg.DEC_RATE c) 20 16 == 0 || !([8, 10].elem (bits lvl 11 8)) || bits lvl 13 12 == 3 ||
    rate == 0 || !(levels.elem (bits lvl 7 0))
  if above || bad then 1 else if Nat.blt wait 50 || Nat.blt 10000 wait then 2 else 0

/-- R766 order 4 (R42, R99, R100): the code of FRESH_CFG_STATUS, 0 when the set passes. -/
def State.freshConfig (s : State) (c : Nat) : Nat :=
  let enc := bit (s.sh (Reg.CTX_MODE c)) 0
  let de := s.shF (Reg.FRESH_DEADLINE_EXACT c) 15 0
  let dl := s.shF (Reg.FRESH_DEADLINE_LOSSY c) 15 0
  let renewal := if enc then s.shF (Reg.FRESH_RENEWAL c) 15 0
    else if s.sessMode c == 1 then s.fld (Reg.SESS_SDP c) 23 8 else 0
  let base := s.shF (Reg.FRESH_MAP_BASE_LO c) 31 8 * 256 + s.shF (Reg.FRESH_MAP_BASE_HI c) 7 0 * 2 ^ 32
  let ctl := s.sh (Reg.FRESH_CTRL c)
  if badDeadline de || badDeadline dl then 2
  else if Nat.blt (min de dl) (renewal + s.shF (Reg.FRESH_NET_ALLOW c) 15 0) && (enc || s.sessMode c == 1) then 3
  else if Nat.ble 2 (bits ctl 1 0) then 1
  else if bit ctl 4 && base != 0 && !s.backed base 512 then 4
  else 0

/-- A refusal of the checks: in the configuration status of the direction, or of freshness. -/
inductive SetRefusal where
  | config (code : Nat) | fresh (code : Nat)
  deriving DecidableEq, Repr

/-- R766 orders 1 to 4. -/
def State.checkSet (s : State) (c : Nat) (enabling : Bool) : Option SetRefusal :=
  let enc := bit (s.sh (Reg.CTX_MODE c)) 0
  let cfg := if enc then s.encConfig c enabling else s.decConfig c
  let rc := if enc then s.rateConfig c else 0
  let fr := s.freshConfig c
  if s.badChange c enabling then some (.config (if (if enabling then enc else s.isEncode c) then 9 else 3))
  else if cfg != 0 then some (.config cfg)
  else if rc != 0 then some (.config rc)
  else if fr != 0 then some (.fresh fr)
  else none

/-! ### Shadow control (R544) -/

def State.armed (s : State) (page : Nat) : Bool := s.rbit (blkShadow page) 0
def State.clearArm (s : State) (page : Nat) : State := s.setRbit (blkShadow page) 0 false
def State.shadowGen (s : State) (page : Nat) : Nat := s.fld (blkShadow page) 15 8
/-- A copy made: ARM cleared, HANDOVER_GEN advanced (R545 step 2). -/
def State.tookShadow (s : State) (page : Nat) : State :=
  (s.clearArm page).setFld (blkShadow page) 15 8 (s.shadowGen page + 1)

/-- A refusal recorded with HANDOVER_GEN, ARM cleared (R545 step 2a).  ENC_CFG_STATUS and DEC_CFG_STATUS are one
register. -/
def State.refuseSet (s : State) (c : Nat) (r : SetRefusal) : State :=
  let gen := s.shadowGen (ctxPage c)
  let s := s.clearArm (ctxPage c)
  match r with
  | .config n => (s.setRegN (Reg.ENC_CFG_STATUS c) (n + 256 * gen)).setRegN (Reg.DEC_CFG_STATUS c) (n + 256 * gen)
  | .fresh n => s.setRegN (Reg.FRESH_CFG_STATUS c) (n + 256 * gen)

/-! ### The copy -/

/-- The active registers of a context's set. -/
def ctxSet (c : Nat) (enc : Bool) : List Nat :=
  (if enc then
    [Reg.ENC_FORMAT c, Reg.ENC_SIZE c, Reg.ENC_SOURCE c, Reg.ENC_REFS c, Reg.ENC_SEARCH c, Reg.ENC_REFRESH c, Reg.ENC_RTP c,
     Reg.ENC_SSRC c, Reg.ENC_RTP_INIT c, Reg.ENC_RTP_TS_OFFSET c, Reg.ENC_FLOW c, Reg.ENC_REGION_MAP_LO c,
     Reg.ENC_REGION_MAP_HI c, Reg.ENC_EXCLUDE_FILL c, Reg.RC_CTRL c, Reg.RC_BITRATE c, Reg.RC_TARGET c, Reg.RC_CPB_SIZE c,
     Reg.RC_INIT_DELAY c, Reg.RC_ROW c, Reg.RC_EXACT c, Reg.RC_LOSSY_FLOOR c]
   else
    [Reg.DEC_LIMITS c, Reg.DEC_LEVEL c, Reg.DEC_RATE c, Reg.DEC_RTP c, Reg.DEC_FLOW c, Reg.DEC_LOSS c, Reg.DEC_CTRL c]) ++
  [Reg.CTX_MODE c, Reg.FRESH_CTRL c, Reg.FRESH_DEADLINE_EXACT c, Reg.FRESH_DEADLINE_LOSSY c, Reg.FRESH_RENEWAL c,
   Reg.FRESH_NET_ALLOW c, Reg.FRESH_TRANSIT c, Reg.FRESH_MAP_BASE_LO c, Reg.FRESH_MAP_BASE_HI c]

/-- What follows from the set in force: CTX_STATUS (R217, R309, R310), FRESH_MAP_ADDR (R101), SESS_STREAM_ID of an encode
context (R163). -/
def State.applySet (s : State) (c : Nat) : State :=
  let mode := s.reg (Reg.CTX_MODE c)
  let dec := !bit mode 0
  let k := Reg.CTX_STATUS c
  let s := (s.setRbit k 0 (dec && bit mode 7)).setRbit k 1 (dec && bits mode 6 5 != 0)
  let s := s.setRbit k 2 (bit mode 4 || (dec && (((s.ctx c).sps.map needsReorder).getD false)))
  let base := s.regN (Reg.FRESH_MAP_BASE_LO c) + 2 ^ 32 * s.regN (Reg.FRESH_MAP_BASE_HI c)
  let s := s.doIf (base != 0 || s.regN (Reg.FRESH_MAP_BUF c) == 0) fun s =>
    (s.setRegN (Reg.FRESH_MAP_ADDR_LO c) base).setRegN (Reg.FRESH_MAP_ADDR_HI c) (base / 2 ^ 32)
  s.doIf (!dec) fun s => s.setReg (Reg.SESS_STREAM_ID c) (s.reg (Reg.ENC_SSRC c))

/-! ### Buffers (R90, R814) -/

/-- Whether the shadow set calls for a map buffer of the context's own. -/
def State.wantsMapBuf (s : State) (c : Nat) : Bool :=
  bit (s.sh (Reg.FRESH_CTRL c)) 4 && s.shF (Reg.FRESH_MAP_BASE_LO c) 31 8 == 0 && s.shF (Reg.FRESH_MAP_BASE_HI c) 7 0 == 0

/-- The map buffer given back. -/
def State.dropMapBuf (s : State) (c : Nat) : State :=
  let h := s.regN (Reg.FRESH_MAP_BUF c)
  if h == 0 then s
  else (((s.poolDrop h).setRegN (Reg.FRESH_MAP_BUF c) 0).setRegN (Reg.FRESH_MAP_ADDR_LO c) 0).setRegN (Reg.FRESH_MAP_ADDR_HI c) 0

/-- A map buffer taken. -/
def State.keepMapBuf (s : State) (c h : Nat) : State :=
  let a := s.bufAddr (h % 2 ^ 24)
  ((s.setRegN (Reg.FRESH_MAP_BUF c) h).setRegN (Reg.FRESH_MAP_ADDR_LO c) a).setRegN (Reg.FRESH_MAP_ADDR_HI c) (a / 2 ^ 32)

/-- The bytes of the frame store of a shadow set: MAX_DPB + 2 picture buffers of DEC_LIMITS in the layout of R628 (R307;
assumption 10). -/
def State.storeBytes (s : State) (c : Nat) : Nat :=
  let lvl := s.sh (Reg.DEC_LEVEL c)
  let f : PicFmt := { w := s.shF (Reg.DEC_LIMITS c) 15 0, h := s.shF (Reg.DEC_LIMITS c) 31 16, chroma := bits lvl 13 12 + 1,
                      depth := bits lvl 11 8 }
  (bits lvl 20 16 + 2) * f.bytes

/-- Whether DRAM has room for a frame store beside the pools and the other frame stores (assumption 10). -/
def State.storeFits (s : State) (c : Nat) : Bool :=
  let pools := sumOf (fun p => s.poolCount (p + 4) * poolSize (p + 4)) (List.range 4)
  Nat.ble (pools + sumOf (fun p => p.2.frameStore) (s.ctxs.filter fun p => p.1 != c) + s.storeBytes c) s.dramSize

/-! ### Enable -/

/-- The context as it starts: nothing of a stream, every cell at the zero record (R60), the hold counts of R189.  A decode context
that starts while the local time base is not locked starts in the unlocked state (DESIGN CHOICE, assumption 63; R80 names
events alone). -/
def State.startCtx (s : State) (c store : Nat) : State :=
  let enc := s.isEncode c
  let w := s.fld (Reg.ENC_SIZE c) 15 0
  let h := s.fld (Reg.ENC_SIZE c) 31 16
  let x := s.ctx c
  let x : Ctx := { Ctx.init with
    dec := { x.dec with port := 4 }, admitted := x.admitted, chg := x.chg, msas := x.msas, ce := x.ce, admitOrder := x.admitOrder,
    frameStore := store, unlocked := !enc && !s.locked, waveStart := s.now, rtpSeq := s.fld (Reg.ENC_RTP_INIT c) 15 0,
    codedW := if enc then codedDim w else 0, codedH := if enc then codedDim h else 0,
    winW := if enc then w else 0, winH := if enc then h else 0 }
  let hold := s.fld Reg.CONTENT_HOLD 7 0
  let x := if enc then x.mapCtus fun _ r => { r with held := hold } else x
  let s := ((s.setCtx c x).setPairCtx c PairCtx.init).setRbit (Reg.PAIR_DIVERGED (c / 32)) (c % 32) false
  if enc then s.encStatus c 1 else (s.setRegN (Reg.DEC_STATUS c) 1).setRegN (Reg.DEC_SIZE c) 0

/-- An enable that has passed every check: the set copied, the context started (R218 step 1, R307 step 1). -/
def State.finishEnable (s : State) (c table : Nat) (map : Option Nat) : State :=
  let enc := bit (s.sh (Reg.CTX_MODE c)) 0
  let store := if enc then 0 else s.storeBytes c
  let s := (s.copyShadow (ctxSet c enc)).tookShadow (ctxPage c)
  let old := s.regN (Reg.FRESH_CELL_TABLE c)
  let s := s.doIf (old != 0) fun s => s.poolDrop old
  let s := s.setRegN (Reg.FRESH_CELL_TABLE c) table
  let s := s.hwWrite (s.bufAddr (table % 2 ^ 24)) (List.replicate 9216 0)
  let s := match map with
    | some h => s.keepMapBuf c h
    | none => s
  let s := s.setRbit (blkCtrl (ctxPage c)) 0 true
  (((((s.startCtx c store).applySet c).showLoad).reserveBands c).sessSync c).freshStatus c false

/-- R814: the buffers of an enable whose admission has bound the context to a Cue Engine; each refusal undoes all. -/
def State.equip (s : State) (c : Nat) : State :=
  let ce := (s.ctx c).ce
  let enc := bit (s.sh (Reg.CTX_MODE c)) 0
  let undo (s : State) (r : SetRefusal) : State := (s.releaseCtx c).refuseSet c r
  match s.poolAsk ce 9216 with
  | (s, st, table) =>
    if st != 0 then undo s (.fresh 6)
    else if s.wantsMapBuf c then
      match s.poolAsk ce 512 with
      | (s, st, map) =>
        if st != 0 then undo (s.poolDrop table) (.fresh 5)
        else if !enc && !s.storeFits c then undo ((s.poolDrop map).poolDrop table) (.config 4)
        else s.finishEnable c table (some map)
    else if !enc && !s.storeFits c then undo (s.poolDrop table) (.config 4)
    else s.finishEnable c table none

/-- The admission of an enable whose shadow set has just passed its checks, and what follows (R340). -/
def State.admitEnable (s : State) (c : Nat) : State :=
  match s.formCharge c with
  | .inl st => ((s.bump Reg.LEDGER_REFUSALS 1).admitStatus c st).clearArm (ctxPage c)
  | .inr g => match s.admitCtx c g with
    | (s, 0) => s.equip c
    | (s, _) => s.clearArm (ctxPage c)

/-- The request of an enable. -/
def enableReq (c : Nat) : AdmitReq := { ctx := c, comp := false, handover := false }
def handoverReq (c : Nat) : AdmitReq := { ctx := c, comp := false, handover := true }
def compReq (n : Nat) : AdmitReq := { ctx := n, comp := true, handover := true }

/-- CTX_ENABLE (R218, R307, R327): the shadow set is checked whatever ARM holds, admitted now or, before the ledger's
first update, when it comes, equipped and copied. -/
def State.ctxEnable (s : State) (c : Nat) : State :=
  if s.enabled (ctxPage c) || s.inReset (ctxPage c) || s.domainHeld 6 || s.ledger.waiting.elem (enableReq c) then s
  else match s.checkSet c true with
    | some r => s.refuseSet c r
    | none => if s.rbit Reg.LEDGER_STATUS 11 then s.admitEnable c else s.askAdmission (enableReq c)

def execCtxEnable (c : Nat) (s : State) : Host.Outcome State Fault Refusal := .next (s.ctxEnable c)

/-! ### State 0 -/

/-- Requests and decisions of a context withdrawn. -/
def State.dropAdmission (s : State) (c : Nat) : State :=
  let s := s.doIf (s.ledger.waiting.elem (enableReq c)) fun s => s.dropRequest (enableReq c)
  let s := s.doIf (s.ledger.waiting.elem (handoverReq c)) fun s => s.dropRequest (handoverReq c)
  match s.decisionOf (handoverReq c) with
  | some d => s.forgetDecision d.req
  | none => s

/-- A context reaches state 0 (R90, R150, R218, R307, R343): its sessions closed, its charges, map buffer and source
buffer given back; its cell table and frame store stay. -/
def State.ctxStopped (s : State) (c : Nat) : State :=
  let enc := s.isEncode c
  let s := match (s.ctx c).dpic, (s.ctx c).sps with
    | some p, some i => s.raiseDamage c p i
    | _, _ => s
  let s := (s.dropJobs c).setRbit (blkCtrl (ctxPage c)) 0 false
  let s := s.doIf enc fun s => s.byeAll c stStreamStopped
  let s := s.doIf enc fun s => s.keepBuffer c none
  let s := ((s.dropAdmission c).releaseCtx c).dropMapBuf c
  let s := s.modCtx c fun x => { x with
    stopping := false, pic := none, dpic := none, waiting := [], donWait := [], assembling := none, queue := [], starts := [] }
  let s := if enc then s.encStatus c 0 else s.setDecState c 0
  let s := s.showLoad.sessSync c
  s.freshStatus c (!enc && s.rbit (Reg.FRESH_STATUS c) 5)

/-- Whether the access unit in assembly is that of a decode context's picture in progress: in decoding already, or, with nothing before
it, with a picture of its own (R270, R307). -/
def Ctx.comingAu (x : Ctx) : Bool :=
  x.arriving || (x.dpic.isNone && x.queue.isEmpty && x.assembling.any fun u => u.hasPicture && !u.dropped && !u.skipped)

/-- CTX_STOP (R218 step 4, R307 step 3): the picture in progress is completed first; later access units are discarded. -/
def State.ctxStop (s : State) (c : Nat) : State :=
  let x := s.ctx c
  if s.ledger.waiting.elem (enableReq c) then s.dropRequest (enableReq c)
  else if !s.enabled (ctxPage c) then s
  else if x.pic.isNone && x.dpic.isNone && !x.comingAu then s.ctxStopped c
  else s.modCtx c fun x => { x with
    stopping := true, queue := [], assembling := if x.comingAu then x.assembling else none,
    donWait := if x.comingAu then x.donWait else [] }

def execCtxStop (c : Nat) (s : State) : Host.Outcome State Fault Refusal :=
  .next <| s.ifLive (ctxPage c) fun s => s.ctxStop c

/-- CTX_HALT (R218 step 5, R307 step 4): what is not yet sent is dropped; the sheet of the picture in decoding is not
committed. -/
def State.ctxHalt (s : State) (c : Nat) : State :=
  if s.ledger.waiting.elem (enableReq c) then s.dropRequest (enableReq c)
  else if s.enabled (ctxPage c) then s.ctxStopped c
  else s

def execCtxHalt (c : Nat) (s : State) : Host.Outcome State Fault Refusal :=
  .next <| s.ifLive (ctxPage c) fun s => s.ctxHalt c

/-- A picture that ends while STOP is written takes the context to state 0. -/
def State.stopIfDone (s : State) (c : Nat) : State :=
  let x := s.ctx c
  if x.stopping && x.pic.isNone && x.dpic.isNone && !x.comingAu && x.queue.isEmpty then s.ctxStopped c else s

def execDecPictureStart (c : Nat) (s : State) : Host.Outcome State Fault Refusal :=
  .next <| s.ifLive (ctxPage c) fun s => (s.decPictureStart c).stopIfDone c

/-- DEC_PICTURE_COMPLETE. -/
def execDecPictureComplete (c : Nat) (s : State) : Host.Outcome State Fault Refusal :=
  .next <| s.ifLive (ctxPage c) fun s =>
    let t := s.decPictureComplete c
    if (t.ctx c).dpic.isNone && (s.ctx c).dpic.isSome then (t.dropJobs c).stopIfDone c else t

/-! ### Hand-over -/

/-- The changes of a copy that restart a stream with an IDR picture (R179, R233). -/
def State.idrChange (s : State) (c : Nat) : Bool :=
  [Reg.ENC_FORMAT c, Reg.ENC_SIZE c, Reg.ENC_REFS c, Reg.RC_BITRATE c, Reg.RC_CPB_SIZE c, Reg.RC_INIT_DELAY c].any (fun k => s.sh k != s.reg k) ||
    s.shF (Reg.RC_CTRL c) 1 0 != s.fld (Reg.RC_CTRL c) 1 0

/-- The changes that are told to the peer by UPDATE (R158, R160). -/
def State.updateChange (s : State) (c : Nat) : Bool :=
  let differ (k : Nat) : Bool := s.sh k != s.reg k
  if s.isEncode c then differ (Reg.ENC_SIZE c) || differ (Reg.FRESH_RENEWAL c) || s.shF (Reg.CTX_MODE c) 6 5 != s.fld (Reg.CTX_MODE c) 6 5
  else differ (Reg.FRESH_DEADLINE_EXACT c) || differ (Reg.FRESH_DEADLINE_LOSSY c) || differ (Reg.FRESH_NET_ALLOW c)

/-- An encode context whose picture size has changed: a new grid of CTUs and cells; nothing is kept of earlier pictures but the
alive counters of the cells and when their last entries were issued, which go on (R55, R56). -/
def State.resizeEnc (s : State) (c : Nat) : State :=
  let w := s.fld (Reg.ENC_SIZE c) 15 0
  let h := s.fld (Reg.ENC_SIZE c) 31 16
  let hold := s.fld Reg.CONTENT_HOLD 7 0
  let s := s.modCtx c fun x =>
    let x : Ctx := { x with codedW := codedDim w, codedH := codedDim h, winW := w, winH := h, ctus := [],
                            prevSource := false, prevPic := none, refs := [], intraCells := [], waveRow := none, wave := 0 }
    let y := x.cells.foldl (fun y q =>
      y.setCell q.1 { CellRec.zero with alive := q.2.alive, seen := q.2.seen, issued := q.2.issued, late := q.2.late }) { x with cells := [] }
    y.mapCtus fun _ r => { r with held := hold }
  ((s.encStatus c (s.fld (Reg.ENC_STATUS c) 3 0)).storeCells c).showFresh c

/-- R545 step 2 for a context: the copy, and what its changes bring. -/
def State.copyCtx (s : State) (c : Nat) : State :=
  let enc := s.isEncode c
  let idr := enc && s.idrChange c
  let resize := enc && s.sh (Reg.ENC_SIZE c) != s.reg (Reg.ENC_SIZE c)
  let update := s.updateChange c
  let lift := (s.ctx c).degrade != 0 && s.shF (Reg.CTX_MODE c) 3 2 == 0 && s.fld (Reg.CTX_MODE c) 3 2 != 0
  let s := (s.copyShadow (ctxSet c enc)).tookShadow (ctxPage c)
  let s := s.doIf lift fun s => (s.dropDegradation c).showSums
  let s := s.doIf (s.fld (Reg.FRESH_MAP_BASE_LO c) 31 8 != 0 || s.fld (Reg.FRESH_MAP_BASE_HI c) 7 0 != 0) fun s => s.dropMapBuf c
  let s := s.doIf idr fun s => s.modCtx c fun x => { x with wantIdr := true }
  let s := s.doIf resize fun s => s.resizeEnc c
  let s := s.doIf (idr && (resize || s.reg (shadowOf (Reg.ENC_REFS c)) != 0)) fun s => s.reserveBands c
  let s := ((s.applySet c).showLoad.sessStatus c).showFresh c
  s.doIf update fun s =>
    if enc then s.updateAllEnc c
    else s.doIf (decide ((s.ctx c).dec.st = .opened) && (s.ctx c).dec.version == 2) fun s => s.sendDecUpdate c none

/-- The map buffer that a hand-over may need (R90), then the copy. -/
def State.bufferAndCopy (s : State) (c : Nat) : State :=
  if s.wantsMapBuf c && s.regN (Reg.FRESH_MAP_BUF c) == 0 then
    match s.poolAsk (s.ctx c).ce 512 with
    | (s, 0, h) => (s.keepMapBuf c h).copyCtx c
    | (s, _, _) =>
      let s := match s.decisionOf (handoverReq c) with
        | some d => s.discardDecision d
        | none => s
      s.refuseSet c (.fresh 5)
  else s.copyCtx c

/-- Whether what the shadow set asks for is what a decision was made on (R548). -/
def AdmitDec.holds (d : AdmitDec) (f : Nat ⊕ Charge) : Bool :=
  match f with
  | .inl st => d.status == st
  | .inr g => !g.differs d.chg

/-- The hand-over point of a context: its picture boundary (R543, R545, R548). -/
def State.ctxHandover (s : State) (c : Nat) : State :=
  let x := s.ctx c
  let r := handoverReq c
  if !s.ctxEnabled c || x.pic.isSome || x.dpic.isSome || !s.armed (ctxPage c) then s
  else match s.checkSet c false with
    | some q => (match s.decisionOf r with
        | some d => s.discardDecision d
        | none => s.doIf (s.ledger.waiting.elem r) fun s => s.dropRequest r).refuseSet c q
    | none =>
      let f := s.formCharge c
      match s.decisionOf r with
      | some d =>
        if d.holds f then
          if d.status == 0 then (s.bufferAndCopy c).forgetDecision r
          else (s.forgetDecision r).clearArm (ctxPage c)
        else (s.discardDecision d).askAdmission r
      | none =>
        if s.ledger.waiting.elem r then s
        else match f with
          | .inr g => if g.differs x.chg then s.askAdmission r else s.bufferAndCopy c
          | .inl _ => s.askAdmission r

/-! ### The ledger's update and decisions -/

/-- One request decided (R342): an enable that waited is checked as its shadow set and the load now stand (R191, R814), then goes
on; a hand-over keeps its decision for the hand-over point. -/
def State.decideRequest (s : State) (r : AdmitReq) : State :=
  if r.comp then s.decideComp r
  else if r.handover then s.decideCtxHandover r
  else
    let s := s.dropRequest r
    match s.checkSet r.ctx true with
    | some q => s.refuseSet r.ctx q
    | none => s.admitEnable r.ctx

/-- ADMISSION_DECIDE (R327, R342): the first of the requests that wait, in the order of R342. -/
def execAdmissionDecide (s : State) : Host.Outcome State Fault Refusal :=
  .next <| s.ifLive 0x007 fun s =>
    if s.rbit Reg.LEDGER_STATUS 11 then
      match minBy? AdmitReq.order s.ledger.waiting with
      | some r => s.decideRequest r
      | none => s
    else s

/-- LEDGER_UPDATE (R300, R305, R325 to R328, R336 to R338, R342, R344, R714 to R717, R719): measurement, rehearsal
grant, degradation or undo, the requests that waited, the voltage plan. -/
def State.ledgerUpdate (s : State) (f : LedgerFacts) : State :=
  if s.domainHeld 1 || s.domainHeld 6 then s
  else
    let s := ((s.readMonitors f).measureUnits).measure
    let raw := s.ledger.raws.headD 0
    let s := (s.judgeDeficit.judgeRehearsal).balance
    let s := s.forEach (sortBy AdmitReq.order s.ledger.waiting) fun r s => s.decideRequest r
    (s.plan raw).journalUpdate raw

def execLedgerUpdate (f : LedgerFacts) (s : State) : Host.Outcome State Fault Refusal := .next (s.ledgerUpdate f)

end Sys2Proof.Machine
end

