-- ==== Sys2Proof/Machine/Time.lean ====
section
/-! DEFINITION. The time base: the tick (R479, R485), its lock (R477, R478), increments and steps (R480 to R485), reading
(R486), PPS (R488). -/

namespace Sys2Proof.Machine

/-- Nanoseconds of the time base moved by a signed number of ns, seconds with it (R479). -/
def TimeBase.shift (t : TimeBase) (d : Int) : TimeBase :=
  let v : Int := ((t.sec * 1000000000 + t.ns : Nat) : Int) + d
  { t with sec := (v / 1000000000).toNat % 2 ^ 64, ns := (v % 1000000000).toNat }

/-- One tick of the 500 MHz domain: a step that waits, then the increment, new from this tick where one waits (R479,
R480, R483, R485). -/
def TimeBase.tick (t : TimeBase) : TimeBase :=
  let t := match t.step with
    | some d => { t.shift d with step := none }
    | none => t
  let t := match t.inc with
    | some (n, f) => { t with incNs := n, incFrac := f, inc := none }
    | none => t
  let fr := t.frac + t.incFrac
  let ns := t.ns + t.incNs + fr / 2 ^ 32
  { t with frac := fr % 2 ^ 32, ns := ns % 1000000000, sec := (t.sec + ns / 1000000000) % 2 ^ 64 }

/-- The operating time of R719, by ticks: MARGIN_JOURNAL_NEXT falls each second, MARGIN_HOURS rises each hour. -/
def State.opTick (s : State) : State :=
  let n := s.margin.opTicks + 1
  let s := { s with margin := { s.margin with opTicks := n } }
  let s := s.doIf (n % 500000000 == 0) fun s =>
    s.setFld Reg.MARGIN_JOURNAL_NEXT 19 0 (s.fld Reg.MARGIN_JOURNAL_NEXT 19 0 - 1)
  s.doIf (n % 1800000000000 == 0) fun s => s.wrapAdd Reg.MARGIN_HOURS 1

/-- A tick of the block: what step does when no command waits (assumption 1). The time base runs once domain 1 is released
(R645), the operating time while power is applied (R719). -/
def State.tick (s : State) : State :=
  let s := if s.domainHeld 1 then s else s.modTb TimeBase.tick
  if s.rc.powered then s.opTick else s

/-! ### Lock -/

def timeRole (v : Nat) : Nat := if v == 3 then 0 else v

/-- ROLE in use (R501: 3 is treated as 0). -/
def State.timeRoleInUse (s : State) : Nat := timeRole (s.fld Reg.TIME_CTRL 5 4)

/-- The running DisplayPort outputs follow the lock of the time base: TIME_LOCKED, and LOCKED that it clears (R413, R414). -/
def State.dpTimeLock (s : State) (b : Bool) : State :=
  s.forEach (List.range 8) fun n s =>
    if s.fld (Reg.DP_OUT_STATUS n) 3 0 == 0 then s
    else
      let s := s.setRbit (Reg.DP_OUT_STATUS n) 6 b
      if !b && s.rbit (Reg.DP_OUT_STATUS n) 5 then
        (s.setRbit (Reg.DP_OUT_STATUS n) 5 false).raise (416 + n) FaultKind.FRAME_UNLOCKED 0
      else s

/-- LOCKED set at once (R477). -/
def State.setLocked (s : State) : State :=
  if s.locked then s
  else
    let s := s.setRbit Reg.TIME_STATUS 0 true
    ((s.modTb fun t => { t with lockedSince := s.now }).localLockGained).dpTimeLock true

/-- LOCKED cleared: counted, TIME_UNLOCKED, the decode contexts unlocked (R478, R80). -/
def State.clearLocked (s : State) : State :=
  if s.locked then
    ((((s.setRbit Reg.TIME_STATUS 0 false).bump Reg.TIME_LOCK_LOSSES 1).raise 442 FaultKind.TIME_UNLOCKED 0).localLockLost).dpTimeLock false
  else s

def State.sampleCount (s : State) : Nat := s.fld Reg.TIME_STATUS 15 8
def State.setSampleCount (s : State) (n : Nat) : State := s.setFld Reg.TIME_STATUS 15 8 (min n 255)

/-- TIME_OFFSET_SAMPLE (R477, R478): the servo reports an offset from master. -/
def State.timeSample (s : State) (v : Word) : State :=
  let o := (s32 v.toNat).natAbs
  let s := s.setReg Reg.TIME_LAST_OFFSET v
  if s.fld Reg.TIME_UNLOCK_CFG 15 0 < o then (s.setSampleCount 0).clearLocked
  else if s.fld Reg.TIME_LOCK_CFG 15 0 < o then s.setSampleCount 0
  else
    let n := s.sampleCount + 1
    (s.setSampleCount n).doIf (s.timeRoleInUse == 1 && Nat.ble (s.fld Reg.TIME_LOCK_CFG 23 16) n) fun s => s.setLocked

def execTimeOffsetSample (v : Word) (s : State) : Host.Outcome State Fault Refusal :=
  .next <| s.ifLive 0x004 fun s => s.timeSample v

/-- SAMPLE_TIMEOUT (R478): SAMPLE_TIMEOUT ms without a sample while ROLE is slave. -/
def execSampleTimeout (s : State) : Host.Outcome State Fault Refusal :=
  .next <| s.ifLive 0x004 fun s => s.doIf (s.timeRoleInUse == 1) fun s => (s.setSampleCount 0).clearLocked

/-- TIME_CTRL_WRITE (R477, R478): a change of ROLE, or GM_LOCKED cleared as grandmaster, clears LOCKED; GM_LOCKED as
grandmaster sets it. -/
def State.timeCtrlWrite (s : State) (v : Word) : State :=
  let old := s.timeRoleInUse
  let s := s.setReg Reg.TIME_CTRL (v &&& 0x37)
  let role := s.timeRoleInUse
  let s := s.setFld Reg.TIME_STATUS 5 4 role
  let s := s.doIf (role != old) fun s => (s.setSampleCount 0).clearLocked
  if role == 2 then (if bit v 1 then s.setLocked else s.clearLocked) else s

def execTimeCtrlWrite (v : Word) (s : State) : Host.Outcome State Fault Refusal :=
  .next <| s.ifLive 0x004 fun s => s.timeCtrlWrite v

/-! ### Increment and steps -/

/-- The largest difference of the increment from 2 ns, in 2^−32 ns (R480). -/
def State.incrBound (s : State) : Nat := 2 * 2 ^ 32 * s.fld Reg.TIME_MAX_ADJ 9 0 / 1000000

/-- An increment brought within the bound: its value, and whether it was outside (R480). -/
def State.clampIncr (s : State) (v : Nat) : Nat × Bool :=
  let lo := 2 * 2 ^ 32 - s.incrBound
  let hi := 2 * 2 ^ 32 + s.incrBound
  if v < lo then (lo, true) else if hi < v then (hi, true) else (v, false)

/-- The increment applied from the next tick; the registers read the value in use (R480). -/
def State.useIncr (s : State) (v : Nat) : State :=
  let s := (s.setRegN Reg.TIME_INCR_NS (v / 2 ^ 32 % 256)).setRegN Reg.TIME_INCR_FRAC v
  s.modTb fun t => { t with inc := some (v / 2 ^ 32, v % 2 ^ 32) }

/-- The increment that is in use from the next tick, in 2^−32 ns. -/
def State.incrInUse (s : State) : Nat :=
  match s.tb.inc with
  | some (n, f) => n * 2 ^ 32 + f
  | none => s.tb.incNs * 2 ^ 32 + s.tb.incFrac

/-- TIME_INCR_WRITE (R480): a write of TIME_INCR_NS with the last written TIME_INCR_FRAC. -/
def State.timeIncrWrite (s : State) (v : Word) : State :=
  let r := s.clampIncr (bits v 7 0 * 2 ^ 32 + s.regN Reg.TIME_INCR_FRAC)
  (s.doIf r.2 fun s => s.bump Reg.TIME_ADJ_CLAMPS 1).useIncr r.1

def execTimeIncrWrite (v : Word) (s : State) : Host.Outcome State Fault Refusal :=
  .next <| s.ifLive 0x004 fun s => s.timeIncrWrite v

/-- TIME_MAX_ADJ_WRITE (R480, R810). -/
def State.timeMaxAdjWrite (s : State) (v : Word) : State :=
  let a := bits v 9 0
  if Nat.ble 1 a && Nat.ble a 1000 then
    let s := s.setRegN Reg.TIME_MAX_ADJ a
    match s.clampIncr s.incrInUse with
    | (n, true) => (s.bump Reg.TIME_ADJ_CLAMPS 1).useIncr n
    | (_, false) => s
  else s

def execTimeMaxAdjWrite (v : Word) (s : State) : Host.Outcome State Fault Refusal :=
  .next <| s.ifLive 0x004 fun s => s.timeMaxAdjWrite v

/-- TIME_STEP (R482 to R484): a write of TIME_CMD. -/
def State.timeStep (s : State) (v : Word) : State :=
  if !bit v 0 then s
  else
    let d := sx 64 (s.reg64 Reg.TIME_STEP_LO)
    let jump := Nat.blt (s.regN Reg.TIME_JUMP_THRESH) d.natAbs
    if jump && !bit v 1 then
      (s.bump Reg.TIME_JUMPS_REFUSED 1).raise 442 FaultKind.TIME_JUMP_REFUSED (min (d.natAbs / 1000) (2 ^ 40 - 1))
    else
      let s := s.modTb fun t => { t with step := some (t.step.getD 0 + d) }
      let s := s.bump Reg.TIME_STEPS 1
      s.doIf jump fun s => (s.setSampleCount 0).clearLocked

def execTimeStep (v : Word) (s : State) : Host.Outcome State Fault Refusal :=
  .next <| s.ifLive 0x004 fun s => s.timeStep v

/-! ### Reading and PPS -/

/-- The registers of R486 latched from the present tick. -/
def State.latchNow (s : State) : State :=
  ((s.setRegN Reg.TIME_NOW_FRAC s.tb.frac).setRegN Reg.TIME_NOW_NS s.tb.ns).setReg64 Reg.TIME_NOW_SEC_LO s.tb.sec

/-- TIME_NOW_READ (R486): a read of TIME_NOW_FRAC latches the other three from the same tick. -/
def execTimeNowRead (s : State) : Host.Outcome State Fault Refusal :=
  .next <| if s.live 0x004 then s.latchNow.emit (.readData (BitVec.ofNat 32 s.tb.frac)) else s.emit (.readData 0)

/-- The PPS_OUT ball, in the numbering of the balls that the model drives (assumption 4). -/
def ballPpsOut : Nat := 1

/-- PPS_OUT_PULSE (R488): at a change of the seconds count, with PPS_OUT_EN, high for WIDTH µs. -/
def execPpsOutPulse (s : State) : Host.Outcome State Fault Refusal :=
  .next <| s.ifLive 0x004 fun s => s.doIf (s.rbit Reg.TIME_CTRL 0) fun s => s.emit (.pulse ballPpsOut (s.fld Reg.TIME_PPS_OUT_CFG 15 0))

/-- PPS_IN_EDGE (R488): a rising edge on PPS_IN at a reading of the time base. -/
def execPpsInEdge (t : Nat) (s : State) : Host.Outcome State Fault Refusal :=
  .next <| s.ifLive 0x004 fun s =>
    s.doIf (s.rbit Reg.TIME_CTRL 2) fun s =>
      let s := s.setRegN Reg.TIME_PPS_IN_NS (t % 1000000000)
      s.modTb fun b => { b with ppsSec := t / 1000000000 }

/-- The seconds registers of R488 latched. -/
def State.latchPps (s : State) : State := s.setReg64 Reg.TIME_PPS_IN_SEC_LO s.tb.ppsSec

/-- PPS_IN_READ (R488): a read of TIME_PPS_IN_NS latches the seconds registers. -/
def execPpsInRead (s : State) : Host.Outcome State Fault Refusal :=
  .next <| if s.live 0x004 then s.latchPps.emit (.readData (s.reg Reg.TIME_PPS_IN_NS)) else s.emit (.readData 0)

end Sys2Proof.Machine
end

