-- ==== Sys2Proof/Machine/Compose.lean ====
section
/-! DEFINITION. What a compositor draws (R74 to R79, R87, R416 to R429, R432, R449, R693): windows, the cells of a decode window,
source samples as RGB, scaling, customer code, the hatch, layers, the composed frame. -/

namespace Sys2Proof.Machine

/-- The pages of DP_OUT_n, COMP_n and DP_IN_n. -/
def outPage (n : Nat) : Nat := 0x040 + n
def compPage (n : Nat) : Nat := 0x050 + n
def inPage (n : Nat) : Nat := 0x048 + n

/-- DP_IN_STATUS.STATE. -/
def State.inState (s : State) (n : Nat) : Nat := s.fld (Reg.DP_IN_STATUS n) 3 0
def State.setInState (s : State) (n v : Nat) : State := s.setFld (Reg.DP_IN_STATUS n) 3 0 v

/-! ### Windows -/

/-- A window of a compositor: source kind and number, layer, hatch and scaling, customer kernel and effect by their entries where
they are enabled, source and destination area (x, y, width, height), alpha, colour (R447, R448). -/
structure Win where
  num : Nat
  kind : Nat
  id : Nat
  layer : Nat
  hatch : Bool
  bilinear : Bool
  kernel : Option Nat
  effect : Option Nat
  src : Nat × Nat × Nat × Nat
  dst : Nat × Nat × Nat × Nat
  alpha : Nat
  colour : Pixel

/-- A colour register (R447). -/
def rgbOf (v : Nat) : Pixel := (v % 1024, v / 1024 % 1024, v / 2 ^ 20 % 1024)

/-- A window as its registers stand. -/
def State.win (s : State) (n i : Nat) : Win :=
  let c := s.reg (Reg.WIN_CTRL n i)
  let xy (k : Nat) : Nat × Nat := (s.fld k 15 0, s.fld k 31 16)
  let area (p q : Nat) : Nat × Nat × Nat × Nat := ((xy p).1, (xy p).2, (xy q).1, (xy q).2)
  { num := i, kind := bits c 2 1, id := bits c 11 4, layer := bits c 15 12, hatch := bit c 16, bilinear := bit c 17,
    kernel := if bit c 22 then some (0x1800 + bits c 21 18) else none,
    effect := if bit c 27 then some (0x1810 + bits c 26 23) else none,
    src := area (Reg.WIN_SRC_POS n i) (Reg.WIN_SRC_SIZE n i), dst := area (Reg.WIN_DST_POS n i) (Reg.WIN_DST_SIZE n i),
    alpha := s.fld (Reg.WIN_ALPHA n i) 8 0, colour := rgbOf (s.regN (Reg.WIN_COLOUR n i)) }

/-- The windows that are drawn, from the bottom upwards (R427). -/
def State.winsUp (s : State) (n : Nat) : List Win :=
  sortBy (fun w => 16 * w.layer + w.num) (((List.range 16).filter fun i => s.rbit (Reg.WIN_CTRL n i) 0).map (s.win n))

/-- Whether an output pixel lies in a window's destination area. -/
def Win.covers (w : Win) (x y : Nat) : Bool :=
  Nat.ble w.dst.1 x && Nat.blt x (w.dst.1 + w.dst.2.2.1) && Nat.ble w.dst.2.1 y && Nat.blt y (w.dst.2.1 + w.dst.2.2.2)

/-! ### Cells of a decode window -/

/-- Whether a decode context has no picture to show (R420): no frame store, or none decoded yet (an enabled context has every cell
Unsourced, R60; DEDUCED, assumption 54). -/
def State.noPicture (s : State) (c : Nat) : Bool := (s.ctx c).frameStore == 0 || (s.ctx c).codedW == 0

/-- The cells across that a window's context is judged by; without a picture the grid of the source area (R420). -/
def State.winCols (s : State) (w : Win) : Nat := if s.noPicture w.id then cellsAcross (w.src.1 + w.src.2.2.1) else (s.ctx w.id).cols

/-- The sample region of a cell in one axis after cropping and scaling, rounded outward to output pixels (R74): `r` its source
samples from, to; `p` and `n` source area, `o` and `m` destination area. -/
def screenSpan (r : Nat × Nat) (p n o m : Nat) : Option (Nat × Nat) :=
  let a := max r.1 p - p
  let b := min r.2 (p + n) - p
  if Nat.blt a b then some (o + a * m / max 1 n, o + cdiv (b * m) (max 1 n)) else none

/-- The screen area of a cell in a window: columns from, to; lines from, to; none when the window does not show it (R37, R74). -/
def State.cellScreen (s : State) (w : Win) (cell : Nat) : Option ((Nat × Nat) × (Nat × Nat)) :=
  let x := s.ctx w.id
  let n := s.winCols w
  let span (o len k : Nat) : Nat × Nat := if s.noPicture w.id then (256 * k, 256 * k + 256) else cellSpan o len k
  if n == 0 then none
  else match screenSpan (span x.winX x.winW (cell % n)) w.src.1 w.src.2.2.1 w.dst.1 w.dst.2.2.1,
      screenSpan (span x.winY x.winH (cell / n)) w.src.2.1 w.src.2.2.2 w.dst.2.1 w.dst.2.2.2 with
    | some h, some v => some (h, v)
    | _, _ => none

/-- The output line on which a cell is first displayed in a window (R74); in a version 1 session that is the window's first
displayed line of the picture for every cell (R87). -/
def State.firstLine (s : State) (n i cell : Nat) : Option Nat :=
  let w := s.win n i
  let x := s.ctx w.id
  (s.cellScreen w cell).map fun a =>
    if s.useVersion w.id == 1 && !s.noPicture w.id then
      ((screenSpan (x.winY, x.winY + x.winH) w.src.2.1 w.src.2.2.2 w.dst.2.1 w.dst.2.2.2).map (·.1)).getD a.2.1
    else a.2.1

/-- The scan-out time of an active line of the frame in progress (R75, R411). -/
def State.lineTime (s : State) (n line : Nat) : Nat :=
  s.reg64 (Reg.DP_OUT_FRAME_TIME_LO n) + line * s.outPeriod n / (max 1 (s.fld (Reg.DP_OUT_V_TIMING n) 31 16) * 2 ^ 32)

/-- The luma lines of a CTU row of a decode context. -/
def State.rowUnit (s : State) (c : Nat) : Nat := ((s.ctx c).sps.map spsCtuSize).getD 64

/-- The picture of each CTU row of a cell as a window would read it now (R419): the newest in which the row is filtered and
written, or in frame latency mode the one that was complete at the frame start. -/
def State.cellRows (s : State) (n : Nat) (w : Win) (cell : Nat) : List (Option PicRef) :=
  let x := s.ctx w.id
  let z := s.rowUnit w.id
  let top := 256 * (cell / max 1 x.cols)
  (List.range (cdiv (min 256 (x.codedH - top)) z)).map fun r =>
    if s.subFrame w.id then Sparse.get (fun _ => none) x.rowPics (top / z + r) else Sparse.get (fun _ => none) (s.dpOut n).shown w.num

/-- The hatch of a cell whose first displayed line is scanned out now (R75 to R78, R88, R420, R429). -/
def State.judgeCell (s : State) (n : Nat) (w : Win) (cell line : Nat) : Nat :=
  if !w.hatch then 0
  else if s.noPicture w.id then (if s.contract w.id then 1 else 0)
  else s.cellPattern w.id cell (s.lineTime n line)

/-- A cell read at its first displayed line: all of it at once (DESIGN CHOICE, assumption 54). -/
def State.readCell (s : State) (n : Nat) (w : Win) (cell line : Nat) : CellRead :=
  { win := w.num, cell := cell, pattern := s.judgeCell n w cell line, rows := s.cellRows n w cell }

/-- What the compositor read of a cell in the frame, none before its first displayed line. -/
def DpOut.read (d : DpOut) (i cell : Nat) : Option CellRead := d.reads.find? fun r => r.win == i && r.cell == cell

/-! ### Source samples -/

/-- A stored sample as 10-bit RGB (R422, R423). -/
def State.rgbAt (s : State) (p : PicRef) (u v : Nat) : Pixel :=
  let up (k x y : Nat) : Nat := convDepth p.fmt.depth 10 (s.sample p k x y)
  let c (k : Nat) : Nat := if p.fmt.chroma == 0 then 512 else up k (u / p.fmt.subW) (v / p.fmt.subH)
  toRgb p.matrix p.full (up 0 u v, c 1, c 2)

/-- A luma position inside a picture's conformance window. -/
def PicRef.inside (p : PicRef) (u v : Nat) : Bool :=
  Nat.ble p.winX u && Nat.blt u (p.winX + p.winW) && Nat.ble p.winY v && Nat.blt v (p.winY + p.winH)

/-- The matrix of a capture window's source: by CSC (R422, R441). -/
def cscMatrix (csc : Nat) : Nat := if csc == 1 then 9 else if csc == 2 then 0 else 1

/-- A source sample of a window by its position in the source area; none where there is none: outside the conformance window
(R418), no picture (R420), no line captured. -/
def State.winSource (s : State) (n : Nat) (w : Win) (a b : Nat) : Option Pixel :=
  let u := w.src.1 + a
  let v := w.src.2.1 + b
  if w.kind == 2 then some w.colour
  else if w.kind == 1 then
    ((Sparse.get (fun _ => []) (s.dpIn w.id).lines v)[u]?).map (toRgb (cscMatrix (s.fld (Reg.DP_IN_CTRL w.id) 5 4)) true)
  else if s.noPicture w.id then none
  else
    let cell := v / 256 * s.winCols w + u / 256
    let rows := (((s.dpOut n).read w.num cell).map (·.rows)).getD (s.cellRows n w cell)
    match rows.getD (v % 256 / s.rowUnit w.id) none with
    | some p => if p.inside u v then some (s.rgbAt p u v) else none
    | none => none

/-! ### A window's pixels -/

/-- Whether an entry of the PX entry table is the customer's: its word is not the JUMP to the vendor default (R371). -/
def State.customEntry (s : State) (e : Nat) : Bool :=
  s.fld Reg.UC_LOAD_STATUS 19 12 == 1 && s.ucCommon 0 e % 2 ^ 24 != 0x400000 + Config.vendorDefault 0 (e - 0x1800) % 0x1800

/-- What customer code makes of a pixel: the spec leaves the code to the customer, so its result is a free value (assumption 2). -/
def custom (free e x y : Nat) : Pixel :=
  let p := Config.customPixel free e x y
  (p.1 % 1024, p.2.1 % 1024, p.2.2 % 1024)

/-- Whether the call of a window's kernel or effect was abandoned at a position of its destination area, in a work item of the frame
(R376). -/
def State.abandoned (s : State) (n : Nat) (w : Win) (effect : Bool) (x y : Nat) : Bool :=
  (s.dpOut n).defaults.any fun d => d.2 == effect && d.1.win.val == w.num && Nat.ble d.1.x x && Nat.blt x (d.1.x + d.1.w) &&
    Nat.ble d.1.y y && Nat.blt y (d.1.y + d.1.h)

/-- The value of a window at a position of its destination area, before its hatch (R418, R424, R425): the background where it has
no source sample. -/
def State.winValue (s : State) (n : Nat) (w : Win) (bg : Pixel) (free x y : Nat) : Pixel :=
  let src (a b : Nat) : Pixel := (s.winSource n w a b).getD bg
  let at_ (effect : Bool) (e : Option Nat) (p : Pixel) : Pixel := match e with
    | some e => if s.customEntry e && !s.abandoned n w effect x y then custom free e x y else p
    | none => p
  let sw := w.src.2.2.1
  let sh := w.src.2.2.2
  let dw := max 1 w.dst.2.2.1
  let dh := max 1 w.dst.2.2.2
  let p : Pixel :=
    if w.kind == 2 then w.colour
    else if !w.bilinear then src (nearest x sw dw) (nearest y sh dh)
    else
      let h := bilinear x sw dw
      let v := bilinear y sh dh
      let m (f : Pixel → Nat) : Nat :=
        mix4 (f (src h.1 v.1)) (f (src h.2.1 v.1)) (f (src h.1 v.2.1)) (f (src h.2.1 v.2.1)) h.2.2 v.2.2
      (m (·.1), m (·.2.1), m (·.2.2))
  at_ true w.effect (at_ false w.kernel p)

/-- The cells whose screen areas cover a position of a window's destination area (R37, R74). -/
def State.coverCells (s : State) (w : Win) (x y : Nat) : List Nat :=
  let from_ (p n m t : Nat) : Nat × Nat := ((p + t * n / max 1 m) / 256, (p + max 1 (min n (cdiv ((t + 1) * n) (max 1 m))) - 1) / 256)
  let h := from_ w.src.1 w.src.2.2.1 w.dst.2.2.1 x
  let v := from_ w.src.2.1 w.src.2.2.2 w.dst.2.2.2 y
  let here (a b t : Nat) : Bool := Nat.ble a t && Nat.blt t b
  ((rangeFrom v.1 (v.2 + 1 - v.1)).flatMap fun j => ((rangeFrom h.1 (h.2 + 1 - h.1)).filter fun i => Nat.blt i (s.winCols w)).map fun i =>
    j * s.winCols w + i).filter fun c => match s.cellScreen w c with
      | some (p, q) => here p.1 p.2 (w.dst.1 + x) && here q.1 q.2 (w.dst.2.1 + y)
      | none => false

/-- The hatch of a window at a position of its destination area (R76, R418, R420, R421): that of the cells whose screen areas cover it,
whether or not a source sample stands there; a cell not yet read in the frame is judged as at its first displayed line.  Where
cells share an output pixel, the first variant of R78 among theirs (DESIGN CHOICE, assumption 54). -/
def State.hatchAt (s : State) (n : Nat) (w : Win) (x y : Nat) : Nat :=
  if w.kind == 2 || !w.hatch then 0
  else if w.kind == 1 then (if s.inState w.id == 3 then 0 else 1)
  else
    let ps := (s.coverCells w x y).map fun c =>
      (((s.dpOut n).read w.num c).map (·.pattern)).getD (s.judgeCell n w c ((s.firstLine n w.num c).getD (w.dst.2.1 + y)))
    (minBy? id (ps.filter (· != 0))).getD 0

/-! ### The composed frame -/

/-- One output pixel (R76 to R79, R427, R429, R693): the windows from the bottom upwards, each with its hatch, over the background;
in the Stop state the whole active area is an Unsourced cell. -/
def State.composePixel (s : State) (n : Nat) (ws : List Win) (free x y : Nat) : Pixel :=
  let bg := rgbOf (s.regN (Reg.COMP_BG n))
  let amber := rgbOf (s.regN (Reg.COMP_HATCH_COLOUR n))
  let p := ws.foldl (fun (b : Pixel) w =>
    if !w.covers x y then b
    else
      let v := hatched (s.hatchAt n w (x - w.dst.1) (y - w.dst.2.1)) x y amber (s.winValue n w bg free (x - w.dst.1) (y - w.dst.2.1))
      (alphaOver w.alpha v.1 b.1, alphaOver w.alpha v.2.1 b.2.1, alphaOver w.alpha v.2.2 b.2.2)) bg
  if (s.dpOut n).stopped then hatched 1 x y amber p else p

/-- The composed frame in raster order. -/
def State.composedFrame (s : State) (n : Nat) : List Pixel :=
  let ws := s.winsUp n
  (List.range (s.fld (Reg.DP_OUT_V_TIMING n) 15 0)).flatMap fun y =>
    (List.range (s.fld (Reg.DP_OUT_H_TIMING n) 15 0)).map fun x => s.composePixel n ws s.freeCtr x y

/-- The pixels of a frame in the port's format (R428); in 4:2:0 the chroma of the top-left pixel of each 2 × 2 block. -/
def State.portFrame (s : State) (n : Nat) (l : List Pixel) : List Pixel :=
  let c := s.reg (Reg.DP_OUT_CTRL n)
  let w := max 1 (s.fld (Reg.DP_OUT_H_TIMING n) 15 0)
  let half := bits c 6 4 == 5 || bits c 6 4 == 6
  let conv := toPort (bits c 6 4) (bit c 7) (bit c 8)
  (List.range l.length).map fun i =>
    let p := conv (l.getD i (0, 0, 0))
    let q := if half then conv (l.getD (i / w / 2 * 2 * w + i % w / 2 * 2) (0, 0, 0)) else p
    (p.1, q.2.1, q.2.2)

/-- The pixels that the port sends: those that were due and not yet composed are COMP_HATCH_COLOUR (R430). -/
def State.lateFrame (s : State) (n : Nat) (l : List Pixel) : List Pixel :=
  let w := max 1 (s.fld (Reg.DP_OUT_H_TIMING n) 15 0)
  (s.dpOut n).latePix.foldl (fun l q => l.set (q.2 * w + q.1) (rgbOf (s.regN (Reg.COMP_HATCH_COLOUR n)))) l

/-- The customer code that a window runs in a frame, its kernel ahead of its effect (R425). -/
def State.runCode (s : State) (n : Nat) (w : Win) : State :=
  let s := match w.kernel with
    | some e => s.emit (.kernel n w.num e)
    | none => s
  match w.effect with
  | some e => s.emit (.kernel n w.num e)
  | none => s

/-- A frame sent, with its test CRCs while the sink computes them too (R434). -/
def State.sendFrame (s : State) (n : Nat) (l : List Pixel) : State :=
  (s.modDpOut n fun d => if d.testOn then { d with
      testCount := d.testCount + 1,
      testCrcs := ((Config.testCrc (l.map (·.1)), Config.testCrc (l.map (·.2.1)), Config.testCrc (l.map (·.2.2))) :: d.testCrcs).take 16 }
    else d).emit (.scanned n l)

/-- Whether the hatch is drawn anywhere in a window (R449). -/
def State.drawsHatch (s : State) (n : Nat) (w : Win) : Bool :=
  w.hatch && (if w.kind == 1 then s.inState w.id != 3
    else (List.range w.dst.2.2.2).any fun y => (List.range w.dst.2.2.1).any fun x => s.hatchAt n w x y != 0)

/-- The frame in scan-out is composed (R421, R425, R428, R449): its check value kept, its pixels sent, the windows that
drew hatch noted.  A port that is not in STATE 3 sends no video (R407, R408). -/
def State.composeFrame (s : State) (n : Nat) : State :=
  let l := s.composedFrame n
  let ws := s.winsUp n
  let drew := ws.filter (s.drawsHatch n)
  let crc := sampleCrc (l.flatMap fun p => [p.1, p.2.1, p.2.2])
  let s := (s.forEach ws fun w s => s.runCode n w).modDpOut n fun d =>
    { d with composed := some crc, defaults := [], drew := drew.foldl (fun v w => if nbit v w.num then v else v + 2 ^ w.num) d.drew }
  let s := { s with freeCtr := s.freeCtr + 1 }
  s.doIf (s.fld (Reg.DP_OUT_STATUS n) 3 0 == 3) fun s => s.sendFrame n (s.portFrame n (s.lateFrame n l))

/-! ### The freshness map of a reference output (R89 to R92) -/

/-- The scan-out time of the last active line of an output's frame in progress, the evaluation time of the maps that it is the
reference of (R92). -/
def State.lastLineTime (s : State) (n : Nat) : Nat := s.lineTime n (s.fld (Reg.DP_OUT_V_TIMING n) 15 0 - 1)

/-- FRESH_MAP_WRITE (R89, R92): the last active line of the reference output frame of `port` is scanned out.  The
map is written when the context runs in Contract mode with MAP_EN and names that output (R88, R89, R91). -/
def execFreshMapWrite (c port : Nat) (s : State) : Host.Outcome State Fault Refusal :=
  .next <| s.doIf (s.ctxEnabled c && s.contract c && s.rbit (Reg.FRESH_CTRL c) 4 && !s.rbit (Reg.FRESH_CTRL c) 11 &&
    s.fld (Reg.FRESH_CTRL c) 10 8 == port) fun s => s.writeMap c (s.lastLineTime port)

/-- FRESH_MAP_TIMER (R91): every 10 ms of time base time, with MAP_OUTPUT_NONE at 1. -/
def execFreshMapTimer (c : Nat) (s : State) : Host.Outcome State Fault Refusal :=
  .next <| s.doIf (s.ctxEnabled c && s.contract c && s.rbit (Reg.FRESH_CTRL c) 4 && s.rbit (Reg.FRESH_CTRL c) 11)
    fun s => s.writeMap c s.now

end Sys2Proof.Machine
end

