-- ==== Sys2Proof/Machine/Display.lean ====
section
/-! DEFINITION. DisplayPort outputs (R403 to R415, R434, R445, R446), the commands of the compositors (R75, R416, R417, R426, R429
to R433, R447 to R449), DisplayPort inputs (R435 to R443, R450). -/

namespace Sys2Proof.Machine

/-! ### Source ports -/

def State.outState (s : State) (n : Nat) : Nat := s.fld (Reg.DP_OUT_STATUS n) 3 0
def State.setOutState (s : State) (n v : Nat) : State := s.setFld (Reg.DP_OUT_STATUS n) 3 0 v

/-- R404 and the refused codes of R446. -/
def State.outTimingBad (s : State) (n : Nat) : Bool :=
  let ha := s.fld (Reg.DP_OUT_H_TIMING n) 15 0
  let ht := s.fld (Reg.DP_OUT_H_TIMING n) 31 16
  let va := s.fld (Reg.DP_OUT_V_TIMING n) 15 0
  let vt := s.fld (Reg.DP_OUT_V_TIMING n) 31 16
  let hs := s.reg (Reg.DP_OUT_H_SYNC n)
  let vs := s.reg (Reg.DP_OUT_V_SYNC n)
  let ctl := s.reg (Reg.DP_OUT_CTRL n)
  let f := bits ctl 6 4
  let p := s.outPeriod n
  let clk := ht * vt * 1000 * 2 ^ 32
  bits ctl 1 0 == 3 || f == 7 || Nat.blt clk (25 * p) || Nat.blt (1188 * p) clk || Nat.blt 8192 ha || Nat.blt 4352 va ||
    Nat.blt ha 64 || Nat.blt va 64 || Nat.blt ht (ha + bits hs 15 0 + bits hs 30 16) ||
    Nat.blt vt (va + bits vs 15 0 + bits vs 30 16) || ((f == 5 || f == 6) && (ha % 2 == 1 || va % 2 == 1))

/-- Twice the bits per pixel of a format (R405). -/
def formatBits2 (f : Nat) : Nat := [48, 60, 36, 48, 60, 24, 30].getD f 48

/-- R405 at a number of lanes (code of LANES) and a rate. -/
def State.linkShort (s : State) (n lanes rate : Nat) : Bool :=
  let clk := s.fld (Reg.DP_OUT_H_TIMING n) 31 16 * s.fld (Reg.DP_OUT_V_TIMING n) 31 16 * 1000 * 2 ^ 32
  let r := [1620, 2700, 5400, 8100].getD rate 0
  Nat.blt (776 * 2 ^ lanes * r * s.outPeriod n * 2) (clk * formatBits2 (s.fld (Reg.DP_OUT_CTRL n) 6 4) * 1000)

/-- Training starts: DPCD 0x000 to 0x00F is read over AUX (R408 step 2). -/
def State.outTrain (s : State) (n : Nat) : State :=
  ((s.setOutState n 2).modDpOut n fun x => { x with go := false }).emit (.aux n 9 0 [])

/-- The port off: idle pattern, synthesiser stopped (R408 steps 4 and 5). -/
def State.outOff (s : State) (n : Nat) : State :=
  let s := (((s.setOutState n 0).setRbit (Reg.DP_OUT_STATUS n) 5 false).setFld (Reg.DP_OUT_STATUS n) 11 8 0).setRbit (blkCtrl (outPage n)) 0 false
  ((s.modDpOut n fun x => { DpOut.init with aux := x.aux }).emit (.idlePattern n)).showSums

/-- DP_OUT_ENABLE (R404, R405, R408 step 1): a refusal clears ENABLE. -/
def State.outEnable (s : State) (n : Nat) : State :=
  let ctl := s.reg (Reg.DP_OUT_CTRL n)
  if s.outState n != 0 then s
  else if s.outTimingBad n then (s.setRegN (Reg.DP_OUT_CFG_STATUS n) 1).setRbit (blkCtrl (outPage n)) 0 false
  else if s.linkShort n (bits ctl 1 0) (bits ctl 3 2) then (s.setRegN (Reg.DP_OUT_CFG_STATUS n) 2).setRbit (blkCtrl (outPage n)) 0 false
  else
    let s := (s.setRbit (blkCtrl (outPage n)) 0 true).setOutState n 1
    let s := (s.setRegN (Reg.DP_OUT_FRAME_COUNT n) 0).setRbit (Reg.DP_OUT_STATUS n) 6 s.locked
    let s := s.modDpOut n fun x => { DpOut.init with aux := x.aux }
    let s := (s.formPort n).showSums
    if s.rbit (Reg.DP_OUT_STATUS n) 4 then s.outTrain n else s

def execDpOutEnable (n : Fin 8) (s : State) : Host.Outcome State Fault Refusal :=
  .next <| s.ifLive (outPage n.val) fun s => s.outEnable n.val

/-- DP_OUT_HPD_HIGH (R408 steps 2 and 6). -/
def State.outHpd (s : State) (n : Nat) : State :=
  let s := s.setRbit (Reg.DP_OUT_STATUS n) 4 true
  if s.outState n == 1 || (s.outState n == 4 && s.rbit (Reg.DP_OUT_CTRL n) 10) then s.outTrain n else s

def execDpOutHpdHigh (n : Fin 8) (s : State) : Host.Outcome State Fault Refusal :=
  .next <| s.ifLive (outPage n.val) fun s => s.outHpd n.val

/-- The settings tried in training, in order: lanes and rate by their codes (R406). -/
def State.trainOrder (s : State) (n : Nat) : List (Nat × Nat) :=
  let l := s.fld (Reg.DP_OUT_CTRL n) 1 0
  let r := s.fld (Reg.DP_OUT_CTRL n) 3 2
  let all := (List.range (l + 1)).reverse.flatMap fun a => (List.range (r + 1)).reverse.map fun b => (a, b)
  if s.rbit (Reg.DP_OUT_CTRL n) 12 then all.filter fun p => p == (l, r) || !s.linkShort n p.1 p.2 else [(l, r)]

/-- The training patterns at a rate: clock recovery with TPS1, equalisation with TPS4 at HBR3 (R403), with TPS3 at HBR2 and TPS2 below
(PRESUMED, assumption 72: the procedure of DisplayPort 1.4a). -/
def trainPatterns (rate : Nat) : List Nat := [1, if rate == 3 then 4 else if rate == 2 then 3 else 2]

/-- The settings tried in training, each put out (R403, R406). -/
def State.tryLinks (s : State) (n : Nat) (l : List (Nat × Nat)) : State :=
  s.forEach l fun p s => s.emit (.linkTrain n p.1 p.2 (trainPatterns p.2) (s.rbit (Reg.DP_OUT_CTRL n) 9))

/-- DP_OUT_TRAINING_COMPLETE (R406, R408 step 3): `ok` are the settings, by their codes, at which the link trains. -/
def State.outTrained (s : State) (n : Nat) (ok : List (Nat × Nat)) : State :=
  if s.outState n != 2 then s
  else match (s.trainOrder n).find? fun p => ok.elem p with
    | none => ((s.tryLinks n (s.trainOrder n)).setRegN (Reg.DP_OUT_CFG_STATUS n) 3).outOff n
    | some (l, r) =>
      let s := s.tryLinks n ((s.trainOrder n).takeWhile fun p => !ok.elem p)
      let s := s.tryLinks n [(l, r)]
      let s := (s.setFld (Reg.DP_OUT_STATUS n) 9 8 l).setFld (Reg.DP_OUT_STATUS n) 11 10 r
      (s.setReg (Reg.DP_OUT_TX_LATENCY n) (Config.dpTxLatency r)).modDpOut n fun x => { x with go := true }

def execDpOutTrainingComplete (n : Fin 8) (ok : List (Nat × Nat)) (s : State) : Host.Outcome State Fault Refusal :=
  .next <| s.ifLive (outPage n.val) fun s => s.outTrained n.val ok

/-- DP_OUT_LINK_LOSS (R407, R408 step 6): by a short HPD pulse, or by HPD low of more than 2 ms. -/
def State.outLoss (s : State) (n : Nat) (low : Bool) : State :=
  let s := s.doIf low fun s => s.setRbit (Reg.DP_OUT_STATUS n) 4 false
  if s.outState n == 2 || s.outState n == 3 then
    let s := ((s.setOutState n 4).modDpOut n fun x => { x with go := false }).bump (Reg.DP_OUT_RETRAINS n) 1
    let s := s.raise (416 + n) FaultKind.DP_LINK_LOST 0
    if !low && s.rbit (Reg.DP_OUT_CTRL n) 10 then s.outTrain n else s
  else s

def execDpOutLinkLoss (n : Fin 8) (low : Bool) (s : State) : Host.Outcome State Fault Refusal :=
  .next <| s.ifLive (outPage n.val) fun s => s.outLoss n.val low

/-- DP_OUT_STOP (R408 step 4): the frame in progress completes first. -/
def State.outStop (s : State) (n : Nat) : State :=
  if s.outState n == 0 then s else s.modDpOut n fun x => { x with stopping := true }

def execDpOutStop (n : Fin 8) (s : State) : Host.Outcome State Fault Refusal :=
  .next <| s.ifLive (outPage n.val) fun s => s.outStop n.val

/-- DP_OUT_HALT (R408 step 5). -/
def State.outHalt (s : State) (n : Nat) : State := if s.outState n == 0 then s else s.outOff n

def execDpOutHalt (n : Fin 8) (s : State) : Host.Outcome State Fault Refusal :=
  .next <| s.ifLive (outPage n.val) fun s => s.outHalt n.val

/-! ### AUX -/

/-- The bytes a write transaction sends: those of DP_OUT_AUX_DATA. -/
def State.auxData (s : State) (n len : Nat) : List Byte :=
  ((List.range 4).flatMap fun i => leBytes 4 (s.regN (Reg.DP_OUT_AUX_DATA n i))).take len

/-- A transaction sent, as DP_OUT_AUX_CMD says. -/
def State.auxSend (s : State) (n : Nat) (v : Word) : State :=
  let read := nbit (bits v 3 0) 0
  s.emit (.aux n (bits v 3 0) (bits v 27 8) (if read then [] else s.auxData n (bits v 7 4 + 1)))

/-- AUX_TRANSACTION (R410): a write of DP_OUT_AUX_CMD; while BUSY it has no effect (DESIGN CHOICE, assumption 14). -/
def State.auxStart (s : State) (n : Nat) (v : Word) : State :=
  match (s.dpOut n).aux with
  | some _ => s
  | none => ((s.modDpOut n fun x => { x with aux := some (v, 0, 0) }).setRegN (Reg.DP_OUT_AUX_STAT n) 1).auxSend n v

def execAuxTransaction (n : Fin 8) (v : Word) (s : State) : Host.Outcome State Fault Refusal :=
  .next <| s.ifWritten (outPage n.val) (Reg.DP_OUT_AUX_CMD n.val) v fun s => s.auxStart n.val v

/-- A transaction ended with a result and bytes returned. -/
def State.auxEnd (s : State) (n res : Nat) (bytes : List Byte) : State :=
  let b := bytes.take 16
  let s := (s.modDpOut n fun x => { x with aux := none }).setRegN (Reg.DP_OUT_AUX_STAT n) (2 * res + 16 * b.length)
  s.forEach (List.range (cdiv b.length 4)) fun i s => s.setRegN (Reg.DP_OUT_AUX_DATA n i) (leAt b (4 * i) 4)

/-- AUX_REPLY (R410): a DEFER is retried up to 7 times. -/
def State.auxReply (s : State) (n : Nat) (r : AuxReply) : State :=
  match (s.dpOut n).aux with
  | none => s
  | some (v, d, t) =>
    match r with
    | .ack bytes => s.auxEnd n 0 (if nbit (bits v 3 0) 0 then bytes.take (bits v 7 4 + 1) else [])
    | .nack => s.auxEnd n 1 []
    | .i2cNack => s.auxEnd n 4 []
    | .defer =>
      if Nat.blt d 7 then (s.modDpOut n fun x => { x with aux := some (v, d + 1, t) }).auxSend n v else s.auxEnd n 2 []

def execAuxReply (n : Fin 8) (r : AuxReply) (s : State) : Host.Outcome State Fault Refusal :=
  .next <| s.ifLive (outPage n.val) fun s => s.auxReply n.val r

/-- AUX_TIMEOUT (R410): a timeout of 400 µs is retried up to 3 times. -/
def State.auxTimeout (s : State) (n : Nat) : State :=
  match (s.dpOut n).aux with
  | none => s
  | some (v, d, t) =>
    if Nat.blt t 3 then (s.modDpOut n fun x => { x with aux := some (v, d, t + 1) }).auxSend n v else s.auxEnd n 3 []

def execAuxTimeout (n : Fin 8) (s : State) : Host.Outcome State Fault Refusal :=
  .next <| s.ifLive (outPage n.val) fun s => s.auxTimeout n.val

/-! ### Frame timing -/

/-- The origin of the lock target in ns and whether the last pixel clock is held; none without a target (R412, R414). -/
def State.lockTarget (s : State) (n : Nat) : Option (Option Nat × Bool) :=
  let mode := s.fld (Reg.DP_OUT_LOCK_CTRL n) 1 0
  let off := s.regN (Reg.DP_OUT_FRAME_OFFSET n)
  if mode == 1 then some (some off, !s.locked)
  else if mode == 2 then
    let x := s.ctx (s.fld (Reg.DP_OUT_LOCK_CTRL n) 15 8)
    let fresh := match x.sheetAt with
      | some t => Nat.ble s.now (t + 1000000000)
      | none => false
    some (x.sheetTime.map (· + off), !(s.locked && x.sheetLocked && fresh))
  else none

/-- The phase error of a token against a lock target with origin `o` ns and period `p` in 2^−32 ns, in ns. -/
def phaseError (t o p : Nat) : Int :=
  let d : Int := ((t : Int) - (o : Int)) * 2 ^ 32
  let r := d.emod p
  (if r * 2 ≤ p then r else r - p) / 2 ^ 32

/-- R413, R414 at a frame start. -/
def State.lockStep (s : State) (n t : Nat) : State :=
  match s.lockTarget n with
  | none => (s.modDpOut n fun x => { x with slew := 0 }).setOutLocked n false
  | some (none, _) => s.setOutLocked n false
  | some (some o, hold) =>
    let p := s.outPeriod n
    let e := phaseError t o p
    let s := s.setReg (Reg.DP_OUT_PHASE_ERR n) (satS32 e)
    if hold then s.setOutLocked n false
    else
      let lim : Int := max 1 (min 1000 (s.fld (Reg.DP_OUT_LOCK_CTRL n) 31 16))
      let ppm := e * 1000000 * 2 ^ 32 / (p : Int)
      (s.modDpOut n fun x => { x with slew := max (-lim) (min lim ppm) }).setOutLocked n (decide (e.natAbs ≤ 1000))

/-- The pictures that the windows of a compositor read whole in the frame that starts (R280, R419). -/
def State.shownNow (s : State) (n : Nat) : Sparse (Option PicRef) :=
  (s.winsUp n).foldl (fun m w => if w.kind == 0 then Sparse.set (fun _ => none) m w.num (s.ctx w.id).shown else m) []

/-- The frame in progress ends: composed if it is not yet, its figures shown (R449). -/
def State.frameEnd (s : State) (n : Nat) : State :=
  let s := s.doIf ((s.dpOut n).composed.isNone && s.regN (Reg.DP_OUT_FRAME_COUNT n) != 0) fun s => s.composeFrame n
  let d := s.dpOut n
  let s := s.setRegN (Reg.COMP_STATUS n) (d.drew + 65536 * b2n d.late)
  match d.composed with
  | some crc => s.setRegN (Reg.COMP_FRAME_CRC n) crc
  | none => s

/-- The secondary data of a vertical blanking period (R403): the MSA, and the VSC SDP for the colorimetry of BT.2020 and for 4:2:0. -/
def State.sendBlanking (s : State) (n : Nat) : State :=
  let c := s.reg (Reg.DP_OUT_CTRL n)
  let colour := [bits c 6 4, b2n (bit c 7), b2n (bit c 8)]
  let timing := [Reg.DP_OUT_H_TIMING n, Reg.DP_OUT_H_SYNC n, Reg.DP_OUT_V_TIMING n, Reg.DP_OUT_V_SYNC n].map s.regN
  s.emit (.blanking n (timing ++ colour) (if bit c 7 || bits c 6 4 == 5 || bits c 6 4 == 6 then some colour else none))

/-- At a frame start: every 16 frames the sink's DPCD 0x240 to 0x246 are read; with LINK_CRC_EN at 0 the comparison is over (R434). -/
def State.pollCrc (s : State) (n : Nat) : State :=
  if !s.rbit (Reg.DP_OUT_CTRL n) 11 then s.modDpOut n fun d => { d with testOn := false, testCount := 0, testCrcs := [] }
  else s.doIf (s.regN (Reg.DP_OUT_FRAME_COUNT n) % 16 == 0) fun s => s.emit (.aux n 9 0x240 [])

/-- DP_OUT_FRAME_START (R403, R411 to R414, R408 steps 3 and 4, R419, R449, R693): the time base reading at the moment the first
active pixel enters the transmitter; the frame before it is composed. -/
def State.outFrameStart (s : State) (n reading : Nat) : State :=
  if s.outState n == 0 then s
  else
    let s := s.frameEnd n
    let d := s.dpOut n
    if d.stopping then s.outOff n
    else
      let t := reading + s.regN (Reg.DP_OUT_TX_LATENCY n)
      let stop := s.rbit Reg.FAULT_STATUS 0 || Nat.ble 4 (s.fld Reg.REH_STATUS 2 0)
      let s := s.setDpOut n { d with stopped := stop, checked := [], drew := 0, late := false, shown := s.shownNow n, reads := [],
                                     composed := none, latePix := [], verified := [] }
      let s := s.doIf (d.go && s.outState n == 2) fun s => s.setOutState n 3
      let s := s.doIf (s.outState n == 3) fun s => (s.sendBlanking n).pollCrc n
      let s := ((s.wrapAdd (Reg.DP_OUT_FRAME_COUNT n) 1).setReg64 (Reg.DP_OUT_FRAME_TIME_LO n) t).lockStep n t
      s.emit (.frameStart n t (b2n stop))

def execDpOutFrameStart (n : Fin 8) (reading : Nat) (s : State) : Host.Outcome State Fault Refusal :=
  .next <| s.ifLive (outPage n.val) fun s => s.outFrameStart n.val reading

/-- FOLLOW_SHEET_TIMEOUT (R414): 1 s without a sheet in FOLLOW. -/
def State.followTimeout (s : State) (n : Nat) : State :=
  if s.outState n != 0 && s.fld (Reg.DP_OUT_LOCK_CTRL n) 1 0 == 2 then s.setOutLocked n false else s

def execFollowSheetTimeout (n : Fin 8) (s : State) : Host.Outcome State Fault Refusal :=
  .next <| s.ifLive (outPage n.val) fun s => s.followTimeout n.val

/-- The own CRCs of the frame that has a sink's TEST_CRC_COUNT. -/
def DpOut.ownCrc (d : DpOut) (count : Nat) : Option (BitVec 16 × BitVec 16 × BitVec 16) :=
  d.testCrcs[(d.testCount + 16 - count) % 16]?

/-- LINK_CRC_COMPARE (R434): what the sink's DPCD 0x240 to 0x246 say; the first that reports support starts its test CRC. -/
def State.linkCrc (s : State) (n : Nat) (f : LinkCrc) : State :=
  let d := s.dpOut n
  if s.outState n != 3 || !s.rbit (Reg.DP_OUT_CTRL n) 11 then s
  else if !f.supported then s.setRbit (Reg.DP_OUT_STATUS n) 7 true
  else
    let s := s.setRbit (Reg.DP_OUT_STATUS n) 7 false
    if !d.testOn then (s.setDpOut n { d with testOn := true, testCount := 0, testCrcs := [] }).emit (.aux n 8 0x270 [1])
    else match d.ownCrc f.count.val with
      | none => s
      | some own =>
        if f.sink = own then s else (s.bump (Reg.DP_OUT_LINK_CRC_FAIL n) 1).raise (416 + n) FaultKind.LINK_CRC_MISMATCH 0

def execLinkCrcCompare (n : Fin 8) (f : LinkCrc) (s : State) : Host.Outcome State Fault Refusal :=
  .next <| s.ifLive (outPage n.val) fun s => s.linkCrc n.val f

/-! ### Compositors -/

/-- The first window that R416, R417, R447 or R448 refuses, of a shadow set. -/
def State.badWindow (s : State) (n : Nat) : Option Nat :=
  (List.range 16).find? fun i =>
    let ctl := s.sh (Reg.WIN_CTRL n i)
    let src := s.sh (Reg.WIN_SRC_SIZE n i)
    let dst := s.sh (Reg.WIN_DST_SIZE n i)
    let pos := s.sh (Reg.WIN_DST_POS n i)
    let kind := bits ctl 2 1
    let id := bits ctl 11 4
    let ratioBad (a b : Nat) : Bool := Nat.blt (8 * b) a || Nat.blt (8 * a) b || a == 0 || b == 0
    bit ctl 0 && (kind == 3 || (kind == 0 && s.enabled (ctxPage id) && s.isEncode id) || (kind == 1 && Nat.ble 4 id) ||
      Nat.blt (s.fld (Reg.DP_OUT_H_TIMING n) 15 0) (bits pos 15 0 + bits dst 15 0) ||
      Nat.blt (s.fld (Reg.DP_OUT_V_TIMING n) 15 0) (bits pos 31 16 + bits dst 31 16) ||
      (kind != 2 && (ratioBad (bits src 15 0) (bits dst 15 0) || ratioBad (bits src 31 16) (bits dst 31 16))) ||
      Nat.blt 256 (s.shF (Reg.WIN_ALPHA n i) 8 0))

/-- The active set of a compositor (R447). -/
def compSet (n : Nat) : List Nat :=
  [Reg.COMP_CTRL n, Reg.COMP_BG n, Reg.COMP_HATCH_COLOUR n] ++ (List.range 16).flatMap fun i =>
    [Reg.WIN_CTRL n i, Reg.WIN_SRC_POS n i, Reg.WIN_SRC_SIZE n i, Reg.WIN_DST_POS n i, Reg.WIN_DST_SIZE n i,
     Reg.WIN_ALPHA n i, Reg.WIN_COLOUR n i]

/-- A refusal of a compositor's set recorded (R449, R545 step 2a). -/
def State.refuseComp (s : State) (n code win : Nat) : State :=
  (s.setRegN (Reg.COMP_CFG_STATUS n) (code + 256 * win + 65536 * s.shadowGen (compPage n))).clearArm (compPage n)

/-- The copy of a compositor's set, with its charges. -/
def State.copyComp (s : State) (n : Nat) (new : List Nat) : State :=
  let s := (((s.copyShadow (compSet n)).tookShadow (compPage n)).setWinCharges n new).formPort n
  (s.forEach (List.range 16) fun i s => s.setFld (Reg.COMP_WIN_STATUS n i) 7 0 0).showSums

/-- A compositor's set at its hand-over point (R426, R431, R543, R545, R548). -/
def State.compSwitch (s : State) (n : Nat) : State :=
  let r := compReq n
  match s.badWindow n with
  | some i => (match s.decisionOf r with
      | some d => s.discardDecision d
      | none => s.doIf (s.ledger.waiting.elem r) fun s => s.dropRequest r).refuseComp n 1 i
  | none =>
    let new := s.formWins n
    match s.decisionOf r with
    | some d =>
      if d.wins == new then
        if d.status == 0 then (s.forgetDecision r).copyComp n new
        else (s.forgetDecision r).refuseComp n 2 (d.status % 16)
      else (s.discardDecision d).askAdmission r
    | none =>
      if s.ledger.waiting.elem r then s
      else if new != s.winCharges n then s.askAdmission r
      else s.copyComp n new

/-- The hand-over point of a compositor: the end of the last active line of a frame, which is composed with the set in force so
far (R431). -/
def State.compHandover (s : State) (n : Nat) : State :=
  let s := s.doIf (s.outState n != 0 && (s.dpOut n).stopping) fun s => (s.frameEnd n).outOff n
  if s.outState n == 0 || s.inReset (compPage n) then s
  else
    let s := s.doIf ((s.dpOut n).composed.isNone && s.regN (Reg.DP_OUT_FRAME_COUNT n) != 0) fun s => s.composeFrame n
    s.doIf (s.armed (compPage n)) fun s => s.compSwitch n

/-- SCANOUT_UNDERRUN (R430): the pixels (x, y) are due and not yet composed; counted and reported once for a frame. -/
def State.underrun (s : State) (n : Nat) (at_ : List (Nat × Nat)) : State :=
  let d := s.dpOut n
  let inside (q : Nat × Nat) : Bool :=
    Nat.blt q.1 (s.fld (Reg.DP_OUT_H_TIMING n) 15 0) && Nat.blt q.2 (s.fld (Reg.DP_OUT_V_TIMING n) 15 0)
  if s.outState n == 0 then s
  else
    let s := s.setDpOut n { d with late := true, latePix := d.latePix ++ at_.filter inside }
    s.doIf (!d.late) fun s => (s.bump (Reg.COMP_UNDERRUNS n) 1).raise (428 + n) FaultKind.SCANOUT_UNDERRUN 0

def execScanoutUnderrun (n : Fin 8) (at_ : List (Nat × Nat)) (s : State) : Host.Outcome State Fault Refusal :=
  .next <| s.ifLive (compPage n.val) fun s => s.underrun n.val at_

/-- CELL_FIRST_LINE_CHECK (R75 to R79, R87, R88, R418 to R420, R429): once in a frame for each cell of a decode window. -/
def State.firstLineCheck (s : State) (n i cell : Nat) : State :=
  let d := s.dpOut n
  let w := s.win n i
  if s.outState n == 0 || d.stopped || d.checked.elem (i, cell) || !s.rbit (Reg.WIN_CTRL n i) 0 || w.kind != 0 then s
  else match s.firstLine n i cell with
    | none => s
    | some line =>
      let r := s.readCell n w cell line
      let drew := if r.pattern != 0 && !nbit d.drew i then d.drew + 2 ^ i else d.drew
      (s.setDpOut n { d with checked := (i, cell) :: d.checked, drew := drew, reads := r :: d.reads }).emit (.hatch n i cell r.pattern)

def execCellFirstLineCheck (n : Fin 8) (i : Fin 16) (cell : Nat) (s : State) : Host.Outcome State Fault Refusal :=
  .next <| s.ifLive (compPage n.val) fun s => s.firstLineCheck n.val i.val cell

/-- Whether a cell lies wholly inside the source area of a window (R432): its part inside the coded picture. -/
def State.cellInside (s : State) (w : Win) (cell : Nat) : Bool :=
  let x := s.ctx w.id
  let inside (p n lo hi : Nat) : Bool := Nat.ble p lo && Nat.ble hi (p + n)
  let cx := cell % max 1 x.cols
  let cy := cell / max 1 x.cols
  Nat.blt cell x.cellCount && inside w.src.1 w.src.2.2.1 (256 * cx) (min x.codedW (256 * cx + 256)) &&
    inside w.src.2.1 w.src.2.2.2 (256 * cy) (min x.codedH (256 * cy + 256))

/-- The picture from which every line of a cell was read in the frame, when it is one (R419, R432). -/
def State.cellPicture (s : State) (n : Nat) (w : Win) (cell : Nat) : Option PicRef :=
  match ((s.dpOut n).read w.num cell).map (·.rows) with
  | some (some p :: rest) => if rest.all fun q => q == some p then some p else none
  | _ => none

/-- CELL_VERIFY (R432, R433), once in a frame for each cell that the window shows: at the cell's last line, the check
value of R51 and R52 over its stored samples against its record. -/
def State.cellVerify (s : State) (n i cell : Nat) : State :=
  let w := s.win n i
  if s.outState n == 0 || !s.rbit (Reg.COMP_CTRL n) 0 || !s.rbit (Reg.WIN_CTRL n i) 0 || w.kind != 0 ||
      (s.dpOut n).verified.elem (i, cell) || (s.cellScreen w cell).isNone then s
  else
    let s := s.modDpOut n fun d => { d with verified := (i, cell) :: d.verified }
    let r := (s.ctx w.id).cell cell
    let up := Nat.ble w.src.2.2.1 w.dst.2.2.1 && Nat.ble w.src.2.2.2 w.dst.2.2.2
    match s.cellPicture n w cell with
    | some p =>
      if up && s.cellInside w cell && p.num % 65536 == r.picNum && r.hasTime && !r.placeholder && !r.unproven then
        if s.cellCrc p cell == r.check then s.bump (Reg.COMP_VERIFY_CELLS n) 1
        else
          let s := s.putCell w.id cell { r with expired := true }
          (s.bump (Reg.COMP_VERIFY_FAIL n) 1).raise (428 + n) FaultKind.SCANOUT_CELL_MISMATCH (cell % 65536 + 65536 * w.id)
      else s.bump (Reg.COMP_VERIFY_SKIPPED n) 1
    | none => s.bump (Reg.COMP_VERIFY_SKIPPED n) 1

def execCellVerify (n : Fin 8) (i : Fin 16) (cell : Nat) (s : State) : Host.Outcome State Fault Refusal :=
  .next <| s.ifLive (compPage n.val) fun s => s.cellVerify n.val i.val cell

/-! ### Sink ports -/

/-- The HPD ball of a sink port, in the numbering of the balls that the model drives (assumption 4). -/
def ballHpd (n : Nat) : Nat := 16 + n

/-- DP_IN_ENABLE (R436). -/
def State.inEnable (s : State) (n : Nat) : State :=
  if s.inState n != 0 then s
  else
    let s := ((s.setRbit (blkCtrl (inPage n)) 0 true).setInState n 1).setDpIn n
      { DpIn.init with lines := (s.dpIn n).lines, count := (s.dpIn n).count }
    ((s.emit (.ball (ballHpd n) true)).formPort (8 + n)).showSums

def execDpInEnable (n : Fin 4) (s : State) : Host.Outcome State Fault Refusal :=
  .next <| s.ifLive (inPage n.val) fun s => s.inEnable n.val

/-- The ring of three source buffers given back. -/
def State.dropRing (s : State) (n : Nat) : State :=
  (s.forEach (s.dpIn n).ring fun h s => s.poolDrop h).modDpIn n fun x => { x with ring := [] }

/-- The ring of three source buffers taken, each with room for a frame in the layout of R628 (R442). -/
def State.takeRing (s : State) (n size : Nat) : State :=
  s.forEach (List.range 3) fun _ s => match s.poolAsk (21 + n) size with
    | (s, 0, h) => s.modDpIn n fun x => { x with ring := x.ring ++ [h] }
    | (s, _, _) => s

/-- DP_IN_LOCK_LOSS (R437). -/
def State.inLoss (s : State) (n : Nat) : State :=
  if s.inState n == 3 then
    let s := (s.setInState n 4).modDpIn n fun x => { x with starts := [] }
    (s.bump (Reg.DP_IN_LOCK_LOSSES n) 1).raise (424 + n) FaultKind.CAPTURE_LOCK_LOST 0
  else s

def execDpInLockLoss (n : Fin 4) (s : State) : Host.Outcome State Fault Refusal :=
  .next <| s.ifLive (inPage n.val) fun s => s.inLoss n.val

/-- A timing within R435: at most 4096 × 2304 active, 600 MHz, 120 Hz, progressive. -/
def SinkLock.fits (f : SinkLock) : Bool :=
  Nat.ble f.width.toNat 4096 && Nat.ble f.height.toNat 2304 && Nat.ble f.clock 600000 && !f.interlaced &&
    Nat.ble (f.clock * 1000) (120 * (f.hTotal.toNat * f.vTotal.toNat))

/-- DP_IN_LOCK (R437, R442, R443): clock recovery, symbol lock, alignment and an MSA are there. -/
def State.inLock (s : State) (n : Nat) (f : SinkLock) : State :=
  if s.inState n == 0 then s
  else if !(SinkLock.fits f) then
    let s := (s.setInState n 4).modDpIn n fun x => { x with starts := [] }
    (s.bump (Reg.DP_IN_LOCK_LOSSES n) 1).raise (424 + n) FaultKind.CAPTURE_LOCK_LOST 0
  else
    let same := s.regN (Reg.DP_IN_ACTIVE n) == f.width.toNat + 65536 * f.height.toNat && (s.dpIn n).ring.length == 3
    let s := (s.setRegN (Reg.DP_IN_ACTIVE n) (f.width.toNat + 65536 * f.height.toNat)).setRegN (Reg.DP_IN_TOTAL n)
      (f.hTotal.toNat + 65536 * f.vTotal.toNat)
    let s := s.setRegN (Reg.DP_IN_STATUS n) (3 + 16 * f.format.val + 256 * f.lanes.val + 1024 * f.rate.val)
    let s := (s.setReg (Reg.DP_IN_RX_LATENCY n) (Config.dpRxLatency f.rate.val)).setRegN (Reg.DP_IN_FRAME_PERIOD n) 0
    let s := (s.setRegN (Reg.DP_IN_LINE_PERIOD n) 0).modDpIn n fun x => { x with starts := [], colour := (f.matrix, f.fullRange) }
    let s := s.doIf (!same) fun s =>
      ((s.dropRing n).modDpIn n fun x => { x with frames := [], at_ := 0 }).takeRing n (s.capFmt n).bytes
    (s.formPort (8 + n)).showSums

def execDpInLock (n : Fin 4) (f : SinkLock) (s : State) : Host.Outcome State Fault Refusal :=
  .next <| s.ifLive (inPage n.val) fun s => s.inLock n.val f

/-- The frame and line periods measured at a frame start (R443). -/
def State.measurePeriod (s : State) (n t : Nat) : State :=
  let l := (t :: (s.dpIn n).starts).take 17
  let s := s.modDpIn n fun x => { x with starts := l }
  if Nat.blt l.length 17 then s
  else
    let p := (t - l.getLastD t) / 16
    let vt := max 1 (s.fld (Reg.DP_IN_TOTAL n) 31 16)
    let moved := p != s.regN (Reg.DP_IN_FRAME_PERIOD n)
    let s := (s.setRegN (Reg.DP_IN_FRAME_PERIOD n) p).setRegN (Reg.DP_IN_LINE_PERIOD n) (p * 1000 / vt)
    (s.doIf moved fun s => s.formPort (8 + n)).showSums

/-- Whether the frame in capture is one that DECIMATE writes (R442). -/
def State.frameWritten (s : State) (n : Nat) : Bool := (s.dpIn n).decim == 0

/-- The frame in capture, begun when it is not: the one that the buffer in use held is complete (R442). -/
def DpIn.begin (x : DpIn) : DpIn :=
  let f := Sparse.get (fun _ => CapFrame.init) x.frames x.at_
  if f.num != 0 && !f.complete then x
  else { x with count := x.count + 1,
                frames := Sparse.set (fun _ => CapFrame.init) x.frames x.at_ { CapFrame.init with num := x.count + 1 } }

/-- The frame in capture changed. -/
def DpIn.modFrame (x : DpIn) (f : CapFrame → CapFrame) : DpIn :=
  { x with frames := Sparse.set (fun _ => CapFrame.init) x.frames x.at_ (f (Sparse.get (fun _ => CapFrame.init) x.frames x.at_)) }

/-- A line in the buffer in use, as the port holds it (R31, R442). -/
def State.putLine (s : State) (n y : Nat) : State :=
  let x := s.dpIn n
  match x.ring[x.at_]? with
  | none => s
  | some h =>
    let p := bufPic (s.bufAddr (h % 2 ^ 24)) (s.capFmt n) 0
    let l := Sparse.get (fun _ => []) x.lines y
    s.forEach [0, 1, 2] fun k s => s.putRect p k 0 y p.fmt.w 1 fun u _ =>
      let q := l.getD u (0, 0, 0)
      if k == 0 then q.1 else if k == 1 then q.2.1 else q.2.2

/-- A line that the port did not receive whole while in lock: it keeps its content of the previous frame, has no capture time, and
counts as captured without lock (R57, R439; that it has no time is a DESIGN CHOICE, assumption 65). -/
def State.lostLine (s : State) (n y : Nat) : State :=
  (s.putLine n y).modDpIn n fun x => x.modFrame fun f => { f with lost := f.lost ++ [y] }

/-- DP_IN_LINE_CAPTURE (R438 to R442): stamped, converted, written; a line not received whole in lock keeps what it held. -/
def State.inLine (s : State) (n : Nat) (f : LineFacts) : State :=
  let st := s.inState n
  if st != 3 && st != 4 then s
  else
    let t := f.reading - s.regN (Reg.DP_IN_RX_LATENCY n)
    let lock := st == 3
    let s := s.doIf (f.line == 0 && lock) fun s => (s.setReg64 (Reg.DP_IN_FRAME_TIME_LO n) t).measurePeriod n t
    let csc := s.fld (Reg.DP_IN_CTRL n) 5 4
    if !s.frameWritten n then s
    else
      let s := s.modDpIn n fun x => x.begin
      if lock && f.whole then
        let s := s.modDpIn n fun x =>
          { (x.modFrame fun g => { g with times := Sparse.set (fun _ => none) g.times f.line (some t) }) with
            lines := Sparse.set (fun _ => []) x.lines f.line (f.pixels.map (captured f.rgb csc f.depth.val)) }
        s.putLine n f.line
      else s.lostLine n f.line

def execDpInLineCapture (n : Fin 4) (f : LineFacts) (s : State) : Host.Outcome State Fault Refusal :=
  .next <| s.ifLive (inPage n.val) fun s => s.inLine n.val f

/-- The lines of the frame in capture of which nothing came. -/
def State.missingLines (s : State) (n : Nat) : List Nat :=
  let x := s.dpIn n
  let f := Sparse.get (fun _ => CapFrame.init) x.frames x.at_
  (List.range (s.capFmt n).h).filter fun y => (Sparse.get (fun _ => none) f.times y).isNone && !f.lost.elem y

/-- DP_IN_FRAME_COMPLETE (R439, R442): at the last active line. -/
def State.inFrame (s : State) (n : Nat) : State :=
  let st := s.inState n
  if st != 3 && st != 4 then s
  else
    let s := if s.frameWritten n then
        let s := s.modDpIn n fun x => x.begin
        let s := s.forEach (s.missingLines n) fun y s => s.lostLine n y
        (s.bump (Reg.DP_IN_FRAMES n) 1).modDpIn n fun x =>
          { (x.modFrame fun f => { f with complete := true }) with at_ := (x.at_ + 1) % 3 }
      else s.bump (Reg.DP_IN_FRAMES_DECIMATED n) 1
    let d := s.fld (Reg.DP_IN_CTRL n) 9 8
    s.modDpIn n fun x => { x with decim := (x.decim + 1) % (d + 1) }

def execDpInFrameComplete (n : Fin 4) (s : State) : Host.Outcome State Fault Refusal :=
  .next <| s.ifLive (inPage n.val) fun s => s.inFrame n.val

/-- DP_IN_STOP (R436): STOP or HALT; HPD released, the frame ends at once. -/
def State.inStop (s : State) (n : Nat) : State :=
  if s.inState n == 0 then s
  else
    let s := ((s.dropRing n).setInState n 0).setRbit (blkCtrl (inPage n)) 0 false
    ((s.modDpIn n fun x => { DpIn.init with lines := x.lines, count := x.count }).emit (.ball (ballHpd n) false)).showSums

def execDpInStop (n : Fin 4) (s : State) : Host.Outcome State Fault Refusal :=
  .next <| s.ifLive (inPage n.val) fun s => s.inStop n.val

/-- A byte of the DPCD that a sink port serves: revision 1.4, the lanes and rate advertised, TPS3 and TPS4, no MST, DSC,
FEC or PSR (R435; addresses of the DisplayPort standard: PRESUMED, assumption 15); else what the source wrote. -/
def State.dpcd (s : State) (n a : Nat) : Byte :=
  let lanes := 2 ^ s.fld (Reg.DP_IN_CTRL n) 1 0
  let rate := [0x06, 0x0A, 0x14, 0x1E].getD (s.fld (Reg.DP_IN_CTRL n) 3 2) 0
  if a == 0 then 0x14 else if a == 1 then BitVec.ofNat 8 rate else if a == 2 then BitVec.ofNat 8 (lanes + 0x40 + 0x80)
  else if a == 3 then 0x80
  else if Nat.ble 0x100 a && Nat.blt a 0x200 then Sparse.get (fun _ => (0 : Byte)) (s.dpIn n).dpcd a
  else 0

/-- A byte of the EDID (R435). -/
def State.edid (s : State) (n a : Nat) : Byte := BitVec.ofNat 8 (s.regN (Reg.DP_IN_EDID n (a % 256 / 4)) / 2 ^ (8 * (a % 4)))

/-- DP_IN_AUX_REQUEST (R435, R436, R443 step 2): answered while HPD is asserted; a write that starts a training pattern
brings STATE 2. -/
def State.inAux (s : State) (n : Nat) (q : AuxAsk) : State :=
  if s.inState n == 0 then s
  else if q.i2c then
    if q.addr.toNat != 0x50 then s.emit (.auxReply n 4 [])
    else if q.read then
      let p := (s.dpIn n).ptr
      let s := s.modDpIn n fun x => { x with ptr := (p + q.len.val) % 256 }
      s.emit (.auxReply n 0 ((List.range q.len.val).map fun i => s.edid n (p + i)))
    else
      let s := match q.bytes with
        | b :: _ => s.modDpIn n fun x => { x with ptr := b.toNat }
        | [] => s
      s.emit (.auxReply n 0 [])
  else if q.read then s.emit (.auxReply n 0 ((List.range q.len.val).map fun i => s.dpcd n (q.addr.toNat + i)))
  else
    let s := s.modDpIn n fun x => { x with dpcd := Sparse.setRange (fun _ => (0 : Byte)) x.dpcd q.addr.toNat q.bytes }
    let pattern := ((s.dpcd n 0x102).toNat % 16) != 0
    let s := s.doIf (pattern && s.inState n == 1) fun s => s.setInState n 2
    s.emit (.auxReply n 0 [])

def execDpInAuxRequest (n : Fin 4) (q : AuxAsk) (s : State) : Host.Outcome State Fault Refusal :=
  .next <| s.ifLive (inPage n.val) fun s => s.inAux n.val q

end Sys2Proof.Machine
end

