-- ==== Sys2Proof/Machine/Services.lean ====
section
/-! DEFINITION. The service FIFOs and boundary FIFOs (R592 to R597), and the check-value units (R598 to R604). -/

namespace Sys2Proof.Machine

/-! ### FIFOs -/

def State.fifo (s : State) (f : Nat) : Fifo := Sparse.get (fun _ => Fifo.init) s.fifos f

/-- R592: an empty drain bank and a fill bank with an item swap. -/
def Fifo.swap (x : Fifo) : Fifo := if x.drain.isEmpty && !x.fill.isEmpty then { fill := [], drain := x.fill } else x

def Fifo.level (x : Fifo) : Nat := x.fill.length + x.drain.length

/-- R593. -/
def Fifo.full (x : Fifo) (depth : Nat) : Bool := x.fill.length == depth && !x.drain.isEmpty

def State.fifoDepth (s : State) (f : Nat) : Nat := s.fld (Reg.FIFO_CFG f) 16 8

/-- A FIFO replaced after the swap of R592, and FIFO_STATUS with it. -/
def State.setFifo (s : State) (f : Nat) (x : Fifo) : State :=
  let x := x.swap
  let s := { s with fifos := Sparse.set (fun _ => Fifo.init) s.fifos f x }
  s.setRegN (Reg.FIFO_STATUS f) (b2n (x.full (s.fifoDepth f)) + 2 * b2n (x.level == 0) + 256 * x.level)

/-- One item written (R593): ignored with OVERRUN when FULL. -/
def State.fifoPush (s : State) (f : Nat) (v : Nat) : State :=
  let x := s.fifo f
  if !s.rbit (Reg.FIFO_CFG f) 0 then s
  else if x.full (s.fifoDepth f) then s.setRbit (Reg.FIFO_FLAGS f) 0 true
  else s.setFifo f { x with fill := x.fill ++ [v] }

/-- One item read (R593): zero with UNDERRUN when empty. -/
def State.fifoPop (s : State) (f : Nat) : State × Nat :=
  let x := s.fifo f
  match x.drain with
  | [] => (s.setRbit (Reg.FIFO_FLAGS f) 1 true, 0)
  | v :: r => (s.setFifo f { x with drain := r }, v)

/-- FIFO_PUSH. -/
def execFifoPush (f : Fin 16) (v : Word) (s : State) : Host.Outcome State Fault Refusal :=
  .next <| s.ifLive 0x018 fun s => s.fifoPush f.val v.toNat

/-- A read and the write that falls in the same handshake step: the state at its start decides both (R594). -/
def State.fifoPopPush (s : State) (f : Nat) (same : Option Word) : State × Nat :=
  let full := (s.fifo f).full (s.fifoDepth f)
  match s.fifoPop f with
  | (s, v) => match same with
    | none => (s, v)
    | some w => (if full then s.setRbit (Reg.FIFO_FLAGS f) 0 true else s.fifoPush f w.toNat, v)

/-- FIFO_POP: the item goes out as the data of the read; `same` is an item written in the same handshake step (R594). -/
def execFifoPop (f : Fin 16) (same : Option Word) (s : State) : Host.Outcome State Fault Refusal :=
  .next <| if s.live 0x018 then match s.fifoPopPush f.val same with
      | (s, v) => s.emit (.readData (BitVec.ofNat 32 v))
    else s.emit (.readData 0)

/-- FIFO_CFG_WRITE (R597). -/
def State.fifoCfgWrite (s : State) (f : Nat) (v : Word) : State :=
  let old := s.reg (Reg.FIFO_CFG f)
  if bit old 0 then
    if bit v 0 then s else (s.setReg (Reg.FIFO_CFG f) (putBit old 0 false)).setFifo f Fifo.init
  else
    let d := bits v 16 8
    let o := s.fld (Reg.FIFO_BASE f) 22 2 * 4
    let bad := Nat.blt d 8 || Nat.blt 256 d || Nat.blt 0x800000 (o + 8 * d) || s.meetsPool o (8 * d) ||
      overlap o (8 * d) s.cueRingBase 0x80000
    if bit v 0 && bad then s
    else s.setReg (Reg.FIFO_CFG f) (v &&& 0x1FF01)

def execFifoCfgWrite (f : Fin 16) (v : Word) (s : State) : Host.Outcome State Fault Refusal :=
  .next <| s.ifWritten 0x018 (Reg.FIFO_CFG f.val) v fun s => s.fifoCfgWrite f.val v

/-- BOUNDARY_OVERRUN (R596, R685): an item reaches a boundary FIFO of R16 that is FULL; it is lost, and the fault carries the
domain's number. -/
def execBoundaryOverrun (d : Nat) (s : State) : Host.Outcome State Fault Refusal :=
  .next (s.raise 934 FaultKind.BOUNDARY_OVERRUN d)

/-! ### Check-value units -/

/-- One bit of a CRC register of `w` bits, most significant bit first (R598). -/
def crcBit (w poly r : Nat) : Nat :=
  let t := nbit r (w - 1)
  let r := r * 2 % 2 ^ w
  if t then r ^^^ poly else r

def crcShift (w poly : Nat) : Nat → Nat → Nat
  | 0, r => r
  | k + 1, r => crcShift w poly k (crcBit w poly r)

/-- The CRC of R598. -/
def crcOf (w poly init xorout : Nat) (refin refout : Bool) (bs : List Byte) : Nat :=
  let r := bs.foldl (fun r b =>
    let v := if refin then revBits 8 b.toNat else b.toNat
    crcShift w poly 8 (r ^^^ (v * 2 ^ (w - 8)))) init
  (if refout then revBits w r else r) ^^^ xorout

def State.cvuQueue (s : State) (c : Nat) : List CvuJob := Sparse.get (fun _ => []) s.cvu c

def State.setCvuQueue (s : State) (c : Nat) (q : List CvuJob) : State :=
  let s := { s with cvu := Sparse.set (fun _ => []) s.cvu c q }
  s.setFld (Reg.CVU_STATUS c) 3 0 (b2n (!q.isEmpty) + 2 * (q.length - 1))

/-- The job statuses of R602. -/
def cvuOk : Nat := 0
def cvuMismatch : Nat := 1
def cvuRepeat : Nat := 2
def cvuCounterJump : Nat := 3
def cvuBadDesc : Nat := 4
def cvuBadCfg : Nat := 5
def cvuNotOwner : Nat := 6
def cvuAddrFault : Nat := 7
def cvuStale : Nat := 8
def cvuQueueFull : Nat := 9

/-- A job of channel `c` completes: the descriptor, the registers and the counters (R599, R604). -/
def State.cvuFinish (s : State) (c off st : Nat) (result : Option Nat) : State :=
  let s := match result with
    | some r => (s.pmWrite (off + 40) (leBytes 8 r)).setReg64 (Reg.CVU_RESULT_LO c) r
    | none => s
  let s := (s.pmWrite (off + 48) (leBytes 2 st)).pmWrite (off + 50) [1]
  let s := (s.setFld (Reg.CVU_STATUS c) 15 8 st).bump (Reg.CVU_JOBS c) 1
  let s := s.doIf (st == cvuMismatch) fun s => s.bump (Reg.CVU_MISMATCHES c) 1
  let s := s.doIf (st == cvuRepeat || st == cvuCounterJump) fun s => s.bump (Reg.CVU_COUNTER_FAULTS c) 1
  s.doIf (st == cvuStale) fun s => s.bump Reg.CVU_STALE_GEN_DROPS 1

/-- The descriptor's bits that R599 says are zero are zero. -/
def cvuDescOk (d : List Byte) : Bool :=
  leAt d 2 1 / 16 == 0 && leAt d 3 1 / 8 == 0 && leAt d 27 1 == 0 && leAt d 30 2 == 0 && leAt d 51 13 == 0

/-- R602: the configuration of a channel is good. -/
def State.cvuCfgOk (s : State) (c : Nat) : Bool :=
  let w := s.fld (Reg.CVU_CFG c) 6 0
  let n := s.fld (Reg.CVU_COUNTER_CFG c) 4 0
  Nat.ble 8 w && Nat.ble w 64 && Nat.ble 4 n && Nat.ble n 16 && Nat.blt (s.reg64 (Reg.CVU_POLY_LO c)) (2 ^ w) &&
    Nat.blt (s.reg64 (Reg.CVU_INIT_LO c)) (2 ^ w) && Nat.blt (s.reg64 (Reg.CVU_XOROUT_LO c)) (2 ^ w)

/-- Where a job's data lies, or the status of its failure (R600 step 2). -/
def State.cvuData (s : State) (d : List Byte) : Sum Nat Nat :=
  let n := leAt d 24 3
  if nbit (leAt d 3 1) 2 then
    match s.bufOf (leAt d 20 4) with
    | none => .inr cvuStale
    | some k => if Nat.ble (leAt d 16 4 + n) (s.bufSize k) then .inl (s.bufAddr k + leAt d 16 4) else .inr cvuAddrFault
  else if s.backed (leAt d 16 5) n then .inl (leAt d 16 5) else .inr cvuAddrFault

/-- R600 steps 3 to 5 on a result: the state with LAST, and the status. -/
def State.cvuJudge (s : State) (c : Nat) (d : List Byte) (r : Nat) : State × Nat :=
  let fl := leAt d 3 1
  let w := s.fld (Reg.CVU_CFG c) 6 0
  let n := s.fld (Reg.CVU_COUNTER_CFG c) 4 0
  let step := s.fld (Reg.CVU_COUNTER_CFG c) 15 8
  let win := s.fld (Reg.CVU_COUNTER_CFG c) 23 16
  let cnt := leAt d 28 2 % 2 ^ n
  let last := s.fld (Reg.CVU_LAST_COUNTER c) 15 0
  let valid := s.rbit (Reg.CVU_LAST_COUNTER c) 16
  let delta := (cnt + 2 ^ n - last % 2 ^ n) % 2 ^ n
  let counted := nbit fl 1
  if counted && valid && delta == 0 then (s, cvuRepeat)
  else
    let s := s.doIf counted fun s => s.setRegN (Reg.CVU_LAST_COUNTER c) (cnt + 65536)
    if nbit fl 0 && r != leAt d 32 8 % 2 ^ w then (s, cvuMismatch)
    else if counted && valid && !(Nat.ble step delta && Nat.ble delta (step + win)) then (s, cvuCounterJump)
    else (s, cvuOk)

/-- R600: the job of a channel evaluated. -/
def State.cvuEval (s : State) (c : Nat) (j : CvuJob) : State :=
  let d := s.pmBytes j.offset 64
  if !cvuDescOk d then s.cvuFinish c j.offset cvuBadDesc none
  else if !s.cvuCfgOk c then s.cvuFinish c j.offset cvuBadCfg none
  else if j.poster != s.fld (Reg.CVU_OWNER c) 1 0 then s.cvuFinish c j.offset cvuNotOwner none
  else match s.cvuData d with
    | .inr st => s.cvuFinish c j.offset st none
    | .inl a =>
      let w := s.fld (Reg.CVU_CFG c) 6 0
      let r := crcOf w (s.reg64 (Reg.CVU_POLY_LO c)) (s.reg64 (Reg.CVU_INIT_LO c)) (s.reg64 (Reg.CVU_XOROUT_LO c))
        (s.rbit (Reg.CVU_CFG c) 7) (s.rbit (Reg.CVU_CFG c) 8) (s.memBytes a (leAt d 24 3))
      match s.cvuJudge c d r with
      | (s, st) => s.cvuFinish c j.offset st (some r)

/-- The owner class of a writer (R601). -/
def cvuClass : Writer → Nat
  | .prompter => 1
  | .stageManager _ => 2
  | .cueEngine _ => 2
  | .host => 3

/-- A job posted (R599, R603): queued on the channel its descriptor names, or completed at once with CVU_QUEUE_FULL. -/
def State.cvuPost (s : State) (poster off : Nat) : State :=
  let c := s.memLE (poolBase + off + 2) 1 % 16
  let q := s.cvuQueue c
  if Nat.ble 5 q.length then s.cvuFinish c off cvuQueueFull none
  else s.setCvuQueue c (q ++ [{ poster := poster, offset := off }])

/-- CVU_JOB_POST (R603): the jobs that reach the units in one handshake step, in the order of R24. -/
def execCvuJobPost (posts : List CvuPost) (s : State) : Host.Outcome State Fault Refusal :=
  .next <| s.ifLive 0x019 fun s =>
    let key (p : CvuPost) : Nat := tokenOrder (s.memLE (poolBase + bits p.value 22 6 * 64 + 8) 8)
      (s.memLE (poolBase + bits p.value 22 6 * 64) 2)
    (s.forEach (sortBy key posts) fun p s => s.cvuPost (cvuClass p.poster) (bits p.value 22 6 * 64))

/-- CVU_JOB_RUN (R600, R603): the first job of the channel's queue. -/
def execCvuJobRun (c : Fin 16) (s : State) : Host.Outcome State Fault Refusal :=
  .next <| s.ifLive 0x019 fun s =>
    match s.cvuQueue c.val with
      | [] => s
      | j :: r => (s.cvuEval c.val j).setCvuQueue c.val r

/-- CVU_COUNTER_CFG_WRITE (R601, R603): LAST_VALID cleared; without effect from another writer than the owner. -/
def State.cvuCounterCfgWrite (s : State) (w : Writer) (c : Nat) (v : Word) : State :=
  s.doIf (cvuClass w == s.fld (Reg.CVU_OWNER c) 1 0) fun s =>
    (s.setReg (Reg.CVU_COUNTER_CFG c) (v &&& 0x00FFFF1F)).setRbit (Reg.CVU_LAST_COUNTER c) 16 false

def execCvuCounterCfgWrite (w : Writer) (c : Fin 16) (v : Word) (s : State) : Host.Outcome State Fault Refusal :=
  .next <| s.ifWritten 0x019 (Reg.CVU_COUNTER_CFG c.val) v fun s => s.cvuCounterCfgWrite w c.val v

end Sys2Proof.Machine
end

