-- ==== Sys2Proof/Machine/Host.lean ====
section
/-! DEFINITION. The host's side: the device address space as DMA and BAR 2 reach it (R515 to R517, R597, R609), the
command queues (R518 to R524), tallies and notices (R525 to R530, R550, R551, R605), DMA channels (R531 to R542,
R552 to R554). -/

namespace Sys2Proof.Machine

/-! ### Reaching the host -/

/-- Whether the device may issue requests to the host (R513): Bus Master Enable, bit 2 of the Command register at dword 1
of configuration space; the function in D0, PowerState at dword 17 (assumption 17). -/
def State.busMaster (s : State) : Bool := bit (Sparse.get (fun _ => 0) s.pcie.cfg 1) 2
def State.d3hot (s : State) : Bool := bits (Sparse.get (fun _ => 0) s.pcie.cfg 17) 1 0 == 3
def State.busOk (s : State) : Bool := s.busMaster && !s.d3hot

/-- HOSTQ_PCIE_STATUS after a change of the endpoint. -/
def State.showPcie (s : State) : State :=
  s.setRegN Reg.HOSTQ_PCIE_STATUS
    (b2n s.pcie.up + 2 * s.pcie.speed + 16 * s.pcie.width + 256 * b2n s.busMaster + 512 * b2n s.d3hot)

/-- Whether the HOSTQ page, and whether the DMA pages, are out of reset. -/
def State.hostqUp (s : State) : Bool := !s.domainHeld 10 && !s.inReset 0x028
def State.dmaUp (s : State) : Bool := !s.domainHeld 10 && !s.inReset 0x020

/-! ### The device address space -/

/-- The service FIFO of a push or of a pop window that holds a range of whole words (R597, R609). -/
def fifoWindow (base a n : Nat) : Option Nat :=
  if Nat.ble base a && Nat.blt a (base + 0x4000) && a % 4 == 0 && n % 4 == 0 && Nat.ble (a % 1024 + n) 1024
  then some ((a - base) / 1024) else none
def pushWindow (a n : Nat) : Option Nat := fifoWindow 0x0801000000 a n
def popWindow (a n : Nat) : Option Nat := fifoWindow 0x0801004000 a n

/-- Whether something backs a range. -/
def State.reaches (s : State) (a n : Nat) : Bool :=
  s.backed a n || (pushWindow a n).isSome || (popWindow a n).isSome

/-- `n` items popped from a FIFO. -/
def State.popMany (s : State) (f : Nat) : Nat → State × List Byte
  | 0 => (s, [])
  | n + 1 => match s.fifoPop f with
    | (s, v) => match s.popMany f n with
      | (s, bs) => (s, leBytes 4 v ++ bs)

/-- Bytes read from a backed range; a push window reads zero. -/
def State.rangeRead (s : State) (a n : Nat) : State × List Byte :=
  match popWindow a n with
  | some f => s.popMany f (n / 4)
  | none => if (pushWindow a n).isSome then (s, List.replicate n 0) else (s, s.memBytes a n)

/-- Bytes written to a backed range by a writer; a pop window takes no write. -/
def State.rangeWrite (s : State) (w a : Nat) (bs : List Byte) : State :=
  match pushWindow a bs.length with
  | some f => s.forEach (List.range (bs.length / 4)) fun i s => s.fifoPush f (leAt bs (4 * i) 4)
  | none => if (popWindow a bs.length).isSome then s else s.devWrite w a bs

/-! ### BAR 2 -/

def State.winBase (s : State) : Nat := s.fld Reg.HOSTQ_WIN_BASE_HI 7 0 * 2 ^ 32 + s.fld Reg.HOSTQ_WIN_BASE_LO 31 20 * 2 ^ 20

/-- The runs of bytes that the byte enables of a write let through (R516): place of the first byte, and the bytes. -/
def enabledRuns (skip : List Nat) (bs : List Byte) : List (Nat × List Byte) :=
  if skip.isEmpty then [(0, bs)]
  else ((List.range bs.length).filter fun i => !skip.elem i).foldr (fun i rs => match rs with
    | (j, r) :: t => if j == i + 1 then (i, bs.getD i 0 :: r) :: t else (i, [bs.getD i 0]) :: rs
    | [] => [(i, [bs.getD i 0])]) []

/-- R517: a write reaches what no fence keeps from the host; a fenced byte reads zero; where no memory backs the
address nothing is written, zeros are read, and HOSTQ_WIN_ERRORS counts. -/
def State.bar2 (s : State) (q : BarAsk) : State :=
  let a := s.winBase + q.off.toNat
  let n := (q.write.map (·.length)).getD q.len
  if s.domainHeld 9 then s
  else if !s.reaches a n then
    let s := s.bump Reg.HOSTQ_WIN_ERRORS 1
    match q.write with
    | some _ => s
    | none => s.emit (.windowData (List.replicate n 0))
  else match q.write with
    | some bs => s.forEach (enabledRuns q.skip bs) fun r s => s.rangeWrite byHost (a + r.1) r.2
    | none =>
      let r := s.rangeRead a n
      r.1.emit (.windowData ((List.range n).map fun i => if r.1.fencedRead (a + i) then 0 else r.2.getD i 0))

def execBar2Access (q : BarAsk) (s : State) : Host.Outcome State Fault Refusal := .next (s.bar2 q)

/-- WIN_BASE_WRITE (R515): the low word moves the window, with the high word last written. -/
def execWinBaseWrite (v : Word) (s : State) : Host.Outcome State Fault Refusal :=
  .next (s.doIf (!s.domainHeld 10) fun s => s.setReg Reg.HOSTQ_WIN_BASE_LO (v &&& 0xFFF00000))

/-- POISONED_REQUEST (R512). -/
def execPoisonedRequest (s : State) : Host.Outcome State Fault Refusal :=
  .next (s.doIf (!s.domainHeld 9) fun s => s.bump Reg.HOSTQ_PCIE_ERRORS 1)

/-! ### Tallies -/

def State.hostQ (s : State) (q : Nat) : HostQ := Sparse.get (fun _ => HostQ.init) s.host.queues q
def State.setHostQ (s : State) (q : Nat) (x : HostQ) : State :=
  { s with host := { s.host with queues := Sparse.set (fun _ => HostQ.init) s.host.queues q x } }

def State.tallyEn (s : State) (q : Nat) : Bool := s.rbit (Reg.HOSTQ_CTRL q) 0
def State.cmdEn (s : State) (q : Nat) : Bool := s.rbit (Reg.HOSTQ_CTRL q) 1 && s.tallyEn q
def State.tallySize (s : State) (q : Nat) : Nat := s.fld (Reg.HOSTQ_TALLY_SIZE q) 12 0

/-- R525: whether `n` more jobs may issue. -/
def State.canIssue (s : State) (q n : Nat) : Bool :=
  s.tallyEn q && Nat.blt (((s.hostQ q).issued + 2 ^ 32 - s.regN (Reg.HOSTQ_TALLY_ACK q)) % 2 ^ 32 + n) (s.tallySize q + 1)

/-- R525: a job issued; its sequence. -/
def State.issueTally (s : State) (q : Nat) : State × Nat :=
  let x := s.hostQ q
  ((s.setHostQ q { x with issued := x.issued + 1 }).setRegN (Reg.HOSTQ_ISSUED q) (x.issued + 1), x.issued)

/-- The tally entry of R529: KIND, SOURCE, STATUS, ID, TIME, SRC_SEQ and RESULT. -/
def tallyEntry (seq kind source status id time srcSeq : Nat) (result : List Byte) : List Byte :=
  leBytes 8 seq ++ leBytes 1 kind ++ leBytes 1 source ++ leBytes 2 status ++ leBytes 4 id ++ leBytes 8 time ++
    leBytes 4 srcSeq ++ leBytes 4 0 ++ (result ++ List.replicate 32 0).take 32

/-- C of R526. -/
def State.tallyC (s : State) (q : Nat) : Nat := s.reg64 (Reg.HOSTQ_TALLY_COUNT_LO q)

/-- C advances over the entries that are written without a gap. -/
def gapFree (c : Nat) (written : List Nat) : Nat := (sortBy id written).foldl (fun c k => if k == c then c + 1 else c) c

/-- An entry reaches its slot in host memory (R525, R526). -/
def State.landEntry (s : State) (q seq : Nat) (bs : List Byte) : State :=
  let s := s.hostWrite (s.reg64 (Reg.HOSTQ_TALLY_BASE_LO q) + 64 * (seq % s.tallySize q)) bs
  let x := s.hostQ q
  let w := seq :: x.written
  let c := gapFree (s.tallyC q) w
  (s.setHostQ q { x with written := w.filter fun k => Nat.ble c k }).setReg64 (Reg.HOSTQ_TALLY_COUNT_LO q) c

/-- TALLY_ENTRY_WRITE (R605): a job's entry is written; while the host cannot be reached it waits (R513). -/
def State.putEntry (s : State) (q seq : Nat) (bs : List Byte) : State :=
  if s.busOk then s.landEntry q seq bs else { s with host := { s.host with waiting := s.host.waiting ++ [(q, seq, bs)] } }

/-- TALLY_COUNT_WRITE (R526): the count word, when C has changed since it was last written. -/
def State.countWrite (s : State) (q : Nat) : State :=
  let x := s.hostQ q
  let c := s.tallyC q
  if c == x.counted || !s.hostqUp then s
  else if !s.busOk then s.setHostQ q { x with countDue := true }
  else (s.hostWrite (s.reg64 (Reg.HOSTQ_COUNT_ADDR_LO q)) (leBytes 8 c)).setHostQ q { x with counted := c, countDue := false }

def execTallyCountWrite (q : Fin 16) (s : State) : Host.Outcome State Fault Refusal := .next (s.countWrite q.val)

/-- TALLY_ACK_WRITE (R528). -/
def State.tallyAck (s : State) (q : Nat) (v : Word) : State :=
  if !s.hostqUp then s
  else if later32 v.toNat (s.regN (Reg.HOSTQ_TALLY_ACK q)) && !later32 v.toNat (s.tallyC q % 2 ^ 32)
  then s.setReg (Reg.HOSTQ_TALLY_ACK q) v
  else s.bump (Reg.HOSTQ_Q_ERRORS q) 1

def execTallyAckWrite (q : Fin 16) (v : Word) (s : State) : Host.Outcome State Fault Refusal := .next (s.tallyAck q.val v)

/-- NOTICE_ISSUE (R530): a fault message of Notify or above goes to the ring of NOTIFY_Q, after an entry for what was
folded, or is folded: collector sequence, source and kind word, address, severity, time. -/
def State.notice (s : State) (seq word addr sev time : Nat) : State :=
  let q := s.fld Reg.HOSTQ_GCTRL 3 0
  let two := s.host.fold != 0
  if !s.rbit Reg.HOSTQ_GCTRL 4 || !s.canIssue q (if two then 2 else 1) then
    { s.bump Reg.HOSTQ_NOTICES_FOLDED 1 with host := { s.host with fold := s.host.fold + 1 } }
  else
    let s := s.doIf two fun s =>
      match s.issueTally q with
      | (s, k) =>
        let s := s.putEntry q k (tallyEntry k 4 0 0 0 s.now 0 (leBytes 4 s.host.fold))
        { s with host := { s.host with fold := 0 } }
    match s.issueTally q with
    | (s, k) => (s.putEntry q k (tallyEntry k 3 0 0 0 time seq (leBytes 2 word ++ leBytes 5 addr ++ leBytes 1 sev))).emit (.notice seq)

/-! ### Commands -/

def cmdOp (e : List Byte) : Nat := leAt e 0 2
def cmdFence (e : List Byte) : Bool := nbit (leAt e 2 1) 0
def cmdId (e : List Byte) : Nat := leAt e 4 4
def cmdArgs (e : List Byte) : List Byte := sliceB e 8 56

/-- The ARGS bytes an opcode uses (R523). -/
def cmdUsed (op : Nat) : List Nat :=
  if op == 1 then [0, 1, 2] ++ rangeFrom 8 8
  else if op == 2 then [0, 1, 2, 3] ++ rangeFrom 8 8
  else if op == 3 then List.range 10
  else if op == 4 || op == 5 then List.range 16
  else []

/-- R522: a reserved byte is not zero (unused ARGS bytes included, assumption 18). -/
def cmdBadFormat (e : List Byte) : Bool :=
  Nat.blt 1 (leAt e 2 1) || leAt e 3 1 != 0 ||
    (Nat.ble (cmdOp e) 5 && (List.range 56).any fun i => !(cmdUsed (cmdOp e)).elem i && leAt (cmdArgs e) i 1 != 0)

/-- The statuses of R524. -/
def cmdOk : Nat := 0
def cmdUnknown : Nat := 1
def cmdFormat : Nat := 2
def cmdBadArg : Nat := 3
def cmdHostFault : Nat := 4
def cmdProtected : Nat := 5
def cmdRefused : Nat := 6

/-- The status with which a command ends before it is served, if it does: bad format, not served in house mode (R677),
unknown. -/
def State.cmdStillborn (s : State) (e : List Byte) : Option Nat :=
  if cmdBadFormat e then some cmdFormat
  else if s.rc.house && !([0, 4, 5].elem (cmdOp e)) then some cmdRefused
  else if Nat.blt 5 (cmdOp e) then some cmdUnknown
  else none

/-- R520: of the commands of one queue in fetch order, those that may start or have started: up to the first with FENCE
that an earlier one holds back. -/
def fencePrefix : Bool → List CmdJob → List CmdJob
  | _, [] => []
  | first, j :: r => if cmdFence j.entry && !first then [] else j :: fencePrefix false r

def State.cmdReady (s : State) (q : Nat) : List CmdJob := fencePrefix true (s.host.jobs.filter fun j => j.queue == q)

/-- A command completes: its entry is written (R524, R529). -/
def State.cmdEnd (s : State) (j : CmdJob) (status : Nat) (result : List Byte) : State :=
  let s := { s with host := { s.host with jobs := s.host.jobs.filter fun k => !(k.queue == j.queue && k.num == j.num) } }
  s.putEntry j.queue j.seq (tallyEntry j.seq 1 j.queue status (cmdId j.entry) s.now j.num result)

/-- Commands that may start and are not served complete at once, one after the other. -/
def State.cmdSweep (s : State) (q : Nat) : Nat → State
  | 0 => s
  | n + 1 => match (s.cmdReady q).find? fun j => (s.cmdStillborn j.entry).isSome with
    | some j => (s.cmdEnd j ((s.cmdStillborn j.entry).getD cmdUnknown) []).cmdSweep q n
    | none => s

def State.sweepQueue (s : State) (q : Nat) : State := s.cmdSweep q s.host.jobs.length

/-- Whether the Stage Manager serves commands: domain 10 is released. -/
def State.smRuns (s : State) : Bool := !s.domainHeld 11 && !s.rc.notReady.elem 11

/-- The oldest command of the queue that may run and has the opcode; none while the Stage Manager does not run or, for a
command that reaches the host, the host cannot be reached (R513). -/
def State.cmdNext (s : State) (q op : Nat) (host : Bool) : Option CmdJob :=
  if !s.smRuns || (host && !s.busOk) then none else (s.cmdReady q).find? fun j => cmdOp j.entry == op

/-- A command of an opcode is run: what it does gives the state, the status and the RESULT bytes. -/
def State.cmdRun (s : State) (q op : Nat) (host : Bool) (f : List Byte → State → State × Nat × List Byte) : State :=
  match s.cmdNext q op host with
  | none => s
  | some j => match f (cmdArgs j.entry) s with
    | (s, st, res) => (s.cmdEnd j st res).sweepQueue q

/-- R518: a queue whose next entry may be fetched. -/
def State.fetchable (s : State) (q : Nat) : Bool :=
  s.cmdEn q && s.fld (Reg.HOSTQ_HEAD q) 11 0 != s.fld (Reg.HOSTQ_DOORBELL q) 11 0 && s.canIssue q 1

/-- CMD_FETCH (R518, R519): the next queue in turn gives one entry. -/
def State.cmdFetch (s : State) : State :=
  if !s.hostqUp || !s.busOk then s
  else match ((rangeFrom (s.host.last + 1) 16).map (· % 16)).find? s.fetchable with
  | none => s
  | some q =>
    let h := s.fld (Reg.HOSTQ_HEAD q) 11 0
    let e := s.hostBytes (s.reg64 (Reg.HOSTQ_CMD_BASE_LO q) + 64 * h) 64
    match s.issueTally q with
    | (s, k) =>
      let x := s.hostQ q
      let j : CmdJob := { queue := q, num := x.fetched, seq := k, entry := e }
      let s := s.setHostQ q { x with fetched := x.fetched + 1 }
      let s := s.setRegN (Reg.HOSTQ_HEAD q) ((h + 1) % s.fld (Reg.HOSTQ_CMD_SIZE q) 12 0)
      { s with host := { s.host with jobs := s.host.jobs ++ [j], last := q } }.sweepQueue q

def execCmdFetch (s : State) : Host.Outcome State Fault Refusal := .next s.cmdFetch

/-- DOORBELL_WRITE (R521); the queue's source says that its doorbell was written (R559). -/
def State.doorbell (s : State) (q : Nat) (v : Word) : State :=
  if !s.hostqUp then s
  else if Nat.ble (s.fld (Reg.HOSTQ_CMD_SIZE q) 12 0) (bits v 11 0) then s.bump (Reg.HOSTQ_Q_ERRORS q) 1
  else (s.setRegN (Reg.HOSTQ_DOORBELL q) (bits v 11 0)).blockCue (480 + q) false

def execDoorbellWrite (q : Fin 16) (v : Word) (s : State) : Host.Outcome State Fault Refusal := .next (s.doorbell q.val v)

/-- NOP (R523). -/
def execNop (q : Fin 16) (s : State) : Host.Outcome State Fault Refusal :=
  .next (s.cmdRun q.val 0 false fun _ s => (s, cmdOk, []))

/-- The words of 64 bytes. -/
def wordsOf (bs : List Byte) : List Nat := (List.range 16).map fun i => leAt bs (4 * i) 4

/-- An operation on a flow, through the flow window: 0 read, 1 new, 2 update, 3 invalidate. -/
def State.flowOp (s : State) (f op : Nat) : State × Nat :=
  if op == 0 then (s.flowRead f, 0)
  else if op == 1 then s.flowWriteNew f s.flowWindow
  else if op == 2 then s.flowUpdate f s.flowWindow
  else (s.flowInvalidate f, 0)

/-- FLOW_CMD (R523): an operation of R464 through the window; a failed host access ends it with CMD_HOST_FAULT. -/
def State.flowCmd (s : State) (fault : Bool) (a : List Byte) : State × Nat × List Byte :=
  let f := leAt a 0 2
  let op := leAt a 2 1
  let host := leAt a 8 8
  if Nat.blt 255 f || Nat.blt 3 op then (s, cmdBadArg, [])
  else if fault && (op == 1 || op == 2) then (s, cmdHostFault, [])
  else
    let s := s.doIf (op == 1 || op == 2) fun s =>
      let ws := wordsOf (s.hostBytes host 64)
      s.forEach (List.range 16) fun i s => s.setRegN (Reg.PKT_FLOW_DATA i) (ws.getD i 0)
    let r := s.flowOp f op
    let res := leBytes 1 r.2 ++ leBytes 1 (r.1.flow f).gen
    if op == 0 && fault then (r.1, cmdHostFault, res)
    else
      let s := r.1.doIf (op == 0) fun s => s.hostWrite host (s.flowWindow.flatMap (leBytes 4))
      (s, if r.2 == 0 then cmdOk else cmdRefused, res)

def execFlowCmd (q : Fin 16) (fault : Bool) (s : State) : Host.Outcome State Fault Refusal :=
  .next (s.cmdRun q.val 1 true fun a s => s.flowCmd fault a)

/-! ### SDP_APPLY -/

def strB (t : String) : List Byte := t.toList.map fun c => BitVec.ofNat 8 c.toNat

/-- A byte list cut at each separator. -/
def splitB (sep : Byte) : List Byte → List (List Byte)
  | [] => [[]]
  | b :: r => if b == sep then [] :: splitB sep r else match splitB sep r with
    | [] => [[b]]
    | x :: xs => (b :: x) :: xs

def blankB (b : Byte) : Bool := b == 32 || b == 9 || b == 13
def trimB (l : List Byte) : List Byte := ((l.dropWhile blankB).reverse.dropWhile blankB).reverse

/-- A decimal number of one digit or more. -/
def decimalB (l : List Byte) : Option Nat :=
  if l.isEmpty || Nat.blt 9 l.length || l.any (fun b => Nat.blt b.toNat 48 || Nat.blt 57 b.toNat) then none
  else some (l.foldl (fun a b => 10 * a + (b.toNat - 48)) 0)

/-- The items name=value of the fmtp lines of an SDP text. -/
def fmtpItems (text : List Byte) : List (List Byte × List Byte) :=
  ((splitB 10 text).map trimB).flatMap fun line =>
    if line.take 7 == strB "a=fmtp:" then
      (splitB 59 (line.dropWhile (· != 32))).map fun it =>
        (trimB (it.takeWhile (· != 61)), trimB ((it.dropWhile (· != 61)).drop 1))
    else []

/-- One parameter of the table before R162, for context c: none when it is outside the table. -/
def sdpParam (c : Nat) (p : List Byte × List Byte) : Option (State → State) :=
  let num (lo hi : Nat) (f : Nat → State → State) : Option (State → State) :=
    match decimalB p.2 with
    | some v => if Nat.ble lo v && Nat.ble v hi then some (f v) else none
    | none => none
  if p.1 == strB "uaq-sheet" then num 1 2 fun v s => s.sdpField c 7 0 v
  else if p.1 == strB "uaq-dl-exact" then num 1 60000 fun v s => s.setFld (shadowOf (Reg.FRESH_DEADLINE_EXACT c)) 15 0 v
  else if p.1 == strB "uaq-dl-lossy" then num 1 60000 fun v s => s.setFld (shadowOf (Reg.FRESH_DEADLINE_LOSSY c)) 15 0 v
  else if p.1 == strB "uaq-renew" then num 1 60000 fun v s => s.sdpField c 23 8 v
  else if p.1 == strB "uaq-netallow" then num 0 60000 fun v s => s.setFld (shadowOf (Reg.FRESH_NET_ALLOW c)) 15 0 v
  else if p.1 == strB "uaq-class" then
    (if [strB "auto", strB "exact", strB "lossy"].elem p.2 then some id else none)
  else if p.1 == strB "uaq-session" then num 0 65535 fun v s =>
    let s := s.writeSessCtrl c (putBits (s.reg (Reg.SESS_CTRL c)) 2 1 (if v == 0 then 1 else 0))
    s.doIf (v != 0 && !s.rbit (Reg.SESS_CTRL c) 0) fun s => s.setFld (Reg.SESS_PEER_PORT c) 15 0 v
  else none

/-- SDP_APPLY (R523): the parameters named uaq-… of the text; one outside the table ends it with CMD_BAD_ARG and
nothing applied. -/
def State.sdpApply (s : State) (fault : Bool) (a : List Byte) : State × Nat × List Byte :=
  let c := leAt a 0 2
  let len := leAt a 2 2
  if Nat.blt 255 c || Nat.blt 4096 len then (s, cmdBadArg, [])
  else if fault then (s, cmdHostFault, [])
  else
    let ps := (fmtpItems (s.hostBytes (leAt a 8 8) len)).filter fun p => p.1.take 4 == strB "uaq-"
    let fs := ps.map (sdpParam c)
    if fs.any (·.isNone) then (s, cmdBadArg, [])
    else (fs.foldl (fun s f => f.getD id s) s, cmdOk, leBytes 4 ps.length)

def execSdpApply (q : Fin 16) (fault : Bool) (s : State) : Host.Outcome State Fault Refusal :=
  .next (s.cmdRun q.val 2 true fun a s => s.sdpApply fault a)

/-- The defaults of R471: domain 127, log intervals −3, −2, −3, receipt timeout 3, end-to-end, slave-only, priorities
128. -/
def ptpDefault : List Byte := [127, 0xFD, 0xFE, 0xFD, 3, 0, 0, 128, 128]

/-- PTP_CONFIG (R471, R523): the settings of the port, used from the next Announce interval on. -/
def State.ptpConfig (s : State) (a : List Byte) : State × Nat × List Byte :=
  let n (i : Nat) : Int := sx 8 (leAt a i 1)
  let port := leAt a 0 1
  if Nat.blt 3 port || Nat.blt 127 (leAt a 1 1) || n 2 < -7 || n 2 > -1 || n 3 < -3 || n 3 > 1 || n 4 < -7 || n 4 > -1 ||
      Nat.blt (leAt a 5 1) 2 || Nat.blt 10 (leAt a 5 1) || Nat.blt 1 (leAt a 6 1) || Nat.blt 1 (leAt a 7 1) then
    (s, cmdBadArg, [])
  else ({ s with ptp := Sparse.set (fun _ => ptpDefault) s.ptp port (sliceB a 1 9) }, cmdOk, [])

def execPtpConfig (q : Fin 16) (s : State) : Host.Outcome State Fault Refusal :=
  .next (s.cmdRun q.val 3 false fun a s => s.ptpConfig a)

/-- HOST_FLASH_READ (R523): the host command FLASH_READ. -/
def State.hostFlashRead (s : State) (fault : Bool) (a : List Byte) : State × Nat × List Byte :=
  if Nat.blt 0x100000 (leAt a 4 4) then (s, cmdBadArg, [])
  else if fault then (s, cmdHostFault, [])
  else (s.hostWrite (leAt a 8 8) (s.flashBytes (leAt a 0 4) (leAt a 4 4)), cmdOk, [])

def execHostFlashRead (q : Fin 16) (fault : Bool) (s : State) : Host.Outcome State Fault Refusal :=
  .next (s.cmdRun q.val 4 true fun a s => s.hostFlashRead fault a)

/-- HOST_FLASH_WRITE (R523): the host command FLASH_WRITE, into the option block or an image slot only. -/
def State.hostFlashWrite (s : State) (fault : Bool) (a : List Byte) : State × Nat × List Byte :=
  let n := leAt a 4 4
  if Nat.blt 0x100000 n then (s, cmdBadArg, [])
  else if !s.hostMayWrite (leAt a 0 4) n then (s, cmdProtected, [])
  else if fault then (s, cmdHostFault, [])
  else (s.flashWrite (leAt a 0 4) (s.hostBytes (leAt a 8 8) n), cmdOk, [])

def execHostFlashWrite (q : Fin 16) (fault : Bool) (s : State) : Host.Outcome State Fault Refusal :=
  .next (s.cmdRun q.val 5 true fun a s => s.hostFlashWrite fault a)

end Sys2Proof.Machine
end

