-- ==== Sys2Proof/Machine/Dma.lean ====
section
/-! DEFINITION. The DMA channels (R531 to R542, R552 to R554), and the enabling and disabling of command queues and
tally rings (R550, R551), which end the channels that hold a job on a ring. -/

namespace Sys2Proof.Machine

/-! ### Channels -/

def State.dmaCh (s : State) (c : Nat) : DmaCh := Sparse.get (fun _ => DmaCh.init) s.dma c
def State.setDma (s : State) (c : Nat) (x : DmaCh) : State := { s with dma := Sparse.set (fun _ => DmaCh.init) s.dma c x }
def State.modDma (s : State) (c : Nat) (f : DmaCh → DmaCh) : State := s.setDma c (f (s.dmaCh c))

def State.dmaState (s : State) (c : Nat) : Nat := s.fld (Reg.DMA_STATUS c) 2 0
def State.setDmaState (s : State) (c v : Nat) : State := s.setFld (Reg.DMA_STATUS c) 2 0 v
def State.dmaOn (s : State) (c : Nat) : Bool := s.rbit (Reg.DMA_CTRL c) 0
def State.dmaStopping (s : State) (c : Nat) : Bool := s.rbit (Reg.DMA_CTRL c) 1
def State.dmaRing (s : State) (c : Nat) : Nat := s.fld (Reg.DMA_CFG c) 3 0

/-- The channel-end statuses of R538. -/
def dmaOk : Nat := 0
def dmaStopped : Nat := 1
def dmaHalted : Nat := 2
def dmaLoop : Nat := 3
def dmaDescBad : Nat := 4
def dmaAddrFault : Nat := 5
def dmaTimeout : Nat := 6
def dmaAborted : Nat := 7
def dmaStale : Nat := 8
def dmaBadCfg : Nat := 9

/-- The fields of a descriptor (R531). -/
def descLen (d : List Byte) : Nat := leAt d 0 3
def descFlag (d : List Byte) (n : Nat) : Bool := nbit (leAt d 4 2) n
def descComplete (d : List Byte) : Bool := descFlag d 1
def descLast (d : List Byte) : Bool := descFlag d 2
def descSrcKind (d : List Byte) : Nat := nbits (leAt d 4 2) 5 4
def descDstKind (d : List Byte) : Nat := nbits (leAt d 4 2) 7 6
def descTag (d : List Byte) : Nat := leAt d 6 2
def descSrc (d : List Byte) : Nat := leAt d 8 8
def descDst (d : List Byte) : Nat := leAt d 16 8
def descNext (d : List Byte) : Nat := leAt d 24 8

/-- DESC_BAD for what a descriptor holds: non-zero reserved bits, a fill destination (R538). -/
def descBad (d : List Byte) : Bool :=
  leAt d 3 1 != 0 || leAt d 5 1 != 0 || descDstKind d == 3 || (descSrcKind d == 0 && Nat.ble (2 ^ 40) (descSrc d)) ||
    (descDstKind d == 0 && Nat.ble (2 ^ 40) (descDst d))

/-- DMA_NEXT as the record has it: address bits [63:5] and HOST. -/
def State.showNext (s : State) (c : Nat) : State :=
  let x := s.dmaCh c
  s.setReg64 (Reg.DMA_NEXT_LO c) (x.next / 32 * 32 + b2n x.nextHost)

/-- The held job of R535 is used, with a status, the TAG and the bytes moved of the descriptor it stands for. -/
def State.dmaUseJob (s : State) (c status tag moved : Nat) : State :=
  match (s.dmaCh c).job with
  | none => s
  | some (q, k) =>
    let s := s.modDma c fun x => { x with job := none }
    s.putEntry q k (tallyEntry k 2 c status tag s.now (s.regN (Reg.DMA_DESCS c))
      (leBytes 4 moved ++ leBytes 4 0 ++ leBytes 8 (s.reg64 (Reg.DMA_NEXT_LO c))))

/-- The chain ends (R538): ENABLE and STOP clear, STATE 0, the held job carries the status; codes 3 to 8 raise
DMA_CHAIN_ERROR. -/
def State.dmaEnd (s : State) (c status tag moved : Nat) : State :=
  let s := s.dmaUseJob c status tag moved
  let s := s.modDma c fun x => { x with desc := none, hops := 0 }
  let s := (s.setFld (Reg.DMA_CTRL c) 1 0 0).setDmaState c 0
  let s := s.setFld (Reg.DMA_STATUS c) 11 8 status
  s.doIf (Nat.ble dmaLoop status && Nat.ble status dmaStale) fun s => s.raise (448 + c) FaultKind.DMA_CHAIN_ERROR (c + 256 * status)

/-- The TAG and bytes of an end that no descriptor's completion brings: of the descriptor in progress, if any. -/
def State.dmaTag (s : State) (c : Nat) : Nat := (((s.dmaCh c).desc).map descTag).getD 0

/-! ### Hand-over and pacing -/

/-- R554: DMA_BAD_CFG of the shadow set. -/
def State.dmaShadowBad (s : State) (c : Nat) : Bool :=
  let src := s.fld (shadowOf (Reg.DMA_PACE c)) 1 0
  src == 3 || (src != 0 && Nat.ble (s.fld (shadowOf (Reg.DMA_PACE_LEVEL c)) 31 16) (s.fld (shadowOf (Reg.DMA_PACE_LEVEL c)) 15 0)) ||
    !s.tallyEn (s.fld (shadowOf (Reg.DMA_CFG c)) 3 0)

/-- The hand-over point of a channel (R543, R545). -/
def State.dmaHandover (s : State) (c : Nat) : State :=
  if !s.rbit (Reg.DMA_SHADOW_CTL c) 0 then s
  else
    let s := s.setRbit (Reg.DMA_SHADOW_CTL c) 0 false
    if s.dmaShadowBad c then s.setFld (Reg.DMA_STATUS c) 15 12 1
    else
      let s := s.copyShadow [Reg.DMA_CFG c, Reg.DMA_PACE c, Reg.DMA_PACE_LEVEL c]
      s.setFld (Reg.DMA_SHADOW_CTL c) 15 8 (s.fld (Reg.DMA_SHADOW_CTL c) 15 8 + 1)

/-- The fill level of the pacing source (R542, R597). -/
def State.paceLevel (s : State) (c : Nat) : Nat :=
  let id := s.fld (Reg.DMA_PACE c) 15 8
  if s.fld (Reg.DMA_PACE c) 1 0 == 1 then
    let size := s.regN (Reg.ENC_SRCQ_SIZE id)
    (s.regN (Reg.ENC_SRCQ_TAIL id) + size - s.regN (Reg.ENC_SRCQ_HEAD id)) % size
  else if Nat.blt id 16 then (s.fifo id).level else 0

def State.paceLow (s : State) (c : Nat) : Nat := s.fld (Reg.DMA_PACE_LEVEL c) 15 0
def State.paceHigh (s : State) (c : Nat) : Nat := s.fld (Reg.DMA_PACE_LEVEL c) 31 16
def State.paceDrains (s : State) (c : Nat) : Bool := s.rbit (Reg.DMA_PACE c) 2

/-- R542: whether the channel pauses at a sample, and whether a paused one resumes. -/
def State.pacePauses (s : State) (c : Nat) : Bool :=
  s.fld (Reg.DMA_PACE c) 1 0 != 0 &&
    (if s.paceDrains c then Nat.ble (s.paceLevel c) (s.paceLow c) else Nat.ble (s.paceHigh c) (s.paceLevel c))
def State.paceResumes (s : State) (c : Nat) : Bool :=
  if s.paceDrains c then Nat.ble (s.paceHigh c) (s.paceLevel c) else Nat.ble (s.paceLevel c) (s.paceLow c)

/-! ### Running a chain -/

/-- The fault of a range of device memory for a channel: unbacked or fenced from it, or its block in reset (R538). -/
def State.dmaRange (s : State) (a n : Nat) : Option Nat :=
  if n == 0 then none
  else if !s.reaches a n then some dmaAddrFault
  else if (List.range n).any fun i => s.fencedOff byDma (a + i) then some dmaAddrFault
  else if Nat.ble poolBase a then (if s.inReset 0x018 || s.domainHeld 5 then some dmaAborted else none)
  else if s.domainHeld 4 || (List.range 4).any fun ch => s.dramState ch != 3 &&
      (List.range ((n + 255) / 256 + 1)).any fun i => chanOf (a / 256 * 256 + 256 * i) == ch && Nat.blt (a / 256 * 256 + 256 * i) (a + n)
    then some dmaAborted
  else none

/-- The device address that a source or destination of kind 0 or 2 names, or its fault (R531, R538). -/
def State.dmaPlace (s : State) (kind v n : Nat) : Sum Nat Nat :=
  if kind == 0 then match s.dmaRange v n with
    | some f => .inl f
    | none => .inr v
  else match s.bufOf (v / 2 ^ 32) with
    | none => .inl dmaStale
    | some k =>
      if Nat.blt (s.bufSize k) (v % 2 ^ 32 + n) then .inl dmaAddrFault
      else match s.dmaRange (s.bufAddr k + v % 2 ^ 32) n with
        | some f => .inl f
        | none => .inr (s.bufAddr k + v % 2 ^ 32)

/-- `n` bytes of a 32-bit pattern, byte 0 first. -/
def fillBytes (p n : Nat) : List Byte := (List.range n).map fun i => BitVec.ofNat 8 (p / 2 ^ (8 * (i % 4)))

/-- A stale handle is counted in the page of the channel (R538). -/
def State.dmaFault (s : State) (c code tag : Nat) : State :=
  (s.doIf (code == dmaStale) fun s => s.bump (Reg.DMA_STALE_GEN_DROPS (c / 16)) 1).dmaEnd c code tag 0

/-- The descriptor at NEXT is fetched (R539 step 2, R537, R538). -/
def State.dmaTakeDesc (s : State) (c : Nat) : State :=
  let x := s.dmaCh c
  if x.nextHost && !s.busOk then s.setDmaState c 5
  else if x.next % 32 != 0 then s.dmaEnd c dmaDescBad 0 0
  else
    let bad := if x.nextHost then none else s.dmaRange x.next 32
    match bad with
    | some f => s.dmaEnd c f 0 0
    | none =>
      let d := if x.nextHost then s.hostBytes x.next 32 else s.memBytes x.next 32
      if descBad d then s.dmaEnd c dmaDescBad (descTag d) 0
      else
        let s := s.modDma c fun y => { y with desc := some d, next := if descLast d then y.next else descNext d,
                                              nextHost := if descLast d then y.nextHost else descFlag d 3 }
        (s.showNext c).setDmaState c (if s.dmaStopping c then 3 else 1)

/-- The held job of R535: one is issued where the channel holds none; while none can issue, the channel waits in STATE 4.
A stop that waited for the job ends the chain (R540). -/
def State.dmaIssue (s : State) (c : Nat) : State :=
  if (s.dmaCh c).job.isSome then s
  else if !s.canIssue (s.dmaRing c) 1 then s.setDmaState c 4
  else match s.issueTally (s.dmaRing c) with
    | (s, k) =>
      let s := (s.modDma c fun x => { x with job := some (s.dmaRing c, k) }).setDmaState c 1
      s.doIf (s.dmaStopping c) fun s => s.dmaEnd c dmaStopped 0 0

/-- DMA_DESC_FETCH (R535, R539 step 2): the held job, pacing, hand-over, fetch. -/
def State.dmaFetch (s : State) (c : Nat) : State :=
  if !s.dmaUp || !s.dmaOn c || (s.dmaCh c).desc.isSome || s.dmaState c == 2 then s
  else
    let s := s.dmaIssue c
    if !s.dmaOn c || (s.dmaCh c).job.isNone then s
    else if s.pacePauses c then s.setDmaState c 2
    else (s.dmaHandover c).dmaTakeDesc c

def execDmaDescFetch (c : Fin 32) (s : State) : Host.Outcome State Fault Refusal :=
  .next <| s.ifLive 0x020 fun s => s.dmaFetch c.val

/-- DMA_ENABLE (R539 step 1): hand-over, the check of code 9, the held job, the first descriptor. -/
def State.dmaEnable (s : State) (c : Nat) : State :=
  if !s.dmaUp || s.dmaOn c then s
  else
    let start := s.reg64 (Reg.DMA_START_LO c)
    let s := (s.setRbit (Reg.DMA_CTRL c) 0 true).setRbit (Reg.DMA_CTRL c) 1 false
    let s := s.dmaHandover c
    if !s.tallyEn (s.dmaRing c) then
      (s.setRbit (Reg.DMA_CTRL c) 0 false).setFld (Reg.DMA_STATUS c) 11 8 dmaBadCfg
    else
      let s := s.setDma c { DmaCh.init with next := start / 32 * 32, nextHost := start % 2 == 1 }
      let s := (((s.showNext c).setRegN (Reg.DMA_BYTES c) 0).setRegN (Reg.DMA_DESCS c) 0).setDmaState c 1
      s.dmaFetch c

def execDmaEnable (c : Fin 32) (s : State) : Host.Outcome State Fault Refusal :=
  .next <| s.ifLive 0x020 fun s => s.dmaEnable c.val

/-- HOP_LIMIT of the channel (R536, R552). -/
def State.hopLimit (s : State) (c : Nat) : Nat :=
  if s.fld (Reg.DMA_CFG c) 31 16 == 0 then 4096 else s.fld (Reg.DMA_CFG c) 31 16

/-- A descriptor is done (R534 to R536, R538, R540). -/
def State.dmaDone (s : State) (c : Nat) (d : List Byte) : State :=
  let s := (s.wrapAdd (Reg.DMA_BYTES c) (descLen d)).wrapAdd (Reg.DMA_DESCS c) 1
  let s := s.setFld (Reg.DMA_STATUS c) 31 16 (descTag d)
  let hops := (s.dmaCh c).hops + 1
  if descLast d then s.dmaEnd c dmaOk (descTag d) (descLen d)
  else if s.dmaStopping c then s.dmaEnd c dmaStopped (descTag d) (descLen d)
  else if descComplete d then
    ((s.dmaUseJob c dmaOk (descTag d) (descLen d)).modDma c fun x => { x with desc := none, hops := 0 }).dmaIssue c
  else if Nat.ble (s.hopLimit c) hops then s.dmaEnd c dmaLoop (descTag d) (descLen d)
  else s.modDma c fun x => { x with desc := none, hops := hops }

/-- DMA_DESC_MOVE_DONE (R533): the data of the descriptor in progress has moved, and it completes. -/
def State.dmaMove (s : State) (c : Nat) : State :=
  match (s.dmaCh c).desc with
  | none => s
  | some d =>
    let n := descLen d
    let tag := descTag d
    if !s.dmaUp || !s.dmaOn c then s
    else if n == 0 then s.dmaDone c d
    else if (descSrcKind d == 1 || descDstKind d == 1) && !s.busOk then s.setDmaState c 5
    else
      let from_ : Sum Nat Nat := if descSrcKind d == 0 || descSrcKind d == 2 then s.dmaPlace (descSrcKind d) (descSrc d) n else .inr (descSrc d)
      let to_ : Sum Nat Nat := if descDstKind d == 1 then .inr (descDst d) else s.dmaPlace (descDstKind d) (descDst d) n
      match from_, to_ with
      | .inl f, _ => s.dmaFault c f tag
      | _, .inl f =>
        let s := match (List.range n).find? fun i => descDstKind d == 0 && s.fencedOff byDma (descDst d + i) with
          | some i => s.fenceViolation (descDst d + i) byDma
          | none => s
        s.dmaFault c f tag
      | .inr a, .inr b =>
        let got : State × List Byte := if descSrcKind d == 1 then (s, s.hostBytes a n)
          else if descSrcKind d == 3 then (s, fillBytes (a % 2 ^ 32) n) else s.rangeRead a n
        match got with
        | (s, bs) => (if descDstKind d == 1 then s.hostWrite b bs else s.rangeWrite byDma b bs).dmaDone c d

def execDmaDescMoveDone (c : Fin 32) (s : State) : Host.Outcome State Fault Refusal :=
  .next <| s.ifLive 0x020 fun s => s.dmaMove c.val

/-- DMA_STOP (R540): the descriptor in progress finishes; a channel between descriptors or paused stops at once, one
that waits to issue its job when it has issued it. -/
def State.dmaStop (s : State) (c : Nat) : State :=
  if !s.dmaUp || !s.dmaOn c then s
  else if (s.dmaCh c).desc.isSome then (s.setRbit (Reg.DMA_CTRL c) 1 true).setDmaState c 3
  else if (s.dmaCh c).job.isSome then s.dmaEnd c dmaStopped 0 0
  else s.setRbit (Reg.DMA_CTRL c) 1 true

def execDmaStop (c : Fin 32) (s : State) : Host.Outcome State Fault Refusal :=
  .next <| s.ifLive 0x020 fun s => s.dmaStop c.val

/-- DMA_BYTES and DMA_DESCS are undefined after a halt (R541). -/
def State.dmaUndefined (s : State) (c : Nat) : State :=
  match s.takeFree with
  | (v, s) => match s.takeFree with
    | (w, s) => (s.setReg (Reg.DMA_BYTES c) v).setReg (Reg.DMA_DESCS c) w

/-- DMA_HALT (R541). -/
def State.dmaHalt (s : State) (c : Nat) : State :=
  if !s.dmaUp || !s.dmaOn c then s else (s.dmaUndefined c).dmaEnd c dmaHalted (s.dmaTag c) 0

def execDmaHalt (c : Fin 32) (s : State) : Host.Outcome State Fault Refusal :=
  .next <| s.ifLive 0x020 fun s => s.dmaHalt c.val

/-- DMA_PACE_RESUME (R542): a paused channel whose level has crossed its threshold goes on. -/
def State.dmaResume (s : State) (c : Nat) : State :=
  if s.dmaState c == 2 && s.paceResumes c then (s.setDmaState c 1).dmaFetch c else s

def execDmaPaceResume (c : Fin 32) (s : State) : Host.Outcome State Fault Refusal :=
  .next <| s.ifLive 0x020 fun s => s.dmaResume c.val

/-- TARGET_TIMEOUT (R537): a request of the channel is not answered in time, or with an error. -/
def execTargetTimeout (c : Fin 32) (s : State) : Host.Outcome State Fault Refusal :=
  .next (s.doIf (s.dmaUp && s.dmaOn c.val && (s.dmaState c.val == 1 || s.dmaState c.val == 3)) fun s =>
    s.dmaFault c.val dmaTimeout (s.dmaTag c.val))

/-! ### Bus Master Enable -/

/-- BUS_MASTER_RESUME (R513): Bus Master Enable is set and the function is in D0; what waits for the host proceeds:
entries, count words, channels. -/
def State.busResume (s : State) : State :=
  if !s.busOk || !s.hostqUp then s
  else
    let w := s.host.waiting
    let s := { s with host := { s.host with waiting := [] } }
    let s := s.forEach w fun e s => s.landEntry e.1 e.2.1 e.2.2
    let s := s.forEach ((List.range 16).filter fun q => (s.hostQ q).countDue) fun q s => s.countWrite q
    s.forEach ((List.range 32).filter fun c => s.dmaState c == 5) fun c s =>
      if (s.dmaCh c).desc.isSome then s.setDmaState c (if s.dmaStopping c then 3 else 1) else s.dmaTakeDesc c

/-- The present values of Bus Master Enable and the power state, as HOSTQ_PCIE_STATUS shows them, then the resume. -/
def execBusMasterResume (s : State) : Host.Outcome State Fault Refusal := .next s.showPcie.busResume

/-! ### Enabling and disabling a queue (R550, R551) -/

/-- CMD_DISABLE: fetching stops; what is fetched completes and is reported. -/
def State.cmdDisable (s : State) (q : Nat) : State := s.setRbit (Reg.HOSTQ_CTRL q) 1 false

def execCmdDisable (q : Fin 16) (s : State) : Host.Outcome State Fault Refusal :=
  .next (s.doIf s.hostqUp fun s => s.cmdDisable q.val)

/-- CMD_ENABLE: HEAD and the doorbell are 0; no effect unless TALLY_EN is 1. -/
def State.cmdEnable (s : State) (q : Nat) : State :=
  if !s.tallyEn q || s.rbit (Reg.HOSTQ_CTRL q) 1 then s
  else ((s.setRbit (Reg.HOSTQ_CTRL q) 1 true).setRegN (Reg.HOSTQ_HEAD q) 0).setRegN (Reg.HOSTQ_DOORBELL q) 0

def execCmdEnable (q : Fin 16) (s : State) : Host.Outcome State Fault Refusal :=
  .next (s.doIf s.hostqUp fun s => s.cmdEnable q.val)

/-- TALLY_ENABLE: the sequence restarts at 0 and the acknowledged count is 0. -/
def State.tallyEnable (s : State) (q : Nat) : State :=
  if s.tallyEn q then s
  else
    let s := (s.setRbit (Reg.HOSTQ_CTRL q) 0 true).setRegN (Reg.HOSTQ_TALLY_ACK q) 0
    let s := (s.setRegN (Reg.HOSTQ_ISSUED q) 0).setReg64 (Reg.HOSTQ_TALLY_COUNT_LO q) 0
    s.setHostQ q { HostQ.init with fetched := (s.hostQ q).fetched }

def execTallyEnable (q : Fin 16) (s : State) : Host.Outcome State Fault Refusal :=
  .next (s.doIf s.hostqUp fun s => s.tallyEnable q.val)

/-- TALLY_DISABLE: CMD_EN clears, every job issued on the ring is discarded without an entry, and channels that hold one
end as if by a halt, without an entry. -/
def State.tallyDisable (s : State) (q : Nat) : State :=
  let s := (s.cmdDisable q).setRbit (Reg.HOSTQ_CTRL q) 0 false
  let s := { s with host := { s.host with jobs := s.host.jobs.filter fun j => j.queue != q,
                                          waiting := s.host.waiting.filter fun e => e.1 != q } }
  s.forEach ((List.range 32).filter fun c => ((s.dmaCh c).job.map (·.1)) == some q) fun c s =>
    ((s.modDma c fun x => { x with job := none }).dmaUndefined c).dmaEnd c dmaHalted 0 0

def execTallyDisable (q : Fin 16) (s : State) : Host.Outcome State Fault Refusal :=
  .next (s.doIf (s.hostqUp && s.tallyEn q.val) fun s => s.tallyDisable q.val)

/-- R514: the HOSTQ and DMA pages are in reset; nothing issued before is written. -/
def State.hostReset (s : State) : State := { s with host := HostCtl.init, dma := [] }

end Sys2Proof.Machine
end

