-- ==== Sys2Proof/Machine/Ingress.lean ====
section
/-! DEFINITION. Received frames (R456 to R458, R460, R466, R467, R476), the policer (R494 to R497) and the latency
histograms (R498 to R500). -/

namespace Sys2Proof.Machine

/-! ### The parts of a frame -/

/-- Where the payload of a frame begins and its EtherType, past an 802.1Q tag. -/
def frameTag (b : List Byte) : Option Nat := if beAt b 12 2 == 0x8100 then some (beAt b 14 2 % 4096) else none
def frameBody (b : List Byte) : Nat := if beAt b 12 2 == 0x8100 then 18 else 14
def frameType (b : List Byte) : Nat := beAt b (frameBody b - 2) 2

/-- What R456 finds in an IP header. -/
inductive IpFail where
  | bad | fragment
  deriving DecidableEq, Repr

/-- An IP packet read under R456: protocol, addresses, offset of what follows its headers, whether it has a Hop-by-Hop
header, its DSCP. -/
structure IpHead where
  v6 : Bool
  proto : Nat
  src : Nat
  dst : Nat
  body : Nat
  total : Nat
  hop : Bool
  dscp : Nat
  deriving DecidableEq, Repr

def readIpv4 (b : List Byte) (o : Nat) : Sum IpFail IpHead :=
  let ihl := beAt b o 1 % 16 * 4
  let total := beAt b (o + 2) 2
  if beAt b o 1 / 16 != 4 || Nat.blt ihl 20 || Nat.blt total ihl || Nat.blt (b.length) (o + total) ||
      onesSum (sliceB b o ihl) != 65535 then .inl .bad
  else if beAt b (o + 6) 2 % 16384 / 8192 == 1 || beAt b (o + 6) 2 % 8192 != 0 then .inl .fragment
  else .inr { v6 := false, proto := beAt b (o + 9) 1, src := v4Mapped (beAt b (o + 12) 4), dst := v4Mapped (beAt b (o + 16) 4),
              body := o + ihl, total := total - ihl, hop := false, dscp := beAt b (o + 1) 1 / 4 }

/-- The next headers of IPv6 that are extension headers other than Hop-by-Hop. -/
def ip6Extension (n : Nat) : Bool := [43, 50, 51, 60, 135, 139, 140].elem n

def readIpv6 (b : List Byte) (o : Nat) : Sum IpFail IpHead :=
  let plen := beAt b (o + 4) 2
  let nh := beAt b (o + 6) 1
  let hop := nh == 0
  let nh' := if hop then beAt b (o + 40) 1 else nh
  let skip := if hop then 8 + 8 * beAt b (o + 41) 1 else 0
  if beAt b o 1 / 16 != 6 || Nat.blt b.length (o + 40 + plen) || Nat.blt plen skip then .inl .bad
  else if nh' == 44 then .inl .fragment
  else if ip6Extension nh' || (hop && nh' == 0) then .inl .bad
  else .inr { v6 := true, proto := nh', src := beAt b (o + 8) 16, dst := beAt b (o + 24) 16, body := o + 40 + skip,
              total := plen - skip, hop := hop, dscp := beAt b o 2 / 64 % 64 }

/-- R456: the UDP checksum of a packet is right. -/
def udpSumOk (b : List Byte) (h : IpHead) : Bool :=
  let c := beAt b (h.body + 6) 2
  let n := beAt b (h.body + 4) 2
  let d := sliceB b h.body n
  if !h.v6 && c == 0 then true
  else if h.v6 && c == 0 then false
  else if h.v6 then onesSum (beBytes 16 h.src ++ beBytes 16 h.dst ++ beBytes 4 n ++ beBytes 4 17 ++ d) == 65535
  else onesSum (beBytes 4 (h.src % 2 ^ 32) ++ beBytes 4 (h.dst % 2 ^ 32) ++ [0, 17] ++ beBytes 2 n ++ d) == 65535

/-! ### Addresses of a port -/

def State.portMac (s : State) (p : Nat) : Nat := s.fld (Reg.NET_MAC_HI p) 15 0 * 2 ^ 32 + s.regN (Reg.NET_MAC_LO p)
def State.svcMac (s : State) (p : Nat) : Nat := s.fld (Reg.PAIR_SVC_MAC_HI p) 15 0 * 2 ^ 32 + s.regN (Reg.PAIR_SVC_MAC_LO p)

/-- R457 rows 8 and 9: one of the port's own addresses, the service addresses while they are held (R749). -/
def State.ownAddress (s : State) (p a : Nat) : Bool :=
  (a != v4Mapped 0 && a == v4Mapped (s.regN (Reg.NET_IPV4 p))) ||
    (a != 0 && (a == s.addr4 (Reg.NET_IPV6_LL p 0) || a == s.addr4 (Reg.NET_IPV6_GL p 0))) ||
    (s.svcOn && (a == v4Mapped (s.regN (Reg.PAIR_SVC_IPV4 p)) || a == s.addr4 (Reg.PAIR_SVC_IPV6 p 0)))

/-- R457 row 3: the destination MAC and the tag are accepted. -/
def State.macOk (s : State) (p : Nat) (b : List Byte) : Bool :=
  let d := beAt b 0 6
  (d / 2 ^ 40 % 2 == 1 || d == s.portMac p || (s.svcOn && d == s.svcMac p)) &&
    match frameTag b with
    | none => true
    | some v => s.rbit (Reg.NET_CTRL p) 2 && v == s.fld (Reg.NET_CTRL p) 15 4

/-! ### Flows on ingress -/

/-- R466: the flows a UDP packet matches. -/
def State.matchingFlows (s : State) (p : Nat) (h : IpHead) (sport dport : Nat) : List (Nat × Flow) :=
  s.flows.filter fun q => let x := q.2
    x.valid && !x.egress && nbit x.portMask p && x.dst == h.dst && x.dstPort == dport &&
      (x.srcPort == 0 || x.srcPort == sport) && (!x.matchSrc || x.src == h.src)

/-- R466: the flow that takes a packet: MATCH_SRC first, then SRC_PORT non-zero, then the lower id. -/
def State.matchFlow (s : State) (p : Nat) (h : IpHead) (sport dport : Nat) : Option Nat :=
  (minBy? (fun q : Nat × Flow => (if q.2.matchSrc then 0 else 512) + (if q.2.srcPort != 0 then 0 else 256) + q.1)
    (s.matchingFlows p h sport dport)).map (·.1)

/-! ### Policer -/

def State.policer (s : State) (f : Nat) : Policer := Sparse.get (fun _ => Policer.init) s.policers f

/-- A policer replaced; the window shows it when POL_SEL names its flow (R506). -/
def State.showPolicer (s : State) : State :=
  let x := s.policer (s.fld Reg.POL_SEL 7 0)
  let s := ((s.setRegN Reg.POL_CIR x.cir).setRegN Reg.POL_CBS x.cbs).setRegN Reg.POL_PIR x.pir
  let s := (s.setRegN Reg.POL_PBS x.pbs).setRegN Reg.POL_MODE x.mode
  ((s.setRegN Reg.POL_GREEN x.green).setRegN Reg.POL_YELLOW x.yellow).setRegN Reg.POL_RED x.red

def State.setPolicer (s : State) (f : Nat) (x : Policer) : State :=
  ({ s with policers := Sparse.set (fun _ => Policer.init) s.policers f x }).showPolicer

/-- The buckets refilled to a time (R494). -/
def Policer.refill (x : Policer) (t : Nat) : Policer :=
  let d := t - x.at_
  { x with cLevel := min (x.cbs * 8000000) (x.cLevel + x.cir * d), pLevel := min (x.pbs * 8000000) (x.pLevel + x.pir * d),
           at_ := max t x.at_ }

/-- RFC 2698 on a frame of `n` bytes that enters with a colour (R494): 0 green, 1 yellow, 2 red. -/
def Policer.meter (x : Policer) (colour n : Nat) : Nat × Policer :=
  let b := n * 8000000
  if colour == 2 || Nat.blt x.pLevel b then (2, x)
  else if colour == 1 || Nat.blt x.cLevel b then (1, { x with pLevel := x.pLevel - b })
  else (0, { x with pLevel := x.pLevel - b, cLevel := x.cLevel - b })

/-- The colour a frame enters with (R494, R506). -/
def State.entryColour (s : State) (x : Policer) (dscp : Nat) : Nat :=
  if nbit x.mode 1 then
    let v := nbits (s.regN (Reg.POL_DSCP_MAP (dscp / 16))) (2 * (dscp % 16) + 1) (2 * (dscp % 16))
    if v == 3 then 0 else v
  else 0

/-- R494, R495: a frame of a flow metered, coloured and counted; whether it is delivered. -/
def State.police (s : State) (f len dscp t : Nat) : State × Bool :=
  let x := s.policer f
  if !nbit x.mode 0 then (s.setPolicer f { x with green := min (x.green + 1) 0xFFFFFFFF }, true)
  else match (x.refill t).meter (s.entryColour x dscp) len with
    | (0, y) => (s.setPolicer f { y with green := min (y.green + 1) 0xFFFFFFFF }, true)
    | (1, y) => (s.setPolicer f { y with yellow := min (y.yellow + 1) 0xFFFFFFFF }, !nbit y.mode 2)
    | (_, y) => (s.setPolicer f { y with red := min (y.red + 1) 0xFFFFFFFF }, false)

/-- POLICER_WRITE (R497): a write of POL_CIR (0), POL_CBS (1), POL_PIR (2), POL_PBS (3) or POL_MODE (4) of the selected
flow; both buckets full; without effect when PIR would be less than CIR or a size less than 64 bytes. -/
def State.policerWrite (s : State) (which : Nat) (v : Word) : State :=
  let f := s.fld Reg.POL_SEL 7 0
  let x := s.policer f
  let y := match which with
    | 0 => { x with cir := bits v 24 0 }
    | 1 => { x with cbs := bits v 23 0 }
    | 2 => { x with pir := bits v 24 0 }
    | 3 => { x with pbs := bits v 23 0 }
    | _ => { x with mode := bits v 2 0 }
  if Nat.blt y.pir y.cir || Nat.blt y.cbs 64 || Nat.blt y.pbs 64 then s
  else s.setPolicer f { y with cLevel := y.cbs * 8000000, pLevel := y.pbs * 8000000 }

def execPolicerWrite (which : Fin 5) (v : Word) (s : State) : Host.Outcome State Fault Refusal :=
  .next <| if s.domainHeld 7 then s else s.policerWrite which.val v

/-! ### The control path -/

def State.smrxSize (s : State) : Nat := s.fld Reg.PKT_SMRX_SIZE 12 0

/-- CONTROL_RX_POST (R460): a frame posted on the receive ring, or dropped when the ring is full or the prop room has no
buffer for it. -/
def State.controlPost (s : State) (p : Nat) (b : List Byte) (t : Nat) : State :=
  let h := s.fld Reg.PKT_SMRX_HEAD 11 0
  let next := (h + 1) % s.smrxSize
  if next == s.fld Reg.PKT_SMRX_TAIL 11 0 % s.smrxSize then s.bump Reg.PKT_SMRX_DROPS 1
  else match s.poolAsk 25 b.length with
    | (s, 0, hd) =>
      let s := s.hwWrite (s.bufAddr (hd % 2 ^ 24)) b
      let d := leBytes 4 hd ++ leBytes 2 b.length ++ [BitVec.ofNat 8 p, 1] ++ leBytes 8 t
      ((s.pmWrite (s.fld Reg.PKT_SMRX_BASE 22 4 * 16 + 16 * h) d).setRegN Reg.PKT_SMRX_HEAD next).blockCue 440 false
    | (s, _, _) => s.bump Reg.PKT_SMRX_DROPS 1

/-- R461: what the firmware answers to a control frame: an ARP request or Neighbor Solicitation for an own address, an
echo request, a membership query. -/
def State.firmwareAnswer (s : State) (p : Nat) (b : List Byte) (h : Option IpHead) : State :=
  let o := frameBody b
  match h with
  | none =>
    let a := v4Mapped (beAt b (o + 24) 4)
    s.doIf (frameType b == 0x0806 && beAt b (o + 6) 2 == 1 && s.ownAddress p a) fun s => s.emit (.netAnswer p 0 a 0)
  | some h =>
    let ty := beAt b h.body 1
    let groups := (s.flows.filter fun q => q.2.valid && q.2.memberPorts.elem p && q.2.ipv6 == h.v6).map (·.2)
    if h.v6 then
      let tgt := beAt b (h.body + 8) 16
      if h.proto == 58 && ty == 135 && s.ownAddress p tgt then s.emit (.netAnswer p 1 tgt 0)
      else if h.proto == 58 && ty == 128 && s.ownAddress p h.dst then s.emit (.netAnswer p 2 h.src 0)
      else if h.proto == 58 && ty == 130 then s.forEach groups fun g s => s.emit (.netAnswer p 3 g.dst g.include)
      else s
    else if h.proto == 1 && ty == 8 && s.ownAddress p h.dst then s.emit (.netAnswer p 2 h.src 0)
    else if h.proto == 2 && ty == 0x11 then s.forEach groups fun g s => s.emit (.netAnswer p 3 g.dst g.include)
    else s

/-- A frame given to the control path: accepted, the timestamp of a PTP message extended (R473), its
corrections made (R476), posted, answered. -/
def State.toControl (s : State) (p : Nat) (b : List Byte) (h : Option IpHead) (t : Nat) : State :=
  let b' := match ptpAt b with
    | some (o, _) =>
      let typ := beAt b o 1 % 16
      if typ == 0 || typ == 3 then addCorrection b o (s.asym p) else b
    | none => b
  let s := match ptpMessage [319, 320] b with
    | some (o, _) => s.emit (.ptpTime p (beAt b o 1 % 16) (s.wireSeconds (beAt b (o + 34) 6)) (beAt b (o + 40) 4))
    | none => s
  ((s.bump (Reg.NET_RX_FRAMES p) 1).controlPost p b' t).firmwareAnswer p b h

/-! ### Reception -/

/-- R457 row 7: a packet of an ingress flow: policed, and delivered to its context or counted stale (R467). -/
def State.toFlow (s : State) (f len dscp t : Nat) : State :=
  match s.police f len dscp t with
  | (s, false) => s
  | (s, true) => s.doIf (!s.flowServes f (s.flow f).ctx) fun s => s.bump Reg.PKT_STALE_GEN_DROPS 1

/-- The IP header of a frame of a type. -/
def readIp (et : Nat) (b : List Byte) (o : Nat) : Sum IpFail IpHead := if et == 0x0800 then readIpv4 b o else readIpv6 b o

/-- The arrival token of a frame: the reading less NET_RX_LATENCY (R458). -/
def State.arrival (s : State) (p : Nat) (fr : RxFrame) : Nat := (fr.reading * 1000 - s.regN (Reg.NET_RX_LATENCY p)) / 1000

/-- The FEC codewords of a port with FEC_EN counted (R502). -/
def State.countFec (s : State) (p : Nat) (fr : RxFrame) : State :=
  s.doIf (s.rbit (Reg.NET_CTRL p) 1) fun s => (s.bump (Reg.NET_FEC_CORRECTED p) fr.corrected).bump (Reg.NET_FEC_UNCORR p) fr.uncorrectable

/-- NET_FRAME_RX (R457, R458) on a port that is up: a received frame handled by the first row that applies. -/
def State.frameIn (s : State) (p : Nat) (fr : RxFrame) : State :=
  let b := fr.bytes
  let len := b.length + 4
  let at_ := s.arrival p fr
  if fr.bad || (s.rbit (Reg.NET_CTRL p) 1 && fr.uncorrectable != 0) || Nat.blt len 64 || Nat.blt (s.fld (Reg.NET_MTU p) 13 0) len then
    s.bump (Reg.NET_RX_ERRORS p) 1
  else if frameType b == 0x8808 then s.bump (Reg.NET_RX_PAUSE p) 1
  else if !s.macOk p b then s.bump (Reg.NET_RX_NOMATCH p) 1
  else
    let et := frameType b
    let o := frameBody b
    if et == 0x88F7 || et == 0x0806 then s.toControl p b none at_
    else if et != 0x0800 && et != 0x86DD then s.bump (Reg.NET_RX_NOMATCH p) 1
    else match readIp et b o with
      | .inl .fragment => s.bump (Reg.NET_RX_FRAG p) 1
      | .inl .bad => s.bump (Reg.NET_RX_BAD_IP p) 1
      | .inr h =>
        let udp := h.proto == 17
        let sport := beAt b h.body 2
        let dport := beAt b (h.body + 2) 2
        let flow := if udp then s.matchFlow p h sport dport else none
        let session := udp && dport == s.fld Reg.PKT_CTRL 15 0 && s.ownAddress p h.dst
        let event := udp && (dport == 319 || dport == 320)
        let known (s : State) : State := s.learnMac p h.src (beAt b 6 6)
        if event then (known s).toControl p b (some h) at_
        else if h.hop && (flow.isSome || session) then s.bump (Reg.NET_RX_BAD_IP p) 1
        else if (flow.isSome || session) && !udpSumOk b h then s.bump (Reg.NET_RX_BAD_IP p) 1
        else match flow with
          | some f => ((known s).bump (Reg.NET_RX_FRAMES p) 1).toFlow f len h.dscp at_
          | none =>
            if session then (known s).bump (Reg.NET_RX_FRAMES p) 1
            else if (!h.v6 && (h.proto == 1 || h.proto == 2)) || (h.v6 && h.proto == 58) || s.ownAddress p h.dst then
              (known s).toControl p b (some h) at_
            else s.bump (Reg.NET_RX_NOMATCH p) 1

/-- A received frame on a port, which takes frames in STATE 2. -/
def State.frameRx (s : State) (p : Nat) (fr : RxFrame) : State := if s.portState p != 2 then s else (s.countFec p fr).frameIn p fr

/-- NET_FRAME_RX (R457 to R462, R496): the frames that arrive on the ports, in the order of their arrival tokens, equal tokens by
ascending port number. -/
def execNetFrameRx (fs : List PortFrame) (s : State) : Host.Outcome State Fault Refusal :=
  .next <| s.forEach (sortBy (fun f => 4 * s.arrival f.port.val f.frame + f.port.val) fs) fun f s =>
    s.ifLive (0x030 + f.port.val) fun s => s.frameRx f.port.val f.frame

/-! ### Latency histograms -/

/-- The bin of a value for a base exponent (R498). -/
def latBin (e v : Nat) : Nat :=
  if Nat.blt v (2 ^ e) then 0
  else ((List.range 14).find? fun k => Nat.blt v (2 ^ (e + k + 1))).elim 15 (· + 1)

/-- One more in a bin. -/
def addBin (l : List Nat) (k : Nat) : List Nat :=
  (List.range 16).map fun i => min (l.getD i 0 + (if i == k then 1 else 0)) 0xFFFFFFFF

/-- LAT_SAMPLE (R498): two samples from every enabled queue. -/
def State.latSample (s : State) : State :=
  if !s.rbit Reg.LAT_CTRL 0 then s
  else s.forEach ((List.range 256).filter fun q => cfgEn (s.qCfg q)) fun q s =>
    let s := s.settleQueue q
    let x := s.queue q
    let delay := match x.frames with
      | [] => 0
      | f :: _ => s.now - f.at_
    s.setQueue q { x with
      depthBins := addBin x.depthBins (latBin (s.fld Reg.LAT_CTRL 12 8) x.depth),
      delayBins := addBin x.delayBins (latBin (s.fld Reg.LAT_CTRL 20 16) delay),
      samples := min (x.samples + 1) 0xFFFFFFFF, maxDelay := max x.maxDelay (min delay 0xFFFFFFFF) }

def execLatSample (s : State) : Host.Outcome State Fault Refusal :=
  .next <| s.ifLive 0x038 fun s => s.latSample

/-- LAT_SNAPSHOT (R499): a write of LAT_SEL. -/
def State.latSnapshot (s : State) (v : Word) : State :=
  let q := bits v 7 0
  let x := s.queue q
  let s := (s.setRegN Reg.LAT_STAT (1 + 256 * q)).setRegN Reg.LAT_SAMPLES x.samples
  let s := ((s.setRegN Reg.LAT_MAX_DELAY x.maxDelay).setRegN Reg.LAT_TX_FRAMES x.sent).setRegN Reg.LAT_DROPS x.drops
  let s := s.forEach (List.range 16) fun i s =>
    (s.setRegN (Reg.LAT_DEPTH_BIN i) (x.depthBins.getD i 0)).setRegN (Reg.LAT_DELAY_BIN i) (x.delayBins.getD i 0)
  s.doIf (bit v 8) fun s => s.setQueue q { s.queue q with
    drops := 0, sent := 0, depthBins := [], delayBins := [], samples := 0, maxDelay := 0 }

def execLatSnapshot (v : Word) (s : State) : Host.Outcome State Fault Refusal :=
  .next <| s.ifLive 0x038 fun s => s.latSnapshot v

/-- LAT_CTRL_WRITE (R500). -/
def State.latCtrlWrite (s : State) (v : Word) : State :=
  let change := bits v 12 8 != s.fld Reg.LAT_CTRL 12 8 || bits v 20 16 != s.fld Reg.LAT_CTRL 20 16
  let s := s.setReg Reg.LAT_CTRL (v &&& 0x1F1F01)
  s.doIf change fun s => s.forEach s.queueIds fun q s =>
    s.setQueue q { s.queue q with depthBins := [], delayBins := [] }

def execLatCtrlWrite (v : Word) (s : State) : Host.Outcome State Fault Refusal :=
  .next <| s.ifWritten 0x038 (Reg.LAT_CTRL) v fun s => s.latCtrlWrite v

end Sys2Proof.Machine
end

