-- ==== Sys2Proof/Machine/Records.lean ====
section
/-! DEFINITION. What the fault collector keeps of a message: its words (R684), the adjustment of its severity (R696,
R697), the call board and the two records (R699 to R702). -/

namespace Sys2Proof.Machine

/-- Bytes 2 of a message: severity applied, CONSEQUENTIAL, ESCALATED, FORCED (R684). -/
def FaultMsg.flags (m : FaultMsg) : Nat :=
  m.severity % 4 + 4 * b2n m.consequential + 8 * b2n m.escalated + 16 * b2n m.forced

/-- SOURCE_KIND of R684. -/
def FaultMsg.word (m : FaultMsg) : Nat := m.source % 1024 + 1024 * (m.kind % 64)

/-- The eight words of a message with its collector sequence number (R684). -/
def FaultMsg.words (m : FaultMsg) (seq : Nat) : List Nat :=
  [m.word + 65536 * m.flags, seq, m.time, m.time / 2 ^ 32, m.addr, m.addr / 2 ^ 32 % 256, 0, 0]

/-- The block whose Contain reactions R697 counts for a source: its page, or the Stage Manager core itself. -/
def containKey (src : Nat) : Nat := (sourceBlock src).getD (0x1000 + src)

/-- R696: whether a curtain window of another block was open when the message was raised. -/
def State.otherWindow (s : State) (m : FaultMsg) : Bool :=
  s.fc.windows.any fun w => some w.1 != sourceBlock m.source && (match w.2 with
    | none => true
    | some t => Nat.blt m.time t)

/-- R696: the cap of a message that follows from a curtain window elsewhere. -/
def State.capMsg (s : State) (m : FaultMsg) : State × FaultMsg :=
  if (m.kind == FaultKind.REQ_ABORTED || m.kind == FaultKind.PEER_UNAVAILABLE) && s.otherWindow m then
    (s.bump Reg.FAULT_CONSEQUENTIAL 1, { m with severity := min m.severity 1, consequential := true })
  else (s, m)

/-- R697: whether a Contain reaction on the block now is escalated. -/
def State.escalates (s : State) (src : Nat) : Bool :=
  match Sparse.get (fun _ => none) s.fc.containStart (containKey src) with
  | some t => Nat.blt s.now (t + 1000000000)
  | none => false

/-- R697: a Contain reaction that falls due within 1 s of the one before on its block takes severity Stop. -/
def State.escalateMsg (s : State) (m : FaultMsg) : State × FaultMsg :=
  if m.severity == 2 && s.escalates m.source then
    (s.bump Reg.FAULT_ESCALATIONS 1, { m with severity := 3, escalated := true })
  else (s, m)

/-- The severity of a message as applied (R689, R696, R697). -/
def State.adjustMsg (s : State) (m : FaultMsg) : State × FaultMsg :=
  match s.capMsg m with
  | (s, m) => s.escalateMsg m

/-- Eight words written in eight registers in order. -/
def State.setWords (s : State) (k : Nat → Nat) (ws : List Nat) : State :=
  s.forEach (List.range 8) fun i s => s.setRegN (k i) (ws.getD i 0)

/-- The first-fault and Stop records (R700, R701). -/
def State.keepRecords (s : State) (m : FaultMsg) (seq : Nat) : State :=
  let ws := m.words seq
  let s := s.doIf (Nat.ble (s.fld Reg.FAULT_FIRST_CFG 1 0) m.severity && !s.rbit Reg.FAULT_STATUS 4) fun s =>
    (s.setWords Reg.FAULT_FIRST ws).setRbit Reg.FAULT_STATUS 4 true
  s.doIf (m.severity == 3) fun s => (s.setWords Reg.FAULT_STOP ws).setRbit Reg.FAULT_STATUS 5 true

/-- A message taken with the next collector sequence number: the call board, the records, the kind counter (R686, R699
to R702). -/
def State.recordMsg (s : State) (m : FaultMsg) : State :=
  let seq := s.regN Reg.FAULT_TAKEN
  let s := (s.wrapAdd Reg.FAULT_TAKEN 1).setFld Reg.FAULT_STATUS 13 8 (min 32 (s.fld Reg.FAULT_STATUS 13 8 + 1))
  let s := s.setWords (fun i => Reg.FAULT_CB (8 * (seq % 32) + i)) (m.words seq)
  (s.keepRecords m seq).bump (Reg.FAULT_KIND_COUNT m.kind) 1

/-- The next message the collector takes: the earliest raised, then the lowest source (R24, R686). -/
def State.nextMsg (s : State) : Option FaultMsg := minBy? (fun m => m.time * 1024 + m.source) s.fc.inputs

/-- Remove the first occurrence of a message from the inputs. -/
def State.takeInput (s : State) (m : FaultMsg) : State := { s with fc := { s.fc with inputs := s.fc.inputs.erase m } }

/-- R701: at a reset that reaches domain 1, the messages raised and not taken still reach the records, with the sequence
numbers they would have, and bring no reaction; those that R695 suppresses do not. -/
def State.flushInputs (s : State) : State :=
  let ms := sortBy (fun m => m.time * 1024 + m.source) (s.fc.inputs.filter fun m => !s.suppressed m.source)
  s.forEach ms fun m s => match s.adjustMsg m with
    | (s, m) => s.recordMsg m

end Sys2Proof.Machine
end

