-- ==== Sys2Proof/Machine/Reload.lean ====
section
/-! DEFINITION. The images of the flash over the stores (R385, R386), the check of the reference copy and its rebuilding (R394), a
store reloaded and its engine back in service (R324, R393, R395). -/

namespace Sys2Proof.Machine

/-! ### Images of the flash -/

/-- Whether the loader ended in FALLBACK. -/
def State.fallback (s : State) : Bool := s.fld Reg.OPT_STATUS 2 0 == 4

/-- An image of a slot: its status, 0 absent, 1 loaded, its SECURITY_VERSION and its payload (R380, R385). -/
def State.imageCheck (s : State) (slot kind : Nat) (bad : Bool) : Nat × Nat × List Byte :=
  if (s.slot slot).2 == 0 then (0, 0, [])
  else match s.readEnvelope slot 0 kind bad with
    | .inl c => (c, 0, [])
    | .inr e => match s.imageStatus e.payload (kind == 1) with
      | some c => (c, 0, [])
      | none => (1, e.version, e.payload)

/-- Step 2 of R385 and R386. -/
def State.loadPatch (s : State) (bad : Bool) : State :=
  let r := s.imageCheck 3 0 bad
  let s := s.doIf (r.1 == 1) fun s => s.overlay (imageWords r.2.2)
  let s := s.doIf (Nat.ble 2 r.1) fun s => s.raise 896 FaultKind.PATCH_REJECTED r.1
  ((s.setFld Reg.UC_LOAD_STATUS 11 4 r.1).setRbit Reg.UC_FENCE_CTRL 1 (r.1 == 1)).setRegN Reg.UC_PATCH_VERSION r.2.1

/-- Step 3 of R385 and R386; R660 loads no customer image under FALLBACK. -/
def State.loadCustom (s : State) (bad : Bool) : State :=
  let r := if s.fallback then (0, 0, []) else s.imageCheck 4 1 bad
  let s := s.doIf (r.1 == 1) fun s => s.overlay (imageWords r.2.2)
  let s := s.doIf (Nat.ble 2 r.1) fun s => s.raise 896 FaultKind.CUSTOM_REJECTED r.1
  let s := ((s.setFld Reg.UC_LOAD_STATUS 19 12 r.1).setRbit Reg.UC_FENCE_CTRL 2 (r.1 == 1)).setRegN Reg.UC_CUST_VERSION
    (if r.1 == 1 then leAt r.2.2 8 4 else 0)
  s.resolveEntries (r.1 != 1)

/-! ### The reference copy -/

/-- The reference copy of a kind rebuilt from the ROM base and the flash (R380, R383, R394). -/
def State.rebuiltCopy (s : State) (k : Nat) (errs : List (Fin 6)) : List Byte :=
  ((({ s with stores := Stores.init }).loadPatch (errs.elem 3)).loadCustom (errs.elem 4)).copyOf k

/-- The word of an instance whose parity error its reload answers, else the one that its last machine check names (R389). -/
def State.checkedWord (s : State) (k i : Nat) : Nat :=
  match s.stores.reloads.find? fun r => r.1 / 2 ^ 13 == ucKey k i 0 / 2 ^ 13 && r.2.isNone with
  | some r => r.1 % 2 ^ 13
  | none => if k == 2 then s.fld (Reg.CE_MCHECK i) 27 16 else if k == 0 then s.fld (Reg.PX_MCHECK i) 28 16 else 0

/-- The store of an instance reloaded from the reference copy, which is checked first and rebuilt when it fails (R393, R394); whether
it could be. -/
def State.loadStore (s : State) (k i : Nat) (errs : List (Fin 6)) : State × Bool :=
  if s.copyGood k then (s.ucReload k i, true)
  else
    let s := s.raise (storeSource k i) FaultKind.UCODE_COPY_BAD (checkAddr 3 k 0)
    let bs := s.rebuiltCopy k errs
    if crc32c bs == s.copyCrc k then ((s.memWrite (s.copyBase + copyOffset k) bs).ucReload k i, true)
    else (s.raise (storeSource k i) FaultKind.UCODE_RELOAD_FAILED (checkAddr k i (s.checkedWord k i)), false)

/-! ### Back in service -/

/-- A Pixel Engine whose micro store has been reloaded, or could not be (R393, R394, R399). -/
def State.pxLoaded (s : State) (n : Nat) (ok : Bool) : State :=
  let s := (s.modPx n fun x => { x with down := !ok, reloading := false }).bayReturn (n / 8)
  s.doIf ok fun s => s.bump (Reg.PX_RELOADS n) 1

/-- A bay whose nano store has been reloaded, or could not be: with it return its engines that nothing of their own holds (R324,
R391, R393). -/
def State.bayLoaded (s : State) (b : Nat) (ok : Bool) : State :=
  let s := (s.modBay b fun x => { x with nano := !ok, reloading := false }).bayReturn b
  s.doIf ok fun s => s.forEach (enginesOf b) fun n s => s.doIf (s.rbit (Reg.PX_STATUS n) 0) fun s => s.bump (Reg.PX_RELOADS n) 1

/-- A Cue Engine whose store has been reloaded, or could not be (R393). -/
def State.ceLoaded (s : State) (n : Nat) (ok : Bool) : State :=
  let s := s.setRbit (Reg.CE_STATUS n) 2 false
  s.doIf ok fun s =>
    ((((s.setRbit (Reg.CE_STATUS n) 0 true).setRbit (Reg.CE_STATUS n) 1 false).setRbit (Reg.CE_STATUS n) 6 true).bump
      (Reg.CE_RELOADS n) 1).cuexSync n

/-- An instance after its reload. -/
def State.storeBack (s : State) (k i : Nat) (errs : List (Fin 6)) : State :=
  let r := s.loadStore k i errs
  if k == 0 then r.1.pxLoaded i r.2 else if k == 1 then r.1.bayLoaded i r.2 else r.1.ceLoaded i r.2

/-- Whether the reload of an instance that a machine check began is under way; its block is not in reset, which reloads the store as
it ends (R649). -/
def State.reloadable (s : State) (k i : Nat) : Bool :=
  if k == 0 then (s.pxEng i).reloading && !s.inReset (0x100 + i)
  else if k == 1 then (s.bay i).reloading && !s.inReset (0x080 + i)
  else s.rbit (Reg.CE_STATUS i) 2 && !s.inReset (0x180 + i)

/-- STORE_RELOAD (R393 to R395): the reload that a machine check of the instance began comes to its end; the flash slots that
cannot be read when the copy is rebuilt. -/
def execStoreReload (k : Fin 3) (i : Fin 96) (errs : List (Fin 6)) (s : State) : Host.Outcome State Fault Refusal :=
  .next <| s.doIf (!s.domainHeld 5 && i.val < ucInstances k.val && s.reloadable k.val i.val) fun s => s.storeBack k.val i.val errs

/-- The reload of the stores of a block in block reset is under way (R399, R649 step 4; DEDUCED, assumption 74). -/
def State.startReload (s : State) (b : Nat) : State :=
  if Nat.ble 0x080 b && Nat.ble b 0x08B then (s.modBay (b - 0x080) fun x => { x with reloading := true }).serveBay (b - 0x080)
  else if Nat.ble 0x100 b && Nat.ble b 0x15F then (s.modPx (b - 0x100) fun x => { x with reloading := true }).servePx (b - 0x100)
  else s.doIf (Nat.ble 0x180 b && Nat.ble b 0x18F) fun s => s.setRbit (Reg.CE_STATUS (b - 0x180)) 2 true

/-- The stores of a block reloaded at the end of its block reset (R395, R649 step 4): an instance that was stuck is so no more. -/
def State.endReload (s : State) (b : Nat) : State :=
  if Nat.ble 0x080 b && Nat.ble b 0x08B then (s.modBay (b - 0x080) fun x => { x with stuck := false }).storeBack 1 (b - 0x080) []
  else if Nat.ble 0x100 b && Nat.ble b 0x15F then s.storeBack 0 (b - 0x100) []
  else s.doIf (Nat.ble 0x180 b && Nat.ble b 0x18F) fun s => s.storeBack 2 (b - 0x180) []

end Sys2Proof.Machine
end

