-- ==== Sys2Proof/Machine/Reset.lean ====
section
/-! DEFINITION. Resets: the reach of each source and what it keeps (R640, R701, R712), the domains held and what each
loses (R645 to R647), the block reset behind the safety curtain and its release (R649 to R654, R694). -/

namespace Sys2Proof.Machine

/-! ### Who may act -/

/-- The writer in the bit order of DRAM_FENCE_WRITERS (R682). -/
def writerCode : Writer → Nat
  | .prompter => byPrompter
  | .stageManager _ => byStageManager
  | .host => byHost
  | .cueEngine _ => byCueEngine

/-- Whether a writer may reset or force a block: the Prompter, or whom BLK_OWNER names (R654, R655). -/
def State.mayAct (s : State) (w : Writer) (b : Nat) : Bool :=
  let o := s.fld (blkOwner b) 1 0
  match w with
  | .prompter => true
  | .stageManager _ => o == 1 || o == 3
  | .host => o == 2 || o == 3
  | .cueEngine _ => false

/-! ### Registers lost -/

/-- The registers and latched words of some keys return to their reset values. -/
def State.dropRegs (s : State) (f : Nat → Bool) : State :=
  { s with regs := s.regs.filter fun p => !f p.1, latches := s.latches.filter fun p => !f p.1 }

/-- A register kept through every reset except power-on (R640, R679, R681, R701, R719, R778). -/
def keptKey (k : Nat) : Bool :=
  Nat.ble 0x1088 k && Nat.ble k 0x10A4 || [Reg.RESET_CAUSE, Reg.CHIP_SCRATCH, Reg.CHIP_STRAPS, Reg.OPT_LOADS,
    Reg.MARGIN_HOURS, Reg.MARGIN_JOURNAL_NEXT, Reg.MARGIN_JOURNAL_SEQ, Reg.FAULT_STATUS, Reg.UC_LOAD_STATUS].elem k ||
    Nat.ble (Reg.FAULT_FIRST 0) k && Nat.ble k (Reg.FAULT_STOP 7)

/-- Whether a register belongs to a domain. -/
def inDomain (pos k : Nat) : Bool :=
  match pageInfo (pageOf k) with
  | some i => domainPos i.domain == pos
  | none => false

/-- The registers of a domain at a reset: all at power-on, else all but the kept ones, of which FAULT_STATUS keeps the
two valid bits and UC_LOAD_STATUS its count. -/
def State.dropDomain (s : State) (cold : Bool) (pos : Nat) : State :=
  let s := s.dropRegs fun k => inDomain pos k && (cold || !keptKey k)
  let s := s.doIf (pos == 1 && !cold) fun s => s.setRegN Reg.FAULT_STATUS (16 * s.fld Reg.FAULT_STATUS 5 4)
  s.doIf (pos == 3 && !cold) fun s => s.setRegN Reg.UC_LOAD_STATUS (2 ^ 24 * s.fld Reg.UC_LOAD_STATUS 31 24)

/-! ### Domains -/

/-- The sources of a page reset while the Cue Exchange is not (R577). -/
def State.resetSources (s : State) (srcs : List Nat) : State :=
  if s.domainHeld 5 then s else s.forEach srcs fun n s => s.cueSourceReset n

/-- The time base after a reset of domain 1: its time stands through a reset that is not a power-on (R481). -/
def TimeBase.restart (cold : Bool) (t : TimeBase) : TimeBase :=
  if cold then TimeBase.init else { TimeBase.init with sec := t.sec, ns := t.ns, frac := t.frac }

/-- DRAM_n_RESET_N (R788). -/
def ballDramReset (n : Nat) : Nat := 32 + n

/-- What a reset of a domain position takes beside its registers (R640, R481, R514, R587, R635, R672, R719, R788). -/
def State.loseDomain (s : State) (cold : Bool) (pos : Nat) : State :=
  if pos == 1 then
    let s := s.doIf (s.rbit Reg.FAULT_STATUS 3) fun s => s.emit (.ball 0 false)
    let s := s.modTb (TimeBase.restart cold)
    let mg := if cold then Margin.init else { s.margin with quiet := 0, avsTries := 0, avsLimit := 0 }
    { s with fc := FaultCtl.init, margin := mg, ledger := Ledger.init, sigs := [], tap := if cold then Tap.init else s.tap }
  else if pos == 3 then { s with trust := TrustCtl.init }
  else if pos == 4 then
    let s := s.forEach (List.range 4) fun n s => s.emit (.ball (ballDramReset n) false)
    { s with drams := [], refc := RefCache.init }.memScrap 0 (2 ^ 35)
  else if pos == 5 then
    let s := s.forEach (List.range 4) fun n s => s.modDpIn n fun x => { x with ring := [] }
    { s with cuex := CuexCtl.init, pool := PoolCtl.init, fifos := [], cvu := [], stores := Stores.init }.memScrap poolBase 0x800000
  else if pos == 6 then
    let comp (r : AdmitReq) : Bool := r.comp
    -- R327: the ledger measures anew from the release of bays and engines on
    let s := (s.setRbit Reg.LEDGER_STATUS 11 false).setRegN Reg.LEDGER_SEQ 0
    { s with ctxs := [], bays := [], px := [], ce := [], sram := [], bins := [],
             ledger := { s.ledger with raws := [], stack := [], qualify := none, waiting := s.ledger.waiting.filter comp,
                                       decided := s.ledger.decided.filter fun d => comp d.req } }
  else if pos == 7 then
    { s with flows := [], macs := [], sessWait := [], queues := [], served := [], policers := [], pair := PairCtl.init, ptp := [] }
  else if pos == 8 then
    let s := s.forEach (List.range 4) fun n s => s.doIf (s.inState n != 0) fun s => s.emit (.ball (ballHpd n) false)
    { s with dpOuts := [], dpIns := [] }
  else if pos == 9 then { s with pcie := Pcie.init }
  else if pos == 10 then (s.resetSources (rangeFrom 448 48)).hostReset
  else if pos == 11 then
    let s := s.resetSources (rangeFrom 768 128)
    let s := if s.domainHeld 5 then s else s.forEach (rangeFrom 16 4) fun t s => s.cueTargetReset t
    { s with trust := { s.trust with posts := [], last := [] }, rc := { s.rc with smKick := none } }
  else s

/-- A domain reset and held (R640, R652): what it loses, its registers; a block reset under way in it is over. -/
def State.holdDomain (s : State) (cold : Bool) (pos : Nat) : State :=
  let s := (s.loseDomain cold pos).dropDomain cold pos
  let open_ (w : Nat × Option Nat) : Bool := w.2.isSome || !inDomain pos (w.1 * 0x1000)
  { s with fc := { s.fc with windows := s.fc.windows.filter open_ },
           rc := { s.rc with held := if s.rc.held.elem pos then s.rc.held else s.rc.held ++ [pos],
                             notReady := s.rc.notReady.filter (· != pos) } }

/-! ### Sources -/

/-- The domain positions a source reaches (R640, R711): 9 is 9a, 10 is 9b, 11 is domain 10. -/
def ResetSource.reach : ResetSource → List Nat
  | .perstN => [9, 10]
  | .smwd | .smReset => [10, 11]
  | .rehearsal => [5, 6, 11]
  | .powerOn | .rstN | .pwd | .lockstep | .softFull | .pair => rangeFrom 1 11

/-- The bit of a source in RESET_ASSERTED and RESET_CAUSE (R679); a rehearsal has none. -/
def ResetSource.bit : ResetSource → Option Nat
  | .powerOn => some 0
  | .rstN => some 1
  | .pwd => some 2
  | .perstN => some 3
  | .smwd => some 4
  | .pair => some 5
  | .softFull => some 6
  | .smReset => some 7
  | .lockstep => some 8
  | .rehearsal => none

/-- The counter of a source (R679). -/
def ResetSource.counter : ResetSource → Option Nat
  | .rstN => some Reg.RESET_COUNT_RSTN
  | .pwd | .lockstep => some Reg.RESET_COUNT_PWD
  | .perstN => some Reg.RESET_COUNT_PERST
  | .smwd | .smReset => some Reg.RESET_COUNT_SMWD
  | .pair => some Reg.RESET_COUNT_PAIR
  | .softFull => some Reg.RESET_COUNT_SOFT
  | .powerOn | .rehearsal => none

/-- Whether an asserted source reaches a position. -/
def State.reached (s : State) (pos : Nat) : Bool := s.rc.asserted.any fun x => x.reach.elem pos

/-- The domain number of a release position. -/
def domainNumber (pos : Nat) : Nat := if Nat.ble pos 9 then pos else if pos == 10 then 9 else 10

/-- The position whose release is under way: released and not ready, or next in order and free of sources (R645). -/
def State.releasing (s : State) : Option Nat :=
  match minBy? id s.rc.notReady with
  | some p => some p
  | none => match minBy? id s.rc.held with
    | some p => if s.reached p then none else some p
    | none => none

/-- RESET_STATUS and RESET_ASSERTED (R679). -/
def State.showReset (s : State) : State :=
  let heldBit (pos : Nat) : Nat := if Nat.ble pos 9 then 2 ^ (pos - 1) else if pos == 10 then 2 ^ 10 else 2 ^ 9
  let h := (s.rc.held.map heldBit).foldl (· + ·) 0
  let r := match s.releasing with
    | some p => domainNumber p * 2 ^ 12 + 2 ^ 16
    | none => 0
  let a := ((s.rc.asserted.filter fun x => x != .powerOn).map fun x => match x.bit with
    | some n => 2 ^ n
    | none => 0).foldl (· + ·) 0
  (s.setRegN Reg.RESET_STATUS (h + r)).setRegN Reg.RESET_ASSERTED a

/-- R712: a rehearsal whose units or domains a reset reaches ends with INTERRUPTED, no signature compared. -/
def State.rehInterrupt (s : State) : State :=
  let b := s.fld Reg.REH_STATUS 11 8
  let s := s.doIf (Nat.ble (s.fld Reg.REH_STATUS 2 0) 3) fun s =>
    (s.modBay b fun x => { x with granted := false }).setRbit (Reg.BAY_STATUS b) 17 false
  let s := (s.setFld Reg.REH_STATUS 2 0 0).setFld Reg.REH_STATUS 23 16 3
  let s := (s.setReg64 Reg.REH_END_TIME_LO s.now).bump Reg.REH_INTERRUPTS 1
  { s with rc := { s.rc with asserted := s.rc.asserted.filter (· != .rehearsal) } }

/-- The rehearsal that a reset of some positions interrupts. -/
def State.interruptFor (s : State) (reach : List Nat) : State :=
  let st := s.fld Reg.REH_STATUS 2 0
  let hit := if st == 0 then false else if Nat.ble st 3 then reach.elem 6 else reach.any fun p => [4, 5, 6, 11].elem p
  s.doIf hit fun s => s.rehInterrupt

/-- RESET_CAUSE (R679): the source is added to those that hold domain 3, or starts a new reset of it. -/
def State.noteCause (s : State) (src : ResetSource) (was : Bool) : State :=
  match src.bit with
  | some n =>
    if src.reach.elem 3 then
      (if was then s.setRbit Reg.RESET_CAUSE n true else s.setRegN Reg.RESET_CAUSE (2 ^ n))
    else s
  | none => s

/-- A source is asserted (R640, R646, R647, R701): the domains it reaches are held at once, but those held already.  A
message raised before still reaches the records. -/
def State.assertReset (s : State) (src : ResetSource) : State :=
  if s.rc.asserted.elem src then s
  else
    let cold := src == .powerOn
    let s := s.doIf (src.reach.elem 1 && !cold) fun s => s.flushInputs
    let s := s.doIf (src != .rehearsal) fun s => s.interruptFor src.reach
    let was := s.domainHeld 3
    let s := { s with rc := { s.rc with asserted := s.rc.asserted ++ [src] } }
    let s := match src.counter with
      | some k => if s.rc.asserted.elem ResetSource.powerOn then s else s.bump k 1
      | none => s
    let s := s.forEach (src.reach.filter fun p => cold || !s.domainHeld p) fun p s => s.holdDomain cold p
    let s := s.noteCause src was
    s.showReset.doIf (!s.domainHeld 1) fun s => s.showSums

/-- A source is released (R641). -/
def State.releaseReset (s : State) (src : ResetSource) : State :=
  if s.rc.asserted.elem src then { s with rc := { s.rc with asserted := s.rc.asserted.erase src } }.showReset else s

/-! ### Cue Engines that stop -/

/-- The CTUs of a decode picture whose data no lane has been given (R392). -/
def State.unhandedCtus (s : State) (c : Nat) (p : DecPicture) : List Nat :=
  match (s.ctx c).sps with
  | some i => sortBy (decKey i) ((List.range (p.ctuCount i)).filter fun a => !p.handed.elem a && !p.damaged.elem a)
  | none => []

/-- R392 for a context of the engine. -/
def State.ceLostCtx (s : State) (c : Nat) : State :=
  if s.isEncode c then
    (if (s.ctx c).pic.isSome then
      let s := (s.dropJobs c).modCtx c fun x => { x with pic := none, encPending := { x.encPending with all := true } }
      (s.encStatus c 1).stopIfDone c
    else s)
  else match (s.ctx c).dpic with
    | some p => s.damageCtus c (some 6) (s.unhandedCtus c p)
    | none => s

/-- A Cue Engine stops: the pictures in progress of its contexts, which keep their binding (R392, R694). -/
def State.ceLost (s : State) (n : Nat) : State :=
  s.forEach ((s.admittedCtxs.filter fun p => p.2.ce == n).map (·.1)) fun c s => s.ceLostCtx c

/-! ### The safety curtain -/

/-- The page entry of a block that can be reset alone, named by its page of index 0. -/
def resettable (b : Nat) : Option PageInfo :=
  match pageInfo b with
  | some i => if i.blockReset && i.index == 0 then some i else none
  | none => none

/-- The HOSTQ and DMA blocks return wholly to reset values (R650). -/
def whollyReset (b : Nat) : Bool := b == 0x020 || b == 0x028

/-- Whether a block reset returns a register to its reset value (R650): RO, RC, W1C and WO registers outside the active
and shadow sets, BLK_FAULT; every register of the HOSTQ and DMA pages. -/
def blockLoses (b k : Nat) : Bool :=
  match pageInfo (pageOf k) with
  | none => false
  | some i =>
    i.block == b && (if whollyReset b then true
      else if Nat.blt (offOf k) 0x40 then offOf k == 0x014
      else if i.shadow && Nat.ble 0x400 (offOf k) then false
      else match regRow k with
        | some r => [Access.ro, Access.rc, Access.w1c, Access.wo].elem r.access
        | none => true)

/-- A context's own state at a block reset: its charges, binding, arrays and degradation stay, its buffers go back. -/
def State.ctxLost (s : State) (c : Nat) : State :=
  let s := ((s.dropJobs c).dropMapBuf c).keepBuffer c none
  let t := s.regN (Reg.FRESH_CELL_TABLE c)
  let s := s.doIf (t != 0) fun s => s.poolDrop t
  let s := s.dropAdmission c
  s.modCtx c fun x => { Ctx.init with
    admitted := x.admitted, chg := x.chg, msas := x.msas, ce := x.ce, admitOrder := x.admitOrder, degrade := x.degrade,
    frameStore := x.frameStore }

/-- The internal state of a block at its reset (R323, R392, R514, R650). -/
def State.blockLost (s : State) (b : Nat) : State :=
  if b == 0x008 then
    { s with cuex := { s.cuex with lost := [], holdoff := [] } }
  else if b == 0x018 then
    let freed := s.pool.bufs.map fun q => (q.1, { PoolBuf.init with frees := q.2.frees + b2n (q.2.count != 0) })
    { s with pool := { s.pool with bufs := freed.filter fun q => q.2.frees != 0 }, fifos := [] }
  else if b == 0x019 then { s with cvu := [] }
  else if b == 0x020 then { s with dma := [] }
  else if b == 0x028 then { s with host := HostCtl.init }
  else if Nat.ble 0x030 b && Nat.ble b 0x033 then
    { s with macs := s.macs.filter fun m => m.port != b - 0x030, sessWait := s.sessWait.filter fun m => m.port != b - 0x030 }
  else if b == 0x034 then { s with flows := [], macs := [], sessWait := [] }
  else if b == 0x035 then { s with queues := [], served := [] }
  else if b == 0x037 then
    let full (x : Policer) : Policer := { x with cLevel := x.cbs * 8000000, pLevel := x.pbs * 8000000, at_ := 0, green := 0, yellow := 0, red := 0 }
    { s with policers := (s.policers.map fun q => (q.1, full q.2)).filter fun q => q.2 != Policer.init }
  else if b == 0x038 then
    let clear (x : SQueue) : SQueue := { x with depthBins := [], delayBins := [], samples := 0, maxDelay := 0 }
    { s with queues := (s.queues.map fun q => (q.1, clear q.2)).filter fun q => q.2 != SQueue.init }
  else if Nat.ble 0x040 b && Nat.ble b 0x047 then s.setDpOut (b - 0x040) DpOut.init
  else if Nat.ble 0x048 b && Nat.ble b 0x04B then
    let n := b - 0x048
    let s := s.doIf (s.inState n != 0) fun s => s.emit (.ball (ballHpd n) false)
    (s.dropRing n).setDpIn n DpIn.init
  else if b == 0x060 then { s with pair := PairCtl.init }
  else if Nat.ble 0x080 b && Nat.ble b 0x08B then s.bayAbort (b - 0x080)
  else if Nat.ble 0x100 b && Nat.ble b 0x15F then
    (s.engineOut (b - 0x100)).setPx (b - 0x100) Px.init
  else if Nat.ble 0x180 b && Nat.ble b 0x18F then
    let n := b - 0x180
    let s := s.ceLost n
    { s with ce := Sparse.set (fun _ => CeEng.init) s.ce n CeEng.init }
  else if Nat.ble 0x1A0 b && Nat.ble b 0x1B7 then
    let n := b - 0x1A0
    let s := s.forEach ((s.ctxs.filter fun p => p.2.lanes.any fun l => l.1 == n).map (·.1)) fun c s => s.laneDone c n
    { s with bins := Sparse.set (fun _ => 0) s.bins n 0 }
  else if Nat.ble 0x200 b && Nat.ble b 0x2FF then s.ctxLost (b - 0x200)
  else s

/-- The registers that show what a block reset keeps: its charges, window charges, degradation, the sums. -/
def State.showKept (s : State) (b : Nat) (wins : List Nat) : State :=
  let s := s.doIf (Nat.ble 0x050 b && Nat.ble b 0x057) fun s => s.setWinCharges (b - 0x050) wins
  let s := s.doIf (Nat.ble 0x200 b && Nat.ble b 0x2FF) fun s =>
    (s.showCharge (b - 0x200)).setFld (Reg.CTX_STATUS (b - 0x200)) 4 3 (s.ctx (b - 0x200)).degrade
  let s := s.doIf (b == 0x037) fun s => s.showPolicer
  s.showSums

/-- Whether a block reset ends the bay rehearsal of the bay (R712). -/
def State.rehearses (s : State) (b : Nat) : Bool :=
  let st := s.fld Reg.REH_STATUS 2 0
  Nat.ble 1 st && Nat.ble st 3 && b == 0x080 + s.fld Reg.REH_STATUS 11 8

/-- R649 steps 1 to 4: the curtain closes, what is under way ends, the block is held; a reaction by fault starts the 1 s of
R697. -/
def State.blockReset (s : State) (b : Nat) (byFault : Bool) : State :=
  match resettable b with
  | none => s
  | some i =>
    if s.pageHeld i || s.inReset b then s
    else
      let s := s.doIf (s.rehearses b) fun s => s.rehInterrupt
      let wins := s.winCharges (b - 0x050)
      let s := s.bump Reg.RESET_COUNT_BLOCK 1
      let s := s.doIf (b != 0x008) fun s => s.resetSources (pageSources b)
      let s := s.doIf (Nat.ble 0x180 b && Nat.ble b 0x18F && !s.domainHeld 5) fun s => s.cueTargetReset (b - 0x180)
      let s := (s.blockLost b).dropRegs (blockLoses b)
      let s := (s.setFld (blkCtrl b) 2 1 0).setFld (blkStat b) 3 2 3
      let s := s.showKept b wins
      let t := s.now
      let win := (b, none) :: s.fc.windows.filter fun w => w.1 != b
      let start := if byFault then Sparse.set (fun _ => none) s.fc.containStart b (some t) else s.fc.containStart
      { s with fc := { s.fc with windows := win, containStart := start } }.startReload b

/-- SW_RESET (R649, R654): BLK_CTRL.SW_RESET of a page written 1. -/
def State.swReset (s : State) (w : Writer) (b : Nat) : State :=
  match resettable b with
  | none => s
  | some i =>
    if s.pageHeld i then s
    else if s.mayAct w b then s.blockReset b false
    else s.fenceViolation (blkCtrl b) (writerCode w)

def execSwReset (w : Writer) (page : Nat) (s : State) : Host.Outcome State Fault Refusal := .next (s.swReset w page)

/-! ### Release of a block reset -/

/-- An enabled block at step 1 of its enable sequence (R649 step 5); a context that is refused gives up its charges. -/
def State.restartBlock (s : State) (b : Nat) : State :=
  if b == 0x018 then (s.setRbit (blkCtrl b) 0 false).poolEnable
  else if Nat.ble 0x030 b && Nat.ble b 0x033 then (s.setRbit (blkCtrl b) 0 false).netEnable (b - 0x030)
  else if Nat.ble 0x040 b && Nat.ble b 0x047 then (s.setRbit (blkCtrl b) 0 false).outEnable (b - 0x040)
  else if Nat.ble 0x048 b && Nat.ble b 0x04B then (s.setRbit (blkCtrl b) 0 false).inEnable (b - 0x048)
  else if Nat.ble 0x200 b && Nat.ble b 0x2FF then
    let c := b - 0x200
    let s := (s.setRbit (blkCtrl b) 0 false).ctxEnable c
    s.doIf (!s.enabled b && !s.ledger.waiting.elem (enableReq c)) fun s => s.releaseCtx c
  else s

/-- BLOCK_RESET_RELEASE (R649 steps 4 and 5, R696): stores reloaded, the curtain open, an enabled block started anew; a
disabled context has no charges to keep. -/
def State.blockRelease (s : State) (b : Nat) : State :=
  match resettable b with
  | none => s
  | some i =>
    if s.pageHeld i || !s.inReset b then s
    else
      let t := s.now + 10000
      let s := s.setFld (blkStat b) 3 2 0
      let s := { s with fc := { s.fc with windows := (b, some t) :: s.fc.windows.filter fun w => w.1 != b } }
      let s := s.endReload b
      if s.enabled b then s.restartBlock b
      else s.doIf (Nat.ble 0x200 b && Nat.ble b 0x2FF) fun s => s.releaseCtx (b - 0x200)

def execBlockResetRelease (page : Nat) (s : State) : Host.Outcome State Fault Refusal := .next (s.blockRelease page)

end Sys2Proof.Machine
end

