-- ==== Sys2Proof/Machine/Boot.lean ====
section
/-! DEFINITION. The release of domains and what each brings up (R645 to R648): the prompt-book loader (R656 to R661),
the Prompter stage (R664), the microcode load (R385 to R388), the Stage Manager image (R665 to R668, R676). -/

namespace Sys2Proof.Machine

/-- A domain is ready. -/
def State.domainReady (s : State) (p : Nat) : State :=
  { s with rc := { s.rc with notReady := s.rc.notReady.filter (· != p) } }.showReset

/-! ### The prompt-book loader -/

/-- R658: an area that is all zero, or whose CRC holds. -/
def otpAreaOk (b : List Byte) : Bool := zeroB b || beAt b 0xFC 4 == crc32c (b.take 0xFC)

/-- The slots of an option block: offset and length, those of length 0 left out. -/
def blockSlots (b : List Byte) : List (Nat × Nat) :=
  ((List.range 6).map fun i => (leAt b (0x40 + 8 * i) 4, leAt b (0x44 + 8 * i) 4)).filter fun r => r.2 != 0

/-- R661: whether no two of some ranges overlap. -/
def apart : List (Nat × Nat) → Bool
  | [] => true
  | r :: l => (l.all fun q => !overlap r.1 r.2 q.1 q.2) && apart l

/-- R656 step 2, R659, R661: whether an option block is good. -/
def optionBlockOk (b : List Byte) : Bool :=
  sliceB b 0 4 == [0x55, 0x51, 0x4F, 0x50] && leAt b 4 2 == 1 && leAt b 6 2 == 0 && Nat.blt (leAt b 8 4) 8 &&
    zeroB (sliceB b 0x70 3980) && beAt b 0xFFC 4 == crc32c (b.take 0xFFC) && apart ((0, 0x1000) :: blockSlots b)

/-- The options in use shown: the OTP area, the first 512 bytes of the flash option block (R681). -/
def State.showOtpOptions (s : State) (b : List Byte) : State :=
  s.forEach (List.range 64) fun i s => s.setRegN (Reg.OPT_OTP i) (leAt b (4 * i) 4)
def State.showFlashOptions (s : State) (b : List Byte) : State :=
  s.forEach (List.range 128) fun i s => s.setRegN (Reg.OPT_FLASH i) (leAt b (4 * i) 4)

/-- R660: the option block under FALLBACK; DRAM_CFG and DRAM_TRFC follow from the dies when domain 4 is released. -/
def fallbackBlock : List Byte :=
  List.replicate 8 0 ++ leBytes 4 1 ++ (List.replicate 9 (leBytes 2 250)).flatten ++ leBytes 2 750 ++
    List.replicate 8 0 ++ leBytes 2 0x1F3E ++ leBytes 2 0 ++ leBytes 2 100 ++ leBytes 2 500 ++ List.replicate 16 0 ++
    ([0x10000, 0x40000, 0x100000, 0x800000, 0x900000, 0x800000, 0x50000, 0x40000, 0x90000, 0x40000, 0x1100000,
      0x100000].map (leBytes 4)).flatten ++ List.replicate 400 0

/-- One load (R656 steps 1, 2 and 4): whether both areas pass; the failures in a row. -/
def State.optionLoad (s : State) (absent : Bool) : State × Bool :=
  let otp := s.otpBytes 0 256
  let blk := if absent then [] else s.flashBytes 0 0x1000
  let otpOk := otpAreaOk otp
  let blkOk := !absent && optionBlockOk blk
  let s := s.setFld Reg.OPT_LOADS 7 0 (min 255 (s.fld Reg.OPT_LOADS 7 0 + 1))
  let s := (s.showOtpOptions otp).setRegN Reg.OPT_OTP_CRC (beAt otp 0xFC 4)
  let s := s.doIf (!absent) fun s => s.setRegN Reg.OPT_FLASH_CRC (beAt blk 0xFFC 4)
  let s := ((s.setRbit Reg.OPT_STATUS 8 (!otpOk)).setRbit Reg.OPT_STATUS 9 (!absent && !blkOk)).setRbit Reg.OPT_STATUS 10 absent
  if otpOk && blkOk then ((s.setFld Reg.OPT_STATUS 2 0 3).setFld Reg.OPT_STATUS 5 4 0 |>.showFlashOptions blk, true)
  else (s.setFld Reg.OPT_STATUS 5 4 (s.fld Reg.OPT_STATUS 5 4 + 1), false)

/-- A register image of the option block: zero keeps the register's value (R659). -/
def State.applyImage (s : State) (k o : Nat) : State :=
  let v := s.optN o 4
  s.doIf (v != 0) fun s => s.store k (BitVec.ofNat 32 v)

/-- A watchdog time of the option block, in the range of R680. -/
def State.applyWatchdog (s : State) (k o : Nat) : State :=
  let v := s.optN o 2
  s.doIf (Nat.ble 10 v && Nat.ble v 10000) fun s => s.setRegN k v

/-- The registers of domain 1 that the prompt book in force and the OTP set. -/
def State.optionsLoaded (s : State) : State :=
  let s := s.forEach (List.range 9) fun i s =>
    let v := s.optN (0x0C + 2 * i) 2
    s.doIf (v != 0) fun s => s.setRegN (Reg.RESET_GAP i) v
  let s := (s.applyWatchdog Reg.RESET_PWD_CFG 0x2C).applyWatchdog Reg.RESET_SMWD_CFG 0x2E
  -- R346: an image outside the ranges has no effect
  let s := s.doIf (ledgerCtrlOk (BitVec.ofNat 32 (s.optN 0x3C 4))) fun s => s.applyImage Reg.LEDGER_CTRL 0x3C
  let s := (s.setRegN Reg.CHIP_SERIAL_LO (s.otpLE 0x100 4)).setRegN Reg.CHIP_SERIAL_HI (s.otpLE 0x104 4)
  let floor := s.otpLE 0x380 4
  let s := s.doIf (floor != 0) fun s => s.setRegN Reg.LEDGER_FLOOR floor
  let s := s.forEach (List.range 24) fun i s => s.setRegN (Reg.MARGIN_CANARY_REF i) (256 * s.otpLE (0x3C0 + 2 * i) 2)
  s.setRegN Reg.RESET_PAIR (b2n (nbit (s.optByte 8) 1 && !nbit (s.otpOpt 0) 1))

/-- A load of the prompt book (R656): one that passes ends DONE, the third in a row that fails ends FALLBACK, and domain 2 is ready. -/
def State.optionStep (s : State) (absent : List (Fin 3)) : State :=
  let n := s.fld Reg.OPT_STATUS 5 4
  let r := s.optionLoad ((List.range 3).any fun i => i == n && absent.any fun a => a.val == i)
  let done (s : State) : State := s.optionsLoaded.domainReady 2
  if r.2 then done r.1
  else if Nat.ble 2 n then done ((r.1.setFld Reg.OPT_STATUS 2 0 4).showFlashOptions fallbackBlock)
  else r.1

/-- Step 2 of R645: the first load; a reset that reaches the domain between two loads aborts them (R657). -/
def State.bootOptions (s : State) (absent : List (Fin 3)) : State :=
  let s := { s with rc := { s.rc with notReady := s.rc.notReady ++ [2] } }
  ((s.setFld Reg.OPT_STATUS 5 4 0).setFld Reg.OPT_STATUS 2 0 1).optionStep absent

/-! ### The Prompter -/

/-- The margin journal (R720, R721): its entries, and the newest valid one. -/
def State.journalEntry (s : State) (i : Nat) : Option (List Byte) :=
  let a := (s.slot 5).1 + 256 * i
  if s.flashBytes a 4 != [0x55, 0x51, 0x4D, 0x4A] then none
  else
    let b := s.flashBytes a 256
    if beAt b 252 4 == crc32c (b.take 252) then some b else none
def State.journalSize (s : State) : Nat := (s.slot 5).2 / 256
def State.journalNewest (s : State) : Option (List Byte) :=
  ((List.range s.journalSize).filterMap s.journalEntry).foldl (fun best b => match best with
    | some p => if Nat.blt (leAt p 4 4) (leAt b 4 4) then some b else some p
    | none => some b) none

/-- What the Prompter reads of the journal as it starts: ENTRY_SEQ, and at power-on the operating hours. -/
def State.journalStart (s : State) : State :=
  match s.journalNewest with
  | some b =>
    let s := s.setRegN Reg.MARGIN_JOURNAL_SEQ (leAt b 4 4)
    s.doIf (s.rbit Reg.RESET_CAUSE 0) fun s => s.setRegN Reg.MARGIN_HOURS (leAt b 16 4)
  | none => s

/-- The Prompter stage (R664): its status, 0 absent, 1 loaded, and its SECURITY_VERSION. -/
def State.stageCheck (s : State) (bad : Bool) : Nat × Nat :=
  if (s.slot 0).2 == 0 then (0, 0)
  else match s.readEnvelope 0 0 2 bad with
    | .inl c => (c, 0)
    | .inr e => (1, e.version)

/-- TRUST_KEYS and TRUST_MIN_VER as the OTP now stands. -/
def State.showKeys (s : State) : State :=
  let en := (List.range 6).map fun p => b2n (s.enrolled p) * 2 ^ p + b2n (s.revoked p) * 2 ^ (p + 8)
  let s := s.setRegN Reg.TRUST_KEYS (en.foldl (· + ·) 0)
  s.forEach (List.range 4) fun k s => s.setRegN (Reg.TRUST_MIN_VER k) (s.minVersion k)

/-- Step 3 of R645: the keys and policies of the OTP, the stage, the rail at VDD_BOOT, the watchdog of R642. -/
def State.bootPrompter (s : State) (errs : List (Fin 6)) : State :=
  let s := s.doIf s.fallback fun s => s.raise 933 FaultKind.OPTIONS_FALLBACK (s.fld Reg.OPT_STATUS 10 8 * 256)
  let s := s.showKeys
  let pol := s.otpOpt 1
  let s := s.setRegN Reg.TRUST_SEV_POLICY (if pol == 3 then 1 else pol % 4)
  let s := ((s.setRbit Reg.TRUST_STATUS 1 true).setRbit Reg.TRUST_STATUS 3 (nbit (s.otpOpt 0) 3)).setRbit Reg.TRUST_STATUS 4
    (nbit (s.otpLE 0x2F1 1) 0)
  let r := s.stageCheck (errs.elem 0)
  let s := ((s.setFld Reg.TRUST_STATUS 15 8 r.1).setRbit Reg.TRUST_STATUS 0 (r.1 == 1)).setRegN Reg.TRUST_STAGE_VERSION r.2
  let s := s.doIf (r.1 != 1) fun s => s.raise 896 FaultKind.STAGE_REJECTED r.1
  let s := ((s.applyImage Reg.UC_HOOK_LIMIT 0x30).applyImage Reg.UC_CUST_SCRATCH 0x34).applyImage Reg.UC_CUST_POOL 0x38
  let v := s.optN 0x1E 2
  let s := s.writeSetpoint (if v == 0 then 750 else v)
  let s := s.journalStart
  { s with rc := { s.rc with pwdStart := s.now } }

/-! ### DRAM -/

/-- Whether a channel is initialising or training. -/
def State.dramBusy (s : State) : Bool := (List.range 4).any fun n => s.dramState n == 1 || s.dramState n == 2

/-- Step 4 of R645, R634 step 1: the configuration of every channel, its dies out of reset; under FALLBACK that of the dies (R660). -/
def State.bootDram (s : State) (f : ReleaseFacts) : State :=
  let d := f.density.val
  let s := s.doIf s.fallback fun s =>
    (s.setRegN (Reg.OPT_FLASH 8) (16 * d + 64 * b2n f.twoRanks + 512)).setRegN (Reg.OPT_FLASH 9) ([180, 210, 280, 380].getD d 180)
  let s := s.forEach (List.range 4) fun n s => (s.applyImage (Reg.DRAM_CFG n) 0x20).applyImage (Reg.DRAM_TRFC n) 0x24
  let s := s.forEach (List.range 4) fun n s => (s.dramStart n).emit (.ball (ballDramReset n) true)
  if s.dramBusy then { s with rc := { s.rc with notReady := s.rc.notReady ++ [4] } } else s

/-- DRAM_TRAINING_DONE: domain 4 is ready once no channel trains. -/
def execDramTrainingDone (n : Fin 4) (t : DramTrain) (s : State) : Host.Outcome State Fault Refusal :=
  .next <| s.ifLive (0x010 + n.val) fun s =>
    let s := s.dramTrained n.val t
    s.doIf (!s.dramBusy) fun s => s.domainReady 4

/-! ### Microcode -/

/-- A DRAM fence set: first page, last page, writers (R631, R638). -/
def State.setFence (s : State) (f base last writers : Nat) : State :=
  ((s.setRegN (Reg.DRAM_FENCE_BASE f) base).setRegN (Reg.DRAM_FENCE_LIMIT f) last).setRegN (Reg.DRAM_FENCE_WRITERS f) writers

/-- Step 4 of R385: the reference copies, their CRCs, fence 0 over them (R388, R667), LOCK. -/
def State.loadCopies (s : State) : State :=
  let base := Config.copyPage % 2 ^ 28
  let s := (s.setRegN Reg.UC_COPY_BASE_LO (base * 4096)).setRegN Reg.UC_COPY_BASE_HI (base / 2 ^ 20)
  let s := s.forEach [0, 1, 2] fun k s => s.memWrite (s.copyBase + copyOffset k) (s.copyOf k)
  let s := ((s.setRegN Reg.UC_COPY_CRC_PX (crc32c (s.copyOf 0))).setRegN Reg.UC_COPY_CRC_NANO (crc32c (s.copyOf 1))).setRegN
    Reg.UC_COPY_CRC_CE (crc32c (s.copyOf 2))
  (s.setFence 0 base (base + 0x2B) 0x301).setRbit Reg.UC_FENCE_CTRL 0 true

/-- R711 step 4: the failing units of a full rehearsal, once domain 5 is ready. -/
def State.rehFailures (s : State) : State :=
  s.doIf (s.fld Reg.REH_STATUS 2 0 == 5) fun s => s.forEach (List.range 22) fun u s =>
    s.doIf (s.rbit Reg.REH_FAILED u) fun s => s.raise 499 FaultKind.REHEARSAL_FAIL u

/-- The end of a rehearsal: its result, counted, and its time (R710, R711, R723; R720 byte 136). -/
def State.rehEnd (s : State) (ok : Bool) : State :=
  let s := (s.setFld Reg.REH_STATUS 2 0 0).setFld Reg.REH_STATUS 23 16 (if ok then 1 else 2)
  let s := (s.setReg64 Reg.REH_END_TIME_LO s.now).bump (if ok then Reg.REH_PASSES else Reg.REH_FAILS) 1
  { s with margin := if ok then { s.margin with rehPass := true } else { s.margin with rehFail := true } }

/-- Step 5 of R645, step 1 of R385: the ROM base and the fill words in every store. -/
def State.bootStores (s : State) : State :=
  let s := ({ s with stores := Stores.init }.setRegN Reg.UC_LOAD_STATUS (2 ^ 24 * min 255 (s.fld Reg.UC_LOAD_STATUS 31 24 + 1))).setFld
    Reg.UC_LOAD_STATUS 3 0 1
  { s with rc := { s.rc with notReady := s.rc.notReady ++ [5] } }

/-- The next of steps 2 to 4 of R385; domain 5 is ready after the last.  A reset that reaches the domain between two of them abandons
the load (R387). -/
def State.loadStep (s : State) (errs : List (Fin 6)) : State :=
  let k := s.fld Reg.UC_LOAD_STATUS 3 0
  if k == 1 then (s.loadPatch (errs.elem 3)).setFld Reg.UC_LOAD_STATUS 3 0 2
  else if k == 2 then (s.loadCustom (errs.elem 4)).setFld Reg.UC_LOAD_STATUS 3 0 3
  else ((s.loadCopies.setFld Reg.UC_LOAD_STATUS 3 0 5).rehFailures).domainReady 5

/-! ### Bays, engines, ports -/

/-- Step 6 of R645: bays and engines idle and in service, a Cue Engine asleep until something is deliverable to it (R573); a
bay that failed the full rehearsal stays out (R711). -/
def State.bootBays (s : State) : State :=
  let s := s.forEach (List.range 12) fun b s =>
    let failed := s.rbit Reg.REH_FAILED b
    (s.setRbit (Reg.BAY_STATUS b) 16 (!failed)).doIf failed fun s => s.modBay b fun x => { x with failed := true, out := true }
  let s := s.forEach (List.range 12) fun b s => s.serveBay b
  s.forEach (List.range 16) fun n s => ((s.setRbit (Reg.CE_STATUS n) 0 true).setRbit (Reg.CE_STATUS n) 6 true).cuexSync n

/-- Step 7 of R645: the MAC addresses of R662. -/
def State.bootNet (s : State) : State :=
  let m := s.otpBytes 0x108 6
  s.forEach (List.range 4) fun n s =>
    let a := beNat (m.take 5) * 256 + (beAt m 5 1 + n) % 256
    (s.setRegN (Reg.NET_MAC_LO n) a).setRegN (Reg.NET_MAC_HI n) (a / 2 ^ 32 % 65536)

/-! ### The Stage Manager -/

/-- The code region (TRUST_SM_CODE_BASE; R682): 16 MB. -/
def State.codeBase (s : State) : Nat :=
  let b := s.fld Reg.TRUST_SM_CODE_BASE_HI 7 0 * 2 ^ 32 + s.fld Reg.TRUST_SM_CODE_BASE_LO 31 20 * 2 ^ 20
  if b == 0 then s.dramSize - 2 ^ 24 else b
def codeSize : Nat := 2 ^ 24

/-- A segment of a Stage Manager image (R665). -/
structure Segment where
  index : Nat
  count : Nat
  image : Nat
  offset : Nat
  version : Nat
  data : List Byte

def Envelope.segment (e : Envelope) : Segment :=
  let p := e.payload
  { index := leAt p 0 2, count := leAt p 2 2, image := leAt p 4 4, offset := leAt p 8 4, version := e.version, data := p.drop 16 }

/-- The segments of a slot, from an offset on, `fuel` at most: as many as the first one's SEG_COUNT. -/
def State.segments (s : State) (slot : Nat) (bad : Bool) : Nat → Nat → Option Nat → Nat ⊕ List Segment
  | 0, _, _ => .inr []
  | fuel + 1, off, left =>
    if left == some 0 then .inr []
    else match s.readEnvelope slot off 3 bad with
      | .inl c => .inl c
      | .inr e =>
        let g := e.segment
        if Nat.blt e.payload.length 16 || leAt e.payload 12 4 != 0 || g.count == 0 || Nat.blt 64 g.count then .inl envBadFormat
        else match s.segments slot bad fuel ((off + e.bytes + 255) / 256 * 256) (some (left.getD g.count - 1)) with
          | .inl c => .inl c
          | .inr l => .inr (g :: l)

/-- R666: whether the segments make one image. -/
def segmentsOk (l : List Segment) : Bool :=
  match l with
  | [] => false
  | g :: _ =>
    (l.all fun h => h.count == g.count && h.image == g.image && h.version == g.version && Nat.ble (h.offset + h.data.length) codeSize) &&
      l.map (·.index) == List.range g.count && apart (l.map fun h => (h.offset, h.data.length))

/-- The image of a slot: its status and, where it is accepted, its segments. -/
def State.smImage (s : State) (slot : Nat) (bad : Bool) : Nat × List Segment :=
  if (s.slot slot).2 == 0 then (0, [])
  else match s.segments slot bad 64 0 none with
    | .inl c => (c, [])
    | .inr l => if segmentsOk l then (1, l) else (envBadFormat, [])

/-- An accepted image copied to the code region, its SHA-384 recorded. -/
def State.placeImage (s : State) (which : Nat) (l : List Segment) : State :=
  let s := s.forEach l fun g s => s.devWrite byPrompter (s.codeBase + g.offset) g.data
  let h := Config.sha384 (s.memBytes s.codeBase codeSize)
  let s := (s.setRegN Reg.TRUST_SM_VERSION ((l.map (·.version)).getD 0 0)).setFld Reg.TRUST_STATUS 6 5 which
  { s with trust := { s.trust with smHash := some h } }

/-- R666: the slot first in order, then the other; none accepted raises SM_IMAGE_REJECTED. -/
def State.loadImage (s : State) (errs : List (Fin 6)) : State :=
  let order := if nbit (s.optByte 8) 2 then [2, 1] else [1, 2]
  let st (i : Nat) : Nat × List Segment := s.smImage i (errs.any fun e => e.val == i)
  let a := order.getD 0 1
  let b := order.getD 1 2
  if (st a).1 == 1 then (s.placeImage a (st a).2).setFld Reg.TRUST_STATUS 23 16 1
  else if (st b).1 == 1 then (s.placeImage b (st b).2).setFld Reg.TRUST_STATUS 23 16 1
  else
    let s := (s.setFld Reg.TRUST_STATUS 23 16 (st b).1).setFld Reg.TRUST_STATUS 6 5 0
    { s with trust := { s.trust with smHash := none } }.raise 896 FaultKind.SM_IMAGE_REJECTED ((st 1).1 + 256 * (st 2).1)

/-- R668: whether the code region is as recorded. -/
def State.codeGood (s : State) : Bool :=
  match s.trust.smHash with
  | some h => Config.sha384 (s.memBytes s.codeBase codeSize) == h
  | none => false

/-- HOUSE_CAUSE but 4 (R676). -/
def State.houseCause (s : State) : Nat :=
  if nbit (s.optByte 8) 0 then 1 else if nbit (s.otpOpt 0) 0 then 2 else if s.fallback then 3 else 0

/-- Step 10 of R645: the image checked and loaded (R666, R668), fence 1 over the code region (R667), the house Stage
Manager where R676 has it, which runs no pair (R764 C39), the watchdog of R643, the severities locked (R691). -/
def State.bootStageManager (s : State) (errs : List (Fin 6)) : State :=
  let cause := s.houseCause
  let s := s.doIf (cause == 0 && !s.codeGood) fun s => s.loadImage errs
  let cause := if cause != 0 then cause else if s.trust.smHash.isNone then 4 else 0
  let s := (s.setRbit Reg.OPT_STATUS 12 (cause != 0)).setFld Reg.OPT_STATUS 15 13 cause
  let s := s.doIf (cause != 0 && s.rbit Reg.PAIR_CTRL 0) fun s => s.pairDown
  let s := s.setFence 1 (s.codeBase / 4096) ((s.codeBase + codeSize) / 4096 - 1) 0x101
  let s := s.setRbit Reg.FAULT_CTRL 0 true
  let s := s.doIf (s.fld Reg.REH_STATUS 2 0 == 5) fun s => s.rehEnd (s.regN Reg.REH_FAILED == 0)
  { s with rc := { s.rc with smwdStart := s.now, smKick := none, house := cause != 0, claim := none } }

/-! ### Release -/

/-- What the release of a domain position brings. -/
def State.bootDomain (s : State) (f : ReleaseFacts) (p : Nat) : State :=
  if p == 2 then s.bootOptions f.absent
  else if p == 3 then s.bootPrompter f.readErrors
  else if p == 4 then s.bootDram f
  else if p == 5 then s.bootStores
  else if p == 6 then s.bootBays
  else if p == 7 then s.bootNet
  else if p == 10 then s.showPcie
  else if p == 11 then s.bootStageManager f.readErrors
  else s

/-- What brings a domain that is released on towards being ready: the next load of the prompt book, the next step of the
microcode load; DRAM training has a command of its own. -/
def State.domainStep (s : State) (f : ReleaseFacts) : State :=
  if s.rc.notReady.elem 2 then s.optionStep f.absent
  else if s.rc.notReady.elem 5 then s.loadStep f.readErrors
  else s

/-- DOMAIN_RELEASE (R645, R646): after its gap, the first held domain, free of sources and with every earlier domain
ready; 9b in the next handshake step after 9a.  While a domain released is not ready, its next step. -/
def State.domainRelease (s : State) (f : ReleaseFacts) : State :=
  if !s.rc.notReady.isEmpty then s.domainStep f
  else match minBy? id s.rc.held with
  | none => s
  | some p =>
    if s.reached p then s
    else
      let ps := if p == 9 && s.domainHeld 10 && !s.reached 10 then [9, 10] else [p]
      let s := { s with rc := { s.rc with held := s.rc.held.filter fun q => !ps.elem q } }
      let s := s.forEach ps fun q s => s.bootDomain f q
      s.showReset.doIf (!s.domainHeld 1) fun s => s.showSums

def execDomainRelease (f : ReleaseFacts) (s : State) : Host.Outcome State Fault Refusal := .next (s.domainRelease f)

/-! ### Supplies and balls -/

/-- SUPPLY_RAMP_DONE (R790): every supply is above its threshold, which releases the power-on source. -/
def execSupplyRampDone (s : State) : Host.Outcome State Fault Refusal :=
  .next <| { s with rc := { s.rc with powered := true } }.releaseReset ResetSource.powerOn

/-- SUPPLY_DIP (R791): a supply below its threshold for 2 µs asserts power-on reset; a ball that is low stays so. -/
def State.supplyDip (s : State) : State :=
  let s := { s with rc := { s.rc with powered := false, asserted := s.rc.asserted.filter fun x => [ResetSource.powerOn, .rstN, .perstN].elem x } }
  s.assertReset .powerOn

def execSupplyDip (s : State) : Host.Outcome State Fault Refusal := .next s.supplyDip

/-- SUPPLY_REMOVE (R792): GLT and every DRAM_n_RESET_N are driven low; the supply that falls asserts power-on reset. -/
def execSupplyRemove (s : State) : Host.Outcome State Fault Refusal :=
  .next <| s.supplyDip.emit (.ball 0 false)

/-- RST_N or PERST_N low for 400 ns (R641): its source is asserted. -/
def execRstNAssert (s : State) : Host.Outcome State Fault Refusal :=
  .next <| { s with rc := { s.rc with rstN := false } }.assertReset ResetSource.rstN
def execPerstNAssert (s : State) : Host.Outcome State Fault Refusal :=
  .next <| { s with rc := { s.rc with perstN := false } }.assertReset ResetSource.perstN

/-- The ball is high again (R641). -/
def execRstNRelease (s : State) : Host.Outcome State Fault Refusal :=
  .next <| { s with rc := { s.rc with rstN := true } }.releaseReset ResetSource.rstN
def execPerstNRelease (s : State) : Host.Outcome State Fault Refusal :=
  .next <| { s with rc := { s.rc with perstN := true } }.releaseReset ResetSource.perstN

/-! ### Watchdogs and pulses -/

/-- A source of the RESET block: its message, then its reset in the same handshake step (R642, R643). -/
def State.resetFor (s : State) (src : ResetSource) (kind addr : Nat) : State := (s.raise 502 kind addr).assertReset src

/-- PROMPTER_WATCHDOG and PROMPTER_LOCKSTEP (R642), once domain 3 is released. -/
def execPrompterWatchdog (s : State) : Host.Outcome State Fault Refusal :=
  .next <| if s.domainHeld 3 then s else s.resetFor .pwd FaultKind.PROMPTER_WATCHDOG 0
def execPrompterLockstep (s : State) : Host.Outcome State Fault Refusal :=
  .next <| if s.domainHeld 3 then s else (s.setRbit Reg.TRUST_STATUS 1 false).resetFor .lockstep FaultKind.PROMPTER_LOCKSTEP 0

/-- SM_WATCHDOG (R643), once domain 10 is released. -/
def execSmWatchdog (s : State) : Host.Outcome State Fault Refusal :=
  .next <| if s.domainHeld 11 then s else s.resetFor .smwd FaultKind.SM_WATCHDOG 0

/-- RESET_PWD_KICK (R642): the count starts again; the register is RWP. -/
def State.pwdKick (s : State) (w : Writer) (v : Word) : State :=
  if w != .prompter then s
  else
    let s := s.store Reg.RESET_PWD_KICK v
    if s.domainHeld 3 then s else { s with rc := { s.rc with pwdStart := s.now } }

def execResetPwdKick (w : Writer) (v : Word) (s : State) : Host.Outcome State Fault Refusal :=
  .next <| s.ifLive 0x001 fun s => s.pwdKick w v

/-- RESET_SMWD_KICK (R643): 0x5A and 0xA5 in turn, by a Stage Manager core; any other write does nothing. -/
def State.smwdKick (s : State) (w : Writer) (v : Word) : State :=
  let k := bits v 7 0
  let sm := match w with
    | .stageManager _ => true
    | _ => false
  if sm && !s.domainHeld 11 && (k == 0x5A || k == 0xA5) && s.rc.smKick != some k then
    { s with rc := { s.rc with smKick := some k, smwdStart := s.now } }
  else s

def execResetSmwdKick (w : Writer) (v : Word) (s : State) : Host.Outcome State Fault Refusal :=
  .next <| s.ifLive 0x001 fun s => s.smwdKick w v

/-- RESET_CMD (R640, R679): written by the Prompter, its bits pulse their sources. -/
def State.resetCmd (s : State) (w : Writer) (full sm : Bool) : State :=
  if w != .prompter then s
  else
    let s := s.doIf sm fun s => s.assertReset .smReset
    s.doIf full fun s => s.assertReset .softFull

def execSoftFull (w : Writer) (s : State) : Host.Outcome State Fault Refusal := .next <| s.ifLive 0x001 fun s => s.resetCmd w true false
def execSmReset (w : Writer) (s : State) : Host.Outcome State Fault Refusal := .next <| s.ifLive 0x001 fun s => s.resetCmd w false true

/-- The sources that are internal pulses of 10 µs (R641). -/
def ResetSource.pulse : ResetSource → Bool
  | .pwd | .lockstep | .softFull | .pair | .smwd | .smReset => true
  | .powerOn | .rstN | .perstN | .rehearsal => false

/-- RESET_PULSE_END (R641): the pulses asserted since 10 µs end; their bits as in RESET_ASSERTED. -/
def execResetPulseEnd (which : BitVec 9) (s : State) : Host.Outcome State Fault Refusal :=
  let ends (x : ResetSource) : Bool := x.pulse && (match x.bit with
    | some n => nbit which.toNat n
    | none => false)
  .next <| s.forEach (s.rc.asserted.filter ends) fun x s => s.releaseReset x

end Sys2Proof.Machine
end

