-- ==== Sys2Proof/Machine/Pair.lean ====
section
/-! DEFINITION. Redundant pairs (R726 to R760): the link and its frames, roles, shadow encoding, cross-checks, takeover, planned
switch; with them the start and the end of an encode picture, which a pair turns over to its lead's PICTURE frames. -/

namespace Sys2Proof.Machine

/-! ### Roles and states -/

/-- Fault source 443 is the PAIR page's. -/
def State.raisePair (s : State) (kind addr : Nat) : State := s.raise 443 kind addr

/-- PAIR_LINK_LOST with its cause and the lanes up in receive (R756). -/
def State.linkLost (s : State) (cause : Nat) : State :=
  s.raisePair FaultKind.PAIR_LINK_LOST (cause + 16 * s.fld Reg.PAIR_STATUS 9 8)

/-- The encode contexts that run. -/
def State.encCtxs (s : State) : List Nat := (s.ctxs.map (·.1)).filter fun c => s.ctxEnabled c && s.isEncode c

def State.diverged (s : State) (c : Nat) : Bool := s.rbit (Reg.PAIR_DIVERGED (c / 32)) (c % 32)
def State.setDiverged (s : State) (c : Nat) (b : Bool) : State := s.setRbit (Reg.PAIR_DIVERGED (c / 32)) (c % 32) b

/-- R735: the peer ghost light is stopped. -/
def State.peerStopped (s : State) : Bool := !s.rbit Reg.PAIR_STATUS 6 || s.rbit Reg.PAIR_STATUS 7

def State.roleCfg (s : State) : Nat := s.fld Reg.PAIR_CTRL 2 1

/-- R744: a context becomes diverged. -/
def State.diverge (s : State) (c cause : Nat) : State :=
  if s.diverged c then s
  else
    let s := ((s.setDiverged c true).bump Reg.PAIR_DIVERGENCES 1).raisePair FaultKind.PAIR_SHADOW_DIVERGED (c + 256 * cause)
    let s := s.modPairCtx c fun x =>
      { x with hold := [], building := [], full := false, pics := [], mine := [], theirs := [], snap := [], resync := true }
    s.linkCommand 5 c 0 0

/-! ### HELLO -/

/-- What a HELLO says (R732). -/
structure PairHello where
  verMin : Nat
  verMax : Nat
  serial : Nat
  cfg : Nat
  role : Nat
  flags : Nat
  since : Nat
  deriving DecidableEq, Repr

def readPairHello (b : List Byte) : PairHello :=
  { verMin := beAt b 16 2, verMax := beAt b 18 2, serial := beAt b 20 8, cfg := beAt b 28 1, role := beAt b 29 1,
    flags := beAt b 30 1, since := beAt b 32 8 }

/-- LEAD_SINCE of this device. -/
def State.leadSince (s : State) : Nat := if s.pairRole == 1 then s.pair.leadSince else 0

/-- A HELLO on every lane with block lock (R733); its SEQ is 0. -/
def State.sendPairHello (s : State) : State :=
  let p := beBytes 2 1 ++ beBytes 2 1 ++ beBytes 8 (s.reg64 Reg.CHIP_SERIAL_LO) ++ beBytes 1 s.roleCfg ++ beBytes 1 s.pairRole ++
    beBytes 1 (b2n (s.rbit Reg.RESET_PAIR 0) + 2 * b2n (s.rbit Reg.FAULT_STATUS 0)) ++ [0] ++ beBytes 8 s.leadSince
  let f := linkFrame 1 1 0 s.now p
  s.forEach ((List.range 2).filter fun l => s.rbit Reg.PAIR_STATUS (8 + l)) fun _ s =>
    (s.emit (.pairFrame 1 f)).bump Reg.PAIR_FRAMES_TX 1

/-- PAIR_HELLO_TIMER (R733): every 10 ms while the link is not OPEN. -/
def execPairHelloTimer (s : State) : Host.Outcome State Fault Refusal :=
  .next <| s.ifLive 0x060 fun s => if s.pairOn && s.linkState != 2 then s.sendPairHello else s

/-- R728: the role after the link opens. -/
def State.roleAfter (s : State) (h : PairHello) : Nat :=
  let lower := Nat.blt (s.reg64 Reg.CHIP_SERIAL_LO) h.serial
  let me := s.pairRole == 1
  let peer := h.role == 1
  let first (b : Bool) : Nat := if b then 1 else 2
  if me != peer then first me
  else if me then (if s.leadSince == h.since then first lower else first (Nat.blt h.since s.leadSince))
  else if s.roleCfg != h.cfg then s.roleCfg
  else first lower

/-- The link opens and the roles settle (R728, R733). -/
def State.openLink (s : State) (h : PairHello) : State :=
  let was := s.pairRole
  let r := s.roleAfter h
  let s := ((s.setLink 2).setFld Reg.PAIR_STATUS 23 16 1).setReg64 Reg.PAIR_PEER_SERIAL_LO h.serial
  let s := { s with pair := { s.pair with
    txSeq := 1, rxNext := 1, waiting := [], echo := (0, 0), resetSent := none, noVersion := false } }
  let s := s.putRole r
  let s := s.doIf (r != s.roleCfg || (was == 1 && r == 2)) fun s => (s.setRbit Reg.PAIR_STATUS 5 true).linkLost 4
  if was == 1 && r == 2 then
    s.forEach s.encCtxs fun c s =>
      let q := (s.setDiverged c false).takeFree
      q.2.diverge c (q.1.toNat % 16)
  else s

/-- A sound HELLO (R733, R735); it may carry STOPPED. -/
def State.helloFrom (s : State) (h : PairHello) : State :=
  let s := s.doIf (nbit h.flags 1) fun s => s.setRbit Reg.PAIR_STATUS 7 true
  if [1, 3, 4].elem s.linkState then
    if Nat.ble h.verMin 1 && Nat.ble 1 h.verMax then s.openLink h
    else if s.pair.noVersion then s
    else { s with pair := { s.pair with noVersion := true } }.linkLost 3
  else s

/-! ### Takeover -/

/-- The picture in coding abandoned: the next one takes its place. -/
def State.dropPicture (s : State) (c : Nat) : State :=
  match (s.ctx c).pic with
  | none => s
  | some p => (s.modCtx c fun x => { x with pic := none, wantIdr := x.wantIdr || p.idr }).dropJobs c

/-- The next picture goes as if REFRESH_ALL were set, its packets numbered from `seq`. -/
def State.resumeByRefresh (s : State) (c : Nat) (seq : Option Nat) : State :=
  let s := s.dropPicture c
  (s.modCtx c fun x => { x with encPending := { x.encPending with all := true }, rtpSeq := seq.getD x.rtpSeq }).bump
    Reg.PAIR_TAKEOVER_REFRESHES 1

/-- R753: an encode context resumes. -/
def State.resumeCtx (s : State) (c : Nat) (div : Bool) : State :=
  let x := s.pairCtx c
  let after (n : Nat) : Nat := (n + 1) % 65536
  let s := s.setPairCtx c PairCtx.init
  if div then s.resumeByRefresh c (x.lastSent.map after)
  else
    let l := x.hold.flatten ++ (if x.full then [] else x.building)
    let l := l.filter fun p => match x.lastSent with
      | some q => later16 p.seq q
      | none => true
    let s := s.forEach l fun p s => s.putRtp c p
    if x.full then s.resumeByRefresh c ((l.getLast?.map fun p => after p.seq).or (x.lastSent.map after)) else s

/-- The sessions of a context as the copies tell them (R752 step 3). -/
def State.sessionsOf (s : State) (c : Nat) : List EncSession :=
  (s.pair.sessions.filter fun e => e.ctx == c).map fun e =>
    { id := e.id, src := e.peer, srcPort := e.peerPort, port := lowPort (s.flow (s.fld (Reg.ENC_FLOW c) 7 0)).portMask,
      version := e.version, dlExact := e.dlExact, dlLossy := e.dlLossy, netAllow := e.netAllow, kaMs := e.kaMs,
      lastSeq := e.lastAcc, seq := (e.lastSent + 0x10000000) % 2 ^ 32, stale := 0, unsourced := 0, updWait := [] }

/-- R751: what a takeover takes beside the state of the link. -/
def State.mayTakeover (s : State) : Bool := s.pairRole == 2 && s.rbit Reg.PAIR_CTRL 5 && !s.rbit Reg.FAULT_STATUS 0

/-- R752: a takeover. -/
def State.takeover (s : State) : State :=
  let cs := s.encCtxs
  let div := cs.filter fun c => s.diverged c
  let n := (cs.filter fun c => s.diverged c || (s.pairCtx c).full).length
  let trigger := if s.rbit Reg.PAIR_STATUS 7 then 2 else 1
  let s := s.setRbit Reg.PAIR_STATUS 12 true
  let s := s.doIf s.pair.swTime.isSome fun s => s.setRegN Reg.PAIR_CMD_STATUS 0
  let s := { s with pair := { s.pair with swTime := none, swAgreed := false } }
  let s := (s.putRole 1).raisePair FaultKind.PAIR_TAKEOVER (trigger + 256 * (n % 256))
  let s := s.doIf (s.rbit Reg.PAIR_CTRL 3) fun s =>
    s.forEach ((List.range 4).filter fun p => s.enabled (0x030 + p)) fun p s =>
      let a4 := v4Mapped (s.regN (Reg.PAIR_SVC_IPV4 p))
      let a6 := s.addr4 (Reg.PAIR_SVC_IPV6 p 0)
      (((s.emit (.netAnswer p 5 a4 0)).emit (.netAnswer p 5 a4 0)).emit (.netAnswer p 6 a6 0)).emit (.netAnswer p 6 a6 0)
  let s := s.forEach cs fun c s =>
    ((s.modCtx c fun x => { x with encs := s.sessionsOf c }).resumeCtx c (div.elem c)).sessStatus c
  ((s.setRbit Reg.PAIR_STATUS 12 false).setReg64 Reg.PAIR_LAST_TAKEOVER_LO s.now).bump Reg.PAIR_TAKEOVERS 1

/-- Takeover when R751 allows it. -/
def State.takeoverIf (s : State) : State := if s.mayTakeover then s.takeover else s

/-- R735: the peer ghost light has become stopped in LOST or PARTITION. -/
def State.afterStop (s : State) (was : Bool) : State :=
  if !was && s.peerStopped && (s.linkState == 3 || s.linkState == 4) then (s.setLink 3).takeoverIf else s

/-- TAKEOVER (R751, R752): the conditions of R735 hold. -/
def execTakeover (s : State) : Host.Outcome State Fault Refusal :=
  .next <| s.ifLive 0x060 fun s => if s.pairOn && s.linkState == 3 && s.peerStopped then s.takeoverIf else s

/-- Whether heartbeats are awaited: the link is OPEN, or was and lost its block lock since (assumption 56). -/
def State.awaitsHeartbeat (s : State) : Bool :=
  s.pairOn && (s.linkState == 2 || (Nat.blt s.linkState 2 && s.fld Reg.PAIR_STATUS 23 16 != 0))

/-- HEARTBEAT_LOSS (R735): 5 ms without a valid heartbeat. -/
def execHeartbeatLoss (s : State) : Host.Outcome State Fault Refusal :=
  .next <| s.ifLive 0x060 fun s =>
    if s.awaitsHeartbeat then
      let s := (s.linkLost 1).setLink 3
      if s.peerStopped then s.takeoverIf else s
    else s

/-- GLT_PEER_EDGE (R735). -/
def execGltPeerEdge (s : State) : Host.Outcome State Fault Refusal :=
  .next <| s.ifLive 0x060 fun s =>
    let s := s.setRbit Reg.PAIR_STATUS 6 true
    if s.pairOn && s.linkState == 3 then (s.raisePair FaultKind.PAIR_PARTITION 0).setLink 4 else s

/-- PEER_GLT_SILENT (R735): PEER_GLT_MS without an edge. -/
def execPeerGltSilent (s : State) : Host.Outcome State Fault Refusal :=
  .next <| s.ifLive 0x060 fun s =>
    let was := s.peerStopped
    let s := s.setRbit Reg.PAIR_STATUS 6 false
    if s.pairOn then s.afterStop was else s

/-- PAIR_BLOCK_LOCK (R735). -/
def execPairBlockLock (lane : Bool) (s : State) : Host.Outcome State Fault Refusal :=
  .next <| s.ifLive 0x060 fun s =>
    if s.pairOn then
      let s := s.setRbit Reg.PAIR_STATUS (8 + b2n lane) true
      if s.linkState == 0 then (s.setLink 1).sendPairHello else s
    else s

/-- PAIR_LANE_LOSS (R737): one lane loses block lock. -/
def execPairLaneLoss (lane : Bool) (s : State) : Host.Outcome State Fault Refusal :=
  .next <| s.ifLive 0x060 fun s =>
    if s.pairOn && s.rbit Reg.PAIR_STATUS (8 + b2n lane) then
      let s := s.setRbit Reg.PAIR_STATUS (8 + b2n lane) false
      if s.rbit Reg.PAIR_STATUS (8 + b2n (!lane)) then s.linkLost 2 else s
    else s

/-- PAIR_LOCK_LOSS (R735): 1 ms without block lock on any lane. -/
def execPairLockLoss (s : State) : Host.Outcome State Fault Refusal :=
  .next <| s.ifLive 0x060 fun s =>
    let s := s.setFld Reg.PAIR_STATUS 9 8 0
    if s.linkState == 3 || s.linkState == 4 then s else s.setLink 0

/-! ### Heartbeats -/

/-- PAIR_HEARTBEAT_TIMER (R734): every 1 ms while the link is OPEN and the heartbeat of R704 alive. -/
def execPairHeartbeatTimer (s : State) : Host.Outcome State Fault Refusal :=
  .next <| s.ifLive 0x060 fun s =>
    if s.linkOpen && s.rbit Reg.FAULT_STATUS 1 then
      let cs := (s.encCtxs.filter fun c => s.transmits c).take 32
      s.linkSend 2 (beBytes 1 (b2n (s.rbit Reg.FAULT_STATUS 0) + 2 * b2n s.locked + 4 * b2n (s.rbit Reg.PAIR_STATUS 10)) ++
        beBytes 1 s.pairRole ++ beBytes 1 cs.length ++ [0] ++ beBytes 8 s.pair.echo.1 ++ beBytes 8 s.pair.echo.2 ++
        cs.flatMap fun c => beBytes 1 c ++ [0] ++ beBytes 2 (s.fld (Reg.ENC_RTP_LAST c) 15 0))
    else s

/-- PAIR_TIME_OFFSET and TIME_SKEW (R738); an offset beyond the register is a free value (assumption 2). -/
def State.timeOffset (s : State) (b : List Byte) (t4 : Nat) : State :=
  let o : Int := (((beAt b 28 8 : Nat) : Int) - (beAt b 20 8 : Nat) - ((t4 : Int) - (beAt b 8 8 : Nat))).fdiv 2
  let s := if o.natAbs < 2 ^ 31 then s.setReg Reg.PAIR_TIME_OFFSET (w32 o)
    else let q := s.takeFree; q.2.setReg Reg.PAIR_TIME_OFFSET q.1
  if Nat.blt (s.regN Reg.PAIR_TIME_LIMIT) o.natAbs then
    if s.rbit Reg.PAIR_STATUS 14 then s
    else (s.setRbit Reg.PAIR_STATUS 14 true).raisePair FaultKind.PAIR_XCHECK_MISMATCH (5 * 2 ^ 24)
  else s.setRbit Reg.PAIR_STATUS 14 false

/-- A HEARTBEAT accepted (R735, R738, R746, R748). -/
def State.heartbeatFrom (s : State) (b : List Byte) (t4 : Nat) : State :=
  let was := s.peerStopped
  let fl := beAt b 16 1
  let s := (s.timeOffset b t4).setRbit Reg.PAIR_STATUS 7 (nbit fl 0)
  let s := s.setRbit Reg.PAIR_STATUS 11 (nbit fl 2)
  let crossed := match s.pair.resetSent with
    | some t => if Nat.blt t (beAt b 20 8) then none else some t
    | none => none
  let s := { s with pair := { s.pair with echo := (beAt b 8 8, t4), resetSent := crossed } }
  let s := s.forEach (List.range (beAt b 18 1)) fun i s =>
    let c := beAt b (36 + 4 * i) 1
    let last := beAt b (38 + 4 * i) 2
    if s.transmits c then s else s.modPairCtx c fun x => x.freeUpTo last
  s.afterStop was

/-! ### Snapshots -/

/-- The snapshot of a context (R745). -/
def State.snapshot (s : State) (c : Nat) : List Byte :=
  let x := s.ctx c
  let carried (k : Nat) : Nat :=
    let q := x.ctu (k / 64 * x.ctuCols + k % 64)
    if Nat.blt (k % 64) x.ctuCols && Nat.blt (k / 64) x.ctuRows && q.owed then (if q.exactOwed then 2 else 1) else 0
  let owedRow (r : Nat) : Nat :=
    if (List.range x.ctuCols).any fun k => (x.ctu (r * x.ctuCols + k)).owed then 2 ^ r else 0
  beBytes 8 x.rate.fullness.toNat ++ beBytes 4 x.rate.exactPrev ++ beBytes 1 x.rate.qp.toNat ++ beBytes 1 x.rate.row ++
    beBytes 2 x.nextSheetSeq ++ beBytes 2 x.rtpSeq ++ [0, 0] ++ beBytes 8 (sumOf owedRow (List.range x.ctuRows)) ++
    beBytes 4 ((x.rate.prevTs + s.regN (Reg.ENC_RTP_TS_OFFSET c)) % 2 ^ 32) ++ ((List.range 576).flatMap fun i => beBytes 1 (x.cell i).alive) ++
    ((List.range 2304).flatMap fun a => beBytes 1 (x.ctu a).held) ++
    (List.range 576).flatMap fun j => beBytes 1 (carried (4 * j) + 4 * carried (4 * j + 1) + 16 * carried (4 * j + 2) +
      64 * carried (4 * j + 3))

/-- The lead sends the snapshot in STATE frames and refreshes its next picture (R745). -/
def State.sendSnapshot (s : State) (c : Nat) : State :=
  let b := s.snapshot c
  let s := s.forEach [0, 1024, 2048, 3072] fun o s =>
    s.linkSend 8 (beBytes 1 c ++ [0] ++ beBytes 2 o ++ beBytes 2 3488 ++ [0, 0] ++ sliceB b o 1024)
  (s.modPairCtx c fun x => { x with resync := false }).modCtx c fun x =>
    { x with encPending := { x.encPending with all := true } }

/-- RESYNC_REQ at the lead (R745): at once, or after the picture in coding. -/
def State.resyncFrom (s : State) (c : Nat) : State :=
  if s.pairRole != 1 || !s.ctxEnabled c || !s.isEncode c then s
  else if (s.ctx c).pic.isSome then s.modPairCtx c fun x => { x with resync := true }
  else s.sendSnapshot c

/-- What a cell and a CTU take from a snapshot. -/
def snapCell (b : List Byte) (i : Nat) (r : CellRec) : CellRec := { r with alive := beAt b (32 + i) 1, seen := true }
def snapCtu (b : List Byte) (cols a : Nat) (r : CtuRec) : CtuRec :=
  let k := a / cols * 64 + a % cols
  let m := beAt b (2912 + k / 4) 1 / 4 ^ (k % 4) % 4
  { r with held := beAt b (608 + a) 1, owed := m != 0, exactOwed := m == 2, decided := false, coded := false, carried := false }

/-- The understudy adopts a snapshot (R745). -/
def State.adopt (s : State) (c : Nat) (b : List Byte) : State :=
  let s := s.dropPicture c
  let s := s.modCtx c fun x =>
    let x := (List.range x.cellCount).foldl (fun x i => x.setCell i (snapCell b i (x.cell i))) x
    let cols := x.ctuCols
    { (x.mapCtus fun a r => snapCtu b cols a r) with
      wantIdr := false, nextSheetSeq := beAt b 14 2, rtpSeq := beAt b 16 2,
      rate := { first := false, fullness := (beAt b 0 8 : Nat), prevTs := s.rtpTick c (beAt b 28 4), exactPrev := beAt b 8 4,
                qp := (beAt b 12 1 : Nat), row := beAt b 13 1 } }
  (s.storeCells c).modPairCtx c fun x => { x with
    pics := [], hold := [], building := [], full := false, mine := [], theirs := [], snap := [], resync := false, au := [] }

/-- A STATE frame at the understudy. -/
def State.stateFrom (s : State) (b : List Byte) : State :=
  let c := beAt b 16 1
  if s.pairRole != 2 || !(s.pairCtx c).resync then s
  else
    let o := beAt b 18 2
    let body := (b.drop 24).take (b.length - 28)
    let m := (List.range body.length).foldl (fun m i => Sparse.set (fun _ => none) m (o + i) (body[i]?)) (s.pairCtx c).snap
    let s := s.modPairCtx c fun x => { x with snap := m }
    let got := (List.range 3488).map fun i => Sparse.get (fun _ => none) m i
    if got.all (·.isSome) then s.adopt c (got.map fun v => v.getD 0) else s

/-! ### Digests -/

/-- The first digests of either partner for one access unit (R743): equal, the context is no longer diverged; else it is. -/
def State.matchDigest (s : State) (c : Nat) : State :=
  let x := s.pairCtx c
  match x.mine.find? fun d => x.theirs.any fun e => e.ts == d.ts with
  | none => s
  | some d => match x.theirs.find? fun e => e.ts == d.ts with
    | none => s
    | some e =>
      let s := s.modPairCtx c fun x => { x with mine := x.mine.erase d, theirs := x.theirs.erase e }
      if decide (d = e) then s.setDiverged c false else s.diverge c 1

/-- A DIGEST of the lead. -/
def State.digestFrom (s : State) (b : List Byte) : State :=
  let c := beAt b 16 1
  if s.pairRole != 2 then s
  else
    let d : PairDigest := { ts := beAt b 20 4, first := beAt b 24 2, last := beAt b 26 2, bytes := beAt b 28 4, crc := beAt b 32 4 }
    if (s.pairCtx c).resync then s else (s.modPairCtx c fun x => { x with theirs := x.theirs ++ [d] }).matchDigest c

/-- The end of an access unit in a pair (R743, R745): `crc` over its RTP headers and payloads. -/
def State.pairPictureEnd (s : State) (c ts crc : Nat) : State :=
  if s.pairRole == 0 then s
  else
    let x := s.pairCtx c
    let d : PairDigest := { ts := ts, first := (x.au.headD (0, 0)).1, last := (x.au.getLastD (0, 0)).1,
                            bytes := sumOf (·.2) x.au % 2 ^ 32, crc := crc }
    let s := s.modPairCtx c fun x => { x with au := [] }
    if s.pairRole == 1 then
      let s := s.doIf (!s.rbit Reg.FAULT_STATUS 0) fun s =>
        s.linkSend 5 (beBytes 1 c ++ [0, 0, 0] ++ beBytes 4 d.ts ++ beBytes 2 d.first ++ beBytes 2 d.last ++ beBytes 4 d.bytes ++
          beBytes 4 d.crc)
      if (s.pairCtx c).resync then s.sendSnapshot c else s
    else (s.modPairCtx c fun x => { x with mine := x.mine ++ [d] }).matchDigest c

/-- ENC_PICTURE_COMPLETE: the picture ends, its digest goes (R743), the lanes and row jobs are done with it. -/
def execEncPictureComplete (c : Nat) (sfx : List Byte) (hooks : List (Option Nat)) (digest : Word) (s : State) : Host.Outcome State Fault Refusal :=
  .next <| match (s.ctx c).pic with
    | none => s
    | some p =>
      let t := s.encPictureComplete c sfx hooks
      if (t.ctx c).pic.isNone then ((t.pairPictureEnd c p.ts digest.toNat).dropJobs c).stopIfDone c else t

/-! ### A planned switch (R754) -/

/-- The switch ends with a result. -/
def State.switchEnd (s : State) (result : Nat) : State :=
  { s with pair := { s.pair with swTime := none, swAgreed := false } }.setRegN Reg.PAIR_CMD_STATUS (16 * (result % 16))

/-- Step 4: every encode context has turned over; the roles swap. -/
def State.switchDone (s : State) : State :=
  match s.pair.swTime with
  | some t =>
    if s.pair.swAgreed && Nat.ble t s.now && s.encCtxs.all fun c => (s.pairCtx c).switched then
      let r := if s.pairRole == 1 then 2 else if s.pairRole == 2 then 1 else 0
      let s := s.forEach s.encCtxs fun c s => s.modPairCtx c fun x => { x with switched := false }
      let s := s.putRole r
      (s.setRbit Reg.PAIR_STATUS 5 (r != s.roleCfg)).switchEnd 1
    else s
  | none => s

/-- Step 3: a picture of the context starts at `tx`, the lead's time; at or after SWITCH_TIME it turns over. -/
def State.switchAt (s : State) (c tx : Nat) : State :=
  match s.pair.swTime with
  | some t =>
    if s.pair.swAgreed && Nat.ble t tx && !(s.pairCtx c).switched then
      s.modPairCtx c fun x => { x with switched := true, hold := [], building := [], full := false }
    else s
  | none => s

/-- PAIR_SWITCH: a write of PAIR_CMD.SWITCH (R754); an understudy asks its lead with a SWITCH_TIME of 0. -/
def State.pairSwitch (s : State) : State :=
  let r := s.switchRefusal
  if r != 0 then s.setFld Reg.PAIR_CMD_STATUS 7 4 r
  else if s.pairRole == 1 then s.switchStart
  else (s.setRegN Reg.PAIR_CMD_STATUS 1).linkCommand 1 0 0 0

/-- SWITCH_REQ from the partner. -/
def State.switchReqFrom (s : State) (time : Nat) : State :=
  if s.pairRole == 1 then
    let r := s.switchRefusal
    if r != 0 then s.linkCommand 3 0 r 0 else s.switchStart
  else
    let r := if s.pair.swTime.isSome then 3
      else if (List.range 8).any (fun k => s.regN (Reg.PAIR_DIVERGED k) != 0) then 4 else 0
    if r != 0 then s.linkCommand 3 0 r 0
    else
      let s := (s.setRegN Reg.PAIR_CMD_STATUS 1).linkCommand 2 0 0 time
      { s with pair := { s.pair with swTime := some time, swAgreed := true } }.switchDone

/-- SWITCH_ACK from the partner. -/
def State.switchAckFrom (s : State) : State :=
  if s.pair.swTime.isSome then { s with pair := { s.pair with swAgreed := true } }.switchDone else s

/-- SWITCH_REFUSE from the partner, which also answers a RESET (R755). -/
def State.switchRefuseFrom (s : State) (status : Nat) : State :=
  { s.switchEnd status with pair := { s.pair with swTime := none, swAgreed := false, resetSent := none } }

/-! ### RESET (R644, R755) -/

/-- A write of PAIR_CMD.RESET_PEER. -/
def State.resetPeer (s : State) : State :=
  if s.linkOpen then
    let s := (s.setFld Reg.PAIR_CMD_STATUS 7 4 1).linkCommand 4 0 0 0
    { s with pair := { s.pair with resetSent := some s.now } }
  else s.setFld Reg.PAIR_CMD_STATUS 7 4 2

/-- A RESET command: the lead's stands when two cross. -/
def State.resetFrom (s : State) : State :=
  if s.pair.resetSent.isSome && s.pairRole == 1 then s.linkCommand 3 0 5 0
  else if s.rbit Reg.RESET_PAIR 0 then s.assertReset .pair
  else (s.bump Reg.RESET_COUNT_PAIR_REFUSED 1).raise 502 FaultKind.PAIR_RESET_REFUSED 0

/-- A write of PAIR_CMD. -/
def execPairSwitch (s : State) : Host.Outcome State Fault Refusal := .next <| s.ifLive 0x060 fun s => s.pairSwitch
def execResetPeer (s : State) : Host.Outcome State Fault Refusal := .next <| s.ifLive 0x060 fun s => s.resetPeer

/-! ### PICTURE frames -/

/-- Bytes of a cell bitmap of 72 bytes. -/
def cellBitmap (cells : List Nat) : List Byte := refreshBitmap { all := false, cells := cells } 576

/-- A PICTURE frame read. -/
def readPicture (b : List Byte) : PairPic :=
  { tx := beAt b 8 8, flags := beAt b 17 1, gen := beAt b 18 1, key := beAt b 20 8, line := beAt b 28 4,
    unproven := bitmapCells (sliceB b 8 96) 576, refresh := bitmapCells (sliceB b 80 96) 576,
    times := (List.range (beAt b 19 1)).map fun r => beAt b (176 + 8 * r) 8 }

/-- A PICTURE frame at the understudy (R739, R744). -/
def State.pictureFrom (s : State) (b : List Byte) : State :=
  let c := beAt b 16 1
  if s.pairRole != 2 || !s.ctxEnabled c || !s.isEncode c || (s.pairCtx c).resync then s
  else
    let s := s.modPairCtx c fun x => { x with pics := x.pics ++ [readPicture b] }
    if Nat.ble (max 1 (s.fld Reg.PAIR_CTRL 19 16)) (s.pairCtx c).pics.length then s.diverge c 4 else s

/-- The key of a source (R732): capture token of row 0, SRC_SEQ, or the source context's output RTP timestamp. -/
def State.sourceKey (s : State) (c : Nat) (src : EncSource) : Nat :=
  let sel := s.encSel c
  if Nat.ble sel 3 then src.time.getD 0
  else if sel == 4 then (s.ctx c).lastSrcSeq.getD 0
  else s.regN (Reg.DEC_OUT_RTP_TS (s.fld (Reg.ENC_SOURCE c) 15 8))

/-- The lead's PICTURE frame for a picture that has started: `before` the state it started from, `src` its source. -/
def State.sendPicture (s before : State) (c : Nat) (src : EncSource) (p : EncPicture) : State :=
  let x := before.ctx c
  let per := before.fld (Reg.ENC_REFRESH c) 15 0 * 1000000
  let wave := per != 0 && Nat.ble (x.waveStart + per) before.now && !p.idr && !x.encPending.all
  s.linkSend 4 (beBytes 1 c ++ beBytes 1 (b2n (s.ctx c).v1Active + 2 * b2n x.encPending.all + 4 * b2n wave) ++
    beBytes 1 (s.shadowGen (ctxPage c)) ++ beBytes 1 src.rowTimes.length ++ beBytes 8 (s.sourceKey c src) ++ beBytes 4 src.linePs ++
    cellBitmap src.badCells ++ cellBitmap x.encPending.cells ++ src.rowTimes.flatMap fun t => beBytes 8 (t.getD 0))

/-- How a source on hand stands to a PICTURE frame's key. -/
inductive KeyMatch where
  | same | before | after
  deriving DecidableEq, Repr

def keyMatch32 (own key : Nat) : KeyMatch :=
  if own % 2 ^ 32 == key % 2 ^ 32 then .same else if later32 own key then .after else .before

/-- The source of a shadow picture: the picture from its own source, what R740 takes from the PICTURE frame in place of its own
values. -/
def PairPic.source (p : PairPic) (pic : PicRef) (buf num : Option Nat) : EncSource :=
  { pic := pic, time := p.times.head?, rowTimes := p.times.map some, linePs := p.line, badCells := p.unproven, buf := buf, num := num }

/-- The complete frame of a port that matches a PICTURE frame, by its place in the ring (R739): of those whose row 0 token lies
within PAIR_MATCH_US of SRC_KEY the nearest; a frame without a token matches none. -/
def State.matchCapture (s : State) (n key : Nat) : Option (Nat × CapFrame) :=
  let lim := s.fld Reg.PAIR_MATCH 15 0 * 1000
  let off (q : Nat × CapFrame) : Option Nat :=
    (Sparse.get (fun _ => none) q.2.times 0).map fun t => ((t : Int) - (key : Int)).natAbs
  (minBy? (fun q : Nat × CapFrame => (off q).getD 0) ((s.dpIn n).frames.filter fun q =>
    q.2.complete && (match off q with
      | some e => Nat.ble e lim
      | none => false))).bind fun q => some q

/-- The capture, host or decoded source that matches a PICTURE frame (R739), with the values R740 takes from the frame;
none while none has come, `true` when a later one shows that none will. -/
def State.matchSource (s : State) (c : Nat) (p : PairPic) : Option EncSource × Bool × State :=
  let sel := s.encSel c
  let took (s : State) (n : Nat) : State :=
    s.modCtx c fun x => { x with lastCap := some (if Nat.ble sel 3 then sel else 8 + s.fld (Reg.ENC_SOURCE c) 15 8, n) }
  if Nat.ble sel 3 then
    match s.matchCapture sel p.key with
    | some (i, f) =>
      match (s.dpIn sel).ring[i]? with
      | some h =>
        let pic := { bufPic (s.bufAddr (h % 2 ^ 24)) (s.capFmt sel) f.num with
                     matrix := (s.portColour sel).1, full := (s.portColour sel).2 }
        (some (p.source pic none (some f.num)), false, took s f.num)
      | none => (none, false, s)
    | none => (none, (s.dpIn sel).frames.any (fun q => q.2.complete && (match Sparse.get (fun _ => none) q.2.times 0 with
        | some t => Nat.blt p.key t
        | none => false)), s)
  else if sel == 4 then
    let size := max 1 (s.srcqSize c)
    let head := s.fld (Reg.ENC_SRCQ_HEAD c) 7 0 % size
    let n := (s.fld (Reg.ENC_SRCQ_TAIL c) 7 0 % size + size - head) % size
    let ds := (List.range n).map fun j => s.srcDesc c ((head + j) % size)
    match ds.findIdx? fun d => s.descValid c d && leAt d 20 4 == p.key % 2 ^ 32 with
    | some j =>
      let d := ds.getD j []
      let s := s.forEach (ds.take j) fun d s => s.poolDrop (leAt d 0 4)
      let s := (s.setRegN (Reg.ENC_SRCQ_HEAD c) ((head + j + 1) % size)).modCtx c fun x => { x with lastSrcSeq := some (leAt d 20 4) }
      (some (p.source (s.hostSource c d).pic (some (leAt d 0 4)) none), false, s)
    | none => (none, ds.any (fun d => s.descValid c d && later32 (leAt d 20 4) p.key), s)
  else if sel == 5 then
    let y := s.fld (Reg.ENC_SOURCE c) 15 8
    match (s.ctx y).shown with
    | some pic => match keyMatch32 (s.regN (Reg.DEC_OUT_RTP_TS y)) p.key with
      | .same => (some (p.source pic none (some pic.num)), false, took s pic.num)
      | .before => (none, false, s)
      | .after => (none, true, s)
    | none => (none, false, s)
  else (none, false, s)

/-- R741: the hand-over of the lead followed; `false` when it cannot be. -/
def State.followHandover (s : State) (c gen : Nat) : State × Bool :=
  let own := s.shadowGen (ctxPage c)
  if gen == own then (s, true)
  else if gen == (own + 1) % 256 then
    let t := s.ctxHandover c
    (t, t.shadowGen (ctxPage c) == gen)
  else (s, false)

/-- A shadow picture starts (R739, R740): on the oldest PICTURE frame, from its own source that matches. -/
def State.shadowStart (s : State) (c : Nat) (pfx : List Byte) (hooks : List (Option Nat)) : State :=
  let x := s.ctx c
  if !s.ctxEnabled c || !s.isEncode c || x.pic.isSome || x.stopping then s
  else match (s.pairCtx c).pics with
    | [] => s
    | p :: rest =>
      match s.followHandover c p.gen with
      | (s, false) => s.diverge c 3
      | (s, true) =>
        match s.matchSource c p with
        | (none, true, s) => s.diverge c 2
        | (none, false, s) => s
        | (some src, _, s) =>
          let s := (s.modPairCtx c fun x => { x with pics := rest, au := [] }).switchAt c p.tx
          let s := s.modCtx c fun x => { x with encPending := { all := nbit p.flags 1, cells := p.refresh } }
          (s.startSource c src pfx hooks (some (nbit p.flags 0, nbit p.flags 2))).switchDone

/-- ENC_PICTURE_START (R186, R739, R754): in a pair the understudy follows the PICTURE frames of its lead.  `pfx` is what
the SEI_PREFIX hook writes, `hooks` the PKT_BUILD results of the packets that go ahead of the slices. -/
def execEncPictureStart (c : Nat) (pfx : List Byte) (hooks : List (Option Nat)) (s : State) : Host.Outcome State Fault Refusal :=
  .next <| s.ifLive (ctxPage c) fun s =>
    if s.pairRole == 2 then s.shadowStart c pfx hooks
    else if s.pairRole == 1 then
      let s := s.doIf (s.ctxEnabled c && (s.ctx c).pic.isNone) fun s => s.switchAt c s.now
      let t := s.encPictureStart c pfx hooks
      match (s.ctx c).pic, (t.ctx c).pic, (s.takeSource c).2 with
      | none, some p, some src => ((t.modPairCtx c fun x => { x with au := [] }).sendPicture s c src p).switchDone
      | _, _, _ => t.switchDone
    else s.encPictureStart c pfx hooks

/-! ### SESSION frames -/

/-- A SESSION frame at the understudy (R750). -/
def State.sessionFrom (s : State) (b : List Byte) : State :=
  if s.pairRole != 2 then s
  else
    let e : SessCopy :=
      { ctx := beAt b 16 1, id := beAt b 20 4, peer := beAt b 24 16, peerPort := beAt b 40 2, version := beAt b 42 2,
        lastSent := beAt b 44 4, lastAcc := beAt b 48 4, kaMs := beAt b 52 2, dlExact := beAt b 54 2, dlLossy := beAt b 56 2,
        netAllow := beAt b 58 2 }
    let rest := s.pair.sessions.filter fun o => !(o.ctx == e.ctx && o.id == e.id && o.peer == e.peer)
    { s with pair := { s.pair with sessions := if beAt b 17 1 == 2 then rest else rest ++ [e] } }

/-- SESSION_FRAME_TIMER (R750): every 10 s for every open session. -/
def execSessionFrameTimer (s : State) : Host.Outcome State Fault Refusal :=
  .next <| s.ifLive 0x060 fun s => s.forEach s.encCtxs fun c s => s.forEach (s.ctx c).encs fun e s => s.linkSession c 4 e

/-! ### Cross-checks -/

/-- The entries of an XCHECK frame, come at `t`. -/
def readXcheck (b : List Byte) (t : Nat) : List XEntry :=
  (List.range (beAt b 17 1)).map fun i =>
    let o := 24 + 20 * i
    XEntry.mk (beAt b 16 1) (beAt b 20 4) (beAt b o 2) (beAt b (o + 2) 1) (beAt b (o + 4) 4) (beAt b (o + 8) 4) (beAt b (o + 12) 8) t

def State.xcheckFrom (s : State) (b : List Byte) (t : Nat) : State :=
  { s with pair := { s.pair with theirs := s.pair.theirs ++ readXcheck b t } }.xmatch

/-- XCHECK_WAIT_EXPIRY (R747): entries that have waited PAIR_XCHECK_WAIT. -/
def execXcheckWaitExpiry (s : State) : Host.Outcome State Fault Refusal :=
  .next <| s.ifLive 0x060 fun s =>
    let lim := s.fld Reg.PAIR_XCHECK_WAIT 15 0 * 1000000
    let fresh (e : XEntry) : Bool := Nat.blt s.now (e.at_ + lim)
    let m := s.pair.mine.filter fresh
    let t := s.pair.theirs.filter fresh
    let n := (s.pair.mine.length - m.length) + (s.pair.theirs.length - t.length)
    { s with pair := { s.pair with mine := m, theirs := t } }.bump Reg.PAIR_XCHECK_UNMATCHED n

/-- SUSPECT_CLEAR (R748): 10 s without a self-faulty verdict. -/
def execSuspectClear (s : State) : Host.Outcome State Fault Refusal :=
  .next <| s.ifLive 0x060 fun s =>
    { s with pair := { s.pair with suspects := [] } }.setRbit Reg.PAIR_STATUS 10 false

/-! ### Reception (R729 to R731) -/

/-- A frame applied in its turn; `t` its arrival token. -/
def State.applyFrame (s : State) (b : List Byte) (t : Nat) : State :=
  match beAt b 1 1 with
  | 2 => s.heartbeatFrom b t
  | 3 => s.xcheckFrom b t
  | 4 => s.pictureFrom b
  | 5 => s.digestFrom b
  | 6 => s.sessionFrom b
  | 7 => match beAt b 16 1 with
    | 1 => s.switchReqFrom (beAt b 20 8)
    | 2 => s.switchAckFrom
    | 3 => s.switchRefuseFrom (beAt b 18 2)
    | 4 => s.resetFrom
    | 5 => s.resyncFrom (beAt b 17 1)
    | _ => s
  | 8 => s.stateFrom b
  | _ => s

/-- Frames that wait and whose turn has come. -/
def State.drainFrames (s : State) : Nat → State
  | 0 => s
  | k + 1 => match s.pair.waiting.find? fun w => w.1 == s.pair.rxNext with
    | none => s
    | some w =>
      let s := { s with pair := { s.pair with waiting := s.pair.waiting.erase w, rxNext := (s.pair.rxNext + 1) % 2 ^ 32 } }
      (s.applyFrame w.2.1 w.2.2).drainFrames k

/-- R731 without the sequence number. -/
def State.frameSound (s : State) (b : List Byte) : Bool :=
  let n := b.length
  let typ := beAt b 1 1
  Nat.ble 24 n && Nat.ble n 1536 && beAt b 2 2 == n && beAt b (n - 4) 4 == crc32c (b.take (n - 4)) &&
    Nat.ble 1 typ && Nat.ble typ 8 && beAt b 0 1 == (if typ == 1 then 1 else s.fld Reg.PAIR_STATUS 23 16)

/-- A frame received at `t` on the link (R18); the row is that of its type, and of its CMD for a COMMAND. -/
def State.pairRx (s : State) (typ cmd : Nat) (b : List Byte) (t : Nat) : State :=
  let ty := beAt b 1 1
  let row := ty == typ && (typ != 7 || beAt b 16 1 == cmd)
  if !s.pairOn || (!row && Nat.ble 1 ty && Nat.ble ty 8) then s
  else if !s.frameSound b then s.bump Reg.PAIR_FRAME_ERRORS 1
  else if typ == 1 then (s.bump Reg.PAIR_FRAMES_RX 1).helloFrom (readPairHello b)
  else if Nat.blt s.linkState 2 then s
  else
    let q := beAt b 4 4
    if !(q == s.pair.rxNext || later32 q s.pair.rxNext) || s.pair.waiting.any fun w => w.1 == q then
      s.bump Reg.PAIR_FRAME_ERRORS 1
    else
      let s := s.bump Reg.PAIR_FRAMES_RX 1
      let s := { s with pair := { s.pair with waiting := s.pair.waiting ++ [(q, b, t)] } }
      s.drainFrames s.pair.waiting.length

/-- PAIR_FRAME_WAIT_EXPIRY (R729): a missing SEQ is passed over. -/
def execPairFrameWaitExpiry (s : State) : Host.Outcome State Fault Refusal :=
  .next <| s.ifLive 0x060 fun s =>
    match minBy? (fun w : Nat × List Byte × Nat => (w.1 + 2 ^ 32 - s.pair.rxNext) % 2 ^ 32) s.pair.waiting with
    | none => s
    | some w =>
      let s := s.bump Reg.PAIR_FRAME_ERRORS ((w.1 + 2 ^ 32 - s.pair.rxNext) % 2 ^ 32)
      let s := { s with pair := { s.pair with rxNext := w.1 } }
      s.drainFrames s.pair.waiting.length

def rxRow (typ cmd : Nat) (b : List Byte) (t : Nat) (s : State) : Host.Outcome State Fault Refusal :=
  .next <| s.ifLive 0x060 fun s => s.pairRx typ cmd b t

def execPairHelloRx (b : List Byte) (t : Nat) (s : State) : Host.Outcome State Fault Refusal := rxRow 1 0 b t s
def execPairHeartbeatRx (b : List Byte) (t : Nat) (s : State) : Host.Outcome State Fault Refusal := rxRow 2 0 b t s
def execXcheckRx (b : List Byte) (t : Nat) (s : State) : Host.Outcome State Fault Refusal := rxRow 3 0 b t s
def execPictureRx (b : List Byte) (t : Nat) (s : State) : Host.Outcome State Fault Refusal := rxRow 4 0 b t s
def execDigestRx (b : List Byte) (t : Nat) (s : State) : Host.Outcome State Fault Refusal := rxRow 5 0 b t s
def execSessionFrameRx (b : List Byte) (t : Nat) (s : State) : Host.Outcome State Fault Refusal := rxRow 6 0 b t s
def execSwitchReqRx (b : List Byte) (t : Nat) (s : State) : Host.Outcome State Fault Refusal := rxRow 7 1 b t s
def execSwitchAckRx (b : List Byte) (t : Nat) (s : State) : Host.Outcome State Fault Refusal := rxRow 7 2 b t s
def execSwitchRefuseRx (b : List Byte) (t : Nat) (s : State) : Host.Outcome State Fault Refusal := rxRow 7 3 b t s
def execPairResetRx (b : List Byte) (t : Nat) (s : State) : Host.Outcome State Fault Refusal := rxRow 7 4 b t s
def execResyncReqRx (b : List Byte) (t : Nat) (s : State) : Host.Outcome State Fault Refusal := rxRow 7 5 b t s
def execStateRx (b : List Byte) (t : Nat) (s : State) : Host.Outcome State Fault Refusal := rxRow 8 0 b t s

end Sys2Proof.Machine
end

