-- ==== Sys2Proof/Machine/Handover.lean ====
section
/-! DEFINITION. The shadow control of the pages with a shadow set (R543 to R548): ARM, DISARM, the hand-over point. -/

namespace Sys2Proof.Machine

/-- The shadow control register of a page, and the page (R544). -/
def shadowCtl : ShadowPage → Nat
  | .ctx c => blkShadow (ctxPage c.val)
  | .comp n => blkShadow (compPage n.val)
  | .dma c => Reg.DMA_SHADOW_CTL c.val

def shadowBlock : ShadowPage → Nat
  | .ctx c => ctxPage c.val
  | .comp n => compPage n.val
  | .dma _ => 0x020

/-- SHADOW_ARM (R544, R546). -/
def State.shadowArm (s : State) (p : ShadowPage) : State := s.setRbit (shadowCtl p) 0 true

def execShadowArm (p : ShadowPage) (s : State) : Host.Outcome State Fault Refusal :=
  .next <| s.ifLive (shadowBlock p) fun s => s.shadowArm p

/-- An admission that a hand-over asked for is given up. -/
def State.dropHandover (s : State) (r : AdmitReq) : State :=
  match s.decisionOf r with
  | some d => s.discardDecision d
  | none => s.doIf (s.ledger.waiting.elem r) fun s => s.dropRequest r

/-- SHADOW_DISARM (R544). -/
def State.shadowDisarm (s : State) (p : ShadowPage) : State :=
  let s := s.setRbit (shadowCtl p) 0 false
  match p with
  | .ctx c => s.dropHandover (handoverReq c.val)
  | .comp n => s.dropHandover (compReq n.val)
  | .dma _ => s

def execShadowDisarm (p : ShadowPage) (s : State) : Host.Outcome State Fault Refusal :=
  .next <| s.ifLive (shadowBlock p) fun s => s.shadowDisarm p

/-- A write of BLK_SHADOW_CTL or DMA_SHADOW_CTL_c: DISARM goes before ARM (R544). -/
def State.shadowWrite (s : State) (p : ShadowPage) (v : Word) : State :=
  if bit v 2 then s.shadowDisarm p else if bit v 0 then s.shadowArm p else s

/-- The picture boundary of an encode context of an understudy: it copies only with its lead (R741), and asks for the
admission that the copy will need (R548). -/
def State.askAhead (s : State) (c : Nat) : State :=
  let r := handoverReq c
  if !s.ctxEnabled c || (s.ctx c).pic.isSome || !s.armed (ctxPage c) || (s.checkSet c false).isSome ||
      (s.decisionOf r).isSome || s.ledger.waiting.elem r then s
  else match s.formCharge c with
    | .inr g => if g.differs (s.ctx c).chg then s.askAdmission r else s
    | .inl _ => s.askAdmission r

/-- HANDOVER (R543, R545, R548). -/
def State.handover (s : State) (p : ShadowPage) : State :=
  match p with
  | .ctx c => if s.pairRole == 2 && s.isEncode c.val then s.askAhead c.val else s.ctxHandover c.val
  | .comp n => s.compHandover n.val
  | .dma c => if s.dmaOn c.val && (s.dmaCh c.val).desc.isNone then s.dmaHandover c.val else s

def execHandover (p : ShadowPage) (s : State) : Host.Outcome State Fault Refusal :=
  .next <| s.ifLive (shadowBlock p) fun s => s.handover p

end Sys2Proof.Machine
end

