-- ==== Sys2Proof/Machine/House.lean ====
section
/-! DEFINITION. What the house Stage Manager does at its own times (R677): the rate of NET_0 and the claim of a group range.
Its other settings are writes like any Stage Manager's, and come as commands. -/

namespace Sys2Proof.Machine

/-- Whether the house Stage Manager runs. -/
def State.houseRuns (s : State) : Bool := s.rc.house && s.smRuns

/-- HOUSE_RATE_ALTERNATE (R677): 2 s without block lock turn NET_0 from 25G to 10G or back, without FEC. -/
def State.houseRate (s : State) : State :=
  if s.houseRuns && !s.rbit (Reg.NET_STATUS 0) 5 then
    let slow := s.rbit (Reg.NET_CTRL 0) 0
    let s := s.netHalt 0
    ((s.setRbit (Reg.NET_CTRL 0) 0 (!slow)).setRbit (Reg.NET_CTRL 0) 1 false).netEnable 0
  else s

def execHouseRateAlternate (s : State) : Host.Outcome State Fault Refusal :=
  .next <| s.ifLive 0x030 fun s => s.houseRate

/-- HOUSE_GROUP_CLAIM (R677): after 3 s of listening; `heard` whether a sender was heard on groups 0 to 3. -/
def State.houseClaim (s : State) (heard : Bool) : State :=
  if s.houseRuns && s.rc.claim.isNone then { s with rc := { s.rc with claim := some (if heard then 4 else 0) } } else s

def execHouseGroupClaim (heard : Bool) (s : State) : Host.Outcome State Fault Refusal :=
  .next <| s.ifLive 0x030 fun s => s.houseClaim heard

end Sys2Proof.Machine
end

