-- ==== Sys2Proof/Machine/Trust.lean ====
section
/-! DEFINITION. Prompt calls: the rings of the Stage Manager cores, the order in which the Prompter takes their calls,
the answers (R669 to R672, R674), and each call of R673. -/

namespace Sys2Proof.Machine

/-! ### The mailbox -/

def pcOk : Nat := 0
def pcUnknown : Nat := 1
def pcBadArg : Nat := 2
def pcBadSeq : Nat := 3
def pcDenied : Nat := 4
def pcOtpFail : Nat := 5
def pcFlashProtected : Nat := 6
def pcFlashReadError : Nat := 7

/-- The Pool Memory offset of a slot of a core's ring (R669), and the 64 bytes of the call there. -/
def State.callSlot (s : State) (n slot : Nat) : Nat := s.fld Reg.TRUST_PC_BASE 22 9 * 512 + 512 * n + 64 * slot
def State.call (s : State) (n slot : Nat) : List Byte := s.pmBytes (s.callSlot n slot) 64

/-- Whether the Prompter takes calls: out of reset, Pool Memory reachable, TRUST_PC_CTRL.EN. -/
def State.takesCalls (s : State) : Bool := s.live 0x003 && !s.domainHeld 5 && s.rbit Reg.TRUST_PC_CTRL 0

/-- The CALL_SEQ of a core's last call taken since domain 10 was released. -/
def State.lastSeq (s : State) (n : Nat) : Option Nat := Sparse.get (fun _ => none) s.trust.last n

/-- The next call of one core (R670): the least CALL_SEQ, counted from its previous call, or else from the first posted. -/
def State.nextOfCore (s : State) (n : Nat) : Option (Nat × Nat) :=
  let ps := s.trust.posts.filter fun p => p.1 == n
  match ps with
  | [] => none
  | p :: _ =>
    let base := (s.lastSeq n).getD (leAt (s.call n p.2) 0 4)
    minBy? (fun q => (leAt (s.call n q.2) 0 4 + 2 ^ 31 + 2 ^ 32 - base) % 2 ^ 32) ps

/-- The call the Prompter takes next (R20, R670): across cores by TIME, then by core. -/
def State.nextCall (s : State) : Option (Nat × Nat) :=
  minBy? (fun p => tokenOrder (leAt (s.call p.1 p.2) 8 8) p.1) ((List.range 4).filterMap s.nextOfCore)

/-- Whether a call follows the core's previous one (R670). -/
def State.inSequence (s : State) (p : Nat × Nat) : Bool :=
  match s.lastSeq p.1 with
  | some q => leAt (s.call p.1 p.2) 0 4 == (q + 1) % 2 ^ 32
  | none => true

/-- A call taken: it leaves the ring, its CALL_SEQ is the core's last, and it counts in TRUST_PC_DONE_n. -/
def State.takeCall (s : State) (p : Nat × Nat) : State :=
  let q := leAt (s.call p.1 p.2) 0 4
  let k := Reg.TRUST_PC_DONE p.1
  let s := s.setFld k 15 8 (s.fld k 15 8 + 1)
  { s with trust := { s.trust with posts := s.trust.posts.erase p, last := Sparse.set (fun _ => none) s.trust.last p.1 (some q) } }

/-- A call answered (R671): STATUS and RESULT, then DONE, and a cue on source 896 + n. -/
def State.answerCall (s : State) (p : Nat × Nat) (status result : Nat) : State :=
  let o := s.callSlot p.1 p.2
  let s := ((s.pmWrite (o + 48) (leBytes 2 status)).pmWrite (o + 52) (leBytes 8 result)).pmWrite (o + 50) [1]
  let k := Reg.TRUST_PC_DONE p.1
  (s.setFld k 7 0 (s.fld k 7 0 + 1)).blockCue (896 + p.1) false

/-- Calls that complete as soon as they are next: out of sequence, or of no code of R673. -/
def State.sweepCalls (s : State) : Nat → State
  | 0 => s
  | k + 1 =>
    match s.nextCall with
    | none => s
    | some p =>
      let code := leAt (s.call p.1 p.2) 4 2
      if !s.inSequence p then ((s.takeCall p).answerCall p pcBadSeq 0).sweepCalls k
      else if code == 0 || Nat.blt 0xD code then ((s.takeCall p).answerCall p pcUnknown 0).sweepCalls k
      else s
def State.sweep (s : State) : State := if s.takesCalls then s.sweepCalls s.trust.posts.length else s

/-- PROMPT_CALL_POST (R670): a write of TRUST_PC_POST_n by core n. -/
def State.postCall (s : State) (w : Writer) (n : Nat) (v : Word) : State :=
  let own := match w with
    | .stageManager c => c.val == n
    | _ => false
  if own then { s with trust := { s.trust with posts := s.trust.posts ++ [(n, bits v 2 0)] } }.sweep else s

def execPromptCallPost (w : Writer) (n : Fin 4) (v : Word) (s : State) : Host.Outcome State Fault Refusal :=
  .next <| s.ifLive 0x003 fun s => s.postCall w n.val v

/-- The Prompter runs the call that is next, where it is one of this code: its ARGS give the new state, STATUS and RESULT. -/
def State.runCall (s : State) (code : Nat) (f : List Byte → State → State × Nat × Nat) : State :=
  if !s.takesCalls then s
  else match s.nextCall with
    | none => s
    | some p =>
      let b := s.call p.1 p.2
      if leAt b 4 2 != code then s
      else match f (sliceB b 16 32) (s.takeCall p) with
        | (s, st, r) => (s.answerCall p st r).sweep

/-! ### Blocks, severities, fences -/

/-- Write a register of a page whose domain is not held. -/
def State.poke (s : State) (k : Nat) (v : Word) : State :=
  match pageInfo (pageOf k) with
  | some i => if s.pageHeld i then s else s.store k v
  | none => s

/-- BLOCK_RESET. -/
def State.pcBlockReset (a : List Byte) (s : State) : State × Nat × Nat :=
  match pageInfo (leAt a 0 2) with
  | none => (s, pcBadArg, 0)
  | some i => if !i.blockReset then (s, pcDenied, 0) else (s.blockReset i.block false, pcOk, 0)

def execBlockReset (s : State) : Host.Outcome State Fault Refusal := .next (s.runCall 1 State.pcBlockReset)

/-- SOFT_RESET: the full reset of R640, and no answer. -/
def State.pcSoftReset (s : State) : State :=
  if !s.takesCalls then s
  else match s.nextCall with
    | none => s
    | some p => if leAt (s.call p.1 p.2) 4 2 == 2 then (s.takeCall p).assertReset .softFull else s

def execSoftReset (s : State) : Host.Outcome State Fault Refusal := .next s.pcSoftReset

/-- SET_OWNER. -/
def State.pcSetOwner (a : List Byte) (s : State) : State × Nat × Nat :=
  match pageInfo (leAt a 0 2) with
  | none => (s, pcBadArg, 0)
  | some i =>
    if Nat.blt 3 (leAt a 2 1) then (s, pcBadArg, 0)
    else if !i.blockReset then (s, pcDenied, 0)
    else (s.doIf (!s.pageHeld i) fun s => s.setFld (blkOwner i.block) 1 0 (leAt a 2 1), pcOk, 0)

def execSetOwner (s : State) : Host.Outcome State Fault Refusal := .next (s.runCall 3 State.pcSetOwner)

/-- Whether a source may hold Contain (R690). -/
def mayContain (src : Nat) : Bool :=
  match sourceBlock src with
  | some b => match pageInfo b with
    | some i => i.blockReset
    | none => false
  | none => isSource src

/-- The field of a source in FAULT_SEV set; Contain only where R690 allows it. -/
def State.setSeverity (s : State) (src v : Nat) : State :=
  if v == 2 && !mayContain src then s else s.setFld (Reg.FAULT_SEV (src / 16)) (2 * (src % 16) + 1) (2 * (src % 16)) v

/-- SET_SEVERITY under SEV_POLICY. -/
def State.pcSetSeverity (a : List Byte) (s : State) : State × Nat × Nat :=
  let src := leAt a 0 2
  let v := leAt a 2 1
  let old := s.fld (Reg.FAULT_SEV (src / 16)) (2 * (src % 16) + 1) (2 * (src % 16))
  let pol := s.regN Reg.TRUST_SEV_POLICY
  if !isSource src || Nat.blt 3 v then (s, pcBadArg, 0)
  else if pol == 1 || (pol == 0 && Nat.blt v old) then (s, pcDenied, 0)
  else (s.setSeverity src v, pcOk, 0)

def execSetSeverity (s : State) : Host.Outcome State Fault Refusal := .next (s.runCall 4 State.pcSetSeverity)

/-- SET_LEDGER. -/
def State.pcSetLedger (a : List Byte) (s : State) : State × Nat × Nat :=
  let v : Word := BitVec.ofNat 32 (leAt a 0 4)
  if ledgerCtrlOk v then (s.store Reg.LEDGER_CTRL v, pcOk, 0) else (s, pcBadArg, 0)

def execSetLedger (s : State) : Host.Outcome State Fault Refusal := .next (s.runCall 5 State.pcSetLedger)

/-- SET_FENCE: fence 2 or 3, from the page of the base to the page of the limit. -/
def State.pcSetFence (a : List Byte) (s : State) : State × Nat × Nat :=
  let f := leAt a 0 1
  let base := leAt a 8 8
  let lim := leAt a 16 8
  if (f != 2 && f != 3) || Nat.ble (2 ^ 40) base || Nat.ble (2 ^ 40) lim then (s, pcBadArg, 0)
  else
    let s := (s.poke (Reg.DRAM_FENCE_BASE f) (BitVec.ofNat 32 (base / 4096))).poke (Reg.DRAM_FENCE_LIMIT f) (BitVec.ofNat 32 (lim / 4096))
    (s.poke (Reg.DRAM_FENCE_WRITERS f) (BitVec.ofNat 32 (leAt a 24 4)), pcOk, 0)

def execSetFence (s : State) : Host.Outcome State Fault Refusal := .next (s.runCall 6 State.pcSetFence)

/-- SET_CVU_OWNER. -/
def State.pcSetCvuOwner (a : List Byte) (s : State) : State × Nat × Nat :=
  let c := leAt a 0 1
  let o := leAt a 1 1
  if Nat.blt c 3 || Nat.blt 15 c || o == 0 || Nat.blt 3 o then (s, pcBadArg, 0)
  else (s.poke (Reg.CVU_OWNER c) (BitVec.ofNat 32 o), pcOk, 0)

def execSetCvuOwner (s : State) : Host.Outcome State Fault Refusal := .next (s.runCall 7 State.pcSetCvuOwner)

/-! ### Flash -/

/-- FLASH_READ: flash bytes to device memory; `bad` says that the flash gives a read error. -/
def State.pcFlashRead (bad : Bool) (a : List Byte) (s : State) : State × Nat × Nat :=
  let n := leAt a 4 4
  let d := leAt a 8 8
  if Nat.blt 0x100000 n || !s.backed d n then (s, pcBadArg, 0)
  else if bad then (s, pcFlashReadError, 0)
  else (s.devWrite byPrompter d (s.flashBytes (leAt a 0 4) n), pcOk, 0)

def execPcFlashRead (bad : Bool) (s : State) : Host.Outcome State Fault Refusal := .next (s.runCall 8 (State.pcFlashRead bad))

/-- FLASH_WRITE: device memory to flash, erased and written. -/
def State.pcFlashWrite (a : List Byte) (s : State) : State × Nat × Nat :=
  let o := leAt a 0 4
  let n := leAt a 4 4
  let d := leAt a 8 8
  if Nat.blt 0x100000 n || !s.backed d n then (s, pcBadArg, 0)
  else if !s.callMayWrite o n then (s, pcFlashProtected, 0)
  else (s.flashWrite o (s.memBytes d n), pcOk, 0)

def execPcFlashWrite (s : State) : Host.Outcome State Fault Refusal := .next (s.runCall 9 State.pcFlashWrite)

/-! ### OTP -/

/-- Bytes programmed from an OTP offset on: all of them, or, where the byte of an index fails, those before it and the bits
of it that were set (R662, R674). -/
def State.otpProgram (s : State) (o : Nat) (bs : List Byte) (fail : Option (Nat × Byte)) : State × Nat × Nat :=
  match fail with
  | some (i, got) =>
    if Nat.blt i bs.length then (s.otpOr o (bs.take i ++ [got &&& bs.getD i 0]), pcOtpFail, o + i) else (s.otpOr o bs, pcOk, 0)
  | none => (s.otpOr o bs, pcOk, 0)

/-- A call that programs the OTP. -/
def State.otpCall (s : State) (o : Nat) (bs : List Byte) (fail : Option (Nat × Byte)) : State × Nat × Nat :=
  match s.otpProgram o bs fail with
  | (s, r) => (s.showKeys, r)

/-- OTP_ENROL: a customer key hash from device memory. -/
def State.pcOtpEnrol (fail : Option (Nat × Byte)) (a : List Byte) (s : State) : State × Nat × Nat :=
  let slot := leAt a 0 1
  let d := leAt a 8 8
  if (slot != 8 && slot != 9) || !s.backed d 48 then (s, pcBadArg, 0)
  else
    let p := slot - 4
    if s.enrolled p || !s.rbit Reg.TRUST_STATUS 0 then (s, pcDenied, 0)
    else s.otpCall (0x110 + 48 * p) (s.memBytes d 48) fail

def execOtpEnrol (fail : Option (Nat × Byte)) (s : State) : Host.Outcome State Fault Refusal :=
  .next (s.runCall 10 (State.pcOtpEnrol fail))

/-- Whether a vendor slot is the last that is enrolled and not revoked. -/
def State.lastVendor (s : State) (p : Nat) : Bool :=
  ((List.range 4).filter fun q => s.enrolled q && !s.revoked q) == [p]

/-- OTP_REVOKE. -/
def State.pcOtpRevoke (fail : Option (Nat × Byte)) (a : List Byte) (s : State) : State × Nat × Nat :=
  match keyPos (leAt a 0 1) with
  | none => (s, pcBadArg, 0)
  | some p =>
    if s.lastVendor p then (s, pcDenied, 0)
    else s.otpCall 0x2F0 [BitVec.ofNat 8 (2 ^ p)] fail

def execOtpRevoke (fail : Option (Nat × Byte)) (s : State) : Host.Outcome State Fault Refusal :=
  .next (s.runCall 11 (State.pcOtpRevoke fail))

/-- Bits set in a number of `n` bits until `want` are set, from the lowest on. -/
def setUpTo (want n v : Nat) : Nat :=
  (List.range n).foldl (fun (a : Nat × Nat) i => if nbit a.1 i || a.2 == 0 then a else (a.1 + 2 ^ i, a.2 - 1))
    (v, want - popCount (leBytes 8 v)) |>.1

/-- OTP_RAISE_VERSION. -/
def State.pcOtpRaise (fail : Option (Nat × Byte)) (a : List Byte) (s : State) : State × Nat × Nat :=
  let k := leAt a 0 1
  let m := leAt a 1 1
  if Nat.blt 3 k || Nat.blt 64 m then (s, pcBadArg, 0)
  else if Nat.blt m (s.minVersion k) then (s, pcDenied, 0)
  else s.otpCall (0x2F8 + 8 * k) (leBytes 8 (setUpTo m 64 (s.otpLE (0x2F8 + 8 * k) 8))) fail

def execOtpRaiseVersion (fail : Option (Nat × Byte)) (s : State) : Host.Outcome State Fault Refusal :=
  .next (s.runCall 12 (State.pcOtpRaise fail))

/-! ### Debug -/

/-- TRUST_DEBUG.EN set, but under DEBUG_LOCK (R682). -/
def State.setDebug (s : State) (b : Bool) : State :=
  if s.rbit Reg.TRUST_STATUS 3 then s else (s.setRbit Reg.TRUST_DEBUG 0 b).setRbit Reg.TRUST_STATUS 2 b

/-- SET_DEBUG. -/
def State.pcSetDebug (a : List Byte) (s : State) : State × Nat × Nat :=
  if Nat.blt 1 (leAt a 0 1) then (s, pcBadArg, 0)
  else if s.rbit Reg.TRUST_STATUS 3 then (s, pcDenied, 0)
  else (s.setDebug (leAt a 0 1 == 1), pcOk, 0)

def execSetDebug (s : State) : Host.Outcome State Fault Refusal := .next (s.runCall 13 State.pcSetDebug)

end Sys2Proof.Machine
end

