-- ==== Sys2Proof/Machine/Fault.lean ====
section
/-! DEFINITION. The fault collector: taking a message and its reactions (R686, R687, R692 to R698, R702), the ghost light
and the heartbeat (R703, R704), forced messages (R705), the clears of the records (R700, R701). -/

namespace Sys2Proof.Machine

/-! ### The ghost light -/

/-- GLT at a level; FAULT_STATUS shows it and whether it toggles. -/
def State.setGlt (s : State) (level running : Bool) : State :=
  let was := s.rbit Reg.FAULT_STATUS 3
  let s := (s.setRbit Reg.FAULT_STATUS 3 level).setRbit Reg.FAULT_STATUS 2 running
  s.doIf (was != level) fun s => s.emit (.ball 0 level)

/-- Whether the ghost light toggles (R703). -/
def State.gltOn (s : State) : Bool := s.rbit Reg.FAULT_STATUS 1 && !s.rbit Reg.FAULT_STATUS 0

/-- GLT_TOGGLE (R703). -/
def execGltToggle (s : State) : Host.Outcome State Fault Refusal :=
  .next <| s.ifLive 0x005 fun s => if s.gltOn then s.setGlt (!s.rbit Reg.FAULT_STATUS 3) true else s

/-- FAULT_HEARTBEAT (R704): a write by the Prompter. -/
def State.heartbeat (s : State) (w : Writer) (v : Word) : State :=
  if w != .prompter then s
  else
    let s := (s.store Reg.FAULT_HEARTBEAT v).setRbit Reg.FAULT_STATUS 1 true
    { s with fc := { s.fc with beat := some s.now } }.setRbit Reg.FAULT_STATUS 2 (!s.rbit Reg.FAULT_STATUS 0)

def execFaultHeartbeat (w : Writer) (v : Word) (s : State) : Host.Outcome State Fault Refusal :=
  .next <| s.ifLive 0x005 fun s => s.heartbeat w v

/-- HEARTBEAT_TIMEOUT (R703, R704). -/
def execHeartbeatTimeout (s : State) : Host.Outcome State Fault Refusal :=
  .next <| s.ifLive 0x005 fun s =>
    if s.rbit Reg.FAULT_STATUS 1 then (s.setRbit Reg.FAULT_STATUS 1 false).setGlt false false else s

/-! ### Reactions -/

/-- The Stop state (R693). -/
def State.enterStop (s : State) : State :=
  if s.rbit Reg.FAULT_STATUS 0 then s
  else ((s.setRbit Reg.FAULT_STATUS 0 true).bump Reg.FAULT_STOPS 1).setGlt false false

/-- The block reset of a Contain reaction; of a Stage Manager core, the Stage Manager reset (R692, R694). -/
def State.containBlock (s : State) (src : Nat) : State :=
  match sourceBlock src with
  | some b => s.blockReset b true
  | none =>
    let s := s.assertReset .smReset
    { s with fc := { s.fc with containStart := Sparse.set (fun _ => none) s.fc.containStart (containKey src) (some s.now) } }

/-- The reactions of R692 that R687 leaves to a lost message too. -/
def State.contain (s : State) (m : FaultMsg) : State :=
  let s := s.doIf (m.severity == 2 || m.escalated) fun s => s.containBlock m.source
  s.doIf (m.severity == 3) fun s => s.enterStop

/-- The notice and the cue of Notify and above (R692). -/
def State.tell (s : State) (m : FaultMsg) (seq : Nat) : State :=
  if m.severity == 0 then s
  else (s.doIf s.hostqUp fun s => s.notice seq m.word m.addr m.severity m.time).blockCue 498 m.consequential

/-- The bit of BLK_FAULT in the page of the source (R702). -/
def State.faultBit (s : State) (m : FaultMsg) : State :=
  match sourceBlock m.source with
  | some b => s.setRbit (blkFault b) (m.kind % 32) true
  | none => s

/-- What is left of the reactions of lost messages (R687). -/
def State.lostReactions (s : State) : State :=
  let ms := s.fc.lost
  let s := { s with fc := { s.fc with lost := [] } }
  s.forEach ms fun m s => match s.adjustMsg m with
    | (s, m) => s.contain m

/-- One message taken: suppressed, or adjusted, recorded and reacted to. -/
def State.takeMsg (s : State) (m : FaultMsg) : State :=
  let s := s.takeInput m
  if s.suppressed m.source then s.bump Reg.FAULT_SUPPRESSED 1
  else
    let seq := s.regN Reg.FAULT_TAKEN
    match s.adjustMsg m with
    | (s, m) => (((s.recordMsg m).tell m seq).contain m).faultBit m

/-- FAULT_TAKE (R686). -/
def State.faultTake (s : State) : State :=
  let s := s.lostReactions
  match s.nextMsg with
  | some m => s.takeMsg m
  | none => s

def execFaultTake (s : State) : Host.Outcome State Fault Refusal := .next <| s.ifLive 0x005 fun s => s.faultTake

/-! ### Forced messages -/

/-- The source that an instance of BLK_FORCE selects (R705). -/
def PageInfo.source (i : PageInfo) (n : Nat) : Option Nat := if Nat.blt n i.srcCount then some (i.srcFirst + n * i.srcStep) else none

/-- A write of BLK_FORCE of a page (R705, R653). -/
def State.blkForceWrite (s : State) (w : Writer) (page : Nat) (v : Word) : State :=
  match pageInfo page with
  | none => s
  | some i =>
    if s.pageHeld i || i.index != 0 || i.srcCount == 0 then s
    else if !s.mayAct w page then s.fenceViolation (blkForce page) (writerCode w)
    else
      let s := s.setReg (blkForce page) (v &&& 0x003F003F)
      if bit v 8 && !s.inReset page then
        match i.source (bits v 21 16) with
        | some src => s.raiseMsg src (bits v 5 0) 0 true
        | none => s
      else s

def execBlkForceRaise (w : Writer) (page : Nat) (v : Word) (s : State) : Host.Outcome State Fault Refusal :=
  .next (s.blkForceWrite w page v)

/-! ### The records -/

/-- FAULT_CLEAR.FIRST (R700) and FAULT_CLEAR.STOP_RECORD (R701). -/
def State.clearFirst (s : State) : State := (s.setWords Reg.FAULT_FIRST []).setRbit Reg.FAULT_STATUS 4 false
def State.clearStop (s : State) : State := (s.setWords Reg.FAULT_STOP []).setRbit Reg.FAULT_STATUS 5 false

def execFaultClearFirst (s : State) : Host.Outcome State Fault Refusal := .next <| s.ifLive 0x005 fun s => s.clearFirst
def execFaultClearStopRecord (s : State) : Host.Outcome State Fault Refusal := .next <| s.ifLive 0x005 fun s => s.clearStop

end Sys2Proof.Machine
end

