-- ==== Sys2Proof/Machine/Rehearse.lean ====
section
/-! DEFINITION. Rehearsals of bays and of the whole (R707 to R713), the AVSBus readback of the core rail (R718), the margin
journal (R719 to R721). -/

namespace Sys2Proof.Machine

/-! ### Asking -/

/-- A request refused or taken shows its status (R709). -/
def State.rehResult (s : State) (r : Nat) : State := s.setFld Reg.REH_STATUS 23 16 r

/-- REH_CMD with OP 1 (R709, R710): decided at the next ledger update, at once for a bay already out of service. -/
def State.rehBay (s : State) (b : Nat) : State :=
  if s.fld Reg.REH_STATUS 2 0 != 0 then s.rehResult 6
  else if Nat.blt 11 b then s.rehResult 7
  else
    let s := (s.rehResult 0).setFld Reg.REH_STATUS 11 8 b
    if s.bayInService b then s.setFld Reg.REH_STATUS 2 0 1
    else (s.setFld Reg.REH_STATUS 2 0 2).modBay b fun x => { x with granted := true }

/-- Whether a context or a DMA channel is enabled (R709). -/
def State.anyEnabled (s : State) : Bool :=
  ((List.range 256).any fun c => s.enabled (ctxPage c)) || (List.range 32).any fun c => s.rbit (Reg.DMA_CTRL c) 0

/-- REH_CMD with OP 2 (R709, R711 steps 1 to 3): domains 5, 6 and 10 are held, and the Reference Cache is left empty. -/
def State.rehFull (s : State) : State :=
  if s.fld Reg.REH_STATUS 2 0 != 0 then s.rehResult 6
  else if s.anyEnabled then s.rehResult 5
  else
    let s := ((s.rehResult 0).setFld Reg.REH_STATUS 2 0 4).assertReset .rehearsal
    { s with refc := { s.refc with sets := [] } }

/-- The writers of REH_CMD (R709). -/
def asksRehearsal : Writer → Bool
  | .prompter | .stageManager _ | .host => true
  | .cueEngine _ => false

def execRehBay (w : Writer) (b : Fin 16) (s : State) : Host.Outcome State Fault Refusal :=
  .next <| s.ifLive 0x006 fun s => if asksRehearsal w then s.rehBay b.val else s
def execRehFull (w : Writer) (s : State) : Host.Outcome State Fault Refusal :=
  .next <| s.ifLive 0x006 fun s => if asksRehearsal w then s.rehFull else s

/-- A value in the layout of REH_CMD; OP 0 and 3 have no effect (R723). -/
def State.rehCmd (s : State) (v : Word) : State :=
  if bits v 1 0 == 1 then s.rehBay (bits v 11 8) else if bits v 1 0 == 2 then s.rehFull else s

/-- A JTAG instruction comes into force; what boundary scan drove is let go. -/
def State.selectIr (s : State) (ir : TapIr) : State := { s with tap := { ir := ir, driven := [] } }

/-- REH_RUN (R713). -/
def execRehRun (v : Word) (s : State) : Host.Outcome State Fault Refusal :=
  .next <| (s.selectIr .rehRun).ifLive 0x006 fun s => s.rehCmd v

/-! ### Running -/

/-- REH_DRAIN_DONE (R710 step 3): no row job is resident any more. -/
def State.drainDone (s : State) : State :=
  let b := s.fld Reg.REH_STATUS 11 8
  if s.fld Reg.REH_STATUS 2 0 != 2 || !(s.bay b).jobs.isEmpty then s
  else ((s.setRbit (Reg.BAY_STATUS b) 17 true).setRbit (Reg.BAY_STATUS b) 16 false).setFld Reg.REH_STATUS 2 0 3

def execRehDrainDone (s : State) : Host.Outcome State Fault Refusal := .next <| s.ifLive 0x006 fun s => s.drainDone

/-- The expected signature of a unit (R707, R708). -/
def State.expectedSig (s : State) (u : Nat) : Nat := s.otpLE (if Nat.ble u 11 then 0x388 else 0x388 + 8 * (u - 15)) 8

/-- REH_SIG_LO and REH_SIG_HI show the selected unit (R723). -/
def State.showSig (s : State) : State := s.setReg64 Reg.REH_SIG_LO (Sparse.get (fun _ => 0) s.sigs (s.fld Reg.REH_SIG_SEL 4 0))
def State.setSig (s : State) (u v : Nat) : State := { s with sigs := Sparse.set (fun _ => 0) s.sigs u (v % 2 ^ 64) }.showSig

/-- The units of R707. -/
def rehUnits : List Nat := List.range 12 ++ rangeFrom 16 6

/-- R710 step 4: SRAM zeroed and the stores of the bay reloaded from the reference copy, its engines idle; what was stuck stays so
(R395). -/
def State.bayFresh (s : State) (b : Nat) : State :=
  let r := { s with sram := s.sram.filter fun p => p.1 / 2 ^ 22 != b }.loadStore 1 b []
  let s := r.1.modBay b fun x => { x with nano := x.stuck || !r.2, reloading := false, items := [] }
  s.forEach (enginesOf b) fun n s =>
    let stuck := (s.pxEng n).stuck
    let r := s.loadStore 0 n []
    r.1.setPx n { Px.init with stuck := stuck, down := stuck || !r.2 }

/-- R710 steps 4 to 6: a bay whose signature is right returns, if its stores let it. -/
def State.bayTested (s : State) (sig : Nat) : State :=
  let b := s.fld Reg.REH_STATUS 11 8
  let ok := sig == s.expectedSig b
  let s := ((s.setSig b sig).bayFresh b).setRbit (Reg.BAY_STATUS b) 17 false
  let s := (s.modBay b fun x => { x with granted := false, failed := !ok, out := true }).bayReturn b
  (s.doIf (!ok) fun s => s.raise 499 FaultKind.REHEARSAL_FAIL b).rehEnd ok

/-- R711 step 4. -/
def State.fullTested (s : State) (sigs : List Nat) : State :=
  let s := s.forEach rehUnits fun u s => s.setSig u (sigs.getD u 0)
  let bad := rehUnits.filter fun u => sigs.getD u 0 % 2 ^ 64 != s.expectedSig u
  let s := (s.setRegN Reg.REH_FAILED ((bad.map fun u => 2 ^ u).foldl (· + ·) 0)).setFld Reg.REH_STATUS 2 0 5
  s.releaseReset .rehearsal

/-- REH_BIST_DONE (R710, R711): the signatures by unit number. -/
def State.bistDone (s : State) (sigs : List Nat) : State :=
  let st := s.fld Reg.REH_STATUS 2 0
  if st == 3 then s.bayTested (sigs.getD (s.fld Reg.REH_STATUS 11 8) 0 % 2 ^ 64)
  else if st == 4 then s.fullTested sigs
  else s

def execRehBistDone (sigs : List Nat) (s : State) : Host.Outcome State Fault Refusal := .next <| s.ifLive 0x006 fun s => s.bistDone sigs

/-! ### The core rail -/

/-- The tries on the rail since the setpoint was written. -/
def State.setTries (s : State) (n : Nat) : State := { s with margin := { s.margin with avsTries := n } }
def State.setAvsLimit (s : State) (mv : Nat) : State := { s with margin := { s.margin with avsLimit := mv } }

/-- AVS_READBACK (R718): whether the write was acknowledged, and the Vout read back. -/
def State.avsReadback (s : State) (ack : Bool) (vout : Option Nat) : State :=
  let sp := s.setpoint
  let s := s.emit (.avs 1 0)
  let s := match vout with
    | some v => s.setFld Reg.MARGIN_VDD 25 16 v
    | none => s
  let v := s.fld Reg.MARGIN_VDD 25 16
  let ok := ack && vout.isSome && Nat.ble v (sp + 10) && Nat.ble sp (v + 10)
  if ok then (s.setRbit Reg.MARGIN_STATUS 2 false).setTries 0
  else if s.rbit Reg.MARGIN_STATUS 2 then s.setAvsLimit v
  else if Nat.blt s.margin.avsTries 3 then (s.setTries (s.margin.avsTries + 1)).emit (.avs 0 sp)
  else
    let s := ((s.setRbit Reg.MARGIN_STATUS 2 true).setAvsLimit v).bump Reg.MARGIN_AVS_ERRORS 1
    { s with margin := { s.margin with avsError := true } }.raise 500 FaultKind.AVS_ERROR sp

/-- Whether the Prompter runs and the MARGIN page answers. -/
def State.marginLive (s : State) : Bool := s.live 0x007 && !s.domainHeld 3

def execAvsReadback (ack : Bool) (vout : Option (BitVec 10)) (s : State) : Host.Outcome State Fault Refusal :=
  .next <| if s.marginLive then s.avsReadback ack (vout.map BitVec.toNat) else s

/-- AVS_RETRY (R718): while AVS_FAIL, the rail is tried again each second. -/
def execAvsRetry (s : State) : Host.Outcome State Fault Refusal :=
  .next <| if s.marginLive && s.rbit Reg.MARGIN_STATUS 2 then s.emit (.avs 0 s.setpoint) else s

/-! ### The margin journal -/

/-- A count that stops at 0xFFFF. -/
def sat16 (n : Nat) : Nat := min n 65535

/-- The means, maxima and the lowest ledger of the cache (R719, R720 bytes 20 to 35, 40 to 135); of a cache without an
update, free bytes. -/
def State.journalStats (s : State) : List Byte × List Byte :=
  let m := s.margin
  if m.updates == 0 then ((List.range 16).map (Config.freeByte s.freeCtr), (rangeFrom 16 96).map (Config.freeByte s.freeCtr))
  else
    let n := m.updates
    (leBytes 2 (m.spSum / n) ++ leBytes 2 m.spMax ++ leBytes 2 (w32 (m.tempSum / (n : Int))).toNat ++
       leBytes 2 (w32 m.tempMax).toNat ++ leBytes 4 (m.rawMin.getD 0) ++ leBytes 4 (m.rawSum / n),
     (List.range 24).flatMap fun i => leBytes 4 (m.canSums.getD i 0 / n))

/-- An entry of the journal (R720). -/
def State.journalBytes (s : State) (seq : Nat) : List Byte :=
  let m := s.margin
  let st := s.journalStats
  let b := [0x55, 0x51, 0x4D, 0x4A] ++ leBytes 4 seq ++ leBytes 8 s.now ++ leBytes 4 (s.regN Reg.MARGIN_HOURS) ++ st.1 ++
    leBytes 2 (sat16 m.raises) ++ leBytes 2 (sat16 m.limited) ++ st.2 ++
    leBytes 4 (b2n m.rehPass + 2 * b2n m.rehFail + 4 * b2n m.avsError) ++ List.replicate 112 0
  b ++ beBytes 4 (crc32c b)

/-- The cache cleared (R719). -/
def Margin.cleared (m : Margin) : Margin :=
  { Margin.init with quiet := m.quiet, avsTries := m.avsTries, avsLimit := m.avsLimit, opTicks := m.opTicks }

/-- An entry written (R719, R721): read back intact, or failed, with the cache kept and the next try 1 h away. -/
def State.journalWrite (s : State) (ok : Bool) : State :=
  let seq := match s.journalNewest with
    | some b => (leAt b 4 4 + 1) % 2 ^ 32
    | none => 0
  let n := s.journalSize
  let a := (s.slot 5).1 + 256 * (seq % n)
  let done := ok && n != 0
  let bs := if done then s.journalBytes seq else (List.range 256).map (Config.freeByte (s.freeCtr + 1))
  let s := s.doIf (n != 0) fun s =>
    (s.doIf (a % 4096 == 0) fun s => s.flashWrite a (List.replicate 4096 0xFF)).flashWrite a bs
  let s := { s with freeCtr := s.freeCtr + 2 }
  if done then
    { (s.setRegN Reg.MARGIN_JOURNAL_SEQ seq).setFld Reg.MARGIN_JOURNAL_NEXT 19 0 604800 with margin := s.margin.cleared }
  else (s.bump Reg.MARGIN_JOURNAL_FAILS 1).setFld Reg.MARGIN_JOURNAL_NEXT 19 0 3600

def execJournalWeekEnd (ok : Bool) (s : State) : Host.Outcome State Fault Refusal :=
  .next <| if s.marginLive then s.journalWrite ok else s
def execJournalRetry (ok : Bool) (s : State) : Host.Outcome State Fault Refusal :=
  .next <| if s.marginLive then s.journalWrite ok else s

end Sys2Proof.Machine
end

