-- ==== Sys2Proof/Machine/Bus.lean ====
section
/-! DEFINITION. Register access: what a BAR 0 address means and what it shows (R4 to R8, R10, R402, R767 to R777), reads
with their effects (R7, R10, R486, R488, R591), writes with the conditions of each register and the operation that each
starts (R10, R11, R19, R653, R773, R774), and the rows REGISTER_WRITE, RC_REGISTER_READ, LOW_WORD_READ and
BAR0_BAD_ACCESS. -/

namespace Sys2Proof.Machine

/-! ### What an address means -/

/-- Whether a CTX page shows its encode meanings at an offset: the active set by the active DIRECTION, the shadow set by
the shadow one, the status registers by the active one while the context is enabled and else by the shadow one (R223). -/
def State.encMeaning (s : State) (a : Nat) : Bool :=
  let c := pageOf a - 0x200
  let o := offOf a
  let active := s.isEncode c
  let shadow := s.rbit (shadowOf (Reg.CTX_MODE c)) 0
  if Nat.ble 0x400 o && Nat.blt o 0x500 then active
  else if Nat.ble 0x800 o && Nat.blt o 0x900 then shadow
  else if s.enabled (ctxPage c) then active else shadow

/-- The register at a BAR 0 address. -/
def State.regKey (s : State) (a : Nat) : Nat :=
  let p := pageOf a
  if Nat.ble 0x200 p && Nat.blt p 0x300 && (regRow (0x1000000 + a)).isSome && s.encMeaning a then 0x1000000 + a else a

/-! ### What a register shows -/

/-- The low 4 bits of the STATE field of the page's own status register (R775). -/
def State.blockState (s : State) (b : Nat) : Nat :=
  if Nat.ble 0x200 b && Nat.blt b 0x300 then
    let c := b - 0x200
    if s.encMeaning (Reg.DEC_STATUS c) then s.fld (Reg.ENC_STATUS c) 3 0 else s.fld (Reg.DEC_STATUS c) 3 0
  else if Nat.ble 0x040 b && Nat.ble b 0x047 then s.outState (b - 0x040)
  else if Nat.ble 0x048 b && Nat.ble b 0x04B then s.inState (b - 0x048)
  else if Nat.ble 0x030 b && Nat.ble b 0x033 then s.portState (b - 0x030)
  else if Nat.ble 0x010 b && Nat.ble b 0x013 then s.dramState (b - 0x010)
  else if b == 0x006 then s.fld Reg.REH_STATUS 2 0
  else 0

/-- A stop of the block is in progress (R773). -/
def State.stopInProgress (s : State) (b : Nat) : Bool :=
  if Nat.ble 0x200 b && Nat.blt b 0x300 then (s.ctx (b - 0x200)).stopping
  else if Nat.ble 0x040 b && Nat.ble b 0x047 then (s.dpOut (b - 0x040)).stopping
  else false

/-- No picture, frame, descriptor, request or row job of the block is in progress (R775). -/
def State.blockIdle (s : State) (b : Nat) : Bool :=
  if Nat.ble 0x200 b && Nat.blt b 0x300 then
    let c := b - 0x200
    (s.ctx c).pic.isNone && (s.ctx c).dpic.isNone && s.bays.all fun p => p.2.jobs.all fun j => j.ctx != c
  else if Nat.ble 0x040 b && Nat.ble b 0x047 then s.outState (b - 0x040) != 3
  else if Nat.ble 0x048 b && Nat.ble b 0x04B then s.inState (b - 0x048) != 3
  else if Nat.ble 0x050 b && Nat.ble b 0x057 then s.outState (b - 0x050) != 3
  else if Nat.ble 0x030 b && Nat.ble b 0x033 then
    s.queues.all fun q => q.2.frames.isEmpty || cfgPort (s.qCfg q.1) != b - 0x030
  else if b == 0x035 then s.queues.all fun q => q.2.frames.isEmpty
  else if Nat.ble 0x010 b && Nat.ble b 0x013 then
    (s.dram (b - 0x010)).reads.isEmpty && (s.dram (b - 0x010)).writes.isEmpty
  else if b == 0x019 then s.cvu.all fun q => q.2.isEmpty
  else if b == 0x020 then s.dma.all fun q => q.2.desc.isNone
  else if b == 0x028 then s.host.jobs.isEmpty
  else if Nat.ble 0x080 b && Nat.ble b 0x08B then (s.bay (b - 0x080)).jobs.isEmpty
  else if Nat.ble 0x100 b && Nat.ble b 0x15F then (s.pxEng (b - 0x100)).item.isNone
  else if Nat.ble 0x180 b && Nat.ble b 0x18F then (Sparse.get (fun _ => CeEng.init) s.ce (b - 0x180)).level == 0
  else if Nat.ble 0x1A0 b && Nat.ble b 0x1B7 then s.ctxs.all fun p => !p.2.lanes.any fun l => l.1 == b - 0x1A0
  else if b == 0x006 then s.fld Reg.REH_STATUS 2 0 == 0
  else if b == 0x003 then s.trust.posts.isEmpty
  else true

/-- BLK_STAT (R775). -/
def State.showStat (s : State) (b : Nat) : Word :=
  let reset := s.fld (blkStat b) 3 2
  let run := s.enabled b && reset == 0 && !s.stopInProgress b
  BitVec.ofNat 32 (b2n run + 2 * b2n (s.blockIdle b) + 4 * reset + 16 * s.blockState b)

/-- A header register (R769 to R777): in a page other than the first of its block, the controls read zero, and status,
faults and sequence number read as in the first. -/
def State.headerView (s : State) (i : PageInfo) (k : Nat) : Word :=
  let o := offOf k
  let first := i.index == 0
  if o == 0x00C then
    if first then putBit (s.reg (blkCtrl i.block)) 1 (s.stopInProgress i.block) else 0
  else if o == 0x010 then s.showStat i.block
  else if o == 0x014 then s.reg (blkFault i.block)
  else if o == 0x018 then (if first then s.reg (blkForce i.block) else 0)
  else if o == 0x01C then s.reg (blkSeq i.block)
  else if o == 0x020 then (if first && i.shadow && i.typ != 0x0D then s.reg (blkShadow i.block) else 0)
  else if o == 0x024 then (if first then s.reg (blkOwner i.block) else 0)
  else regReset k

/-- The reference copy behind a page of the read windows (R402): the byte of the copy where the page's words begin. -/
def windowStart (p : Nat) : Option (Nat × Bool) :=
  if Nat.blt p 0x810 then some (copyOffset 0 + 0x800 * (p - 0x800), true)
  else if Nat.blt p 0x850 then some (copyOffset 1 + 0x800 * (p - 0x810), false)
  else if Nat.blt p 0x858 then some (copyOffset 2 + 0x800 * (p - 0x850), false)
  else none

/-- A word of the reference copy as its window shows it; bits [31:24] of a microword read zero. -/
def State.windowWord (s : State) (k : Nat) : Word :=
  match windowStart (pageOf k) with
  | some (o, micro) =>
    let w := s.memLE (s.copyBase + o + (offOf k - 0x800)) 4
    BitVec.ofNat 32 (if micro then w % 2 ^ 24 else w)
  | none => 0

/-- The four bytes of OTP that TRUST_OTP_DATA shows; the device keys read zero (R682). -/
def State.otpWord (s : State) : Word :=
  let a := s.fld Reg.TRUST_OTP_ADDR 11 2 * 4
  if Nat.ble 0x230 a && Nat.blt a 0x2F0 then 0 else BitVec.ofNat 32 (s.otpLE a 4)

/-- What a register of an assigned page shows (R8, R10). -/
def State.view (s : State) (k : Nat) : Word :=
  let p := pageOf k
  let o := offOf k
  match pageInfo p with
  | none => 0
  | some i =>
    if Nat.blt o 0x40 then s.headerView i k
    else if Nat.ble 0x800 p then (if Nat.ble 0x800 o then s.windowWord k else s.reg k)
    else match regRow k with
      | none => 0
      | some r =>
        if r.access == .wo then 0
        else if k == Reg.TRUST_OTP_DATA then s.otpWord
        else if k == Reg.HOSTQ_PCIE_STATUS then s.showPcie.reg k
        else if Nat.ble 0x010 p && Nat.ble p 0x013 && o == 0x05C then putBit (s.reg k) 3 (s.ordered (p - 0x010))
        else if p == 0x00B && (o - 0x040) % 0xC0 == 0 then
          (if Nat.ble 16 ((o - 0x040) / 0xC0) && s.asleep ((o - 0x040) / 0xC0) then 1 else 0)
        else if k == Reg.PAIR_CTRL then (if s.rbit Reg.OPT_STATUS 12 then putBit (s.reg k) 0 false else s.reg k)
        else if k == Reg.RESET_CMD then 0
        else if i.typ == 0x1E && o == 0x300 && !s.inReset i.block then s.freshView (i.block - 0x200)
        else s.reg k

/-! ### Reads -/

/-- Whether a register is the low word of a 64-bit quantity of access RO or RC (R7).  The words of a record that stands in
registers word by word (FAULT_FIRST_k, FAULT_STOP_k, FAULT_CB_k) are no such quantities: none latches (DESIGN CHOICE,
assumption 68). -/
def lowWord (k : Nat) : Bool :=
  let o := offOf k
  let p := pageOf k
  match pageInfo p with
  | none => false
  | some i =>
    if i.typ == 0x1E then (if Nat.ble 0x1000000 k then o == 0x430 else o == 0x34C || o == 0x518)
    else if i.typ == 0x01 then o == 0x048
    else if i.typ == 0x04 then o == 0x094 || o == 0x128
    else if i.typ == 0x05 then o == 0x050 || o == 0x088
    else if i.typ == 0x07 then o == 0x050 || o == 0x058
    else if i.typ == 0x17 then o == 0x050 || o == 0x068
    else if i.typ == 0x14 then o == 0x070
    else if i.typ == 0x15 then o == 0x058
    else if i.typ == 0x0E then Nat.ble 0x400 o && o % 0x40 == 0x30 && Nat.blt o 0x800
    else if i.typ == 0x0D then Nat.ble 0x100 o && Nat.blt o 0x300 && o % 0x20 == 0x10
    else if i.typ == 0x0C then Nat.ble 0x100 o && Nat.blt o 0x300 && o % 0x40 == 0x38
    else false

/-- The latched word of a register. -/
def State.latch (s : State) (k : Nat) : Option Word := Sparse.get (fun _ => none) s.latches k
def State.setLatch (s : State) (k : Nat) (v : Option Word) : State :=
  { s with latches := Sparse.set (fun _ => none) s.latches k v }

/-- An RC register after its read: cleared; POOL_LOW_p restarts from the present count; the counters of POL_SEL are those
of the selected flow (R10, R497, R591). -/
def State.clearRead (s : State) (k : Nat) : State :=
  let p := pageOf k
  let o := offOf k
  if p == 0x018 && Nat.ble 0x180 o && Nat.blt o 0x1A0 then s.setReg k (s.reg (Reg.POOL_FREE ((o - 0x180) / 4)))
  else if p == 0x037 then
    let f := s.fld Reg.POL_SEL 7 0
    let x := s.policer f
    s.setPolicer f (if o == 0x058 then { x with green := 0 } else if o == 0x05C then { x with yellow := 0 }
      else { x with red := 0 })
  else s.setReg k 0

/-- A read of a register of an assigned page whose domain is not held: its value and its effects. -/
def State.readReg (s : State) (k : Nat) : State × Word :=
  let p := pageOf k
  let o := offOf k
  if k == Reg.TIME_NOW_FRAC then (s.latchNow, BitVec.ofNat 32 s.tb.frac)
  else if k == Reg.TIME_PPS_IN_NS then (s.latchPps, s.reg k)
  else if p == 0x018 && Nat.ble 0xA00 o && Nat.blt o 0xC00 && o % 0x20 == 0x14 then
    (if s.inReset 0x018 then (s, 0) else match s.fifoPop ((o - 0xA00) / 0x20) with
      | (s, v) => (s, BitVec.ofNat 32 v))
  else match s.latch k with
    | some v => (s.setLatch k none, v)
    | none =>
      let v := s.view k
      let s := s.doIf (lowWord k) fun s => s.setLatch (k + 4) (some (s.view (k + 4)))
      match regRow k with
      | some r => (s.doIf (r.access == .rc && Nat.ble 0x40 o) fun s => s.clearRead k, v)
      | none => (s, v)

/-- A read at a BAR 0 address (R5, R767, R768). The host reaches nothing while domain 9a is held. -/
def State.busRead (s : State) (w : Writer) (a : Nat) : State × Word :=
  if a % 4 != 0 || (w == .host && s.domainHeld 9) then (s, 0)
  else match pageInfo (pageOf a) with
    | none => (s, 0)
    | some i => if s.pageHeld i then (s, 0) else s.readReg (s.regKey a)

/-- The row's answer. -/
def State.answerRead (s : State) (w : Writer) (a : Nat) : State :=
  match s.busRead w a with
  | (s, v) => s.emit (.readData v)

/-- RC_REGISTER_READ (R10): the value, and then the register is clear. -/
def execRcRegisterRead (w : Writer) (a : BitVec 24) (s : State) : Host.Outcome State Fault Refusal := .next (s.answerRead w a.toNat)

/-- LOW_WORD_READ (R7): the low word, and the high word of the same moment at the next read of it. -/
def execLowWordRead (w : Writer) (a : BitVec 24) (s : State) : Host.Outcome State Fault Refusal := .next (s.answerRead w a.toNat)

/-- BAR0_BAD_ACCESS (R5): a read returns zero, a write changes nothing. -/
def execBar0BadAccess (q : BadAsk) (s : State) : Host.Outcome State Fault Refusal :=
  .next (if q.write then s else s.emit (.readData 0))

end Sys2Proof.Machine
end

