-- ==== Sys2Proof/Machine/BusWrite.lean ====
section
/-! DEFINITION. Register writes: which registers R19 keeps from the Stage Manager and the host, the conditions under which
each register takes a write, the operation that a write starts, the header of a page (R654, R655, R705, R773 to R777),
and the row REGISTER_WRITE (R10). -/

namespace Sys2Proof.Machine

/-! ### Kept from the Stage Manager and the host -/

/-- The trust, fence, severity-lock and OTP registers of R19: every RWP register, BLK_OWNER among them, the read-only registers of the
TRUST page, those that show OTP bytes, the VDD_CORE setpoint (DEDUCED from what only the Prompter writes, assumption 20). -/
def trustReg (k : Nat) : Bool :=
  (match regRow k with
   | some r => decide (r.access = .rwp) || (pageOf k == 0x003 && decide (r.access = .ro))
   | none => false) ||
    (offOf k == 0x024 && ((pageInfo (pageOf k)).map (·.index)) == some 0) ||
    k == Reg.OPT_OTP_CRC || (Nat.ble (Reg.OPT_OTP 0) k && Nat.ble k (Reg.OPT_OTP 63) && k % 4 == 0) || k == Reg.MARGIN_VDD

/-- Whether a write of a writer meets R19. -/
def offends (w : Writer) (k : Nat) : Bool :=
  trustReg k && match w with
    | .stageManager _ => true
    | .host => true
    | _ => false

/-! ### Conditions -/

/-- A power of two within a range. -/
def pow2In (lo hi n : Nat) : Bool := Nat.ble lo n && Nat.ble n hi && (List.range 13).any fun j => n == 2 ^ j

def within (lo hi n : Nat) : Bool := Nat.ble lo n && Nat.ble n hi

/-- R165, R166, R226, R347: a CTX page. -/
def State.ctxTakes (s : State) (c k : Nat) (v : Word) : Bool :=
  let o := offOf k
  let on := s.enabled (ctxPage c)
  if Nat.ble 0x1000000 k && Nat.ble 0x240 o && Nat.ble o 0x248 then !on && (o != 0x248 || pow2In 2 256 (bits v 8 0))
  else if Nat.ble 0x280 o && Nat.ble o 0x288 then !on
  else if (Nat.ble 0x384 o && Nat.ble o 0x398) || o == 0x3A0 then
    !s.rbit (Reg.SESS_CTRL c) 0 && (o != 0x398 || !s.encMeaning (Reg.SESS_STREAM_ID c))
  else if o == 0x39C then sessTimingOk v
  else true

/-- R409: while a DP_OUT block is enabled, its timing registers take no write (DP_OUT_CTRL keeps two fields writable). -/
def State.outTakes (s : State) (n o : Nat) : Bool := !s.enabled (outPage n) || !(Nat.ble 0x044 o && Nat.ble o 0x058)

/-- R436. -/
def State.inTakes (s : State) (n o : Nat) : Bool := !s.enabled (inPage n) || !(o == 0x040 || Nat.ble 0x100 o)

/-- R550. -/
def State.hostqTakes (s : State) (o : Nat) (v : Word) : Bool :=
  if Nat.blt o 0x400 then true
  else
    let q := (o - 0x400) / 0x40
    let r := o % 0x40
    if r == 0x04 || r == 0x08 then !s.cmdEn q
    else if r == 0x0C then !s.cmdEn q && pow2In 16 4096 (bits v 12 0)
    else if r == 0x18 || r == 0x1C || r == 0x24 || r == 0x28 then !s.tallyEn q
    else if r == 0x20 then !s.tallyEn q && pow2In 16 4096 (bits v 12 0)
    else true

/-- R637, R636, R638: the DRAM pages. -/
def State.dramTakes (s : State) (n o : Nat) (v : Word) : Bool :=
  if o == 0x040 then !s.enabled (dramPage n) && Nat.ble (bits v 2 0) 4
  else if o == 0x044 then !s.enabled (dramPage n)
  else if o == 0x048 then within 1 64 (bits v 14 8)
  else if o == 0x04C then Nat.blt (bits v 13 8) (bits v 5 0)
  else if o == 0x050 then Nat.ble (bits v 3 0) 8 && within 1 32 (bits v 15 8)
  else if o == 0x054 then within 8 14 (bits v 3 0)
  else if o == 0x058 then within 4 1000 (bits v 15 0)
  else if o == 0x200 then Nat.ble (bits v 14 0) 16384
  else true

/-- R580: the cue ring area moves only while the Cue Exchange is disabled, within Pool Memory, off the pools of an
enabled prop room and the storage of enabled service FIFOs. -/
def State.ringTakes (s : State) (v : Word) : Bool :=
  let o := bits v 22 18 * 0x40000
  !s.enabled 0x008 && Nat.ble (o + 0x80000) 0x800000 &&
    (!s.enabled 0x018 || (!s.meetsPool o 0x80000 && (List.range 16).all fun f =>
      !s.rbit (Reg.FIFO_CFG f) 0 || !overlap o 0x80000 (s.fifoStorage f).1 (s.fifoStorage f).2))

/-- The window of the prop room that a writer owns (R591). -/
def ownWindow : Writer → Option Nat
  | .host => some 0
  | .stageManager n => some (1 + n.val)
  | .prompter => some 5
  | .cueEngine _ => none

/-- R584, R589, R591, R597: the POOL page. -/
def State.poolTakes (s : State) (w : Writer) (o : Nat) : Bool :=
  if Nat.ble 0x100 o && Nat.blt o 0x180 then !s.enabled 0x018
  else if Nat.ble 0x400 o && Nat.blt o 0x600 then Nat.blt ((o - 0x400) / 8) 28
  else if Nat.ble 0x800 o && Nat.blt o 0x8C0 then ownWindow w == some ((o - 0x800) / 0x20)
  else if Nat.ble 0xA00 o && Nat.blt o 0xC00 && o % 0x20 == 0x04 then !s.rbit (Reg.FIFO_CFG ((o - 0xA00) / 0x20)) 0
  else true

/-- R601: the configuration of a channel is its owner's. -/
def State.cvuTakes (s : State) (w : Writer) (p o : Nat) : Bool :=
  if Nat.ble 0x100 o && Nat.blt o 0x300 && o % 0x40 != 0x34 then
    cvuClass w == s.fld (Reg.CVU_OWNER (8 * (p - 0x019) + (o - 0x100) / 0x40)) 1 0
  else true

/-- R398: the microcode registers of the TRUST page. -/
def State.ucTakes (s : State) (k : Nat) (v : Word) : Bool :=
  if Nat.ble Reg.UC_FENCE_PX k && Nat.ble k Reg.UC_HOOK_LIMIT then
    !s.rbit Reg.UC_FENCE_CTRL 0 &&
      (if k == Reg.UC_FENCE_PX then Nat.ble 0x1800 (bits v 12 0)
       else if k == Reg.UC_FENCE_NANO then Nat.ble 0xE00 (bits v 11 0)
       else if k == Reg.UC_FENCE_CE then Nat.ble 0xC00 (bits v 11 0)
       else true)
  else true

/-- R691, R722: the FAULT page. SEV_LOCK once set stays. -/
def State.faultTakes (s : State) (o : Nat) (v : Word) : Bool :=
  if o == 0x040 then bit v 0 || !s.rbit Reg.FAULT_CTRL 0
  else if o == 0x058 then within 20 250 (bits v 7 0)
  else if Nat.ble 0x100 o && Nat.blt o 0x200 then !s.rbit Reg.FAULT_CTRL 0
  else true

/-- R346, R724: the MARGIN page. -/
def marginTakes (o : Nat) (v : Word) : Bool :=
  if o == 0x040 then Nat.ble (bits v 15 8) 200 && Nat.ble (bits v 23 16) 200
  else if o == 0x044 then within 650 800 (bits v 9 0) && within 650 800 (bits v 25 16)
  else if o == 0x048 then within 800 850 (bits v 9 0)
  else if o == 0x200 then ledgerCtrlOk v
  else true

/-- R757, R758, R760, R764 C39: the PAIR page. -/
def State.pairTakes (s : State) (o : Nat) (v : Word) : Bool :=
  if o == 0x040 then
    !s.rbit Reg.OPT_STATUS 12 && bits v 2 1 != 3 && within 60 250 (bits v 15 8) && Nat.ble 2 (bits v 19 16) &&
      Nat.ble 1 (bits v 23 20)
  else if o == 0x05C then within 100 1000000 v.toNat
  else if o == 0x060 then within 10 1000 (bits v 15 0)
  else if o == 0x064 then within 1 10000 (bits v 15 0)
  else if Nat.ble 0x100 o then !s.rbit Reg.PAIR_CTRL 0
  else true

/-- R810: the TIME page. -/
def timeTakes (o : Nat) (v : Word) : Bool :=
  if o == 0x078 then Nat.ble 1 (bits v 23 16) else if o == 0x090 then Nat.ble 1 (bits v 15 0) else true

/-- R221: the CONTENT page. -/
def contentTakes (o : Nat) (v : Word) : Bool :=
  if o == 0x040 then within 2 64 (bits v 6 0)
  else if o == 0x044 then within 1 64 (bits v 6 0)
  else if o == 0x048 then Nat.ble 1 (bits v 7 0)
  else true

/-- Whether a register takes a write of a value by a writer. -/
def State.takes (s : State) (w : Writer) (k : Nat) (v : Word) : Bool :=
  let p := pageOf k
  let o := offOf k
  if Nat.ble 0x200 p && Nat.blt p 0x300 then s.ctxTakes (p - 0x200) k v
  else if Nat.ble 0x040 p && Nat.ble p 0x047 then s.outTakes (p - 0x040) o
  else if Nat.ble 0x048 p && Nat.ble p 0x04B then s.inTakes (p - 0x048) o
  else if Nat.ble 0x030 p && Nat.ble p 0x033 then !s.enabled p || !(o == 0x040 || o == 0x044)
  else if p == 0x028 then s.hostqTakes o v
  else if p == 0x020 || p == 0x021 then
    !(Nat.ble 0x100 o && Nat.blt o 0x300 && (o % 0x20 == 0x08 || o % 0x20 == 0x0C)) ||
      !s.dmaOn (16 * (p - 0x020) + (o - 0x100) / 0x20)
  else if Nat.ble 0x010 p && Nat.ble p 0x013 then s.dramTakes (p - 0x010) o v
  else if Nat.ble 0x008 p && Nat.ble p 0x00B then
    (w != .host || k == Reg.CUEX_DOORBELL) && (k != Reg.CUEX_RING_BASE || s.ringTakes v)
  else if p == 0x018 then s.poolTakes w o
  else if p == 0x019 || p == 0x01A then s.cvuTakes w p o
  else if p == 0x003 then s.ucTakes k v
  else if p == 0x001 then !(o == 0x050 || o == 0x058) || within 10 10000 (bits v 15 0)
  else if p == 0x005 then s.faultTakes o v
  else if p == 0x007 then marginTakes o v
  else if p == 0x060 then s.pairTakes o v
  else if p == 0x004 then timeTakes o v
  else if p == 0x1D0 then contentTakes o v
  else true

/-! ### Effects -/

/-- A write under its access code alone (R10). -/
def State.plainWrite (s : State) (w : Writer) (k : Nat) (v : Word) : State :=
  match regRow k with
  | none => s
  | some r => match r.access with
    | .rw => s.store k v
    | .rwp => if w == .prompter then s.store k v else s
    | .w1c => s.setReg k (s.reg k &&& ~~~v)
    | .w1s => s.setReg k (s.reg k ||| (v &&& BitVec.ofNat 32 r.mask))
    | _ => s

/-- PKT_FLOW_CMD (R464): FLOW_ID and OP. -/
def State.pktCommand (s : State) (v : Word) : State :=
  let f := bits v 7 0
  let op := bits v 9 8
  if op == 0 then s.flowRead f
  else if op == 1 then (s.flowWriteNew f s.flowWindow).1
  else if op == 2 then (s.flowUpdate f s.flowWindow).1
  else s.flowInvalidate f

/-- HOSTQ_CTRL_q (R549 to R551). -/
def State.hostqCtrl (s : State) (q : Nat) (v : Word) : State :=
  if !bit v 0 then s.doIf (s.tallyEn q) fun s => s.tallyDisable q
  else
    let s := s.tallyEnable q
    if bit v 1 then s.cmdEnable q else s.cmdDisable q

/-- DMA_CTRL_c (R539 to R541): clearing ENABLE goes before STOP. -/
def State.dmaCtrl (s : State) (c : Nat) (v : Word) : State :=
  if s.dmaOn c then
    if !bit v 0 then s.dmaHalt c else s.doIf (bit v 1) fun s => s.dmaStop c
  else s.doIf (bit v 0 && !bit v 1) fun s => s.dmaEnable c

/-- A window of the prop room (R590, R591): a request, or a reference command. -/
def State.poolWindow (s : State) (w : Writer) (n r : Nat) (v : Word) : State :=
  let me := requesterOf w
  if r == 0x00 then
    match s.poolAsk me (bits v 26 0) with
    | (s, st, h) => s.poolReply me st h
  else if r == 0x0C then s.setReg (Reg.POOL_REF_HANDLE n) v
  else if r == 0x10 && bit v 0 != bit v 1 then
    match s.poolRef (s.regN (Reg.POOL_REF_HANDLE n)) (bit v 0) with
    | (s, st, k) => s.refReply me st k
  else s

/-- FAULT_SEV_k (R690): each field set, but Contain where the source may not hold it. -/
def State.sevWrite (s : State) (k : Nat) (v : Word) : State :=
  s.forEach (List.range 16) fun j s => s.setSeverity (16 * k + j) (bits v (2 * j + 1) (2 * j))

/-- PAIR_CTRL (R758, R760). -/
def State.pairCtrl (s : State) (v : Word) : State :=
  let old := s.reg Reg.PAIR_CTRL
  if bit old 0 then
    let s := s.setReg Reg.PAIR_CTRL (putBit (putBit (putBit old 0 (bit v 0)) 4 (bit v 4)) 5 (bit v 5))
    s.doIf (!bit v 0) fun s => s.pairDown
  else s.store Reg.PAIR_CTRL v

/-- The pages of the network. -/
def State.netEffect (s : State) (w : Writer) (k : Nat) (v : Word) : State :=
  let p := pageOf k
  let o := offOf k
  if k == Reg.PKT_FLOW_CMD then s.pktCommand v
  else if k == Reg.PKT_SMTX_TAIL then s.smtxTailWrite v
  else if p == 0x035 && Nat.ble 0x800 o then s.shqWrite ((o - 0x800) / 8) (o % 8 == 4) v
  else if Nat.ble 0x030 p && Nat.ble p 0x033 && o == 0x040 then ((s.store k v).syncLatency (p - 0x030)).shaperStatus
  else if k == Reg.POL_SEL then (s.store k v).showPolicer
  else if p == 0x037 && Nat.ble 0x044 o && Nat.ble o 0x054 then s.policerWrite ((o - 0x044) / 4) v
  else if k == Reg.LAT_CTRL then s.latCtrlWrite v
  else if k == Reg.LAT_SEL then s.latSnapshot v
  else if k == Reg.PAIR_CTRL then s.pairCtrl v
  else if k == Reg.PAIR_CMD then
    (s.doIf (bit v 0) fun s => s.pairSwitch).doIf (bit v 1) fun s => s.resetPeer
  else s.plainWrite w k v

/-- The pages of the host interface. -/
def State.hostEffect (s : State) (w : Writer) (k : Nat) (v : Word) : State :=
  let p := pageOf k
  let o := offOf k
  if p == 0x028 then
    let q := (o - 0x400) / 0x40
    if Nat.blt o 0x400 then s.plainWrite w k v
    else if o % 0x40 == 0x00 then s.hostqCtrl q v
    else if o % 0x40 == 0x10 then s.doorbell q v
    else if o % 0x40 == 0x2C then s.tallyAck q v
    else s.plainWrite w k v
  else
    let c := 16 * (p - 0x020)
    if Nat.ble 0x100 o && Nat.blt o 0x300 && o % 0x20 == 0 then s.dmaCtrl (c + (o - 0x100) / 0x20) v
    else if Nat.ble 0x300 o && Nat.blt o 0x340 then s.shadowWrite (.dma (Fin.ofNat 32 (c + (o - 0x300) / 4))) v
    else s.plainWrite w k v

/-- The Cue Exchange. -/
def State.cuexEffect (s : State) (w : Writer) (k : Nat) (v : Word) : State :=
  let o := offOf k
  if k == Reg.CUEX_DOORBELL then s.cueDoorbell v
  else if k == Reg.CUEX_POST then s.cuePostWrite w v
  else if k == Reg.CUEX_CONSUME then s.cueConsume w v
  else if k == Reg.CUEX_CTRL then (s.store k v).forEach (List.range 20) fun t s => s.cuexSync t
  else if pageOf k == 0x009 then s.cueRouteWrite w ((o - 0x800) / 4) v
  else if pageOf k == 0x00B then
    let t := (o - 0x040) / 0xC0
    let r := (o - 0x040) % 0xC0
    if r == 0x00 then s.cueSleep w t v
    else if r == 0x08 then s.cueAckWrite w t v
    else if r == 0x0C then s.cueCompleteWrite w t v
    else s
  else s.plainWrite w k v

/-- The prop room, the service FIFOs and the check-value units. -/
def State.serviceEffect (s : State) (w : Writer) (k : Nat) (v : Word) : State :=
  let p := pageOf k
  let o := offOf k
  if p == 0x018 then
    if Nat.ble 0x800 o && Nat.blt o 0x8C0 then s.poolWindow w ((o - 0x800) / 0x20) (o % 0x20) v
    else if Nat.ble 0xA00 o && Nat.blt o 0xC00 then
      let f := (o - 0xA00) / 0x20
      if o % 0x20 == 0x00 then s.fifoCfgWrite f v
      else if o % 0x20 == 0x10 then s.fifoPush f v.toNat
      else s.plainWrite w k v
    else s.plainWrite w k v
  else if k == Reg.CVU_POST then s.cvuPost (cvuClass w) (bits v 22 6 * 64)
  else if Nat.ble 0x100 o && Nat.blt o 0x300 && o % 0x40 == 0x1C then
    s.cvuCounterCfgWrite w (8 * (p - 0x019) + (o - 0x100) / 0x40) v
  else s.plainWrite w k v

/-- The pages of reset, trust, faults, rehearsal, ageing and time. -/
def State.careEffect (s : State) (w : Writer) (k : Nat) (v : Word) : State :=
  let o := offOf k
  let p := pageOf k
  if k == Reg.RESET_CMD then s.resetCmd w (bit v 0) (bit v 1)
  else if k == Reg.RESET_PWD_KICK then s.pwdKick w v
  else if k == Reg.RESET_SMWD_KICK then s.smwdKick w v
  else if k == Reg.TRUST_DEBUG then s.doIf (w == .prompter) fun s => s.setDebug (bit v 0)
  else if k == Reg.TRUST_PC_CTRL || k == Reg.TRUST_PC_BASE then (s.plainWrite w k v).sweep
  else if p == 0x003 && Nat.ble 0x070 o && Nat.ble o 0x07C then s.postCall w ((o - 0x070) / 4) v
  else if k == Reg.FAULT_HEARTBEAT then s.heartbeat w v
  else if k == Reg.FAULT_CLEAR then (s.doIf (bit v 0) fun s => s.clearFirst).doIf (bit v 1) fun s => s.clearStop
  else if p == 0x005 && Nat.ble 0x100 o && Nat.blt o 0x200 then
    s.doIf (w == .prompter) fun s => s.sevWrite ((o - 0x100) / 4) v
  else if k == Reg.REH_CMD then s.doIf (asksRehearsal w) fun s => s.rehCmd v
  else if k == Reg.REH_SIG_SEL then (s.store k v).showSig
  else if k == Reg.TIME_CTRL then s.timeCtrlWrite v
  else if k == Reg.TIME_INCR_NS then s.timeIncrWrite v
  else if k == Reg.TIME_MAX_ADJ then s.timeMaxAdjWrite v
  else if k == Reg.TIME_CMD then s.timeStep v
  else if k == Reg.TIME_OFFSET_SAMPLE then s.timeSample v
  else s.plainWrite w k v

/-- The pages of contexts, engines and display. -/
def State.workEffect (s : State) (w : Writer) (k : Nat) (v : Word) : State :=
  let p := pageOf k
  let o := offOf k
  if Nat.ble 0x200 p && Nat.blt p 0x300 then
    if o == 0x380 then s.writeSessCtrl (p - 0x200) v
    else if o == 0x39C then s.writeSessTiming (p - 0x200) v
    else if o == 0x3A0 then (s.plainWrite w k v).sessStatus (p - 0x200)
    else s.plainWrite w k v
  else if Nat.ble 0x100 p && Nat.ble p 0x15F && o == 0x048 then s.pxDebugRead (p - 0x100) v
  else if Nat.ble 0x180 p && Nat.ble p 0x18F && o == 0x048 then s.ceDebugRead (p - 0x180) v
  else if Nat.ble 0x040 p && Nat.ble p 0x047 then
    if o == 0x078 then s.auxStart (p - 0x040) v
    else if o == 0x040 && s.enabled p then
      s.setReg k (putBit (putBit (s.reg k) 10 (bit v 10)) 11 (bit v 11))
    else s.plainWrite w k v
  else s.plainWrite w k v

/-- A write that a register takes (R10). -/
def State.regEffect (s : State) (w : Writer) (k : Nat) (v : Word) : State :=
  let p := pageOf k
  if Nat.ble p 0x007 then s.careEffect w k v
  else if Nat.ble p 0x00B then s.cuexEffect w k v
  else if Nat.ble 0x018 p && Nat.ble p 0x01A then s.serviceEffect w k v
  else if Nat.ble 0x020 p && Nat.ble p 0x028 then s.hostEffect w k v
  else if (Nat.ble 0x030 p && Nat.ble p 0x038) || p == 0x060 then s.netEffect w k v
  else s.workEffect w k v

/-- A write to a register of a block in reset: the value of an RW register, from whoever may write it (R653); the
policer's registers are its own, and SESS_CTRL keeps R165. -/
def State.landWrite (s : State) (w : Writer) (k : Nat) (v : Word) : State :=
  if Nat.ble 0x200 (pageOf k) && k == Reg.SESS_CTRL (pageOf k - 0x200) then s.setReg k (sessCtrlTakes (s.reg k) v) else
  if k == Reg.POL_SEL || (pageOf k == 0x037 && Nat.ble 0x044 (offOf k) && Nat.ble (offOf k) 0x054) then s.netEffect w k v
  else if k == Reg.DP_OUT_CTRL (pageOf k - 0x040) then s.workEffect w k v
  else match regRow k with
    | some r => if r.access == .rw || (r.access == .rwp && w == .prompter) then s.store k v else s
    | none => s

/-! ### The header -/

/-- The enable, the stop and the halt of a block (R774). -/
def State.blockEnable (s : State) (b : Nat) : State :=
  if Nat.ble 0x200 b && Nat.blt b 0x300 then s.ctxEnable (b - 0x200)
  else if Nat.ble 0x040 b && Nat.ble b 0x047 then s.outEnable (b - 0x040)
  else if Nat.ble 0x048 b && Nat.ble b 0x04B then s.inEnable (b - 0x048)
  else if Nat.ble 0x030 b && Nat.ble b 0x033 then s.netEnable (b - 0x030)
  else if Nat.ble 0x010 b && Nat.ble b 0x013 then s.dramEnable (b - 0x010)
  else if b == 0x018 then s.poolEnable
  else s.setRbit (blkCtrl b) 0 true

def State.blockStop (s : State) (b : Nat) : State :=
  if Nat.ble 0x200 b && Nat.blt b 0x300 then s.ctxStop (b - 0x200)
  else if Nat.ble 0x040 b && Nat.ble b 0x047 then s.outStop (b - 0x040)
  else if Nat.ble 0x048 b && Nat.ble b 0x04B then s.inStop (b - 0x048)
  else if Nat.ble 0x030 b && Nat.ble b 0x033 then s.netStop (b - 0x030)
  else if Nat.ble 0x010 b && Nat.ble b 0x013 then s.dramStop (b - 0x010)
  else s.setRbit (blkCtrl b) 0 false

def State.blockHalt (s : State) (b : Nat) : State :=
  if Nat.ble 0x200 b && Nat.blt b 0x300 then s.ctxHalt (b - 0x200)
  else if Nat.ble 0x040 b && Nat.ble b 0x047 then s.outHalt (b - 0x040)
  else if Nat.ble 0x048 b && Nat.ble b 0x04B then s.inStop (b - 0x048)
  else if Nat.ble 0x030 b && Nat.ble b 0x033 then s.netHalt (b - 0x030)
  else if Nat.ble 0x010 b && Nat.ble b 0x013 then s.dramHalt (b - 0x010)
  else s.setRbit (blkCtrl b) 0 false

/-- ENABLE, STOP and HALT of one write of BLK_CTRL (R774). -/
def State.runBits (s : State) (b : Nat) (v : Word) : State :=
  if s.inReset b then s.setRbit (blkCtrl b) 0 (bit v 0)
  else if s.enabled b then
    if bit v 2 || !bit v 0 then s.blockHalt b else s.doIf (bit v 1) fun s => s.blockStop b
  else s.doIf (bit v 0 && !bit v 1 && !bit v 2) fun s => s.blockEnable b

/-- A write of BLK_CTRL (R773, R774): the run controls where the block has them, then SW_RESET. -/
def State.ctrlWrite (s : State) (w : Writer) (i : PageInfo) (v : Word) : State :=
  let s := s.doIf i.enable fun s => s.runBits i.block v
  s.doIf (bit v 3) fun s => s.swReset w i.block

/-- A write to the header of a page (R655, R705, R769, R776, R777). -/
def State.headerWrite (s : State) (w : Writer) (i : PageInfo) (o : Nat) (v : Word) : State :=
  let b := i.block
  if o == 0x014 then s.doIf (!s.inReset b) fun s => s.setReg (blkFault b) (s.reg (blkFault b) &&& ~~~v)
  else if i.index != 0 then s
  else if o == 0x00C then s.ctrlWrite w i v
  else if o == 0x018 then s.blkForceWrite w b v
  else if o == 0x020 then
    s.doIf (!s.inReset b) fun s =>
      if i.typ == 0x1E then s.shadowWrite (.ctx (Fin.ofNat 256 (b - 0x200))) v
      else if i.typ == 0x16 then s.shadowWrite (.comp (Fin.ofNat 8 (b - 0x050))) v
      else s
  else if o == 0x024 then
    s.doIf (w == .prompter && !s.rbit (blkOwner b) 8) fun s => s.setFld (blkOwner b) 1 0 (bits v 1 0)
  else s

/-! ### The row -/

/-- A write at a BAR 0 address (R4, R5, R8, R10, R19, R653, R767, R768). -/
def State.busWrite (s : State) (w : Writer) (a : Nat) (v : Word) : State :=
  if a % 4 != 0 || (w == .host && s.domainHeld 9) then s
  else match pageInfo (pageOf a) with
    | none => s
    | some i =>
      if s.pageHeld i then s
      else if offends w a then s.fenceViolation a (writerCode w)
      else if Nat.ble 0x008 (pageOf a) && Nat.ble (pageOf a) 0x00B && w == .host && a != Reg.CUEX_DOORBELL then s
      else if Nat.blt (offOf a) 0x40 then s.headerWrite w i (offOf a) v
      else
        let k := s.regKey a
        if (regRow k).isNone || !s.takes w k v then s
        else if s.inReset i.block then s.landWrite w k v
        else s.regEffect w k v

/-- REGISTER_WRITE (R10). -/
def execRegisterWrite (w : Writer) (a : BitVec 24) (v : Word) (s : State) : Host.Outcome State Fault Refusal :=
  .next (s.busWrite w a.toNat v)

end Sys2Proof.Machine
end

