-- ==== Sys2Proof/Machine/Ce.lean ====
section
/-! DEFINITION. The Cue Engine: its registers and words (R362 to R364), calls and hooks (R365, R372, R374 to R377),
dispatch, yield and return (R366 to R370), machine checks (R389, R392), and the rows CE_CUE_DISPATCH and CE_ADD to
CE_BREAK. -/

namespace Sys2Proof.Machine

/-! ### The engine -/

def State.ceEng (s : State) (n : Nat) : CeEng := Sparse.get (fun _ => CeEng.init) s.ce n
def State.setCe (s : State) (n : Nat) (x : CeEng) : State := { s with ce := Sparse.set (fun _ => CeEng.init) s.ce n x }
def State.modCe (s : State) (n : Nat) (f : CeEng → CeEng) : State := s.setCe n (f (s.ceEng n))

/-- The place of a register: G1 to G15 are banked by level, G16 to G31 shared. -/
def CeEng.slot (x : CeEng) (i : Nat) : Nat := if x.level == 2 && Nat.ble i 15 then i + 32 else i

/-- A register: G0 reads zero and takes no write. -/
def CeEng.get (x : CeEng) (i : Nat) : Nat := if i % 32 == 0 then 0 else Sparse.get (fun _ => 0) x.g (x.slot (i % 32))
def CeEng.set (x : CeEng) (i v : Nat) : CeEng :=
  if i % 32 == 0 then x else { x with g := Sparse.set (fun _ => 0) x.g (x.slot (i % 32)) (v % 2 ^ 32) }

def State.ceGet (s : State) (n i : Nat) : Nat := (s.ceEng n).get i
def State.cePut (s : State) (n i v : Nat) : State := s.modCe n fun x => x.set i v

/-- CE_STATUS shows the level, the hook call and the address (R399). -/
def State.showCe (s : State) (n : Nat) : State :=
  let x := s.ceEng n
  let s := ((s.setRbit (Reg.CE_STATUS n) 4 (x.level == 2)).setRbit (Reg.CE_STATUS n) 5 x.hook.isSome).setRbit
    (Reg.CE_STATUS n) 6 (x.level == 0)
  s.setFld (Reg.CE_STATUS n) 27 16 x.pc

/-- First customer word of the store. -/
def State.fenceCe (s : State) : Nat := s.fld Reg.UC_FENCE_CE 11 0

/-- A word of the engine's store. -/
def State.ceWordAt (s : State) (n a : Nat) : Nat := ucData 2 (s.ucRead 2 n (a % 4096))

/-! ### Machine checks and abandoned calls -/

/-- A machine check of a Cue Engine at a word (R389, R392): it stops, out of service; the Prompter begins to reload its store at once
(R393), but for one that is stuck (R395). -/
def State.ceCheck (s : State) (n cause kind a : Nat) : State :=
  let s := (s.setRegN (Reg.CE_MCHECK n) (cause + 65536 * a)).bump (Reg.CE_MCHECKS n) 1
  let s := s.raise (512 + 16 * n) kind (checkAddr 2 n a)
  let stuck := cause == 1 && s.stuckWord (ucKey 2 n a)
  let s := s.doIf (cause == 1) fun s => s.noteParity (ucKey 2 n a)
  let s := s.doIf stuck fun s => (s.setRbit (Reg.CE_STATUS n) 3 true).raise (512 + 16 * n) FaultKind.UCODE_STUCK (checkAddr 2 n a)
  let s := ((s.setRbit (Reg.CE_STATUS n) 0 false).setRbit (Reg.CE_STATUS n) 1 true).setRbit (Reg.CE_STATUS n) 2
    (!s.rbit (Reg.CE_STATUS n) 3)
  let s := s.ceLost n
  ((s.modCe n fun x => { x with pc := a, level := 0, stack := [], frame := none, hook := none, count := 0 }).showCe n).setRbit
    (Reg.CE_STATUS n) 6 false

/-- A hook call abandoned (R376, R377): back to the vendor caller, the hook counts as having written nothing. -/
def State.ceAbandon (s : State) (n kind a : Nat) : State :=
  match (s.ceEng n).hook with
  | some (r :: stack, _) =>
    let s := ((s.setRegN (Reg.CE_MCHECK n) (6 + 65536 * a)).bump (Reg.CE_ABANDONS n) 1).raise (512 + 16 * n) kind (checkAddr 2 n a)
    ((s.modCe n fun x => { x with pc := r, stack := stack, hook := none }).cePut n 4 0).showCe n
  | _ => s

/-- A cause of R376 at a word: in a customer region the call is abandoned, else a machine check. -/
def State.ceTrouble (s : State) (n cause kind a : Nat) : State :=
  if (s.ceEng n).hook.isSome && Nat.ble s.fenceCe a then s.ceAbandon n kind a else s.ceCheck n cause kind a

/-- R374: something a customer word may not do. -/
def State.ceFence (s : State) (n : Nat) : State := s.ceTrouble n 5 FaultKind.UCODE_FENCE (s.ceEng n).pc

/-- The engine stands at a customer word. -/
def State.ceInside (s : State) (n : Nat) : Bool := Nat.ble s.fenceCe (s.ceEng n).pc

/-! ### Starting a routine -/

/-- The routine of a group's vector: the word must be a JMP to an HDR word (R365). -/
def State.ceVector (s : State) (n g : Nat) : Option Nat :=
  let w := s.ceWordAt n g
  if ceOp w == 0x20 && isHdr (s.ceWordAt n (ceTarget w)) then some (ceTarget w) else none

/-- A cue acknowledged, and the routine of its group started at a level (R366). -/
def State.ceStart (s : State) (n level src : Nat) : State :=
  let s := (s.cueAck n src).bump (Reg.CE_CUES n) 1
  let g := src / 32
  if !ucGood 2 (s.ucRead 2 n g) then s.ceCheck n 1 FaultKind.UCODE_PARITY g
  else match s.ceVector n g with
    | none => s.ceCheck n 8 FaultKind.UCODE_BAD_ENTRY g
    | some a =>
      (s.modCe n fun x => { x with
        pc := a, stack := [], level := level, count := 0, hook := none,
        outer := if level == 1 then a else x.outer }).showCe n

/-- Whether the engine is in service and not halted. -/
def State.ceServes (s : State) (n : Nat) : Bool := s.rbit (Reg.CE_STATUS n) 0 && !s.rbit (Reg.CE_STATUS n) 1

/-- CE_CUE_DISPATCH (R366): an idle engine takes the lowest deliverable cue. -/
def execCeCueDispatch (n : Fin 16) (s : State) : Host.Outcome State Fault Refusal :=
  .next <| s.ifLive (0x180 + n.val) fun s =>
    if s.ceServes n.val && (s.ceEng n.val).level == 0 then
      match s.nextSource n.val with
      | some src => s.ceStart n.val 1 src
      | none => s
    else s

/-! ### A word -/

/-- A running task yields to a cue after a word (R366). -/
def State.ceYield (s : State) (n : Nat) : State :=
  match s.nextSource n with
  | none => s
  | some src =>
    let x := s.ceEng n
    let f : YieldFrame := { pc := x.pc, z := x.z, n := x.n, c := x.c, stack := x.stack, hook := x.hook }
    (s.modCe n fun x => { x with frame := some f }).ceStart n 2 src

/-- The engine back in the level and the call in which its word was executed, for a limit that the word reaches (R370, R376,
R377): of a hook call, with the words counted so far. -/
def State.ceUndo (s : State) (n : Nat) (x0 : CeEng) : State :=
  s.modCe n fun x => { x with
    level := x0.level, frame := x0.frame, hook := x0.hook.map fun h => (h.1, h.2 + 1) }

/-- What follows a completed word of the engine `x0` (R366, R370, R377; R573 where its task has ended): the next address, the
counts, in which a word that ends its task or its hook call counts too, the yield. -/
def State.ceDone (s : State) (n w : Nat) (x0 : CeEng) (tgt : Nat) : State :=
  let x := s.ceEng n
  let y := ceY w && x0.level == 1
  let k := if y then 0 else x0.count + 1
  let called := x0.hook.map fun h => (h.1, h.2 + 1)
  let hook := if x0.hook.isSome && x.hook.isSome && x0.level == x.level then called else x.hook
  let s := ((s.modCe n fun x => { x with pc := tgt, count := if x.level == 0 then 0 else k, hook := hook }).keepMax
    (Reg.CE_YIELD_GAP n) k).showCe n
  let above := match called with
    | some h => Nat.blt (s.fld Reg.UC_HOOK_LIMIT 15 0) h.2
    | none => false
  if above then (s.ceUndo n x0).ceAbandon n FaultKind.UCODE_HOOK_OVERRUN x0.pc
  else if k == 256 then (s.ceUndo n x0).ceTrouble n 7 FaultKind.UCODE_NO_YIELD x0.pc
  else if x.level == 0 then s.cuexSync n
  else if y then s.ceYield n
  else s

/-- What a word's action leaves: the state, and the next address unless the engine has stopped or left the call. -/
abbrev CeResult := State × Option Nat

/-- On to the next word. -/
def State.ceNext (s : State) (n : Nat) : CeResult := (s, some (((s.ceEng n).pc + 1) % 4096))

/-- Whether the engine runs words: in service, not halted, at work, not stopped by BREAK. -/
def State.ceRuns (s : State) (n : Nat) : Bool := s.ceServes n && (s.ceEng n).level != 0 && !(s.ceEng n).broken

/-- The engine runs its next word, when the word has the opcode `op`; a word that fails its parity or is illegal stops
the engine whatever its opcode (R351, R363, R389). A length below the floor counts (R353). -/
def State.ceWord (s : State) (n op : Nat) (run : Nat → State → CeResult) : State :=
  if !s.live (0x180 + n) || !s.ceRuns n then s
  else
    let a := (s.ceEng n).pc
    let raw := s.ucRead 2 n a
    let w := ucData 2 raw
    if !ucGood 2 raw then s.ceCheck n 1 FaultKind.UCODE_PARITY a
    else if s.ceIllegal w then s.ceTrouble n 3 FaultKind.UCODE_ILLEGAL a
    else if ceOp w != op then s
    else
      let s := s.doIf (Nat.blt (ceDelay w) (ceFloor w)) fun s => s.bump (Reg.CE_DELAY_CLAMPS n) 1
      match run w s with
      | (t, some tgt) => t.ceDone n w (s.ceEng n) tgt
      | (t, none) => t

/-! ### Arithmetic -/

/-- A shift by an amount: 0 left, 1 right, 2 arithmetic right; by 32 or more the result is open (assumption 12). -/
def ceShift (op : Nat) (v : Word) (k : Word) : Word :=
  if Nat.blt 31 k.toNat then Config.wideShift op v k
  else if op == 0 then v <<< k.toNat else if op == 1 then v >>> k.toNat else v.sshiftRight k.toNat

/-- The leading zeros of a word. -/
def leadingZeros (v : Word) : Nat := ((List.range 32).find? fun i => bit v (31 - i)).getD 32

/-- The width of the field of BFX and BFI, kept inside the word. -/
def ceField (fn : Nat) (b : Word) : Nat := min (Config.fieldWidth fn b) (32 - fn)

/-- The result of a register operation 0x00 to 0x0B, 0x0D to 0x0F (R363). -/
def ceAlu (op : Nat) (a b : Word) (fn : Nat) : Word :=
  let amount := if Config.ceShiftByFn then BitVec.ofNat 32 fn else b
  let sgn := Config.ceSigned op
  match op with
  | 0x00 => a + b
  | 0x01 => a - b
  | 0x02 => a &&& b
  | 0x03 => a ||| b
  | 0x04 => a ^^^ b
  | 0x05 => ceShift 0 a amount
  | 0x06 => ceShift 1 a amount
  | 0x07 => ceShift 2 a amount
  | 0x08 => a * b
  | 0x09 => if sgn then w32 ((a.toInt * b.toInt).fdiv (2 ^ 32)) else BitVec.ofNat 32 (a.toNat * b.toNat / 2 ^ 32)
  | 0x0A => if sgn then (if a.toInt < b.toInt then a else b) else (if a.toNat < b.toNat then a else b)
  | 0x0B => if sgn then (if a.toInt < b.toInt then b else a) else (if a.toNat < b.toNat then b else a)
  | 0x0D => BitVec.ofNat 32 (a.toNat / 2 ^ fn % 2 ^ ceField fn b)
  | 0x0E =>
    let m := (2 ^ ceField fn b - 1) * 2 ^ fn
    (a &&& ~~~BitVec.ofNat 32 m) ||| (BitVec.ofNat 32 (b.toNat * 2 ^ fn) &&& BitVec.ofNat 32 m)
  | 0x0F => BitVec.ofNat 32 (leadingZeros a)
  | _ => 0

/-- A register operation: GD takes GA op GB. -/
def State.ceReg (n op : Nat) (w : Nat) (s : State) : CeResult :=
  let x := s.ceEng n
  let r := ceAlu op (BitVec.ofNat 32 (x.get (ceGa w))) (BitVec.ofNat 32 (x.get (ceGb w))) (ceFn w)
  (s.cePut n (ceGd w) r.toNat).ceNext n

/-- CMP: Z, N and C of GA − GB; the polarity of C is open (assumption 12). -/
def State.ceCmp (n w : Nat) (s : State) : CeResult :=
  let x := s.ceEng n
  let a : Word := BitVec.ofNat 32 (x.get (ceGa w))
  let b : Word := BitVec.ofNat 32 (x.get (ceGb w))
  (s.modCe n fun x => { x with
    z := a == b, n := bit (a - b) 31, c := Nat.blt a.toNat b.toNat == Config.ceBorrow }).ceNext n

/-- An immediate operation: GD takes GA op IMM12, sign-extended. -/
def State.ceImm (n op : Nat) (w : Nat) (s : State) : CeResult :=
  let a : Word := BitVec.ofNat 32 ((s.ceEng n).get (ceGa w))
  let i : Word := w32 (ceImm12 w)
  let r : Word := match op with
    | 0x10 => a + i
    | 0x11 => a &&& i
    | 0x12 => a ||| i
    | 0x13 => a ^^^ i
    | 0x14 => ceShift 0 a i
    | _ => ceShift 1 a i
  (s.cePut n (ceGd w) r.toNat).ceNext n

/-- LI, and LUI. -/
def State.ceLi (n w : Nat) (s : State) : CeResult := (s.cePut n (ceGd w) (w32 (sx 17 (ceImm17 w))).toNat).ceNext n
def State.ceLui (n w : Nat) (s : State) : CeResult :=
  (s.cePut n (ceGd w) (ceImm17 w * 2 ^ 15 % 2 ^ 32 + s.ceGet n (ceGd w) % 2 ^ 15)).ceNext n

/-! ### Memory -/

/-- A free value into a register (assumption 2). -/
def State.ceFree (s : State) (n d : Nat) : State :=
  match s.takeFree with
  | (v, s) => s.cePut n d v.toNat

/-- The Pool Memory address of LD and ST. -/
def State.cePool (s : State) (n w : Nat) : Nat := (s.ceGet n (ceGa w) + 4 * ceTarget w) % 2 ^ 32

/-- Whether 4 bytes at a device address lie in a cell table or a freshness map of a context, to which customer code has no
access (R378). -/
def State.ceShielded (s : State) (a : Nat) : Bool :=
  (List.range 256).any fun c =>
    (match s.bufOf (s.regN (Reg.FRESH_CELL_TABLE c)) with
      | some k => overlap a 4 (s.bufAddr k) (s.bufSize k)
      | none => false) ||
    (s.mapBase c != 0 && overlap a 4 (s.mapBase c) 512)

/-- A customer word that touches what R378 keeps from it: the access is not made, as with the accesses of R374 (DEDUCED,
assumption 12). -/
def State.ceBars (s : State) (n a : Nat) : Bool := s.ceInside n && s.ceShielded a

/-- Whether a customer word may store 4 bytes at a device address (R374, R378). -/
def State.ceMayStore (s : State) (n a : Nat) : Bool :=
  let base := poolBase + s.fld Reg.UC_CUST_POOL 14 0 * 256
  let inWindow := Nat.ble base a && Nat.ble (a + 4) (base + s.fld Reg.UC_CUST_POOL 30 16 * 256)
  let inBuffer := match s.bufOf (s.ceGet n 2) with
    | some k => Nat.ble (s.bufAddr k) a && Nat.ble (a + 4) (s.bufAddr k + s.bufSize k)
    | none => false
  (inWindow || inBuffer) && !s.ceShielded a

/-- LD and ST: beyond Pool Memory a load is a free value and a store does nothing (assumption 12). -/
def State.ceLd (n w : Nat) (s : State) : CeResult :=
  let a := s.cePool n w
  if s.ceBars n (poolBase + a) then (s.ceFence n, none)
  else (if Nat.ble (a + 4) 0x800000 then s.cePut n (ceGd w) (s.memLE (poolBase + a) 4) else s.ceFree n (ceGd w)).ceNext n
def State.ceSt (n w : Nat) (s : State) : CeResult :=
  let a := s.cePool n w
  if s.ceInside n && !s.ceMayStore n (poolBase + a) then (s.ceFence n, none)
  else (s.doIf (Nat.ble (a + 4) 0x800000) fun s => s.devWrite byCueEngine (poolBase + a) (leBytes 4 (s.ceGet n (ceGd w)))).ceNext n

/-- The address of LDC and STC: a register of the page of the context in GA. -/
def State.ceCtxReg (s : State) (n w : Nat) : Option Nat :=
  let c := s.ceGet n (ceGa w)
  if Nat.blt c 256 then some (ctxPage c * 0x1000 + 4 * ceTarget w) else none

/-- LDC and STC: an offset beyond the page reads zero and takes no write (R8); an id that no context has gives a free
value, and a store does nothing (assumption 12). -/
def State.ceLdc (n w : Nat) (s : State) : CeResult :=
  match s.ceCtxReg n w with
  | none => (s.ceFree n (ceGd w)).ceNext n
  | some a =>
    if Nat.ble 1024 (ceTarget w) then (s.cePut n (ceGd w) 0).ceNext n
    else match s.busRead (.cueEngine (Fin.ofNat 16 n)) a with
      | (s, v) => (s.cePut n (ceGd w) v.toNat).ceNext n
def State.ceStc (n w : Nat) (s : State) : CeResult :=
  if s.ceInside n then (s.ceFence n, none)
  else match s.ceCtxReg n w with
    | none => s.ceNext n
    | some a =>
      (s.doIf (Nat.blt (ceTarget w) 1024) fun s =>
        s.busWrite (.cueEngine (Fin.ofNat 16 n)) a (BitVec.ofNat 32 (s.ceGet n (ceGd w)))).ceNext n

/-- The byte offset of LDH and STH in their buffer. -/
def State.ceBufOff (s : State) (n w : Nat) : Nat := (s.ceGet n (ceGa w + 1) + 4 * ceTarget w) % 2 ^ 32

/-- LDH and STH: a stale handle is counted (R557) and, like an offset beyond the buffer, gives a free value or stores
nothing (assumption 12). -/
def State.ceLdh (n w : Nat) (s : State) : CeResult :=
  let o := s.ceBufOff n w
  match s.bufOf (s.ceGet n (ceGa w)) with
  | none => ((s.bump Reg.POOL_STALE_GEN_DROPS 1).ceFree n (ceGd w)).ceNext n
  | some k =>
    if s.ceBars n (s.bufAddr k + o) then (s.ceFence n, none)
    else (if Nat.ble (o + 4) (s.bufSize k) then s.cePut n (ceGd w) (s.memLE (s.bufAddr k + o) 4) else s.ceFree n (ceGd w)).ceNext n
def State.ceSth (n w : Nat) (s : State) : CeResult :=
  let o := s.ceBufOff n w
  let k? := s.bufOf (s.ceGet n (ceGa w))
  let ok := match k? with
    | some k => s.ceMayStore n (s.bufAddr k + o)
    | none => false
  if s.ceInside n && !ok then (s.ceFence n, none)
  else match k? with
    | none => (s.bump Reg.POOL_STALE_GEN_DROPS 1).ceNext n
    | some k =>
      (s.doIf (Nat.ble (o + 4) (s.bufSize k)) fun s =>
        s.devWrite byCueEngine (s.bufAddr k + o) (leBytes 4 (s.ceGet n (ceGd w)))).ceNext n

/-! ### Control flow -/

/-- A branch taken (R374): a customer word reaches the vendor region from a hook word only. -/
def State.ceGo (s : State) (n tgt : Nat) : CeResult :=
  if s.ceInside n && Nat.blt tgt s.fenceCe && !isHook (s.ceEng n).pc then (s.ceFence n, none) else (s, some tgt)

/-- The condition of BR, with COND as in R356; of a Cue Engine's flags, ANY, ALL and not ANY read Z, N and C together
(DEDUCED, assumption 12). -/
def CeEng.cond (x : CeEng) (k : Nat) : Bool :=
  if k == 0 then true else if k == 1 then x.z else if k == 2 then !x.z else if k == 3 then x.n else if k == 4 then !x.n
  else if k == 5 then x.z || x.n || x.c else if k == 6 then x.z && x.n && x.c else !(x.z || x.n || x.c)

def State.ceIf (s : State) (n w : Nat) (b : Bool) : CeResult := if b then s.ceGo n (ceTarget w) else s.ceNext n

/-- CALL (R365, R372): to an HDR word, or from vendor code to a hook word that jumps to one; the hook call begins. -/
def State.ceCall (n w : Nat) (s : State) : CeResult :=
  let x := s.ceEng n
  let tgt := ceTarget w
  let t := s.ceWordAt n tgt
  let hook := !s.ceInside n && isHook tgt && ceOp t == 0x20 && isHdr (s.ceWordAt n (ceTarget t))
  if s.ceInside n && Nat.blt tgt s.fenceCe && !isHook x.pc then (s.ceFence n, none)
  else if Nat.ble 8 x.stack.length then (s.ceTrouble n 4 FaultKind.UCODE_STACK x.pc, none)
  else if !isHdr t && !hook then (s.ceTrouble n 8 FaultKind.UCODE_BAD_ENTRY x.pc, none)
  else
    let stack := (x.pc + 1) % 4096 :: x.stack
    (s.modCe n fun x => { x with stack := stack, hook := if hook then some (stack, 0) else x.hook }, some tgt)

/-- RET: the hook call ends with the return that leaves it. -/
def State.ceRet (n : Nat) (s : State) : CeResult :=
  let x := s.ceEng n
  match x.stack with
  | [] => (s.ceTrouble n 4 FaultKind.UCODE_STACK x.pc, none)
  | r :: rest =>
    let ends := match x.hook with
      | some h => h.1.length == x.stack.length
      | none => false
    (s.modCe n fun x => { x with stack := rest, hook := if ends then none else x.hook }, some r)

/-- RETI (R368): the cue is complete; the task ends, or goes on where it yielded or, restarted, at its start. -/
def State.ceReti (n w : Nat) (s : State) : CeResult :=
  let s := match s.stackTop n with
    | some src => s.cueComplete n src
    | none => s
  let x := s.ceEng n
  match x.level, x.frame with
  | 2, some f =>
    if hdrResumable (s.ceWordAt n x.outer) || w % 2 == 0 then
      (s.modCe n fun x => { x with
        level := 1, frame := none, z := f.z, n := f.n, c := f.c, stack := f.stack, hook := f.hook }, some f.pc)
    else
      ((s.modCe n fun x => { x with level := 1, frame := none, stack := [], hook := none }).bump (Reg.CE_RESTARTS n) 1,
        some x.outer)
  | _, _ => (s.modCe n fun x => { x with level := 0, stack := [], hook := none }, some x.pc)

/-! ### Units -/

/-- CUE (R564): the 32 bytes at GA, to the source that the cue's kind selects. -/
def State.ceCue (n w : Nat) (s : State) : CeResult :=
  if s.ceInside n then (s.ceFence n, none)
  else
    let cue := s.pmBytes (s.ceGet n (ceGa w)) 32
    (s.cuePost (512 + 16 * n + leAt cue 2 1 % 16) cue).ceNext n

/-- The place of a PGET among the requests of its step (R586): by its request class, OFFSET[2:0], then by its engine. -/
def pgetOrder (n w : Nat) : Nat := (7 - ceTarget w % 8) * 64 + n

/-- Requests of the step decided in their order (R586). -/
def State.decideAsks (s : State) (asks : List PoolAsk) : State := s.forEach (sortBy askOrder asks) fun a s => s.askApply a

/-- PGET (R363, R586, R589): the requests of other requesters that reach the prop room in the same step and go before it, its own,
then the rest; the handle, or 0 with Z set; a request that finds the prop room in reset likewise. -/
def State.cePget (n : Nat) (asks : List PoolAsk) (w : Nat) (s : State) : CeResult :=
  let s := s.decideAsks (asks.filter fun a => Nat.blt (askOrder a) (pgetOrder n w))
  let done (s : State) (h : Nat) : CeResult :=
    (((s.modCe n fun x => { x with z := h == 0 }).cePut n (ceGd w) h).decideAsks
      (asks.filter fun a => Nat.ble (pgetOrder n w) (askOrder a))).ceNext n
  if s.poolShut then done (s.aborted (512 + 16 * n) 0) 0
  else match s.poolAsk n (s.ceGet n (ceGa w)) with
    | (s, _, h) => done s h

/-- PPUT. -/
def State.cePput (n w : Nat) (s : State) : CeResult :=
  (if s.poolShut then s.aborted (512 + 16 * n) 0 else s.poolDrop (s.ceGet n (ceGa w))).ceNext n

/-- TALLY (0), LANE (1) and BAYJOB (2): the descriptor at GA goes to its unit; its content is private (R363). -/
def State.cePostUnit (n unit w : Nat) (s : State) : CeResult :=
  if s.ceInside n then (s.ceFence n, none)
  else (s.emit (.unitReq (512 + n) unit (s.ceGet n (ceGa w)) (s.ceGet n (ceGd w)))).ceNext n

/-- CVU: the job at GA, posted as a Cue Engine's (R601). -/
def State.ceCvu (n w : Nat) (s : State) : CeResult :=
  (s.doIf (s.live 0x019) fun s => s.cvuPost 2 (s.ceGet n (ceGa w) % 0x800000 / 64 * 64)).ceNext n

/-- TIME: the token of now in GD and the register after it. -/
def State.ceTime (n w : Nat) (s : State) : CeResult :=
  ((s.cePut n (ceGd w) s.now).cePut n (ceGd w + 1) (s.now / 2 ^ 32)).ceNext n

/-- BREAK with debug enabled (R355, R363): the engine stops at the word for JTAG debug; it counts when the engine goes on. -/
def State.ceBreak (n : Nat) (s : State) : CeResult := (s.modCe n fun x => { x with broken := true }, none)

/-! ### The rows: the next word of a Cue Engine, by opcode -/

def execCeAdd (n : Fin 16) (s : State) : Host.Outcome State Fault Refusal := .next (s.ceWord n.val 0x00 (State.ceReg n.val 0x00))
def execCeSub (n : Fin 16) (s : State) : Host.Outcome State Fault Refusal := .next (s.ceWord n.val 0x01 (State.ceReg n.val 0x01))
def execCeAnd (n : Fin 16) (s : State) : Host.Outcome State Fault Refusal := .next (s.ceWord n.val 0x02 (State.ceReg n.val 0x02))
def execCeOr (n : Fin 16) (s : State) : Host.Outcome State Fault Refusal := .next (s.ceWord n.val 0x03 (State.ceReg n.val 0x03))
def execCeXor (n : Fin 16) (s : State) : Host.Outcome State Fault Refusal := .next (s.ceWord n.val 0x04 (State.ceReg n.val 0x04))
def execCeShl (n : Fin 16) (s : State) : Host.Outcome State Fault Refusal := .next (s.ceWord n.val 0x05 (State.ceReg n.val 0x05))
def execCeShr (n : Fin 16) (s : State) : Host.Outcome State Fault Refusal := .next (s.ceWord n.val 0x06 (State.ceReg n.val 0x06))
def execCeSar (n : Fin 16) (s : State) : Host.Outcome State Fault Refusal := .next (s.ceWord n.val 0x07 (State.ceReg n.val 0x07))
def execCeMul (n : Fin 16) (s : State) : Host.Outcome State Fault Refusal := .next (s.ceWord n.val 0x08 (State.ceReg n.val 0x08))
def execCeMulh (n : Fin 16) (s : State) : Host.Outcome State Fault Refusal := .next (s.ceWord n.val 0x09 (State.ceReg n.val 0x09))
def execCeMin (n : Fin 16) (s : State) : Host.Outcome State Fault Refusal := .next (s.ceWord n.val 0x0A (State.ceReg n.val 0x0A))
def execCeMax (n : Fin 16) (s : State) : Host.Outcome State Fault Refusal := .next (s.ceWord n.val 0x0B (State.ceReg n.val 0x0B))
def execCeCmp (n : Fin 16) (s : State) : Host.Outcome State Fault Refusal := .next (s.ceWord n.val 0x0C (State.ceCmp n.val))
def execCeBfx (n : Fin 16) (s : State) : Host.Outcome State Fault Refusal := .next (s.ceWord n.val 0x0D (State.ceReg n.val 0x0D))
def execCeBfi (n : Fin 16) (s : State) : Host.Outcome State Fault Refusal := .next (s.ceWord n.val 0x0E (State.ceReg n.val 0x0E))
def execCeClz (n : Fin 16) (s : State) : Host.Outcome State Fault Refusal := .next (s.ceWord n.val 0x0F (State.ceReg n.val 0x0F))
def execCeAddi (n : Fin 16) (s : State) : Host.Outcome State Fault Refusal := .next (s.ceWord n.val 0x10 (State.ceImm n.val 0x10))
def execCeAndi (n : Fin 16) (s : State) : Host.Outcome State Fault Refusal := .next (s.ceWord n.val 0x11 (State.ceImm n.val 0x11))
def execCeOri (n : Fin 16) (s : State) : Host.Outcome State Fault Refusal := .next (s.ceWord n.val 0x12 (State.ceImm n.val 0x12))
def execCeXori (n : Fin 16) (s : State) : Host.Outcome State Fault Refusal := .next (s.ceWord n.val 0x13 (State.ceImm n.val 0x13))
def execCeShli (n : Fin 16) (s : State) : Host.Outcome State Fault Refusal := .next (s.ceWord n.val 0x14 (State.ceImm n.val 0x14))
def execCeShri (n : Fin 16) (s : State) : Host.Outcome State Fault Refusal := .next (s.ceWord n.val 0x15 (State.ceImm n.val 0x15))
def execCeLi (n : Fin 16) (s : State) : Host.Outcome State Fault Refusal := .next (s.ceWord n.val 0x16 (State.ceLi n.val))
def execCeLui (n : Fin 16) (s : State) : Host.Outcome State Fault Refusal := .next (s.ceWord n.val 0x17 (State.ceLui n.val))
def execCeLd (n : Fin 16) (s : State) : Host.Outcome State Fault Refusal := .next (s.ceWord n.val 0x18 (State.ceLd n.val))
def execCeSt (n : Fin 16) (s : State) : Host.Outcome State Fault Refusal := .next (s.ceWord n.val 0x19 (State.ceSt n.val))
def execCeLdc (n : Fin 16) (s : State) : Host.Outcome State Fault Refusal := .next (s.ceWord n.val 0x1A (State.ceLdc n.val))
def execCeStc (n : Fin 16) (s : State) : Host.Outcome State Fault Refusal := .next (s.ceWord n.val 0x1B (State.ceStc n.val))
def execCeLdh (n : Fin 16) (s : State) : Host.Outcome State Fault Refusal := .next (s.ceWord n.val 0x1C (State.ceLdh n.val))
def execCeSth (n : Fin 16) (s : State) : Host.Outcome State Fault Refusal := .next (s.ceWord n.val 0x1D (State.ceSth n.val))
def execCeJmp (n : Fin 16) (s : State) : Host.Outcome State Fault Refusal :=
  .next (s.ceWord n.val 0x20 fun w s => s.ceGo n.val (ceTarget w))
def execCeCall (n : Fin 16) (s : State) : Host.Outcome State Fault Refusal := .next (s.ceWord n.val 0x21 (State.ceCall n.val))
def execCeRet (n : Fin 16) (s : State) : Host.Outcome State Fault Refusal := .next (s.ceWord n.val 0x22 fun _ s => s.ceRet n.val)
def execCeBr (n : Fin 16) (s : State) : Host.Outcome State Fault Refusal :=
  .next (s.ceWord n.val 0x23 fun w s => s.ceIf n.val w ((s.ceEng n.val).cond (ceCond w)))
def execCeBz (n : Fin 16) (s : State) : Host.Outcome State Fault Refusal :=
  .next (s.ceWord n.val 0x24 fun w s => s.ceIf n.val w (s.ceGet n.val (ceGa w) == 0))
def execCeBnz (n : Fin 16) (s : State) : Host.Outcome State Fault Refusal :=
  .next (s.ceWord n.val 0x25 fun w s => s.ceIf n.val w (s.ceGet n.val (ceGa w) != 0))
def execCeReti (n : Fin 16) (s : State) : Host.Outcome State Fault Refusal := .next (s.ceWord n.val 0x26 (State.ceReti n.val))
def execCeHdr (n : Fin 16) (s : State) : Host.Outcome State Fault Refusal := .next (s.ceWord n.val 0x27 fun _ s => s.ceNext n.val)
def execCeCue (n : Fin 16) (s : State) : Host.Outcome State Fault Refusal := .next (s.ceWord n.val 0x28 (State.ceCue n.val))
def execCePget (n : Fin 16) (asks : List PoolAsk) (s : State) : Host.Outcome State Fault Refusal :=
  .next (s.ceWord n.val 0x29 (State.cePget n.val asks))
def execCePput (n : Fin 16) (s : State) : Host.Outcome State Fault Refusal := .next (s.ceWord n.val 0x2A (State.cePput n.val))
def execCeTally (n : Fin 16) (s : State) : Host.Outcome State Fault Refusal := .next (s.ceWord n.val 0x2B (State.cePostUnit n.val 0))
def execCeLane (n : Fin 16) (s : State) : Host.Outcome State Fault Refusal := .next (s.ceWord n.val 0x2C (State.cePostUnit n.val 1))
def execCeBayjob (n : Fin 16) (s : State) : Host.Outcome State Fault Refusal := .next (s.ceWord n.val 0x2D (State.cePostUnit n.val 2))
def execCeCvu (n : Fin 16) (s : State) : Host.Outcome State Fault Refusal := .next (s.ceWord n.val 0x2E (State.ceCvu n.val))
def execCeTime (n : Fin 16) (s : State) : Host.Outcome State Fault Refusal := .next (s.ceWord n.val 0x2F (State.ceTime n.val))
def execCeBreak (n : Fin 16) (s : State) : Host.Outcome State Fault Refusal := .next (s.ceWord n.val 0x3E fun _ s => s.ceBreak n.val)

end Sys2Proof.Machine
end

