-- ==== Sys2Proof/Machine/Pins.lean ====
section
/-! DEFINITION. What reaches the block past its registers: the TAP (R675, R713, R789, R797), SMBus (R798), the PCI Express
link and its configuration space (R509, R510, R513, R648; its layout is PRESUMED, assumption 17). -/

namespace Sys2Proof.Machine

/-! ### JTAG -/

/-- TAP_RESET (R789). -/
def execTapReset (s : State) : Host.Outcome State Fault Refusal := .next { s with tap := Tap.init }

/-- The device identity of R797. -/
def State.idcode (s : State) : Nat := s.fld Reg.CHIP_REV 3 0 * 2 ^ 28 + 0x9616 * 2 ^ 12 + 0x5AB * 2 + 1

/-- IDCODE (R797). -/
def execIdcode (s : State) : Host.Outcome State Fault Refusal := .next ((s.selectIr .idcode).emit (.tdo s.idcode))

/-- BYPASS (R797): `n` bits shifted through the one bit of the bypass register, which captures zero (PRESUMED from
IEEE 1149.1, assumption 4). -/
def execBypass (n v : Nat) (s : State) : Host.Outcome State Fault Refusal :=
  .next ((s.selectIr .bypass).emit (.tdo (2 * v % 2 ^ n)))

/-- BOUNDARY_SCAN (R675, R797): the balls driven, the cells sampled. -/
def execBoundaryScan (q : ScanAsk) (s : State) : Host.Outcome State Fault Refusal :=
  .next <|
    let s := { s with tap := { ir := .boundary, driven := q.drive } }
    (s.forEach q.drive fun b s => s.emit (.ball b.1 b.2)).emit (.tdo q.cells)

/-- A Pixel Engine that BREAK stopped: a scalar register or the address of the word; on to the next word. -/
def State.pxDebug (s : State) (n : Nat) (look : Option (Fin 32)) (resume : Bool) : State :=
  if !(s.pxEng n).broken then s
  else
    let v := match look with
      | some i => (s.pxEng n).scalar (i.val % 16)
      | none => (s.pxEng n).pc
    let s := s.emit (.tdo v)
    s.doIf resume fun s => (s.modPx n fun x => { x with broken := false }).pxNext n

/-- A Cue Engine that BREAK stopped. -/
def State.ceDebug (s : State) (n : Nat) (look : Option (Fin 32)) (resume : Bool) : State :=
  if !(s.ceEng n).broken then s
  else
    let v := match look with
      | some i => s.ceGet n i.val
      | none => (s.ceEng n).pc
    let s := s.emit (.tdo v)
    s.doIf resume fun s =>
      let s := s.modCe n fun x => { x with broken := false }
      let x := s.ceEng n
      s.ceDone n (s.ceWordAt n x.pc) x ((x.pc + 1) % 4096)

/-- ENGINE_DEBUG (R355, R675): permitted while TRUST_DEBUG.EN is 1. -/
def execEngineDebug (q : DebugAsk) (s : State) : Host.Outcome State Fault Refusal :=
  .next <| if !s.rbit Reg.TRUST_DEBUG 0 then s
    else if q.ce then (if q.n.val < 16 then (s.selectIr .debug).ceDebug q.n.val q.look q.resume else s.selectIr .debug)
    else (s.selectIr .debug).pxDebug q.n.val q.look q.resume

/-! ### SMBus -/

/-- SMBUS_REGISTER_READ (R798): command 0x10 returns a register of pages 0x000, 0x005 and 0x007, and zero for every other
offset; another command is not acknowledged. -/
def execSmbusRegisterRead (cmd : Byte) (off : BitVec 24) (s : State) : Host.Outcome State Fault Refusal :=
  .next <| if cmd != 0x10 then s
    else if [0x000, 0x005, 0x007].elem (pageOf off.toNat) then s.answerRead .prompter off.toNat
    else s.emit (.readData 0)

/-! ### PCI Express -/

/-- HOSTQ_PCIE_STATUS follows the endpoint while its page is reached. -/
def State.pcieChanged (s : State) : State := s.doIf (!s.domainHeld 10) fun s => s.showPcie

/-- PCIE_LINK_UP (R549, R648): the link has trained to a speed and a width, or is lost. -/
def execPcieLinkUp (up : Option (Fin 5 × Fin 9)) (s : State) : Host.Outcome State Fault Refusal :=
  .next <| match up with
    | some (speed, width) =>
      { s with pcie := { s.pcie with up := true, speed := speed.val, width := width.val } }.pcieChanged
    | none => { s with pcie := { s.pcie with up := false, speed := 0, width := 0 } }.pcieChanged

/-- A stored dword of configuration space. -/
def State.cfgWord (s : State) (d : Nat) : Word := Sparse.get (fun _ => 0) s.pcie.cfg d

/-- The subsystem IDs of the prompt book (R510, R660). -/
def State.subsystem (s : State) : Nat :=
  if s.fallback then 0x1F3E else s.optN 0x28 2 + 2 ^ 16 * s.optN 0x2A 2

/-- The value of a dword of configuration space (R510), none where the spec does not give it. -/
def State.cfgRead (s : State) (d : Nat) : Option Word :=
  match d with
  | 0 => some 0x96161F3E
  | 1 => some (s.cfgWord 1 ||| 0x00100000)
  | 2 => some (BitVec.ofNat 32 (0x04800000 + s.fld Reg.CHIP_REV 7 0))
  | 3 => some (s.cfgWord 3)
  | 4 => some (s.cfgWord 4 ||| 4)
  | 5 => some (s.cfgWord 5)
  | 6 => some (s.cfgWord 6 ||| 0xC)
  | 7 => some (s.cfgWord 7)
  | 8 => some 0
  | 9 => some 0
  | 10 => some 0
  | 11 => some (BitVec.ofNat 32 s.subsystem)
  | 12 => some 0
  | 13 => some 0x40
  | 14 => some 0
  | 15 => some 0
  | 17 => some (s.cfgWord 17)
  | 65 => some (s.reg Reg.CHIP_SERIAL_LO)
  | 66 => some (s.reg Reg.CHIP_SERIAL_HI)
  | _ => none

/-- What is known of a capability's dwords: its bits, their value (R21, R509; the places are PRESUMED, assumption 17).  The list at
0x40 holds Power Management and PCI Express and ends there, the extended one Device Serial Number and Advanced Error Reporting:
neither MSI nor MSI-X is in it. -/
def cfgCap (d : Nat) : Option (Word × Word) :=
  match d with
  | 16 => some (0xFFFF, 0x5001)
  | 20 => some (0xFFFF, 0x0010)
  | 64 => some (0xFFFFFFFF, 0x14010003)
  | 80 => some (0xFFFFFFFF, 0x00020001)
  | _ => none

/-- The bits of a dword that a configuration write sets. -/
def cfgMask (d : Nat) : Word :=
  if d == 1 then 0x00000546 else if d == 3 then 0x000000FF else if d == 4 then 0xFF000000 else if d == 5 then 0xFFFFFFFF
  else if d == 6 then 0xFC000000 else if d == 7 then 0xFFFFFFFF else if d == 17 then 0x00000003 else 0

/-- The bits of a word that byte enables select. -/
def byteMask (be : BitVec 4) : Word :=
  BitVec.ofNat 32 ((b2n (be.getLsbD 0)) * 0xFF + (b2n (be.getLsbD 1)) * 0xFF00 + (b2n (be.getLsbD 2)) * 0xFF0000 +
    (b2n (be.getLsbD 3)) * 0xFF000000)

/-- A configuration write; a power state other than D0 and D3hot is not supported and keeps the old one. -/
def State.cfgWrite (s : State) (d : Nat) (v : Word) (be : BitVec 4) : State :=
  let m := cfgMask d &&& byteMask be
  let new := (s.cfgWord d &&& ~~~m) ||| (v &&& m)
  if d == 17 && (bits new 1 0 == 1 || bits new 1 0 == 2) then s
  else { s with pcie := { s.pcie with cfg := Sparse.set (fun _ => 0) s.pcie.cfg d new } }.pcieChanged

/-- CONFIG_REQUEST (R510, R648): retry status while domain 9 is held or domain 10 not yet released. -/
def execConfigRequest (q : ConfigAsk) (s : State) : Host.Outcome State Fault Refusal :=
  .next <|
    if !s.pcie.up then s
    else if s.domainHeld 9 || s.domainHeld 10 || s.domainHeld 11 then s.emit (.completion 3)
    else match q.write with
      | some (v, be) => (s.cfgWrite q.dword.toNat v be).emit (.completion 0)
      | none => match s.cfgRead q.dword.toNat with
        | some v => s.emit (.readData v)
        | none => match s.takeFree, cfgCap q.dword.toNat with
          | (v, s), some (m, w) => s.emit (.readData ((v &&& ~~~m) ||| w))
          | (v, s), none => s.emit (.readData v)

end Sys2Proof.Machine
end

