-- ==== Sys2Proof/Machine/Dispatch.lean ====
section
/-! DEFINITION. The meaning of each command: one arm per row of the table, in its order. -/

namespace Sys2Proof.Machine

def exec (i : Instr) (s : State) : Host.Outcome State Fault Refusal :=
  match i with
  | .registerWrite w a v => Sys2Proof.Machine.execRegisterWrite w a v s
  | .rcRegisterRead w a => Sys2Proof.Machine.execRcRegisterRead w a s
  | .lowWordRead w a => Sys2Proof.Machine.execLowWordRead w a s
  | .bar0BadAccess q => Sys2Proof.Machine.execBar0BadAccess q s
  | .sheetCommit c => Sys2Proof.Machine.execSheetCommit c s
  | .cellFirstLineCheck n j cell => Sys2Proof.Machine.execCellFirstLineCheck n j cell s
  | .freshMapWrite c port => Sys2Proof.Machine.execFreshMapWrite c port s
  | .freshMapTimer c => Sys2Proof.Machine.execFreshMapTimer c s
  | .helloRx ms => Sys2Proof.Machine.execHelloRx ms s
  | .helloAckRx m => Sys2Proof.Machine.execHelloAckRx m s
  | .refuseRx m => Sys2Proof.Machine.execRefuseRx m s
  | .keepaliveRx m => Sys2Proof.Machine.execKeepaliveRx m s
  | .keepaliveAckRx m => Sys2Proof.Machine.execKeepaliveAckRx m s
  | .refreshReqRx m => Sys2Proof.Machine.execRefreshReqRx m s
  | .refreshAckRx m => Sys2Proof.Machine.execRefreshAckRx m s
  | .updateRx m => Sys2Proof.Machine.execUpdateRx m s
  | .updateAckRx m => Sys2Proof.Machine.execUpdateAckRx m s
  | .byeRx m => Sys2Proof.Machine.execByeRx m s
  | .helloRetryTimeout c => Sys2Proof.Machine.execHelloRetryTimeout c s
  | .backoffExpiry c => Sys2Proof.Machine.execBackoffExpiry c s
  | .refusedExpiry c => Sys2Proof.Machine.execRefusedExpiry c s
  | .keepaliveTimer c => Sys2Proof.Machine.execKeepaliveTimer c s
  | .encSessionTimeout c id src => Sys2Proof.Machine.execEncSessionTimeout c id src s
  | .refreshHoldoffExpiry c => Sys2Proof.Machine.execRefreshHoldoffExpiry c s
  | .refreshReqResend c => Sys2Proof.Machine.execRefreshReqResend c s
  | .updateResend c id src => Sys2Proof.Machine.execUpdateResend c id src s
  | .sessionMsgResolved port addr mac => Sys2Proof.Machine.execSessionMsgResolved port addr mac s
  | .arpWaitExpiry port addr => Sys2Proof.Machine.execArpWaitExpiry port addr s
  | .sessCtrlWrite c v => Sys2Proof.Machine.execSessCtrlWrite c v s
  | .sessTimingWrite c v => Sys2Proof.Machine.execSessTimingWrite c v s
  | .encPictureStart c pfx hooks => Sys2Proof.Machine.execEncPictureStart c pfx hooks s
  | .rowSend c row hooks => Sys2Proof.Machine.execRowSend c row hooks s
  | .echoRowCheck c sl diffs => Sys2Proof.Machine.execEchoRowCheck c sl diffs s
  | .encPictureComplete c sfx hooks digest => Sys2Proof.Machine.execEncPictureComplete c sfx hooks digest s
  | .ctxEnable c => Sys2Proof.Machine.execCtxEnable c s
  | .ctxStop c => Sys2Proof.Machine.execCtxStop c s
  | .ctxHalt c => Sys2Proof.Machine.execCtxHalt c s
  | .decPacketRx c p => Sys2Proof.Machine.execDecPacketRx c p s
  | .lossWaitExpiry c => Sys2Proof.Machine.execLossWaitExpiry c s
  | .decPictureStart c => Sys2Proof.Machine.execDecPictureStart c s
  | .decPictureComplete c => Sys2Proof.Machine.execDecPictureComplete c s
  | .ledgerUpdate f => Sys2Proof.Machine.execLedgerUpdate f s
  | .admissionDecide => Sys2Proof.Machine.execAdmissionDecide s
  | .ctxWorkMeasure c samples exact => Sys2Proof.Machine.execCtxWorkMeasure c samples exact s
  | .rowJobPlace c row tile kind => Sys2Proof.Machine.execRowJobPlace c row tile kind s
  | .ctuStart b d f => Sys2Proof.Machine.execCtuStart b d f s
  | .rowJobComplete b c row tile kind e => Sys2Proof.Machine.execRowJobComplete b c row tile kind e s
  | .entropySegmentStart c => Sys2Proof.Machine.execEntropySegmentStart c s
  | .pxNano n => Sys2Proof.Machine.execPxNano n s
  | .pxImmLo n => Sys2Proof.Machine.execPxImmLo n s
  | .pxImmHi n => Sys2Proof.Machine.execPxImmHi n s
  | .pxLoop n => Sys2Proof.Machine.execPxLoop n s
  | .pxJump n => Sys2Proof.Machine.execPxJump n s
  | .pxCall n => Sys2Proof.Machine.execPxCall n s
  | .pxLoopback n => Sys2Proof.Machine.execPxLoopback n s
  | .pxReturn n => Sys2Proof.Machine.execPxReturn n s
  | .pxEnd n => Sys2Proof.Machine.execPxEnd n s
  | .pxWait n => Sys2Proof.Machine.execPxWait n s
  | .pxWaitWake n e => Sys2Proof.Machine.execPxWaitWake n e s
  | .pxBreak n => Sys2Proof.Machine.execPxBreak n s
  | .ceAdd n => Sys2Proof.Machine.execCeAdd n s
  | .ceSub n => Sys2Proof.Machine.execCeSub n s
  | .ceAnd n => Sys2Proof.Machine.execCeAnd n s
  | .ceOr n => Sys2Proof.Machine.execCeOr n s
  | .ceXor n => Sys2Proof.Machine.execCeXor n s
  | .ceShl n => Sys2Proof.Machine.execCeShl n s
  | .ceShr n => Sys2Proof.Machine.execCeShr n s
  | .ceSar n => Sys2Proof.Machine.execCeSar n s
  | .ceMul n => Sys2Proof.Machine.execCeMul n s
  | .ceMulh n => Sys2Proof.Machine.execCeMulh n s
  | .ceMin n => Sys2Proof.Machine.execCeMin n s
  | .ceMax n => Sys2Proof.Machine.execCeMax n s
  | .ceCmp n => Sys2Proof.Machine.execCeCmp n s
  | .ceBfx n => Sys2Proof.Machine.execCeBfx n s
  | .ceBfi n => Sys2Proof.Machine.execCeBfi n s
  | .ceClz n => Sys2Proof.Machine.execCeClz n s
  | .ceAddi n => Sys2Proof.Machine.execCeAddi n s
  | .ceAndi n => Sys2Proof.Machine.execCeAndi n s
  | .ceOri n => Sys2Proof.Machine.execCeOri n s
  | .ceXori n => Sys2Proof.Machine.execCeXori n s
  | .ceShli n => Sys2Proof.Machine.execCeShli n s
  | .ceShri n => Sys2Proof.Machine.execCeShri n s
  | .ceLi n => Sys2Proof.Machine.execCeLi n s
  | .ceLui n => Sys2Proof.Machine.execCeLui n s
  | .ceLd n => Sys2Proof.Machine.execCeLd n s
  | .ceSt n => Sys2Proof.Machine.execCeSt n s
  | .ceLdc n => Sys2Proof.Machine.execCeLdc n s
  | .ceStc n => Sys2Proof.Machine.execCeStc n s
  | .ceLdh n => Sys2Proof.Machine.execCeLdh n s
  | .ceSth n => Sys2Proof.Machine.execCeSth n s
  | .ceJmp n => Sys2Proof.Machine.execCeJmp n s
  | .ceCall n => Sys2Proof.Machine.execCeCall n s
  | .ceRet n => Sys2Proof.Machine.execCeRet n s
  | .ceBr n => Sys2Proof.Machine.execCeBr n s
  | .ceBz n => Sys2Proof.Machine.execCeBz n s
  | .ceBnz n => Sys2Proof.Machine.execCeBnz n s
  | .ceReti n => Sys2Proof.Machine.execCeReti n s
  | .ceHdr n => Sys2Proof.Machine.execCeHdr n s
  | .ceCue n => Sys2Proof.Machine.execCeCue n s
  | .cePget n asks => Sys2Proof.Machine.execCePget n asks s
  | .cePput n => Sys2Proof.Machine.execCePput n s
  | .ceTally n => Sys2Proof.Machine.execCeTally n s
  | .ceLane n => Sys2Proof.Machine.execCeLane n s
  | .ceBayjob n => Sys2Proof.Machine.execCeBayjob n s
  | .ceCvu n => Sys2Proof.Machine.execCeCvu n s
  | .ceTime n => Sys2Proof.Machine.execCeTime n s
  | .ceBreak n => Sys2Proof.Machine.execCeBreak n s
  | .ceCueDispatch n => Sys2Proof.Machine.execCeCueDispatch n s
  | .storeReload k j errs => Sys2Proof.Machine.execStoreReload k j errs s
  | .scrubRead k j a served => Sys2Proof.Machine.execScrubRead k j a served s
  | .ucDebugRead ce n v => Sys2Proof.Machine.execUcDebugRead ce n v s
  | .dpOutEnable n => Sys2Proof.Machine.execDpOutEnable n s
  | .dpOutHpdHigh n => Sys2Proof.Machine.execDpOutHpdHigh n s
  | .dpOutTrainingComplete n ok => Sys2Proof.Machine.execDpOutTrainingComplete n ok s
  | .dpOutLinkLoss n low => Sys2Proof.Machine.execDpOutLinkLoss n low s
  | .dpOutStop n => Sys2Proof.Machine.execDpOutStop n s
  | .dpOutHalt n => Sys2Proof.Machine.execDpOutHalt n s
  | .auxTransaction n v => Sys2Proof.Machine.execAuxTransaction n v s
  | .auxReply n r => Sys2Proof.Machine.execAuxReply n r s
  | .auxTimeout n => Sys2Proof.Machine.execAuxTimeout n s
  | .dpOutFrameStart n reading => Sys2Proof.Machine.execDpOutFrameStart n reading s
  | .followSheetTimeout n => Sys2Proof.Machine.execFollowSheetTimeout n s
  | .scanoutUnderrun n at_ => Sys2Proof.Machine.execScanoutUnderrun n at_ s
  | .cellVerify n j cell => Sys2Proof.Machine.execCellVerify n j cell s
  | .linkCrcCompare n f => Sys2Proof.Machine.execLinkCrcCompare n f s
  | .dpInEnable n => Sys2Proof.Machine.execDpInEnable n s
  | .dpInLock n f => Sys2Proof.Machine.execDpInLock n f s
  | .dpInLockLoss n => Sys2Proof.Machine.execDpInLockLoss n s
  | .dpInLineCapture n f => Sys2Proof.Machine.execDpInLineCapture n f s
  | .dpInFrameComplete n => Sys2Proof.Machine.execDpInFrameComplete n s
  | .dpInStop n => Sys2Proof.Machine.execDpInStop n s
  | .netEnable p => Sys2Proof.Machine.execNetEnable p s
  | .netLinkUp p => Sys2Proof.Machine.execNetLinkUp p s
  | .netLinkDown p block fec => Sys2Proof.Machine.execNetLinkDown p block fec s
  | .netStop p => Sys2Proof.Machine.execNetStop p s
  | .netHalt p => Sys2Proof.Machine.execNetHalt p s
  | .netFrameRx fs => Sys2Proof.Machine.execNetFrameRx fs s
  | .egressFrameSend p => Sys2Proof.Machine.execEgressFrameSend p s
  | .flowRead f => Sys2Proof.Machine.execFlowRead f s
  | .flowWriteNew f => Sys2Proof.Machine.execFlowWriteNew f s
  | .flowUpdate f => Sys2Proof.Machine.execFlowUpdate f s
  | .flowInvalidate f => Sys2Proof.Machine.execFlowInvalidate f s
  | .shqWrite q rate v => Sys2Proof.Machine.execShqWrite q rate v s
  | .policerWrite which v => Sys2Proof.Machine.execPolicerWrite which v s
  | .latSample => Sys2Proof.Machine.execLatSample s
  | .latSnapshot v => Sys2Proof.Machine.execLatSnapshot v s
  | .latCtrlWrite v => Sys2Proof.Machine.execLatCtrlWrite v s
  | .timeOffsetSample v => Sys2Proof.Machine.execTimeOffsetSample v s
  | .sampleTimeout => Sys2Proof.Machine.execSampleTimeout s
  | .timeStep v => Sys2Proof.Machine.execTimeStep v s
  | .timeIncrWrite v => Sys2Proof.Machine.execTimeIncrWrite v s
  | .timeMaxAdjWrite v => Sys2Proof.Machine.execTimeMaxAdjWrite v s
  | .timeCtrlWrite v => Sys2Proof.Machine.execTimeCtrlWrite v s
  | .timeNowRead => Sys2Proof.Machine.execTimeNowRead s
  | .ppsOutPulse => Sys2Proof.Machine.execPpsOutPulse s
  | .ppsInEdge t => Sys2Proof.Machine.execPpsInEdge t s
  | .ppsInRead => Sys2Proof.Machine.execPpsInRead s
  | .bar2Access q => Sys2Proof.Machine.execBar2Access q s
  | .winBaseWrite v => Sys2Proof.Machine.execWinBaseWrite v s
  | .poisonedRequest => Sys2Proof.Machine.execPoisonedRequest s
  | .busMasterResume => Sys2Proof.Machine.execBusMasterResume s
  | .doorbellWrite q v => Sys2Proof.Machine.execDoorbellWrite q v s
  | .cmdFetch => Sys2Proof.Machine.execCmdFetch s
  | .nop q => Sys2Proof.Machine.execNop q s
  | .flowCmd q fault => Sys2Proof.Machine.execFlowCmd q fault s
  | .sdpApply q fault => Sys2Proof.Machine.execSdpApply q fault s
  | .ptpConfig q => Sys2Proof.Machine.execPtpConfig q s
  | .hostFlashRead q fault => Sys2Proof.Machine.execHostFlashRead q fault s
  | .hostFlashWrite q fault => Sys2Proof.Machine.execHostFlashWrite q fault s
  | .tallyCountWrite q => Sys2Proof.Machine.execTallyCountWrite q s
  | .tallyAckWrite q v => Sys2Proof.Machine.execTallyAckWrite q v s
  | .tallyEnable q => Sys2Proof.Machine.execTallyEnable q s
  | .tallyDisable q => Sys2Proof.Machine.execTallyDisable q s
  | .cmdEnable q => Sys2Proof.Machine.execCmdEnable q s
  | .cmdDisable q => Sys2Proof.Machine.execCmdDisable q s
  | .dmaEnable c => Sys2Proof.Machine.execDmaEnable c s
  | .dmaDescFetch c => Sys2Proof.Machine.execDmaDescFetch c s
  | .dmaDescMoveDone c => Sys2Proof.Machine.execDmaDescMoveDone c s
  | .dmaStop c => Sys2Proof.Machine.execDmaStop c s
  | .dmaHalt c => Sys2Proof.Machine.execDmaHalt c s
  | .dmaPaceResume c => Sys2Proof.Machine.execDmaPaceResume c s
  | .targetTimeout c => Sys2Proof.Machine.execTargetTimeout c s
  | .shadowArm p => Sys2Proof.Machine.execShadowArm p s
  | .shadowDisarm p => Sys2Proof.Machine.execShadowDisarm p s
  | .handover p => Sys2Proof.Machine.execHandover p s
  | .cuexDoorbell v => Sys2Proof.Machine.execCuexDoorbell v s
  | .cuexPost w v => Sys2Proof.Machine.execCuexPost w v s
  | .cuexConsume w v => Sys2Proof.Machine.execCuexConsume w v s
  | .cuexAck w t v same => Sys2Proof.Machine.execCuexAck w t v same s
  | .cuexComplete w t v => Sys2Proof.Machine.execCuexComplete w t v s
  | .cuexSleep w t v => Sys2Proof.Machine.execCuexSleep w t v s
  | .targetWake t => Sys2Proof.Machine.execTargetWake t s
  | .cuexRouteWrite w k v same => Sys2Proof.Machine.execCuexRouteWrite w k v same s
  | .holdoffExpiry t g => Sys2Proof.Machine.execHoldoffExpiry t g s
  | .poolRequest refs asks => Sys2Proof.Machine.execPoolRequest refs asks s
  | .poolRefIncrement cs => Sys2Proof.Machine.execPoolRefIncrement cs s
  | .poolRefDecrement cs => Sys2Proof.Machine.execPoolRefDecrement cs s
  | .poolEnable => Sys2Proof.Machine.execPoolEnable s
  | .poolStop => Sys2Proof.Machine.execPoolStop s
  | .poolHalt asks refs => Sys2Proof.Machine.execPoolHalt asks refs s
  | .fifoPush f v => Sys2Proof.Machine.execFifoPush f v s
  | .fifoPop f same => Sys2Proof.Machine.execFifoPop f same s
  | .fifoCfgWrite f v => Sys2Proof.Machine.execFifoCfgWrite f v s
  | .boundaryOverrun d => Sys2Proof.Machine.execBoundaryOverrun d s
  | .cvuJobPost posts => Sys2Proof.Machine.execCvuJobPost posts s
  | .cvuJobRun c => Sys2Proof.Machine.execCvuJobRun c s
  | .cvuCounterCfgWrite w c v => Sys2Proof.Machine.execCvuCounterCfgWrite w c v s
  | .dramRequestAccept n qs => Sys2Proof.Machine.execDramRequestAccept n qs s
  | .dramIssue n sub d1 d2 => Sys2Proof.Machine.execDramIssue n sub d1 d2 s
  | .refreshDue n sub => Sys2Proof.Machine.execRefreshDue n sub s
  | .mr4Poll n dies => Sys2Proof.Machine.execMr4Poll n dies s
  | .retrainPause n drift => Sys2Proof.Machine.execRetrainPause n drift s
  | .fullRetrainDone n ok => Sys2Proof.Machine.execFullRetrainDone n ok s
  | .dramTrainingDone n t => Sys2Proof.Machine.execDramTrainingDone n t s
  | .dramStop n => Sys2Proof.Machine.execDramStop n s
  | .dramHalt n => Sys2Proof.Machine.execDramHalt n s
  | .dramEnable n => Sys2Proof.Machine.execDramEnable n s
  | .compressionRatioUpdate => Sys2Proof.Machine.execCompressionRatioUpdate s
  | .supplyRampDone => Sys2Proof.Machine.execSupplyRampDone s
  | .supplyDip => Sys2Proof.Machine.execSupplyDip s
  | .supplyRemove => Sys2Proof.Machine.execSupplyRemove s
  | .rstNAssert => Sys2Proof.Machine.execRstNAssert s
  | .rstNRelease => Sys2Proof.Machine.execRstNRelease s
  | .perstNAssert => Sys2Proof.Machine.execPerstNAssert s
  | .perstNRelease => Sys2Proof.Machine.execPerstNRelease s
  | .prompterWatchdog => Sys2Proof.Machine.execPrompterWatchdog s
  | .prompterLockstep => Sys2Proof.Machine.execPrompterLockstep s
  | .smWatchdog => Sys2Proof.Machine.execSmWatchdog s
  | .resetPwdKick w v => Sys2Proof.Machine.execResetPwdKick w v s
  | .resetSmwdKick w v => Sys2Proof.Machine.execResetSmwdKick w v s
  | .softFull w => Sys2Proof.Machine.execSoftFull w s
  | .smReset w => Sys2Proof.Machine.execSmReset w s
  | .resetPulseEnd which => Sys2Proof.Machine.execResetPulseEnd which s
  | .domainRelease f => Sys2Proof.Machine.execDomainRelease f s
  | .swReset w page => Sys2Proof.Machine.execSwReset w page s
  | .blockResetRelease page => Sys2Proof.Machine.execBlockResetRelease page s
  | .promptCallPost w n v => Sys2Proof.Machine.execPromptCallPost w n v s
  | .blockReset => Sys2Proof.Machine.execBlockReset s
  | .softReset => Sys2Proof.Machine.execSoftReset s
  | .setOwner => Sys2Proof.Machine.execSetOwner s
  | .setSeverity => Sys2Proof.Machine.execSetSeverity s
  | .setLedger => Sys2Proof.Machine.execSetLedger s
  | .setFence => Sys2Proof.Machine.execSetFence s
  | .setCvuOwner => Sys2Proof.Machine.execSetCvuOwner s
  | .pcFlashRead bad => Sys2Proof.Machine.execPcFlashRead bad s
  | .pcFlashWrite => Sys2Proof.Machine.execPcFlashWrite s
  | .otpEnrol fail => Sys2Proof.Machine.execOtpEnrol fail s
  | .otpRevoke fail => Sys2Proof.Machine.execOtpRevoke fail s
  | .otpRaiseVersion fail => Sys2Proof.Machine.execOtpRaiseVersion fail s
  | .setDebug => Sys2Proof.Machine.execSetDebug s
  | .houseRateAlternate => Sys2Proof.Machine.execHouseRateAlternate s
  | .houseGroupClaim heard => Sys2Proof.Machine.execHouseGroupClaim heard s
  | .faultTake => Sys2Proof.Machine.execFaultTake s
  | .gltToggle => Sys2Proof.Machine.execGltToggle s
  | .faultHeartbeat w v => Sys2Proof.Machine.execFaultHeartbeat w v s
  | .heartbeatTimeout => Sys2Proof.Machine.execHeartbeatTimeout s
  | .blkForceRaise w page v => Sys2Proof.Machine.execBlkForceRaise w page v s
  | .faultClearFirst => Sys2Proof.Machine.execFaultClearFirst s
  | .faultClearStopRecord => Sys2Proof.Machine.execFaultClearStopRecord s
  | .rehBay w b => Sys2Proof.Machine.execRehBay w b s
  | .rehFull w => Sys2Proof.Machine.execRehFull w s
  | .rehRun v => Sys2Proof.Machine.execRehRun v s
  | .rehDrainDone => Sys2Proof.Machine.execRehDrainDone s
  | .rehBistDone sigs => Sys2Proof.Machine.execRehBistDone sigs s
  | .avsReadback ack vout => Sys2Proof.Machine.execAvsReadback ack vout s
  | .avsRetry => Sys2Proof.Machine.execAvsRetry s
  | .journalWeekEnd ok => Sys2Proof.Machine.execJournalWeekEnd ok s
  | .journalRetry ok => Sys2Proof.Machine.execJournalRetry ok s
  | .pairHelloTimer => Sys2Proof.Machine.execPairHelloTimer s
  | .pairHelloRx b t => Sys2Proof.Machine.execPairHelloRx b t s
  | .pairHeartbeatTimer => Sys2Proof.Machine.execPairHeartbeatTimer s
  | .pairHeartbeatRx b t => Sys2Proof.Machine.execPairHeartbeatRx b t s
  | .heartbeatLoss => Sys2Proof.Machine.execHeartbeatLoss s
  | .gltPeerEdge => Sys2Proof.Machine.execGltPeerEdge s
  | .peerGltSilent => Sys2Proof.Machine.execPeerGltSilent s
  | .pairLaneLoss lane => Sys2Proof.Machine.execPairLaneLoss lane s
  | .pairBlockLock lane => Sys2Proof.Machine.execPairBlockLock lane s
  | .pairLockLoss => Sys2Proof.Machine.execPairLockLoss s
  | .pairFrameWaitExpiry => Sys2Proof.Machine.execPairFrameWaitExpiry s
  | .xcheckRx b t => Sys2Proof.Machine.execXcheckRx b t s
  | .xcheckWaitExpiry => Sys2Proof.Machine.execXcheckWaitExpiry s
  | .pictureRx b t => Sys2Proof.Machine.execPictureRx b t s
  | .digestRx b t => Sys2Proof.Machine.execDigestRx b t s
  | .sessionFrameRx b t => Sys2Proof.Machine.execSessionFrameRx b t s
  | .sessionFrameTimer => Sys2Proof.Machine.execSessionFrameTimer s
  | .stateRx b t => Sys2Proof.Machine.execStateRx b t s
  | .resyncReqRx b t => Sys2Proof.Machine.execResyncReqRx b t s
  | .switchReqRx b t => Sys2Proof.Machine.execSwitchReqRx b t s
  | .switchAckRx b t => Sys2Proof.Machine.execSwitchAckRx b t s
  | .switchRefuseRx b t => Sys2Proof.Machine.execSwitchRefuseRx b t s
  | .pairResetRx b t => Sys2Proof.Machine.execPairResetRx b t s
  | .takeover => Sys2Proof.Machine.execTakeover s
  | .pairSwitch => Sys2Proof.Machine.execPairSwitch s
  | .resetPeer => Sys2Proof.Machine.execResetPeer s
  | .suspectClear => Sys2Proof.Machine.execSuspectClear s
  | .tapReset => Sys2Proof.Machine.execTapReset s
  | .idcode => Sys2Proof.Machine.execIdcode s
  | .bypass n v => Sys2Proof.Machine.execBypass n v s
  | .smbusRegisterRead cmd off => Sys2Proof.Machine.execSmbusRegisterRead cmd off s
  | .configRequest q => Sys2Proof.Machine.execConfigRequest q s
  | .pcieLinkUp up => Sys2Proof.Machine.execPcieLinkUp up s
  | .dpInAuxRequest n q => Sys2Proof.Machine.execDpInAuxRequest n q s
  | .boundaryScan q => Sys2Proof.Machine.execBoundaryScan q s
  | .engineDebug q => Sys2Proof.Machine.execEngineDebug q s

end Sys2Proof.Machine
end

