-- ==== Sys2Proof/Safety.lean ====
section
/-! DEFINITION. What the statements call a sound state: every map in its canonical form, the time base in its range. -/

namespace Sys2Proof.Machine

/-- Device memory in its canonical form: addresses strictly rising, no byte listed that reads so unlisted. -/
abbrev Memory.wf (s : State) : Prop := Sparse.Wf (memDefault s.scrap) s.mem

/-- Host memory in its canonical form. -/
abbrev HostMemory.wf (s : State) : Prop := Sparse.Wf memReset s.hostMem

/-- The register file in its canonical form: no register listed that holds its reset value. -/
abbrev Registers.wf (s : State) : Prop := Sparse.Wf regReset s.regs

/-- The time base counts 64 bits of seconds, nanoseconds below a second and 32 bits of a nanosecond (R479). -/
abbrev TimeBase.inRange (t : TimeBase) : Prop := t.sec < 2 ^ 64 ∧ t.ns < 1000000000 ∧ t.frac < 2 ^ 32

/-- In a state a command completes with a next state of which something holds. -/
def Completes (i : Instr) (s : State) (P : State → Prop) : Prop := ∃ t, exec i s = .next t ∧ P t

/-- Every register but those listed is as it was. -/
def SameRegs (ks : List Nat) (s t : State) : Prop := ∀ k, k ∉ ks → t.reg k = s.reg k

/-- Every byte of device memory and of host memory is as it was. -/
def SameMemory (s t : State) : Prop :=
  (∀ a, t.mem8 a = s.mem8 a) ∧ ∀ a, Sparse.get memReset t.hostMem a = Sparse.get memReset s.hostMem a

/-- Every byte of device memory outside `n` bytes from `a` is as it was. -/
def SameMemoryOutside (a n : Nat) (s t : State) : Prop := ∀ b, (b < a ∨ a + n ≤ b) → t.mem8 b = s.mem8 b

/-- Every context but `c` is as it was. -/
def OnlyCtx (c : Nat) (s t : State) : Prop := ∀ d, d ≠ c → t.ctx d = s.ctx d

/-- The registers that a raised message of a kind may write. -/
def faultRegs (kind : Nat) : List Nat := [Reg.FAULT_SUPPRESSED, Reg.FAULT_OVERFLOWS, Reg.FAULT_KIND_COUNT kind]

/-- The registers that a write of a hardware block into a DRAM fence may write (R388, R682). -/
def fenceRegs : List Nat :=
  [Reg.TRUST_FENCE_VIOLATIONS, Reg.TRUST_FENCE_LAST_LO, Reg.TRUST_FENCE_LAST_HI] ++ faultRegs FaultKind.FENCE_VIOLATION

/-- The registers that the session machine of a context writes. -/
def sessRegs (c : Nat) : List Nat :=
  [Reg.SESS_MSG_RX c, Reg.SESS_MSG_TX c, Reg.SESS_STATUS c, Reg.SESS_PEER_TERMS c, Reg.SESS_PEER_DEADLINES c,
   Reg.SESS_REMOTE_STALE c, Reg.SESS_REFRESH c, Reg.SESS_LAST_REFUSAL c, Reg.SESS_LOSSES c, Reg.FRESH_STATUS c] ++ fenceRegs

/-- Where the cell table of a context lies in device memory: its address and its bytes (R59, R60, R101). -/
def State.cellTable (s : State) (c : Nat) : Nat × Nat :=
  match s.bufOf (s.regN (Reg.FRESH_CELL_TABLE c)) with
  | some k => (s.bufAddr k, 16 * 576)
  | none => (0, 0)

/-- Every byte of device memory outside the cell table of context `c` is as it was. -/
def CellsOnly (c : Nat) (s t : State) : Prop := SameMemoryOutside (s.cellTable c).1 (s.cellTable c).2 s t

/-- Of every context only the send times of its unanswered KEEPALIVEs may differ (R153). -/
def SendTimesOnly (s t : State) : Prop :=
  ∀ d, t.ctx d = { s.ctx d with dec := { (s.ctx d).dec with kaSent := (t.ctx d).dec.kaSent } }

/-- Whether the latest entry of a cell of an encode context is older than FRESH_RENEWAL and not yet counted as late (R50). -/
def State.overdue (s : State) (c i : Nat) : Bool :=
  !((s.ctx c).cell i).late &&
    ((s.ctx c).cell i).issued.any fun u => Nat.blt (u + s.fld (Reg.FRESH_RENEWAL c) 15 0 * 1000000) s.now

/-- Whether a message that the decoding end sends leaves at once: its ingress flow is valid, and its peer's MAC known (R135,
R812). -/
def State.decLeaves (s : State) (c : Nat) : Bool :=
  let d := (s.ctx c).dec
  match s.flowOfHandle (s.fld (Reg.DEC_FLOW c) 15 0) with
  | some f => !f.egress && (s.macOf (if d.port == 4 then lowPort f.portMask else d.port) d.peerAddr).isSome
  | none => false

/-- A message that the encoding end accepts in a session of context `c` (R140, R816). -/
abbrev HeardByEnc (s : State) (m : NetMsg) (typ c : Nat) (e : EncSession) : Prop :=
  s.live (0x030 + m.port.val) = true ∧ msgFramed m.bytes = true ∧ msgSound m.bytes typ = true ∧
    s.findEnc (msgId m.bytes) m.src.toNat = some (c, e) ∧ (msgVer m.bytes = e.version ∨ typ = 10 ∧ msgVer m.bytes = 1) ∧
    later32 (msgSeq m.bytes) e.lastSeq = true

/-- A message that the decoding end accepts in the session of context `c` (R140, R141, R816). -/
abbrev HeardByDec (s : State) (m : NetMsg) (typ c : Nat) (d : DecSession) : Prop :=
  s.live (0x030 + m.port.val) = true ∧ msgFramed m.bytes = true ∧ msgSound m.bytes typ = true ∧
    s.findDec (msgId m.bytes) m.src.toNat = some (c, d) ∧ (typ = 2 ∨ typ = 3 ∨ msgVer m.bytes = d.version) ∧
    ∀ l, d.lastSeq = some l → later32 (msgSeq m.bytes) l = true

/-- Every Pixel Engine but `n` is as it was. -/
def OnlyPx (n : Nat) (s t : State) : Prop := ∀ m, m ≠ n → t.pxEng m = s.pxEng m

/-- Every Cue Engine but `n` is as it was. -/
def OnlyCe (n : Nat) (s t : State) : Prop := ∀ m, m ≠ n → t.ceEng m = s.ceEng m

/-- Pixel Engine `n` runs, and the word at its pc is `w`, good, legal and of class `c` (R351, R355, R357). -/
abbrev PxWordAt (s : State) (n c w : Nat) : Prop :=
  s.pxRuns n = true ∧ ucGood 0 (s.ucRead 0 n (s.pxEng n).pc) = true ∧ ucData 0 (s.ucRead 0 n (s.pxEng n).pc) = w ∧
    s.microIllegal w = false ∧ nbits w 23 20 = c

/-- What an engine holds when, after a word of one step, it goes on at an address; whose words are the customer's is the
fence's to say (R353, R374). -/
def State.pxOn (s : State) (tgt : Nat) (x : Px) : Px :=
  { x with
    steps := (x.steps + 1) % 65536, pc := tgt,
    cust := if s.fencePx ≤ tgt then some (x.cust.getD x.stack) else none
    custEntry := if s.fencePx ≤ tgt ∧ x.cust = none then tgt else x.custEntry }

/-- A branch that the fence of the customer region lets pass (R374). -/
abbrev PxMay (s : State) (x : Px) (tgt : Nat) : Prop :=
  x.cust = none ∨ s.fencePx ≤ tgt ∨ (0x1800 ≤ x.pc ∧ x.pc ≤ 0x181F)

/-- The registers that a word of a Pixel Engine may write. -/
def pxRegs (n : Nat) : List Nat := [Reg.PX_STATUS n, Reg.PX_STEPS n, Reg.PX_DELAY_CLAMPS n]

/-- Cue Engine `n` runs, and the word at its pc is `w`, good, legal and of opcode `op`, and not the last that a hook call
may run (R351, R363, R377). -/
abbrev CeStands (s : State) (n op w : Nat) : Prop :=
  s.live (0x180 + n) = true ∧ s.ceRuns n = true ∧ ucGood 2 (s.ucRead 2 n (s.ceEng n).pc) = true ∧
    ucData 2 (s.ucRead 2 n (s.ceEng n).pc) = w ∧ s.ceIllegal w = false ∧ ceOp w = op ∧
    ∀ h ∈ (s.ceEng n).hook, h.2 < s.fld Reg.UC_HOOK_LIMIT 15 0

/-- The same, of a word that is neither the 256th nor one after which a waiting cue is taken (R366, R370). -/
abbrev CeWordAt (s : State) (n op w : Nat) : Prop :=
  CeStands s n op w ∧
    if ceY w = true ∧ (s.ceEng n).level = 1 then s.nextSource n = none else (s.ceEng n).count ≠ 255

/-- The state after a length below the floor is counted (R353). -/
def State.ceCounted (s : State) (n w : Nat) : State :=
  if ceDelay w < ceFloor w then s.bump (Reg.CE_DELAY_CLAMPS n) 1 else s

/-- A branch that the fence of the customer region lets pass (R374). -/
abbrev CeMay (s : State) (n tgt : Nat) : Prop := s.ceInside n = false ∨ s.fenceCe ≤ tgt ∨ isHook (s.ceEng n).pc = true

/-- What an engine holds when, after a word, it goes on at an address (R370, R377). -/
def CeEng.on (w tgt : Nat) (x : CeEng) : CeEng :=
  { x with
    pc := tgt, count := if ceY w && x.level == 1 then 0 else x.count + 1, hook := x.hook.map fun h => (h.1, h.2 + 1) }

/-- What an engine holds when, after a word, it goes on at the next word. -/
def CeEng.onward (w : Nat) (x : CeEng) : CeEng := x.on w ((x.pc + 1) % 4096)

/-- The registers that a word of a Cue Engine may write. -/
def ceRegs (n : Nat) : List Nat := [Reg.CE_STATUS n, Reg.CE_YIELD_GAP n, Reg.CE_DELAY_CLAMPS n]

/-- A word whose only effects are on its engine. -/
def CeAlone (n : Nat) (s t : State) : Prop :=
  OnlyCe n s t ∧ SameRegs (ceRegs n) s t ∧ t = { s with regs := t.regs, ce := t.ce }

/-- A row of the Cue Engine completes with GD taking a function of GA, GB, FN and GD itself, and nothing else. -/
def CeComputes (i : Fin 16 → Instr) (op : Nat) (f : Word → Word → Nat → Word) : Prop :=
  ∀ (n : Fin 16) (w : Nat) (s : State), CeWordAt s n.val op w →
    Completes (i n) s fun t => CeAlone n.val s t ∧ t.ceEng n.val =
      ((s.ceEng n.val).set (ceGd w) (f (BitVec.ofNat 32 ((s.ceEng n.val).get (ceGa w)))
        (BitVec.ofNat 32 ((s.ceEng n.val).get (ceGb w))) (ceFn w)).toNat).onward w

/-- A row of the Cue Engine completes with GD taking a function of GA and the sign-extended IMM12, and nothing else. -/
def CeComputesImm (i : Fin 16 → Instr) (op : Nat) (f : Word → Word → Word) : Prop :=
  ∀ (n : Fin 16) (w : Nat) (s : State), CeWordAt s n.val op w →
    Completes (i n) s fun t => CeAlone n.val s t ∧ t.ceEng n.val =
      ((s.ceEng n.val).set (ceGd w) (f (BitVec.ofNat 32 ((s.ceEng n.val).get (ceGa w)))
        ((BitVec.ofNat 12 w).signExtend 32)).toNat).onward w

/-- The registers that show whether the instances of a bay, or a Cue Engine, serve: those of an instance of a store. -/
def instRegs (k i : Nat) : List Nat :=
  if k = 2 then [Reg.CE_STATUS i, Reg.CE_RELOADS i, Reg.CUEX_TGT_NEXT i, Reg.CUEX_TGT_STATUS i]
  else
    let b := if k = 0 then i / 8 else i
    Reg.BAY_STATUS b :: (enginesOf b).flatMap fun n => [Reg.PX_STATUS n, Reg.PX_RELOADS n]

/-- Whether a reference copy that fails its check is rebuilt with the recorded CRC (R394). -/
def State.rebuilds (s : State) (k i : Nat) (errs : List (Fin 6)) : Bool :=
  let r := s.raise (storeSource k i) FaultKind.UCODE_COPY_BAD (checkAddr 3 k 0)
  crc32c (r.rebuiltCopy k errs) == r.copyCrc k

/-- The registers that show the sums of the ledger. -/
def sumRegs : List Nat :=
  [Reg.LEDGER_COMMITTED, Reg.LEDGER_COMMITTED_FULL, Reg.LEDGER_LIVE_EXACT, Reg.LEDGER_EL_COMMITTED, Reg.LEDGER_MSA_COMMITTED,
   Reg.LEDGER_DRAM_COMMITTED, Reg.LEDGER_DRAM_LIMIT, Reg.LEDGER_STATUS] ++
    (List.range 8).flatMap (fun a => [Reg.MSA_STATUS a, Reg.MSA_COMMITTED a]) ++ (List.range 16).map Reg.CE_BINDING

/-- Every DisplayPort output but `n` is as it was. -/
def OnlyOut (n : Nat) (s t : State) : Prop := ∀ m, m ≠ n → t.dpOut m = s.dpOut m

/-- Every DisplayPort input but `n` is as it was. -/
def OnlyIn (n : Nat) (s t : State) : Prop := ∀ m, m ≠ n → t.dpIn m = s.dpIn m

/-- The registers that show the shaper queues. -/
def queueRegs : List Nat := (List.range 256).flatMap fun q => [Reg.SHQ_CREDIT q, Reg.SHQ_DEPTH q]

/-- The registers of the policer window. -/
def polRegs : List Nat :=
  [Reg.POL_CIR, Reg.POL_CBS, Reg.POL_PIR, Reg.POL_PBS, Reg.POL_MODE, Reg.POL_GREEN, Reg.POL_YELLOW, Reg.POL_RED]

/-- `j` is the command of a queue and an opcode that runs next, and no other command of the queue ends without being served
(R518 to R524). -/
def CmdFront (s : State) (q op : Nat) (host : Bool) (j : CmdJob) : Prop :=
  s.cmdNext q op host = some j ∧ ∀ k ∈ s.host.jobs, k.queue = q → s.cmdStillborn k.entry = none

/-- A job's tally entry lies in host memory and C has advanced over it, or it waits for the host (R513, R525, R526). -/
def EntryOut (q seq : Nat) (e : List Byte) (s t : State) : Prop :=
  if s.busOk then
    t.hostBytes (s.reg64 (Reg.HOSTQ_TALLY_BASE_LO q) + 64 * (seq % s.tallySize q)) 64 = e ∧
      t.tallyC q = gapFree (s.tallyC q) (seq :: (s.hostQ q).written) % 2 ^ 64 ∧ t.host.waiting = s.host.waiting
  else t.host.waiting = s.host.waiting ++ [(q, seq, e)] ∧ t.hostMem = s.hostMem

/-- A command is done with a status and a result: it is gone from the commands at work, and its entry is out (R524, R529). -/
def CmdDone (j : CmdJob) (status : Nat) (result : List Byte) (s t : State) : Prop :=
  t.host.jobs = s.host.jobs.filter (fun k => !(k.queue == j.queue && k.num == j.num)) ∧
    EntryOut j.queue j.seq (tallyEntry j.seq 1 j.queue status (cmdId j.entry) s.now j.num result) s t

/-- The registers that a job's entry on a ring writes. -/
def ringRegs (q : Nat) : List Nat := [Reg.HOSTQ_TALLY_COUNT_LO q, Reg.HOSTQ_TALLY_COUNT_LO q + 4]

/-- Every DMA channel but `c` is as it was. -/
def OnlyDma (c : Nat) (s t : State) : Prop := ∀ m, m ≠ c → t.dmaCh m = s.dmaCh m

/-- The registers of a DMA channel that it writes itself. -/
def dmaRegs (c : Nat) : List Nat :=
  [Reg.DMA_CTRL c, Reg.DMA_STATUS c, Reg.DMA_BYTES c, Reg.DMA_DESCS c, Reg.DMA_NEXT_LO c, Reg.DMA_NEXT_LO c + 4]

/-- Every DRAM channel but `n` is as it was. -/
def OnlyDram (n : Nat) (s t : State) : Prop := ∀ m, m ≠ n → t.dram m = s.dram m

/-- A DRAM channel answers, is enabled and serves (R634). -/
abbrev DramServes (s : State) (n : Nat) : Prop :=
  s.live (0x010 + n) = true ∧ s.enabled (0x010 + n) = true ∧ s.dramState n = 3

/-- The read or write of one sub-channel with no refresh owed and no wait as long as AGE_LIMIT (R616, R623). -/
abbrev DramQuiet (s : State) (n sub : Nat) : Prop :=
  s.debt n sub = 0 ∧ ∀ r ∈ (s.dram n).reads ++ (s.dram n).writes,
    r.promoted = false ∧ s.now < r.at_ + 250 * s.fld (Reg.DRAM_SERVICE n) 14 8

/-- A reset of every domain but a power-on: all are held, its cause and its count show, what R640 keeps is kept, the time
base goes on (R481), and every other register of a page is at its reset value. -/
def FullReset (src : ResetSource) (s t : State) : Prop :=
  t.rc.held = rangeFrom 1 11 ∧ t.rc.asserted = s.rc.asserted ++ [src] ∧ t.now = s.now ∧
    (∀ n ∈ src.bit, t.regN Reg.RESET_CAUSE = 2 ^ n) ∧
    (∀ k ∈ src.counter, t.regN k = min (s.regN k + 1) 0xFFFFFFFF) ∧
    (∀ k ∈ [Reg.CHIP_SCRATCH, Reg.OPT_LOADS, Reg.MARGIN_HOURS, Reg.MARGIN_JOURNAL_NEXT, Reg.MARGIN_JOURNAL_SEQ],
      t.reg k = s.reg k) ∧
    (∀ k, (pageInfo (pageOf k)).isSome = true → keptKey k = false → k ≠ Reg.RESET_STATUS → k ≠ Reg.RESET_ASSERTED →
      t.reg k = regReset k) ∧
    t.ctxs = [] ∧ t.px = [] ∧ t.ce = [] ∧ t.dma = [] ∧ t.flows = [] ∧ t.queues = [] ∧ t.dpOuts = [] ∧ t.dpIns = [] ∧
    t.otp = s.otp ∧ t.flash = s.flash ∧ t.hostMem = s.hostMem

/-- A power-on reset: every domain is held and every register of a page but those that show the reset is at its reset
value; the one-time programmable memory, the flash and the host's memory stay. -/
def ColdReset (s t : State) : Prop :=
  t.rc.held = rangeFrom 1 11 ∧ ResetSource.powerOn ∈ t.rc.asserted ∧ t.rc.powered = false ∧ t.tb = TimeBase.init ∧
    t.regN Reg.RESET_CAUSE = 1 ∧
    (∀ k, (pageInfo (pageOf k)).isSome = true → k ≠ Reg.RESET_CAUSE → k ≠ Reg.RESET_STATUS → k ≠ Reg.RESET_ASSERTED →
      t.reg k = regReset k) ∧
    t.ctxs = [] ∧ t.px = [] ∧ t.ce = [] ∧ t.dma = [] ∧ t.flows = [] ∧ t.queues = [] ∧ t.dpOuts = [] ∧ t.dpIns = [] ∧
    t.otp = s.otp ∧ t.flash = s.flash ∧ t.hostMem = s.hostMem

/-- What a reset of 9b, with 9a or with domain 10, leaves alone: every register outside those domains, the RESET page and
the Cue Exchange; every context, engine, port and memory (R640). -/
def PartReset (a b : Nat) (s t : State) : Prop :=
  (∀ k, inDomain a k = false → inDomain b k = false → pageOf k ≠ 0x001 → pageOf k ∉ rangeFrom 0x008 4 → k ∉ sumRegs →
    t.reg k = s.reg k) ∧
    t = { s with
      regs := t.regs, latches := t.latches, fc := { s.fc with windows := t.fc.windows }, rc := t.rc, pcie := t.pcie,
      cuex := t.cuex, host := t.host, dma := t.dma, trust := t.trust }

/-- The prompt call in a slot of a core is the only one posted, follows the core's last, and has a code and ARGS (R669,
R670). -/
abbrev CallNext (s : State) (n k code : Nat) (a : List Byte) : Prop :=
  s.takesCalls = true ∧ s.trust.posts = [(n, k)] ∧ s.inSequence (n, k) = true ∧ leAt (s.call n k) 4 2 = code ∧
    a = sliceB (s.call n k) 16 32

/-- A command takes the prompt call in a slot and answers it with a status and a result: the state before the cue on source
896 + n has them in the slot and DONE set, the call counted, and something else besides (R670, R671). -/
def Answers (i : Instr) (n k status result : Nat) (s : State) (P : State → Prop) : Prop :=
  ∃ u, exec i s = .next (u.blockCue (896 + n) false) ∧ u.pmBytes (s.callSlot n k + 48) 2 = leBytes 2 status ∧
    u.pmBytes (s.callSlot n k + 50) 1 = [1] ∧ u.pmBytes (s.callSlot n k + 52) 8 = leBytes 8 result ∧ u.trust.posts = [] ∧
    u.lastSeq n = some (leAt (s.call n k) 0 4) ∧
    u.fld (Reg.TRUST_PC_DONE n) 7 0 = (s.fld (Reg.TRUST_PC_DONE n) 7 0 + 1) % 256 ∧
    u.fld (Reg.TRUST_PC_DONE n) 15 8 = (s.fld (Reg.TRUST_PC_DONE n) 15 8 + 1) % 256 ∧ P u

/-- Beside the count of its core and the answer in its slot, a prompt call writes only these registers. -/
def CallWrites (n k : Nat) (ks : List Nat) (s u : State) : Prop :=
  SameMemoryOutside (poolBase + s.callSlot n k + 48) 12 s u ∧ SameRegs (Reg.TRUST_PC_DONE n :: ks) s u ∧
    u = { s with regs := u.regs, mem := u.mem, trust := u.trust }

/-- Beside its count and its answer, a prompt call over the one-time programmable memory writes only that and what shows it. -/
def OtpCallWrites (n k : Nat) (s u : State) : Prop :=
  SameMemoryOutside (poolBase + s.callSlot n k + 48) 12 s u ∧
    SameRegs ([Reg.TRUST_PC_DONE n, Reg.TRUST_KEYS] ++ (List.range 4).map Reg.TRUST_MIN_VER) s u ∧
    u = { s with regs := u.regs, mem := u.mem, trust := u.trust, otp := u.otp }

/-- The state after a frame of the partner is accepted in its turn (R729). -/
def State.pairHeard (s : State) : State :=
  let s := s.bump Reg.PAIR_FRAMES_RX 1
  { s with pair := { s.pair with rxNext := (s.pair.rxNext + 1) % 2 ^ 32 } }

/-- A sound frame of a type that comes in its turn while the link is past HELLO and no frame waits (R729 to R731). -/
abbrev FrameIn (s : State) (typ : Nat) (b : List Byte) : Prop :=
  s.pairOn = true ∧ 2 ≤ s.linkState ∧ s.frameSound b = true ∧ beAt b 1 1 = typ ∧ beAt b 4 4 = s.pair.rxNext ∧
    s.pair.waiting = []

/-- The same, of a COMMAND (R732). -/
abbrev CommandIn (s : State) (cmd : Nat) (b : List Byte) : Prop := FrameIn s 7 b ∧ beAt b 16 1 = cmd

/-- A frame goes out on the open link, with the next SEQ of this device (R730). -/
def FrameOut (typ : Nat) (payload : List Byte) (s t : State) : Prop :=
  t.out = .pairFrame typ (linkFrame (s.fld Reg.PAIR_STATUS 23 16) typ s.pair.txSeq s.now payload) :: s.out ∧
    t.pair.txSeq = (s.pair.txSeq + 1) % 2 ^ 32 ∧ t.regN Reg.PAIR_FRAMES_TX = min (s.regN Reg.PAIR_FRAMES_TX + 1) 0xFFFFFFFF

/-- The HELLO frame of this device (R730, R732). -/
def helloFrame (s : State) : List Byte :=
  linkFrame 1 1 0 s.now ([0, 1, 0, 1] ++ beBytes 8 (s.reg64 Reg.CHIP_SERIAL_LO) ++ beBytes 1 s.roleCfg ++ beBytes 1 s.pairRole ++
    beBytes 1 (b2n (s.rbit Reg.RESET_PAIR 0) + 2 * b2n (s.rbit Reg.FAULT_STATUS 0)) ++ [0] ++ beBytes 8 s.leadSince)

/-- What the pair keeps of every context but `c` is as it was. -/
def OnlyPairCtx (c : Nat) (s t : State) : Prop := ∀ d, d ≠ c → t.pairCtx d = s.pairCtx d

/-- No bit of the one-time programmable memory is cleared (R662). -/
def OtpGrows (s t : State) : Prop :=
  ∀ a, Sparse.get memReset t.otp a &&& Sparse.get memReset s.otp a = Sparse.get memReset s.otp a

/-- The invariant of the block. -/
structure State.Inv (s : State) : Prop where
  regs : Registers.wf s
  mem : Memory.wf s
  host : HostMemory.wf s
  time : s.tb.inRange

end Sys2Proof.Machine
end

