-- ==== Sys2Proof/Certificates/Slice0/Obligations.lean ====
section
/-! DEFINITION. The statements for the provers: what the commands of each family leave, command by command, and what holds of
every step. -/

open Sys2Proof Sys2Proof.Machine

/-- The four rows of BAR 0: a plain register, a counter that clears at its read, a latched high word, a bad access
(R5, R7, R10). -/
def Obligations.BusReadsAndWrites : Prop :=
  (∀ (q : BadAsk) (s : State),
    exec (.bar0BadAccess q) s = .next (if q.write then s else s.emit (.readData 0))) ∧
  (∀ (w : Writer) (v : Word) (s : State), s.live 0x004 = true → (w = .host → s.domainHeld 9 = false) →
    exec (.registerWrite w (BitVec.ofNat 24 Reg.TIME_JUMP_THRESH) v) s = .next (s.setReg Reg.TIME_JUMP_THRESH v)) ∧
  (∀ (w : Writer) (p : Fin 4) (s : State), (s.live (0x030 + p.val) = true) → (w = .host → s.domainHeld 9 = false) →
    s.latch (Reg.NET_RX_ERRORS p.val) = none →
    exec (.rcRegisterRead w (BitVec.ofNat 24 (Reg.NET_RX_ERRORS p.val))) s =
    .next ((s.setReg (Reg.NET_RX_ERRORS p.val) 0).emit (.readData (s.reg (Reg.NET_RX_ERRORS p.val))))) ∧
  (∀ (w : Writer) (n : Fin 8) (s : State), (s.live (0x040 + n.val) = true) → (w = .host → s.domainHeld 9 = false) →
    s.latch (Reg.DP_OUT_FRAME_TIME_LO n.val) = none →
    exec (.lowWordRead w (BitVec.ofNat 24 (Reg.DP_OUT_FRAME_TIME_LO n.val))) s =
    .next ((s.setLatch (Reg.DP_OUT_FRAME_TIME_LO n.val + 4) (some (s.reg (Reg.DP_OUT_FRAME_TIME_LO n.val +
      4)))).emit
    (.readData (s.reg (Reg.DP_OUT_FRAME_TIME_LO n.val))))) ∧
  (∀ (w : Writer) (n : Fin 8) (v : Word) (s : State), (s.live (0x040 + n.val) = true) → (w = .host → s.domainHeld 9 =
    false) → (s.latch (Reg.DP_OUT_FRAME_TIME_LO n.val + 4) = some v) →
    exec (.lowWordRead w (BitVec.ofNat 24 (Reg.DP_OUT_FRAME_TIME_LO n.val + 4))) s =
    .next ((s.setLatch (Reg.DP_OUT_FRAME_TIME_LO n.val + 4) none).emit (.readData v)))

/-- A page that the atlas does not assign takes no write (R767). -/
def Obligations.HeldPages : Prop :=
  (∀ (w : Writer) (a : BitVec 24) (v : Word) (s : State), pageInfo (pageOf a.toNat) = none →
    exec (.registerWrite w a v) s = .next s ∧ exec (.rcRegisterRead w a) s = .next (s.emit (.readData 0)) ∧
    exec (.lowWordRead w a) s = .next (s.emit (.readData 0))) ∧
  (∀ (w : Writer) (a : BitVec 24) (v : Word) (i : PageInfo) (s : State), (pageInfo (pageOf a.toNat) = some i) →
    s.pageHeld i = true →
    exec (.registerWrite w a v) s = .next s ∧ exec (.rcRegisterRead w a) s = .next (s.emit (.readData 0)) ∧
    exec (.lowWordRead w a) s = .next (s.emit (.readData 0)))

/-- A raised fault message waits at its source's input with the severity of its kind or of its source, or is lost,
or is suppressed (R684, R687, R689, R695). -/
def Obligations.RaisedMessages : Prop :=
  (∀ (src kind addr : Nat) (s : State), kind ≠ 0 → isSource src = true → s.suppressed src = true →
    s.raise src kind addr = s.bump Reg.FAULT_SUPPRESSED 1) ∧
  (∀ (src kind addr : Nat) (s : State), kind ≠ 0 → isSource src = true → s.suppressed src = false →
    ((s.fc.inputs.filter fun x => x.source == src).length < 2) →
    let m : FaultMsg :=
    { source := src, kind := kind, severity := s.baseSeverity src kind, consequential := false, escalated := false, forced := false, time := s.now, addr := addr % 2 ^ 40 }
    s.raise src kind addr = { s with fc := { s.fc with inputs := s.fc.inputs ++ [m] } }) ∧
  (∀ (src kind addr : Nat) (s : State), kind ≠ 0 → isSource src = true → s.suppressed src = false → (2 ≤
    (s.fc.inputs.filter fun x => x.source == src).length) →
    ∃ m : FaultMsg, m.source = src ∧ m.kind = kind ∧
    s.raise src kind addr = { (s.bump Reg.FAULT_OVERFLOWS 1).bump (Reg.FAULT_KIND_COUNT kind) 1 with
    fc := { s.fc with lost := s.fc.lost ++ [m] } })

/-- The freshness commands: a committed sheet, a cell judged at its first line, the two ways a map is written (R72,
R75, R78, R88, R89, R91, R92, R93, R131, R388, R412, R419). -/
def Obligations.FreshnessCommands : Prop :=
  (∀ (c : Nat) (p : DecPicture) (rest : List DecPicture) (s : State), s.live (ctxPage c) = true → ((s.ctx c).commits
    = p :: rest) → (s.contract c = false ∨ p.au.sheets = []) →
    exec (.sheetCommit c) s = .next (s.modCtx c fun x => { x with commits := rest })) ∧
  (∀ (c : Nat) (p : DecPicture) (rest : List DecPicture) (h : HeldSheet) (hs : List HeldSheet) (sh : Sheet2) (s :
    State), s.live (ctxPage c) = true → s.contract c = true → ((s.ctx c).commits = p :: rest) → (p.au.sheets = h ::
    hs) → beAt h.body 0 1 ≠ 1 → (readSheet2 h.body = some sh) → (sh.cols ≠ cellsAcross p.pic.fmt.w ∨ sh.rows ≠
    cellsAcross p.pic.fmt.h) →
    exec (.sheetCommit c) s = .next ((s.modCtx c fun x => { x with commits := rest }).bump (Reg.SHEET_GEOM_MISMATCH
      c) 1)) ∧
  (∀ (c : Nat) (p : DecPicture) (rest : List DecPicture) (h : HeldSheet) (hs : List HeldSheet) (sh : Sheet2) (s :
    State), s.live (ctxPage c) = true → s.contract c = true → ((s.ctx c).commits = p :: rest) → (p.au.sheets = h ::
    hs) → beAt h.body 0 1 ≠ 1 → (readSheet2 h.body = some sh) → (sh.cols = cellsAcross p.pic.fmt.w ∧ sh.rows =
    cellsAcross p.pic.fmt.h) → (p.pic.fmt.w = (s.ctx c).codedW ∧ p.pic.fmt.h = (s.ctx c).codedH) →
    Completes (.sheetCommit c) s fun t => (t.ctx c).commits = rest ∧ (t.ctx c).sheetTime = sh.picTime ∧
    (t.ctx c).sheetLocked = sh.locked ∧ (t.ctx c).sheetAt = some s.now ∧ OnlyCtx c s t ∧ t = { s with regs := t.regs, mem := t.mem, fc := t.fc, ctxs := t.ctxs, drams := t.drams, refc := t.refc, sessWait := t.sessWait, pair := t.pair, out := t.out }) ∧
  (∀ (n : Fin 8) (i : Fin 16) (cell line : Nat) (s : State), s.live (compPage n.val) = true → s.outState n.val ≠ 0 →
    ((s.dpOut n.val).stopped = false) → ((i.val, cell) ∉ (s.dpOut n.val).checked) → (s.rbit (Reg.WIN_CTRL n.val
    i.val) 0 = true ∧ (s.win n.val i.val).kind = 0 ∧ (s.win n.val i.val).hatch = true) → (s.firstLine n.val i.val
    cell = some line) → s.noPicture (s.win n.val i.val).id = false →
    let p := s.cellPattern (s.win n.val i.val).id cell (s.lineTime n.val line)
    exec (.cellFirstLineCheck n i cell) s = .next ((s.setDpOut n.val { s.dpOut n.val with
    checked := (i.val, cell) :: (s.dpOut n.val).checked,
    reads := { win := i.val, cell := cell, pattern := p, rows := s.cellRows n.val (s.win n.val i.val) cell } ::
      (s.dpOut n.val).reads,
    drew := if p ≠ 0 ∧ nbit (s.dpOut n.val).drew i.val = false then (s.dpOut n.val).drew + 2 ^ i.val else (s.dpOut
      n.val).drew }).emit
    (.hatch n.val i.val cell p))) ∧
  (∀ (c port k : Nat) (s : State), s.ctxEnabled c = true → s.contract c = true → s.rbit (Reg.FRESH_CTRL c) 4 = true →
    s.rbit (Reg.FRESH_CTRL c) 11 = false → s.fld (Reg.FRESH_CTRL c) 10 8 = port → ((s.ctx c).mapK = k) →
    (s.firstFenced byHardware (s.mapBase c + 0x100 * (k % 2)) 0x100 = none) →
    Completes (.freshMapWrite c port) s fun u => (u.ctx c).mapK = (k + 1) % 2 ^ 32 ∧
    u.memLE (s.mapBase c + 0x100 * (k % 2)) 4 = k % 2 ^ 32 ∧ u.memLE (s.mapBase c + 0x100 * (k % 2) + 4) 8 =
      s.lastLineTime port % 2 ^ 64 ∧
    u.regN (Reg.FRESH_MAP_SEQ c) = k % 2 ^ 32 ∧
    SameMemoryOutside (s.mapBase c + 0x100 * (k % 2)) 0x100 s u ∧ OnlyCtx c s u ∧
    SameRegs ([Reg.FRESH_COUNTS c, Reg.FRESH_MAX_AGE c, Reg.FRESH_MAP_SEQ c, Reg.FRESH_STALE_ONSETS c] ++ faultRegs
      FaultKind.CELL_STALE) s u ∧
    u = { s with regs := u.regs, ctxs := u.ctxs, mem := u.mem, refc := u.refc, fc := u.fc }) ∧
  (∀ (c k : Nat) (s : State), s.ctxEnabled c = true → s.contract c = true → s.rbit (Reg.FRESH_CTRL c) 4 = true →
    s.rbit (Reg.FRESH_CTRL c) 11 = true → ((s.ctx c).mapK = k) → (s.firstFenced byHardware (s.mapBase c + 0x100 * (k
    % 2)) 0x100 = none) →
    Completes (.freshMapTimer c) s fun u => (u.ctx c).mapK = (k + 1) % 2 ^ 32 ∧
    u.memLE (s.mapBase c + 0x100 * (k % 2)) 4 = k % 2 ^ 32 ∧ u.memLE (s.mapBase c + 0x100 * (k % 2) + 4) 8 = s.now %
      2 ^ 64 ∧
    u.regN (Reg.FRESH_MAP_SEQ c) = k % 2 ^ 32 ∧
    SameMemoryOutside (s.mapBase c + 0x100 * (k % 2)) 0x100 s u ∧ OnlyCtx c s u ∧
    SameRegs ([Reg.FRESH_COUNTS c, Reg.FRESH_MAX_AGE c, Reg.FRESH_MAP_SEQ c, Reg.FRESH_STALE_ONSETS c] ++ faultRegs
      FaultKind.CELL_STALE) s u ∧
    u = { s with regs := u.regs, ctxs := u.ctxs, mem := u.mem, refc := u.refc, fc := u.fc })

/-- The messages of an open session at the encoding end: what each leaves in the session (R135, R140, R142, R145,
R147, R148, R157, R159, R816). -/
def Obligations.SessionMessagesAtEncoder : Prop :=
  (∀ (m : NetMsg) (c v : Nat) (s : State), (s.live (0x030 + m.port.val) = true) → (msgFramed m.bytes = true ∧
    msgSound m.bytes 1 = true ∧ msgId m.bytes ≠ 0) → s.findEnc (msgId m.bytes) m.src.toNat = none → (s.ctxOfStream
    (readHello m.bytes).stream = some c) → (s.decideHello c (readHello m.bytes) = .inr v) →
    Completes (.helloRx [m]) s fun t => (t.ctx c).encs = (s.ctx c).encs ++
    [{ id := msgId m.bytes, src := m.src.toNat, srcPort := m.srcPort.toNat, port := m.port.val, version := v, dlExact := if v = 2 then (readHello m.bytes).dlExact else (readHello m.bytes).dlPic, dlLossy := if v = 2 then (readHello m.bytes).dlLossy else (readHello m.bytes).dlPic, netAllow := (readHello m.bytes).netAllow, kaMs := (readHello m.bytes).kaMs, lastSeq := msgSeq m.bytes, seq := 1, stale := 0, unsourced := 0, updWait := [] }]
      ∧
    t.reg (Reg.SESS_MSG_RX c) = sat32 (s.regN (Reg.SESS_MSG_RX c) + 1) ∧
    t.macOf m.port.val m.src.toNat = some m.mac.toNat ∧ OnlyCtx c s t ∧ SameRegs (Reg.PAIR_FRAMES_TX :: sessRegs c)
      s t ∧
    CellsOnly c s t ∧ t = { s with regs := t.regs, ctxs := t.ctxs, macs := t.macs, out := t.out, pair := t.pair, mem := t.mem, refc := t.refc, fc := t.fc }) ∧
  (∀ (m : NetMsg) (c st det : Nat) (s : State), (s.live (0x030 + m.port.val) = true) → (msgFramed m.bytes = true ∧
    msgSound m.bytes 1 = true ∧ msgId m.bytes ≠ 0) → s.findEnc (msgId m.bytes) m.src.toNat = none → (s.ctxOfStream
    (readHello m.bytes).stream = some c) → (s.decideHello c (readHello m.bytes) = .inl (st, det)) →
    Completes (.helloRx [m]) s fun t => (∀ d, t.ctx d = s.ctx d) ∧ t.reg (Reg.SESS_MSG_RX c) = sat32 (s.regN
      (Reg.SESS_MSG_RX c) + 1) ∧
    t.regN (Reg.SESS_LAST_REFUSAL c) % 65536 = st % 65536 ∧ t.macOf m.port.val m.src.toNat = some m.mac.toNat ∧
    SameRegs (sessRegs c) s t ∧ t = { s with regs := t.regs, macs := t.macs, out := t.out }) ∧
  (∀ (a b : NetMsg) (s : State), a.arrival ≠ b.arrival →
    exec (.helloRx [a, b]) s = exec (.helloRx [b, a]) s) ∧
  (∀ (m : NetMsg) (c : Nat) (e : EncSession) (s : State), (HeardByEnc s m 4 c e) →
    Completes (.keepaliveRx m) s fun t => (t.ctx c).encs = (s.ctx c).encs.map (fun x => if x.id = e.id ∧ x.src =
      e.src then
    { x with lastSeq := msgSeq m.bytes, srcPort := m.srcPort.toNat, port := m.port.val, seq := (x.seq + 1) % 2 ^ 32, stale := if x.version = 2 then beAt m.bytes 28 2 else x.stale, unsourced := if x.version = 2 then beAt m.bytes 30 2 else x.unsourced }
      else x) ∧
    t.reg (Reg.SESS_MSG_RX c) = sat32 (s.regN (Reg.SESS_MSG_RX c) + 1) ∧ OnlyCtx c s t ∧ SameRegs (sessRegs c) s t ∧
    CellsOnly c s t ∧ t = { s with regs := t.regs, ctxs := t.ctxs, macs := t.macs, out := t.out, mem := t.mem, refc := t.refc, fc := t.fc }) ∧
  (∀ (m : NetMsg) (c : Nat) (e : EncSession) (s : State), (HeardByEnc s m 6 c e) →
    Completes (.refreshReqRx m) s fun t => (t.ctx c).refreshAcks = (s.ctx c).refreshAcks ++ [(e.id, e.src, msgSeq
      m.bytes, m.port.val)] ∧
    (t.ctx c).encPending = (s.ctx c).encPending.join { all := nbit (beAt m.bytes 20 1) 0, cells := if beAt m.bytes 22 2 = (s.ctx c).cellCount then bitmapCells m.bytes (s.ctx c).cellCount else [] }
      ∧
    t.reg (Reg.SESS_REFRESH c) = sat32 (s.regN (Reg.SESS_REFRESH c) + 1) ∧
    t.reg (Reg.SESS_MSG_RX c) = sat32 (s.regN (Reg.SESS_MSG_RX c) + 1) ∧ OnlyCtx c s t ∧ SameRegs (sessRegs c) s t ∧
    t = { s with regs := t.regs, ctxs := t.ctxs, macs := t.macs }) ∧
  (∀ (m : NetMsg) (c : Nat) (e : EncSession) (s : State), (HeardByEnc s m 8 c e) → (badDeadline (beAt m.bytes 20 2) =
    false ∧ badDeadline (beAt m.bytes 22 2) = false) → (s.fld (Reg.FRESH_RENEWAL c) 15 0 + max (beAt m.bytes 24 2)
    (s.fld (Reg.FRESH_NET_ALLOW c) 15 0) ≤ min (beAt m.bytes 20 2) (beAt m.bytes 22 2)) →
    Completes (.updateRx m) s fun t => (t.ctx c).encs = (s.ctx c).encs.map (fun x => if x.id = e.id ∧ x.src = e.src
      then
    { x with lastSeq := msgSeq m.bytes, srcPort := m.srcPort.toNat, port := m.port.val, seq := (x.seq + 1) % 2 ^ 32, dlExact := beAt m.bytes 20 2, dlLossy := beAt m.bytes 22 2, netAllow := beAt m.bytes 24 2 }
      else x) ∧
    OnlyCtx c s t ∧ SameRegs (Reg.PAIR_FRAMES_TX :: sessRegs c) s t ∧
    CellsOnly c s t ∧ t = { s with regs := t.regs, ctxs := t.ctxs, macs := t.macs, out := t.out, pair := t.pair, mem := t.mem, refc := t.refc, fc := t.fc }) ∧
  (∀ (m : NetMsg) (c : Nat) (e : EncSession) (s : State), (HeardByEnc s m 9 c e) → (∃ a ∈ e.updWait, msgAck m.bytes ∈
    a.seqs) →
    Completes (.updateAckRx m) s fun t => (t.ctx c).encs = (s.ctx c).encs.map (fun x => if x.id = e.id ∧ x.src =
      e.src then
    { x with lastSeq := msgSeq m.bytes, srcPort := m.srcPort.toNat, port := m.port.val, updWait := x.updWait.filter (fun a => !(a.seqs.elem (msgAck m.bytes))) }
      else x) ∧
    t.reg (Reg.SESS_LAST_REFUSAL c) = (if beAt m.bytes 20 2 = 0 then s.reg (Reg.SESS_LAST_REFUSAL c) else
      BitVec.ofNat 32 (beAt m.bytes 20 2)) ∧
    OnlyCtx c s t ∧ SameRegs (sessRegs c) s t ∧ t = { s with regs := t.regs, ctxs := t.ctxs, macs := t.macs }) ∧
  (∀ (m : NetMsg) (c : Nat) (e : EncSession) (s : State), (HeardByEnc s m 10 c e) →
    Completes (.byeRx m) s fun t => (t.ctx c).encs.map (fun x => (x.id, x.src)) =
    ((s.ctx c).encs.filter (fun x => !(x.id == e.id && x.src == e.src))).map (fun x => (x.id, x.src)) ∧
    OnlyCtx c s t ∧ SameRegs (Reg.PAIR_FRAMES_TX :: sessRegs c) s t ∧
    CellsOnly c s t ∧ t = { s with regs := t.regs, ctxs := t.ctxs, macs := t.macs, out := t.out, pair := t.pair, mem := t.mem, refc := t.refc, fc := t.fc })

/-- The messages of a session at the decoding end: what each leaves in the session machine (R140, R141, R151, R153,
R156). -/
def Obligations.SessionMessagesAtDecoder : Prop :=
  (∀ (m : NetMsg) (c : Nat) (d : DecSession) (s : State), (HeardByDec s m 2 c d) → (d.st = .helloSent ∧ msgAck
    m.bytes = d.helloSeq) →
    Completes (.helloAckRx m) s fun t => (t.ctx c).dec.st = .opened ∧ (t.ctx c).dec.version = beAt m.bytes 20 2 ∧
    (t.ctx c).dec.misses = 1 ∧ (t.ctx c).dec.lastSeq = some (msgSeq m.bytes) ∧ (t.ctx c).dec.kaSent.map (·.2) =
      [s.now] ∧
    t.reg (Reg.SESS_MSG_RX c) = sat32 (s.regN (Reg.SESS_MSG_RX c) + 1) ∧ OnlyCtx c s t ∧ SameRegs (sessRegs c) s t ∧
    CellsOnly c s t ∧ t = { s with regs := t.regs, ctxs := t.ctxs, macs := t.macs, out := t.out, sessWait := t.sessWait, mem := t.mem, refc := t.refc, fc := t.fc }) ∧
  (∀ (m : NetMsg) (c : Nat) (d : DecSession) (s : State), (HeardByDec s m 3 c d) → (d.st = .helloSent ∧ msgAck
    m.bytes = d.helloSeq) →
    Completes (.refuseRx m) s fun t => (t.ctx c).dec.st = .refused ∧ (t.ctx c).dec.lastSeq = some (msgSeq m.bytes) ∧
    t.reg (Reg.SESS_LAST_REFUSAL c) = BitVec.ofNat 32 (beAt m.bytes 20 2) ∧
    OnlyCtx c s t ∧ SameRegs (faultRegs FaultKind.SESSION_REFUSED ++ sessRegs c) s t ∧
    CellsOnly c s t ∧ t = { s with regs := t.regs, ctxs := t.ctxs, macs := t.macs, fc := t.fc, mem := t.mem, refc := t.refc }) ∧
  (∀ (m : NetMsg) (c u : Nat) (d : DecSession) (s : State), (HeardByDec s m 5 c d) → (d.st = .opened ∧ d.kaSent.find?
    (fun q => q.1 == msgAck m.bytes) = some (msgAck m.bytes, u)) →
    Completes (.keepaliveAckRx m) s fun t => (t.ctx c).dec.misses = 0 ∧ (t.ctx c).dec.lastSeq = d.lastSeq.map (fun _
      => msgSeq m.bytes) ∧
    t.reg (Reg.SESS_PEER_OFFSET c) = satS32 ((((beAt m.bytes 20 8 : Nat) : Int) - ((u + m.arrival) / 2 : Nat)) /
      1000) ∧
    OnlyCtx c s t ∧ SameRegs (Reg.SESS_PEER_OFFSET c :: sessRegs c) s t ∧ t = { s with regs := t.regs, ctxs := t.ctxs, macs := t.macs }) ∧
  (∀ (m : NetMsg) (c : Nat) (d : DecSession) (s : State), (HeardByDec s m 7 c d) → (∃ w ∈ d.refreshWait, msgAck
    m.bytes ∈ w.wait.seqs) →
    Completes (.refreshAckRx m) s fun t => (t.ctx c).dec.refreshWait = (s.ctx c).dec.refreshWait.filter (fun w =>
      !(w.wait.seqs.elem (msgAck m.bytes))) ∧ (t.ctx c).dec.lastSeq = d.lastSeq.map (fun _ => msgSeq m.bytes) ∧
    OnlyCtx c s t ∧ SameRegs (sessRegs c) s t ∧ t = { s with regs := t.regs, ctxs := t.ctxs, macs := t.macs })

/-- The timers of a session, a message that waits for its address, and the write of SESS_CTRL (R148, R151, R155,
R156, R161, R164, R812, R815). -/
def Obligations.SessionTimers : Prop :=
  (∀ (c : Nat) (s : State), s.sessRuns c = true → ((s.ctx c).dec.st = .helloSent) → ((s.ctx c).dec.attempts < 5) →
    Completes (.helloRetryTimeout c) s fun t => (t.ctx c).dec.st = .helloSent ∧ (t.ctx c).dec.attempts = (s.ctx
      c).dec.attempts + 1 ∧
    (t.ctx c).dec.id = (s.ctx c).dec.id ∧ (t.ctx c).dec.seq = ((s.ctx c).dec.seq + 1) % 2 ^ 32 ∧ (t.ctx
      c).dec.helloSeq = (t.ctx c).dec.seq ∧
    OnlyCtx c s t ∧ SameRegs (sessRegs c) s t ∧ CellsOnly c s t ∧ t = { s with regs := t.regs, ctxs := t.ctxs, out := t.out, sessWait := t.sessWait, mem := t.mem, refc := t.refc, fc := t.fc }) ∧
  (∀ (c : Nat) (s : State), s.sessRuns c = true → ((s.ctx c).dec.st = .helloSent) → (5 ≤ (s.ctx c).dec.attempts) →
    exec (.helloRetryTimeout c) s = .next ((s.bump (Reg.SESS_LOSSES c) 1).setSess c .backoff)) ∧
  (∀ (c : Nat) (s : State), s.sessRuns c = true → ((s.ctx c).dec.st = .backoff) →
    Completes (.backoffExpiry c) s fun t => (t.ctx c).dec.st = .helloSent ∧ (t.ctx c).dec.attempts = 1 ∧
    (t.ctx c).dec.id = (s.ctx c).dec.id ∧
    OnlyCtx c s t ∧ SameRegs (sessRegs c) s t ∧ CellsOnly c s t ∧ t = { s with regs := t.regs, ctxs := t.ctxs, out := t.out, sessWait := t.sessWait, mem := t.mem, refc := t.refc, fc := t.fc }) ∧
  (∀ (c : Nat) (s : State), s.sessRuns c = true → ((s.ctx c).dec.st = .refused) →
    Completes (.refusedExpiry c) s fun t => (t.ctx c).dec.st = .helloSent ∧ (t.ctx c).dec.attempts = 1 ∧
    (t.ctx c).dec.id = (s.ctx c).dec.id ∧
    OnlyCtx c s t ∧ SameRegs (sessRegs c) s t ∧ CellsOnly c s t ∧ t = { s with regs := t.regs, ctxs := t.ctxs, out := t.out, sessWait := t.sessWait, mem := t.mem, refc := t.refc, fc := t.fc }) ∧
  (∀ (c : Nat) (s : State), s.sessRuns c = true → ((s.ctx c).dec.st = .opened) → ((s.ctx c).dec.misses < s.fld
    (Reg.SESS_TIMING c) 19 16) →
    Completes (.keepaliveTimer c) s fun t => (t.ctx c).dec.st = .opened ∧ (t.ctx c).dec.misses = (s.ctx
      c).dec.misses + 1 ∧
    (t.ctx c).dec.kaSent = (((s.ctx c).dec.seq + 1) % 2 ^ 32, s.now) :: (s.ctx c).dec.kaSent ∧
    OnlyCtx c s t ∧ SameRegs (sessRegs c) s t ∧ t = { s with regs := t.regs, ctxs := t.ctxs, out := t.out, sessWait := t.sessWait }) ∧
  (∀ (c : Nat) (s : State), s.sessRuns c = true → ((s.ctx c).dec.st = .opened) → (s.fld (Reg.SESS_TIMING c) 19 16 ≤
    (s.ctx c).dec.misses) →
    Completes (.keepaliveTimer c) s fun t => (t.ctx c).dec.st = .helloSent ∧ (t.ctx c).dec.attempts = 1 ∧
    t.reg (Reg.SESS_LOSSES c) = sat32 (s.regN (Reg.SESS_LOSSES c) + 1) ∧
    OnlyCtx c s t ∧ SameRegs (faultRegs FaultKind.SESSION_LOST ++ sessRegs c) s t ∧
    CellsOnly c s t ∧ t = { s with regs := t.regs, ctxs := t.ctxs, fc := t.fc, out := t.out, sessWait := t.sessWait, mem := t.mem, refc := t.refc }) ∧
  (∀ (c id src : Nat) (s : State),
    Completes (.encSessionTimeout c id src) s fun t => (t.ctx c).encs = (s.ctx c).encs.filter (fun x => !(x.id == id
      && x.src == src)) ∧
    OnlyCtx c s t ∧ SameRegs (Reg.PAIR_FRAMES_TX :: sessRegs c) s t ∧
    CellsOnly c s t ∧ t = { s with regs := t.regs, ctxs := t.ctxs, out := t.out, pair := t.pair, mem := t.mem, refc := t.refc, fc := t.fc }) ∧
  (∀ (c : Nat) (s : State), ((s.ctx c).dec.pending.isEmpty = true) →
    exec (.refreshHoldoffExpiry c) s = .next (s.modCtx c fun x => { x with dec := { x.dec with holdoff := false } })) ∧
  (∀ (c : Nat) (s : State), ((s.ctx c).dec.st = .opened ∧ (s.ctx c).dec.version = 2) → ((s.ctx c).dec.pending.isEmpty
    = false) →
    Completes (.refreshHoldoffExpiry c) s fun t => (t.ctx c).dec.pending = RefreshSet.empty ∧
    (t.ctx c).dec.refreshWait = (s.ctx c).dec.refreshWait ++ [{ wait := { seqs := [(t.ctx c).dec.seq], resends := 0 }, cells := (s.ctx c).dec.pending }]
      ∧
    (t.ctx c).dec.holdoff = !(s.fld (Reg.SESS_TIMING c) 31 24 == 0) ∧ t.reg (Reg.SESS_REFRESH c) = sat32 (s.regN
      (Reg.SESS_REFRESH c) + if s.decLeaves c then 1 else 0) ∧
    OnlyCtx c s t ∧ SameRegs (sessRegs c) s t ∧ t = { s with regs := t.regs, ctxs := t.ctxs, out := t.out, sessWait := t.sessWait }) ∧
  (∀ (c : Nat) (w : AwaitRefresh) (r : List AwaitRefresh) (s : State), s.sessRuns c = true → ((s.ctx c).dec.st =
    .opened) → ((s.ctx c).dec.refreshWait = w :: r) → (w.wait.resends < 3) →
    Completes (.refreshReqResend c) s fun t =>
    (t.ctx c).dec.refreshWait = r ++ [{ wait := w.wait.again (t.ctx c).dec.seq, cells := w.cells.join (s.ctx c).dec.pending }]
      ∧
    (t.ctx c).dec.seq = ((s.ctx c).dec.seq + 1) % 2 ^ 32 ∧
    OnlyCtx c s t ∧ SameRegs (sessRegs c) s t ∧ t = { s with regs := t.regs, ctxs := t.ctxs, out := t.out, sessWait := t.sessWait }) ∧
  (∀ (c : Nat) (w : AwaitRefresh) (r : List AwaitRefresh) (s : State), s.sessRuns c = true → ((s.ctx c).dec.st =
    .opened) → ((s.ctx c).dec.refreshWait = w :: r) → (3 ≤ w.wait.resends) →
    exec (.refreshReqResend c) s = .next (s.modCtx c fun x => { x with dec := { x.dec with refreshWait := r } })) ∧
  (∀ (c id src : Nat) (a : Await) (r : List Await) (s : State), s.isEncode c = false → s.sessRuns c = true → ((s.ctx
    c).dec.st = .opened) → ((s.ctx c).dec.updWait = a :: r) → (a.resends < 5) →
    Completes (.updateResend c id src) s fun t => (t.ctx c).dec.updWait = r ++ [a.again (t.ctx c).dec.seq] ∧
    (t.ctx c).dec.seq = ((s.ctx c).dec.seq + 1) % 2 ^ 32 ∧
    OnlyCtx c s t ∧ SameRegs (sessRegs c) s t ∧ t = { s with regs := t.regs, ctxs := t.ctxs, out := t.out, sessWait := t.sessWait }) ∧
  (∀ (c id src : Nat) (a : Await) (r : List Await) (e : EncSession) (s : State), s.isEncode c = true → (((s.ctx
    c).encs.find? fun e => e.id == id && e.src == src) = some e) → (e.updWait = a :: r) → (5 ≤ a.resends) →
    Completes (.updateResend c id src) s fun t => (t.ctx c).encs = (s.ctx c).encs.filter (fun x => !(x.id == id &&
      x.src == src)) ∧
    OnlyCtx c s t ∧ SameRegs (Reg.PAIR_FRAMES_TX :: sessRegs c) s t ∧ CellsOnly c s t ∧ t = { s with regs := t.regs, ctxs := t.ctxs, out := t.out, pair := t.pair, mem := t.mem, refc := t.refc, fc := t.fc }) ∧
  (∀ (port addr mac : Nat) (s : State), (s.live (0x030 + port) = true) →
    Completes (.sessionMsgResolved port addr mac) s fun t => t.macOf port addr = some mac ∧
    t.sessWait = s.sessWait.filter (fun w => !(w.port == port && w.addr == addr)) ∧
    SameRegs ((s.sessWait.filter fun w => w.port == port && w.addr == addr).flatMap fun w => [Reg.SESS_MSG_TX w.ctx,
      Reg.SESS_REFRESH w.ctx]) s t ∧
    SendTimesOnly s t ∧ t = { s with regs := t.regs, ctxs := t.ctxs, macs := t.macs, out := t.out, sessWait := t.sessWait }) ∧
  (∀ (port addr : Nat) (w : WaitMsg) (pre post : List WaitMsg) (s : State), (s.sessWait = pre ++ w :: post) → (∀ x ∈
    pre, ¬ (x.port = port ∧ x.addr = addr)) → (w.port = port ∧ w.addr = addr) →
    exec (.arpWaitExpiry port addr) s = .next { s with sessWait := pre ++ post }) ∧
  (∀ (c : Nat) (v : Word) (s : State), s.live (ctxPage c) = true → s.isEncode c = false → (s.rbit (Reg.SESS_CTRL c) 0
    = false ∧ bit v 0 = false) → ((s.ctx c).dec.st = .idle) →
    Completes (.sessCtrlWrite c v) s fun t => t.reg (Reg.SESS_CTRL c) = v &&& 0x00FFFF3F ∧
    SameRegs (Reg.SESS_CTRL c :: sessRegs c) s t ∧ CellsOnly c s t ∧ t = { s with regs := t.regs, mem := t.mem, refc := t.refc, fc := t.fc }) ∧
  (∀ (c : Nat) (v : Word) (s : State), s.live (ctxPage c) = true → s.rbit (Reg.SESS_CTRL c) 0 = true →
    Completes (.sessCtrlWrite c v) s fun t => t.reg (Reg.SESS_CTRL c) = putBit (s.reg (Reg.SESS_CTRL c)) 0 (bit v 0)
      ∧
    OnlyCtx c s t ∧ SameRegs (Reg.SESS_CTRL c :: Reg.PAIR_FRAMES_TX :: sessRegs c) s t ∧
    CellsOnly c s t ∧ t = { s with regs := t.regs, ctxs := t.ctxs, out := t.out, sessWait := t.sessWait, pair := t.pair, mem := t.mem, refc := t.refc, fc := t.fc })

/-- A write to SESS_TIMING with a field outside its range has no effect (R166). -/
def Obligations.SessionTiming : Prop :=
  (∀ (c : Nat) (v : Word) (s : State), s.live (ctxPage c) = true → (10 ≤ bits v 15 0 ∧ bits v 15 0 ≤ 10000 ∧ 2 ≤ bits
    v 19 16) →
    exec (.sessTimingWrite c v) s = .next (s.setReg (Reg.SESS_TIMING c) (v &&& 0xFF0FFFFF))) ∧
  (∀ (c : Nat) (v : Word) (s : State), s.live (ctxPage c) = true → (bits v 15 0 < 10 ∨ 10000 < bits v 15 0 ∨ bits v
    19 16 < 2) →
    exec (.sessTimingWrite c v) s = .next s)

/-- The encode commands of a context outside a pair: the start of a source picture, the sending of a row, the echo
check, the end of a picture (R50, R149, R176, R182, R186, R188, R208, R210, R211, R212, R213, R299). -/
def Obligations.EncodeCommands : Prop :=
  (∀ (c : Nat) (pfx : List Byte) (hooks : List (Option Nat)) (src : EncSource) (s : State), s.live (ctxPage c) = true
    → s.pairRole = 0 → s.ctxEnabled c = true → s.isEncode c = true → ((s.ctx c).pic = none ∧ (s.ctx c).stopping =
    false ∧ s.mayStart c = true ∧ s.goesFirst c = true) → ((s.takeSource c).2 = some src) →
    Completes (.encPictureStart c pfx hooks) s fun t => (t.ctx c).prevSource = true ∧ (t.ctx c).v1Active =
      (s.v1Sheet c src none).isSome ∧
    t.reg Reg.CONTENT_CTUS = sat32 (s.regN Reg.CONTENT_CTUS + (s.ctx c).ctuCount) ∧
    ((t.ctx c).prevPic.map fun p => (p.fmt, p.matrix, p.full)) = some (s.encFmt c, src.pic.matrix, src.pic.full) ∧
      OnlyCtx c s t ∧ t = { s with regs := t.regs, mem := t.mem, scrap := t.scrap, fc := t.fc, ctxs := t.ctxs, ledger := t.ledger, margin := t.margin, drams := t.drams, refc := t.refc, flows := t.flows, sessWait := t.sessWait, queues := t.queues, pool := t.pool, pair := t.pair, out := t.out, freeCtr := t.freeCtr }) ∧
  (∀ (c : Nat) (pfx : List Byte) (hooks : List (Option Nat)) (s : State), s.live (ctxPage c) = true → s.pairRole = 0
    → s.ctxEnabled c = true → (s.isEncode c = true ∧ s.contract c = true) → ((s.ctx c).pic = none ∧ (s.ctx
    c).stopping = false ∧ s.goesFirst c = true) → (s.encSel c ≤ 3 ∧ (s.dpIn (s.encSel c)).newest = none) →
    Completes (.encPictureStart c pfx hooks) s fun t =>
    t.reg (Reg.FRESH_RENEW_LATE c) = sat32 (s.regN (Reg.FRESH_RENEW_LATE c) + ((List.range (s.ctx
      c).cellCount).filter (s.overdue c)).length) ∧
    (t.ctx c).pic = none ∧ OnlyCtx c s t ∧ SameRegs (Reg.FRESH_RENEW_LATE c :: fenceRegs) s t ∧ CellsOnly c s t ∧
    t = { s with regs := t.regs, ctxs := t.ctxs, mem := t.mem, refc := t.refc, fc := t.fc }) ∧
  (∀ (c row : Nat) (hooks : List (Option Nat)) (p : EncPicture) (s : State), s.live (ctxPage c) = true → ((s.ctx
    c).pic = some p) → ((s.ctx c).tileCols = 1 ∧ row = p.slicesSent ∧ row < (s.ctx c).ctuRows) → s.sliceReady c row
    p = true → ((s.ctx c).rtpSeq < 65536) →
    let pkts := nalPackets (s.fld (Reg.ENC_RTP c) 29 16) ((p.slice row).bits / 8) none hooks
    Completes (.rowSend c row hooks) s fun t => (t.ctx c).pic = some { p with slicesSent := row + 1, rowsSent := p.rowsSent ++ [row], outbox := if s.rbit (Reg.CTX_MODE c) 4 then p.outbox ++ pkts else p.outbox }
      ∧
    (t.ctx c).rtpSeq = (if s.rbit (Reg.CTX_MODE c) 4 then (s.ctx c).rtpSeq else ((s.ctx c).rtpSeq + pkts.length) %
      65536) ∧
    OnlyCtx c s t ∧ t = { s with regs := t.regs, fc := t.fc, ctxs := t.ctxs, flows := t.flows, queues := t.queues, pair := t.pair, out := t.out }) ∧
  (∀ (c row : Nat) (hooks : List (Option Nat)) (p : EncPicture) (s : State), s.live (ctxPage c) = true → ((s.ctx
    c).pic = some p) → (p.slicesSent = row * (s.ctx c).tileCols ∧ row < (s.ctx c).ctuRows) → (∀ k < (s.ctx
    c).tileCols, s.sliceReady c (p.slicesSent + k) p = true) →
    Completes (.rowSend c row hooks) s fun t => ((t.ctx c).pic.map fun q => { q with outbox := [] }) = some { p with slicesSent := (row + 1) * (s.ctx c).tileCols, rowsSent := p.rowsSent ++ [row], outbox := [] }
      ∧
    OnlyCtx c s t ∧ t = { s with regs := t.regs, fc := t.fc, ctxs := t.ctxs, flows := t.flows, queues := t.queues, pair := t.pair, out := t.out }) ∧
  (∀ (c row : Nat) (hooks : List (Option Nat)) (p : EncPicture) (s : State), s.live (ctxPage c) = true → ((s.ctx
    c).pic = some p) → (row ≠ p.slicesSent / (s.ctx c).tileCols ∨ s.sliceReady c p.slicesSent p = false) →
    exec (.rowSend c row hooks) s = .next s) ∧
  (∀ (c sl : Nat) (diffs : List SampleDiff) (p : EncPicture) (s : State), s.live (ctxPage c) = true → ((s.ctx c).pic
    = some p) → (s.rbit (Reg.CTX_MODE c) 7 = true ∧ (p.slice sl).passed = false) → ((s.ctx c).sliceCtus sl ≠ [] ∧ ∀
    a ∈ (s.ctx c).sliceCtus sl, ((s.ctx c).ctu a).decided = true) → (sampleCrc ((s.ctx c).sliceSamples p.pic.fmt sl
    (rawAt p.raw)) = sampleCrc ((s.ctx c).sliceSamples p.pic.fmt sl (diffAt diffs (rawAt p.raw)))) →
    exec (.echoRowCheck c sl diffs) s = .next (s.modCtx c fun x =>
    { x with pic := some ((p.setSlice sl { p.slice sl with passed := true }).hold ((s.ctx c).ctuRows * (s.ctx c).tileCols)) })) ∧
  (∀ (c sl : Nat) (diffs : List SampleDiff) (p : EncPicture) (s : State), s.live (ctxPage c) = true → ((s.ctx c).pic
    = some p) → (s.rbit (Reg.CTX_MODE c) 7 = true ∧ (p.slice sl).passed = false ∧ (p.slice sl).fails = 0) → ((s.ctx
    c).sliceCtus sl ≠ [] ∧ ∀ a ∈ (s.ctx c).sliceCtus sl, ((s.ctx c).ctu a).decided = true) → (sampleCrc ((s.ctx
    c).sliceSamples p.pic.fmt sl (rawAt p.raw)) ≠ sampleCrc ((s.ctx c).sliceSamples p.pic.fmt sl (diffAt diffs
    (rawAt p.raw)))) →
    Completes (.echoRowCheck c sl diffs) s fun t => t.reg (Reg.ENC_ECHO_ROW_FAIL c) = sat32 (s.regN
      (Reg.ENC_ECHO_ROW_FAIL c) + 1) ∧
    (t.ctx c).pic = some ((p.reopen (s.ctx c) sl).hold ((s.ctx c).ctuRows * (s.ctx c).tileCols)) ∧
    (∀ a ∈ (s.ctx c).sliceCtus sl, ((t.ctx c).ctu a).decided = false) ∧
    OnlyCtx c s t ∧ SameRegs (Reg.ENC_ECHO_ROW_FAIL c :: faultRegs FaultKind.ECHO_ROW_MISMATCH) s t ∧ t = { s with regs := t.regs, ctxs := t.ctxs, fc := t.fc }) ∧
  (∀ (c : Nat) (sfx : List Byte) (hooks : List (Option Nat)) (digest : Word) (p : EncPicture) (s : State), s.pairRole
    = 0 → ((s.ctx c).pic = some p ∧ (s.ctx c).stopping = false) → (p.rowsSent.length = (s.ctx c).ctuRows ∧ s.hasJob
    c .encode = false ∧ s.echoDone c p = true) → (∀ a ∈ List.range (s.ctx c).ctuCount, ((s.ctx c).ctu a).decided =
    true) →
    Completes (.encPictureComplete c sfx hooks digest) s fun t => (t.ctx c).pic = none ∧
    (t.ctx c).nextSheetSeq = ((s.ctx c).nextSheetSeq + 1) % 65536 ∧ (t.ctx c).outCount = (s.ctx c).outCount + 1 ∧
    (t.ctx c).refs.map (·.pic) = (p.pic :: (s.ctx c).refs.map (·.pic)).take (s.fld (Reg.ENC_REFS c) 2 0) ∧
    t.reg (Reg.ENC_PICS c) = sat32 (s.regN (Reg.ENC_PICS c) + 1) ∧ OnlyCtx c s t ∧ t = { s with regs := t.regs, mem := t.mem, fc := t.fc, ctxs := t.ctxs, bays := t.bays, px := t.px, ce := t.ce, ledger := t.ledger, refc := t.refc, flows := t.flows, sessWait := t.sessWait, queues := t.queues, pool := t.pool, pair := t.pair, out := t.out })

/-- A context is enabled, stopped and halted (R218, R307, R308, R327, R814). -/
def Obligations.ContextLife : Prop :=
  (∀ (c : Nat) (g : Charge) (table : Nat) (u v : State) (s : State), (c < 256) → (s.enabled (ctxPage c) = false ∧
    s.inReset (ctxPage c) = false ∧ s.domainHeld 6 = false) → s.ledger.waiting.elem (enableReq c) = false →
    (s.checkSet c true = none ∧ s.rbit Reg.LEDGER_STATUS 11 = true ∧ bit (s.sh (Reg.CTX_MODE c)) 0 = true) →
    (s.formCharge c = .inr g) → (s.admitCtx c g = (u, 0)) → (u.poolAsk (u.ctx c).ce 9216 = (v, 0, table) ∧
    s.wantsMapBuf c = false) →
    Completes (.ctxEnable c) s fun t => t.enabled (ctxPage c) = true ∧ (∀ k ∈ ctxSet c true, t.reg k = s.reg
      (shadowOf k)) ∧
    t.fld (Reg.ENC_STATUS c) 3 0 = 1 ∧ (t.ctx c).cells = [] ∧ t.regN (Reg.FRESH_CELL_TABLE c) = table % 2 ^ 32 ∧
    t.rbit (blkShadow (ctxPage c)) 0 = false ∧ t = { s with regs := t.regs, mem := t.mem, scrap := t.scrap, fc := t.fc, ctxs := t.ctxs, ce := t.ce, ledger := t.ledger, refc := t.refc, sessWait := t.sessWait, pool := t.pool, pair := t.pair, out := t.out, freeCtr := t.freeCtr }) ∧
  (∀ (c : Nat) (s : State), (s.enabled (ctxPage c) = false ∧ s.inReset (ctxPage c) = false ∧ s.domainHeld 6 = false)
    → s.ledger.waiting.elem (enableReq c) = false → (s.checkSet c true = none ∧ s.rbit Reg.LEDGER_STATUS 11 = false)
    →
    exec (.ctxEnable c) s = .next (s.askAdmission (enableReq c))) ∧
  (∀ (c : Nat) (r : SetRefusal) (s : State), (s.enabled (ctxPage c) = false ∧ s.inReset (ctxPage c) = false ∧
    s.domainHeld 6 = false) → s.ledger.waiting.elem (enableReq c) = false → (s.checkSet c true = some r) →
    exec (.ctxEnable c) s = .next (s.refuseSet c r)) ∧
  (∀ (c : Nat) (s : State), s.live (ctxPage c) = true → (s.enabled (ctxPage c) = true ∧ s.ledger.waiting.elem
    (enableReq c) = false) → ((s.ctx c).pic = none ∧ (s.ctx c).dpic = none ∧ (s.ctx c).comingAu = false) →
    Completes (.ctxStop c) s fun t => t.enabled (ctxPage c) = false ∧ (t.ctx c).pic = none ∧ (t.ctx c).dpic = none ∧
    (t.ctx c).queue = [] ∧ (t.ctx c).stopping = false ∧
    (if s.isEncode c then t.fld (Reg.ENC_STATUS c) 3 0 else t.fld (Reg.DEC_STATUS c) 3 0) = 0 ∧ t = { s with regs := t.regs, mem := t.mem, fc := t.fc, ctxs := t.ctxs, bays := t.bays, px := t.px, ce := t.ce, ledger := t.ledger, refc := t.refc, sessWait := t.sessWait, pool := t.pool, pair := t.pair, out := t.out }) ∧
  (∀ (c : Nat) (s : State), s.live (ctxPage c) = true → (s.enabled (ctxPage c) = true ∧ s.ledger.waiting.elem
    (enableReq c) = false) → ((s.ctx c).pic ≠ none ∨ (s.ctx c).dpic ≠ none ∨ (s.ctx c).comingAu = true) →
    exec (.ctxStop c) s = .next (s.modCtx c fun x => { x with
    stopping := true, queue := [], assembling := if x.comingAu then x.assembling else none, donWait := if x.comingAu
      then x.donWait else [] })) ∧
  (∀ (c : Nat) (s : State), s.live (ctxPage c) = true → (s.enabled (ctxPage c) = true ∧ s.ledger.waiting.elem
    (enableReq c) = false) →
    Completes (.ctxHalt c) s fun t => t.enabled (ctxPage c) = false ∧ (t.ctx c).pic = none ∧ (t.ctx c).dpic = none ∧
    (t.ctx c).queue = [] ∧ (t.ctx c).stopping = false ∧
    (if s.isEncode c then t.fld (Reg.ENC_STATUS c) 3 0 else t.fld (Reg.DEC_STATUS c) 3 0) = 0 ∧ t = { s with regs := t.regs, mem := t.mem, fc := t.fc, ctxs := t.ctxs, bays := t.bays, px := t.px, ce := t.ce, ledger := t.ledger, refc := t.refc, sessWait := t.sessWait, pool := t.pool, pair := t.pair, out := t.out })

/-- The decode commands of a context: a packet, the end of the wait for a lost one, the start and the end of a
picture (R270, R271, R274, R277, R278, R289, R298, R299, R302). -/
def Obligations.DecodeCommands : Prop :=
  (∀ (c : Nat) (p : RtpPacket) (s : State), s.live (ctxPage c) = true → (s.ctxEnabled c = true ∧ s.isEncode c = false
    ∧ s.sessRuns c = false) → (s.rbit (Reg.DEC_RTP c) 7 = true ∨ s.fld (Reg.DEC_RTP c) 6 0 = p.pt.toNat) → (s.regN
    (Reg.SESS_STREAM_ID c) = 0 ∨ s.regN (Reg.SESS_STREAM_ID c) = p.ssrc.toNat) → ((s.ctx c).expSeq = none ∨ (s.ctx
    c).expSeq = some p.seq.toNat) → ((s.ctx c).waiting = []) →
    Completes (.decPacketRx c p) s fun t => (t.ctx c).expSeq = some ((p.seq.toNat + 1) % 65536) ∧ (t.ctx c).waiting
      = [] ∧
    (t.ctx c).dec.port = p.port.val ∧ OnlyCtx c s t ∧ t = { s with regs := t.regs, mem := t.mem, fc := t.fc, ctxs := t.ctxs, drams := t.drams, refc := t.refc, sessWait := t.sessWait, out := t.out }) ∧
  (∀ (c e : Nat) (p : RtpPacket) (s : State), s.live (ctxPage c) = true → (s.ctxEnabled c = true ∧ s.isEncode c =
    false ∧ s.sessRuns c = false) → (s.rbit (Reg.DEC_RTP c) 7 = true ∨ s.fld (Reg.DEC_RTP c) 6 0 = p.pt.toNat) →
    (s.regN (Reg.SESS_STREAM_ID c) = 0 ∨ s.regN (Reg.SESS_STREAM_ID c) = p.ssrc.toNat) → ((s.ctx c).expSeq = some e)
    → (later16 p.seq.toNat e = true ∧ p.unsupported = false) → (∀ w ∈ (s.ctx c).waiting, w.seq ≠ p.seq ∧ w.seq.toNat
    ≠ e) →
    exec (.decPacketRx c p) s = .next (s.modCtx c fun x => { x with dec := { x.dec with port := p.port.val }, waiting := x.waiting ++ [p] })) ∧
  (∀ (c e : Nat) (p : RtpPacket) (s : State), s.live (ctxPage c) = true → ((s.ctx c).expSeq = some e) → ((s.ctx
    c).waiting = [p]) →
    Completes (.lossWaitExpiry c) s fun t => t.reg (Reg.DEC_PKT_LOST c) = sat32 (s.regN (Reg.DEC_PKT_LOST c) +
      (p.seq.toNat + 65536 - e) % 65536) ∧
    (t.ctx c).expSeq = some ((p.seq.toNat + 1) % 65536) ∧ (t.ctx c).waiting = [] ∧ OnlyCtx c s t ∧ t = { s with regs := t.regs, mem := t.mem, fc := t.fc, ctxs := t.ctxs, drams := t.drams, refc := t.refc, sessWait := t.sessWait, out := t.out }) ∧
  (∀ (c : Nat) (u : AccessUnit) (rest : List AccessUnit) (i : SpsInfo) (s : State), s.live (ctxPage c) = true →
    (s.ctxEnabled c = true ∧ s.isEncode c = false) → ((s.ctx c).dpic = none ∧ (s.ctx c).stopping = false ∧ (s.ctx
    c).started = true ∧ (s.ctx c).degrade = 0) → s.goesFirst c = true → ((s.ctx c).skipChain = false ∧ (s.ctx
    c).raslSkip = false) → ((s.ctx c).sps = some i ∧ (s.ctx c).refused = none) → ((s.ctx c).queue = u :: rest) →
    (u.sets = [] ∧ s.pictureSps c u = some i ∧ u.irap = false) →
    Completes (.decPictureStart c) s fun t => (∃ p, (t.ctx c).dpic = some p ∧ p.au = u) ∧ (t.ctx c).queue = rest ∧
    (t.ctx c).started = true ∧ OnlyCtx c s t ∧ t = { s with regs := t.regs, mem := t.mem, fc := t.fc, ctxs := t.ctxs, bays := t.bays, px := t.px, ce := t.ce, ledger := t.ledger, drams := t.drams, refc := t.refc, sessWait := t.sessWait, pool := t.pool, pair := t.pair, out := t.out }) ∧
  (∀ (c : Nat) (p : DecPicture) (i : SpsInfo) (s : State), s.live (ctxPage c) = true → ((s.ctx c).dpic = some p ∧
    (s.ctx c).sps = some i) → ((s.ctx c).stopping = false) → (p.arriving = false ∧ s.hasJob c .decode = false) → (∀
    a ∈ List.range (p.ctuCount i), a ∈ p.done ∨ a ∈ p.damaged) →
    Completes (.decPictureComplete c) s fun t => (t.ctx c).dpic = none ∧
    t.reg (Reg.DEC_PICS c) = sat32 (s.regN (Reg.DEC_PICS c) + 1) ∧ (t.ctx c).lastDerived = !p.holders.isEmpty ∧
      OnlyCtx c s t ∧ t = { s with regs := t.regs, mem := t.mem, fc := t.fc, ctxs := t.ctxs, bays := t.bays, px := t.px, ce := t.ce, ledger := t.ledger, drams := t.drams, refc := t.refc, sessWait := t.sessWait, pool := t.pool, pair := t.pair, out := t.out })

/-- The ledger's commands: an update of the measurement, the decision on a request, the measured work of a context
(R325, R326, R334, R342, R714). -/
def Obligations.LedgerCommands : Prop :=
  (∀ (f : LedgerFacts) (s : State), (s.domainHeld 1 = false ∧ s.domainHeld 6 = false) →
    Completes (.ledgerUpdate f) s fun t => t.rbit Reg.LEDGER_STATUS 11 = true ∧ t.regN Reg.LEDGER_SEQ = (s.regN
      Reg.LEDGER_SEQ + 1) % 2 ^ 32 ∧
    (∀ i ∈ List.range 24, t.regN (Reg.MARGIN_CANARY i) = f.canaries.getD i 0 % 2 ^ 32) ∧
    (∀ b ∈ List.range 12, t.regN (Reg.BAY_LOAD b) = f.loads.getD b 0 % 2 ^ 32) ∧
    (∃ raw ∈ t.ledger.raws, (∀ r ∈ t.ledger.raws, raw ≤ r) ∧ t.regN Reg.LEDGER_CAPACITY = raw % 2 ^ 32) ∧
      t.ledger.raws.length ≤ 8 ∧ t = { s with regs := t.regs, mem := t.mem, scrap := t.scrap, fc := t.fc, ctxs := t.ctxs, bays := t.bays, ce := t.ce, ledger := t.ledger, margin := t.margin, dpOuts := t.dpOuts, refc := t.refc, sessWait := t.sessWait, pool := t.pool, pair := t.pair, out := t.out, freeCtr := t.freeCtr }) ∧
  (∀ (r : AdmitReq) (s : State), s.live 0x007 = true → s.rbit Reg.LEDGER_STATUS 11 = true → (minBy? AdmitReq.order
    s.ledger.waiting = some r) →
    exec .admissionDecide s = .next (s.decideRequest r) ∧ Completes .admissionDecide s fun t => r ∉ t.ledger.waiting) ∧
  (∀ (c samples exact : Nat) (s : State), s.live (ctxPage c) = true → ((s.ctx c).admitted = true ∧ (s.ctx c).chg.enc
    = true) →
    let work := cdiv (samples * encWeight 0 (s.ctx c).chg.refs (s.rbit (Reg.CTX_MODE c) 7) + exact * 12800)
      1000000000
    Completes (.ctxWorkMeasure c samples exact) s fun t => t.reg (Reg.CTX_WORK c) = sat32 work ∧
    (t.ctx c).overCharges = (if 11 * (s.ctx c).chg.pwu < 10 * work then (s.ctx c).overCharges + 1 else 0) ∧ OnlyCtx
      c s t ∧ t = { s with regs := t.regs, fc := t.fc, ctxs := t.ctxs }) ∧
  (∀ (c samples exact : Nat) (s : State), s.live (ctxPage c) = true → ((s.ctx c).admitted = true ∧ (s.ctx c).chg.enc
    = false) →
    let work := cdiv (samples * decWeight (s.rbit (Reg.CTX_MODE c) 1) (s.fld (Reg.DEC_LEVEL c) 13 12) (s.fld
      (Reg.DEC_LEVEL c) 11 8)) 1000000000
    Completes (.ctxWorkMeasure c samples exact) s fun t => t.reg (Reg.CTX_WORK c) = sat32 work ∧
    (t.ctx c).overCharges = (if 11 * (s.ctx c).chg.pwu < 10 * work then (s.ctx c).overCharges + 1 else 0) ∧ OnlyCtx
      c s t ∧ t = { s with regs := t.regs, fc := t.fc, ctxs := t.ctxs }) ∧
  (∀ (c samples exact : Nat) (s : State), s.live (ctxPage c) = true → ((s.ctx c).admitted = false) →
    exec (.ctxWorkMeasure c samples exact) s = .next s)

/-- The commands of the row jobs: placed, a CTU started, completed, and a segment given to a lane (R315, R316, R317,
R318, R320, R322, R323, R390). -/
def Obligations.RowJobCommands : Prop :=
  (∀ (c row tile b : Nat) (kind : JobKind) (s : State), s.live (ctxPage c) = true → s.jobWaits c row tile kind = true
    → (s.bayFor c none = some b) →
    Completes (.rowJobPlace c row tile kind) s fun t => (t.bay b).jobs = (s.bay b).jobs ++
    [{ ctx := c, row := row, tile := tile, kind := kind, ctus := s.jobCtus c row tile, started := [], on := [] }] ∧
    (∀ d, d ≠ b → t.bay d = s.bay d) ∧ t.ctx c = { s.ctx c with reruns := (s.ctx c).reruns.erase (row, tile, kind) }
      ∧ OnlyCtx c s t ∧
    SameRegs [Reg.BAY_STATUS b, Reg.BAY_JOB_RERUN b] s t ∧ t = { s with regs := t.regs, bays := t.bays, ctxs := t.ctxs }) ∧
  (∀ (b : Fin 12) (d : PxDispatch) (f : CtuFacts) (j : RowJob) (a e : Nat) (s : State), (s.live (0x080 + b.val) =
    true) → d.window = none → (minBy? (fun p => s.ctuOrder p.1 p.2) ((s.bay b.val).jobs.filterMap fun j =>
    (s.readyCtu j).bind fun a => if s.readsReady j f then some (j, a) else none) = some (j, a)) → (s.freeEngine
    b.val = some e) →
    Completes (.ctuStart b d f) s fun t => (t.pxEng (8 * b.val + e)).item =
    some { work := .ctu j.ctx j.kind a, entry := d.entry.val, slotBase := d.slotBase.toNat, slotLen := d.slotLen } ∧
    (t.pxEng (8 * b.val + e)).pc = d.entry.val ∧ OnlyPx (8 * b.val + e) s t ∧
    (t.bay b.val).jobs = (s.bay b.val).jobs.map (fun k => if k = j then { j with started := j.started ++ [a], on := (e, a) :: j.on }
      else k) ∧
    (∀ d, d ≠ b.val → t.bay d = s.bay d) ∧ OnlyCtx j.ctx s t ∧ t = { s with regs := t.regs, mem := t.mem, fc := t.fc, ctxs := t.ctxs, bays := t.bays, px := t.px, drams := t.drams, refc := t.refc, sessWait := t.sessWait, out := t.out }) ∧
  (∀ (b : Fin 12) (d : PxDispatch) (f : CtuFacts) (i : WinItem) (e : Nat) (s : State), (s.live (0x080 + b.val) =
    true) → (d.window = some i) → (s.bayInService b.val = true ∧ s.runsWindow i = true) → (s.freeEngine b.val = some
    e) →
    Completes (.ctuStart b d f) s fun t => (t.pxEng (8 * b.val + e)).item =
    some { work := .window i, entry := d.entry.val, slotBase := d.slotBase.toNat, slotLen := d.slotLen } ∧
    (t.pxEng (8 * b.val + e)).pc = d.entry.val ∧ OnlyPx (8 * b.val + e) s t ∧ SameRegs [Reg.PX_STATUS (8 * b.val +
      e)] s t ∧
    t = { s with regs := t.regs, px := t.px }) ∧
  (∀ (b : Fin 12) (c row tile : Nat) (kind : JobKind) (e : JobEnd) (j : RowJob) (s : State), (s.live (0x080 + b.val)
    = true) → (((s.bay b.val).jobs.find? fun j => j.same c row tile kind) = some j) → (j.on = [] ∧ s.edgeReady j =
    true ∧ ∀ a ∈ j.ctus, a ∈ j.started) →
    Completes (.rowJobComplete b c row tile kind e) s fun t => (t.bay b.val).jobs = (s.bay b.val).jobs.erase j ∧
    t.reg (Reg.BAY_JOBS b.val) = sat32 (s.regN (Reg.BAY_JOBS b.val) + 1) ∧ (∀ d, d ≠ b.val → t.bay d = s.bay d) ∧
      OnlyCtx c s t ∧ t = { s with regs := t.regs, mem := t.mem, fc := t.fc, ctxs := t.ctxs, bays := t.bays, bins := t.bins, drams := t.drams, refc := t.refc }) ∧
  (∀ (c n seg : Nat) (s : State), s.live (ctxPage c) = true → (s.ctxEnabled c = true ∧ (s.isEncode c = true → (s.ctx
    c).lanes.length < 8)) → (s.nextSegment c = some seg) → (((List.range 24).find? fun n => !s.rbit (Reg.EL_STATUS
    n) 0 && !s.inReset (0x1A0 + n)) = some n) →
    Completes (.entropySegmentStart c) s fun t => (t.ctx c).lanes = (s.ctx c).lanes ++ [(n, seg)] ∧
    t.regN (Reg.EL_STATUS n) = (1 + 2 * b2n (s.isEncode c) + 256 * c) % 2 ^ 32 ∧ OnlyCtx c s t ∧ SameRegs
      [Reg.EL_STATUS n, Reg.CTX_PLACEMENT c] s t ∧
    t = { s with regs := t.regs, ctxs := t.ctxs })

/-- The stores of microcode: an instance is reloaded, a word is scrubbed, a word is read for debug (R351, R393,
R394, R396, R400). -/
def Obligations.MicrocodeStores : Prop :=
  (∀ (k : Fin 3) (i : Fin 96) (errs : List (Fin 6)) (s : State), s.domainHeld 5 = false → (i.val < ucInstances k.val)
    → s.reloadable k.val i.val = true → s.copyGood k.val = true →
    Completes (.storeReload k i errs) s fun t => (∀ a ∈ List.range (ucWords k.val), t.ucRead k.val i.val a =
      ucStored k.val (s.ucCommon k.val a)) ∧
    t.reloadable k.val i.val = false ∧ SameRegs (instRegs k.val i.val) s t ∧ t = { s with regs := t.regs, stores := t.stores, bays := t.bays, px := t.px }) ∧
  (∀ (i : Fin 16) (errs : List (Fin 6)) (s : State), s.domainHeld 5 = false → s.reloadable 2 i.val = true →
    s.copyGood 2 = true →
    Completes (.storeReload 2 (Fin.ofNat 96 i.val) errs) s fun t =>
    t.rbit (Reg.CE_STATUS i.val) 0 = true ∧ t.rbit (Reg.CE_STATUS i.val) 1 = false ∧
    t.reg (Reg.CE_RELOADS i.val) = sat32 (s.regN (Reg.CE_RELOADS i.val) + 1) ∧ SameRegs (instRegs 2 i.val) s t) ∧
  (∀ (k : Fin 3) (i : Fin 96) (errs : List (Fin 6)) (s : State), s.domainHeld 5 = false → (i.val < ucInstances k.val)
    → s.reloadable k.val i.val = true → s.copyGood k.val = false →
    Completes (.storeReload k i errs) s fun t => (∀ a ∈ List.range (ucWords k.val), t.ucRead k.val i.val a =
    if s.rebuilds k.val i.val errs = true then ucStored k.val (s.ucCommon k.val a) else s.ucRead k.val i.val a) ∧
    t.reloadable k.val i.val = false ∧
    SameRegs (instRegs k.val i.val ++ faultRegs FaultKind.UCODE_COPY_BAD ++ faultRegs FaultKind.UCODE_RELOAD_FAILED)
      s t ∧ t = { s with regs := t.regs, mem := t.mem, fc := t.fc, bays := t.bays, px := t.px, stores := t.stores, out := t.out }) ∧
  (∀ (k : Fin 3) (i : Fin 96) (errs : List (Fin 6)) (s : State), s.reloadable k.val i.val = false →
    exec (.storeReload k i errs) s = .next s) ∧
  (∀ (k : Fin 3) (i : Fin 96) (a : BitVec 13) (s : State), s.domainHeld 5 = false → (i.val < ucInstances k.val ∧
    a.toNat < ucWords k.val) → ucGood k.val (s.ucRead k.val i.val a.toNat) = false →
    Completes (.scrubRead k i a false) s fun t => t.ucRead k.val i.val a.toNat = ucStored k.val (s.copyWord k.val
      a.toNat) ∧
    t.reg Reg.UC_SCRUB_FIXES = sat32 (s.regN Reg.UC_SCRUB_FIXES + 1) ∧
    SameRegs (Reg.UC_SCRUB_FIXES :: faultRegs FaultKind.UCODE_SCRUB) s t ∧ t = { s with regs := t.regs, stores := t.stores, fc := t.fc }) ∧
  (∀ (k : Fin 3) (i : Fin 96) (a : BitVec 13) (served : Bool) (s : State), s.domainHeld 5 = false → (i.val <
    ucInstances k.val ∧ a.toNat < ucWords k.val) → (served = true ∨ ucGood k.val (s.ucRead k.val i.val a.toNat) =
    true) →
    exec (.scrubRead k i a served) s = .next s) ∧
  (∀ (n : Fin 16) (v : Word) (s : State), (s.live (0x180 + n.val) = true) →
    Completes (.ucDebugRead true (Fin.ofNat 96 n.val) v) s fun t =>
    t.regN (Reg.CE_UC_DATA n.val) = ucData 2 (s.ucRead 2 n.val (bits v 11 0)) ∧ t.rbit (Reg.CE_UC_STAT n.val) 0 =
      true ∧
    t.rbit (Reg.CE_UC_STAT n.val) 1 = (!ucGood 2 (s.ucRead 2 n.val (bits v 11 0))) ∧
    SameRegs [Reg.CE_UC_ADDR n.val, Reg.CE_UC_DATA n.val, Reg.CE_UC_STAT n.val] s t ∧ t = { s with regs := t.regs }) ∧
  (∀ (n : Fin 96) (v : Word) (s : State), (s.live (0x100 + n.val) = true) → bit v 16 = false →
    Completes (.ucDebugRead false n v) s fun t => t.regN (Reg.PX_UC_DATA n.val 0) = ucData 0 (s.ucRead 0 n.val (bits
      v 12 0)) ∧
    t.rbit (Reg.PX_UC_STAT n.val) 0 = true ∧ t.rbit (Reg.PX_UC_STAT n.val) 1 = (!ucGood 0 (s.ucRead 0 n.val (bits v
      12 0))) ∧
    SameRegs ([Reg.PX_UC_ADDR n.val, Reg.PX_UC_STAT n.val] ++ (List.range 8).map (Reg.PX_UC_DATA n.val)) s t ∧ t = { s with regs := t.regs }) ∧
  (∀ (n : Fin 96) (v : Word) (s : State), (s.live (0x100 + n.val) = true) → bit v 16 = true →
    Completes (.ucDebugRead false n v) s fun t => t.regN (Reg.PX_UC_DATA n.val 0) = ucData 1 (s.ucRead 1 (n.val / 8)
      (bits v 11 0)) % 2 ^ 32 ∧
    t.regN (Reg.PX_UC_DATA n.val 7) = ucData 1 (s.ucRead 1 (n.val / 8) (bits v 11 0)) / 2 ^ 224 % 2 ^ 32 ∧
    t.rbit (Reg.PX_UC_STAT n.val) 0 = true ∧ t.rbit (Reg.PX_UC_STAT n.val) 1 = (!ucGood 1 (s.ucRead 1 (n.val / 8)
      (bits v 11 0))) ∧
    SameRegs ([Reg.PX_UC_ADDR n.val, Reg.PX_UC_STAT n.val] ++ (List.range 8).map (Reg.PX_UC_DATA n.val)) s t ∧ t = { s with regs := t.regs })

/-- The words and two nanowords of a Pixel Engine: what each does to the engine that runs it, all else as it was
(R353, R355, R356, R357, R358, R359, R360, R361, R374). -/
def Obligations.PixelWords : Prop :=
  (∀ (n : Fin 96) (w : Nat) (s : State), (PxWordAt s n.val 1 w) →
    Completes (.pxImmLo n) s fun t => t.pxEng n.val = s.pxOn (((s.pxEng n.val).pc + 1) % 8192) { s.pxEng n.val with il := nbits w 15 0 }
      ∧
    OnlyPx n.val s t ∧ SameRegs (pxRegs n.val) s t ∧ t = { s with regs := t.regs, px := t.px }) ∧
  (∀ (n : Fin 96) (w : Nat) (s : State), (PxWordAt s n.val 2 w) →
    Completes (.pxImmHi n) s fun t => t.pxEng n.val = s.pxOn (((s.pxEng n.val).pc + 1) % 8192) { s.pxEng n.val with il := (s.pxEng n.val).il % 65536 + 65536 * nbits w 15 0 }
      ∧
    OnlyPx n.val s t ∧ SameRegs (pxRegs n.val) s t ∧ t = { s with regs := t.regs, px := t.px }) ∧
  (∀ (n : Fin 96) (w : Nat) (s : State), (PxWordAt s n.val 3 w) →
    Completes (.pxLoop n) s fun t => t.pxEng n.val = s.pxOn (((s.pxEng n.val).pc + 1) % 8192) { s.pxEng n.val with lc := nbits w 15 0 }
      ∧
    OnlyPx n.val s t ∧ SameRegs (pxRegs n.val) s t ∧ t = { s with regs := t.regs, px := t.px }) ∧
  (∀ (n : Fin 96) (w : Nat) (s : State), (PxWordAt s n.val 4 w) → (PxMay s (s.pxEng n.val) (nbits w 12 0)) →
    Completes (.pxJump n) s fun t => t.pxEng n.val =
    s.pxOn (if (s.pxEng n.val).cond (nbits w 15 13) then nbits w 12 0 else ((s.pxEng n.val).pc + 1) % 8192) (s.pxEng
      n.val) ∧
    OnlyPx n.val s t ∧ SameRegs (pxRegs n.val) s t ∧ t = { s with regs := t.regs, px := t.px }) ∧
  (∀ (n : Fin 96) (w : Nat) (s : State), (PxWordAt s n.val 5 w) → (PxMay s (s.pxEng n.val) (nbits w 12 0)) →
    ((s.pxEng n.val).stack.length < 4) → ((s.pxEng n.val).cond (nbits w 15 13) = true) →
    Completes (.pxCall n) s fun t => t.pxEng n.val = s.pxOn (nbits w 12 0) { s.pxEng n.val with stack := ((s.pxEng n.val).pc + 1) % 8192 :: (s.pxEng n.val).stack }
      ∧
    OnlyPx n.val s t ∧ SameRegs (pxRegs n.val) s t ∧ t = { s with regs := t.regs, px := t.px }) ∧
  (∀ (n : Fin 96) (w : Nat) (s : State), (PxWordAt s n.val 6 w) → (PxMay s (s.pxEng n.val) (nbits w 12 0)) →
    let lc := ((s.pxEng n.val).lc + 65535) % 65536
    Completes (.pxLoopback n) s fun t => t.pxEng n.val =
    s.pxOn (if lc = 0 then ((s.pxEng n.val).pc + 1) % 8192 else nbits w 12 0) { s.pxEng n.val with lc := lc } ∧
    OnlyPx n.val s t ∧ SameRegs (pxRegs n.val) s t ∧ t = { s with regs := t.regs, px := t.px }) ∧
  (∀ (n : Fin 96) (w r : Nat) (rest : List Nat) (s : State), (PxWordAt s n.val 7 w) → ((s.pxEng n.val).stack = r ::
    rest) →
    Completes (.pxReturn n) s fun t => t.pxEng n.val = s.pxOn r { s.pxEng n.val with stack := rest } ∧
    OnlyPx n.val s t ∧ SameRegs (pxRegs n.val) s t ∧ t = { s with regs := t.regs, px := t.px }) ∧
  (∀ (n : Fin 96) (w : Nat) (it : PxItem) (s : State), (PxWordAt s n.val 8 w) → ((s.pxEng n.val).item = some it) →
    (nbit w 0 = false ∨ (match it.work with | .ctu _ .decode _ => false | _ => true) = true) → ((s.bay (n.val /
    8)).items = []) →
    Completes (.pxEnd n) s fun t => (t.pxEng n.val).item = none ∧ (t.pxEng n.val).stack = [] ∧ (t.pxEng n.val).wait
      = none ∧
    (t.bay (n.val / 8)).jobs = (s.bay (n.val / 8)).jobs.map (fun j => { j with on := j.on.filter fun e => e.1 != n.val % 8 })
      ∧
    OnlyPx n.val s t ∧ SameRegs (pxRegs n.val) s t ∧ t = { s with regs := t.regs, px := t.px, bays := t.bays }) ∧
  (∀ (n : Fin 96) (w : Nat) (s : State), (PxWordAt s n.val 9 w) →
    let m := nbits w 3 0 &&& (15 - (s.pxEng n.val).seen % 16)
    Completes (.pxWait n) s fun t => t.pxEng n.val = s.pxOn (((s.pxEng n.val).pc + 1) % 8192)
    { s.pxEng n.val with wait := if m = 0 then none else some m, seen := (s.pxEng n.val).seen &&& (15 - nbits w 3 0) }
      ∧
    OnlyPx n.val s t ∧ SameRegs (pxRegs n.val) s t ∧ t = { s with regs := t.regs, px := t.px }) ∧
  (∀ (n : Fin 96) (w : Nat) (s : State), (PxWordAt s n.val 15 w) →
    Completes (.pxBreak n) s fun t => t.pxEng n.val = { s.pxEng n.val with broken := true, steps := ((s.pxEng n.val).steps + 1) % 65536 }
      ∧
    OnlyPx n.val s t ∧ SameRegs (pxRegs n.val) s t ∧ t = { s with regs := t.regs, px := t.px }) ∧
  (∀ (n : Fin 96) (e : Fin 4) (s : State), ((s.pxEng n.val).wait = some (2 ^ e.val)) →
    exec (.pxWaitWake n e) s = .next (s.modPx n.val fun x => { x with wait := none })) ∧
  (∀ (n : Fin 96) (e : Fin 4) (s : State), ((s.pxEng n.val).wait = none) →
    exec (.pxWaitWake n e) s = .next (s.modPx n.val fun x => { x with seen := x.seen ||| 2 ^ e.val })) ∧
  (∀ (n : Fin 96) (w nw a b d : Nat) (s : State), (PxWordAt s n.val 0 w) → (nbits w 15 12 = 0 ∧ (s.pxEng n.val).cust
    = none ∧ nbits w 11 0 < s.fenceNano) → (ucGood 1 (s.ucRead 1 (n.val / 8) (nbits w 11 0)) = true ∧ ucData 1
    (s.ucRead 1 (n.val / 8) (nbits w 11 0)) = nw) → (a < 16 ∧ b < 16 ∧ d < 16) → (nw = 2 ^ 97 + a * 2 ^ 101 + b * 2
    ^ 105 + d * 2 ^ 109) →
    Completes (.pxNano n) s fun t => (t.pxEng n.val).scalar d = ((s.pxEng n.val).scalar a + (s.pxEng n.val).scalar
      b) % 2 ^ 32 ∧
    (∀ k ∈ List.range 16, k ≠ d → (t.pxEng n.val).scalar k = (s.pxEng n.val).scalar k) ∧ (∀ k ∈ List.range 32,
      (t.pxEng n.val).vec k = (s.pxEng n.val).vec k) ∧
    (t.pxEng n.val).pc = ((s.pxEng n.val).pc + 1) % 8192 ∧
    OnlyPx n.val s t ∧ SameRegs (pxRegs n.val) s t ∧ t = { s with regs := t.regs, px := t.px }) ∧
  (∀ (n : Fin 96) (w nw a b d : Nat) (s : State), (PxWordAt s n.val 0 w) → (nbits w 15 12 = 0 ∧ (s.pxEng n.val).cust
    = none ∧ nbits w 11 0 < s.fenceNano) → (ucGood 1 (s.ucRead 1 (n.val / 8) (nbits w 11 0)) = true ∧ ucData 1
    (s.ucRead 1 (n.val / 8) (nbits w 11 0)) = nw) → (a < 32 ∧ b < 32 ∧ d < 32) → (nw = a + b * 2 ^ 5 + d * 2 ^ 10 +
    2 * 2 ^ 16) → (((s.pxEng n.val).vec a).length = 32 ∧ ((s.pxEng n.val).vec b).length = 32) →
    Completes (.pxNano n) s fun t => (∀ i ∈ List.range 32, ((t.pxEng n.val).vec d).getD i 0 =
    (((s.pxEng n.val).vec a).getD i 0 + ((s.pxEng n.val).vec b).getD i 0) % 2 ^ 16) ∧
    (∀ k ∈ List.range 32, k ≠ d → (t.pxEng n.val).vec k = (s.pxEng n.val).vec k) ∧ (t.pxEng n.val).pc = ((s.pxEng
      n.val).pc + 1) % 8192 ∧
    OnlyPx n.val s t ∧ SameRegs (pxRegs n.val) s t ∧ t = { s with regs := t.regs, px := t.px })

/-- The arithmetic words of a Cue Engine: GD takes the result, CMP sets the flags, and nothing else changes (R353,
R362, R363, R366, R370, R377). -/
def Obligations.CueEngineArithmetic : Prop :=
   (CeComputes .ceAdd 0x00 (fun a b _ => a + b) ∧ CeComputes .ceSub 0x01 (fun a b _ => a - b) ∧
    CeComputes .ceAnd 0x02 (fun a b _ => a &&& b) ∧ CeComputes .ceOr 0x03 (fun a b _ => a ||| b) ∧
    CeComputes .ceXor 0x04 (fun a b _ => a ^^^ b) ∧ CeComputes .ceMul 0x08 (fun a b _ => a * b) ∧
    CeComputes .ceClz 0x0F (fun a _ _ => a.clz)) ∧
   (let amount (b : Word) (fn : Nat) : Word := if Config.ceShiftByFn then BitVec.ofNat 32 fn else b
    CeComputes .ceShl 0x05 (fun a b fn => if (amount b fn).toNat < 32 then a <<< amount b fn else Config.wideShift 0
      a (amount b fn)) ∧
    CeComputes .ceShr 0x06 (fun a b fn => if (amount b fn).toNat < 32 then a >>> amount b fn else Config.wideShift 1
      a (amount b fn)) ∧
    CeComputes .ceSar 0x07 (fun a b fn => if (amount b fn).toNat < 32 then a.sshiftRight (amount b fn).toNat else
      Config.wideShift 2 a (amount b fn))) ∧
   (CeComputes .ceMulh 0x09 (fun a b _ => if Config.ceSigned 9 then (a.signExtend 64 * b.signExtend 64).extractLsb'
      32 32
    else (a.zeroExtend 64 * b.zeroExtend 64).extractLsb' 32 32) ∧
    CeComputes .ceMin 0x0A (fun a b _ => if (if Config.ceSigned 10 then a.slt b else a.ult b) then a else b) ∧
    CeComputes .ceMax 0x0B (fun a b _ => if (if Config.ceSigned 11 then a.slt b else a.ult b) then b else a)) ∧
   (let width (b : Word) (fn : Nat) : Nat := min (Config.fieldWidth fn b) (32 - fn)
    CeComputes .ceBfx 0x0D (fun a b fn => (a.extractLsb' fn (width b fn)).zeroExtend 32) ∧
    CeComputes .ceBfi 0x0E (fun a b fn =>
    let m := (BitVec.allOnes (width b fn)).zeroExtend 32 <<< fn
    (a &&& ~~~m) ||| (b <<< fn &&& m))) ∧
   (CeComputesImm .ceAddi 0x10 (fun a i => a + i) ∧ CeComputesImm .ceAndi 0x11 (fun a i => a &&& i) ∧
    CeComputesImm .ceOri 0x12 (fun a i => a ||| i) ∧ CeComputesImm .ceXori 0x13 (fun a i => a ^^^ i) ∧
    CeComputesImm .ceShli 0x14 (fun a i => if i.toNat < 32 then a <<< i.toNat else Config.wideShift 0 a i) ∧
    CeComputesImm .ceShri 0x15 (fun a i => if i.toNat < 32 then a >>> i.toNat else Config.wideShift 1 a i)) ∧
  (∀ (n : Fin 16) (w : Nat) (s : State), (CeWordAt s n.val 0x0C w) →
    let a := BitVec.ofNat 32 ((s.ceEng n.val).get (ceGa w))
    let b := BitVec.ofNat 32 ((s.ceEng n.val).get (ceGb w))
    Completes (.ceCmp n) s fun t => CeAlone n.val s t ∧
    t.ceEng n.val = { s.ceEng n.val with z := a == b, n := (a - b).msb, c := a.ult b == Config.ceBorrow }.onward w) ∧
  (∀ (n : Fin 16) (w : Nat) (s : State), (CeWordAt s n.val 0x16 w) →
    Completes (.ceLi n) s fun t => CeAlone n.val s t ∧ t.ceEng n.val = ((s.ceEng n.val).set (ceGd w) ((BitVec.ofNat
      17 w).signExtend 32).toNat).onward w) ∧
  (∀ (n : Fin 16) (w : Nat) (s : State), (CeWordAt s n.val 0x17 w) →
    Completes (.ceLui n) s fun t => CeAlone n.val s t ∧
    t.ceEng n.val = ((s.ceEng n.val).set (ceGd w) (w % 2 ^ 17 * 2 ^ 15 + (s.ceEng n.val).get (ceGd w) % 2 ^
      15)).onward w) ∧
  (∀ (n : Fin 16) (w : Nat) (s : State), (CeWordAt s n.val 0x2F w) →
    Completes (.ceTime n) s fun t => CeAlone n.val s t ∧
    t.ceEng n.val = (((s.ceEng n.val).set (ceGd w) s.now).set (ceGd w + 1) (s.now / 2 ^ 32)).onward w)

/-- The memory words of a Cue Engine: what a load reads, what a store writes, and that every other byte stays (R353,
R363, R374, R378, R389, R556, R558). -/
def Obligations.CueEngineMemory : Prop :=
  (∀ (n : Fin 16) (w : Nat) (s : State), (CeWordAt s n.val 0x18 w) → (s.cePool n.val w + 4 ≤ 0x800000) → (s.ceBars
    n.val (poolBase + s.cePool n.val w) = false) →
    Completes (.ceLd n) s fun t => CeAlone n.val s t ∧
    t.ceEng n.val = ((s.ceEng n.val).set (ceGd w) (s.memLE (poolBase + s.cePool n.val w) 4)).onward w) ∧
  (∀ (n : Fin 16) (w : Nat) (s : State), (CeWordAt s n.val 0x19 w) → (s.cePool n.val w + 4 ≤ 0x800000) → (s.ceInside
    n.val = false ∨ s.ceMayStore n.val (poolBase + s.cePool n.val w) = true) → (∀ i ∈ List.range 4, s.fencedOff
    byCueEngine (poolBase + s.cePool n.val w + i) = false) →
    Completes (.ceSt n) s fun t => t.ceEng n.val = (s.ceEng n.val).onward w ∧
    t.memLE (poolBase + s.cePool n.val w) 4 = (s.ceEng n.val).get (ceGd w) % 2 ^ 32 ∧
    SameMemoryOutside (poolBase + s.cePool n.val w) 4 s t ∧
    OnlyCe n.val s t ∧ SameRegs (ceRegs n.val) s t ∧ t = { s with regs := t.regs, ce := t.ce, mem := t.mem }) ∧
  (∀ (n : Fin 16) (w : Nat) (s : State), (CeWordAt s n.val 0x1A w) → (ceY w = false ∧ (s.ceEng n.val).get (ceGa w) <
    256 ∧ ceTarget w < 1024) →
    let r := (s.ceCounted n.val w).busRead (.cueEngine n) (ctxPage ((s.ceEng n.val).get (ceGa w)) * 0x1000 + 4 *
      ceTarget w)
    Completes (.ceLdc n) s fun t => t.ceEng n.val = ((s.ceEng n.val).set (ceGd w) r.2.toNat).onward w ∧
    OnlyCe n.val s t ∧ SameRegs (ceRegs n.val) r.1 t ∧ t = { r.1 with regs := t.regs, ce := t.ce }) ∧
  (∀ (n : Fin 16) (w c k : Nat) (s : State), (CeWordAt s n.val 0x1B w) → (ceY w = false ∧ (s.ceEng n.val).get (ceGa
    w) = c ∧ c < 256 ∧ ceTarget w < 1024) → s.ceInside n.val = false → (k = ctxPage c * 0x1000 + 4 * ceTarget w) →
    let r := (s.ceCounted n.val w).busWrite (.cueEngine n) k (BitVec.ofNat 32 ((s.ceEng n.val).get (ceGd w)))
    Completes (.ceStc n) s fun t => (r.ceEng n.val = s.ceEng n.val → t.ceEng n.val = (s.ceEng n.val).onward w) ∧
    OnlyCe n.val r t ∧ SameMemory r t ∧ (r.fld Reg.UC_HOOK_LIMIT 15 0 = s.fld Reg.UC_HOOK_LIMIT 15 0 →
    SameRegs (ceRegs n.val) r t ∧ t = { r with regs := t.regs, ce := t.ce })) ∧
  (∀ (n : Fin 16) (w k : Nat) (s : State), (CeWordAt s n.val 0x1C w) → (s.bufOf ((s.ceEng n.val).get (ceGa w)) = some
    k) → (s.ceBufOff n.val w + 4 ≤ s.bufSize k) → (s.ceBars n.val (s.bufAddr k + s.ceBufOff n.val w) = false) →
    Completes (.ceLdh n) s fun t => CeAlone n.val s t ∧
    t.ceEng n.val = ((s.ceEng n.val).set (ceGd w) (s.memLE (s.bufAddr k + s.ceBufOff n.val w) 4)).onward w) ∧
  (∀ (n : Fin 16) (w k : Nat) (s : State), (CeWordAt s n.val 0x1D w) → (s.bufOf ((s.ceEng n.val).get (ceGa w)) = some
    k) → (s.ceBufOff n.val w + 4 ≤ s.bufSize k) → (s.ceInside n.val = false ∨ s.ceMayStore n.val (s.bufAddr k +
    s.ceBufOff n.val w) = true) → (∀ i ∈ List.range 4, s.fencedOff byCueEngine (s.bufAddr k + s.ceBufOff n.val w +
    i) = false) →
    let a := s.bufAddr k + s.ceBufOff n.val w
    Completes (.ceSth n) s fun t => t.ceEng n.val = (s.ceEng n.val).onward w ∧
    t.memLE a 4 = (s.ceEng n.val).get (ceGd w) % 2 ^ 32 ∧ SameMemoryOutside a 4 s t ∧
    OnlyCe n.val s t ∧ SameRegs (ceRegs n.val) s t ∧ t = { s with regs := t.regs, ce := t.ce, mem := t.mem }) ∧
  (∀ (n : Fin 16) (i : Fin 16 → Instr) (w : Nat) (s : State), ((CeStands s n.val 0x1B w ∧ i = .ceStc) ∨ (CeStands s
    n.val 0x19 w ∧ i = .ceSt ∧ s.ceMayStore n.val (poolBase + s.cePool n.val w) = false) ∨ (CeStands s n.val 0x1D w
    ∧ i = .ceSth ∧ ((s.bufOf ((s.ceEng n.val).get (ceGa w))).all fun k => !s.ceMayStore n.val (s.bufAddr k +
    s.ceBufOff n.val w)) = true) ∨ (CeStands s n.val 0x18 w ∧ i = .ceLd ∧ s.ceBars n.val (poolBase + s.cePool n.val
    w) = true) ∨ (CeStands s n.val 0x1C w ∧ i = .ceLdh ∧ ((s.bufOf ((s.ceEng n.val).get (ceGa w))).any fun k =>
    s.ceBars n.val (s.bufAddr k + s.ceBufOff n.val w)) = true)) → (s.ceInside n.val = true ∧ (s.ceEng n.val).hook =
    none) →
    Completes (i n) s fun t => t.regN (Reg.CE_MCHECK n.val) = 5 + 65536 * ((s.ceEng n.val).pc % 65536) ∧ t.rbit
      (Reg.CE_STATUS n.val) 0 = false ∧
    t.rbit (Reg.CE_STATUS n.val) 1 = true ∧ (t.ceEng n.val).level = 0 ∧ OnlyCe n.val s t ∧ SameMemory s t)

/-- The unit words of a Cue Engine: cues, prop-room requests, posts to the units, and check values (R363, R374,
R562, R565, R585, R588, R601). -/
def Obligations.CueEngineUnits : Prop :=
  (∀ (n : Fin 16) (w src : Nat) (cue : List Byte) (s : State), (CeWordAt s n.val 0x28 w) → (ceY w = false ∧
    s.ceInside n.val = false) → s.pmBytes ((s.ceEng n.val).get (ceGa w)) 32 = cue → (src = 512 + 16 * n.val + leAt
    cue 2 1 % 16) → (s.live 0x008 = true ∧ leAt cue 1 1 = s.cueGen src ∧ s.ringWaiting src ≠ 16) →
    Completes (.ceCue n) s fun t => t.ceEng n.val = (s.ceEng n.val).onward w ∧
    t.pendingAt (s.routeTarget src) src = true ∧ t.ringPosted src = (s.ringPosted src + 1) % 256 ∧
    (t.pmBytes (s.cueSlot src (s.ringPosted src)) 32).eraseIdx 3 = cue.eraseIdx 3 ∧
    SameMemoryOutside (poolBase + s.cueSlot src (s.ringPosted src)) 32 s t ∧ OnlyCe n.val s t ∧
    t = { s with regs := t.regs, ce := t.ce, mem := t.mem, cuex := t.cuex }) ∧
  (∀ (n : Fin 16) (w : Nat) (asks : List PoolAsk) (s : State), (CeWordAt s n.val 0x29 w) → s.poolShut = false →
    let r := ((s.ceCounted n.val w).decideAsks (asks.filter fun a => Nat.blt (askOrder a) (pgetOrder n.val
      w))).poolAsk n.val ((s.ceEng n.val).get (ceGa w))
    let u := r.1.decideAsks (asks.filter fun a => Nat.ble (pgetOrder n.val w) (askOrder a))
    Completes (.cePget n asks) s fun t =>
    t.ceEng n.val = ({ s.ceEng n.val with z := r.2.2 == 0 }.set (ceGd w) r.2.2).onward w ∧ t.pool = u.pool ∧
    OnlyCe n.val s t ∧ SameRegs (ceRegs n.val) u t ∧ t = { u with regs := t.regs, ce := t.ce }) ∧
  (∀ (n : Fin 16) (w : Nat) (s : State), (CeWordAt s n.val 0x2A w) → s.poolShut = false →
    let r := (s.ceCounted n.val w).poolDrop ((s.ceEng n.val).get (ceGa w))
    Completes (.cePput n) s fun t => t.ceEng n.val = (s.ceEng n.val).onward w ∧ t.pool = r.pool ∧
    OnlyCe n.val s t ∧ SameRegs (ceRegs n.val) r t ∧ t = { r with regs := t.regs, ce := t.ce }) ∧
  (∀ (n : Fin 16) (w : Nat) (s : State), (CeWordAt s n.val 0x2B w) → s.ceInside n.val = false →
    Completes (.ceTally n) s fun t => t.ceEng n.val = (s.ceEng n.val).onward w ∧
    t.out = .unitReq (512 + n.val) 0 ((s.ceEng n.val).get (ceGa w)) ((s.ceEng n.val).get (ceGd w)) :: s.out ∧
    OnlyCe n.val s t ∧ SameRegs (ceRegs n.val) s t ∧ t = { s with regs := t.regs, ce := t.ce, out := t.out }) ∧
  (∀ (n : Fin 16) (w : Nat) (s : State), (CeWordAt s n.val 0x2C w) → s.ceInside n.val = false →
    Completes (.ceLane n) s fun t => t.ceEng n.val = (s.ceEng n.val).onward w ∧
    t.out = .unitReq (512 + n.val) 1 ((s.ceEng n.val).get (ceGa w)) ((s.ceEng n.val).get (ceGd w)) :: s.out ∧
    OnlyCe n.val s t ∧ SameRegs (ceRegs n.val) s t ∧ t = { s with regs := t.regs, ce := t.ce, out := t.out }) ∧
  (∀ (n : Fin 16) (w : Nat) (s : State), (CeWordAt s n.val 0x2D w) → s.ceInside n.val = false →
    Completes (.ceBayjob n) s fun t => t.ceEng n.val = (s.ceEng n.val).onward w ∧
    t.out = .unitReq (512 + n.val) 2 ((s.ceEng n.val).get (ceGa w)) ((s.ceEng n.val).get (ceGd w)) :: s.out ∧
    OnlyCe n.val s t ∧ SameRegs (ceRegs n.val) s t ∧ t = { s with regs := t.regs, ce := t.ce, out := t.out }) ∧
  (∀ (n : Fin 16) (w c off : Nat) (s : State), (CeWordAt s n.val 0x2E w) → s.live 0x019 = true → (off = (s.ceEng
    n.val).get (ceGa w) % 0x800000 / 64 * 64 ∧ c = s.memLE (poolBase + off + 2) 1 % 16) → ((s.cvuQueue c).length <
    5) →
    Completes (.ceCvu n) s fun t => t.ceEng n.val = (s.ceEng n.val).onward w ∧
    t.cvuQueue c = s.cvuQueue c ++ [CvuJob.mk 2 off] ∧
    (∀ d, d ≠ c → t.cvuQueue d = s.cvuQueue d) ∧ SameMemory s t ∧ OnlyCe n.val s t ∧
    t = { s with regs := t.regs, ce := t.ce, cvu := t.cvu })

/-- Control flow of a Cue Engine: branches, calls, returns, the end of a cue, dispatch and the yield (R356, R363,
R364, R365, R366, R368, R372, R374). -/
def Obligations.CueEngineFlow : Prop :=
  (∀ (n : Fin 16) (w : Nat) (s : State), (CeWordAt s n.val 0x20 w) → (CeMay s n.val (ceTarget w)) →
    Completes (.ceJmp n) s fun t => CeAlone n.val s t ∧ t.ceEng n.val = (s.ceEng n.val).on w (ceTarget w)) ∧
  (∀ (n : Fin 16) (w : Nat) (s : State), (CeWordAt s n.val 0x21 w) → (CeMay s n.val (ceTarget w)) → (isHdr
    (s.ceWordAt n.val (ceTarget w)) = true ∧ (s.ceEng n.val).stack.length < 8) →
    Completes (.ceCall n) s fun t => CeAlone n.val s t ∧
    t.ceEng n.val = { s.ceEng n.val with stack := ((s.ceEng n.val).pc + 1) % 4096 :: (s.ceEng n.val).stack }.on w
      (ceTarget w)) ∧
  (∀ (n : Fin 16) (w : Nat) (s : State), (CeWordAt s n.val 0x21 w) → (s.ceInside n.val = false ∧ isHook (ceTarget w)
    = true ∧ ceOp (s.ceWordAt n.val (ceTarget w)) = 0x20) → isHdr (s.ceWordAt n.val (ceTarget (s.ceWordAt n.val
    (ceTarget w)))) = true → ((s.ceEng n.val).stack.length < 8 ∧ (s.ceEng n.val).hook = none) →
    let stack := ((s.ceEng n.val).pc + 1) % 4096 :: (s.ceEng n.val).stack
    Completes (.ceCall n) s fun t => CeAlone n.val s t ∧
    t.ceEng n.val = { (s.ceEng n.val).on w (ceTarget w) with stack := stack, hook := some (stack, 0) }) ∧
  (∀ (n : Fin 16) (w r : Nat) (rest : List Nat) (s : State), (CeWordAt s n.val 0x22 w) → ((s.ceEng n.val).stack = r
    :: rest) →
    Completes (.ceRet n) s fun t => CeAlone n.val s t ∧
    t.ceEng n.val = { s.ceEng n.val with stack := rest, hook := (s.ceEng n.val).hook.filter fun h => h.1.length ≠ rest.length + 1 }.on
      w r) ∧
  (∀ (n : Fin 16) (w : Nat) (s : State), (CeWordAt s n.val 0x23 w) → (CeMay s n.val (ceTarget w)) →
    Completes (.ceBr n) s fun t => CeAlone n.val s t ∧ t.ceEng n.val =
    if (s.ceEng n.val).cond (ceCond w) then (s.ceEng n.val).on w (ceTarget w) else (s.ceEng n.val).onward w) ∧
  (∀ (n : Fin 16) (w : Nat) (s : State), (CeWordAt s n.val 0x24 w) → (CeMay s n.val (ceTarget w)) →
    Completes (.ceBz n) s fun t => CeAlone n.val s t ∧ t.ceEng n.val =
    if (s.ceEng n.val).get (ceGa w) = 0 then (s.ceEng n.val).on w (ceTarget w) else (s.ceEng n.val).onward w) ∧
  (∀ (n : Fin 16) (w : Nat) (s : State), (CeWordAt s n.val 0x25 w) → (CeMay s n.val (ceTarget w)) →
    Completes (.ceBnz n) s fun t => CeAlone n.val s t ∧ t.ceEng n.val =
    if (s.ceEng n.val).get (ceGa w) = 0 then (s.ceEng n.val).onward w else (s.ceEng n.val).on w (ceTarget w)) ∧
  (∀ (n : Fin 16) (w src : Nat) (s : State), (CeWordAt s n.val 0x26 w) → (ceY w = false ∧ (s.ceEng n.val).level = 1 ∧
    s.stackTop n.val = some src) →
    Completes (.ceReti n) s fun t => t.ceEng n.val = { s.ceEng n.val with level := 0, stack := [], hook := none, count := 0 }
      ∧
    t.stackDepth n.val = s.stackDepth n.val - 1 ∧ OnlyCe n.val s t ∧
    SameRegs (Reg.CUEX_TGT_STATUS n.val :: Reg.CUEX_TGT_STACK n.val (s.stackDepth n.val - 1) :: ceRegs n.val) s t ∧
      t = { s with regs := t.regs, ce := t.ce }) ∧
  (∀ (n : Fin 16) (w src : Nat) (f : YieldFrame) (s : State), (CeWordAt s n.val 0x26 w) → ((s.ceEng n.val).level = 2
    ∧ (s.ceEng n.val).frame = some f ∧ s.stackTop n.val = some src) → (hdrResumable (s.ceWordAt n.val (s.ceEng
    n.val).outer) = true ∨ w % 2 = 0) →
    Completes (.ceReti n) s fun t => t.ceEng n.val =
    { s.ceEng n.val with level := 1, frame := none, z := f.z, n := f.n, c := f.c, stack := f.stack, hook := f.hook, pc := f.pc, count := (s.ceEng n.val).count + 1 }
      ∧
    t.stackDepth n.val = s.stackDepth n.val - 1 ∧ OnlyCe n.val s t ∧
    SameRegs (Reg.CUEX_TGT_STATUS n.val :: Reg.CUEX_TGT_STACK n.val (s.stackDepth n.val - 1) :: ceRegs n.val) s t ∧
      t = { s with regs := t.regs, ce := t.ce }) ∧
  (∀ (n : Fin 16) (w src : Nat) (f : YieldFrame) (s : State), (CeWordAt s n.val 0x26 w) → ((s.ceEng n.val).level = 2
    ∧ (s.ceEng n.val).frame = some f ∧ s.stackTop n.val = some src) → (hdrResumable (s.ceWordAt n.val (s.ceEng
    n.val).outer) = false ∧ w % 2 = 1) →
    Completes (.ceReti n) s fun t => t.ceEng n.val =
    { s.ceEng n.val with level := 1, frame := none, stack := [], hook := none, pc := (s.ceEng n.val).outer, count := (s.ceEng n.val).count + 1 }
      ∧
    t.stackDepth n.val = s.stackDepth n.val - 1 ∧ t.reg (Reg.CE_RESTARTS n.val) = sat32 (s.regN (Reg.CE_RESTARTS
      n.val) + 1) ∧ OnlyCe n.val s t ∧
    SameRegs (Reg.CE_RESTARTS n.val :: Reg.CUEX_TGT_STATUS n.val :: Reg.CUEX_TGT_STACK n.val (s.stackDepth n.val -
      1) :: ceRegs n.val) s t ∧ t = { s with regs := t.regs, ce := t.ce }) ∧
  (∀ (n : Fin 16) (w : Nat) (s : State), (CeWordAt s n.val 0x27 w) →
    Completes (.ceHdr n) s fun t => CeAlone n.val s t ∧ t.ceEng n.val = (s.ceEng n.val).onward w) ∧
  (∀ (n : Fin 16) (w : Nat) (s : State), (CeStands s n.val 0x3E w) →
    Completes (.ceBreak n) s fun t => CeAlone n.val s t ∧ t.ceEng n.val = { s.ceEng n.val with broken := true }) ∧
  (∀ (n : Fin 16) (src a : Nat) (s : State), (s.live (0x180 + n.val) = true ∧ s.ceServes n.val = true ∧ (s.ceEng
    n.val).level = 0) → (s.nextSource n.val = some src ∧ s.stackDepth n.val < 8) → (ucGood 2 (s.ucRead 2 n.val (src
    / 32)) = true ∧ s.ceVector n.val (src / 32) = some a) →
    Completes (.ceCueDispatch n) s fun t => t.ceEng n.val =
    { s.ceEng n.val with pc := a, stack := [], level := 1, count := 0, hook := none, outer := a } ∧
    t.pendingAt n.val src = false ∧ t.stackTop n.val = some src ∧ t.stackDepth n.val = s.stackDepth n.val + 1 ∧
    t.reg (Reg.CE_CUES n.val) = sat32 (s.regN (Reg.CE_CUES n.val) + 1) ∧ OnlyCe n.val s t ∧ t = { s with regs := t.regs, ce := t.ce, cuex := t.cuex }) ∧
  (∀ (n : Fin 16) (w src a : Nat) (s : State), (CeStands s n.val 0x27 w) → (ceY w = true ∧ (s.ceEng n.val).level = 1)
    → (s.nextSource n.val = some src ∧ s.stackDepth n.val < 8) → (ucGood 2 (s.ucRead 2 n.val (src / 32)) = true ∧
    s.ceVector n.val (src / 32) = some a) →
    let x := s.ceEng n.val
    Completes (.ceHdr n) s fun t => t.ceEng n.val =
    { x with pc := a, stack := [], level := 2, count := 0, hook := none, frame := some (YieldFrame.mk ((x.pc + 1) % 4096) x.z x.n x.c x.stack (x.hook.map fun h => (h.1, h.2 + 1))) }
      ∧
    t.pendingAt n.val src = false ∧ t.stackTop n.val = some src ∧ t.stackDepth n.val = s.stackDepth n.val + 1 ∧
    OnlyCe n.val s t ∧ t = { s with regs := t.regs, ce := t.ce, cuex := t.cuex })

/-- A Cue Engine outside a hook call that meets an illegal word, an empty call stack or the fence takes a machine
check (R374, R376, R377, R389, R392). -/
def Obligations.CueEngineChecks : Prop :=
  (∀ (n : Fin 16) (i : Fin 16 → Instr) (s : State), (s.live (0x180 + n.val) = true ∧ s.ceRuns n.val = true ∧ (s.ceEng
    n.val).hook = none) → (ucGood 2 (s.ucRead 2 n.val (s.ceEng n.val).pc) = true ∧ s.ceIllegal (ucData 2 (s.ucRead 2
    n.val (s.ceEng n.val).pc)) = true) → (i = .ceAdd ∨ i = .ceHdr ∨ i = .ceLd) →
    Completes (i n) s fun t => t.regN (Reg.CE_MCHECK n.val) = 3 + 65536 * ((s.ceEng n.val).pc % 65536) ∧ t.rbit
      (Reg.CE_STATUS n.val) 0 = false ∧
    t.rbit (Reg.CE_STATUS n.val) 1 = true ∧ (t.ceEng n.val).level = 0 ∧ OnlyCe n.val s t ∧ SameMemory s t) ∧
  (∀ (n : Fin 16) (w : Nat) (s : State), (CeStands s n.val 0x22 w) → ((s.ceEng n.val).stack = [] ∧ (s.ceEng
    n.val).hook = none) →
    Completes (.ceRet n) s fun t => t.regN (Reg.CE_MCHECK n.val) = 4 + 65536 * ((s.ceEng n.val).pc % 65536) ∧ t.rbit
      (Reg.CE_STATUS n.val) 0 = false ∧
    t.rbit (Reg.CE_STATUS n.val) 1 = true ∧ (t.ceEng n.val).level = 0 ∧ OnlyCe n.val s t ∧ SameMemory s t) ∧
  (∀ (n : Fin 16) (w : Nat) (s : State), (CeStands s n.val 0x2B w) → (s.ceInside n.val = true ∧ (s.ceEng n.val).hook
    = none) →
    Completes (.ceTally n) s fun t => t.regN (Reg.CE_MCHECK n.val) = 5 + 65536 * ((s.ceEng n.val).pc % 65536) ∧
      t.rbit (Reg.CE_STATUS n.val) 0 = false ∧
    t.rbit (Reg.CE_STATUS n.val) 1 = true ∧ (t.ceEng n.val).level = 0 ∧ OnlyCe n.val s t ∧ SameMemory s t) ∧
  (∀ (n : Fin 16) (w r k : Nat) (rest : List Nat) (s : State), (CeStands s n.val 0x2B w) → (s.ceInside n.val = true ∧
    (s.ceEng n.val).hook = some (r :: rest, k)) →
    Completes (.ceTally n) s fun t => t.ceEng n.val = { s.ceEng n.val with pc := r, stack := rest, hook := none }.set
      4 0 ∧
    t.regN (Reg.CE_MCHECK n.val) = 6 + 65536 * ((s.ceEng n.val).pc % 65536) ∧ t.rbit (Reg.CE_STATUS n.val) 0 =
      s.rbit (Reg.CE_STATUS n.val) 0 ∧
    OnlyCe n.val s t ∧ SameMemory s t)

/-- A DisplayPort output: enable, hot plug, training, link loss, STOP and HALT, and its AUX transactions (R404,
R405, R406, R408, R410, R446). -/
def Obligations.DisplayOutputLink : Prop :=
  (∀ (n : Fin 8) (s : State), (s.live (outPage n.val) = true ∧ s.outState n.val = 0) → s.outTimingBad n.val = false →
    s.linkShort n.val (s.fld (Reg.DP_OUT_CTRL n.val) 1 0) (s.fld (Reg.DP_OUT_CTRL n.val) 3 2) = false →
    Completes (.dpOutEnable n) s fun t => t.outState n.val = (if s.rbit (Reg.DP_OUT_STATUS n.val) 4 then 2 else 1) ∧
    t.rbit (blkCtrl (outPage n.val)) 0 = true ∧ t.reg (Reg.DP_OUT_FRAME_COUNT n.val) = 0 ∧ t.dpOut n.val = { DpOut.init with aux := (s.dpOut n.val).aux }
      ∧
    OnlyOut n.val s t ∧ SameRegs (Reg.DP_OUT_STATUS n.val :: blkCtrl (outPage n.val) :: Reg.DP_OUT_FRAME_COUNT n.val
      :: sumRegs) s t ∧ t = { s with regs := t.regs, ledger := t.ledger, dpOuts := t.dpOuts, out := t.out }) ∧
  (∀ (n : Fin 8) (s : State), (s.live (outPage n.val) = true ∧ s.outState n.val = 0) → s.outTimingBad n.val = true →
    exec (.dpOutEnable n) s = .next ((s.setRegN (Reg.DP_OUT_CFG_STATUS n.val) 1).setRbit (blkCtrl (outPage n.val)) 0
      false)) ∧
  (∀ (n : Fin 8) (s : State), (s.live (outPage n.val) = true ∧ s.outState n.val = 0) → s.outTimingBad n.val = false →
    s.linkShort n.val (s.fld (Reg.DP_OUT_CTRL n.val) 1 0) (s.fld (Reg.DP_OUT_CTRL n.val) 3 2) = true →
    exec (.dpOutEnable n) s = .next ((s.setRegN (Reg.DP_OUT_CFG_STATUS n.val) 2).setRbit (blkCtrl (outPage n.val)) 0
      false)) ∧
  (∀ (n : Fin 8) (s : State), s.live (outPage n.val) = true →
    Completes (.dpOutHpdHigh n) s fun t => t.rbit (Reg.DP_OUT_STATUS n.val) 4 = true ∧
    t.outState n.val = (if s.outState n.val = 1 ∨ (s.outState n.val = 4 ∧ s.rbit (Reg.DP_OUT_CTRL n.val) 10 = true)
      then 2 else s.outState n.val) ∧
    (t.dpOut n.val).aux = (s.dpOut n.val).aux ∧ OnlyOut n.val s t ∧ SameRegs [Reg.DP_OUT_STATUS n.val] s t ∧ t = { s with regs := t.regs, dpOuts := t.dpOuts, out := t.out }) ∧
  (∀ (n : Fin 8) (ok : List (Nat × Nat)) (l r : Nat) (s : State), (s.live (outPage n.val) = true ∧ s.outState n.val =
    2) → ((s.trainOrder n.val).find? (fun p => ok.elem p) = some (l, r)) →
    Completes (.dpOutTrainingComplete n ok) s fun t => t.outState n.val = 2 ∧ t.fld (Reg.DP_OUT_STATUS n.val) 9 8 =
      l ∧ t.fld (Reg.DP_OUT_STATUS n.val) 11 10 = r ∧
    t.dpOut n.val = { s.dpOut n.val with go := true } ∧ OnlyOut n.val s t ∧ SameRegs [Reg.DP_OUT_STATUS n.val,
      Reg.DP_OUT_TX_LATENCY n.val] s t ∧ t = { s with regs := t.regs, dpOuts := t.dpOuts, out := t.out }) ∧
  (∀ (n : Fin 8) (ok : List (Nat × Nat)) (s : State), (s.live (outPage n.val) = true ∧ s.outState n.val = 2) → (∀ p ∈
    s.trainOrder n.val, p ∉ ok) →
    Completes (.dpOutTrainingComplete n ok) s fun t => t.outState n.val = 0 ∧ t.rbit (blkCtrl (outPage n.val)) 0 =
      false ∧ t.regN (Reg.DP_OUT_CFG_STATUS n.val) = 3 ∧
    OnlyOut n.val s t ∧ SameRegs (Reg.DP_OUT_CFG_STATUS n.val :: blkCtrl (outPage n.val) :: Reg.DP_OUT_STATUS n.val
      :: sumRegs) s t ∧ t = { s with regs := t.regs, dpOuts := t.dpOuts, out := t.out }) ∧
  (∀ (n : Fin 8) (low : Bool) (s : State), s.live (outPage n.val) = true → (s.outState n.val = 2 ∨ s.outState n.val =
    3) →
    Completes (.dpOutLinkLoss n low) s fun t => t.outState n.val = (if low = false ∧ s.rbit (Reg.DP_OUT_CTRL n.val)
      10 = true then 2 else 4) ∧
    (t.dpOut n.val).go = false ∧ t.reg (Reg.DP_OUT_RETRAINS n.val) = sat32 (s.regN (Reg.DP_OUT_RETRAINS n.val) + 1)
      ∧
    (low = true → t.rbit (Reg.DP_OUT_STATUS n.val) 4 = false) ∧ OnlyOut n.val s t ∧
    SameRegs (Reg.DP_OUT_STATUS n.val :: Reg.DP_OUT_RETRAINS n.val :: faultRegs FaultKind.DP_LINK_LOST) s t ∧ t = { s with regs := t.regs, fc := t.fc, dpOuts := t.dpOuts, out := t.out }) ∧
  (∀ (n : Fin 8) (s : State), (s.live (outPage n.val) = true ∧ s.outState n.val ≠ 0) →
    exec (.dpOutStop n) s = .next (s.modDpOut n.val fun x => { x with stopping := true })) ∧
  (∀ (n : Fin 8) (s : State), (s.live (outPage n.val) = true ∧ s.outState n.val ≠ 0) →
    Completes (.dpOutHalt n) s fun t => t.outState n.val = 0 ∧ t.rbit (blkCtrl (outPage n.val)) 0 = false ∧
    t.dpOut n.val = { DpOut.init with aux := (s.dpOut n.val).aux } ∧
    OnlyOut n.val s t ∧ SameRegs (blkCtrl (outPage n.val) :: Reg.DP_OUT_STATUS n.val :: sumRegs) s t ∧ t = { s with regs := t.regs, dpOuts := t.dpOuts, out := t.out }) ∧
  (∀ (n : Fin 8) (v : Word) (s : State), (s.live (outPage n.val) = true ∧ (s.dpOut n.val).aux = none) →
    Completes (.auxTransaction n v) s fun t => t.dpOut n.val = { s.dpOut n.val with aux := some (v, 0, 0) } ∧ t.regN
      (Reg.DP_OUT_AUX_STAT n.val) = 1 ∧
    t.out = .aux n.val (bits v 3 0) (bits v 27 8) (if bit v 0 then [] else s.auxData n.val (bits v 7 4 + 1)) ::
      s.out ∧
    OnlyOut n.val s t ∧ SameRegs [Reg.DP_OUT_AUX_CMD n.val, Reg.DP_OUT_AUX_STAT n.val] s t ∧ t = { s with regs := t.regs, dpOuts := t.dpOuts, out := t.out }) ∧
  (∀ (n : Fin 8) (bytes : List Byte) (v : Word) (d k : Nat) (s : State), (s.live (outPage n.val) = true ∧ (s.dpOut
    n.val).aux = some (v, d, k)) → (bit v 0 = true ∧ bytes.length ≤ bits v 7 4 + 1) →
    Completes (.auxReply n (.ack bytes)) s fun t => t.dpOut n.val = { s.dpOut n.val with aux := none } ∧
    t.regN (Reg.DP_OUT_AUX_STAT n.val) = 16 * bytes.length ∧ t.auxData n.val bytes.length = bytes ∧
    OnlyOut n.val s t ∧ SameRegs (Reg.DP_OUT_AUX_STAT n.val :: (List.range 4).map (Reg.DP_OUT_AUX_DATA n.val)) s t ∧
      t = { s with regs := t.regs, dpOuts := t.dpOuts, out := t.out }) ∧
  (∀ (n : Fin 8) (v : Word) (d k : Nat) (s : State), (s.live (outPage n.val) = true ∧ (s.dpOut n.val).aux = some (v,
    d, k)) → (d < 7) →
    Completes (.auxReply n .defer) s fun t => t.dpOut n.val = { s.dpOut n.val with aux := some (v, d + 1, k) } ∧
    t.out = .aux n.val (bits v 3 0) (bits v 27 8) (if bit v 0 then [] else s.auxData n.val (bits v 7 4 + 1)) ::
      s.out ∧
    OnlyOut n.val s t ∧ SameRegs [] s t ∧ t = { s with regs := t.regs, dpOuts := t.dpOuts, out := t.out }) ∧
  (∀ (n : Fin 8) (v : Word) (d k : Nat) (s : State), (s.live (outPage n.val) = true ∧ (s.dpOut n.val).aux = some (v,
    d, k)) → (7 ≤ d) →
    exec (.auxReply n .defer) s = .next ((s.modDpOut n.val fun x => { x with aux := none }).setRegN
      (Reg.DP_OUT_AUX_STAT n.val) 4)) ∧
  (∀ (n : Fin 8) (i2c : Bool) (v : Word) (d k : Nat) (s : State), (s.live (outPage n.val) = true ∧ (s.dpOut
    n.val).aux = some (v, d, k)) →
    exec (.auxReply n (if i2c then .i2cNack else .nack)) s =
    .next ((s.modDpOut n.val fun x => { x with aux := none }).setRegN (Reg.DP_OUT_AUX_STAT n.val) (if i2c then 8
      else 2))) ∧
  (∀ (n : Fin 8) (v : Word) (d k : Nat) (s : State), (s.live (outPage n.val) = true ∧ (s.dpOut n.val).aux = some (v,
    d, k)) → (k < 3) →
    Completes (.auxTimeout n) s fun t => t.dpOut n.val = { s.dpOut n.val with aux := some (v, d, k + 1) } ∧
    t.out = .aux n.val (bits v 3 0) (bits v 27 8) (if bit v 0 then [] else s.auxData n.val (bits v 7 4 + 1)) ::
      s.out ∧
    OnlyOut n.val s t ∧ SameRegs [] s t ∧ t = { s with regs := t.regs, dpOuts := t.dpOuts, out := t.out }) ∧
  (∀ (n : Fin 8) (v : Word) (d k : Nat) (s : State), (s.live (outPage n.val) = true ∧ (s.dpOut n.val).aux = some (v,
    d, k)) → (3 ≤ k) →
    exec (.auxTimeout n) s = .next ((s.modDpOut n.val fun x => { x with aux := none }).setRegN (Reg.DP_OUT_AUX_STAT
      n.val) 6))

/-- The frames of a DisplayPort output: a frame start's time, the checks of link and cells, and underruns (R408,
R411, R414, R419, R430, R432, R433, R434, R449). -/
def Obligations.DisplayOutputFrames : Prop :=
  (∀ (n : Fin 8) (reading : Nat) (s : State), (s.live (outPage n.val) = true ∧ s.outState n.val ≠ 0 ∧ (s.dpOut
    n.val).stopping = false) →
    let crc := (s.dpOut n.val).composed.getD (if s.regN (Reg.DP_OUT_FRAME_COUNT n.val) = 0 then s.regN
      (Reg.COMP_FRAME_CRC n.val) else sampleCrc ((s.composedFrame n.val).flatMap fun p => [p.1, p.2.1, p.2.2]))
    Completes (.dpOutFrameStart n reading) s fun t =>
    t.reg64 (Reg.DP_OUT_FRAME_TIME_LO n.val) = (reading + s.regN (Reg.DP_OUT_TX_LATENCY n.val)) % 2 ^ 64 ∧
    t.regN (Reg.DP_OUT_FRAME_COUNT n.val) = (s.regN (Reg.DP_OUT_FRAME_COUNT n.val) + 1) % 2 ^ 32 ∧ t.regN
      (Reg.COMP_FRAME_CRC n.val) = crc % 2 ^ 32 ∧
    t.outState n.val = (if (s.dpOut n.val).go = true ∧ s.outState n.val = 2 then 3 else s.outState n.val) ∧
    (t.dpOut n.val).checked = [] ∧ (t.dpOut n.val).reads = [] ∧ (t.dpOut n.val).shown = s.shownNow n.val ∧ OnlyOut
      n.val s t ∧
    SameRegs (Reg.COMP_STATUS n.val :: Reg.COMP_FRAME_CRC n.val :: Reg.DP_OUT_STATUS n.val :: Reg.DP_OUT_FRAME_COUNT
      n.val :: Reg.DP_OUT_FRAME_TIME_LO n.val :: (Reg.DP_OUT_FRAME_TIME_LO n.val + 4) :: Reg.DP_OUT_PHASE_ERR n.val
      :: faultRegs FaultKind.FRAME_UNLOCKED) s t ∧ t = { s with regs := t.regs, fc := t.fc, dpOuts := t.dpOuts, out := t.out, freeCtr := t.freeCtr }) ∧
  (∀ (n : Fin 8) (reading : Nat) (s : State), (s.live (outPage n.val) = true ∧ s.outState n.val ≠ 0 ∧ (s.dpOut
    n.val).stopping = true) →
    Completes (.dpOutFrameStart n reading) s fun t => t.outState n.val = 0 ∧ t.rbit (blkCtrl (outPage n.val)) 0 =
      false ∧
    OnlyOut n.val s t ∧ SameRegs (blkCtrl (outPage n.val) :: Reg.DP_OUT_STATUS n.val :: sumRegs) s t ∧ t = { s with regs := t.regs, fc := t.fc, dpOuts := t.dpOuts, out := t.out, freeCtr := t.freeCtr }) ∧
  (∀ (n : Fin 8) (s : State), (s.live (outPage n.val) = true ∧ s.outState n.val ≠ 0 ∧ s.fld (Reg.DP_OUT_LOCK_CTRL
    n.val) 1 0 = 2) →
    Completes (.followSheetTimeout n) s fun t => t.rbit (Reg.DP_OUT_STATUS n.val) 5 = false ∧
    (∀ i ∈ List.range 32, i ≠ 5 → t.rbit (Reg.DP_OUT_STATUS n.val) i = s.rbit (Reg.DP_OUT_STATUS n.val) i) ∧
    SameRegs (Reg.DP_OUT_STATUS n.val :: faultRegs FaultKind.FRAME_UNLOCKED) s t ∧ t = { s with regs := t.regs, fc := t.fc }) ∧
  (∀ (n : Fin 8) (f : LinkCrc) (s : State), (s.live (outPage n.val) = true ∧ s.outState n.val = 3 ∧ s.rbit
    (Reg.DP_OUT_CTRL n.val) 11 = true) → (f.supported = true ∧ (s.dpOut n.val).testOn = false) →
    Completes (.linkCrcCompare n f) s fun t => t.rbit (Reg.DP_OUT_STATUS n.val) 7 = false ∧ t.outState n.val = 3 ∧
    t.out = .aux n.val 8 0x270 [1] :: s.out ∧ t.dpOut n.val = { s.dpOut n.val with testOn := true, testCount := 0, testCrcs := [] }
      ∧
    OnlyOut n.val s t ∧ SameRegs [Reg.DP_OUT_STATUS n.val] s t ∧ t = { s with regs := t.regs, dpOuts := t.dpOuts, out := t.out }) ∧
  (∀ (n : Fin 8) (f : LinkCrc) (s : State), (s.live (outPage n.val) = true ∧ s.outState n.val = 3 ∧ s.rbit
    (Reg.DP_OUT_CTRL n.val) 11 = true) → (f.supported = true ∧ (s.dpOut n.val).testOn = true) →
    Completes (.linkCrcCompare n f) s fun t => t.rbit (Reg.DP_OUT_STATUS n.val) 7 = false ∧ t.outState n.val = 3 ∧
    t.reg (Reg.DP_OUT_LINK_CRC_FAIL n.val) = (if ((s.dpOut n.val).ownCrc f.count.val).getD f.sink = f.sink then
      s.reg (Reg.DP_OUT_LINK_CRC_FAIL n.val) else sat32 (s.regN (Reg.DP_OUT_LINK_CRC_FAIL n.val) + 1)) ∧
    SameRegs (Reg.DP_OUT_STATUS n.val :: Reg.DP_OUT_LINK_CRC_FAIL n.val :: faultRegs FaultKind.LINK_CRC_MISMATCH) s
      t ∧ t = { s with regs := t.regs, fc := t.fc }) ∧
  (∀ (n : Fin 8) (i : Fin 16) (cell : Nat) (p : PicRef) (s : State), (s.live (compPage n.val) = true ∧ s.outState
    n.val ≠ 0 ∧ s.rbit (Reg.COMP_CTRL n.val) 0 = true) → (s.rbit (Reg.WIN_CTRL n.val i.val) 0 = true ∧ (s.win n.val
    i.val).kind = 0 ∧ (i.val, cell) ∉ (s.dpOut n.val).verified) → ((s.cellScreen (s.win n.val i.val) cell).isSome =
    true ∧ s.cellInside (s.win n.val i.val) cell = true) → ((s.win n.val i.val).src.2.2.1 ≤ (s.win n.val
    i.val).dst.2.2.1 ∧ (s.win n.val i.val).src.2.2.2 ≤ (s.win n.val i.val).dst.2.2.2) → (s.cellPicture n.val (s.win
    n.val i.val) cell = some p ∧ p.num % 65536 = ((s.ctx (s.win n.val i.val).id).cell cell).picNum) → (((s.ctx
    (s.win n.val i.val).id).cell cell).hasTime = true ∧ ((s.ctx (s.win n.val i.val).id).cell cell).placeholder =
    false ∧ ((s.ctx (s.win n.val i.val).id).cell cell).unproven = false) →
    let c := (s.win n.val i.val).id
    Completes (.cellVerify n i cell) s fun t => (t.dpOut n.val).verified = (i.val, cell) :: (s.dpOut n.val).verified
      ∧ OnlyOut n.val s t ∧
    if s.cellCrc p cell = ((s.ctx c).cell cell).check then
    t.reg (Reg.COMP_VERIFY_CELLS n.val) = sat32 (s.regN (Reg.COMP_VERIFY_CELLS n.val) + 1) ∧ SameRegs
      [Reg.COMP_VERIFY_CELLS n.val] s t ∧ t = { s with regs := t.regs, dpOuts := t.dpOuts }
    else ((t.ctx c).cell cell).expired = true ∧ t.reg (Reg.COMP_VERIFY_FAIL n.val) = sat32 (s.regN
      (Reg.COMP_VERIFY_FAIL n.val) + 1) ∧
    OnlyCtx c s t ∧ t = { s with regs := t.regs, mem := t.mem, fc := t.fc, ctxs := t.ctxs, dpOuts := t.dpOuts, drams := t.drams, refc := t.refc, sessWait := t.sessWait, out := t.out }) ∧
  (∀ (n : Fin 8) (i : Fin 16) (cell : Nat) (s : State), (s.live (compPage n.val) = true ∧ s.outState n.val ≠ 0 ∧
    s.rbit (Reg.COMP_CTRL n.val) 0 = true) → (s.rbit (Reg.WIN_CTRL n.val i.val) 0 = true ∧ (s.win n.val i.val).kind
    = 0 ∧ (i.val, cell) ∉ (s.dpOut n.val).verified) → ((s.cellScreen (s.win n.val i.val) cell).isSome = true) →
    (s.cellInside (s.win n.val i.val) cell = false ∨ s.cellPicture n.val (s.win n.val i.val) cell = none) →
    exec (.cellVerify n i cell) s = .next ((s.setDpOut n.val { s.dpOut n.val with verified := (i.val, cell) :: (s.dpOut n.val).verified }).bump
      (Reg.COMP_VERIFY_SKIPPED n.val) 1)) ∧
  (∀ (n : Fin 8) (at_ : List (Nat × Nat)) (s : State), (s.live (compPage n.val) = true ∧ s.outState n.val ≠ 0 ∧
    (s.dpOut n.val).late = false) → (∀ q ∈ at_, q.1 < s.fld (Reg.DP_OUT_H_TIMING n.val) 15 0 ∧ q.2 < s.fld
    (Reg.DP_OUT_V_TIMING n.val) 15 0) →
    Completes (.scanoutUnderrun n at_) s fun t => t.dpOut n.val = { s.dpOut n.val with late := true, latePix := (s.dpOut n.val).latePix ++ at_ }
      ∧ OnlyOut n.val s t ∧
    t.reg (Reg.COMP_UNDERRUNS n.val) = sat32 (s.regN (Reg.COMP_UNDERRUNS n.val) + 1) ∧ SameRegs (Reg.COMP_UNDERRUNS
      n.val :: faultRegs FaultKind.SCANOUT_UNDERRUN) s t ∧ t = { s with regs := t.regs, fc := t.fc, dpOuts := t.dpOuts })

/-- A DisplayPort input: enable, lock and its loss, lines and frames, AUX, stop (R435, R436, R437, R438, R442, R443,
R450). -/
def Obligations.DisplayInputs : Prop :=
  (∀ (n : Fin 4) (s : State), (s.live (inPage n.val) = true ∧ s.inState n.val = 0) →
    Completes (.dpInEnable n) s fun t => t.inState n.val = 1 ∧ t.rbit (blkCtrl (inPage n.val)) 0 = true ∧ t.dpIn
      n.val = { DpIn.init with lines := (s.dpIn n.val).lines, count := (s.dpIn n.val).count } ∧
    t.out = .ball (ballHpd n.val) true :: s.out ∧ OnlyIn n.val s t ∧ SameRegs (Reg.DP_IN_STATUS n.val :: blkCtrl
      (inPage n.val) :: sumRegs) s t ∧ t = { s with regs := t.regs, ledger := t.ledger, dpIns := t.dpIns, out := t.out }) ∧
  (∀ (n : Fin 4) (f : SinkLock) (s : State), (s.live (inPage n.val) = true ∧ s.inState n.val ≠ 0) → SinkLock.fits f =
    true →
    Completes (.dpInLock n f) s fun t => t.inState n.val = 3 ∧ t.regN (Reg.DP_IN_ACTIVE n.val) = f.width.toNat +
      65536 * f.height.toNat ∧
    t.regN (Reg.DP_IN_TOTAL n.val) = f.hTotal.toNat + 65536 * f.vTotal.toNat ∧
    t.fld (Reg.DP_IN_STATUS n.val) 9 8 = f.lanes.val ∧ t.fld (Reg.DP_IN_STATUS n.val) 11 10 = f.rate.val ∧ t.fld
      (Reg.DP_IN_STATUS n.val) 6 4 = f.format.val ∧
    (t.dpIn n.val).starts = [] ∧ (t.dpIn n.val).colour = (f.matrix, f.fullRange) ∧ (t.dpIn n.val).lines = (s.dpIn
      n.val).lines ∧ OnlyIn n.val s t ∧ t = { s with regs := t.regs, mem := t.mem, scrap := t.scrap, fc := t.fc, ledger := t.ledger, dpIns := t.dpIns, pool := t.pool, freeCtr := t.freeCtr }) ∧
  (∀ (n : Fin 4) (f : SinkLock) (s : State), (s.live (inPage n.val) = true ∧ s.inState n.val ≠ 0) → SinkLock.fits f =
    false →
    Completes (.dpInLock n f) s fun t => t.inState n.val = 4 ∧ t.reg (Reg.DP_IN_LOCK_LOSSES n.val) = sat32 (s.regN
      (Reg.DP_IN_LOCK_LOSSES n.val) + 1) ∧
    t.dpIn n.val = { s.dpIn n.val with starts := [] } ∧ OnlyIn n.val s t ∧
    SameRegs (Reg.DP_IN_STATUS n.val :: Reg.DP_IN_LOCK_LOSSES n.val :: faultRegs FaultKind.CAPTURE_LOCK_LOST) s t ∧
      t = { s with regs := t.regs, fc := t.fc, dpIns := t.dpIns }) ∧
  (∀ (n : Fin 4) (s : State), (s.live (inPage n.val) = true ∧ s.inState n.val = 3) →
    Completes (.dpInLockLoss n) s fun t => t.inState n.val = 4 ∧ t.reg (Reg.DP_IN_LOCK_LOSSES n.val) = sat32 (s.regN
      (Reg.DP_IN_LOCK_LOSSES n.val) + 1) ∧
    t.dpIn n.val = { s.dpIn n.val with starts := [] } ∧ OnlyIn n.val s t ∧
    SameRegs (Reg.DP_IN_STATUS n.val :: Reg.DP_IN_LOCK_LOSSES n.val :: faultRegs FaultKind.CAPTURE_LOCK_LOST) s t ∧
      t = { s with regs := t.regs, fc := t.fc, dpIns := t.dpIns }) ∧
  (∀ (n : Fin 4) (f : LineFacts) (s : State), (s.live (inPage n.val) = true ∧ s.inState n.val = 3 ∧ s.frameWritten
    n.val = true) → (f.whole = true ∧ s.regN (Reg.DP_IN_RX_LATENCY n.val) ≤ f.reading) →
    Completes (.dpInLineCapture n f) s fun t =>
    Sparse.get (fun _ => []) (t.dpIn n.val).lines f.line = f.pixels.map (captured f.rgb (s.fld (Reg.DP_IN_CTRL
      n.val) 5 4) f.depth.val) ∧
    (∀ k, k ≠ f.line → Sparse.get (fun _ => []) (t.dpIn n.val).lines k = Sparse.get (fun _ => []) (s.dpIn
      n.val).lines k) ∧
    (f.line = 0 → t.reg64 (Reg.DP_IN_FRAME_TIME_LO n.val) = (f.reading - s.regN (Reg.DP_IN_RX_LATENCY n.val)) % 2 ^
      64) ∧
    Sparse.get (fun _ => none) (Sparse.get (fun _ => CapFrame.init) (t.dpIn n.val).frames (s.dpIn n.val).at_).times
      f.line = some (f.reading - s.regN (Reg.DP_IN_RX_LATENCY n.val)) ∧
    (f.line ≠ 0 → SameRegs [] s t) ∧ OnlyIn n.val s t ∧ t = { s with regs := t.regs, mem := t.mem, fc := t.fc, ledger := t.ledger, drams := t.drams, refc := t.refc, dpIns := t.dpIns }) ∧
  (∀ (n : Fin 4) (f : LineFacts) (s : State), (s.live (inPage n.val) = true ∧ s.inState n.val = 4 ∧ s.frameWritten
    n.val = true) →
    Completes (.dpInLineCapture n f) s fun t => (t.dpIn n.val).lines = (s.dpIn n.val).lines ∧
    f.line ∈ (Sparse.get (fun _ => CapFrame.init) (t.dpIn n.val).frames (s.dpIn n.val).at_).lost ∧ SameRegs [] s t ∧
      OnlyIn n.val s t ∧ t = { s with regs := t.regs, mem := t.mem, fc := t.fc, ledger := t.ledger, drams := t.drams, refc := t.refc, dpIns := t.dpIns }) ∧
  (∀ (n : Fin 4) (s : State), s.live (inPage n.val) = true → (s.inState n.val = 3 ∨ s.inState n.val = 4) →
    Completes (.dpInFrameComplete n) s fun t => (t.dpIn n.val).at_ = (if s.frameWritten n.val then ((s.dpIn
      n.val).at_ + 1) % 3 else (s.dpIn n.val).at_) ∧
    (t.dpIn n.val).decim = ((s.dpIn n.val).decim + 1) % (s.fld (Reg.DP_IN_CTRL n.val) 9 8 + 1) ∧
    (s.frameWritten n.val = true → (Sparse.get (fun _ => CapFrame.init) (t.dpIn n.val).frames (s.dpIn
      n.val).at_).complete = true) ∧
    t.reg (Reg.DP_IN_FRAMES n.val) = (if s.frameWritten n.val then sat32 (s.regN (Reg.DP_IN_FRAMES n.val) + 1) else
      s.reg (Reg.DP_IN_FRAMES n.val)) ∧
    t.reg (Reg.DP_IN_FRAMES_DECIMATED n.val) = (if s.frameWritten n.val then s.reg (Reg.DP_IN_FRAMES_DECIMATED
      n.val) else sat32 (s.regN (Reg.DP_IN_FRAMES_DECIMATED n.val) + 1)) ∧
    OnlyIn n.val s t ∧ SameRegs [Reg.DP_IN_FRAMES n.val, Reg.DP_IN_FRAMES_DECIMATED n.val] s t ∧ t = { s with regs := t.regs, mem := t.mem, fc := t.fc, drams := t.drams, refc := t.refc, dpIns := t.dpIns }) ∧
  (∀ (n : Fin 4) (q : AuxAsk) (s : State), (s.live (inPage n.val) = true ∧ s.inState n.val ≠ 0) → (q.i2c = true ∧
    q.addr = 0x50 ∧ q.read = true) →
    Completes (.dpInAuxRequest n q) s fun t =>
    t.out = .auxReply n.val 0 ((List.range q.len.val).map fun i => BitVec.ofNat 8 (s.regN (Reg.DP_IN_EDID n.val
      (((s.dpIn n.val).ptr + i) % 256 / 4)) / 2 ^ (8 * (((s.dpIn n.val).ptr + i) % 4)))) :: s.out ∧
    t.dpIn n.val = { s.dpIn n.val with ptr := ((s.dpIn n.val).ptr + q.len.val) % 256 } ∧ OnlyIn n.val s t ∧ SameRegs
      [] s t ∧ t = { s with dpIns := t.dpIns, out := t.out }) ∧
  (∀ (n : Fin 4) (q : AuxAsk) (s : State), (s.live (inPage n.val) = true ∧ s.inState n.val ≠ 0) → (q.i2c = false ∧
    q.read = false) →
    Completes (.dpInAuxRequest n q) s fun t => t.out = .auxReply n.val 0 [] :: s.out ∧
    (t.dpIn n.val).dpcd = Sparse.setRange (fun _ => (0 : Byte)) (s.dpIn n.val).dpcd q.addr.toNat q.bytes ∧
    t.inState n.val = (if s.inState n.val = 1 ∧ (t.dpcd n.val 0x102).toNat % 16 ≠ 0 then 2 else s.inState n.val) ∧
    OnlyIn n.val s t ∧ SameRegs [Reg.DP_IN_STATUS n.val] s t ∧ t = { s with regs := t.regs, dpIns := t.dpIns, out := t.out }) ∧
  (∀ (n : Fin 4) (s : State), (s.live (inPage n.val) = true ∧ s.inState n.val ≠ 0) →
    Completes (.dpInStop n) s fun t => t.inState n.val = 0 ∧ t.rbit (blkCtrl (inPage n.val)) 0 = false ∧
    t.out = .ball (ballHpd n.val) false :: s.out ∧ t.dpIn n.val = { DpIn.init with lines := (s.dpIn n.val).lines, count := (s.dpIn n.val).count }
      ∧ OnlyIn n.val s t ∧ SameMemory s t ∧ t = { s with regs := t.regs, dpIns := t.dpIns, pool := t.pool, out := t.out })

/-- A network port: enable, link up and down, STOP and HALT (R453, R454, R455, R475). -/
def Obligations.NetworkPorts : Prop :=
  (∀ (p : Fin 4) (s : State), (s.live (netPage p.val) = true ∧ s.portState p.val = 0) → ((s.rbit (Reg.NET_CTRL p.val)
    0 && s.rbit (Reg.NET_CTRL p.val) 1) = false) → (1518 ≤ s.fld (Reg.NET_MTU p.val) 13 0 ∧ s.fld (Reg.NET_MTU
    p.val) 13 0 ≤ 9216) →
    Completes (.netEnable p) s fun t => t.portState p.val = 1 ∧ t.rbit (blkCtrl (netPage p.val)) 0 = true ∧ t.fld
      (Reg.NET_STATUS p.val) 15 8 = 0 ∧
    t.regN (Reg.NET_TX_LATENCY p.val) = (if s.rbit (Reg.NET_CTRL p.val) 0 then 96000 else if s.rbit (Reg.NET_CTRL
      p.val) 1 then 71700 else 38400) ∧
    t.regN (Reg.NET_RX_LATENCY p.val) = (if s.rbit (Reg.NET_CTRL p.val) 0 then 131200 else if s.rbit (Reg.NET_CTRL
      p.val) 1 then 214300 else 52500) ∧
    SameRegs [Reg.NET_STATUS p.val, blkCtrl (netPage p.val), Reg.NET_TX_LATENCY p.val, Reg.NET_RX_LATENCY p.val] s t
      ∧ t = { s with regs := t.regs }) ∧
  (∀ (p : Fin 4) (s : State), (s.live (netPage p.val) = true ∧ s.portState p.val = 0) → ((s.rbit (Reg.NET_CTRL p.val)
    0 = true ∧ s.rbit (Reg.NET_CTRL p.val) 1 = true) ∨ s.fld (Reg.NET_MTU p.val) 13 0 < 1518 ∨ 9216 < s.fld
    (Reg.NET_MTU p.val) 13 0) →
    exec (.netEnable p) s = .next ((s.setFld (Reg.NET_STATUS p.val) 15 8 1).setRbit (blkCtrl (netPage p.val)) 0
      false)) ∧
  (∀ (p : Fin 4) (s : State), s.live (netPage p.val) = true → (s.portState p.val = 1 ∨ s.portState p.val = 3) →
    Completes (.netLinkUp p) s fun t => t.portState p.val = 2 ∧ t.fld (Reg.NET_STATUS p.val) 5 4 = 3 ∧
    t.rbit (Reg.NET_STATUS p.val) 6 = s.rbit (Reg.NET_CTRL p.val) 1 ∧ SameRegs [Reg.NET_STATUS p.val] s t ∧ t = { s with regs := t.regs }) ∧
  (∀ (p : Fin 4) (block fec : Bool) (s : State), (s.live (netPage p.val) = true ∧ s.portState p.val = 2) →
    Completes (.netLinkDown p block fec) s fun t => t.portState p.val = 3 ∧ t.rbit (Reg.NET_STATUS p.val) 5 = block
      ∧ t.rbit (Reg.NET_STATUS p.val) 6 = fec ∧
    t.reg (Reg.NET_LINK_LOSSES p.val) = sat32 (s.regN (Reg.NET_LINK_LOSSES p.val) + 1) ∧
    SameRegs (Reg.NET_STATUS p.val :: Reg.NET_LINK_LOSSES p.val :: faultRegs FaultKind.NET_LINK_LOST) s t ∧ t = { s with regs := t.regs, fc := t.fc }) ∧
  (∀ (p : Fin 4) (s : State), s.live (netPage p.val) = true → (∀ q ∈ List.range 256, ∀ f ∈ (s.queue q).frames, f.slot
    = none) →
    Completes (.netStop p) s fun t => t.portState p.val = 0 ∧ t.rbit (blkCtrl (netPage p.val)) 0 = false ∧
    (∀ q ∈ List.range 256, (t.queue q).frames = if cfgPort (s.qCfg q) = p.val then [] else (s.queue q).frames) ∧
    SameRegs (Reg.NET_STATUS p.val :: blkCtrl (netPage p.val) :: Reg.NET_TX_LINK_DOWN p.val :: queueRegs) s t ∧ t =
      { s with regs := t.regs, queues := t.queues }) ∧
  (∀ (p : Fin 4) (s : State), s.live (netPage p.val) = true → (∀ q ∈ List.range 256, ∀ f ∈ (s.queue q).frames, f.slot
    = none) →
    Completes (.netHalt p) s fun t => t.portState p.val = 0 ∧ t.rbit (blkCtrl (netPage p.val)) 0 = false ∧
    (∀ q ∈ List.range 256, (t.queue q).frames = if cfgPort (s.qCfg q) = p.val then [] else (s.queue q).frames) ∧
    (∀ q ∈ List.range 256, (t.queue q).wireEnd = if cfgPort (s.qCfg q) = p.val then min (s.queue q).wireEnd s.nowPs
      else (s.queue q).wireEnd) ∧
    SameRegs (Reg.NET_STATUS p.val :: blkCtrl (netPage p.val) :: Reg.NET_TX_LINK_DOWN p.val :: queueRegs) s t ∧ t =
      { s with regs := t.regs, queues := t.queues })

/-- Frames of a network port: the rows of R457 for a received frame, and the frame that a port sends next (R457,
R458, R460, R466, R490, R495, R496). -/
def Obligations.NetworkFrames : Prop :=
  (∀ (p : Fin 4) (fr : RxFrame) (s : State), (s.live (netPage p.val) = true ∧ s.portState p.val = 2) → (fr.bad = true
    ∨ (s.rbit (Reg.NET_CTRL p.val) 1 = true ∧ fr.uncorrectable ≠ 0) ∨ fr.bytes.length + 4 < 64 ∨ s.fld (Reg.NET_MTU
    p.val) 13 0 < fr.bytes.length + 4) →
    exec (.netFrameRx [{ port := p, frame := fr }]) s = .next ((s.countFec p.val fr).bump (Reg.NET_RX_ERRORS p.val)
      1)) ∧
  (∀ (p : Fin 4) (fr : RxFrame) (s : State), (s.live (netPage p.val) = true ∧ s.portState p.val = 2 ∧ fr.bad = false
    ∧ (s.rbit (Reg.NET_CTRL p.val) 1 = false ∨ fr.uncorrectable = 0)) → (64 ≤ fr.bytes.length + 4 ∧ fr.bytes.length
    + 4 ≤ s.fld (Reg.NET_MTU p.val) 13 0) → frameType fr.bytes = 0x8808 →
    exec (.netFrameRx [{ port := p, frame := fr }]) s = .next ((s.countFec p.val fr).bump (Reg.NET_RX_PAUSE p.val)
      1)) ∧
  (∀ (p : Fin 4) (fr : RxFrame) (s : State), (s.live (netPage p.val) = true ∧ s.portState p.val = 2 ∧ fr.bad = false
    ∧ (s.rbit (Reg.NET_CTRL p.val) 1 = false ∨ fr.uncorrectable = 0)) → (64 ≤ fr.bytes.length + 4 ∧ fr.bytes.length
    + 4 ≤ s.fld (Reg.NET_MTU p.val) 13 0) → (frameType fr.bytes ≠ 0x8808 ∧ s.macOk p.val fr.bytes = false) →
    exec (.netFrameRx [{ port := p, frame := fr }]) s = .next ((s.countFec p.val fr).bump (Reg.NET_RX_NOMATCH p.val)
      1)) ∧
  (∀ (p : Fin 4) (fr : RxFrame) (s : State), (s.live (netPage p.val) = true ∧ s.portState p.val = 2 ∧ fr.bad = false
    ∧ (s.rbit (Reg.NET_CTRL p.val) 1 = false ∨ fr.uncorrectable = 0)) → (64 ≤ fr.bytes.length + 4 ∧ fr.bytes.length
    + 4 ≤ s.fld (Reg.NET_MTU p.val) 13 0) → (s.macOk p.val fr.bytes = true ∧ frameType fr.bytes = 0x88F7) → ((s.fld
    Reg.PKT_SMRX_HEAD 11 0 + 1) % s.smrxSize = s.fld Reg.PKT_SMRX_TAIL 11 0 % s.smrxSize) →
    Completes (.netFrameRx [{ port := p, frame := fr }]) s fun t => t.reg (Reg.NET_RX_FRAMES p.val) = sat32 (s.regN
      (Reg.NET_RX_FRAMES p.val) + 1) ∧
    t.reg Reg.PKT_SMRX_DROPS = sat32 (s.regN Reg.PKT_SMRX_DROPS + 1) ∧ SameRegs [Reg.NET_RX_FRAMES p.val,
      Reg.PKT_SMRX_DROPS] (s.countFec p.val fr) t ∧ t = { s with regs := t.regs, out := t.out }) ∧
  (∀ (p : Fin 4) (fr : RxFrame) (hd h : Nat) (s : State), (s.live (netPage p.val) = true ∧ s.portState p.val = 2 ∧
    fr.bad = false ∧ (s.rbit (Reg.NET_CTRL p.val) 1 = false ∨ fr.uncorrectable = 0)) → (64 ≤ fr.bytes.length + 4 ∧
    fr.bytes.length + 4 ≤ s.fld (Reg.NET_MTU p.val) 13 0) → (s.macOk p.val fr.bytes = true ∧ frameType fr.bytes =
    0x88F7) → (s.fld Reg.PKT_SMRX_HEAD 11 0 = h ∧ (h + 1) % s.smrxSize ≠ s.fld Reg.PKT_SMRX_TAIL 11 0 % s.smrxSize)
    → ((((s.countFec p.val fr).bump (Reg.NET_RX_FRAMES p.val) 1).poolAsk 25 fr.bytes.length).2 = (0, hd)) →
    Completes (.netFrameRx [{ port := p, frame := fr }]) s fun t => t.reg (Reg.NET_RX_FRAMES p.val) = sat32 (s.regN
      (Reg.NET_RX_FRAMES p.val) + 1) ∧
    t.regN Reg.PKT_SMRX_HEAD = (h + 1) % s.smrxSize ∧ t.pool = (((s.countFec p.val fr).bump (Reg.NET_RX_FRAMES
      p.val) 1).poolAsk 25 fr.bytes.length).1.pool ∧
    (s.live 0x008 = false → t.pmBytes (s.fld Reg.PKT_SMRX_BASE 22 4 * 16 + 16 * h) 16 = leBytes 4 hd ++ leBytes 2
      fr.bytes.length ++ [BitVec.ofNat 8 p.val, 1] ++ leBytes 8 (s.arrival p.val fr)) ∧
    t.reg Reg.PKT_SMRX_DROPS = s.reg Reg.PKT_SMRX_DROPS ∧ t = { s with regs := t.regs, mem := t.mem, scrap := t.scrap, pool := t.pool, cuex := t.cuex, freeCtr := t.freeCtr, out := t.out }) ∧
  (∀ (p : Fin 4) (fr : RxFrame) (h : IpHead) (f : Nat) (s : State), (s.live (netPage p.val) = true ∧ s.portState
    p.val = 2 ∧ fr.bad = false ∧ (s.rbit (Reg.NET_CTRL p.val) 1 = false ∨ fr.uncorrectable = 0)) → (64 ≤
    fr.bytes.length + 4 ∧ fr.bytes.length + 4 ≤ s.fld (Reg.NET_MTU p.val) 13 0) → (s.macOk p.val fr.bytes = true ∧
    frameType fr.bytes = 0x0800) → (readIpv4 fr.bytes (frameBody fr.bytes) = .inr h ∧ h.proto = 17 ∧ h.v6 = false ∧
    udpSumOk fr.bytes h = true) → (beAt fr.bytes (h.body + 2) 2 ≠ 319 ∧ beAt fr.bytes (h.body + 2) 2 ≠ 320) →
    (s.matchFlow p.val h (beAt fr.bytes h.body 2) (beAt fr.bytes (h.body + 2) 2) = some f ∧ s.flowServes f (s.flow
    f).ctx = true) → nbit (s.policer f).mode 0 = false →
    Completes (.netFrameRx [{ port := p, frame := fr }]) s fun t => t.reg (Reg.NET_RX_FRAMES p.val) = sat32 (s.regN
      (Reg.NET_RX_FRAMES p.val) + 1) ∧
    t.policer f = { s.policer f with green := min ((s.policer f).green + 1) 0xFFFFFFFF } ∧ (∀ g ∈ List.range 256, g
      ≠ f → t.policer g = s.policer g) ∧
    t.macOf p.val h.src = some (beAt fr.bytes 6 6) ∧ SameRegs (Reg.NET_RX_FRAMES p.val :: polRegs) (s.countFec p.val
      fr) t ∧ t = { s with regs := t.regs, policers := t.policers, macs := t.macs }) ∧
  (∀ (a b : PortFrame) (s : State), (s.arrival a.port.val a.frame ≠ s.arrival b.port.val b.frame ∨ a.port ≠ b.port) →
    exec (.netFrameRx [a, b]) s = exec (.netFrameRx [b, a]) s ∧
    (4 * s.arrival a.port.val a.frame + a.port.val < 4 * s.arrival b.port.val b.frame + b.port.val → ∀ u, exec
      (.netFrameRx [a]) s = .next u → exec (.netFrameRx [a, b]) s = exec (.netFrameRx [b]) u)) ∧
  (∀ (p : Fin 4) (q : Nat) (f : QFrame) (r : List QFrame) (u s : State), (s.live (netPage p.val) = true ∧ s.portState
    p.val = 2) → (u = s.forEach s.queueIds (fun q s => s.settleQueue q)) → (u.chooseQueue p.val = some q ∧ (u.queue
    q).frames = f :: r ∧ f.slot = none) →
    Completes (.egressFrameSend p) s fun t => t.out = .frame p.val q f.len [] :: s.out ∧
    t.queue q = { u.queue q with frames := r, wireEnd := s.nowPs + (f.len + 20) * 8000000000 / s.lineRate p.val, last := s.nowPs, sent := min ((u.queue q).sent + 1) 0xFFFFFFFF }
      ∧
    (∀ k ∈ List.range 256, k ≠ q → t.queue k = u.queue k) ∧ t.reg (Reg.NET_TX_FRAMES p.val) = sat32 (s.regN
      (Reg.NET_TX_FRAMES p.val) + 1) ∧
    SameRegs (Reg.NET_TX_FRAMES p.val :: queueRegs) s t ∧ t = { s with regs := t.regs, queues := t.queues, served := t.served, out := t.out })

/-- The flow table: READ, WRITE_NEW, UPDATE and INVALIDATE (R462, R463, R464). -/
def Obligations.FlowTable : Prop :=
  (∀ (f : Fin 256) (s : State), s.live 0x034 = true →
    Completes (.flowRead f) s fun t => (∀ i ∈ List.range 16, t.regN (Reg.PKT_FLOW_DATA i) = (s.flow f.val).word i %
      2 ^ 32) ∧
    t.regN Reg.PKT_FLOW_STAT = 256 * (s.flow f.val).gen % 2 ^ 32 ∧ SameRegs (Reg.PKT_FLOW_STAT :: (List.range
      16).map Reg.PKT_FLOW_DATA) s t ∧ t = { s with regs := t.regs }) ∧
  (∀ (f : Fin 256) (x y : Flow) (s : State), (s.live 0x034 = true ∧ s.flow f.val = x) → (y = { words := validWords s.flowWindow, gen := (x.gen + 1) % 256, ident := 0, overAt := none })
    → (s.flowBad y.ingressView = false ∧ s.flowDup f.val y = false) →
    Completes (.flowWriteNew f) s fun t => t.flow f.val = y ∧ (∀ g ∈ List.range 256, g ≠ f.val → t.flow g = s.flow
      g) ∧
    t.regN Reg.PKT_FLOW_STAT = 256 * y.gen ∧ SameRegs [Reg.PKT_FLOW_STAT] s t ∧ t = { s with regs := t.regs, flows := t.flows, out := t.out }) ∧
  (∀ (f : Fin 256) (s : State), s.live 0x034 = true → (s.flowBad (Flow.ingressView { words := validWords s.flowWindow, gen := ((s.flow f.val).gen + 1) % 256, ident := 0, overAt := none })
    = true) →
    exec (.flowWriteNew f) s = .next (s.setRegN Reg.PKT_FLOW_STAT (2 * 2 + 256 * (s.flow f.val).gen))) ∧
  (∀ (f : Fin 256) (s : State), (s.live 0x034 = true ∧ (s.flow f.val).valid = true) → (Flow.fixedPart { s.flow f.val with words := validWords s.flowWindow }
    = (s.flow f.val).fixedPart) →
    Completes (.flowUpdate f) s fun t => t.flow f.val = { s.flow f.val with words := validWords s.flowWindow } ∧
    (∀ g ∈ List.range 256, g ≠ f.val → t.flow g = s.flow g) ∧ t.regN Reg.PKT_FLOW_STAT = 256 * (s.flow f.val).gen %
      2 ^ 32 ∧ SameRegs [Reg.PKT_FLOW_STAT] s t ∧ t = { s with regs := t.regs, flows := t.flows }) ∧
  (∀ (f : Fin 256) (s : State), (s.live 0x034 = true ∧ (s.flow f.val).valid = false) →
    exec (.flowUpdate f) s = .next (s.setRegN Reg.PKT_FLOW_STAT (2 * 3 + 256 * (s.flow f.val).gen))) ∧
  (∀ (f : Fin 256) (s : State), s.live 0x034 = true →
    Completes (.flowInvalidate f) s fun t => (t.flow f.val).valid = false ∧ (t.flow f.val).gen = ((s.flow f.val).gen
      + 1) % 256 ∧
    (∀ g ∈ List.range 256, g ≠ f.val → t.flow g = s.flow g) ∧ t.regN Reg.PKT_FLOW_STAT = 256 * (((s.flow f.val).gen
      + 1) % 256) ∧ SameRegs [Reg.PKT_FLOW_STAT] s t ∧ t = { s with regs := t.regs, flows := t.flows, out := t.out })

/-- The writes of shaper queues, and the latency histograms (R489, R492, R498, R499, R500). -/
def Obligations.ShaperHistogram : Prop :=
  (∀ (q : Fin 256) (v : Word) (s : State), (s.live 0x035 = true ∧ bits v 15 8 ≠ 0) → ((s.queue q.val).wireEnd ≤
    s.nowPs) →
    Completes (.shqWrite q false v) s fun t => t.reg (Reg.SHQ_CFG q.val) = v &&& 0xFFFFFF7F ∧ (t.queue q.val).old =
      none ∧
    (t.queue q.val).frames = (if bit v 0 then (s.queue q.val).frames else []) ∧
    (t.queue q.val).credit = (if s.lineRate (cfgPort (t.regN (Reg.SHQ_CFG q.val))) ≤ t.fld (Reg.SHQ_RATE q.val) 24 0
      ∨ cfgResetTo (t.regN (Reg.SHQ_CFG q.val)) = true then (cfgBurst (t.regN (Reg.SHQ_CFG q.val)) : Int) else 0) ∧
    (∀ k ∈ List.range 256, k ≠ q.val → t.queue k = s.queue k) ∧ SameRegs [Reg.SHQ_CFG q.val, Reg.SHQ_CREDIT q.val,
      Reg.SHQ_DEPTH q.val, Reg.SHAPER_STATUS] s t ∧ t = { s with regs := t.regs, queues := t.queues }) ∧
  (∀ (q : Fin 256) (v : Word) (s : State), s.live 0x035 = true → ((s.queue q.val).wireEnd ≤ s.nowPs) →
    Completes (.shqWrite q true v) s fun t => t.regN (Reg.SHQ_RATE q.val) = bits v 24 0 ∧ (t.queue q.val).old = none
      ∧
    (t.queue q.val).credit = (if s.lineRate (cfgPort (t.regN (Reg.SHQ_CFG q.val))) ≤ t.fld (Reg.SHQ_RATE q.val) 24 0
      ∨ cfgResetTo (t.regN (Reg.SHQ_CFG q.val)) = true then (cfgBurst (t.regN (Reg.SHQ_CFG q.val)) : Int) else 0) ∧
    (∀ k ∈ List.range 256, k ≠ q.val → t.queue k = s.queue k) ∧ SameRegs [Reg.SHQ_RATE q.val, Reg.SHQ_CREDIT q.val,
      Reg.SHQ_DEPTH q.val, Reg.SHAPER_STATUS] s t ∧ t = { s with regs := t.regs, queues := t.queues }) ∧
  (∀ (q : Fin 256) (v : Word) (s : State), (s.live 0x035 = true ∧ bits v 15 8 ≠ 0) → (s.nowPs < (s.queue
    q.val).wireEnd) →
    Completes (.shqWrite q false v) s fun t => t.reg (Reg.SHQ_CFG q.val) = v &&& 0xFFFFFF7F ∧ t.qCfg q.val = s.qCfg
      q.val ∧ t.qRate q.val = s.qRate q.val ∧
    (t.queue q.val).frames = (s.queue q.val).frames ∧ (∀ k ∈ List.range 256, k ≠ q.val → t.queue k = s.queue k) ∧
    SameRegs [Reg.SHQ_CFG q.val, Reg.SHQ_CREDIT q.val, Reg.SHQ_DEPTH q.val, Reg.SHAPER_STATUS] s t ∧ t = { s with regs := t.regs, queues := t.queues }) ∧
  (∀ (q : Fin 256) (v : Word) (s : State), (s.live 0x035 = true ∧ bits v 15 8 = 0) → ((s.queue q.val).old = none) →
    Completes (.shqWrite q false v) s fun t => t.reg (Reg.SHQ_CFG q.val) = s.reg (Reg.SHQ_CFG q.val) ∧ t.qCfg q.val
      = s.qCfg q.val ∧
    (t.queue q.val).frames = (s.queue q.val).frames ∧ (∀ k ∈ List.range 256, k ≠ q.val → t.queue k = s.queue k) ∧
    SameRegs [Reg.SHQ_CREDIT q.val, Reg.SHQ_DEPTH q.val] s t ∧ t = { s with regs := t.regs, queues := t.queues }) ∧
  (∀ (s : State), (s.live 0x038 = true ∧ s.rbit Reg.LAT_CTRL 0 = true) → (∀ q ∈ List.range 256, (s.queue q).old =
    none) →
    Completes .latSample s fun t => (∀ q ∈ List.range 256, (t.queue q).samples = if cfgEn (s.qCfg q) then min
      ((s.queue q).samples + 1) 0xFFFFFFFF else (s.queue q).samples) ∧
    (∀ q ∈ List.range 256, (t.queue q).sent = (s.queue q).sent ∧ (t.queue q).drops = (s.queue q).drops ∧ (t.queue
      q).frames = (s.queue q).frames) ∧
    SameRegs queueRegs s t ∧ t = { s with regs := t.regs, queues := t.queues }) ∧
  (∀ (v : Word) (q : Nat) (s : State), (s.live 0x038 = true ∧ bits v 7 0 = q) →
    Completes (.latSnapshot v) s fun t => t.regN Reg.LAT_STAT = 1 + 256 * q ∧ t.regN Reg.LAT_SAMPLES = (s.queue
      q).samples % 2 ^ 32 ∧
    t.regN Reg.LAT_MAX_DELAY = (s.queue q).maxDelay % 2 ^ 32 ∧ t.regN Reg.LAT_TX_FRAMES = (s.queue q).sent % 2 ^ 32
      ∧ t.regN Reg.LAT_DROPS = (s.queue q).drops % 2 ^ 32 ∧
    (∀ i ∈ List.range 16, t.regN (Reg.LAT_DEPTH_BIN i) = (s.queue q).depthBins.getD i 0 % 2 ^ 32 ∧ t.regN
      (Reg.LAT_DELAY_BIN i) = (s.queue q).delayBins.getD i 0 % 2 ^ 32) ∧
    t.queue q = (if bit v 8 then { s.queue q with drops := 0, sent := 0, depthBins := [], delayBins := [], samples := 0, maxDelay := 0 }
      else s.queue q) ∧
    (∀ k ∈ List.range 256, k ≠ q → t.queue k = s.queue k) ∧ t = { s with regs := t.regs, queues := t.queues }) ∧
  (∀ (v : Word) (s : State), (s.live 0x038 = true ∧ bits v 12 8 ≠ s.fld Reg.LAT_CTRL 12 8) →
    Completes (.latCtrlWrite v) s fun t => t.reg Reg.LAT_CTRL = v &&& 0x1F1F01 ∧
    (∀ q ∈ List.range 256, t.queue q = { s.queue q with depthBins := [], delayBins := [] }) ∧ SameRegs (Reg.LAT_CTRL
      :: queueRegs) s t ∧ t = { s with regs := t.regs, queues := t.queues })

/-- A write to a policer's rates, sizes or mode: both buckets full, or no effect when the result would be illegal
(R497). -/
def Obligations.PolicerWrites : Prop :=
  ∀ (which : Fin 5) (v : Word) (x : Policer) (s : State), s.domainHeld 7 = false → (x = if which = 0 then { s.policer (s.fld Reg.POL_SEL 7 0) with cir := bits v 24 0 }
    else if which = 1 then { s.policer (s.fld Reg.POL_SEL 7 0) with cbs := bits v 23 0 } else if which = 2 then { s.policer (s.fld Reg.POL_SEL 7 0) with pir := bits v 24 0 }
    else if which = 3 then { s.policer (s.fld Reg.POL_SEL 7 0) with pbs := bits v 23 0 } else { s.policer (s.fld Reg.POL_SEL 7 0) with mode := bits v 2 0 })
    →
    if x.pir < x.cir ∨ x.cbs < 64 ∨ x.pbs < 64 then exec (.policerWrite which v) s = .next s
    else Completes (.policerWrite which v) s fun t => t.policer (s.fld Reg.POL_SEL 7 0) = { x with cLevel := x.cbs * 8000000, pLevel := x.pbs * 8000000 }
      ∧
    (∀ g ∈ List.range 256, g ≠ s.fld Reg.POL_SEL 7 0 → t.policer g = s.policer g) ∧ SameRegs polRegs s t ∧ t = { s with regs := t.regs, policers := t.policers }

/-- A tick of the time base adds the increment with carries into nanoseconds and seconds, and its three counts stay
in their ranges (R479). -/
def Obligations.TimeTick : Prop :=
  ∀ (s : State), s.domainHeld 1 = false → (s.tb.step = none ∧ s.tb.inc = none) → (s.tb.inRange) →
    s.tick.tb.inRange ∧ s.tick.now = s.tick.tb.sec * 1000000000 + s.tick.tb.ns ∧ s.tick.tb.incNs = s.tb.incNs ∧
      s.tick.tb.incFrac = s.tb.incFrac ∧
    (s.tick.tb.sec * 1000000000 + s.tick.tb.ns) * 2 ^ 32 + s.tick.tb.frac =
    ((s.tb.sec * 1000000000 + s.tb.ns) * 2 ^ 32 + s.tb.frac + s.tb.incNs * 2 ^ 32 + s.tb.incFrac) % (2 ^ 64 *
      1000000000 * 2 ^ 32)

/-- A step within TIME_JUMP_THRESH is applied at the next tick, keeps the fraction and LOCKED, and is counted in
TIME_STEPS (R483). -/
def Obligations.TimeSmallStep : Prop :=
  ∀ (v : Word) (d : Int) (s : State), (s.live 0x004 = true ∧ s.domainHeld 1 = false ∧ bit v 0 = true ∧ s.tb.step =
    none) → (d = (BitVec.ofNat 64 (s.reg64 Reg.TIME_STEP_LO)).toInt) → (d.natAbs ≤ s.regN Reg.TIME_JUMP_THRESH) →
    Completes (.timeStep v) s fun t => t.tb = { s.tb with step := some d } ∧ t.reg Reg.TIME_STEPS = sat32 (s.regN
      Reg.TIME_STEPS + 1) ∧
    t.locked = s.locked ∧ SameRegs [Reg.TIME_STEPS] s t ∧ t = { s with regs := t.regs, tb := t.tb } ∧
    t.tick.tb = (s.tb.shift d).tick ∧ (s.tb.shift d).frac = s.tb.frac ∧
    (0 ≤ ((s.now : Int) + d) → ((((s.tb.shift d).sec * 1000000000 + (s.tb.shift d).ns : Nat)) : Int) = ((s.now :
      Int) + d) % (2 ^ 64 * 1000000000))

/-- The lock of the time base: samples, a timeout, a write of TIME_CTRL, and a jump refused or accepted (R477, R478,
R484). -/
def Obligations.TimeServo : Prop :=
  (∀ (v : Word) (s : State), s.live 0x004 = true → (s.fld Reg.TIME_UNLOCK_CFG 15 0 < v.toInt.natAbs) →
    Completes (.timeOffsetSample v) s fun t => t.reg Reg.TIME_LAST_OFFSET = v ∧ t.locked = false ∧ t.fld
      Reg.TIME_STATUS 15 8 = 0 ∧
    t.reg Reg.TIME_LOCK_LOSSES = (if s.locked then sat32 (s.regN Reg.TIME_LOCK_LOSSES + 1) else s.reg
      Reg.TIME_LOCK_LOSSES) ∧ t.tb = s.tb ∧ t = { s with regs := t.regs, mem := t.mem, fc := t.fc, tb := t.tb, ctxs := t.ctxs, refc := t.refc }) ∧
  (∀ (v : Word) (s : State), s.live 0x004 = true → (s.fld Reg.TIME_LOCK_CFG 15 0 < v.toInt.natAbs ∧ v.toInt.natAbs ≤
    s.fld Reg.TIME_UNLOCK_CFG 15 0) →
    Completes (.timeOffsetSample v) s fun t => t.reg Reg.TIME_LAST_OFFSET = v ∧ t.locked = s.locked ∧ t.fld
      Reg.TIME_STATUS 15 8 = 0 ∧
    SameRegs [Reg.TIME_LAST_OFFSET, Reg.TIME_STATUS] s t ∧ t = { s with regs := t.regs }) ∧
  (∀ (v : Word) (s : State), (s.live 0x004 = true ∧ s.timeRoleInUse = 1 ∧ s.fld Reg.TIME_STATUS 15 8 < 255) →
    (v.toInt.natAbs ≤ s.fld Reg.TIME_LOCK_CFG 15 0 ∧ v.toInt.natAbs ≤ s.fld Reg.TIME_UNLOCK_CFG 15 0) →
    Completes (.timeOffsetSample v) s fun t => t.fld Reg.TIME_STATUS 15 8 = s.fld Reg.TIME_STATUS 15 8 + 1 ∧
    t.locked = (s.locked || Nat.ble (s.fld Reg.TIME_LOCK_CFG 23 16) (s.fld Reg.TIME_STATUS 15 8 + 1)) ∧ t.reg
      Reg.TIME_LAST_OFFSET = v ∧ t = { s with regs := t.regs, mem := t.mem, fc := t.fc, tb := t.tb, ctxs := t.ctxs, refc := t.refc }) ∧
  (∀ (s : State), (s.live 0x004 = true ∧ s.timeRoleInUse = 1 ∧ s.locked = true) →
    Completes .sampleTimeout s fun t => t.locked = false ∧ t.fld Reg.TIME_STATUS 15 8 = 0 ∧
    t.reg Reg.TIME_LOCK_LOSSES = sat32 (s.regN Reg.TIME_LOCK_LOSSES + 1) ∧ t.tb = s.tb ∧ t = { s with regs := t.regs, mem := t.mem, fc := t.fc, ctxs := t.ctxs, refc := t.refc }) ∧
  (∀ (v : Word) (s : State), (s.live 0x004 = true ∧ bits v 5 4 = 2) →
    Completes (.timeCtrlWrite v) s fun t => t.reg Reg.TIME_CTRL = v &&& 0x37 ∧ t.fld Reg.TIME_STATUS 5 4 = 2 ∧
      t.locked = bit v 1 ∧ t.tb.sec = s.tb.sec ∧ t.tb.ns = s.tb.ns ∧ t = { s with regs := t.regs, mem := t.mem, fc := t.fc, tb := t.tb, ctxs := t.ctxs, refc := t.refc }) ∧
  (∀ (v : Word) (s : State), (s.live 0x004 = true ∧ bit v 0 = true ∧ bit v 1 = false) → (s.regN Reg.TIME_JUMP_THRESH
    < (BitVec.ofNat 64 (s.reg64 Reg.TIME_STEP_LO)).toInt.natAbs) →
    Completes (.timeStep v) s fun t => t.tb = s.tb ∧ t.locked = s.locked ∧ t.reg Reg.TIME_JUMPS_REFUSED = sat32
      (s.regN Reg.TIME_JUMPS_REFUSED + 1) ∧
    SameRegs (Reg.TIME_JUMPS_REFUSED :: faultRegs FaultKind.TIME_JUMP_REFUSED) s t ∧ t = { s with regs := t.regs, fc := t.fc }) ∧
  (∀ (v : Word) (d : Int) (s : State), (s.live 0x004 = true ∧ bit v 0 = true ∧ bit v 1 = true ∧ s.tb.step = none) →
    (d = (BitVec.ofNat 64 (s.reg64 Reg.TIME_STEP_LO)).toInt) → (s.regN Reg.TIME_JUMP_THRESH < d.natAbs) →
    Completes (.timeStep v) s fun t => t.tb = { s.tb with step := some d } ∧ t.locked = false ∧ t.reg Reg.TIME_STEPS
      = sat32 (s.regN Reg.TIME_STEPS + 1) ∧
    t.fld Reg.TIME_STATUS 15 8 = 0 ∧ t = { s with regs := t.regs, mem := t.mem, fc := t.fc, tb := t.tb, ctxs := t.ctxs, refc := t.refc })

/-- The increment and its bound, the reads of the time base, and PPS (R480, R486, R488). -/
def Obligations.TimeIncrementAndReads : Prop :=
  (∀ (v : Word) (i lo hi : Nat) (s : State), (s.live 0x004 = true ∧ i = bits v 7 0 * 2 ^ 32 + s.regN
    Reg.TIME_INCR_FRAC) → (s.incrBound = 2 * 2 ^ 32 * s.fld Reg.TIME_MAX_ADJ 9 0 / 1000000 ∧ lo = 2 * 2 ^ 32 -
    s.incrBound ∧ hi = 2 * 2 ^ 32 + s.incrBound) →
    Completes (.timeIncrWrite v) s fun t => t.tb = { s.tb with inc := some (max lo (min hi i) / 2 ^ 32, max lo (min hi i) % 2 ^ 32) }
      ∧
    t.regN Reg.TIME_INCR_NS * 2 ^ 32 + t.regN Reg.TIME_INCR_FRAC = max lo (min hi i) ∧
    t.reg Reg.TIME_ADJ_CLAMPS = (if lo ≤ i ∧ i ≤ hi then s.reg Reg.TIME_ADJ_CLAMPS else sat32 (s.regN
      Reg.TIME_ADJ_CLAMPS + 1)) ∧
    SameRegs [Reg.TIME_INCR_NS, Reg.TIME_INCR_FRAC, Reg.TIME_ADJ_CLAMPS] s t ∧ t = { s with regs := t.regs, tb := t.tb }) ∧
  (∀ (v : Word) (s : State), s.live 0x004 = true → (bits v 9 0 = 0 ∨ 1000 < bits v 9 0) →
    exec (.timeMaxAdjWrite v) s = .next s) ∧
  (∀ (v : Word) (s : State), (s.live 0x004 = true ∧ 1 ≤ bits v 9 0 ∧ bits v 9 0 ≤ 1000 ∧ s.incrInUse = 2 * 2 ^ 32) →
    exec (.timeMaxAdjWrite v) s = .next (s.setRegN Reg.TIME_MAX_ADJ (bits v 9 0))) ∧
  (∀ (s : State), (s.live 0x004 = true ∧ s.tb.inRange) →
    Completes .timeNowRead s fun t => t.out = .readData (BitVec.ofNat 32 s.tb.frac) :: s.out ∧ t.regN
      Reg.TIME_NOW_NS = s.tb.ns ∧
    t.reg64 Reg.TIME_NOW_SEC_LO = s.tb.sec ∧ SameRegs [Reg.TIME_NOW_FRAC, Reg.TIME_NOW_NS, Reg.TIME_NOW_SEC_LO,
      Reg.TIME_NOW_SEC_LO + 4] s t ∧ t = { s with regs := t.regs, out := t.out }) ∧
  (∀ (s : State), s.live 0x004 = true →
    exec .ppsOutPulse s = .next (if s.rbit Reg.TIME_CTRL 0 then s.emit (.pulse ballPpsOut (s.fld
      Reg.TIME_PPS_OUT_CFG 15 0)) else s)) ∧
  (∀ (t : Nat) (s : State), (s.live 0x004 = true ∧ s.rbit Reg.TIME_CTRL 2 = true) →
    exec (.ppsInEdge t) s = .next ((s.setRegN Reg.TIME_PPS_IN_NS (t % 1000000000)).modTb fun b => { b with ppsSec := t / 1000000000 })) ∧
  (∀ (s : State), s.live 0x004 = true →
    Completes .ppsInRead s fun t => t.out = .readData (s.reg Reg.TIME_PPS_IN_NS) :: s.out ∧ t.reg64
      Reg.TIME_PPS_IN_SEC_LO = s.tb.ppsSec % 2 ^ 64 ∧
    SameRegs [Reg.TIME_PPS_IN_SEC_LO, Reg.TIME_PPS_IN_SEC_LO + 4] s t ∧ t = { s with regs := t.regs, out := t.out })

/-- The host's accesses beside the registers: BAR 2, its base, poisoned requests, Bus Master Enable set again (R512,
R513, R515, R517). -/
def Obligations.HostAccess : Prop :=
  (∀ (off : BitVec 26) (bs : List Byte) (a : Nat) (s : State), (s.domainHeld 9 = false ∧ a = s.winBase + off.toNat) →
    (s.backed a bs.length = true ∧ pushWindow a bs.length = none ∧ popWindow a bs.length = none) → (∀ i < bs.length,
    s.fencedOff byHost (a + i) = false) →
    Completes (.bar2Access { off := off, write := some bs, len := 0 }) s fun t => t.memBytes a bs.length = bs ∧
      SameMemoryOutside a bs.length s t ∧
    t = { s with mem := t.mem }) ∧
  (∀ (off : BitVec 26) (len a : Nat) (s : State), (s.domainHeld 9 = false ∧ a = s.winBase + off.toNat) → s.reaches a
    len = false →
    exec (.bar2Access { off := off, write := none, len := len }) s = .next ((s.bump Reg.HOSTQ_WIN_ERRORS 1).emit
      (.windowData (List.replicate len 0)))) ∧
  (∀ (off : BitVec 26) (len a : Nat) (s : State), (s.domainHeld 9 = false ∧ a = s.winBase + off.toNat) → (s.backed a
    len = true ∧ pushWindow a len = none ∧ popWindow a len = none) → (∀ i < len, s.fencedRead (a + i) = false) →
    exec (.bar2Access { off := off, write := none, len := len }) s = .next (s.emit (.windowData (s.memBytes a len)))) ∧
  (∀ (v : Word) (s : State), s.domainHeld 10 = false →
    exec (.winBaseWrite v) s = .next (s.setReg Reg.HOSTQ_WIN_BASE_LO (v &&& 0xFFF00000))) ∧
  (∀ (s : State), s.domainHeld 9 = false →
    exec .poisonedRequest s = .next (s.bump Reg.HOSTQ_PCIE_ERRORS 1)) ∧
  (∀ (q seq : Nat) (e : List Byte) (s : State), (s.busOk = true ∧ s.hostqUp = true ∧ q < 16) → (s.host.waiting = [(q,
    seq, e)] ∧ e.length = 64) → (∀ i ∈ List.range 16, (s.hostQ i).countDue = false) → (∀ c ∈ List.range 32,
    s.dmaState c ≠ 5) →
    Completes .busMasterResume s fun t => t.host.waiting = [] ∧
    t.hostBytes (s.reg64 (Reg.HOSTQ_TALLY_BASE_LO q) + 64 * (seq % s.tallySize q)) 64 = e ∧
    t.tallyC q = gapFree (s.tallyC q) (seq :: (s.hostQ q).written) % 2 ^ 64 ∧
    t.regN Reg.HOSTQ_PCIE_STATUS % 2 = b2n s.pcie.up ∧ SameRegs (Reg.HOSTQ_PCIE_STATUS :: ringRegs q) s t ∧ t = { s with regs := t.regs, hostMem := t.hostMem, host := t.host })

/-- Command queues: the doorbell, CMD_EN, the fetch of a command, and the NOP (R518, R519, R521, R524, R550). -/
def Obligations.CommandQueues : Prop :=
  (∀ (q : Fin 16) (v : Word) (s : State), s.hostqUp = true → (bits v 11 0 < s.fld (Reg.HOSTQ_CMD_SIZE q.val) 12 0) →
    Completes (.doorbellWrite q v) s fun t => t.regN (Reg.HOSTQ_DOORBELL q.val) = bits v 11 0 ∧ t.reg
      (Reg.HOSTQ_Q_ERRORS q.val) = s.reg (Reg.HOSTQ_Q_ERRORS q.val) ∧
    (s.live 0x008 = false → SameRegs [Reg.HOSTQ_DOORBELL q.val] s t ∧ SameMemory s t) ∧ t = { s with regs := t.regs, mem := t.mem, cuex := t.cuex, freeCtr := t.freeCtr }) ∧
  (∀ (q : Fin 16) (v : Word) (s : State), s.hostqUp = true → (s.fld (Reg.HOSTQ_CMD_SIZE q.val) 12 0 ≤ bits v 11 0) →
    exec (.doorbellWrite q v) s = .next (s.bump (Reg.HOSTQ_Q_ERRORS q.val) 1)) ∧
  (∀ (q : Fin 16) (s : State), (s.hostqUp = true ∧ s.tallyEn q.val = true ∧ s.rbit (Reg.HOSTQ_CTRL q.val) 1 = false)
    →
    exec (.cmdEnable q) s = .next (((s.setRbit (Reg.HOSTQ_CTRL q.val) 1 true).setRegN (Reg.HOSTQ_HEAD q.val)
      0).setRegN (Reg.HOSTQ_DOORBELL q.val) 0)) ∧
  (∀ (q : Fin 16) (s : State), s.hostqUp = true →
    exec (.cmdDisable q) s = .next (s.setRbit (Reg.HOSTQ_CTRL q.val) 1 false)) ∧
  (∀ (q : Nat) (e : List Byte) (s : State), (s.hostqUp = true ∧ s.busOk = true) → (((rangeFrom (s.host.last + 1)
    16).map (· % 16)).find? s.fetchable = some q) → (e = s.hostBytes (s.reg64 (Reg.HOSTQ_CMD_BASE_LO q) + 64 * s.fld
    (Reg.HOSTQ_HEAD q) 11 0) 64) → (∀ k ∈ s.host.jobs, k.queue = q → s.cmdStillborn k.entry = none) → s.cmdStillborn
    e = none →
    Completes .cmdFetch s fun t => t.host.jobs = s.host.jobs ++ [{ queue := q, num := (s.hostQ q).fetched, seq := (s.hostQ q).issued, entry := e }]
      ∧
    t.host.last = q ∧ (t.hostQ q).issued = (s.hostQ q).issued + 1 ∧ (t.hostQ q).fetched = (s.hostQ q).fetched + 1 ∧
    t.regN (Reg.HOSTQ_HEAD q) = (s.fld (Reg.HOSTQ_HEAD q) 11 0 + 1) % s.fld (Reg.HOSTQ_CMD_SIZE q) 12 0 ∧
    SameRegs [Reg.HOSTQ_HEAD q, Reg.HOSTQ_ISSUED q] s t ∧ t = { s with regs := t.regs, host := t.host }) ∧
  (∀ (q : Fin 16) (j : CmdJob) (s : State), (CmdFront s q.val 0 false j) →
    Completes (.nop q) s fun t => CmdDone j 0 [] s t ∧ SameRegs (ringRegs q.val) s t ∧ t = { s with regs := t.regs, hostMem := t.hostMem, host := t.host })

/-- The commands that the Stage Manager serves for the host: FLOW_CMD, SDP_APPLY, PTP_CONFIG and the flash commands
(R162, R464, R471, R523, R524). -/
def Obligations.HostCommands : Prop :=
  (∀ (q : Fin 16) (f : Nat) (j : CmdJob) (s : State), (CmdFront s q.val 1 true j) → (f = leAt (cmdArgs j.entry) 0 2 ∧
    f ≤ 255 ∧ leAt (cmdArgs j.entry) 2 1 = 0) →
    Completes (.flowCmd q false) s fun t => CmdDone j 0 (leBytes 1 0 ++ leBytes 1 (s.flow f).gen) s t ∧
    (∀ i ∈ List.range 16, t.regN (Reg.PKT_FLOW_DATA i) = (s.flow f).word i % 2 ^ 32) ∧ t.flows = s.flows ∧
    SameRegs (Reg.PKT_FLOW_STAT :: (List.range 16).map Reg.PKT_FLOW_DATA ++ ringRegs q.val) s t ∧ t = { s with regs := t.regs, hostMem := t.hostMem, host := t.host }) ∧
  (∀ (q : Fin 16) (f : Nat) (j : CmdJob) (s : State), (CmdFront s q.val 1 true j) → (f = leAt (cmdArgs j.entry) 0 2 ∧
    f ≤ 255 ∧ leAt (cmdArgs j.entry) 2 1 = 3) →
    Completes (.flowCmd q false) s fun t => (t.flow f).valid = false ∧ (t.flow f).gen = ((s.flow f).gen + 1) % 256 ∧
    CmdDone j 0 (leBytes 1 0 ++ leBytes 1 (((s.flow f).gen + 1) % 256)) s t ∧ (∀ g ∈ List.range 256, g ≠ f → t.flow
      g = s.flow g) ∧ t = { s with regs := t.regs, hostMem := t.hostMem, flows := t.flows, queues := t.queues, host := t.host, out := t.out }) ∧
  (∀ (q : Fin 16) (fault : Bool) (j : CmdJob) (s : State), (CmdFront s q.val 1 true j) → (255 < leAt (cmdArgs
    j.entry) 0 2) →
    Completes (.flowCmd q fault) s fun t => CmdDone j 3 [] s t ∧ t.flows = s.flows ∧ SameRegs (ringRegs q.val) s t ∧
      t = { s with regs := t.regs, hostMem := t.hostMem, host := t.host }) ∧
  (∀ (q : Fin 16) (c v : Nat) (p : List Byte × List Byte) (j : CmdJob) (s : State), (CmdFront s q.val 2 true j) → (c
    = leAt (cmdArgs j.entry) 0 2 ∧ c ≤ 255 ∧ leAt (cmdArgs j.entry) 2 2 ≤ 4096) → ((fmtpItems (s.hostBytes (leAt
    (cmdArgs j.entry) 8 8) (leAt (cmdArgs j.entry) 2 2))).filter (fun p => p.1.take 4 == strB "uaq-") = [p]) → (p.1
    = strB "uaq-dl-exact" ∧ decimalB p.2 = some v ∧ 1 ≤ v ∧ v ≤ 60000) →
    Completes (.sdpApply q false) s fun t => t.fld (shadowOf (Reg.FRESH_DEADLINE_EXACT c)) 15 0 = v ∧ CmdDone j 0
      (leBytes 4 1) s t ∧
    SameRegs (shadowOf (Reg.FRESH_DEADLINE_EXACT c) :: ringRegs q.val) s t ∧ t = { s with regs := t.regs, hostMem := t.hostMem, host := t.host }) ∧
  (∀ (q : Fin 16) (p : List Byte × List Byte) (j : CmdJob) (s : State), (CmdFront s q.val 2 true j) → (leAt (cmdArgs
    j.entry) 0 2 ≤ 255 ∧ leAt (cmdArgs j.entry) 2 2 ≤ 4096) → (p ∈ fmtpItems (s.hostBytes (leAt (cmdArgs j.entry) 8
    8) (leAt (cmdArgs j.entry) 2 2)) ∧ p.1.take 4 = strB "uaq-") → (p.1 = strB "uaq-sheet" ∧ decimalB p.2 = some 3)
    →
    Completes (.sdpApply q false) s fun t => CmdDone j 3 [] s t ∧ SameRegs (ringRegs q.val) s t ∧ t = { s with regs := t.regs, hostMem := t.hostMem, host := t.host }) ∧
  (∀ (q : Fin 16) (j : CmdJob) (a : List Byte) (s : State), (CmdFront s q.val 3 false j) → (a = cmdArgs j.entry ∧
    leAt a 0 1 ≤ 3 ∧ leAt a 1 1 ≤ 127) → ((a.getD 2 0).toInt ∈ [-7, -6, -5, -4, -3, -2, -1] ∧ (a.getD 3 0).toInt ∈
    [-3, -2, -1, 0, 1] ∧ (a.getD 4 0).toInt ∈ [-7, -6, -5, -4, -3, -2, -1]) → (2 ≤ leAt a 5 1 ∧ leAt a 5 1 ≤ 10 ∧
    leAt a 6 1 ≤ 1 ∧ leAt a 7 1 ≤ 1) →
    Completes (.ptpConfig q) s fun t => Sparse.get (fun _ => ptpDefault) t.ptp (leAt a 0 1) = sliceB a 1 9 ∧
    (∀ p ∈ List.range 4, p ≠ leAt a 0 1 → Sparse.get (fun _ => ptpDefault) t.ptp p = Sparse.get (fun _ =>
      ptpDefault) s.ptp p) ∧ CmdDone j 0 [] s t ∧
    SameRegs (ringRegs q.val) s t ∧ t = { s with regs := t.regs, hostMem := t.hostMem, host := t.host, ptp := t.ptp }) ∧
  (∀ (q : Fin 16) (j : CmdJob) (slot : Nat) (a : List Byte) (s : State), (CmdFront s q.val 4 true j) → (a = cmdArgs
    j.entry ∧ leAt a 4 4 ≤ 0x100000) → (slot = s.reg64 (Reg.HOSTQ_TALLY_BASE_LO q.val) + 64 * (j.seq % s.tallySize
    q.val) ∧ s.busOk = true) →
    Completes (.hostFlashRead q false) s fun t => CmdDone j 0 [] s t ∧ t.flash = s.flash ∧
    (∀ i ∈ List.range (leAt a 4 4), leAt a 8 8 + i < slot ∨ slot + 64 ≤ leAt a 8 8 + i →
    Sparse.get memReset t.hostMem (leAt a 8 8 + i) = Sparse.get memReset s.flash (leAt a 0 4 + i)) ∧
    SameRegs (ringRegs q.val) s t ∧ t = { s with regs := t.regs, hostMem := t.hostMem, host := t.host }) ∧
  (∀ (q : Fin 16) (j : CmdJob) (a : List Byte) (s : State), (CmdFront s q.val 5 true j) → (a = cmdArgs j.entry ∧ leAt
    a 4 4 ≤ 0x100000) →
    Completes (.hostFlashWrite q false) s fun t => (if s.hostMayWrite (leAt a 0 4) (leAt a 4 4) then CmdDone j 0 []
      s t ∧ t.flashBytes (leAt a 0 4) (leAt a 4 4) = s.hostBytes (leAt a 8 8) (leAt a 4 4) else CmdDone j 5 [] s t ∧
      t.flash = s.flash) ∧
    SameRegs (ringRegs q.val) s t ∧ t = { s with regs := t.regs, hostMem := t.hostMem, host := t.host, flash := t.flash })

/-- Tally rings: the count word, the acknowledgement, enabling and disabling (R525, R526, R528, R551). -/
def Obligations.TallyRings : Prop :=
  (∀ (q : Fin 16) (s : State), (s.hostqUp = true ∧ s.busOk = true ∧ s.tallyC q.val ≠ (s.hostQ q.val).counted) →
    Completes (.tallyCountWrite q) s fun t => t.hostBytes (s.reg64 (Reg.HOSTQ_COUNT_ADDR_LO q.val)) 8 = leBytes 8
      (s.tallyC q.val) ∧
    (∀ a, a < s.reg64 (Reg.HOSTQ_COUNT_ADDR_LO q.val) ∨ s.reg64 (Reg.HOSTQ_COUNT_ADDR_LO q.val) + 8 ≤ a → Sparse.get
      memReset t.hostMem a = Sparse.get memReset s.hostMem a) ∧
    t.hostQ q.val = { s.hostQ q.val with counted := s.tallyC q.val, countDue := false } ∧ t = { s with hostMem := t.hostMem, host := t.host }) ∧
  (∀ (q : Fin 16) (v : Word) (s : State), s.hostqUp = true →
    exec (.tallyAckWrite q v) s = .next (if later32 v.toNat (s.regN (Reg.HOSTQ_TALLY_ACK q.val)) = true ∧ later32
      v.toNat (s.tallyC q.val % 2 ^ 32) = false then s.setReg (Reg.HOSTQ_TALLY_ACK q.val) v else s.bump
      (Reg.HOSTQ_Q_ERRORS q.val) 1)) ∧
  (∀ (q : Fin 16) (s : State), (s.hostqUp = true ∧ s.tallyEn q.val = false) →
    Completes (.tallyEnable q) s fun t => t.tallyEn q.val = true ∧ t.regN (Reg.HOSTQ_TALLY_ACK q.val) = 0 ∧ t.regN
      (Reg.HOSTQ_ISSUED q.val) = 0 ∧ t.tallyC q.val = 0 ∧
    t.hostQ q.val = { HostQ.init with fetched := (s.hostQ q.val).fetched } ∧
    SameRegs (Reg.HOSTQ_CTRL q.val :: Reg.HOSTQ_TALLY_ACK q.val :: Reg.HOSTQ_ISSUED q.val :: ringRegs q.val) s t ∧ t
      = { s with regs := t.regs, host := t.host }) ∧
  (∀ (q : Fin 16) (s : State), (s.hostqUp = true ∧ s.tallyEn q.val = true) → (∀ c ∈ List.range 32, (s.dmaCh
    c).job.map (·.1) ≠ some q.val) →
    Completes (.tallyDisable q) s fun t => t.tallyEn q.val = false ∧ t.rbit (Reg.HOSTQ_CTRL q.val) 1 = false ∧
    t.host.jobs = s.host.jobs.filter (fun j => j.queue != q.val) ∧ t.host.waiting = s.host.waiting.filter (fun e =>
      e.1 != q.val) ∧
    SameRegs [Reg.HOSTQ_CTRL q.val] s t ∧ t = { s with regs := t.regs, host := t.host })

/-- DMA channels: enable, the fetch and the move of a descriptor, pacing, STOP, HALT and time-outs (R531, R533,
R535, R536, R538, R539, R540, R541, R542). -/
def Obligations.DmaChannels : Prop :=
  (∀ (c : Fin 32) (d : List Byte) (s : State), (s.live 0x020 = true ∧ s.dmaUp = true ∧ s.dmaOn c.val = true) →
    ((s.dmaCh c.val).desc = none ∧ s.dmaState c.val ≠ 2 ∧ s.pacePauses c.val = false ∧ s.rbit (Reg.DMA_SHADOW_CTL
    c.val) 0 = false) → ((s.dmaCh c.val).job ≠ none ∧ (s.dmaCh c.val).nextHost = false ∧ (s.dmaCh c.val).next % 32 =
    0) → (s.dmaRange (s.dmaCh c.val).next 32 = none ∧ d = s.memBytes (s.dmaCh c.val).next 32 ∧ descBad d = false) →
    Completes (.dmaDescFetch c) s fun t => t.dmaCh c.val = { s.dmaCh c.val with desc := some d, next := if descLast d then (s.dmaCh c.val).next else descNext d, nextHost := if descLast d then false else descFlag d 3 }
      ∧
    t.dmaState c.val = (if s.dmaStopping c.val then 3 else 1) ∧ OnlyDma c.val s t ∧ SameRegs (dmaRegs c.val) s t ∧ t
      = { s with regs := t.regs, dma := t.dma }) ∧
  (∀ (c : Fin 32) (s : State), (s.live 0x020 = true ∧ s.dmaUp = true ∧ s.dmaOn c.val = true) → ((s.dmaCh c.val).desc
    = none ∧ s.dmaState c.val ≠ 2 ∧ s.pacePauses c.val = true) →
    exec (.dmaDescFetch c) s = .next (s.setDmaState c.val 2)) ∧
  (∀ (c : Fin 32) (s : State), (s.live 0x020 = true ∧ s.dmaUp = true ∧ s.dmaOn c.val = false) → (s.rbit
    (Reg.DMA_SHADOW_CTL c.val) 0 = false ∧ s.tallyEn (s.dmaRing c.val) = false) →
    Completes (.dmaEnable c) s fun t => t.dmaOn c.val = false ∧ t.fld (Reg.DMA_STATUS c.val) 11 8 = 9 ∧ SameRegs
      [Reg.DMA_CTRL c.val, Reg.DMA_STATUS c.val] s t ∧ t = { s with regs := t.regs }) ∧
  (∀ (c : Fin 32) (q : Nat) (d : List Byte) (s : State), (s.live 0x020 = true ∧ s.dmaUp = true ∧ s.dmaOn c.val =
    false) → (s.rbit (Reg.DMA_SHADOW_CTL c.val) 0 = false ∧ s.dmaRing c.val = q ∧ s.tallyEn q = true ∧ s.canIssue q
    1 = true ∧ s.pacePauses c.val = false) → (s.reg64 (Reg.DMA_START_LO c.val) % 32 = 0 ∧ s.dmaRange (s.reg64
    (Reg.DMA_START_LO c.val)) 32 = none) → (d = s.memBytes (s.reg64 (Reg.DMA_START_LO c.val)) 32 ∧ descBad d =
    false) →
    Completes (.dmaEnable c) s fun t => (t.dmaCh c.val).job = some (q, (s.hostQ q).issued) ∧ (t.dmaCh c.val).desc =
      some d ∧ (t.hostQ q).issued = (s.hostQ q).issued + 1 ∧
    t.dmaOn c.val = true ∧ t.dmaState c.val = 1 ∧ t.regN (Reg.DMA_BYTES c.val) = 0 ∧ t.regN (Reg.DMA_DESCS c.val) =
      0 ∧
    OnlyDma c.val s t ∧ SameRegs (Reg.HOSTQ_ISSUED q :: dmaRegs c.val) s t ∧ t = { s with regs := t.regs, dma := t.dma, host := t.host }) ∧
  (∀ (c : Fin 32) (d : List Byte) (q k : Nat) (s : State), (s.live 0x020 = true ∧ s.dmaUp = true ∧ s.dmaOn c.val =
    true) → ((s.dmaCh c.val).desc = some d ∧ descLen d ≠ 0 ∧ descSrcKind d = 3 ∧ descDstKind d = 0 ∧ descLast d =
    true) → (s.dmaRange (descDst d) (descLen d) = none ∧ pushWindow (descDst d) (descLen d) = none ∧ popWindow
    (descDst d) (descLen d) = none) → ((s.dmaCh c.val).job = some (q, k) ∧ q < 16) →
    Completes (.dmaDescMoveDone c) s fun t => t.memBytes (descDst d) (descLen d) = fillBytes (descSrc d % 2 ^ 32)
      (descLen d) ∧
    SameMemoryOutside (descDst d) (descLen d) s t ∧ t.regN (Reg.DMA_BYTES c.val) = (s.regN (Reg.DMA_BYTES c.val) +
      descLen d) % 2 ^ 32 ∧
    t.regN (Reg.DMA_DESCS c.val) = (s.regN (Reg.DMA_DESCS c.val) + 1) % 2 ^ 32 ∧ t.dmaOn c.val = false ∧ t.dmaState
      c.val = 0 ∧
    t.fld (Reg.DMA_STATUS c.val) 11 8 = 0 ∧ t.fld (Reg.DMA_STATUS c.val) 31 16 = descTag d ∧ (t.dmaCh c.val).job =
      none ∧
    EntryOut q k (tallyEntry k 2 c.val 0 (descTag d) s.now ((s.regN (Reg.DMA_DESCS c.val) + 1) % 2 ^ 32) (leBytes 4
      (descLen d) ++ leBytes 4 0 ++ leBytes 8 (s.reg64 (Reg.DMA_NEXT_LO c.val)))) s t ∧
    OnlyDma c.val s t ∧ SameRegs (dmaRegs c.val ++ ringRegs q) s t ∧ t = { s with regs := t.regs, mem := t.mem, hostMem := t.hostMem, dma := t.dma, host := t.host }) ∧
  (∀ (c : Fin 32) (q k : Nat) (s : State), (s.live 0x020 = true ∧ s.dmaUp = true ∧ s.dmaOn c.val = true) → ((s.dmaCh
    c.val).desc = none ∧ (s.dmaCh c.val).job = some (q, k) ∧ q < 16) →
    Completes (.dmaStop c) s fun t => t.dmaOn c.val = false ∧ t.dmaState c.val = 0 ∧ t.fld (Reg.DMA_STATUS c.val) 11
      8 = 1 ∧ (t.dmaCh c.val).job = none ∧
    EntryOut q k (tallyEntry k 2 c.val 1 0 s.now (s.regN (Reg.DMA_DESCS c.val)) (leBytes 4 0 ++ leBytes 4 0 ++
      leBytes 8 (s.reg64 (Reg.DMA_NEXT_LO c.val)))) s t ∧
    OnlyDma c.val s t ∧ SameRegs (dmaRegs c.val ++ ringRegs q) s t ∧ t = { s with regs := t.regs, hostMem := t.hostMem, dma := t.dma, host := t.host }) ∧
  (∀ (c : Fin 32) (s : State), (s.live 0x020 = true ∧ s.dmaUp = true ∧ s.dmaOn c.val = true) → (∀ p ∈ (s.dmaCh
    c.val).job, p.1 < 16) →
    Completes (.dmaHalt c) s fun t => t.dmaOn c.val = false ∧ t.dmaState c.val = 0 ∧ t.fld (Reg.DMA_STATUS c.val) 11
      8 = 2 ∧ (t.dmaCh c.val).job = none ∧ (t.dmaCh c.val).desc = none ∧
    t.reg (Reg.DMA_BYTES c.val) = Config.freeValue s.freeCtr ∧ t.reg (Reg.DMA_DESCS c.val) = Config.freeValue
      (s.freeCtr + 1) ∧
    OnlyDma c.val s t ∧ (∀ a, t.mem8 a = s.mem8 a) ∧ SameRegs (dmaRegs c.val ++ (List.range 16).flatMap ringRegs) s
      t ∧ t = { s with regs := t.regs, hostMem := t.hostMem, dma := t.dma, host := t.host, freeCtr := t.freeCtr }) ∧
  (∀ (c : Fin 32) (s : State), (s.live 0x020 = true ∧ s.dmaState c.val = 2 ∧ s.paceResumes c.val = true ∧
    s.pacePauses c.val = true) → (s.dmaUp = true ∧ s.dmaOn c.val = true ∧ (s.dmaCh c.val).desc = none) →
    exec (.dmaPaceResume c) s = .next ((s.setDmaState c.val 1).setDmaState c.val 2)) ∧
  (∀ (c : Fin 32) (d : List Byte) (s : State), (s.live 0x020 = true ∧ s.dmaState c.val = 2 ∧ s.paceResumes c.val =
    true ∧ s.pacePauses c.val = false) → (s.dmaUp = true ∧ s.dmaOn c.val = true ∧ (s.dmaCh c.val).desc = none ∧
    s.rbit (Reg.DMA_SHADOW_CTL c.val) 0 = false) → ((s.dmaCh c.val).job ≠ none ∧ (s.dmaCh c.val).nextHost = false ∧
    (s.dmaCh c.val).next % 32 = 0) → (s.dmaRange (s.dmaCh c.val).next 32 = none ∧ d = s.memBytes (s.dmaCh
    c.val).next 32 ∧ descBad d = false) →
    Completes (.dmaPaceResume c) s fun t => (t.dmaCh c.val).desc = some d ∧ t.dmaState c.val = (if s.dmaStopping
      c.val then 3 else 1) ∧
    OnlyDma c.val s t ∧ SameRegs (dmaRegs c.val) s t ∧ t = { s with regs := t.regs, dma := t.dma }) ∧
  (∀ (c : Fin 32) (s : State), (s.dmaUp = true ∧ s.dmaOn c.val = true ∧ (s.dmaState c.val = 1 ∨ s.dmaState c.val =
    3)) → ((s.dmaCh c.val).job = none) →
    Completes (.targetTimeout c) s fun t => t.dmaOn c.val = false ∧ t.dmaState c.val = 0 ∧ t.fld (Reg.DMA_STATUS
      c.val) 11 8 = 6 ∧ (t.dmaCh c.val).desc = none ∧
    OnlyDma c.val s t ∧ SameRegs (dmaRegs c.val ++ faultRegs FaultKind.DMA_CHAIN_ERROR) s t ∧ t = { s with regs := t.regs, fc := t.fc, dma := t.dma })

/-- The shadow sets: ARM, DISARM and the hand-over points (R543, R544, R545, R548, R554). -/
def Obligations.ShadowControl : Prop :=
  (∀ (p : ShadowPage) (s : State), s.live (shadowBlock p) = true →
    exec (.shadowArm p) s = .next (s.setRbit (shadowCtl p) 0 true)) ∧
  (∀ (p : ShadowPage) (s : State), s.live (shadowBlock p) = true → (s.ledger.decided = [] ∧ s.ledger.waiting = []) →
    exec (.shadowDisarm p) s = .next (s.setRbit (shadowCtl p) 0 false)) ∧
  (∀ (c : Fin 32) (s : State), (s.live 0x020 = true ∧ s.dmaOn c.val = true ∧ (s.dmaCh c.val).desc = none) → s.rbit
    (Reg.DMA_SHADOW_CTL c.val) 0 = true →
    Completes (.handover (.dma c)) s fun t => t.rbit (Reg.DMA_SHADOW_CTL c.val) 0 = false ∧
    (if s.dmaShadowBad c.val then t.fld (Reg.DMA_STATUS c.val) 15 12 = 1 ∧ SameRegs [Reg.DMA_SHADOW_CTL c.val,
      Reg.DMA_STATUS c.val] s t
    else t.fld (Reg.DMA_SHADOW_CTL c.val) 15 8 = (s.fld (Reg.DMA_SHADOW_CTL c.val) 15 8 + 1) % 256 ∧
    (∀ k ∈ [Reg.DMA_CFG c.val, Reg.DMA_PACE c.val, Reg.DMA_PACE_LEVEL c.val], t.reg k = s.reg (shadowOf k)) ∧
    SameRegs [Reg.DMA_SHADOW_CTL c.val, Reg.DMA_CFG c.val, Reg.DMA_PACE c.val, Reg.DMA_PACE_LEVEL c.val] s t) ∧ t =
      { s with regs := t.regs }) ∧
  (∀ (n : Fin 8) (s : State), (s.live (compPage n.val) = true ∧ s.outState n.val ≠ 0 ∧ (s.dpOut n.val).stopping =
    false) → (s.armed (compPage n.val) = true ∧ s.badWindow n.val = none ∧ s.decisionOf (compReq n.val) = none) →
    (compReq n.val ∉ s.ledger.waiting ∧ s.formWins n.val = s.winCharges n.val) →
    Completes (.handover (.comp n)) s fun t => t.armed (compPage n.val) = false ∧ t.shadowGen (compPage n.val) =
      (s.shadowGen (compPage n.val) + 1) % 256 ∧
    (∀ k ∈ compSet n.val, t.reg k = s.reg (shadowOf k)) ∧
    SameRegs (blkShadow (compPage n.val) :: compSet n.val ++ (List.range 16).map (Reg.COMP_WIN_STATUS n.val) ++
      sumRegs) s t ∧ t = { s with regs := t.regs }) ∧
  (∀ (c : Fin 256) (g : Charge) (s : State), (s.live (ctxPage c.val) = true ∧ s.ctxEnabled c.val = true ∧ s.isEncode
    c.val = false ∧ (s.ctx c.val).pic = none ∧ (s.ctx c.val).dpic = none) → (s.armed (ctxPage c.val) = true ∧
    s.checkSet c.val false = none ∧ s.decisionOf (handoverReq c.val) = none ∧ handoverReq c.val ∉ s.ledger.waiting)
    → (s.formCharge c.val = .inr g ∧ g.differs (s.ctx c.val).chg = false) → (s.wantsMapBuf c.val = false ∧ s.regN
    (Reg.FRESH_MAP_BUF c.val) = 0 ∧ s.updateChange c.val = false ∧ (s.ctx c.val).degrade = 0) → (s.sh
    (Reg.FRESH_MAP_BASE_LO c.val) = 0 ∧ s.sh (Reg.FRESH_MAP_BASE_HI c.val) = 0) →
    Completes (.handover (.ctx c)) s fun t => t.armed (ctxPage c.val) = false ∧ t.shadowGen (ctxPage c.val) =
      (s.shadowGen (ctxPage c.val) + 1) % 256 ∧
    (∀ k ∈ ctxSet c.val false, t.reg k = s.reg (shadowOf k)) ∧
    SameRegs (blkShadow (ctxPage c.val) :: Reg.CTX_STATUS c.val :: Reg.CONTENT_LOAD :: Reg.FRESH_STATUS c.val ::
      Reg.FRESH_MAP_ADDR_LO c.val :: (Reg.FRESH_MAP_ADDR_LO c.val + 4) :: Reg.SESS_STATUS c.val :: ctxSet c.val
      false) s t ∧ t = { s with regs := t.regs }) ∧
  (∀ (c : Fin 256) (k : Nat) (s : State), (s.live (ctxPage c.val) = true ∧ s.ctxEnabled c.val = true ∧ s.isEncode
    c.val = false ∧ (s.ctx c.val).pic = none ∧ (s.ctx c.val).dpic = none) → (s.armed (ctxPage c.val) = true ∧
    s.checkSet c.val false = some (.config k) ∧ s.decisionOf (handoverReq c.val) = none ∧ handoverReq c.val ∉
    s.ledger.waiting) →
    Completes (.handover (.ctx c)) s fun t => t.armed (ctxPage c.val) = false ∧ t.shadowGen (ctxPage c.val) =
      s.shadowGen (ctxPage c.val) ∧
    t.regN (Reg.DEC_CFG_STATUS c.val) = (k + 256 * s.shadowGen (ctxPage c.val)) % 2 ^ 32 ∧
    SameRegs [blkShadow (ctxPage c.val), Reg.ENC_CFG_STATUS c.val, Reg.DEC_CFG_STATUS c.val] s t ∧ t = { s with regs := t.regs })

/-- A completion pops the in-service stack when it names the top, and otherwise leaves it, is counted and reported
(R570). -/
def Obligations.CueCompletion : Prop :=
  ∀ (w : Writer) (t : Fin 20) (v : Word) (s : State), (s.live 0x008 = true ∧ targetOf w = some t.val) →
    if s.stackTop t.val = some (bits v 9 0) then
    Completes (.cuexComplete w t v) s fun u => u.stackDepth t.val = s.stackDepth t.val - 1 ∧
    (∀ i ∈ List.range (s.stackDepth t.val - 1), u.reg (Reg.CUEX_TGT_STACK t.val i) = s.reg (Reg.CUEX_TGT_STACK t.val
      i)) ∧
    SameRegs [Reg.CUEX_TGT_STATUS t.val, Reg.CUEX_TGT_STACK t.val (s.stackDepth t.val - 1)] s u ∧ u = { s with regs := u.regs }
    else exec (.cuexComplete w t v) s = .next ((s.bump Reg.CUEX_STACK_ERRORS 1).raise (targetSource t.val)
      FaultKind.CUEX_STACK_ORDER (bits v 9 0))

/-- The Cue Exchange: doorbells, posts, consumption, acknowledgement, sleep and wake, routes, hold-off (R560, R562,
R563, R566, R568, R569, R571, R573, R574, R575, R576, R580). -/
def Obligations.CueExchange : Prop :=
  (∀ (v : Word) (src t : Nat) (s : State), (s.live 0x008 = true ∧ src = bits v 9 0 ∧ 960 ≤ src ∧ t = s.routeTarget
    src) →
    Completes (.cuexDoorbell v) s fun u => u.pendingAt t src = true ∧ (∀ x ∈ List.range 1024, x ≠ src → u.pendingAt
      t x = s.pendingAt t x) ∧
    SameRegs [Reg.CUEX_TGT_PEND t (src / 32), Reg.CUEX_TGT_NEXT t, Reg.CUEX_TGT_STATUS t] s u ∧ u = { s with regs := u.regs }) ∧
  (∀ (n : Fin 4) (v : Word) (src : Nat) (cue : List Byte) (s : State), (s.live 0x008 = true ∧ src = 768 + 32 * n.val
    + bits v 4 0 ∧ cue = s.pmBytes (bits v 22 5 * 32) 32) → (leAt cue 1 1 = s.cueGen src ∧ s.ringWaiting src ≠ 16) →
    Completes (.cuexPost (.stageManager n) v) s fun u => u.pendingAt (s.routeTarget src) src = true ∧ u.ringPosted
      src = (s.ringPosted src + 1) % 256 ∧
    u.ringConsumed src = s.ringConsumed src ∧ (u.pmBytes (s.cueSlot src (s.ringPosted src)) 32).eraseIdx 3 =
      cue.eraseIdx 3 ∧
    SameMemoryOutside (poolBase + s.cueSlot src (s.ringPosted src)) 32 s u ∧ u = { s with regs := u.regs, mem := u.mem, cuex := u.cuex }) ∧
  (∀ (n : Fin 4) (v : Word) (src : Nat) (cue : List Byte) (s : State), (s.live 0x008 = true ∧ src = 768 + 32 * n.val
    + bits v 4 0 ∧ cue = s.pmBytes (bits v 22 5 * 32) 32) → (leAt cue 1 1 = s.cueGen src ∧ s.ringWaiting src = 16) →
    Completes (.cuexPost (.stageManager n) v) s fun u => u.pendingAt (s.routeTarget src) src = true ∧ u.ringPosted
      src = s.ringPosted src ∧
    u.reg Reg.CUEX_RING_OVERRUNS = sat32 (s.regN Reg.CUEX_RING_OVERRUNS + 1) ∧ u.regN Reg.CUEX_LAST_OVERRUN = src ∧
      src ∈ u.cuex.lost ∧
    u.mem = s.mem ∧ u = { s with regs := u.regs, cuex := u.cuex }) ∧
  (∀ (w : Writer) (v : Word) (src n : Nat) (s : State), (s.live 0x008 = true ∧ w ≠ .host ∧ src = bits v 9 0 ∧ n =
    bits v 20 16 ∧ n ≤ s.ringWaiting src ∧ n ≤ 16) →
    Completes (.cuexConsume w v) s fun u => u.ringConsumed src = (s.ringConsumed src + n) % 256 ∧ u.ringPosted src =
      s.ringPosted src ∧
    SameRegs [Reg.CUEX_RING (src / 2)] s u ∧ u = { s with regs := u.regs }) ∧
  (∀ (w : Writer) (t : Fin 20) (v : Word) (src : Nat) (s : State), (s.live 0x008 = true ∧ targetOf w = some t.val ∧
    src = bits v 9 0 ∧ s.pendingAt t.val src = true ∧ s.stackDepth t.val < 8) →
    Completes (.cuexAck w t v []) s fun u => u.pendingAt t.val src = false ∧ u.stackTop t.val = some src ∧
      u.stackDepth t.val = s.stackDepth t.val + 1 ∧
    u.reg Reg.CUEX_DELIVERIES = sat32 (s.regN Reg.CUEX_DELIVERIES + 1) ∧
    (s.fld (Reg.CUEX_HOLDOFF (src / 32)) 15 0 ≠ 0 → (t.val, src / 32) ∈ u.cuex.holdoff) ∧
    SameRegs [Reg.CUEX_TGT_PEND t.val (src / 32), Reg.CUEX_TGT_STACK t.val (s.stackDepth t.val), Reg.CUEX_TGT_STATUS
      t.val, Reg.CUEX_DELIVERIES, Reg.CUEX_TGT_NEXT t.val] s u ∧ u = { s with regs := u.regs, cuex := u.cuex }) ∧
  (∀ (w : Writer) (t : Fin 20) (v : Word) (s : State), (s.live 0x008 = true ∧ s.pendingAt t.val (bits v 9 0) = false)
    →
    exec (.cuexAck w t v []) s = .next s) ∧
  (∀ (w : Writer) (t : Fin 20) (v x : Word) (src : Nat) (s : State), (s.live 0x008 = true ∧ targetOf w = some t.val ∧
    src = bits v 9 0 ∧ s.pendingAt t.val src = true ∧ s.stackDepth t.val < 8) → (bits x 9 0 = src ∧ 960 ≤ src ∧
    s.routeTarget src = t.val) →
    Completes (.cuexAck w t v [.doorbell x]) s fun u => u.pendingAt t.val src = true ∧ u.stackTop t.val = some src ∧
      u.stackDepth t.val = s.stackDepth t.val + 1 ∧
    u = { s with regs := u.regs, cuex := u.cuex }) ∧
  (∀ (w : Writer) (t : Fin 20) (v : Word) (s : State), (s.live 0x008 = true ∧ targetOf w = some t.val ∧ 16 ≤ t.val ∧
    bit v 0 = true) →
    if s.nextSource t.val = none then Completes (.cuexSleep w t v) s fun u => u.asleep t.val = true ∧ u.stackDepth
      t.val = s.stackDepth t.val ∧
    SameRegs [Reg.CUEX_TGT_STATUS t.val, Reg.CUEX_TGT_NEXT t.val] s u ∧ u = { s with regs := u.regs }
    else exec (.cuexSleep w t v) s = .next s) ∧
  (∀ (t : Fin 20) (s : State), s.live 0x008 = true →
    if s.rbit (Reg.CUEX_TGT_STATUS t.val) 1 then Completes (.targetWake t) s fun u => u.asleep t.val = false ∧
      u.rbit (Reg.CUEX_TGT_STATUS t.val) 1 = false ∧
    u.stackDepth t.val = s.stackDepth t.val ∧ SameRegs [Reg.CUEX_TGT_STATUS t.val, Reg.CUEX_TGT_NEXT t.val] s u ∧ u
      = { s with regs := u.regs }
    else exec (.targetWake t) s = .next s) ∧
  (∀ (w : Writer) (k : Fin 512) (v : Word) (src : Nat) (s : State), (s.live 0x008 = true ∧ w ≠ .host ∧ 128 ≤ k.val ∧
    src = 2 * k.val) → (bits v 4 0 ≤ 19 ∧ 19 < bits v 20 16 ∧ s.routeTarget src ≠ bits v 4 0 ∧ s.routeTarget src ≤
    19) →
    Completes (.cuexRouteWrite w k v []) s fun u => u.route src = bits v 5 0 ∧ u.route (src + 1) = s.route (src + 1)
      ∧
    u.pendingAt (bits v 4 0) src = (s.pendingAt (s.routeTarget src) src || s.pendingAt (bits v 4 0) src) ∧
      u.pendingAt (s.routeTarget src) src = false ∧
    SameRegs [Reg.CUEX_ROUTE k.val, Reg.CUEX_TGT_PEND (s.routeTarget src) (src / 32), Reg.CUEX_TGT_PEND (bits v 4 0)
      (src / 32), Reg.CUEX_TGT_NEXT (s.routeTarget src), Reg.CUEX_TGT_NEXT (bits v 4 0), Reg.CUEX_TGT_STATUS
      (s.routeTarget src), Reg.CUEX_TGT_STATUS (bits v 4 0)] s u ∧ u = { s with regs := u.regs }) ∧
  (∀ (w : Writer) (k : Fin 512) (v x : Word) (src : Nat) (s : State), (s.live 0x008 = true ∧ w ≠ .host ∧ 480 ≤ k.val
    ∧ src = 2 * k.val ∧ bits x 9 0 = src) → (bits v 4 0 ≤ 19 ∧ 19 < bits v 20 16 ∧ s.routeTarget src ≠ bits v 4 0 ∧
    s.routeTarget src ≤ 19) →
    Completes (.cuexRouteWrite w k v [.doorbell x]) s fun u => u.pendingAt (bits v 4 0) src = true ∧ u.pendingAt
      (s.routeTarget src) src = false ∧
    u = { s with regs := u.regs, cuex := u.cuex }) ∧
  (∀ (t : Fin 20) (g : Fin 32) (s : State), s.live 0x008 = true →
    Completes (.holdoffExpiry t g) s fun u => (t.val, g.val) ∉ u.cuex.holdoff ∧ (∀ h ∈ s.cuex.holdoff, h ≠ (t.val,
      g.val) → h ∈ u.cuex.holdoff) ∧
    SameRegs [Reg.CUEX_TGT_NEXT t.val, Reg.CUEX_TGT_STATUS t.val] s u ∧ u = { s with regs := u.regs, cuex := u.cuex })

/-- The prop room: requests, reference counts, enable, stop and halt (R556, R558, R584, R585, R586, R587, R588,
R590, R813). -/
def Obligations.PropRoom : Prop :=
  (∀ (r : Fin 64) (size : BitVec 27) (cls : Fin 8) (p i : Nat) (s : State), (s.poolShut = false ∧ s.enabled 0x018 =
    true ∧ windowOf r.val = none) → (1 ≤ size.toNat ∧ size.toNat ≤ 0x400000 ∧ (List.range 8).find? (fun p => Nat.ble
    size.toNat (poolSize p)) = some p) → (s.regN (heldReg r.val (poolInDram p)) + poolCharge p ≤ s.poolQuota r.val
    (poolInDram p) ∧ firstFree 1 (s.poolCount p) 0 (s.poolUsed p) = some i) →
    Completes (.poolRequest [] [⟨r, size, cls⟩]) s fun t => t.out = .poolAnswer r.val 0 (s.poolHandle (p * 2 ^ 21 +
      i)) :: s.out ∧
    t.poolBuf (p * 2 ^ 21 + i) = { s.poolBuf (p * 2 ^ 21 + i) with count := 1, owner := r.val, span := 1 } ∧
    (∀ k, k ≠ p * 2 ^ 21 + i → t.poolBuf k = s.poolBuf k) ∧ t.regN (heldReg r.val (poolInDram p)) = (s.regN (heldReg
      r.val (poolInDram p)) + poolCharge p) % 2 ^ 32 ∧
    t.reg Reg.POOL_ALLOCS = sat32 (s.regN Reg.POOL_ALLOCS + 1) ∧ SameMemoryOutside (s.bufAddr (p * 2 ^ 21 + i))
      (poolSize p) s t ∧
    SameRegs [Reg.POOL_FREE p, Reg.POOL_LOW p, heldReg r.val (poolInDram p), Reg.POOL_ALLOCS] s t ∧ t = { s with regs := t.regs, mem := t.mem, scrap := t.scrap, pool := t.pool, out := t.out, freeCtr := t.freeCtr }) ∧
  (∀ (r : Fin 64) (size : BitVec 27) (cls : Fin 8) (w : Nat) (s : State), (s.poolShut = false ∧ s.enabled 0x018 =
    true ∧ windowOf r.val = some w) → (size = 0 ∨ 0x4000000 < size.toNat) →
    exec (.poolRequest [] [⟨r, size, cls⟩]) s = .next ((s.setRegN (Reg.POOL_RESULT w) (1 + 16 * 3)).setRegN
      (Reg.POOL_HANDLE w) 0)) ∧
  (∀ (r : Fin 64) (h : Word) (tm : Nat) (so : BitVec 16) (k : Nat) (b : PoolBuf) (s : State), (s.poolShut = false ∧
    s.enabled 0x018 = true ∧ windowOf r.val = none) → (s.bufOf h.toNat = some k ∧ s.poolBuf k = b) →
    exec (.poolRefIncrement [⟨r, h, tm, so⟩]) s = .next (if b.count = 255 then (s.bump Reg.POOL_REF_OVERFLOWS
      1).emit (.poolAnswer r.val 4 255) else (s.setPoolBuf k { b with count := b.count + 1 }).emit (.poolAnswer
      r.val 0 (b.count + 1)))) ∧
  (∀ (r : Fin 64) (h : Word) (tm : Nat) (so : BitVec 16) (k : Nat) (b : PoolBuf) (s : State), (s.poolShut = false ∧
    s.enabled 0x018 = true ∧ windowOf r.val = none) → (s.bufOf h.toNat = some k ∧ s.poolBuf k = b ∧ b.count ≠ 1) →
    exec (.poolRefDecrement [⟨r, h, tm, so⟩]) s = .next ((s.setPoolBuf k { b with count := b.count - 1 }).emit
      (.poolAnswer r.val 0 (b.count - 1)))) ∧
  (∀ (r : Fin 64) (h : Word) (tm : Nat) (so : BitVec 16) (k : Nat) (b : PoolBuf) (s : State), (s.poolShut = false ∧
    s.enabled 0x018 = true ∧ windowOf r.val = none) → (s.bufOf h.toNat = some k ∧ s.poolBuf k = b ∧ b.count = 1 ∧
    b.span = 1 ∧ b.owner < 64) →
    Completes (.poolRefDecrement [⟨r, h, tm, so⟩]) s fun t => t.out = .poolAnswer r.val 0 0 :: s.out ∧ t.poolBuf k =
      { frees := b.frees + 1, count := 0, owner := 0, span := 1 } ∧
    t.poolGen k = s.poolGen k % 255 + 1 ∧ t.bufOf h.toNat = none ∧ t.regN (Reg.POOL_FREE (k / 2 ^ 21)) = (s.regN
      (Reg.POOL_FREE (k / 2 ^ 21)) + 1) % 2 ^ 32 ∧
    (∀ j, j ≠ k → t.poolBuf j = s.poolBuf j) ∧ SameRegs [Reg.POOL_FREE (k / 2 ^ 21), heldReg b.owner (poolInDram (k
      / 2 ^ 21))] s t ∧ t = { s with regs := t.regs, pool := t.pool, out := t.out }) ∧
  (∀ (r : Fin 64) (h : Word) (tm : Nat) (so : BitVec 16) (s : State), (s.poolShut = false ∧ s.enabled 0x018 = true ∧
    windowOf r.val = none ∧ s.bufOf h.toNat = none) →
    exec (.poolRefDecrement [⟨r, h, tm, so⟩]) s = .next ((s.bump Reg.POOL_STALE_GEN_DROPS 1).emit (.poolAnswer r.val
      5 0))) ∧
  (∀ (a b : PoolRefAsk) (s : State), (refOrder a ≠ refOrder b) →
    exec (.poolRefDecrement [a, b]) s = exec (.poolRefDecrement [b, a]) s ∧ exec (.poolRefIncrement [a, b]) s = exec
      (.poolRefIncrement [b, a]) s) ∧
  (∀ (a : PoolRefAsk) (asks : List PoolAsk) (s u : State), (exec (.poolRefDecrement [a]) s = .next u) →
    exec (.poolRequest [(false, a)] asks) s = exec (.poolRequest [] asks) u) ∧
  (∀ (s : State), (s.live 0x018 = true ∧ s.enabled 0x018 = false) →
    if s.poolsGood then Completes .poolEnable s fun t => t.enabled 0x018 = true ∧ (∀ p ∈ List.range 8, t.regN
      (Reg.POOL_FREE p) = s.poolCount p) ∧
    (∀ k ∈ s.pool.bufs.map (·.1), (t.poolBuf k).count = 0) ∧ (∀ r ∈ List.range 64, t.regN (Reg.POOL_HELD_PM r) = 0 ∧
      t.regN (Reg.POOL_HELD_DRAM r) = 0) ∧ t = { s with regs := t.regs, pool := t.pool }
    else exec .poolEnable s = .next ((s.setRbit (blkCtrl 0x018) 0 false).setRegN Reg.POOL_STATUS 6)) ∧
  (∀ (s : State), s.live 0x018 = true →
    exec .poolStop s = .next (s.setRbit (blkCtrl 0x018) 0 false)) ∧
  (∀ (s : State), s.live 0x018 = true →
    exec (.poolHalt [] []) s = .next (s.setRbit (blkCtrl 0x018) 0 false)) ∧
  (∀ (r q : Fin 64) (size : BitVec 27) (cls : Fin 8) (s : State), (s.live 0x018 = true ∧ windowOf r.val = none ∧
    windowOf q.val = none) →
    Completes (.poolHalt [⟨r, size, cls⟩] [q]) s fun t => t.out = .poolAnswer q.val 5 0 :: .poolAnswer r.val 1 0 ::
      s.out ∧ t.enabled 0x018 = false ∧
    t.reg Reg.POOL_REFUSE_EMPTY = sat32 (s.regN Reg.POOL_REFUSE_EMPTY + 1) ∧ SameRegs [blkCtrl 0x018,
      Reg.POOL_REFUSE_EMPTY] s t ∧ t = { s with regs := t.regs, out := t.out })

/-- A service FIFO is FULL as R593 says; a write while FULL is ignored and sets OVERRUN, a read of an empty FIFO
returns zero and sets UNDERRUN (R593). -/
def Obligations.FifoFullAndEmpty : Prop :=
  (∀ (f : Fin 16) (v : Word) (s : State), (s.live 0x018 = true ∧ s.rbit (Reg.FIFO_CFG f.val) 0 = true) → ((s.fifo
    f.val).fill.length = s.fld (Reg.FIFO_CFG f.val) 16 8 ∧ (s.fifo f.val).drain ≠ []) →
    (s.fifo f.val).full (s.fifoDepth f.val) = true ∧ exec (.fifoPush f v) s = .next (s.setRbit (Reg.FIFO_FLAGS
      f.val) 0 true)) ∧
  (∀ (f : Fin 16) (s : State), (s.live 0x018 = true ∧ (s.fifo f.val).fill = [] ∧ (s.fifo f.val).drain = []) →
    exec (.fifoPop f none) s = .next ((s.setRbit (Reg.FIFO_FLAGS f.val) 1 true).emit (.readData 0))) ∧
  (∀ (x : Fifo) (n : Nat),
    x.full n = true ↔ (x.fill.length = n ∧ x.drain ≠ []))

/-- Service FIFOs, the boundary FIFOs' overrun, and the check-value units (R592, R593, R594, R596, R597, R600, R601,
R602, R603, R604). -/
def Obligations.FifosAndCheckValues : Prop :=
  (∀ (f : Fin 16) (v : Word) (s : State), (s.live 0x018 = true ∧ s.rbit (Reg.FIFO_CFG f.val) 0 = true) → ((s.fifo
    f.val).full (s.fifoDepth f.val) = false) →
    Completes (.fifoPush f v) s fun t => t.fifo f.val = (if (s.fifo f.val).drain = [] then { fill := [], drain := (s.fifo f.val).fill ++ [v.toNat] }
      else { fill := (s.fifo f.val).fill ++ [v.toNat], drain := (s.fifo f.val).drain }) ∧
    (∀ g, g ≠ f.val → t.fifo g = s.fifo g) ∧ t.fld (Reg.FIFO_STATUS f.val) 17 8 = ((s.fifo f.val).level + 1) % 1024
      ∧ SameRegs [Reg.FIFO_STATUS f.val] s t ∧ t = { s with regs := t.regs, fifos := t.fifos }) ∧
  (∀ (f : Fin 16) (v : Nat) (r : List Nat) (s : State), (s.live 0x018 = true ∧ (s.fifo f.val).drain = v :: r) →
    Completes (.fifoPop f none) s fun t => t.out = .readData (BitVec.ofNat 32 v) :: s.out ∧ t.fifo f.val = (if r =
      [] then { fill := [], drain := (s.fifo f.val).fill } else { fill := (s.fifo f.val).fill, drain := r }) ∧
    (∀ g, g ≠ f.val → t.fifo g = s.fifo g) ∧ SameRegs [Reg.FIFO_STATUS f.val] s t ∧ t = { s with regs := t.regs, fifos := t.fifos, out := t.out }) ∧
  (∀ (f : Fin 16) (v : Nat) (r : List Nat) (x : Word) (s : State), (s.live 0x018 = true ∧ s.rbit (Reg.FIFO_CFG f.val)
    0 = true ∧ (s.fifo f.val).drain = v :: r ∧ (s.fifo f.val).full (s.fifoDepth f.val) = true) →
    Completes (.fifoPop f (some x)) s fun t => t.out = .readData (BitVec.ofNat 32 v) :: s.out ∧ t.fifo f.val = (if r
      = [] then { fill := [], drain := (s.fifo f.val).fill } else { fill := (s.fifo f.val).fill, drain := r }) ∧
    t.rbit (Reg.FIFO_FLAGS f.val) 0 = true ∧ (∀ g, g ≠ f.val → t.fifo g = s.fifo g) ∧ SameRegs [Reg.FIFO_STATUS
      f.val, Reg.FIFO_FLAGS f.val] s t ∧ t = { s with regs := t.regs, fifos := t.fifos, out := t.out }) ∧
  (∀ (f : Fin 16) (v : Nat) (r : List Nat) (x : Word) (s : State), (s.live 0x018 = true ∧ s.rbit (Reg.FIFO_CFG f.val)
    0 = true ∧ (s.fifo f.val).drain = v :: r ∧ (s.fifo f.val).full (s.fifoDepth f.val) = false ∧ s.fifoDepth f.val ≠
    0) →
    Completes (.fifoPop f (some x)) s fun t => t.out = .readData (BitVec.ofNat 32 v) :: s.out ∧ (t.fifo f.val).drain
      ++ (t.fifo f.val).fill = r ++ (s.fifo f.val).fill ++ [x.toNat] ∧
    (∀ g, g ≠ f.val → t.fifo g = s.fifo g) ∧ SameRegs [Reg.FIFO_STATUS f.val] s t ∧ t = { s with regs := t.regs, fifos := t.fifos, out := t.out }) ∧
  (∀ (f : Fin 16) (x : Word) (s : State), (s.live 0x018 = true ∧ s.rbit (Reg.FIFO_CFG f.val) 0 = true ∧ (s.fifo
    f.val).drain = [] ∧ (s.fifo f.val).fill = [] ∧ s.fifoDepth f.val ≠ 0) →
    Completes (.fifoPop f (some x)) s fun t => t.out = .readData 0 :: s.out ∧ (t.fifo f.val).drain ++ (t.fifo
      f.val).fill = [x.toNat] ∧ t.rbit (Reg.FIFO_FLAGS f.val) 1 = true ∧
    (∀ g, g ≠ f.val → t.fifo g = s.fifo g) ∧ SameRegs [Reg.FIFO_STATUS f.val, Reg.FIFO_FLAGS f.val] s t ∧ t = { s with regs := t.regs, fifos := t.fifos, out := t.out }) ∧
  (∀ (f : Fin 16) (v : Word) (s : State), (s.live 0x018 = true ∧ s.rbit (Reg.FIFO_CFG f.val) 0 = true ∧ bit v 0 =
    false) →
    Completes (.fifoCfgWrite f v) s fun t => t.fifo f.val = { fill := [], drain := [] } ∧ t.rbit (Reg.FIFO_CFG
      f.val) 0 = false ∧ t.fifoDepth f.val = s.fifoDepth f.val ∧
    (∀ g, g ≠ f.val → t.fifo g = s.fifo g) ∧ SameRegs [Reg.FIFO_CFG f.val, Reg.FIFO_STATUS f.val] s t ∧ t = { s with regs := t.regs, fifos := t.fifos }) ∧
  (∀ (f : Fin 16) (v : Word) (s : State), (s.live 0x018 = true ∧ s.rbit (Reg.FIFO_CFG f.val) 0 = false ∧ bit v 0 =
    false) →
    exec (.fifoCfgWrite f v) s = .next (s.setReg (Reg.FIFO_CFG f.val) (v &&& 0x1FF01))) ∧
  (∀ (d : Nat) (s : State),
    exec (.boundaryOverrun d) s = .next (s.raise 934 FaultKind.BOUNDARY_OVERRUN d)) ∧
  (∀ (w : Writer) (v : Word) (off c : Nat) (s : State), (s.live 0x019 = true ∧ off = bits v 22 6 * 64 ∧ c = s.memLE
    (poolBase + off + 2) 1 % 16 ∧ (s.cvuQueue c).length < 5) →
    Completes (.cvuJobPost [⟨w, v⟩]) s fun t => t.cvuQueue c = s.cvuQueue c ++ [CvuJob.mk (cvuClass w) off] ∧ (∀ d,
      d ≠ c → t.cvuQueue d = s.cvuQueue d) ∧
    t.fld (Reg.CVU_STATUS c) 3 0 = 1 + 2 * (s.cvuQueue c).length ∧ SameRegs [Reg.CVU_STATUS c] s t ∧ t = { s with regs := t.regs, cvu := t.cvu }) ∧
  (∀ (c : Fin 16) (j : CvuJob) (r : List CvuJob) (d : List Byte) (a res st : Nat) (s : State), (s.live 0x019 = true ∧
    s.cvuQueue c.val = j :: r ∧ d = s.pmBytes j.offset 64) → (cvuDescOk d = true ∧ s.cvuCfgOk c.val = true ∧
    j.poster = s.fld (Reg.CVU_OWNER c.val) 1 0 ∧ nbit (leAt d 3 1) 1 = false) → (s.cvuData d = .inl a) → (res =
    crcOf (s.fld (Reg.CVU_CFG c.val) 6 0) (s.reg64 (Reg.CVU_POLY_LO c.val)) (s.reg64 (Reg.CVU_INIT_LO c.val))
    (s.reg64 (Reg.CVU_XOROUT_LO c.val)) (s.rbit (Reg.CVU_CFG c.val) 7) (s.rbit (Reg.CVU_CFG c.val) 8) (s.memBytes a
    (leAt d 24 3))) → (st = (if nbit (leAt d 3 1) 0 = true ∧ res ≠ leAt d 32 8 % 2 ^ s.fld (Reg.CVU_CFG c.val) 6 0
    then 1 else 0)) →
    Completes (.cvuJobRun c) s fun t => t.cvuQueue c.val = r ∧ (∀ e, e ≠ c.val → t.cvuQueue e = s.cvuQueue e) ∧
    t.pmBytes (j.offset + 40) 11 = leBytes 8 res ++ leBytes 2 st ++ [1] ∧ t.reg64 (Reg.CVU_RESULT_LO c.val) = res %
      2 ^ 64 ∧
    t.fld (Reg.CVU_STATUS c.val) 15 8 = st ∧ t.reg (Reg.CVU_JOBS c.val) = sat32 (s.regN (Reg.CVU_JOBS c.val) + 1) ∧
    t.reg (Reg.CVU_MISMATCHES c.val) = (if st = 1 then sat32 (s.regN (Reg.CVU_MISMATCHES c.val) + 1) else s.reg
      (Reg.CVU_MISMATCHES c.val)) ∧
    SameMemoryOutside (poolBase + j.offset + 40) 11 s t ∧ t = { s with regs := t.regs, mem := t.mem, cvu := t.cvu }) ∧
  (∀ (w : Writer) (c : Fin 16) (v : Word) (s : State), s.live 0x019 = true →
    exec (.cvuCounterCfgWrite w c v) s = .next (if cvuClass w = s.fld (Reg.CVU_OWNER c.val) 1 0 then (s.setReg
      (Reg.CVU_COUNTER_CFG c.val) (v &&& 0x00FFFF1F)).setRbit (Reg.CVU_LAST_COUNTER c.val) 16 false else s))

/-- DRAM requests: acceptance in order, data of the latest write, what is issued next (R610, R612, R613, R614, R616,
R633, R634). -/
def Obligations.DramRequests : Prop :=
  (∀ (n : Fin 4) (q : DramAsk) (a : Nat) (d : List Byte) (s : State), (DramServes s n.val ∧ a = q.addr.toNat / 64 *
    64 ∧ a < s.dramSize ∧ chanOf a = n.val) → (q.write = some d ∧ d.length = 64 ∧ (s.dram n.val).writes.length < 64)
    → (∀ i ∈ List.range 64, s.fencedOff q.writer.val (a + i) = false) →
    Completes (.dramRequestAccept n [q]) s fun t => t.memBytes a 64 = d ∧ SameMemoryOutside a 64 s t ∧
    t.dram n.val = { s.dram n.val with writes := (s.dram n.val).writes ++ [{ write := true, addr := a, cls := q.cls.val, noBreak := q.noBreak, source := q.source.toNat, at_ := s.now, promoted := false, data := [] }] }
      ∧
    OnlyDram n.val s t ∧ t = { s with mem := t.mem, drams := t.drams }) ∧
  (∀ (n : Fin 4) (q : DramAsk) (a : Nat) (s : State), (DramServes s n.val ∧ a = q.addr.toNat / 64 * 64 ∧ a <
    s.dramSize ∧ chanOf a = n.val) → (q.write = none ∧ (s.dram n.val).reads.length < 64) →
    Completes (.dramRequestAccept n [q]) s fun t =>
    (t.dram n.val).reads = (s.dram n.val).reads ++ [{ write := false, addr := a, cls := q.cls.val, noBreak := q.noBreak, source := q.source.toNat, at_ := s.now, promoted := false, data := s.memBytes a 64 }]
      ∧
    (t.dram n.val).writes = (s.dram n.val).writes ∧ OnlyDram n.val s t ∧ t = { s with drams := t.drams }) ∧
  (∀ (n : Fin 4) (q r : DramAsk) (s : State), (q.port < r.port) →
    exec (.dramRequestAccept n [r, q]) s = exec (.dramRequestAccept n [q, r]) s) ∧
  (∀ (n : Fin 4) (q : DramAsk) (a : Nat) (s : State), (s.live (0x010 + n.val) = true ∧ s.dramState n.val ≠ 3 ∧ a =
    q.addr.toNat / 64 * 64 ∧ a < s.dramSize ∧ chanOf a = n.val) →
    exec (.dramRequestAccept n [q]) s = .next (s.aborted q.source.toNat a)) ∧
  (∀ (n : Fin 4) (q : DramAsk) (a : Nat) (s : State), (DramServes s n.val ∧ a = q.addr.toNat / 64 * 64 ∧ a <
    s.dramSize ∧ chanOf a = n.val) → (q.write.isSome = true ∧ (s.dram n.val).writes.length < 64) → (∃ f ∈ List.range
    4, s.rbit (Reg.DRAM_FENCE_WRITERS f) 0 = true ∧ s.fld (Reg.DRAM_FENCE_BASE f) 27 0 ≤ a / 4096 ∧ a / 4096 ≤ s.fld
    (Reg.DRAM_FENCE_LIMIT f) 27 0 ∧ s.rbit (Reg.DRAM_FENCE_WRITERS f) (8 + q.writer.val) = false) →
    Completes (.dramRequestAccept n [q]) s fun t => (∀ b, t.mem8 b = s.mem8 b) ∧ (t.dram n.val).writes.length =
      (s.dram n.val).writes.length + 1 ∧
    t.regN Reg.TRUST_FENCE_LAST_LO = a % 2 ^ 32 ∧ t.regN Reg.TRUST_FENCE_LAST_HI = a / 2 ^ 32 % 256 + 256 *
      q.writer.val ∧
    SameRegs ([Reg.TRUST_FENCE_VIOLATIONS, Reg.TRUST_FENCE_LAST_LO, Reg.TRUST_FENCE_LAST_HI] ++ faultRegs
      FaultKind.FENCE_VIOLATION) s t ∧ OnlyDram n.val s t ∧ t = { s with regs := t.regs, fc := t.fc, drams := t.drams }) ∧
  (∀ (n : Fin 4) (sub : Fin 2) (d1 d2 : Bool) (x : DramCh) (s : State), (DramServes s n.val ∧ DramQuiet s n.val
    sub.val ∧ x = s.dram n.val ∧ s.ordered n.val = false) → (sub.val ∉ x.drain ∧ x.writes.length < s.fld
    (Reg.DRAM_WQ n.val) 5 0 ∧ ∃ r ∈ x.reads, s.subOf n.val r = sub.val) →
    Completes (.dramIssue n sub d1 d2) s fun t => (∃ r ∈ x.reads, s.subOf n.val r = sub.val ∧
    (s.rowOpen n.val r = true ∨ (∀ y ∈ x.reads, s.subOf n.val y = sub.val → s.rowOpen n.val y = false) ∧
      x.reads.find? (fun y => s.subOf n.val y == sub.val) = some r) ∧
    (t.dram n.val).reads = x.reads.erase r ∧ (t.dram n.val).writes = x.writes.erase r ∧ (r.write = false → t.out =
      .dramData n.val r.addr r.data :: s.out)) ∧
    SameRegs [Reg.DRAM_NBR_REFRESHES n.val, Reg.DRAM_READS n.val, Reg.DRAM_WRITES n.val, Reg.DRAM_MAX_READ_WAIT
      n.val] s t ∧ OnlyDram n.val s t ∧ t = { s with regs := t.regs, drams := t.drams, out := t.out }) ∧
  (∀ (n : Fin 4) (sub : Fin 2) (d1 d2 : Bool) (x : DramCh) (l : List DramReq) (s : State), (DramServes s n.val ∧
    DramQuiet s n.val sub.val ∧ x = s.dram n.val ∧ s.ordered n.val = true ∧ s.retraining n.val = false) → (l =
    (x.reads ++ x.writes).filter (fun r => s.subOf n.val r == sub.val) ∧ l ≠ []) →
    Completes (.dramIssue n sub d1 d2) s fun t => (∃ r ∈ l, (∀ y ∈ l, r.cls < y.cls ∨ r.cls = y.cls ∧ r.at_ ≤ y.at_)
      ∧
    (t.dram n.val).reads = x.reads.erase r ∧ (t.dram n.val).writes = x.writes.erase r ∧ (r.write = false → t.out =
      .dramData n.val r.addr r.data :: s.out)) ∧
    SameRegs [Reg.DRAM_NBR_REFRESHES n.val, Reg.DRAM_READS n.val, Reg.DRAM_WRITES n.val, Reg.DRAM_MAX_READ_WAIT
      n.val, Reg.DRAM_PROMOTIONS n.val] s t ∧ OnlyDram n.val s t ∧ t = { s with regs := t.regs, drams := t.drams, out := t.out })

/-- Refresh: postponed, issued, owed, and what a change of the MR4 rate does to the debt (R618, R620, R621, R622,
R623, R624, R633). -/
def Obligations.DramRefresh : Prop :=
  (∀ (n : Fin 4) (sub : Fin 2) (s : State), (DramServes s n.val ∧ s.noBreak n.val sub.val = true ∧ s.debt n.val
    sub.val < s.subLimit n.val sub.val) →
    Completes (.refreshDue n sub) s fun t => t.debt n.val sub.val = s.debt n.val sub.val + 1 ∧
    (∀ i ∈ List.range 32, i / 4 ≠ 2 + sub.val → t.rbit (Reg.DRAM_STATUS n.val) i = s.rbit (Reg.DRAM_STATUS n.val) i)
      ∧
    SameRegs [Reg.DRAM_STATUS n.val] s t ∧ t = { s with regs := t.regs }) ∧
  (∀ (n : Fin 4) (sub : Fin 2) (s : State), (DramServes s n.val ∧ (s.noBreak n.val sub.val = false ∨ s.subLimit n.val
    sub.val ≤ s.debt n.val sub.val)) →
    Completes (.refreshDue n sub) s fun t => t.regN (Reg.DRAM_REFRESHES n.val) = min (s.regN (Reg.DRAM_REFRESHES
      n.val) + 1) 0xFFFFFFFF ∧
    (∀ p ∈ (t.dram n.val).rows, p.1 / 64 ≠ sub.val) ∧ SameRegs [Reg.DRAM_REFRESHES n.val] s t ∧ OnlyDram n.val s t ∧
      t = { s with regs := t.regs, drams := t.drams }) ∧
  (∀ (n : Fin 4) (sub : Fin 2) (d1 d2 : Bool) (s : State), (DramServes s n.val ∧ 0 < s.debt n.val sub.val ∧ ∀ r ∈
    (s.dram n.val).reads ++ (s.dram n.val).writes, s.subOf n.val r ≠ sub.val) →
    Completes (.dramIssue n sub d1 d2) s fun t => t.debt n.val sub.val = s.debt n.val sub.val - 1 ∧
    t.regN (Reg.DRAM_REFRESHES n.val) = min (s.regN (Reg.DRAM_REFRESHES n.val) + 1) 0xFFFFFFFF ∧ (∀ p ∈ (t.dram
      n.val).rows, p.1 / 64 ≠ sub.val) ∧
    SameRegs [Reg.DRAM_STATUS n.val, Reg.DRAM_REFRESHES n.val] s t ∧ OnlyDram n.val s t ∧ t = { s with regs := t.regs, drams := t.drams }) ∧
  (∀ (n : Fin 4) (a b : DieMr4) (s : State), (DramServes s n.val ∧ s.rbit (Reg.DRAM_CFG n.val) 6 = false ∧ s.subRate
    n.val 0 = 0 ∧ s.subRate n.val 1 = 0) → (a.rate = 1 ∧ b.rate = 0 ∧ s.debt n.val 0 ≤ s.fld (Reg.DRAM_STATUS n.val)
    19 16) →
    Completes (.mr4Poll n [a, b]) s fun t => t.debt n.val 0 = min (2 * s.debt n.val 0) (s.fld (Reg.DRAM_STATUS
      n.val) 19 16 / 2) ∧ t.debt n.val 1 = s.debt n.val 1 ∧
    t.subLimit n.val 0 = s.fld (Reg.DRAM_STATUS n.val) 19 16 / 2 ∧
    t.regN (Reg.DRAM_FORCED_PAYS n.val) = min (s.regN (Reg.DRAM_FORCED_PAYS n.val) + b2n (s.fld (Reg.DRAM_STATUS
      n.val) 19 16 / 2 < 2 * s.debt n.val 0)) 0xFFFFFFFF ∧
    t.regN (Reg.DRAM_MR4 n.val) = a.value.toNat + 256 * b.value.toNat ∧
    SameRegs [Reg.DRAM_STATUS n.val, Reg.DRAM_MR4 n.val, Reg.DRAM_FORCED_PAYS n.val, Reg.DRAM_MAX_PREEMPT n.val,
      Reg.DRAM_REFRESHES n.val] s t ∧ OnlyDram n.val s t ∧ t = { s with regs := t.regs, drams := t.drams }) ∧
  (∀ (n : Fin 4) (a b : DieMr4) (s : State), (DramServes s n.val ∧ s.rbit (Reg.DRAM_CFG n.val) 6 = false ∧ s.subRate
    n.val 0 = 1 ∧ s.subRate n.val 1 = 0) → (a.rate = 0 ∧ b.rate = 0) →
    Completes (.mr4Poll n [a, b]) s fun t => t.debt n.val 0 = (s.debt n.val 0 + 1) / 2 ∧ t.debt n.val 1 = s.debt
      n.val 1 ∧ t.subRate n.val 0 = 0 ∧
    SameRegs [Reg.DRAM_STATUS n.val, Reg.DRAM_MR4 n.val] s t ∧ OnlyDram n.val s t ∧ t = { s with regs := t.regs, drams := t.drams }) ∧
  (∀ (n : Fin 4) (a b : DieMr4) (s : State), (DramServes s n.val ∧ s.rbit (Reg.DRAM_CFG n.val) 6 = false ∧ s.subRate
    n.val 0 = 0 ∧ s.subRate n.val 1 ≠ 2) → (a.rate = 0 ∧ b.rate = 2) →
    Completes (.mr4Poll n [a, b]) s fun t => t.debt n.val 1 = 0 ∧ t.debt n.val 0 = s.debt n.val 0 ∧ t.subRate n.val
      1 = 2 ∧ t.subLimit n.val 1 = 0 ∧
    t.fc = (s.raise (928 + n.val) FaultKind.DRAM_HOT 1).fc ∧
    SameRegs ([Reg.DRAM_STATUS n.val, Reg.DRAM_MR4 n.val, Reg.DRAM_REFRESHES n.val] ++ faultRegs FaultKind.DRAM_HOT)
      s t ∧ OnlyDram n.val s t ∧ t = { s with regs := t.regs, fc := t.fc, drams := t.drams })

/-- A DRAM channel: trained, retrained, stopped, halted, enabled again; the measured ratio (R608, R619, R626, R627,
R630, R633, R634). -/
def Obligations.DramChannels : Prop :=
  (∀ (n m : Fin 4) (s : State), (s.live (0x010 + n.val) = true ∧ (s.dramState n.val = 1 ∨ s.dramState n.val = 2)) →
    (m ≠ n ∧ (s.dramState m.val = 1 ∨ s.dramState m.val = 2)) →
    Completes (.dramTrainingDone n .trained) s fun t => t.dramState n.val = 3 ∧ t.fld (Reg.DRAM_STATUS n.val) 19 16
      = s.postponeEff n.val ∧ SameRegs [Reg.DRAM_STATUS n.val] s t ∧ t = { s with regs := t.regs }) ∧
  (∀ (n : Fin 4) (s : State), (s.live (0x010 + n.val) = true ∧ (s.dramState n.val = 1 ∨ s.dramState n.val = 2)) → (∀
    m ∈ List.range 4, m ≠ n.val → s.dramState m ≠ 1 ∧ s.dramState m ≠ 2) →
    Completes (.dramTrainingDone n .trained) s fun t => t.dramState n.val = 3 ∧ t.rc = { s.rc with notReady := s.rc.notReady.filter (· != 4) }
      ∧
    SameRegs [Reg.DRAM_STATUS n.val, Reg.RESET_STATUS, Reg.RESET_ASSERTED] s t ∧ t = { s with regs := t.regs, rc := t.rc }) ∧
  (∀ (n : Fin 4) (s : State), (s.live (0x010 + n.val) = true ∧ (s.dramState n.val = 1 ∨ s.dramState n.val = 2)) →
    Completes (.dramTrainingDone n .initialised) s fun t => t.dramState n.val = 2 ∧ SameRegs [Reg.DRAM_STATUS n.val]
      s t ∧ t = { s with regs := t.regs }) ∧
  (∀ (n : Fin 4) (s : State), (s.live (0x010 + n.val) = true ∧ (s.dramState n.val = 1 ∨ s.dramState n.val = 2) ∧
    (s.dram n.val).tries < 3) →
    Completes (.dramTrainingDone n .failed) s fun t => t.dramState n.val = 1 ∧ (t.dram n.val).tries = (s.dram
      n.val).tries + 1 ∧
    t.fc = (s.raise (928 + n.val) FaultKind.DRAM_TRAIN_FAIL 0).fc ∧ SameRegs (Reg.DRAM_STATUS n.val :: faultRegs
      FaultKind.DRAM_TRAIN_FAIL) s t ∧ OnlyDram n.val s t ∧ t = { s with regs := t.regs, fc := t.fc, drams := t.drams }) ∧
  (∀ (n : Fin 4) (s : State), (DramServes s n.val ∧ s.rbit (Reg.DRAM_RETRAIN n.val) 16 = true ∧ s.noBreak n.val 0 =
    false ∧ s.noBreak n.val 1 = false) →
    exec (.retrainPause n false) s = .next ((s.modDram n.val fun x => { x with pause := none }).bump
      (Reg.DRAM_RETRAINS n.val) 1)) ∧
  (∀ (n : Fin 4) (s : State), (DramServes s n.val ∧ s.rbit (Reg.DRAM_RETRAIN n.val) 16 = true ∧ s.noBreak n.val 0 =
    false ∧ s.noBreak n.val 1 = false) →
    Completes (.retrainPause n true) s fun t => t.ordered n.val = true ∧ t.regN (Reg.DRAM_RETRAINS n.val) = min
      (s.regN (Reg.DRAM_RETRAINS n.val) + 1) 0xFFFFFFFF ∧
    t.fc = (s.raise (928 + n.val) FaultKind.DRAM_TRAIN_FAIL 0).fc ∧ SameRegs (Reg.DRAM_RETRAINS n.val :: faultRegs
      FaultKind.DRAM_TRAIN_FAIL) s t ∧ OnlyDram n.val s t ∧ t = { s with regs := t.regs, fc := t.fc, drams := t.drams }) ∧
  (∀ (n : Fin 4) (s : State), (s.live (0x010 + n.val) = true ∧ (s.dram n.val).failed = true ∧ (s.dram n.val).tries <
    3) →
    Completes (.fullRetrainDone n true) s fun t => t.dram n.val = { s.dram n.val with failed := false } ∧ OnlyDram
      n.val s t ∧ t = { s with drams := t.drams }) ∧
  (∀ (n : Fin 4) (ok : Bool) (s : State), (s.live (0x010 + n.val) = true ∧ (s.dram n.val).failed = true ∧ 2 ≤ (s.dram
    n.val).tries ∧ (ok = true → 3 ≤ (s.dram n.val).tries)) →
    Completes (.fullRetrainDone n ok) s fun t => (t.dram n.val).failed = true ∧ 3 ≤ (t.dram n.val).tries ∧ OnlyDram
      n.val s t ∧ t = { s with drams := t.drams }) ∧
  (∀ (n : Fin 4) (s : State), (DramServes s n.val) →
    Completes (.dramStop n) s fun t => t.dramState n.val = 4 ∧ (t.dram n.val).reads = [] ∧ (t.dram n.val).writes =
      [] ∧ t.debt n.val 0 = 0 ∧ t.debt n.val 1 = 0 ∧
    t.enabled (0x010 + n.val) = false ∧ (∀ r ∈ (s.dram n.val).reads, r.write = false → .dramData n.val r.addr r.data
      ∈ t.out) ∧
    SameRegs [Reg.DRAM_STATUS n.val, blkCtrl (0x010 + n.val), Reg.DRAM_REFRESHES n.val, Reg.DRAM_NBR_REFRESHES
      n.val, Reg.DRAM_READS n.val, Reg.DRAM_WRITES n.val, Reg.DRAM_MAX_READ_WAIT n.val] s t ∧ OnlyDram n.val s t ∧ t
      = { s with regs := t.regs, drams := t.drams, out := t.out, freeCtr := t.freeCtr }) ∧
  (∀ (n : Fin 4) (s : State), (DramServes s n.val) →
    Completes (.dramHalt n) s fun t => t.dramState n.val = 4 ∧ (t.dram n.val).reads = [] ∧ (t.dram n.val).writes =
      [] ∧ t.enabled (0x010 + n.val) = false ∧
    t.out = ((s.dram n.val).reads ++ (s.dram n.val).writes).map (fun _ => .completion 1) ++ s.out ∧
    SameRegs ([Reg.DRAM_STATUS n.val, blkCtrl (0x010 + n.val)] ++ faultRegs FaultKind.REQ_ABORTED) s t ∧ OnlyDram
      n.val s t ∧ t = { s with regs := t.regs, fc := t.fc, drams := t.drams, out := t.out }) ∧
  (∀ (n : Fin 4) (s : State), (s.live (0x010 + n.val) = true ∧ s.dramState n.val = 4 ∧ s.dramBad n.val = false) →
    Completes (.dramEnable n) s fun t => t.dramState n.val = 3 ∧ t.enabled (0x010 + n.val) = true ∧ t.fld
      (Reg.DRAM_STATUS n.val) 19 16 = s.postponeEff n.val ∧
    t.regN (Reg.DRAM_RETRAINS n.val) = min (s.regN (Reg.DRAM_RETRAINS n.val) + 1) 0xFFFFFFFF ∧ SameRegs
      [Reg.DRAM_STATUS n.val, blkCtrl (0x010 + n.val), Reg.DRAM_RETRAINS n.val] s t ∧ t = { s with regs := t.regs }) ∧
  (∀ (n i : Fin 4) (s : State), (s.live (0x010 + n.val) = true ∧ s.dramState n.val = 4 ∧ s.fld (Reg.DRAM_CFG i.val) 6
    4 ≠ s.fld (Reg.DRAM_CFG 0) 6 4) →
    Completes (.dramEnable n) s fun t => t.regN (Reg.DRAM_CFG_STATUS n.val) = 1 ∧ t.enabled (0x010 + n.val) = false
      ∧ SameRegs [Reg.DRAM_CFG_STATUS n.val, blkCtrl (0x010 + n.val)] s t ∧ t = { s with regs := t.regs }) ∧
  (∀ (s : State), (s.live 0x010 = true ∧ s.admittedCtxs = [] ∧ ∀ n ∈ List.range 4, 0 < (s.dram n).sect ∧ (s.dram
    n).raw ≤ 3 * (s.dram n).sect) →
    Completes .compressionRatioUpdate s fun t => (∀ n ∈ List.range 4, t.regN (Reg.DRAM_RATIO n) = 256 * (s.dram
      n).raw / (s.dram n).sect ∧ t.dram n = { s.dram n with raw := 0, sect := 0 }) ∧
    t.regN Reg.LEDGER_DRAM_RATIO = 256 * sumOf (fun n => (s.dram n).raw) (List.range 4) / sumOf (fun n => (s.dram
      n).sect) (List.range 4) ∧
    SameRegs (Reg.LEDGER_DRAM_RATIO :: (List.range 4).map Reg.DRAM_RATIO ++ sumRegs) s t ∧ t = { s with regs := t.regs, drams := t.drams })

/-- A compressed block reads back as the samples it was coded from; addresses are told apart (R610, R611, R629). -/
def Obligations.CompressedBlocks : Prop :=
  (∀ (d : Nat) (b : List Nat), (1 ≤ d ∧ d ≤ 12 ∧ b.length = 64 ∧ ∀ v ∈ b, v < 2 ^ d) →
    blockRead d (blockCode d b).1 (blockCode d b).2 = b) ∧
  (∀ (d : Nat) (b : List Nat), (1 ≤ d ∧ d ≤ 12 ∧ b.length = 64 ∧ ∀ v ∈ b, v < 2 ^ d) →
    (blockCode d b).2 < 2 ^ (256 * ((blockCode d b).1 / 16)) ∧ 1 ≤ (blockCode d b).1 / 16 ∧ (blockCode d b).1 / 16 ≤
      3 ∧ ((∀ v ∈ b, v = b.getD 0 0) → (blockCode d b).1 = 16)) ∧
  (∀ (a b : Nat), (chanOf a = chanOf b ∧ chanAddr a = chanAddr b) →
    a = b) ∧
  (∀ (o r : Nat) (two : Bool) (a b : Nat), (o < 3 ∧ 14 ≤ r ∧ r ≤ 17 ∧ a < 2 ^ (16 + r + b2n two) ∧ b < 2 ^ (16 + r +
    b2n two)) → (placeOf o r two a = placeOf o r two b) →
    a / 64 = b / 64)

/-- Reset sources: what each holds, keeps and counts; balls, supplies, watchdogs, pulses and kicks (R640, R641,
R642, R643, R646, R679, R790, R791, R792). -/
def Obligations.ResetSources : Prop :=
  (∀ (s : State), (s.rc.held = [] ∧ s.rc.asserted = []) →
    Completes .rstNAssert s fun t => FullReset .rstN s t ∧ t.rc.rstN = false) ∧
  (∀ (s : State), (s.rc.held = [] ∧ s.rc.asserted = []) →
    Completes .prompterWatchdog s fun t => FullReset .pwd s t) ∧
  (∀ (s : State), (s.rc.held = [] ∧ s.rc.asserted = []) →
    Completes .prompterLockstep s fun t => FullReset .lockstep s t) ∧
  (∀ (s : State), (s.rc.held = [] ∧ s.rc.asserted = [] ∧ s.inReset 0x001 = false) →
    Completes (.softFull .prompter) s fun t => FullReset .softFull s t) ∧
  (∀ (s : State), (ResetSource.powerOn ∉ s.rc.asserted ∧ s.rc.held = []) →
    Completes .supplyDip s fun t => ColdReset s t ∧ ResetSource.pwd ∉ t.rc.asserted) ∧
  (∀ (s : State), (ResetSource.powerOn ∉ s.rc.asserted ∧ s.rc.held = []) →
    Completes .supplyRemove s fun t => ColdReset s t ∧ .ball 0 false ∈ t.out ∧ ∀ n ∈ List.range 4, .ball
      (ballDramReset n) false ∈ t.out) ∧
  (∀ (s : State), (s.rc.held = [] ∧ s.rc.asserted = []) →
    Completes .perstNAssert s fun t => PartReset 9 10 s t ∧ t.rc = { s.rc with perstN := false, held := [9, 10], asserted := [.perstN] }
      ∧
    t.pcie = Pcie.init ∧ t.host = HostCtl.init ∧ t.dma = [] ∧ t.trust = s.trust ∧ t.regN Reg.RESET_COUNT_PERST = min
      (s.regN Reg.RESET_COUNT_PERST + 1) 0xFFFFFFFF) ∧
  (∀ (s : State), (s.rc.held = [] ∧ s.rc.asserted = [] ∧ s.inReset 0x001 = false ∧ s.fld Reg.REH_STATUS 2 0 = 0) →
    Completes (.smReset .prompter) s fun t => PartReset 10 11 s t ∧ t.rc = { s.rc with smKick := none, held := [10, 11], asserted := [.smReset] }
      ∧
    t.pcie = s.pcie ∧ t.host = HostCtl.init ∧ t.dma = [] ∧ t.trust.posts = [] ∧ t.regN Reg.RESET_COUNT_SMWD = min
      (s.regN Reg.RESET_COUNT_SMWD + 1) 0xFFFFFFFF) ∧
  (∀ (s : State), (s.rc.held = [] ∧ s.rc.asserted = [] ∧ s.fld Reg.REH_STATUS 2 0 = 0) →
    Completes .smWatchdog s fun t => PartReset 10 11 (s.raise 502 FaultKind.SM_WATCHDOG 0) t ∧
    t.rc = { s.rc with smKick := none, held := [10, 11], asserted := [.smwd] }) ∧
  (∀ (s : State), (ResetSource.powerOn ∈ s.rc.asserted) →
    Completes .supplyRampDone s fun t => t.rc = { s.rc with powered := true, asserted := s.rc.asserted.erase .powerOn }
      ∧
    SameRegs [Reg.RESET_STATUS, Reg.RESET_ASSERTED] s t ∧ t = { s with regs := t.regs, rc := t.rc }) ∧
  (∀ (s : State), (ResetSource.rstN ∈ s.rc.asserted) →
    Completes .rstNRelease s fun t => t.rc = { s.rc with rstN := true, asserted := s.rc.asserted.erase .rstN } ∧
    SameRegs [Reg.RESET_STATUS, Reg.RESET_ASSERTED] s t ∧ t = { s with regs := t.regs, rc := t.rc }) ∧
  (∀ (s : State), (ResetSource.perstN ∈ s.rc.asserted) →
    Completes .perstNRelease s fun t => t.rc = { s.rc with perstN := true, asserted := s.rc.asserted.erase .perstN }
      ∧
    SameRegs [Reg.RESET_STATUS, Reg.RESET_ASSERTED] s t ∧ t = { s with regs := t.regs, rc := t.rc }) ∧
  (∀ (v : BitVec 9) (s : State),
    Completes (.resetPulseEnd v) s fun t => t.rc = { s.rc with asserted := s.rc.asserted.filter fun x => !(x.pulse && x.bit.any fun n => v.getLsbD n) }
      ∧ SameRegs [Reg.RESET_STATUS, Reg.RESET_ASSERTED] s t ∧ t = { s with regs := t.regs, rc := t.rc }) ∧
  (∀ (v : Word) (s : State), (s.live 0x001 = true ∧ s.domainHeld 3 = false) →
    Completes (.resetPwdKick .prompter v) s fun t => t.rc = { s.rc with pwdStart := s.now } ∧ SameRegs
      [Reg.RESET_PWD_KICK] s t ∧ t = { s with regs := t.regs, rc := t.rc }) ∧
  (∀ (n : Fin 4) (v : Word) (s : State), (s.live 0x001 = true ∧ s.domainHeld 11 = false ∧ (bits v 7 0 = 0x5A ∨ bits v
    7 0 = 0xA5)) →
    exec (.resetSmwdKick (.stageManager n) v) s = .next (if s.rc.smKick = some (bits v 7 0) then s else
    { s with rc := { s.rc with smKick := some (bits v 7 0), smwdStart := s.now } })) ∧
  (∀ (w : Writer) (v : Word) (s : State), ((bits v 7 0 ≠ 0x5A ∧ bits v 7 0 ≠ 0xA5) ∨ w = .host ∨ w = .prompter) →
    exec (.resetSmwdKick w v) s = .next s)

/-- Domains are released in their order, and each release brings up what the table of R645 gives it (R388, R636,
R645, R646, R656, R658, R660, R662, R667, R676, R679). -/
def Obligations.DomainRelease : Prop :=
  (∀ (f : ReleaseFacts) (p : Nat) (s : State), (p ∈ s.rc.held ∧ (∀ q ∈ s.rc.held, p ≤ q) ∧ s.rc.notReady = [] ∧
    s.reached p = false ∧ p ≠ 9) →
    Completes (.domainRelease f) s fun t => t.rc.held = s.rc.held.filter (· != p) ∧ t.rc.asserted = s.rc.asserted ∧
      t.tb = s.tb ∧ t.ctxs = s.ctxs ∧ t.host = s.host ∧
    t.otp = s.otp ∧ t.flash = s.flash ∧ t.hostMem = s.hostMem) ∧
  (∀ (f : ReleaseFacts) (s : State), (9 ∈ s.rc.held ∧ (∀ q ∈ s.rc.held, 9 ≤ q) ∧ 10 ∈ s.rc.held ∧ s.rc.notReady = []
    ∧ s.reached 9 = false ∧ s.reached 10 = false) →
    Completes (.domainRelease f) s fun t => t.rc.held = s.rc.held.filter (fun q => q != 9 && q != 10) ∧
      t.rc.asserted = s.rc.asserted) ∧
  (∀ (f : ReleaseFacts) (s : State), (2 ∉ s.rc.notReady ∧ 5 ∉ s.rc.notReady) → (s.rc.notReady ≠ [] ∨ s.rc.held = [] ∨
    ∃ p ∈ s.rc.held, (∀ q ∈ s.rc.held, p ≤ q) ∧ s.reached p = true) →
    exec (.domainRelease f) s = .next s) ∧
  (∀ (f : ReleaseFacts) (s : State), (2 ∈ s.rc.held ∧ (∀ q ∈ s.rc.held, 2 ≤ q) ∧ s.rc.notReady = [] ∧ s.reached 2 =
    false ∧ 0 ∈ f.absent) →
    Completes (.domainRelease f) s fun t => t.fld Reg.OPT_STATUS 2 0 = 1 ∧ t.fld Reg.OPT_STATUS 5 4 = 1 ∧ t.rbit
      Reg.OPT_STATUS 10 = true ∧
    t.fld Reg.OPT_LOADS 7 0 = min 255 (s.fld Reg.OPT_LOADS 7 0 + 1) ∧ 2 ∉ t.rc.held ∧ t.rc.notReady = [2]) ∧
  (∀ (f : ReleaseFacts) (s : State), (2 ∈ s.rc.notReady ∧ s.fld Reg.OPT_STATUS 5 4 = 2 ∧ 2 ∈ f.absent) →
    Completes (.domainRelease f) s fun t => t.fld Reg.OPT_STATUS 2 0 = 4 ∧ t.rbit Reg.OPT_STATUS 10 = true ∧
    t.fld Reg.OPT_LOADS 7 0 = min 255 (s.fld Reg.OPT_LOADS 7 0 + 1) ∧ t.regN Reg.RESET_PWD_CFG = 100 ∧ t.regN
      Reg.RESET_SMWD_CFG = 500 ∧
    (∀ i ∈ List.range 9, t.regN (Reg.RESET_GAP i) = 250) ∧ t.rc = { s.rc with notReady := s.rc.notReady.filter (· != 2) }) ∧
  (∀ (f : ReleaseFacts) (s : State), (5 ∈ s.rc.notReady ∧ 2 ∉ s.rc.notReady ∧ s.fld Reg.UC_LOAD_STATUS 3 0 = 3) →
    Completes (.domainRelease f) s fun t => t.fld Reg.UC_LOAD_STATUS 3 0 = 5 ∧ t.copyBase % 4096 = 0 ∧ t.regN
      (Reg.DRAM_FENCE_BASE 0) = t.copyBase / 4096 ∧
    t.regN (Reg.DRAM_FENCE_LIMIT 0) = t.copyBase / 4096 + 0x2B ∧ t.rbit (Reg.DRAM_FENCE_WRITERS 0) 0 = true ∧ t.rbit
      Reg.UC_FENCE_CTRL 0 = true ∧
    t.rc = { s.rc with notReady := s.rc.notReady.filter (· != 5) }) ∧
  (∀ (f : ReleaseFacts) (s : State), (4 ∈ s.rc.held ∧ (∀ q ∈ s.rc.held, 4 ≤ q) ∧ s.rc.notReady = [] ∧ s.reached 4 =
    false) → (s.fallback = false ∧ s.optN 0x20 4 = 0x200 ∧ s.optN 0x24 4 = 280) →
    Completes (.domainRelease f) s fun t => (∀ n ∈ List.range 4, t.dramState n = 1 ∧ t.regN (Reg.DRAM_CFG n) = 0x200
      ∧ t.regN (Reg.DRAM_TRFC n) = 280 ∧ t.enabled (0x010 + n) = true) ∧
    t.rc.notReady = [4] ∧ t.dramSize = 2 ^ 32) ∧
  (∀ (f : ReleaseFacts) (s : State), (6 ∈ s.rc.held ∧ (∀ q ∈ s.rc.held, 6 ≤ q) ∧ s.rc.notReady = [] ∧ s.reached 6 =
    false) → (s.px = [] ∧ s.bays = [] ∧ ∀ n ∈ List.range 96, s.inReset (0x100 + n) = false) →
    Completes (.domainRelease f) s fun t => (∀ b ∈ List.range 12, t.fld (Reg.BAY_STATUS b) 7 0 = (if s.rbit
      Reg.REH_FAILED b then 0 else 255) ∧ t.rbit (Reg.BAY_STATUS b) 16 = !s.rbit Reg.REH_FAILED b) ∧
    (∀ n ∈ List.range 96, t.rbit (Reg.PX_STATUS n) 0 = !s.rbit Reg.REH_FAILED (n / 8)) ∧ ∀ n ∈ List.range 16, t.rbit
      (Reg.CE_STATUS n) 0 = true) ∧
  (∀ (f : ReleaseFacts) (n : Fin 4) (m : List Byte) (s : State), (7 ∈ s.rc.held ∧ (∀ q ∈ s.rc.held, 7 ≤ q) ∧
    s.rc.notReady = [] ∧ s.reached 7 = false ∧ m = s.otpBytes 0x108 6) →
    Completes (.domainRelease f) s fun t => t.regN (Reg.NET_MAC_HI n.val) = beNat (m.take 2) ∧
    t.regN (Reg.NET_MAC_LO n.val) = beNat ((m.drop 2).take 3) * 256 + (beNat (m.drop 5) + n.val) % 256) ∧
  (∀ (f : ReleaseFacts) (s : State), (11 ∈ s.rc.held ∧ (∀ q ∈ s.rc.held, 11 ≤ q) ∧ s.rc.notReady = [] ∧ s.reached 11
    = false) → (nbit (s.optByte 8) 0 = true ∧ s.fld Reg.REH_STATUS 2 0 = 0) →
    Completes (.domainRelease f) s fun t => t.rc.house = true ∧ t.fld Reg.OPT_STATUS 15 13 = 1 ∧ t.rbit
      Reg.OPT_STATUS 12 = true ∧ t.rc.smwdStart = s.now ∧ t.rc.smKick = none ∧
    t.regN (Reg.DRAM_FENCE_WRITERS 1) = 0x101 ∧ t.regN (Reg.DRAM_FENCE_BASE 1) = s.codeBase / 4096 ∧ t.rbit
      Reg.FAULT_CTRL 0 = true ∧ t.trust = s.trust ∧ t.mem = s.mem)

/-- SW_RESET and the release of a block reset (R649, R650, R652, R654, R694, R696). -/
def Obligations.BlockResets : Prop :=
  (∀ (w : Writer) (b : Nat) (s : State), ((resettable b).isSome = true ∧ s.live b = true ∧ s.mayAct w b = true ∧
    s.fld Reg.REH_STATUS 2 0 = 0) →
    Completes (.swReset w b) s fun t => t.inReset b = true ∧ t.fld (blkStat b) 3 2 = 3 ∧ t.regN
      Reg.RESET_COUNT_BLOCK = min (s.regN Reg.RESET_COUNT_BLOCK + 1) 0xFFFFFFFF ∧
    (b ≠ 0x020 ∧ b ≠ 0x028 → t.enabled b = s.enabled b) ∧ t.rc = s.rc ∧ t.tb = s.tb ∧ (∀ a, t.mem8 a = s.mem8 a) ∧
      t.hostMem = s.hostMem ∧ t.otp = s.otp ∧ t.flash = s.flash) ∧
  (∀ (c : Fin 256) (k : Nat) (s : State), (s.live (ctxPage c.val) = true ∧ s.fld Reg.REH_STATUS 2 0 = 0 ∧ 0x400 ≤
    offOf k ∧ pageOf k = ctxPage c.val) →
    Completes (.swReset .prompter (ctxPage c.val)) s fun t => t.reg k = s.reg k ∧ t.enabled (ctxPage c.val) =
      s.enabled (ctxPage c.val) ∧
    (t.ctx c.val).ce = (s.ctx c.val).ce ∧ (t.ctx c.val).chg = (s.ctx c.val).chg ∧ OnlyCtx c.val s t) ∧
  (∀ (w : Writer) (b : Nat) (s : State), (resettable b = none ∨ s.inReset b = true ∧ s.mayAct w b = true) →
    exec (.swReset w b) s = .next s) ∧
  (∀ (w : Writer) (b : Nat) (s : State), ((resettable b).isSome = true ∧ s.live b = true ∧ s.mayAct w b = false) →
    exec (.swReset w b) s = .next (s.fenceViolation (blkCtrl b) (writerCode w))) ∧
  (∀ (b : Nat) (i : PageInfo) (s : State), (resettable b = some i ∧ s.pageHeld i = false ∧ s.inReset b = true ∧
    s.enabled b = false ∧ b < 0x200) →
    Completes (.blockResetRelease b) s fun t => t.inReset b = false ∧ t.fld (blkStat b) 3 2 = 0 ∧ t.enabled b =
      false ∧ t.rc = s.rc ∧ t.tb = s.tb ∧ t.ctxs = s.ctxs ∧
    t.otp = s.otp ∧ t.flash = s.flash ∧ t.hostMem = s.hostMem)

/-- Prompt calls: the mailbox, blocks, severities, the ledger, fences, owners, debug (R670, R671, R673, R674). -/
def Obligations.PromptCalls : Prop :=
  (∀ (n : Fin 4) (v : Word) (s : State), (s.takesCalls = true ∧ s.trust.posts = [] ∧ s.inSequence (n.val, bits v 2 0)
    = true ∧ 1 ≤ leAt (s.call n.val (bits v 2 0)) 4 2 ∧ leAt (s.call n.val (bits v 2 0)) 4 2 ≤ 0xD) →
    exec (.promptCallPost (.stageManager n) n v) s = .next { s with trust := { s.trust with posts := [(n.val, bits v 2 0)] } }) ∧
  (∀ (w : Writer) (n : Fin 4) (v : Word) (s : State), (w ≠ .stageManager n) →
    exec (.promptCallPost w n v) s = .next s) ∧
  (∀ (n : Fin 4) (k : Fin 8) (v : Word) (s : State), (s.takesCalls = true ∧ s.trust.posts = [] ∧ bits v 2 0 = k.val ∧
    s.inSequence (n.val, k.val) = false) →
    Answers (.promptCallPost (.stageManager n) n v) n.val k.val pcBadSeq 0 s fun u => CallWrites n.val k.val [] s u) ∧
  (∀ (n : Fin 4) (k : Fin 8) (v : Word) (s : State), (s.takesCalls = true ∧ s.trust.posts = [] ∧ bits v 2 0 = k.val ∧
    s.inSequence (n.val, k.val) = true ∧ 0xD < leAt (s.call n.val k.val) 4 2) →
    Answers (.promptCallPost (.stageManager n) n v) n.val k.val pcUnknown 0 s fun u => CallWrites n.val k.val [] s u) ∧
  (∀ (n : Fin 4) (k : Fin 8) (a : List Byte) (i : PageInfo) (s : State), (CallNext s n.val k.val 1 a ∧ pageInfo (leAt
    a 0 2) = some i ∧ i.blockReset = true ∧ s.live i.block = true ∧ s.fld Reg.REH_STATUS 2 0 = 0) →
    Answers .blockReset n.val k.val pcOk 0 s fun u => u.inReset i.block = true ∧ u.rc = s.rc ∧ u.tb = s.tb ∧ u.otp =
      s.otp ∧ u.flash = s.flash) ∧
  (∀ (n : Fin 4) (k : Fin 8) (a : List Byte) (i : PageInfo) (s : State), (CallNext s n.val k.val 1 a ∧ pageInfo (leAt
    a 0 2) = some i ∧ i.blockReset = false) →
    Answers .blockReset n.val k.val pcDenied 0 s fun u => CallWrites n.val k.val [] s u) ∧
  (∀ (n : Fin 4) (k : Fin 8) (a : List Byte) (s : State), (CallNext s n.val k.val 2 a ∧ s.rc.held = [] ∧
    s.rc.asserted = []) →
    Completes .softReset s fun t => FullReset .softFull s t) ∧
  (∀ (n : Fin 4) (k : Fin 8) (a : List Byte) (i : PageInfo) (s : State), (CallNext s n.val k.val 3 a ∧ pageInfo (leAt
    a 0 2) = some i ∧ i.blockReset = true ∧ s.pageHeld i = false ∧ leAt a 2 1 ≤ 3) →
    Answers .setOwner n.val k.val pcOk 0 s fun u => u.fld (blkOwner i.block) 1 0 = leAt a 2 1 ∧ CallWrites n.val
      k.val [blkOwner i.block] s u) ∧
  (∀ (n : Fin 4) (k : Fin 8) (a : List Byte) (src v : Nat) (s : State), (CallNext s n.val k.val 4 a ∧ src = leAt a 0
    2 ∧ v = leAt a 2 1 ∧ isSource src = true ∧ v ≤ 3 ∧ (v = 2 → mayContain src = true)) → (s.regN
    Reg.TRUST_SEV_POLICY ≠ 1 ∧ (s.regN Reg.TRUST_SEV_POLICY = 0 → s.fld (Reg.FAULT_SEV (src / 16)) (2 * (src % 16) +
    1) (2 * (src % 16)) ≤ v)) →
    Answers .setSeverity n.val k.val pcOk 0 s fun u => u.fld (Reg.FAULT_SEV (src / 16)) (2 * (src % 16) + 1) (2 *
      (src % 16)) = v ∧
    (∀ x ∈ List.range 16, x ≠ src % 16 → u.fld (Reg.FAULT_SEV (src / 16)) (2 * x + 1) (2 * x) = s.fld (Reg.FAULT_SEV
      (src / 16)) (2 * x + 1) (2 * x)) ∧
    CallWrites n.val k.val [Reg.FAULT_SEV (src / 16)] s u) ∧
  (∀ (n : Fin 4) (k : Fin 8) (a : List Byte) (src v : Nat) (s : State), (CallNext s n.val k.val 4 a ∧ src = leAt a 0
    2 ∧ v = leAt a 2 1 ∧ isSource src = true ∧ v ≤ 3) → (s.regN Reg.TRUST_SEV_POLICY = 1 ∨ s.regN
    Reg.TRUST_SEV_POLICY = 0 ∧ v < s.fld (Reg.FAULT_SEV (src / 16)) (2 * (src % 16) + 1) (2 * (src % 16))) →
    Answers .setSeverity n.val k.val pcDenied 0 s fun u => CallWrites n.val k.val [] s u) ∧
  (∀ (n : Fin 4) (k : Fin 8) (a : List Byte) (s : State), (CallNext s n.val k.val 5 a ∧ leAt a 0 1 ≤ 100 ∧ 1 ≤ leAt a
    1 1 ∧ leAt a 1 1 ≤ 12) →
    Answers .setLedger n.val k.val pcOk 0 s fun u => u.regN Reg.LEDGER_CTRL = leAt a 0 2 ∧ CallWrites n.val k.val
      [Reg.LEDGER_CTRL] s u) ∧
  (∀ (n : Fin 4) (k : Fin 8) (a : List Byte) (f : Nat) (s : State), (CallNext s n.val k.val 6 a ∧ f = leAt a 0 1 ∧ (f
    = 2 ∨ f = 3) ∧ leAt a 8 8 < 2 ^ 40 ∧ leAt a 16 8 < 2 ^ 40 ∧ s.domainHeld 4 = false) →
    Answers .setFence n.val k.val pcOk 0 s fun u => u.fld (Reg.DRAM_FENCE_BASE f) 27 0 = leAt a 8 8 / 4096 ∧ u.fld
      (Reg.DRAM_FENCE_LIMIT f) 27 0 = leAt a 16 8 / 4096 ∧
    (∀ j ∈ [0, 8, 9, 10, 11, 12, 13, 14], u.rbit (Reg.DRAM_FENCE_WRITERS f) j = nbit (leAt a 24 4) j) ∧
    CallWrites n.val k.val [Reg.DRAM_FENCE_BASE f, Reg.DRAM_FENCE_LIMIT f, Reg.DRAM_FENCE_WRITERS f] s u) ∧
  (∀ (n : Fin 4) (k : Fin 8) (a : List Byte) (c : Nat) (s : State), (CallNext s n.val k.val 7 a ∧ c = leAt a 0 1 ∧ 3
    ≤ c ∧ c ≤ 15 ∧ 1 ≤ leAt a 1 1 ∧ leAt a 1 1 ≤ 3 ∧ s.live 0x019 = true) →
    Answers .setCvuOwner n.val k.val pcOk 0 s fun u => u.regN (Reg.CVU_OWNER c) = leAt a 1 1 ∧ CallWrites n.val
      k.val [Reg.CVU_OWNER c] s u) ∧
  (∀ (n : Fin 4) (k : Fin 8) (a : List Byte) (s : State), (CallNext s n.val k.val 13 a ∧ leAt a 0 1 ≤ 1) →
    if s.rbit Reg.TRUST_STATUS 3 then Answers .setDebug n.val k.val pcDenied 0 s fun u => CallWrites n.val k.val []
      s u
    else Answers .setDebug n.val k.val pcOk 0 s fun u => u.rbit Reg.TRUST_DEBUG 0 = (leAt a 0 1 == 1) ∧ u.rbit
      Reg.TRUST_STATUS 2 = (leAt a 0 1 == 1) ∧
    CallWrites n.val k.val [Reg.TRUST_DEBUG, Reg.TRUST_STATUS] s u)

/-- Prompt calls over the flash and the one-time programmable memory (R662, R673, R674). -/
def Obligations.FlashAndOtpCalls : Prop :=
  (∀ (n : Fin 4) (k : Fin 8) (a : List Byte) (s : State), (CallNext s n.val k.val 8 a ∧ leAt a 4 4 ≤ 0x100000 ∧ leAt
    a 8 8 + leAt a 4 4 ≤ s.dramSize ∧ s.dramSize ≤ poolBase) → (∀ f ∈ List.range 4, s.rbit (Reg.DRAM_FENCE_WRITERS
    f) 0 = true → s.rbit (Reg.DRAM_FENCE_WRITERS f) 8 = true) →
    Answers (.pcFlashRead false) n.val k.val pcOk 0 s fun u => u.memBytes (leAt a 8 8) (leAt a 4 4) = s.flashBytes
      (leAt a 0 4) (leAt a 4 4) ∧ SameRegs [Reg.TRUST_PC_DONE n.val] s u ∧ u = { s with regs := u.regs, mem := u.mem, trust := u.trust }
      ∧
    ∀ b, (b < leAt a 8 8 ∨ leAt a 8 8 + leAt a 4 4 ≤ b) → (b < poolBase + s.callSlot n.val k.val + 48 ∨ poolBase +
      s.callSlot n.val k.val + 60 ≤ b) → u.mem8 b = s.mem8 b) ∧
  (∀ (n : Fin 4) (k : Fin 8) (a : List Byte) (s : State), (CallNext s n.val k.val 8 a ∧ leAt a 4 4 ≤ 0x100000 ∧ leAt
    a 8 8 + leAt a 4 4 ≤ s.dramSize) →
    Answers (.pcFlashRead true) n.val k.val pcFlashReadError 0 s fun u => CallWrites n.val k.val [] s u) ∧
  (∀ (n : Fin 4) (k : Fin 8) (a : List Byte) (s : State), (CallNext s n.val k.val 9 a ∧ leAt a 4 4 ≤ 0x100000 ∧ leAt
    a 8 8 + leAt a 4 4 ≤ s.dramSize ∧ leAt a 0 4 + leAt a 4 4 ≤ 0x1000) →
    Answers .pcFlashWrite n.val k.val pcOk 0 s fun u => u.flashBytes (leAt a 0 4) (leAt a 4 4) = s.memBytes (leAt a
      8 8) (leAt a 4 4) ∧
    (∀ b, (b < leAt a 0 4 ∨ leAt a 0 4 + leAt a 4 4 ≤ b) → Sparse.get memReset u.flash b = Sparse.get memReset
      s.flash b) ∧ CallWrites n.val k.val [] s { u with flash := s.flash }) ∧
  (∀ (n : Fin 4) (k : Fin 8) (a : List Byte) (s : State), (CallNext s n.val k.val 9 a ∧ leAt a 4 4 ≤ 0x100000 ∧ leAt
    a 8 8 + leAt a 4 4 ≤ s.dramSize ∧ 0 < leAt a 4 4) → (0x1000 ≤ leAt a 0 4 ∧ ∀ i ∈ List.range 5, leAt a 0 4 <
    (s.slot i).1 ∨ (s.slot i).1 + (s.slot i).2 ≤ leAt a 0 4) →
    Answers .pcFlashWrite n.val k.val pcFlashProtected 0 s fun u => CallWrites n.val k.val [] s u) ∧
  (∀ (n : Fin 4) (k : Fin 8) (a : List Byte) (p : Nat) (s : State), (CallNext s n.val k.val 10 a ∧ (leAt a 0 1 = 8 ∨
    leAt a 0 1 = 9) ∧ p = leAt a 0 1 - 4 ∧ leAt a 8 8 + 48 ≤ s.dramSize ∧ s.enrolled p = false ∧ s.rbit
    Reg.TRUST_STATUS 0 = true) →
    Answers (.otpEnrol none) n.val k.val pcOk 0 s fun u => u.otpBytes (0x110 + 48 * p) 48 = s.memBytes (leAt a 8 8)
      48 ∧
    (∀ b, (b < 0x110 + 48 * p ∨ 0x140 + 48 * p ≤ b) → Sparse.get memReset u.otp b = Sparse.get memReset s.otp b) ∧
    u.rbit Reg.TRUST_KEYS p = (s.memBytes (leAt a 8 8) 48).any (· != 0) ∧ OtpCallWrites n.val k.val s u) ∧
  (∀ (n : Fin 4) (k : Fin 8) (a : List Byte) (p i : Nat) (g : Byte) (s : State), (CallNext s n.val k.val 10 a ∧ (leAt
    a 0 1 = 8 ∨ leAt a 0 1 = 9) ∧ p = leAt a 0 1 - 4 ∧ leAt a 8 8 + 48 ≤ s.dramSize ∧ s.enrolled p = false ∧ s.rbit
    Reg.TRUST_STATUS 0 = true ∧ i < 48) →
    Answers (.otpEnrol (some (i, g))) n.val k.val pcOtpFail (0x110 + 48 * p + i) s fun u => u.otpBytes (0x110 + 48 *
      p) i = s.memBytes (leAt a 8 8) i ∧
    (∀ b, (b < 0x110 + 48 * p ∨ 0x110 + 48 * p + i < b) → Sparse.get memReset u.otp b = Sparse.get memReset s.otp b)
      ∧ OtpCallWrites n.val k.val s u) ∧
  (∀ (n : Fin 4) (k : Fin 8) (a : List Byte) (s : State), (CallNext s n.val k.val 10 a ∧ (leAt a 0 1 = 8 ∨ leAt a 0 1
    = 9) ∧ leAt a 8 8 + 48 ≤ s.dramSize ∧ (s.enrolled (leAt a 0 1 - 4) = true ∨ s.rbit Reg.TRUST_STATUS 0 = false))
    →
    Answers (.otpEnrol none) n.val k.val pcDenied 0 s fun u => CallWrites n.val k.val [] s u) ∧
  (∀ (n : Fin 4) (k : Fin 8) (a : List Byte) (p : Nat) (s : State), (CallNext s n.val k.val 11 a ∧ keyPos (leAt a 0
    1) = some p) →
    if s.lastVendor p then Answers (.otpRevoke none) n.val k.val pcDenied 0 s fun u => CallWrites n.val k.val [] s u
    else Answers (.otpRevoke none) n.val k.val pcOk 0 s fun u => u.revoked p = true ∧ (∀ q ∈ List.range 6, q ≠ p →
      u.revoked q = s.revoked q) ∧ u.rbit Reg.TRUST_KEYS (8 + p) = true ∧
    (∀ b, (b < 0x2F0 ∨ 0x2F0 < b) → Sparse.get memReset u.otp b = Sparse.get memReset s.otp b) ∧ OtpCallWrites n.val
      k.val s u) ∧
  (∀ (n : Fin 4) (k : Fin 8) (a : List Byte) (q m : Nat) (s : State), (CallNext s n.val k.val 12 a ∧ q = leAt a 0 1 ∧
    m = leAt a 1 1 ∧ q ≤ 3 ∧ m ≤ 64) →
    if m < s.minVersion q then Answers (.otpRaiseVersion none) n.val k.val pcDenied 0 s fun u => CallWrites n.val
      k.val [] s u
    else Answers (.otpRaiseVersion none) n.val k.val pcOk 0 s fun u => u.minVersion q = m ∧ u.regN
      (Reg.TRUST_MIN_VER q) = m ∧
    (∀ b, (b < 0x2F8 + 8 * q ∨ 0x300 + 8 * q ≤ b) → Sparse.get memReset u.otp b = Sparse.get memReset s.otp b) ∧
      OtpCallWrites n.val k.val s u)

/-- The fault collector takes messages and reacts; the records, forced messages, the ghost light and the heartbeat
(R684, R686, R692, R693, R695, R696, R697, R699, R700, R701, R702, R705). -/
def Obligations.FaultCollector : Prop :=
  (∀ (m : FaultMsg) (q : Nat) (s : State), (s.live 0x005 = true ∧ s.fc.lost = [] ∧ s.nextMsg = some m ∧ s.suppressed
    m.source = false ∧ m.severity = 0 ∧ q = s.regN Reg.FAULT_TAKEN) → (m.kind ≠ FaultKind.REQ_ABORTED ∧ m.kind ≠
    FaultKind.PEER_UNAVAILABLE ∧ m.escalated = false ∧ m.kind < 64) →
    Completes .faultTake s fun t => t.fc = { s.fc with inputs := s.fc.inputs.erase m } ∧ t.regN Reg.FAULT_TAKEN = (q
      + 1) % 2 ^ 32 ∧
    (∀ i ∈ List.range 8, t.regN (Reg.FAULT_CB (8 * (q % 32) + i)) = (m.words q).getD i 0 % 2 ^ 32) ∧
    t.regN (Reg.FAULT_KIND_COUNT m.kind) = min (s.regN (Reg.FAULT_KIND_COUNT m.kind) + 1) 0xFFFFFFFF ∧ (∀ b ∈
      sourceBlock m.source, t.rbit (blkFault b) (m.kind % 32) = true) ∧
    SameRegs ([Reg.FAULT_TAKEN, Reg.FAULT_STATUS, Reg.FAULT_KIND_COUNT m.kind, blkFault ((sourceBlock m.source).getD
      0)] ++
    (List.range 8).flatMap (fun i => [Reg.FAULT_CB (8 * (q % 32) + i), Reg.FAULT_FIRST i])) s t ∧ t = { s with regs := t.regs, fc := t.fc }) ∧
  (∀ (m : FaultMsg) (q : Nat) (s : State), (s.live 0x005 = true ∧ s.fc.lost = [] ∧ s.nextMsg = some m ∧ s.suppressed
    m.source = false ∧ m.severity = 3 ∧ q = s.regN Reg.FAULT_TAKEN) → (m.kind ≠ FaultKind.REQ_ABORTED ∧ m.kind ≠
    FaultKind.PEER_UNAVAILABLE ∧ m.escalated = false ∧ m.kind < 64 ∧ s.rbit Reg.FAULT_STATUS 0 = false) →
    Completes .faultTake s fun t => t.rbit Reg.FAULT_STATUS 0 = true ∧ t.rbit Reg.FAULT_STATUS 3 = false ∧ t.rbit
      Reg.FAULT_STATUS 5 = true ∧
    t.regN Reg.FAULT_STOPS = min (s.regN Reg.FAULT_STOPS + 1) 0xFFFFFFFF ∧ (∀ i ∈ List.range 8, t.regN
      (Reg.FAULT_STOP i) = (m.words q).getD i 0 % 2 ^ 32) ∧
    (∀ i ∈ List.range 8, t.regN (Reg.FAULT_FIRST i) = if s.rbit Reg.FAULT_STATUS 4 then s.regN (Reg.FAULT_FIRST i)
      else (m.words q).getD i 0 % 2 ^ 32) ∧
    t.rbit Reg.FAULT_STATUS 4 = true ∧ t.rc = s.rc ∧ t.ctxs = s.ctxs) ∧
  (∀ (m : FaultMsg) (b : Nat) (s : State), (s.live 0x005 = true ∧ s.fc.lost = [] ∧ s.nextMsg = some m ∧ s.suppressed
    m.source = false ∧ m.severity = 2 ∧ s.escalates m.source = false) → (m.kind ≠ FaultKind.REQ_ABORTED ∧ m.kind ≠
    FaultKind.PEER_UNAVAILABLE ∧ m.escalated = false ∧ sourceBlock m.source = some b ∧ (resettable b).isSome = true
    ∧ s.live b = true ∧ s.fld Reg.REH_STATUS 2 0 = 0) →
    Completes .faultTake s fun t => t.inReset b = true ∧ t.escalates m.source = true ∧ t.rbit Reg.FAULT_STATUS 0 =
      s.rbit Reg.FAULT_STATUS 0 ∧ t.rc = s.rc ∧ t.otp = s.otp ∧ t.flash = s.flash) ∧
  (∀ (m : FaultMsg) (b : Nat) (s : State), (s.live 0x005 = true ∧ s.fc.lost = [] ∧ s.nextMsg = some m ∧ s.suppressed
    m.source = false ∧ m.severity = 2 ∧ s.escalates m.source = true) → (m.kind ≠ FaultKind.REQ_ABORTED ∧ m.kind ≠
    FaultKind.PEER_UNAVAILABLE ∧ sourceBlock m.source = some b ∧ (resettable b).isSome = true ∧ s.live b = true ∧
    s.fld Reg.REH_STATUS 2 0 = 0) →
    Completes .faultTake s fun t => t.inReset b = true ∧ t.rbit Reg.FAULT_STATUS 0 = true ∧ t.regN
      Reg.FAULT_ESCALATIONS = min (s.regN Reg.FAULT_ESCALATIONS + 1) 0xFFFFFFFF ∧ t.rc = s.rc) ∧
  (∀ (m : FaultMsg) (s : State), (s.live 0x005 = true ∧ s.fc.lost = [] ∧ s.nextMsg = some m ∧ s.suppressed m.source =
    true) →
    exec .faultTake s = .next ((s.takeInput m).bump Reg.FAULT_SUPPRESSED 1)) ∧
  (∀ (m : FaultMsg) (q : Nat) (s : State), (s.live 0x005 = true ∧ s.fc.lost = [] ∧ s.nextMsg = some m ∧ s.suppressed
    m.source = false ∧ m.kind = FaultKind.REQ_ABORTED ∧ s.otherWindow m = true ∧ m.escalated = false ∧ q = s.regN
    Reg.FAULT_TAKEN) →
    Completes .faultTake s fun t => t.regN Reg.FAULT_CONSEQUENTIAL = min (s.regN Reg.FAULT_CONSEQUENTIAL + 1)
      0xFFFFFFFF ∧ t.rbit (Reg.FAULT_CB (8 * (q % 32))) 18 = true ∧
    t.fld (Reg.FAULT_CB (8 * (q % 32))) 17 16 = min m.severity 1 ∧ t.rc = s.rc ∧ t.bays = s.bays ∧ t.rbit
      Reg.FAULT_STATUS 0 = s.rbit Reg.FAULT_STATUS 0) ∧
  (∀ (s : State), (s.live 0x005 = true ∧ s.fc.lost = [] ∧ s.fc.inputs = []) →
    exec .faultTake s = .next s) ∧
  (∀ (w : Writer) (page src : Nat) (v : Word) (i : PageInfo) (s : State), (s.live page = true ∧ pageInfo page = some
    i ∧ i.index = 0 ∧ bits v 21 16 < i.srcCount ∧ src = i.srcFirst + bits v 21 16 * i.srcStep ∧ s.mayAct w page =
    true) → (bit v 8 = true ∧ bits v 5 0 ≠ 0 ∧ isSource src = true ∧ s.suppressed src = false ∧ (s.fc.inputs.filter
    (fun x => x.source == src)).length < 2) →
    Completes (.blkForceRaise w page v) s fun t => t.fc = { s.fc with inputs := s.fc.inputs ++ [{ source := src, kind := bits v 5 0, severity := s.baseSeverity src (bits v 5 0), consequential := false, escalated := false, forced := true, time := s.now, addr := 0 }] }
      ∧
    SameRegs [blkForce page] s t ∧ t = { s with regs := t.regs, fc := t.fc }) ∧
  (∀ (w : Writer) (page : Nat) (v : Word) (i : PageInfo) (s : State), (pageInfo page = some i ∧ s.pageHeld i = false
    ∧ i.index = 0 ∧ i.srcCount ≠ 0 ∧ s.mayAct w page = false) →
    exec (.blkForceRaise w page v) s = .next (s.fenceViolation (blkForce page) (writerCode w))) ∧
  (∀ (s : State), s.live 0x005 = true →
    Completes .faultClearFirst s fun t => t.rbit Reg.FAULT_STATUS 4 = false ∧ (∀ i ∈ List.range 8, t.regN
      (Reg.FAULT_FIRST i) = 0) ∧
    SameRegs (Reg.FAULT_STATUS :: (List.range 8).map Reg.FAULT_FIRST) s t ∧ t = { s with regs := t.regs }) ∧
  (∀ (s : State), s.live 0x005 = true →
    Completes .faultClearStopRecord s fun t => t.rbit Reg.FAULT_STATUS 5 = false ∧ (∀ i ∈ List.range 8, t.regN
      (Reg.FAULT_STOP i) = 0) ∧
    SameRegs (Reg.FAULT_STATUS :: (List.range 8).map Reg.FAULT_STOP) s t ∧ t = { s with regs := t.regs }) ∧
  (∀ (s : State), s.live 0x005 = true →
    if s.gltOn then Completes .gltToggle s fun t => t.rbit Reg.FAULT_STATUS 3 = !s.rbit Reg.FAULT_STATUS 3 ∧ t.out =
      .ball 0 (!s.rbit Reg.FAULT_STATUS 3) :: s.out ∧
    SameRegs [Reg.FAULT_STATUS] s t ∧ t = { s with regs := t.regs, out := t.out }
    else exec .gltToggle s = .next s) ∧
  (∀ (v : Word) (s : State), s.live 0x005 = true →
    Completes (.faultHeartbeat .prompter v) s fun t => t.rbit Reg.FAULT_STATUS 1 = true ∧ t.fc = { s.fc with beat := some s.now }
      ∧
    SameRegs [Reg.FAULT_HEARTBEAT, Reg.FAULT_STATUS] s t ∧ t = { s with regs := t.regs, fc := t.fc }) ∧
  (∀ (s : State), (s.live 0x005 = true ∧ s.rbit Reg.FAULT_STATUS 1 = true) →
    Completes .heartbeatTimeout s fun t => t.rbit Reg.FAULT_STATUS 1 = false ∧ t.rbit Reg.FAULT_STATUS 3 = false ∧
    t.out = (if s.rbit Reg.FAULT_STATUS 3 then [.ball 0 false] else []) ++ s.out ∧ SameRegs [Reg.FAULT_STATUS] s t ∧
      t = { s with regs := t.regs, out := t.out })

/-- Rehearsals of bays and of the whole, the readback of the core rail, the margin journal (R709, R710, R711, R713,
R718, R719, R720, R721). -/
def Obligations.RehearsalAndMargin : Prop :=
  (∀ (w : Writer) (b : Fin 16) (s : State), (s.live 0x006 = true ∧ asksRehearsal w = true ∧ s.fld Reg.REH_STATUS 2 0
    = 0 ∧ b.val ≤ 11) →
    Completes (.rehBay w b) s fun t => t.fld Reg.REH_STATUS 2 0 = (if s.bayInService b.val then 1 else 2) ∧ t.fld
      Reg.REH_STATUS 11 8 = b.val ∧ t.fld Reg.REH_STATUS 23 16 = 0 ∧
    t.bay b.val = (if s.bayInService b.val then s.bay b.val else { s.bay b.val with granted := true }) ∧ (∀ d, d ≠
      b.val → t.bay d = s.bay d) ∧
    SameRegs [Reg.REH_STATUS] s t ∧ t = { s with regs := t.regs, bays := t.bays }) ∧
  (∀ (w : Writer) (b : Fin 16) (s : State), (s.live 0x006 = true ∧ asksRehearsal w = true ∧ (s.fld Reg.REH_STATUS 2 0
    ≠ 0 ∨ 11 < b.val)) →
    exec (.rehBay w b) s = .next (s.setFld Reg.REH_STATUS 23 16 (if s.fld Reg.REH_STATUS 2 0 = 0 then 7 else 6))) ∧
  (∀ (w : Writer) (s : State), (s.live 0x006 = true ∧ asksRehearsal w = true ∧ s.fld Reg.REH_STATUS 2 0 = 0 ∧
    s.anyEnabled = true) →
    exec (.rehFull w) s = .next (s.setFld Reg.REH_STATUS 23 16 5)) ∧
  (∀ (w : Writer) (s : State), (s.live 0x006 = true ∧ asksRehearsal w = true ∧ s.fld Reg.REH_STATUS 2 0 = 0 ∧
    s.anyEnabled = false ∧ s.rc.held = [] ∧ s.rc.asserted = []) →
    Completes (.rehFull w) s fun t => t.fld Reg.REH_STATUS 2 0 = 4 ∧ t.rc = { s.rc with held := [5, 6, 11], asserted := [.rehearsal], notReady := t.rc.notReady, smKick := none }
      ∧
    t.tb = s.tb ∧ t.queues = s.queues ∧ t.flows = s.flows ∧ t.dpOuts = s.dpOuts ∧ t.drams = s.drams ∧ t.pcie =
      s.pcie ∧ t.otp = s.otp ∧ t.flash = s.flash) ∧
  (∀ (v : Word) (s : State), (s.live 0x006 = true ∧ bits v 1 0 = 1 ∧ bits v 11 8 ≤ 11 ∧ s.fld Reg.REH_STATUS 2 0 = 0
    ∧ s.bayInService (bits v 11 8) = true) →
    Completes (.rehRun v) s fun t => t.tap = { ir := .rehRun, driven := [] } ∧ t.fld Reg.REH_STATUS 2 0 = 1 ∧ t.fld
      Reg.REH_STATUS 11 8 = bits v 11 8 ∧
    t.fld Reg.REH_STATUS 23 16 = 0 ∧ SameRegs [Reg.REH_STATUS] s t ∧ t = { s with regs := t.regs, tap := t.tap }) ∧
  (∀ (b : Nat) (s : State), (s.live 0x006 = true ∧ s.fld Reg.REH_STATUS 2 0 = 2 ∧ b = s.fld Reg.REH_STATUS 11 8 ∧
    (s.bay b).jobs = []) →
    Completes .rehDrainDone s fun t => t.fld Reg.REH_STATUS 2 0 = 3 ∧ t.rbit (Reg.BAY_STATUS b) 17 = true ∧ t.rbit
      (Reg.BAY_STATUS b) 16 = false ∧
    SameRegs [Reg.REH_STATUS, Reg.BAY_STATUS b] s t ∧ t = { s with regs := t.regs }) ∧
  (∀ (sigs : List Nat) (b : Nat) (s : State), (s.live 0x006 = true ∧ s.fld Reg.REH_STATUS 2 0 = 3 ∧ b = s.fld
    Reg.REH_STATUS 11 8 ∧ b ≤ 11 ∧ s.expectedSig b = sigs.getD b 0 % 2 ^ 64) → (s.copyGood 0 = true ∧ s.copyGood 1 =
    true) → ((s.bay b).stuck = false ∧ s.inReset (0x080 + b) = false ∧ ∃ n ∈ enginesOf b, (s.pxEng n).stuck = false
    ∧ s.inReset (0x100 + n) = false) →
    Completes (.rehBistDone sigs) s fun t => t.fld Reg.REH_STATUS 2 0 = 0 ∧ t.fld Reg.REH_STATUS 23 16 = 1 ∧ t.rbit
      (Reg.BAY_STATUS b) 16 = true ∧ t.rbit (Reg.BAY_STATUS b) 17 = false ∧
    t.regN Reg.REH_PASSES = min (s.regN Reg.REH_PASSES + 1) 0xFFFFFFFF ∧ (t.bay b).granted = false ∧ (t.bay
      b).failed = false ∧ (t.bay b).out = false ∧ (∀ p ∈ t.sram, p.1 / 2 ^ 22 ≠ b) ∧ t.fc = s.fc ∧ t.rc = s.rc ∧
      t.ctxs = s.ctxs) ∧
  (∀ (sigs : List Nat) (b : Nat) (s : State), (s.live 0x006 = true ∧ s.fld Reg.REH_STATUS 2 0 = 3 ∧ b = s.fld
    Reg.REH_STATUS 11 8 ∧ b ≤ 11 ∧ s.expectedSig b ≠ sigs.getD b 0 % 2 ^ 64) → (s.copyGood 0 = true ∧ s.copyGood 1 =
    true) → ((s.bay b).stuck = false ∧ s.inReset (0x080 + b) = false ∧ ∃ n ∈ enginesOf b, (s.pxEng n).stuck = false
    ∧ s.inReset (0x100 + n) = false) →
    Completes (.rehBistDone sigs) s fun t => t.fld Reg.REH_STATUS 2 0 = 0 ∧ t.fld Reg.REH_STATUS 23 16 = 2 ∧ t.fld
      (Reg.BAY_STATUS b) 7 0 = 0 ∧ t.rbit (Reg.BAY_STATUS b) 17 = false ∧
    t.regN Reg.REH_FAILS = min (s.regN Reg.REH_FAILS + 1) 0xFFFFFFFF ∧ (t.bay b).granted = false ∧ (t.bay b).failed
      = true ∧ (t.bay b).out = true ∧ t.fc = (s.raise 499 FaultKind.REHEARSAL_FAIL b).fc ∧ t.rc = s.rc ∧ t.ctxs =
      s.ctxs) ∧
  (∀ (sigs : List Nat) (s : State), (s.live 0x006 = true ∧ s.fld Reg.REH_STATUS 2 0 = 4) →
    Completes (.rehBistDone sigs) s fun t => t.fld Reg.REH_STATUS 2 0 = 5 ∧ (∀ u ∈ List.range 12 ++ rangeFrom 16 6,
      t.rbit Reg.REH_FAILED u = (sigs.getD u 0 % 2 ^ 64 != s.expectedSig u)) ∧
    t.rc = { s.rc with asserted := s.rc.asserted.erase .rehearsal } ∧ t.fc = s.fc ∧ t.bays = s.bays) ∧
  (∀ (v : BitVec 10) (s : State), (s.marginLive = true ∧ v.toNat ≤ s.setpoint + 10 ∧ s.setpoint ≤ v.toNat + 10) →
    Completes (.avsReadback true (some v)) s fun t => t.rbit Reg.MARGIN_STATUS 2 = false ∧ t.fld Reg.MARGIN_VDD 25
      16 = v.toNat ∧ t.margin = { s.margin with avsTries := 0 } ∧
    SameRegs [Reg.MARGIN_VDD, Reg.MARGIN_STATUS] s t ∧ t = { s with regs := t.regs, margin := t.margin, out := t.out }) ∧
  (∀ (v : BitVec 10) (s : State), (s.marginLive = true ∧ s.setpoint + 10 < v.toNat ∧ s.rbit Reg.MARGIN_STATUS 2 =
    false ∧ s.margin.avsTries < 3) →
    Completes (.avsReadback true (some v)) s fun t => t.margin = { s.margin with avsTries := s.margin.avsTries + 1 }
      ∧ t.out = .avs 0 s.setpoint :: .avs 1 0 :: s.out ∧ t.fc = s.fc ∧
    SameRegs [Reg.MARGIN_VDD] s t ∧ t = { s with regs := t.regs, margin := t.margin, out := t.out }) ∧
  (∀ (s : State), (s.marginLive = true ∧ s.rbit Reg.MARGIN_STATUS 2 = false ∧ 3 ≤ s.margin.avsTries) →
    Completes (.avsReadback false none) s fun t => t.rbit Reg.MARGIN_STATUS 2 = true ∧ t.regN Reg.MARGIN_AVS_ERRORS
      = min (s.regN Reg.MARGIN_AVS_ERRORS + 1) 0xFFFFFFFF ∧
    t.margin = { s.margin with avsLimit := s.fld Reg.MARGIN_VDD 25 16, avsError := true } ∧ t.fc = (s.raise 500
      FaultKind.AVS_ERROR s.setpoint).fc) ∧
  (∀ (s : State), s.marginLive = true →
    exec .avsRetry s = .next (if s.rbit Reg.MARGIN_STATUS 2 then { s with out := .avs 0 s.setpoint :: s.out } else
      s)) ∧
  (∀ (i : Instr) (q a : Nat) (s : State), (i = .journalWeekEnd true ∨ i = .journalRetry true) → (s.marginLive = true
    ∧ s.journalSize ≠ 0 ∧ (s.journalNewest = none ∧ q = 0 ∨ ∃ b ∈ s.journalNewest, q = (leAt b 4 4 + 1) % 2 ^ 32) ∧
    a = (s.slot 5).1 + 256 * (q % s.journalSize)) →
    Completes i s fun t => t.journalEntry (q % s.journalSize) = some (s.journalBytes q) ∧ leAt (s.journalBytes q) 4
      4 = q ∧ leAt (s.journalBytes q) 16 4 = s.regN Reg.MARGIN_HOURS ∧
    t.regN Reg.MARGIN_JOURNAL_SEQ = q ∧ t.fld Reg.MARGIN_JOURNAL_NEXT 19 0 = 604800 ∧ t.margin = s.margin.cleared ∧
    (∀ b, (b < a ∨ a + (if a % 4096 = 0 then 4096 else 256) ≤ b) → Sparse.get memReset t.flash b = Sparse.get
      memReset s.flash b) ∧
    SameRegs [Reg.MARGIN_JOURNAL_SEQ, Reg.MARGIN_JOURNAL_NEXT] s t ∧ t = { s with regs := t.regs, margin := t.margin, flash := t.flash, freeCtr := t.freeCtr }) ∧
  (∀ (i : Instr) (s : State), (i = .journalWeekEnd false ∨ i = .journalRetry false) → s.marginLive = true →
    Completes i s fun t => t.regN Reg.MARGIN_JOURNAL_FAILS = min (s.regN Reg.MARGIN_JOURNAL_FAILS + 1) 0xFFFFFFFF ∧
      t.fld Reg.MARGIN_JOURNAL_NEXT 19 0 = 3600 ∧ t.margin = s.margin ∧
    SameRegs [Reg.MARGIN_JOURNAL_FAILS, Reg.MARGIN_JOURNAL_NEXT] s t ∧ t = { s with regs := t.regs, flash := t.flash, freeCtr := t.freeCtr })

/-- The Understudy Link: lanes, HELLO, roles, heartbeats, the frames in their order, the peer's ghost light,
takeover (R728, R729, R731, R733, R734, R735, R737, R738, R746, R751, R752). -/
def Obligations.PairLink : Prop :=
  (∀ (lane : Bool) (s : State), (s.pairOn = true ∧ s.linkState = 0 ∧ s.fld Reg.PAIR_STATUS 9 8 = 0) →
    Completes (.pairBlockLock lane) s fun t => t.linkState = 1 ∧ t.fld Reg.PAIR_STATUS 9 8 = (if lane then 2 else 1)
      ∧ t.out = .pairFrame 1 (helloFrame s) :: s.out ∧
    SameRegs [Reg.PAIR_STATUS, Reg.PAIR_FRAMES_TX] s t ∧ t = { s with regs := t.regs, out := t.out }) ∧
  (∀ (s : State), (s.pairOn = true ∧ s.linkState ≠ 2 ∧ s.fld Reg.PAIR_STATUS 9 8 = 3) →
    Completes .pairHelloTimer s fun t => t.out = .pairFrame 1 (helloFrame s) :: .pairFrame 1 (helloFrame s) :: s.out
      ∧
    SameRegs [Reg.PAIR_FRAMES_TX] s t ∧ t = { s with regs := t.regs, out := t.out }) ∧
  (∀ (b : List Byte) (h : PairHello) (tm : Nat) (s : State), (s.pairOn = true ∧ (s.linkState = 1 ∨ s.linkState = 3 ∨
    s.linkState = 4) ∧ s.frameSound b = true ∧ beAt b 1 1 = 1 ∧ h = readPairHello b ∧ h.verMin ≤ 1 ∧ 1 ≤ h.verMax ∧
    nbit h.flags 1 = false ∧ s.pairRole ≠ 1) →
    Completes (.pairHelloRx b tm) s fun t => t.linkState = 2 ∧ t.fld Reg.PAIR_STATUS 23 16 = 1 ∧ t.reg64
      Reg.PAIR_PEER_SERIAL_LO = h.serial ∧ t.pair.rxNext = 1 ∧ t.pair.txSeq = 1 ∧
    t.pairRole = (if h.role = 1 then 2 else if s.roleCfg ≠ h.cfg then s.roleCfg else if s.reg64 Reg.CHIP_SERIAL_LO <
      h.serial then 1 else 2) ∧
    (t.pairRole ≠ s.roleCfg → t.rbit Reg.PAIR_STATUS 5 = true ∧ t.fc = (s.raise 443 FaultKind.PAIR_LINK_LOST (4 + 16
      * s.fld Reg.PAIR_STATUS 9 8)).fc) ∧ t.ctxs = s.ctxs) ∧
  (∀ (b : List Byte) (h : PairHello) (tm : Nat) (s : State), (s.pairOn = true ∧ (s.linkState = 1 ∨ s.linkState = 3 ∨
    s.linkState = 4) ∧ s.frameSound b = true ∧ beAt b 1 1 = 1 ∧ h = readPairHello b ∧ h.verMin ≤ 1 ∧ 1 ≤ h.verMax ∧
    s.pairRole = 1) →
    Completes (.pairHelloRx b tm) s fun t => t.linkState = 2 ∧ t.pairRole = (if h.role ≠ 1 then 1 else if
      s.pair.leadSince = h.since then (if s.reg64 Reg.CHIP_SERIAL_LO < h.serial then 1 else 2) else if h.since <
      s.pair.leadSince then 1 else 2) ∧
    (t.pairRole = 2 → t.rbit Reg.PAIR_STATUS 5 = true ∧ ∀ c ∈ s.encCtxs, c < 256 → t.diverged c = true)) ∧
  (∀ (b : List Byte) (tm : Nat) (s : State), (s.pairOn = true ∧ (s.linkState = 1 ∨ s.linkState = 3 ∨ s.linkState = 4)
    ∧ s.frameSound b = true ∧ beAt b 1 1 = 1 ∧ 1 < beAt b 16 2 ∧ nbit (beAt b 30 1) 1 = false) →
    Completes (.pairHelloRx b tm) s fun t => t.linkState = s.linkState ∧ t.pair = { s.pair with noVersion := true }
      ∧
    t.fc = (if s.pair.noVersion then s.fc else (s.raise 443 FaultKind.PAIR_LINK_LOST (3 + 16 * s.fld Reg.PAIR_STATUS
      9 8)).fc)) ∧
  (∀ (s : State), (s.linkOpen = true ∧ s.rbit Reg.FAULT_STATUS 1 = true ∧ s.encCtxs = []) →
    Completes .pairHeartbeatTimer s fun t => FrameOut 2 (beBytes 1 (b2n (s.rbit Reg.FAULT_STATUS 0) + 2 * b2n
      s.locked + 4 * b2n (s.rbit Reg.PAIR_STATUS 10)) ++ beBytes 1 s.pairRole ++ [0, 0] ++ beBytes 8 s.pair.echo.1
      ++ beBytes 8 s.pair.echo.2) s t ∧
    SameRegs [Reg.PAIR_FRAMES_TX] s t ∧ t = { s with regs := t.regs, pair := { s.pair with txSeq := t.pair.txSeq }, out := t.out }) ∧
  (∀ (b : List Byte) (o : Int) (tm : Nat) (s : State), (FrameIn s 2 b ∧ s.linkState = 2 ∧ beAt b 18 1 = 0 ∧
    s.pair.resetSent = none ∧ o = (((beAt b 28 8 : Nat) : Int) - (beAt b 20 8 : Nat) - ((tm : Int) - (beAt b 8 8 :
    Nat))).fdiv 2 ∧ o.natAbs ≤ s.regN Reg.PAIR_TIME_LIMIT ∧ o.natAbs < 2 ^ 31) →
    Completes (.pairHeartbeatRx b tm) s fun t => t.pair = { s.pair with rxNext := (s.pair.rxNext + 1) % 2 ^ 32, echo := (beAt b 8 8, tm) }
      ∧
    (t.reg Reg.PAIR_TIME_OFFSET).toInt = o ∧ t.rbit Reg.PAIR_STATUS 7 = nbit (beAt b 16 1) 0 ∧ t.rbit
      Reg.PAIR_STATUS 11 = nbit (beAt b 16 1) 2 ∧ t.rbit Reg.PAIR_STATUS 14 = false ∧
    SameRegs [Reg.PAIR_FRAMES_RX, Reg.PAIR_TIME_OFFSET, Reg.PAIR_STATUS] s t ∧ t = { s with regs := t.regs, pair := t.pair }) ∧
  (∀ (b : List Byte) (c : Nat) (tm : Nat) (s : State), (FrameIn s 2 b ∧ s.linkState = 2 ∧ beAt b 18 1 = 1 ∧ c = beAt
    b 36 1 ∧ s.pairRole = 2 ∧ (s.pairCtx c).switched = false) →
    Completes (.pairHeartbeatRx b tm) s fun t => t.pairCtx c = (s.pairCtx c).freeUpTo (beAt b 38 2) ∧ OnlyPairCtx c
      s t ∧ t.ctxs = s.ctxs) ∧
  (∀ (i : Instr) (b : List Byte) (typ : Nat) (tm : Nat) (s : State), (i = .pairHeartbeatRx b tm ∧ typ = 2 ∨ i =
    .xcheckRx b tm ∧ typ = 3 ∨ i = .pictureRx b tm ∧ typ = 4 ∨ i = .digestRx b tm ∧ typ = 5 ∨ i = .sessionFrameRx b
    tm ∧ typ = 6 ∨ i = .stateRx b tm ∧ typ = 8) → (s.pairOn = true ∧ beAt b 1 1 = typ ∧ (s.frameSound b = false ∨ 2
    ≤ s.linkState ∧ later32 s.pair.rxNext (beAt b 4 4) = true)) →
    exec i s = .next (s.bump Reg.PAIR_FRAME_ERRORS 1)) ∧
  (∀ (b : List Byte) (tm : Nat) (s : State), (s.pairOn = true ∧ 2 ≤ s.linkState ∧ s.frameSound b = true ∧ beAt b 1 1
    = 6 ∧ later32 (beAt b 4 4) s.pair.rxNext = true ∧ s.pair.waiting = []) →
    exec (.sessionFrameRx b tm) s = .next { s.bump Reg.PAIR_FRAMES_RX 1 with pair := { s.pair with waiting := [(beAt b 4 4, b, tm)] } }) ∧
  (∀ (q : Nat) (b : List Byte) (t : Nat) (s : State), (s.live 0x060 = true ∧ s.pair.waiting = [(q, b, t)] ∧ q < 2 ^
    32 ∧ s.pair.rxNext < 2 ^ 32) →
    exec .pairFrameWaitExpiry s = .next (({ s.bump Reg.PAIR_FRAME_ERRORS ((q + 2 ^ 32 - s.pair.rxNext) % 2 ^ 32) with pair := { s.pair with waiting := [], rxNext := (q + 1) % 2 ^ 32 } }).applyFrame
      b t)) ∧
  (∀ (lane : Bool) (s : State), (s.pairOn = true ∧ s.fld Reg.PAIR_STATUS 9 8 = 3) →
    Completes (.pairLaneLoss lane) s fun t => t.fld Reg.PAIR_STATUS 9 8 = (if lane then 1 else 2) ∧ t.linkState =
      s.linkState ∧
    t.fc = (s.raise 443 FaultKind.PAIR_LINK_LOST (2 + 16 * (if lane then 1 else 2))).fc ∧ SameRegs (Reg.PAIR_STATUS
      :: faultRegs FaultKind.PAIR_LINK_LOST) s t ∧ t = { s with regs := t.regs, fc := t.fc }) ∧
  (∀ (s : State), s.live 0x060 = true →
    Completes .pairLockLoss s fun t => t.fld Reg.PAIR_STATUS 9 8 = 0 ∧ t.linkState = (if s.linkState = 3 ∨
      s.linkState = 4 then s.linkState else 0) ∧
    t.pairRole = s.pairRole ∧ SameRegs [Reg.PAIR_STATUS] s t ∧ t = { s with regs := t.regs }) ∧
  (∀ (s : State), (s.linkOpen = true ∧ (s.pairRole ≠ 2 ∨ s.peerStopped = false)) →
    Completes .heartbeatLoss s fun t => t.linkState = 3 ∧ t.pairRole = s.pairRole ∧ t.fc = (s.raise 443
      FaultKind.PAIR_LINK_LOST (1 + 16 * s.fld Reg.PAIR_STATUS 9 8)).fc ∧
    SameRegs (Reg.PAIR_STATUS :: faultRegs FaultKind.PAIR_LINK_LOST) s t ∧ t = { s with regs := t.regs, fc := t.fc }) ∧
  (∀ (s : State), (s.pairOn = true ∧ s.linkState = 3) →
    Completes .gltPeerEdge s fun t => t.linkState = 4 ∧ t.rbit Reg.PAIR_STATUS 6 = true ∧ t.fc = (s.raise 443
      FaultKind.PAIR_PARTITION 0).fc ∧
    SameRegs (Reg.PAIR_STATUS :: faultRegs FaultKind.PAIR_PARTITION) s t ∧ t = { s with regs := t.regs, fc := t.fc }) ∧
  (∀ (s : State), (s.pairOn = true ∧ s.linkState = 4 ∧ s.pairRole = 1) →
    Completes .peerGltSilent s fun t => t.rbit Reg.PAIR_STATUS 6 = false ∧ t.linkState = (if s.peerStopped then 4
      else 3) ∧ t.pairRole = 1 ∧ SameRegs [Reg.PAIR_STATUS] s t ∧ t = { s with regs := t.regs }) ∧
  (∀ (i : Instr) (s : State), (i = .takeover ∧ s.linkState = 3 ∧ s.peerStopped = true ∨ i = .heartbeatLoss ∧
    s.linkState = 2 ∧ s.peerStopped = true ∨ i = .peerGltSilent ∧ (s.linkState = 3 ∨ s.linkState = 4) ∧
    s.peerStopped = false) → (s.pairOn = true ∧ s.pairRole = 2 ∧ s.rbit Reg.PAIR_CTRL 5 = true ∧ s.rbit
    Reg.FAULT_STATUS 0 = false) →
    Completes i s fun t => t.pairRole = 1 ∧ t.pair.leadSince = s.now ∧ t.rbit Reg.PAIR_STATUS 12 = false ∧ t.reg64
      Reg.PAIR_LAST_TAKEOVER_LO = s.now % 2 ^ 64 ∧
    t.regN Reg.PAIR_TAKEOVERS = min (s.regN Reg.PAIR_TAKEOVERS + 1) 0xFFFFFFFF ∧ t.pair.swTime = none ∧ t.linkState
      = 3 ∧ t.otp = s.otp ∧ t.flash = s.flash ∧ t.rc = s.rc) ∧
  (∀ (i : Instr) (s : State), (i = .takeover ∨ i = .heartbeatLoss) → (s.pairOn = true ∧ s.linkState = 3 ∧ (s.pairRole
    ≠ 2 ∨ s.rbit Reg.PAIR_CTRL 5 = false ∨ s.rbit Reg.FAULT_STATUS 0 = true)) →
    exec i s = .next s)

/-- Pairs at work: picture records, digests, cross-checks, sessions, snapshots, planned switches, resets of the
partner (R644, R744, R745, R747, R748, R750, R754, R755). -/
def Obligations.PairWork : Prop :=
  (∀ (b : List Byte) (c : Nat) (tm : Nat) (s : State), (FrameIn s 4 b ∧ s.pairRole = 2 ∧ c = beAt b 16 1 ∧
    s.ctxEnabled c = true ∧ s.isEncode c = true ∧ (s.pairCtx c).resync = false) → ((s.pairCtx c).pics.length + 1 <
    s.fld Reg.PAIR_CTRL 19 16) →
    Completes (.pictureRx b tm) s fun t => t.pairCtx c = { s.pairCtx c with pics := (s.pairCtx c).pics ++ [readPicture b] }
      ∧ OnlyPairCtx c s t ∧
    SameRegs [Reg.PAIR_FRAMES_RX] s t ∧ t = { s with regs := t.regs, pair := { s.pair with rxNext := (s.pair.rxNext + 1) % 2 ^ 32, ctxs := t.pair.ctxs } }) ∧
  (∀ (b : List Byte) (c : Nat) (tm : Nat) (s : State), (FrameIn s 4 b ∧ s.linkState = 2 ∧ s.pairRole = 2 ∧ c = beAt b
    16 1 ∧ s.ctxEnabled c = true ∧ s.isEncode c = true ∧ (s.pairCtx c).resync = false ∧ s.diverged c = false) →
    (s.fld Reg.PAIR_CTRL 19 16 ≤ (s.pairCtx c).pics.length + 1) →
    Completes (.pictureRx b tm) s fun t => t.diverged c = true ∧ (t.pairCtx c).hold = [] ∧ (t.pairCtx c).resync =
      true ∧ t.fc = (s.raise 443 FaultKind.PAIR_SHADOW_DIVERGED (c + 256 * 4)).fc ∧
    FrameOut 7 ([5] ++ beBytes 1 c ++ List.replicate 10 0) s t ∧ OnlyPairCtx c s t ∧
    SameRegs ([Reg.PAIR_FRAMES_RX, Reg.PAIR_FRAMES_TX, Reg.PAIR_DIVERGED (c / 32), Reg.PAIR_DIVERGENCES] ++
      faultRegs FaultKind.PAIR_SHADOW_DIVERGED) s t ∧ t = { s with regs := t.regs, fc := t.fc, pair := t.pair, out := t.out }) ∧
  (∀ (b : List Byte) (c : Nat) (d e : PairDigest) (tm : Nat) (s : State), (FrameIn s 5 b ∧ s.linkState = 2 ∧
    s.pairRole = 2 ∧ c = beAt b 16 1 ∧ s.pairCtx c = { PairCtx.init with mine := [d] } ∧ e = ⟨beAt b 20 4, beAt b 24
    2, beAt b 26 2, beAt b 28 4, beAt b 32 4⟩ ∧ d.ts = e.ts) →
    Completes (.digestRx b tm) s fun t => OnlyPairCtx c s t ∧ SameRegs ([Reg.PAIR_FRAMES_RX, Reg.PAIR_FRAMES_TX,
      Reg.PAIR_DIVERGED (c / 32), Reg.PAIR_DIVERGENCES] ++ faultRegs FaultKind.PAIR_SHADOW_DIVERGED) s t ∧
    t = { s with regs := t.regs, fc := t.fc, pair := t.pair, out := t.out } ∧ if d = e then t.diverged c = false ∧
      t.pairCtx c = PairCtx.init ∧ t.fc = s.fc
    else t.diverged c = true ∧ (s.diverged c = false → t.fc = (s.raise 443 FaultKind.PAIR_SHADOW_DIVERGED (c +
      256)).fc ∧ FrameOut 7 ([5] ++ beBytes 1 c ++ List.replicate 10 0) s t)) ∧
  (∀ (b : List Byte) (l p : XEntry) (tm : Nat) (s : State), (FrameIn s 3 b ∧ readXcheck b tm = [p] ∧ s.pair.mine =
    [l] ∧ s.pair.theirs = [] ∧ l.same p = true ∧ l.outcome ∉ [1, 3, 6] ∧ p.outcome ∉ [1, 3, 6] ∧ (s.pairRole ≠ 1 ∨
    s.rbit Reg.PAIR_CTRL 4 = false)) →
    Completes (.xcheckRx b tm) s fun t => SameRegs ([Reg.PAIR_FRAMES_RX, Reg.PAIR_STATUS, Reg.PAIR_XCHECK_CELLS,
      Reg.PAIR_XCHECK_SELF, Reg.PAIR_XCHECK_PEER, Reg.PAIR_XCHECK_SOURCE, Reg.PAIR_XCHECK_UNDECIDED,
      Reg.PAIR_XCHECK_TIME_DIFF] ++ faultRegs FaultKind.PAIR_XCHECK_MISMATCH) s t ∧
    t = { s with regs := t.regs, fc := t.fc, pair := t.pair } ∧ t.pair.mine = [] ∧ t.pair.theirs = [] ∧
    (let n (k : Nat) : Nat := min (s.regN k + 1) 0xFFFFFFFF
    let told (v : Nat) : Prop := t.fc = (s.raise 443 FaultKind.PAIR_XCHECK_MISMATCH (l.cell % 65536 + 65536 * (l.ctx
      % 256) + 2 ^ 24 * v)).fc
    if l.sheet ≠ p.sheet then t.regN Reg.PAIR_XCHECK_UNDECIDED = n Reg.PAIR_XCHECK_UNDECIDED ∧ told 4
    else if l.mine = p.mine then (if l.mine = l.sheet then t.regN Reg.PAIR_XCHECK_CELLS = n Reg.PAIR_XCHECK_CELLS ∧
      t.regN Reg.PAIR_XCHECK_TIME_DIFF = min (s.regN Reg.PAIR_XCHECK_TIME_DIFF + b2n (l.time != p.time)) 0xFFFFFFFF
      else t.regN Reg.PAIR_XCHECK_SOURCE = n Reg.PAIR_XCHECK_SOURCE) ∧ t.fc = s.fc
    else if l.mine = l.sheet then t.regN Reg.PAIR_XCHECK_PEER = n Reg.PAIR_XCHECK_PEER ∧ told 2
    else if p.mine = l.sheet then t.regN Reg.PAIR_XCHECK_SELF = n Reg.PAIR_XCHECK_SELF ∧ told 1
    else t.regN Reg.PAIR_XCHECK_UNDECIDED = n Reg.PAIR_XCHECK_UNDECIDED ∧ told 4)) ∧
  (∀ (s : State), s.live 0x060 = true →
    Completes .xcheckWaitExpiry s fun t => t.pair.mine = s.pair.mine.filter (fun e => decide (s.now < e.at_ + s.fld
      Reg.PAIR_XCHECK_WAIT 15 0 * 1000000)) ∧
    t.pair.theirs = s.pair.theirs.filter (fun e => decide (s.now < e.at_ + s.fld Reg.PAIR_XCHECK_WAIT 15 0 *
      1000000)) ∧
    t.regN Reg.PAIR_XCHECK_UNMATCHED = min (s.regN Reg.PAIR_XCHECK_UNMATCHED + (s.pair.mine.length -
      t.pair.mine.length) + (s.pair.theirs.length - t.pair.theirs.length)) 0xFFFFFFFF ∧
    SameRegs [Reg.PAIR_XCHECK_UNMATCHED] s t ∧ t = { s with regs := t.regs, pair := { s.pair with mine := t.pair.mine, theirs := t.pair.theirs } }) ∧
  (∀ (b : List Byte) (tm : Nat) (s : State), (FrameIn s 6 b ∧ s.pairRole = 2) →
    Completes (.sessionFrameRx b tm) s fun t => (let c := beAt b 16 1
    let other (o : SessCopy) : Bool := !(o.ctx == c && o.id == beAt b 20 4 && o.peer == beAt b 24 16)
    t.pair.sessions = s.pair.sessions.filter other ++ (if beAt b 17 1 = 2 then [] else
    [⟨c, beAt b 20 4, beAt b 24 16, beAt b 40 2, beAt b 42 2, beAt b 44 4, beAt b 48 4, beAt b 52 2, beAt b 54 2,
      beAt b 56 2, beAt b 58 2⟩])) ∧
    SameRegs [Reg.PAIR_FRAMES_RX] s t ∧ t = { s with regs := t.regs, pair := { s.pair with rxNext := (s.pair.rxNext + 1) % 2 ^ 32, sessions := t.pair.sessions } }) ∧
  (∀ (c : Nat) (e : EncSession) (s : State), (s.linkOpen = true ∧ s.pairRole = 1 ∧ s.encCtxs = [c] ∧ (s.ctx c).encs =
    [e]) →
    Completes .sessionFrameTimer s fun t => FrameOut 6 (beBytes 1 c ++ [4, 0, 0] ++ beBytes 4 e.id ++ beBytes 16
      e.src ++ beBytes 2 e.srcPort ++ beBytes 2 e.version ++ beBytes 4 e.seq ++ beBytes 4 e.lastSeq ++
    beBytes 2 e.kaMs ++ beBytes 2 e.dlExact ++ beBytes 2 e.dlLossy ++ beBytes 2 e.netAllow) s t ∧ SameRegs
      [Reg.PAIR_FRAMES_TX] s t ∧ t = { s with regs := t.regs, pair := { s.pair with txSeq := t.pair.txSeq }, out := t.out }) ∧
  (∀ (b : List Byte) (c : Nat) (tm : Nat) (s : State), (FrameIn s 8 b ∧ s.pairRole = 2 ∧ c = beAt b 16 1 ∧ s.pairCtx
    c = { PairCtx.init with resync := true } ∧ beAt b 18 2 + b.length < 3488) →
    Completes (.stateRx b tm) s fun t => (∀ i ∈ List.range (b.length - 28), Sparse.get (fun _ => none) (t.pairCtx
      c).snap (beAt b 18 2 + i) = b[24 + i]?) ∧
    (t.pairCtx c).resync = true ∧ OnlyPairCtx c s t ∧ SameRegs [Reg.PAIR_FRAMES_RX] s t ∧ t = { s with regs := t.regs, pair := { s.pair with rxNext := (s.pair.rxNext + 1) % 2 ^ 32, ctxs := t.pair.ctxs } }) ∧
  (∀ (b : List Byte) (c : Nat) (tm : Nat) (s : State), (CommandIn s 5 b ∧ s.linkState = 2 ∧ s.pairRole = 1 ∧ c = beAt
    b 17 1 ∧ s.ctxEnabled c = true ∧ s.isEncode c = true ∧ (s.ctx c).pic = none) →
    Completes (.resyncReqRx b tm) s fun t => t.out.drop 4 = s.out ∧ t.pair.txSeq = (s.pair.txSeq + 4) % 2 ^ 32 ∧
      (t.ctx c).encPending.all = true ∧ (t.pairCtx c).resync = false ∧ OnlyCtx c s t ∧ OnlyPairCtx c s t ∧
    t.out.take 4 = [3072, 2048, 1024, 0].map (fun o => .pairFrame 8 (linkFrame (s.fld Reg.PAIR_STATUS 23 16) 8
      ((s.pair.txSeq + o / 1024) % 2 ^ 32) s.now (beBytes 1 c ++ [0] ++ beBytes 2 o ++ beBytes 2 3488 ++ [0, 0] ++
      sliceB (s.snapshot c) o 1024)))) ∧
  (∀ (s : State), (s.live 0x060 = true ∧ (s.linkOpen = false ∨ s.rbit Reg.PAIR_CMD_STATUS 0 = true)) →
    exec .pairSwitch s = .next (s.setFld Reg.PAIR_CMD_STATUS 7 4 (if s.linkOpen then 3 else 2))) ∧
  (∀ (s : State), (s.linkOpen = true ∧ s.rbit Reg.PAIR_CMD_STATUS 0 = false ∧ s.pairRole = 1 ∧ ∀ k ∈ List.range 8,
    s.regN (Reg.PAIR_DIVERGED k) = 0) →
    Completes .pairSwitch s fun t => t.rbit Reg.PAIR_CMD_STATUS 0 = true ∧ t.pair.swTime = some (s.now + 50000000) ∧
      FrameOut 7 ([1, 0, 0, 0] ++ beBytes 8 (s.now + 50000000)) s t ∧
    SameRegs [Reg.PAIR_CMD_STATUS, Reg.PAIR_FRAMES_TX] s t ∧ t = { s with regs := t.regs, pair := t.pair, out := t.out }) ∧
  (∀ (b : List Byte) (tm : Nat) (s : State), (CommandIn s 1 b ∧ s.linkState = 2 ∧ s.pairRole = 2 ∧ s.pair.swTime =
    none ∧ s.now < beAt b 20 8 ∧ ∀ k ∈ List.range 8, s.regN (Reg.PAIR_DIVERGED k) = 0) →
    Completes (.switchReqRx b tm) s fun t => FrameOut 7 ([2, 0, 0, 0] ++ beBytes 8 (beAt b 20 8)) s t ∧ t.pair = { s.pairHeard.pair with swTime := some (beAt b 20 8), swAgreed := true, txSeq := t.pair.txSeq }
      ∧
    SameRegs [Reg.PAIR_FRAMES_RX, Reg.PAIR_FRAMES_TX, Reg.PAIR_CMD_STATUS] s t ∧ t = { s with regs := t.regs, pair := t.pair, out := t.out }) ∧
  (∀ (b : List Byte) (tm : Nat) (s : State), (CommandIn s 1 b ∧ s.linkState = 2 ∧ s.pairRole = 2 ∧
    (s.pair.swTime.isSome = true ∨ ∃ k ∈ List.range 8, s.regN (Reg.PAIR_DIVERGED k) ≠ 0)) →
    Completes (.switchReqRx b tm) s fun t => FrameOut 7 ([3, 0] ++ beBytes 2 (if s.pair.swTime.isSome then 3 else 4)
      ++ List.replicate 8 0) s t ∧ t.pair = { s.pairHeard.pair with txSeq := t.pair.txSeq } ∧
    SameRegs [Reg.PAIR_FRAMES_RX, Reg.PAIR_FRAMES_TX] s t ∧ t = { s with regs := t.regs, pair := t.pair, out := t.out }) ∧
  (∀ (b : List Byte) (x : Nat) (tm : Nat) (s : State), (CommandIn s 2 b ∧ s.pair.swTime = some x ∧ s.now < x) →
    exec (.switchAckRx b tm) s = .next { s.pairHeard with pair := { s.pairHeard.pair with swAgreed := true } }) ∧
  (∀ (b : List Byte) (tm : Nat) (s : State), (CommandIn s 3 b) →
    Completes (.switchRefuseRx b tm) s fun t => t.regN Reg.PAIR_CMD_STATUS = 16 * (beAt b 18 2 % 16) ∧ t.pair = { s.pairHeard.pair with swTime := none, swAgreed := false, resetSent := none }
      ∧
    SameRegs [Reg.PAIR_FRAMES_RX, Reg.PAIR_CMD_STATUS] s t ∧ t = { s with regs := t.regs, pair := t.pair }) ∧
  (∀ (s : State), s.linkOpen = true →
    Completes .resetPeer s fun t => FrameOut 7 ([4, 0, 0, 0] ++ beBytes 8 0) s t ∧ t.pair.resetSent = some s.now ∧
      t.fld Reg.PAIR_CMD_STATUS 7 4 = 1 ∧
    SameRegs [Reg.PAIR_CMD_STATUS, Reg.PAIR_FRAMES_TX] s t ∧ t = { s with regs := t.regs, pair := t.pair, out := t.out }) ∧
  (∀ (b : List Byte) (tm : Nat) (s : State), (CommandIn s 4 b ∧ (s.pair.resetSent = none ∨ s.pairRole = 2) ∧ s.rbit
    Reg.RESET_PAIR 0 = false) →
    Completes (.pairResetRx b tm) s fun t => t.regN Reg.RESET_COUNT_PAIR_REFUSED = min (s.regN
      Reg.RESET_COUNT_PAIR_REFUSED + 1) 0xFFFFFFFF ∧
    t.fc = (s.raise 502 FaultKind.PAIR_RESET_REFUSED 0).fc ∧ t.rc = s.rc ∧ SameRegs ([Reg.PAIR_FRAMES_RX,
      Reg.RESET_COUNT_PAIR_REFUSED] ++ faultRegs FaultKind.PAIR_RESET_REFUSED) s t ∧ t = { s with regs := t.regs, fc := t.fc, pair := s.pairHeard.pair }) ∧
  (∀ (b : List Byte) (tm : Nat) (s : State), (CommandIn s 4 b ∧ s.pair.resetSent = none ∧ s.rbit Reg.RESET_PAIR 0 =
    true ∧ s.rc.held = [] ∧ s.rc.asserted = []) →
    Completes (.pairResetRx b tm) s fun t => FullReset .pair s t) ∧
  (∀ (s : State), s.live 0x060 = true →
    Completes .suspectClear s fun t => t.rbit Reg.PAIR_STATUS 10 = false ∧ t.pair = { s.pair with suspects := [] } ∧
      SameRegs [Reg.PAIR_STATUS] s t ∧ t = { s with regs := t.regs, pair := t.pair })

/-- The TAP, boundary scan, engine debug, SMBus, the PCI Express link and configuration requests, the house Stage
Manager's timers (R510, R549, R648, R675, R677, R789, R797, R798). -/
def Obligations.PinsAndHouse : Prop :=
  (∀ (s : State),
    exec .tapReset s = .next { s with tap := Tap.init }) ∧
  (∀ (s : State),
    exec .idcode s = .next { s with tap := { ir := .idcode, driven := [] }, out := .tdo (s.fld Reg.CHIP_REV 3 0 * 2 ^ 28 + 0x09616B57) :: s.out }) ∧
  (∀ (n v : Nat) (s : State),
    Completes (.bypass n v) s fun t => t.tap = { ir := .bypass, driven := [] } ∧ t.out = .tdo (2 * v % 2 ^ n) ::
      s.out ∧ t = { s with tap := t.tap, out := t.out }) ∧
  (∀ (q : ScanAsk) (s : State),
    Completes (.boundaryScan q) s fun t => t.tap = { ir := .boundary, driven := q.drive } ∧ t.out = .tdo q.cells ::
      (q.drive.map fun b => .ball b.1 b.2).reverse ++ s.out ∧ t = { s with tap := t.tap, out := t.out }) ∧
  (∀ (q : DebugAsk) (s : State), s.rbit Reg.TRUST_DEBUG 0 = false →
    exec (.engineDebug q) s = .next s) ∧
  (∀ (n : Fin 16) (g : Fin 32) (q : DebugAsk) (s : State), (s.rbit Reg.TRUST_DEBUG 0 = true ∧ q.ce = true ∧ q.n.val =
    n.val ∧ q.look = some g ∧ q.resume = false ∧ (s.ceEng n.val).broken = true) →
    exec (.engineDebug q) s = .next { s with out := .tdo (s.ceGet n.val g.val) :: s.out, tap := { ir := .debug, driven := [] } }) ∧
  (∀ (n : Fin 16) (g : Fin 32) (q : DebugAsk) (w : Nat) (s : State), (s.rbit Reg.TRUST_DEBUG 0 = true ∧ q.ce = true ∧
    q.n.val = n.val ∧ q.look = some g ∧ q.resume = true ∧ (s.ceEng n.val).broken = true) → (s.ceWordAt n.val
    (s.ceEng n.val).pc = w ∧ (s.ceEng n.val).level ≠ 0 ∧ ∀ h ∈ (s.ceEng n.val).hook, h.2 < s.fld Reg.UC_HOOK_LIMIT
    15 0) → (if ceY w = true ∧ (s.ceEng n.val).level = 1 then s.nextSource n.val = none else (s.ceEng n.val).count ≠
    255) →
    Completes (.engineDebug q) s fun t => t.out = .tdo (s.ceGet n.val g.val) :: s.out ∧ t.tap = { ir := .debug, driven := [] }
      ∧ OnlyCe n.val s t ∧
    t.ceEng n.val = { s.ceEng n.val with broken := false }.onward w ∧
    SameRegs (ceRegs n.val) s t ∧ t = { s with regs := t.regs, ce := t.ce, tap := t.tap, out := t.out }) ∧
  (∀ (n : Fin 96) (q : DebugAsk) (s : State), (s.rbit Reg.TRUST_DEBUG 0 = true ∧ q.ce = false ∧ q.n = n ∧ q.look =
    none ∧ (s.pxEng n.val).broken = true) →
    Completes (.engineDebug q) s fun t => t.out = .tdo (s.pxEng n.val).pc :: s.out ∧ t.tap = { ir := .debug, driven := [] }
      ∧ OnlyPx n.val s t ∧
    (t.pxEng n.val).broken = !q.resume ∧ t = { s with regs := t.regs, px := t.px, tap := t.tap, out := t.out }) ∧
  (∀ (off : BitVec 24) (s : State), (pageOf off.toNat ≠ 0x000 ∧ pageOf off.toNat ≠ 0x005 ∧ pageOf off.toNat ≠ 0x007)
    →
    exec (.smbusRegisterRead 0x10 off) s = .next { s with out := .readData 0 :: s.out }) ∧
  (∀ (s : State), s.live 0x000 = true →
    exec (.smbusRegisterRead 0x10 (BitVec.ofNat 24 Reg.CHIP_SCRATCH)) s = .next { s with out := .readData (s.reg Reg.CHIP_SCRATCH) :: s.out }) ∧
  (∀ (cmd : Byte) (off : BitVec 24) (s : State), cmd ≠ 0x10 →
    exec (.smbusRegisterRead cmd off) s = .next s) ∧
  (∀ (speed : Fin 5) (width : Fin 9) (s : State),
    Completes (.pcieLinkUp (some (speed, width))) s fun t => t.pcie = { s.pcie with up := true, speed := speed.val, width := width.val }
      ∧ SameRegs [Reg.HOSTQ_PCIE_STATUS] s t ∧ t = { s with regs := t.regs, pcie := t.pcie }) ∧
  (∀ (s : State),
    Completes (.pcieLinkUp none) s fun t => t.pcie = { s.pcie with up := false, speed := 0, width := 0 } ∧ SameRegs
      [Reg.HOSTQ_PCIE_STATUS] s t ∧ t = { s with regs := t.regs, pcie := t.pcie }) ∧
  (∀ (q : ConfigAsk) (s : State), (s.pcie.up = true ∧ (s.domainHeld 9 = true ∨ s.domainHeld 10 = true ∨ s.domainHeld
    11 = true)) →
    exec (.configRequest q) s = .next { s with out := .completion 3 :: s.out }) ∧
  (∀ (s : State), (s.pcie.up = true ∧ s.domainHeld 9 = false ∧ s.domainHeld 10 = false ∧ s.domainHeld 11 = false) →
    exec (.configRequest ⟨0, none⟩) s = .next { s with out := .readData 0x96161F3E :: s.out }) ∧
  (∀ (d : BitVec 10) (v : Word) (be : BitVec 4) (s : State), (s.pcie.up = true ∧ s.domainHeld 9 = false ∧
    s.domainHeld 10 = false ∧ s.domainHeld 11 = false ∧ d.toNat ≠ 17) →
    Completes (.configRequest ⟨d, some (v, be)⟩) s fun t => t.out = .completion 0 :: s.out ∧
    t.cfgWord d.toNat = (s.cfgWord d.toNat &&& ~~~(cfgMask d.toNat &&& byteMask be)) ||| (v &&& (cfgMask d.toNat &&&
      byteMask be)) ∧
    (∀ e, e ≠ d.toNat → t.cfgWord e = s.cfgWord e) ∧ SameRegs [Reg.HOSTQ_PCIE_STATUS] s t ∧ t = { s with regs := t.regs, pcie := { s.pcie with cfg := t.pcie.cfg }, out := t.out }) ∧
  (∀ (s : State), (s.live 0x030 = true ∧ s.houseRuns = true ∧ s.rbit (Reg.NET_STATUS 0) 5 = false ∧ 1518 ≤ s.fld
    (Reg.NET_MTU 0) 13 0 ∧ s.fld (Reg.NET_MTU 0) 13 0 ≤ 9216) →
    Completes .houseRateAlternate s fun t => t.rbit (Reg.NET_CTRL 0) 0 = !s.rbit (Reg.NET_CTRL 0) 0 ∧ t.rbit
      (Reg.NET_CTRL 0) 1 = false ∧ t.enabled 0x030 = true ∧ t.rc = s.rc ∧ t = { s with regs := t.regs, mem := t.mem, queues := t.queues, cuex := t.cuex, freeCtr := t.freeCtr }) ∧
  (∀ (heard : Bool) (s : State), (s.live 0x030 = true ∧ s.houseRuns = true) →
    exec (.houseGroupClaim heard) s = .next (if s.rc.claim.isNone then { s with rc := { s.rc with claim := some (if heard then 4 else 0) } }
      else s))

/-- A step carries out the command at the front of the queue with the queue's rest; on an empty queue the time base
ticks (the model's choice, assumption 1) (R2, R479). -/
def Obligations.StepRunsTheFront : Prop :=
  (∀ (c : Instr) (rest : List Instr) (s : State),
    step { s with pending := c :: rest } = exec c { s with pending := rest }) ∧
  (∀ (s : State), s.pending = [] →
    step s = .next s.tick) ∧
  (∀ (nbits w : Nat) (s : State),
    decodeTableWord nbits w = none ∧ s.withFetchWord nbits w = s)

/-- After power-on every domain is held, the queue is empty, every register is at its reset value and the state is
sound (R10, R640, R645, R790). -/
def Obligations.ResetHoldsAll : Prop :=
    State.reset.Inv ∧ State.reset.pending = [] ∧ State.reset.rc.held = rangeFrom 1 11 ∧ State.reset.rc.asserted =
      [.powerOn] ∧
    (∀ k, State.reset.reg k = regReset k) ∧ State.reset.tb = TimeBase.init ∧ State.reset.mem = [] ∧ State.reset.ctxs
      = [] ∧ State.reset.out = []

/-- Every step and every command completes, keeps the canonical forms and the range of the time base and clears no
bit of the OTP; a step takes one command (R7, R479, R662). -/
def Obligations.StepKeepsInvariant : Prop :=
  (∀ (s : State),
    ∃ t, step s = .next t ∧ t.pending = s.pending.tail ∧ (s.Inv → t.Inv) ∧ OtpGrows s t) ∧
  (∀ (i : Instr) (s : State),
    ∃ t, exec i s = .next t ∧ t.pending = s.pending ∧ (s.Inv → t.Inv) ∧ OtpGrows s t)
end

