-- ==== Sys2Proof/Laws/Bits.lean ====
section
/-! SUPPORT. The check value of a list of bytes fits a register. -/

namespace Sys2Proof.Machine

theorem crcBitR_lt {p r : Nat} (hp : p < 2 ^ 32) (h : r < 2 ^ 32) : crcBitR p r < 2 ^ 32 := by
  unfold crcBitR
  split
  · exact Nat.xor_lt_two_pow (by omega) hp
  · omega

theorem crcBitsR_lt {p : Nat} (hp : p < 2 ^ 32) : ∀ {n r : Nat}, r < 2 ^ 32 → crcBitsR p n r < 2 ^ 32 := by
  intro n
  induction n with
  | zero => intro r h; exact h
  | succ n ih => intro r h; exact ih (crcBitR_lt hp h)

/-- A CRC-32C has 32 bits. -/
theorem crc32c_lt (bs : List Byte) : crc32c bs < 2 ^ 32 := by
  unfold crc32c
  refine Nat.xor_lt_two_pow ?_ (by decide)
  suffices ∀ r, r < 2 ^ 32 → bs.foldl (fun r b => crcBitsR 0x82F63B78 8 (r ^^^ b.toNat)) r < 2 ^ 32 from this _ (by decide)
  induction bs with
  | nil => intro r h; exact h
  | cons b bs ih =>
    intro r h
    have hb := b.isLt
    exact ih _ (crcBitsR_lt (by decide) (Nat.xor_lt_two_pow h (by omega)))

end Sys2Proof.Machine
end

