-- ==== Sys2Proof/Laws/Sparse.lean ====
section
/-! SUPPORT. The laws of sparse maps: a read after a write, the canonical form that every write keeps, and that equal
maps in it are equal data. -/

namespace Sys2Proof.Machine

variable {α : Type}

theorem Sparse.get_nil (d : Nat → α) (k : Nat) : Sparse.get d [] k = d k := rfl

theorem Sparse.get_cons (d : Nat → α) (p : Nat × α) (m : Sparse α) (k : Nat) :
    Sparse.get d (p :: m) k = if p.1 = k then p.2 else Sparse.get d m k := by
  by_cases h : p.1 = k <;> simp [Sparse.get, h]

theorem Sparse.get_place_same (d : Nat → α) (k : Nat) (v : α) (m : Sparse α) (h : ∀ p ∈ m, p.1 ≠ k) :
    Sparse.get d (Sparse.place k v m) k = v := by
  induction m with
  | nil => simp [Sparse.place, Sparse.get_cons]
  | cons p r ih =>
    have hp : p.1 ≠ k := h p (by simp)
    have hr : ∀ q ∈ r, q.1 ≠ k := fun q hq => h q (by simp [hq])
    by_cases c : k < p.1 <;> simp [Sparse.place, c, Sparse.get_cons, hp, ih hr]

theorem Sparse.get_place_other (d : Nat → α) (k j : Nat) (v : α) (m : Sparse α) (h : j ≠ k) :
    Sparse.get d (Sparse.place k v m) j = Sparse.get d m j := by
  have h' : k ≠ j := fun e => h e.symm
  induction m with
  | nil => simp [Sparse.place, Sparse.get_cons, h']
  | cons p r ih =>
    by_cases c : k < p.1
    · simp [Sparse.place, c, Sparse.get_cons, h']
    · simp [Sparse.place, c, Sparse.get_cons, ih]

theorem Sparse.get_filter (d : Nat → α) (f : Nat → Bool) (m : Sparse α) (k : Nat) :
    Sparse.get d (m.filter fun p => f p.1) k = if f k then Sparse.get d m k else d k := by
  induction m with
  | nil => simp [Sparse.get_nil]
  | cons p r ih =>
    by_cases c : f p.1 = true
    · rw [List.filter_cons_of_pos (by simpa using c), Sparse.get_cons, Sparse.get_cons, ih]
      by_cases e : p.1 = k
      · subst e; simp [c]
      · simp [e]
    · rw [List.filter_cons_of_neg (by simpa using c), ih, Sparse.get_cons]
      by_cases e : p.1 = k
      · subst e; simp [c]
      · simp [e]

theorem Sparse.get_erase (d : Nat → α) (k j : Nat) (m : Sparse α) :
    Sparse.get d (Sparse.erase k m) j = if j = k then d j else Sparse.get d m j := by
  have h := Sparse.get_filter d (fun i => i != k) m j
  unfold Sparse.erase
  rw [h]
  by_cases e : j = k <;> simp [e]

theorem Sparse.erase_ne (k : Nat) (m : Sparse α) : ∀ p ∈ Sparse.erase k m, p.1 ≠ k := by
  intro p hp
  have := (List.mem_filter.mp hp).2
  simpa using this

/-- A read of the key written gives the value written. -/
theorem Sparse.get_set_same [DecidableEq α] (d : Nat → α) (m : Sparse α) (k : Nat) (v : α) :
    Sparse.get d (Sparse.set d m k v) k = v := by
  unfold Sparse.set
  split
  · next h => rw [Sparse.get_erase]; simp [h]
  · exact Sparse.get_place_same d k v _ (Sparse.erase_ne k m)

/-- A write leaves every other key as it was. -/
theorem Sparse.get_set_other [DecidableEq α] (d : Nat → α) (m : Sparse α) (k j : Nat) (v : α) (h : j ≠ k) :
    Sparse.get d (Sparse.set d m k v) j = Sparse.get d m j := by
  unfold Sparse.set
  split
  · rw [Sparse.get_erase]; simp [h]
  · rw [Sparse.get_place_other d k j v _ h, Sparse.get_erase]; simp [h]

theorem Sparse.get_set [DecidableEq α] (d : Nat → α) (m : Sparse α) (k j : Nat) (v : α) :
    Sparse.get d (Sparse.set d m k v) j = if j = k then v else Sparse.get d m j := by
  by_cases h : j = k
  · subst h; simp [Sparse.get_set_same]
  · simp [h, Sparse.get_set_other]

theorem Sparse.mem_place (k : Nat) (v : α) (m : Sparse α) (p : Nat × α) (h : p ∈ Sparse.place k v m) :
    p = (k, v) ∨ p ∈ m := by
  induction m with
  | nil => simpa [Sparse.place] using h
  | cons q r ih =>
    by_cases c : k < q.1
    · simpa [Sparse.place, c] using h
    · simp [Sparse.place, c] at h
      rcases h with h | h
      · simp [h]
      · rcases ih h with h | h <;> simp [h]

theorem Sparse.wf_nil (d : Nat → α) : Sparse.Wf d [] := ⟨List.Pairwise.nil, by simp⟩

/-- Taking entries out keeps the canonical form. -/
theorem Sparse.wf_filter (d : Nat → α) (f : Nat × α → Bool) (m : Sparse α) (h : Sparse.Wf d m) :
    Sparse.Wf d (m.filter f) :=
  ⟨h.1.filter f, fun p hp => h.2 p (List.mem_filter.mp hp).1⟩

theorem Sparse.wf_place (d : Nat → α) (k : Nat) (v : α) (m : Sparse α) (h : Sparse.Wf d m) (hv : v ≠ d k)
    (hk : ∀ p ∈ m, p.1 ≠ k) : Sparse.Wf d (Sparse.place k v m) := by
  refine ⟨?_, ?_⟩
  · have h1 := h.1
    clear h hv
    induction m with
    | nil => simp [Sparse.place]
    | cons p r ih =>
      have hp : p.1 ≠ k := hk p (by simp)
      have hr : ∀ q ∈ r, q.1 ≠ k := fun q hq => hk q (by simp [hq])
      rw [List.pairwise_cons] at h1
      by_cases c : k < p.1
      · simp only [Sparse.place, c, if_true]
        refine List.pairwise_cons.mpr ⟨?_, List.pairwise_cons.mpr h1⟩
        intro q hq
        rcases List.mem_cons.mp hq with e | e
        · subst e; exact c
        · exact lt_trans c (h1.1 q e)
      · simp only [Sparse.place, c, if_false]
        refine List.pairwise_cons.mpr ⟨?_, ih hr h1.2⟩
        intro q hq
        rcases Sparse.mem_place k v r q hq with e | e
        · subst e; omega
        · exact h1.1 q e
  · intro p hp
    rcases Sparse.mem_place k v m p hp with e | e
    · subst e; exact hv
    · exact h.2 p e

/-- A write keeps the canonical form. -/
theorem Sparse.wf_set [DecidableEq α] (d : Nat → α) (m : Sparse α) (k : Nat) (v : α) (h : Sparse.Wf d m) :
    Sparse.Wf d (Sparse.set d m k v) := by
  unfold Sparse.set
  split
  · exact Sparse.wf_filter d _ m h
  · next hv => exact Sparse.wf_place d k v _ (Sparse.wf_filter d _ m h) hv (Sparse.erase_ne k m)

theorem Sparse.wf_setRange [DecidableEq α] (d : Nat → α) (vs : List α) :
    ∀ (m : Sparse α) (k : Nat), Sparse.Wf d m → Sparse.Wf d (Sparse.setRange d m k vs) := by
  induction vs with
  | nil => intro m k h; exact h
  | cons v vs ih => intro m k h; exact ih _ _ (Sparse.wf_set d m k v h)

theorem Sparse.get_of_lt (d : Nat → α) (m : Sparse α) (k : Nat) (h : ∀ p ∈ m, k < p.1) : Sparse.get d m k = d k := by
  induction m with
  | nil => rfl
  | cons p r ih =>
    have hp : k < p.1 := h p (by simp)
    rw [Sparse.get_cons, if_neg (by omega)]
    exact ih fun q hq => h q (by simp [hq])

/-- A byte range read after it was written. -/
theorem Sparse.get_setRange [DecidableEq α] (d : Nat → α) (vs : List α) :
    ∀ (m : Sparse α) (k j : Nat), Sparse.get d (Sparse.setRange d m k vs) j =
      if h : k ≤ j ∧ j < k + vs.length then vs[j - k]'(by omega) else Sparse.get d m j := by
  induction vs with
  | nil => intro m k j; simp [Sparse.setRange]
  | cons v vs ih =>
    intro m k j
    rw [Sparse.setRange, ih]
    by_cases e : j = k
    · subst e
      simp [Sparse.get_set_same]
    · by_cases c : k + 1 ≤ j ∧ j < k + 1 + vs.length
      · have c' : k ≤ j ∧ j < k + (v :: vs).length := by simp; omega
        rw [dif_pos c, dif_pos c']
        have : j - k = (j - (k + 1)) + 1 := by omega
        simp [this]
      · have c' : ¬(k ≤ j ∧ j < k + (v :: vs).length) := by simp; omega
        rw [dif_neg c, dif_neg c', Sparse.get_set_other d m k j v e]

/-- Two maps in canonical form that read the same everywhere are equal data. -/
theorem Sparse.ext_of_wf (d : Nat → α) : ∀ (m n : Sparse α), Sparse.Wf d m → Sparse.Wf d n →
    (∀ k, Sparse.get d m k = Sparse.get d n k) → m = n := by
  intro m
  induction m with
  | nil =>
    intro n _ hn h
    cases n with
    | nil => rfl
    | cons q r =>
      have := h q.1
      rw [Sparse.get_nil, Sparse.get_cons, if_pos rfl] at this
      exact absurd this.symm (hn.2 q (by simp))
  | cons p r ih =>
    intro n hm hn h
    have hm1 := List.pairwise_cons.mp hm.1
    cases n with
    | nil =>
      have := h p.1
      rw [Sparse.get_nil, Sparse.get_cons, if_pos rfl] at this
      exact absurd this (hm.2 p (by simp))
    | cons q t =>
      have hn1 := List.pairwise_cons.mp hn.1
      have e : p.1 = q.1 := by
        rcases lt_trichotomy p.1 q.1 with c | c | c
        · have := h p.1
          rw [Sparse.get_cons, if_pos rfl, Sparse.get_of_lt d (q :: t) p.1] at this
          · exact absurd this (hm.2 p (by simp))
          · intro x hx
            rcases List.mem_cons.mp hx with e | e
            · subst e; exact c
            · exact lt_trans c (hn1.1 x e)
        · exact c
        · have := h q.1
          rw [Sparse.get_of_lt d (p :: r) q.1, Sparse.get_cons, if_pos rfl] at this
          · exact absurd this.symm (hn.2 q (by simp))
          · intro x hx
            rcases List.mem_cons.mp hx with e | e
            · subst e; exact c
            · exact lt_trans c (hm1.1 x e)
      have e2 : p.2 = q.2 := by
        have := h p.1
        rw [Sparse.get_cons, if_pos rfl, Sparse.get_cons, if_pos e.symm] at this
        exact this
      have epq : p = q := Prod.ext e e2
      subst epq
      congr 1
      refine ih t ⟨hm1.2, fun x hx => hm.2 x (by simp [hx])⟩ ⟨hn1.2, fun x hx => hn.2 x (by simp [hx])⟩ ?_
      intro k
      by_cases c : p.1 = k
      · subst c
        rw [Sparse.get_of_lt d r _ hm1.1, Sparse.get_of_lt d t _ hn1.1]
      · have := h k
        rwa [Sparse.get_cons, if_neg c, Sparse.get_cons, if_neg c] at this

end Sys2Proof.Machine
end

