-- ==== Sys2Proof/Laws/Kept.lean ====
section
/-! SUPPORT. What no operation breaks: the waiting commands stand, the invariant is kept, no bit of the one-time
programmable memory is cleared. One lemma for each shape an operation is written in; the files Kept… have one lemma for
each operation. -/

namespace Sys2Proof.Machine

/-- From `s` to `t` the waiting commands stand, the invariant is kept and no OTP bit is cleared. -/
structure Kept (s t : State) : Prop where
  pending : t.pending = s.pending
  inv : s.Inv → t.Inv
  otp : OtpGrows s t

theorem OtpGrows.refl (s : State) : OtpGrows s s := fun _ => BitVec.and_self

theorem OtpGrows.trans {s t u : State} (h : OtpGrows s t) (k : OtpGrows t u) : OtpGrows s u := by
  intro a
  have e := h a
  have f := k a
  rw [← e, ← BitVec.and_assoc, f]

theorem Kept.refl (s : State) : Kept s s := ⟨rfl, id, OtpGrows.refl s⟩

theorem Kept.trans {s t u : State} (h : Kept s t) (k : Kept t u) : Kept s u :=
  ⟨k.pending.trans h.pending, fun i => k.inv (h.inv i), h.otp.trans k.otp⟩

theorem TimeBase.shift_inRange (b : TimeBase) (d : Int) (h : b.inRange) : (b.shift d).inRange := by
  refine ⟨Nat.mod_lt _ (by decide), ?_, h.2.2⟩
  show ((((b.sec * 1000000000 + b.ns : Nat) : Int) + d) % 1000000000).toNat < 1000000000
  omega

theorem TimeBase.tick_inRange (b : TimeBase) (_ : b.inRange) : b.tick.inRange :=
  ⟨Nat.mod_lt _ (by decide), Nat.mod_lt _ (by decide), Nat.mod_lt _ (by decide)⟩

theorem TimeBase.restart_inRange {cold : Bool} (b : TimeBase) (h : b.inRange) : (b.restart cold).inRange := by
  cases cold
  · exact h
  · exact (by decide : TimeBase.init.inRange)

theorem memScrap_inv {t : State} {a n : Nat} (i : t.Inv) : (t.memScrap a n).Inv := by
  refine ⟨i.regs, ?_, i.host, i.time⟩
  have w := i.mem
  refine ⟨w.1.filter _, ?_⟩
  intro p hp
  have hm := List.mem_filter.mp hp
  have e : memDefault ((a, n, t.freeCtr) :: t.scrap) p.1 = memDefault t.scrap p.1 := by
    have hf : (Nat.ble a p.1 && Nat.blt p.1 (a + n)) = false := by
      have := hm.2
      cases c : (Nat.ble a p.1 && Nat.blt p.1 (a + n))
      · rfl
      · rw [c] at this; cases this
    simp only [memDefault, List.find?, hf]
  show p.2 ≠ memDefault ((a, n, t.freeCtr) :: t.scrap) p.1
  rw [e]
  exact w.2 p hm.1

theorem getRange_getElem (d : Nat → Byte) (m : Sparse Byte) :
    ∀ (n k i : Nat) (h : i < (Sparse.getRange d m k n).length), (Sparse.getRange d m k n)[i] = Sparse.get d m (k + i) := by
  intro n
  induction n with
  | zero => intro k i h; simp [Sparse.getRange] at h
  | succ n ih =>
    intro k i h
    cases i with
    | zero => rfl
    | succ j =>
      have := ih (k + 1) j (by simpa [Sparse.getRange] using h)
      simp only [Sparse.getRange, List.getElem_cons_succ, this]
      congr 1; omega

theorem getRange_length (d : Nat → Byte) (m : Sparse Byte) : ∀ (n k : Nat), (Sparse.getRange d m k n).length = n := by
  intro n
  induction n with
  | zero => intro k; rfl
  | succ n ih => intro k; simp [Sparse.getRange, ih]

/-- Programming bits of the one-time programmable memory clears none. -/
theorem otpOr_grows (t : State) (o : Nat) (b : List Byte) : OtpGrows t (t.otpOr o b) := by
  intro a
  show Sparse.get memReset (Sparse.setRange memReset t.otp o
    (((Sparse.getRange memReset t.otp o b.length).zip b).map fun p => p.1 ||| p.2)) a &&& _ = _
  rw [Sparse.get_setRange]
  split
  · next h =>
    obtain ⟨h1, h2⟩ := h
    have e : o + (a - o) = a := by omega
    simp only [List.getElem_map, List.getElem_zip, getRange_getElem, e]
    ext i
    simp
    intro x; exact Or.inl x
  · exact BitVec.and_self

/-- The same of an operation that answers a state and something else. -/
def Kept1 {α : Type} (s : State) (p : State × α) : Prop := Kept s p.1

/-- The same of an operation that answers something and a state. -/
def Kept2 {α : Type} (s : State) (p : α × State) : Prop := Kept s p.2

/-- The same of an outcome: it is a next state, and that keeps. -/
def KeptO (s : State) (o : Host.Outcome State Fault Refusal) : Prop := ∃ t, o = .next t ∧ Kept s t

theorem Kept1.fst {α : Type} {s : State} {p : State × α} (h : Kept1 s p) : Kept s p.1 := h

theorem Kept2.snd {α : Type} {s : State} {p : α × State} (h : Kept2 s p) : Kept s p.2 := h

theorem Kept1.mk {α : Type} {s t : State} {a : α} (h : Kept s t) : Kept1 s (t, a) := h

theorem Kept2.mk {α : Type} {s t : State} {a : α} (h : Kept s t) : Kept2 s (a, t) := h

theorem Kept1.of {α : Type} {s t : State} {a : α} {p : State × α} (h : Kept1 s p) (e : p = (t, a)) : Kept s t := by
  subst e; exact h

theorem Kept2.of {α : Type} {s t : State} {a : α} {p : α × State} (h : Kept2 s p) (e : p = (a, t)) : Kept s t := by
  subst e; exact h

theorem KeptO.next {s t : State} (h : Kept s t) : KeptO s (.next t) := ⟨t, rfl, h⟩

theorem kept_ite {s a b : State} {c : Prop} [Decidable c] (h : c → Kept s a) (k : ¬c → Kept s b) :
    Kept s (if c then a else b) := by
  by_cases e : c
  · rw [if_pos e]; exact h e
  · rw [if_neg e]; exact k e

theorem kept1_ite {α : Type} {s : State} {a b : State × α} {c : Prop} [Decidable c] (h : c → Kept1 s a)
    (k : ¬c → Kept1 s b) : Kept1 s (if c then a else b) := by
  by_cases e : c
  · rw [if_pos e]; exact h e
  · rw [if_neg e]; exact k e

theorem kept2_ite {α : Type} {s : State} {a b : α × State} {c : Prop} [Decidable c] (h : c → Kept2 s a)
    (k : ¬c → Kept2 s b) : Kept2 s (if c then a else b) := by
  by_cases e : c
  · rw [if_pos e]; exact h e
  · rw [if_neg e]; exact k e

theorem kept_mk {s t : State} (h : Kept s t) {latches rc fc trust ctxs bays px ce stores sram bins ledger margin sigs
    dpOuts drams refc dpIns flash flows macs sessWait queues served policers pool cuex fifos cvu host dma pcie tap pair
    ptp out freeCtr} :
    Kept s { pending := t.pending, regs := t.regs, latches := latches, mem := t.mem, scrap := t.scrap,
             hostMem := t.hostMem, rc := rc, fc := fc, trust := trust, tb := t.tb, ctxs := ctxs, bays := bays, px := px,
             ce := ce, stores := stores, sram := sram, bins := bins, ledger := ledger, margin := margin, sigs := sigs,
             dpOuts := dpOuts, drams := drams, refc := refc, dpIns := dpIns, otp := t.otp, flash := flash, flows := flows, macs := macs,
             sessWait := sessWait, queues := queues, served := served, policers := policers, pool := pool, cuex := cuex,
             fifos := fifos, cvu := cvu, host := host, dma := dma, pcie := pcie, tap := tap, pair := pair, ptp := ptp,
             out := out, freeCtr := freeCtr } :=
  ⟨h.pending, fun i => ⟨(h.inv i).regs, (h.inv i).mem, (h.inv i).host, (h.inv i).time⟩, h.otp⟩

theorem State.setReg_kept {s t : State} {k : Nat} {v : Word} (h : Kept s t) : Kept s (t.setReg k v) :=
  ⟨h.pending, fun i => ⟨Sparse.wf_set _ _ _ _ (h.inv i).regs, (h.inv i).mem, (h.inv i).host, (h.inv i).time⟩, h.otp⟩

theorem State.modTb_kept {s t : State} {f : TimeBase → TimeBase} (h : Kept s t) (hf : ∀ b, b.inRange → (f b).inRange) :
    Kept s (t.modTb f) :=
  ⟨h.pending, fun i => ⟨(h.inv i).regs, (h.inv i).mem, (h.inv i).host, hf _ (h.inv i).time⟩, h.otp⟩

theorem State.memWrite_kept {s t : State} {a : Nat} {b : List Byte} (h : Kept s t) : Kept s (t.memWrite a b) :=
  ⟨h.pending, fun i => ⟨(h.inv i).regs, Sparse.wf_setRange _ _ _ _ (h.inv i).mem, (h.inv i).host, (h.inv i).time⟩, h.otp⟩

theorem State.hostWrite_kept {s t : State} {a : Nat} {b : List Byte} (h : Kept s t) : Kept s (t.hostWrite a b) :=
  ⟨h.pending, fun i => ⟨(h.inv i).regs, (h.inv i).mem, Sparse.wf_setRange _ _ _ _ (h.inv i).host, (h.inv i).time⟩, h.otp⟩

theorem State.memScrap_kept {s t : State} {a n : Nat} (h : Kept s t) : Kept s (t.memScrap a n) :=
  ⟨h.pending, fun i => memScrap_inv (h.inv i), h.otp⟩

theorem State.dropRegs_kept {s t : State} {f : Nat → Bool} (h : Kept s t) : Kept s (t.dropRegs f) :=
  ⟨h.pending, fun i => ⟨Sparse.wf_filter _ _ _ (h.inv i).regs, (h.inv i).mem, (h.inv i).host, (h.inv i).time⟩, h.otp⟩

theorem State.ifLive_kept {s t : State} {b : Nat} {f : State → State} (h : Kept s t) (k : ∀ u, Kept s u → Kept s (f u)) :
    Kept s (t.ifLive b f) := by
  unfold State.ifLive; split
  · exact k t h
  · exact h

theorem State.doIf_kept {s t : State} {b : Bool} {f : State → State} (h : Kept s t) (k : ∀ u, Kept s u → Kept s (f u)) :
    Kept s (t.doIf b f) := by
  unfold State.doIf; split
  · exact k t h
  · exact h

theorem foldl_kept {α : Type} {s : State} {f : State → α → State} (k : ∀ u a, Kept s u → Kept s (f u a)) :
    ∀ {l : List α} {t : State}, Kept s t → Kept s (l.foldl f t) := by
  intro l
  induction l with
  | nil => intro t h; exact h
  | cons a l ih => intro t h; exact ih (k t a h)

theorem foldl_kept1 {α β : Type} {s : State} {f : State × β → α → State × β} (k : ∀ u a, Kept1 s u → Kept1 s (f u a)) :
    ∀ {l : List α} {t : State × β}, Kept1 s t → Kept1 s (l.foldl f t) := by
  intro l
  induction l with
  | nil => intro t h; exact h
  | cons a l ih => intro t h; exact ih (k t a h)

theorem State.forEach_kept {α : Type} {s t : State} {l : List α} {f : α → State → State} (h : Kept s t)
    (k : ∀ a u, Kept s u → Kept s (f a u)) : Kept s (t.forEach l f) := foldl_kept (fun u a => k a u) h

end Sys2Proof.Machine
end

