-- ==== Sys2Proof/Laws/KeptOps.lean ====
section
/-! SUPPORT. Every operation of Machine/Ops.lean keeps the waiting commands, the invariant and every programmed bit. -/

namespace Sys2Proof.Machine

set_option linter.unusedTactic false
set_option linter.unreachableTactic false

theorem State.setRegN_kept {s t : State} {x0 : Nat} {x1 : Nat} (h : Kept s t) : Kept s (State.setRegN t x0 x1) := by
  unfold State.setRegN
  repeat' with_reducible first
    | assumption
    | refine State.setReg_kept ?_
    | exact Kept1.fst (by assumption)
    | exact Kept2.snd (by assumption)
    | exact Kept1.of (by assumption) (by assumption)
    | fail_if_no_progress refine kept_mk ?_
    | fail_if_no_progress refine Kept1.mk ?_

theorem State.setFld_kept {s t : State} {x0 : Nat} {x1 : Nat} {x2 : Nat} {x3 : Nat} (h : Kept s t) : Kept s (State.setFld t x0 x1 x2 x3) := by
  unfold State.setFld
  repeat' with_reducible first
    | assumption
    | refine State.setReg_kept ?_
    | exact Kept1.fst (by assumption)
    | exact Kept2.snd (by assumption)
    | exact Kept1.of (by assumption) (by assumption)
    | fail_if_no_progress refine kept_mk ?_
    | fail_if_no_progress refine Kept1.mk ?_

theorem State.setRbit_kept {s t : State} {x0 : Nat} {x1 : Nat} {x2 : Bool} (h : Kept s t) : Kept s (State.setRbit t x0 x1 x2) := by
  unfold State.setRbit
  repeat' with_reducible first
    | assumption
    | refine State.setReg_kept ?_
    | exact Kept1.fst (by assumption)
    | exact Kept2.snd (by assumption)
    | exact Kept1.of (by assumption) (by assumption)
    | fail_if_no_progress refine kept_mk ?_
    | fail_if_no_progress refine Kept1.mk ?_

theorem State.bump_kept {s t : State} {x0 : Nat} {x1 : Nat} (h : Kept s t) : Kept s (State.bump t x0 x1) := by
  unfold State.bump
  repeat' with_reducible first
    | assumption
    | refine State.setReg_kept ?_
    | exact Kept1.fst (by assumption)
    | exact Kept2.snd (by assumption)
    | exact Kept1.of (by assumption) (by assumption)
    | fail_if_no_progress refine kept_mk ?_
    | fail_if_no_progress refine Kept1.mk ?_

theorem State.wrapAdd_kept {s t : State} {x0 : Nat} {x1 : Nat} (h : Kept s t) : Kept s (State.wrapAdd t x0 x1) := by
  unfold State.wrapAdd
  repeat' with_reducible first
    | assumption
    | refine State.setRegN_kept ?_
    | exact Kept1.fst (by assumption)
    | exact Kept2.snd (by assumption)
    | exact Kept1.of (by assumption) (by assumption)
    | fail_if_no_progress refine kept_mk ?_
    | fail_if_no_progress refine Kept1.mk ?_

theorem State.keepMax_kept {s t : State} {x0 : Nat} {x1 : Nat} (h : Kept s t) : Kept s (State.keepMax t x0 x1) := by
  unfold State.keepMax
  repeat' with_reducible first
    | assumption
    | refine kept_ite (fun _ => ?_) (fun _ => ?_)
    | refine kept1_ite (fun _ => ?_) (fun _ => ?_)
    | refine State.setReg_kept ?_
    | exact Kept1.fst (by assumption)
    | exact Kept2.snd (by assumption)
    | exact Kept1.of (by assumption) (by assumption)
    | fail_if_no_progress refine kept_mk ?_
    | split
    | fail_if_no_progress refine Kept1.mk ?_

theorem State.setReg64_kept {s t : State} {x0 : Nat} {x1 : Nat} (h : Kept s t) : Kept s (State.setReg64 t x0 x1) := by
  unfold State.setReg64
  repeat' with_reducible first
    | assumption
    | refine State.setRegN_kept ?_
    | exact Kept1.fst (by assumption)
    | exact Kept2.snd (by assumption)
    | exact Kept1.of (by assumption) (by assumption)
    | fail_if_no_progress refine kept_mk ?_
    | fail_if_no_progress refine Kept1.mk ?_

theorem State.copyShadow_kept {s t : State} {x0 : List Nat} (h : Kept s t) : Kept s (State.copyShadow t x0) := by
  unfold State.copyShadow
  repeat' with_reducible first
    | assumption
    | refine foldl_kept (fun _ _ _ => ?_) ?_
    | refine foldl_kept1 (fun _ _ _ => ?_) ?_
    | refine Kept1.fst (foldl_kept1 (fun _ _ _ => ?_) ?_)
    | refine State.setReg_kept ?_
    | exact Kept1.fst (by assumption)
    | exact Kept2.snd (by assumption)
    | exact Kept1.of (by assumption) (by assumption)
    | fail_if_no_progress refine kept_mk ?_
    | fail_if_no_progress refine Kept1.mk ?_

theorem State.emit_kept {s t : State} {x0 : Output} (h : Kept s t) : Kept s (State.emit t x0) := by
  unfold State.emit
  repeat' with_reducible first
    | assumption
    | exact Kept1.fst (by assumption)
    | exact Kept2.snd (by assumption)
    | exact Kept1.of (by assumption) (by assumption)
    | fail_if_no_progress refine kept_mk ?_
    | fail_if_no_progress refine Kept1.mk ?_

theorem State.takeFree_kept {s t : State} (h : Kept s t) : Kept2 s (State.takeFree t) := by
  unfold State.takeFree
  repeat' with_reducible first
    | assumption
    | exact Kept1.fst (by assumption)
    | exact Kept2.snd (by assumption)
    | exact Kept1.of (by assumption) (by assumption)
    | fail_if_no_progress refine kept_mk ?_
    | refine Kept2.mk ?_
    | fail_if_no_progress refine Kept1.mk ?_

theorem State.pmWrite_kept {s t : State} {x0 : Nat} {x1 : List Byte} (h : Kept s t) : Kept s (State.pmWrite t x0 x1) := by
  unfold State.pmWrite
  repeat' with_reducible first
    | assumption
    | refine State.memWrite_kept ?_
    | exact Kept1.fst (by assumption)
    | exact Kept2.snd (by assumption)
    | exact Kept1.of (by assumption) (by assumption)
    | fail_if_no_progress refine kept_mk ?_
    | fail_if_no_progress refine Kept1.mk ?_

theorem State.setCtx_kept {s t : State} {x0 : Nat} {x1 : Ctx} (h : Kept s t) : Kept s (State.setCtx t x0 x1) := by
  unfold State.setCtx
  repeat' with_reducible first
    | assumption
    | exact Kept1.fst (by assumption)
    | exact Kept2.snd (by assumption)
    | exact Kept1.of (by assumption) (by assumption)
    | fail_if_no_progress refine kept_mk ?_
    | fail_if_no_progress refine Kept1.mk ?_

theorem State.modCtx_kept {s t : State} {x0 : Nat} {x1 : Ctx → Ctx} (h : Kept s t) : Kept s (State.modCtx t x0 x1) := by
  unfold State.modCtx
  repeat' with_reducible first
    | assumption
    | refine State.setCtx_kept ?_
    | exact Kept1.fst (by assumption)
    | exact Kept2.snd (by assumption)
    | exact Kept1.of (by assumption) (by assumption)
    | fail_if_no_progress refine kept_mk ?_
    | fail_if_no_progress refine Kept1.mk ?_

theorem State.setBay_kept {s t : State} {x0 : Nat} {x1 : Bay} (h : Kept s t) : Kept s (State.setBay t x0 x1) := by
  unfold State.setBay
  repeat' with_reducible first
    | assumption
    | exact Kept1.fst (by assumption)
    | exact Kept2.snd (by assumption)
    | exact Kept1.of (by assumption) (by assumption)
    | fail_if_no_progress refine kept_mk ?_
    | fail_if_no_progress refine Kept1.mk ?_

theorem State.modBay_kept {s t : State} {x0 : Nat} {x1 : Bay → Bay} (h : Kept s t) : Kept s (State.modBay t x0 x1) := by
  unfold State.modBay
  repeat' with_reducible first
    | assumption
    | refine State.setBay_kept ?_
    | exact Kept1.fst (by assumption)
    | exact Kept2.snd (by assumption)
    | exact Kept1.of (by assumption) (by assumption)
    | fail_if_no_progress refine kept_mk ?_
    | fail_if_no_progress refine Kept1.mk ?_

theorem State.store_kept {s t : State} {x0 : Nat} {x1 : Word} (h : Kept s t) : Kept s (State.store t x0 x1) := by
  unfold State.store
  repeat' with_reducible first
    | assumption
    | refine State.setReg_kept ?_
    | exact Kept1.fst (by assumption)
    | exact Kept2.snd (by assumption)
    | exact Kept1.of (by assumption) (by assumption)
    | fail_if_no_progress refine kept_mk ?_
    | split
    | refine Kept1.of ?_ (by assumption)
    | fail_if_no_progress refine Kept1.mk ?_

theorem State.land_kept {s t : State} {x0 : Nat} {x1 : Word} (h : Kept s t) : Kept s (State.land t x0 x1) := by
  unfold State.land
  repeat' with_reducible first
    | assumption
    | refine kept_ite (fun _ => ?_) (fun _ => ?_)
    | refine kept1_ite (fun _ => ?_) (fun _ => ?_)
    | refine State.store_kept ?_
    | exact Kept1.fst (by assumption)
    | exact Kept2.snd (by assumption)
    | exact Kept1.of (by assumption) (by assumption)
    | fail_if_no_progress refine kept_mk ?_
    | split
    | refine Kept1.of ?_ (by assumption)
    | fail_if_no_progress refine Kept1.mk ?_

theorem State.ifWritten_kept {s t : State} {x0 : Nat} {x1 : Nat} {x2 : Word} {x3 : State → State} (h : Kept s t) (hf : ∀ u, Kept s u → Kept s (x3 u)) : Kept s (State.ifWritten t x0 x1 x2 x3) := by
  unfold State.ifWritten
  repeat' with_reducible first
    | assumption
    | refine kept_ite (fun _ => ?_) (fun _ => ?_)
    | refine kept1_ite (fun _ => ?_) (fun _ => ?_)
    | refine hf _ ?_
    | refine State.land_kept ?_
    | exact Kept1.fst (by assumption)
    | exact Kept2.snd (by assumption)
    | exact Kept1.of (by assumption) (by assumption)
    | fail_if_no_progress refine kept_mk ?_
    | split
    | refine Kept1.of ?_ (by assumption)
    | fail_if_no_progress refine Kept1.mk ?_

theorem State.raiseMsg_kept {s t : State} {x0 : Nat} {x1 : Nat} {x2 : Nat} {x3 : Bool} (h : Kept s t) : Kept s (State.raiseMsg t x0 x1 x2 x3) := by
  unfold State.raiseMsg
  repeat' with_reducible first
    | assumption
    | refine kept_ite (fun _ => ?_) (fun _ => ?_)
    | refine kept1_ite (fun _ => ?_) (fun _ => ?_)
    | (extract_lets +onlyGivenNames u; first | ((refine (fun (_ : Kept s u) => ?_) ?_); (on_goal 1 => clear_value u); (on_goal 2 => subst u)) | ((refine (fun (_ : Kept1 s u) => ?_) ?_); (on_goal 1 => clear_value u); (on_goal 2 => subst u)) | ((refine (fun (_ : Kept2 s u) => ?_) ?_); (on_goal 1 => clear_value u); (on_goal 2 => subst u)) | clear_value u)
    | refine State.bump_kept ?_
    | exact Kept1.fst (by assumption)
    | exact Kept2.snd (by assumption)
    | exact Kept1.of (by assumption) (by assumption)
    | fail_if_no_progress refine kept_mk ?_
    | split
    | fail_if_no_progress refine Kept1.mk ?_

theorem State.raise_kept {s t : State} {x0 : Nat} {x1 : Nat} {x2 : Nat} (h : Kept s t) : Kept s (State.raise t x0 x1 x2) := by
  unfold State.raise
  repeat' with_reducible first
    | assumption
    | refine State.raiseMsg_kept ?_
    | exact Kept1.fst (by assumption)
    | exact Kept2.snd (by assumption)
    | exact Kept1.of (by assumption) (by assumption)
    | fail_if_no_progress refine kept_mk ?_
    | fail_if_no_progress refine Kept1.mk ?_

theorem State.aborted_kept {s t : State} {x0 : Nat} {x1 : Nat} (h : Kept s t) : Kept s (State.aborted t x0 x1) := by
  unfold State.aborted
  repeat' with_reducible first
    | assumption
    | refine kept_ite (fun _ => ?_) (fun _ => ?_)
    | refine kept1_ite (fun _ => ?_) (fun _ => ?_)
    | (extract_lets +onlyGivenNames u; first | ((refine (fun (_ : Kept s u) => ?_) ?_); (on_goal 1 => clear_value u); (on_goal 2 => subst u)) | ((refine (fun (_ : Kept1 s u) => ?_) ?_); (on_goal 1 => clear_value u); (on_goal 2 => subst u)) | ((refine (fun (_ : Kept2 s u) => ?_) ?_); (on_goal 1 => clear_value u); (on_goal 2 => subst u)) | clear_value u)
    | refine State.emit_kept ?_
    | refine State.raise_kept ?_
    | exact Kept1.fst (by assumption)
    | exact Kept2.snd (by assumption)
    | exact Kept1.of (by assumption) (by assumption)
    | fail_if_no_progress refine kept_mk ?_
    | split
    | refine Kept1.of ?_ (by assumption)
    | fail_if_no_progress refine Kept1.mk ?_

theorem State.fenceViolation_kept {s t : State} {x0 : Nat} {x1 : Nat} (h : Kept s t) : Kept s (State.fenceViolation t x0 x1) := by
  unfold State.fenceViolation
  repeat' with_reducible first
    | assumption
    | refine State.bump_kept ?_
    | refine State.setRegN_kept ?_
    | refine State.raise_kept ?_
    | exact Kept1.fst (by assumption)
    | exact Kept2.snd (by assumption)
    | exact Kept1.of (by assumption) (by assumption)
    | fail_if_no_progress refine kept_mk ?_
    | fail_if_no_progress refine Kept1.mk ?_

theorem State.setDpOut_kept {s t : State} {x0 : Nat} {x1 : DpOut} (h : Kept s t) : Kept s (State.setDpOut t x0 x1) := by
  unfold State.setDpOut
  repeat' with_reducible first
    | assumption
    | exact Kept1.fst (by assumption)
    | exact Kept2.snd (by assumption)
    | exact Kept1.of (by assumption) (by assumption)
    | fail_if_no_progress refine kept_mk ?_
    | fail_if_no_progress refine Kept1.mk ?_

theorem State.modDpOut_kept {s t : State} {x0 : Nat} {x1 : DpOut → DpOut} (h : Kept s t) : Kept s (State.modDpOut t x0 x1) := by
  unfold State.modDpOut
  repeat' with_reducible first
    | assumption
    | refine State.setDpOut_kept ?_
    | exact Kept1.fst (by assumption)
    | exact Kept2.snd (by assumption)
    | exact Kept1.of (by assumption) (by assumption)
    | fail_if_no_progress refine kept_mk ?_
    | fail_if_no_progress refine Kept1.mk ?_

end Sys2Proof.Machine
end

