-- ==== Sys2Proof/Laws/KeptCrew.lean ====
section
/-! SUPPORT. Every operation of Machine/Crew.lean keeps the waiting commands, the invariant and every programmed bit. -/

namespace Sys2Proof.Machine

set_option linter.unusedTactic false
set_option linter.unreachableTactic false

theorem State.syncBay_kept {s t : State} {x0 : Nat} (h : Kept s t) : Kept s (State.syncBay t x0) := by
  unfold State.syncBay
  repeat' with_reducible first
    | assumption
    | refine State.setFld_kept ?_
    | exact Kept1.fst (by assumption)
    | exact Kept2.snd (by assumption)
    | exact Kept1.of (by assumption) (by assumption)
    | fail_if_no_progress refine kept_mk ?_
    | fail_if_no_progress refine Kept1.mk ?_

theorem State.showCrew_kept {s t : State} {x0 : Nat} {x1 : List Nat} (h : Kept s t) : Kept s (State.showCrew t x0 x1) := by
  unfold State.showCrew
  repeat' with_reducible first
    | assumption
    | refine foldl_kept (fun _ _ _ => ?_) ?_
    | refine foldl_kept1 (fun _ _ _ => ?_) ?_
    | refine Kept1.fst (foldl_kept1 (fun _ _ _ => ?_) ?_)
    | refine State.setFld_kept ?_
    | exact Kept1.fst (by assumption)
    | exact Kept2.snd (by assumption)
    | exact Kept1.of (by assumption) (by assumption)
    | fail_if_no_progress refine kept_mk ?_
    | fail_if_no_progress refine Kept1.mk ?_

theorem State.noteStart_kept {s t : State} {x0 : Nat} (h : Kept s t) : Kept s (State.noteStart t x0) := by
  unfold State.noteStart
  repeat' with_reducible first
    | assumption
    | (extract_lets +onlyGivenNames u; first | ((refine (fun (_ : Kept s u) => ?_) ?_); (on_goal 1 => clear_value u); (on_goal 2 => subst u)) | ((refine (fun (_ : Kept1 s u) => ?_) ?_); (on_goal 1 => clear_value u); (on_goal 2 => subst u)) | ((refine (fun (_ : Kept2 s u) => ?_) ?_); (on_goal 1 => clear_value u); (on_goal 2 => subst u)) | clear_value u)
    | refine State.modCtx_kept ?_
    | exact Kept1.fst (by assumption)
    | exact Kept2.snd (by assumption)
    | exact Kept1.of (by assumption) (by assumption)
    | fail_if_no_progress refine kept_mk ?_
    | fail_if_no_progress refine Kept1.mk ?_

end Sys2Proof.Machine
end

