-- ==== Sys2Proof/Laws/KeptCuex.lean ====
section
/-! SUPPORT. Every operation of Machine/Cuex.lean keeps the waiting commands, the invariant and every programmed bit. -/

namespace Sys2Proof.Machine

set_option linter.unusedTactic false
set_option linter.unreachableTactic false

theorem State.cuexSync_kept {s t : State} {x0 : Nat} (h : Kept s t) : Kept s (State.cuexSync t x0) := by
  unfold State.cuexSync
  repeat' with_reducible first
    | assumption
    | (extract_lets +onlyGivenNames u; first | ((refine (fun (_ : Kept s u) => ?_) ?_); (on_goal 1 => clear_value u); (on_goal 2 => subst u)) | ((refine (fun (_ : Kept1 s u) => ?_) ?_); (on_goal 1 => clear_value u); (on_goal 2 => subst u)) | ((refine (fun (_ : Kept2 s u) => ?_) ?_); (on_goal 1 => clear_value u); (on_goal 2 => subst u)) | clear_value u)
    | refine State.doIf_kept ?_ (fun _ _ => ?_)
    | refine State.setRegN_kept ?_
    | refine State.setRbit_kept ?_
    | exact Kept1.fst (by assumption)
    | exact Kept2.snd (by assumption)
    | exact Kept1.of (by assumption) (by assumption)
    | fail_if_no_progress refine kept_mk ?_
    | fail_if_no_progress refine Kept1.mk ?_

theorem State.cuePend_kept {s t : State} {x0 : Nat} (h : Kept s t) : Kept s (State.cuePend t x0) := by
  unfold State.cuePend
  repeat' with_reducible first
    | assumption
    | (extract_lets +onlyGivenNames u; first | ((refine (fun (_ : Kept s u) => ?_) ?_); (on_goal 1 => clear_value u); (on_goal 2 => subst u)) | ((refine (fun (_ : Kept1 s u) => ?_) ?_); (on_goal 1 => clear_value u); (on_goal 2 => subst u)) | ((refine (fun (_ : Kept2 s u) => ?_) ?_); (on_goal 1 => clear_value u); (on_goal 2 => subst u)) | clear_value u)
    | refine State.setRbit_kept ?_
    | refine State.cuexSync_kept ?_
    | exact Kept1.fst (by assumption)
    | exact Kept2.snd (by assumption)
    | exact Kept1.of (by assumption) (by assumption)
    | fail_if_no_progress refine kept_mk ?_
    | fail_if_no_progress refine Kept1.mk ?_

theorem State.setPosted_kept {s t : State} {x0 : Nat} {x1 : Nat} (h : Kept s t) : Kept s (State.setPosted t x0 x1) := by
  unfold State.setPosted
  repeat' with_reducible first
    | assumption
    | refine State.setFld_kept ?_
    | exact Kept1.fst (by assumption)
    | exact Kept2.snd (by assumption)
    | exact Kept1.of (by assumption) (by assumption)
    | fail_if_no_progress refine kept_mk ?_
    | fail_if_no_progress refine Kept1.mk ?_

theorem State.setConsumed_kept {s t : State} {x0 : Nat} {x1 : Nat} (h : Kept s t) : Kept s (State.setConsumed t x0 x1) := by
  unfold State.setConsumed
  repeat' with_reducible first
    | assumption
    | refine State.setFld_kept ?_
    | exact Kept1.fst (by assumption)
    | exact Kept2.snd (by assumption)
    | exact Kept1.of (by assumption) (by assumption)
    | fail_if_no_progress refine kept_mk ?_
    | fail_if_no_progress refine Kept1.mk ?_

theorem State.cuePost_kept {s t : State} {x0 : Nat} {x1 : List Byte} (h : Kept s t) : Kept s (State.cuePost t x0 x1) := by
  unfold State.cuePost
  repeat' with_reducible first
    | assumption
    | refine kept_ite (fun _ => ?_) (fun _ => ?_)
    | refine kept1_ite (fun _ => ?_) (fun _ => ?_)
    | (extract_lets +onlyGivenNames u; first | ((refine (fun (_ : Kept s u) => ?_) ?_); (on_goal 1 => clear_value u); (on_goal 2 => subst u)) | ((refine (fun (_ : Kept1 s u) => ?_) ?_); (on_goal 1 => clear_value u); (on_goal 2 => subst u)) | ((refine (fun (_ : Kept2 s u) => ?_) ?_); (on_goal 1 => clear_value u); (on_goal 2 => subst u)) | clear_value u)
    | refine State.bump_kept ?_
    | refine State.setRegN_kept ?_
    | refine State.cuePend_kept ?_
    | refine State.pmWrite_kept ?_
    | refine State.setPosted_kept ?_
    | exact Kept1.fst (by assumption)
    | exact Kept2.snd (by assumption)
    | exact Kept1.of (by assumption) (by assumption)
    | fail_if_no_progress refine kept_mk ?_
    | split
    | refine Kept1.of ?_ (by assumption)
    | fail_if_no_progress refine Kept1.mk ?_

theorem State.blockCue_kept {s t : State} {x0 : Nat} {x1 : Bool} (h : Kept s t) : Kept s (State.blockCue t x0 x1) := by
  unfold State.blockCue
  repeat' with_reducible first
    | assumption
    | refine kept_ite (fun _ => ?_) (fun _ => ?_)
    | refine kept1_ite (fun _ => ?_) (fun _ => ?_)
    | (extract_lets +onlyGivenNames u; first | ((refine (fun (_ : Kept s u) => ?_) ?_); (on_goal 1 => clear_value u); (on_goal 2 => subst u)) | ((refine (fun (_ : Kept1 s u) => ?_) ?_); (on_goal 1 => clear_value u); (on_goal 2 => subst u)) | ((refine (fun (_ : Kept2 s u) => ?_) ?_); (on_goal 1 => clear_value u); (on_goal 2 => subst u)) | ((refine (fun (_ : ∀ t, Kept s t → Kept s (u t)) => ?_) ?_); (on_goal 1 => clear_value u); (on_goal 2 => subst u)) | ((refine (fun (_ : ∀ t a, Kept s t → Kept s (u t a)) => ?_) ?_); (on_goal 1 => clear_value u); (on_goal 2 => subst u)) | ((refine (fun (_ : ∀ t a b, Kept s t → Kept s (u t a b)) => ?_) ?_); (on_goal 1 => clear_value u); (on_goal 2 => subst u)) | ((refine (fun (_ : ∀ t a b c, Kept s t → Kept s (u t a b c)) => ?_) ?_); (on_goal 1 => clear_value u); (on_goal 2 => subst u)) | ((refine (fun (_ : ∀ a t, Kept s t → Kept s (u a t)) => ?_) ?_); (on_goal 1 => clear_value u); (on_goal 2 => subst u)) | ((refine (fun (_ : ∀ a b t, Kept s t → Kept s (u a b t)) => ?_) ?_); (on_goal 1 => clear_value u); (on_goal 2 => subst u)) | ((refine (fun (_ : ∀ a b c t, Kept s t → Kept s (u a b c t)) => ?_) ?_); (on_goal 1 => clear_value u); (on_goal 2 => subst u)) | ((refine (fun (_ : ∀ a b c d t, Kept s t → Kept s (u a b c d t)) => ?_) ?_); (on_goal 1 => clear_value u); (on_goal 2 => subst u)) | clear_value u)
    | intro _ _ _ _ _ _
    | intro _ _ _ _ _
    | intro _ _ _ _
    | intro _ _ _
    | intro _ _
    | refine State.cuePost_kept ?_
    | exact Kept1.fst (by assumption)
    | exact Kept2.snd (by assumption)
    | exact Kept1.of (by assumption) (by assumption)
    | fail_if_no_progress refine kept_mk ?_
    | split
    | fail_if_no_progress refine Kept1.mk ?_
    | apply_assumption

theorem State.setDepth_kept {s t : State} {x0 : Nat} {x1 : Nat} (h : Kept s t) : Kept s (State.setDepth t x0 x1) := by
  unfold State.setDepth
  repeat' with_reducible first
    | assumption
    | refine kept_ite (fun _ => ?_) (fun _ => ?_)
    | refine kept1_ite (fun _ => ?_) (fun _ => ?_)
    | (extract_lets +onlyGivenNames u; first | ((refine (fun (_ : Kept s u) => ?_) ?_); (on_goal 1 => clear_value u); (on_goal 2 => subst u)) | ((refine (fun (_ : Kept1 s u) => ?_) ?_); (on_goal 1 => clear_value u); (on_goal 2 => subst u)) | ((refine (fun (_ : Kept2 s u) => ?_) ?_); (on_goal 1 => clear_value u); (on_goal 2 => subst u)) | clear_value u)
    | refine State.setFld_kept ?_
    | exact Kept1.fst (by assumption)
    | exact Kept2.snd (by assumption)
    | exact Kept1.of (by assumption) (by assumption)
    | fail_if_no_progress refine kept_mk ?_
    | split
    | fail_if_no_progress refine Kept1.mk ?_

theorem State.stackError_kept {s t : State} {x0 : Nat} {x1 : Nat} (h : Kept s t) : Kept s (State.stackError t x0 x1) := by
  unfold State.stackError
  repeat' with_reducible first
    | assumption
    | refine State.bump_kept ?_
    | refine State.raise_kept ?_
    | exact Kept1.fst (by assumption)
    | exact Kept2.snd (by assumption)
    | exact Kept1.of (by assumption) (by assumption)
    | fail_if_no_progress refine kept_mk ?_
    | fail_if_no_progress refine Kept1.mk ?_

theorem State.cueAck_kept {s t : State} {x0 : Nat} {x1 : Nat} (h : Kept s t) : Kept s (State.cueAck t x0 x1) := by
  unfold State.cueAck
  repeat' with_reducible first
    | assumption
    | refine kept_ite (fun _ => ?_) (fun _ => ?_)
    | refine kept1_ite (fun _ => ?_) (fun _ => ?_)
    | (extract_lets +onlyGivenNames u; first | ((refine (fun (_ : Kept s u) => ?_) ?_); (on_goal 1 => clear_value u); (on_goal 2 => subst u)) | ((refine (fun (_ : Kept1 s u) => ?_) ?_); (on_goal 1 => clear_value u); (on_goal 2 => subst u)) | ((refine (fun (_ : Kept2 s u) => ?_) ?_); (on_goal 1 => clear_value u); (on_goal 2 => subst u)) | clear_value u)
    | refine State.doIf_kept ?_ (fun _ _ => ?_)
    | refine State.stackError_kept ?_
    | refine State.setRbit_kept ?_
    | refine State.setRegN_kept ?_
    | refine State.setDepth_kept ?_
    | refine State.bump_kept ?_
    | refine State.cuexSync_kept ?_
    | exact Kept1.fst (by assumption)
    | exact Kept2.snd (by assumption)
    | exact Kept1.of (by assumption) (by assumption)
    | fail_if_no_progress refine kept_mk ?_
    | split
    | fail_if_no_progress refine Kept1.mk ?_

theorem State.cueComplete_kept {s t : State} {x0 : Nat} {x1 : Nat} (h : Kept s t) : Kept s (State.cueComplete t x0 x1) := by
  unfold State.cueComplete
  repeat' with_reducible first
    | assumption
    | refine kept_ite (fun _ => ?_) (fun _ => ?_)
    | refine kept1_ite (fun _ => ?_) (fun _ => ?_)
    | (extract_lets +onlyGivenNames u; first | ((refine (fun (_ : Kept s u) => ?_) ?_); (on_goal 1 => clear_value u); (on_goal 2 => subst u)) | ((refine (fun (_ : Kept1 s u) => ?_) ?_); (on_goal 1 => clear_value u); (on_goal 2 => subst u)) | ((refine (fun (_ : Kept2 s u) => ?_) ?_); (on_goal 1 => clear_value u); (on_goal 2 => subst u)) | clear_value u)
    | refine State.setRegN_kept ?_
    | refine State.setDepth_kept ?_
    | refine State.stackError_kept ?_
    | exact Kept1.fst (by assumption)
    | exact Kept2.snd (by assumption)
    | exact Kept1.of (by assumption) (by assumption)
    | fail_if_no_progress refine kept_mk ?_
    | split
    | fail_if_no_progress refine Kept1.mk ?_

theorem State.cueSourceReset_kept {s t : State} {x0 : Nat} (h : Kept s t) : Kept s (State.cueSourceReset t x0) := by
  unfold State.cueSourceReset
  repeat' with_reducible first
    | assumption
    | (extract_lets +onlyGivenNames u; first | ((refine (fun (_ : Kept s u) => ?_) ?_); (on_goal 1 => clear_value u); (on_goal 2 => subst u)) | ((refine (fun (_ : Kept1 s u) => ?_) ?_); (on_goal 1 => clear_value u); (on_goal 2 => subst u)) | ((refine (fun (_ : Kept2 s u) => ?_) ?_); (on_goal 1 => clear_value u); (on_goal 2 => subst u)) | clear_value u)
    | refine State.setConsumed_kept ?_
    | refine State.bump_kept ?_
    | refine State.setRbit_kept ?_
    | refine State.cuexSync_kept ?_
    | exact Kept1.fst (by assumption)
    | exact Kept2.snd (by assumption)
    | exact Kept1.of (by assumption) (by assumption)
    | fail_if_no_progress refine kept_mk ?_
    | fail_if_no_progress refine Kept1.mk ?_

theorem State.cueTargetReset_kept {s t : State} {x0 : Nat} (h : Kept s t) : Kept s (State.cueTargetReset t x0) := by
  unfold State.cueTargetReset
  repeat' with_reducible first
    | assumption
    | (extract_lets +onlyGivenNames u; first | ((refine (fun (_ : Kept s u) => ?_) ?_); (on_goal 1 => clear_value u); (on_goal 2 => subst u)) | ((refine (fun (_ : Kept1 s u) => ?_) ?_); (on_goal 1 => clear_value u); (on_goal 2 => subst u)) | ((refine (fun (_ : Kept2 s u) => ?_) ?_); (on_goal 1 => clear_value u); (on_goal 2 => subst u)) | clear_value u)
    | refine State.forEach_kept ?_ (fun _ _ _ => ?_)
    | refine State.setRegN_kept ?_
    | refine State.setDepth_kept ?_
    | refine State.cuexSync_kept ?_
    | exact Kept1.fst (by assumption)
    | exact Kept2.snd (by assumption)
    | exact Kept1.of (by assumption) (by assumption)
    | fail_if_no_progress refine kept_mk ?_
    | fail_if_no_progress refine Kept1.mk ?_

theorem State.cueDoorbell_kept {s t : State} {x0 : Word} (h : Kept s t) : Kept s (State.cueDoorbell t x0) := by
  unfold State.cueDoorbell
  repeat' with_reducible first
    | assumption
    | refine State.doIf_kept ?_ (fun _ _ => ?_)
    | refine State.cuePend_kept ?_
    | exact Kept1.fst (by assumption)
    | exact Kept2.snd (by assumption)
    | exact Kept1.of (by assumption) (by assumption)
    | fail_if_no_progress refine kept_mk ?_
    | fail_if_no_progress refine Kept1.mk ?_

theorem execCuexDoorbell_kept {s t : State} {x0 : Word} (h : Kept s t) : KeptO s (execCuexDoorbell x0 t) := by
  unfold execCuexDoorbell
  repeat' with_reducible first
    | assumption
    | refine KeptO.next ?_
    | refine State.ifLive_kept ?_ (fun _ _ => ?_)
    | refine State.cueDoorbell_kept ?_
    | exact Kept1.fst (by assumption)
    | exact Kept2.snd (by assumption)
    | exact Kept1.of (by assumption) (by assumption)
    | fail_if_no_progress refine kept_mk ?_
    | fail_if_no_progress refine Kept1.mk ?_

theorem State.cuePostWrite_kept {s t : State} {x0 : Writer} {x1 : Word} (h : Kept s t) : Kept s (State.cuePostWrite t x0 x1) := by
  unfold State.cuePostWrite
  repeat' with_reducible first
    | assumption
    | (extract_lets +onlyGivenNames u; first | ((refine (fun (_ : Kept s u) => ?_) ?_); (on_goal 1 => clear_value u); (on_goal 2 => subst u)) | ((refine (fun (_ : Kept1 s u) => ?_) ?_); (on_goal 1 => clear_value u); (on_goal 2 => subst u)) | ((refine (fun (_ : Kept2 s u) => ?_) ?_); (on_goal 1 => clear_value u); (on_goal 2 => subst u)) | clear_value u)
    | refine State.cuePost_kept ?_
    | exact Kept1.fst (by assumption)
    | exact Kept2.snd (by assumption)
    | exact Kept1.of (by assumption) (by assumption)
    | fail_if_no_progress refine kept_mk ?_
    | split
    | refine Kept1.of ?_ (by assumption)
    | fail_if_no_progress refine Kept1.mk ?_

theorem execCuexPost_kept {s t : State} {x0 : Writer} {x1 : Word} (h : Kept s t) : KeptO s (execCuexPost x0 x1 t) := by
  unfold execCuexPost
  repeat' with_reducible first
    | assumption
    | refine KeptO.next ?_
    | refine State.ifLive_kept ?_ (fun _ _ => ?_)
    | refine State.cuePostWrite_kept ?_
    | exact Kept1.fst (by assumption)
    | exact Kept2.snd (by assumption)
    | exact Kept1.of (by assumption) (by assumption)
    | fail_if_no_progress refine kept_mk ?_
    | fail_if_no_progress refine Kept1.mk ?_

theorem State.cueConsume_kept {s t : State} {x0 : Writer} {x1 : Word} (h : Kept s t) : Kept s (State.cueConsume t x0 x1) := by
  unfold State.cueConsume
  repeat' with_reducible first
    | assumption
    | (extract_lets +onlyGivenNames u; first | ((refine (fun (_ : Kept s u) => ?_) ?_); (on_goal 1 => clear_value u); (on_goal 2 => subst u)) | ((refine (fun (_ : Kept1 s u) => ?_) ?_); (on_goal 1 => clear_value u); (on_goal 2 => subst u)) | ((refine (fun (_ : Kept2 s u) => ?_) ?_); (on_goal 1 => clear_value u); (on_goal 2 => subst u)) | clear_value u)
    | refine State.doIf_kept ?_ (fun _ _ => ?_)
    | refine State.setConsumed_kept ?_
    | exact Kept1.fst (by assumption)
    | exact Kept2.snd (by assumption)
    | exact Kept1.of (by assumption) (by assumption)
    | fail_if_no_progress refine kept_mk ?_
    | fail_if_no_progress refine Kept1.mk ?_

theorem execCuexConsume_kept {s t : State} {x0 : Writer} {x1 : Word} (h : Kept s t) : KeptO s (execCuexConsume x0 x1 t) := by
  unfold execCuexConsume
  repeat' with_reducible first
    | assumption
    | refine KeptO.next ?_
    | refine State.ifLive_kept ?_ (fun _ _ => ?_)
    | refine State.cueConsume_kept ?_
    | exact Kept1.fst (by assumption)
    | exact Kept2.snd (by assumption)
    | exact Kept1.of (by assumption) (by assumption)
    | fail_if_no_progress refine kept_mk ?_
    | fail_if_no_progress refine Kept1.mk ?_

theorem State.cueAckWrite_kept {s t : State} {x0 : Writer} {x1 : Nat} {x2 : Word} (h : Kept s t) : Kept s (State.cueAckWrite t x0 x1 x2) := by
  unfold State.cueAckWrite
  repeat' with_reducible first
    | assumption
    | refine State.doIf_kept ?_ (fun _ _ => ?_)
    | refine State.cueAck_kept ?_
    | exact Kept1.fst (by assumption)
    | exact Kept2.snd (by assumption)
    | exact Kept1.of (by assumption) (by assumption)
    | fail_if_no_progress refine kept_mk ?_
    | fail_if_no_progress refine Kept1.mk ?_

theorem State.cueCompleteWrite_kept {s t : State} {x0 : Writer} {x1 : Nat} {x2 : Word} (h : Kept s t) : Kept s (State.cueCompleteWrite t x0 x1 x2) := by
  unfold State.cueCompleteWrite
  repeat' with_reducible first
    | assumption
    | refine State.doIf_kept ?_ (fun _ _ => ?_)
    | refine State.cueComplete_kept ?_
    | exact Kept1.fst (by assumption)
    | exact Kept2.snd (by assumption)
    | exact Kept1.of (by assumption) (by assumption)
    | fail_if_no_progress refine kept_mk ?_
    | fail_if_no_progress refine Kept1.mk ?_

theorem execCuexComplete_kept {s t : State} {x0 : Writer} {x1 : Fin 20} {x2 : Word} (h : Kept s t) : KeptO s (execCuexComplete x0 x1 x2 t) := by
  unfold execCuexComplete
  repeat' with_reducible first
    | assumption
    | refine KeptO.next ?_
    | refine State.ifLive_kept ?_ (fun _ _ => ?_)
    | refine State.cueCompleteWrite_kept ?_
    | exact Kept1.fst (by assumption)
    | exact Kept2.snd (by assumption)
    | exact Kept1.of (by assumption) (by assumption)
    | fail_if_no_progress refine kept_mk ?_
    | fail_if_no_progress refine Kept1.mk ?_

theorem State.cueSleep_kept {s t : State} {x0 : Writer} {x1 : Nat} {x2 : Word} (h : Kept s t) : Kept s (State.cueSleep t x0 x1 x2) := by
  unfold State.cueSleep
  repeat' with_reducible first
    | assumption
    | refine State.doIf_kept ?_ (fun _ _ => ?_)
    | refine State.setRbit_kept ?_
    | refine State.cuexSync_kept ?_
    | exact Kept1.fst (by assumption)
    | exact Kept2.snd (by assumption)
    | exact Kept1.of (by assumption) (by assumption)
    | fail_if_no_progress refine kept_mk ?_
    | fail_if_no_progress refine Kept1.mk ?_

theorem execCuexSleep_kept {s t : State} {x0 : Writer} {x1 : Fin 20} {x2 : Word} (h : Kept s t) : KeptO s (execCuexSleep x0 x1 x2 t) := by
  unfold execCuexSleep
  repeat' with_reducible first
    | assumption
    | refine KeptO.next ?_
    | refine State.ifLive_kept ?_ (fun _ _ => ?_)
    | refine State.cueSleep_kept ?_
    | exact Kept1.fst (by assumption)
    | exact Kept2.snd (by assumption)
    | exact Kept1.of (by assumption) (by assumption)
    | fail_if_no_progress refine kept_mk ?_
    | fail_if_no_progress refine Kept1.mk ?_

theorem execTargetWake_kept {s t : State} {x0 : Fin 20} (h : Kept s t) : KeptO s (execTargetWake x0 t) := by
  unfold execTargetWake
  repeat' with_reducible first
    | assumption
    | refine KeptO.next ?_
    | refine State.doIf_kept ?_ (fun _ _ => ?_)
    | refine State.ifLive_kept ?_ (fun _ _ => ?_)
    | refine State.setRbit_kept ?_
    | refine State.cuexSync_kept ?_
    | exact Kept1.fst (by assumption)
    | exact Kept2.snd (by assumption)
    | exact Kept1.of (by assumption) (by assumption)
    | fail_if_no_progress refine kept_mk ?_
    | fail_if_no_progress refine Kept1.mk ?_

theorem State.setRoute_kept {s t : State} {x0 : Nat} {x1 : Nat} (h : Kept s t) : Kept s (State.setRoute t x0 x1) := by
  unfold State.setRoute
  repeat' with_reducible first
    | assumption
    | (extract_lets +onlyGivenNames u; first | ((refine (fun (_ : Kept s u) => ?_) ?_); (on_goal 1 => clear_value u); (on_goal 2 => subst u)) | ((refine (fun (_ : Kept1 s u) => ?_) ?_); (on_goal 1 => clear_value u); (on_goal 2 => subst u)) | ((refine (fun (_ : Kept2 s u) => ?_) ?_); (on_goal 1 => clear_value u); (on_goal 2 => subst u)) | clear_value u)
    | refine State.doIf_kept ?_ (fun _ _ => ?_)
    | refine State.setRbit_kept ?_
    | refine State.setFld_kept ?_
    | refine State.cuexSync_kept ?_
    | exact Kept1.fst (by assumption)
    | exact Kept2.snd (by assumption)
    | exact Kept1.of (by assumption) (by assumption)
    | fail_if_no_progress refine kept_mk ?_
    | fail_if_no_progress refine Kept1.mk ?_

theorem State.cueRouteWrite_kept {s t : State} {x0 : Writer} {x1 : Nat} {x2 : Word} (h : Kept s t) : Kept s (State.cueRouteWrite t x0 x1 x2) := by
  unfold State.cueRouteWrite
  repeat' with_reducible first
    | assumption
    | refine kept_ite (fun _ => ?_) (fun _ => ?_)
    | refine kept1_ite (fun _ => ?_) (fun _ => ?_)
    | (extract_lets +onlyGivenNames u; first | ((refine (fun (_ : Kept s u) => ?_) ?_); (on_goal 1 => clear_value u); (on_goal 2 => subst u)) | ((refine (fun (_ : Kept1 s u) => ?_) ?_); (on_goal 1 => clear_value u); (on_goal 2 => subst u)) | ((refine (fun (_ : Kept2 s u) => ?_) ?_); (on_goal 1 => clear_value u); (on_goal 2 => subst u)) | clear_value u)
    | refine State.doIf_kept ?_ (fun _ _ => ?_)
    | refine State.setRoute_kept ?_
    | exact Kept1.fst (by assumption)
    | exact Kept2.snd (by assumption)
    | exact Kept1.of (by assumption) (by assumption)
    | fail_if_no_progress refine kept_mk ?_
    | split
    | fail_if_no_progress refine Kept1.mk ?_

theorem State.cueSame_kept {s t : State} {x0 : List CuexSame} (h : Kept s t) : Kept s (State.cueSame t x0) := by
  unfold State.cueSame
  repeat' with_reducible first
    | assumption
    | (extract_lets +onlyGivenNames u; first | ((refine (fun (_ : Kept s u) => ?_) ?_); (on_goal 1 => clear_value u); (on_goal 2 => subst u)) | ((refine (fun (_ : Kept1 s u) => ?_) ?_); (on_goal 1 => clear_value u); (on_goal 2 => subst u)) | ((refine (fun (_ : Kept2 s u) => ?_) ?_); (on_goal 1 => clear_value u); (on_goal 2 => subst u)) | clear_value u)
    | refine State.forEach_kept ?_ (fun _ _ _ => ?_)
    | refine State.cueRouteWrite_kept ?_
    | refine State.doorbell_kept ?_
    | refine State.cueDoorbell_kept ?_
    | refine State.cuePostWrite_kept ?_
    | exact Kept1.fst (by assumption)
    | exact Kept2.snd (by assumption)
    | exact Kept1.of (by assumption) (by assumption)
    | fail_if_no_progress refine kept_mk ?_
    | split
    | refine Kept1.of ?_ (by assumption)
    | fail_if_no_progress refine Kept1.mk ?_

theorem execCuexAck_kept {s t : State} {x0 : Writer} {x1 : Fin 20} {x2 : Word} {x3 : List CuexSame} (h : Kept s t) : KeptO s (execCuexAck x0 x1 x2 x3 t) := by
  unfold execCuexAck
  repeat' with_reducible first
    | assumption
    | refine KeptO.next ?_
    | refine State.ifLive_kept ?_ (fun _ _ => ?_)
    | refine State.cueAckWrite_kept ?_
    | refine State.cueSame_kept ?_
    | exact Kept1.fst (by assumption)
    | exact Kept2.snd (by assumption)
    | exact Kept1.of (by assumption) (by assumption)
    | fail_if_no_progress refine kept_mk ?_
    | fail_if_no_progress refine Kept1.mk ?_

theorem execCuexRouteWrite_kept {s t : State} {x0 : Writer} {x1 : Fin 512} {x2 : Word} {x3 : List CuexSame} (h : Kept s t) : KeptO s (execCuexRouteWrite x0 x1 x2 x3 t) := by
  unfold execCuexRouteWrite
  repeat' with_reducible first
    | assumption
    | refine KeptO.next ?_
    | refine State.ifWritten_kept ?_ (fun _ _ => ?_)
    | refine State.cueRouteWrite_kept ?_
    | refine State.cueSame_kept ?_
    | exact Kept1.fst (by assumption)
    | exact Kept2.snd (by assumption)
    | exact Kept1.of (by assumption) (by assumption)
    | fail_if_no_progress refine kept_mk ?_
    | fail_if_no_progress refine Kept1.mk ?_

theorem execHoldoffExpiry_kept {s t : State} {x0 : Fin 20} {x1 : Fin 32} (h : Kept s t) : KeptO s (execHoldoffExpiry x0 x1 t) := by
  unfold execHoldoffExpiry
  repeat' with_reducible first
    | assumption
    | refine KeptO.next ?_
    | refine State.ifLive_kept ?_ (fun _ _ => ?_)
    | refine State.cuexSync_kept ?_
    | exact Kept1.fst (by assumption)
    | exact Kept2.snd (by assumption)
    | exact Kept1.of (by assumption) (by assumption)
    | fail_if_no_progress refine kept_mk ?_
    | fail_if_no_progress refine Kept1.mk ?_

end Sys2Proof.Machine
end

