-- ==== Sys2Proof/Laws/KeptFlows.lean ====
section
/-! SUPPORT. Every operation of Machine/Flows.lean keeps the waiting commands, the invariant and every programmed bit. -/

namespace Sys2Proof.Machine

set_option linter.unusedTactic false
set_option linter.unreachableTactic false

theorem State.setFlow_kept {s t : State} {x0 : Nat} {x1 : Flow} (h : Kept s t) : Kept s (State.setFlow t x0 x1) := by
  unfold State.setFlow
  repeat' with_reducible first
    | assumption
    | exact Kept1.fst (by assumption)
    | exact Kept2.snd (by assumption)
    | exact Kept1.of (by assumption) (by assumption)
    | fail_if_no_progress refine kept_mk ?_
    | fail_if_no_progress refine Kept1.mk ?_

end Sys2Proof.Machine
end

