-- ==== Sys2Proof/Laws/KeptLink.lean ====
section
/-! SUPPORT. Every operation of Machine/Link.lean keeps the waiting commands, the invariant and every programmed bit. -/

namespace Sys2Proof.Machine

set_option linter.unusedTactic false
set_option linter.unreachableTactic false

theorem State.setLink_kept {s t : State} {x0 : Nat} (h : Kept s t) : Kept s (State.setLink t x0) := by
  unfold State.setLink
  repeat' with_reducible first
    | assumption
    | refine State.setFld_kept ?_
    | exact Kept1.fst (by assumption)
    | exact Kept2.snd (by assumption)
    | exact Kept1.of (by assumption) (by assumption)
    | fail_if_no_progress refine kept_mk ?_
    | fail_if_no_progress refine Kept1.mk ?_

theorem State.setPairCtx_kept {s t : State} {x0 : Nat} {x1 : PairCtx} (h : Kept s t) : Kept s (State.setPairCtx t x0 x1) := by
  unfold State.setPairCtx
  repeat' with_reducible first
    | assumption
    | exact Kept1.fst (by assumption)
    | exact Kept2.snd (by assumption)
    | exact Kept1.of (by assumption) (by assumption)
    | fail_if_no_progress refine kept_mk ?_
    | fail_if_no_progress refine Kept1.mk ?_

theorem State.modPairCtx_kept {s t : State} {x0 : Nat} {x1 : PairCtx → PairCtx} (h : Kept s t) : Kept s (State.modPairCtx t x0 x1) := by
  unfold State.modPairCtx
  repeat' with_reducible first
    | assumption
    | refine State.setPairCtx_kept ?_
    | exact Kept1.fst (by assumption)
    | exact Kept2.snd (by assumption)
    | exact Kept1.of (by assumption) (by assumption)
    | fail_if_no_progress refine kept_mk ?_
    | fail_if_no_progress refine Kept1.mk ?_

theorem State.putRole_kept {s t : State} {x0 : Nat} (h : Kept s t) : Kept s (State.putRole t x0) := by
  unfold State.putRole
  repeat' with_reducible first
    | assumption
    | refine kept_ite (fun _ => ?_) (fun _ => ?_)
    | refine kept1_ite (fun _ => ?_) (fun _ => ?_)
    | (extract_lets +onlyGivenNames u; first | ((refine (fun (_ : Kept s u) => ?_) ?_); (on_goal 1 => clear_value u); (on_goal 2 => subst u)) | ((refine (fun (_ : Kept1 s u) => ?_) ?_); (on_goal 1 => clear_value u); (on_goal 2 => subst u)) | ((refine (fun (_ : Kept2 s u) => ?_) ?_); (on_goal 1 => clear_value u); (on_goal 2 => subst u)) | clear_value u)
    | refine State.forEach_kept ?_ (fun _ _ _ => ?_)
    | refine State.setFld_kept ?_
    | refine State.setRbit_kept ?_
    | refine State.setRegN_kept ?_
    | exact Kept1.fst (by assumption)
    | exact Kept2.snd (by assumption)
    | exact Kept1.of (by assumption) (by assumption)
    | fail_if_no_progress refine kept_mk ?_
    | split
    | fail_if_no_progress refine Kept1.mk ?_

theorem State.pairDown_kept {s t : State} (h : Kept s t) : Kept s (State.pairDown t) := by
  unfold State.pairDown
  repeat' with_reducible first
    | assumption
    | (extract_lets +onlyGivenNames u; first | ((refine (fun (_ : Kept s u) => ?_) ?_); (on_goal 1 => clear_value u); (on_goal 2 => subst u)) | ((refine (fun (_ : Kept1 s u) => ?_) ?_); (on_goal 1 => clear_value u); (on_goal 2 => subst u)) | ((refine (fun (_ : Kept2 s u) => ?_) ?_); (on_goal 1 => clear_value u); (on_goal 2 => subst u)) | clear_value u)
    | refine State.setLink_kept ?_
    | refine State.putRole_kept ?_
    | refine State.setFld_kept ?_
    | refine State.setRbit_kept ?_
    | exact Kept1.fst (by assumption)
    | exact Kept2.snd (by assumption)
    | exact Kept1.of (by assumption) (by assumption)
    | fail_if_no_progress refine kept_mk ?_
    | fail_if_no_progress refine Kept1.mk ?_

theorem State.linkSend_kept {s t : State} {x0 : Nat} {x1 : List Byte} (h : Kept s t) : Kept s (State.linkSend t x0 x1) := by
  unfold State.linkSend
  repeat' with_reducible first
    | assumption
    | refine kept_ite (fun _ => ?_) (fun _ => ?_)
    | refine kept1_ite (fun _ => ?_) (fun _ => ?_)
    | (extract_lets +onlyGivenNames u; first | ((refine (fun (_ : Kept s u) => ?_) ?_); (on_goal 1 => clear_value u); (on_goal 2 => subst u)) | ((refine (fun (_ : Kept1 s u) => ?_) ?_); (on_goal 1 => clear_value u); (on_goal 2 => subst u)) | ((refine (fun (_ : Kept2 s u) => ?_) ?_); (on_goal 1 => clear_value u); (on_goal 2 => subst u)) | clear_value u)
    | refine State.emit_kept ?_
    | refine State.bump_kept ?_
    | exact Kept1.fst (by assumption)
    | exact Kept2.snd (by assumption)
    | exact Kept1.of (by assumption) (by assumption)
    | fail_if_no_progress refine kept_mk ?_
    | split
    | fail_if_no_progress refine Kept1.mk ?_

theorem State.linkCommand_kept {s t : State} {x0 : Nat} {x1 : Nat} {x2 : Nat} {x3 : Nat} (h : Kept s t) : Kept s (State.linkCommand t x0 x1 x2 x3) := by
  unfold State.linkCommand
  repeat' with_reducible first
    | assumption
    | refine State.linkSend_kept ?_
    | exact Kept1.fst (by assumption)
    | exact Kept2.snd (by assumption)
    | exact Kept1.of (by assumption) (by assumption)
    | fail_if_no_progress refine kept_mk ?_
    | fail_if_no_progress refine Kept1.mk ?_

theorem State.linkSession_kept {s t : State} {x0 : Nat} {x1 : Nat} {x2 : EncSession} (h : Kept s t) : Kept s (State.linkSession t x0 x1 x2) := by
  unfold State.linkSession
  repeat' with_reducible first
    | assumption
    | refine kept_ite (fun _ => ?_) (fun _ => ?_)
    | refine kept1_ite (fun _ => ?_) (fun _ => ?_)
    | refine State.linkSend_kept ?_
    | exact Kept1.fst (by assumption)
    | exact Kept2.snd (by assumption)
    | exact Kept1.of (by assumption) (by assumption)
    | fail_if_no_progress refine kept_mk ?_
    | split
    | fail_if_no_progress refine Kept1.mk ?_

theorem State.holdPkt_kept {s t : State} {x0 : Nat} {x1 : HeldPkt} (h : Kept s t) : Kept s (State.holdPkt t x0 x1) := by
  unfold State.holdPkt
  repeat' with_reducible first
    | assumption
    | refine kept_ite (fun _ => ?_) (fun _ => ?_)
    | refine kept1_ite (fun _ => ?_) (fun _ => ?_)
    | (extract_lets +onlyGivenNames u; first | ((refine (fun (_ : Kept s u) => ?_) ?_); (on_goal 1 => clear_value u); (on_goal 2 => subst u)) | ((refine (fun (_ : Kept1 s u) => ?_) ?_); (on_goal 1 => clear_value u); (on_goal 2 => subst u)) | ((refine (fun (_ : Kept2 s u) => ?_) ?_); (on_goal 1 => clear_value u); (on_goal 2 => subst u)) | clear_value u)
    | refine State.modPairCtx_kept ?_
    | exact Kept1.fst (by assumption)
    | exact Kept2.snd (by assumption)
    | exact Kept1.of (by assumption) (by assumption)
    | fail_if_no_progress refine kept_mk ?_
    | split
    | fail_if_no_progress refine Kept1.mk ?_

theorem State.notePkt_kept {s t : State} {x0 : Nat} {x1 : Nat} {x2 : Nat} (h : Kept s t) : Kept s (State.notePkt t x0 x1 x2) := by
  unfold State.notePkt
  repeat' with_reducible first
    | assumption
    | refine kept_ite (fun _ => ?_) (fun _ => ?_)
    | refine kept1_ite (fun _ => ?_) (fun _ => ?_)
    | refine State.modPairCtx_kept ?_
    | exact Kept1.fst (by assumption)
    | exact Kept2.snd (by assumption)
    | exact Kept1.of (by assumption) (by assumption)
    | fail_if_no_progress refine kept_mk ?_
    | split
    | fail_if_no_progress refine Kept1.mk ?_

theorem State.sendXcheck_kept {s t : State} {x0 : Nat} {x1 : Nat} {x2 : Nat} {x3 : List XEntry} (h : Kept s t) : Kept s (State.sendXcheck t x0 x1 x2 x3) := by
  induction x2 generalizing t x3 with
  | zero =>
    unfold State.sendXcheck
    repeat' with_reducible first
      | assumption
      | refine kept_ite (fun _ => ?_) (fun _ => ?_)
      | refine kept1_ite (fun _ => ?_) (fun _ => ?_)
      | (extract_lets +onlyGivenNames u; first | ((refine (fun (_ : Kept s u) => ?_) ?_); (on_goal 1 => clear_value u); (on_goal 2 => subst u)) | ((refine (fun (_ : Kept1 s u) => ?_) ?_); (on_goal 1 => clear_value u); (on_goal 2 => subst u)) | ((refine (fun (_ : Kept2 s u) => ?_) ?_); (on_goal 1 => clear_value u); (on_goal 2 => subst u)) | clear_value u)
      | refine State.linkSend_kept ?_
      | exact Kept1.fst (by assumption)
      | exact Kept2.snd (by assumption)
      | exact Kept1.of (by assumption) (by assumption)
      | fail_if_no_progress refine kept_mk ?_
      | split
      | fail_if_no_progress refine Kept1.mk ?_
  | succ n ih =>
    unfold State.sendXcheck
    repeat' with_reducible first
      | assumption
      | refine kept_ite (fun _ => ?_) (fun _ => ?_)
      | refine kept1_ite (fun _ => ?_) (fun _ => ?_)
      | refine ih ?_
      | (extract_lets +onlyGivenNames u; first | ((refine (fun (_ : Kept s u) => ?_) ?_); (on_goal 1 => clear_value u); (on_goal 2 => subst u)) | ((refine (fun (_ : Kept1 s u) => ?_) ?_); (on_goal 1 => clear_value u); (on_goal 2 => subst u)) | ((refine (fun (_ : Kept2 s u) => ?_) ?_); (on_goal 1 => clear_value u); (on_goal 2 => subst u)) | clear_value u)
      | refine State.linkSend_kept ?_
      | exact Kept1.fst (by assumption)
      | exact Kept2.snd (by assumption)
      | exact Kept1.of (by assumption) (by assumption)
      | fail_if_no_progress refine kept_mk ?_
      | split
      | fail_if_no_progress refine Kept1.mk ?_

theorem State.switchStart_kept {s t : State} (h : Kept s t) : Kept s (State.switchStart t) := by
  unfold State.switchStart
  repeat' with_reducible first
    | assumption
    | (extract_lets +onlyGivenNames u; first | ((refine (fun (_ : Kept s u) => ?_) ?_); (on_goal 1 => clear_value u); (on_goal 2 => subst u)) | ((refine (fun (_ : Kept1 s u) => ?_) ?_); (on_goal 1 => clear_value u); (on_goal 2 => subst u)) | ((refine (fun (_ : Kept2 s u) => ?_) ?_); (on_goal 1 => clear_value u); (on_goal 2 => subst u)) | clear_value u)
    | refine State.setRegN_kept ?_
    | refine State.linkCommand_kept ?_
    | exact Kept1.fst (by assumption)
    | exact Kept2.snd (by assumption)
    | exact Kept1.of (by assumption) (by assumption)
    | fail_if_no_progress refine kept_mk ?_
    | fail_if_no_progress refine Kept1.mk ?_

theorem State.xmismatch_kept {s t : State} {x0 : XEntry} {x1 : Nat} (h : Kept s t) : Kept s (State.xmismatch t x0 x1) := by
  unfold State.xmismatch
  repeat' with_reducible first
    | assumption
    | refine State.raise_kept ?_
    | exact Kept1.fst (by assumption)
    | exact Kept2.snd (by assumption)
    | exact Kept1.of (by assumption) (by assumption)
    | fail_if_no_progress refine kept_mk ?_
    | fail_if_no_progress refine Kept1.mk ?_

theorem State.suspect_kept {s t : State} (h : Kept s t) : Kept s (State.suspect t) := by
  unfold State.suspect
  repeat' with_reducible first
    | assumption
    | refine kept_ite (fun _ => ?_) (fun _ => ?_)
    | refine kept1_ite (fun _ => ?_) (fun _ => ?_)
    | (extract_lets +onlyGivenNames u; first | ((refine (fun (_ : Kept s u) => ?_) ?_); (on_goal 1 => clear_value u); (on_goal 2 => subst u)) | ((refine (fun (_ : Kept1 s u) => ?_) ?_); (on_goal 1 => clear_value u); (on_goal 2 => subst u)) | ((refine (fun (_ : Kept2 s u) => ?_) ?_); (on_goal 1 => clear_value u); (on_goal 2 => subst u)) | clear_value u)
    | refine State.doIf_kept ?_ (fun _ _ => ?_)
    | refine State.setRbit_kept ?_
    | refine State.switchStart_kept ?_
    | exact Kept1.fst (by assumption)
    | exact Kept2.snd (by assumption)
    | exact Kept1.of (by assumption) (by assumption)
    | fail_if_no_progress refine kept_mk ?_
    | split
    | fail_if_no_progress refine Kept1.mk ?_

theorem State.xjudge_kept {s t : State} {x0 : XEntry} {x1 : XEntry} (h : Kept s t) : Kept s (State.xjudge t x0 x1) := by
  unfold State.xjudge
  repeat' with_reducible first
    | assumption
    | refine State.bump_kept ?_
    | refine State.xmismatch_kept ?_
    | refine State.suspect_kept ?_
    | exact Kept1.fst (by assumption)
    | exact Kept2.snd (by assumption)
    | exact Kept1.of (by assumption) (by assumption)
    | fail_if_no_progress refine kept_mk ?_
    | split
    | refine Kept1.of ?_ (by assumption)
    | fail_if_no_progress refine Kept1.mk ?_

theorem State.xmatch_kept {s t : State} (h : Kept s t) : Kept s (State.xmatch t) := by
  unfold State.xmatch
  repeat' with_reducible first
    | assumption
    | refine State.forEach_kept ?_ (fun _ _ _ => ?_)
    | refine State.xjudge_kept ?_
    | exact Kept1.fst (by assumption)
    | exact Kept2.snd (by assumption)
    | exact Kept1.of (by assumption) (by assumption)
    | fail_if_no_progress refine kept_mk ?_
    | split
    | refine Kept1.of ?_ (by assumption)
    | fail_if_no_progress refine Kept1.mk ?_

end Sys2Proof.Machine
end

