-- ==== Sys2Proof/Laws/KeptPool.lean ====
section
/-! SUPPORT. Every operation of Machine/Pool.lean keeps the waiting commands, the invariant and every programmed bit. -/

namespace Sys2Proof.Machine

set_option linter.unusedTactic false
set_option linter.unreachableTactic false

theorem State.setPoolBuf_kept {s t : State} {x0 : Nat} {x1 : PoolBuf} (h : Kept s t) : Kept s (State.setPoolBuf t x0 x1) := by
  unfold State.setPoolBuf
  repeat' with_reducible first
    | assumption
    | exact Kept1.fst (by assumption)
    | exact Kept2.snd (by assumption)
    | exact Kept1.of (by assumption) (by assumption)
    | fail_if_no_progress refine kept_mk ?_
    | fail_if_no_progress refine Kept1.mk ?_

theorem State.scrapOpen_kept {s t : State} {x0 : Nat} {x1 : Nat} (h : Kept s t) : Kept s (State.scrapOpen t x0 x1) := by
  unfold State.scrapOpen
  repeat' with_reducible first
    | assumption
    | refine State.forEach_kept ?_ (fun _ _ _ => ?_)
    | refine State.memScrap_kept ?_
    | exact Kept1.fst (by assumption)
    | exact Kept2.snd (by assumption)
    | exact Kept1.of (by assumption) (by assumption)
    | fail_if_no_progress refine kept_mk ?_
    | fail_if_no_progress refine Kept1.mk ?_

theorem State.giveBuf_kept {s t : State} {x0 : Nat} {x1 : Nat} {x2 : Nat} {x3 : Nat} (h : Kept s t) : Kept s (State.giveBuf t x0 x1 x2 x3) := by
  unfold State.giveBuf
  repeat' with_reducible first
    | assumption
    | (extract_lets +onlyGivenNames u; first | ((refine (fun (_ : Kept s u) => ?_) ?_); (on_goal 1 => clear_value u); (on_goal 2 => subst u)) | ((refine (fun (_ : Kept1 s u) => ?_) ?_); (on_goal 1 => clear_value u); (on_goal 2 => subst u)) | ((refine (fun (_ : Kept2 s u) => ?_) ?_); (on_goal 1 => clear_value u); (on_goal 2 => subst u)) | clear_value u)
    | refine State.setPoolBuf_kept ?_
    | refine State.setRegN_kept ?_
    | refine State.wrapAdd_kept ?_
    | refine State.bump_kept ?_
    | refine State.scrapOpen_kept ?_
    | exact Kept1.fst (by assumption)
    | exact Kept2.snd (by assumption)
    | exact Kept1.of (by assumption) (by assumption)
    | fail_if_no_progress refine kept_mk ?_
    | fail_if_no_progress refine Kept1.mk ?_

theorem State.tryPools_kept {s t : State} {x0 : Nat} {x1 : Nat} {x2 : List Nat} (h : Kept s t) : Kept1 s (State.tryPools t x0 x1 x2) := by
  induction x2 generalizing t with
  | nil =>
    unfold State.tryPools
    repeat' with_reducible first
      | assumption
      | refine kept_ite (fun _ => ?_) (fun _ => ?_)
      | refine kept1_ite (fun _ => ?_) (fun _ => ?_)
      | (extract_lets +onlyGivenNames u; first | ((refine (fun (_ : Kept s u) => ?_) ?_); (on_goal 1 => clear_value u); (on_goal 2 => subst u)) | ((refine (fun (_ : Kept1 s u) => ?_) ?_); (on_goal 1 => clear_value u); (on_goal 2 => subst u)) | ((refine (fun (_ : Kept2 s u) => ?_) ?_); (on_goal 1 => clear_value u); (on_goal 2 => subst u)) | clear_value u)
      | refine State.bump_kept ?_
      | refine State.giveBuf_kept ?_
      | exact Kept1.fst (by assumption)
      | exact Kept2.snd (by assumption)
      | exact Kept1.of (by assumption) (by assumption)
      | fail_if_no_progress refine kept_mk ?_
      | split
      | refine Kept1.of ?_ (by assumption)
      | fail_if_no_progress refine Kept1.mk ?_
  | cons a l ih =>
    unfold State.tryPools
    repeat' with_reducible first
      | assumption
      | refine kept_ite (fun _ => ?_) (fun _ => ?_)
      | refine kept1_ite (fun _ => ?_) (fun _ => ?_)
      | refine ih ?_
      | refine Kept1.of (ih ?_) (by assumption)
      | (extract_lets +onlyGivenNames u; first | ((refine (fun (_ : Kept s u) => ?_) ?_); (on_goal 1 => clear_value u); (on_goal 2 => subst u)) | ((refine (fun (_ : Kept1 s u) => ?_) ?_); (on_goal 1 => clear_value u); (on_goal 2 => subst u)) | ((refine (fun (_ : Kept2 s u) => ?_) ?_); (on_goal 1 => clear_value u); (on_goal 2 => subst u)) | clear_value u)
      | refine State.bump_kept ?_
      | refine State.giveBuf_kept ?_
      | exact Kept1.fst (by assumption)
      | exact Kept2.snd (by assumption)
      | exact Kept1.of (by assumption) (by assumption)
      | fail_if_no_progress refine kept_mk ?_
      | split
      | refine Kept1.of ?_ (by assumption)
      | fail_if_no_progress refine Kept1.mk ?_

theorem State.poolAsk_kept {s t : State} {x0 : Nat} {x1 : Nat} (h : Kept s t) : Kept1 s (State.poolAsk t x0 x1) := by
  unfold State.poolAsk
  repeat' with_reducible first
    | assumption
    | refine kept_ite (fun _ => ?_) (fun _ => ?_)
    | refine kept1_ite (fun _ => ?_) (fun _ => ?_)
    | (extract_lets +onlyGivenNames u; first | ((refine (fun (_ : Kept s u) => ?_) ?_); (on_goal 1 => clear_value u); (on_goal 2 => subst u)) | ((refine (fun (_ : Kept1 s u) => ?_) ?_); (on_goal 1 => clear_value u); (on_goal 2 => subst u)) | ((refine (fun (_ : Kept2 s u) => ?_) ?_); (on_goal 1 => clear_value u); (on_goal 2 => subst u)) | clear_value u)
    | refine State.bump_kept ?_
    | refine State.tryPools_kept ?_
    | refine Kept1.fst (State.tryPools_kept ?_)
    | refine Kept1.of (State.tryPools_kept ?_) (by assumption)
    | exact Kept1.fst (by assumption)
    | exact Kept2.snd (by assumption)
    | exact Kept1.of (by assumption) (by assumption)
    | fail_if_no_progress refine kept_mk ?_
    | split
    | refine Kept1.of ?_ (by assumption)
    | fail_if_no_progress refine Kept1.mk ?_

theorem State.freeBuf_kept {s t : State} {x0 : Nat} (h : Kept s t) : Kept s (State.freeBuf t x0) := by
  unfold State.freeBuf
  repeat' with_reducible first
    | assumption
    | (extract_lets +onlyGivenNames u; first | ((refine (fun (_ : Kept s u) => ?_) ?_); (on_goal 1 => clear_value u); (on_goal 2 => subst u)) | ((refine (fun (_ : Kept1 s u) => ?_) ?_); (on_goal 1 => clear_value u); (on_goal 2 => subst u)) | ((refine (fun (_ : Kept2 s u) => ?_) ?_); (on_goal 1 => clear_value u); (on_goal 2 => subst u)) | clear_value u)
    | refine State.forEach_kept ?_ (fun _ _ _ => ?_)
    | refine State.setRegN_kept ?_
    | refine State.setPoolBuf_kept ?_
    | exact Kept1.fst (by assumption)
    | exact Kept2.snd (by assumption)
    | exact Kept1.of (by assumption) (by assumption)
    | fail_if_no_progress refine kept_mk ?_
    | fail_if_no_progress refine Kept1.mk ?_

theorem State.poolRef_kept {s t : State} {x0 : Nat} {x1 : Bool} (h : Kept s t) : Kept1 s (State.poolRef t x0 x1) := by
  unfold State.poolRef
  repeat' with_reducible first
    | assumption
    | refine kept_ite (fun _ => ?_) (fun _ => ?_)
    | refine kept1_ite (fun _ => ?_) (fun _ => ?_)
    | (extract_lets +onlyGivenNames u; first | ((refine (fun (_ : Kept s u) => ?_) ?_); (on_goal 1 => clear_value u); (on_goal 2 => subst u)) | ((refine (fun (_ : Kept1 s u) => ?_) ?_); (on_goal 1 => clear_value u); (on_goal 2 => subst u)) | ((refine (fun (_ : Kept2 s u) => ?_) ?_); (on_goal 1 => clear_value u); (on_goal 2 => subst u)) | clear_value u)
    | refine State.bump_kept ?_
    | refine State.setPoolBuf_kept ?_
    | refine State.freeBuf_kept ?_
    | exact Kept1.fst (by assumption)
    | exact Kept2.snd (by assumption)
    | exact Kept1.of (by assumption) (by assumption)
    | fail_if_no_progress refine kept_mk ?_
    | split
    | refine Kept1.of ?_ (by assumption)
    | fail_if_no_progress refine Kept1.mk ?_

theorem State.poolDrop_kept {s t : State} {x0 : Nat} (h : Kept s t) : Kept s (State.poolDrop t x0) := by
  unfold State.poolDrop
  repeat' with_reducible first
    | assumption
    | refine State.poolRef_kept ?_
    | refine Kept1.fst (State.poolRef_kept ?_)
    | refine Kept1.of (State.poolRef_kept ?_) (by assumption)
    | exact Kept1.fst (by assumption)
    | exact Kept2.snd (by assumption)
    | exact Kept1.of (by assumption) (by assumption)
    | fail_if_no_progress refine kept_mk ?_
    | fail_if_no_progress refine Kept1.mk ?_

theorem State.poolReply_kept {s t : State} {x0 : Nat} {x1 : Nat} {x2 : Nat} (h : Kept s t) : Kept s (State.poolReply t x0 x1 x2) := by
  unfold State.poolReply
  repeat' with_reducible first
    | assumption
    | refine State.setRegN_kept ?_
    | refine State.emit_kept ?_
    | exact Kept1.fst (by assumption)
    | exact Kept2.snd (by assumption)
    | exact Kept1.of (by assumption) (by assumption)
    | fail_if_no_progress refine kept_mk ?_
    | split
    | refine Kept1.of ?_ (by assumption)
    | fail_if_no_progress refine Kept1.mk ?_

theorem State.refReply_kept {s t : State} {x0 : Nat} {x1 : Nat} {x2 : Nat} (h : Kept s t) : Kept s (State.refReply t x0 x1 x2) := by
  unfold State.refReply
  repeat' with_reducible first
    | assumption
    | refine State.setRegN_kept ?_
    | refine State.emit_kept ?_
    | exact Kept1.fst (by assumption)
    | exact Kept2.snd (by assumption)
    | exact Kept1.of (by assumption) (by assumption)
    | fail_if_no_progress refine kept_mk ?_
    | split
    | refine Kept1.of ?_ (by assumption)
    | fail_if_no_progress refine Kept1.mk ?_

theorem State.refApply_kept {s t : State} {x0 : Bool} {x1 : PoolRefAsk} (h : Kept s t) : Kept s (State.refApply t x0 x1) := by
  unfold State.refApply
  repeat' with_reducible first
    | assumption
    | refine kept_ite (fun _ => ?_) (fun _ => ?_)
    | refine kept1_ite (fun _ => ?_) (fun _ => ?_)
    | refine State.aborted_kept ?_
    | refine State.poolRef_kept ?_
    | refine Kept1.fst (State.poolRef_kept ?_)
    | refine Kept1.of (State.poolRef_kept ?_) (by assumption)
    | refine State.refReply_kept ?_
    | exact Kept1.fst (by assumption)
    | exact Kept2.snd (by assumption)
    | exact Kept1.of (by assumption) (by assumption)
    | fail_if_no_progress refine kept_mk ?_
    | split
    | refine Kept1.of ?_ (by assumption)
    | fail_if_no_progress refine Kept1.mk ?_

theorem execPoolRefIncrement_kept {s t : State} {x0 : List PoolRefAsk} (h : Kept s t) : KeptO s (execPoolRefIncrement x0 t) := by
  unfold execPoolRefIncrement
  repeat' with_reducible first
    | assumption
    | refine KeptO.next ?_
    | refine State.forEach_kept ?_ (fun _ _ _ => ?_)
    | refine State.refApply_kept ?_
    | exact Kept1.fst (by assumption)
    | exact Kept2.snd (by assumption)
    | exact Kept1.of (by assumption) (by assumption)
    | fail_if_no_progress refine kept_mk ?_
    | fail_if_no_progress refine Kept1.mk ?_

theorem execPoolRefDecrement_kept {s t : State} {x0 : List PoolRefAsk} (h : Kept s t) : KeptO s (execPoolRefDecrement x0 t) := by
  unfold execPoolRefDecrement
  repeat' with_reducible first
    | assumption
    | refine KeptO.next ?_
    | refine State.forEach_kept ?_ (fun _ _ _ => ?_)
    | refine State.refApply_kept ?_
    | exact Kept1.fst (by assumption)
    | exact Kept2.snd (by assumption)
    | exact Kept1.of (by assumption) (by assumption)
    | fail_if_no_progress refine kept_mk ?_
    | fail_if_no_progress refine Kept1.mk ?_

theorem State.askApply_kept {s t : State} {x0 : PoolAsk} (h : Kept s t) : Kept s (State.askApply t x0) := by
  unfold State.askApply
  repeat' with_reducible first
    | assumption
    | refine kept_ite (fun _ => ?_) (fun _ => ?_)
    | refine kept1_ite (fun _ => ?_) (fun _ => ?_)
    | refine State.aborted_kept ?_
    | refine State.poolAsk_kept ?_
    | refine Kept1.fst (State.poolAsk_kept ?_)
    | refine Kept1.of (State.poolAsk_kept ?_) (by assumption)
    | refine State.poolReply_kept ?_
    | exact Kept1.fst (by assumption)
    | exact Kept2.snd (by assumption)
    | exact Kept1.of (by assumption) (by assumption)
    | fail_if_no_progress refine kept_mk ?_
    | split
    | refine Kept1.of ?_ (by assumption)
    | fail_if_no_progress refine Kept1.mk ?_

theorem execPoolRequest_kept {s t : State} {x0 : List (Bool × PoolRefAsk)} {x1 : List PoolAsk} (h : Kept s t) : KeptO s (execPoolRequest x0 x1 t) := by
  unfold execPoolRequest
  repeat' with_reducible first
    | assumption
    | (extract_lets +onlyGivenNames u; first | ((refine (fun (_ : Kept s u) => ?_) ?_); (on_goal 1 => clear_value u); (on_goal 2 => subst u)) | ((refine (fun (_ : Kept1 s u) => ?_) ?_); (on_goal 1 => clear_value u); (on_goal 2 => subst u)) | ((refine (fun (_ : Kept2 s u) => ?_) ?_); (on_goal 1 => clear_value u); (on_goal 2 => subst u)) | clear_value u)
    | refine KeptO.next ?_
    | refine State.forEach_kept ?_ (fun _ _ _ => ?_)
    | refine State.refApply_kept ?_
    | refine State.askApply_kept ?_
    | exact Kept1.fst (by assumption)
    | exact Kept2.snd (by assumption)
    | exact Kept1.of (by assumption) (by assumption)
    | fail_if_no_progress refine kept_mk ?_
    | fail_if_no_progress refine Kept1.mk ?_

theorem State.poolEnable_kept {s t : State} (h : Kept s t) : Kept s (State.poolEnable t) := by
  unfold State.poolEnable
  repeat' with_reducible first
    | assumption
    | refine kept_ite (fun _ => ?_) (fun _ => ?_)
    | refine kept1_ite (fun _ => ?_) (fun _ => ?_)
    | (extract_lets +onlyGivenNames u; first | ((refine (fun (_ : Kept s u) => ?_) ?_); (on_goal 1 => clear_value u); (on_goal 2 => subst u)) | ((refine (fun (_ : Kept1 s u) => ?_) ?_); (on_goal 1 => clear_value u); (on_goal 2 => subst u)) | ((refine (fun (_ : Kept2 s u) => ?_) ?_); (on_goal 1 => clear_value u); (on_goal 2 => subst u)) | clear_value u)
    | refine State.forEach_kept ?_ (fun _ _ _ => ?_)
    | refine State.setRbit_kept ?_
    | refine State.setRegN_kept ?_
    | exact Kept1.fst (by assumption)
    | exact Kept2.snd (by assumption)
    | exact Kept1.of (by assumption) (by assumption)
    | fail_if_no_progress refine kept_mk ?_
    | split
    | fail_if_no_progress refine Kept1.mk ?_

theorem execPoolEnable_kept {s t : State} (h : Kept s t) : KeptO s (execPoolEnable t) := by
  unfold execPoolEnable
  repeat' with_reducible first
    | assumption
    | refine KeptO.next ?_
    | refine State.ifLive_kept ?_ (fun _ _ => ?_)
    | refine State.poolEnable_kept ?_
    | exact Kept1.fst (by assumption)
    | exact Kept2.snd (by assumption)
    | exact Kept1.of (by assumption) (by assumption)
    | fail_if_no_progress refine kept_mk ?_
    | fail_if_no_progress refine Kept1.mk ?_

theorem execPoolStop_kept {s t : State} (h : Kept s t) : KeptO s (execPoolStop t) := by
  unfold execPoolStop
  repeat' with_reducible first
    | assumption
    | refine KeptO.next ?_
    | refine State.ifLive_kept ?_ (fun _ _ => ?_)
    | refine State.setRbit_kept ?_
    | exact Kept1.fst (by assumption)
    | exact Kept2.snd (by assumption)
    | exact Kept1.of (by assumption) (by assumption)
    | fail_if_no_progress refine kept_mk ?_
    | fail_if_no_progress refine Kept1.mk ?_

theorem execPoolHalt_kept {s t : State} {x0 : List PoolAsk} {x1 : List (Fin 64)} (h : Kept s t) : KeptO s (execPoolHalt x0 x1 t) := by
  unfold execPoolHalt
  repeat' with_reducible first
    | assumption
    | (extract_lets +onlyGivenNames u; first | ((refine (fun (_ : Kept s u) => ?_) ?_); (on_goal 1 => clear_value u); (on_goal 2 => subst u)) | ((refine (fun (_ : Kept1 s u) => ?_) ?_); (on_goal 1 => clear_value u); (on_goal 2 => subst u)) | ((refine (fun (_ : Kept2 s u) => ?_) ?_); (on_goal 1 => clear_value u); (on_goal 2 => subst u)) | clear_value u)
    | refine KeptO.next ?_
    | refine State.forEach_kept ?_ (fun _ _ _ => ?_)
    | refine State.ifLive_kept ?_ (fun _ _ => ?_)
    | refine State.setRbit_kept ?_
    | refine State.bump_kept ?_
    | refine State.poolReply_kept ?_
    | refine State.refReply_kept ?_
    | exact Kept1.fst (by assumption)
    | exact Kept2.snd (by assumption)
    | exact Kept1.of (by assumption) (by assumption)
    | fail_if_no_progress refine kept_mk ?_
    | fail_if_no_progress refine Kept1.mk ?_

end Sys2Proof.Machine
end

