-- ==== Sys2Proof/Laws/KeptNet.lean ====
section
/-! SUPPORT. Every operation of Machine/Net.lean keeps the waiting commands, the invariant and every programmed bit. -/

namespace Sys2Proof.Machine

set_option linter.unusedTactic false
set_option linter.unreachableTactic false

theorem State.setPortState_kept {s t : State} {x0 : Nat} {x1 : Nat} (h : Kept s t) : Kept s (State.setPortState t x0 x1) := by
  unfold State.setPortState
  repeat' with_reducible first
    | assumption
    | refine State.setFld_kept ?_
    | exact Kept1.fst (by assumption)
    | exact Kept2.snd (by assumption)
    | exact Kept1.of (by assumption) (by assumption)
    | fail_if_no_progress refine kept_mk ?_
    | fail_if_no_progress refine Kept1.mk ?_

theorem State.syncLatency_kept {s t : State} {x0 : Nat} (h : Kept s t) : Kept s (State.syncLatency t x0) := by
  unfold State.syncLatency
  repeat' with_reducible first
    | assumption
    | refine State.setRegN_kept ?_
    | exact Kept1.fst (by assumption)
    | exact Kept2.snd (by assumption)
    | exact Kept1.of (by assumption) (by assumption)
    | fail_if_no_progress refine kept_mk ?_
    | fail_if_no_progress refine Kept1.mk ?_

theorem State.netEnable_kept {s t : State} {x0 : Nat} (h : Kept s t) : Kept s (State.netEnable t x0) := by
  unfold State.netEnable
  repeat' with_reducible first
    | assumption
    | refine kept_ite (fun _ => ?_) (fun _ => ?_)
    | refine kept1_ite (fun _ => ?_) (fun _ => ?_)
    | (extract_lets +onlyGivenNames u; first | ((refine (fun (_ : Kept s u) => ?_) ?_); (on_goal 1 => clear_value u); (on_goal 2 => subst u)) | ((refine (fun (_ : Kept1 s u) => ?_) ?_); (on_goal 1 => clear_value u); (on_goal 2 => subst u)) | ((refine (fun (_ : Kept2 s u) => ?_) ?_); (on_goal 1 => clear_value u); (on_goal 2 => subst u)) | clear_value u)
    | refine State.setFld_kept ?_
    | refine State.setRbit_kept ?_
    | refine State.setPortState_kept ?_
    | refine State.syncLatency_kept ?_
    | exact Kept1.fst (by assumption)
    | exact Kept2.snd (by assumption)
    | exact Kept1.of (by assumption) (by assumption)
    | fail_if_no_progress refine kept_mk ?_
    | split
    | fail_if_no_progress refine Kept1.mk ?_

theorem execNetEnable_kept {s t : State} {x0 : Fin 4} (h : Kept s t) : KeptO s (execNetEnable x0 t) := by
  unfold execNetEnable
  repeat' with_reducible first
    | assumption
    | refine KeptO.next ?_
    | refine State.ifLive_kept ?_ (fun _ _ => ?_)
    | refine State.netEnable_kept ?_
    | exact Kept1.fst (by assumption)
    | exact Kept2.snd (by assumption)
    | exact Kept1.of (by assumption) (by assumption)
    | fail_if_no_progress refine kept_mk ?_
    | fail_if_no_progress refine Kept1.mk ?_

theorem execNetLinkUp_kept {s t : State} {x0 : Fin 4} (h : Kept s t) : KeptO s (execNetLinkUp x0 t) := by
  unfold execNetLinkUp
  repeat' with_reducible first
    | assumption
    | (extract_lets +onlyGivenNames u; first | ((refine (fun (_ : Kept s u) => ?_) ?_); (on_goal 1 => clear_value u); (on_goal 2 => subst u)) | ((refine (fun (_ : Kept1 s u) => ?_) ?_); (on_goal 1 => clear_value u); (on_goal 2 => subst u)) | ((refine (fun (_ : Kept2 s u) => ?_) ?_); (on_goal 1 => clear_value u); (on_goal 2 => subst u)) | clear_value u)
    | refine KeptO.next ?_
    | refine State.doIf_kept ?_ (fun _ _ => ?_)
    | refine State.ifLive_kept ?_ (fun _ _ => ?_)
    | refine State.setPortState_kept ?_
    | refine State.setFld_kept ?_
    | refine State.setRbit_kept ?_
    | exact Kept1.fst (by assumption)
    | exact Kept2.snd (by assumption)
    | exact Kept1.of (by assumption) (by assumption)
    | fail_if_no_progress refine kept_mk ?_
    | fail_if_no_progress refine Kept1.mk ?_

theorem execNetLinkDown_kept {s t : State} {x0 : Fin 4} {x1 : Bool} {x2 : Bool} (h : Kept s t) : KeptO s (execNetLinkDown x0 x1 x2 t) := by
  unfold execNetLinkDown
  repeat' with_reducible first
    | assumption
    | (extract_lets +onlyGivenNames u; first | ((refine (fun (_ : Kept s u) => ?_) ?_); (on_goal 1 => clear_value u); (on_goal 2 => subst u)) | ((refine (fun (_ : Kept1 s u) => ?_) ?_); (on_goal 1 => clear_value u); (on_goal 2 => subst u)) | ((refine (fun (_ : Kept2 s u) => ?_) ?_); (on_goal 1 => clear_value u); (on_goal 2 => subst u)) | clear_value u)
    | refine KeptO.next ?_
    | refine State.doIf_kept ?_ (fun _ _ => ?_)
    | refine State.ifLive_kept ?_ (fun _ _ => ?_)
    | refine State.setPortState_kept ?_
    | refine State.setFld_kept ?_
    | refine State.bump_kept ?_
    | refine State.raise_kept ?_
    | exact Kept1.fst (by assumption)
    | exact Kept2.snd (by assumption)
    | exact Kept1.of (by assumption) (by assumption)
    | fail_if_no_progress refine kept_mk ?_
    | fail_if_no_progress refine Kept1.mk ?_

theorem State.setQueue_kept {s t : State} {x0 : Nat} {x1 : SQueue} (h : Kept s t) : Kept s (State.setQueue t x0 x1) := by
  unfold State.setQueue
  repeat' with_reducible first
    | assumption
    | (extract_lets +onlyGivenNames u; first | ((refine (fun (_ : Kept s u) => ?_) ?_); (on_goal 1 => clear_value u); (on_goal 2 => subst u)) | ((refine (fun (_ : Kept1 s u) => ?_) ?_); (on_goal 1 => clear_value u); (on_goal 2 => subst u)) | ((refine (fun (_ : Kept2 s u) => ?_) ?_); (on_goal 1 => clear_value u); (on_goal 2 => subst u)) | clear_value u)
    | refine State.setReg_kept ?_
    | refine State.setRegN_kept ?_
    | exact Kept1.fst (by assumption)
    | exact Kept2.snd (by assumption)
    | exact Kept1.of (by assumption) (by assumption)
    | fail_if_no_progress refine kept_mk ?_
    | fail_if_no_progress refine Kept1.mk ?_

theorem State.settleQueue_kept {s t : State} {x0 : Nat} (h : Kept s t) : Kept s (State.settleQueue t x0) := by
  unfold State.settleQueue
  repeat' with_reducible first
    | assumption
    | refine kept_ite (fun _ => ?_) (fun _ => ?_)
    | refine kept1_ite (fun _ => ?_) (fun _ => ?_)
    | (extract_lets +onlyGivenNames u; first | ((refine (fun (_ : Kept s u) => ?_) ?_); (on_goal 1 => clear_value u); (on_goal 2 => subst u)) | ((refine (fun (_ : Kept1 s u) => ?_) ?_); (on_goal 1 => clear_value u); (on_goal 2 => subst u)) | ((refine (fun (_ : Kept2 s u) => ?_) ?_); (on_goal 1 => clear_value u); (on_goal 2 => subst u)) | clear_value u)
    | refine State.setQueue_kept ?_
    | exact Kept1.fst (by assumption)
    | exact Kept2.snd (by assumption)
    | exact Kept1.of (by assumption) (by assumption)
    | fail_if_no_progress refine kept_mk ?_
    | split
    | fail_if_no_progress refine Kept1.mk ?_

theorem State.shaperStatus_kept {s t : State} (h : Kept s t) : Kept s (State.shaperStatus t) := by
  unfold State.shaperStatus
  repeat' with_reducible first
    | assumption
    | refine foldl_kept (fun _ _ _ => ?_) ?_
    | refine foldl_kept1 (fun _ _ _ => ?_) ?_
    | refine Kept1.fst (foldl_kept1 (fun _ _ _ => ?_) ?_)
    | refine State.setRegN_kept ?_
    | exact Kept1.fst (by assumption)
    | exact Kept2.snd (by assumption)
    | exact Kept1.of (by assumption) (by assumption)
    | fail_if_no_progress refine kept_mk ?_
    | fail_if_no_progress refine Kept1.mk ?_

theorem State.shqWrite_kept {s t : State} {x0 : Nat} {x1 : Bool} {x2 : Word} (h : Kept s t) : Kept s (State.shqWrite t x0 x1 x2) := by
  unfold State.shqWrite
  repeat' with_reducible first
    | assumption
    | refine kept_ite (fun _ => ?_) (fun _ => ?_)
    | refine kept1_ite (fun _ => ?_) (fun _ => ?_)
    | (extract_lets +onlyGivenNames u; first | ((refine (fun (_ : Kept s u) => ?_) ?_); (on_goal 1 => clear_value u); (on_goal 2 => subst u)) | ((refine (fun (_ : Kept1 s u) => ?_) ?_); (on_goal 1 => clear_value u); (on_goal 2 => subst u)) | ((refine (fun (_ : Kept2 s u) => ?_) ?_); (on_goal 1 => clear_value u); (on_goal 2 => subst u)) | clear_value u)
    | refine State.settleQueue_kept ?_
    | refine State.setRegN_kept ?_
    | refine State.setReg_kept ?_
    | refine State.setQueue_kept ?_
    | refine State.shaperStatus_kept ?_
    | exact Kept1.fst (by assumption)
    | exact Kept2.snd (by assumption)
    | exact Kept1.of (by assumption) (by assumption)
    | fail_if_no_progress refine kept_mk ?_
    | split
    | fail_if_no_progress refine Kept1.mk ?_

theorem execShqWrite_kept {s t : State} {x0 : Fin 256} {x1 : Bool} {x2 : Word} (h : Kept s t) : KeptO s (execShqWrite x0 x1 x2 t) := by
  unfold execShqWrite
  repeat' with_reducible first
    | assumption
    | refine kept_ite (fun _ => ?_) (fun _ => ?_)
    | refine kept1_ite (fun _ => ?_) (fun _ => ?_)
    | refine KeptO.next ?_
    | refine State.ifWritten_kept ?_ (fun _ _ => ?_)
    | refine State.shqWrite_kept ?_
    | exact Kept1.fst (by assumption)
    | exact Kept2.snd (by assumption)
    | exact Kept1.of (by assumption) (by assumption)
    | fail_if_no_progress refine kept_mk ?_
    | split
    | fail_if_no_progress refine Kept1.mk ?_

theorem State.queueDrop_kept {s t : State} {x0 : Nat} (h : Kept s t) : Kept s (State.queueDrop t x0) := by
  unfold State.queueDrop
  repeat' with_reducible first
    | assumption
    | refine kept_ite (fun _ => ?_) (fun _ => ?_)
    | refine kept1_ite (fun _ => ?_) (fun _ => ?_)
    | (extract_lets +onlyGivenNames u; first | ((refine (fun (_ : Kept s u) => ?_) ?_); (on_goal 1 => clear_value u); (on_goal 2 => subst u)) | ((refine (fun (_ : Kept1 s u) => ?_) ?_); (on_goal 1 => clear_value u); (on_goal 2 => subst u)) | ((refine (fun (_ : Kept2 s u) => ?_) ?_); (on_goal 1 => clear_value u); (on_goal 2 => subst u)) | clear_value u)
    | refine State.doIf_kept ?_ (fun _ _ => ?_)
    | refine State.setQueue_kept ?_
    | refine State.raise_kept ?_
    | exact Kept1.fst (by assumption)
    | exact Kept2.snd (by assumption)
    | exact Kept1.of (by assumption) (by assumption)
    | fail_if_no_progress refine kept_mk ?_
    | split
    | refine Kept1.of ?_ (by assumption)
    | fail_if_no_progress refine Kept1.mk ?_

theorem State.enqueue_kept {s t : State} {x0 : Nat} {x1 : QFrame} (h : Kept s t) : Kept1 s (State.enqueue t x0 x1) := by
  unfold State.enqueue
  repeat' with_reducible first
    | assumption
    | refine kept_ite (fun _ => ?_) (fun _ => ?_)
    | refine kept1_ite (fun _ => ?_) (fun _ => ?_)
    | (extract_lets +onlyGivenNames u; first | ((refine (fun (_ : Kept s u) => ?_) ?_); (on_goal 1 => clear_value u); (on_goal 2 => subst u)) | ((refine (fun (_ : Kept1 s u) => ?_) ?_); (on_goal 1 => clear_value u); (on_goal 2 => subst u)) | ((refine (fun (_ : Kept2 s u) => ?_) ?_); (on_goal 1 => clear_value u); (on_goal 2 => subst u)) | clear_value u)
    | refine State.settleQueue_kept ?_
    | refine State.queueDrop_kept ?_
    | refine State.setQueue_kept ?_
    | exact Kept1.fst (by assumption)
    | exact Kept2.snd (by assumption)
    | exact Kept1.of (by assumption) (by assumption)
    | fail_if_no_progress refine kept_mk ?_
    | split
    | fail_if_no_progress refine Kept1.mk ?_

theorem State.oversize_kept {s t : State} {x0 : Nat} (h : Kept s t) : Kept s (State.oversize t x0) := by
  unfold State.oversize
  repeat' with_reducible first
    | assumption
    | refine kept_ite (fun _ => ?_) (fun _ => ?_)
    | refine kept1_ite (fun _ => ?_) (fun _ => ?_)
    | (extract_lets +onlyGivenNames u; first | ((refine (fun (_ : Kept s u) => ?_) ?_); (on_goal 1 => clear_value u); (on_goal 2 => subst u)) | ((refine (fun (_ : Kept1 s u) => ?_) ?_); (on_goal 1 => clear_value u); (on_goal 2 => subst u)) | ((refine (fun (_ : Kept2 s u) => ?_) ?_); (on_goal 1 => clear_value u); (on_goal 2 => subst u)) | clear_value u)
    | refine State.doIf_kept ?_ (fun _ _ => ?_)
    | refine State.bump_kept ?_
    | refine State.setFlow_kept ?_
    | refine State.raise_kept ?_
    | exact Kept1.fst (by assumption)
    | exact Kept2.snd (by assumption)
    | exact Kept1.of (by assumption) (by assumption)
    | fail_if_no_progress refine kept_mk ?_
    | split
    | refine Kept1.of ?_ (by assumption)
    | fail_if_no_progress refine Kept1.mk ?_

theorem State.egressPacket_kept {s t : State} {x0 : Nat} {x1 : Nat} {x2 : Nat} {x3 : Nat} {x4 : Option Nat} (h : Kept s t) : Kept s (State.egressPacket t x0 x1 x2 x3 x4) := by
  unfold State.egressPacket
  repeat' with_reducible first
    | assumption
    | refine kept_ite (fun _ => ?_) (fun _ => ?_)
    | refine kept1_ite (fun _ => ?_) (fun _ => ?_)
    | (extract_lets +onlyGivenNames u; first | ((refine (fun (_ : Kept s u) => ?_) ?_); (on_goal 1 => clear_value u); (on_goal 2 => subst u)) | ((refine (fun (_ : Kept1 s u) => ?_) ?_); (on_goal 1 => clear_value u); (on_goal 2 => subst u)) | ((refine (fun (_ : Kept2 s u) => ?_) ?_); (on_goal 1 => clear_value u); (on_goal 2 => subst u)) | clear_value u)
    | refine State.forEach_kept ?_ (fun _ _ _ => ?_)
    | refine State.doIf_kept ?_ (fun _ _ => ?_)
    | refine State.bump_kept ?_
    | refine State.oversize_kept ?_
    | refine State.setFlow_kept ?_
    | refine State.settleQueue_kept ?_
    | refine State.queueDrop_kept ?_
    | refine State.enqueue_kept ?_
    | refine Kept1.fst (State.enqueue_kept ?_)
    | refine Kept1.of (State.enqueue_kept ?_) (by assumption)
    | refine State.emit_kept ?_
    | exact Kept1.fst (by assumption)
    | exact Kept2.snd (by assumption)
    | exact Kept1.of (by assumption) (by assumption)
    | fail_if_no_progress refine kept_mk ?_
    | split
    | refine Kept1.of ?_ (by assumption)
    | fail_if_no_progress refine Kept1.mk ?_

theorem State.egressRtp_kept {s t : State} {x0 : Nat} {x1 : Nat} {x2 : Nat} {x3 : Option Nat} (h : Kept s t) : Kept s (State.egressRtp t x0 x1 x2 x3) := by
  unfold State.egressRtp
  repeat' with_reducible first
    | assumption
    | refine kept_ite (fun _ => ?_) (fun _ => ?_)
    | refine kept1_ite (fun _ => ?_) (fun _ => ?_)
    | refine State.bump_kept ?_
    | refine State.egressPacket_kept ?_
    | exact Kept1.fst (by assumption)
    | exact Kept2.snd (by assumption)
    | exact Kept1.of (by assumption) (by assumption)
    | fail_if_no_progress refine kept_mk ?_
    | split
    | refine Kept1.of ?_ (by assumption)
    | fail_if_no_progress refine Kept1.mk ?_

theorem State.smtxDone_kept {s t : State} {x0 : Nat} {x1 : Bool} {x2 : Option Nat} (h : Kept s t) : Kept s (State.smtxDone t x0 x1 x2) := by
  unfold State.smtxDone
  repeat' with_reducible first
    | assumption
    | (extract_lets +onlyGivenNames u; first | ((refine (fun (_ : Kept s u) => ?_) ?_); (on_goal 1 => clear_value u); (on_goal 2 => subst u)) | ((refine (fun (_ : Kept1 s u) => ?_) ?_); (on_goal 1 => clear_value u); (on_goal 2 => subst u)) | ((refine (fun (_ : Kept2 s u) => ?_) ?_); (on_goal 1 => clear_value u); (on_goal 2 => subst u)) | clear_value u)
    | refine State.pmWrite_kept ?_
    | refine State.setRegN_kept ?_
    | refine State.blockCue_kept ?_
    | exact Kept1.fst (by assumption)
    | exact Kept2.snd (by assumption)
    | exact Kept1.of (by assumption) (by assumption)
    | fail_if_no_progress refine kept_mk ?_
    | split
    | refine Kept1.of ?_ (by assumption)
    | fail_if_no_progress refine Kept1.mk ?_

theorem State.smtxTake_kept {s t : State} {x0 : Nat} (h : Kept s t) : Kept s (State.smtxTake t x0) := by
  unfold State.smtxTake
  repeat' with_reducible first
    | assumption
    | refine kept_ite (fun _ => ?_) (fun _ => ?_)
    | refine kept1_ite (fun _ => ?_) (fun _ => ?_)
    | (extract_lets +onlyGivenNames u; first | ((refine (fun (_ : Kept s u) => ?_) ?_); (on_goal 1 => clear_value u); (on_goal 2 => subst u)) | ((refine (fun (_ : Kept1 s u) => ?_) ?_); (on_goal 1 => clear_value u); (on_goal 2 => subst u)) | ((refine (fun (_ : Kept2 s u) => ?_) ?_); (on_goal 1 => clear_value u); (on_goal 2 => subst u)) | clear_value u)
    | refine State.bump_kept ?_
    | refine State.smtxDone_kept ?_
    | refine State.enqueue_kept ?_
    | refine Kept1.fst (State.enqueue_kept ?_)
    | refine Kept1.of (State.enqueue_kept ?_) (by assumption)
    | exact Kept1.fst (by assumption)
    | exact Kept2.snd (by assumption)
    | exact Kept1.of (by assumption) (by assumption)
    | fail_if_no_progress refine kept_mk ?_
    | split
    | refine Kept1.of ?_ (by assumption)
    | fail_if_no_progress refine Kept1.mk ?_

theorem State.smtxTailWrite_kept {s t : State} {x0 : Word} (h : Kept s t) : Kept s (State.smtxTailWrite t x0) := by
  unfold State.smtxTailWrite
  repeat' with_reducible first
    | assumption
    | refine kept_ite (fun _ => ?_) (fun _ => ?_)
    | refine kept1_ite (fun _ => ?_) (fun _ => ?_)
    | (extract_lets +onlyGivenNames u; first | ((refine (fun (_ : Kept s u) => ?_) ?_); (on_goal 1 => clear_value u); (on_goal 2 => subst u)) | ((refine (fun (_ : Kept1 s u) => ?_) ?_); (on_goal 1 => clear_value u); (on_goal 2 => subst u)) | ((refine (fun (_ : Kept2 s u) => ?_) ?_); (on_goal 1 => clear_value u); (on_goal 2 => subst u)) | clear_value u)
    | refine State.forEach_kept ?_ (fun _ _ _ => ?_)
    | refine State.setRegN_kept ?_
    | refine State.smtxTake_kept ?_
    | exact Kept1.fst (by assumption)
    | exact Kept2.snd (by assumption)
    | exact Kept1.of (by assumption) (by assumption)
    | fail_if_no_progress refine kept_mk ?_
    | split
    | fail_if_no_progress refine Kept1.mk ?_

theorem State.sendControl_kept {s t : State} {x0 : Nat} {x1 : Nat} {x2 : Nat} {x3 : Nat} (h : Kept s t) : Kept s (State.sendControl t x0 x1 x2 x3) := by
  unfold State.sendControl
  repeat' with_reducible first
    | assumption
    | refine kept_ite (fun _ => ?_) (fun _ => ?_)
    | refine kept1_ite (fun _ => ?_) (fun _ => ?_)
    | (extract_lets +onlyGivenNames u; first | ((refine (fun (_ : Kept s u) => ?_) ?_); (on_goal 1 => clear_value u); (on_goal 2 => subst u)) | ((refine (fun (_ : Kept1 s u) => ?_) ?_); (on_goal 1 => clear_value u); (on_goal 2 => subst u)) | ((refine (fun (_ : Kept2 s u) => ?_) ?_); (on_goal 1 => clear_value u); (on_goal 2 => subst u)) | clear_value u)
    | refine State.emit_kept ?_
    | refine State.smtxDone_kept ?_
    | exact Kept1.fst (by assumption)
    | exact Kept2.snd (by assumption)
    | exact Kept1.of (by assumption) (by assumption)
    | fail_if_no_progress refine kept_mk ?_
    | split
    | refine Kept1.of ?_ (by assumption)
    | fail_if_no_progress refine Kept1.mk ?_

theorem State.frameBoundary_kept {s t : State} {x0 : Nat} (h : Kept s t) : Kept s (State.frameBoundary t x0) := by
  unfold State.frameBoundary
  repeat' with_reducible first
    | assumption
    | refine kept_ite (fun _ => ?_) (fun _ => ?_)
    | refine kept1_ite (fun _ => ?_) (fun _ => ?_)
    | (extract_lets +onlyGivenNames u; first | ((refine (fun (_ : Kept s u) => ?_) ?_); (on_goal 1 => clear_value u); (on_goal 2 => subst u)) | ((refine (fun (_ : Kept1 s u) => ?_) ?_); (on_goal 1 => clear_value u); (on_goal 2 => subst u)) | ((refine (fun (_ : Kept2 s u) => ?_) ?_); (on_goal 1 => clear_value u); (on_goal 2 => subst u)) | clear_value u)
    | refine State.forEach_kept ?_ (fun _ _ _ => ?_)
    | refine State.settleQueue_kept ?_
    | refine State.setQueue_kept ?_
    | refine State.bump_kept ?_
    | refine State.smtxDone_kept ?_
    | refine State.sendControl_kept ?_
    | refine State.emit_kept ?_
    | exact Kept1.fst (by assumption)
    | exact Kept2.snd (by assumption)
    | exact Kept1.of (by assumption) (by assumption)
    | fail_if_no_progress refine kept_mk ?_
    | split
    | refine Kept1.of ?_ (by assumption)
    | fail_if_no_progress refine Kept1.mk ?_

theorem execEgressFrameSend_kept {s t : State} {x0 : Fin 4} (h : Kept s t) : KeptO s (execEgressFrameSend x0 t) := by
  unfold execEgressFrameSend
  repeat' with_reducible first
    | assumption
    | refine KeptO.next ?_
    | refine State.ifLive_kept ?_ (fun _ _ => ?_)
    | refine State.frameBoundary_kept ?_
    | exact Kept1.fst (by assumption)
    | exact Kept2.snd (by assumption)
    | exact Kept1.of (by assumption) (by assumption)
    | fail_if_no_progress refine kept_mk ?_
    | fail_if_no_progress refine Kept1.mk ?_

theorem State.dropPortQueues_kept {s t : State} {x0 : Nat} (h : Kept s t) : Kept s (State.dropPortQueues t x0) := by
  unfold State.dropPortQueues
  repeat' with_reducible first
    | assumption
    | (extract_lets +onlyGivenNames u; first | ((refine (fun (_ : Kept s u) => ?_) ?_); (on_goal 1 => clear_value u); (on_goal 2 => subst u)) | ((refine (fun (_ : Kept1 s u) => ?_) ?_); (on_goal 1 => clear_value u); (on_goal 2 => subst u)) | ((refine (fun (_ : Kept2 s u) => ?_) ?_); (on_goal 1 => clear_value u); (on_goal 2 => subst u)) | clear_value u)
    | refine State.forEach_kept ?_ (fun _ _ _ => ?_)
    | refine State.bump_kept ?_
    | refine State.setQueue_kept ?_
    | refine State.smtxDone_kept ?_
    | exact Kept1.fst (by assumption)
    | exact Kept2.snd (by assumption)
    | exact Kept1.of (by assumption) (by assumption)
    | fail_if_no_progress refine kept_mk ?_
    | fail_if_no_progress refine Kept1.mk ?_

theorem State.netStop_kept {s t : State} {x0 : Nat} (h : Kept s t) : Kept s (State.netStop t x0) := by
  unfold State.netStop
  repeat' with_reducible first
    | assumption
    | refine State.dropPortQueues_kept ?_
    | refine State.setPortState_kept ?_
    | refine State.setFld_kept ?_
    | refine State.setRbit_kept ?_
    | exact Kept1.fst (by assumption)
    | exact Kept2.snd (by assumption)
    | exact Kept1.of (by assumption) (by assumption)
    | fail_if_no_progress refine kept_mk ?_
    | fail_if_no_progress refine Kept1.mk ?_

theorem execNetStop_kept {s t : State} {x0 : Fin 4} (h : Kept s t) : KeptO s (execNetStop x0 t) := by
  unfold execNetStop
  repeat' with_reducible first
    | assumption
    | refine KeptO.next ?_
    | refine State.ifLive_kept ?_ (fun _ _ => ?_)
    | refine State.netStop_kept ?_
    | exact Kept1.fst (by assumption)
    | exact Kept2.snd (by assumption)
    | exact Kept1.of (by assumption) (by assumption)
    | fail_if_no_progress refine kept_mk ?_
    | fail_if_no_progress refine Kept1.mk ?_

theorem State.netHalt_kept {s t : State} {x0 : Nat} (h : Kept s t) : Kept s (State.netHalt t x0) := by
  unfold State.netHalt
  repeat' with_reducible first
    | assumption
    | (extract_lets +onlyGivenNames u; first | ((refine (fun (_ : Kept s u) => ?_) ?_); (on_goal 1 => clear_value u); (on_goal 2 => subst u)) | ((refine (fun (_ : Kept1 s u) => ?_) ?_); (on_goal 1 => clear_value u); (on_goal 2 => subst u)) | ((refine (fun (_ : Kept2 s u) => ?_) ?_); (on_goal 1 => clear_value u); (on_goal 2 => subst u)) | clear_value u)
    | refine State.forEach_kept ?_ (fun _ _ _ => ?_)
    | refine State.setQueue_kept ?_
    | refine State.netStop_kept ?_
    | exact Kept1.fst (by assumption)
    | exact Kept2.snd (by assumption)
    | exact Kept1.of (by assumption) (by assumption)
    | fail_if_no_progress refine kept_mk ?_
    | fail_if_no_progress refine Kept1.mk ?_

theorem execNetHalt_kept {s t : State} {x0 : Fin 4} (h : Kept s t) : KeptO s (execNetHalt x0 t) := by
  unfold execNetHalt
  repeat' with_reducible first
    | assumption
    | refine KeptO.next ?_
    | refine State.ifLive_kept ?_ (fun _ _ => ?_)
    | refine State.netHalt_kept ?_
    | exact Kept1.fst (by assumption)
    | exact Kept2.snd (by assumption)
    | exact Kept1.of (by assumption) (by assumption)
    | fail_if_no_progress refine kept_mk ?_
    | fail_if_no_progress refine Kept1.mk ?_

theorem State.flowStat_kept {s t : State} {x0 : Nat} {x1 : Nat} (h : Kept s t) : Kept s (State.flowStat t x0 x1) := by
  unfold State.flowStat
  repeat' with_reducible first
    | assumption
    | refine State.setRegN_kept ?_
    | exact Kept1.fst (by assumption)
    | exact Kept2.snd (by assumption)
    | exact Kept1.of (by assumption) (by assumption)
    | fail_if_no_progress refine kept_mk ?_
    | fail_if_no_progress refine Kept1.mk ?_

theorem State.flowRead_kept {s t : State} {x0 : Nat} (h : Kept s t) : Kept s (State.flowRead t x0) := by
  unfold State.flowRead
  repeat' with_reducible first
    | assumption
    | refine State.forEach_kept ?_ (fun _ _ _ => ?_)
    | refine State.setRegN_kept ?_
    | refine State.flowStat_kept ?_
    | exact Kept1.fst (by assumption)
    | exact Kept2.snd (by assumption)
    | exact Kept1.of (by assumption) (by assumption)
    | fail_if_no_progress refine kept_mk ?_
    | fail_if_no_progress refine Kept1.mk ?_

theorem execFlowRead_kept {s t : State} {x0 : Fin 256} (h : Kept s t) : KeptO s (execFlowRead x0 t) := by
  unfold execFlowRead
  repeat' with_reducible first
    | assumption
    | refine KeptO.next ?_
    | refine State.ifLive_kept ?_ (fun _ _ => ?_)
    | refine State.flowRead_kept ?_
    | exact Kept1.fst (by assumption)
    | exact Kept2.snd (by assumption)
    | exact Kept1.of (by assumption) (by assumption)
    | fail_if_no_progress refine kept_mk ?_
    | fail_if_no_progress refine Kept1.mk ?_

theorem State.joinGroups_kept {s t : State} {x0 : Flow} (h : Kept s t) : Kept s (State.joinGroups t x0) := by
  unfold State.joinGroups
  repeat' with_reducible first
    | assumption
    | refine State.forEach_kept ?_ (fun _ _ _ => ?_)
    | refine State.emit_kept ?_
    | exact Kept1.fst (by assumption)
    | exact Kept2.snd (by assumption)
    | exact Kept1.of (by assumption) (by assumption)
    | fail_if_no_progress refine kept_mk ?_
    | fail_if_no_progress refine Kept1.mk ?_

theorem State.leaveGroups_kept {s t : State} {x0 : Flow} (h : Kept s t) : Kept s (State.leaveGroups t x0) := by
  unfold State.leaveGroups
  repeat' with_reducible first
    | assumption
    | refine State.forEach_kept ?_ (fun _ _ _ => ?_)
    | refine State.emit_kept ?_
    | exact Kept1.fst (by assumption)
    | exact Kept2.snd (by assumption)
    | exact Kept1.of (by assumption) (by assumption)
    | fail_if_no_progress refine kept_mk ?_
    | fail_if_no_progress refine Kept1.mk ?_

theorem State.flowWriteNew_kept {s t : State} {x0 : Nat} {x1 : List Nat} (h : Kept s t) : Kept1 s (State.flowWriteNew t x0 x1) := by
  unfold State.flowWriteNew
  repeat' with_reducible first
    | assumption
    | refine kept_ite (fun _ => ?_) (fun _ => ?_)
    | refine kept1_ite (fun _ => ?_) (fun _ => ?_)
    | (extract_lets +onlyGivenNames u; first | ((refine (fun (_ : Kept s u) => ?_) ?_); (on_goal 1 => clear_value u); (on_goal 2 => subst u)) | ((refine (fun (_ : Kept1 s u) => ?_) ?_); (on_goal 1 => clear_value u); (on_goal 2 => subst u)) | ((refine (fun (_ : Kept2 s u) => ?_) ?_); (on_goal 1 => clear_value u); (on_goal 2 => subst u)) | clear_value u)
    | refine State.flowStat_kept ?_
    | refine State.setFlow_kept ?_
    | refine State.joinGroups_kept ?_
    | exact Kept1.fst (by assumption)
    | exact Kept2.snd (by assumption)
    | exact Kept1.of (by assumption) (by assumption)
    | fail_if_no_progress refine kept_mk ?_
    | split
    | fail_if_no_progress refine Kept1.mk ?_

theorem execFlowWriteNew_kept {s t : State} {x0 : Fin 256} (h : Kept s t) : KeptO s (execFlowWriteNew x0 t) := by
  unfold execFlowWriteNew
  repeat' with_reducible first
    | assumption
    | refine KeptO.next ?_
    | refine State.ifLive_kept ?_ (fun _ _ => ?_)
    | refine State.flowWriteNew_kept ?_
    | refine Kept1.fst (State.flowWriteNew_kept ?_)
    | refine Kept1.of (State.flowWriteNew_kept ?_) (by assumption)
    | exact Kept1.fst (by assumption)
    | exact Kept2.snd (by assumption)
    | exact Kept1.of (by assumption) (by assumption)
    | fail_if_no_progress refine kept_mk ?_
    | fail_if_no_progress refine Kept1.mk ?_

theorem State.flowUpdate_kept {s t : State} {x0 : Nat} {x1 : List Nat} (h : Kept s t) : Kept1 s (State.flowUpdate t x0 x1) := by
  unfold State.flowUpdate
  repeat' with_reducible first
    | assumption
    | refine kept_ite (fun _ => ?_) (fun _ => ?_)
    | refine kept1_ite (fun _ => ?_) (fun _ => ?_)
    | (extract_lets +onlyGivenNames u; first | ((refine (fun (_ : Kept s u) => ?_) ?_); (on_goal 1 => clear_value u); (on_goal 2 => subst u)) | ((refine (fun (_ : Kept1 s u) => ?_) ?_); (on_goal 1 => clear_value u); (on_goal 2 => subst u)) | ((refine (fun (_ : Kept2 s u) => ?_) ?_); (on_goal 1 => clear_value u); (on_goal 2 => subst u)) | clear_value u)
    | refine State.flowStat_kept ?_
    | refine State.setFlow_kept ?_
    | exact Kept1.fst (by assumption)
    | exact Kept2.snd (by assumption)
    | exact Kept1.of (by assumption) (by assumption)
    | fail_if_no_progress refine kept_mk ?_
    | split
    | fail_if_no_progress refine Kept1.mk ?_

theorem execFlowUpdate_kept {s t : State} {x0 : Fin 256} (h : Kept s t) : KeptO s (execFlowUpdate x0 t) := by
  unfold execFlowUpdate
  repeat' with_reducible first
    | assumption
    | refine KeptO.next ?_
    | refine State.ifLive_kept ?_ (fun _ _ => ?_)
    | refine State.flowUpdate_kept ?_
    | refine Kept1.fst (State.flowUpdate_kept ?_)
    | refine Kept1.of (State.flowUpdate_kept ?_) (by assumption)
    | exact Kept1.fst (by assumption)
    | exact Kept2.snd (by assumption)
    | exact Kept1.of (by assumption) (by assumption)
    | fail_if_no_progress refine kept_mk ?_
    | fail_if_no_progress refine Kept1.mk ?_

theorem State.flowInvalidate_kept {s t : State} {x0 : Nat} (h : Kept s t) : Kept s (State.flowInvalidate t x0) := by
  unfold State.flowInvalidate
  repeat' with_reducible first
    | assumption
    | (extract_lets +onlyGivenNames u; first | ((refine (fun (_ : Kept s u) => ?_) ?_); (on_goal 1 => clear_value u); (on_goal 2 => subst u)) | ((refine (fun (_ : Kept1 s u) => ?_) ?_); (on_goal 1 => clear_value u); (on_goal 2 => subst u)) | ((refine (fun (_ : Kept2 s u) => ?_) ?_); (on_goal 1 => clear_value u); (on_goal 2 => subst u)) | clear_value u)
    | refine State.doIf_kept ?_ (fun _ _ => ?_)
    | refine State.setFlow_kept ?_
    | refine State.leaveGroups_kept ?_
    | refine State.flowStat_kept ?_
    | exact Kept1.fst (by assumption)
    | exact Kept2.snd (by assumption)
    | exact Kept1.of (by assumption) (by assumption)
    | fail_if_no_progress refine kept_mk ?_
    | fail_if_no_progress refine Kept1.mk ?_

theorem execFlowInvalidate_kept {s t : State} {x0 : Fin 256} (h : Kept s t) : KeptO s (execFlowInvalidate x0 t) := by
  unfold execFlowInvalidate
  repeat' with_reducible first
    | assumption
    | refine KeptO.next ?_
    | refine State.ifLive_kept ?_ (fun _ _ => ?_)
    | refine State.flowInvalidate_kept ?_
    | exact Kept1.fst (by assumption)
    | exact Kept2.snd (by assumption)
    | exact Kept1.of (by assumption) (by assumption)
    | fail_if_no_progress refine kept_mk ?_
    | fail_if_no_progress refine Kept1.mk ?_

end Sys2Proof.Machine
end

