-- ==== Sys2Proof/Laws/KeptFrames.lean ====
section
/-! SUPPORT. Every operation of Machine/Frames.lean keeps the waiting commands, the invariant and every programmed bit. -/

namespace Sys2Proof.Machine

set_option linter.unusedTactic false
set_option linter.unreachableTactic false

theorem State.setRefSlots_kept {s t : State} {x0 : Nat} {x1 : List RefSlot} (h : Kept s t) : Kept s (State.setRefSlots t x0 x1) := by
  unfold State.setRefSlots
  repeat' with_reducible first
    | assumption
    | exact Kept1.fst (by assumption)
    | exact Kept2.snd (by assumption)
    | exact Kept1.of (by assumption) (by assumption)
    | fail_if_no_progress refine kept_mk ?_
    | fail_if_no_progress refine Kept1.mk ?_

theorem State.refTouch_kept {s t : State} {x0 : Nat → Bool} {x1 : RefSlot} (h : Kept s t) : Kept s (State.refTouch t x0 x1) := by
  unfold State.refTouch
  repeat' with_reducible first
    | assumption
    | refine State.setRefSlots_kept ?_
    | exact Kept1.fst (by assumption)
    | exact Kept2.snd (by assumption)
    | exact Kept1.of (by assumption) (by assumption)
    | fail_if_no_progress refine kept_mk ?_
    | fail_if_no_progress refine Kept1.mk ?_

theorem State.refFill_kept {s t : State} {x0 : Nat → Bool} {x1 : Nat} {x2 : List Byte} (h : Kept s t) : Kept s (State.refFill t x0 x1 x2) := by
  unfold State.refFill
  repeat' with_reducible first
    | assumption
    | refine State.refTouch_kept ?_
    | exact Kept1.fst (by assumption)
    | exact Kept2.snd (by assumption)
    | exact Kept1.of (by assumption) (by assumption)
    | fail_if_no_progress refine kept_mk ?_
    | fail_if_no_progress refine Kept1.mk ?_

theorem State.refCount_kept {s t : State} {x0 : Bool} (h : Kept s t) : Kept s (State.refCount t x0) := by
  unfold State.refCount
  repeat' with_reducible first
    | assumption
    | refine kept_ite (fun _ => ?_) (fun _ => ?_)
    | refine kept1_ite (fun _ => ?_) (fun _ => ?_)
    | refine State.bump_kept ?_
    | exact Kept1.fst (by assumption)
    | exact Kept2.snd (by assumption)
    | exact Kept1.of (by assumption) (by assumption)
    | fail_if_no_progress refine kept_mk ?_
    | split
    | fail_if_no_progress refine Kept1.mk ?_

theorem State.refUpdate_kept {s t : State} {x0 : Nat} {x1 : Nat} (h : Kept s t) : Kept s (State.refUpdate t x0 x1) := by
  unfold State.refUpdate
  repeat' with_reducible first
    | assumption
    | refine kept_ite (fun _ => ?_) (fun _ => ?_)
    | refine kept1_ite (fun _ => ?_) (fun _ => ?_)
    | (extract_lets +onlyGivenNames u; first | ((refine (fun (_ : Kept s u) => ?_) ?_); (on_goal 1 => clear_value u); (on_goal 2 => subst u)) | ((refine (fun (_ : Kept1 s u) => ?_) ?_); (on_goal 1 => clear_value u); (on_goal 2 => subst u)) | ((refine (fun (_ : Kept2 s u) => ?_) ?_); (on_goal 1 => clear_value u); (on_goal 2 => subst u)) | ((refine (fun (_ : ∀ t, Kept s t → Kept s (u t)) => ?_) ?_); (on_goal 1 => clear_value u); (on_goal 2 => subst u)) | ((refine (fun (_ : ∀ t a, Kept s t → Kept s (u t a)) => ?_) ?_); (on_goal 1 => clear_value u); (on_goal 2 => subst u)) | ((refine (fun (_ : ∀ t a b, Kept s t → Kept s (u t a b)) => ?_) ?_); (on_goal 1 => clear_value u); (on_goal 2 => subst u)) | ((refine (fun (_ : ∀ t a b c, Kept s t → Kept s (u t a b c)) => ?_) ?_); (on_goal 1 => clear_value u); (on_goal 2 => subst u)) | ((refine (fun (_ : ∀ a t, Kept s t → Kept s (u a t)) => ?_) ?_); (on_goal 1 => clear_value u); (on_goal 2 => subst u)) | ((refine (fun (_ : ∀ a b t, Kept s t → Kept s (u a b t)) => ?_) ?_); (on_goal 1 => clear_value u); (on_goal 2 => subst u)) | ((refine (fun (_ : ∀ a b c t, Kept s t → Kept s (u a b c t)) => ?_) ?_); (on_goal 1 => clear_value u); (on_goal 2 => subst u)) | ((refine (fun (_ : ∀ a b c d t, Kept s t → Kept s (u a b c d t)) => ?_) ?_); (on_goal 1 => clear_value u); (on_goal 2 => subst u)) | clear_value u)
    | intro _ _ _ _ _ _
    | intro _ _ _ _ _
    | intro _ _ _ _
    | intro _ _ _
    | intro _ _
    | refine State.forEach_kept ?_ (fun _ _ _ => ?_)
    | refine State.setRefSlots_kept ?_
    | exact Kept1.fst (by assumption)
    | exact Kept2.snd (by assumption)
    | exact Kept1.of (by assumption) (by assumption)
    | fail_if_no_progress refine kept_mk ?_
    | split
    | fail_if_no_progress refine Kept1.mk ?_
    | apply_assumption

theorem State.dramWrite_kept {s t : State} {x0 : Nat} {x1 : List Byte} (h : Kept s t) : Kept s (State.dramWrite t x0 x1) := by
  unfold State.dramWrite
  repeat' with_reducible first
    | assumption
    | refine State.memWrite_kept ?_
    | refine State.refUpdate_kept ?_
    | exact Kept1.fst (by assumption)
    | exact Kept2.snd (by assumption)
    | exact Kept1.of (by assumption) (by assumption)
    | fail_if_no_progress refine kept_mk ?_
    | fail_if_no_progress refine Kept1.mk ?_

theorem State.devWrite_kept {s t : State} {x0 : Nat} {x1 : Nat} {x2 : List Byte} (h : Kept s t) : Kept s (State.devWrite t x0 x1 x2) := by
  unfold State.devWrite
  repeat' with_reducible first
    | assumption
    | (extract_lets +onlyGivenNames u; first | ((refine (fun (_ : Kept s u) => ?_) ?_); (on_goal 1 => clear_value u); (on_goal 2 => subst u)) | ((refine (fun (_ : Kept1 s u) => ?_) ?_); (on_goal 1 => clear_value u); (on_goal 2 => subst u)) | ((refine (fun (_ : Kept2 s u) => ?_) ?_); (on_goal 1 => clear_value u); (on_goal 2 => subst u)) | clear_value u)
    | refine State.forEach_kept ?_ (fun _ _ _ => ?_)
    | refine State.doIf_kept ?_ (fun _ _ => ?_)
    | refine State.dramWrite_kept ?_
    | refine State.fenceViolation_kept ?_
    | exact Kept1.fst (by assumption)
    | exact Kept2.snd (by assumption)
    | exact Kept1.of (by assumption) (by assumption)
    | fail_if_no_progress refine kept_mk ?_
    | split
    | refine Kept1.of ?_ (by assumption)
    | fail_if_no_progress refine Kept1.mk ?_

theorem State.hwWrite_kept {s t : State} {x0 : Nat} {x1 : List Byte} (h : Kept s t) : Kept s (State.hwWrite t x0 x1) := by
  unfold State.hwWrite
  repeat' with_reducible first
    | assumption
    | refine State.devWrite_kept ?_
    | exact Kept1.fst (by assumption)
    | exact Kept2.snd (by assumption)
    | exact Kept1.of (by assumption) (by assumption)
    | fail_if_no_progress refine kept_mk ?_
    | fail_if_no_progress refine Kept1.mk ?_

theorem State.setDram_kept {s t : State} {x0 : Nat} {x1 : DramCh} (h : Kept s t) : Kept s (State.setDram t x0 x1) := by
  unfold State.setDram
  repeat' with_reducible first
    | assumption
    | exact Kept1.fst (by assumption)
    | exact Kept2.snd (by assumption)
    | exact Kept1.of (by assumption) (by assumption)
    | fail_if_no_progress refine kept_mk ?_
    | fail_if_no_progress refine Kept1.mk ?_

theorem State.modDram_kept {s t : State} {x0 : Nat} {x1 : DramCh → DramCh} (h : Kept s t) : Kept s (State.modDram t x0 x1) := by
  unfold State.modDram
  repeat' with_reducible first
    | assumption
    | refine State.setDram_kept ?_
    | exact Kept1.fst (by assumption)
    | exact Kept2.snd (by assumption)
    | exact Kept1.of (by assumption) (by assumption)
    | fail_if_no_progress refine kept_mk ?_
    | fail_if_no_progress refine Kept1.mk ?_

theorem State.putBlock_kept {s t : State} {x0 : PicRef} {x1 : Nat} {x2 : Nat} {x3 : List Nat} (h : Kept s t) : Kept s (State.putBlock t x0 x1 x2 x3) := by
  unfold State.putBlock
  repeat' with_reducible first
    | assumption
    | (extract_lets +onlyGivenNames u; first | ((refine (fun (_ : Kept s u) => ?_) ?_); (on_goal 1 => clear_value u); (on_goal 2 => subst u)) | ((refine (fun (_ : Kept1 s u) => ?_) ?_); (on_goal 1 => clear_value u); (on_goal 2 => subst u)) | ((refine (fun (_ : Kept2 s u) => ?_) ?_); (on_goal 1 => clear_value u); (on_goal 2 => subst u)) | clear_value u)
    | refine State.hwWrite_kept ?_
    | refine State.modDram_kept ?_
    | exact Kept1.fst (by assumption)
    | exact Kept2.snd (by assumption)
    | exact Kept1.of (by assumption) (by assumption)
    | fail_if_no_progress refine kept_mk ?_
    | fail_if_no_progress refine Kept1.mk ?_

theorem State.putRect_kept {s t : State} {x0 : PicRef} {x1 : Nat} {x2 : Nat} {x3 : Nat} {x4 : Nat} {x5 : Nat} {x6 : Nat → Nat → Nat} (h : Kept s t) : Kept s (State.putRect t x0 x1 x2 x3 x4 x5 x6) := by
  unfold State.putRect
  repeat' with_reducible first
    | assumption
    | refine kept_ite (fun _ => ?_) (fun _ => ?_)
    | refine kept1_ite (fun _ => ?_) (fun _ => ?_)
    | (extract_lets +onlyGivenNames u; first | ((refine (fun (_ : Kept s u) => ?_) ?_); (on_goal 1 => clear_value u); (on_goal 2 => subst u)) | ((refine (fun (_ : Kept1 s u) => ?_) ?_); (on_goal 1 => clear_value u); (on_goal 2 => subst u)) | ((refine (fun (_ : Kept2 s u) => ?_) ?_); (on_goal 1 => clear_value u); (on_goal 2 => subst u)) | clear_value u)
    | refine State.forEach_kept ?_ (fun _ _ _ => ?_)
    | refine State.putBlock_kept ?_
    | exact Kept1.fst (by assumption)
    | exact Kept2.snd (by assumption)
    | exact Kept1.of (by assumption) (by assumption)
    | fail_if_no_progress refine kept_mk ?_
    | split
    | fail_if_no_progress refine Kept1.mk ?_

theorem State.putArea_kept {s t : State} {x0 : PicRef} {x1 : Nat} {x2 : Nat} {x3 : Nat} {x4 : Nat} {x5 : Nat → Nat → Nat → Nat} (h : Kept s t) : Kept s (State.putArea t x0 x1 x2 x3 x4 x5) := by
  unfold State.putArea
  repeat' with_reducible first
    | assumption
    | (extract_lets +onlyGivenNames u; first | ((refine (fun (_ : Kept s u) => ?_) ?_); (on_goal 1 => clear_value u); (on_goal 2 => subst u)) | ((refine (fun (_ : Kept1 s u) => ?_) ?_); (on_goal 1 => clear_value u); (on_goal 2 => subst u)) | ((refine (fun (_ : Kept2 s u) => ?_) ?_); (on_goal 1 => clear_value u); (on_goal 2 => subst u)) | clear_value u)
    | refine State.forEach_kept ?_ (fun _ _ _ => ?_)
    | refine State.putRect_kept ?_
    | exact Kept1.fst (by assumption)
    | exact Kept2.snd (by assumption)
    | exact Kept1.of (by assumption) (by assumption)
    | fail_if_no_progress refine kept_mk ?_
    | fail_if_no_progress refine Kept1.mk ?_

theorem State.setDpIn_kept {s t : State} {x0 : Nat} {x1 : DpIn} (h : Kept s t) : Kept s (State.setDpIn t x0 x1) := by
  unfold State.setDpIn
  repeat' with_reducible first
    | assumption
    | exact Kept1.fst (by assumption)
    | exact Kept2.snd (by assumption)
    | exact Kept1.of (by assumption) (by assumption)
    | fail_if_no_progress refine kept_mk ?_
    | fail_if_no_progress refine Kept1.mk ?_

theorem State.modDpIn_kept {s t : State} {x0 : Nat} {x1 : DpIn → DpIn} (h : Kept s t) : Kept s (State.modDpIn t x0 x1) := by
  unfold State.modDpIn
  repeat' with_reducible first
    | assumption
    | refine State.setDpIn_kept ?_
    | exact Kept1.fst (by assumption)
    | exact Kept2.snd (by assumption)
    | exact Kept1.of (by assumption) (by assumption)
    | fail_if_no_progress refine kept_mk ?_
    | fail_if_no_progress refine Kept1.mk ?_

end Sys2Proof.Machine
end

