-- ==== Sys2Proof/Laws/KeptFreshness.lean ====
section
/-! SUPPORT. Every operation of Machine/Freshness.lean keeps the waiting commands, the invariant and every programmed bit. -/

namespace Sys2Proof.Machine

set_option linter.unusedTactic false
set_option linter.unreachableTactic false

theorem State.storeCell_kept {s t : State} {x0 : Nat} {x1 : Nat} (h : Kept s t) : Kept s (State.storeCell t x0 x1) := by
  unfold State.storeCell
  repeat' with_reducible first
    | assumption
    | refine State.doIf_kept ?_ (fun _ _ => ?_)
    | refine State.hwWrite_kept ?_
    | exact Kept1.fst (by assumption)
    | exact Kept2.snd (by assumption)
    | exact Kept1.of (by assumption) (by assumption)
    | fail_if_no_progress refine kept_mk ?_
    | split
    | refine Kept1.of ?_ (by assumption)
    | fail_if_no_progress refine Kept1.mk ?_

theorem State.storeCells_kept {s t : State} {x0 : Nat} (h : Kept s t) : Kept s (State.storeCells t x0) := by
  unfold State.storeCells
  repeat' with_reducible first
    | assumption
    | refine kept_ite (fun _ => ?_) (fun _ => ?_)
    | refine kept1_ite (fun _ => ?_) (fun _ => ?_)
    | (extract_lets +onlyGivenNames u; first | ((refine (fun (_ : Kept s u) => ?_) ?_); (on_goal 1 => clear_value u); (on_goal 2 => subst u)) | ((refine (fun (_ : Kept1 s u) => ?_) ?_); (on_goal 1 => clear_value u); (on_goal 2 => subst u)) | ((refine (fun (_ : Kept2 s u) => ?_) ?_); (on_goal 1 => clear_value u); (on_goal 2 => subst u)) | clear_value u)
    | refine State.hwWrite_kept ?_
    | exact Kept1.fst (by assumption)
    | exact Kept2.snd (by assumption)
    | exact Kept1.of (by assumption) (by assumption)
    | fail_if_no_progress refine kept_mk ?_
    | split
    | refine Kept1.of ?_ (by assumption)
    | fail_if_no_progress refine Kept1.mk ?_

theorem State.putCell_kept {s t : State} {x0 : Nat} {x1 : Nat} {x2 : CellRec} (h : Kept s t) : Kept s (State.putCell t x0 x1 x2) := by
  unfold State.putCell
  repeat' with_reducible first
    | assumption
    | refine State.modCtx_kept ?_
    | refine State.storeCell_kept ?_
    | exact Kept1.fst (by assumption)
    | exact Kept2.snd (by assumption)
    | exact Kept1.of (by assumption) (by assumption)
    | fail_if_no_progress refine kept_mk ?_
    | fail_if_no_progress refine Kept1.mk ?_

theorem State.freshStatus_kept {s t : State} {x0 : Nat} {x1 : Bool} (h : Kept s t) : Kept s (State.freshStatus t x0 x1) := by
  unfold State.freshStatus
  repeat' with_reducible first
    | assumption
    | (extract_lets +onlyGivenNames u; first | ((refine (fun (_ : Kept s u) => ?_) ?_); (on_goal 1 => clear_value u); (on_goal 2 => subst u)) | ((refine (fun (_ : Kept1 s u) => ?_) ?_); (on_goal 1 => clear_value u); (on_goal 2 => subst u)) | ((refine (fun (_ : Kept2 s u) => ?_) ?_); (on_goal 1 => clear_value u); (on_goal 2 => subst u)) | clear_value u)
    | refine State.doIf_kept ?_ (fun _ _ => ?_)
    | refine State.storeCells_kept ?_
    | refine State.setRegN_kept ?_
    | exact Kept1.fst (by assumption)
    | exact Kept2.snd (by assumption)
    | exact Kept1.of (by assumption) (by assumption)
    | fail_if_no_progress refine kept_mk ?_
    | fail_if_no_progress refine Kept1.mk ?_

theorem State.showFresh_kept {s t : State} {x0 : Nat} (h : Kept s t) : Kept s (State.showFresh t x0) := by
  unfold State.showFresh
  repeat' with_reducible first
    | assumption
    | refine State.freshStatus_kept ?_
    | exact Kept1.fst (by assumption)
    | exact Kept2.snd (by assumption)
    | exact Kept1.of (by assumption) (by assumption)
    | fail_if_no_progress refine kept_mk ?_
    | fail_if_no_progress refine Kept1.mk ?_

theorem State.localLockLost_kept {s t : State} (h : Kept s t) : Kept s (State.localLockLost t) := by
  unfold State.localLockLost
  repeat' with_reducible first
    | assumption
    | refine State.forEach_kept ?_ (fun _ _ _ => ?_)
    | refine State.doIf_kept ?_ (fun _ _ => ?_)
    | refine State.modCtx_kept ?_
    | refine State.showFresh_kept ?_
    | exact Kept1.fst (by assumption)
    | exact Kept2.snd (by assumption)
    | exact Kept1.of (by assumption) (by assumption)
    | fail_if_no_progress refine kept_mk ?_
    | fail_if_no_progress refine Kept1.mk ?_

theorem State.localLockGained_kept {s t : State} (h : Kept s t) : Kept s (State.localLockGained t) := by
  unfold State.localLockGained
  repeat' with_reducible first
    | assumption
    | refine State.forEach_kept ?_ (fun _ _ _ => ?_)
    | refine State.doIf_kept ?_ (fun _ _ => ?_)
    | refine State.showFresh_kept ?_
    | exact Kept1.fst (by assumption)
    | exact Kept2.snd (by assumption)
    | exact Kept1.of (by assumption) (by assumption)
    | fail_if_no_progress refine kept_mk ?_
    | fail_if_no_progress refine Kept1.mk ?_

theorem State.setOutLocked_kept {s t : State} {x0 : Nat} {x1 : Bool} (h : Kept s t) : Kept s (State.setOutLocked t x0 x1) := by
  unfold State.setOutLocked
  repeat' with_reducible first
    | assumption
    | refine kept_ite (fun _ => ?_) (fun _ => ?_)
    | refine kept1_ite (fun _ => ?_) (fun _ => ?_)
    | (extract_lets +onlyGivenNames u; first | ((refine (fun (_ : Kept s u) => ?_) ?_); (on_goal 1 => clear_value u); (on_goal 2 => subst u)) | ((refine (fun (_ : Kept1 s u) => ?_) ?_); (on_goal 1 => clear_value u); (on_goal 2 => subst u)) | ((refine (fun (_ : Kept2 s u) => ?_) ?_); (on_goal 1 => clear_value u); (on_goal 2 => subst u)) | clear_value u)
    | refine State.setRbit_kept ?_
    | refine State.raise_kept ?_
    | exact Kept1.fst (by assumption)
    | exact Kept2.snd (by assumption)
    | exact Kept1.of (by assumption) (by assumption)
    | fail_if_no_progress refine kept_mk ?_
    | split
    | fail_if_no_progress refine Kept1.mk ?_

theorem State.followSheet_kept {s t : State} {x0 : Nat} {x1 : Bool} {x2 : Option (Option Nat)} (h : Kept s t) : Kept s (State.followSheet t x0 x1 x2) := by
  unfold State.followSheet
  repeat' with_reducible first
    | assumption
    | (extract_lets +onlyGivenNames u; first | ((refine (fun (_ : Kept s u) => ?_) ?_); (on_goal 1 => clear_value u); (on_goal 2 => subst u)) | ((refine (fun (_ : Kept1 s u) => ?_) ?_); (on_goal 1 => clear_value u); (on_goal 2 => subst u)) | ((refine (fun (_ : Kept2 s u) => ?_) ?_); (on_goal 1 => clear_value u); (on_goal 2 => subst u)) | clear_value u)
    | refine State.forEach_kept ?_ (fun _ _ _ => ?_)
    | refine State.doIf_kept ?_ (fun _ _ => ?_)
    | refine State.modCtx_kept ?_
    | refine State.setOutLocked_kept ?_
    | exact Kept1.fst (by assumption)
    | exact Kept2.snd (by assumption)
    | exact Kept1.of (by assumption) (by assumption)
    | fail_if_no_progress refine kept_mk ?_
    | fail_if_no_progress refine Kept1.mk ?_

theorem State.markCell_kept {s t : State} {x0 : Nat} {x1 : Nat} {x2 : Bool} (h : Kept s t) : Kept s (State.markCell t x0 x1 x2) := by
  unfold State.markCell
  repeat' with_reducible first
    | assumption
    | refine kept_ite (fun _ => ?_) (fun _ => ?_)
    | refine kept1_ite (fun _ => ?_) (fun _ => ?_)
    | (extract_lets +onlyGivenNames u; first | ((refine (fun (_ : Kept s u) => ?_) ?_); (on_goal 1 => clear_value u); (on_goal 2 => subst u)) | ((refine (fun (_ : Kept1 s u) => ?_) ?_); (on_goal 1 => clear_value u); (on_goal 2 => subst u)) | ((refine (fun (_ : Kept2 s u) => ?_) ?_); (on_goal 1 => clear_value u); (on_goal 2 => subst u)) | clear_value u)
    | refine State.putCell_kept ?_
    | refine State.placeholder_kept ?_
    | exact Kept1.fst (by assumption)
    | exact Kept2.snd (by assumption)
    | exact Kept1.of (by assumption) (by assumption)
    | fail_if_no_progress refine kept_mk ?_
    | split
    | refine Kept1.of ?_ (by assumption)
    | fail_if_no_progress refine Kept1.mk ?_

theorem State.markPlaceholder_kept {s t : State} {x0 : Nat} {x1 : Nat} (h : Kept s t) : Kept s (State.markPlaceholder t x0 x1) := by
  unfold State.markPlaceholder
  repeat' with_reducible first
    | assumption
    | refine State.putCell_kept ?_
    | refine State.placeholder_kept ?_
    | exact Kept1.fst (by assumption)
    | exact Kept2.snd (by assumption)
    | exact Kept1.of (by assumption) (by assumption)
    | fail_if_no_progress refine kept_mk ?_
    | fail_if_no_progress refine Kept1.mk ?_

theorem State.acceptEntry_kept {s t : State} {x0 : Nat} {x1 : Entry} {x2 : Int} {x3 : Bool} {x4 : Nat} (h : Kept s t) : Kept s (State.acceptEntry t x0 x1 x2 x3 x4) := by
  unfold State.acceptEntry
  repeat' with_reducible first
    | assumption
    | refine kept_ite (fun _ => ?_) (fun _ => ?_)
    | refine kept1_ite (fun _ => ?_) (fun _ => ?_)
    | (extract_lets +onlyGivenNames u; first | ((refine (fun (_ : Kept s u) => ?_) ?_); (on_goal 1 => clear_value u); (on_goal 2 => subst u)) | ((refine (fun (_ : Kept1 s u) => ?_) ?_); (on_goal 1 => clear_value u); (on_goal 2 => subst u)) | ((refine (fun (_ : Kept2 s u) => ?_) ?_); (on_goal 1 => clear_value u); (on_goal 2 => subst u)) | clear_value u)
    | refine State.doIf_kept ?_ (fun _ _ => ?_)
    | refine State.placeholder_kept ?_
    | refine State.putCell_kept ?_
    | refine State.bump_kept ?_
    | exact Kept1.fst (by assumption)
    | exact Kept2.snd (by assumption)
    | exact Kept1.of (by assumption) (by assumption)
    | fail_if_no_progress refine kept_mk ?_
    | split
    | fail_if_no_progress refine Kept1.mk ?_

theorem State.sheetLock_kept {s t : State} {x0 : Nat} {x1 : Bool} (h : Kept s t) : Kept s (State.sheetLock t x0 x1) := by
  unfold State.sheetLock
  repeat' with_reducible first
    | assumption
    | refine kept_ite (fun _ => ?_) (fun _ => ?_)
    | refine kept1_ite (fun _ => ?_) (fun _ => ?_)
    | refine State.modCtx_kept ?_
    | exact Kept1.fst (by assumption)
    | exact Kept2.snd (by assumption)
    | exact Kept1.of (by assumption) (by assumption)
    | fail_if_no_progress refine kept_mk ?_
    | split
    | fail_if_no_progress refine Kept1.mk ?_

theorem State.sheetSeq_kept {s t : State} {x0 : Nat} {x1 : Nat} (h : Kept s t) : Kept s (State.sheetSeq t x0 x1) := by
  unfold State.sheetSeq
  repeat' with_reducible first
    | assumption
    | refine kept_ite (fun _ => ?_) (fun _ => ?_)
    | refine kept1_ite (fun _ => ?_) (fun _ => ?_)
    | (extract_lets +onlyGivenNames u; first | ((refine (fun (_ : Kept s u) => ?_) ?_); (on_goal 1 => clear_value u); (on_goal 2 => subst u)) | ((refine (fun (_ : Kept1 s u) => ?_) ?_); (on_goal 1 => clear_value u); (on_goal 2 => subst u)) | ((refine (fun (_ : Kept2 s u) => ?_) ?_); (on_goal 1 => clear_value u); (on_goal 2 => subst u)) | clear_value u)
    | refine State.modCtx_kept ?_
    | refine State.bump_kept ?_
    | exact Kept1.fst (by assumption)
    | exact Kept2.snd (by assumption)
    | exact Kept1.of (by assumption) (by assumption)
    | fail_if_no_progress refine kept_mk ?_
    | split
    | refine Kept1.of ?_ (by assumption)
    | fail_if_no_progress refine Kept1.mk ?_

theorem evalEntry_kept {s : State} {c : Nat} {sh : Sheet2} {ar : Nat} {ms : Nat → CellMark} {crc : Nat → Nat} {a : CommitAcc}
    {e : Entry} (h : Kept s a.st) : Kept s (evalEntry c sh ar ms crc a e).st := by
  unfold evalEntry CommitAcc.note
  dsimp only
  repeat' with_reducible first
    | assumption
    | refine State.bump_kept ?_
    | refine State.modCtx_kept ?_
    | refine State.markCell_kept ?_
    | refine State.putCell_kept ?_
    | refine State.acceptEntry_kept ?_
    | split

theorem evalEntries_kept {s : State} {c : Nat} {sh : Sheet2} {ar : Nat} {ms : Nat → CellMark} {crc : Nat → Nat}
    (l : List Entry) : ∀ a : CommitAcc, Kept s a.st → Kept s (l.foldl (evalEntry c sh ar ms crc) a).st := by
  induction l with
  | nil => intro a h; exact h
  | cons e l ih => intro a h; exact ih _ (evalEntry_kept h)

theorem State.commit2_kept {s t : State} {c : Nat} {sh : Sheet2} {ar : Nat} {p : DecPicture} {crcs : List Nat}
    (h : Kept s t) : Kept1 s (t.commit2 c sh ar p crcs) := by
  unfold State.commit2
  extract_lets s2 acc s3
  have h2 : Kept s s2 := State.followSheet_kept (State.sheetLock_kept h)
  have k : Kept s acc.st := evalEntries_kept _ _ h2
  refine Kept1.mk (State.freshStatus_kept ?_)
  show Kept s (match acc.crcRej with
    | none => acc.st
    | some i => acc.st.raise c FaultKind.CELL_CRC_MISMATCH i)
  split
  · exact k
  · exact State.raise_kept k

theorem State.commit1_kept {s t : State} {x0 : Nat} {x1 : Bool} {x2 : Option Nat} {x3 : Nat} {x4 : DecPicture} (h : Kept s t) : Kept s (State.commit1 t x0 x1 x2 x3 x4) := by
  unfold State.commit1
  repeat' with_reducible first
    | assumption
    | refine kept_ite (fun _ => ?_) (fun _ => ?_)
    | refine kept1_ite (fun _ => ?_) (fun _ => ?_)
    | (extract_lets +onlyGivenNames u; first | ((refine (fun (_ : Kept s u) => ?_) ?_); (on_goal 1 => clear_value u); (on_goal 2 => subst u)) | ((refine (fun (_ : Kept1 s u) => ?_) ?_); (on_goal 1 => clear_value u); (on_goal 2 => subst u)) | ((refine (fun (_ : Kept2 s u) => ?_) ?_); (on_goal 1 => clear_value u); (on_goal 2 => subst u)) | ((refine (fun (_ : ∀ t, Kept s t → Kept s (u t)) => ?_) ?_); (on_goal 1 => clear_value u); (on_goal 2 => subst u)) | ((refine (fun (_ : ∀ t a, Kept s t → Kept s (u t a)) => ?_) ?_); (on_goal 1 => clear_value u); (on_goal 2 => subst u)) | ((refine (fun (_ : ∀ t a b, Kept s t → Kept s (u t a b)) => ?_) ?_); (on_goal 1 => clear_value u); (on_goal 2 => subst u)) | ((refine (fun (_ : ∀ t a b c, Kept s t → Kept s (u t a b c)) => ?_) ?_); (on_goal 1 => clear_value u); (on_goal 2 => subst u)) | ((refine (fun (_ : ∀ a t, Kept s t → Kept s (u a t)) => ?_) ?_); (on_goal 1 => clear_value u); (on_goal 2 => subst u)) | ((refine (fun (_ : ∀ a b t, Kept s t → Kept s (u a b t)) => ?_) ?_); (on_goal 1 => clear_value u); (on_goal 2 => subst u)) | ((refine (fun (_ : ∀ a b c t, Kept s t → Kept s (u a b c t)) => ?_) ?_); (on_goal 1 => clear_value u); (on_goal 2 => subst u)) | ((refine (fun (_ : ∀ a b c d t, Kept s t → Kept s (u a b c d t)) => ?_) ?_); (on_goal 1 => clear_value u); (on_goal 2 => subst u)) | clear_value u)
    | intro _ _ _ _ _ _
    | intro _ _ _ _ _
    | intro _ _ _ _
    | intro _ _ _
    | intro _ _
    | refine State.forEach_kept ?_ (fun _ _ _ => ?_)
    | refine State.doIf_kept ?_ (fun _ _ => ?_)
    | refine State.sheetLock_kept ?_
    | refine State.followSheet_kept ?_
    | refine State.placeholder_kept ?_
    | refine State.markCell_kept ?_
    | refine State.bump_kept ?_
    | refine State.putCell_kept ?_
    | refine State.freshStatus_kept ?_
    | exact Kept1.fst (by assumption)
    | exact Kept2.snd (by assumption)
    | exact Kept1.of (by assumption) (by assumption)
    | fail_if_no_progress refine kept_mk ?_
    | split
    | refine Kept1.of ?_ (by assumption)
    | fail_if_no_progress refine Kept1.mk ?_
    | apply_assumption

theorem State.writeMap_kept {s t : State} {x0 : Nat} {x1 : Nat} (h : Kept s t) : Kept s (State.writeMap t x0 x1) := by
  unfold State.writeMap
  repeat' with_reducible first
    | assumption
    | refine kept_ite (fun _ => ?_) (fun _ => ?_)
    | refine kept1_ite (fun _ => ?_) (fun _ => ?_)
    | (extract_lets +onlyGivenNames u; first | ((refine (fun (_ : Kept s u) => ?_) ?_); (on_goal 1 => clear_value u); (on_goal 2 => subst u)) | ((refine (fun (_ : Kept1 s u) => ?_) ?_); (on_goal 1 => clear_value u); (on_goal 2 => subst u)) | ((refine (fun (_ : Kept2 s u) => ?_) ?_); (on_goal 1 => clear_value u); (on_goal 2 => subst u)) | clear_value u)
    | refine State.doIf_kept ?_ (fun _ _ => ?_)
    | refine foldl_kept (fun _ _ _ => ?_) ?_
    | refine foldl_kept1 (fun _ _ _ => ?_) ?_
    | refine Kept1.fst (foldl_kept1 (fun _ _ _ => ?_) ?_)
    | refine State.hwWrite_kept ?_
    | refine State.modCtx_kept ?_
    | refine State.setRegN_kept ?_
    | refine State.bump_kept ?_
    | refine State.raise_kept ?_
    | exact Kept1.fst (by assumption)
    | exact Kept2.snd (by assumption)
    | exact Kept1.of (by assumption) (by assumption)
    | fail_if_no_progress refine kept_mk ?_
    | split
    | fail_if_no_progress refine Kept1.mk ?_

end Sys2Proof.Machine
end

