-- ==== Sys2Proof/Laws/KeptRateControl.lean ====
section
/-! SUPPORT. Every operation of Machine/RateControl.lean keeps the waiting commands, the invariant and every programmed bit. -/

namespace Sys2Proof.Machine

set_option linter.unusedTactic false
set_option linter.unreachableTactic false

theorem State.settleCtu_kept {s t : State} {x0 : Nat} {x1 : Nat} {x2 : CtuChoice} {x3 : Nat × Nat} {x4 : CtuCode} {x5 : Nat → Nat → Nat → Nat} (h : Kept s t) : Kept s (State.settleCtu t x0 x1 x2 x3 x4 x5) := by
  unfold State.settleCtu
  repeat' with_reducible first
    | assumption
    | refine kept_ite (fun _ => ?_) (fun _ => ?_)
    | refine kept1_ite (fun _ => ?_) (fun _ => ?_)
    | (extract_lets +onlyGivenNames u; first | ((refine (fun (_ : Kept s u) => ?_) ?_); (on_goal 1 => clear_value u); (on_goal 2 => subst u)) | ((refine (fun (_ : Kept1 s u) => ?_) ?_); (on_goal 1 => clear_value u); (on_goal 2 => subst u)) | ((refine (fun (_ : Kept2 s u) => ?_) ?_); (on_goal 1 => clear_value u); (on_goal 2 => subst u)) | clear_value u)
    | refine State.doIf_kept ?_ (fun _ _ => ?_)
    | refine State.modCtx_kept ?_
    | refine State.putCtu_kept ?_
    | refine State.raise_kept ?_
    | exact Kept1.fst (by assumption)
    | exact Kept2.snd (by assumption)
    | exact Kept1.of (by assumption) (by assumption)
    | fail_if_no_progress refine kept_mk ?_
    | split
    | refine Kept1.of ?_ (by assumption)
    | fail_if_no_progress refine Kept1.mk ?_

theorem State.noteSearch_kept {s t : State} {x0 : Nat} {x1 : List CodeTrial} (h : Kept s t) : Kept s (State.noteSearch t x0 x1) := by
  unfold State.noteSearch
  repeat' with_reducible first
    | assumption
    | refine State.forEach_kept ?_ (fun _ _ _ => ?_)
    | refine State.setFld_kept ?_
    | exact Kept1.fst (by assumption)
    | exact Kept2.snd (by assumption)
    | exact Kept1.of (by assumption) (by assumption)
    | fail_if_no_progress refine kept_mk ?_
    | fail_if_no_progress refine Kept1.mk ?_

theorem State.decideCtu_kept {s t : State} {x0 : Nat} {x1 : Nat} (h : Kept s t) : Kept s (State.decideCtu t x0 x1) := by
  unfold State.decideCtu
  repeat' with_reducible first
    | assumption
    | refine kept_ite (fun _ => ?_) (fun _ => ?_)
    | refine kept1_ite (fun _ => ?_) (fun _ => ?_)
    | (extract_lets +onlyGivenNames u; first | ((refine (fun (_ : Kept s u) => ?_) ?_); (on_goal 1 => clear_value u); (on_goal 2 => subst u)) | ((refine (fun (_ : Kept1 s u) => ?_) ?_); (on_goal 1 => clear_value u); (on_goal 2 => subst u)) | ((refine (fun (_ : Kept2 s u) => ?_) ?_); (on_goal 1 => clear_value u); (on_goal 2 => subst u)) | clear_value u)
    | refine State.modCtx_kept ?_
    | refine State.noteSearch_kept ?_
    | refine State.settleCtu_kept ?_
    | exact Kept1.fst (by assumption)
    | exact Kept2.snd (by assumption)
    | exact Kept1.of (by assumption) (by assumption)
    | fail_if_no_progress refine kept_mk ?_
    | split
    | refine Kept1.of ?_ (by assumption)
    | fail_if_no_progress refine Kept1.mk ?_

end Sys2Proof.Machine
end

