-- ==== Sys2Proof/Laws/KeptSession.lean ====
section
/-! SUPPORT. Every operation of Machine/Session.lean keeps the waiting commands, the invariant and every programmed bit. -/

namespace Sys2Proof.Machine

set_option linter.unusedTactic false
set_option linter.unreachableTactic false

theorem State.sessStatus_kept {s t : State} {x0 : Nat} (h : Kept s t) : Kept s (State.sessStatus t x0) := by
  unfold State.sessStatus
  repeat' with_reducible first
    | assumption
    | refine kept_ite (fun _ => ?_) (fun _ => ?_)
    | refine kept1_ite (fun _ => ?_) (fun _ => ?_)
    | (extract_lets +onlyGivenNames u; first | ((refine (fun (_ : Kept s u) => ?_) ?_); (on_goal 1 => clear_value u); (on_goal 2 => subst u)) | ((refine (fun (_ : Kept1 s u) => ?_) ?_); (on_goal 1 => clear_value u); (on_goal 2 => subst u)) | ((refine (fun (_ : Kept2 s u) => ?_) ?_); (on_goal 1 => clear_value u); (on_goal 2 => subst u)) | clear_value u)
    | refine foldl_kept (fun _ _ _ => ?_) ?_
    | refine foldl_kept1 (fun _ _ _ => ?_) ?_
    | refine Kept1.fst (foldl_kept1 (fun _ _ _ => ?_) ?_)
    | refine State.showFresh_kept ?_
    | refine State.setRegN_kept ?_
    | exact Kept1.fst (by assumption)
    | exact Kept2.snd (by assumption)
    | exact Kept1.of (by assumption) (by assumption)
    | fail_if_no_progress refine kept_mk ?_
    | split
    | fail_if_no_progress refine Kept1.mk ?_

theorem State.lastRefusal_kept {s t : State} {x0 : Nat} {x1 : Nat} {x2 : Bool} (h : Kept s t) : Kept s (State.lastRefusal t x0 x1 x2) := by
  unfold State.lastRefusal
  repeat' with_reducible first
    | assumption
    | refine State.setRegN_kept ?_
    | exact Kept1.fst (by assumption)
    | exact Kept2.snd (by assumption)
    | exact Kept1.of (by assumption) (by assumption)
    | fail_if_no_progress refine kept_mk ?_
    | fail_if_no_progress refine Kept1.mk ?_

theorem State.learnMac_kept {s t : State} {x0 : Nat} {x1 : Nat} {x2 : Nat} (h : Kept s t) : Kept s (State.learnMac t x0 x1 x2) := by
  unfold State.learnMac
  repeat' with_reducible first
    | assumption
    | exact Kept1.fst (by assumption)
    | exact Kept2.snd (by assumption)
    | exact Kept1.of (by assumption) (by assumption)
    | fail_if_no_progress refine kept_mk ?_
    | fail_if_no_progress refine Kept1.mk ?_

theorem State.putUdp_kept {s t : State} {x0 : Bool} {x1 : Nat} {x2 : Nat} {x3 : Nat} {x4 : Nat} {x5 : List Byte} (h : Kept s t) : Kept s (State.putUdp t x0 x1 x2 x3 x4 x5) := by
  unfold State.putUdp
  repeat' with_reducible first
    | assumption
    | refine State.emit_kept ?_
    | exact Kept1.fst (by assumption)
    | exact Kept2.snd (by assumption)
    | exact Kept1.of (by assumption) (by assumption)
    | fail_if_no_progress refine kept_mk ?_
    | fail_if_no_progress refine Kept1.mk ?_

theorem State.leaveUdp_kept {s t : State} {x0 : Nat} {x1 : Nat} {x2 : Nat} {x3 : Nat} {x4 : Nat} {x5 : List Byte} (h : Kept s t) : Kept s (State.leaveUdp t x0 x1 x2 x3 x4 x5) := by
  unfold State.leaveUdp
  repeat' with_reducible first
    | assumption
    | refine State.doIf_kept ?_ (fun _ _ => ?_)
    | refine State.putUdp_kept ?_
    | refine State.bump_kept ?_
    | exact Kept1.fst (by assumption)
    | exact Kept2.snd (by assumption)
    | exact Kept1.of (by assumption) (by assumption)
    | fail_if_no_progress refine kept_mk ?_
    | fail_if_no_progress refine Kept1.mk ?_

theorem State.noteSent_kept {s t : State} {x0 : Nat} {x1 : List Byte} (h : Kept s t) : Kept s (State.noteSent t x0 x1) := by
  unfold State.noteSent
  repeat' with_reducible first
    | assumption
    | refine kept_ite (fun _ => ?_) (fun _ => ?_)
    | refine kept1_ite (fun _ => ?_) (fun _ => ?_)
    | refine State.doIf_kept ?_ (fun _ _ => ?_)
    | refine State.modCtx_kept ?_
    | exact Kept1.fst (by assumption)
    | exact Kept2.snd (by assumption)
    | exact Kept1.of (by assumption) (by assumption)
    | fail_if_no_progress refine kept_mk ?_
    | split
    | fail_if_no_progress refine Kept1.mk ?_

theorem State.sendUdp_kept {s t : State} {x0 : Nat} {x1 : Nat} {x2 : Nat} {x3 : Nat} {x4 : List Byte} (h : Kept s t) : Kept s (State.sendUdp t x0 x1 x2 x3 x4) := by
  unfold State.sendUdp
  repeat' with_reducible first
    | assumption
    | (extract_lets +onlyGivenNames u; first | ((refine (fun (_ : Kept s u) => ?_) ?_); (on_goal 1 => clear_value u); (on_goal 2 => subst u)) | ((refine (fun (_ : Kept1 s u) => ?_) ?_); (on_goal 1 => clear_value u); (on_goal 2 => subst u)) | ((refine (fun (_ : Kept2 s u) => ?_) ?_); (on_goal 1 => clear_value u); (on_goal 2 => subst u)) | clear_value u)
    | refine State.doIf_kept ?_ (fun _ _ => ?_)
    | refine State.leaveUdp_kept ?_
    | refine State.emit_kept ?_
    | exact Kept1.fst (by assumption)
    | exact Kept2.snd (by assumption)
    | exact Kept1.of (by assumption) (by assumption)
    | fail_if_no_progress refine kept_mk ?_
    | split
    | refine Kept1.of ?_ (by assumption)
    | fail_if_no_progress refine Kept1.mk ?_

theorem State.sendDec_kept {s t : State} {x0 : Nat} {x1 : Nat} {x2 : Nat} {x3 : Nat} {x4 : List Byte} (h : Kept s t) : Kept s (State.sendDec t x0 x1 x2 x3 x4) := by
  unfold State.sendDec
  repeat' with_reducible first
    | assumption
    | refine kept_ite (fun _ => ?_) (fun _ => ?_)
    | refine kept1_ite (fun _ => ?_) (fun _ => ?_)
    | (extract_lets +onlyGivenNames u; first | ((refine (fun (_ : Kept s u) => ?_) ?_); (on_goal 1 => clear_value u); (on_goal 2 => subst u)) | ((refine (fun (_ : Kept1 s u) => ?_) ?_); (on_goal 1 => clear_value u); (on_goal 2 => subst u)) | ((refine (fun (_ : Kept2 s u) => ?_) ?_); (on_goal 1 => clear_value u); (on_goal 2 => subst u)) | clear_value u)
    | refine State.modCtx_kept ?_
    | refine State.sendUdp_kept ?_
    | exact Kept1.fst (by assumption)
    | exact Kept2.snd (by assumption)
    | exact Kept1.of (by assumption) (by assumption)
    | fail_if_no_progress refine kept_mk ?_
    | split
    | refine Kept1.of ?_ (by assumption)
    | fail_if_no_progress refine Kept1.mk ?_

theorem State.sendEnc_kept {s t : State} {x0 : Nat} {x1 : Nat} {x2 : Nat} {x3 : Nat} {x4 : EncSession} {x5 : List Byte} (h : Kept s t) : Kept s (State.sendEnc t x0 x1 x2 x3 x4 x5) := by
  unfold State.sendEnc
  repeat' with_reducible first
    | assumption
    | refine State.sendUdp_kept ?_
    | exact Kept1.fst (by assumption)
    | exact Kept2.snd (by assumption)
    | exact Kept1.of (by assumption) (by assumption)
    | fail_if_no_progress refine kept_mk ?_
    | fail_if_no_progress refine Kept1.mk ?_

theorem State.heard_kept {s t : State} {x0 : NetMsg} (h : Kept s t) : Kept s (State.heard t x0) := by
  unfold State.heard
  repeat' with_reducible first
    | assumption
    | refine State.learnMac_kept ?_
    | exact Kept1.fst (by assumption)
    | exact Kept2.snd (by assumption)
    | exact Kept1.of (by assumption) (by assumption)
    | fail_if_no_progress refine kept_mk ?_
    | fail_if_no_progress refine Kept1.mk ?_

theorem State.modEnc_kept {s t : State} {x0 : Nat} {x1 : Nat} {x2 : Nat} {x3 : EncSession → EncSession} (h : Kept s t) : Kept s (State.modEnc t x0 x1 x2 x3) := by
  unfold State.modEnc
  repeat' with_reducible first
    | assumption
    | refine kept_ite (fun _ => ?_) (fun _ => ?_)
    | refine kept1_ite (fun _ => ?_) (fun _ => ?_)
    | refine State.modCtx_kept ?_
    | exact Kept1.fst (by assumption)
    | exact Kept2.snd (by assumption)
    | exact Kept1.of (by assumption) (by assumption)
    | fail_if_no_progress refine kept_mk ?_
    | split
    | fail_if_no_progress refine Kept1.mk ?_

theorem State.dropEnc_kept {s t : State} {x0 : Nat} {x1 : Nat} {x2 : Nat} (h : Kept s t) : Kept s (State.dropEnc t x0 x1 x2) := by
  unfold State.dropEnc
  repeat' with_reducible first
    | assumption
    | refine State.modCtx_kept ?_
    | refine State.sessStatus_kept ?_
    | exact Kept1.fst (by assumption)
    | exact Kept2.snd (by assumption)
    | exact Kept1.of (by assumption) (by assumption)
    | fail_if_no_progress refine kept_mk ?_
    | fail_if_no_progress refine Kept1.mk ?_

theorem State.closeEnc_kept {s t : State} {x0 : Nat} {x1 : Nat} {x2 : Nat} (h : Kept s t) : Kept s (State.closeEnc t x0 x1 x2) := by
  unfold State.closeEnc
  repeat' with_reducible first
    | assumption
    | refine State.dropEnc_kept ?_
    | refine State.linkSession_kept ?_
    | exact Kept1.fst (by assumption)
    | exact Kept2.snd (by assumption)
    | exact Kept1.of (by assumption) (by assumption)
    | fail_if_no_progress refine kept_mk ?_
    | split
    | refine Kept1.of ?_ (by assumption)
    | fail_if_no_progress refine Kept1.mk ?_

theorem State.sendEncNext_kept {s t : State} {x0 : Nat} {x1 : Nat} {x2 : Nat} {x3 : Nat} {x4 : Nat} {x5 : List Byte} (h : Kept s t) : Kept s (State.sendEncNext t x0 x1 x2 x3 x4 x5) := by
  unfold State.sendEncNext
  repeat' with_reducible first
    | assumption
    | (extract_lets +onlyGivenNames u; first | ((refine (fun (_ : Kept s u) => ?_) ?_); (on_goal 1 => clear_value u); (on_goal 2 => subst u)) | ((refine (fun (_ : Kept1 s u) => ?_) ?_); (on_goal 1 => clear_value u); (on_goal 2 => subst u)) | ((refine (fun (_ : Kept2 s u) => ?_) ?_); (on_goal 1 => clear_value u); (on_goal 2 => subst u)) | clear_value u)
    | refine State.modEnc_kept ?_
    | refine State.sendEnc_kept ?_
    | exact Kept1.fst (by assumption)
    | exact Kept2.snd (by assumption)
    | exact Kept1.of (by assumption) (by assumption)
    | fail_if_no_progress refine kept_mk ?_
    | split
    | refine Kept1.of ?_ (by assumption)
    | fail_if_no_progress refine Kept1.mk ?_

theorem State.sendEncFrom_kept {s t : State} {x0 : Nat} {x1 : Nat} {x2 : Nat} {x3 : Nat} {x4 : Nat} {x5 : Nat} {x6 : List Byte} (h : Kept s t) : Kept s (State.sendEncFrom t x0 x1 x2 x3 x4 x5 x6) := by
  unfold State.sendEncFrom
  repeat' with_reducible first
    | assumption
    | (extract_lets +onlyGivenNames u; first | ((refine (fun (_ : Kept s u) => ?_) ?_); (on_goal 1 => clear_value u); (on_goal 2 => subst u)) | ((refine (fun (_ : Kept1 s u) => ?_) ?_); (on_goal 1 => clear_value u); (on_goal 2 => subst u)) | ((refine (fun (_ : Kept2 s u) => ?_) ?_); (on_goal 1 => clear_value u); (on_goal 2 => subst u)) | clear_value u)
    | refine State.modEnc_kept ?_
    | refine State.sendEnc_kept ?_
    | exact Kept1.fst (by assumption)
    | exact Kept2.snd (by assumption)
    | exact Kept1.of (by assumption) (by assumption)
    | fail_if_no_progress refine kept_mk ?_
    | split
    | refine Kept1.of ?_ (by assumption)
    | fail_if_no_progress refine Kept1.mk ?_

theorem State.sendHello_kept {s t : State} {x0 : Nat} {x1 : Bool} {x2 : Nat} (h : Kept s t) : Kept s (State.sendHello t x0 x1 x2) := by
  unfold State.sendHello
  repeat' with_reducible first
    | assumption
    | (extract_lets +onlyGivenNames u; first | ((refine (fun (_ : Kept s u) => ?_) ?_); (on_goal 1 => clear_value u); (on_goal 2 => subst u)) | ((refine (fun (_ : Kept1 s u) => ?_) ?_); (on_goal 1 => clear_value u); (on_goal 2 => subst u)) | ((refine (fun (_ : Kept2 s u) => ?_) ?_); (on_goal 1 => clear_value u); (on_goal 2 => subst u)) | clear_value u)
    | refine State.doIf_kept ?_ (fun _ _ => ?_)
    | refine State.modCtx_kept ?_
    | refine State.sendDec_kept ?_
    | refine State.sessStatus_kept ?_
    | exact Kept1.fst (by assumption)
    | exact Kept2.snd (by assumption)
    | exact Kept1.of (by assumption) (by assumption)
    | fail_if_no_progress refine kept_mk ?_
    | fail_if_no_progress refine Kept1.mk ?_

theorem State.setSess_kept {s t : State} {x0 : Nat} {x1 : SessState} (h : Kept s t) : Kept s (State.setSess t x0 x1) := by
  unfold State.setSess
  repeat' with_reducible first
    | assumption
    | refine State.modCtx_kept ?_
    | refine State.sessStatus_kept ?_
    | exact Kept1.fst (by assumption)
    | exact Kept2.snd (by assumption)
    | exact Kept1.of (by assumption) (by assumption)
    | fail_if_no_progress refine kept_mk ?_
    | fail_if_no_progress refine Kept1.mk ?_

theorem State.sendKeepalive_kept {s t : State} {x0 : Nat} (h : Kept s t) : Kept s (State.sendKeepalive t x0) := by
  unfold State.sendKeepalive
  repeat' with_reducible first
    | assumption
    | refine kept_ite (fun _ => ?_) (fun _ => ?_)
    | refine kept1_ite (fun _ => ?_) (fun _ => ?_)
    | (extract_lets +onlyGivenNames u; first | ((refine (fun (_ : Kept s u) => ?_) ?_); (on_goal 1 => clear_value u); (on_goal 2 => subst u)) | ((refine (fun (_ : Kept1 s u) => ?_) ?_); (on_goal 1 => clear_value u); (on_goal 2 => subst u)) | ((refine (fun (_ : Kept2 s u) => ?_) ?_); (on_goal 1 => clear_value u); (on_goal 2 => subst u)) | clear_value u)
    | refine State.sendDec_kept ?_
    | refine State.modCtx_kept ?_
    | exact Kept1.fst (by assumption)
    | exact Kept2.snd (by assumption)
    | exact Kept1.of (by assumption) (by assumption)
    | fail_if_no_progress refine kept_mk ?_
    | split
    | fail_if_no_progress refine Kept1.mk ?_

theorem State.sendRefreshReq_kept {s t : State} {x0 : Nat} {x1 : RefreshSet} {x2 : Option Await} (h : Kept s t) : Kept s (State.sendRefreshReq t x0 x1 x2) := by
  unfold State.sendRefreshReq
  repeat' with_reducible first
    | assumption
    | (extract_lets +onlyGivenNames u; first | ((refine (fun (_ : Kept s u) => ?_) ?_); (on_goal 1 => clear_value u); (on_goal 2 => subst u)) | ((refine (fun (_ : Kept1 s u) => ?_) ?_); (on_goal 1 => clear_value u); (on_goal 2 => subst u)) | ((refine (fun (_ : Kept2 s u) => ?_) ?_); (on_goal 1 => clear_value u); (on_goal 2 => subst u)) | clear_value u)
    | refine State.sendDec_kept ?_
    | refine State.modCtx_kept ?_
    | exact Kept1.fst (by assumption)
    | exact Kept2.snd (by assumption)
    | exact Kept1.of (by assumption) (by assumption)
    | fail_if_no_progress refine kept_mk ?_
    | fail_if_no_progress refine Kept1.mk ?_

theorem State.flushRefresh_kept {s t : State} {x0 : Nat} (h : Kept s t) : Kept s (State.flushRefresh t x0) := by
  unfold State.flushRefresh
  repeat' with_reducible first
    | assumption
    | (extract_lets +onlyGivenNames u; first | ((refine (fun (_ : Kept s u) => ?_) ?_); (on_goal 1 => clear_value u); (on_goal 2 => subst u)) | ((refine (fun (_ : Kept1 s u) => ?_) ?_); (on_goal 1 => clear_value u); (on_goal 2 => subst u)) | ((refine (fun (_ : Kept2 s u) => ?_) ?_); (on_goal 1 => clear_value u); (on_goal 2 => subst u)) | clear_value u)
    | refine State.doIf_kept ?_ (fun _ _ => ?_)
    | refine State.sendRefreshReq_kept ?_
    | exact Kept1.fst (by assumption)
    | exact Kept2.snd (by assumption)
    | exact Kept1.of (by assumption) (by assumption)
    | fail_if_no_progress refine kept_mk ?_
    | fail_if_no_progress refine Kept1.mk ?_

theorem State.wantRefresh_kept {s t : State} {x0 : Nat} {x1 : RefreshSet} (h : Kept s t) : Kept s (State.wantRefresh t x0 x1) := by
  unfold State.wantRefresh
  repeat' with_reducible first
    | assumption
    | refine kept_ite (fun _ => ?_) (fun _ => ?_)
    | refine kept1_ite (fun _ => ?_) (fun _ => ?_)
    | (extract_lets +onlyGivenNames u; first | ((refine (fun (_ : Kept s u) => ?_) ?_); (on_goal 1 => clear_value u); (on_goal 2 => subst u)) | ((refine (fun (_ : Kept1 s u) => ?_) ?_); (on_goal 1 => clear_value u); (on_goal 2 => subst u)) | ((refine (fun (_ : Kept2 s u) => ?_) ?_); (on_goal 1 => clear_value u); (on_goal 2 => subst u)) | clear_value u)
    | refine State.modCtx_kept ?_
    | refine State.flushRefresh_kept ?_
    | exact Kept1.fst (by assumption)
    | exact Kept2.snd (by assumption)
    | exact Kept1.of (by assumption) (by assumption)
    | fail_if_no_progress refine kept_mk ?_
    | split
    | fail_if_no_progress refine Kept1.mk ?_

theorem State.sendDecUpdate_kept {s t : State} {x0 : Nat} {x1 : Option Await} (h : Kept s t) : Kept s (State.sendDecUpdate t x0 x1) := by
  unfold State.sendDecUpdate
  repeat' with_reducible first
    | assumption
    | (extract_lets +onlyGivenNames u; first | ((refine (fun (_ : Kept s u) => ?_) ?_); (on_goal 1 => clear_value u); (on_goal 2 => subst u)) | ((refine (fun (_ : Kept1 s u) => ?_) ?_); (on_goal 1 => clear_value u); (on_goal 2 => subst u)) | ((refine (fun (_ : Kept2 s u) => ?_) ?_); (on_goal 1 => clear_value u); (on_goal 2 => subst u)) | clear_value u)
    | refine State.sendDec_kept ?_
    | refine State.modCtx_kept ?_
    | exact Kept1.fst (by assumption)
    | exact Kept2.snd (by assumption)
    | exact Kept1.of (by assumption) (by assumption)
    | fail_if_no_progress refine kept_mk ?_
    | fail_if_no_progress refine Kept1.mk ?_

theorem State.sendEncUpdate_kept {s t : State} {x0 : Nat} {x1 : Nat} {x2 : Nat} {x3 : Option Await} (h : Kept s t) : Kept s (State.sendEncUpdate t x0 x1 x2 x3) := by
  unfold State.sendEncUpdate
  repeat' with_reducible first
    | assumption
    | (extract_lets +onlyGivenNames u; first | ((refine (fun (_ : Kept s u) => ?_) ?_); (on_goal 1 => clear_value u); (on_goal 2 => subst u)) | ((refine (fun (_ : Kept1 s u) => ?_) ?_); (on_goal 1 => clear_value u); (on_goal 2 => subst u)) | ((refine (fun (_ : Kept2 s u) => ?_) ?_); (on_goal 1 => clear_value u); (on_goal 2 => subst u)) | clear_value u)
    | refine State.sendEncNext_kept ?_
    | refine State.modEnc_kept ?_
    | exact Kept1.fst (by assumption)
    | exact Kept2.snd (by assumption)
    | exact Kept1.of (by assumption) (by assumption)
    | fail_if_no_progress refine kept_mk ?_
    | fail_if_no_progress refine Kept1.mk ?_

theorem State.updateAllEnc_kept {s t : State} {x0 : Nat} (h : Kept s t) : Kept s (State.updateAllEnc t x0) := by
  unfold State.updateAllEnc
  repeat' with_reducible first
    | assumption
    | refine State.forEach_kept ?_ (fun _ _ _ => ?_)
    | refine State.sendEncUpdate_kept ?_
    | exact Kept1.fst (by assumption)
    | exact Kept2.snd (by assumption)
    | exact Kept1.of (by assumption) (by assumption)
    | fail_if_no_progress refine kept_mk ?_
    | fail_if_no_progress refine Kept1.mk ?_

theorem State.sessionLost_kept {s t : State} {x0 : Nat} (h : Kept s t) : Kept s (State.sessionLost t x0) := by
  unfold State.sessionLost
  repeat' with_reducible first
    | assumption
    | refine State.raise_kept ?_
    | refine State.bump_kept ?_
    | refine State.sendHello_kept ?_
    | exact Kept1.fst (by assumption)
    | exact Kept2.snd (by assumption)
    | exact Kept1.of (by assumption) (by assumption)
    | fail_if_no_progress refine kept_mk ?_
    | fail_if_no_progress refine Kept1.mk ?_

theorem State.sendDecBye_kept {s t : State} {x0 : Nat} {x1 : Nat} (h : Kept s t) : Kept s (State.sendDecBye t x0 x1) := by
  unfold State.sendDecBye
  repeat' with_reducible first
    | assumption
    | refine kept_ite (fun _ => ?_) (fun _ => ?_)
    | refine kept1_ite (fun _ => ?_) (fun _ => ?_)
    | (extract_lets +onlyGivenNames u; first | ((refine (fun (_ : Kept s u) => ?_) ?_); (on_goal 1 => clear_value u); (on_goal 2 => subst u)) | ((refine (fun (_ : Kept1 s u) => ?_) ?_); (on_goal 1 => clear_value u); (on_goal 2 => subst u)) | ((refine (fun (_ : Kept2 s u) => ?_) ?_); (on_goal 1 => clear_value u); (on_goal 2 => subst u)) | clear_value u)
    | refine State.sendDec_kept ?_
    | exact Kept1.fst (by assumption)
    | exact Kept2.snd (by assumption)
    | exact Kept1.of (by assumption) (by assumption)
    | fail_if_no_progress refine kept_mk ?_
    | split
    | fail_if_no_progress refine Kept1.mk ?_

theorem State.byeAll_kept {s t : State} {x0 : Nat} {x1 : Nat} (h : Kept s t) : Kept s (State.byeAll t x0 x1) := by
  unfold State.byeAll
  repeat' with_reducible first
    | assumption
    | (extract_lets +onlyGivenNames u; first | ((refine (fun (_ : Kept s u) => ?_) ?_); (on_goal 1 => clear_value u); (on_goal 2 => subst u)) | ((refine (fun (_ : Kept1 s u) => ?_) ?_); (on_goal 1 => clear_value u); (on_goal 2 => subst u)) | ((refine (fun (_ : Kept2 s u) => ?_) ?_); (on_goal 1 => clear_value u); (on_goal 2 => subst u)) | clear_value u)
    | refine State.forEach_kept ?_ (fun _ _ _ => ?_)
    | refine State.sendEncNext_kept ?_
    | refine State.linkSession_kept ?_
    | refine State.modCtx_kept ?_
    | refine State.sessStatus_kept ?_
    | exact Kept1.fst (by assumption)
    | exact Kept2.snd (by assumption)
    | exact Kept1.of (by assumption) (by assumption)
    | fail_if_no_progress refine kept_mk ?_
    | fail_if_no_progress refine Kept1.mk ?_

theorem State.sessSync_kept {s t : State} {x0 : Nat} (h : Kept s t) : Kept s (State.sessSync t x0) := by
  unfold State.sessSync
  repeat' with_reducible first
    | assumption
    | refine kept_ite (fun _ => ?_) (fun _ => ?_)
    | refine kept1_ite (fun _ => ?_) (fun _ => ?_)
    | (extract_lets +onlyGivenNames u; first | ((refine (fun (_ : Kept s u) => ?_) ?_); (on_goal 1 => clear_value u); (on_goal 2 => subst u)) | ((refine (fun (_ : Kept1 s u) => ?_) ?_); (on_goal 1 => clear_value u); (on_goal 2 => subst u)) | ((refine (fun (_ : Kept2 s u) => ?_) ?_); (on_goal 1 => clear_value u); (on_goal 2 => subst u)) | clear_value u)
    | refine State.doIf_kept ?_ (fun _ _ => ?_)
    | refine State.byeAll_kept ?_
    | refine State.sessStatus_kept ?_
    | refine State.modCtx_kept ?_
    | refine State.sendHello_kept ?_
    | refine State.setSess_kept ?_
    | refine State.sendDecBye_kept ?_
    | exact Kept1.fst (by assumption)
    | exact Kept2.snd (by assumption)
    | exact Kept1.of (by assumption) (by assumption)
    | fail_if_no_progress refine kept_mk ?_
    | split
    | fail_if_no_progress refine Kept1.mk ?_

theorem State.streamPacket_kept {s t : State} {x0 : Nat} {x1 : Nat} {x2 : Nat} {x3 : Nat} (h : Kept s t) : Kept s (State.streamPacket t x0 x1 x2 x3) := by
  unfold State.streamPacket
  repeat' with_reducible first
    | assumption
    | refine kept_ite (fun _ => ?_) (fun _ => ?_)
    | refine kept1_ite (fun _ => ?_) (fun _ => ?_)
    | (extract_lets +onlyGivenNames u; first | ((refine (fun (_ : Kept s u) => ?_) ?_); (on_goal 1 => clear_value u); (on_goal 2 => subst u)) | ((refine (fun (_ : Kept1 s u) => ?_) ?_); (on_goal 1 => clear_value u); (on_goal 2 => subst u)) | ((refine (fun (_ : Kept2 s u) => ?_) ?_); (on_goal 1 => clear_value u); (on_goal 2 => subst u)) | clear_value u)
    | refine State.modCtx_kept ?_
    | refine State.sendHello_kept ?_
    | refine State.sendDecBye_kept ?_
    | exact Kept1.fst (by assumption)
    | exact Kept2.snd (by assumption)
    | exact Kept1.of (by assumption) (by assumption)
    | fail_if_no_progress refine kept_mk ?_
    | split
    | fail_if_no_progress refine Kept1.mk ?_

theorem State.dropMsg_kept {s t : State} {x0 : Option Nat} (h : Kept s t) : Kept s (State.dropMsg t x0) := by
  unfold State.dropMsg
  repeat' with_reducible first
    | assumption
    | refine State.bump_kept ?_
    | exact Kept1.fst (by assumption)
    | exact Kept2.snd (by assumption)
    | exact Kept1.of (by assumption) (by assumption)
    | fail_if_no_progress refine kept_mk ?_
    | split
    | refine Kept1.of ?_ (by assumption)
    | fail_if_no_progress refine Kept1.mk ?_

theorem State.judgeEnc_kept {s t : State} {x0 : NetMsg} {x1 : Nat} (h : Kept s t) : Kept2 s (State.judgeEnc t x0 x1) := by
  unfold State.judgeEnc
  repeat' with_reducible first
    | assumption
    | refine kept_ite (fun _ => ?_) (fun _ => ?_)
    | refine kept1_ite (fun _ => ?_) (fun _ => ?_)
    | refine kept2_ite (fun _ => ?_) (fun _ => ?_)
    | (extract_lets +onlyGivenNames u; first | ((refine (fun (_ : Kept s u) => ?_) ?_); (on_goal 1 => clear_value u); (on_goal 2 => subst u)) | ((refine (fun (_ : Kept1 s u) => ?_) ?_); (on_goal 1 => clear_value u); (on_goal 2 => subst u)) | ((refine (fun (_ : Kept2 s u) => ?_) ?_); (on_goal 1 => clear_value u); (on_goal 2 => subst u)) | clear_value u)
    | refine State.dropMsg_kept ?_
    | refine State.heard_kept ?_
    | refine State.modEnc_kept ?_
    | refine State.bump_kept ?_
    | exact Kept1.fst (by assumption)
    | exact Kept2.snd (by assumption)
    | exact Kept1.of (by assumption) (by assumption)
    | fail_if_no_progress refine kept_mk ?_
    | split
    | refine Kept2.mk ?_
    | refine Kept1.of ?_ (by assumption)
    | fail_if_no_progress refine Kept1.mk ?_

theorem State.judgeDec_kept {s t : State} {x0 : NetMsg} {x1 : Nat} (h : Kept s t) : Kept2 s (State.judgeDec t x0 x1) := by
  unfold State.judgeDec
  repeat' with_reducible first
    | assumption
    | refine kept_ite (fun _ => ?_) (fun _ => ?_)
    | refine kept1_ite (fun _ => ?_) (fun _ => ?_)
    | refine kept2_ite (fun _ => ?_) (fun _ => ?_)
    | (extract_lets +onlyGivenNames u; first | ((refine (fun (_ : Kept s u) => ?_) ?_); (on_goal 1 => clear_value u); (on_goal 2 => subst u)) | ((refine (fun (_ : Kept1 s u) => ?_) ?_); (on_goal 1 => clear_value u); (on_goal 2 => subst u)) | ((refine (fun (_ : Kept2 s u) => ?_) ?_); (on_goal 1 => clear_value u); (on_goal 2 => subst u)) | clear_value u)
    | refine State.dropMsg_kept ?_
    | refine State.heard_kept ?_
    | exact Kept1.fst (by assumption)
    | exact Kept2.snd (by assumption)
    | exact Kept1.of (by assumption) (by assumption)
    | fail_if_no_progress refine kept_mk ?_
    | split
    | refine Kept2.mk ?_
    | refine Kept1.of ?_ (by assumption)
    | fail_if_no_progress refine Kept1.mk ?_

theorem State.acceptDec_kept {s t : State} {x0 : Nat} {x1 : NetMsg} {x2 : Bool} (h : Kept s t) : Kept s (State.acceptDec t x0 x1 x2) := by
  unfold State.acceptDec
  repeat' with_reducible first
    | assumption
    | refine kept_ite (fun _ => ?_) (fun _ => ?_)
    | refine kept1_ite (fun _ => ?_) (fun _ => ?_)
    | refine State.modCtx_kept ?_
    | refine State.bump_kept ?_
    | exact Kept1.fst (by assumption)
    | exact Kept2.snd (by assumption)
    | exact Kept1.of (by assumption) (by assumption)
    | fail_if_no_progress refine kept_mk ?_
    | split
    | fail_if_no_progress refine Kept1.mk ?_

theorem State.helloAt_kept {s t : State} {x0 : NetMsg} (h : Kept s t) : Kept s (State.helloAt t x0) := by
  unfold State.helloAt
  repeat' with_reducible first
    | assumption
    | refine kept_ite (fun _ => ?_) (fun _ => ?_)
    | refine kept1_ite (fun _ => ?_) (fun _ => ?_)
    | (extract_lets +onlyGivenNames u; first | ((refine (fun (_ : Kept s u) => ?_) ?_); (on_goal 1 => clear_value u); (on_goal 2 => subst u)) | ((refine (fun (_ : Kept1 s u) => ?_) ?_); (on_goal 1 => clear_value u); (on_goal 2 => subst u)) | ((refine (fun (_ : Kept2 s u) => ?_) ?_); (on_goal 1 => clear_value u); (on_goal 2 => subst u)) | ((refine (fun (_ : ∀ t, Kept s t → Kept s (u t)) => ?_) ?_); (on_goal 1 => clear_value u); (on_goal 2 => subst u)) | ((refine (fun (_ : ∀ t a, Kept s t → Kept s (u t a)) => ?_) ?_); (on_goal 1 => clear_value u); (on_goal 2 => subst u)) | ((refine (fun (_ : ∀ t a b, Kept s t → Kept s (u t a b)) => ?_) ?_); (on_goal 1 => clear_value u); (on_goal 2 => subst u)) | ((refine (fun (_ : ∀ t a b c, Kept s t → Kept s (u t a b c)) => ?_) ?_); (on_goal 1 => clear_value u); (on_goal 2 => subst u)) | ((refine (fun (_ : ∀ a t, Kept s t → Kept s (u a t)) => ?_) ?_); (on_goal 1 => clear_value u); (on_goal 2 => subst u)) | ((refine (fun (_ : ∀ a b t, Kept s t → Kept s (u a b t)) => ?_) ?_); (on_goal 1 => clear_value u); (on_goal 2 => subst u)) | ((refine (fun (_ : ∀ a b c t, Kept s t → Kept s (u a b c t)) => ?_) ?_); (on_goal 1 => clear_value u); (on_goal 2 => subst u)) | ((refine (fun (_ : ∀ a b c d t, Kept s t → Kept s (u a b c d t)) => ?_) ?_); (on_goal 1 => clear_value u); (on_goal 2 => subst u)) | clear_value u)
    | intro _ _ _ _ _ _
    | intro _ _ _ _ _
    | intro _ _ _ _
    | intro _ _ _
    | intro _ _
    | refine State.ifLive_kept ?_ (fun _ _ => ?_)
    | refine State.dropMsg_kept ?_
    | refine State.heard_kept ?_
    | refine State.dropEnc_kept ?_
    | refine State.linkSession_kept ?_
    | refine State.putUdp_kept ?_
    | refine State.bump_kept ?_
    | refine State.sendUdp_kept ?_
    | refine State.lastRefusal_kept ?_
    | refine State.modCtx_kept ?_
    | refine State.sendEnc_kept ?_
    | refine State.sessStatus_kept ?_
    | exact Kept1.fst (by assumption)
    | exact Kept2.snd (by assumption)
    | exact Kept1.of (by assumption) (by assumption)
    | fail_if_no_progress refine kept_mk ?_
    | split
    | refine Kept1.of ?_ (by assumption)
    | fail_if_no_progress refine Kept1.mk ?_
    | apply_assumption

theorem execHelloRx_kept {s t : State} {x0 : List NetMsg} (h : Kept s t) : KeptO s (execHelloRx x0 t) := by
  unfold execHelloRx
  repeat' with_reducible first
    | assumption
    | refine KeptO.next ?_
    | refine State.forEach_kept ?_ (fun _ _ _ => ?_)
    | refine State.helloAt_kept ?_
    | exact Kept1.fst (by assumption)
    | exact Kept2.snd (by assumption)
    | exact Kept1.of (by assumption) (by assumption)
    | fail_if_no_progress refine kept_mk ?_
    | fail_if_no_progress refine Kept1.mk ?_

theorem execHelloAckRx_kept {s t : State} {x0 : NetMsg} (h : Kept s t) : KeptO s (execHelloAckRx x0 t) := by
  unfold execHelloAckRx
  repeat' with_reducible first
    | assumption
    | refine kept_ite (fun _ => ?_) (fun _ => ?_)
    | refine kept1_ite (fun _ => ?_) (fun _ => ?_)
    | (extract_lets +onlyGivenNames u; first | ((refine (fun (_ : Kept s u) => ?_) ?_); (on_goal 1 => clear_value u); (on_goal 2 => subst u)) | ((refine (fun (_ : Kept1 s u) => ?_) ?_); (on_goal 1 => clear_value u); (on_goal 2 => subst u)) | ((refine (fun (_ : Kept2 s u) => ?_) ?_); (on_goal 1 => clear_value u); (on_goal 2 => subst u)) | clear_value u)
    | refine KeptO.next ?_
    | refine State.doIf_kept ?_ (fun _ _ => ?_)
    | refine State.ifLive_kept ?_ (fun _ _ => ?_)
    | refine State.judgeDec_kept ?_
    | refine Kept2.snd (State.judgeDec_kept ?_)
    | refine Kept2.of (State.judgeDec_kept ?_) (by assumption)
    | refine State.acceptDec_kept ?_
    | refine State.modCtx_kept ?_
    | refine State.setRegN_kept ?_
    | refine State.sendKeepalive_kept ?_
    | refine State.sessStatus_kept ?_
    | refine State.wantRefresh_kept ?_
    | exact Kept1.fst (by assumption)
    | exact Kept2.snd (by assumption)
    | exact Kept1.of (by assumption) (by assumption)
    | fail_if_no_progress refine kept_mk ?_
    | split
    | refine Kept1.of ?_ (by assumption)
    | fail_if_no_progress refine Kept1.mk ?_

theorem execRefuseRx_kept {s t : State} {x0 : NetMsg} (h : Kept s t) : KeptO s (execRefuseRx x0 t) := by
  unfold execRefuseRx
  repeat' with_reducible first
    | assumption
    | refine kept_ite (fun _ => ?_) (fun _ => ?_)
    | refine kept1_ite (fun _ => ?_) (fun _ => ?_)
    | (extract_lets +onlyGivenNames u; first | ((refine (fun (_ : Kept s u) => ?_) ?_); (on_goal 1 => clear_value u); (on_goal 2 => subst u)) | ((refine (fun (_ : Kept1 s u) => ?_) ?_); (on_goal 1 => clear_value u); (on_goal 2 => subst u)) | ((refine (fun (_ : Kept2 s u) => ?_) ?_); (on_goal 1 => clear_value u); (on_goal 2 => subst u)) | clear_value u)
    | refine KeptO.next ?_
    | refine State.ifLive_kept ?_ (fun _ _ => ?_)
    | refine State.judgeDec_kept ?_
    | refine Kept2.snd (State.judgeDec_kept ?_)
    | refine Kept2.of (State.judgeDec_kept ?_) (by assumption)
    | refine State.acceptDec_kept ?_
    | refine State.raise_kept ?_
    | refine State.lastRefusal_kept ?_
    | refine State.setSess_kept ?_
    | exact Kept1.fst (by assumption)
    | exact Kept2.snd (by assumption)
    | exact Kept1.of (by assumption) (by assumption)
    | fail_if_no_progress refine kept_mk ?_
    | split
    | refine Kept1.of ?_ (by assumption)
    | fail_if_no_progress refine Kept1.mk ?_

theorem execKeepaliveAckRx_kept {s t : State} {x0 : NetMsg} (h : Kept s t) : KeptO s (execKeepaliveAckRx x0 t) := by
  unfold execKeepaliveAckRx
  repeat' with_reducible first
    | assumption
    | refine kept_ite (fun _ => ?_) (fun _ => ?_)
    | refine kept1_ite (fun _ => ?_) (fun _ => ?_)
    | (extract_lets +onlyGivenNames u; first | ((refine (fun (_ : Kept s u) => ?_) ?_); (on_goal 1 => clear_value u); (on_goal 2 => subst u)) | ((refine (fun (_ : Kept1 s u) => ?_) ?_); (on_goal 1 => clear_value u); (on_goal 2 => subst u)) | ((refine (fun (_ : Kept2 s u) => ?_) ?_); (on_goal 1 => clear_value u); (on_goal 2 => subst u)) | clear_value u)
    | refine KeptO.next ?_
    | refine State.ifLive_kept ?_ (fun _ _ => ?_)
    | refine State.judgeDec_kept ?_
    | refine Kept2.snd (State.judgeDec_kept ?_)
    | refine Kept2.of (State.judgeDec_kept ?_) (by assumption)
    | refine State.acceptDec_kept ?_
    | refine State.modCtx_kept ?_
    | refine State.setReg_kept ?_
    | exact Kept1.fst (by assumption)
    | exact Kept2.snd (by assumption)
    | exact Kept1.of (by assumption) (by assumption)
    | fail_if_no_progress refine kept_mk ?_
    | split
    | refine Kept1.of ?_ (by assumption)
    | fail_if_no_progress refine Kept1.mk ?_

theorem execRefreshAckRx_kept {s t : State} {x0 : NetMsg} (h : Kept s t) : KeptO s (execRefreshAckRx x0 t) := by
  unfold execRefreshAckRx
  repeat' with_reducible first
    | assumption
    | refine KeptO.next ?_
    | refine State.ifLive_kept ?_ (fun _ _ => ?_)
    | refine State.judgeDec_kept ?_
    | refine Kept2.snd (State.judgeDec_kept ?_)
    | refine Kept2.of (State.judgeDec_kept ?_) (by assumption)
    | refine State.acceptDec_kept ?_
    | refine State.modCtx_kept ?_
    | exact Kept1.fst (by assumption)
    | exact Kept2.snd (by assumption)
    | exact Kept1.of (by assumption) (by assumption)
    | fail_if_no_progress refine kept_mk ?_
    | split
    | refine Kept1.of ?_ (by assumption)
    | fail_if_no_progress refine Kept1.mk ?_

theorem execKeepaliveRx_kept {s t : State} {x0 : NetMsg} (h : Kept s t) : KeptO s (execKeepaliveRx x0 t) := by
  unfold execKeepaliveRx
  repeat' with_reducible first
    | assumption
    | refine kept_ite (fun _ => ?_) (fun _ => ?_)
    | refine kept1_ite (fun _ => ?_) (fun _ => ?_)
    | (extract_lets +onlyGivenNames u; first | ((refine (fun (_ : Kept s u) => ?_) ?_); (on_goal 1 => clear_value u); (on_goal 2 => subst u)) | ((refine (fun (_ : Kept1 s u) => ?_) ?_); (on_goal 1 => clear_value u); (on_goal 2 => subst u)) | ((refine (fun (_ : Kept2 s u) => ?_) ?_); (on_goal 1 => clear_value u); (on_goal 2 => subst u)) | clear_value u)
    | refine KeptO.next ?_
    | refine State.ifLive_kept ?_ (fun _ _ => ?_)
    | refine State.judgeEnc_kept ?_
    | refine Kept2.snd (State.judgeEnc_kept ?_)
    | refine Kept2.of (State.judgeEnc_kept ?_) (by assumption)
    | refine State.modEnc_kept ?_
    | refine State.sendEncNext_kept ?_
    | refine State.sessStatus_kept ?_
    | exact Kept1.fst (by assumption)
    | exact Kept2.snd (by assumption)
    | exact Kept1.of (by assumption) (by assumption)
    | fail_if_no_progress refine kept_mk ?_
    | split
    | refine Kept1.of ?_ (by assumption)
    | fail_if_no_progress refine Kept1.mk ?_

theorem execRefreshReqRx_kept {s t : State} {x0 : NetMsg} (h : Kept s t) : KeptO s (execRefreshReqRx x0 t) := by
  unfold execRefreshReqRx
  repeat' with_reducible first
    | assumption
    | refine kept_ite (fun _ => ?_) (fun _ => ?_)
    | refine kept1_ite (fun _ => ?_) (fun _ => ?_)
    | (extract_lets +onlyGivenNames u; first | ((refine (fun (_ : Kept s u) => ?_) ?_); (on_goal 1 => clear_value u); (on_goal 2 => subst u)) | ((refine (fun (_ : Kept1 s u) => ?_) ?_); (on_goal 1 => clear_value u); (on_goal 2 => subst u)) | ((refine (fun (_ : Kept2 s u) => ?_) ?_); (on_goal 1 => clear_value u); (on_goal 2 => subst u)) | clear_value u)
    | refine KeptO.next ?_
    | refine State.ifLive_kept ?_ (fun _ _ => ?_)
    | refine State.judgeEnc_kept ?_
    | refine Kept2.snd (State.judgeEnc_kept ?_)
    | refine Kept2.of (State.judgeEnc_kept ?_) (by assumption)
    | refine State.modCtx_kept ?_
    | refine State.bump_kept ?_
    | exact Kept1.fst (by assumption)
    | exact Kept2.snd (by assumption)
    | exact Kept1.of (by assumption) (by assumption)
    | fail_if_no_progress refine kept_mk ?_
    | split
    | refine Kept1.of ?_ (by assumption)
    | fail_if_no_progress refine Kept1.mk ?_

theorem State.updateAtEnc_kept {s t : State} {x0 : Nat} {x1 : EncSession} {x2 : NetMsg} (h : Kept s t) : Kept s (State.updateAtEnc t x0 x1 x2) := by
  unfold State.updateAtEnc
  repeat' with_reducible first
    | assumption
    | refine kept_ite (fun _ => ?_) (fun _ => ?_)
    | refine kept1_ite (fun _ => ?_) (fun _ => ?_)
    | (extract_lets +onlyGivenNames u; first | ((refine (fun (_ : Kept s u) => ?_) ?_); (on_goal 1 => clear_value u); (on_goal 2 => subst u)) | ((refine (fun (_ : Kept1 s u) => ?_) ?_); (on_goal 1 => clear_value u); (on_goal 2 => subst u)) | ((refine (fun (_ : Kept2 s u) => ?_) ?_); (on_goal 1 => clear_value u); (on_goal 2 => subst u)) | clear_value u)
    | refine State.doIf_kept ?_ (fun _ _ => ?_)
    | refine State.modEnc_kept ?_
    | refine State.linkSession_kept ?_
    | refine State.lastRefusal_kept ?_
    | refine State.sendEncNext_kept ?_
    | refine State.sessStatus_kept ?_
    | exact Kept1.fst (by assumption)
    | exact Kept2.snd (by assumption)
    | exact Kept1.of (by assumption) (by assumption)
    | fail_if_no_progress refine kept_mk ?_
    | split
    | fail_if_no_progress refine Kept1.mk ?_

theorem State.updateAtDec_kept {s t : State} {x0 : Nat} {x1 : NetMsg} (h : Kept s t) : Kept s (State.updateAtDec t x0 x1) := by
  unfold State.updateAtDec
  repeat' with_reducible first
    | assumption
    | (extract_lets +onlyGivenNames u; first | ((refine (fun (_ : Kept s u) => ?_) ?_); (on_goal 1 => clear_value u); (on_goal 2 => subst u)) | ((refine (fun (_ : Kept1 s u) => ?_) ?_); (on_goal 1 => clear_value u); (on_goal 2 => subst u)) | ((refine (fun (_ : Kept2 s u) => ?_) ?_); (on_goal 1 => clear_value u); (on_goal 2 => subst u)) | clear_value u)
    | refine State.acceptDec_kept ?_
    | refine State.setRegN_kept ?_
    | refine State.sendDec_kept ?_
    | exact Kept1.fst (by assumption)
    | exact Kept2.snd (by assumption)
    | exact Kept1.of (by assumption) (by assumption)
    | fail_if_no_progress refine kept_mk ?_
    | fail_if_no_progress refine Kept1.mk ?_

theorem execUpdateRx_kept {s t : State} {x0 : NetMsg} (h : Kept s t) : KeptO s (execUpdateRx x0 t) := by
  unfold execUpdateRx
  repeat' with_reducible first
    | assumption
    | refine kept_ite (fun _ => ?_) (fun _ => ?_)
    | refine kept1_ite (fun _ => ?_) (fun _ => ?_)
    | refine KeptO.next ?_
    | refine State.doIf_kept ?_ (fun _ _ => ?_)
    | refine State.ifLive_kept ?_ (fun _ _ => ?_)
    | refine State.judgeEnc_kept ?_
    | refine Kept2.snd (State.judgeEnc_kept ?_)
    | refine Kept2.of (State.judgeEnc_kept ?_) (by assumption)
    | refine State.updateAtEnc_kept ?_
    | refine State.judgeDec_kept ?_
    | refine Kept2.snd (State.judgeDec_kept ?_)
    | refine Kept2.of (State.judgeDec_kept ?_) (by assumption)
    | refine State.updateAtDec_kept ?_
    | exact Kept1.fst (by assumption)
    | exact Kept2.snd (by assumption)
    | exact Kept1.of (by assumption) (by assumption)
    | fail_if_no_progress refine kept_mk ?_
    | split
    | refine Kept1.of ?_ (by assumption)
    | fail_if_no_progress refine Kept1.mk ?_

theorem execUpdateAckRx_kept {s t : State} {x0 : NetMsg} (h : Kept s t) : KeptO s (execUpdateAckRx x0 t) := by
  unfold execUpdateAckRx
  repeat' with_reducible first
    | assumption
    | refine kept_ite (fun _ => ?_) (fun _ => ?_)
    | refine kept1_ite (fun _ => ?_) (fun _ => ?_)
    | (extract_lets +onlyGivenNames u; first | ((refine (fun (_ : Kept s u) => ?_) ?_); (on_goal 1 => clear_value u); (on_goal 2 => subst u)) | ((refine (fun (_ : Kept1 s u) => ?_) ?_); (on_goal 1 => clear_value u); (on_goal 2 => subst u)) | ((refine (fun (_ : Kept2 s u) => ?_) ?_); (on_goal 1 => clear_value u); (on_goal 2 => subst u)) | clear_value u)
    | refine KeptO.next ?_
    | refine State.doIf_kept ?_ (fun _ _ => ?_)
    | refine State.ifLive_kept ?_ (fun _ _ => ?_)
    | refine State.judgeEnc_kept ?_
    | refine Kept2.snd (State.judgeEnc_kept ?_)
    | refine Kept2.of (State.judgeEnc_kept ?_) (by assumption)
    | refine State.modEnc_kept ?_
    | refine State.lastRefusal_kept ?_
    | refine State.judgeDec_kept ?_
    | refine Kept2.snd (State.judgeDec_kept ?_)
    | refine Kept2.of (State.judgeDec_kept ?_) (by assumption)
    | refine State.acceptDec_kept ?_
    | refine State.modCtx_kept ?_
    | exact Kept1.fst (by assumption)
    | exact Kept2.snd (by assumption)
    | exact Kept1.of (by assumption) (by assumption)
    | fail_if_no_progress refine kept_mk ?_
    | split
    | refine Kept1.of ?_ (by assumption)
    | fail_if_no_progress refine Kept1.mk ?_

theorem execByeRx_kept {s t : State} {x0 : NetMsg} (h : Kept s t) : KeptO s (execByeRx x0 t) := by
  unfold execByeRx
  repeat' with_reducible first
    | assumption
    | refine kept_ite (fun _ => ?_) (fun _ => ?_)
    | refine kept1_ite (fun _ => ?_) (fun _ => ?_)
    | (extract_lets +onlyGivenNames u; first | ((refine (fun (_ : Kept s u) => ?_) ?_); (on_goal 1 => clear_value u); (on_goal 2 => subst u)) | ((refine (fun (_ : Kept1 s u) => ?_) ?_); (on_goal 1 => clear_value u); (on_goal 2 => subst u)) | ((refine (fun (_ : Kept2 s u) => ?_) ?_); (on_goal 1 => clear_value u); (on_goal 2 => subst u)) | clear_value u)
    | refine KeptO.next ?_
    | refine State.doIf_kept ?_ (fun _ _ => ?_)
    | refine State.ifLive_kept ?_ (fun _ _ => ?_)
    | refine State.judgeEnc_kept ?_
    | refine Kept2.snd (State.judgeEnc_kept ?_)
    | refine Kept2.of (State.judgeEnc_kept ?_) (by assumption)
    | refine State.closeEnc_kept ?_
    | refine State.judgeDec_kept ?_
    | refine Kept2.snd (State.judgeDec_kept ?_)
    | refine Kept2.of (State.judgeDec_kept ?_) (by assumption)
    | refine State.acceptDec_kept ?_
    | refine State.lastRefusal_kept ?_
    | refine State.modCtx_kept ?_
    | refine State.setSess_kept ?_
    | exact Kept1.fst (by assumption)
    | exact Kept2.snd (by assumption)
    | exact Kept1.of (by assumption) (by assumption)
    | fail_if_no_progress refine kept_mk ?_
    | split
    | refine Kept1.of ?_ (by assumption)
    | fail_if_no_progress refine Kept1.mk ?_

theorem execHelloRetryTimeout_kept {s t : State} {x0 : Nat} (h : Kept s t) : KeptO s (execHelloRetryTimeout x0 t) := by
  unfold execHelloRetryTimeout
  repeat' with_reducible first
    | assumption
    | refine kept_ite (fun _ => ?_) (fun _ => ?_)
    | refine kept1_ite (fun _ => ?_) (fun _ => ?_)
    | (extract_lets +onlyGivenNames u; first | ((refine (fun (_ : Kept s u) => ?_) ?_); (on_goal 1 => clear_value u); (on_goal 2 => subst u)) | ((refine (fun (_ : Kept1 s u) => ?_) ?_); (on_goal 1 => clear_value u); (on_goal 2 => subst u)) | ((refine (fun (_ : Kept2 s u) => ?_) ?_); (on_goal 1 => clear_value u); (on_goal 2 => subst u)) | clear_value u)
    | refine KeptO.next ?_
    | refine State.sendHello_kept ?_
    | refine State.bump_kept ?_
    | refine State.setSess_kept ?_
    | exact Kept1.fst (by assumption)
    | exact Kept2.snd (by assumption)
    | exact Kept1.of (by assumption) (by assumption)
    | fail_if_no_progress refine kept_mk ?_
    | split
    | fail_if_no_progress refine Kept1.mk ?_

theorem execBackoffExpiry_kept {s t : State} {x0 : Nat} (h : Kept s t) : KeptO s (execBackoffExpiry x0 t) := by
  unfold execBackoffExpiry
  repeat' with_reducible first
    | assumption
    | refine KeptO.next ?_
    | refine State.doIf_kept ?_ (fun _ _ => ?_)
    | refine State.sendHello_kept ?_
    | exact Kept1.fst (by assumption)
    | exact Kept2.snd (by assumption)
    | exact Kept1.of (by assumption) (by assumption)
    | fail_if_no_progress refine kept_mk ?_
    | fail_if_no_progress refine Kept1.mk ?_

theorem execRefusedExpiry_kept {s t : State} {x0 : Nat} (h : Kept s t) : KeptO s (execRefusedExpiry x0 t) := by
  unfold execRefusedExpiry
  repeat' with_reducible first
    | assumption
    | refine KeptO.next ?_
    | refine State.doIf_kept ?_ (fun _ _ => ?_)
    | refine State.sendHello_kept ?_
    | exact Kept1.fst (by assumption)
    | exact Kept2.snd (by assumption)
    | exact Kept1.of (by assumption) (by assumption)
    | fail_if_no_progress refine kept_mk ?_
    | fail_if_no_progress refine Kept1.mk ?_

theorem execKeepaliveTimer_kept {s t : State} {x0 : Nat} (h : Kept s t) : KeptO s (execKeepaliveTimer x0 t) := by
  unfold execKeepaliveTimer
  repeat' with_reducible first
    | assumption
    | refine kept_ite (fun _ => ?_) (fun _ => ?_)
    | refine kept1_ite (fun _ => ?_) (fun _ => ?_)
    | (extract_lets +onlyGivenNames u; first | ((refine (fun (_ : Kept s u) => ?_) ?_); (on_goal 1 => clear_value u); (on_goal 2 => subst u)) | ((refine (fun (_ : Kept1 s u) => ?_) ?_); (on_goal 1 => clear_value u); (on_goal 2 => subst u)) | ((refine (fun (_ : Kept2 s u) => ?_) ?_); (on_goal 1 => clear_value u); (on_goal 2 => subst u)) | clear_value u)
    | refine KeptO.next ?_
    | refine State.sessionLost_kept ?_
    | refine State.sendKeepalive_kept ?_
    | exact Kept1.fst (by assumption)
    | exact Kept2.snd (by assumption)
    | exact Kept1.of (by assumption) (by assumption)
    | fail_if_no_progress refine kept_mk ?_
    | split
    | fail_if_no_progress refine Kept1.mk ?_

theorem execEncSessionTimeout_kept {s t : State} {x0 : Nat} {x1 : Nat} {x2 : Nat} (h : Kept s t) : KeptO s (execEncSessionTimeout x0 x1 x2 t) := by
  unfold execEncSessionTimeout
  repeat' with_reducible first
    | assumption
    | refine KeptO.next ?_
    | refine State.closeEnc_kept ?_
    | exact Kept1.fst (by assumption)
    | exact Kept2.snd (by assumption)
    | exact Kept1.of (by assumption) (by assumption)
    | fail_if_no_progress refine kept_mk ?_
    | fail_if_no_progress refine Kept1.mk ?_

theorem execRefreshHoldoffExpiry_kept {s t : State} {x0 : Nat} (h : Kept s t) : KeptO s (execRefreshHoldoffExpiry x0 t) := by
  unfold execRefreshHoldoffExpiry
  repeat' with_reducible first
    | assumption
    | refine KeptO.next ?_
    | refine State.modCtx_kept ?_
    | refine State.flushRefresh_kept ?_
    | exact Kept1.fst (by assumption)
    | exact Kept2.snd (by assumption)
    | exact Kept1.of (by assumption) (by assumption)
    | fail_if_no_progress refine kept_mk ?_
    | fail_if_no_progress refine Kept1.mk ?_

theorem execRefreshReqResend_kept {s t : State} {x0 : Nat} (h : Kept s t) : KeptO s (execRefreshReqResend x0 t) := by
  unfold execRefreshReqResend
  repeat' with_reducible first
    | assumption
    | refine kept_ite (fun _ => ?_) (fun _ => ?_)
    | refine kept1_ite (fun _ => ?_) (fun _ => ?_)
    | (extract_lets +onlyGivenNames u; first | ((refine (fun (_ : Kept s u) => ?_) ?_); (on_goal 1 => clear_value u); (on_goal 2 => subst u)) | ((refine (fun (_ : Kept1 s u) => ?_) ?_); (on_goal 1 => clear_value u); (on_goal 2 => subst u)) | ((refine (fun (_ : Kept2 s u) => ?_) ?_); (on_goal 1 => clear_value u); (on_goal 2 => subst u)) | clear_value u)
    | refine KeptO.next ?_
    | refine State.doIf_kept ?_ (fun _ _ => ?_)
    | refine State.modCtx_kept ?_
    | refine State.sendRefreshReq_kept ?_
    | exact Kept1.fst (by assumption)
    | exact Kept2.snd (by assumption)
    | exact Kept1.of (by assumption) (by assumption)
    | fail_if_no_progress refine kept_mk ?_
    | split
    | refine Kept1.of ?_ (by assumption)
    | fail_if_no_progress refine Kept1.mk ?_

theorem execUpdateResend_kept {s t : State} {x0 : Nat} {x1 : Nat} {x2 : Nat} (h : Kept s t) : KeptO s (execUpdateResend x0 x1 x2 t) := by
  unfold execUpdateResend
  repeat' with_reducible first
    | assumption
    | refine kept_ite (fun _ => ?_) (fun _ => ?_)
    | refine kept1_ite (fun _ => ?_) (fun _ => ?_)
    | (extract_lets +onlyGivenNames u; first | ((refine (fun (_ : Kept s u) => ?_) ?_); (on_goal 1 => clear_value u); (on_goal 2 => subst u)) | ((refine (fun (_ : Kept1 s u) => ?_) ?_); (on_goal 1 => clear_value u); (on_goal 2 => subst u)) | ((refine (fun (_ : Kept2 s u) => ?_) ?_); (on_goal 1 => clear_value u); (on_goal 2 => subst u)) | clear_value u)
    | refine KeptO.next ?_
    | refine State.modEnc_kept ?_
    | refine State.sendEncUpdate_kept ?_
    | refine State.closeEnc_kept ?_
    | refine State.modCtx_kept ?_
    | refine State.sendDecUpdate_kept ?_
    | refine State.sessionLost_kept ?_
    | exact Kept1.fst (by assumption)
    | exact Kept2.snd (by assumption)
    | exact Kept1.of (by assumption) (by assumption)
    | fail_if_no_progress refine kept_mk ?_
    | split
    | refine Kept1.of ?_ (by assumption)
    | fail_if_no_progress refine Kept1.mk ?_

theorem execSessionMsgResolved_kept {s t : State} {x0 : Nat} {x1 : Nat} {x2 : Nat} (h : Kept s t) : KeptO s (execSessionMsgResolved x0 x1 x2 t) := by
  unfold execSessionMsgResolved
  repeat' with_reducible first
    | assumption
    | (extract_lets +onlyGivenNames u; first | ((refine (fun (_ : Kept s u) => ?_) ?_); (on_goal 1 => clear_value u); (on_goal 2 => subst u)) | ((refine (fun (_ : Kept1 s u) => ?_) ?_); (on_goal 1 => clear_value u); (on_goal 2 => subst u)) | ((refine (fun (_ : Kept2 s u) => ?_) ?_); (on_goal 1 => clear_value u); (on_goal 2 => subst u)) | clear_value u)
    | refine KeptO.next ?_
    | refine State.forEach_kept ?_ (fun _ _ _ => ?_)
    | refine State.ifLive_kept ?_ (fun _ _ => ?_)
    | refine State.learnMac_kept ?_
    | refine State.leaveUdp_kept ?_
    | refine State.noteSent_kept ?_
    | exact Kept1.fst (by assumption)
    | exact Kept2.snd (by assumption)
    | exact Kept1.of (by assumption) (by assumption)
    | fail_if_no_progress refine kept_mk ?_
    | fail_if_no_progress refine Kept1.mk ?_

theorem execArpWaitExpiry_kept {s t : State} {x0 : Nat} {x1 : Nat} (h : Kept s t) : KeptO s (execArpWaitExpiry x0 x1 t) := by
  unfold execArpWaitExpiry
  repeat' with_reducible first
    | assumption
    | refine KeptO.next ?_
    | exact Kept1.fst (by assumption)
    | exact Kept2.snd (by assumption)
    | exact Kept1.of (by assumption) (by assumption)
    | fail_if_no_progress refine kept_mk ?_
    | fail_if_no_progress refine Kept1.mk ?_

theorem State.writeSessCtrl_kept {s t : State} {x0 : Nat} {x1 : Word} (h : Kept s t) : Kept s (State.writeSessCtrl t x0 x1) := by
  unfold State.writeSessCtrl
  repeat' with_reducible first
    | assumption
    | refine State.setReg_kept ?_
    | refine State.sessSync_kept ?_
    | exact Kept1.fst (by assumption)
    | exact Kept2.snd (by assumption)
    | exact Kept1.of (by assumption) (by assumption)
    | fail_if_no_progress refine kept_mk ?_
    | fail_if_no_progress refine Kept1.mk ?_

theorem State.sdpField_kept {s t : State} {x0 : Nat} {x1 : Nat} {x2 : Nat} {x3 : Nat} (h : Kept s t) : Kept s (State.sdpField t x0 x1 x2 x3) := by
  unfold State.sdpField
  repeat' with_reducible first
    | assumption
    | refine State.doIf_kept ?_ (fun _ _ => ?_)
    | refine State.setFld_kept ?_
    | refine State.sessStatus_kept ?_
    | exact Kept1.fst (by assumption)
    | exact Kept2.snd (by assumption)
    | exact Kept1.of (by assumption) (by assumption)
    | fail_if_no_progress refine kept_mk ?_
    | fail_if_no_progress refine Kept1.mk ?_

theorem execSessCtrlWrite_kept {s t : State} {x0 : Nat} {x1 : Word} (h : Kept s t) : KeptO s (execSessCtrlWrite x0 x1 t) := by
  unfold execSessCtrlWrite
  repeat' with_reducible first
    | assumption
    | refine KeptO.next ?_
    | refine State.ifWritten_kept ?_ (fun _ _ => ?_)
    | refine State.writeSessCtrl_kept ?_
    | exact Kept1.fst (by assumption)
    | exact Kept2.snd (by assumption)
    | exact Kept1.of (by assumption) (by assumption)
    | fail_if_no_progress refine kept_mk ?_
    | fail_if_no_progress refine Kept1.mk ?_

theorem State.writeSessTiming_kept {s t : State} {x0 : Nat} {x1 : Word} (h : Kept s t) : Kept s (State.writeSessTiming t x0 x1) := by
  unfold State.writeSessTiming
  repeat' with_reducible first
    | assumption
    | refine kept_ite (fun _ => ?_) (fun _ => ?_)
    | refine kept1_ite (fun _ => ?_) (fun _ => ?_)
    | refine State.setReg_kept ?_
    | exact Kept1.fst (by assumption)
    | exact Kept2.snd (by assumption)
    | exact Kept1.of (by assumption) (by assumption)
    | fail_if_no_progress refine kept_mk ?_
    | split
    | fail_if_no_progress refine Kept1.mk ?_

theorem execSessTimingWrite_kept {s t : State} {x0 : Nat} {x1 : Word} (h : Kept s t) : KeptO s (execSessTimingWrite x0 x1 t) := by
  unfold execSessTimingWrite
  repeat' with_reducible first
    | assumption
    | refine KeptO.next ?_
    | refine State.doIf_kept ?_ (fun _ _ => ?_)
    | refine State.ifWritten_kept ?_ (fun _ _ => ?_)
    | refine State.writeSessTiming_kept ?_
    | exact Kept1.fst (by assumption)
    | exact Kept2.snd (by assumption)
    | exact Kept1.of (by assumption) (by assumption)
    | fail_if_no_progress refine kept_mk ?_
    | fail_if_no_progress refine Kept1.mk ?_

end Sys2Proof.Machine
end

