-- ==== Sys2Proof/Laws/KeptEncode.lean ====
section
/-! SUPPORT. Every operation of Machine/Encode.lean keeps the waiting commands, the invariant and every programmed bit. -/

namespace Sys2Proof.Machine

set_option linter.unusedTactic false
set_option linter.unreachableTactic false

theorem State.takeDescs_kept {s t : State} {x0 : Nat} (h : Kept s t) : Kept1 s (State.takeDescs t x0) := by
  unfold State.takeDescs
  repeat' with_reducible first
    | assumption
    | refine kept_ite (fun _ => ?_) (fun _ => ?_)
    | refine kept1_ite (fun _ => ?_) (fun _ => ?_)
    | (extract_lets +onlyGivenNames u; first | ((refine (fun (_ : Kept s u) => ?_) ?_); (on_goal 1 => clear_value u); (on_goal 2 => subst u)) | ((refine (fun (_ : Kept1 s u) => ?_) ?_); (on_goal 1 => clear_value u); (on_goal 2 => subst u)) | ((refine (fun (_ : Kept2 s u) => ?_) ?_); (on_goal 1 => clear_value u); (on_goal 2 => subst u)) | clear_value u)
    | refine foldl_kept (fun _ _ _ => ?_) ?_
    | refine foldl_kept1 (fun _ _ _ => ?_) ?_
    | refine Kept1.fst (foldl_kept1 (fun _ _ _ => ?_) ?_)
    | refine State.modCtx_kept ?_
    | refine State.bump_kept ?_
    | refine State.poolDrop_kept ?_
    | refine State.setRegN_kept ?_
    | exact Kept1.fst (by assumption)
    | exact Kept2.snd (by assumption)
    | exact Kept1.of (by assumption) (by assumption)
    | fail_if_no_progress refine kept_mk ?_
    | split
    | refine Kept1.of ?_ (by assumption)
    | fail_if_no_progress refine Kept1.mk ?_

theorem State.takeNum_kept {s t : State} {x0 : Nat} {x1 : Nat} {x2 : Nat} (h : Kept s t) : Kept s (State.takeNum t x0 x1 x2) := by
  unfold State.takeNum
  repeat' with_reducible first
    | assumption
    | refine kept_ite (fun _ => ?_) (fun _ => ?_)
    | refine kept1_ite (fun _ => ?_) (fun _ => ?_)
    | (extract_lets +onlyGivenNames u; first | ((refine (fun (_ : Kept s u) => ?_) ?_); (on_goal 1 => clear_value u); (on_goal 2 => subst u)) | ((refine (fun (_ : Kept1 s u) => ?_) ?_); (on_goal 1 => clear_value u); (on_goal 2 => subst u)) | ((refine (fun (_ : Kept2 s u) => ?_) ?_); (on_goal 1 => clear_value u); (on_goal 2 => subst u)) | clear_value u)
    | refine State.bump_kept ?_
    | refine State.modCtx_kept ?_
    | exact Kept1.fst (by assumption)
    | exact Kept2.snd (by assumption)
    | exact Kept1.of (by assumption) (by assumption)
    | fail_if_no_progress refine kept_mk ?_
    | split
    | refine Kept1.of ?_ (by assumption)
    | fail_if_no_progress refine Kept1.mk ?_

theorem State.takeCapture_kept {s t : State} {x0 : Nat} {x1 : Nat} (h : Kept s t) : Kept1 s (State.takeCapture t x0 x1) := by
  unfold State.takeCapture
  repeat' with_reducible first
    | assumption
    | refine kept_ite (fun _ => ?_) (fun _ => ?_)
    | refine kept1_ite (fun _ => ?_) (fun _ => ?_)
    | (extract_lets +onlyGivenNames u; first | ((refine (fun (_ : Kept s u) => ?_) ?_); (on_goal 1 => clear_value u); (on_goal 2 => subst u)) | ((refine (fun (_ : Kept1 s u) => ?_) ?_); (on_goal 1 => clear_value u); (on_goal 2 => subst u)) | ((refine (fun (_ : Kept2 s u) => ?_) ?_); (on_goal 1 => clear_value u); (on_goal 2 => subst u)) | ((refine (fun (_ : ∀ t, Kept s t → Kept s (u t)) => ?_) ?_); (on_goal 1 => clear_value u); (on_goal 2 => subst u)) | ((refine (fun (_ : ∀ t a, Kept s t → Kept s (u t a)) => ?_) ?_); (on_goal 1 => clear_value u); (on_goal 2 => subst u)) | ((refine (fun (_ : ∀ t a b, Kept s t → Kept s (u t a b)) => ?_) ?_); (on_goal 1 => clear_value u); (on_goal 2 => subst u)) | ((refine (fun (_ : ∀ t a b c, Kept s t → Kept s (u t a b c)) => ?_) ?_); (on_goal 1 => clear_value u); (on_goal 2 => subst u)) | ((refine (fun (_ : ∀ a t, Kept s t → Kept s (u a t)) => ?_) ?_); (on_goal 1 => clear_value u); (on_goal 2 => subst u)) | ((refine (fun (_ : ∀ a b t, Kept s t → Kept s (u a b t)) => ?_) ?_); (on_goal 1 => clear_value u); (on_goal 2 => subst u)) | ((refine (fun (_ : ∀ a b c t, Kept s t → Kept s (u a b c t)) => ?_) ?_); (on_goal 1 => clear_value u); (on_goal 2 => subst u)) | ((refine (fun (_ : ∀ a b c d t, Kept s t → Kept s (u a b c d t)) => ?_) ?_); (on_goal 1 => clear_value u); (on_goal 2 => subst u)) | clear_value u)
    | intro _ _ _ _ _ _
    | intro _ _ _ _ _
    | intro _ _ _ _
    | intro _ _ _
    | intro _ _
    | refine State.takeNum_kept ?_
    | exact Kept1.fst (by assumption)
    | exact Kept2.snd (by assumption)
    | exact Kept1.of (by assumption) (by assumption)
    | fail_if_no_progress refine kept_mk ?_
    | split
    | refine Kept1.of ?_ (by assumption)
    | fail_if_no_progress refine Kept1.mk ?_
    | apply_assumption

theorem State.takeRelay_kept {s t : State} {x0 : Nat} {x1 : Nat} (h : Kept s t) : Kept1 s (State.takeRelay t x0 x1) := by
  unfold State.takeRelay
  repeat' with_reducible first
    | assumption
    | refine kept_ite (fun _ => ?_) (fun _ => ?_)
    | refine kept1_ite (fun _ => ?_) (fun _ => ?_)
    | (extract_lets +onlyGivenNames u; first | ((refine (fun (_ : Kept s u) => ?_) ?_); (on_goal 1 => clear_value u); (on_goal 2 => subst u)) | ((refine (fun (_ : Kept1 s u) => ?_) ?_); (on_goal 1 => clear_value u); (on_goal 2 => subst u)) | ((refine (fun (_ : Kept2 s u) => ?_) ?_); (on_goal 1 => clear_value u); (on_goal 2 => subst u)) | ((refine (fun (_ : ∀ t, Kept s t → Kept s (u t)) => ?_) ?_); (on_goal 1 => clear_value u); (on_goal 2 => subst u)) | ((refine (fun (_ : ∀ t a, Kept s t → Kept s (u t a)) => ?_) ?_); (on_goal 1 => clear_value u); (on_goal 2 => subst u)) | ((refine (fun (_ : ∀ t a b, Kept s t → Kept s (u t a b)) => ?_) ?_); (on_goal 1 => clear_value u); (on_goal 2 => subst u)) | ((refine (fun (_ : ∀ t a b c, Kept s t → Kept s (u t a b c)) => ?_) ?_); (on_goal 1 => clear_value u); (on_goal 2 => subst u)) | ((refine (fun (_ : ∀ a t, Kept s t → Kept s (u a t)) => ?_) ?_); (on_goal 1 => clear_value u); (on_goal 2 => subst u)) | ((refine (fun (_ : ∀ a b t, Kept s t → Kept s (u a b t)) => ?_) ?_); (on_goal 1 => clear_value u); (on_goal 2 => subst u)) | ((refine (fun (_ : ∀ a b c t, Kept s t → Kept s (u a b c t)) => ?_) ?_); (on_goal 1 => clear_value u); (on_goal 2 => subst u)) | ((refine (fun (_ : ∀ a b c d t, Kept s t → Kept s (u a b c d t)) => ?_) ?_); (on_goal 1 => clear_value u); (on_goal 2 => subst u)) | clear_value u)
    | intro _ _ _ _ _ _
    | intro _ _ _ _ _
    | intro _ _ _ _
    | intro _ _ _
    | intro _ _
    | refine State.takeNum_kept ?_
    | exact Kept1.fst (by assumption)
    | exact Kept2.snd (by assumption)
    | exact Kept1.of (by assumption) (by assumption)
    | fail_if_no_progress refine kept_mk ?_
    | split
    | refine Kept1.of ?_ (by assumption)
    | fail_if_no_progress refine Kept1.mk ?_
    | apply_assumption

theorem State.takeSource_kept {s t : State} {x0 : Nat} (h : Kept s t) : Kept1 s (State.takeSource t x0) := by
  unfold State.takeSource
  repeat' with_reducible first
    | assumption
    | refine kept_ite (fun _ => ?_) (fun _ => ?_)
    | refine kept1_ite (fun _ => ?_) (fun _ => ?_)
    | (extract_lets +onlyGivenNames u; first | ((refine (fun (_ : Kept s u) => ?_) ?_); (on_goal 1 => clear_value u); (on_goal 2 => subst u)) | ((refine (fun (_ : Kept1 s u) => ?_) ?_); (on_goal 1 => clear_value u); (on_goal 2 => subst u)) | ((refine (fun (_ : Kept2 s u) => ?_) ?_); (on_goal 1 => clear_value u); (on_goal 2 => subst u)) | clear_value u)
    | refine State.takeCapture_kept ?_
    | refine Kept1.fst (State.takeCapture_kept ?_)
    | refine Kept1.of (State.takeCapture_kept ?_) (by assumption)
    | refine State.takeDescs_kept ?_
    | refine Kept1.fst (State.takeDescs_kept ?_)
    | refine Kept1.of (State.takeDescs_kept ?_) (by assumption)
    | refine State.takeRelay_kept ?_
    | refine Kept1.fst (State.takeRelay_kept ?_)
    | refine Kept1.of (State.takeRelay_kept ?_) (by assumption)
    | exact Kept1.fst (by assumption)
    | exact Kept2.snd (by assumption)
    | exact Kept1.of (by assumption) (by assumption)
    | fail_if_no_progress refine kept_mk ?_
    | split
    | refine Kept1.of ?_ (by assumption)
    | fail_if_no_progress refine Kept1.mk ?_

theorem State.loadSource_kept {s t : State} {x0 : Nat} {x1 : EncSource} (h : Kept s t) : Kept1 s (State.loadSource t x0 x1) := by
  unfold State.loadSource
  repeat' with_reducible first
    | assumption
    | (extract_lets +onlyGivenNames u; first | ((refine (fun (_ : Kept s u) => ?_) ?_); (on_goal 1 => clear_value u); (on_goal 2 => subst u)) | ((refine (fun (_ : Kept1 s u) => ?_) ?_); (on_goal 1 => clear_value u); (on_goal 2 => subst u)) | ((refine (fun (_ : Kept2 s u) => ?_) ?_); (on_goal 1 => clear_value u); (on_goal 2 => subst u)) | clear_value u)
    | refine State.putArea_kept ?_
    | exact Kept1.fst (by assumption)
    | exact Kept2.snd (by assumption)
    | exact Kept1.of (by assumption) (by assumption)
    | fail_if_no_progress refine kept_mk ?_
    | split
    | refine Kept1.of ?_ (by assumption)
    | fail_if_no_progress refine Kept1.mk ?_

theorem State.emitSheet_kept {s t : State} {x0 : Nat} {x1 : Nat} {x2 : List Byte} (h : Kept s t) : Kept s (State.emitSheet t x0 x1 x2) := by
  unfold State.emitSheet
  repeat' with_reducible first
    | assumption
    | refine State.emit_kept ?_
    | exact Kept1.fst (by assumption)
    | exact Kept2.snd (by assumption)
    | exact Kept1.of (by assumption) (by assumption)
    | fail_if_no_progress refine kept_mk ?_
    | fail_if_no_progress refine Kept1.mk ?_

theorem State.countLate_kept {s t : State} {x0 : Nat} {x1 : Nat} (h : Kept s t) : Kept s (State.countLate t x0 x1) := by
  unfold State.countLate
  repeat' with_reducible first
    | assumption
    | (extract_lets +onlyGivenNames u; first | ((refine (fun (_ : Kept s u) => ?_) ?_); (on_goal 1 => clear_value u); (on_goal 2 => subst u)) | ((refine (fun (_ : Kept1 s u) => ?_) ?_); (on_goal 1 => clear_value u); (on_goal 2 => subst u)) | ((refine (fun (_ : Kept2 s u) => ?_) ?_); (on_goal 1 => clear_value u); (on_goal 2 => subst u)) | clear_value u)
    | refine State.forEach_kept ?_ (fun _ _ _ => ?_)
    | refine State.doIf_kept ?_ (fun _ _ => ?_)
    | refine State.putCell_kept ?_
    | refine State.bump_kept ?_
    | exact Kept1.fst (by assumption)
    | exact Kept2.snd (by assumption)
    | exact Kept1.of (by assumption) (by assumption)
    | fail_if_no_progress refine kept_mk ?_
    | split
    | refine Kept1.of ?_ (by assumption)
    | fail_if_no_progress refine Kept1.mk ?_

theorem State.showClasses_kept {s t : State} {x0 : Nat} (h : Kept s t) : Kept s (State.showClasses t x0) := by
  unfold State.showClasses
  repeat' with_reducible first
    | assumption
    | (extract_lets +onlyGivenNames u; first | ((refine (fun (_ : Kept s u) => ?_) ?_); (on_goal 1 => clear_value u); (on_goal 2 => subst u)) | ((refine (fun (_ : Kept1 s u) => ?_) ?_); (on_goal 1 => clear_value u); (on_goal 2 => subst u)) | ((refine (fun (_ : Kept2 s u) => ?_) ?_); (on_goal 1 => clear_value u); (on_goal 2 => subst u)) | clear_value u)
    | refine State.setRegN_kept ?_
    | exact Kept1.fst (by assumption)
    | exact Kept2.snd (by assumption)
    | exact Kept1.of (by assumption) (by assumption)
    | fail_if_no_progress refine kept_mk ?_
    | fail_if_no_progress refine Kept1.mk ?_

theorem State.encStatus_kept {s t : State} {x0 : Nat} {x1 : Nat} (h : Kept s t) : Kept s (State.encStatus t x0 x1) := by
  unfold State.encStatus
  repeat' with_reducible first
    | assumption
    | (extract_lets +onlyGivenNames u; first | ((refine (fun (_ : Kept s u) => ?_) ?_); (on_goal 1 => clear_value u); (on_goal 2 => subst u)) | ((refine (fun (_ : Kept1 s u) => ?_) ?_); (on_goal 1 => clear_value u); (on_goal 2 => subst u)) | ((refine (fun (_ : Kept2 s u) => ?_) ?_); (on_goal 1 => clear_value u); (on_goal 2 => subst u)) | clear_value u)
    | refine State.setRegN_kept ?_
    | exact Kept1.fst (by assumption)
    | exact Kept2.snd (by assumption)
    | exact Kept1.of (by assumption) (by assumption)
    | fail_if_no_progress refine kept_mk ?_
    | fail_if_no_progress refine Kept1.mk ?_

theorem State.keepBuffer_kept {s t : State} {x0 : Nat} {x1 : Option Nat} (h : Kept s t) : Kept s (State.keepBuffer t x0 x1) := by
  unfold State.keepBuffer
  repeat' with_reducible first
    | assumption
    | (extract_lets +onlyGivenNames u; first | ((refine (fun (_ : Kept s u) => ?_) ?_); (on_goal 1 => clear_value u); (on_goal 2 => subst u)) | ((refine (fun (_ : Kept1 s u) => ?_) ?_); (on_goal 1 => clear_value u); (on_goal 2 => subst u)) | ((refine (fun (_ : Kept2 s u) => ?_) ?_); (on_goal 1 => clear_value u); (on_goal 2 => subst u)) | clear_value u)
    | refine State.poolDrop_kept ?_
    | refine State.modCtx_kept ?_
    | exact Kept1.fst (by assumption)
    | exact Kept2.snd (by assumption)
    | exact Kept1.of (by assumption) (by assumption)
    | fail_if_no_progress refine kept_mk ?_
    | split
    | refine Kept1.of ?_ (by assumption)
    | fail_if_no_progress refine Kept1.mk ?_

theorem State.sourceTs_kept {s t : State} {x0 : Nat} {x1 : Option Nat} (h : Kept s t) : Kept2 s (State.sourceTs t x0 x1) := by
  unfold State.sourceTs
  repeat' with_reducible first
    | assumption
    | (extract_lets +onlyGivenNames u; first | ((refine (fun (_ : Kept s u) => ?_) ?_); (on_goal 1 => clear_value u); (on_goal 2 => subst u)) | ((refine (fun (_ : Kept1 s u) => ?_) ?_); (on_goal 1 => clear_value u); (on_goal 2 => subst u)) | ((refine (fun (_ : Kept2 s u) => ?_) ?_); (on_goal 1 => clear_value u); (on_goal 2 => subst u)) | clear_value u)
    | refine State.takeFree_kept ?_
    | refine Kept2.snd (State.takeFree_kept ?_)
    | refine Kept2.of (State.takeFree_kept ?_) (by assumption)
    | exact Kept1.fst (by assumption)
    | exact Kept2.snd (by assumption)
    | exact Kept1.of (by assumption) (by assumption)
    | fail_if_no_progress refine kept_mk ?_
    | split
    | refine Kept2.mk ?_
    | refine Kept1.of ?_ (by assumption)
    | fail_if_no_progress refine Kept1.mk ?_

theorem State.ackRefresh_kept {s t : State} {x0 : Nat} {x1 : Nat} (h : Kept s t) : Kept s (State.ackRefresh t x0 x1) := by
  unfold State.ackRefresh
  repeat' with_reducible first
    | assumption
    | (extract_lets +onlyGivenNames u; first | ((refine (fun (_ : Kept s u) => ?_) ?_); (on_goal 1 => clear_value u); (on_goal 2 => subst u)) | ((refine (fun (_ : Kept1 s u) => ?_) ?_); (on_goal 1 => clear_value u); (on_goal 2 => subst u)) | ((refine (fun (_ : Kept2 s u) => ?_) ?_); (on_goal 1 => clear_value u); (on_goal 2 => subst u)) | clear_value u)
    | refine State.forEach_kept ?_ (fun _ _ _ => ?_)
    | refine State.sendEncFrom_kept ?_
    | refine State.modCtx_kept ?_
    | exact Kept1.fst (by assumption)
    | exact Kept2.snd (by assumption)
    | exact Kept1.of (by assumption) (by assumption)
    | fail_if_no_progress refine kept_mk ?_
    | fail_if_no_progress refine Kept1.mk ?_

theorem State.putRtp_kept {s t : State} {x0 : Nat} {x1 : HeldPkt} (h : Kept s t) : Kept s (State.putRtp t x0 x1) := by
  unfold State.putRtp
  repeat' with_reducible first
    | assumption
    | (extract_lets +onlyGivenNames u; first | ((refine (fun (_ : Kept s u) => ?_) ?_); (on_goal 1 => clear_value u); (on_goal 2 => subst u)) | ((refine (fun (_ : Kept1 s u) => ?_) ?_); (on_goal 1 => clear_value u); (on_goal 2 => subst u)) | ((refine (fun (_ : Kept2 s u) => ?_) ?_); (on_goal 1 => clear_value u); (on_goal 2 => subst u)) | clear_value u)
    | refine State.emit_kept ?_
    | refine State.egressRtp_kept ?_
    | refine State.setRegN_kept ?_
    | exact Kept1.fst (by assumption)
    | exact Kept2.snd (by assumption)
    | exact Kept1.of (by assumption) (by assumption)
    | fail_if_no_progress refine kept_mk ?_
    | fail_if_no_progress refine Kept1.mk ?_

theorem State.sendRtp_kept {s t : State} {x0 : Nat} {x1 : Nat} {x2 : Bool} {x3 : RtpOut} (h : Kept s t) : Kept s (State.sendRtp t x0 x1 x2 x3) := by
  unfold State.sendRtp
  repeat' with_reducible first
    | assumption
    | refine kept_ite (fun _ => ?_) (fun _ => ?_)
    | refine kept1_ite (fun _ => ?_) (fun _ => ?_)
    | (extract_lets +onlyGivenNames u; first | ((refine (fun (_ : Kept s u) => ?_) ?_); (on_goal 1 => clear_value u); (on_goal 2 => subst u)) | ((refine (fun (_ : Kept1 s u) => ?_) ?_); (on_goal 1 => clear_value u); (on_goal 2 => subst u)) | ((refine (fun (_ : Kept2 s u) => ?_) ?_); (on_goal 1 => clear_value u); (on_goal 2 => subst u)) | clear_value u)
    | refine State.modCtx_kept ?_
    | refine State.notePkt_kept ?_
    | refine State.putRtp_kept ?_
    | refine State.holdPkt_kept ?_
    | exact Kept1.fst (by assumption)
    | exact Kept2.snd (by assumption)
    | exact Kept1.of (by assumption) (by assumption)
    | fail_if_no_progress refine kept_mk ?_
    | split
    | fail_if_no_progress refine Kept1.mk ?_

theorem State.sendAll_kept {s t : State} {c ts : Nat} {last : Bool} {l : List RtpOut} (h : Kept s t) :
    Kept s (State.sendAll t c ts last l) := by
  induction l generalizing t with
  | nil => exact h
  | cons a l ih =>
    cases l with
    | nil => exact State.sendRtp_kept h
    | cons b r => exact ih (State.sendRtp_kept h)

theorem State.openAu_kept {s t : State} {x0 : Nat} {x1 : EncPicture} {x2 : AuHead} {x3 : List (Option Nat)} (h : Kept s t) : Kept s (State.openAu t x0 x1 x2 x3) := by
  unfold State.openAu
  repeat' with_reducible first
    | assumption
    | refine kept_ite (fun _ => ?_) (fun _ => ?_)
    | refine kept1_ite (fun _ => ?_) (fun _ => ?_)
    | (extract_lets +onlyGivenNames u; first | ((refine (fun (_ : Kept s u) => ?_) ?_); (on_goal 1 => clear_value u); (on_goal 2 => subst u)) | ((refine (fun (_ : Kept1 s u) => ?_) ?_); (on_goal 1 => clear_value u); (on_goal 2 => subst u)) | ((refine (fun (_ : Kept2 s u) => ?_) ?_); (on_goal 1 => clear_value u); (on_goal 2 => subst u)) | clear_value u)
    | refine State.doIf_kept ?_ (fun _ _ => ?_)
    | refine State.modCtx_kept ?_
    | refine State.emit_kept ?_
    | refine State.emitSheet_kept ?_
    | refine State.sendAll_kept ?_
    | exact Kept1.fst (by assumption)
    | exact Kept2.snd (by assumption)
    | exact Kept1.of (by assumption) (by assumption)
    | fail_if_no_progress refine kept_mk ?_
    | split
    | refine Kept1.of ?_ (by assumption)
    | fail_if_no_progress refine Kept1.mk ?_

theorem State.beginPicture_kept {s t : State} {x0 : Nat} {x1 : EncPicture} {x2 : RefreshPlan} {x3 : AuHead} {x4 : List (Option Nat)} (h : Kept s t) : Kept s (State.beginPicture t x0 x1 x2 x3 x4) := by
  unfold State.beginPicture
  repeat' with_reducible first
    | assumption
    | refine kept_ite (fun _ => ?_) (fun _ => ?_)
    | refine kept1_ite (fun _ => ?_) (fun _ => ?_)
    | (extract_lets +onlyGivenNames u; first | ((refine (fun (_ : Kept s u) => ?_) ?_); (on_goal 1 => clear_value u); (on_goal 2 => subst u)) | ((refine (fun (_ : Kept1 s u) => ?_) ?_); (on_goal 1 => clear_value u); (on_goal 2 => subst u)) | ((refine (fun (_ : Kept2 s u) => ?_) ?_); (on_goal 1 => clear_value u); (on_goal 2 => subst u)) | clear_value u)
    | refine State.doIf_kept ?_ (fun _ _ => ?_)
    | refine State.modCtx_kept ?_
    | refine State.plan_kept ?_
    | refine State.bump_kept ?_
    | refine State.ackRefresh_kept ?_
    | refine State.openAu_kept ?_
    | refine State.showClasses_kept ?_
    | refine State.showCrew_kept ?_
    | refine State.noteStart_kept ?_
    | refine State.encStatus_kept ?_
    | exact Kept1.fst (by assumption)
    | exact Kept2.snd (by assumption)
    | exact Kept1.of (by assumption) (by assumption)
    | fail_if_no_progress refine kept_mk ?_
    | split
    | fail_if_no_progress refine Kept1.mk ?_

theorem State.keepSource_kept {s t : State} {x0 : Nat} {x1 : EncSource} {x2 : PicRef} (h : Kept s t) : Kept s (State.keepSource t x0 x1 x2) := by
  unfold State.keepSource
  repeat' with_reducible first
    | assumption
    | refine State.keepBuffer_kept ?_
    | refine State.modCtx_kept ?_
    | exact Kept1.fst (by assumption)
    | exact Kept2.snd (by assumption)
    | exact Kept1.of (by assumption) (by assumption)
    | fail_if_no_progress refine kept_mk ?_
    | fail_if_no_progress refine Kept1.mk ?_

theorem State.noteV1_kept {s t : State} {x0 : Nat} {x1 : Bool} (h : Kept s t) : Kept s (State.noteV1 t x0 x1) := by
  unfold State.noteV1
  repeat' with_reducible first
    | assumption
    | refine State.modCtx_kept ?_
    | refine State.sessStatus_kept ?_
    | exact Kept1.fst (by assumption)
    | exact Kept2.snd (by assumption)
    | exact Kept1.of (by assumption) (by assumption)
    | fail_if_no_progress refine kept_mk ?_
    | fail_if_no_progress refine Kept1.mk ?_

theorem State.skipSource_kept {s t : State} {x0 : Nat} {x1 : EncSource} {x2 : List Byte} {x3 : List (Option Nat)} (h : Kept s t) : Kept s (State.skipSource t x0 x1 x2 x3) := by
  unfold State.skipSource
  repeat' with_reducible first
    | assumption
    | refine kept_ite (fun _ => ?_) (fun _ => ?_)
    | refine kept1_ite (fun _ => ?_) (fun _ => ?_)
    | (extract_lets +onlyGivenNames u; first | ((refine (fun (_ : Kept s u) => ?_) ?_); (on_goal 1 => clear_value u); (on_goal 2 => subst u)) | ((refine (fun (_ : Kept1 s u) => ?_) ?_); (on_goal 1 => clear_value u); (on_goal 2 => subst u)) | ((refine (fun (_ : Kept2 s u) => ?_) ?_); (on_goal 1 => clear_value u); (on_goal 2 => subst u)) | clear_value u)
    | refine State.bump_kept ?_
    | refine State.countLate_kept ?_
    | refine State.loadSource_kept ?_
    | refine Kept1.fst (State.loadSource_kept ?_)
    | refine Kept1.of (State.loadSource_kept ?_) (by assumption)
    | refine State.keepSource_kept ?_
    | refine State.modCtx_kept ?_
    | refine State.sourceTs_kept ?_
    | refine Kept2.snd (State.sourceTs_kept ?_)
    | refine Kept2.of (State.sourceTs_kept ?_) (by assumption)
    | refine State.noteV1_kept ?_
    | refine State.showCrew_kept ?_
    | refine State.openAu_kept ?_
    | exact Kept1.fst (by assumption)
    | exact Kept2.snd (by assumption)
    | exact Kept1.of (by assumption) (by assumption)
    | fail_if_no_progress refine kept_mk ?_
    | split
    | fail_if_no_progress refine Kept1.mk ?_

theorem State.startSource_kept {s t : State} {x0 : Nat} {x1 : EncSource} {x2 : List Byte} {x3 : List (Option Nat)} {x4 : Option (Bool × Bool)} (h : Kept s t) : Kept s (State.startSource t x0 x1 x2 x3 x4) := by
  unfold State.startSource
  repeat' with_reducible first
    | assumption
    | refine kept_ite (fun _ => ?_) (fun _ => ?_)
    | refine kept1_ite (fun _ => ?_) (fun _ => ?_)
    | (extract_lets +onlyGivenNames u; first | ((refine (fun (_ : Kept s u) => ?_) ?_); (on_goal 1 => clear_value u); (on_goal 2 => subst u)) | ((refine (fun (_ : Kept1 s u) => ?_) ?_); (on_goal 1 => clear_value u); (on_goal 2 => subst u)) | ((refine (fun (_ : Kept2 s u) => ?_) ?_); (on_goal 1 => clear_value u); (on_goal 2 => subst u)) | clear_value u)
    | refine State.plan_kept ?_
    | refine State.noteV1_kept ?_
    | refine State.countLate_kept ?_
    | refine State.bump_kept ?_
    | refine State.loadSource_kept ?_
    | refine Kept1.fst (State.loadSource_kept ?_)
    | refine Kept1.of (State.loadSource_kept ?_) (by assumption)
    | refine State.modCtx_kept ?_
    | refine State.keepSource_kept ?_
    | refine State.sourceTs_kept ?_
    | refine Kept2.snd (State.sourceTs_kept ?_)
    | refine Kept2.of (State.sourceTs_kept ?_) (by assumption)
    | refine State.beginPicture_kept ?_
    | exact Kept1.fst (by assumption)
    | exact Kept2.snd (by assumption)
    | exact Kept1.of (by assumption) (by assumption)
    | fail_if_no_progress refine kept_mk ?_
    | split
    | fail_if_no_progress refine Kept1.mk ?_

theorem State.encPictureStart_kept {s t : State} {x0 : Nat} {x1 : List Byte} {x2 : List (Option Nat)} (h : Kept s t) : Kept s (State.encPictureStart t x0 x1 x2) := by
  unfold State.encPictureStart
  repeat' with_reducible first
    | assumption
    | refine kept_ite (fun _ => ?_) (fun _ => ?_)
    | refine kept1_ite (fun _ => ?_) (fun _ => ?_)
    | (extract_lets +onlyGivenNames u; first | ((refine (fun (_ : Kept s u) => ?_) ?_); (on_goal 1 => clear_value u); (on_goal 2 => subst u)) | ((refine (fun (_ : Kept1 s u) => ?_) ?_); (on_goal 1 => clear_value u); (on_goal 2 => subst u)) | ((refine (fun (_ : Kept2 s u) => ?_) ?_); (on_goal 1 => clear_value u); (on_goal 2 => subst u)) | clear_value u)
    | refine State.takeSource_kept ?_
    | refine Kept1.fst (State.takeSource_kept ?_)
    | refine Kept1.of (State.takeSource_kept ?_) (by assumption)
    | refine State.countLate_kept ?_
    | refine State.startSource_kept ?_
    | refine State.skipSource_kept ?_
    | exact Kept1.fst (by assumption)
    | exact Kept2.snd (by assumption)
    | exact Kept1.of (by assumption) (by assumption)
    | fail_if_no_progress refine kept_mk ?_
    | split
    | refine Kept1.of ?_ (by assumption)
    | fail_if_no_progress refine Kept1.mk ?_

theorem State.echoDelay_kept {s t : State} {x0 : Nat} {x1 : Nat} {x2 : EncPicture} (h : Kept s t) : Kept s (State.echoDelay t x0 x1 x2) := by
  unfold State.echoDelay
  repeat' with_reducible first
    | assumption
    | refine State.doIf_kept ?_ (fun _ _ => ?_)
    | refine State.keepMax_kept ?_
    | exact Kept1.fst (by assumption)
    | exact Kept2.snd (by assumption)
    | exact Kept1.of (by assumption) (by assumption)
    | fail_if_no_progress refine kept_mk ?_
    | split
    | refine Kept1.of ?_ (by assumption)
    | fail_if_no_progress refine Kept1.mk ?_

theorem State.sliceSend_kept {s t : State} {x0 : Nat} {x1 : List (Option Nat)} (h : Kept s t) : Kept1 s (State.sliceSend t x0 x1) := by
  unfold State.sliceSend
  repeat' with_reducible first
    | assumption
    | refine kept_ite (fun _ => ?_) (fun _ => ?_)
    | refine kept1_ite (fun _ => ?_) (fun _ => ?_)
    | (extract_lets +onlyGivenNames u; first | ((refine (fun (_ : Kept s u) => ?_) ?_); (on_goal 1 => clear_value u); (on_goal 2 => subst u)) | ((refine (fun (_ : Kept1 s u) => ?_) ?_); (on_goal 1 => clear_value u); (on_goal 2 => subst u)) | ((refine (fun (_ : Kept2 s u) => ?_) ?_); (on_goal 1 => clear_value u); (on_goal 2 => subst u)) | clear_value u)
    | refine State.doIf_kept ?_ (fun _ _ => ?_)
    | refine State.echoDelay_kept ?_
    | refine State.emit_kept ?_
    | refine State.modCtx_kept ?_
    | refine State.sendAll_kept ?_
    | exact Kept1.fst (by assumption)
    | exact Kept2.snd (by assumption)
    | exact Kept1.of (by assumption) (by assumption)
    | fail_if_no_progress refine kept_mk ?_
    | split
    | refine Kept1.of ?_ (by assumption)
    | fail_if_no_progress refine Kept1.mk ?_

theorem State.rowSend_kept {s t : State} {x0 : Nat} {x1 : Nat} {x2 : List (Option Nat)} (h : Kept s t) : Kept s (State.rowSend t x0 x1 x2) := by
  unfold State.rowSend
  repeat' with_reducible first
    | assumption
    | refine kept_ite (fun _ => ?_) (fun _ => ?_)
    | refine kept1_ite (fun _ => ?_) (fun _ => ?_)
    | refine foldl_kept (fun _ _ _ => ?_) ?_
    | refine foldl_kept1 (fun _ _ _ => ?_) ?_
    | refine Kept1.fst (foldl_kept1 (fun _ _ _ => ?_) ?_)
    | refine State.sliceSend_kept ?_
    | refine Kept1.fst (State.sliceSend_kept ?_)
    | refine Kept1.of (State.sliceSend_kept ?_) (by assumption)
    | exact Kept1.fst (by assumption)
    | exact Kept2.snd (by assumption)
    | exact Kept1.of (by assumption) (by assumption)
    | fail_if_no_progress refine kept_mk ?_
    | split
    | refine Kept1.of ?_ (by assumption)
    | fail_if_no_progress refine Kept1.mk ?_

theorem execRowSend_kept {s t : State} {x0 : Nat} {x1 : Nat} {x2 : List (Option Nat)} (h : Kept s t) : KeptO s (execRowSend x0 x1 x2 t) := by
  unfold execRowSend
  repeat' with_reducible first
    | assumption
    | refine KeptO.next ?_
    | refine State.ifLive_kept ?_ (fun _ _ => ?_)
    | refine State.rowSend_kept ?_
    | exact Kept1.fst (by assumption)
    | exact Kept2.snd (by assumption)
    | exact Kept1.of (by assumption) (by assumption)
    | fail_if_no_progress refine kept_mk ?_
    | fail_if_no_progress refine Kept1.mk ?_

theorem State.carrySlice_kept {s t : State} {x0 : Nat} {x1 : Nat} (h : Kept s t) : Kept s (State.carrySlice t x0 x1) := by
  unfold State.carrySlice
  repeat' with_reducible first
    | assumption
    | refine kept_ite (fun _ => ?_) (fun _ => ?_)
    | refine kept1_ite (fun _ => ?_) (fun _ => ?_)
    | (extract_lets +onlyGivenNames u; first | ((refine (fun (_ : Kept s u) => ?_) ?_); (on_goal 1 => clear_value u); (on_goal 2 => subst u)) | ((refine (fun (_ : Kept1 s u) => ?_) ?_); (on_goal 1 => clear_value u); (on_goal 2 => subst u)) | ((refine (fun (_ : Kept2 s u) => ?_) ?_); (on_goal 1 => clear_value u); (on_goal 2 => subst u)) | clear_value u)
    | refine State.forEach_kept ?_ (fun _ _ _ => ?_)
    | refine State.modCtx_kept ?_
    | refine State.settleCtu_kept ?_
    | exact Kept1.fst (by assumption)
    | exact Kept2.snd (by assumption)
    | exact Kept1.of (by assumption) (by assumption)
    | fail_if_no_progress refine kept_mk ?_
    | split
    | refine Kept1.of ?_ (by assumption)
    | fail_if_no_progress refine Kept1.mk ?_

theorem State.echoRowCheck_kept {s t : State} {x0 : Nat} {x1 : Nat} {x2 : List SampleDiff} (h : Kept s t) : Kept s (State.echoRowCheck t x0 x1 x2) := by
  unfold State.echoRowCheck
  repeat' with_reducible first
    | assumption
    | refine kept_ite (fun _ => ?_) (fun _ => ?_)
    | refine kept1_ite (fun _ => ?_) (fun _ => ?_)
    | (extract_lets +onlyGivenNames u; first | ((refine (fun (_ : Kept s u) => ?_) ?_); (on_goal 1 => clear_value u); (on_goal 2 => subst u)) | ((refine (fun (_ : Kept1 s u) => ?_) ?_); (on_goal 1 => clear_value u); (on_goal 2 => subst u)) | ((refine (fun (_ : Kept2 s u) => ?_) ?_); (on_goal 1 => clear_value u); (on_goal 2 => subst u)) | clear_value u)
    | refine foldl_kept (fun _ _ _ => ?_) ?_
    | refine foldl_kept1 (fun _ _ _ => ?_) ?_
    | refine Kept1.fst (foldl_kept1 (fun _ _ _ => ?_) ?_)
    | refine State.modCtx_kept ?_
    | refine State.bump_kept ?_
    | refine State.raise_kept ?_
    | refine State.carrySlice_kept ?_
    | exact Kept1.fst (by assumption)
    | exact Kept2.snd (by assumption)
    | exact Kept1.of (by assumption) (by assumption)
    | fail_if_no_progress refine kept_mk ?_
    | split
    | refine Kept1.of ?_ (by assumption)
    | fail_if_no_progress refine Kept1.mk ?_

theorem execEchoRowCheck_kept {s t : State} {x0 : Nat} {x1 : Nat} {x2 : List SampleDiff} (h : Kept s t) : KeptO s (execEchoRowCheck x0 x1 x2 t) := by
  unfold execEchoRowCheck
  repeat' with_reducible first
    | assumption
    | refine KeptO.next ?_
    | refine State.ifLive_kept ?_ (fun _ _ => ?_)
    | refine State.echoRowCheck_kept ?_
    | exact Kept1.fst (by assumption)
    | exact Kept2.snd (by assumption)
    | exact Kept1.of (by assumption) (by assumption)
    | fail_if_no_progress refine kept_mk ?_
    | fail_if_no_progress refine Kept1.mk ?_

theorem State.echoCellCheck_kept {s t : State} {x0 : Nat} {x1 : Nat} {x2 : EncPicture} (h : Kept s t) : Kept s (State.echoCellCheck t x0 x1 x2) := by
  unfold State.echoCellCheck
  repeat' with_reducible first
    | assumption
    | (extract_lets +onlyGivenNames u; first | ((refine (fun (_ : Kept s u) => ?_) ?_); (on_goal 1 => clear_value u); (on_goal 2 => subst u)) | ((refine (fun (_ : Kept1 s u) => ?_) ?_); (on_goal 1 => clear_value u); (on_goal 2 => subst u)) | ((refine (fun (_ : Kept2 s u) => ?_) ?_); (on_goal 1 => clear_value u); (on_goal 2 => subst u)) | ((refine (fun (_ : ∀ t, Kept s t → Kept s (u t)) => ?_) ?_); (on_goal 1 => clear_value u); (on_goal 2 => subst u)) | ((refine (fun (_ : ∀ t a, Kept s t → Kept s (u t a)) => ?_) ?_); (on_goal 1 => clear_value u); (on_goal 2 => subst u)) | ((refine (fun (_ : ∀ t a b, Kept s t → Kept s (u t a b)) => ?_) ?_); (on_goal 1 => clear_value u); (on_goal 2 => subst u)) | ((refine (fun (_ : ∀ t a b c, Kept s t → Kept s (u t a b c)) => ?_) ?_); (on_goal 1 => clear_value u); (on_goal 2 => subst u)) | ((refine (fun (_ : ∀ a t, Kept s t → Kept s (u a t)) => ?_) ?_); (on_goal 1 => clear_value u); (on_goal 2 => subst u)) | ((refine (fun (_ : ∀ a b t, Kept s t → Kept s (u a b t)) => ?_) ?_); (on_goal 1 => clear_value u); (on_goal 2 => subst u)) | ((refine (fun (_ : ∀ a b c t, Kept s t → Kept s (u a b c t)) => ?_) ?_); (on_goal 1 => clear_value u); (on_goal 2 => subst u)) | ((refine (fun (_ : ∀ a b c d t, Kept s t → Kept s (u a b c d t)) => ?_) ?_); (on_goal 1 => clear_value u); (on_goal 2 => subst u)) | clear_value u)
    | intro _ _ _ _ _ _
    | intro _ _ _ _ _
    | intro _ _ _ _
    | intro _ _ _
    | intro _ _
    | refine State.doIf_kept ?_ (fun _ _ => ?_)
    | refine State.modCtx_kept ?_
    | refine State.bump_kept ?_
    | refine State.raise_kept ?_
    | exact Kept1.fst (by assumption)
    | exact Kept2.snd (by assumption)
    | exact Kept1.of (by assumption) (by assumption)
    | fail_if_no_progress refine kept_mk ?_
    | fail_if_no_progress refine Kept1.mk ?_
    | apply_assumption

theorem State.echoJobEnd_kept {s t : State} {x0 : Nat} {x1 : Nat} {x2 : Nat} {x3 : List SampleDiff} (h : Kept s t) : Kept s (State.echoJobEnd t x0 x1 x2 x3) := by
  unfold State.echoJobEnd
  repeat' with_reducible first
    | assumption
    | refine kept_ite (fun _ => ?_) (fun _ => ?_)
    | refine kept1_ite (fun _ => ?_) (fun _ => ?_)
    | (extract_lets +onlyGivenNames u; first | ((refine (fun (_ : Kept s u) => ?_) ?_); (on_goal 1 => clear_value u); (on_goal 2 => subst u)) | ((refine (fun (_ : Kept1 s u) => ?_) ?_); (on_goal 1 => clear_value u); (on_goal 2 => subst u)) | ((refine (fun (_ : Kept2 s u) => ?_) ?_); (on_goal 1 => clear_value u); (on_goal 2 => subst u)) | clear_value u)
    | refine State.forEach_kept ?_ (fun _ _ _ => ?_)
    | refine foldl_kept (fun _ _ _ => ?_) ?_
    | refine foldl_kept1 (fun _ _ _ => ?_) ?_
    | refine Kept1.fst (foldl_kept1 (fun _ _ _ => ?_) ?_)
    | refine State.modCtx_kept ?_
    | refine State.echoCellCheck_kept ?_
    | exact Kept1.fst (by assumption)
    | exact Kept2.snd (by assumption)
    | exact Kept1.of (by assumption) (by assumption)
    | fail_if_no_progress refine kept_mk ?_
    | split
    | refine Kept1.of ?_ (by assumption)
    | fail_if_no_progress refine Kept1.mk ?_

theorem State.filterEnc_kept {s t : State} {x0 : Nat} {x1 : List FilterEdit} (h : Kept s t) : Kept s (State.filterEnc t x0 x1) := by
  unfold State.filterEnc
  repeat' with_reducible first
    | assumption
    | (extract_lets +onlyGivenNames u; first | ((refine (fun (_ : Kept s u) => ?_) ?_); (on_goal 1 => clear_value u); (on_goal 2 => subst u)) | ((refine (fun (_ : Kept1 s u) => ?_) ?_); (on_goal 1 => clear_value u); (on_goal 2 => subst u)) | ((refine (fun (_ : Kept2 s u) => ?_) ?_); (on_goal 1 => clear_value u); (on_goal 2 => subst u)) | clear_value u)
    | refine State.forEach_kept ?_ (fun _ _ _ => ?_)
    | refine State.doIf_kept ?_ (fun _ _ => ?_)
    | refine State.putRect_kept ?_
    | exact Kept1.fst (by assumption)
    | exact Kept2.snd (by assumption)
    | exact Kept1.of (by assumption) (by assumption)
    | fail_if_no_progress refine kept_mk ?_
    | split
    | refine Kept1.of ?_ (by assumption)
    | fail_if_no_progress refine Kept1.mk ?_

theorem State.rateEnd_kept {s t : State} {x0 : Nat} {x1 : EncPicture} {x2 : Nat} (h : Kept s t) : Kept1 s (State.rateEnd t x0 x1 x2) := by
  unfold State.rateEnd
  repeat' with_reducible first
    | assumption
    | refine kept_ite (fun _ => ?_) (fun _ => ?_)
    | refine kept1_ite (fun _ => ?_) (fun _ => ?_)
    | (extract_lets +onlyGivenNames u; first | ((refine (fun (_ : Kept s u) => ?_) ?_); (on_goal 1 => clear_value u); (on_goal 2 => subst u)) | ((refine (fun (_ : Kept1 s u) => ?_) ?_); (on_goal 1 => clear_value u); (on_goal 2 => subst u)) | ((refine (fun (_ : Kept2 s u) => ?_) ?_); (on_goal 1 => clear_value u); (on_goal 2 => subst u)) | clear_value u)
    | refine State.modCtx_kept ?_
    | refine State.setRegN_kept ?_
    | refine State.setReg_kept ?_
    | refine State.bump_kept ?_
    | exact Kept1.fst (by assumption)
    | exact Kept2.snd (by assumption)
    | exact Kept1.of (by assumption) (by assumption)
    | fail_if_no_progress refine kept_mk ?_
    | split
    | fail_if_no_progress refine Kept1.mk ?_

theorem State.encPictureEnd_kept {s t : State} {c : Nat} {p : EncPicture} {sfx : List Byte} {hooks : List (Option Nat)}
    (h : Kept s t) : Kept s (State.encPictureEnd t c p sfx hooks) := by
  unfold State.encPictureEnd
  extract_lets before after es body ahead size q s1 filler refs s2 s3 s4 s5 s6 slices s7 mx fill tail s8 s9
  have h1 : Kept s s1 := Kept1.fst (State.rateEnd_kept h)
  have h2 : Kept s s2 := State.modCtx_kept h1
  have h3 : Kept s s3 := State.doIf_kept h2 fun _ k => State.emit_kept k
  have h4 : Kept s s4 := State.storeCells_kept h3
  have h5 : Kept s s5 := State.doIf_kept h4 fun _ k => State.emit_kept k
  have h6 : Kept s s6 := State.emitSheet_kept h5
  have h7 : Kept s s7 := State.doIf_kept h6 fun _ k => State.forEach_kept k fun _ _ k => State.echoDelay_kept k
  have h8 : Kept s s8 := State.sendAll_kept h7
  have h9 : Kept s s9 := State.bump_kept (State.bump_kept h8)
  exact State.showFresh_kept h9

theorem State.encPictureComplete_kept {s t : State} {x0 : Nat} {x1 : List Byte} {x2 : List (Option Nat)} (h : Kept s t) : Kept s (State.encPictureComplete t x0 x1 x2) := by
  unfold State.encPictureComplete
  repeat' with_reducible first
    | assumption
    | refine kept_ite (fun _ => ?_) (fun _ => ?_)
    | refine kept1_ite (fun _ => ?_) (fun _ => ?_)
    | (extract_lets +onlyGivenNames u; first | ((refine (fun (_ : Kept s u) => ?_) ?_); (on_goal 1 => clear_value u); (on_goal 2 => subst u)) | ((refine (fun (_ : Kept1 s u) => ?_) ?_); (on_goal 1 => clear_value u); (on_goal 2 => subst u)) | ((refine (fun (_ : Kept2 s u) => ?_) ?_); (on_goal 1 => clear_value u); (on_goal 2 => subst u)) | clear_value u)
    | refine State.encPictureEnd_kept ?_
    | exact Kept1.fst (by assumption)
    | exact Kept2.snd (by assumption)
    | exact Kept1.of (by assumption) (by assumption)
    | fail_if_no_progress refine kept_mk ?_
    | split
    | refine Kept1.of ?_ (by assumption)
    | fail_if_no_progress refine Kept1.mk ?_

end Sys2Proof.Machine
end

