-- ==== Sys2Proof/Laws/KeptFlash.lean ====
section
/-! SUPPORT. Every operation of Machine/Flash.lean keeps the waiting commands, the invariant and every programmed bit. -/

namespace Sys2Proof.Machine

set_option linter.unusedTactic false
set_option linter.unreachableTactic false

theorem State.flashWrite_kept {s t : State} {x0 : Nat} {x1 : List Byte} (h : Kept s t) : Kept s (State.flashWrite t x0 x1) := by
  unfold State.flashWrite
  repeat' with_reducible first
    | assumption
    | exact Kept1.fst (by assumption)
    | exact Kept2.snd (by assumption)
    | exact Kept1.of (by assumption) (by assumption)
    | fail_if_no_progress refine kept_mk ?_
    | fail_if_no_progress refine Kept1.mk ?_

theorem State.otpOr_kept {s t : State} {x0 : Nat} {x1 : List Byte} (h : Kept s t) : Kept s (State.otpOr t x0 x1) :=
  ⟨h.pending, fun i => ⟨(h.inv i).regs, (h.inv i).mem, (h.inv i).host, (h.inv i).time⟩, h.otp.trans (otpOr_grows t x0 x1)⟩

end Sys2Proof.Machine
end

