-- ==== Sys2Proof/Laws/KeptPx.lean ====
section
/-! SUPPORT. Every operation of Machine/Px.lean keeps the waiting commands, the invariant and every programmed bit. -/

namespace Sys2Proof.Machine

set_option linter.unusedTactic false
set_option linter.unreachableTactic false

theorem State.setSram_kept {s t : State} {x0 : Nat} {x1 : Nat} {x2 : Nat} (h : Kept s t) : Kept s (State.setSram t x0 x1 x2) := by
  unfold State.setSram
  repeat' with_reducible first
    | assumption
    | exact Kept1.fst (by assumption)
    | exact Kept2.snd (by assumption)
    | exact Kept1.of (by assumption) (by assumption)
    | fail_if_no_progress refine kept_mk ?_
    | fail_if_no_progress refine Kept1.mk ?_

theorem State.storeLanes_kept {s t : State} {x0 : Nat} {x1 : List (Nat × Nat)} {x2 : List Nat} (h : Kept s t) : Kept s (State.storeLanes t x0 x1 x2) := by
  unfold State.storeLanes
  repeat' with_reducible first
    | assumption
    | (extract_lets +onlyGivenNames u; first | ((refine (fun (_ : Kept s u) => ?_) ?_); (on_goal 1 => clear_value u); (on_goal 2 => subst u)) | ((refine (fun (_ : Kept1 s u) => ?_) ?_); (on_goal 1 => clear_value u); (on_goal 2 => subst u)) | ((refine (fun (_ : Kept2 s u) => ?_) ?_); (on_goal 1 => clear_value u); (on_goal 2 => subst u)) | clear_value u)
    | refine State.forEach_kept ?_ (fun _ _ _ => ?_)
    | refine State.doIf_kept ?_ (fun _ _ => ?_)
    | refine State.setSram_kept ?_
    | exact Kept1.fst (by assumption)
    | exact Kept2.snd (by assumption)
    | exact Kept1.of (by assumption) (by assumption)
    | fail_if_no_progress refine kept_mk ?_
    | fail_if_no_progress refine Kept1.mk ?_

theorem State.nanoStep_kept {s t : State} {x0 : Nat} {x1 : Nat} (h : Kept s t) : Kept s (State.nanoStep t x0 x1) := by
  unfold State.nanoStep
  repeat' with_reducible first
    | assumption
    | refine kept_ite (fun _ => ?_) (fun _ => ?_)
    | refine kept1_ite (fun _ => ?_) (fun _ => ?_)
    | (extract_lets +onlyGivenNames u; first | ((refine (fun (_ : Kept s u) => ?_) ?_); (on_goal 1 => clear_value u); (on_goal 2 => subst u)) | ((refine (fun (_ : Kept1 s u) => ?_) ?_); (on_goal 1 => clear_value u); (on_goal 2 => subst u)) | ((refine (fun (_ : Kept2 s u) => ?_) ?_); (on_goal 1 => clear_value u); (on_goal 2 => subst u)) | clear_value u)
    | refine State.doIf_kept ?_ (fun _ _ => ?_)
    | refine State.storeLanes_kept ?_
    | refine State.setPx_kept ?_
    | refine State.emit_kept ?_
    | refine State.modBay_kept ?_
    | exact Kept1.fst (by assumption)
    | exact Kept2.snd (by assumption)
    | exact Kept1.of (by assumption) (by assumption)
    | fail_if_no_progress refine kept_mk ?_
    | split
    | fail_if_no_progress refine Kept1.mk ?_

theorem State.countSteps_kept {s t : State} {x0 : Nat} {x1 : Nat} {x2 : Nat} {x3 : Nat} (h : Kept s t) : Kept s (State.countSteps t x0 x1 x2 x3) := by
  unfold State.countSteps
  repeat' with_reducible first
    | assumption
    | (extract_lets +onlyGivenNames u; first | ((refine (fun (_ : Kept s u) => ?_) ?_); (on_goal 1 => clear_value u); (on_goal 2 => subst u)) | ((refine (fun (_ : Kept1 s u) => ?_) ?_); (on_goal 1 => clear_value u); (on_goal 2 => subst u)) | ((refine (fun (_ : Kept2 s u) => ?_) ?_); (on_goal 1 => clear_value u); (on_goal 2 => subst u)) | clear_value u)
    | refine State.doIf_kept ?_ (fun _ _ => ?_)
    | refine State.modPx_kept ?_
    | refine State.bump_kept ?_
    | exact Kept1.fst (by assumption)
    | exact Kept2.snd (by assumption)
    | exact Kept1.of (by assumption) (by assumption)
    | fail_if_no_progress refine kept_mk ?_
    | fail_if_no_progress refine Kept1.mk ?_

theorem State.pxTrouble_kept {s t : State} {x0 : Nat} {x1 : Nat} {x2 : Nat} {x3 : Nat} {x4 : Nat} {x5 : Nat} (h : Kept s t) : Kept s (State.pxTrouble t x0 x1 x2 x3 x4 x5) := by
  unfold State.pxTrouble
  repeat' with_reducible first
    | assumption
    | (extract_lets +onlyGivenNames u; first | ((refine (fun (_ : Kept s u) => ?_) ?_); (on_goal 1 => clear_value u); (on_goal 2 => subst u)) | ((refine (fun (_ : Kept1 s u) => ?_) ?_); (on_goal 1 => clear_value u); (on_goal 2 => subst u)) | ((refine (fun (_ : Kept2 s u) => ?_) ?_); (on_goal 1 => clear_value u); (on_goal 2 => subst u)) | clear_value u)
    | refine State.setRegN_kept ?_
    | refine State.bump_kept ?_
    | refine State.raise_kept ?_
    | refine State.store_kept ?_
    | refine State.modDpOut_kept ?_
    | refine State.modPx_kept ?_
    | refine State.showPx_kept ?_
    | refine State.pxCheck_kept ?_
    | exact Kept1.fst (by assumption)
    | exact Kept2.snd (by assumption)
    | exact Kept1.of (by assumption) (by assumption)
    | fail_if_no_progress refine kept_mk ?_
    | split
    | refine Kept1.of ?_ (by assumption)
    | fail_if_no_progress refine Kept1.mk ?_

theorem State.pxGo_kept {s t : State} {x0 : Nat} {x1 : Nat} (h : Kept s t) : Kept s (State.pxGo t x0 x1) := by
  unfold State.pxGo
  repeat' with_reducible first
    | assumption
    | refine kept_ite (fun _ => ?_) (fun _ => ?_)
    | refine kept1_ite (fun _ => ?_) (fun _ => ?_)
    | (extract_lets +onlyGivenNames u; first | ((refine (fun (_ : Kept s u) => ?_) ?_); (on_goal 1 => clear_value u); (on_goal 2 => subst u)) | ((refine (fun (_ : Kept1 s u) => ?_) ?_); (on_goal 1 => clear_value u); (on_goal 2 => subst u)) | ((refine (fun (_ : Kept2 s u) => ?_) ?_); (on_goal 1 => clear_value u); (on_goal 2 => subst u)) | clear_value u)
    | refine State.modPx_kept ?_
    | refine State.showPx_kept ?_
    | exact Kept1.fst (by assumption)
    | exact Kept2.snd (by assumption)
    | exact Kept1.of (by assumption) (by assumption)
    | fail_if_no_progress refine kept_mk ?_
    | split
    | refine Kept1.of ?_ (by assumption)
    | fail_if_no_progress refine Kept1.mk ?_

theorem State.pxBranch_kept {s t : State} {x0 : Nat} {x1 : Nat} (h : Kept s t) : Kept s (State.pxBranch t x0 x1) := by
  unfold State.pxBranch
  repeat' with_reducible first
    | assumption
    | refine kept_ite (fun _ => ?_) (fun _ => ?_)
    | refine kept1_ite (fun _ => ?_) (fun _ => ?_)
    | (extract_lets +onlyGivenNames u; first | ((refine (fun (_ : Kept s u) => ?_) ?_); (on_goal 1 => clear_value u); (on_goal 2 => subst u)) | ((refine (fun (_ : Kept1 s u) => ?_) ?_); (on_goal 1 => clear_value u); (on_goal 2 => subst u)) | ((refine (fun (_ : Kept2 s u) => ?_) ?_); (on_goal 1 => clear_value u); (on_goal 2 => subst u)) | clear_value u)
    | refine State.pxTrouble_kept ?_
    | refine State.pxGo_kept ?_
    | exact Kept1.fst (by assumption)
    | exact Kept2.snd (by assumption)
    | exact Kept1.of (by assumption) (by assumption)
    | fail_if_no_progress refine kept_mk ?_
    | split
    | fail_if_no_progress refine Kept1.mk ?_

theorem State.pxNext_kept {s t : State} {x0 : Nat} (h : Kept s t) : Kept s (State.pxNext t x0) := by
  unfold State.pxNext
  repeat' with_reducible first
    | assumption
    | refine State.pxGo_kept ?_
    | exact Kept1.fst (by assumption)
    | exact Kept2.snd (by assumption)
    | exact Kept1.of (by assumption) (by assumption)
    | fail_if_no_progress refine kept_mk ?_
    | fail_if_no_progress refine Kept1.mk ?_

theorem State.pxWord_kept {s t : State} {x0 : Nat} {x1 : Nat} {x2 : Nat → State → State} (h : Kept s t) (hf : ∀ w u, Kept s u → Kept s (x2 w u)) : Kept s (State.pxWord t x0 x1 x2) := by
  unfold State.pxWord
  repeat' with_reducible first
    | assumption
    | refine kept_ite (fun _ => ?_) (fun _ => ?_)
    | refine kept1_ite (fun _ => ?_) (fun _ => ?_)
    | refine hf _ _ ?_
    | (extract_lets +onlyGivenNames u; first | ((refine (fun (_ : Kept s u) => ?_) ?_); (on_goal 1 => clear_value u); (on_goal 2 => subst u)) | ((refine (fun (_ : Kept1 s u) => ?_) ?_); (on_goal 1 => clear_value u); (on_goal 2 => subst u)) | ((refine (fun (_ : Kept2 s u) => ?_) ?_); (on_goal 1 => clear_value u); (on_goal 2 => subst u)) | clear_value u)
    | refine State.pxCheck_kept ?_
    | refine State.pxTrouble_kept ?_
    | refine State.countSteps_kept ?_
    | exact Kept1.fst (by assumption)
    | exact Kept2.snd (by assumption)
    | exact Kept1.of (by assumption) (by assumption)
    | fail_if_no_progress refine kept_mk ?_
    | split
    | fail_if_no_progress refine Kept1.mk ?_

theorem State.nanoRun_kept {s t : State} {x0 : Nat} {x1 : Nat} {x2 : Nat} (h : Kept s t) : Kept s (State.nanoRun x0 x1 x2 t) := by
  induction x2 generalizing t with
  | zero =>
    unfold State.nanoRun
    repeat' with_reducible first
      | assumption
      | refine kept_ite (fun _ => ?_) (fun _ => ?_)
      | refine kept1_ite (fun _ => ?_) (fun _ => ?_)
      | (extract_lets +onlyGivenNames u; first | ((refine (fun (_ : Kept s u) => ?_) ?_); (on_goal 1 => clear_value u); (on_goal 2 => subst u)) | ((refine (fun (_ : Kept1 s u) => ?_) ?_); (on_goal 1 => clear_value u); (on_goal 2 => subst u)) | ((refine (fun (_ : Kept2 s u) => ?_) ?_); (on_goal 1 => clear_value u); (on_goal 2 => subst u)) | clear_value u)
      | refine State.pxNext_kept ?_
      | refine State.pxTrouble_kept ?_
      | refine State.nanoStep_kept ?_
      | exact Kept1.fst (by assumption)
      | exact Kept2.snd (by assumption)
      | exact Kept1.of (by assumption) (by assumption)
      | fail_if_no_progress refine kept_mk ?_
      | split
      | refine Kept1.of ?_ (by assumption)
      | fail_if_no_progress refine Kept1.mk ?_
  | succ n ih =>
    unfold State.nanoRun
    repeat' with_reducible first
      | assumption
      | refine kept_ite (fun _ => ?_) (fun _ => ?_)
      | refine kept1_ite (fun _ => ?_) (fun _ => ?_)
      | refine ih ?_
      | (extract_lets +onlyGivenNames u; first | ((refine (fun (_ : Kept s u) => ?_) ?_); (on_goal 1 => clear_value u); (on_goal 2 => subst u)) | ((refine (fun (_ : Kept1 s u) => ?_) ?_); (on_goal 1 => clear_value u); (on_goal 2 => subst u)) | ((refine (fun (_ : Kept2 s u) => ?_) ?_); (on_goal 1 => clear_value u); (on_goal 2 => subst u)) | clear_value u)
      | refine State.pxNext_kept ?_
      | refine State.pxTrouble_kept ?_
      | refine State.nanoStep_kept ?_
      | exact Kept1.fst (by assumption)
      | exact Kept2.snd (by assumption)
      | exact Kept1.of (by assumption) (by assumption)
      | fail_if_no_progress refine kept_mk ?_
      | split
      | refine Kept1.of ?_ (by assumption)
      | fail_if_no_progress refine Kept1.mk ?_

theorem State.pxNano_kept {s t : State} {x0 : Nat} (h : Kept s t) : Kept s (State.pxNano t x0) := by
  unfold State.pxNano
  repeat' with_reducible first
    | assumption
    | refine kept_ite (fun _ => ?_) (fun _ => ?_)
    | refine kept1_ite (fun _ => ?_) (fun _ => ?_)
    | (extract_lets +onlyGivenNames u; first | ((refine (fun (_ : Kept s u) => ?_) ?_); (on_goal 1 => clear_value u); (on_goal 2 => subst u)) | ((refine (fun (_ : Kept1 s u) => ?_) ?_); (on_goal 1 => clear_value u); (on_goal 2 => subst u)) | ((refine (fun (_ : Kept2 s u) => ?_) ?_); (on_goal 1 => clear_value u); (on_goal 2 => subst u)) | clear_value u)
    | refine State.doIf_kept ?_ (fun _ _ => ?_)
    | refine State.pxWord_kept ?_ (fun _ _ _ => ?_)
    | refine State.pxCheck_kept ?_
    | refine State.pxTrouble_kept ?_
    | refine State.nanoRun_kept ?_
    | refine State.bump_kept ?_
    | exact Kept1.fst (by assumption)
    | exact Kept2.snd (by assumption)
    | exact Kept1.of (by assumption) (by assumption)
    | fail_if_no_progress refine kept_mk ?_
    | split
    | fail_if_no_progress refine Kept1.mk ?_

theorem execPxNano_kept {s t : State} {x0 : Fin 96} (h : Kept s t) : KeptO s (execPxNano x0 t) := by
  unfold execPxNano
  repeat' with_reducible first
    | assumption
    | refine KeptO.next ?_
    | refine State.pxNano_kept ?_
    | exact Kept1.fst (by assumption)
    | exact Kept2.snd (by assumption)
    | exact Kept1.of (by assumption) (by assumption)
    | fail_if_no_progress refine kept_mk ?_
    | fail_if_no_progress refine Kept1.mk ?_

theorem execPxImmLo_kept {s t : State} {x0 : Fin 96} (h : Kept s t) : KeptO s (execPxImmLo x0 t) := by
  unfold execPxImmLo
  repeat' with_reducible first
    | assumption
    | refine KeptO.next ?_
    | refine State.pxWord_kept ?_ (fun _ _ _ => ?_)
    | refine State.modPx_kept ?_
    | refine State.pxNext_kept ?_
    | exact Kept1.fst (by assumption)
    | exact Kept2.snd (by assumption)
    | exact Kept1.of (by assumption) (by assumption)
    | fail_if_no_progress refine kept_mk ?_
    | fail_if_no_progress refine Kept1.mk ?_

theorem execPxImmHi_kept {s t : State} {x0 : Fin 96} (h : Kept s t) : KeptO s (execPxImmHi x0 t) := by
  unfold execPxImmHi
  repeat' with_reducible first
    | assumption
    | refine KeptO.next ?_
    | refine State.pxWord_kept ?_ (fun _ _ _ => ?_)
    | refine State.modPx_kept ?_
    | refine State.pxNext_kept ?_
    | exact Kept1.fst (by assumption)
    | exact Kept2.snd (by assumption)
    | exact Kept1.of (by assumption) (by assumption)
    | fail_if_no_progress refine kept_mk ?_
    | fail_if_no_progress refine Kept1.mk ?_

theorem execPxLoop_kept {s t : State} {x0 : Fin 96} (h : Kept s t) : KeptO s (execPxLoop x0 t) := by
  unfold execPxLoop
  repeat' with_reducible first
    | assumption
    | refine KeptO.next ?_
    | refine State.pxWord_kept ?_ (fun _ _ _ => ?_)
    | refine State.modPx_kept ?_
    | refine State.pxNext_kept ?_
    | exact Kept1.fst (by assumption)
    | exact Kept2.snd (by assumption)
    | exact Kept1.of (by assumption) (by assumption)
    | fail_if_no_progress refine kept_mk ?_
    | fail_if_no_progress refine Kept1.mk ?_

theorem execPxJump_kept {s t : State} {x0 : Fin 96} (h : Kept s t) : KeptO s (execPxJump x0 t) := by
  unfold execPxJump
  repeat' with_reducible first
    | assumption
    | refine kept_ite (fun _ => ?_) (fun _ => ?_)
    | refine kept1_ite (fun _ => ?_) (fun _ => ?_)
    | refine KeptO.next ?_
    | refine State.pxWord_kept ?_ (fun _ _ _ => ?_)
    | refine State.pxBranch_kept ?_
    | refine State.pxNext_kept ?_
    | exact Kept1.fst (by assumption)
    | exact Kept2.snd (by assumption)
    | exact Kept1.of (by assumption) (by assumption)
    | fail_if_no_progress refine kept_mk ?_
    | split
    | fail_if_no_progress refine Kept1.mk ?_

theorem State.pxCall_kept {s t : State} {x0 : Nat} {x1 : Nat} (h : Kept s t) : Kept s (State.pxCall t x0 x1) := by
  unfold State.pxCall
  repeat' with_reducible first
    | assumption
    | refine kept_ite (fun _ => ?_) (fun _ => ?_)
    | refine kept1_ite (fun _ => ?_) (fun _ => ?_)
    | (extract_lets +onlyGivenNames u; first | ((refine (fun (_ : Kept s u) => ?_) ?_); (on_goal 1 => clear_value u); (on_goal 2 => subst u)) | ((refine (fun (_ : Kept1 s u) => ?_) ?_); (on_goal 1 => clear_value u); (on_goal 2 => subst u)) | ((refine (fun (_ : Kept2 s u) => ?_) ?_); (on_goal 1 => clear_value u); (on_goal 2 => subst u)) | clear_value u)
    | refine State.pxNext_kept ?_
    | refine State.pxTrouble_kept ?_
    | refine State.modPx_kept ?_
    | refine State.pxGo_kept ?_
    | exact Kept1.fst (by assumption)
    | exact Kept2.snd (by assumption)
    | exact Kept1.of (by assumption) (by assumption)
    | fail_if_no_progress refine kept_mk ?_
    | split
    | fail_if_no_progress refine Kept1.mk ?_

theorem execPxCall_kept {s t : State} {x0 : Fin 96} (h : Kept s t) : KeptO s (execPxCall x0 t) := by
  unfold execPxCall
  repeat' with_reducible first
    | assumption
    | refine KeptO.next ?_
    | refine State.pxWord_kept ?_ (fun _ _ _ => ?_)
    | refine State.pxCall_kept ?_
    | exact Kept1.fst (by assumption)
    | exact Kept2.snd (by assumption)
    | exact Kept1.of (by assumption) (by assumption)
    | fail_if_no_progress refine kept_mk ?_
    | fail_if_no_progress refine Kept1.mk ?_

theorem State.pxLoopback_kept {s t : State} {x0 : Nat} {x1 : Nat} (h : Kept s t) : Kept s (State.pxLoopback t x0 x1) := by
  unfold State.pxLoopback
  repeat' with_reducible first
    | assumption
    | refine kept_ite (fun _ => ?_) (fun _ => ?_)
    | refine kept1_ite (fun _ => ?_) (fun _ => ?_)
    | (extract_lets +onlyGivenNames u; first | ((refine (fun (_ : Kept s u) => ?_) ?_); (on_goal 1 => clear_value u); (on_goal 2 => subst u)) | ((refine (fun (_ : Kept1 s u) => ?_) ?_); (on_goal 1 => clear_value u); (on_goal 2 => subst u)) | ((refine (fun (_ : Kept2 s u) => ?_) ?_); (on_goal 1 => clear_value u); (on_goal 2 => subst u)) | clear_value u)
    | refine State.modPx_kept ?_
    | refine State.pxNext_kept ?_
    | refine State.pxBranch_kept ?_
    | exact Kept1.fst (by assumption)
    | exact Kept2.snd (by assumption)
    | exact Kept1.of (by assumption) (by assumption)
    | fail_if_no_progress refine kept_mk ?_
    | split
    | fail_if_no_progress refine Kept1.mk ?_

theorem execPxLoopback_kept {s t : State} {x0 : Fin 96} (h : Kept s t) : KeptO s (execPxLoopback x0 t) := by
  unfold execPxLoopback
  repeat' with_reducible first
    | assumption
    | refine KeptO.next ?_
    | refine State.pxWord_kept ?_ (fun _ _ _ => ?_)
    | refine State.pxLoopback_kept ?_
    | exact Kept1.fst (by assumption)
    | exact Kept2.snd (by assumption)
    | exact Kept1.of (by assumption) (by assumption)
    | fail_if_no_progress refine kept_mk ?_
    | fail_if_no_progress refine Kept1.mk ?_

theorem State.pxReturn_kept {s t : State} {x0 : Nat} (h : Kept s t) : Kept s (State.pxReturn t x0) := by
  unfold State.pxReturn
  repeat' with_reducible first
    | assumption
    | (extract_lets +onlyGivenNames u; first | ((refine (fun (_ : Kept s u) => ?_) ?_); (on_goal 1 => clear_value u); (on_goal 2 => subst u)) | ((refine (fun (_ : Kept1 s u) => ?_) ?_); (on_goal 1 => clear_value u); (on_goal 2 => subst u)) | ((refine (fun (_ : Kept2 s u) => ?_) ?_); (on_goal 1 => clear_value u); (on_goal 2 => subst u)) | clear_value u)
    | refine State.pxTrouble_kept ?_
    | refine State.modPx_kept ?_
    | refine State.pxGo_kept ?_
    | exact Kept1.fst (by assumption)
    | exact Kept2.snd (by assumption)
    | exact Kept1.of (by assumption) (by assumption)
    | fail_if_no_progress refine kept_mk ?_
    | split
    | refine Kept1.of ?_ (by assumption)
    | fail_if_no_progress refine Kept1.mk ?_

theorem execPxReturn_kept {s t : State} {x0 : Fin 96} (h : Kept s t) : KeptO s (execPxReturn x0 t) := by
  unfold execPxReturn
  repeat' with_reducible first
    | assumption
    | refine KeptO.next ?_
    | refine State.pxWord_kept ?_ (fun _ _ _ => ?_)
    | refine State.pxReturn_kept ?_
    | exact Kept1.fst (by assumption)
    | exact Kept2.snd (by assumption)
    | exact Kept1.of (by assumption) (by assumption)
    | fail_if_no_progress refine kept_mk ?_
    | fail_if_no_progress refine Kept1.mk ?_

theorem State.pxEnd_kept {s t : State} {x0 : Nat} {x1 : Nat} (h : Kept s t) : Kept s (State.pxEnd t x0 x1) := by
  unfold State.pxEnd
  repeat' with_reducible first
    | assumption
    | (extract_lets +onlyGivenNames u; first | ((refine (fun (_ : Kept s u) => ?_) ?_); (on_goal 1 => clear_value u); (on_goal 2 => subst u)) | ((refine (fun (_ : Kept1 s u) => ?_) ?_); (on_goal 1 => clear_value u); (on_goal 2 => subst u)) | ((refine (fun (_ : Kept2 s u) => ?_) ?_); (on_goal 1 => clear_value u); (on_goal 2 => subst u)) | clear_value u)
    | refine State.doIf_kept ?_ (fun _ _ => ?_)
    | refine State.engineDone_kept ?_
    | refine State.ctuError_kept ?_
    | exact Kept1.fst (by assumption)
    | exact Kept2.snd (by assumption)
    | exact Kept1.of (by assumption) (by assumption)
    | fail_if_no_progress refine kept_mk ?_
    | split
    | refine Kept1.of ?_ (by assumption)
    | fail_if_no_progress refine Kept1.mk ?_

theorem execPxEnd_kept {s t : State} {x0 : Fin 96} (h : Kept s t) : KeptO s (execPxEnd x0 t) := by
  unfold execPxEnd
  repeat' with_reducible first
    | assumption
    | refine KeptO.next ?_
    | refine State.pxWord_kept ?_ (fun _ _ _ => ?_)
    | refine State.pxEnd_kept ?_
    | exact Kept1.fst (by assumption)
    | exact Kept2.snd (by assumption)
    | exact Kept1.of (by assumption) (by assumption)
    | fail_if_no_progress refine kept_mk ?_
    | fail_if_no_progress refine Kept1.mk ?_

theorem execPxWait_kept {s t : State} {x0 : Fin 96} (h : Kept s t) : KeptO s (execPxWait x0 t) := by
  unfold execPxWait
  repeat' with_reducible first
    | assumption
    | refine kept_ite (fun _ => ?_) (fun _ => ?_)
    | refine kept1_ite (fun _ => ?_) (fun _ => ?_)
    | (extract_lets +onlyGivenNames u; first | ((refine (fun (_ : Kept s u) => ?_) ?_); (on_goal 1 => clear_value u); (on_goal 2 => subst u)) | ((refine (fun (_ : Kept1 s u) => ?_) ?_); (on_goal 1 => clear_value u); (on_goal 2 => subst u)) | ((refine (fun (_ : Kept2 s u) => ?_) ?_); (on_goal 1 => clear_value u); (on_goal 2 => subst u)) | clear_value u)
    | refine KeptO.next ?_
    | refine State.pxWord_kept ?_ (fun _ _ _ => ?_)
    | refine State.modPx_kept ?_
    | refine State.pxNext_kept ?_
    | exact Kept1.fst (by assumption)
    | exact Kept2.snd (by assumption)
    | exact Kept1.of (by assumption) (by assumption)
    | fail_if_no_progress refine kept_mk ?_
    | split
    | fail_if_no_progress refine Kept1.mk ?_

theorem State.pxWake_kept {s t : State} {x0 : Nat} {x1 : Nat} (h : Kept s t) : Kept s (State.pxWake t x0 x1) := by
  unfold State.pxWake
  repeat' with_reducible first
    | assumption
    | refine kept_ite (fun _ => ?_) (fun _ => ?_)
    | refine kept1_ite (fun _ => ?_) (fun _ => ?_)
    | refine State.modPx_kept ?_
    | exact Kept1.fst (by assumption)
    | exact Kept2.snd (by assumption)
    | exact Kept1.of (by assumption) (by assumption)
    | fail_if_no_progress refine kept_mk ?_
    | split
    | refine Kept1.of ?_ (by assumption)
    | fail_if_no_progress refine Kept1.mk ?_

theorem execPxWaitWake_kept {s t : State} {x0 : Fin 96} {x1 : Fin 4} (h : Kept s t) : KeptO s (execPxWaitWake x0 x1 t) := by
  unfold execPxWaitWake
  repeat' with_reducible first
    | assumption
    | refine KeptO.next ?_
    | refine State.pxWake_kept ?_
    | exact Kept1.fst (by assumption)
    | exact Kept2.snd (by assumption)
    | exact Kept1.of (by assumption) (by assumption)
    | fail_if_no_progress refine kept_mk ?_
    | fail_if_no_progress refine Kept1.mk ?_

theorem execPxBreak_kept {s t : State} {x0 : Fin 96} (h : Kept s t) : KeptO s (execPxBreak x0 t) := by
  unfold execPxBreak
  repeat' with_reducible first
    | assumption
    | refine KeptO.next ?_
    | refine State.pxWord_kept ?_ (fun _ _ _ => ?_)
    | refine State.modPx_kept ?_
    | exact Kept1.fst (by assumption)
    | exact Kept2.snd (by assumption)
    | exact Kept1.of (by assumption) (by assumption)
    | fail_if_no_progress refine kept_mk ?_
    | fail_if_no_progress refine Kept1.mk ?_

end Sys2Proof.Machine
end

