-- ==== Sys2Proof/Laws/KeptHost.lean ====
section
/-! SUPPORT. Every operation of Machine/Host.lean keeps the waiting commands, the invariant and every programmed bit. -/

namespace Sys2Proof.Machine

set_option linter.unusedTactic false
set_option linter.unreachableTactic false

theorem State.showPcie_kept {s t : State} (h : Kept s t) : Kept s (State.showPcie t) := by
  unfold State.showPcie
  repeat' with_reducible first
    | assumption
    | refine State.setRegN_kept ?_
    | exact Kept1.fst (by assumption)
    | exact Kept2.snd (by assumption)
    | exact Kept1.of (by assumption) (by assumption)
    | fail_if_no_progress refine kept_mk ?_
    | fail_if_no_progress refine Kept1.mk ?_

theorem State.popMany_kept {s t : State} {x0 : Nat} {x1 : Nat} (h : Kept s t) : Kept1 s (State.popMany t x0 x1) := by
  induction x1 generalizing t with
  | zero =>
    unfold State.popMany
    repeat' with_reducible first
      | assumption
      | refine State.fifoPop_kept ?_
      | refine Kept1.fst (State.fifoPop_kept ?_)
      | refine Kept1.of (State.fifoPop_kept ?_) (by assumption)
      | exact Kept1.fst (by assumption)
      | exact Kept2.snd (by assumption)
      | exact Kept1.of (by assumption) (by assumption)
      | fail_if_no_progress refine kept_mk ?_
      | split
      | refine Kept1.of ?_ (by assumption)
      | fail_if_no_progress refine Kept1.mk ?_
  | succ n ih =>
    unfold State.popMany
    repeat' with_reducible first
      | assumption
      | refine ih ?_
      | refine Kept1.of (ih ?_) (by assumption)
      | refine State.fifoPop_kept ?_
      | refine Kept1.fst (State.fifoPop_kept ?_)
      | refine Kept1.of (State.fifoPop_kept ?_) (by assumption)
      | exact Kept1.fst (by assumption)
      | exact Kept2.snd (by assumption)
      | exact Kept1.of (by assumption) (by assumption)
      | fail_if_no_progress refine kept_mk ?_
      | split
      | refine Kept1.of ?_ (by assumption)
      | fail_if_no_progress refine Kept1.mk ?_

theorem State.rangeRead_kept {s t : State} {x0 : Nat} {x1 : Nat} (h : Kept s t) : Kept1 s (State.rangeRead t x0 x1) := by
  unfold State.rangeRead
  repeat' with_reducible first
    | assumption
    | refine kept_ite (fun _ => ?_) (fun _ => ?_)
    | refine kept1_ite (fun _ => ?_) (fun _ => ?_)
    | refine State.popMany_kept ?_
    | refine Kept1.fst (State.popMany_kept ?_)
    | refine Kept1.of (State.popMany_kept ?_) (by assumption)
    | exact Kept1.fst (by assumption)
    | exact Kept2.snd (by assumption)
    | exact Kept1.of (by assumption) (by assumption)
    | fail_if_no_progress refine kept_mk ?_
    | split
    | refine Kept1.of ?_ (by assumption)
    | fail_if_no_progress refine Kept1.mk ?_

theorem State.rangeWrite_kept {s t : State} {x0 : Nat} {x1 : Nat} {x2 : List Byte} (h : Kept s t) : Kept s (State.rangeWrite t x0 x1 x2) := by
  unfold State.rangeWrite
  repeat' with_reducible first
    | assumption
    | refine kept_ite (fun _ => ?_) (fun _ => ?_)
    | refine kept1_ite (fun _ => ?_) (fun _ => ?_)
    | refine State.forEach_kept ?_ (fun _ _ _ => ?_)
    | refine State.fifoPush_kept ?_
    | refine State.devWrite_kept ?_
    | exact Kept1.fst (by assumption)
    | exact Kept2.snd (by assumption)
    | exact Kept1.of (by assumption) (by assumption)
    | fail_if_no_progress refine kept_mk ?_
    | split
    | refine Kept1.of ?_ (by assumption)
    | fail_if_no_progress refine Kept1.mk ?_

theorem State.bar2_kept {s t : State} {x0 : BarAsk} (h : Kept s t) : Kept s (State.bar2 t x0) := by
  unfold State.bar2
  repeat' with_reducible first
    | assumption
    | refine kept_ite (fun _ => ?_) (fun _ => ?_)
    | refine kept1_ite (fun _ => ?_) (fun _ => ?_)
    | (extract_lets +onlyGivenNames u; first | ((refine (fun (_ : Kept s u) => ?_) ?_); (on_goal 1 => clear_value u); (on_goal 2 => subst u)) | ((refine (fun (_ : Kept1 s u) => ?_) ?_); (on_goal 1 => clear_value u); (on_goal 2 => subst u)) | ((refine (fun (_ : Kept2 s u) => ?_) ?_); (on_goal 1 => clear_value u); (on_goal 2 => subst u)) | clear_value u)
    | refine State.forEach_kept ?_ (fun _ _ _ => ?_)
    | refine State.bump_kept ?_
    | refine State.emit_kept ?_
    | refine State.rangeWrite_kept ?_
    | refine State.rangeRead_kept ?_
    | refine Kept1.fst (State.rangeRead_kept ?_)
    | refine Kept1.of (State.rangeRead_kept ?_) (by assumption)
    | exact Kept1.fst (by assumption)
    | exact Kept2.snd (by assumption)
    | exact Kept1.of (by assumption) (by assumption)
    | fail_if_no_progress refine kept_mk ?_
    | split
    | refine Kept1.of ?_ (by assumption)
    | fail_if_no_progress refine Kept1.mk ?_

theorem execBar2Access_kept {s t : State} {x0 : BarAsk} (h : Kept s t) : KeptO s (execBar2Access x0 t) := by
  unfold execBar2Access
  repeat' with_reducible first
    | assumption
    | refine KeptO.next ?_
    | refine State.bar2_kept ?_
    | exact Kept1.fst (by assumption)
    | exact Kept2.snd (by assumption)
    | exact Kept1.of (by assumption) (by assumption)
    | fail_if_no_progress refine kept_mk ?_
    | fail_if_no_progress refine Kept1.mk ?_

theorem execWinBaseWrite_kept {s t : State} {x0 : Word} (h : Kept s t) : KeptO s (execWinBaseWrite x0 t) := by
  unfold execWinBaseWrite
  repeat' with_reducible first
    | assumption
    | refine KeptO.next ?_
    | refine State.doIf_kept ?_ (fun _ _ => ?_)
    | refine State.setReg_kept ?_
    | exact Kept1.fst (by assumption)
    | exact Kept2.snd (by assumption)
    | exact Kept1.of (by assumption) (by assumption)
    | fail_if_no_progress refine kept_mk ?_
    | fail_if_no_progress refine Kept1.mk ?_

theorem execPoisonedRequest_kept {s t : State} (h : Kept s t) : KeptO s (execPoisonedRequest t) := by
  unfold execPoisonedRequest
  repeat' with_reducible first
    | assumption
    | refine KeptO.next ?_
    | refine State.doIf_kept ?_ (fun _ _ => ?_)
    | refine State.bump_kept ?_
    | exact Kept1.fst (by assumption)
    | exact Kept2.snd (by assumption)
    | exact Kept1.of (by assumption) (by assumption)
    | fail_if_no_progress refine kept_mk ?_
    | fail_if_no_progress refine Kept1.mk ?_

theorem State.setHostQ_kept {s t : State} {x0 : Nat} {x1 : HostQ} (h : Kept s t) : Kept s (State.setHostQ t x0 x1) := by
  unfold State.setHostQ
  repeat' with_reducible first
    | assumption
    | exact Kept1.fst (by assumption)
    | exact Kept2.snd (by assumption)
    | exact Kept1.of (by assumption) (by assumption)
    | fail_if_no_progress refine kept_mk ?_
    | fail_if_no_progress refine Kept1.mk ?_

theorem State.issueTally_kept {s t : State} {x0 : Nat} (h : Kept s t) : Kept1 s (State.issueTally t x0) := by
  unfold State.issueTally
  repeat' with_reducible first
    | assumption
    | (extract_lets +onlyGivenNames u; first | ((refine (fun (_ : Kept s u) => ?_) ?_); (on_goal 1 => clear_value u); (on_goal 2 => subst u)) | ((refine (fun (_ : Kept1 s u) => ?_) ?_); (on_goal 1 => clear_value u); (on_goal 2 => subst u)) | ((refine (fun (_ : Kept2 s u) => ?_) ?_); (on_goal 1 => clear_value u); (on_goal 2 => subst u)) | clear_value u)
    | refine State.setHostQ_kept ?_
    | refine State.setRegN_kept ?_
    | exact Kept1.fst (by assumption)
    | exact Kept2.snd (by assumption)
    | exact Kept1.of (by assumption) (by assumption)
    | fail_if_no_progress refine kept_mk ?_
    | fail_if_no_progress refine Kept1.mk ?_

theorem State.landEntry_kept {s t : State} {x0 : Nat} {x1 : Nat} {x2 : List Byte} (h : Kept s t) : Kept s (State.landEntry t x0 x1 x2) := by
  unfold State.landEntry
  repeat' with_reducible first
    | assumption
    | (extract_lets +onlyGivenNames u; first | ((refine (fun (_ : Kept s u) => ?_) ?_); (on_goal 1 => clear_value u); (on_goal 2 => subst u)) | ((refine (fun (_ : Kept1 s u) => ?_) ?_); (on_goal 1 => clear_value u); (on_goal 2 => subst u)) | ((refine (fun (_ : Kept2 s u) => ?_) ?_); (on_goal 1 => clear_value u); (on_goal 2 => subst u)) | clear_value u)
    | refine State.hostWrite_kept ?_
    | refine State.setHostQ_kept ?_
    | refine State.setReg64_kept ?_
    | exact Kept1.fst (by assumption)
    | exact Kept2.snd (by assumption)
    | exact Kept1.of (by assumption) (by assumption)
    | fail_if_no_progress refine kept_mk ?_
    | fail_if_no_progress refine Kept1.mk ?_

theorem State.putEntry_kept {s t : State} {x0 : Nat} {x1 : Nat} {x2 : List Byte} (h : Kept s t) : Kept s (State.putEntry t x0 x1 x2) := by
  unfold State.putEntry
  repeat' with_reducible first
    | assumption
    | refine kept_ite (fun _ => ?_) (fun _ => ?_)
    | refine kept1_ite (fun _ => ?_) (fun _ => ?_)
    | refine State.landEntry_kept ?_
    | exact Kept1.fst (by assumption)
    | exact Kept2.snd (by assumption)
    | exact Kept1.of (by assumption) (by assumption)
    | fail_if_no_progress refine kept_mk ?_
    | split
    | fail_if_no_progress refine Kept1.mk ?_

theorem State.countWrite_kept {s t : State} {x0 : Nat} (h : Kept s t) : Kept s (State.countWrite t x0) := by
  unfold State.countWrite
  repeat' with_reducible first
    | assumption
    | refine kept_ite (fun _ => ?_) (fun _ => ?_)
    | refine kept1_ite (fun _ => ?_) (fun _ => ?_)
    | (extract_lets +onlyGivenNames u; first | ((refine (fun (_ : Kept s u) => ?_) ?_); (on_goal 1 => clear_value u); (on_goal 2 => subst u)) | ((refine (fun (_ : Kept1 s u) => ?_) ?_); (on_goal 1 => clear_value u); (on_goal 2 => subst u)) | ((refine (fun (_ : Kept2 s u) => ?_) ?_); (on_goal 1 => clear_value u); (on_goal 2 => subst u)) | clear_value u)
    | refine State.setHostQ_kept ?_
    | refine State.hostWrite_kept ?_
    | exact Kept1.fst (by assumption)
    | exact Kept2.snd (by assumption)
    | exact Kept1.of (by assumption) (by assumption)
    | fail_if_no_progress refine kept_mk ?_
    | split
    | fail_if_no_progress refine Kept1.mk ?_

theorem execTallyCountWrite_kept {s t : State} {x0 : Fin 16} (h : Kept s t) : KeptO s (execTallyCountWrite x0 t) := by
  unfold execTallyCountWrite
  repeat' with_reducible first
    | assumption
    | refine KeptO.next ?_
    | refine State.countWrite_kept ?_
    | exact Kept1.fst (by assumption)
    | exact Kept2.snd (by assumption)
    | exact Kept1.of (by assumption) (by assumption)
    | fail_if_no_progress refine kept_mk ?_
    | fail_if_no_progress refine Kept1.mk ?_

theorem State.tallyAck_kept {s t : State} {x0 : Nat} {x1 : Word} (h : Kept s t) : Kept s (State.tallyAck t x0 x1) := by
  unfold State.tallyAck
  repeat' with_reducible first
    | assumption
    | refine kept_ite (fun _ => ?_) (fun _ => ?_)
    | refine kept1_ite (fun _ => ?_) (fun _ => ?_)
    | refine State.setReg_kept ?_
    | refine State.bump_kept ?_
    | exact Kept1.fst (by assumption)
    | exact Kept2.snd (by assumption)
    | exact Kept1.of (by assumption) (by assumption)
    | fail_if_no_progress refine kept_mk ?_
    | split
    | fail_if_no_progress refine Kept1.mk ?_

theorem execTallyAckWrite_kept {s t : State} {x0 : Fin 16} {x1 : Word} (h : Kept s t) : KeptO s (execTallyAckWrite x0 x1 t) := by
  unfold execTallyAckWrite
  repeat' with_reducible first
    | assumption
    | refine KeptO.next ?_
    | refine State.tallyAck_kept ?_
    | exact Kept1.fst (by assumption)
    | exact Kept2.snd (by assumption)
    | exact Kept1.of (by assumption) (by assumption)
    | fail_if_no_progress refine kept_mk ?_
    | fail_if_no_progress refine Kept1.mk ?_

theorem State.notice_kept {s t : State} {x0 : Nat} {x1 : Nat} {x2 : Nat} {x3 : Nat} {x4 : Nat} (h : Kept s t) : Kept s (State.notice t x0 x1 x2 x3 x4) := by
  unfold State.notice
  repeat' with_reducible first
    | assumption
    | refine kept_ite (fun _ => ?_) (fun _ => ?_)
    | refine kept1_ite (fun _ => ?_) (fun _ => ?_)
    | (extract_lets +onlyGivenNames u; first | ((refine (fun (_ : Kept s u) => ?_) ?_); (on_goal 1 => clear_value u); (on_goal 2 => subst u)) | ((refine (fun (_ : Kept1 s u) => ?_) ?_); (on_goal 1 => clear_value u); (on_goal 2 => subst u)) | ((refine (fun (_ : Kept2 s u) => ?_) ?_); (on_goal 1 => clear_value u); (on_goal 2 => subst u)) | clear_value u)
    | refine State.doIf_kept ?_ (fun _ _ => ?_)
    | refine State.bump_kept ?_
    | refine State.issueTally_kept ?_
    | refine Kept1.fst (State.issueTally_kept ?_)
    | refine Kept1.of (State.issueTally_kept ?_) (by assumption)
    | refine State.putEntry_kept ?_
    | refine State.emit_kept ?_
    | exact Kept1.fst (by assumption)
    | exact Kept2.snd (by assumption)
    | exact Kept1.of (by assumption) (by assumption)
    | fail_if_no_progress refine kept_mk ?_
    | split
    | refine Kept1.of ?_ (by assumption)
    | fail_if_no_progress refine Kept1.mk ?_

theorem State.cmdEnd_kept {s t : State} {x0 : CmdJob} {x1 : Nat} {x2 : List Byte} (h : Kept s t) : Kept s (State.cmdEnd t x0 x1 x2) := by
  unfold State.cmdEnd
  repeat' with_reducible first
    | assumption
    | (extract_lets +onlyGivenNames u; first | ((refine (fun (_ : Kept s u) => ?_) ?_); (on_goal 1 => clear_value u); (on_goal 2 => subst u)) | ((refine (fun (_ : Kept1 s u) => ?_) ?_); (on_goal 1 => clear_value u); (on_goal 2 => subst u)) | ((refine (fun (_ : Kept2 s u) => ?_) ?_); (on_goal 1 => clear_value u); (on_goal 2 => subst u)) | clear_value u)
    | refine State.putEntry_kept ?_
    | exact Kept1.fst (by assumption)
    | exact Kept2.snd (by assumption)
    | exact Kept1.of (by assumption) (by assumption)
    | fail_if_no_progress refine kept_mk ?_
    | fail_if_no_progress refine Kept1.mk ?_

theorem State.cmdSweep_kept {s t : State} {x0 : Nat} {x1 : Nat} (h : Kept s t) : Kept s (State.cmdSweep t x0 x1) := by
  induction x1 generalizing t with
  | zero =>
    unfold State.cmdSweep
    repeat' with_reducible first
      | assumption
      | refine State.cmdEnd_kept ?_
      | exact Kept1.fst (by assumption)
      | exact Kept2.snd (by assumption)
      | exact Kept1.of (by assumption) (by assumption)
      | fail_if_no_progress refine kept_mk ?_
      | split
      | refine Kept1.of ?_ (by assumption)
      | fail_if_no_progress refine Kept1.mk ?_
  | succ n ih =>
    unfold State.cmdSweep
    repeat' with_reducible first
      | assumption
      | refine ih ?_
      | refine State.cmdEnd_kept ?_
      | exact Kept1.fst (by assumption)
      | exact Kept2.snd (by assumption)
      | exact Kept1.of (by assumption) (by assumption)
      | fail_if_no_progress refine kept_mk ?_
      | split
      | refine Kept1.of ?_ (by assumption)
      | fail_if_no_progress refine Kept1.mk ?_

theorem State.sweepQueue_kept {s t : State} {x0 : Nat} (h : Kept s t) : Kept s (State.sweepQueue t x0) := by
  unfold State.sweepQueue
  repeat' with_reducible first
    | assumption
    | refine State.cmdSweep_kept ?_
    | exact Kept1.fst (by assumption)
    | exact Kept2.snd (by assumption)
    | exact Kept1.of (by assumption) (by assumption)
    | fail_if_no_progress refine kept_mk ?_
    | fail_if_no_progress refine Kept1.mk ?_

theorem State.cmdRun_kept {s t : State} {x0 : Nat} {x1 : Nat} {x2 : Bool} {x3 : List Byte → State → State × Nat × List Byte} (h : Kept s t) (hf : ∀ a u, Kept s u → Kept1 s (x3 a u)) : Kept s (State.cmdRun t x0 x1 x2 x3) := by
  unfold State.cmdRun
  repeat' with_reducible first
    | assumption
    | refine hf _ _ ?_
    | refine Kept1.of (hf _ _ ?_) (by assumption)
    | refine Kept1.fst (hf _ _ ?_)
    | refine State.cmdEnd_kept ?_
    | refine State.sweepQueue_kept ?_
    | exact Kept1.fst (by assumption)
    | exact Kept2.snd (by assumption)
    | exact Kept1.of (by assumption) (by assumption)
    | fail_if_no_progress refine kept_mk ?_
    | split
    | refine Kept1.of ?_ (by assumption)
    | fail_if_no_progress refine Kept1.mk ?_

theorem State.cmdFetch_kept {s t : State} (h : Kept s t) : Kept s (State.cmdFetch t) := by
  unfold State.cmdFetch
  repeat' with_reducible first
    | assumption
    | refine kept_ite (fun _ => ?_) (fun _ => ?_)
    | refine kept1_ite (fun _ => ?_) (fun _ => ?_)
    | (extract_lets +onlyGivenNames u; first | ((refine (fun (_ : Kept s u) => ?_) ?_); (on_goal 1 => clear_value u); (on_goal 2 => subst u)) | ((refine (fun (_ : Kept1 s u) => ?_) ?_); (on_goal 1 => clear_value u); (on_goal 2 => subst u)) | ((refine (fun (_ : Kept2 s u) => ?_) ?_); (on_goal 1 => clear_value u); (on_goal 2 => subst u)) | clear_value u)
    | refine State.issueTally_kept ?_
    | refine Kept1.fst (State.issueTally_kept ?_)
    | refine Kept1.of (State.issueTally_kept ?_) (by assumption)
    | refine State.setHostQ_kept ?_
    | refine State.setRegN_kept ?_
    | refine State.sweepQueue_kept ?_
    | exact Kept1.fst (by assumption)
    | exact Kept2.snd (by assumption)
    | exact Kept1.of (by assumption) (by assumption)
    | fail_if_no_progress refine kept_mk ?_
    | split
    | refine Kept1.of ?_ (by assumption)
    | fail_if_no_progress refine Kept1.mk ?_

theorem execCmdFetch_kept {s t : State} (h : Kept s t) : KeptO s (execCmdFetch t) := by
  unfold execCmdFetch
  repeat' with_reducible first
    | assumption
    | refine KeptO.next ?_
    | refine State.cmdFetch_kept ?_
    | exact Kept1.fst (by assumption)
    | exact Kept2.snd (by assumption)
    | exact Kept1.of (by assumption) (by assumption)
    | fail_if_no_progress refine kept_mk ?_
    | fail_if_no_progress refine Kept1.mk ?_

theorem State.doorbell_kept {s t : State} {x0 : Nat} {x1 : Word} (h : Kept s t) : Kept s (State.doorbell t x0 x1) := by
  unfold State.doorbell
  repeat' with_reducible first
    | assumption
    | refine kept_ite (fun _ => ?_) (fun _ => ?_)
    | refine kept1_ite (fun _ => ?_) (fun _ => ?_)
    | refine State.bump_kept ?_
    | refine State.setRegN_kept ?_
    | refine State.blockCue_kept ?_
    | exact Kept1.fst (by assumption)
    | exact Kept2.snd (by assumption)
    | exact Kept1.of (by assumption) (by assumption)
    | fail_if_no_progress refine kept_mk ?_
    | split
    | fail_if_no_progress refine Kept1.mk ?_

theorem execDoorbellWrite_kept {s t : State} {x0 : Fin 16} {x1 : Word} (h : Kept s t) : KeptO s (execDoorbellWrite x0 x1 t) := by
  unfold execDoorbellWrite
  repeat' with_reducible first
    | assumption
    | refine KeptO.next ?_
    | refine State.doorbell_kept ?_
    | exact Kept1.fst (by assumption)
    | exact Kept2.snd (by assumption)
    | exact Kept1.of (by assumption) (by assumption)
    | fail_if_no_progress refine kept_mk ?_
    | fail_if_no_progress refine Kept1.mk ?_

theorem execNop_kept {s t : State} {x0 : Fin 16} (h : Kept s t) : KeptO s (execNop x0 t) := by
  unfold execNop
  repeat' with_reducible first
    | assumption
    | refine KeptO.next ?_
    | refine State.cmdRun_kept ?_ (fun _ _ _ => ?_)
    | exact Kept1.fst (by assumption)
    | exact Kept2.snd (by assumption)
    | exact Kept1.of (by assumption) (by assumption)
    | fail_if_no_progress refine kept_mk ?_
    | fail_if_no_progress refine Kept1.mk ?_

theorem State.flowOp_kept {s t : State} {x0 : Nat} {x1 : Nat} (h : Kept s t) : Kept1 s (State.flowOp t x0 x1) := by
  unfold State.flowOp
  repeat' with_reducible first
    | assumption
    | refine kept_ite (fun _ => ?_) (fun _ => ?_)
    | refine kept1_ite (fun _ => ?_) (fun _ => ?_)
    | refine State.flowRead_kept ?_
    | refine State.flowWriteNew_kept ?_
    | refine Kept1.fst (State.flowWriteNew_kept ?_)
    | refine Kept1.of (State.flowWriteNew_kept ?_) (by assumption)
    | refine State.flowUpdate_kept ?_
    | refine Kept1.fst (State.flowUpdate_kept ?_)
    | refine Kept1.of (State.flowUpdate_kept ?_) (by assumption)
    | refine State.flowInvalidate_kept ?_
    | exact Kept1.fst (by assumption)
    | exact Kept2.snd (by assumption)
    | exact Kept1.of (by assumption) (by assumption)
    | fail_if_no_progress refine kept_mk ?_
    | split
    | fail_if_no_progress refine Kept1.mk ?_

theorem State.flowCmd_kept {s t : State} {x0 : Bool} {x1 : List Byte} (h : Kept s t) : Kept1 s (State.flowCmd t x0 x1) := by
  unfold State.flowCmd
  repeat' with_reducible first
    | assumption
    | refine kept_ite (fun _ => ?_) (fun _ => ?_)
    | refine kept1_ite (fun _ => ?_) (fun _ => ?_)
    | (extract_lets +onlyGivenNames u; first | ((refine (fun (_ : Kept s u) => ?_) ?_); (on_goal 1 => clear_value u); (on_goal 2 => subst u)) | ((refine (fun (_ : Kept1 s u) => ?_) ?_); (on_goal 1 => clear_value u); (on_goal 2 => subst u)) | ((refine (fun (_ : Kept2 s u) => ?_) ?_); (on_goal 1 => clear_value u); (on_goal 2 => subst u)) | clear_value u)
    | refine State.forEach_kept ?_ (fun _ _ _ => ?_)
    | refine State.doIf_kept ?_ (fun _ _ => ?_)
    | refine State.setRegN_kept ?_
    | refine State.flowOp_kept ?_
    | refine Kept1.fst (State.flowOp_kept ?_)
    | refine Kept1.of (State.flowOp_kept ?_) (by assumption)
    | refine State.hostWrite_kept ?_
    | exact Kept1.fst (by assumption)
    | exact Kept2.snd (by assumption)
    | exact Kept1.of (by assumption) (by assumption)
    | fail_if_no_progress refine kept_mk ?_
    | split
    | fail_if_no_progress refine Kept1.mk ?_

theorem execFlowCmd_kept {s t : State} {x0 : Fin 16} {x1 : Bool} (h : Kept s t) : KeptO s (execFlowCmd x0 x1 t) := by
  unfold execFlowCmd
  repeat' with_reducible first
    | assumption
    | refine KeptO.next ?_
    | refine State.cmdRun_kept ?_ (fun _ _ _ => ?_)
    | refine State.flowCmd_kept ?_
    | refine Kept1.fst (State.flowCmd_kept ?_)
    | refine Kept1.of (State.flowCmd_kept ?_) (by assumption)
    | exact Kept1.fst (by assumption)
    | exact Kept2.snd (by assumption)
    | exact Kept1.of (by assumption) (by assumption)
    | fail_if_no_progress refine kept_mk ?_
    | fail_if_no_progress refine Kept1.mk ?_

theorem sdpParam_kept {s t : State} {c : Nat} {p : List Byte × List Byte} {f : State → State}
    (e : sdpParam c p = some f) (h : Kept s t) : Kept s (f t) := by
  unfold sdpParam at e
  extract_lets num at e
  have hn : ∀ lo hi g, num lo hi g = some f → (∀ v u, Kept s u → Kept s (g v u)) → Kept s (f t) := by
    intro lo hi g e k
    simp only [num] at e
    split at e
    · split at e
      · cases e; exact k _ _ h
      · cases e
    · cases e
  split at e
  · exact hn _ _ _ e fun _ _ k => State.sdpField_kept k
  split at e
  · exact hn _ _ _ e fun _ _ k => State.setFld_kept k
  split at e
  · exact hn _ _ _ e fun _ _ k => State.setFld_kept k
  split at e
  · exact hn _ _ _ e fun _ _ k => State.sdpField_kept k
  split at e
  · exact hn _ _ _ e fun _ _ k => State.setFld_kept k
  split at e
  · split at e
    · cases e; exact h
    · cases e
  split at e
  · exact hn _ _ _ e fun _ _ k => State.doIf_kept (State.writeSessCtrl_kept k) fun _ k => State.setFld_kept k
  · cases e

theorem sdpFold_kept {s : State} {c : Nat} (l : List (List Byte × List Byte)) :
    ∀ t, Kept s t → Kept s ((l.map (sdpParam c)).foldl (fun s f => f.getD id s) t) := by
  induction l with
  | nil => intro t h; exact h
  | cons p l ih =>
    intro t h
    refine ih _ ?_
    cases e : sdpParam c p with
    | none => exact h
    | some f => exact sdpParam_kept e h

theorem State.sdpApply_kept {s t : State} {b : Bool} {a : List Byte} (h : Kept s t) : Kept1 s (State.sdpApply t b a) := by
  unfold State.sdpApply
  extract_lets c len ps fs
  split
  · exact Kept1.mk h
  split
  · exact Kept1.mk h
  split
  · exact Kept1.mk h
  · exact Kept1.mk (sdpFold_kept ps t h)

theorem execSdpApply_kept {s t : State} {x0 : Fin 16} {x1 : Bool} (h : Kept s t) : KeptO s (execSdpApply x0 x1 t) := by
  unfold execSdpApply
  repeat' with_reducible first
    | assumption
    | refine KeptO.next ?_
    | refine State.cmdRun_kept ?_ (fun _ _ _ => ?_)
    | refine State.sdpApply_kept ?_
    | refine Kept1.fst (State.sdpApply_kept ?_)
    | refine Kept1.of (State.sdpApply_kept ?_) (by assumption)
    | exact Kept1.fst (by assumption)
    | exact Kept2.snd (by assumption)
    | exact Kept1.of (by assumption) (by assumption)
    | fail_if_no_progress refine kept_mk ?_
    | fail_if_no_progress refine Kept1.mk ?_

theorem State.ptpConfig_kept {s t : State} {x0 : List Byte} (h : Kept s t) : Kept1 s (State.ptpConfig t x0) := by
  unfold State.ptpConfig
  repeat' with_reducible first
    | assumption
    | refine kept_ite (fun _ => ?_) (fun _ => ?_)
    | refine kept1_ite (fun _ => ?_) (fun _ => ?_)
    | (extract_lets +onlyGivenNames u; first | ((refine (fun (_ : Kept s u) => ?_) ?_); (on_goal 1 => clear_value u); (on_goal 2 => subst u)) | ((refine (fun (_ : Kept1 s u) => ?_) ?_); (on_goal 1 => clear_value u); (on_goal 2 => subst u)) | ((refine (fun (_ : Kept2 s u) => ?_) ?_); (on_goal 1 => clear_value u); (on_goal 2 => subst u)) | ((refine (fun (_ : ∀ t, Kept s t → Kept s (u t)) => ?_) ?_); (on_goal 1 => clear_value u); (on_goal 2 => subst u)) | ((refine (fun (_ : ∀ t a, Kept s t → Kept s (u t a)) => ?_) ?_); (on_goal 1 => clear_value u); (on_goal 2 => subst u)) | ((refine (fun (_ : ∀ t a b, Kept s t → Kept s (u t a b)) => ?_) ?_); (on_goal 1 => clear_value u); (on_goal 2 => subst u)) | ((refine (fun (_ : ∀ t a b c, Kept s t → Kept s (u t a b c)) => ?_) ?_); (on_goal 1 => clear_value u); (on_goal 2 => subst u)) | ((refine (fun (_ : ∀ a t, Kept s t → Kept s (u a t)) => ?_) ?_); (on_goal 1 => clear_value u); (on_goal 2 => subst u)) | ((refine (fun (_ : ∀ a b t, Kept s t → Kept s (u a b t)) => ?_) ?_); (on_goal 1 => clear_value u); (on_goal 2 => subst u)) | ((refine (fun (_ : ∀ a b c t, Kept s t → Kept s (u a b c t)) => ?_) ?_); (on_goal 1 => clear_value u); (on_goal 2 => subst u)) | ((refine (fun (_ : ∀ a b c d t, Kept s t → Kept s (u a b c d t)) => ?_) ?_); (on_goal 1 => clear_value u); (on_goal 2 => subst u)) | clear_value u)
    | intro _ _ _ _ _ _
    | intro _ _ _ _ _
    | intro _ _ _ _
    | intro _ _ _
    | intro _ _
    | exact Kept1.fst (by assumption)
    | exact Kept2.snd (by assumption)
    | exact Kept1.of (by assumption) (by assumption)
    | fail_if_no_progress refine kept_mk ?_
    | split
    | fail_if_no_progress refine Kept1.mk ?_
    | apply_assumption

theorem execPtpConfig_kept {s t : State} {x0 : Fin 16} (h : Kept s t) : KeptO s (execPtpConfig x0 t) := by
  unfold execPtpConfig
  repeat' with_reducible first
    | assumption
    | refine KeptO.next ?_
    | refine State.cmdRun_kept ?_ (fun _ _ _ => ?_)
    | refine State.ptpConfig_kept ?_
    | refine Kept1.fst (State.ptpConfig_kept ?_)
    | refine Kept1.of (State.ptpConfig_kept ?_) (by assumption)
    | exact Kept1.fst (by assumption)
    | exact Kept2.snd (by assumption)
    | exact Kept1.of (by assumption) (by assumption)
    | fail_if_no_progress refine kept_mk ?_
    | fail_if_no_progress refine Kept1.mk ?_

theorem State.hostFlashRead_kept {s t : State} {x0 : Bool} {x1 : List Byte} (h : Kept s t) : Kept1 s (State.hostFlashRead t x0 x1) := by
  unfold State.hostFlashRead
  repeat' with_reducible first
    | assumption
    | refine kept_ite (fun _ => ?_) (fun _ => ?_)
    | refine kept1_ite (fun _ => ?_) (fun _ => ?_)
    | refine State.hostWrite_kept ?_
    | exact Kept1.fst (by assumption)
    | exact Kept2.snd (by assumption)
    | exact Kept1.of (by assumption) (by assumption)
    | fail_if_no_progress refine kept_mk ?_
    | split
    | fail_if_no_progress refine Kept1.mk ?_

theorem execHostFlashRead_kept {s t : State} {x0 : Fin 16} {x1 : Bool} (h : Kept s t) : KeptO s (execHostFlashRead x0 x1 t) := by
  unfold execHostFlashRead
  repeat' with_reducible first
    | assumption
    | refine KeptO.next ?_
    | refine State.cmdRun_kept ?_ (fun _ _ _ => ?_)
    | refine State.hostFlashRead_kept ?_
    | refine Kept1.fst (State.hostFlashRead_kept ?_)
    | refine Kept1.of (State.hostFlashRead_kept ?_) (by assumption)
    | exact Kept1.fst (by assumption)
    | exact Kept2.snd (by assumption)
    | exact Kept1.of (by assumption) (by assumption)
    | fail_if_no_progress refine kept_mk ?_
    | fail_if_no_progress refine Kept1.mk ?_

theorem State.hostFlashWrite_kept {s t : State} {x0 : Bool} {x1 : List Byte} (h : Kept s t) : Kept1 s (State.hostFlashWrite t x0 x1) := by
  unfold State.hostFlashWrite
  repeat' with_reducible first
    | assumption
    | refine kept_ite (fun _ => ?_) (fun _ => ?_)
    | refine kept1_ite (fun _ => ?_) (fun _ => ?_)
    | (extract_lets +onlyGivenNames u; first | ((refine (fun (_ : Kept s u) => ?_) ?_); (on_goal 1 => clear_value u); (on_goal 2 => subst u)) | ((refine (fun (_ : Kept1 s u) => ?_) ?_); (on_goal 1 => clear_value u); (on_goal 2 => subst u)) | ((refine (fun (_ : Kept2 s u) => ?_) ?_); (on_goal 1 => clear_value u); (on_goal 2 => subst u)) | clear_value u)
    | refine State.flashWrite_kept ?_
    | exact Kept1.fst (by assumption)
    | exact Kept2.snd (by assumption)
    | exact Kept1.of (by assumption) (by assumption)
    | fail_if_no_progress refine kept_mk ?_
    | split
    | fail_if_no_progress refine Kept1.mk ?_

theorem execHostFlashWrite_kept {s t : State} {x0 : Fin 16} {x1 : Bool} (h : Kept s t) : KeptO s (execHostFlashWrite x0 x1 t) := by
  unfold execHostFlashWrite
  repeat' with_reducible first
    | assumption
    | refine KeptO.next ?_
    | refine State.cmdRun_kept ?_ (fun _ _ _ => ?_)
    | refine State.hostFlashWrite_kept ?_
    | refine Kept1.fst (State.hostFlashWrite_kept ?_)
    | refine Kept1.of (State.hostFlashWrite_kept ?_) (by assumption)
    | exact Kept1.fst (by assumption)
    | exact Kept2.snd (by assumption)
    | exact Kept1.of (by assumption) (by assumption)
    | fail_if_no_progress refine kept_mk ?_
    | fail_if_no_progress refine Kept1.mk ?_

end Sys2Proof.Machine
end

