-- ==== Sys2Proof/Laws/KeptRecords.lean ====
section
/-! SUPPORT. Every operation of Machine/Records.lean keeps the waiting commands, the invariant and every programmed bit. -/

namespace Sys2Proof.Machine

set_option linter.unusedTactic false
set_option linter.unreachableTactic false

theorem State.capMsg_kept {s t : State} {x0 : FaultMsg} (h : Kept s t) : Kept1 s (State.capMsg t x0) := by
  unfold State.capMsg
  repeat' with_reducible first
    | assumption
    | refine kept_ite (fun _ => ?_) (fun _ => ?_)
    | refine kept1_ite (fun _ => ?_) (fun _ => ?_)
    | refine State.bump_kept ?_
    | exact Kept1.fst (by assumption)
    | exact Kept2.snd (by assumption)
    | exact Kept1.of (by assumption) (by assumption)
    | fail_if_no_progress refine kept_mk ?_
    | split
    | fail_if_no_progress refine Kept1.mk ?_

theorem State.escalateMsg_kept {s t : State} {x0 : FaultMsg} (h : Kept s t) : Kept1 s (State.escalateMsg t x0) := by
  unfold State.escalateMsg
  repeat' with_reducible first
    | assumption
    | refine kept_ite (fun _ => ?_) (fun _ => ?_)
    | refine kept1_ite (fun _ => ?_) (fun _ => ?_)
    | refine State.bump_kept ?_
    | exact Kept1.fst (by assumption)
    | exact Kept2.snd (by assumption)
    | exact Kept1.of (by assumption) (by assumption)
    | fail_if_no_progress refine kept_mk ?_
    | split
    | fail_if_no_progress refine Kept1.mk ?_

theorem State.adjustMsg_kept {s t : State} {x0 : FaultMsg} (h : Kept s t) : Kept1 s (State.adjustMsg t x0) := by
  unfold State.adjustMsg
  repeat' with_reducible first
    | assumption
    | refine State.capMsg_kept ?_
    | refine Kept1.fst (State.capMsg_kept ?_)
    | refine Kept1.of (State.capMsg_kept ?_) (by assumption)
    | refine State.escalateMsg_kept ?_
    | refine Kept1.fst (State.escalateMsg_kept ?_)
    | refine Kept1.of (State.escalateMsg_kept ?_) (by assumption)
    | exact Kept1.fst (by assumption)
    | exact Kept2.snd (by assumption)
    | exact Kept1.of (by assumption) (by assumption)
    | fail_if_no_progress refine kept_mk ?_
    | split
    | refine Kept1.of ?_ (by assumption)
    | fail_if_no_progress refine Kept1.mk ?_

theorem State.setWords_kept {s t : State} {x0 : Nat → Nat} {x1 : List Nat} (h : Kept s t) : Kept s (State.setWords t x0 x1) := by
  unfold State.setWords
  repeat' with_reducible first
    | assumption
    | refine State.forEach_kept ?_ (fun _ _ _ => ?_)
    | refine State.setRegN_kept ?_
    | exact Kept1.fst (by assumption)
    | exact Kept2.snd (by assumption)
    | exact Kept1.of (by assumption) (by assumption)
    | fail_if_no_progress refine kept_mk ?_
    | fail_if_no_progress refine Kept1.mk ?_

theorem State.keepRecords_kept {s t : State} {x0 : FaultMsg} {x1 : Nat} (h : Kept s t) : Kept s (State.keepRecords t x0 x1) := by
  unfold State.keepRecords
  repeat' with_reducible first
    | assumption
    | (extract_lets +onlyGivenNames u; first | ((refine (fun (_ : Kept s u) => ?_) ?_); (on_goal 1 => clear_value u); (on_goal 2 => subst u)) | ((refine (fun (_ : Kept1 s u) => ?_) ?_); (on_goal 1 => clear_value u); (on_goal 2 => subst u)) | ((refine (fun (_ : Kept2 s u) => ?_) ?_); (on_goal 1 => clear_value u); (on_goal 2 => subst u)) | clear_value u)
    | refine State.doIf_kept ?_ (fun _ _ => ?_)
    | refine State.setWords_kept ?_
    | refine State.setRbit_kept ?_
    | exact Kept1.fst (by assumption)
    | exact Kept2.snd (by assumption)
    | exact Kept1.of (by assumption) (by assumption)
    | fail_if_no_progress refine kept_mk ?_
    | fail_if_no_progress refine Kept1.mk ?_

theorem State.recordMsg_kept {s t : State} {x0 : FaultMsg} (h : Kept s t) : Kept s (State.recordMsg t x0) := by
  unfold State.recordMsg
  repeat' with_reducible first
    | assumption
    | (extract_lets +onlyGivenNames u; first | ((refine (fun (_ : Kept s u) => ?_) ?_); (on_goal 1 => clear_value u); (on_goal 2 => subst u)) | ((refine (fun (_ : Kept1 s u) => ?_) ?_); (on_goal 1 => clear_value u); (on_goal 2 => subst u)) | ((refine (fun (_ : Kept2 s u) => ?_) ?_); (on_goal 1 => clear_value u); (on_goal 2 => subst u)) | clear_value u)
    | refine State.wrapAdd_kept ?_
    | refine State.setFld_kept ?_
    | refine State.setWords_kept ?_
    | refine State.keepRecords_kept ?_
    | refine State.bump_kept ?_
    | exact Kept1.fst (by assumption)
    | exact Kept2.snd (by assumption)
    | exact Kept1.of (by assumption) (by assumption)
    | fail_if_no_progress refine kept_mk ?_
    | fail_if_no_progress refine Kept1.mk ?_

theorem State.takeInput_kept {s t : State} {x0 : FaultMsg} (h : Kept s t) : Kept s (State.takeInput t x0) := by
  unfold State.takeInput
  repeat' with_reducible first
    | assumption
    | exact Kept1.fst (by assumption)
    | exact Kept2.snd (by assumption)
    | exact Kept1.of (by assumption) (by assumption)
    | fail_if_no_progress refine kept_mk ?_
    | fail_if_no_progress refine Kept1.mk ?_

theorem State.flushInputs_kept {s t : State} (h : Kept s t) : Kept s (State.flushInputs t) := by
  unfold State.flushInputs
  repeat' with_reducible first
    | assumption
    | (extract_lets +onlyGivenNames u; first | ((refine (fun (_ : Kept s u) => ?_) ?_); (on_goal 1 => clear_value u); (on_goal 2 => subst u)) | ((refine (fun (_ : Kept1 s u) => ?_) ?_); (on_goal 1 => clear_value u); (on_goal 2 => subst u)) | ((refine (fun (_ : Kept2 s u) => ?_) ?_); (on_goal 1 => clear_value u); (on_goal 2 => subst u)) | clear_value u)
    | refine State.forEach_kept ?_ (fun _ _ _ => ?_)
    | refine State.adjustMsg_kept ?_
    | refine Kept1.fst (State.adjustMsg_kept ?_)
    | refine Kept1.of (State.adjustMsg_kept ?_) (by assumption)
    | refine State.recordMsg_kept ?_
    | exact Kept1.fst (by assumption)
    | exact Kept2.snd (by assumption)
    | exact Kept1.of (by assumption) (by assumption)
    | fail_if_no_progress refine kept_mk ?_
    | split
    | refine Kept1.of ?_ (by assumption)
    | fail_if_no_progress refine Kept1.mk ?_

end Sys2Proof.Machine
end

