-- ==== Sys2Proof/Laws/KeptTrust.lean ====
section
/-! SUPPORT. Every operation of Machine/Trust.lean keeps the waiting commands, the invariant and every programmed bit. -/

namespace Sys2Proof.Machine

set_option linter.unusedTactic false
set_option linter.unreachableTactic false

theorem State.takeCall_kept {s t : State} {x0 : Nat × Nat} (h : Kept s t) : Kept s (State.takeCall t x0) := by
  unfold State.takeCall
  repeat' with_reducible first
    | assumption
    | (extract_lets +onlyGivenNames u; first | ((refine (fun (_ : Kept s u) => ?_) ?_); (on_goal 1 => clear_value u); (on_goal 2 => subst u)) | ((refine (fun (_ : Kept1 s u) => ?_) ?_); (on_goal 1 => clear_value u); (on_goal 2 => subst u)) | ((refine (fun (_ : Kept2 s u) => ?_) ?_); (on_goal 1 => clear_value u); (on_goal 2 => subst u)) | clear_value u)
    | refine State.setFld_kept ?_
    | exact Kept1.fst (by assumption)
    | exact Kept2.snd (by assumption)
    | exact Kept1.of (by assumption) (by assumption)
    | fail_if_no_progress refine kept_mk ?_
    | fail_if_no_progress refine Kept1.mk ?_

theorem State.answerCall_kept {s t : State} {x0 : Nat × Nat} {x1 : Nat} {x2 : Nat} (h : Kept s t) : Kept s (State.answerCall t x0 x1 x2) := by
  unfold State.answerCall
  repeat' with_reducible first
    | assumption
    | (extract_lets +onlyGivenNames u; first | ((refine (fun (_ : Kept s u) => ?_) ?_); (on_goal 1 => clear_value u); (on_goal 2 => subst u)) | ((refine (fun (_ : Kept1 s u) => ?_) ?_); (on_goal 1 => clear_value u); (on_goal 2 => subst u)) | ((refine (fun (_ : Kept2 s u) => ?_) ?_); (on_goal 1 => clear_value u); (on_goal 2 => subst u)) | clear_value u)
    | refine State.pmWrite_kept ?_
    | refine State.setFld_kept ?_
    | refine State.blockCue_kept ?_
    | exact Kept1.fst (by assumption)
    | exact Kept2.snd (by assumption)
    | exact Kept1.of (by assumption) (by assumption)
    | fail_if_no_progress refine kept_mk ?_
    | fail_if_no_progress refine Kept1.mk ?_

theorem State.sweepCalls_kept {s t : State} {x0 : Nat} (h : Kept s t) : Kept s (State.sweepCalls t x0) := by
  induction x0 generalizing t with
  | zero =>
    unfold State.sweepCalls
    repeat' with_reducible first
      | assumption
      | refine kept_ite (fun _ => ?_) (fun _ => ?_)
      | refine kept1_ite (fun _ => ?_) (fun _ => ?_)
      | (extract_lets +onlyGivenNames u; first | ((refine (fun (_ : Kept s u) => ?_) ?_); (on_goal 1 => clear_value u); (on_goal 2 => subst u)) | ((refine (fun (_ : Kept1 s u) => ?_) ?_); (on_goal 1 => clear_value u); (on_goal 2 => subst u)) | ((refine (fun (_ : Kept2 s u) => ?_) ?_); (on_goal 1 => clear_value u); (on_goal 2 => subst u)) | clear_value u)
      | refine State.takeCall_kept ?_
      | refine State.answerCall_kept ?_
      | exact Kept1.fst (by assumption)
      | exact Kept2.snd (by assumption)
      | exact Kept1.of (by assumption) (by assumption)
      | fail_if_no_progress refine kept_mk ?_
      | split
      | refine Kept1.of ?_ (by assumption)
      | fail_if_no_progress refine Kept1.mk ?_
  | succ n ih =>
    unfold State.sweepCalls
    repeat' with_reducible first
      | assumption
      | refine kept_ite (fun _ => ?_) (fun _ => ?_)
      | refine kept1_ite (fun _ => ?_) (fun _ => ?_)
      | refine ih ?_
      | (extract_lets +onlyGivenNames u; first | ((refine (fun (_ : Kept s u) => ?_) ?_); (on_goal 1 => clear_value u); (on_goal 2 => subst u)) | ((refine (fun (_ : Kept1 s u) => ?_) ?_); (on_goal 1 => clear_value u); (on_goal 2 => subst u)) | ((refine (fun (_ : Kept2 s u) => ?_) ?_); (on_goal 1 => clear_value u); (on_goal 2 => subst u)) | clear_value u)
      | refine State.takeCall_kept ?_
      | refine State.answerCall_kept ?_
      | exact Kept1.fst (by assumption)
      | exact Kept2.snd (by assumption)
      | exact Kept1.of (by assumption) (by assumption)
      | fail_if_no_progress refine kept_mk ?_
      | split
      | refine Kept1.of ?_ (by assumption)
      | fail_if_no_progress refine Kept1.mk ?_

theorem State.sweep_kept {s t : State} (h : Kept s t) : Kept s (State.sweep t) := by
  unfold State.sweep
  repeat' with_reducible first
    | assumption
    | refine kept_ite (fun _ => ?_) (fun _ => ?_)
    | refine kept1_ite (fun _ => ?_) (fun _ => ?_)
    | refine State.sweepCalls_kept ?_
    | exact Kept1.fst (by assumption)
    | exact Kept2.snd (by assumption)
    | exact Kept1.of (by assumption) (by assumption)
    | fail_if_no_progress refine kept_mk ?_
    | split
    | fail_if_no_progress refine Kept1.mk ?_

theorem State.postCall_kept {s t : State} {x0 : Writer} {x1 : Nat} {x2 : Word} (h : Kept s t) : Kept s (State.postCall t x0 x1 x2) := by
  unfold State.postCall
  repeat' with_reducible first
    | assumption
    | refine kept_ite (fun _ => ?_) (fun _ => ?_)
    | refine kept1_ite (fun _ => ?_) (fun _ => ?_)
    | (extract_lets +onlyGivenNames u; first | ((refine (fun (_ : Kept s u) => ?_) ?_); (on_goal 1 => clear_value u); (on_goal 2 => subst u)) | ((refine (fun (_ : Kept1 s u) => ?_) ?_); (on_goal 1 => clear_value u); (on_goal 2 => subst u)) | ((refine (fun (_ : Kept2 s u) => ?_) ?_); (on_goal 1 => clear_value u); (on_goal 2 => subst u)) | clear_value u)
    | refine State.sweep_kept ?_
    | exact Kept1.fst (by assumption)
    | exact Kept2.snd (by assumption)
    | exact Kept1.of (by assumption) (by assumption)
    | fail_if_no_progress refine kept_mk ?_
    | split
    | refine Kept1.of ?_ (by assumption)
    | fail_if_no_progress refine Kept1.mk ?_

theorem execPromptCallPost_kept {s t : State} {x0 : Writer} {x1 : Fin 4} {x2 : Word} (h : Kept s t) : KeptO s (execPromptCallPost x0 x1 x2 t) := by
  unfold execPromptCallPost
  repeat' with_reducible first
    | assumption
    | refine KeptO.next ?_
    | refine State.ifLive_kept ?_ (fun _ _ => ?_)
    | refine State.postCall_kept ?_
    | exact Kept1.fst (by assumption)
    | exact Kept2.snd (by assumption)
    | exact Kept1.of (by assumption) (by assumption)
    | fail_if_no_progress refine kept_mk ?_
    | fail_if_no_progress refine Kept1.mk ?_

theorem State.runCall_kept {s t : State} {x0 : Nat} {x1 : List Byte → State → State × Nat × Nat} (h : Kept s t) (hf : ∀ a u, Kept s u → Kept1 s (x1 a u)) : Kept s (State.runCall t x0 x1) := by
  unfold State.runCall
  repeat' with_reducible first
    | assumption
    | refine kept_ite (fun _ => ?_) (fun _ => ?_)
    | refine kept1_ite (fun _ => ?_) (fun _ => ?_)
    | refine hf _ _ ?_
    | refine Kept1.of (hf _ _ ?_) (by assumption)
    | refine Kept1.fst (hf _ _ ?_)
    | (extract_lets +onlyGivenNames u; first | ((refine (fun (_ : Kept s u) => ?_) ?_); (on_goal 1 => clear_value u); (on_goal 2 => subst u)) | ((refine (fun (_ : Kept1 s u) => ?_) ?_); (on_goal 1 => clear_value u); (on_goal 2 => subst u)) | ((refine (fun (_ : Kept2 s u) => ?_) ?_); (on_goal 1 => clear_value u); (on_goal 2 => subst u)) | clear_value u)
    | refine State.takeCall_kept ?_
    | refine State.answerCall_kept ?_
    | refine State.sweep_kept ?_
    | exact Kept1.fst (by assumption)
    | exact Kept2.snd (by assumption)
    | exact Kept1.of (by assumption) (by assumption)
    | fail_if_no_progress refine kept_mk ?_
    | split
    | refine Kept1.of ?_ (by assumption)
    | fail_if_no_progress refine Kept1.mk ?_

theorem State.poke_kept {s t : State} {x0 : Nat} {x1 : Word} (h : Kept s t) : Kept s (State.poke t x0 x1) := by
  unfold State.poke
  repeat' with_reducible first
    | assumption
    | refine kept_ite (fun _ => ?_) (fun _ => ?_)
    | refine kept1_ite (fun _ => ?_) (fun _ => ?_)
    | refine State.store_kept ?_
    | exact Kept1.fst (by assumption)
    | exact Kept2.snd (by assumption)
    | exact Kept1.of (by assumption) (by assumption)
    | fail_if_no_progress refine kept_mk ?_
    | split
    | refine Kept1.of ?_ (by assumption)
    | fail_if_no_progress refine Kept1.mk ?_

theorem State.pcBlockReset_kept {s t : State} {x0 : List Byte} (h : Kept s t) : Kept1 s (State.pcBlockReset x0 t) := by
  unfold State.pcBlockReset
  repeat' with_reducible first
    | assumption
    | refine kept_ite (fun _ => ?_) (fun _ => ?_)
    | refine kept1_ite (fun _ => ?_) (fun _ => ?_)
    | refine State.blockReset_kept ?_
    | exact Kept1.fst (by assumption)
    | exact Kept2.snd (by assumption)
    | exact Kept1.of (by assumption) (by assumption)
    | fail_if_no_progress refine kept_mk ?_
    | split
    | refine Kept1.of ?_ (by assumption)
    | fail_if_no_progress refine Kept1.mk ?_

theorem execBlockReset_kept {s t : State} (h : Kept s t) : KeptO s (execBlockReset t) := by
  unfold execBlockReset
  repeat' with_reducible first
    | assumption
    | refine KeptO.next ?_
    | refine State.runCall_kept ?_ (fun _ _ _ => ?_)
    | refine State.pcBlockReset_kept ?_
    | refine Kept1.fst (State.pcBlockReset_kept ?_)
    | refine Kept1.of (State.pcBlockReset_kept ?_) (by assumption)
    | exact Kept1.fst (by assumption)
    | exact Kept2.snd (by assumption)
    | exact Kept1.of (by assumption) (by assumption)
    | fail_if_no_progress refine kept_mk ?_
    | fail_if_no_progress refine Kept1.mk ?_

theorem State.pcSoftReset_kept {s t : State} (h : Kept s t) : Kept s (State.pcSoftReset t) := by
  unfold State.pcSoftReset
  repeat' with_reducible first
    | assumption
    | refine kept_ite (fun _ => ?_) (fun _ => ?_)
    | refine kept1_ite (fun _ => ?_) (fun _ => ?_)
    | refine State.takeCall_kept ?_
    | refine State.assertReset_kept ?_
    | exact Kept1.fst (by assumption)
    | exact Kept2.snd (by assumption)
    | exact Kept1.of (by assumption) (by assumption)
    | fail_if_no_progress refine kept_mk ?_
    | split
    | refine Kept1.of ?_ (by assumption)
    | fail_if_no_progress refine Kept1.mk ?_

theorem execSoftReset_kept {s t : State} (h : Kept s t) : KeptO s (execSoftReset t) := by
  unfold execSoftReset
  repeat' with_reducible first
    | assumption
    | refine KeptO.next ?_
    | refine State.pcSoftReset_kept ?_
    | exact Kept1.fst (by assumption)
    | exact Kept2.snd (by assumption)
    | exact Kept1.of (by assumption) (by assumption)
    | fail_if_no_progress refine kept_mk ?_
    | fail_if_no_progress refine Kept1.mk ?_

theorem State.pcSetOwner_kept {s t : State} {x0 : List Byte} (h : Kept s t) : Kept1 s (State.pcSetOwner x0 t) := by
  unfold State.pcSetOwner
  repeat' with_reducible first
    | assumption
    | refine kept_ite (fun _ => ?_) (fun _ => ?_)
    | refine kept1_ite (fun _ => ?_) (fun _ => ?_)
    | refine State.doIf_kept ?_ (fun _ _ => ?_)
    | refine State.blockReset_kept ?_
    | refine State.setFld_kept ?_
    | exact Kept1.fst (by assumption)
    | exact Kept2.snd (by assumption)
    | exact Kept1.of (by assumption) (by assumption)
    | fail_if_no_progress refine kept_mk ?_
    | split
    | refine Kept1.of ?_ (by assumption)
    | fail_if_no_progress refine Kept1.mk ?_

theorem execSetOwner_kept {s t : State} (h : Kept s t) : KeptO s (execSetOwner t) := by
  unfold execSetOwner
  repeat' with_reducible first
    | assumption
    | refine KeptO.next ?_
    | refine State.runCall_kept ?_ (fun _ _ _ => ?_)
    | refine State.pcSetOwner_kept ?_
    | refine Kept1.fst (State.pcSetOwner_kept ?_)
    | refine Kept1.of (State.pcSetOwner_kept ?_) (by assumption)
    | exact Kept1.fst (by assumption)
    | exact Kept2.snd (by assumption)
    | exact Kept1.of (by assumption) (by assumption)
    | fail_if_no_progress refine kept_mk ?_
    | fail_if_no_progress refine Kept1.mk ?_

theorem State.setSeverity_kept {s t : State} {x0 : Nat} {x1 : Nat} (h : Kept s t) : Kept s (State.setSeverity t x0 x1) := by
  unfold State.setSeverity
  repeat' with_reducible first
    | assumption
    | refine kept_ite (fun _ => ?_) (fun _ => ?_)
    | refine kept1_ite (fun _ => ?_) (fun _ => ?_)
    | refine State.setFld_kept ?_
    | exact Kept1.fst (by assumption)
    | exact Kept2.snd (by assumption)
    | exact Kept1.of (by assumption) (by assumption)
    | fail_if_no_progress refine kept_mk ?_
    | split
    | fail_if_no_progress refine Kept1.mk ?_

theorem State.pcSetSeverity_kept {s t : State} {x0 : List Byte} (h : Kept s t) : Kept1 s (State.pcSetSeverity x0 t) := by
  unfold State.pcSetSeverity
  repeat' with_reducible first
    | assumption
    | refine kept_ite (fun _ => ?_) (fun _ => ?_)
    | refine kept1_ite (fun _ => ?_) (fun _ => ?_)
    | (extract_lets +onlyGivenNames u; first | ((refine (fun (_ : Kept s u) => ?_) ?_); (on_goal 1 => clear_value u); (on_goal 2 => subst u)) | ((refine (fun (_ : Kept1 s u) => ?_) ?_); (on_goal 1 => clear_value u); (on_goal 2 => subst u)) | ((refine (fun (_ : Kept2 s u) => ?_) ?_); (on_goal 1 => clear_value u); (on_goal 2 => subst u)) | clear_value u)
    | refine State.setSeverity_kept ?_
    | exact Kept1.fst (by assumption)
    | exact Kept2.snd (by assumption)
    | exact Kept1.of (by assumption) (by assumption)
    | fail_if_no_progress refine kept_mk ?_
    | split
    | fail_if_no_progress refine Kept1.mk ?_

theorem execSetSeverity_kept {s t : State} (h : Kept s t) : KeptO s (execSetSeverity t) := by
  unfold execSetSeverity
  repeat' with_reducible first
    | assumption
    | refine KeptO.next ?_
    | refine State.runCall_kept ?_ (fun _ _ _ => ?_)
    | refine State.pcSetSeverity_kept ?_
    | refine Kept1.fst (State.pcSetSeverity_kept ?_)
    | refine Kept1.of (State.pcSetSeverity_kept ?_) (by assumption)
    | exact Kept1.fst (by assumption)
    | exact Kept2.snd (by assumption)
    | exact Kept1.of (by assumption) (by assumption)
    | fail_if_no_progress refine kept_mk ?_
    | fail_if_no_progress refine Kept1.mk ?_

theorem State.pcSetLedger_kept {s t : State} {x0 : List Byte} (h : Kept s t) : Kept1 s (State.pcSetLedger x0 t) := by
  unfold State.pcSetLedger
  repeat' with_reducible first
    | assumption
    | refine kept_ite (fun _ => ?_) (fun _ => ?_)
    | refine kept1_ite (fun _ => ?_) (fun _ => ?_)
    | (extract_lets +onlyGivenNames u; first | ((refine (fun (_ : Kept s u) => ?_) ?_); (on_goal 1 => clear_value u); (on_goal 2 => subst u)) | ((refine (fun (_ : Kept1 s u) => ?_) ?_); (on_goal 1 => clear_value u); (on_goal 2 => subst u)) | ((refine (fun (_ : Kept2 s u) => ?_) ?_); (on_goal 1 => clear_value u); (on_goal 2 => subst u)) | clear_value u)
    | refine State.store_kept ?_
    | exact Kept1.fst (by assumption)
    | exact Kept2.snd (by assumption)
    | exact Kept1.of (by assumption) (by assumption)
    | fail_if_no_progress refine kept_mk ?_
    | split
    | fail_if_no_progress refine Kept1.mk ?_

theorem execSetLedger_kept {s t : State} (h : Kept s t) : KeptO s (execSetLedger t) := by
  unfold execSetLedger
  repeat' with_reducible first
    | assumption
    | refine KeptO.next ?_
    | refine State.runCall_kept ?_ (fun _ _ _ => ?_)
    | refine State.pcSetLedger_kept ?_
    | refine Kept1.fst (State.pcSetLedger_kept ?_)
    | refine Kept1.of (State.pcSetLedger_kept ?_) (by assumption)
    | exact Kept1.fst (by assumption)
    | exact Kept2.snd (by assumption)
    | exact Kept1.of (by assumption) (by assumption)
    | fail_if_no_progress refine kept_mk ?_
    | fail_if_no_progress refine Kept1.mk ?_

theorem State.pcSetFence_kept {s t : State} {x0 : List Byte} (h : Kept s t) : Kept1 s (State.pcSetFence x0 t) := by
  unfold State.pcSetFence
  repeat' with_reducible first
    | assumption
    | refine kept_ite (fun _ => ?_) (fun _ => ?_)
    | refine kept1_ite (fun _ => ?_) (fun _ => ?_)
    | (extract_lets +onlyGivenNames u; first | ((refine (fun (_ : Kept s u) => ?_) ?_); (on_goal 1 => clear_value u); (on_goal 2 => subst u)) | ((refine (fun (_ : Kept1 s u) => ?_) ?_); (on_goal 1 => clear_value u); (on_goal 2 => subst u)) | ((refine (fun (_ : Kept2 s u) => ?_) ?_); (on_goal 1 => clear_value u); (on_goal 2 => subst u)) | clear_value u)
    | refine State.poke_kept ?_
    | exact Kept1.fst (by assumption)
    | exact Kept2.snd (by assumption)
    | exact Kept1.of (by assumption) (by assumption)
    | fail_if_no_progress refine kept_mk ?_
    | split
    | fail_if_no_progress refine Kept1.mk ?_

theorem execSetFence_kept {s t : State} (h : Kept s t) : KeptO s (execSetFence t) := by
  unfold execSetFence
  repeat' with_reducible first
    | assumption
    | refine KeptO.next ?_
    | refine State.runCall_kept ?_ (fun _ _ _ => ?_)
    | refine State.pcSetFence_kept ?_
    | refine Kept1.fst (State.pcSetFence_kept ?_)
    | refine Kept1.of (State.pcSetFence_kept ?_) (by assumption)
    | exact Kept1.fst (by assumption)
    | exact Kept2.snd (by assumption)
    | exact Kept1.of (by assumption) (by assumption)
    | fail_if_no_progress refine kept_mk ?_
    | fail_if_no_progress refine Kept1.mk ?_

theorem State.pcSetCvuOwner_kept {s t : State} {x0 : List Byte} (h : Kept s t) : Kept1 s (State.pcSetCvuOwner x0 t) := by
  unfold State.pcSetCvuOwner
  repeat' with_reducible first
    | assumption
    | refine kept_ite (fun _ => ?_) (fun _ => ?_)
    | refine kept1_ite (fun _ => ?_) (fun _ => ?_)
    | (extract_lets +onlyGivenNames u; first | ((refine (fun (_ : Kept s u) => ?_) ?_); (on_goal 1 => clear_value u); (on_goal 2 => subst u)) | ((refine (fun (_ : Kept1 s u) => ?_) ?_); (on_goal 1 => clear_value u); (on_goal 2 => subst u)) | ((refine (fun (_ : Kept2 s u) => ?_) ?_); (on_goal 1 => clear_value u); (on_goal 2 => subst u)) | clear_value u)
    | refine State.poke_kept ?_
    | exact Kept1.fst (by assumption)
    | exact Kept2.snd (by assumption)
    | exact Kept1.of (by assumption) (by assumption)
    | fail_if_no_progress refine kept_mk ?_
    | split
    | fail_if_no_progress refine Kept1.mk ?_

theorem execSetCvuOwner_kept {s t : State} (h : Kept s t) : KeptO s (execSetCvuOwner t) := by
  unfold execSetCvuOwner
  repeat' with_reducible first
    | assumption
    | refine KeptO.next ?_
    | refine State.runCall_kept ?_ (fun _ _ _ => ?_)
    | refine State.pcSetCvuOwner_kept ?_
    | refine Kept1.fst (State.pcSetCvuOwner_kept ?_)
    | refine Kept1.of (State.pcSetCvuOwner_kept ?_) (by assumption)
    | exact Kept1.fst (by assumption)
    | exact Kept2.snd (by assumption)
    | exact Kept1.of (by assumption) (by assumption)
    | fail_if_no_progress refine kept_mk ?_
    | fail_if_no_progress refine Kept1.mk ?_

theorem State.pcFlashRead_kept {s t : State} {x0 : Bool} {x1 : List Byte} (h : Kept s t) : Kept1 s (State.pcFlashRead x0 x1 t) := by
  unfold State.pcFlashRead
  repeat' with_reducible first
    | assumption
    | refine kept_ite (fun _ => ?_) (fun _ => ?_)
    | refine kept1_ite (fun _ => ?_) (fun _ => ?_)
    | (extract_lets +onlyGivenNames u; first | ((refine (fun (_ : Kept s u) => ?_) ?_); (on_goal 1 => clear_value u); (on_goal 2 => subst u)) | ((refine (fun (_ : Kept1 s u) => ?_) ?_); (on_goal 1 => clear_value u); (on_goal 2 => subst u)) | ((refine (fun (_ : Kept2 s u) => ?_) ?_); (on_goal 1 => clear_value u); (on_goal 2 => subst u)) | clear_value u)
    | refine State.devWrite_kept ?_
    | exact Kept1.fst (by assumption)
    | exact Kept2.snd (by assumption)
    | exact Kept1.of (by assumption) (by assumption)
    | fail_if_no_progress refine kept_mk ?_
    | split
    | fail_if_no_progress refine Kept1.mk ?_

theorem execPcFlashRead_kept {s t : State} {x0 : Bool} (h : Kept s t) : KeptO s (execPcFlashRead x0 t) := by
  unfold execPcFlashRead
  repeat' with_reducible first
    | assumption
    | refine KeptO.next ?_
    | refine State.runCall_kept ?_ (fun _ _ _ => ?_)
    | refine State.pcFlashRead_kept ?_
    | refine Kept1.fst (State.pcFlashRead_kept ?_)
    | refine Kept1.of (State.pcFlashRead_kept ?_) (by assumption)
    | exact Kept1.fst (by assumption)
    | exact Kept2.snd (by assumption)
    | exact Kept1.of (by assumption) (by assumption)
    | fail_if_no_progress refine kept_mk ?_
    | fail_if_no_progress refine Kept1.mk ?_

theorem State.pcFlashWrite_kept {s t : State} {x0 : List Byte} (h : Kept s t) : Kept1 s (State.pcFlashWrite x0 t) := by
  unfold State.pcFlashWrite
  repeat' with_reducible first
    | assumption
    | refine kept_ite (fun _ => ?_) (fun _ => ?_)
    | refine kept1_ite (fun _ => ?_) (fun _ => ?_)
    | (extract_lets +onlyGivenNames u; first | ((refine (fun (_ : Kept s u) => ?_) ?_); (on_goal 1 => clear_value u); (on_goal 2 => subst u)) | ((refine (fun (_ : Kept1 s u) => ?_) ?_); (on_goal 1 => clear_value u); (on_goal 2 => subst u)) | ((refine (fun (_ : Kept2 s u) => ?_) ?_); (on_goal 1 => clear_value u); (on_goal 2 => subst u)) | clear_value u)
    | refine State.flashWrite_kept ?_
    | exact Kept1.fst (by assumption)
    | exact Kept2.snd (by assumption)
    | exact Kept1.of (by assumption) (by assumption)
    | fail_if_no_progress refine kept_mk ?_
    | split
    | fail_if_no_progress refine Kept1.mk ?_

theorem execPcFlashWrite_kept {s t : State} (h : Kept s t) : KeptO s (execPcFlashWrite t) := by
  unfold execPcFlashWrite
  repeat' with_reducible first
    | assumption
    | refine KeptO.next ?_
    | refine State.runCall_kept ?_ (fun _ _ _ => ?_)
    | refine State.pcFlashWrite_kept ?_
    | refine Kept1.fst (State.pcFlashWrite_kept ?_)
    | refine Kept1.of (State.pcFlashWrite_kept ?_) (by assumption)
    | exact Kept1.fst (by assumption)
    | exact Kept2.snd (by assumption)
    | exact Kept1.of (by assumption) (by assumption)
    | fail_if_no_progress refine kept_mk ?_
    | fail_if_no_progress refine Kept1.mk ?_

theorem State.otpProgram_kept {s t : State} {x0 : Nat} {x1 : List Byte} {x2 : Option (Nat × Byte)} (h : Kept s t) : Kept1 s (State.otpProgram t x0 x1 x2) := by
  unfold State.otpProgram
  repeat' with_reducible first
    | assumption
    | refine kept_ite (fun _ => ?_) (fun _ => ?_)
    | refine kept1_ite (fun _ => ?_) (fun _ => ?_)
    | refine State.otpOr_kept ?_
    | exact Kept1.fst (by assumption)
    | exact Kept2.snd (by assumption)
    | exact Kept1.of (by assumption) (by assumption)
    | fail_if_no_progress refine kept_mk ?_
    | split
    | refine Kept1.of ?_ (by assumption)
    | fail_if_no_progress refine Kept1.mk ?_

theorem State.otpCall_kept {s t : State} {x0 : Nat} {x1 : List Byte} {x2 : Option (Nat × Byte)} (h : Kept s t) : Kept1 s (State.otpCall t x0 x1 x2) := by
  unfold State.otpCall
  repeat' with_reducible first
    | assumption
    | refine State.otpProgram_kept ?_
    | refine Kept1.fst (State.otpProgram_kept ?_)
    | refine Kept1.of (State.otpProgram_kept ?_) (by assumption)
    | refine State.showKeys_kept ?_
    | exact Kept1.fst (by assumption)
    | exact Kept2.snd (by assumption)
    | exact Kept1.of (by assumption) (by assumption)
    | fail_if_no_progress refine kept_mk ?_
    | split
    | refine Kept1.of ?_ (by assumption)
    | fail_if_no_progress refine Kept1.mk ?_

theorem State.pcOtpEnrol_kept {s t : State} {x0 : Option (Nat × Byte)} {x1 : List Byte} (h : Kept s t) : Kept1 s (State.pcOtpEnrol x0 x1 t) := by
  unfold State.pcOtpEnrol
  repeat' with_reducible first
    | assumption
    | refine kept_ite (fun _ => ?_) (fun _ => ?_)
    | refine kept1_ite (fun _ => ?_) (fun _ => ?_)
    | (extract_lets +onlyGivenNames u; first | ((refine (fun (_ : Kept s u) => ?_) ?_); (on_goal 1 => clear_value u); (on_goal 2 => subst u)) | ((refine (fun (_ : Kept1 s u) => ?_) ?_); (on_goal 1 => clear_value u); (on_goal 2 => subst u)) | ((refine (fun (_ : Kept2 s u) => ?_) ?_); (on_goal 1 => clear_value u); (on_goal 2 => subst u)) | clear_value u)
    | refine State.otpCall_kept ?_
    | refine Kept1.fst (State.otpCall_kept ?_)
    | refine Kept1.of (State.otpCall_kept ?_) (by assumption)
    | exact Kept1.fst (by assumption)
    | exact Kept2.snd (by assumption)
    | exact Kept1.of (by assumption) (by assumption)
    | fail_if_no_progress refine kept_mk ?_
    | split
    | fail_if_no_progress refine Kept1.mk ?_

theorem execOtpEnrol_kept {s t : State} {x0 : Option (Nat × Byte)} (h : Kept s t) : KeptO s (execOtpEnrol x0 t) := by
  unfold execOtpEnrol
  repeat' with_reducible first
    | assumption
    | refine KeptO.next ?_
    | refine State.runCall_kept ?_ (fun _ _ _ => ?_)
    | refine State.pcOtpEnrol_kept ?_
    | refine Kept1.fst (State.pcOtpEnrol_kept ?_)
    | refine Kept1.of (State.pcOtpEnrol_kept ?_) (by assumption)
    | exact Kept1.fst (by assumption)
    | exact Kept2.snd (by assumption)
    | exact Kept1.of (by assumption) (by assumption)
    | fail_if_no_progress refine kept_mk ?_
    | fail_if_no_progress refine Kept1.mk ?_

theorem State.pcOtpRevoke_kept {s t : State} {x0 : Option (Nat × Byte)} {x1 : List Byte} (h : Kept s t) : Kept1 s (State.pcOtpRevoke x0 x1 t) := by
  unfold State.pcOtpRevoke
  repeat' with_reducible first
    | assumption
    | refine kept_ite (fun _ => ?_) (fun _ => ?_)
    | refine kept1_ite (fun _ => ?_) (fun _ => ?_)
    | refine State.otpCall_kept ?_
    | refine Kept1.fst (State.otpCall_kept ?_)
    | refine Kept1.of (State.otpCall_kept ?_) (by assumption)
    | exact Kept1.fst (by assumption)
    | exact Kept2.snd (by assumption)
    | exact Kept1.of (by assumption) (by assumption)
    | fail_if_no_progress refine kept_mk ?_
    | split
    | refine Kept1.of ?_ (by assumption)
    | fail_if_no_progress refine Kept1.mk ?_

theorem execOtpRevoke_kept {s t : State} {x0 : Option (Nat × Byte)} (h : Kept s t) : KeptO s (execOtpRevoke x0 t) := by
  unfold execOtpRevoke
  repeat' with_reducible first
    | assumption
    | refine KeptO.next ?_
    | refine State.runCall_kept ?_ (fun _ _ _ => ?_)
    | refine State.pcOtpRevoke_kept ?_
    | refine Kept1.fst (State.pcOtpRevoke_kept ?_)
    | refine Kept1.of (State.pcOtpRevoke_kept ?_) (by assumption)
    | exact Kept1.fst (by assumption)
    | exact Kept2.snd (by assumption)
    | exact Kept1.of (by assumption) (by assumption)
    | fail_if_no_progress refine kept_mk ?_
    | fail_if_no_progress refine Kept1.mk ?_

theorem State.pcOtpRaise_kept {s t : State} {x0 : Option (Nat × Byte)} {x1 : List Byte} (h : Kept s t) : Kept1 s (State.pcOtpRaise x0 x1 t) := by
  unfold State.pcOtpRaise
  repeat' with_reducible first
    | assumption
    | refine kept_ite (fun _ => ?_) (fun _ => ?_)
    | refine kept1_ite (fun _ => ?_) (fun _ => ?_)
    | (extract_lets +onlyGivenNames u; first | ((refine (fun (_ : Kept s u) => ?_) ?_); (on_goal 1 => clear_value u); (on_goal 2 => subst u)) | ((refine (fun (_ : Kept1 s u) => ?_) ?_); (on_goal 1 => clear_value u); (on_goal 2 => subst u)) | ((refine (fun (_ : Kept2 s u) => ?_) ?_); (on_goal 1 => clear_value u); (on_goal 2 => subst u)) | clear_value u)
    | refine State.otpCall_kept ?_
    | refine Kept1.fst (State.otpCall_kept ?_)
    | refine Kept1.of (State.otpCall_kept ?_) (by assumption)
    | exact Kept1.fst (by assumption)
    | exact Kept2.snd (by assumption)
    | exact Kept1.of (by assumption) (by assumption)
    | fail_if_no_progress refine kept_mk ?_
    | split
    | fail_if_no_progress refine Kept1.mk ?_

theorem execOtpRaiseVersion_kept {s t : State} {x0 : Option (Nat × Byte)} (h : Kept s t) : KeptO s (execOtpRaiseVersion x0 t) := by
  unfold execOtpRaiseVersion
  repeat' with_reducible first
    | assumption
    | refine KeptO.next ?_
    | refine State.runCall_kept ?_ (fun _ _ _ => ?_)
    | refine State.pcOtpRaise_kept ?_
    | refine Kept1.fst (State.pcOtpRaise_kept ?_)
    | refine Kept1.of (State.pcOtpRaise_kept ?_) (by assumption)
    | exact Kept1.fst (by assumption)
    | exact Kept2.snd (by assumption)
    | exact Kept1.of (by assumption) (by assumption)
    | fail_if_no_progress refine kept_mk ?_
    | fail_if_no_progress refine Kept1.mk ?_

theorem State.setDebug_kept {s t : State} {x0 : Bool} (h : Kept s t) : Kept s (State.setDebug t x0) := by
  unfold State.setDebug
  repeat' with_reducible first
    | assumption
    | refine kept_ite (fun _ => ?_) (fun _ => ?_)
    | refine kept1_ite (fun _ => ?_) (fun _ => ?_)
    | refine State.setRbit_kept ?_
    | exact Kept1.fst (by assumption)
    | exact Kept2.snd (by assumption)
    | exact Kept1.of (by assumption) (by assumption)
    | fail_if_no_progress refine kept_mk ?_
    | split
    | fail_if_no_progress refine Kept1.mk ?_

theorem State.pcSetDebug_kept {s t : State} {x0 : List Byte} (h : Kept s t) : Kept1 s (State.pcSetDebug x0 t) := by
  unfold State.pcSetDebug
  repeat' with_reducible first
    | assumption
    | refine kept_ite (fun _ => ?_) (fun _ => ?_)
    | refine kept1_ite (fun _ => ?_) (fun _ => ?_)
    | refine State.setDebug_kept ?_
    | exact Kept1.fst (by assumption)
    | exact Kept2.snd (by assumption)
    | exact Kept1.of (by assumption) (by assumption)
    | fail_if_no_progress refine kept_mk ?_
    | split
    | fail_if_no_progress refine Kept1.mk ?_

theorem execSetDebug_kept {s t : State} (h : Kept s t) : KeptO s (execSetDebug t) := by
  unfold execSetDebug
  repeat' with_reducible first
    | assumption
    | refine KeptO.next ?_
    | refine State.runCall_kept ?_ (fun _ _ _ => ?_)
    | refine State.pcSetDebug_kept ?_
    | refine Kept1.fst (State.pcSetDebug_kept ?_)
    | refine Kept1.of (State.pcSetDebug_kept ?_) (by assumption)
    | exact Kept1.fst (by assumption)
    | exact Kept2.snd (by assumption)
    | exact Kept1.of (by assumption) (by assumption)
    | fail_if_no_progress refine kept_mk ?_
    | fail_if_no_progress refine Kept1.mk ?_

end Sys2Proof.Machine
end

