-- ==== Sys2Proof/Laws/KeptBus.lean ====
section
/-! SUPPORT. Every operation of Machine/Bus.lean keeps the waiting commands, the invariant and every programmed bit. -/

namespace Sys2Proof.Machine

set_option linter.unusedTactic false
set_option linter.unreachableTactic false

theorem State.setLatch_kept {s t : State} {x0 : Nat} {x1 : Option Word} (h : Kept s t) : Kept s (State.setLatch t x0 x1) := by
  unfold State.setLatch
  repeat' with_reducible first
    | assumption
    | exact Kept1.fst (by assumption)
    | exact Kept2.snd (by assumption)
    | exact Kept1.of (by assumption) (by assumption)
    | fail_if_no_progress refine kept_mk ?_
    | fail_if_no_progress refine Kept1.mk ?_

theorem State.clearRead_kept {s t : State} {x0 : Nat} (h : Kept s t) : Kept s (State.clearRead t x0) := by
  unfold State.clearRead
  repeat' with_reducible first
    | assumption
    | refine kept_ite (fun _ => ?_) (fun _ => ?_)
    | refine kept1_ite (fun _ => ?_) (fun _ => ?_)
    | (extract_lets +onlyGivenNames u; first | ((refine (fun (_ : Kept s u) => ?_) ?_); (on_goal 1 => clear_value u); (on_goal 2 => subst u)) | ((refine (fun (_ : Kept1 s u) => ?_) ?_); (on_goal 1 => clear_value u); (on_goal 2 => subst u)) | ((refine (fun (_ : Kept2 s u) => ?_) ?_); (on_goal 1 => clear_value u); (on_goal 2 => subst u)) | clear_value u)
    | refine State.setReg_kept ?_
    | refine State.setPolicer_kept ?_
    | exact Kept1.fst (by assumption)
    | exact Kept2.snd (by assumption)
    | exact Kept1.of (by assumption) (by assumption)
    | fail_if_no_progress refine kept_mk ?_
    | split
    | fail_if_no_progress refine Kept1.mk ?_

theorem State.readReg_kept {s t : State} {x0 : Nat} (h : Kept s t) : Kept1 s (State.readReg t x0) := by
  unfold State.readReg
  repeat' with_reducible first
    | assumption
    | refine kept_ite (fun _ => ?_) (fun _ => ?_)
    | refine kept1_ite (fun _ => ?_) (fun _ => ?_)
    | (extract_lets +onlyGivenNames u; first | ((refine (fun (_ : Kept s u) => ?_) ?_); (on_goal 1 => clear_value u); (on_goal 2 => subst u)) | ((refine (fun (_ : Kept1 s u) => ?_) ?_); (on_goal 1 => clear_value u); (on_goal 2 => subst u)) | ((refine (fun (_ : Kept2 s u) => ?_) ?_); (on_goal 1 => clear_value u); (on_goal 2 => subst u)) | clear_value u)
    | refine State.doIf_kept ?_ (fun _ _ => ?_)
    | refine State.latchNow_kept ?_
    | refine State.latchPps_kept ?_
    | refine State.fifoPop_kept ?_
    | refine Kept1.fst (State.fifoPop_kept ?_)
    | refine Kept1.of (State.fifoPop_kept ?_) (by assumption)
    | refine State.setLatch_kept ?_
    | refine State.clearRead_kept ?_
    | exact Kept1.fst (by assumption)
    | exact Kept2.snd (by assumption)
    | exact Kept1.of (by assumption) (by assumption)
    | fail_if_no_progress refine kept_mk ?_
    | split
    | refine Kept1.of ?_ (by assumption)
    | fail_if_no_progress refine Kept1.mk ?_

theorem State.busRead_kept {s t : State} {x0 : Writer} {x1 : Nat} (h : Kept s t) : Kept1 s (State.busRead t x0 x1) := by
  unfold State.busRead
  repeat' with_reducible first
    | assumption
    | refine kept_ite (fun _ => ?_) (fun _ => ?_)
    | refine kept1_ite (fun _ => ?_) (fun _ => ?_)
    | refine State.readReg_kept ?_
    | refine Kept1.fst (State.readReg_kept ?_)
    | refine Kept1.of (State.readReg_kept ?_) (by assumption)
    | exact Kept1.fst (by assumption)
    | exact Kept2.snd (by assumption)
    | exact Kept1.of (by assumption) (by assumption)
    | fail_if_no_progress refine kept_mk ?_
    | split
    | refine Kept1.of ?_ (by assumption)
    | fail_if_no_progress refine Kept1.mk ?_

theorem State.answerRead_kept {s t : State} {x0 : Writer} {x1 : Nat} (h : Kept s t) : Kept s (State.answerRead t x0 x1) := by
  unfold State.answerRead
  repeat' with_reducible first
    | assumption
    | refine State.busRead_kept ?_
    | refine Kept1.fst (State.busRead_kept ?_)
    | refine Kept1.of (State.busRead_kept ?_) (by assumption)
    | refine State.emit_kept ?_
    | exact Kept1.fst (by assumption)
    | exact Kept2.snd (by assumption)
    | exact Kept1.of (by assumption) (by assumption)
    | fail_if_no_progress refine kept_mk ?_
    | split
    | refine Kept1.of ?_ (by assumption)
    | fail_if_no_progress refine Kept1.mk ?_

theorem execRcRegisterRead_kept {s t : State} {x0 : Writer} {x1 : BitVec 24} (h : Kept s t) : KeptO s (execRcRegisterRead x0 x1 t) := by
  unfold execRcRegisterRead
  repeat' with_reducible first
    | assumption
    | refine KeptO.next ?_
    | refine State.answerRead_kept ?_
    | exact Kept1.fst (by assumption)
    | exact Kept2.snd (by assumption)
    | exact Kept1.of (by assumption) (by assumption)
    | fail_if_no_progress refine kept_mk ?_
    | fail_if_no_progress refine Kept1.mk ?_

theorem execLowWordRead_kept {s t : State} {x0 : Writer} {x1 : BitVec 24} (h : Kept s t) : KeptO s (execLowWordRead x0 x1 t) := by
  unfold execLowWordRead
  repeat' with_reducible first
    | assumption
    | refine KeptO.next ?_
    | refine State.answerRead_kept ?_
    | exact Kept1.fst (by assumption)
    | exact Kept2.snd (by assumption)
    | exact Kept1.of (by assumption) (by assumption)
    | fail_if_no_progress refine kept_mk ?_
    | fail_if_no_progress refine Kept1.mk ?_

theorem execBar0BadAccess_kept {s t : State} {x0 : BadAsk} (h : Kept s t) : KeptO s (execBar0BadAccess x0 t) := by
  unfold execBar0BadAccess
  repeat' with_reducible first
    | assumption
    | refine kept_ite (fun _ => ?_) (fun _ => ?_)
    | refine kept1_ite (fun _ => ?_) (fun _ => ?_)
    | refine KeptO.next ?_
    | refine State.emit_kept ?_
    | exact Kept1.fst (by assumption)
    | exact Kept2.snd (by assumption)
    | exact Kept1.of (by assumption) (by assumption)
    | fail_if_no_progress refine kept_mk ?_
    | split
    | fail_if_no_progress refine Kept1.mk ?_

end Sys2Proof.Machine
end

