-- ==== Sys2Proof/Laws/KeptBusWrite.lean ====
section
/-! SUPPORT. Every operation of Machine/BusWrite.lean keeps the waiting commands, the invariant and every programmed bit. -/

namespace Sys2Proof.Machine

set_option linter.unusedTactic false
set_option linter.unreachableTactic false

theorem State.plainWrite_kept {s t : State} {x0 : Writer} {x1 : Nat} {x2 : Word} (h : Kept s t) : Kept s (State.plainWrite t x0 x1 x2) := by
  unfold State.plainWrite
  repeat' with_reducible first
    | assumption
    | refine kept_ite (fun _ => ?_) (fun _ => ?_)
    | refine kept1_ite (fun _ => ?_) (fun _ => ?_)
    | refine State.store_kept ?_
    | refine State.setReg_kept ?_
    | exact Kept1.fst (by assumption)
    | exact Kept2.snd (by assumption)
    | exact Kept1.of (by assumption) (by assumption)
    | fail_if_no_progress refine kept_mk ?_
    | split
    | refine Kept1.of ?_ (by assumption)
    | fail_if_no_progress refine Kept1.mk ?_

theorem State.pktCommand_kept {s t : State} {x0 : Word} (h : Kept s t) : Kept s (State.pktCommand t x0) := by
  unfold State.pktCommand
  repeat' with_reducible first
    | assumption
    | refine kept_ite (fun _ => ?_) (fun _ => ?_)
    | refine kept1_ite (fun _ => ?_) (fun _ => ?_)
    | (extract_lets +onlyGivenNames u; first | ((refine (fun (_ : Kept s u) => ?_) ?_); (on_goal 1 => clear_value u); (on_goal 2 => subst u)) | ((refine (fun (_ : Kept1 s u) => ?_) ?_); (on_goal 1 => clear_value u); (on_goal 2 => subst u)) | ((refine (fun (_ : Kept2 s u) => ?_) ?_); (on_goal 1 => clear_value u); (on_goal 2 => subst u)) | clear_value u)
    | refine State.flowRead_kept ?_
    | refine State.flowWriteNew_kept ?_
    | refine Kept1.fst (State.flowWriteNew_kept ?_)
    | refine Kept1.of (State.flowWriteNew_kept ?_) (by assumption)
    | refine State.flowUpdate_kept ?_
    | refine Kept1.fst (State.flowUpdate_kept ?_)
    | refine Kept1.of (State.flowUpdate_kept ?_) (by assumption)
    | refine State.flowInvalidate_kept ?_
    | exact Kept1.fst (by assumption)
    | exact Kept2.snd (by assumption)
    | exact Kept1.of (by assumption) (by assumption)
    | fail_if_no_progress refine kept_mk ?_
    | split
    | fail_if_no_progress refine Kept1.mk ?_

theorem State.hostqCtrl_kept {s t : State} {x0 : Nat} {x1 : Word} (h : Kept s t) : Kept s (State.hostqCtrl t x0 x1) := by
  unfold State.hostqCtrl
  repeat' with_reducible first
    | assumption
    | refine kept_ite (fun _ => ?_) (fun _ => ?_)
    | refine kept1_ite (fun _ => ?_) (fun _ => ?_)
    | (extract_lets +onlyGivenNames u; first | ((refine (fun (_ : Kept s u) => ?_) ?_); (on_goal 1 => clear_value u); (on_goal 2 => subst u)) | ((refine (fun (_ : Kept1 s u) => ?_) ?_); (on_goal 1 => clear_value u); (on_goal 2 => subst u)) | ((refine (fun (_ : Kept2 s u) => ?_) ?_); (on_goal 1 => clear_value u); (on_goal 2 => subst u)) | clear_value u)
    | refine State.doIf_kept ?_ (fun _ _ => ?_)
    | refine State.tallyDisable_kept ?_
    | refine State.tallyEnable_kept ?_
    | refine State.cmdEnable_kept ?_
    | refine State.cmdDisable_kept ?_
    | exact Kept1.fst (by assumption)
    | exact Kept2.snd (by assumption)
    | exact Kept1.of (by assumption) (by assumption)
    | fail_if_no_progress refine kept_mk ?_
    | split
    | fail_if_no_progress refine Kept1.mk ?_

theorem State.dmaCtrl_kept {s t : State} {x0 : Nat} {x1 : Word} (h : Kept s t) : Kept s (State.dmaCtrl t x0 x1) := by
  unfold State.dmaCtrl
  repeat' with_reducible first
    | assumption
    | refine kept_ite (fun _ => ?_) (fun _ => ?_)
    | refine kept1_ite (fun _ => ?_) (fun _ => ?_)
    | refine State.doIf_kept ?_ (fun _ _ => ?_)
    | refine State.dmaHalt_kept ?_
    | refine State.dmaStop_kept ?_
    | refine State.dmaEnable_kept ?_
    | exact Kept1.fst (by assumption)
    | exact Kept2.snd (by assumption)
    | exact Kept1.of (by assumption) (by assumption)
    | fail_if_no_progress refine kept_mk ?_
    | split
    | fail_if_no_progress refine Kept1.mk ?_

theorem State.poolWindow_kept {s t : State} {x0 : Writer} {x1 : Nat} {x2 : Nat} {x3 : Word} (h : Kept s t) : Kept s (State.poolWindow t x0 x1 x2 x3) := by
  unfold State.poolWindow
  repeat' with_reducible first
    | assumption
    | refine kept_ite (fun _ => ?_) (fun _ => ?_)
    | refine kept1_ite (fun _ => ?_) (fun _ => ?_)
    | (extract_lets +onlyGivenNames u; first | ((refine (fun (_ : Kept s u) => ?_) ?_); (on_goal 1 => clear_value u); (on_goal 2 => subst u)) | ((refine (fun (_ : Kept1 s u) => ?_) ?_); (on_goal 1 => clear_value u); (on_goal 2 => subst u)) | ((refine (fun (_ : Kept2 s u) => ?_) ?_); (on_goal 1 => clear_value u); (on_goal 2 => subst u)) | clear_value u)
    | refine State.poolAsk_kept ?_
    | refine Kept1.fst (State.poolAsk_kept ?_)
    | refine Kept1.of (State.poolAsk_kept ?_) (by assumption)
    | refine State.poolReply_kept ?_
    | refine State.setReg_kept ?_
    | refine State.poolRef_kept ?_
    | refine Kept1.fst (State.poolRef_kept ?_)
    | refine Kept1.of (State.poolRef_kept ?_) (by assumption)
    | refine State.refReply_kept ?_
    | exact Kept1.fst (by assumption)
    | exact Kept2.snd (by assumption)
    | exact Kept1.of (by assumption) (by assumption)
    | fail_if_no_progress refine kept_mk ?_
    | split
    | refine Kept1.of ?_ (by assumption)
    | fail_if_no_progress refine Kept1.mk ?_

theorem State.sevWrite_kept {s t : State} {x0 : Nat} {x1 : Word} (h : Kept s t) : Kept s (State.sevWrite t x0 x1) := by
  unfold State.sevWrite
  repeat' with_reducible first
    | assumption
    | refine State.forEach_kept ?_ (fun _ _ _ => ?_)
    | refine State.setSeverity_kept ?_
    | exact Kept1.fst (by assumption)
    | exact Kept2.snd (by assumption)
    | exact Kept1.of (by assumption) (by assumption)
    | fail_if_no_progress refine kept_mk ?_
    | fail_if_no_progress refine Kept1.mk ?_

theorem State.pairCtrl_kept {s t : State} {x0 : Word} (h : Kept s t) : Kept s (State.pairCtrl t x0) := by
  unfold State.pairCtrl
  repeat' with_reducible first
    | assumption
    | refine kept_ite (fun _ => ?_) (fun _ => ?_)
    | refine kept1_ite (fun _ => ?_) (fun _ => ?_)
    | (extract_lets +onlyGivenNames u; first | ((refine (fun (_ : Kept s u) => ?_) ?_); (on_goal 1 => clear_value u); (on_goal 2 => subst u)) | ((refine (fun (_ : Kept1 s u) => ?_) ?_); (on_goal 1 => clear_value u); (on_goal 2 => subst u)) | ((refine (fun (_ : Kept2 s u) => ?_) ?_); (on_goal 1 => clear_value u); (on_goal 2 => subst u)) | clear_value u)
    | refine State.doIf_kept ?_ (fun _ _ => ?_)
    | refine State.setReg_kept ?_
    | refine State.pairDown_kept ?_
    | refine State.store_kept ?_
    | exact Kept1.fst (by assumption)
    | exact Kept2.snd (by assumption)
    | exact Kept1.of (by assumption) (by assumption)
    | fail_if_no_progress refine kept_mk ?_
    | split
    | fail_if_no_progress refine Kept1.mk ?_

theorem State.netEffect_kept {s t : State} {x0 : Writer} {x1 : Nat} {x2 : Word} (h : Kept s t) : Kept s (State.netEffect t x0 x1 x2) := by
  unfold State.netEffect
  repeat' with_reducible first
    | assumption
    | refine kept_ite (fun _ => ?_) (fun _ => ?_)
    | refine kept1_ite (fun _ => ?_) (fun _ => ?_)
    | (extract_lets +onlyGivenNames u; first | ((refine (fun (_ : Kept s u) => ?_) ?_); (on_goal 1 => clear_value u); (on_goal 2 => subst u)) | ((refine (fun (_ : Kept1 s u) => ?_) ?_); (on_goal 1 => clear_value u); (on_goal 2 => subst u)) | ((refine (fun (_ : Kept2 s u) => ?_) ?_); (on_goal 1 => clear_value u); (on_goal 2 => subst u)) | clear_value u)
    | refine State.doIf_kept ?_ (fun _ _ => ?_)
    | refine State.pktCommand_kept ?_
    | refine State.smtxTailWrite_kept ?_
    | refine State.shqWrite_kept ?_
    | refine State.store_kept ?_
    | refine State.syncLatency_kept ?_
    | refine State.shaperStatus_kept ?_
    | refine State.showPolicer_kept ?_
    | refine State.policerWrite_kept ?_
    | refine State.latCtrlWrite_kept ?_
    | refine State.latSnapshot_kept ?_
    | refine State.pairCtrl_kept ?_
    | refine State.pairSwitch_kept ?_
    | refine State.resetPeer_kept ?_
    | refine State.plainWrite_kept ?_
    | exact Kept1.fst (by assumption)
    | exact Kept2.snd (by assumption)
    | exact Kept1.of (by assumption) (by assumption)
    | fail_if_no_progress refine kept_mk ?_
    | split
    | fail_if_no_progress refine Kept1.mk ?_

theorem State.hostEffect_kept {s t : State} {x0 : Writer} {x1 : Nat} {x2 : Word} (h : Kept s t) : Kept s (State.hostEffect t x0 x1 x2) := by
  unfold State.hostEffect
  repeat' with_reducible first
    | assumption
    | refine kept_ite (fun _ => ?_) (fun _ => ?_)
    | refine kept1_ite (fun _ => ?_) (fun _ => ?_)
    | (extract_lets +onlyGivenNames u; first | ((refine (fun (_ : Kept s u) => ?_) ?_); (on_goal 1 => clear_value u); (on_goal 2 => subst u)) | ((refine (fun (_ : Kept1 s u) => ?_) ?_); (on_goal 1 => clear_value u); (on_goal 2 => subst u)) | ((refine (fun (_ : Kept2 s u) => ?_) ?_); (on_goal 1 => clear_value u); (on_goal 2 => subst u)) | clear_value u)
    | refine State.plainWrite_kept ?_
    | refine State.hostqCtrl_kept ?_
    | refine State.doorbell_kept ?_
    | refine State.tallyAck_kept ?_
    | refine State.dmaCtrl_kept ?_
    | refine State.shadowWrite_kept ?_
    | exact Kept1.fst (by assumption)
    | exact Kept2.snd (by assumption)
    | exact Kept1.of (by assumption) (by assumption)
    | fail_if_no_progress refine kept_mk ?_
    | split
    | fail_if_no_progress refine Kept1.mk ?_

theorem State.cuexEffect_kept {s t : State} {x0 : Writer} {x1 : Nat} {x2 : Word} (h : Kept s t) : Kept s (State.cuexEffect t x0 x1 x2) := by
  unfold State.cuexEffect
  repeat' with_reducible first
    | assumption
    | refine kept_ite (fun _ => ?_) (fun _ => ?_)
    | refine kept1_ite (fun _ => ?_) (fun _ => ?_)
    | (extract_lets +onlyGivenNames u; first | ((refine (fun (_ : Kept s u) => ?_) ?_); (on_goal 1 => clear_value u); (on_goal 2 => subst u)) | ((refine (fun (_ : Kept1 s u) => ?_) ?_); (on_goal 1 => clear_value u); (on_goal 2 => subst u)) | ((refine (fun (_ : Kept2 s u) => ?_) ?_); (on_goal 1 => clear_value u); (on_goal 2 => subst u)) | clear_value u)
    | refine State.forEach_kept ?_ (fun _ _ _ => ?_)
    | refine State.cueDoorbell_kept ?_
    | refine State.cuePostWrite_kept ?_
    | refine State.cueConsume_kept ?_
    | refine State.store_kept ?_
    | refine State.cuexSync_kept ?_
    | refine State.cueRouteWrite_kept ?_
    | refine State.cueSleep_kept ?_
    | refine State.cueAckWrite_kept ?_
    | refine State.cueCompleteWrite_kept ?_
    | refine State.plainWrite_kept ?_
    | exact Kept1.fst (by assumption)
    | exact Kept2.snd (by assumption)
    | exact Kept1.of (by assumption) (by assumption)
    | fail_if_no_progress refine kept_mk ?_
    | split
    | fail_if_no_progress refine Kept1.mk ?_

theorem State.serviceEffect_kept {s t : State} {x0 : Writer} {x1 : Nat} {x2 : Word} (h : Kept s t) : Kept s (State.serviceEffect t x0 x1 x2) := by
  unfold State.serviceEffect
  repeat' with_reducible first
    | assumption
    | refine kept_ite (fun _ => ?_) (fun _ => ?_)
    | refine kept1_ite (fun _ => ?_) (fun _ => ?_)
    | (extract_lets +onlyGivenNames u; first | ((refine (fun (_ : Kept s u) => ?_) ?_); (on_goal 1 => clear_value u); (on_goal 2 => subst u)) | ((refine (fun (_ : Kept1 s u) => ?_) ?_); (on_goal 1 => clear_value u); (on_goal 2 => subst u)) | ((refine (fun (_ : Kept2 s u) => ?_) ?_); (on_goal 1 => clear_value u); (on_goal 2 => subst u)) | clear_value u)
    | refine State.poolWindow_kept ?_
    | refine State.fifoCfgWrite_kept ?_
    | refine State.fifoPush_kept ?_
    | refine State.plainWrite_kept ?_
    | refine State.cvuPost_kept ?_
    | refine State.cvuCounterCfgWrite_kept ?_
    | exact Kept1.fst (by assumption)
    | exact Kept2.snd (by assumption)
    | exact Kept1.of (by assumption) (by assumption)
    | fail_if_no_progress refine kept_mk ?_
    | split
    | fail_if_no_progress refine Kept1.mk ?_

theorem State.careEffect_kept {s t : State} {x0 : Writer} {x1 : Nat} {x2 : Word} (h : Kept s t) : Kept s (State.careEffect t x0 x1 x2) := by
  unfold State.careEffect
  repeat' with_reducible first
    | assumption
    | refine kept_ite (fun _ => ?_) (fun _ => ?_)
    | refine kept1_ite (fun _ => ?_) (fun _ => ?_)
    | (extract_lets +onlyGivenNames u; first | ((refine (fun (_ : Kept s u) => ?_) ?_); (on_goal 1 => clear_value u); (on_goal 2 => subst u)) | ((refine (fun (_ : Kept1 s u) => ?_) ?_); (on_goal 1 => clear_value u); (on_goal 2 => subst u)) | ((refine (fun (_ : Kept2 s u) => ?_) ?_); (on_goal 1 => clear_value u); (on_goal 2 => subst u)) | clear_value u)
    | refine State.doIf_kept ?_ (fun _ _ => ?_)
    | refine State.resetCmd_kept ?_
    | refine State.pwdKick_kept ?_
    | refine State.smwdKick_kept ?_
    | refine State.setDebug_kept ?_
    | refine State.plainWrite_kept ?_
    | refine State.sweep_kept ?_
    | refine State.postCall_kept ?_
    | refine State.heartbeat_kept ?_
    | refine State.clearFirst_kept ?_
    | refine State.clearStop_kept ?_
    | refine State.sevWrite_kept ?_
    | refine State.rehCmd_kept ?_
    | refine State.store_kept ?_
    | refine State.showSig_kept ?_
    | refine State.timeCtrlWrite_kept ?_
    | refine State.timeIncrWrite_kept ?_
    | refine State.timeMaxAdjWrite_kept ?_
    | refine State.timeStep_kept ?_
    | refine State.timeSample_kept ?_
    | exact Kept1.fst (by assumption)
    | exact Kept2.snd (by assumption)
    | exact Kept1.of (by assumption) (by assumption)
    | fail_if_no_progress refine kept_mk ?_
    | split
    | fail_if_no_progress refine Kept1.mk ?_

theorem State.workEffect_kept {s t : State} {x0 : Writer} {x1 : Nat} {x2 : Word} (h : Kept s t) : Kept s (State.workEffect t x0 x1 x2) := by
  unfold State.workEffect
  repeat' with_reducible first
    | assumption
    | refine kept_ite (fun _ => ?_) (fun _ => ?_)
    | refine kept1_ite (fun _ => ?_) (fun _ => ?_)
    | (extract_lets +onlyGivenNames u; first | ((refine (fun (_ : Kept s u) => ?_) ?_); (on_goal 1 => clear_value u); (on_goal 2 => subst u)) | ((refine (fun (_ : Kept1 s u) => ?_) ?_); (on_goal 1 => clear_value u); (on_goal 2 => subst u)) | ((refine (fun (_ : Kept2 s u) => ?_) ?_); (on_goal 1 => clear_value u); (on_goal 2 => subst u)) | clear_value u)
    | refine State.writeSessCtrl_kept ?_
    | refine State.writeSessTiming_kept ?_
    | refine State.plainWrite_kept ?_
    | refine State.sessStatus_kept ?_
    | refine State.pxDebugRead_kept ?_
    | refine State.ceDebugRead_kept ?_
    | refine State.auxStart_kept ?_
    | refine State.setReg_kept ?_
    | exact Kept1.fst (by assumption)
    | exact Kept2.snd (by assumption)
    | exact Kept1.of (by assumption) (by assumption)
    | fail_if_no_progress refine kept_mk ?_
    | split
    | fail_if_no_progress refine Kept1.mk ?_

theorem State.regEffect_kept {s t : State} {x0 : Writer} {x1 : Nat} {x2 : Word} (h : Kept s t) : Kept s (State.regEffect t x0 x1 x2) := by
  unfold State.regEffect
  repeat' with_reducible first
    | assumption
    | refine kept_ite (fun _ => ?_) (fun _ => ?_)
    | refine kept1_ite (fun _ => ?_) (fun _ => ?_)
    | (extract_lets +onlyGivenNames u; first | ((refine (fun (_ : Kept s u) => ?_) ?_); (on_goal 1 => clear_value u); (on_goal 2 => subst u)) | ((refine (fun (_ : Kept1 s u) => ?_) ?_); (on_goal 1 => clear_value u); (on_goal 2 => subst u)) | ((refine (fun (_ : Kept2 s u) => ?_) ?_); (on_goal 1 => clear_value u); (on_goal 2 => subst u)) | clear_value u)
    | refine State.careEffect_kept ?_
    | refine State.cuexEffect_kept ?_
    | refine State.serviceEffect_kept ?_
    | refine State.hostEffect_kept ?_
    | refine State.netEffect_kept ?_
    | refine State.workEffect_kept ?_
    | exact Kept1.fst (by assumption)
    | exact Kept2.snd (by assumption)
    | exact Kept1.of (by assumption) (by assumption)
    | fail_if_no_progress refine kept_mk ?_
    | split
    | fail_if_no_progress refine Kept1.mk ?_

theorem State.landWrite_kept {s t : State} {x0 : Writer} {x1 : Nat} {x2 : Word} (h : Kept s t) : Kept s (State.landWrite t x0 x1 x2) := by
  unfold State.landWrite
  repeat' with_reducible first
    | assumption
    | refine kept_ite (fun _ => ?_) (fun _ => ?_)
    | refine kept1_ite (fun _ => ?_) (fun _ => ?_)
    | refine State.setReg_kept ?_
    | refine State.netEffect_kept ?_
    | refine State.workEffect_kept ?_
    | refine State.store_kept ?_
    | exact Kept1.fst (by assumption)
    | exact Kept2.snd (by assumption)
    | exact Kept1.of (by assumption) (by assumption)
    | fail_if_no_progress refine kept_mk ?_
    | split
    | refine Kept1.of ?_ (by assumption)
    | fail_if_no_progress refine Kept1.mk ?_

theorem State.blockEnable_kept {s t : State} {x0 : Nat} (h : Kept s t) : Kept s (State.blockEnable t x0) := by
  unfold State.blockEnable
  repeat' with_reducible first
    | assumption
    | refine kept_ite (fun _ => ?_) (fun _ => ?_)
    | refine kept1_ite (fun _ => ?_) (fun _ => ?_)
    | refine State.ctxEnable_kept ?_
    | refine State.outEnable_kept ?_
    | refine State.inEnable_kept ?_
    | refine State.netEnable_kept ?_
    | refine State.dramEnable_kept ?_
    | refine State.poolEnable_kept ?_
    | refine State.setRbit_kept ?_
    | exact Kept1.fst (by assumption)
    | exact Kept2.snd (by assumption)
    | exact Kept1.of (by assumption) (by assumption)
    | fail_if_no_progress refine kept_mk ?_
    | split
    | fail_if_no_progress refine Kept1.mk ?_

theorem State.blockStop_kept {s t : State} {x0 : Nat} (h : Kept s t) : Kept s (State.blockStop t x0) := by
  unfold State.blockStop
  repeat' with_reducible first
    | assumption
    | refine kept_ite (fun _ => ?_) (fun _ => ?_)
    | refine kept1_ite (fun _ => ?_) (fun _ => ?_)
    | refine State.ctxStop_kept ?_
    | refine State.outStop_kept ?_
    | refine State.inStop_kept ?_
    | refine State.netStop_kept ?_
    | refine State.dramStop_kept ?_
    | refine State.setRbit_kept ?_
    | exact Kept1.fst (by assumption)
    | exact Kept2.snd (by assumption)
    | exact Kept1.of (by assumption) (by assumption)
    | fail_if_no_progress refine kept_mk ?_
    | split
    | fail_if_no_progress refine Kept1.mk ?_

theorem State.blockHalt_kept {s t : State} {x0 : Nat} (h : Kept s t) : Kept s (State.blockHalt t x0) := by
  unfold State.blockHalt
  repeat' with_reducible first
    | assumption
    | refine kept_ite (fun _ => ?_) (fun _ => ?_)
    | refine kept1_ite (fun _ => ?_) (fun _ => ?_)
    | refine State.ctxHalt_kept ?_
    | refine State.outHalt_kept ?_
    | refine State.inStop_kept ?_
    | refine State.netHalt_kept ?_
    | refine State.dramHalt_kept ?_
    | refine State.setRbit_kept ?_
    | exact Kept1.fst (by assumption)
    | exact Kept2.snd (by assumption)
    | exact Kept1.of (by assumption) (by assumption)
    | fail_if_no_progress refine kept_mk ?_
    | split
    | fail_if_no_progress refine Kept1.mk ?_

theorem State.runBits_kept {s t : State} {x0 : Nat} {x1 : Word} (h : Kept s t) : Kept s (State.runBits t x0 x1) := by
  unfold State.runBits
  repeat' with_reducible first
    | assumption
    | refine kept_ite (fun _ => ?_) (fun _ => ?_)
    | refine kept1_ite (fun _ => ?_) (fun _ => ?_)
    | refine State.doIf_kept ?_ (fun _ _ => ?_)
    | refine State.setRbit_kept ?_
    | refine State.blockHalt_kept ?_
    | refine State.blockStop_kept ?_
    | refine State.blockEnable_kept ?_
    | exact Kept1.fst (by assumption)
    | exact Kept2.snd (by assumption)
    | exact Kept1.of (by assumption) (by assumption)
    | fail_if_no_progress refine kept_mk ?_
    | split
    | fail_if_no_progress refine Kept1.mk ?_

theorem State.ctrlWrite_kept {s t : State} {x0 : Writer} {x1 : PageInfo} {x2 : Word} (h : Kept s t) : Kept s (State.ctrlWrite t x0 x1 x2) := by
  unfold State.ctrlWrite
  repeat' with_reducible first
    | assumption
    | (extract_lets +onlyGivenNames u; first | ((refine (fun (_ : Kept s u) => ?_) ?_); (on_goal 1 => clear_value u); (on_goal 2 => subst u)) | ((refine (fun (_ : Kept1 s u) => ?_) ?_); (on_goal 1 => clear_value u); (on_goal 2 => subst u)) | ((refine (fun (_ : Kept2 s u) => ?_) ?_); (on_goal 1 => clear_value u); (on_goal 2 => subst u)) | clear_value u)
    | refine State.doIf_kept ?_ (fun _ _ => ?_)
    | refine State.runBits_kept ?_
    | refine State.swReset_kept ?_
    | exact Kept1.fst (by assumption)
    | exact Kept2.snd (by assumption)
    | exact Kept1.of (by assumption) (by assumption)
    | fail_if_no_progress refine kept_mk ?_
    | fail_if_no_progress refine Kept1.mk ?_

theorem State.headerWrite_kept {s t : State} {x0 : Writer} {x1 : PageInfo} {x2 : Nat} {x3 : Word} (h : Kept s t) : Kept s (State.headerWrite t x0 x1 x2 x3) := by
  unfold State.headerWrite
  repeat' with_reducible first
    | assumption
    | refine kept_ite (fun _ => ?_) (fun _ => ?_)
    | refine kept1_ite (fun _ => ?_) (fun _ => ?_)
    | (extract_lets +onlyGivenNames u; first | ((refine (fun (_ : Kept s u) => ?_) ?_); (on_goal 1 => clear_value u); (on_goal 2 => subst u)) | ((refine (fun (_ : Kept1 s u) => ?_) ?_); (on_goal 1 => clear_value u); (on_goal 2 => subst u)) | ((refine (fun (_ : Kept2 s u) => ?_) ?_); (on_goal 1 => clear_value u); (on_goal 2 => subst u)) | clear_value u)
    | refine State.doIf_kept ?_ (fun _ _ => ?_)
    | refine State.setReg_kept ?_
    | refine State.ctrlWrite_kept ?_
    | refine State.blkForceWrite_kept ?_
    | refine State.shadowWrite_kept ?_
    | refine State.setFld_kept ?_
    | exact Kept1.fst (by assumption)
    | exact Kept2.snd (by assumption)
    | exact Kept1.of (by assumption) (by assumption)
    | fail_if_no_progress refine kept_mk ?_
    | split
    | fail_if_no_progress refine Kept1.mk ?_

theorem State.busWrite_kept {s t : State} {x0 : Writer} {x1 : Nat} {x2 : Word} (h : Kept s t) : Kept s (State.busWrite t x0 x1 x2) := by
  unfold State.busWrite
  repeat' with_reducible first
    | assumption
    | refine kept_ite (fun _ => ?_) (fun _ => ?_)
    | refine kept1_ite (fun _ => ?_) (fun _ => ?_)
    | (extract_lets +onlyGivenNames u; first | ((refine (fun (_ : Kept s u) => ?_) ?_); (on_goal 1 => clear_value u); (on_goal 2 => subst u)) | ((refine (fun (_ : Kept1 s u) => ?_) ?_); (on_goal 1 => clear_value u); (on_goal 2 => subst u)) | ((refine (fun (_ : Kept2 s u) => ?_) ?_); (on_goal 1 => clear_value u); (on_goal 2 => subst u)) | clear_value u)
    | refine State.fenceViolation_kept ?_
    | refine State.headerWrite_kept ?_
    | refine State.landWrite_kept ?_
    | refine State.regEffect_kept ?_
    | exact Kept1.fst (by assumption)
    | exact Kept2.snd (by assumption)
    | exact Kept1.of (by assumption) (by assumption)
    | fail_if_no_progress refine kept_mk ?_
    | split
    | refine Kept1.of ?_ (by assumption)
    | fail_if_no_progress refine Kept1.mk ?_

theorem execRegisterWrite_kept {s t : State} {x0 : Writer} {x1 : BitVec 24} {x2 : Word} (h : Kept s t) : KeptO s (execRegisterWrite x0 x1 x2 t) := by
  unfold execRegisterWrite
  repeat' with_reducible first
    | assumption
    | refine KeptO.next ?_
    | refine State.busWrite_kept ?_
    | exact Kept1.fst (by assumption)
    | exact Kept2.snd (by assumption)
    | exact Kept1.of (by assumption) (by assumption)
    | fail_if_no_progress refine kept_mk ?_
    | fail_if_no_progress refine Kept1.mk ?_

end Sys2Proof.Machine
end

