-- ==== Sys2Proof/Laws/KeptCe.lean ====
section
/-! SUPPORT. Every operation of Machine/Ce.lean keeps the waiting commands, the invariant and every programmed bit. -/

namespace Sys2Proof.Machine

set_option linter.unusedTactic false
set_option linter.unreachableTactic false

theorem State.setCe_kept {s t : State} {x0 : Nat} {x1 : CeEng} (h : Kept s t) : Kept s (State.setCe t x0 x1) := by
  unfold State.setCe
  repeat' with_reducible first
    | assumption
    | exact Kept1.fst (by assumption)
    | exact Kept2.snd (by assumption)
    | exact Kept1.of (by assumption) (by assumption)
    | fail_if_no_progress refine kept_mk ?_
    | fail_if_no_progress refine Kept1.mk ?_

theorem State.modCe_kept {s t : State} {x0 : Nat} {x1 : CeEng → CeEng} (h : Kept s t) : Kept s (State.modCe t x0 x1) := by
  unfold State.modCe
  repeat' with_reducible first
    | assumption
    | refine State.setCe_kept ?_
    | exact Kept1.fst (by assumption)
    | exact Kept2.snd (by assumption)
    | exact Kept1.of (by assumption) (by assumption)
    | fail_if_no_progress refine kept_mk ?_
    | fail_if_no_progress refine Kept1.mk ?_

theorem State.cePut_kept {s t : State} {x0 : Nat} {x1 : Nat} {x2 : Nat} (h : Kept s t) : Kept s (State.cePut t x0 x1 x2) := by
  unfold State.cePut
  repeat' with_reducible first
    | assumption
    | refine State.modCe_kept ?_
    | exact Kept1.fst (by assumption)
    | exact Kept2.snd (by assumption)
    | exact Kept1.of (by assumption) (by assumption)
    | fail_if_no_progress refine kept_mk ?_
    | fail_if_no_progress refine Kept1.mk ?_

theorem State.showCe_kept {s t : State} {x0 : Nat} (h : Kept s t) : Kept s (State.showCe t x0) := by
  unfold State.showCe
  repeat' with_reducible first
    | assumption
    | (extract_lets +onlyGivenNames u; first | ((refine (fun (_ : Kept s u) => ?_) ?_); (on_goal 1 => clear_value u); (on_goal 2 => subst u)) | ((refine (fun (_ : Kept1 s u) => ?_) ?_); (on_goal 1 => clear_value u); (on_goal 2 => subst u)) | ((refine (fun (_ : Kept2 s u) => ?_) ?_); (on_goal 1 => clear_value u); (on_goal 2 => subst u)) | clear_value u)
    | refine State.setRbit_kept ?_
    | refine State.setFld_kept ?_
    | exact Kept1.fst (by assumption)
    | exact Kept2.snd (by assumption)
    | exact Kept1.of (by assumption) (by assumption)
    | fail_if_no_progress refine kept_mk ?_
    | fail_if_no_progress refine Kept1.mk ?_

theorem State.ceCheck_kept {s t : State} {x0 : Nat} {x1 : Nat} {x2 : Nat} {x3 : Nat} (h : Kept s t) : Kept s (State.ceCheck t x0 x1 x2 x3) := by
  unfold State.ceCheck
  repeat' with_reducible first
    | assumption
    | (extract_lets +onlyGivenNames u; first | ((refine (fun (_ : Kept s u) => ?_) ?_); (on_goal 1 => clear_value u); (on_goal 2 => subst u)) | ((refine (fun (_ : Kept1 s u) => ?_) ?_); (on_goal 1 => clear_value u); (on_goal 2 => subst u)) | ((refine (fun (_ : Kept2 s u) => ?_) ?_); (on_goal 1 => clear_value u); (on_goal 2 => subst u)) | clear_value u)
    | refine State.doIf_kept ?_ (fun _ _ => ?_)
    | refine State.setRegN_kept ?_
    | refine State.bump_kept ?_
    | refine State.raise_kept ?_
    | refine State.noteParity_kept ?_
    | refine State.setRbit_kept ?_
    | refine State.ceLost_kept ?_
    | refine State.modCe_kept ?_
    | refine State.showCe_kept ?_
    | exact Kept1.fst (by assumption)
    | exact Kept2.snd (by assumption)
    | exact Kept1.of (by assumption) (by assumption)
    | fail_if_no_progress refine kept_mk ?_
    | fail_if_no_progress refine Kept1.mk ?_

theorem State.ceAbandon_kept {s t : State} {x0 : Nat} {x1 : Nat} {x2 : Nat} (h : Kept s t) : Kept s (State.ceAbandon t x0 x1 x2) := by
  unfold State.ceAbandon
  repeat' with_reducible first
    | assumption
    | (extract_lets +onlyGivenNames u; first | ((refine (fun (_ : Kept s u) => ?_) ?_); (on_goal 1 => clear_value u); (on_goal 2 => subst u)) | ((refine (fun (_ : Kept1 s u) => ?_) ?_); (on_goal 1 => clear_value u); (on_goal 2 => subst u)) | ((refine (fun (_ : Kept2 s u) => ?_) ?_); (on_goal 1 => clear_value u); (on_goal 2 => subst u)) | clear_value u)
    | refine State.setRegN_kept ?_
    | refine State.bump_kept ?_
    | refine State.raise_kept ?_
    | refine State.modCe_kept ?_
    | refine State.cePut_kept ?_
    | refine State.showCe_kept ?_
    | exact Kept1.fst (by assumption)
    | exact Kept2.snd (by assumption)
    | exact Kept1.of (by assumption) (by assumption)
    | fail_if_no_progress refine kept_mk ?_
    | split
    | refine Kept1.of ?_ (by assumption)
    | fail_if_no_progress refine Kept1.mk ?_

theorem State.ceTrouble_kept {s t : State} {x0 : Nat} {x1 : Nat} {x2 : Nat} {x3 : Nat} (h : Kept s t) : Kept s (State.ceTrouble t x0 x1 x2 x3) := by
  unfold State.ceTrouble
  repeat' with_reducible first
    | assumption
    | refine kept_ite (fun _ => ?_) (fun _ => ?_)
    | refine kept1_ite (fun _ => ?_) (fun _ => ?_)
    | refine State.ceAbandon_kept ?_
    | refine State.ceCheck_kept ?_
    | exact Kept1.fst (by assumption)
    | exact Kept2.snd (by assumption)
    | exact Kept1.of (by assumption) (by assumption)
    | fail_if_no_progress refine kept_mk ?_
    | split
    | fail_if_no_progress refine Kept1.mk ?_

theorem State.ceFence_kept {s t : State} {x0 : Nat} (h : Kept s t) : Kept s (State.ceFence t x0) := by
  unfold State.ceFence
  repeat' with_reducible first
    | assumption
    | refine State.ceTrouble_kept ?_
    | exact Kept1.fst (by assumption)
    | exact Kept2.snd (by assumption)
    | exact Kept1.of (by assumption) (by assumption)
    | fail_if_no_progress refine kept_mk ?_
    | fail_if_no_progress refine Kept1.mk ?_

theorem State.ceStart_kept {s t : State} {x0 : Nat} {x1 : Nat} {x2 : Nat} (h : Kept s t) : Kept s (State.ceStart t x0 x1 x2) := by
  unfold State.ceStart
  repeat' with_reducible first
    | assumption
    | refine kept_ite (fun _ => ?_) (fun _ => ?_)
    | refine kept1_ite (fun _ => ?_) (fun _ => ?_)
    | (extract_lets +onlyGivenNames u; first | ((refine (fun (_ : Kept s u) => ?_) ?_); (on_goal 1 => clear_value u); (on_goal 2 => subst u)) | ((refine (fun (_ : Kept1 s u) => ?_) ?_); (on_goal 1 => clear_value u); (on_goal 2 => subst u)) | ((refine (fun (_ : Kept2 s u) => ?_) ?_); (on_goal 1 => clear_value u); (on_goal 2 => subst u)) | clear_value u)
    | refine State.cueAck_kept ?_
    | refine State.bump_kept ?_
    | refine State.ceCheck_kept ?_
    | refine State.modCe_kept ?_
    | refine State.showCe_kept ?_
    | exact Kept1.fst (by assumption)
    | exact Kept2.snd (by assumption)
    | exact Kept1.of (by assumption) (by assumption)
    | fail_if_no_progress refine kept_mk ?_
    | split
    | refine Kept1.of ?_ (by assumption)
    | fail_if_no_progress refine Kept1.mk ?_

theorem execCeCueDispatch_kept {s t : State} {x0 : Fin 16} (h : Kept s t) : KeptO s (execCeCueDispatch x0 t) := by
  unfold execCeCueDispatch
  repeat' with_reducible first
    | assumption
    | refine kept_ite (fun _ => ?_) (fun _ => ?_)
    | refine kept1_ite (fun _ => ?_) (fun _ => ?_)
    | refine KeptO.next ?_
    | refine State.ifLive_kept ?_ (fun _ _ => ?_)
    | refine State.ceStart_kept ?_
    | exact Kept1.fst (by assumption)
    | exact Kept2.snd (by assumption)
    | exact Kept1.of (by assumption) (by assumption)
    | fail_if_no_progress refine kept_mk ?_
    | split
    | refine Kept1.of ?_ (by assumption)
    | fail_if_no_progress refine Kept1.mk ?_

theorem State.ceYield_kept {s t : State} {x0 : Nat} (h : Kept s t) : Kept s (State.ceYield t x0) := by
  unfold State.ceYield
  repeat' with_reducible first
    | assumption
    | (extract_lets +onlyGivenNames u; first | ((refine (fun (_ : Kept s u) => ?_) ?_); (on_goal 1 => clear_value u); (on_goal 2 => subst u)) | ((refine (fun (_ : Kept1 s u) => ?_) ?_); (on_goal 1 => clear_value u); (on_goal 2 => subst u)) | ((refine (fun (_ : Kept2 s u) => ?_) ?_); (on_goal 1 => clear_value u); (on_goal 2 => subst u)) | clear_value u)
    | refine State.modCe_kept ?_
    | refine State.ceStart_kept ?_
    | exact Kept1.fst (by assumption)
    | exact Kept2.snd (by assumption)
    | exact Kept1.of (by assumption) (by assumption)
    | fail_if_no_progress refine kept_mk ?_
    | split
    | refine Kept1.of ?_ (by assumption)
    | fail_if_no_progress refine Kept1.mk ?_

theorem State.ceUndo_kept {s t : State} {x0 : Nat} {x1 : CeEng} (h : Kept s t) : Kept s (State.ceUndo t x0 x1) := by
  unfold State.ceUndo
  repeat' with_reducible first
    | assumption
    | refine State.modCe_kept ?_
    | exact Kept1.fst (by assumption)
    | exact Kept2.snd (by assumption)
    | exact Kept1.of (by assumption) (by assumption)
    | fail_if_no_progress refine kept_mk ?_
    | fail_if_no_progress refine Kept1.mk ?_

theorem State.ceDone_kept {s t : State} {x0 : Nat} {x1 : Nat} {x2 : CeEng} {x3 : Nat} (h : Kept s t) : Kept s (State.ceDone t x0 x1 x2 x3) := by
  unfold State.ceDone
  repeat' with_reducible first
    | assumption
    | refine kept_ite (fun _ => ?_) (fun _ => ?_)
    | refine kept1_ite (fun _ => ?_) (fun _ => ?_)
    | (extract_lets +onlyGivenNames u; first | ((refine (fun (_ : Kept s u) => ?_) ?_); (on_goal 1 => clear_value u); (on_goal 2 => subst u)) | ((refine (fun (_ : Kept1 s u) => ?_) ?_); (on_goal 1 => clear_value u); (on_goal 2 => subst u)) | ((refine (fun (_ : Kept2 s u) => ?_) ?_); (on_goal 1 => clear_value u); (on_goal 2 => subst u)) | clear_value u)
    | refine State.modCe_kept ?_
    | refine State.keepMax_kept ?_
    | refine State.showCe_kept ?_
    | refine State.ceUndo_kept ?_
    | refine State.ceAbandon_kept ?_
    | refine State.ceTrouble_kept ?_
    | refine State.cuexSync_kept ?_
    | refine State.ceYield_kept ?_
    | exact Kept1.fst (by assumption)
    | exact Kept2.snd (by assumption)
    | exact Kept1.of (by assumption) (by assumption)
    | fail_if_no_progress refine kept_mk ?_
    | split
    | refine Kept1.of ?_ (by assumption)
    | fail_if_no_progress refine Kept1.mk ?_

theorem State.ceNext_kept {s t : State} {x0 : Nat} (h : Kept s t) : Kept1 s (State.ceNext t x0) := by
  unfold State.ceNext
  repeat' with_reducible first
    | assumption
    | exact Kept1.fst (by assumption)
    | exact Kept2.snd (by assumption)
    | exact Kept1.of (by assumption) (by assumption)
    | fail_if_no_progress refine kept_mk ?_
    | fail_if_no_progress refine Kept1.mk ?_

theorem State.ceWord_kept {s t : State} {x0 : Nat} {x1 : Nat} {x2 : Nat → State → CeResult} (h : Kept s t) (hf : ∀ w u, Kept s u → Kept1 s (x2 w u)) : Kept s (State.ceWord t x0 x1 x2) := by
  unfold State.ceWord
  repeat' with_reducible first
    | assumption
    | refine kept_ite (fun _ => ?_) (fun _ => ?_)
    | refine kept1_ite (fun _ => ?_) (fun _ => ?_)
    | refine hf _ _ ?_
    | refine Kept1.of (hf _ _ ?_) (by assumption)
    | refine Kept1.fst (hf _ _ ?_)
    | (extract_lets +onlyGivenNames u; first | ((refine (fun (_ : Kept s u) => ?_) ?_); (on_goal 1 => clear_value u); (on_goal 2 => subst u)) | ((refine (fun (_ : Kept1 s u) => ?_) ?_); (on_goal 1 => clear_value u); (on_goal 2 => subst u)) | ((refine (fun (_ : Kept2 s u) => ?_) ?_); (on_goal 1 => clear_value u); (on_goal 2 => subst u)) | clear_value u)
    | refine State.doIf_kept ?_ (fun _ _ => ?_)
    | refine State.ceCheck_kept ?_
    | refine State.ceTrouble_kept ?_
    | refine State.bump_kept ?_
    | refine State.ceDone_kept ?_
    | exact Kept1.fst (by assumption)
    | exact Kept2.snd (by assumption)
    | exact Kept1.of (by assumption) (by assumption)
    | fail_if_no_progress refine kept_mk ?_
    | split
    | refine Kept1.of ?_ (by assumption)
    | fail_if_no_progress refine Kept1.mk ?_

theorem State.ceReg_kept {s t : State} {x0 : Nat} {x1 : Nat} {x2 : Nat} (h : Kept s t) : Kept1 s (State.ceReg x0 x1 x2 t) := by
  unfold State.ceReg
  repeat' with_reducible first
    | assumption
    | (extract_lets +onlyGivenNames u; first | ((refine (fun (_ : Kept s u) => ?_) ?_); (on_goal 1 => clear_value u); (on_goal 2 => subst u)) | ((refine (fun (_ : Kept1 s u) => ?_) ?_); (on_goal 1 => clear_value u); (on_goal 2 => subst u)) | ((refine (fun (_ : Kept2 s u) => ?_) ?_); (on_goal 1 => clear_value u); (on_goal 2 => subst u)) | clear_value u)
    | refine State.cePut_kept ?_
    | refine State.ceNext_kept ?_
    | refine Kept1.fst (State.ceNext_kept ?_)
    | refine Kept1.of (State.ceNext_kept ?_) (by assumption)
    | exact Kept1.fst (by assumption)
    | exact Kept2.snd (by assumption)
    | exact Kept1.of (by assumption) (by assumption)
    | fail_if_no_progress refine kept_mk ?_
    | fail_if_no_progress refine Kept1.mk ?_

theorem State.ceCmp_kept {s t : State} {x0 : Nat} {x1 : Nat} (h : Kept s t) : Kept1 s (State.ceCmp x0 x1 t) := by
  unfold State.ceCmp
  repeat' with_reducible first
    | assumption
    | (extract_lets +onlyGivenNames u; first | ((refine (fun (_ : Kept s u) => ?_) ?_); (on_goal 1 => clear_value u); (on_goal 2 => subst u)) | ((refine (fun (_ : Kept1 s u) => ?_) ?_); (on_goal 1 => clear_value u); (on_goal 2 => subst u)) | ((refine (fun (_ : Kept2 s u) => ?_) ?_); (on_goal 1 => clear_value u); (on_goal 2 => subst u)) | clear_value u)
    | refine State.modCe_kept ?_
    | refine State.ceNext_kept ?_
    | refine Kept1.fst (State.ceNext_kept ?_)
    | refine Kept1.of (State.ceNext_kept ?_) (by assumption)
    | exact Kept1.fst (by assumption)
    | exact Kept2.snd (by assumption)
    | exact Kept1.of (by assumption) (by assumption)
    | fail_if_no_progress refine kept_mk ?_
    | fail_if_no_progress refine Kept1.mk ?_

theorem State.ceImm_kept {s t : State} {x0 : Nat} {x1 : Nat} {x2 : Nat} (h : Kept s t) : Kept1 s (State.ceImm x0 x1 x2 t) := by
  unfold State.ceImm
  repeat' with_reducible first
    | assumption
    | (extract_lets +onlyGivenNames u; first | ((refine (fun (_ : Kept s u) => ?_) ?_); (on_goal 1 => clear_value u); (on_goal 2 => subst u)) | ((refine (fun (_ : Kept1 s u) => ?_) ?_); (on_goal 1 => clear_value u); (on_goal 2 => subst u)) | ((refine (fun (_ : Kept2 s u) => ?_) ?_); (on_goal 1 => clear_value u); (on_goal 2 => subst u)) | clear_value u)
    | refine State.cePut_kept ?_
    | refine State.ceNext_kept ?_
    | refine Kept1.fst (State.ceNext_kept ?_)
    | refine Kept1.of (State.ceNext_kept ?_) (by assumption)
    | exact Kept1.fst (by assumption)
    | exact Kept2.snd (by assumption)
    | exact Kept1.of (by assumption) (by assumption)
    | fail_if_no_progress refine kept_mk ?_
    | split
    | refine Kept1.of ?_ (by assumption)
    | fail_if_no_progress refine Kept1.mk ?_

theorem State.ceLi_kept {s t : State} {x0 : Nat} {x1 : Nat} (h : Kept s t) : Kept1 s (State.ceLi x0 x1 t) := by
  unfold State.ceLi
  repeat' with_reducible first
    | assumption
    | refine State.cePut_kept ?_
    | refine State.ceNext_kept ?_
    | refine Kept1.fst (State.ceNext_kept ?_)
    | refine Kept1.of (State.ceNext_kept ?_) (by assumption)
    | exact Kept1.fst (by assumption)
    | exact Kept2.snd (by assumption)
    | exact Kept1.of (by assumption) (by assumption)
    | fail_if_no_progress refine kept_mk ?_
    | fail_if_no_progress refine Kept1.mk ?_

theorem State.ceLui_kept {s t : State} {x0 : Nat} {x1 : Nat} (h : Kept s t) : Kept1 s (State.ceLui x0 x1 t) := by
  unfold State.ceLui
  repeat' with_reducible first
    | assumption
    | refine State.cePut_kept ?_
    | refine State.ceNext_kept ?_
    | refine Kept1.fst (State.ceNext_kept ?_)
    | refine Kept1.of (State.ceNext_kept ?_) (by assumption)
    | exact Kept1.fst (by assumption)
    | exact Kept2.snd (by assumption)
    | exact Kept1.of (by assumption) (by assumption)
    | fail_if_no_progress refine kept_mk ?_
    | fail_if_no_progress refine Kept1.mk ?_

theorem State.ceFree_kept {s t : State} {x0 : Nat} {x1 : Nat} (h : Kept s t) : Kept s (State.ceFree t x0 x1) := by
  unfold State.ceFree
  repeat' with_reducible first
    | assumption
    | refine State.takeFree_kept ?_
    | refine Kept2.snd (State.takeFree_kept ?_)
    | refine Kept2.of (State.takeFree_kept ?_) (by assumption)
    | refine State.cePut_kept ?_
    | exact Kept1.fst (by assumption)
    | exact Kept2.snd (by assumption)
    | exact Kept1.of (by assumption) (by assumption)
    | fail_if_no_progress refine kept_mk ?_
    | split
    | refine Kept1.of ?_ (by assumption)
    | fail_if_no_progress refine Kept1.mk ?_

theorem State.ceLd_kept {s t : State} {x0 : Nat} {x1 : Nat} (h : Kept s t) : Kept1 s (State.ceLd x0 x1 t) := by
  unfold State.ceLd
  repeat' with_reducible first
    | assumption
    | refine kept_ite (fun _ => ?_) (fun _ => ?_)
    | refine kept1_ite (fun _ => ?_) (fun _ => ?_)
    | (extract_lets +onlyGivenNames u; first | ((refine (fun (_ : Kept s u) => ?_) ?_); (on_goal 1 => clear_value u); (on_goal 2 => subst u)) | ((refine (fun (_ : Kept1 s u) => ?_) ?_); (on_goal 1 => clear_value u); (on_goal 2 => subst u)) | ((refine (fun (_ : Kept2 s u) => ?_) ?_); (on_goal 1 => clear_value u); (on_goal 2 => subst u)) | clear_value u)
    | refine State.ceFence_kept ?_
    | refine State.cePut_kept ?_
    | refine State.ceFree_kept ?_
    | refine State.ceNext_kept ?_
    | refine Kept1.fst (State.ceNext_kept ?_)
    | refine Kept1.of (State.ceNext_kept ?_) (by assumption)
    | exact Kept1.fst (by assumption)
    | exact Kept2.snd (by assumption)
    | exact Kept1.of (by assumption) (by assumption)
    | fail_if_no_progress refine kept_mk ?_
    | split
    | fail_if_no_progress refine Kept1.mk ?_

theorem State.ceSt_kept {s t : State} {x0 : Nat} {x1 : Nat} (h : Kept s t) : Kept1 s (State.ceSt x0 x1 t) := by
  unfold State.ceSt
  repeat' with_reducible first
    | assumption
    | refine kept_ite (fun _ => ?_) (fun _ => ?_)
    | refine kept1_ite (fun _ => ?_) (fun _ => ?_)
    | (extract_lets +onlyGivenNames u; first | ((refine (fun (_ : Kept s u) => ?_) ?_); (on_goal 1 => clear_value u); (on_goal 2 => subst u)) | ((refine (fun (_ : Kept1 s u) => ?_) ?_); (on_goal 1 => clear_value u); (on_goal 2 => subst u)) | ((refine (fun (_ : Kept2 s u) => ?_) ?_); (on_goal 1 => clear_value u); (on_goal 2 => subst u)) | clear_value u)
    | refine State.doIf_kept ?_ (fun _ _ => ?_)
    | refine State.ceFence_kept ?_
    | refine State.devWrite_kept ?_
    | refine State.ceNext_kept ?_
    | refine Kept1.fst (State.ceNext_kept ?_)
    | refine Kept1.of (State.ceNext_kept ?_) (by assumption)
    | exact Kept1.fst (by assumption)
    | exact Kept2.snd (by assumption)
    | exact Kept1.of (by assumption) (by assumption)
    | fail_if_no_progress refine kept_mk ?_
    | split
    | fail_if_no_progress refine Kept1.mk ?_

theorem State.ceLdc_kept {s t : State} {x0 : Nat} {x1 : Nat} (h : Kept s t) : Kept1 s (State.ceLdc x0 x1 t) := by
  unfold State.ceLdc
  repeat' with_reducible first
    | assumption
    | refine kept_ite (fun _ => ?_) (fun _ => ?_)
    | refine kept1_ite (fun _ => ?_) (fun _ => ?_)
    | refine State.ceFree_kept ?_
    | refine State.ceNext_kept ?_
    | refine Kept1.fst (State.ceNext_kept ?_)
    | refine Kept1.of (State.ceNext_kept ?_) (by assumption)
    | refine State.cePut_kept ?_
    | refine State.busRead_kept ?_
    | refine Kept1.fst (State.busRead_kept ?_)
    | refine Kept1.of (State.busRead_kept ?_) (by assumption)
    | exact Kept1.fst (by assumption)
    | exact Kept2.snd (by assumption)
    | exact Kept1.of (by assumption) (by assumption)
    | fail_if_no_progress refine kept_mk ?_
    | split
    | refine Kept1.of ?_ (by assumption)
    | fail_if_no_progress refine Kept1.mk ?_

theorem State.ceStc_kept {s t : State} {x0 : Nat} {x1 : Nat} (h : Kept s t) : Kept1 s (State.ceStc x0 x1 t) := by
  unfold State.ceStc
  repeat' with_reducible first
    | assumption
    | refine kept_ite (fun _ => ?_) (fun _ => ?_)
    | refine kept1_ite (fun _ => ?_) (fun _ => ?_)
    | refine State.doIf_kept ?_ (fun _ _ => ?_)
    | refine State.ceFence_kept ?_
    | refine State.ceNext_kept ?_
    | refine Kept1.fst (State.ceNext_kept ?_)
    | refine Kept1.of (State.ceNext_kept ?_) (by assumption)
    | refine State.busWrite_kept ?_
    | exact Kept1.fst (by assumption)
    | exact Kept2.snd (by assumption)
    | exact Kept1.of (by assumption) (by assumption)
    | fail_if_no_progress refine kept_mk ?_
    | split
    | refine Kept1.of ?_ (by assumption)
    | fail_if_no_progress refine Kept1.mk ?_

theorem State.ceLdh_kept {s t : State} {x0 : Nat} {x1 : Nat} (h : Kept s t) : Kept1 s (State.ceLdh x0 x1 t) := by
  unfold State.ceLdh
  repeat' with_reducible first
    | assumption
    | refine kept_ite (fun _ => ?_) (fun _ => ?_)
    | refine kept1_ite (fun _ => ?_) (fun _ => ?_)
    | (extract_lets +onlyGivenNames u; first | ((refine (fun (_ : Kept s u) => ?_) ?_); (on_goal 1 => clear_value u); (on_goal 2 => subst u)) | ((refine (fun (_ : Kept1 s u) => ?_) ?_); (on_goal 1 => clear_value u); (on_goal 2 => subst u)) | ((refine (fun (_ : Kept2 s u) => ?_) ?_); (on_goal 1 => clear_value u); (on_goal 2 => subst u)) | clear_value u)
    | refine State.bump_kept ?_
    | refine State.ceFree_kept ?_
    | refine State.ceNext_kept ?_
    | refine Kept1.fst (State.ceNext_kept ?_)
    | refine Kept1.of (State.ceNext_kept ?_) (by assumption)
    | refine State.ceFence_kept ?_
    | refine State.cePut_kept ?_
    | exact Kept1.fst (by assumption)
    | exact Kept2.snd (by assumption)
    | exact Kept1.of (by assumption) (by assumption)
    | fail_if_no_progress refine kept_mk ?_
    | split
    | refine Kept1.of ?_ (by assumption)
    | fail_if_no_progress refine Kept1.mk ?_

theorem State.ceSth_kept {s t : State} {x0 : Nat} {x1 : Nat} (h : Kept s t) : Kept1 s (State.ceSth x0 x1 t) := by
  unfold State.ceSth
  repeat' with_reducible first
    | assumption
    | refine kept_ite (fun _ => ?_) (fun _ => ?_)
    | refine kept1_ite (fun _ => ?_) (fun _ => ?_)
    | (extract_lets +onlyGivenNames u; first | ((refine (fun (_ : Kept s u) => ?_) ?_); (on_goal 1 => clear_value u); (on_goal 2 => subst u)) | ((refine (fun (_ : Kept1 s u) => ?_) ?_); (on_goal 1 => clear_value u); (on_goal 2 => subst u)) | ((refine (fun (_ : Kept2 s u) => ?_) ?_); (on_goal 1 => clear_value u); (on_goal 2 => subst u)) | clear_value u)
    | refine State.doIf_kept ?_ (fun _ _ => ?_)
    | refine State.ceFence_kept ?_
    | refine State.bump_kept ?_
    | refine State.ceNext_kept ?_
    | refine Kept1.fst (State.ceNext_kept ?_)
    | refine Kept1.of (State.ceNext_kept ?_) (by assumption)
    | refine State.devWrite_kept ?_
    | exact Kept1.fst (by assumption)
    | exact Kept2.snd (by assumption)
    | exact Kept1.of (by assumption) (by assumption)
    | fail_if_no_progress refine kept_mk ?_
    | split
    | refine Kept1.of ?_ (by assumption)
    | fail_if_no_progress refine Kept1.mk ?_

theorem State.ceGo_kept {s t : State} {x0 : Nat} {x1 : Nat} (h : Kept s t) : Kept1 s (State.ceGo t x0 x1) := by
  unfold State.ceGo
  repeat' with_reducible first
    | assumption
    | refine kept_ite (fun _ => ?_) (fun _ => ?_)
    | refine kept1_ite (fun _ => ?_) (fun _ => ?_)
    | refine State.ceFence_kept ?_
    | exact Kept1.fst (by assumption)
    | exact Kept2.snd (by assumption)
    | exact Kept1.of (by assumption) (by assumption)
    | fail_if_no_progress refine kept_mk ?_
    | split
    | fail_if_no_progress refine Kept1.mk ?_

theorem State.ceIf_kept {s t : State} {x0 : Nat} {x1 : Nat} {x2 : Bool} (h : Kept s t) : Kept1 s (State.ceIf t x0 x1 x2) := by
  unfold State.ceIf
  repeat' with_reducible first
    | assumption
    | refine kept_ite (fun _ => ?_) (fun _ => ?_)
    | refine kept1_ite (fun _ => ?_) (fun _ => ?_)
    | refine State.ceGo_kept ?_
    | refine Kept1.fst (State.ceGo_kept ?_)
    | refine Kept1.of (State.ceGo_kept ?_) (by assumption)
    | refine State.ceNext_kept ?_
    | refine Kept1.fst (State.ceNext_kept ?_)
    | refine Kept1.of (State.ceNext_kept ?_) (by assumption)
    | exact Kept1.fst (by assumption)
    | exact Kept2.snd (by assumption)
    | exact Kept1.of (by assumption) (by assumption)
    | fail_if_no_progress refine kept_mk ?_
    | split
    | fail_if_no_progress refine Kept1.mk ?_

theorem State.ceCall_kept {s t : State} {x0 : Nat} {x1 : Nat} (h : Kept s t) : Kept1 s (State.ceCall x0 x1 t) := by
  unfold State.ceCall
  repeat' with_reducible first
    | assumption
    | refine kept_ite (fun _ => ?_) (fun _ => ?_)
    | refine kept1_ite (fun _ => ?_) (fun _ => ?_)
    | (extract_lets +onlyGivenNames u; first | ((refine (fun (_ : Kept s u) => ?_) ?_); (on_goal 1 => clear_value u); (on_goal 2 => subst u)) | ((refine (fun (_ : Kept1 s u) => ?_) ?_); (on_goal 1 => clear_value u); (on_goal 2 => subst u)) | ((refine (fun (_ : Kept2 s u) => ?_) ?_); (on_goal 1 => clear_value u); (on_goal 2 => subst u)) | clear_value u)
    | refine State.ceFence_kept ?_
    | refine State.ceTrouble_kept ?_
    | refine State.modCe_kept ?_
    | exact Kept1.fst (by assumption)
    | exact Kept2.snd (by assumption)
    | exact Kept1.of (by assumption) (by assumption)
    | fail_if_no_progress refine kept_mk ?_
    | split
    | fail_if_no_progress refine Kept1.mk ?_

theorem State.ceRet_kept {s t : State} {x0 : Nat} (h : Kept s t) : Kept1 s (State.ceRet x0 t) := by
  unfold State.ceRet
  repeat' with_reducible first
    | assumption
    | refine kept_ite (fun _ => ?_) (fun _ => ?_)
    | refine kept1_ite (fun _ => ?_) (fun _ => ?_)
    | (extract_lets +onlyGivenNames u; first | ((refine (fun (_ : Kept s u) => ?_) ?_); (on_goal 1 => clear_value u); (on_goal 2 => subst u)) | ((refine (fun (_ : Kept1 s u) => ?_) ?_); (on_goal 1 => clear_value u); (on_goal 2 => subst u)) | ((refine (fun (_ : Kept2 s u) => ?_) ?_); (on_goal 1 => clear_value u); (on_goal 2 => subst u)) | clear_value u)
    | refine State.ceTrouble_kept ?_
    | refine State.modCe_kept ?_
    | exact Kept1.fst (by assumption)
    | exact Kept2.snd (by assumption)
    | exact Kept1.of (by assumption) (by assumption)
    | fail_if_no_progress refine kept_mk ?_
    | split
    | refine Kept1.of ?_ (by assumption)
    | fail_if_no_progress refine Kept1.mk ?_

theorem State.ceReti_kept {s t : State} {x0 : Nat} {x1 : Nat} (h : Kept s t) : Kept1 s (State.ceReti x0 x1 t) := by
  unfold State.ceReti
  repeat' with_reducible first
    | assumption
    | refine kept_ite (fun _ => ?_) (fun _ => ?_)
    | refine kept1_ite (fun _ => ?_) (fun _ => ?_)
    | (extract_lets +onlyGivenNames u; first | ((refine (fun (_ : Kept s u) => ?_) ?_); (on_goal 1 => clear_value u); (on_goal 2 => subst u)) | ((refine (fun (_ : Kept1 s u) => ?_) ?_); (on_goal 1 => clear_value u); (on_goal 2 => subst u)) | ((refine (fun (_ : Kept2 s u) => ?_) ?_); (on_goal 1 => clear_value u); (on_goal 2 => subst u)) | clear_value u)
    | refine State.cueComplete_kept ?_
    | refine State.modCe_kept ?_
    | refine State.bump_kept ?_
    | exact Kept1.fst (by assumption)
    | exact Kept2.snd (by assumption)
    | exact Kept1.of (by assumption) (by assumption)
    | fail_if_no_progress refine kept_mk ?_
    | split
    | refine Kept1.of ?_ (by assumption)
    | fail_if_no_progress refine Kept1.mk ?_

theorem State.ceCue_kept {s t : State} {x0 : Nat} {x1 : Nat} (h : Kept s t) : Kept1 s (State.ceCue x0 x1 t) := by
  unfold State.ceCue
  repeat' with_reducible first
    | assumption
    | refine kept_ite (fun _ => ?_) (fun _ => ?_)
    | refine kept1_ite (fun _ => ?_) (fun _ => ?_)
    | (extract_lets +onlyGivenNames u; first | ((refine (fun (_ : Kept s u) => ?_) ?_); (on_goal 1 => clear_value u); (on_goal 2 => subst u)) | ((refine (fun (_ : Kept1 s u) => ?_) ?_); (on_goal 1 => clear_value u); (on_goal 2 => subst u)) | ((refine (fun (_ : Kept2 s u) => ?_) ?_); (on_goal 1 => clear_value u); (on_goal 2 => subst u)) | clear_value u)
    | refine State.ceFence_kept ?_
    | refine State.cuePost_kept ?_
    | refine State.ceNext_kept ?_
    | refine Kept1.fst (State.ceNext_kept ?_)
    | refine Kept1.of (State.ceNext_kept ?_) (by assumption)
    | exact Kept1.fst (by assumption)
    | exact Kept2.snd (by assumption)
    | exact Kept1.of (by assumption) (by assumption)
    | fail_if_no_progress refine kept_mk ?_
    | split
    | fail_if_no_progress refine Kept1.mk ?_

theorem State.decideAsks_kept {s t : State} {x0 : List PoolAsk} (h : Kept s t) : Kept s (State.decideAsks t x0) := by
  unfold State.decideAsks
  repeat' with_reducible first
    | assumption
    | refine State.forEach_kept ?_ (fun _ _ _ => ?_)
    | refine State.askApply_kept ?_
    | exact Kept1.fst (by assumption)
    | exact Kept2.snd (by assumption)
    | exact Kept1.of (by assumption) (by assumption)
    | fail_if_no_progress refine kept_mk ?_
    | fail_if_no_progress refine Kept1.mk ?_

theorem State.cePget_kept {s t : State} {x0 : Nat} {x1 : List PoolAsk} {x2 : Nat} (h : Kept s t) : Kept1 s (State.cePget x0 x1 x2 t) := by
  unfold State.cePget
  repeat' with_reducible first
    | assumption
    | refine kept_ite (fun _ => ?_) (fun _ => ?_)
    | refine kept1_ite (fun _ => ?_) (fun _ => ?_)
    | (extract_lets +onlyGivenNames u; first | ((refine (fun (_ : Kept s u) => ?_) ?_); (on_goal 1 => clear_value u); (on_goal 2 => subst u)) | ((refine (fun (_ : Kept1 s u) => ?_) ?_); (on_goal 1 => clear_value u); (on_goal 2 => subst u)) | ((refine (fun (_ : Kept2 s u) => ?_) ?_); (on_goal 1 => clear_value u); (on_goal 2 => subst u)) | ((refine (fun (_ : ∀ t, Kept s t → Kept s (u t)) => ?_) ?_); (on_goal 1 => clear_value u); (on_goal 2 => subst u)) | ((refine (fun (_ : ∀ t a, Kept s t → Kept s (u t a)) => ?_) ?_); (on_goal 1 => clear_value u); (on_goal 2 => subst u)) | ((refine (fun (_ : ∀ t a b, Kept s t → Kept s (u t a b)) => ?_) ?_); (on_goal 1 => clear_value u); (on_goal 2 => subst u)) | ((refine (fun (_ : ∀ t a b c, Kept s t → Kept s (u t a b c)) => ?_) ?_); (on_goal 1 => clear_value u); (on_goal 2 => subst u)) | ((refine (fun (_ : ∀ a t, Kept s t → Kept s (u a t)) => ?_) ?_); (on_goal 1 => clear_value u); (on_goal 2 => subst u)) | ((refine (fun (_ : ∀ a b t, Kept s t → Kept s (u a b t)) => ?_) ?_); (on_goal 1 => clear_value u); (on_goal 2 => subst u)) | ((refine (fun (_ : ∀ a b c t, Kept s t → Kept s (u a b c t)) => ?_) ?_); (on_goal 1 => clear_value u); (on_goal 2 => subst u)) | ((refine (fun (_ : ∀ a b c d t, Kept s t → Kept s (u a b c d t)) => ?_) ?_); (on_goal 1 => clear_value u); (on_goal 2 => subst u)) | clear_value u)
    | intro _ _ _ _ _ _
    | intro _ _ _ _ _
    | intro _ _ _ _
    | intro _ _ _
    | intro _ _
    | refine State.decideAsks_kept ?_
    | refine State.modCe_kept ?_
    | refine State.cePut_kept ?_
    | refine State.ceNext_kept ?_
    | refine Kept1.fst (State.ceNext_kept ?_)
    | refine Kept1.of (State.ceNext_kept ?_) (by assumption)
    | refine State.aborted_kept ?_
    | refine State.poolAsk_kept ?_
    | refine Kept1.fst (State.poolAsk_kept ?_)
    | refine Kept1.of (State.poolAsk_kept ?_) (by assumption)
    | exact Kept1.fst (by assumption)
    | exact Kept2.snd (by assumption)
    | exact Kept1.of (by assumption) (by assumption)
    | fail_if_no_progress refine kept_mk ?_
    | split
    | refine Kept1.of ?_ (by assumption)
    | fail_if_no_progress refine Kept1.mk ?_
    | apply_assumption

theorem State.cePput_kept {s t : State} {x0 : Nat} {x1 : Nat} (h : Kept s t) : Kept1 s (State.cePput x0 x1 t) := by
  unfold State.cePput
  repeat' with_reducible first
    | assumption
    | refine kept_ite (fun _ => ?_) (fun _ => ?_)
    | refine kept1_ite (fun _ => ?_) (fun _ => ?_)
    | refine State.aborted_kept ?_
    | refine State.poolDrop_kept ?_
    | refine State.ceNext_kept ?_
    | refine Kept1.fst (State.ceNext_kept ?_)
    | refine Kept1.of (State.ceNext_kept ?_) (by assumption)
    | exact Kept1.fst (by assumption)
    | exact Kept2.snd (by assumption)
    | exact Kept1.of (by assumption) (by assumption)
    | fail_if_no_progress refine kept_mk ?_
    | split
    | fail_if_no_progress refine Kept1.mk ?_

theorem State.cePostUnit_kept {s t : State} {x0 : Nat} {x1 : Nat} {x2 : Nat} (h : Kept s t) : Kept1 s (State.cePostUnit x0 x1 x2 t) := by
  unfold State.cePostUnit
  repeat' with_reducible first
    | assumption
    | refine kept_ite (fun _ => ?_) (fun _ => ?_)
    | refine kept1_ite (fun _ => ?_) (fun _ => ?_)
    | refine State.ceFence_kept ?_
    | refine State.emit_kept ?_
    | refine State.ceNext_kept ?_
    | refine Kept1.fst (State.ceNext_kept ?_)
    | refine Kept1.of (State.ceNext_kept ?_) (by assumption)
    | exact Kept1.fst (by assumption)
    | exact Kept2.snd (by assumption)
    | exact Kept1.of (by assumption) (by assumption)
    | fail_if_no_progress refine kept_mk ?_
    | split
    | fail_if_no_progress refine Kept1.mk ?_

theorem State.ceCvu_kept {s t : State} {x0 : Nat} {x1 : Nat} (h : Kept s t) : Kept1 s (State.ceCvu x0 x1 t) := by
  unfold State.ceCvu
  repeat' with_reducible first
    | assumption
    | refine State.doIf_kept ?_ (fun _ _ => ?_)
    | refine State.cvuPost_kept ?_
    | refine State.ceNext_kept ?_
    | refine Kept1.fst (State.ceNext_kept ?_)
    | refine Kept1.of (State.ceNext_kept ?_) (by assumption)
    | exact Kept1.fst (by assumption)
    | exact Kept2.snd (by assumption)
    | exact Kept1.of (by assumption) (by assumption)
    | fail_if_no_progress refine kept_mk ?_
    | fail_if_no_progress refine Kept1.mk ?_

theorem State.ceTime_kept {s t : State} {x0 : Nat} {x1 : Nat} (h : Kept s t) : Kept1 s (State.ceTime x0 x1 t) := by
  unfold State.ceTime
  repeat' with_reducible first
    | assumption
    | refine State.cePut_kept ?_
    | refine State.ceNext_kept ?_
    | refine Kept1.fst (State.ceNext_kept ?_)
    | refine Kept1.of (State.ceNext_kept ?_) (by assumption)
    | exact Kept1.fst (by assumption)
    | exact Kept2.snd (by assumption)
    | exact Kept1.of (by assumption) (by assumption)
    | fail_if_no_progress refine kept_mk ?_
    | fail_if_no_progress refine Kept1.mk ?_

theorem State.ceBreak_kept {s t : State} {x0 : Nat} (h : Kept s t) : Kept1 s (State.ceBreak x0 t) := by
  unfold State.ceBreak
  repeat' with_reducible first
    | assumption
    | refine State.modCe_kept ?_
    | exact Kept1.fst (by assumption)
    | exact Kept2.snd (by assumption)
    | exact Kept1.of (by assumption) (by assumption)
    | fail_if_no_progress refine kept_mk ?_
    | fail_if_no_progress refine Kept1.mk ?_

theorem execCeAdd_kept {s t : State} {x0 : Fin 16} (h : Kept s t) : KeptO s (execCeAdd x0 t) := by
  unfold execCeAdd
  repeat' with_reducible first
    | assumption
    | refine KeptO.next ?_
    | refine State.ceWord_kept ?_ (fun _ _ _ => ?_)
    | refine State.ceReg_kept ?_
    | refine Kept1.fst (State.ceReg_kept ?_)
    | refine Kept1.of (State.ceReg_kept ?_) (by assumption)
    | exact Kept1.fst (by assumption)
    | exact Kept2.snd (by assumption)
    | exact Kept1.of (by assumption) (by assumption)
    | fail_if_no_progress refine kept_mk ?_
    | fail_if_no_progress refine Kept1.mk ?_

theorem execCeSub_kept {s t : State} {x0 : Fin 16} (h : Kept s t) : KeptO s (execCeSub x0 t) := by
  unfold execCeSub
  repeat' with_reducible first
    | assumption
    | refine KeptO.next ?_
    | refine State.ceWord_kept ?_ (fun _ _ _ => ?_)
    | refine State.ceReg_kept ?_
    | refine Kept1.fst (State.ceReg_kept ?_)
    | refine Kept1.of (State.ceReg_kept ?_) (by assumption)
    | exact Kept1.fst (by assumption)
    | exact Kept2.snd (by assumption)
    | exact Kept1.of (by assumption) (by assumption)
    | fail_if_no_progress refine kept_mk ?_
    | fail_if_no_progress refine Kept1.mk ?_

theorem execCeAnd_kept {s t : State} {x0 : Fin 16} (h : Kept s t) : KeptO s (execCeAnd x0 t) := by
  unfold execCeAnd
  repeat' with_reducible first
    | assumption
    | refine KeptO.next ?_
    | refine State.ceWord_kept ?_ (fun _ _ _ => ?_)
    | refine State.ceReg_kept ?_
    | refine Kept1.fst (State.ceReg_kept ?_)
    | refine Kept1.of (State.ceReg_kept ?_) (by assumption)
    | exact Kept1.fst (by assumption)
    | exact Kept2.snd (by assumption)
    | exact Kept1.of (by assumption) (by assumption)
    | fail_if_no_progress refine kept_mk ?_
    | fail_if_no_progress refine Kept1.mk ?_

theorem execCeOr_kept {s t : State} {x0 : Fin 16} (h : Kept s t) : KeptO s (execCeOr x0 t) := by
  unfold execCeOr
  repeat' with_reducible first
    | assumption
    | refine KeptO.next ?_
    | refine State.ceWord_kept ?_ (fun _ _ _ => ?_)
    | refine State.ceReg_kept ?_
    | refine Kept1.fst (State.ceReg_kept ?_)
    | refine Kept1.of (State.ceReg_kept ?_) (by assumption)
    | exact Kept1.fst (by assumption)
    | exact Kept2.snd (by assumption)
    | exact Kept1.of (by assumption) (by assumption)
    | fail_if_no_progress refine kept_mk ?_
    | fail_if_no_progress refine Kept1.mk ?_

theorem execCeXor_kept {s t : State} {x0 : Fin 16} (h : Kept s t) : KeptO s (execCeXor x0 t) := by
  unfold execCeXor
  repeat' with_reducible first
    | assumption
    | refine KeptO.next ?_
    | refine State.ceWord_kept ?_ (fun _ _ _ => ?_)
    | refine State.ceReg_kept ?_
    | refine Kept1.fst (State.ceReg_kept ?_)
    | refine Kept1.of (State.ceReg_kept ?_) (by assumption)
    | exact Kept1.fst (by assumption)
    | exact Kept2.snd (by assumption)
    | exact Kept1.of (by assumption) (by assumption)
    | fail_if_no_progress refine kept_mk ?_
    | fail_if_no_progress refine Kept1.mk ?_

theorem execCeShl_kept {s t : State} {x0 : Fin 16} (h : Kept s t) : KeptO s (execCeShl x0 t) := by
  unfold execCeShl
  repeat' with_reducible first
    | assumption
    | refine KeptO.next ?_
    | refine State.ceWord_kept ?_ (fun _ _ _ => ?_)
    | refine State.ceReg_kept ?_
    | refine Kept1.fst (State.ceReg_kept ?_)
    | refine Kept1.of (State.ceReg_kept ?_) (by assumption)
    | exact Kept1.fst (by assumption)
    | exact Kept2.snd (by assumption)
    | exact Kept1.of (by assumption) (by assumption)
    | fail_if_no_progress refine kept_mk ?_
    | fail_if_no_progress refine Kept1.mk ?_

theorem execCeShr_kept {s t : State} {x0 : Fin 16} (h : Kept s t) : KeptO s (execCeShr x0 t) := by
  unfold execCeShr
  repeat' with_reducible first
    | assumption
    | refine KeptO.next ?_
    | refine State.ceWord_kept ?_ (fun _ _ _ => ?_)
    | refine State.ceReg_kept ?_
    | refine Kept1.fst (State.ceReg_kept ?_)
    | refine Kept1.of (State.ceReg_kept ?_) (by assumption)
    | exact Kept1.fst (by assumption)
    | exact Kept2.snd (by assumption)
    | exact Kept1.of (by assumption) (by assumption)
    | fail_if_no_progress refine kept_mk ?_
    | fail_if_no_progress refine Kept1.mk ?_

theorem execCeSar_kept {s t : State} {x0 : Fin 16} (h : Kept s t) : KeptO s (execCeSar x0 t) := by
  unfold execCeSar
  repeat' with_reducible first
    | assumption
    | refine KeptO.next ?_
    | refine State.ceWord_kept ?_ (fun _ _ _ => ?_)
    | refine State.ceReg_kept ?_
    | refine Kept1.fst (State.ceReg_kept ?_)
    | refine Kept1.of (State.ceReg_kept ?_) (by assumption)
    | exact Kept1.fst (by assumption)
    | exact Kept2.snd (by assumption)
    | exact Kept1.of (by assumption) (by assumption)
    | fail_if_no_progress refine kept_mk ?_
    | fail_if_no_progress refine Kept1.mk ?_

theorem execCeMul_kept {s t : State} {x0 : Fin 16} (h : Kept s t) : KeptO s (execCeMul x0 t) := by
  unfold execCeMul
  repeat' with_reducible first
    | assumption
    | refine KeptO.next ?_
    | refine State.ceWord_kept ?_ (fun _ _ _ => ?_)
    | refine State.ceReg_kept ?_
    | refine Kept1.fst (State.ceReg_kept ?_)
    | refine Kept1.of (State.ceReg_kept ?_) (by assumption)
    | exact Kept1.fst (by assumption)
    | exact Kept2.snd (by assumption)
    | exact Kept1.of (by assumption) (by assumption)
    | fail_if_no_progress refine kept_mk ?_
    | fail_if_no_progress refine Kept1.mk ?_

theorem execCeMulh_kept {s t : State} {x0 : Fin 16} (h : Kept s t) : KeptO s (execCeMulh x0 t) := by
  unfold execCeMulh
  repeat' with_reducible first
    | assumption
    | refine KeptO.next ?_
    | refine State.ceWord_kept ?_ (fun _ _ _ => ?_)
    | refine State.ceReg_kept ?_
    | refine Kept1.fst (State.ceReg_kept ?_)
    | refine Kept1.of (State.ceReg_kept ?_) (by assumption)
    | exact Kept1.fst (by assumption)
    | exact Kept2.snd (by assumption)
    | exact Kept1.of (by assumption) (by assumption)
    | fail_if_no_progress refine kept_mk ?_
    | fail_if_no_progress refine Kept1.mk ?_

theorem execCeMin_kept {s t : State} {x0 : Fin 16} (h : Kept s t) : KeptO s (execCeMin x0 t) := by
  unfold execCeMin
  repeat' with_reducible first
    | assumption
    | refine KeptO.next ?_
    | refine State.ceWord_kept ?_ (fun _ _ _ => ?_)
    | refine State.ceReg_kept ?_
    | refine Kept1.fst (State.ceReg_kept ?_)
    | refine Kept1.of (State.ceReg_kept ?_) (by assumption)
    | exact Kept1.fst (by assumption)
    | exact Kept2.snd (by assumption)
    | exact Kept1.of (by assumption) (by assumption)
    | fail_if_no_progress refine kept_mk ?_
    | fail_if_no_progress refine Kept1.mk ?_

theorem execCeMax_kept {s t : State} {x0 : Fin 16} (h : Kept s t) : KeptO s (execCeMax x0 t) := by
  unfold execCeMax
  repeat' with_reducible first
    | assumption
    | refine KeptO.next ?_
    | refine State.ceWord_kept ?_ (fun _ _ _ => ?_)
    | refine State.ceReg_kept ?_
    | refine Kept1.fst (State.ceReg_kept ?_)
    | refine Kept1.of (State.ceReg_kept ?_) (by assumption)
    | exact Kept1.fst (by assumption)
    | exact Kept2.snd (by assumption)
    | exact Kept1.of (by assumption) (by assumption)
    | fail_if_no_progress refine kept_mk ?_
    | fail_if_no_progress refine Kept1.mk ?_

theorem execCeCmp_kept {s t : State} {x0 : Fin 16} (h : Kept s t) : KeptO s (execCeCmp x0 t) := by
  unfold execCeCmp
  repeat' with_reducible first
    | assumption
    | refine KeptO.next ?_
    | refine State.ceWord_kept ?_ (fun _ _ _ => ?_)
    | refine State.ceCmp_kept ?_
    | refine Kept1.fst (State.ceCmp_kept ?_)
    | refine Kept1.of (State.ceCmp_kept ?_) (by assumption)
    | exact Kept1.fst (by assumption)
    | exact Kept2.snd (by assumption)
    | exact Kept1.of (by assumption) (by assumption)
    | fail_if_no_progress refine kept_mk ?_
    | fail_if_no_progress refine Kept1.mk ?_

theorem execCeBfx_kept {s t : State} {x0 : Fin 16} (h : Kept s t) : KeptO s (execCeBfx x0 t) := by
  unfold execCeBfx
  repeat' with_reducible first
    | assumption
    | refine KeptO.next ?_
    | refine State.ceWord_kept ?_ (fun _ _ _ => ?_)
    | refine State.ceReg_kept ?_
    | refine Kept1.fst (State.ceReg_kept ?_)
    | refine Kept1.of (State.ceReg_kept ?_) (by assumption)
    | exact Kept1.fst (by assumption)
    | exact Kept2.snd (by assumption)
    | exact Kept1.of (by assumption) (by assumption)
    | fail_if_no_progress refine kept_mk ?_
    | fail_if_no_progress refine Kept1.mk ?_

theorem execCeBfi_kept {s t : State} {x0 : Fin 16} (h : Kept s t) : KeptO s (execCeBfi x0 t) := by
  unfold execCeBfi
  repeat' with_reducible first
    | assumption
    | refine KeptO.next ?_
    | refine State.ceWord_kept ?_ (fun _ _ _ => ?_)
    | refine State.ceReg_kept ?_
    | refine Kept1.fst (State.ceReg_kept ?_)
    | refine Kept1.of (State.ceReg_kept ?_) (by assumption)
    | exact Kept1.fst (by assumption)
    | exact Kept2.snd (by assumption)
    | exact Kept1.of (by assumption) (by assumption)
    | fail_if_no_progress refine kept_mk ?_
    | fail_if_no_progress refine Kept1.mk ?_

theorem execCeClz_kept {s t : State} {x0 : Fin 16} (h : Kept s t) : KeptO s (execCeClz x0 t) := by
  unfold execCeClz
  repeat' with_reducible first
    | assumption
    | refine KeptO.next ?_
    | refine State.ceWord_kept ?_ (fun _ _ _ => ?_)
    | refine State.ceReg_kept ?_
    | refine Kept1.fst (State.ceReg_kept ?_)
    | refine Kept1.of (State.ceReg_kept ?_) (by assumption)
    | exact Kept1.fst (by assumption)
    | exact Kept2.snd (by assumption)
    | exact Kept1.of (by assumption) (by assumption)
    | fail_if_no_progress refine kept_mk ?_
    | fail_if_no_progress refine Kept1.mk ?_

theorem execCeAddi_kept {s t : State} {x0 : Fin 16} (h : Kept s t) : KeptO s (execCeAddi x0 t) := by
  unfold execCeAddi
  repeat' with_reducible first
    | assumption
    | refine KeptO.next ?_
    | refine State.ceWord_kept ?_ (fun _ _ _ => ?_)
    | refine State.ceImm_kept ?_
    | refine Kept1.fst (State.ceImm_kept ?_)
    | refine Kept1.of (State.ceImm_kept ?_) (by assumption)
    | exact Kept1.fst (by assumption)
    | exact Kept2.snd (by assumption)
    | exact Kept1.of (by assumption) (by assumption)
    | fail_if_no_progress refine kept_mk ?_
    | fail_if_no_progress refine Kept1.mk ?_

theorem execCeAndi_kept {s t : State} {x0 : Fin 16} (h : Kept s t) : KeptO s (execCeAndi x0 t) := by
  unfold execCeAndi
  repeat' with_reducible first
    | assumption
    | refine KeptO.next ?_
    | refine State.ceWord_kept ?_ (fun _ _ _ => ?_)
    | refine State.ceImm_kept ?_
    | refine Kept1.fst (State.ceImm_kept ?_)
    | refine Kept1.of (State.ceImm_kept ?_) (by assumption)
    | exact Kept1.fst (by assumption)
    | exact Kept2.snd (by assumption)
    | exact Kept1.of (by assumption) (by assumption)
    | fail_if_no_progress refine kept_mk ?_
    | fail_if_no_progress refine Kept1.mk ?_

theorem execCeOri_kept {s t : State} {x0 : Fin 16} (h : Kept s t) : KeptO s (execCeOri x0 t) := by
  unfold execCeOri
  repeat' with_reducible first
    | assumption
    | refine KeptO.next ?_
    | refine State.ceWord_kept ?_ (fun _ _ _ => ?_)
    | refine State.ceImm_kept ?_
    | refine Kept1.fst (State.ceImm_kept ?_)
    | refine Kept1.of (State.ceImm_kept ?_) (by assumption)
    | exact Kept1.fst (by assumption)
    | exact Kept2.snd (by assumption)
    | exact Kept1.of (by assumption) (by assumption)
    | fail_if_no_progress refine kept_mk ?_
    | fail_if_no_progress refine Kept1.mk ?_

theorem execCeXori_kept {s t : State} {x0 : Fin 16} (h : Kept s t) : KeptO s (execCeXori x0 t) := by
  unfold execCeXori
  repeat' with_reducible first
    | assumption
    | refine KeptO.next ?_
    | refine State.ceWord_kept ?_ (fun _ _ _ => ?_)
    | refine State.ceImm_kept ?_
    | refine Kept1.fst (State.ceImm_kept ?_)
    | refine Kept1.of (State.ceImm_kept ?_) (by assumption)
    | exact Kept1.fst (by assumption)
    | exact Kept2.snd (by assumption)
    | exact Kept1.of (by assumption) (by assumption)
    | fail_if_no_progress refine kept_mk ?_
    | fail_if_no_progress refine Kept1.mk ?_

theorem execCeShli_kept {s t : State} {x0 : Fin 16} (h : Kept s t) : KeptO s (execCeShli x0 t) := by
  unfold execCeShli
  repeat' with_reducible first
    | assumption
    | refine KeptO.next ?_
    | refine State.ceWord_kept ?_ (fun _ _ _ => ?_)
    | refine State.ceImm_kept ?_
    | refine Kept1.fst (State.ceImm_kept ?_)
    | refine Kept1.of (State.ceImm_kept ?_) (by assumption)
    | exact Kept1.fst (by assumption)
    | exact Kept2.snd (by assumption)
    | exact Kept1.of (by assumption) (by assumption)
    | fail_if_no_progress refine kept_mk ?_
    | fail_if_no_progress refine Kept1.mk ?_

theorem execCeShri_kept {s t : State} {x0 : Fin 16} (h : Kept s t) : KeptO s (execCeShri x0 t) := by
  unfold execCeShri
  repeat' with_reducible first
    | assumption
    | refine KeptO.next ?_
    | refine State.ceWord_kept ?_ (fun _ _ _ => ?_)
    | refine State.ceImm_kept ?_
    | refine Kept1.fst (State.ceImm_kept ?_)
    | refine Kept1.of (State.ceImm_kept ?_) (by assumption)
    | exact Kept1.fst (by assumption)
    | exact Kept2.snd (by assumption)
    | exact Kept1.of (by assumption) (by assumption)
    | fail_if_no_progress refine kept_mk ?_
    | fail_if_no_progress refine Kept1.mk ?_

theorem execCeLi_kept {s t : State} {x0 : Fin 16} (h : Kept s t) : KeptO s (execCeLi x0 t) := by
  unfold execCeLi
  repeat' with_reducible first
    | assumption
    | refine KeptO.next ?_
    | refine State.ceWord_kept ?_ (fun _ _ _ => ?_)
    | refine State.ceLi_kept ?_
    | refine Kept1.fst (State.ceLi_kept ?_)
    | refine Kept1.of (State.ceLi_kept ?_) (by assumption)
    | exact Kept1.fst (by assumption)
    | exact Kept2.snd (by assumption)
    | exact Kept1.of (by assumption) (by assumption)
    | fail_if_no_progress refine kept_mk ?_
    | fail_if_no_progress refine Kept1.mk ?_

theorem execCeLui_kept {s t : State} {x0 : Fin 16} (h : Kept s t) : KeptO s (execCeLui x0 t) := by
  unfold execCeLui
  repeat' with_reducible first
    | assumption
    | refine KeptO.next ?_
    | refine State.ceWord_kept ?_ (fun _ _ _ => ?_)
    | refine State.ceLui_kept ?_
    | refine Kept1.fst (State.ceLui_kept ?_)
    | refine Kept1.of (State.ceLui_kept ?_) (by assumption)
    | exact Kept1.fst (by assumption)
    | exact Kept2.snd (by assumption)
    | exact Kept1.of (by assumption) (by assumption)
    | fail_if_no_progress refine kept_mk ?_
    | fail_if_no_progress refine Kept1.mk ?_

theorem execCeLd_kept {s t : State} {x0 : Fin 16} (h : Kept s t) : KeptO s (execCeLd x0 t) := by
  unfold execCeLd
  repeat' with_reducible first
    | assumption
    | refine KeptO.next ?_
    | refine State.ceWord_kept ?_ (fun _ _ _ => ?_)
    | refine State.ceLd_kept ?_
    | refine Kept1.fst (State.ceLd_kept ?_)
    | refine Kept1.of (State.ceLd_kept ?_) (by assumption)
    | exact Kept1.fst (by assumption)
    | exact Kept2.snd (by assumption)
    | exact Kept1.of (by assumption) (by assumption)
    | fail_if_no_progress refine kept_mk ?_
    | fail_if_no_progress refine Kept1.mk ?_

theorem execCeSt_kept {s t : State} {x0 : Fin 16} (h : Kept s t) : KeptO s (execCeSt x0 t) := by
  unfold execCeSt
  repeat' with_reducible first
    | assumption
    | refine KeptO.next ?_
    | refine State.ceWord_kept ?_ (fun _ _ _ => ?_)
    | refine State.ceSt_kept ?_
    | refine Kept1.fst (State.ceSt_kept ?_)
    | refine Kept1.of (State.ceSt_kept ?_) (by assumption)
    | exact Kept1.fst (by assumption)
    | exact Kept2.snd (by assumption)
    | exact Kept1.of (by assumption) (by assumption)
    | fail_if_no_progress refine kept_mk ?_
    | fail_if_no_progress refine Kept1.mk ?_

theorem execCeLdc_kept {s t : State} {x0 : Fin 16} (h : Kept s t) : KeptO s (execCeLdc x0 t) := by
  unfold execCeLdc
  repeat' with_reducible first
    | assumption
    | refine KeptO.next ?_
    | refine State.ceWord_kept ?_ (fun _ _ _ => ?_)
    | refine State.ceLdc_kept ?_
    | refine Kept1.fst (State.ceLdc_kept ?_)
    | refine Kept1.of (State.ceLdc_kept ?_) (by assumption)
    | exact Kept1.fst (by assumption)
    | exact Kept2.snd (by assumption)
    | exact Kept1.of (by assumption) (by assumption)
    | fail_if_no_progress refine kept_mk ?_
    | fail_if_no_progress refine Kept1.mk ?_

theorem execCeStc_kept {s t : State} {x0 : Fin 16} (h : Kept s t) : KeptO s (execCeStc x0 t) := by
  unfold execCeStc
  repeat' with_reducible first
    | assumption
    | refine KeptO.next ?_
    | refine State.ceWord_kept ?_ (fun _ _ _ => ?_)
    | refine State.ceStc_kept ?_
    | refine Kept1.fst (State.ceStc_kept ?_)
    | refine Kept1.of (State.ceStc_kept ?_) (by assumption)
    | exact Kept1.fst (by assumption)
    | exact Kept2.snd (by assumption)
    | exact Kept1.of (by assumption) (by assumption)
    | fail_if_no_progress refine kept_mk ?_
    | fail_if_no_progress refine Kept1.mk ?_

theorem execCeLdh_kept {s t : State} {x0 : Fin 16} (h : Kept s t) : KeptO s (execCeLdh x0 t) := by
  unfold execCeLdh
  repeat' with_reducible first
    | assumption
    | refine KeptO.next ?_
    | refine State.ceWord_kept ?_ (fun _ _ _ => ?_)
    | refine State.ceLdh_kept ?_
    | refine Kept1.fst (State.ceLdh_kept ?_)
    | refine Kept1.of (State.ceLdh_kept ?_) (by assumption)
    | exact Kept1.fst (by assumption)
    | exact Kept2.snd (by assumption)
    | exact Kept1.of (by assumption) (by assumption)
    | fail_if_no_progress refine kept_mk ?_
    | fail_if_no_progress refine Kept1.mk ?_

theorem execCeSth_kept {s t : State} {x0 : Fin 16} (h : Kept s t) : KeptO s (execCeSth x0 t) := by
  unfold execCeSth
  repeat' with_reducible first
    | assumption
    | refine KeptO.next ?_
    | refine State.ceWord_kept ?_ (fun _ _ _ => ?_)
    | refine State.ceSth_kept ?_
    | refine Kept1.fst (State.ceSth_kept ?_)
    | refine Kept1.of (State.ceSth_kept ?_) (by assumption)
    | exact Kept1.fst (by assumption)
    | exact Kept2.snd (by assumption)
    | exact Kept1.of (by assumption) (by assumption)
    | fail_if_no_progress refine kept_mk ?_
    | fail_if_no_progress refine Kept1.mk ?_

theorem execCeJmp_kept {s t : State} {x0 : Fin 16} (h : Kept s t) : KeptO s (execCeJmp x0 t) := by
  unfold execCeJmp
  repeat' with_reducible first
    | assumption
    | refine KeptO.next ?_
    | refine State.ceWord_kept ?_ (fun _ _ _ => ?_)
    | refine State.ceGo_kept ?_
    | refine Kept1.fst (State.ceGo_kept ?_)
    | refine Kept1.of (State.ceGo_kept ?_) (by assumption)
    | exact Kept1.fst (by assumption)
    | exact Kept2.snd (by assumption)
    | exact Kept1.of (by assumption) (by assumption)
    | fail_if_no_progress refine kept_mk ?_
    | fail_if_no_progress refine Kept1.mk ?_

theorem execCeCall_kept {s t : State} {x0 : Fin 16} (h : Kept s t) : KeptO s (execCeCall x0 t) := by
  unfold execCeCall
  repeat' with_reducible first
    | assumption
    | refine KeptO.next ?_
    | refine State.ceWord_kept ?_ (fun _ _ _ => ?_)
    | refine State.ceCall_kept ?_
    | refine Kept1.fst (State.ceCall_kept ?_)
    | refine Kept1.of (State.ceCall_kept ?_) (by assumption)
    | exact Kept1.fst (by assumption)
    | exact Kept2.snd (by assumption)
    | exact Kept1.of (by assumption) (by assumption)
    | fail_if_no_progress refine kept_mk ?_
    | fail_if_no_progress refine Kept1.mk ?_

theorem execCeRet_kept {s t : State} {x0 : Fin 16} (h : Kept s t) : KeptO s (execCeRet x0 t) := by
  unfold execCeRet
  repeat' with_reducible first
    | assumption
    | refine KeptO.next ?_
    | refine State.ceWord_kept ?_ (fun _ _ _ => ?_)
    | refine State.ceRet_kept ?_
    | refine Kept1.fst (State.ceRet_kept ?_)
    | refine Kept1.of (State.ceRet_kept ?_) (by assumption)
    | exact Kept1.fst (by assumption)
    | exact Kept2.snd (by assumption)
    | exact Kept1.of (by assumption) (by assumption)
    | fail_if_no_progress refine kept_mk ?_
    | fail_if_no_progress refine Kept1.mk ?_

theorem execCeBr_kept {s t : State} {x0 : Fin 16} (h : Kept s t) : KeptO s (execCeBr x0 t) := by
  unfold execCeBr
  repeat' with_reducible first
    | assumption
    | refine KeptO.next ?_
    | refine State.ceWord_kept ?_ (fun _ _ _ => ?_)
    | refine State.ceIf_kept ?_
    | refine Kept1.fst (State.ceIf_kept ?_)
    | refine Kept1.of (State.ceIf_kept ?_) (by assumption)
    | exact Kept1.fst (by assumption)
    | exact Kept2.snd (by assumption)
    | exact Kept1.of (by assumption) (by assumption)
    | fail_if_no_progress refine kept_mk ?_
    | fail_if_no_progress refine Kept1.mk ?_

theorem execCeBz_kept {s t : State} {x0 : Fin 16} (h : Kept s t) : KeptO s (execCeBz x0 t) := by
  unfold execCeBz
  repeat' with_reducible first
    | assumption
    | refine KeptO.next ?_
    | refine State.ceWord_kept ?_ (fun _ _ _ => ?_)
    | refine State.ceIf_kept ?_
    | refine Kept1.fst (State.ceIf_kept ?_)
    | refine Kept1.of (State.ceIf_kept ?_) (by assumption)
    | exact Kept1.fst (by assumption)
    | exact Kept2.snd (by assumption)
    | exact Kept1.of (by assumption) (by assumption)
    | fail_if_no_progress refine kept_mk ?_
    | fail_if_no_progress refine Kept1.mk ?_

theorem execCeBnz_kept {s t : State} {x0 : Fin 16} (h : Kept s t) : KeptO s (execCeBnz x0 t) := by
  unfold execCeBnz
  repeat' with_reducible first
    | assumption
    | refine KeptO.next ?_
    | refine State.ceWord_kept ?_ (fun _ _ _ => ?_)
    | refine State.ceIf_kept ?_
    | refine Kept1.fst (State.ceIf_kept ?_)
    | refine Kept1.of (State.ceIf_kept ?_) (by assumption)
    | exact Kept1.fst (by assumption)
    | exact Kept2.snd (by assumption)
    | exact Kept1.of (by assumption) (by assumption)
    | fail_if_no_progress refine kept_mk ?_
    | fail_if_no_progress refine Kept1.mk ?_

theorem execCeReti_kept {s t : State} {x0 : Fin 16} (h : Kept s t) : KeptO s (execCeReti x0 t) := by
  unfold execCeReti
  repeat' with_reducible first
    | assumption
    | refine KeptO.next ?_
    | refine State.ceWord_kept ?_ (fun _ _ _ => ?_)
    | refine State.ceReti_kept ?_
    | refine Kept1.fst (State.ceReti_kept ?_)
    | refine Kept1.of (State.ceReti_kept ?_) (by assumption)
    | exact Kept1.fst (by assumption)
    | exact Kept2.snd (by assumption)
    | exact Kept1.of (by assumption) (by assumption)
    | fail_if_no_progress refine kept_mk ?_
    | fail_if_no_progress refine Kept1.mk ?_

theorem execCeHdr_kept {s t : State} {x0 : Fin 16} (h : Kept s t) : KeptO s (execCeHdr x0 t) := by
  unfold execCeHdr
  repeat' with_reducible first
    | assumption
    | refine KeptO.next ?_
    | refine State.ceWord_kept ?_ (fun _ _ _ => ?_)
    | refine State.ceNext_kept ?_
    | refine Kept1.fst (State.ceNext_kept ?_)
    | refine Kept1.of (State.ceNext_kept ?_) (by assumption)
    | exact Kept1.fst (by assumption)
    | exact Kept2.snd (by assumption)
    | exact Kept1.of (by assumption) (by assumption)
    | fail_if_no_progress refine kept_mk ?_
    | fail_if_no_progress refine Kept1.mk ?_

theorem execCeCue_kept {s t : State} {x0 : Fin 16} (h : Kept s t) : KeptO s (execCeCue x0 t) := by
  unfold execCeCue
  repeat' with_reducible first
    | assumption
    | refine KeptO.next ?_
    | refine State.ceWord_kept ?_ (fun _ _ _ => ?_)
    | refine State.ceCue_kept ?_
    | refine Kept1.fst (State.ceCue_kept ?_)
    | refine Kept1.of (State.ceCue_kept ?_) (by assumption)
    | exact Kept1.fst (by assumption)
    | exact Kept2.snd (by assumption)
    | exact Kept1.of (by assumption) (by assumption)
    | fail_if_no_progress refine kept_mk ?_
    | fail_if_no_progress refine Kept1.mk ?_

theorem execCePget_kept {s t : State} {x0 : Fin 16} {x1 : List PoolAsk} (h : Kept s t) : KeptO s (execCePget x0 x1 t) := by
  unfold execCePget
  repeat' with_reducible first
    | assumption
    | refine KeptO.next ?_
    | refine State.ceWord_kept ?_ (fun _ _ _ => ?_)
    | refine State.cePget_kept ?_
    | refine Kept1.fst (State.cePget_kept ?_)
    | refine Kept1.of (State.cePget_kept ?_) (by assumption)
    | exact Kept1.fst (by assumption)
    | exact Kept2.snd (by assumption)
    | exact Kept1.of (by assumption) (by assumption)
    | fail_if_no_progress refine kept_mk ?_
    | fail_if_no_progress refine Kept1.mk ?_

theorem execCePput_kept {s t : State} {x0 : Fin 16} (h : Kept s t) : KeptO s (execCePput x0 t) := by
  unfold execCePput
  repeat' with_reducible first
    | assumption
    | refine KeptO.next ?_
    | refine State.ceWord_kept ?_ (fun _ _ _ => ?_)
    | refine State.cePput_kept ?_
    | refine Kept1.fst (State.cePput_kept ?_)
    | refine Kept1.of (State.cePput_kept ?_) (by assumption)
    | exact Kept1.fst (by assumption)
    | exact Kept2.snd (by assumption)
    | exact Kept1.of (by assumption) (by assumption)
    | fail_if_no_progress refine kept_mk ?_
    | fail_if_no_progress refine Kept1.mk ?_

theorem execCeTally_kept {s t : State} {x0 : Fin 16} (h : Kept s t) : KeptO s (execCeTally x0 t) := by
  unfold execCeTally
  repeat' with_reducible first
    | assumption
    | refine KeptO.next ?_
    | refine State.ceWord_kept ?_ (fun _ _ _ => ?_)
    | refine State.cePostUnit_kept ?_
    | refine Kept1.fst (State.cePostUnit_kept ?_)
    | refine Kept1.of (State.cePostUnit_kept ?_) (by assumption)
    | exact Kept1.fst (by assumption)
    | exact Kept2.snd (by assumption)
    | exact Kept1.of (by assumption) (by assumption)
    | fail_if_no_progress refine kept_mk ?_
    | fail_if_no_progress refine Kept1.mk ?_

theorem execCeLane_kept {s t : State} {x0 : Fin 16} (h : Kept s t) : KeptO s (execCeLane x0 t) := by
  unfold execCeLane
  repeat' with_reducible first
    | assumption
    | refine KeptO.next ?_
    | refine State.ceWord_kept ?_ (fun _ _ _ => ?_)
    | refine State.cePostUnit_kept ?_
    | refine Kept1.fst (State.cePostUnit_kept ?_)
    | refine Kept1.of (State.cePostUnit_kept ?_) (by assumption)
    | exact Kept1.fst (by assumption)
    | exact Kept2.snd (by assumption)
    | exact Kept1.of (by assumption) (by assumption)
    | fail_if_no_progress refine kept_mk ?_
    | fail_if_no_progress refine Kept1.mk ?_

theorem execCeBayjob_kept {s t : State} {x0 : Fin 16} (h : Kept s t) : KeptO s (execCeBayjob x0 t) := by
  unfold execCeBayjob
  repeat' with_reducible first
    | assumption
    | refine KeptO.next ?_
    | refine State.ceWord_kept ?_ (fun _ _ _ => ?_)
    | refine State.cePostUnit_kept ?_
    | refine Kept1.fst (State.cePostUnit_kept ?_)
    | refine Kept1.of (State.cePostUnit_kept ?_) (by assumption)
    | exact Kept1.fst (by assumption)
    | exact Kept2.snd (by assumption)
    | exact Kept1.of (by assumption) (by assumption)
    | fail_if_no_progress refine kept_mk ?_
    | fail_if_no_progress refine Kept1.mk ?_

theorem execCeCvu_kept {s t : State} {x0 : Fin 16} (h : Kept s t) : KeptO s (execCeCvu x0 t) := by
  unfold execCeCvu
  repeat' with_reducible first
    | assumption
    | refine KeptO.next ?_
    | refine State.ceWord_kept ?_ (fun _ _ _ => ?_)
    | refine State.ceCvu_kept ?_
    | refine Kept1.fst (State.ceCvu_kept ?_)
    | refine Kept1.of (State.ceCvu_kept ?_) (by assumption)
    | exact Kept1.fst (by assumption)
    | exact Kept2.snd (by assumption)
    | exact Kept1.of (by assumption) (by assumption)
    | fail_if_no_progress refine kept_mk ?_
    | fail_if_no_progress refine Kept1.mk ?_

theorem execCeTime_kept {s t : State} {x0 : Fin 16} (h : Kept s t) : KeptO s (execCeTime x0 t) := by
  unfold execCeTime
  repeat' with_reducible first
    | assumption
    | refine KeptO.next ?_
    | refine State.ceWord_kept ?_ (fun _ _ _ => ?_)
    | refine State.ceTime_kept ?_
    | refine Kept1.fst (State.ceTime_kept ?_)
    | refine Kept1.of (State.ceTime_kept ?_) (by assumption)
    | exact Kept1.fst (by assumption)
    | exact Kept2.snd (by assumption)
    | exact Kept1.of (by assumption) (by assumption)
    | fail_if_no_progress refine kept_mk ?_
    | fail_if_no_progress refine Kept1.mk ?_

theorem execCeBreak_kept {s t : State} {x0 : Fin 16} (h : Kept s t) : KeptO s (execCeBreak x0 t) := by
  unfold execCeBreak
  repeat' with_reducible first
    | assumption
    | refine KeptO.next ?_
    | refine State.ceWord_kept ?_ (fun _ _ _ => ?_)
    | refine State.ceBreak_kept ?_
    | refine Kept1.fst (State.ceBreak_kept ?_)
    | refine Kept1.of (State.ceBreak_kept ?_) (by assumption)
    | exact Kept1.fst (by assumption)
    | exact Kept2.snd (by assumption)
    | exact Kept1.of (by assumption) (by assumption)
    | fail_if_no_progress refine kept_mk ?_
    | fail_if_no_progress refine Kept1.mk ?_

end Sys2Proof.Machine
end

