-- ==== Sys2Proof/Laws/State.lean ====
section
/-! SUPPORT. What each plain update of the state leaves as it was, field by field, and what the registers and the records
read after it. -/

namespace Sys2Proof.Machine

variable (s : State)

@[simp] theorem State.setReg_pending (k : Nat) (v : Word) : (s.setReg k v).pending = s.pending := rfl
@[simp] theorem State.setReg_latches (k : Nat) (v : Word) : (s.setReg k v).latches = s.latches := rfl
@[simp] theorem State.setReg_mem (k : Nat) (v : Word) : (s.setReg k v).mem = s.mem := rfl
@[simp] theorem State.setReg_scrap (k : Nat) (v : Word) : (s.setReg k v).scrap = s.scrap := rfl
@[simp] theorem State.setReg_hostMem (k : Nat) (v : Word) : (s.setReg k v).hostMem = s.hostMem := rfl
@[simp] theorem State.setReg_rc (k : Nat) (v : Word) : (s.setReg k v).rc = s.rc := rfl
@[simp] theorem State.setReg_fc (k : Nat) (v : Word) : (s.setReg k v).fc = s.fc := rfl
@[simp] theorem State.setReg_trust (k : Nat) (v : Word) : (s.setReg k v).trust = s.trust := rfl
@[simp] theorem State.setReg_tb (k : Nat) (v : Word) : (s.setReg k v).tb = s.tb := rfl
@[simp] theorem State.setReg_ctxs (k : Nat) (v : Word) : (s.setReg k v).ctxs = s.ctxs := rfl
@[simp] theorem State.setReg_bays (k : Nat) (v : Word) : (s.setReg k v).bays = s.bays := rfl
@[simp] theorem State.setReg_px (k : Nat) (v : Word) : (s.setReg k v).px = s.px := rfl
@[simp] theorem State.setReg_ce (k : Nat) (v : Word) : (s.setReg k v).ce = s.ce := rfl
@[simp] theorem State.setReg_stores (k : Nat) (v : Word) : (s.setReg k v).stores = s.stores := rfl
@[simp] theorem State.setReg_sram (k : Nat) (v : Word) : (s.setReg k v).sram = s.sram := rfl
@[simp] theorem State.setReg_bins (k : Nat) (v : Word) : (s.setReg k v).bins = s.bins := rfl
@[simp] theorem State.setReg_ledger (k : Nat) (v : Word) : (s.setReg k v).ledger = s.ledger := rfl
@[simp] theorem State.setReg_margin (k : Nat) (v : Word) : (s.setReg k v).margin = s.margin := rfl
@[simp] theorem State.setReg_sigs (k : Nat) (v : Word) : (s.setReg k v).sigs = s.sigs := rfl
@[simp] theorem State.setReg_dpOuts (k : Nat) (v : Word) : (s.setReg k v).dpOuts = s.dpOuts := rfl
@[simp] theorem State.setReg_drams (k : Nat) (v : Word) : (s.setReg k v).drams = s.drams := rfl
@[simp] theorem State.setReg_refc (k : Nat) (v : Word) : (s.setReg k v).refc = s.refc := rfl
@[simp] theorem State.setReg_dpIns (k : Nat) (v : Word) : (s.setReg k v).dpIns = s.dpIns := rfl
@[simp] theorem State.setReg_otp (k : Nat) (v : Word) : (s.setReg k v).otp = s.otp := rfl
@[simp] theorem State.setReg_flash (k : Nat) (v : Word) : (s.setReg k v).flash = s.flash := rfl
@[simp] theorem State.setReg_flows (k : Nat) (v : Word) : (s.setReg k v).flows = s.flows := rfl
@[simp] theorem State.setReg_macs (k : Nat) (v : Word) : (s.setReg k v).macs = s.macs := rfl
@[simp] theorem State.setReg_sessWait (k : Nat) (v : Word) : (s.setReg k v).sessWait = s.sessWait := rfl
@[simp] theorem State.setReg_queues (k : Nat) (v : Word) : (s.setReg k v).queues = s.queues := rfl
@[simp] theorem State.setReg_served (k : Nat) (v : Word) : (s.setReg k v).served = s.served := rfl
@[simp] theorem State.setReg_policers (k : Nat) (v : Word) : (s.setReg k v).policers = s.policers := rfl
@[simp] theorem State.setReg_pool (k : Nat) (v : Word) : (s.setReg k v).pool = s.pool := rfl
@[simp] theorem State.setReg_cuex (k : Nat) (v : Word) : (s.setReg k v).cuex = s.cuex := rfl
@[simp] theorem State.setReg_fifos (k : Nat) (v : Word) : (s.setReg k v).fifos = s.fifos := rfl
@[simp] theorem State.setReg_cvu (k : Nat) (v : Word) : (s.setReg k v).cvu = s.cvu := rfl
@[simp] theorem State.setReg_host (k : Nat) (v : Word) : (s.setReg k v).host = s.host := rfl
@[simp] theorem State.setReg_dma (k : Nat) (v : Word) : (s.setReg k v).dma = s.dma := rfl
@[simp] theorem State.setReg_pcie (k : Nat) (v : Word) : (s.setReg k v).pcie = s.pcie := rfl
@[simp] theorem State.setReg_tap (k : Nat) (v : Word) : (s.setReg k v).tap = s.tap := rfl
@[simp] theorem State.setReg_pair (k : Nat) (v : Word) : (s.setReg k v).pair = s.pair := rfl
@[simp] theorem State.setReg_ptp (k : Nat) (v : Word) : (s.setReg k v).ptp = s.ptp := rfl
@[simp] theorem State.setReg_out (k : Nat) (v : Word) : (s.setReg k v).out = s.out := rfl
@[simp] theorem State.setReg_freeCtr (k : Nat) (v : Word) : (s.setReg k v).freeCtr = s.freeCtr := rfl
@[simp] theorem State.setReg_ctx (k : Nat) (v : Word) (j : Nat) : (s.setReg k v).ctx j = s.ctx j := rfl

@[simp] theorem State.setRegN_pending (k : Nat) (v : Nat) : (s.setRegN k v).pending = s.pending := rfl
@[simp] theorem State.setRegN_latches (k : Nat) (v : Nat) : (s.setRegN k v).latches = s.latches := rfl
@[simp] theorem State.setRegN_mem (k : Nat) (v : Nat) : (s.setRegN k v).mem = s.mem := rfl
@[simp] theorem State.setRegN_scrap (k : Nat) (v : Nat) : (s.setRegN k v).scrap = s.scrap := rfl
@[simp] theorem State.setRegN_hostMem (k : Nat) (v : Nat) : (s.setRegN k v).hostMem = s.hostMem := rfl
@[simp] theorem State.setRegN_rc (k : Nat) (v : Nat) : (s.setRegN k v).rc = s.rc := rfl
@[simp] theorem State.setRegN_fc (k : Nat) (v : Nat) : (s.setRegN k v).fc = s.fc := rfl
@[simp] theorem State.setRegN_trust (k : Nat) (v : Nat) : (s.setRegN k v).trust = s.trust := rfl
@[simp] theorem State.setRegN_tb (k : Nat) (v : Nat) : (s.setRegN k v).tb = s.tb := rfl
@[simp] theorem State.setRegN_ctxs (k : Nat) (v : Nat) : (s.setRegN k v).ctxs = s.ctxs := rfl
@[simp] theorem State.setRegN_bays (k : Nat) (v : Nat) : (s.setRegN k v).bays = s.bays := rfl
@[simp] theorem State.setRegN_px (k : Nat) (v : Nat) : (s.setRegN k v).px = s.px := rfl
@[simp] theorem State.setRegN_ce (k : Nat) (v : Nat) : (s.setRegN k v).ce = s.ce := rfl
@[simp] theorem State.setRegN_stores (k : Nat) (v : Nat) : (s.setRegN k v).stores = s.stores := rfl
@[simp] theorem State.setRegN_sram (k : Nat) (v : Nat) : (s.setRegN k v).sram = s.sram := rfl
@[simp] theorem State.setRegN_bins (k : Nat) (v : Nat) : (s.setRegN k v).bins = s.bins := rfl
@[simp] theorem State.setRegN_ledger (k : Nat) (v : Nat) : (s.setRegN k v).ledger = s.ledger := rfl
@[simp] theorem State.setRegN_margin (k : Nat) (v : Nat) : (s.setRegN k v).margin = s.margin := rfl
@[simp] theorem State.setRegN_sigs (k : Nat) (v : Nat) : (s.setRegN k v).sigs = s.sigs := rfl
@[simp] theorem State.setRegN_dpOuts (k : Nat) (v : Nat) : (s.setRegN k v).dpOuts = s.dpOuts := rfl
@[simp] theorem State.setRegN_drams (k : Nat) (v : Nat) : (s.setRegN k v).drams = s.drams := rfl
@[simp] theorem State.setRegN_refc (k : Nat) (v : Nat) : (s.setRegN k v).refc = s.refc := rfl
@[simp] theorem State.setRegN_dpIns (k : Nat) (v : Nat) : (s.setRegN k v).dpIns = s.dpIns := rfl
@[simp] theorem State.setRegN_otp (k : Nat) (v : Nat) : (s.setRegN k v).otp = s.otp := rfl
@[simp] theorem State.setRegN_flash (k : Nat) (v : Nat) : (s.setRegN k v).flash = s.flash := rfl
@[simp] theorem State.setRegN_flows (k : Nat) (v : Nat) : (s.setRegN k v).flows = s.flows := rfl
@[simp] theorem State.setRegN_macs (k : Nat) (v : Nat) : (s.setRegN k v).macs = s.macs := rfl
@[simp] theorem State.setRegN_sessWait (k : Nat) (v : Nat) : (s.setRegN k v).sessWait = s.sessWait := rfl
@[simp] theorem State.setRegN_queues (k : Nat) (v : Nat) : (s.setRegN k v).queues = s.queues := rfl
@[simp] theorem State.setRegN_served (k : Nat) (v : Nat) : (s.setRegN k v).served = s.served := rfl
@[simp] theorem State.setRegN_policers (k : Nat) (v : Nat) : (s.setRegN k v).policers = s.policers := rfl
@[simp] theorem State.setRegN_pool (k : Nat) (v : Nat) : (s.setRegN k v).pool = s.pool := rfl
@[simp] theorem State.setRegN_cuex (k : Nat) (v : Nat) : (s.setRegN k v).cuex = s.cuex := rfl
@[simp] theorem State.setRegN_fifos (k : Nat) (v : Nat) : (s.setRegN k v).fifos = s.fifos := rfl
@[simp] theorem State.setRegN_cvu (k : Nat) (v : Nat) : (s.setRegN k v).cvu = s.cvu := rfl
@[simp] theorem State.setRegN_host (k : Nat) (v : Nat) : (s.setRegN k v).host = s.host := rfl
@[simp] theorem State.setRegN_dma (k : Nat) (v : Nat) : (s.setRegN k v).dma = s.dma := rfl
@[simp] theorem State.setRegN_pcie (k : Nat) (v : Nat) : (s.setRegN k v).pcie = s.pcie := rfl
@[simp] theorem State.setRegN_tap (k : Nat) (v : Nat) : (s.setRegN k v).tap = s.tap := rfl
@[simp] theorem State.setRegN_pair (k : Nat) (v : Nat) : (s.setRegN k v).pair = s.pair := rfl
@[simp] theorem State.setRegN_ptp (k : Nat) (v : Nat) : (s.setRegN k v).ptp = s.ptp := rfl
@[simp] theorem State.setRegN_out (k : Nat) (v : Nat) : (s.setRegN k v).out = s.out := rfl
@[simp] theorem State.setRegN_freeCtr (k : Nat) (v : Nat) : (s.setRegN k v).freeCtr = s.freeCtr := rfl
@[simp] theorem State.setRegN_ctx (k : Nat) (v : Nat) (j : Nat) : (s.setRegN k v).ctx j = s.ctx j := rfl

@[simp] theorem State.setFld_pending (k : Nat) (hi : Nat) (lo : Nat) (v : Nat) : (s.setFld k hi lo v).pending = s.pending := rfl
@[simp] theorem State.setFld_latches (k : Nat) (hi : Nat) (lo : Nat) (v : Nat) : (s.setFld k hi lo v).latches = s.latches := rfl
@[simp] theorem State.setFld_mem (k : Nat) (hi : Nat) (lo : Nat) (v : Nat) : (s.setFld k hi lo v).mem = s.mem := rfl
@[simp] theorem State.setFld_scrap (k : Nat) (hi : Nat) (lo : Nat) (v : Nat) : (s.setFld k hi lo v).scrap = s.scrap := rfl
@[simp] theorem State.setFld_hostMem (k : Nat) (hi : Nat) (lo : Nat) (v : Nat) : (s.setFld k hi lo v).hostMem = s.hostMem := rfl
@[simp] theorem State.setFld_rc (k : Nat) (hi : Nat) (lo : Nat) (v : Nat) : (s.setFld k hi lo v).rc = s.rc := rfl
@[simp] theorem State.setFld_fc (k : Nat) (hi : Nat) (lo : Nat) (v : Nat) : (s.setFld k hi lo v).fc = s.fc := rfl
@[simp] theorem State.setFld_trust (k : Nat) (hi : Nat) (lo : Nat) (v : Nat) : (s.setFld k hi lo v).trust = s.trust := rfl
@[simp] theorem State.setFld_tb (k : Nat) (hi : Nat) (lo : Nat) (v : Nat) : (s.setFld k hi lo v).tb = s.tb := rfl
@[simp] theorem State.setFld_ctxs (k : Nat) (hi : Nat) (lo : Nat) (v : Nat) : (s.setFld k hi lo v).ctxs = s.ctxs := rfl
@[simp] theorem State.setFld_bays (k : Nat) (hi : Nat) (lo : Nat) (v : Nat) : (s.setFld k hi lo v).bays = s.bays := rfl
@[simp] theorem State.setFld_px (k : Nat) (hi : Nat) (lo : Nat) (v : Nat) : (s.setFld k hi lo v).px = s.px := rfl
@[simp] theorem State.setFld_ce (k : Nat) (hi : Nat) (lo : Nat) (v : Nat) : (s.setFld k hi lo v).ce = s.ce := rfl
@[simp] theorem State.setFld_stores (k : Nat) (hi : Nat) (lo : Nat) (v : Nat) : (s.setFld k hi lo v).stores = s.stores := rfl
@[simp] theorem State.setFld_sram (k : Nat) (hi : Nat) (lo : Nat) (v : Nat) : (s.setFld k hi lo v).sram = s.sram := rfl
@[simp] theorem State.setFld_bins (k : Nat) (hi : Nat) (lo : Nat) (v : Nat) : (s.setFld k hi lo v).bins = s.bins := rfl
@[simp] theorem State.setFld_ledger (k : Nat) (hi : Nat) (lo : Nat) (v : Nat) : (s.setFld k hi lo v).ledger = s.ledger := rfl
@[simp] theorem State.setFld_margin (k : Nat) (hi : Nat) (lo : Nat) (v : Nat) : (s.setFld k hi lo v).margin = s.margin := rfl
@[simp] theorem State.setFld_sigs (k : Nat) (hi : Nat) (lo : Nat) (v : Nat) : (s.setFld k hi lo v).sigs = s.sigs := rfl
@[simp] theorem State.setFld_dpOuts (k : Nat) (hi : Nat) (lo : Nat) (v : Nat) : (s.setFld k hi lo v).dpOuts = s.dpOuts := rfl
@[simp] theorem State.setFld_drams (k : Nat) (hi : Nat) (lo : Nat) (v : Nat) : (s.setFld k hi lo v).drams = s.drams := rfl
@[simp] theorem State.setFld_refc (k : Nat) (hi : Nat) (lo : Nat) (v : Nat) : (s.setFld k hi lo v).refc = s.refc := rfl
@[simp] theorem State.setFld_dpIns (k : Nat) (hi : Nat) (lo : Nat) (v : Nat) : (s.setFld k hi lo v).dpIns = s.dpIns := rfl
@[simp] theorem State.setFld_otp (k : Nat) (hi : Nat) (lo : Nat) (v : Nat) : (s.setFld k hi lo v).otp = s.otp := rfl
@[simp] theorem State.setFld_flash (k : Nat) (hi : Nat) (lo : Nat) (v : Nat) : (s.setFld k hi lo v).flash = s.flash := rfl
@[simp] theorem State.setFld_flows (k : Nat) (hi : Nat) (lo : Nat) (v : Nat) : (s.setFld k hi lo v).flows = s.flows := rfl
@[simp] theorem State.setFld_macs (k : Nat) (hi : Nat) (lo : Nat) (v : Nat) : (s.setFld k hi lo v).macs = s.macs := rfl
@[simp] theorem State.setFld_sessWait (k : Nat) (hi : Nat) (lo : Nat) (v : Nat) : (s.setFld k hi lo v).sessWait = s.sessWait := rfl
@[simp] theorem State.setFld_queues (k : Nat) (hi : Nat) (lo : Nat) (v : Nat) : (s.setFld k hi lo v).queues = s.queues := rfl
@[simp] theorem State.setFld_served (k : Nat) (hi : Nat) (lo : Nat) (v : Nat) : (s.setFld k hi lo v).served = s.served := rfl
@[simp] theorem State.setFld_policers (k : Nat) (hi : Nat) (lo : Nat) (v : Nat) : (s.setFld k hi lo v).policers = s.policers := rfl
@[simp] theorem State.setFld_pool (k : Nat) (hi : Nat) (lo : Nat) (v : Nat) : (s.setFld k hi lo v).pool = s.pool := rfl
@[simp] theorem State.setFld_cuex (k : Nat) (hi : Nat) (lo : Nat) (v : Nat) : (s.setFld k hi lo v).cuex = s.cuex := rfl
@[simp] theorem State.setFld_fifos (k : Nat) (hi : Nat) (lo : Nat) (v : Nat) : (s.setFld k hi lo v).fifos = s.fifos := rfl
@[simp] theorem State.setFld_cvu (k : Nat) (hi : Nat) (lo : Nat) (v : Nat) : (s.setFld k hi lo v).cvu = s.cvu := rfl
@[simp] theorem State.setFld_host (k : Nat) (hi : Nat) (lo : Nat) (v : Nat) : (s.setFld k hi lo v).host = s.host := rfl
@[simp] theorem State.setFld_dma (k : Nat) (hi : Nat) (lo : Nat) (v : Nat) : (s.setFld k hi lo v).dma = s.dma := rfl
@[simp] theorem State.setFld_pcie (k : Nat) (hi : Nat) (lo : Nat) (v : Nat) : (s.setFld k hi lo v).pcie = s.pcie := rfl
@[simp] theorem State.setFld_tap (k : Nat) (hi : Nat) (lo : Nat) (v : Nat) : (s.setFld k hi lo v).tap = s.tap := rfl
@[simp] theorem State.setFld_pair (k : Nat) (hi : Nat) (lo : Nat) (v : Nat) : (s.setFld k hi lo v).pair = s.pair := rfl
@[simp] theorem State.setFld_ptp (k : Nat) (hi : Nat) (lo : Nat) (v : Nat) : (s.setFld k hi lo v).ptp = s.ptp := rfl
@[simp] theorem State.setFld_out (k : Nat) (hi : Nat) (lo : Nat) (v : Nat) : (s.setFld k hi lo v).out = s.out := rfl
@[simp] theorem State.setFld_freeCtr (k : Nat) (hi : Nat) (lo : Nat) (v : Nat) : (s.setFld k hi lo v).freeCtr = s.freeCtr := rfl
@[simp] theorem State.setFld_ctx (k : Nat) (hi : Nat) (lo : Nat) (v : Nat) (j : Nat) : (s.setFld k hi lo v).ctx j = s.ctx j := rfl

@[simp] theorem State.setRbit_pending (k : Nat) (n : Nat) (b : Bool) : (s.setRbit k n b).pending = s.pending := rfl
@[simp] theorem State.setRbit_latches (k : Nat) (n : Nat) (b : Bool) : (s.setRbit k n b).latches = s.latches := rfl
@[simp] theorem State.setRbit_mem (k : Nat) (n : Nat) (b : Bool) : (s.setRbit k n b).mem = s.mem := rfl
@[simp] theorem State.setRbit_scrap (k : Nat) (n : Nat) (b : Bool) : (s.setRbit k n b).scrap = s.scrap := rfl
@[simp] theorem State.setRbit_hostMem (k : Nat) (n : Nat) (b : Bool) : (s.setRbit k n b).hostMem = s.hostMem := rfl
@[simp] theorem State.setRbit_rc (k : Nat) (n : Nat) (b : Bool) : (s.setRbit k n b).rc = s.rc := rfl
@[simp] theorem State.setRbit_fc (k : Nat) (n : Nat) (b : Bool) : (s.setRbit k n b).fc = s.fc := rfl
@[simp] theorem State.setRbit_trust (k : Nat) (n : Nat) (b : Bool) : (s.setRbit k n b).trust = s.trust := rfl
@[simp] theorem State.setRbit_tb (k : Nat) (n : Nat) (b : Bool) : (s.setRbit k n b).tb = s.tb := rfl
@[simp] theorem State.setRbit_ctxs (k : Nat) (n : Nat) (b : Bool) : (s.setRbit k n b).ctxs = s.ctxs := rfl
@[simp] theorem State.setRbit_bays (k : Nat) (n : Nat) (b : Bool) : (s.setRbit k n b).bays = s.bays := rfl
@[simp] theorem State.setRbit_px (k : Nat) (n : Nat) (b : Bool) : (s.setRbit k n b).px = s.px := rfl
@[simp] theorem State.setRbit_ce (k : Nat) (n : Nat) (b : Bool) : (s.setRbit k n b).ce = s.ce := rfl
@[simp] theorem State.setRbit_stores (k : Nat) (n : Nat) (b : Bool) : (s.setRbit k n b).stores = s.stores := rfl
@[simp] theorem State.setRbit_sram (k : Nat) (n : Nat) (b : Bool) : (s.setRbit k n b).sram = s.sram := rfl
@[simp] theorem State.setRbit_bins (k : Nat) (n : Nat) (b : Bool) : (s.setRbit k n b).bins = s.bins := rfl
@[simp] theorem State.setRbit_ledger (k : Nat) (n : Nat) (b : Bool) : (s.setRbit k n b).ledger = s.ledger := rfl
@[simp] theorem State.setRbit_margin (k : Nat) (n : Nat) (b : Bool) : (s.setRbit k n b).margin = s.margin := rfl
@[simp] theorem State.setRbit_sigs (k : Nat) (n : Nat) (b : Bool) : (s.setRbit k n b).sigs = s.sigs := rfl
@[simp] theorem State.setRbit_dpOuts (k : Nat) (n : Nat) (b : Bool) : (s.setRbit k n b).dpOuts = s.dpOuts := rfl
@[simp] theorem State.setRbit_drams (k : Nat) (n : Nat) (b : Bool) : (s.setRbit k n b).drams = s.drams := rfl
@[simp] theorem State.setRbit_refc (k : Nat) (n : Nat) (b : Bool) : (s.setRbit k n b).refc = s.refc := rfl
@[simp] theorem State.setRbit_dpIns (k : Nat) (n : Nat) (b : Bool) : (s.setRbit k n b).dpIns = s.dpIns := rfl
@[simp] theorem State.setRbit_otp (k : Nat) (n : Nat) (b : Bool) : (s.setRbit k n b).otp = s.otp := rfl
@[simp] theorem State.setRbit_flash (k : Nat) (n : Nat) (b : Bool) : (s.setRbit k n b).flash = s.flash := rfl
@[simp] theorem State.setRbit_flows (k : Nat) (n : Nat) (b : Bool) : (s.setRbit k n b).flows = s.flows := rfl
@[simp] theorem State.setRbit_macs (k : Nat) (n : Nat) (b : Bool) : (s.setRbit k n b).macs = s.macs := rfl
@[simp] theorem State.setRbit_sessWait (k : Nat) (n : Nat) (b : Bool) : (s.setRbit k n b).sessWait = s.sessWait := rfl
@[simp] theorem State.setRbit_queues (k : Nat) (n : Nat) (b : Bool) : (s.setRbit k n b).queues = s.queues := rfl
@[simp] theorem State.setRbit_served (k : Nat) (n : Nat) (b : Bool) : (s.setRbit k n b).served = s.served := rfl
@[simp] theorem State.setRbit_policers (k : Nat) (n : Nat) (b : Bool) : (s.setRbit k n b).policers = s.policers := rfl
@[simp] theorem State.setRbit_pool (k : Nat) (n : Nat) (b : Bool) : (s.setRbit k n b).pool = s.pool := rfl
@[simp] theorem State.setRbit_cuex (k : Nat) (n : Nat) (b : Bool) : (s.setRbit k n b).cuex = s.cuex := rfl
@[simp] theorem State.setRbit_fifos (k : Nat) (n : Nat) (b : Bool) : (s.setRbit k n b).fifos = s.fifos := rfl
@[simp] theorem State.setRbit_cvu (k : Nat) (n : Nat) (b : Bool) : (s.setRbit k n b).cvu = s.cvu := rfl
@[simp] theorem State.setRbit_host (k : Nat) (n : Nat) (b : Bool) : (s.setRbit k n b).host = s.host := rfl
@[simp] theorem State.setRbit_dma (k : Nat) (n : Nat) (b : Bool) : (s.setRbit k n b).dma = s.dma := rfl
@[simp] theorem State.setRbit_pcie (k : Nat) (n : Nat) (b : Bool) : (s.setRbit k n b).pcie = s.pcie := rfl
@[simp] theorem State.setRbit_tap (k : Nat) (n : Nat) (b : Bool) : (s.setRbit k n b).tap = s.tap := rfl
@[simp] theorem State.setRbit_pair (k : Nat) (n : Nat) (b : Bool) : (s.setRbit k n b).pair = s.pair := rfl
@[simp] theorem State.setRbit_ptp (k : Nat) (n : Nat) (b : Bool) : (s.setRbit k n b).ptp = s.ptp := rfl
@[simp] theorem State.setRbit_out (k : Nat) (n : Nat) (b : Bool) : (s.setRbit k n b).out = s.out := rfl
@[simp] theorem State.setRbit_freeCtr (k : Nat) (n : Nat) (b : Bool) : (s.setRbit k n b).freeCtr = s.freeCtr := rfl
@[simp] theorem State.setRbit_ctx (k : Nat) (n : Nat) (b : Bool) (j : Nat) : (s.setRbit k n b).ctx j = s.ctx j := rfl

@[simp] theorem State.bump_pending (k : Nat) (n : Nat) : (s.bump k n).pending = s.pending := rfl
@[simp] theorem State.bump_latches (k : Nat) (n : Nat) : (s.bump k n).latches = s.latches := rfl
@[simp] theorem State.bump_mem (k : Nat) (n : Nat) : (s.bump k n).mem = s.mem := rfl
@[simp] theorem State.bump_scrap (k : Nat) (n : Nat) : (s.bump k n).scrap = s.scrap := rfl
@[simp] theorem State.bump_hostMem (k : Nat) (n : Nat) : (s.bump k n).hostMem = s.hostMem := rfl
@[simp] theorem State.bump_rc (k : Nat) (n : Nat) : (s.bump k n).rc = s.rc := rfl
@[simp] theorem State.bump_fc (k : Nat) (n : Nat) : (s.bump k n).fc = s.fc := rfl
@[simp] theorem State.bump_trust (k : Nat) (n : Nat) : (s.bump k n).trust = s.trust := rfl
@[simp] theorem State.bump_tb (k : Nat) (n : Nat) : (s.bump k n).tb = s.tb := rfl
@[simp] theorem State.bump_ctxs (k : Nat) (n : Nat) : (s.bump k n).ctxs = s.ctxs := rfl
@[simp] theorem State.bump_bays (k : Nat) (n : Nat) : (s.bump k n).bays = s.bays := rfl
@[simp] theorem State.bump_px (k : Nat) (n : Nat) : (s.bump k n).px = s.px := rfl
@[simp] theorem State.bump_ce (k : Nat) (n : Nat) : (s.bump k n).ce = s.ce := rfl
@[simp] theorem State.bump_stores (k : Nat) (n : Nat) : (s.bump k n).stores = s.stores := rfl
@[simp] theorem State.bump_sram (k : Nat) (n : Nat) : (s.bump k n).sram = s.sram := rfl
@[simp] theorem State.bump_bins (k : Nat) (n : Nat) : (s.bump k n).bins = s.bins := rfl
@[simp] theorem State.bump_ledger (k : Nat) (n : Nat) : (s.bump k n).ledger = s.ledger := rfl
@[simp] theorem State.bump_margin (k : Nat) (n : Nat) : (s.bump k n).margin = s.margin := rfl
@[simp] theorem State.bump_sigs (k : Nat) (n : Nat) : (s.bump k n).sigs = s.sigs := rfl
@[simp] theorem State.bump_dpOuts (k : Nat) (n : Nat) : (s.bump k n).dpOuts = s.dpOuts := rfl
@[simp] theorem State.bump_drams (k : Nat) (n : Nat) : (s.bump k n).drams = s.drams := rfl
@[simp] theorem State.bump_refc (k : Nat) (n : Nat) : (s.bump k n).refc = s.refc := rfl
@[simp] theorem State.bump_dpIns (k : Nat) (n : Nat) : (s.bump k n).dpIns = s.dpIns := rfl
@[simp] theorem State.bump_otp (k : Nat) (n : Nat) : (s.bump k n).otp = s.otp := rfl
@[simp] theorem State.bump_flash (k : Nat) (n : Nat) : (s.bump k n).flash = s.flash := rfl
@[simp] theorem State.bump_flows (k : Nat) (n : Nat) : (s.bump k n).flows = s.flows := rfl
@[simp] theorem State.bump_macs (k : Nat) (n : Nat) : (s.bump k n).macs = s.macs := rfl
@[simp] theorem State.bump_sessWait (k : Nat) (n : Nat) : (s.bump k n).sessWait = s.sessWait := rfl
@[simp] theorem State.bump_queues (k : Nat) (n : Nat) : (s.bump k n).queues = s.queues := rfl
@[simp] theorem State.bump_served (k : Nat) (n : Nat) : (s.bump k n).served = s.served := rfl
@[simp] theorem State.bump_policers (k : Nat) (n : Nat) : (s.bump k n).policers = s.policers := rfl
@[simp] theorem State.bump_pool (k : Nat) (n : Nat) : (s.bump k n).pool = s.pool := rfl
@[simp] theorem State.bump_cuex (k : Nat) (n : Nat) : (s.bump k n).cuex = s.cuex := rfl
@[simp] theorem State.bump_fifos (k : Nat) (n : Nat) : (s.bump k n).fifos = s.fifos := rfl
@[simp] theorem State.bump_cvu (k : Nat) (n : Nat) : (s.bump k n).cvu = s.cvu := rfl
@[simp] theorem State.bump_host (k : Nat) (n : Nat) : (s.bump k n).host = s.host := rfl
@[simp] theorem State.bump_dma (k : Nat) (n : Nat) : (s.bump k n).dma = s.dma := rfl
@[simp] theorem State.bump_pcie (k : Nat) (n : Nat) : (s.bump k n).pcie = s.pcie := rfl
@[simp] theorem State.bump_tap (k : Nat) (n : Nat) : (s.bump k n).tap = s.tap := rfl
@[simp] theorem State.bump_pair (k : Nat) (n : Nat) : (s.bump k n).pair = s.pair := rfl
@[simp] theorem State.bump_ptp (k : Nat) (n : Nat) : (s.bump k n).ptp = s.ptp := rfl
@[simp] theorem State.bump_out (k : Nat) (n : Nat) : (s.bump k n).out = s.out := rfl
@[simp] theorem State.bump_freeCtr (k : Nat) (n : Nat) : (s.bump k n).freeCtr = s.freeCtr := rfl
@[simp] theorem State.bump_ctx (k : Nat) (n : Nat) (j : Nat) : (s.bump k n).ctx j = s.ctx j := rfl

@[simp] theorem State.wrapAdd_pending (k : Nat) (n : Nat) : (s.wrapAdd k n).pending = s.pending := rfl
@[simp] theorem State.wrapAdd_latches (k : Nat) (n : Nat) : (s.wrapAdd k n).latches = s.latches := rfl
@[simp] theorem State.wrapAdd_mem (k : Nat) (n : Nat) : (s.wrapAdd k n).mem = s.mem := rfl
@[simp] theorem State.wrapAdd_scrap (k : Nat) (n : Nat) : (s.wrapAdd k n).scrap = s.scrap := rfl
@[simp] theorem State.wrapAdd_hostMem (k : Nat) (n : Nat) : (s.wrapAdd k n).hostMem = s.hostMem := rfl
@[simp] theorem State.wrapAdd_rc (k : Nat) (n : Nat) : (s.wrapAdd k n).rc = s.rc := rfl
@[simp] theorem State.wrapAdd_fc (k : Nat) (n : Nat) : (s.wrapAdd k n).fc = s.fc := rfl
@[simp] theorem State.wrapAdd_trust (k : Nat) (n : Nat) : (s.wrapAdd k n).trust = s.trust := rfl
@[simp] theorem State.wrapAdd_tb (k : Nat) (n : Nat) : (s.wrapAdd k n).tb = s.tb := rfl
@[simp] theorem State.wrapAdd_ctxs (k : Nat) (n : Nat) : (s.wrapAdd k n).ctxs = s.ctxs := rfl
@[simp] theorem State.wrapAdd_bays (k : Nat) (n : Nat) : (s.wrapAdd k n).bays = s.bays := rfl
@[simp] theorem State.wrapAdd_px (k : Nat) (n : Nat) : (s.wrapAdd k n).px = s.px := rfl
@[simp] theorem State.wrapAdd_ce (k : Nat) (n : Nat) : (s.wrapAdd k n).ce = s.ce := rfl
@[simp] theorem State.wrapAdd_stores (k : Nat) (n : Nat) : (s.wrapAdd k n).stores = s.stores := rfl
@[simp] theorem State.wrapAdd_sram (k : Nat) (n : Nat) : (s.wrapAdd k n).sram = s.sram := rfl
@[simp] theorem State.wrapAdd_bins (k : Nat) (n : Nat) : (s.wrapAdd k n).bins = s.bins := rfl
@[simp] theorem State.wrapAdd_ledger (k : Nat) (n : Nat) : (s.wrapAdd k n).ledger = s.ledger := rfl
@[simp] theorem State.wrapAdd_margin (k : Nat) (n : Nat) : (s.wrapAdd k n).margin = s.margin := rfl
@[simp] theorem State.wrapAdd_sigs (k : Nat) (n : Nat) : (s.wrapAdd k n).sigs = s.sigs := rfl
@[simp] theorem State.wrapAdd_dpOuts (k : Nat) (n : Nat) : (s.wrapAdd k n).dpOuts = s.dpOuts := rfl
@[simp] theorem State.wrapAdd_drams (k : Nat) (n : Nat) : (s.wrapAdd k n).drams = s.drams := rfl
@[simp] theorem State.wrapAdd_refc (k : Nat) (n : Nat) : (s.wrapAdd k n).refc = s.refc := rfl
@[simp] theorem State.wrapAdd_dpIns (k : Nat) (n : Nat) : (s.wrapAdd k n).dpIns = s.dpIns := rfl
@[simp] theorem State.wrapAdd_otp (k : Nat) (n : Nat) : (s.wrapAdd k n).otp = s.otp := rfl
@[simp] theorem State.wrapAdd_flash (k : Nat) (n : Nat) : (s.wrapAdd k n).flash = s.flash := rfl
@[simp] theorem State.wrapAdd_flows (k : Nat) (n : Nat) : (s.wrapAdd k n).flows = s.flows := rfl
@[simp] theorem State.wrapAdd_macs (k : Nat) (n : Nat) : (s.wrapAdd k n).macs = s.macs := rfl
@[simp] theorem State.wrapAdd_sessWait (k : Nat) (n : Nat) : (s.wrapAdd k n).sessWait = s.sessWait := rfl
@[simp] theorem State.wrapAdd_queues (k : Nat) (n : Nat) : (s.wrapAdd k n).queues = s.queues := rfl
@[simp] theorem State.wrapAdd_served (k : Nat) (n : Nat) : (s.wrapAdd k n).served = s.served := rfl
@[simp] theorem State.wrapAdd_policers (k : Nat) (n : Nat) : (s.wrapAdd k n).policers = s.policers := rfl
@[simp] theorem State.wrapAdd_pool (k : Nat) (n : Nat) : (s.wrapAdd k n).pool = s.pool := rfl
@[simp] theorem State.wrapAdd_cuex (k : Nat) (n : Nat) : (s.wrapAdd k n).cuex = s.cuex := rfl
@[simp] theorem State.wrapAdd_fifos (k : Nat) (n : Nat) : (s.wrapAdd k n).fifos = s.fifos := rfl
@[simp] theorem State.wrapAdd_cvu (k : Nat) (n : Nat) : (s.wrapAdd k n).cvu = s.cvu := rfl
@[simp] theorem State.wrapAdd_host (k : Nat) (n : Nat) : (s.wrapAdd k n).host = s.host := rfl
@[simp] theorem State.wrapAdd_dma (k : Nat) (n : Nat) : (s.wrapAdd k n).dma = s.dma := rfl
@[simp] theorem State.wrapAdd_pcie (k : Nat) (n : Nat) : (s.wrapAdd k n).pcie = s.pcie := rfl
@[simp] theorem State.wrapAdd_tap (k : Nat) (n : Nat) : (s.wrapAdd k n).tap = s.tap := rfl
@[simp] theorem State.wrapAdd_pair (k : Nat) (n : Nat) : (s.wrapAdd k n).pair = s.pair := rfl
@[simp] theorem State.wrapAdd_ptp (k : Nat) (n : Nat) : (s.wrapAdd k n).ptp = s.ptp := rfl
@[simp] theorem State.wrapAdd_out (k : Nat) (n : Nat) : (s.wrapAdd k n).out = s.out := rfl
@[simp] theorem State.wrapAdd_freeCtr (k : Nat) (n : Nat) : (s.wrapAdd k n).freeCtr = s.freeCtr := rfl
@[simp] theorem State.wrapAdd_ctx (k : Nat) (n : Nat) (j : Nat) : (s.wrapAdd k n).ctx j = s.ctx j := rfl

@[simp] theorem State.emit_pending (o : Output) : (s.emit o).pending = s.pending := rfl
@[simp] theorem State.emit_regs (o : Output) : (s.emit o).regs = s.regs := rfl
@[simp] theorem State.emit_latches (o : Output) : (s.emit o).latches = s.latches := rfl
@[simp] theorem State.emit_mem (o : Output) : (s.emit o).mem = s.mem := rfl
@[simp] theorem State.emit_scrap (o : Output) : (s.emit o).scrap = s.scrap := rfl
@[simp] theorem State.emit_hostMem (o : Output) : (s.emit o).hostMem = s.hostMem := rfl
@[simp] theorem State.emit_rc (o : Output) : (s.emit o).rc = s.rc := rfl
@[simp] theorem State.emit_fc (o : Output) : (s.emit o).fc = s.fc := rfl
@[simp] theorem State.emit_trust (o : Output) : (s.emit o).trust = s.trust := rfl
@[simp] theorem State.emit_tb (o : Output) : (s.emit o).tb = s.tb := rfl
@[simp] theorem State.emit_ctxs (o : Output) : (s.emit o).ctxs = s.ctxs := rfl
@[simp] theorem State.emit_bays (o : Output) : (s.emit o).bays = s.bays := rfl
@[simp] theorem State.emit_px (o : Output) : (s.emit o).px = s.px := rfl
@[simp] theorem State.emit_ce (o : Output) : (s.emit o).ce = s.ce := rfl
@[simp] theorem State.emit_stores (o : Output) : (s.emit o).stores = s.stores := rfl
@[simp] theorem State.emit_sram (o : Output) : (s.emit o).sram = s.sram := rfl
@[simp] theorem State.emit_bins (o : Output) : (s.emit o).bins = s.bins := rfl
@[simp] theorem State.emit_ledger (o : Output) : (s.emit o).ledger = s.ledger := rfl
@[simp] theorem State.emit_margin (o : Output) : (s.emit o).margin = s.margin := rfl
@[simp] theorem State.emit_sigs (o : Output) : (s.emit o).sigs = s.sigs := rfl
@[simp] theorem State.emit_dpOuts (o : Output) : (s.emit o).dpOuts = s.dpOuts := rfl
@[simp] theorem State.emit_drams (o : Output) : (s.emit o).drams = s.drams := rfl
@[simp] theorem State.emit_refc (o : Output) : (s.emit o).refc = s.refc := rfl
@[simp] theorem State.emit_dpIns (o : Output) : (s.emit o).dpIns = s.dpIns := rfl
@[simp] theorem State.emit_otp (o : Output) : (s.emit o).otp = s.otp := rfl
@[simp] theorem State.emit_flash (o : Output) : (s.emit o).flash = s.flash := rfl
@[simp] theorem State.emit_flows (o : Output) : (s.emit o).flows = s.flows := rfl
@[simp] theorem State.emit_macs (o : Output) : (s.emit o).macs = s.macs := rfl
@[simp] theorem State.emit_sessWait (o : Output) : (s.emit o).sessWait = s.sessWait := rfl
@[simp] theorem State.emit_queues (o : Output) : (s.emit o).queues = s.queues := rfl
@[simp] theorem State.emit_served (o : Output) : (s.emit o).served = s.served := rfl
@[simp] theorem State.emit_policers (o : Output) : (s.emit o).policers = s.policers := rfl
@[simp] theorem State.emit_pool (o : Output) : (s.emit o).pool = s.pool := rfl
@[simp] theorem State.emit_cuex (o : Output) : (s.emit o).cuex = s.cuex := rfl
@[simp] theorem State.emit_fifos (o : Output) : (s.emit o).fifos = s.fifos := rfl
@[simp] theorem State.emit_cvu (o : Output) : (s.emit o).cvu = s.cvu := rfl
@[simp] theorem State.emit_host (o : Output) : (s.emit o).host = s.host := rfl
@[simp] theorem State.emit_dma (o : Output) : (s.emit o).dma = s.dma := rfl
@[simp] theorem State.emit_pcie (o : Output) : (s.emit o).pcie = s.pcie := rfl
@[simp] theorem State.emit_tap (o : Output) : (s.emit o).tap = s.tap := rfl
@[simp] theorem State.emit_pair (o : Output) : (s.emit o).pair = s.pair := rfl
@[simp] theorem State.emit_ptp (o : Output) : (s.emit o).ptp = s.ptp := rfl
@[simp] theorem State.emit_freeCtr (o : Output) : (s.emit o).freeCtr = s.freeCtr := rfl
@[simp] theorem State.emit_reg (o : Output) (j : Nat) : (s.emit o).reg j = s.reg j := rfl
@[simp] theorem State.emit_ctx (o : Output) (j : Nat) : (s.emit o).ctx j = s.ctx j := rfl

@[simp] theorem State.modTb_pending (f : TimeBase → TimeBase) : (s.modTb f).pending = s.pending := rfl
@[simp] theorem State.modTb_regs (f : TimeBase → TimeBase) : (s.modTb f).regs = s.regs := rfl
@[simp] theorem State.modTb_latches (f : TimeBase → TimeBase) : (s.modTb f).latches = s.latches := rfl
@[simp] theorem State.modTb_mem (f : TimeBase → TimeBase) : (s.modTb f).mem = s.mem := rfl
@[simp] theorem State.modTb_scrap (f : TimeBase → TimeBase) : (s.modTb f).scrap = s.scrap := rfl
@[simp] theorem State.modTb_hostMem (f : TimeBase → TimeBase) : (s.modTb f).hostMem = s.hostMem := rfl
@[simp] theorem State.modTb_rc (f : TimeBase → TimeBase) : (s.modTb f).rc = s.rc := rfl
@[simp] theorem State.modTb_fc (f : TimeBase → TimeBase) : (s.modTb f).fc = s.fc := rfl
@[simp] theorem State.modTb_trust (f : TimeBase → TimeBase) : (s.modTb f).trust = s.trust := rfl
@[simp] theorem State.modTb_ctxs (f : TimeBase → TimeBase) : (s.modTb f).ctxs = s.ctxs := rfl
@[simp] theorem State.modTb_bays (f : TimeBase → TimeBase) : (s.modTb f).bays = s.bays := rfl
@[simp] theorem State.modTb_px (f : TimeBase → TimeBase) : (s.modTb f).px = s.px := rfl
@[simp] theorem State.modTb_ce (f : TimeBase → TimeBase) : (s.modTb f).ce = s.ce := rfl
@[simp] theorem State.modTb_stores (f : TimeBase → TimeBase) : (s.modTb f).stores = s.stores := rfl
@[simp] theorem State.modTb_sram (f : TimeBase → TimeBase) : (s.modTb f).sram = s.sram := rfl
@[simp] theorem State.modTb_bins (f : TimeBase → TimeBase) : (s.modTb f).bins = s.bins := rfl
@[simp] theorem State.modTb_ledger (f : TimeBase → TimeBase) : (s.modTb f).ledger = s.ledger := rfl
@[simp] theorem State.modTb_margin (f : TimeBase → TimeBase) : (s.modTb f).margin = s.margin := rfl
@[simp] theorem State.modTb_sigs (f : TimeBase → TimeBase) : (s.modTb f).sigs = s.sigs := rfl
@[simp] theorem State.modTb_dpOuts (f : TimeBase → TimeBase) : (s.modTb f).dpOuts = s.dpOuts := rfl
@[simp] theorem State.modTb_drams (f : TimeBase → TimeBase) : (s.modTb f).drams = s.drams := rfl
@[simp] theorem State.modTb_refc (f : TimeBase → TimeBase) : (s.modTb f).refc = s.refc := rfl
@[simp] theorem State.modTb_dpIns (f : TimeBase → TimeBase) : (s.modTb f).dpIns = s.dpIns := rfl
@[simp] theorem State.modTb_otp (f : TimeBase → TimeBase) : (s.modTb f).otp = s.otp := rfl
@[simp] theorem State.modTb_flash (f : TimeBase → TimeBase) : (s.modTb f).flash = s.flash := rfl
@[simp] theorem State.modTb_flows (f : TimeBase → TimeBase) : (s.modTb f).flows = s.flows := rfl
@[simp] theorem State.modTb_macs (f : TimeBase → TimeBase) : (s.modTb f).macs = s.macs := rfl
@[simp] theorem State.modTb_sessWait (f : TimeBase → TimeBase) : (s.modTb f).sessWait = s.sessWait := rfl
@[simp] theorem State.modTb_queues (f : TimeBase → TimeBase) : (s.modTb f).queues = s.queues := rfl
@[simp] theorem State.modTb_served (f : TimeBase → TimeBase) : (s.modTb f).served = s.served := rfl
@[simp] theorem State.modTb_policers (f : TimeBase → TimeBase) : (s.modTb f).policers = s.policers := rfl
@[simp] theorem State.modTb_pool (f : TimeBase → TimeBase) : (s.modTb f).pool = s.pool := rfl
@[simp] theorem State.modTb_cuex (f : TimeBase → TimeBase) : (s.modTb f).cuex = s.cuex := rfl
@[simp] theorem State.modTb_fifos (f : TimeBase → TimeBase) : (s.modTb f).fifos = s.fifos := rfl
@[simp] theorem State.modTb_cvu (f : TimeBase → TimeBase) : (s.modTb f).cvu = s.cvu := rfl
@[simp] theorem State.modTb_host (f : TimeBase → TimeBase) : (s.modTb f).host = s.host := rfl
@[simp] theorem State.modTb_dma (f : TimeBase → TimeBase) : (s.modTb f).dma = s.dma := rfl
@[simp] theorem State.modTb_pcie (f : TimeBase → TimeBase) : (s.modTb f).pcie = s.pcie := rfl
@[simp] theorem State.modTb_tap (f : TimeBase → TimeBase) : (s.modTb f).tap = s.tap := rfl
@[simp] theorem State.modTb_pair (f : TimeBase → TimeBase) : (s.modTb f).pair = s.pair := rfl
@[simp] theorem State.modTb_ptp (f : TimeBase → TimeBase) : (s.modTb f).ptp = s.ptp := rfl
@[simp] theorem State.modTb_out (f : TimeBase → TimeBase) : (s.modTb f).out = s.out := rfl
@[simp] theorem State.modTb_freeCtr (f : TimeBase → TimeBase) : (s.modTb f).freeCtr = s.freeCtr := rfl
@[simp] theorem State.modTb_reg (f : TimeBase → TimeBase) (j : Nat) : (s.modTb f).reg j = s.reg j := rfl
@[simp] theorem State.modTb_ctx (f : TimeBase → TimeBase) (j : Nat) : (s.modTb f).ctx j = s.ctx j := rfl

@[simp] theorem State.memWrite_pending (a : Nat) (bs : List Byte) : (s.memWrite a bs).pending = s.pending := rfl
@[simp] theorem State.memWrite_regs (a : Nat) (bs : List Byte) : (s.memWrite a bs).regs = s.regs := rfl
@[simp] theorem State.memWrite_latches (a : Nat) (bs : List Byte) : (s.memWrite a bs).latches = s.latches := rfl
@[simp] theorem State.memWrite_scrap (a : Nat) (bs : List Byte) : (s.memWrite a bs).scrap = s.scrap := rfl
@[simp] theorem State.memWrite_hostMem (a : Nat) (bs : List Byte) : (s.memWrite a bs).hostMem = s.hostMem := rfl
@[simp] theorem State.memWrite_rc (a : Nat) (bs : List Byte) : (s.memWrite a bs).rc = s.rc := rfl
@[simp] theorem State.memWrite_fc (a : Nat) (bs : List Byte) : (s.memWrite a bs).fc = s.fc := rfl
@[simp] theorem State.memWrite_trust (a : Nat) (bs : List Byte) : (s.memWrite a bs).trust = s.trust := rfl
@[simp] theorem State.memWrite_tb (a : Nat) (bs : List Byte) : (s.memWrite a bs).tb = s.tb := rfl
@[simp] theorem State.memWrite_ctxs (a : Nat) (bs : List Byte) : (s.memWrite a bs).ctxs = s.ctxs := rfl
@[simp] theorem State.memWrite_bays (a : Nat) (bs : List Byte) : (s.memWrite a bs).bays = s.bays := rfl
@[simp] theorem State.memWrite_px (a : Nat) (bs : List Byte) : (s.memWrite a bs).px = s.px := rfl
@[simp] theorem State.memWrite_ce (a : Nat) (bs : List Byte) : (s.memWrite a bs).ce = s.ce := rfl
@[simp] theorem State.memWrite_stores (a : Nat) (bs : List Byte) : (s.memWrite a bs).stores = s.stores := rfl
@[simp] theorem State.memWrite_sram (a : Nat) (bs : List Byte) : (s.memWrite a bs).sram = s.sram := rfl
@[simp] theorem State.memWrite_bins (a : Nat) (bs : List Byte) : (s.memWrite a bs).bins = s.bins := rfl
@[simp] theorem State.memWrite_ledger (a : Nat) (bs : List Byte) : (s.memWrite a bs).ledger = s.ledger := rfl
@[simp] theorem State.memWrite_margin (a : Nat) (bs : List Byte) : (s.memWrite a bs).margin = s.margin := rfl
@[simp] theorem State.memWrite_sigs (a : Nat) (bs : List Byte) : (s.memWrite a bs).sigs = s.sigs := rfl
@[simp] theorem State.memWrite_dpOuts (a : Nat) (bs : List Byte) : (s.memWrite a bs).dpOuts = s.dpOuts := rfl
@[simp] theorem State.memWrite_drams (a : Nat) (bs : List Byte) : (s.memWrite a bs).drams = s.drams := rfl
@[simp] theorem State.memWrite_refc (a : Nat) (bs : List Byte) : (s.memWrite a bs).refc = s.refc := rfl
@[simp] theorem State.memWrite_dpIns (a : Nat) (bs : List Byte) : (s.memWrite a bs).dpIns = s.dpIns := rfl
@[simp] theorem State.memWrite_otp (a : Nat) (bs : List Byte) : (s.memWrite a bs).otp = s.otp := rfl
@[simp] theorem State.memWrite_flash (a : Nat) (bs : List Byte) : (s.memWrite a bs).flash = s.flash := rfl
@[simp] theorem State.memWrite_flows (a : Nat) (bs : List Byte) : (s.memWrite a bs).flows = s.flows := rfl
@[simp] theorem State.memWrite_macs (a : Nat) (bs : List Byte) : (s.memWrite a bs).macs = s.macs := rfl
@[simp] theorem State.memWrite_sessWait (a : Nat) (bs : List Byte) : (s.memWrite a bs).sessWait = s.sessWait := rfl
@[simp] theorem State.memWrite_queues (a : Nat) (bs : List Byte) : (s.memWrite a bs).queues = s.queues := rfl
@[simp] theorem State.memWrite_served (a : Nat) (bs : List Byte) : (s.memWrite a bs).served = s.served := rfl
@[simp] theorem State.memWrite_policers (a : Nat) (bs : List Byte) : (s.memWrite a bs).policers = s.policers := rfl
@[simp] theorem State.memWrite_pool (a : Nat) (bs : List Byte) : (s.memWrite a bs).pool = s.pool := rfl
@[simp] theorem State.memWrite_cuex (a : Nat) (bs : List Byte) : (s.memWrite a bs).cuex = s.cuex := rfl
@[simp] theorem State.memWrite_fifos (a : Nat) (bs : List Byte) : (s.memWrite a bs).fifos = s.fifos := rfl
@[simp] theorem State.memWrite_cvu (a : Nat) (bs : List Byte) : (s.memWrite a bs).cvu = s.cvu := rfl
@[simp] theorem State.memWrite_host (a : Nat) (bs : List Byte) : (s.memWrite a bs).host = s.host := rfl
@[simp] theorem State.memWrite_dma (a : Nat) (bs : List Byte) : (s.memWrite a bs).dma = s.dma := rfl
@[simp] theorem State.memWrite_pcie (a : Nat) (bs : List Byte) : (s.memWrite a bs).pcie = s.pcie := rfl
@[simp] theorem State.memWrite_tap (a : Nat) (bs : List Byte) : (s.memWrite a bs).tap = s.tap := rfl
@[simp] theorem State.memWrite_pair (a : Nat) (bs : List Byte) : (s.memWrite a bs).pair = s.pair := rfl
@[simp] theorem State.memWrite_ptp (a : Nat) (bs : List Byte) : (s.memWrite a bs).ptp = s.ptp := rfl
@[simp] theorem State.memWrite_out (a : Nat) (bs : List Byte) : (s.memWrite a bs).out = s.out := rfl
@[simp] theorem State.memWrite_freeCtr (a : Nat) (bs : List Byte) : (s.memWrite a bs).freeCtr = s.freeCtr := rfl
@[simp] theorem State.memWrite_reg (a : Nat) (bs : List Byte) (j : Nat) : (s.memWrite a bs).reg j = s.reg j := rfl
@[simp] theorem State.memWrite_ctx (a : Nat) (bs : List Byte) (j : Nat) : (s.memWrite a bs).ctx j = s.ctx j := rfl

@[simp] theorem State.hostWrite_pending (a : Nat) (bs : List Byte) : (s.hostWrite a bs).pending = s.pending := rfl
@[simp] theorem State.hostWrite_regs (a : Nat) (bs : List Byte) : (s.hostWrite a bs).regs = s.regs := rfl
@[simp] theorem State.hostWrite_latches (a : Nat) (bs : List Byte) : (s.hostWrite a bs).latches = s.latches := rfl
@[simp] theorem State.hostWrite_mem (a : Nat) (bs : List Byte) : (s.hostWrite a bs).mem = s.mem := rfl
@[simp] theorem State.hostWrite_scrap (a : Nat) (bs : List Byte) : (s.hostWrite a bs).scrap = s.scrap := rfl
@[simp] theorem State.hostWrite_rc (a : Nat) (bs : List Byte) : (s.hostWrite a bs).rc = s.rc := rfl
@[simp] theorem State.hostWrite_fc (a : Nat) (bs : List Byte) : (s.hostWrite a bs).fc = s.fc := rfl
@[simp] theorem State.hostWrite_trust (a : Nat) (bs : List Byte) : (s.hostWrite a bs).trust = s.trust := rfl
@[simp] theorem State.hostWrite_tb (a : Nat) (bs : List Byte) : (s.hostWrite a bs).tb = s.tb := rfl
@[simp] theorem State.hostWrite_ctxs (a : Nat) (bs : List Byte) : (s.hostWrite a bs).ctxs = s.ctxs := rfl
@[simp] theorem State.hostWrite_bays (a : Nat) (bs : List Byte) : (s.hostWrite a bs).bays = s.bays := rfl
@[simp] theorem State.hostWrite_px (a : Nat) (bs : List Byte) : (s.hostWrite a bs).px = s.px := rfl
@[simp] theorem State.hostWrite_ce (a : Nat) (bs : List Byte) : (s.hostWrite a bs).ce = s.ce := rfl
@[simp] theorem State.hostWrite_stores (a : Nat) (bs : List Byte) : (s.hostWrite a bs).stores = s.stores := rfl
@[simp] theorem State.hostWrite_sram (a : Nat) (bs : List Byte) : (s.hostWrite a bs).sram = s.sram := rfl
@[simp] theorem State.hostWrite_bins (a : Nat) (bs : List Byte) : (s.hostWrite a bs).bins = s.bins := rfl
@[simp] theorem State.hostWrite_ledger (a : Nat) (bs : List Byte) : (s.hostWrite a bs).ledger = s.ledger := rfl
@[simp] theorem State.hostWrite_margin (a : Nat) (bs : List Byte) : (s.hostWrite a bs).margin = s.margin := rfl
@[simp] theorem State.hostWrite_sigs (a : Nat) (bs : List Byte) : (s.hostWrite a bs).sigs = s.sigs := rfl
@[simp] theorem State.hostWrite_dpOuts (a : Nat) (bs : List Byte) : (s.hostWrite a bs).dpOuts = s.dpOuts := rfl
@[simp] theorem State.hostWrite_drams (a : Nat) (bs : List Byte) : (s.hostWrite a bs).drams = s.drams := rfl
@[simp] theorem State.hostWrite_refc (a : Nat) (bs : List Byte) : (s.hostWrite a bs).refc = s.refc := rfl
@[simp] theorem State.hostWrite_dpIns (a : Nat) (bs : List Byte) : (s.hostWrite a bs).dpIns = s.dpIns := rfl
@[simp] theorem State.hostWrite_otp (a : Nat) (bs : List Byte) : (s.hostWrite a bs).otp = s.otp := rfl
@[simp] theorem State.hostWrite_flash (a : Nat) (bs : List Byte) : (s.hostWrite a bs).flash = s.flash := rfl
@[simp] theorem State.hostWrite_flows (a : Nat) (bs : List Byte) : (s.hostWrite a bs).flows = s.flows := rfl
@[simp] theorem State.hostWrite_macs (a : Nat) (bs : List Byte) : (s.hostWrite a bs).macs = s.macs := rfl
@[simp] theorem State.hostWrite_sessWait (a : Nat) (bs : List Byte) : (s.hostWrite a bs).sessWait = s.sessWait := rfl
@[simp] theorem State.hostWrite_queues (a : Nat) (bs : List Byte) : (s.hostWrite a bs).queues = s.queues := rfl
@[simp] theorem State.hostWrite_served (a : Nat) (bs : List Byte) : (s.hostWrite a bs).served = s.served := rfl
@[simp] theorem State.hostWrite_policers (a : Nat) (bs : List Byte) : (s.hostWrite a bs).policers = s.policers := rfl
@[simp] theorem State.hostWrite_pool (a : Nat) (bs : List Byte) : (s.hostWrite a bs).pool = s.pool := rfl
@[simp] theorem State.hostWrite_cuex (a : Nat) (bs : List Byte) : (s.hostWrite a bs).cuex = s.cuex := rfl
@[simp] theorem State.hostWrite_fifos (a : Nat) (bs : List Byte) : (s.hostWrite a bs).fifos = s.fifos := rfl
@[simp] theorem State.hostWrite_cvu (a : Nat) (bs : List Byte) : (s.hostWrite a bs).cvu = s.cvu := rfl
@[simp] theorem State.hostWrite_host (a : Nat) (bs : List Byte) : (s.hostWrite a bs).host = s.host := rfl
@[simp] theorem State.hostWrite_dma (a : Nat) (bs : List Byte) : (s.hostWrite a bs).dma = s.dma := rfl
@[simp] theorem State.hostWrite_pcie (a : Nat) (bs : List Byte) : (s.hostWrite a bs).pcie = s.pcie := rfl
@[simp] theorem State.hostWrite_tap (a : Nat) (bs : List Byte) : (s.hostWrite a bs).tap = s.tap := rfl
@[simp] theorem State.hostWrite_pair (a : Nat) (bs : List Byte) : (s.hostWrite a bs).pair = s.pair := rfl
@[simp] theorem State.hostWrite_ptp (a : Nat) (bs : List Byte) : (s.hostWrite a bs).ptp = s.ptp := rfl
@[simp] theorem State.hostWrite_out (a : Nat) (bs : List Byte) : (s.hostWrite a bs).out = s.out := rfl
@[simp] theorem State.hostWrite_freeCtr (a : Nat) (bs : List Byte) : (s.hostWrite a bs).freeCtr = s.freeCtr := rfl
@[simp] theorem State.hostWrite_reg (a : Nat) (bs : List Byte) (j : Nat) : (s.hostWrite a bs).reg j = s.reg j := rfl
@[simp] theorem State.hostWrite_ctx (a : Nat) (bs : List Byte) (j : Nat) : (s.hostWrite a bs).ctx j = s.ctx j := rfl

@[simp] theorem State.setCtx_pending (c : Nat) (x : Ctx) : (s.setCtx c x).pending = s.pending := rfl
@[simp] theorem State.setCtx_regs (c : Nat) (x : Ctx) : (s.setCtx c x).regs = s.regs := rfl
@[simp] theorem State.setCtx_latches (c : Nat) (x : Ctx) : (s.setCtx c x).latches = s.latches := rfl
@[simp] theorem State.setCtx_mem (c : Nat) (x : Ctx) : (s.setCtx c x).mem = s.mem := rfl
@[simp] theorem State.setCtx_scrap (c : Nat) (x : Ctx) : (s.setCtx c x).scrap = s.scrap := rfl
@[simp] theorem State.setCtx_hostMem (c : Nat) (x : Ctx) : (s.setCtx c x).hostMem = s.hostMem := rfl
@[simp] theorem State.setCtx_rc (c : Nat) (x : Ctx) : (s.setCtx c x).rc = s.rc := rfl
@[simp] theorem State.setCtx_fc (c : Nat) (x : Ctx) : (s.setCtx c x).fc = s.fc := rfl
@[simp] theorem State.setCtx_trust (c : Nat) (x : Ctx) : (s.setCtx c x).trust = s.trust := rfl
@[simp] theorem State.setCtx_tb (c : Nat) (x : Ctx) : (s.setCtx c x).tb = s.tb := rfl
@[simp] theorem State.setCtx_bays (c : Nat) (x : Ctx) : (s.setCtx c x).bays = s.bays := rfl
@[simp] theorem State.setCtx_px (c : Nat) (x : Ctx) : (s.setCtx c x).px = s.px := rfl
@[simp] theorem State.setCtx_ce (c : Nat) (x : Ctx) : (s.setCtx c x).ce = s.ce := rfl
@[simp] theorem State.setCtx_stores (c : Nat) (x : Ctx) : (s.setCtx c x).stores = s.stores := rfl
@[simp] theorem State.setCtx_sram (c : Nat) (x : Ctx) : (s.setCtx c x).sram = s.sram := rfl
@[simp] theorem State.setCtx_bins (c : Nat) (x : Ctx) : (s.setCtx c x).bins = s.bins := rfl
@[simp] theorem State.setCtx_ledger (c : Nat) (x : Ctx) : (s.setCtx c x).ledger = s.ledger := rfl
@[simp] theorem State.setCtx_margin (c : Nat) (x : Ctx) : (s.setCtx c x).margin = s.margin := rfl
@[simp] theorem State.setCtx_sigs (c : Nat) (x : Ctx) : (s.setCtx c x).sigs = s.sigs := rfl
@[simp] theorem State.setCtx_dpOuts (c : Nat) (x : Ctx) : (s.setCtx c x).dpOuts = s.dpOuts := rfl
@[simp] theorem State.setCtx_drams (c : Nat) (x : Ctx) : (s.setCtx c x).drams = s.drams := rfl
@[simp] theorem State.setCtx_refc (c : Nat) (x : Ctx) : (s.setCtx c x).refc = s.refc := rfl
@[simp] theorem State.setCtx_dpIns (c : Nat) (x : Ctx) : (s.setCtx c x).dpIns = s.dpIns := rfl
@[simp] theorem State.setCtx_otp (c : Nat) (x : Ctx) : (s.setCtx c x).otp = s.otp := rfl
@[simp] theorem State.setCtx_flash (c : Nat) (x : Ctx) : (s.setCtx c x).flash = s.flash := rfl
@[simp] theorem State.setCtx_flows (c : Nat) (x : Ctx) : (s.setCtx c x).flows = s.flows := rfl
@[simp] theorem State.setCtx_macs (c : Nat) (x : Ctx) : (s.setCtx c x).macs = s.macs := rfl
@[simp] theorem State.setCtx_sessWait (c : Nat) (x : Ctx) : (s.setCtx c x).sessWait = s.sessWait := rfl
@[simp] theorem State.setCtx_queues (c : Nat) (x : Ctx) : (s.setCtx c x).queues = s.queues := rfl
@[simp] theorem State.setCtx_served (c : Nat) (x : Ctx) : (s.setCtx c x).served = s.served := rfl
@[simp] theorem State.setCtx_policers (c : Nat) (x : Ctx) : (s.setCtx c x).policers = s.policers := rfl
@[simp] theorem State.setCtx_pool (c : Nat) (x : Ctx) : (s.setCtx c x).pool = s.pool := rfl
@[simp] theorem State.setCtx_cuex (c : Nat) (x : Ctx) : (s.setCtx c x).cuex = s.cuex := rfl
@[simp] theorem State.setCtx_fifos (c : Nat) (x : Ctx) : (s.setCtx c x).fifos = s.fifos := rfl
@[simp] theorem State.setCtx_cvu (c : Nat) (x : Ctx) : (s.setCtx c x).cvu = s.cvu := rfl
@[simp] theorem State.setCtx_host (c : Nat) (x : Ctx) : (s.setCtx c x).host = s.host := rfl
@[simp] theorem State.setCtx_dma (c : Nat) (x : Ctx) : (s.setCtx c x).dma = s.dma := rfl
@[simp] theorem State.setCtx_pcie (c : Nat) (x : Ctx) : (s.setCtx c x).pcie = s.pcie := rfl
@[simp] theorem State.setCtx_tap (c : Nat) (x : Ctx) : (s.setCtx c x).tap = s.tap := rfl
@[simp] theorem State.setCtx_pair (c : Nat) (x : Ctx) : (s.setCtx c x).pair = s.pair := rfl
@[simp] theorem State.setCtx_ptp (c : Nat) (x : Ctx) : (s.setCtx c x).ptp = s.ptp := rfl
@[simp] theorem State.setCtx_out (c : Nat) (x : Ctx) : (s.setCtx c x).out = s.out := rfl
@[simp] theorem State.setCtx_freeCtr (c : Nat) (x : Ctx) : (s.setCtx c x).freeCtr = s.freeCtr := rfl
@[simp] theorem State.setCtx_reg (c : Nat) (x : Ctx) (j : Nat) : (s.setCtx c x).reg j = s.reg j := rfl

@[simp] theorem State.modCtx_pending (c : Nat) (f : Ctx → Ctx) : (s.modCtx c f).pending = s.pending := rfl
@[simp] theorem State.modCtx_regs (c : Nat) (f : Ctx → Ctx) : (s.modCtx c f).regs = s.regs := rfl
@[simp] theorem State.modCtx_latches (c : Nat) (f : Ctx → Ctx) : (s.modCtx c f).latches = s.latches := rfl
@[simp] theorem State.modCtx_mem (c : Nat) (f : Ctx → Ctx) : (s.modCtx c f).mem = s.mem := rfl
@[simp] theorem State.modCtx_scrap (c : Nat) (f : Ctx → Ctx) : (s.modCtx c f).scrap = s.scrap := rfl
@[simp] theorem State.modCtx_hostMem (c : Nat) (f : Ctx → Ctx) : (s.modCtx c f).hostMem = s.hostMem := rfl
@[simp] theorem State.modCtx_rc (c : Nat) (f : Ctx → Ctx) : (s.modCtx c f).rc = s.rc := rfl
@[simp] theorem State.modCtx_fc (c : Nat) (f : Ctx → Ctx) : (s.modCtx c f).fc = s.fc := rfl
@[simp] theorem State.modCtx_trust (c : Nat) (f : Ctx → Ctx) : (s.modCtx c f).trust = s.trust := rfl
@[simp] theorem State.modCtx_tb (c : Nat) (f : Ctx → Ctx) : (s.modCtx c f).tb = s.tb := rfl
@[simp] theorem State.modCtx_bays (c : Nat) (f : Ctx → Ctx) : (s.modCtx c f).bays = s.bays := rfl
@[simp] theorem State.modCtx_px (c : Nat) (f : Ctx → Ctx) : (s.modCtx c f).px = s.px := rfl
@[simp] theorem State.modCtx_ce (c : Nat) (f : Ctx → Ctx) : (s.modCtx c f).ce = s.ce := rfl
@[simp] theorem State.modCtx_stores (c : Nat) (f : Ctx → Ctx) : (s.modCtx c f).stores = s.stores := rfl
@[simp] theorem State.modCtx_sram (c : Nat) (f : Ctx → Ctx) : (s.modCtx c f).sram = s.sram := rfl
@[simp] theorem State.modCtx_bins (c : Nat) (f : Ctx → Ctx) : (s.modCtx c f).bins = s.bins := rfl
@[simp] theorem State.modCtx_ledger (c : Nat) (f : Ctx → Ctx) : (s.modCtx c f).ledger = s.ledger := rfl
@[simp] theorem State.modCtx_margin (c : Nat) (f : Ctx → Ctx) : (s.modCtx c f).margin = s.margin := rfl
@[simp] theorem State.modCtx_sigs (c : Nat) (f : Ctx → Ctx) : (s.modCtx c f).sigs = s.sigs := rfl
@[simp] theorem State.modCtx_dpOuts (c : Nat) (f : Ctx → Ctx) : (s.modCtx c f).dpOuts = s.dpOuts := rfl
@[simp] theorem State.modCtx_drams (c : Nat) (f : Ctx → Ctx) : (s.modCtx c f).drams = s.drams := rfl
@[simp] theorem State.modCtx_refc (c : Nat) (f : Ctx → Ctx) : (s.modCtx c f).refc = s.refc := rfl
@[simp] theorem State.modCtx_dpIns (c : Nat) (f : Ctx → Ctx) : (s.modCtx c f).dpIns = s.dpIns := rfl
@[simp] theorem State.modCtx_otp (c : Nat) (f : Ctx → Ctx) : (s.modCtx c f).otp = s.otp := rfl
@[simp] theorem State.modCtx_flash (c : Nat) (f : Ctx → Ctx) : (s.modCtx c f).flash = s.flash := rfl
@[simp] theorem State.modCtx_flows (c : Nat) (f : Ctx → Ctx) : (s.modCtx c f).flows = s.flows := rfl
@[simp] theorem State.modCtx_macs (c : Nat) (f : Ctx → Ctx) : (s.modCtx c f).macs = s.macs := rfl
@[simp] theorem State.modCtx_sessWait (c : Nat) (f : Ctx → Ctx) : (s.modCtx c f).sessWait = s.sessWait := rfl
@[simp] theorem State.modCtx_queues (c : Nat) (f : Ctx → Ctx) : (s.modCtx c f).queues = s.queues := rfl
@[simp] theorem State.modCtx_served (c : Nat) (f : Ctx → Ctx) : (s.modCtx c f).served = s.served := rfl
@[simp] theorem State.modCtx_policers (c : Nat) (f : Ctx → Ctx) : (s.modCtx c f).policers = s.policers := rfl
@[simp] theorem State.modCtx_pool (c : Nat) (f : Ctx → Ctx) : (s.modCtx c f).pool = s.pool := rfl
@[simp] theorem State.modCtx_cuex (c : Nat) (f : Ctx → Ctx) : (s.modCtx c f).cuex = s.cuex := rfl
@[simp] theorem State.modCtx_fifos (c : Nat) (f : Ctx → Ctx) : (s.modCtx c f).fifos = s.fifos := rfl
@[simp] theorem State.modCtx_cvu (c : Nat) (f : Ctx → Ctx) : (s.modCtx c f).cvu = s.cvu := rfl
@[simp] theorem State.modCtx_host (c : Nat) (f : Ctx → Ctx) : (s.modCtx c f).host = s.host := rfl
@[simp] theorem State.modCtx_dma (c : Nat) (f : Ctx → Ctx) : (s.modCtx c f).dma = s.dma := rfl
@[simp] theorem State.modCtx_pcie (c : Nat) (f : Ctx → Ctx) : (s.modCtx c f).pcie = s.pcie := rfl
@[simp] theorem State.modCtx_tap (c : Nat) (f : Ctx → Ctx) : (s.modCtx c f).tap = s.tap := rfl
@[simp] theorem State.modCtx_pair (c : Nat) (f : Ctx → Ctx) : (s.modCtx c f).pair = s.pair := rfl
@[simp] theorem State.modCtx_ptp (c : Nat) (f : Ctx → Ctx) : (s.modCtx c f).ptp = s.ptp := rfl
@[simp] theorem State.modCtx_out (c : Nat) (f : Ctx → Ctx) : (s.modCtx c f).out = s.out := rfl
@[simp] theorem State.modCtx_freeCtr (c : Nat) (f : Ctx → Ctx) : (s.modCtx c f).freeCtr = s.freeCtr := rfl
@[simp] theorem State.modCtx_reg (c : Nat) (f : Ctx → Ctx) (j : Nat) : (s.modCtx c f).reg j = s.reg j := rfl

@[simp] theorem State.setBay_pending (b : Nat) (x : Bay) : (s.setBay b x).pending = s.pending := rfl
@[simp] theorem State.setBay_regs (b : Nat) (x : Bay) : (s.setBay b x).regs = s.regs := rfl
@[simp] theorem State.setBay_latches (b : Nat) (x : Bay) : (s.setBay b x).latches = s.latches := rfl
@[simp] theorem State.setBay_mem (b : Nat) (x : Bay) : (s.setBay b x).mem = s.mem := rfl
@[simp] theorem State.setBay_scrap (b : Nat) (x : Bay) : (s.setBay b x).scrap = s.scrap := rfl
@[simp] theorem State.setBay_hostMem (b : Nat) (x : Bay) : (s.setBay b x).hostMem = s.hostMem := rfl
@[simp] theorem State.setBay_rc (b : Nat) (x : Bay) : (s.setBay b x).rc = s.rc := rfl
@[simp] theorem State.setBay_fc (b : Nat) (x : Bay) : (s.setBay b x).fc = s.fc := rfl
@[simp] theorem State.setBay_trust (b : Nat) (x : Bay) : (s.setBay b x).trust = s.trust := rfl
@[simp] theorem State.setBay_tb (b : Nat) (x : Bay) : (s.setBay b x).tb = s.tb := rfl
@[simp] theorem State.setBay_ctxs (b : Nat) (x : Bay) : (s.setBay b x).ctxs = s.ctxs := rfl
@[simp] theorem State.setBay_px (b : Nat) (x : Bay) : (s.setBay b x).px = s.px := rfl
@[simp] theorem State.setBay_ce (b : Nat) (x : Bay) : (s.setBay b x).ce = s.ce := rfl
@[simp] theorem State.setBay_stores (b : Nat) (x : Bay) : (s.setBay b x).stores = s.stores := rfl
@[simp] theorem State.setBay_sram (b : Nat) (x : Bay) : (s.setBay b x).sram = s.sram := rfl
@[simp] theorem State.setBay_bins (b : Nat) (x : Bay) : (s.setBay b x).bins = s.bins := rfl
@[simp] theorem State.setBay_ledger (b : Nat) (x : Bay) : (s.setBay b x).ledger = s.ledger := rfl
@[simp] theorem State.setBay_margin (b : Nat) (x : Bay) : (s.setBay b x).margin = s.margin := rfl
@[simp] theorem State.setBay_sigs (b : Nat) (x : Bay) : (s.setBay b x).sigs = s.sigs := rfl
@[simp] theorem State.setBay_dpOuts (b : Nat) (x : Bay) : (s.setBay b x).dpOuts = s.dpOuts := rfl
@[simp] theorem State.setBay_drams (b : Nat) (x : Bay) : (s.setBay b x).drams = s.drams := rfl
@[simp] theorem State.setBay_refc (b : Nat) (x : Bay) : (s.setBay b x).refc = s.refc := rfl
@[simp] theorem State.setBay_dpIns (b : Nat) (x : Bay) : (s.setBay b x).dpIns = s.dpIns := rfl
@[simp] theorem State.setBay_otp (b : Nat) (x : Bay) : (s.setBay b x).otp = s.otp := rfl
@[simp] theorem State.setBay_flash (b : Nat) (x : Bay) : (s.setBay b x).flash = s.flash := rfl
@[simp] theorem State.setBay_flows (b : Nat) (x : Bay) : (s.setBay b x).flows = s.flows := rfl
@[simp] theorem State.setBay_macs (b : Nat) (x : Bay) : (s.setBay b x).macs = s.macs := rfl
@[simp] theorem State.setBay_sessWait (b : Nat) (x : Bay) : (s.setBay b x).sessWait = s.sessWait := rfl
@[simp] theorem State.setBay_queues (b : Nat) (x : Bay) : (s.setBay b x).queues = s.queues := rfl
@[simp] theorem State.setBay_served (b : Nat) (x : Bay) : (s.setBay b x).served = s.served := rfl
@[simp] theorem State.setBay_policers (b : Nat) (x : Bay) : (s.setBay b x).policers = s.policers := rfl
@[simp] theorem State.setBay_pool (b : Nat) (x : Bay) : (s.setBay b x).pool = s.pool := rfl
@[simp] theorem State.setBay_cuex (b : Nat) (x : Bay) : (s.setBay b x).cuex = s.cuex := rfl
@[simp] theorem State.setBay_fifos (b : Nat) (x : Bay) : (s.setBay b x).fifos = s.fifos := rfl
@[simp] theorem State.setBay_cvu (b : Nat) (x : Bay) : (s.setBay b x).cvu = s.cvu := rfl
@[simp] theorem State.setBay_host (b : Nat) (x : Bay) : (s.setBay b x).host = s.host := rfl
@[simp] theorem State.setBay_dma (b : Nat) (x : Bay) : (s.setBay b x).dma = s.dma := rfl
@[simp] theorem State.setBay_pcie (b : Nat) (x : Bay) : (s.setBay b x).pcie = s.pcie := rfl
@[simp] theorem State.setBay_tap (b : Nat) (x : Bay) : (s.setBay b x).tap = s.tap := rfl
@[simp] theorem State.setBay_pair (b : Nat) (x : Bay) : (s.setBay b x).pair = s.pair := rfl
@[simp] theorem State.setBay_ptp (b : Nat) (x : Bay) : (s.setBay b x).ptp = s.ptp := rfl
@[simp] theorem State.setBay_out (b : Nat) (x : Bay) : (s.setBay b x).out = s.out := rfl
@[simp] theorem State.setBay_freeCtr (b : Nat) (x : Bay) : (s.setBay b x).freeCtr = s.freeCtr := rfl
@[simp] theorem State.setBay_reg (b : Nat) (x : Bay) (j : Nat) : (s.setBay b x).reg j = s.reg j := rfl
@[simp] theorem State.setBay_ctx (b : Nat) (x : Bay) (j : Nat) : (s.setBay b x).ctx j = s.ctx j := rfl

@[simp] theorem State.modBay_pending (b : Nat) (f : Bay → Bay) : (s.modBay b f).pending = s.pending := rfl
@[simp] theorem State.modBay_regs (b : Nat) (f : Bay → Bay) : (s.modBay b f).regs = s.regs := rfl
@[simp] theorem State.modBay_latches (b : Nat) (f : Bay → Bay) : (s.modBay b f).latches = s.latches := rfl
@[simp] theorem State.modBay_mem (b : Nat) (f : Bay → Bay) : (s.modBay b f).mem = s.mem := rfl
@[simp] theorem State.modBay_scrap (b : Nat) (f : Bay → Bay) : (s.modBay b f).scrap = s.scrap := rfl
@[simp] theorem State.modBay_hostMem (b : Nat) (f : Bay → Bay) : (s.modBay b f).hostMem = s.hostMem := rfl
@[simp] theorem State.modBay_rc (b : Nat) (f : Bay → Bay) : (s.modBay b f).rc = s.rc := rfl
@[simp] theorem State.modBay_fc (b : Nat) (f : Bay → Bay) : (s.modBay b f).fc = s.fc := rfl
@[simp] theorem State.modBay_trust (b : Nat) (f : Bay → Bay) : (s.modBay b f).trust = s.trust := rfl
@[simp] theorem State.modBay_tb (b : Nat) (f : Bay → Bay) : (s.modBay b f).tb = s.tb := rfl
@[simp] theorem State.modBay_ctxs (b : Nat) (f : Bay → Bay) : (s.modBay b f).ctxs = s.ctxs := rfl
@[simp] theorem State.modBay_px (b : Nat) (f : Bay → Bay) : (s.modBay b f).px = s.px := rfl
@[simp] theorem State.modBay_ce (b : Nat) (f : Bay → Bay) : (s.modBay b f).ce = s.ce := rfl
@[simp] theorem State.modBay_stores (b : Nat) (f : Bay → Bay) : (s.modBay b f).stores = s.stores := rfl
@[simp] theorem State.modBay_sram (b : Nat) (f : Bay → Bay) : (s.modBay b f).sram = s.sram := rfl
@[simp] theorem State.modBay_bins (b : Nat) (f : Bay → Bay) : (s.modBay b f).bins = s.bins := rfl
@[simp] theorem State.modBay_ledger (b : Nat) (f : Bay → Bay) : (s.modBay b f).ledger = s.ledger := rfl
@[simp] theorem State.modBay_margin (b : Nat) (f : Bay → Bay) : (s.modBay b f).margin = s.margin := rfl
@[simp] theorem State.modBay_sigs (b : Nat) (f : Bay → Bay) : (s.modBay b f).sigs = s.sigs := rfl
@[simp] theorem State.modBay_dpOuts (b : Nat) (f : Bay → Bay) : (s.modBay b f).dpOuts = s.dpOuts := rfl
@[simp] theorem State.modBay_drams (b : Nat) (f : Bay → Bay) : (s.modBay b f).drams = s.drams := rfl
@[simp] theorem State.modBay_refc (b : Nat) (f : Bay → Bay) : (s.modBay b f).refc = s.refc := rfl
@[simp] theorem State.modBay_dpIns (b : Nat) (f : Bay → Bay) : (s.modBay b f).dpIns = s.dpIns := rfl
@[simp] theorem State.modBay_otp (b : Nat) (f : Bay → Bay) : (s.modBay b f).otp = s.otp := rfl
@[simp] theorem State.modBay_flash (b : Nat) (f : Bay → Bay) : (s.modBay b f).flash = s.flash := rfl
@[simp] theorem State.modBay_flows (b : Nat) (f : Bay → Bay) : (s.modBay b f).flows = s.flows := rfl
@[simp] theorem State.modBay_macs (b : Nat) (f : Bay → Bay) : (s.modBay b f).macs = s.macs := rfl
@[simp] theorem State.modBay_sessWait (b : Nat) (f : Bay → Bay) : (s.modBay b f).sessWait = s.sessWait := rfl
@[simp] theorem State.modBay_queues (b : Nat) (f : Bay → Bay) : (s.modBay b f).queues = s.queues := rfl
@[simp] theorem State.modBay_served (b : Nat) (f : Bay → Bay) : (s.modBay b f).served = s.served := rfl
@[simp] theorem State.modBay_policers (b : Nat) (f : Bay → Bay) : (s.modBay b f).policers = s.policers := rfl
@[simp] theorem State.modBay_pool (b : Nat) (f : Bay → Bay) : (s.modBay b f).pool = s.pool := rfl
@[simp] theorem State.modBay_cuex (b : Nat) (f : Bay → Bay) : (s.modBay b f).cuex = s.cuex := rfl
@[simp] theorem State.modBay_fifos (b : Nat) (f : Bay → Bay) : (s.modBay b f).fifos = s.fifos := rfl
@[simp] theorem State.modBay_cvu (b : Nat) (f : Bay → Bay) : (s.modBay b f).cvu = s.cvu := rfl
@[simp] theorem State.modBay_host (b : Nat) (f : Bay → Bay) : (s.modBay b f).host = s.host := rfl
@[simp] theorem State.modBay_dma (b : Nat) (f : Bay → Bay) : (s.modBay b f).dma = s.dma := rfl
@[simp] theorem State.modBay_pcie (b : Nat) (f : Bay → Bay) : (s.modBay b f).pcie = s.pcie := rfl
@[simp] theorem State.modBay_tap (b : Nat) (f : Bay → Bay) : (s.modBay b f).tap = s.tap := rfl
@[simp] theorem State.modBay_pair (b : Nat) (f : Bay → Bay) : (s.modBay b f).pair = s.pair := rfl
@[simp] theorem State.modBay_ptp (b : Nat) (f : Bay → Bay) : (s.modBay b f).ptp = s.ptp := rfl
@[simp] theorem State.modBay_out (b : Nat) (f : Bay → Bay) : (s.modBay b f).out = s.out := rfl
@[simp] theorem State.modBay_freeCtr (b : Nat) (f : Bay → Bay) : (s.modBay b f).freeCtr = s.freeCtr := rfl
@[simp] theorem State.modBay_reg (b : Nat) (f : Bay → Bay) (j : Nat) : (s.modBay b f).reg j = s.reg j := rfl
@[simp] theorem State.modBay_ctx (b : Nat) (f : Bay → Bay) (j : Nat) : (s.modBay b f).ctx j = s.ctx j := rfl

@[simp] theorem State.setDpOut_pending (n : Nat) (x : DpOut) : (s.setDpOut n x).pending = s.pending := rfl
@[simp] theorem State.setDpOut_regs (n : Nat) (x : DpOut) : (s.setDpOut n x).regs = s.regs := rfl
@[simp] theorem State.setDpOut_latches (n : Nat) (x : DpOut) : (s.setDpOut n x).latches = s.latches := rfl
@[simp] theorem State.setDpOut_mem (n : Nat) (x : DpOut) : (s.setDpOut n x).mem = s.mem := rfl
@[simp] theorem State.setDpOut_scrap (n : Nat) (x : DpOut) : (s.setDpOut n x).scrap = s.scrap := rfl
@[simp] theorem State.setDpOut_hostMem (n : Nat) (x : DpOut) : (s.setDpOut n x).hostMem = s.hostMem := rfl
@[simp] theorem State.setDpOut_rc (n : Nat) (x : DpOut) : (s.setDpOut n x).rc = s.rc := rfl
@[simp] theorem State.setDpOut_fc (n : Nat) (x : DpOut) : (s.setDpOut n x).fc = s.fc := rfl
@[simp] theorem State.setDpOut_trust (n : Nat) (x : DpOut) : (s.setDpOut n x).trust = s.trust := rfl
@[simp] theorem State.setDpOut_tb (n : Nat) (x : DpOut) : (s.setDpOut n x).tb = s.tb := rfl
@[simp] theorem State.setDpOut_ctxs (n : Nat) (x : DpOut) : (s.setDpOut n x).ctxs = s.ctxs := rfl
@[simp] theorem State.setDpOut_bays (n : Nat) (x : DpOut) : (s.setDpOut n x).bays = s.bays := rfl
@[simp] theorem State.setDpOut_px (n : Nat) (x : DpOut) : (s.setDpOut n x).px = s.px := rfl
@[simp] theorem State.setDpOut_ce (n : Nat) (x : DpOut) : (s.setDpOut n x).ce = s.ce := rfl
@[simp] theorem State.setDpOut_stores (n : Nat) (x : DpOut) : (s.setDpOut n x).stores = s.stores := rfl
@[simp] theorem State.setDpOut_sram (n : Nat) (x : DpOut) : (s.setDpOut n x).sram = s.sram := rfl
@[simp] theorem State.setDpOut_bins (n : Nat) (x : DpOut) : (s.setDpOut n x).bins = s.bins := rfl
@[simp] theorem State.setDpOut_ledger (n : Nat) (x : DpOut) : (s.setDpOut n x).ledger = s.ledger := rfl
@[simp] theorem State.setDpOut_margin (n : Nat) (x : DpOut) : (s.setDpOut n x).margin = s.margin := rfl
@[simp] theorem State.setDpOut_sigs (n : Nat) (x : DpOut) : (s.setDpOut n x).sigs = s.sigs := rfl
@[simp] theorem State.setDpOut_drams (n : Nat) (x : DpOut) : (s.setDpOut n x).drams = s.drams := rfl
@[simp] theorem State.setDpOut_refc (n : Nat) (x : DpOut) : (s.setDpOut n x).refc = s.refc := rfl
@[simp] theorem State.setDpOut_dpIns (n : Nat) (x : DpOut) : (s.setDpOut n x).dpIns = s.dpIns := rfl
@[simp] theorem State.setDpOut_otp (n : Nat) (x : DpOut) : (s.setDpOut n x).otp = s.otp := rfl
@[simp] theorem State.setDpOut_flash (n : Nat) (x : DpOut) : (s.setDpOut n x).flash = s.flash := rfl
@[simp] theorem State.setDpOut_flows (n : Nat) (x : DpOut) : (s.setDpOut n x).flows = s.flows := rfl
@[simp] theorem State.setDpOut_macs (n : Nat) (x : DpOut) : (s.setDpOut n x).macs = s.macs := rfl
@[simp] theorem State.setDpOut_sessWait (n : Nat) (x : DpOut) : (s.setDpOut n x).sessWait = s.sessWait := rfl
@[simp] theorem State.setDpOut_queues (n : Nat) (x : DpOut) : (s.setDpOut n x).queues = s.queues := rfl
@[simp] theorem State.setDpOut_served (n : Nat) (x : DpOut) : (s.setDpOut n x).served = s.served := rfl
@[simp] theorem State.setDpOut_policers (n : Nat) (x : DpOut) : (s.setDpOut n x).policers = s.policers := rfl
@[simp] theorem State.setDpOut_pool (n : Nat) (x : DpOut) : (s.setDpOut n x).pool = s.pool := rfl
@[simp] theorem State.setDpOut_cuex (n : Nat) (x : DpOut) : (s.setDpOut n x).cuex = s.cuex := rfl
@[simp] theorem State.setDpOut_fifos (n : Nat) (x : DpOut) : (s.setDpOut n x).fifos = s.fifos := rfl
@[simp] theorem State.setDpOut_cvu (n : Nat) (x : DpOut) : (s.setDpOut n x).cvu = s.cvu := rfl
@[simp] theorem State.setDpOut_host (n : Nat) (x : DpOut) : (s.setDpOut n x).host = s.host := rfl
@[simp] theorem State.setDpOut_dma (n : Nat) (x : DpOut) : (s.setDpOut n x).dma = s.dma := rfl
@[simp] theorem State.setDpOut_pcie (n : Nat) (x : DpOut) : (s.setDpOut n x).pcie = s.pcie := rfl
@[simp] theorem State.setDpOut_tap (n : Nat) (x : DpOut) : (s.setDpOut n x).tap = s.tap := rfl
@[simp] theorem State.setDpOut_pair (n : Nat) (x : DpOut) : (s.setDpOut n x).pair = s.pair := rfl
@[simp] theorem State.setDpOut_ptp (n : Nat) (x : DpOut) : (s.setDpOut n x).ptp = s.ptp := rfl
@[simp] theorem State.setDpOut_out (n : Nat) (x : DpOut) : (s.setDpOut n x).out = s.out := rfl
@[simp] theorem State.setDpOut_freeCtr (n : Nat) (x : DpOut) : (s.setDpOut n x).freeCtr = s.freeCtr := rfl
@[simp] theorem State.setDpOut_reg (n : Nat) (x : DpOut) (j : Nat) : (s.setDpOut n x).reg j = s.reg j := rfl
@[simp] theorem State.setDpOut_ctx (n : Nat) (x : DpOut) (j : Nat) : (s.setDpOut n x).ctx j = s.ctx j := rfl

@[simp] theorem State.modDpOut_pending (n : Nat) (f : DpOut → DpOut) : (s.modDpOut n f).pending = s.pending := rfl
@[simp] theorem State.modDpOut_regs (n : Nat) (f : DpOut → DpOut) : (s.modDpOut n f).regs = s.regs := rfl
@[simp] theorem State.modDpOut_latches (n : Nat) (f : DpOut → DpOut) : (s.modDpOut n f).latches = s.latches := rfl
@[simp] theorem State.modDpOut_mem (n : Nat) (f : DpOut → DpOut) : (s.modDpOut n f).mem = s.mem := rfl
@[simp] theorem State.modDpOut_scrap (n : Nat) (f : DpOut → DpOut) : (s.modDpOut n f).scrap = s.scrap := rfl
@[simp] theorem State.modDpOut_hostMem (n : Nat) (f : DpOut → DpOut) : (s.modDpOut n f).hostMem = s.hostMem := rfl
@[simp] theorem State.modDpOut_rc (n : Nat) (f : DpOut → DpOut) : (s.modDpOut n f).rc = s.rc := rfl
@[simp] theorem State.modDpOut_fc (n : Nat) (f : DpOut → DpOut) : (s.modDpOut n f).fc = s.fc := rfl
@[simp] theorem State.modDpOut_trust (n : Nat) (f : DpOut → DpOut) : (s.modDpOut n f).trust = s.trust := rfl
@[simp] theorem State.modDpOut_tb (n : Nat) (f : DpOut → DpOut) : (s.modDpOut n f).tb = s.tb := rfl
@[simp] theorem State.modDpOut_ctxs (n : Nat) (f : DpOut → DpOut) : (s.modDpOut n f).ctxs = s.ctxs := rfl
@[simp] theorem State.modDpOut_bays (n : Nat) (f : DpOut → DpOut) : (s.modDpOut n f).bays = s.bays := rfl
@[simp] theorem State.modDpOut_px (n : Nat) (f : DpOut → DpOut) : (s.modDpOut n f).px = s.px := rfl
@[simp] theorem State.modDpOut_ce (n : Nat) (f : DpOut → DpOut) : (s.modDpOut n f).ce = s.ce := rfl
@[simp] theorem State.modDpOut_stores (n : Nat) (f : DpOut → DpOut) : (s.modDpOut n f).stores = s.stores := rfl
@[simp] theorem State.modDpOut_sram (n : Nat) (f : DpOut → DpOut) : (s.modDpOut n f).sram = s.sram := rfl
@[simp] theorem State.modDpOut_bins (n : Nat) (f : DpOut → DpOut) : (s.modDpOut n f).bins = s.bins := rfl
@[simp] theorem State.modDpOut_ledger (n : Nat) (f : DpOut → DpOut) : (s.modDpOut n f).ledger = s.ledger := rfl
@[simp] theorem State.modDpOut_margin (n : Nat) (f : DpOut → DpOut) : (s.modDpOut n f).margin = s.margin := rfl
@[simp] theorem State.modDpOut_sigs (n : Nat) (f : DpOut → DpOut) : (s.modDpOut n f).sigs = s.sigs := rfl
@[simp] theorem State.modDpOut_drams (n : Nat) (f : DpOut → DpOut) : (s.modDpOut n f).drams = s.drams := rfl
@[simp] theorem State.modDpOut_refc (n : Nat) (f : DpOut → DpOut) : (s.modDpOut n f).refc = s.refc := rfl
@[simp] theorem State.modDpOut_dpIns (n : Nat) (f : DpOut → DpOut) : (s.modDpOut n f).dpIns = s.dpIns := rfl
@[simp] theorem State.modDpOut_otp (n : Nat) (f : DpOut → DpOut) : (s.modDpOut n f).otp = s.otp := rfl
@[simp] theorem State.modDpOut_flash (n : Nat) (f : DpOut → DpOut) : (s.modDpOut n f).flash = s.flash := rfl
@[simp] theorem State.modDpOut_flows (n : Nat) (f : DpOut → DpOut) : (s.modDpOut n f).flows = s.flows := rfl
@[simp] theorem State.modDpOut_macs (n : Nat) (f : DpOut → DpOut) : (s.modDpOut n f).macs = s.macs := rfl
@[simp] theorem State.modDpOut_sessWait (n : Nat) (f : DpOut → DpOut) : (s.modDpOut n f).sessWait = s.sessWait := rfl
@[simp] theorem State.modDpOut_queues (n : Nat) (f : DpOut → DpOut) : (s.modDpOut n f).queues = s.queues := rfl
@[simp] theorem State.modDpOut_served (n : Nat) (f : DpOut → DpOut) : (s.modDpOut n f).served = s.served := rfl
@[simp] theorem State.modDpOut_policers (n : Nat) (f : DpOut → DpOut) : (s.modDpOut n f).policers = s.policers := rfl
@[simp] theorem State.modDpOut_pool (n : Nat) (f : DpOut → DpOut) : (s.modDpOut n f).pool = s.pool := rfl
@[simp] theorem State.modDpOut_cuex (n : Nat) (f : DpOut → DpOut) : (s.modDpOut n f).cuex = s.cuex := rfl
@[simp] theorem State.modDpOut_fifos (n : Nat) (f : DpOut → DpOut) : (s.modDpOut n f).fifos = s.fifos := rfl
@[simp] theorem State.modDpOut_cvu (n : Nat) (f : DpOut → DpOut) : (s.modDpOut n f).cvu = s.cvu := rfl
@[simp] theorem State.modDpOut_host (n : Nat) (f : DpOut → DpOut) : (s.modDpOut n f).host = s.host := rfl
@[simp] theorem State.modDpOut_dma (n : Nat) (f : DpOut → DpOut) : (s.modDpOut n f).dma = s.dma := rfl
@[simp] theorem State.modDpOut_pcie (n : Nat) (f : DpOut → DpOut) : (s.modDpOut n f).pcie = s.pcie := rfl
@[simp] theorem State.modDpOut_tap (n : Nat) (f : DpOut → DpOut) : (s.modDpOut n f).tap = s.tap := rfl
@[simp] theorem State.modDpOut_pair (n : Nat) (f : DpOut → DpOut) : (s.modDpOut n f).pair = s.pair := rfl
@[simp] theorem State.modDpOut_ptp (n : Nat) (f : DpOut → DpOut) : (s.modDpOut n f).ptp = s.ptp := rfl
@[simp] theorem State.modDpOut_out (n : Nat) (f : DpOut → DpOut) : (s.modDpOut n f).out = s.out := rfl
@[simp] theorem State.modDpOut_freeCtr (n : Nat) (f : DpOut → DpOut) : (s.modDpOut n f).freeCtr = s.freeCtr := rfl
@[simp] theorem State.modDpOut_reg (n : Nat) (f : DpOut → DpOut) (j : Nat) : (s.modDpOut n f).reg j = s.reg j := rfl
@[simp] theorem State.modDpOut_ctx (n : Nat) (f : DpOut → DpOut) (j : Nat) : (s.modDpOut n f).ctx j = s.ctx j := rfl

@[simp] theorem State.setFlow_pending (f : Nat) (x : Flow) : (s.setFlow f x).pending = s.pending := rfl
@[simp] theorem State.setFlow_regs (f : Nat) (x : Flow) : (s.setFlow f x).regs = s.regs := rfl
@[simp] theorem State.setFlow_latches (f : Nat) (x : Flow) : (s.setFlow f x).latches = s.latches := rfl
@[simp] theorem State.setFlow_mem (f : Nat) (x : Flow) : (s.setFlow f x).mem = s.mem := rfl
@[simp] theorem State.setFlow_scrap (f : Nat) (x : Flow) : (s.setFlow f x).scrap = s.scrap := rfl
@[simp] theorem State.setFlow_hostMem (f : Nat) (x : Flow) : (s.setFlow f x).hostMem = s.hostMem := rfl
@[simp] theorem State.setFlow_rc (f : Nat) (x : Flow) : (s.setFlow f x).rc = s.rc := rfl
@[simp] theorem State.setFlow_fc (f : Nat) (x : Flow) : (s.setFlow f x).fc = s.fc := rfl
@[simp] theorem State.setFlow_trust (f : Nat) (x : Flow) : (s.setFlow f x).trust = s.trust := rfl
@[simp] theorem State.setFlow_tb (f : Nat) (x : Flow) : (s.setFlow f x).tb = s.tb := rfl
@[simp] theorem State.setFlow_ctxs (f : Nat) (x : Flow) : (s.setFlow f x).ctxs = s.ctxs := rfl
@[simp] theorem State.setFlow_bays (f : Nat) (x : Flow) : (s.setFlow f x).bays = s.bays := rfl
@[simp] theorem State.setFlow_px (f : Nat) (x : Flow) : (s.setFlow f x).px = s.px := rfl
@[simp] theorem State.setFlow_ce (f : Nat) (x : Flow) : (s.setFlow f x).ce = s.ce := rfl
@[simp] theorem State.setFlow_stores (f : Nat) (x : Flow) : (s.setFlow f x).stores = s.stores := rfl
@[simp] theorem State.setFlow_sram (f : Nat) (x : Flow) : (s.setFlow f x).sram = s.sram := rfl
@[simp] theorem State.setFlow_bins (f : Nat) (x : Flow) : (s.setFlow f x).bins = s.bins := rfl
@[simp] theorem State.setFlow_ledger (f : Nat) (x : Flow) : (s.setFlow f x).ledger = s.ledger := rfl
@[simp] theorem State.setFlow_margin (f : Nat) (x : Flow) : (s.setFlow f x).margin = s.margin := rfl
@[simp] theorem State.setFlow_sigs (f : Nat) (x : Flow) : (s.setFlow f x).sigs = s.sigs := rfl
@[simp] theorem State.setFlow_dpOuts (f : Nat) (x : Flow) : (s.setFlow f x).dpOuts = s.dpOuts := rfl
@[simp] theorem State.setFlow_drams (f : Nat) (x : Flow) : (s.setFlow f x).drams = s.drams := rfl
@[simp] theorem State.setFlow_refc (f : Nat) (x : Flow) : (s.setFlow f x).refc = s.refc := rfl
@[simp] theorem State.setFlow_dpIns (f : Nat) (x : Flow) : (s.setFlow f x).dpIns = s.dpIns := rfl
@[simp] theorem State.setFlow_otp (f : Nat) (x : Flow) : (s.setFlow f x).otp = s.otp := rfl
@[simp] theorem State.setFlow_flash (f : Nat) (x : Flow) : (s.setFlow f x).flash = s.flash := rfl
@[simp] theorem State.setFlow_macs (f : Nat) (x : Flow) : (s.setFlow f x).macs = s.macs := rfl
@[simp] theorem State.setFlow_sessWait (f : Nat) (x : Flow) : (s.setFlow f x).sessWait = s.sessWait := rfl
@[simp] theorem State.setFlow_queues (f : Nat) (x : Flow) : (s.setFlow f x).queues = s.queues := rfl
@[simp] theorem State.setFlow_served (f : Nat) (x : Flow) : (s.setFlow f x).served = s.served := rfl
@[simp] theorem State.setFlow_policers (f : Nat) (x : Flow) : (s.setFlow f x).policers = s.policers := rfl
@[simp] theorem State.setFlow_pool (f : Nat) (x : Flow) : (s.setFlow f x).pool = s.pool := rfl
@[simp] theorem State.setFlow_cuex (f : Nat) (x : Flow) : (s.setFlow f x).cuex = s.cuex := rfl
@[simp] theorem State.setFlow_fifos (f : Nat) (x : Flow) : (s.setFlow f x).fifos = s.fifos := rfl
@[simp] theorem State.setFlow_cvu (f : Nat) (x : Flow) : (s.setFlow f x).cvu = s.cvu := rfl
@[simp] theorem State.setFlow_host (f : Nat) (x : Flow) : (s.setFlow f x).host = s.host := rfl
@[simp] theorem State.setFlow_dma (f : Nat) (x : Flow) : (s.setFlow f x).dma = s.dma := rfl
@[simp] theorem State.setFlow_pcie (f : Nat) (x : Flow) : (s.setFlow f x).pcie = s.pcie := rfl
@[simp] theorem State.setFlow_tap (f : Nat) (x : Flow) : (s.setFlow f x).tap = s.tap := rfl
@[simp] theorem State.setFlow_pair (f : Nat) (x : Flow) : (s.setFlow f x).pair = s.pair := rfl
@[simp] theorem State.setFlow_ptp (f : Nat) (x : Flow) : (s.setFlow f x).ptp = s.ptp := rfl
@[simp] theorem State.setFlow_out (f : Nat) (x : Flow) : (s.setFlow f x).out = s.out := rfl
@[simp] theorem State.setFlow_freeCtr (f : Nat) (x : Flow) : (s.setFlow f x).freeCtr = s.freeCtr := rfl
@[simp] theorem State.setFlow_reg (f : Nat) (x : Flow) (j : Nat) : (s.setFlow f x).reg j = s.reg j := rfl
@[simp] theorem State.setFlow_ctx (f : Nat) (x : Flow) (j : Nat) : (s.setFlow f x).ctx j = s.ctx j := rfl

@[simp] theorem State.setDram_pending (n : Nat) (x : DramCh) : (s.setDram n x).pending = s.pending := rfl
@[simp] theorem State.setDram_regs (n : Nat) (x : DramCh) : (s.setDram n x).regs = s.regs := rfl
@[simp] theorem State.setDram_latches (n : Nat) (x : DramCh) : (s.setDram n x).latches = s.latches := rfl
@[simp] theorem State.setDram_mem (n : Nat) (x : DramCh) : (s.setDram n x).mem = s.mem := rfl
@[simp] theorem State.setDram_scrap (n : Nat) (x : DramCh) : (s.setDram n x).scrap = s.scrap := rfl
@[simp] theorem State.setDram_hostMem (n : Nat) (x : DramCh) : (s.setDram n x).hostMem = s.hostMem := rfl
@[simp] theorem State.setDram_rc (n : Nat) (x : DramCh) : (s.setDram n x).rc = s.rc := rfl
@[simp] theorem State.setDram_fc (n : Nat) (x : DramCh) : (s.setDram n x).fc = s.fc := rfl
@[simp] theorem State.setDram_trust (n : Nat) (x : DramCh) : (s.setDram n x).trust = s.trust := rfl
@[simp] theorem State.setDram_tb (n : Nat) (x : DramCh) : (s.setDram n x).tb = s.tb := rfl
@[simp] theorem State.setDram_ctxs (n : Nat) (x : DramCh) : (s.setDram n x).ctxs = s.ctxs := rfl
@[simp] theorem State.setDram_bays (n : Nat) (x : DramCh) : (s.setDram n x).bays = s.bays := rfl
@[simp] theorem State.setDram_px (n : Nat) (x : DramCh) : (s.setDram n x).px = s.px := rfl
@[simp] theorem State.setDram_ce (n : Nat) (x : DramCh) : (s.setDram n x).ce = s.ce := rfl
@[simp] theorem State.setDram_stores (n : Nat) (x : DramCh) : (s.setDram n x).stores = s.stores := rfl
@[simp] theorem State.setDram_sram (n : Nat) (x : DramCh) : (s.setDram n x).sram = s.sram := rfl
@[simp] theorem State.setDram_bins (n : Nat) (x : DramCh) : (s.setDram n x).bins = s.bins := rfl
@[simp] theorem State.setDram_ledger (n : Nat) (x : DramCh) : (s.setDram n x).ledger = s.ledger := rfl
@[simp] theorem State.setDram_margin (n : Nat) (x : DramCh) : (s.setDram n x).margin = s.margin := rfl
@[simp] theorem State.setDram_sigs (n : Nat) (x : DramCh) : (s.setDram n x).sigs = s.sigs := rfl
@[simp] theorem State.setDram_dpOuts (n : Nat) (x : DramCh) : (s.setDram n x).dpOuts = s.dpOuts := rfl
@[simp] theorem State.setDram_refc (n : Nat) (x : DramCh) : (s.setDram n x).refc = s.refc := rfl
@[simp] theorem State.setDram_dpIns (n : Nat) (x : DramCh) : (s.setDram n x).dpIns = s.dpIns := rfl
@[simp] theorem State.setDram_otp (n : Nat) (x : DramCh) : (s.setDram n x).otp = s.otp := rfl
@[simp] theorem State.setDram_flash (n : Nat) (x : DramCh) : (s.setDram n x).flash = s.flash := rfl
@[simp] theorem State.setDram_flows (n : Nat) (x : DramCh) : (s.setDram n x).flows = s.flows := rfl
@[simp] theorem State.setDram_macs (n : Nat) (x : DramCh) : (s.setDram n x).macs = s.macs := rfl
@[simp] theorem State.setDram_sessWait (n : Nat) (x : DramCh) : (s.setDram n x).sessWait = s.sessWait := rfl
@[simp] theorem State.setDram_queues (n : Nat) (x : DramCh) : (s.setDram n x).queues = s.queues := rfl
@[simp] theorem State.setDram_served (n : Nat) (x : DramCh) : (s.setDram n x).served = s.served := rfl
@[simp] theorem State.setDram_policers (n : Nat) (x : DramCh) : (s.setDram n x).policers = s.policers := rfl
@[simp] theorem State.setDram_pool (n : Nat) (x : DramCh) : (s.setDram n x).pool = s.pool := rfl
@[simp] theorem State.setDram_cuex (n : Nat) (x : DramCh) : (s.setDram n x).cuex = s.cuex := rfl
@[simp] theorem State.setDram_fifos (n : Nat) (x : DramCh) : (s.setDram n x).fifos = s.fifos := rfl
@[simp] theorem State.setDram_cvu (n : Nat) (x : DramCh) : (s.setDram n x).cvu = s.cvu := rfl
@[simp] theorem State.setDram_host (n : Nat) (x : DramCh) : (s.setDram n x).host = s.host := rfl
@[simp] theorem State.setDram_dma (n : Nat) (x : DramCh) : (s.setDram n x).dma = s.dma := rfl
@[simp] theorem State.setDram_pcie (n : Nat) (x : DramCh) : (s.setDram n x).pcie = s.pcie := rfl
@[simp] theorem State.setDram_tap (n : Nat) (x : DramCh) : (s.setDram n x).tap = s.tap := rfl
@[simp] theorem State.setDram_pair (n : Nat) (x : DramCh) : (s.setDram n x).pair = s.pair := rfl
@[simp] theorem State.setDram_ptp (n : Nat) (x : DramCh) : (s.setDram n x).ptp = s.ptp := rfl
@[simp] theorem State.setDram_out (n : Nat) (x : DramCh) : (s.setDram n x).out = s.out := rfl
@[simp] theorem State.setDram_freeCtr (n : Nat) (x : DramCh) : (s.setDram n x).freeCtr = s.freeCtr := rfl
@[simp] theorem State.setDram_reg (n : Nat) (x : DramCh) (j : Nat) : (s.setDram n x).reg j = s.reg j := rfl
@[simp] theorem State.setDram_ctx (n : Nat) (x : DramCh) (j : Nat) : (s.setDram n x).ctx j = s.ctx j := rfl

@[simp] theorem State.modDram_pending (n : Nat) (f : DramCh → DramCh) : (s.modDram n f).pending = s.pending := rfl
@[simp] theorem State.modDram_regs (n : Nat) (f : DramCh → DramCh) : (s.modDram n f).regs = s.regs := rfl
@[simp] theorem State.modDram_latches (n : Nat) (f : DramCh → DramCh) : (s.modDram n f).latches = s.latches := rfl
@[simp] theorem State.modDram_mem (n : Nat) (f : DramCh → DramCh) : (s.modDram n f).mem = s.mem := rfl
@[simp] theorem State.modDram_scrap (n : Nat) (f : DramCh → DramCh) : (s.modDram n f).scrap = s.scrap := rfl
@[simp] theorem State.modDram_hostMem (n : Nat) (f : DramCh → DramCh) : (s.modDram n f).hostMem = s.hostMem := rfl
@[simp] theorem State.modDram_rc (n : Nat) (f : DramCh → DramCh) : (s.modDram n f).rc = s.rc := rfl
@[simp] theorem State.modDram_fc (n : Nat) (f : DramCh → DramCh) : (s.modDram n f).fc = s.fc := rfl
@[simp] theorem State.modDram_trust (n : Nat) (f : DramCh → DramCh) : (s.modDram n f).trust = s.trust := rfl
@[simp] theorem State.modDram_tb (n : Nat) (f : DramCh → DramCh) : (s.modDram n f).tb = s.tb := rfl
@[simp] theorem State.modDram_ctxs (n : Nat) (f : DramCh → DramCh) : (s.modDram n f).ctxs = s.ctxs := rfl
@[simp] theorem State.modDram_bays (n : Nat) (f : DramCh → DramCh) : (s.modDram n f).bays = s.bays := rfl
@[simp] theorem State.modDram_px (n : Nat) (f : DramCh → DramCh) : (s.modDram n f).px = s.px := rfl
@[simp] theorem State.modDram_ce (n : Nat) (f : DramCh → DramCh) : (s.modDram n f).ce = s.ce := rfl
@[simp] theorem State.modDram_stores (n : Nat) (f : DramCh → DramCh) : (s.modDram n f).stores = s.stores := rfl
@[simp] theorem State.modDram_sram (n : Nat) (f : DramCh → DramCh) : (s.modDram n f).sram = s.sram := rfl
@[simp] theorem State.modDram_bins (n : Nat) (f : DramCh → DramCh) : (s.modDram n f).bins = s.bins := rfl
@[simp] theorem State.modDram_ledger (n : Nat) (f : DramCh → DramCh) : (s.modDram n f).ledger = s.ledger := rfl
@[simp] theorem State.modDram_margin (n : Nat) (f : DramCh → DramCh) : (s.modDram n f).margin = s.margin := rfl
@[simp] theorem State.modDram_sigs (n : Nat) (f : DramCh → DramCh) : (s.modDram n f).sigs = s.sigs := rfl
@[simp] theorem State.modDram_dpOuts (n : Nat) (f : DramCh → DramCh) : (s.modDram n f).dpOuts = s.dpOuts := rfl
@[simp] theorem State.modDram_refc (n : Nat) (f : DramCh → DramCh) : (s.modDram n f).refc = s.refc := rfl
@[simp] theorem State.modDram_dpIns (n : Nat) (f : DramCh → DramCh) : (s.modDram n f).dpIns = s.dpIns := rfl
@[simp] theorem State.modDram_otp (n : Nat) (f : DramCh → DramCh) : (s.modDram n f).otp = s.otp := rfl
@[simp] theorem State.modDram_flash (n : Nat) (f : DramCh → DramCh) : (s.modDram n f).flash = s.flash := rfl
@[simp] theorem State.modDram_flows (n : Nat) (f : DramCh → DramCh) : (s.modDram n f).flows = s.flows := rfl
@[simp] theorem State.modDram_macs (n : Nat) (f : DramCh → DramCh) : (s.modDram n f).macs = s.macs := rfl
@[simp] theorem State.modDram_sessWait (n : Nat) (f : DramCh → DramCh) : (s.modDram n f).sessWait = s.sessWait := rfl
@[simp] theorem State.modDram_queues (n : Nat) (f : DramCh → DramCh) : (s.modDram n f).queues = s.queues := rfl
@[simp] theorem State.modDram_served (n : Nat) (f : DramCh → DramCh) : (s.modDram n f).served = s.served := rfl
@[simp] theorem State.modDram_policers (n : Nat) (f : DramCh → DramCh) : (s.modDram n f).policers = s.policers := rfl
@[simp] theorem State.modDram_pool (n : Nat) (f : DramCh → DramCh) : (s.modDram n f).pool = s.pool := rfl
@[simp] theorem State.modDram_cuex (n : Nat) (f : DramCh → DramCh) : (s.modDram n f).cuex = s.cuex := rfl
@[simp] theorem State.modDram_fifos (n : Nat) (f : DramCh → DramCh) : (s.modDram n f).fifos = s.fifos := rfl
@[simp] theorem State.modDram_cvu (n : Nat) (f : DramCh → DramCh) : (s.modDram n f).cvu = s.cvu := rfl
@[simp] theorem State.modDram_host (n : Nat) (f : DramCh → DramCh) : (s.modDram n f).host = s.host := rfl
@[simp] theorem State.modDram_dma (n : Nat) (f : DramCh → DramCh) : (s.modDram n f).dma = s.dma := rfl
@[simp] theorem State.modDram_pcie (n : Nat) (f : DramCh → DramCh) : (s.modDram n f).pcie = s.pcie := rfl
@[simp] theorem State.modDram_tap (n : Nat) (f : DramCh → DramCh) : (s.modDram n f).tap = s.tap := rfl
@[simp] theorem State.modDram_pair (n : Nat) (f : DramCh → DramCh) : (s.modDram n f).pair = s.pair := rfl
@[simp] theorem State.modDram_ptp (n : Nat) (f : DramCh → DramCh) : (s.modDram n f).ptp = s.ptp := rfl
@[simp] theorem State.modDram_out (n : Nat) (f : DramCh → DramCh) : (s.modDram n f).out = s.out := rfl
@[simp] theorem State.modDram_freeCtr (n : Nat) (f : DramCh → DramCh) : (s.modDram n f).freeCtr = s.freeCtr := rfl
@[simp] theorem State.modDram_reg (n : Nat) (f : DramCh → DramCh) (j : Nat) : (s.modDram n f).reg j = s.reg j := rfl
@[simp] theorem State.modDram_ctx (n : Nat) (f : DramCh → DramCh) (j : Nat) : (s.modDram n f).ctx j = s.ctx j := rfl

@[simp] theorem State.setDpIn_pending (n : Nat) (x : DpIn) : (s.setDpIn n x).pending = s.pending := rfl
@[simp] theorem State.setDpIn_regs (n : Nat) (x : DpIn) : (s.setDpIn n x).regs = s.regs := rfl
@[simp] theorem State.setDpIn_latches (n : Nat) (x : DpIn) : (s.setDpIn n x).latches = s.latches := rfl
@[simp] theorem State.setDpIn_mem (n : Nat) (x : DpIn) : (s.setDpIn n x).mem = s.mem := rfl
@[simp] theorem State.setDpIn_scrap (n : Nat) (x : DpIn) : (s.setDpIn n x).scrap = s.scrap := rfl
@[simp] theorem State.setDpIn_hostMem (n : Nat) (x : DpIn) : (s.setDpIn n x).hostMem = s.hostMem := rfl
@[simp] theorem State.setDpIn_rc (n : Nat) (x : DpIn) : (s.setDpIn n x).rc = s.rc := rfl
@[simp] theorem State.setDpIn_fc (n : Nat) (x : DpIn) : (s.setDpIn n x).fc = s.fc := rfl
@[simp] theorem State.setDpIn_trust (n : Nat) (x : DpIn) : (s.setDpIn n x).trust = s.trust := rfl
@[simp] theorem State.setDpIn_tb (n : Nat) (x : DpIn) : (s.setDpIn n x).tb = s.tb := rfl
@[simp] theorem State.setDpIn_ctxs (n : Nat) (x : DpIn) : (s.setDpIn n x).ctxs = s.ctxs := rfl
@[simp] theorem State.setDpIn_bays (n : Nat) (x : DpIn) : (s.setDpIn n x).bays = s.bays := rfl
@[simp] theorem State.setDpIn_px (n : Nat) (x : DpIn) : (s.setDpIn n x).px = s.px := rfl
@[simp] theorem State.setDpIn_ce (n : Nat) (x : DpIn) : (s.setDpIn n x).ce = s.ce := rfl
@[simp] theorem State.setDpIn_stores (n : Nat) (x : DpIn) : (s.setDpIn n x).stores = s.stores := rfl
@[simp] theorem State.setDpIn_sram (n : Nat) (x : DpIn) : (s.setDpIn n x).sram = s.sram := rfl
@[simp] theorem State.setDpIn_bins (n : Nat) (x : DpIn) : (s.setDpIn n x).bins = s.bins := rfl
@[simp] theorem State.setDpIn_ledger (n : Nat) (x : DpIn) : (s.setDpIn n x).ledger = s.ledger := rfl
@[simp] theorem State.setDpIn_margin (n : Nat) (x : DpIn) : (s.setDpIn n x).margin = s.margin := rfl
@[simp] theorem State.setDpIn_sigs (n : Nat) (x : DpIn) : (s.setDpIn n x).sigs = s.sigs := rfl
@[simp] theorem State.setDpIn_dpOuts (n : Nat) (x : DpIn) : (s.setDpIn n x).dpOuts = s.dpOuts := rfl
@[simp] theorem State.setDpIn_drams (n : Nat) (x : DpIn) : (s.setDpIn n x).drams = s.drams := rfl
@[simp] theorem State.setDpIn_refc (n : Nat) (x : DpIn) : (s.setDpIn n x).refc = s.refc := rfl
@[simp] theorem State.setDpIn_otp (n : Nat) (x : DpIn) : (s.setDpIn n x).otp = s.otp := rfl
@[simp] theorem State.setDpIn_flash (n : Nat) (x : DpIn) : (s.setDpIn n x).flash = s.flash := rfl
@[simp] theorem State.setDpIn_flows (n : Nat) (x : DpIn) : (s.setDpIn n x).flows = s.flows := rfl
@[simp] theorem State.setDpIn_macs (n : Nat) (x : DpIn) : (s.setDpIn n x).macs = s.macs := rfl
@[simp] theorem State.setDpIn_sessWait (n : Nat) (x : DpIn) : (s.setDpIn n x).sessWait = s.sessWait := rfl
@[simp] theorem State.setDpIn_queues (n : Nat) (x : DpIn) : (s.setDpIn n x).queues = s.queues := rfl
@[simp] theorem State.setDpIn_served (n : Nat) (x : DpIn) : (s.setDpIn n x).served = s.served := rfl
@[simp] theorem State.setDpIn_policers (n : Nat) (x : DpIn) : (s.setDpIn n x).policers = s.policers := rfl
@[simp] theorem State.setDpIn_pool (n : Nat) (x : DpIn) : (s.setDpIn n x).pool = s.pool := rfl
@[simp] theorem State.setDpIn_cuex (n : Nat) (x : DpIn) : (s.setDpIn n x).cuex = s.cuex := rfl
@[simp] theorem State.setDpIn_fifos (n : Nat) (x : DpIn) : (s.setDpIn n x).fifos = s.fifos := rfl
@[simp] theorem State.setDpIn_cvu (n : Nat) (x : DpIn) : (s.setDpIn n x).cvu = s.cvu := rfl
@[simp] theorem State.setDpIn_host (n : Nat) (x : DpIn) : (s.setDpIn n x).host = s.host := rfl
@[simp] theorem State.setDpIn_dma (n : Nat) (x : DpIn) : (s.setDpIn n x).dma = s.dma := rfl
@[simp] theorem State.setDpIn_pcie (n : Nat) (x : DpIn) : (s.setDpIn n x).pcie = s.pcie := rfl
@[simp] theorem State.setDpIn_tap (n : Nat) (x : DpIn) : (s.setDpIn n x).tap = s.tap := rfl
@[simp] theorem State.setDpIn_pair (n : Nat) (x : DpIn) : (s.setDpIn n x).pair = s.pair := rfl
@[simp] theorem State.setDpIn_ptp (n : Nat) (x : DpIn) : (s.setDpIn n x).ptp = s.ptp := rfl
@[simp] theorem State.setDpIn_out (n : Nat) (x : DpIn) : (s.setDpIn n x).out = s.out := rfl
@[simp] theorem State.setDpIn_freeCtr (n : Nat) (x : DpIn) : (s.setDpIn n x).freeCtr = s.freeCtr := rfl
@[simp] theorem State.setDpIn_reg (n : Nat) (x : DpIn) (j : Nat) : (s.setDpIn n x).reg j = s.reg j := rfl
@[simp] theorem State.setDpIn_ctx (n : Nat) (x : DpIn) (j : Nat) : (s.setDpIn n x).ctx j = s.ctx j := rfl

@[simp] theorem State.modDpIn_pending (n : Nat) (f : DpIn → DpIn) : (s.modDpIn n f).pending = s.pending := rfl
@[simp] theorem State.modDpIn_regs (n : Nat) (f : DpIn → DpIn) : (s.modDpIn n f).regs = s.regs := rfl
@[simp] theorem State.modDpIn_latches (n : Nat) (f : DpIn → DpIn) : (s.modDpIn n f).latches = s.latches := rfl
@[simp] theorem State.modDpIn_mem (n : Nat) (f : DpIn → DpIn) : (s.modDpIn n f).mem = s.mem := rfl
@[simp] theorem State.modDpIn_scrap (n : Nat) (f : DpIn → DpIn) : (s.modDpIn n f).scrap = s.scrap := rfl
@[simp] theorem State.modDpIn_hostMem (n : Nat) (f : DpIn → DpIn) : (s.modDpIn n f).hostMem = s.hostMem := rfl
@[simp] theorem State.modDpIn_rc (n : Nat) (f : DpIn → DpIn) : (s.modDpIn n f).rc = s.rc := rfl
@[simp] theorem State.modDpIn_fc (n : Nat) (f : DpIn → DpIn) : (s.modDpIn n f).fc = s.fc := rfl
@[simp] theorem State.modDpIn_trust (n : Nat) (f : DpIn → DpIn) : (s.modDpIn n f).trust = s.trust := rfl
@[simp] theorem State.modDpIn_tb (n : Nat) (f : DpIn → DpIn) : (s.modDpIn n f).tb = s.tb := rfl
@[simp] theorem State.modDpIn_ctxs (n : Nat) (f : DpIn → DpIn) : (s.modDpIn n f).ctxs = s.ctxs := rfl
@[simp] theorem State.modDpIn_bays (n : Nat) (f : DpIn → DpIn) : (s.modDpIn n f).bays = s.bays := rfl
@[simp] theorem State.modDpIn_px (n : Nat) (f : DpIn → DpIn) : (s.modDpIn n f).px = s.px := rfl
@[simp] theorem State.modDpIn_ce (n : Nat) (f : DpIn → DpIn) : (s.modDpIn n f).ce = s.ce := rfl
@[simp] theorem State.modDpIn_stores (n : Nat) (f : DpIn → DpIn) : (s.modDpIn n f).stores = s.stores := rfl
@[simp] theorem State.modDpIn_sram (n : Nat) (f : DpIn → DpIn) : (s.modDpIn n f).sram = s.sram := rfl
@[simp] theorem State.modDpIn_bins (n : Nat) (f : DpIn → DpIn) : (s.modDpIn n f).bins = s.bins := rfl
@[simp] theorem State.modDpIn_ledger (n : Nat) (f : DpIn → DpIn) : (s.modDpIn n f).ledger = s.ledger := rfl
@[simp] theorem State.modDpIn_margin (n : Nat) (f : DpIn → DpIn) : (s.modDpIn n f).margin = s.margin := rfl
@[simp] theorem State.modDpIn_sigs (n : Nat) (f : DpIn → DpIn) : (s.modDpIn n f).sigs = s.sigs := rfl
@[simp] theorem State.modDpIn_dpOuts (n : Nat) (f : DpIn → DpIn) : (s.modDpIn n f).dpOuts = s.dpOuts := rfl
@[simp] theorem State.modDpIn_drams (n : Nat) (f : DpIn → DpIn) : (s.modDpIn n f).drams = s.drams := rfl
@[simp] theorem State.modDpIn_refc (n : Nat) (f : DpIn → DpIn) : (s.modDpIn n f).refc = s.refc := rfl
@[simp] theorem State.modDpIn_otp (n : Nat) (f : DpIn → DpIn) : (s.modDpIn n f).otp = s.otp := rfl
@[simp] theorem State.modDpIn_flash (n : Nat) (f : DpIn → DpIn) : (s.modDpIn n f).flash = s.flash := rfl
@[simp] theorem State.modDpIn_flows (n : Nat) (f : DpIn → DpIn) : (s.modDpIn n f).flows = s.flows := rfl
@[simp] theorem State.modDpIn_macs (n : Nat) (f : DpIn → DpIn) : (s.modDpIn n f).macs = s.macs := rfl
@[simp] theorem State.modDpIn_sessWait (n : Nat) (f : DpIn → DpIn) : (s.modDpIn n f).sessWait = s.sessWait := rfl
@[simp] theorem State.modDpIn_queues (n : Nat) (f : DpIn → DpIn) : (s.modDpIn n f).queues = s.queues := rfl
@[simp] theorem State.modDpIn_served (n : Nat) (f : DpIn → DpIn) : (s.modDpIn n f).served = s.served := rfl
@[simp] theorem State.modDpIn_policers (n : Nat) (f : DpIn → DpIn) : (s.modDpIn n f).policers = s.policers := rfl
@[simp] theorem State.modDpIn_pool (n : Nat) (f : DpIn → DpIn) : (s.modDpIn n f).pool = s.pool := rfl
@[simp] theorem State.modDpIn_cuex (n : Nat) (f : DpIn → DpIn) : (s.modDpIn n f).cuex = s.cuex := rfl
@[simp] theorem State.modDpIn_fifos (n : Nat) (f : DpIn → DpIn) : (s.modDpIn n f).fifos = s.fifos := rfl
@[simp] theorem State.modDpIn_cvu (n : Nat) (f : DpIn → DpIn) : (s.modDpIn n f).cvu = s.cvu := rfl
@[simp] theorem State.modDpIn_host (n : Nat) (f : DpIn → DpIn) : (s.modDpIn n f).host = s.host := rfl
@[simp] theorem State.modDpIn_dma (n : Nat) (f : DpIn → DpIn) : (s.modDpIn n f).dma = s.dma := rfl
@[simp] theorem State.modDpIn_pcie (n : Nat) (f : DpIn → DpIn) : (s.modDpIn n f).pcie = s.pcie := rfl
@[simp] theorem State.modDpIn_tap (n : Nat) (f : DpIn → DpIn) : (s.modDpIn n f).tap = s.tap := rfl
@[simp] theorem State.modDpIn_pair (n : Nat) (f : DpIn → DpIn) : (s.modDpIn n f).pair = s.pair := rfl
@[simp] theorem State.modDpIn_ptp (n : Nat) (f : DpIn → DpIn) : (s.modDpIn n f).ptp = s.ptp := rfl
@[simp] theorem State.modDpIn_out (n : Nat) (f : DpIn → DpIn) : (s.modDpIn n f).out = s.out := rfl
@[simp] theorem State.modDpIn_freeCtr (n : Nat) (f : DpIn → DpIn) : (s.modDpIn n f).freeCtr = s.freeCtr := rfl
@[simp] theorem State.modDpIn_reg (n : Nat) (f : DpIn → DpIn) (j : Nat) : (s.modDpIn n f).reg j = s.reg j := rfl
@[simp] theorem State.modDpIn_ctx (n : Nat) (f : DpIn → DpIn) (j : Nat) : (s.modDpIn n f).ctx j = s.ctx j := rfl

@[simp] theorem State.learnMac_pending (port : Nat) (addr : Nat) (mac : Nat) : (s.learnMac port addr mac).pending = s.pending := rfl
@[simp] theorem State.learnMac_regs (port : Nat) (addr : Nat) (mac : Nat) : (s.learnMac port addr mac).regs = s.regs := rfl
@[simp] theorem State.learnMac_latches (port : Nat) (addr : Nat) (mac : Nat) : (s.learnMac port addr mac).latches = s.latches := rfl
@[simp] theorem State.learnMac_mem (port : Nat) (addr : Nat) (mac : Nat) : (s.learnMac port addr mac).mem = s.mem := rfl
@[simp] theorem State.learnMac_scrap (port : Nat) (addr : Nat) (mac : Nat) : (s.learnMac port addr mac).scrap = s.scrap := rfl
@[simp] theorem State.learnMac_hostMem (port : Nat) (addr : Nat) (mac : Nat) : (s.learnMac port addr mac).hostMem = s.hostMem := rfl
@[simp] theorem State.learnMac_rc (port : Nat) (addr : Nat) (mac : Nat) : (s.learnMac port addr mac).rc = s.rc := rfl
@[simp] theorem State.learnMac_fc (port : Nat) (addr : Nat) (mac : Nat) : (s.learnMac port addr mac).fc = s.fc := rfl
@[simp] theorem State.learnMac_trust (port : Nat) (addr : Nat) (mac : Nat) : (s.learnMac port addr mac).trust = s.trust := rfl
@[simp] theorem State.learnMac_tb (port : Nat) (addr : Nat) (mac : Nat) : (s.learnMac port addr mac).tb = s.tb := rfl
@[simp] theorem State.learnMac_ctxs (port : Nat) (addr : Nat) (mac : Nat) : (s.learnMac port addr mac).ctxs = s.ctxs := rfl
@[simp] theorem State.learnMac_bays (port : Nat) (addr : Nat) (mac : Nat) : (s.learnMac port addr mac).bays = s.bays := rfl
@[simp] theorem State.learnMac_px (port : Nat) (addr : Nat) (mac : Nat) : (s.learnMac port addr mac).px = s.px := rfl
@[simp] theorem State.learnMac_ce (port : Nat) (addr : Nat) (mac : Nat) : (s.learnMac port addr mac).ce = s.ce := rfl
@[simp] theorem State.learnMac_stores (port : Nat) (addr : Nat) (mac : Nat) : (s.learnMac port addr mac).stores = s.stores := rfl
@[simp] theorem State.learnMac_sram (port : Nat) (addr : Nat) (mac : Nat) : (s.learnMac port addr mac).sram = s.sram := rfl
@[simp] theorem State.learnMac_bins (port : Nat) (addr : Nat) (mac : Nat) : (s.learnMac port addr mac).bins = s.bins := rfl
@[simp] theorem State.learnMac_ledger (port : Nat) (addr : Nat) (mac : Nat) : (s.learnMac port addr mac).ledger = s.ledger := rfl
@[simp] theorem State.learnMac_margin (port : Nat) (addr : Nat) (mac : Nat) : (s.learnMac port addr mac).margin = s.margin := rfl
@[simp] theorem State.learnMac_sigs (port : Nat) (addr : Nat) (mac : Nat) : (s.learnMac port addr mac).sigs = s.sigs := rfl
@[simp] theorem State.learnMac_dpOuts (port : Nat) (addr : Nat) (mac : Nat) : (s.learnMac port addr mac).dpOuts = s.dpOuts := rfl
@[simp] theorem State.learnMac_drams (port : Nat) (addr : Nat) (mac : Nat) : (s.learnMac port addr mac).drams = s.drams := rfl
@[simp] theorem State.learnMac_refc (port : Nat) (addr : Nat) (mac : Nat) : (s.learnMac port addr mac).refc = s.refc := rfl
@[simp] theorem State.learnMac_dpIns (port : Nat) (addr : Nat) (mac : Nat) : (s.learnMac port addr mac).dpIns = s.dpIns := rfl
@[simp] theorem State.learnMac_otp (port : Nat) (addr : Nat) (mac : Nat) : (s.learnMac port addr mac).otp = s.otp := rfl
@[simp] theorem State.learnMac_flash (port : Nat) (addr : Nat) (mac : Nat) : (s.learnMac port addr mac).flash = s.flash := rfl
@[simp] theorem State.learnMac_flows (port : Nat) (addr : Nat) (mac : Nat) : (s.learnMac port addr mac).flows = s.flows := rfl
@[simp] theorem State.learnMac_sessWait (port : Nat) (addr : Nat) (mac : Nat) : (s.learnMac port addr mac).sessWait = s.sessWait := rfl
@[simp] theorem State.learnMac_queues (port : Nat) (addr : Nat) (mac : Nat) : (s.learnMac port addr mac).queues = s.queues := rfl
@[simp] theorem State.learnMac_served (port : Nat) (addr : Nat) (mac : Nat) : (s.learnMac port addr mac).served = s.served := rfl
@[simp] theorem State.learnMac_policers (port : Nat) (addr : Nat) (mac : Nat) : (s.learnMac port addr mac).policers = s.policers := rfl
@[simp] theorem State.learnMac_pool (port : Nat) (addr : Nat) (mac : Nat) : (s.learnMac port addr mac).pool = s.pool := rfl
@[simp] theorem State.learnMac_cuex (port : Nat) (addr : Nat) (mac : Nat) : (s.learnMac port addr mac).cuex = s.cuex := rfl
@[simp] theorem State.learnMac_fifos (port : Nat) (addr : Nat) (mac : Nat) : (s.learnMac port addr mac).fifos = s.fifos := rfl
@[simp] theorem State.learnMac_cvu (port : Nat) (addr : Nat) (mac : Nat) : (s.learnMac port addr mac).cvu = s.cvu := rfl
@[simp] theorem State.learnMac_host (port : Nat) (addr : Nat) (mac : Nat) : (s.learnMac port addr mac).host = s.host := rfl
@[simp] theorem State.learnMac_dma (port : Nat) (addr : Nat) (mac : Nat) : (s.learnMac port addr mac).dma = s.dma := rfl
@[simp] theorem State.learnMac_pcie (port : Nat) (addr : Nat) (mac : Nat) : (s.learnMac port addr mac).pcie = s.pcie := rfl
@[simp] theorem State.learnMac_tap (port : Nat) (addr : Nat) (mac : Nat) : (s.learnMac port addr mac).tap = s.tap := rfl
@[simp] theorem State.learnMac_pair (port : Nat) (addr : Nat) (mac : Nat) : (s.learnMac port addr mac).pair = s.pair := rfl
@[simp] theorem State.learnMac_ptp (port : Nat) (addr : Nat) (mac : Nat) : (s.learnMac port addr mac).ptp = s.ptp := rfl
@[simp] theorem State.learnMac_out (port : Nat) (addr : Nat) (mac : Nat) : (s.learnMac port addr mac).out = s.out := rfl
@[simp] theorem State.learnMac_freeCtr (port : Nat) (addr : Nat) (mac : Nat) : (s.learnMac port addr mac).freeCtr = s.freeCtr := rfl
@[simp] theorem State.learnMac_reg (port : Nat) (addr : Nat) (mac : Nat) (j : Nat) : (s.learnMac port addr mac).reg j = s.reg j := rfl
@[simp] theorem State.learnMac_ctx (port : Nat) (addr : Nat) (mac : Nat) (j : Nat) : (s.learnMac port addr mac).ctx j = s.ctx j := rfl

@[simp] theorem State.setPx_pending (n : Nat) (x : Px) : (s.setPx n x).pending = s.pending := rfl
@[simp] theorem State.setPx_regs (n : Nat) (x : Px) : (s.setPx n x).regs = s.regs := rfl
@[simp] theorem State.setPx_latches (n : Nat) (x : Px) : (s.setPx n x).latches = s.latches := rfl
@[simp] theorem State.setPx_mem (n : Nat) (x : Px) : (s.setPx n x).mem = s.mem := rfl
@[simp] theorem State.setPx_scrap (n : Nat) (x : Px) : (s.setPx n x).scrap = s.scrap := rfl
@[simp] theorem State.setPx_hostMem (n : Nat) (x : Px) : (s.setPx n x).hostMem = s.hostMem := rfl
@[simp] theorem State.setPx_rc (n : Nat) (x : Px) : (s.setPx n x).rc = s.rc := rfl
@[simp] theorem State.setPx_fc (n : Nat) (x : Px) : (s.setPx n x).fc = s.fc := rfl
@[simp] theorem State.setPx_trust (n : Nat) (x : Px) : (s.setPx n x).trust = s.trust := rfl
@[simp] theorem State.setPx_tb (n : Nat) (x : Px) : (s.setPx n x).tb = s.tb := rfl
@[simp] theorem State.setPx_ctxs (n : Nat) (x : Px) : (s.setPx n x).ctxs = s.ctxs := rfl
@[simp] theorem State.setPx_bays (n : Nat) (x : Px) : (s.setPx n x).bays = s.bays := rfl
@[simp] theorem State.setPx_ce (n : Nat) (x : Px) : (s.setPx n x).ce = s.ce := rfl
@[simp] theorem State.setPx_stores (n : Nat) (x : Px) : (s.setPx n x).stores = s.stores := rfl
@[simp] theorem State.setPx_sram (n : Nat) (x : Px) : (s.setPx n x).sram = s.sram := rfl
@[simp] theorem State.setPx_bins (n : Nat) (x : Px) : (s.setPx n x).bins = s.bins := rfl
@[simp] theorem State.setPx_ledger (n : Nat) (x : Px) : (s.setPx n x).ledger = s.ledger := rfl
@[simp] theorem State.setPx_margin (n : Nat) (x : Px) : (s.setPx n x).margin = s.margin := rfl
@[simp] theorem State.setPx_sigs (n : Nat) (x : Px) : (s.setPx n x).sigs = s.sigs := rfl
@[simp] theorem State.setPx_dpOuts (n : Nat) (x : Px) : (s.setPx n x).dpOuts = s.dpOuts := rfl
@[simp] theorem State.setPx_drams (n : Nat) (x : Px) : (s.setPx n x).drams = s.drams := rfl
@[simp] theorem State.setPx_refc (n : Nat) (x : Px) : (s.setPx n x).refc = s.refc := rfl
@[simp] theorem State.setPx_dpIns (n : Nat) (x : Px) : (s.setPx n x).dpIns = s.dpIns := rfl
@[simp] theorem State.setPx_otp (n : Nat) (x : Px) : (s.setPx n x).otp = s.otp := rfl
@[simp] theorem State.setPx_flash (n : Nat) (x : Px) : (s.setPx n x).flash = s.flash := rfl
@[simp] theorem State.setPx_flows (n : Nat) (x : Px) : (s.setPx n x).flows = s.flows := rfl
@[simp] theorem State.setPx_macs (n : Nat) (x : Px) : (s.setPx n x).macs = s.macs := rfl
@[simp] theorem State.setPx_sessWait (n : Nat) (x : Px) : (s.setPx n x).sessWait = s.sessWait := rfl
@[simp] theorem State.setPx_queues (n : Nat) (x : Px) : (s.setPx n x).queues = s.queues := rfl
@[simp] theorem State.setPx_served (n : Nat) (x : Px) : (s.setPx n x).served = s.served := rfl
@[simp] theorem State.setPx_policers (n : Nat) (x : Px) : (s.setPx n x).policers = s.policers := rfl
@[simp] theorem State.setPx_pool (n : Nat) (x : Px) : (s.setPx n x).pool = s.pool := rfl
@[simp] theorem State.setPx_cuex (n : Nat) (x : Px) : (s.setPx n x).cuex = s.cuex := rfl
@[simp] theorem State.setPx_fifos (n : Nat) (x : Px) : (s.setPx n x).fifos = s.fifos := rfl
@[simp] theorem State.setPx_cvu (n : Nat) (x : Px) : (s.setPx n x).cvu = s.cvu := rfl
@[simp] theorem State.setPx_host (n : Nat) (x : Px) : (s.setPx n x).host = s.host := rfl
@[simp] theorem State.setPx_dma (n : Nat) (x : Px) : (s.setPx n x).dma = s.dma := rfl
@[simp] theorem State.setPx_pcie (n : Nat) (x : Px) : (s.setPx n x).pcie = s.pcie := rfl
@[simp] theorem State.setPx_tap (n : Nat) (x : Px) : (s.setPx n x).tap = s.tap := rfl
@[simp] theorem State.setPx_pair (n : Nat) (x : Px) : (s.setPx n x).pair = s.pair := rfl
@[simp] theorem State.setPx_ptp (n : Nat) (x : Px) : (s.setPx n x).ptp = s.ptp := rfl
@[simp] theorem State.setPx_out (n : Nat) (x : Px) : (s.setPx n x).out = s.out := rfl
@[simp] theorem State.setPx_freeCtr (n : Nat) (x : Px) : (s.setPx n x).freeCtr = s.freeCtr := rfl
@[simp] theorem State.setPx_reg (n : Nat) (x : Px) (j : Nat) : (s.setPx n x).reg j = s.reg j := rfl
@[simp] theorem State.setPx_ctx (n : Nat) (x : Px) (j : Nat) : (s.setPx n x).ctx j = s.ctx j := rfl

@[simp] theorem State.modPx_pending (n : Nat) (f : Px → Px) : (s.modPx n f).pending = s.pending := rfl
@[simp] theorem State.modPx_regs (n : Nat) (f : Px → Px) : (s.modPx n f).regs = s.regs := rfl
@[simp] theorem State.modPx_latches (n : Nat) (f : Px → Px) : (s.modPx n f).latches = s.latches := rfl
@[simp] theorem State.modPx_mem (n : Nat) (f : Px → Px) : (s.modPx n f).mem = s.mem := rfl
@[simp] theorem State.modPx_scrap (n : Nat) (f : Px → Px) : (s.modPx n f).scrap = s.scrap := rfl
@[simp] theorem State.modPx_hostMem (n : Nat) (f : Px → Px) : (s.modPx n f).hostMem = s.hostMem := rfl
@[simp] theorem State.modPx_rc (n : Nat) (f : Px → Px) : (s.modPx n f).rc = s.rc := rfl
@[simp] theorem State.modPx_fc (n : Nat) (f : Px → Px) : (s.modPx n f).fc = s.fc := rfl
@[simp] theorem State.modPx_trust (n : Nat) (f : Px → Px) : (s.modPx n f).trust = s.trust := rfl
@[simp] theorem State.modPx_tb (n : Nat) (f : Px → Px) : (s.modPx n f).tb = s.tb := rfl
@[simp] theorem State.modPx_ctxs (n : Nat) (f : Px → Px) : (s.modPx n f).ctxs = s.ctxs := rfl
@[simp] theorem State.modPx_bays (n : Nat) (f : Px → Px) : (s.modPx n f).bays = s.bays := rfl
@[simp] theorem State.modPx_ce (n : Nat) (f : Px → Px) : (s.modPx n f).ce = s.ce := rfl
@[simp] theorem State.modPx_stores (n : Nat) (f : Px → Px) : (s.modPx n f).stores = s.stores := rfl
@[simp] theorem State.modPx_sram (n : Nat) (f : Px → Px) : (s.modPx n f).sram = s.sram := rfl
@[simp] theorem State.modPx_bins (n : Nat) (f : Px → Px) : (s.modPx n f).bins = s.bins := rfl
@[simp] theorem State.modPx_ledger (n : Nat) (f : Px → Px) : (s.modPx n f).ledger = s.ledger := rfl
@[simp] theorem State.modPx_margin (n : Nat) (f : Px → Px) : (s.modPx n f).margin = s.margin := rfl
@[simp] theorem State.modPx_sigs (n : Nat) (f : Px → Px) : (s.modPx n f).sigs = s.sigs := rfl
@[simp] theorem State.modPx_dpOuts (n : Nat) (f : Px → Px) : (s.modPx n f).dpOuts = s.dpOuts := rfl
@[simp] theorem State.modPx_drams (n : Nat) (f : Px → Px) : (s.modPx n f).drams = s.drams := rfl
@[simp] theorem State.modPx_refc (n : Nat) (f : Px → Px) : (s.modPx n f).refc = s.refc := rfl
@[simp] theorem State.modPx_dpIns (n : Nat) (f : Px → Px) : (s.modPx n f).dpIns = s.dpIns := rfl
@[simp] theorem State.modPx_otp (n : Nat) (f : Px → Px) : (s.modPx n f).otp = s.otp := rfl
@[simp] theorem State.modPx_flash (n : Nat) (f : Px → Px) : (s.modPx n f).flash = s.flash := rfl
@[simp] theorem State.modPx_flows (n : Nat) (f : Px → Px) : (s.modPx n f).flows = s.flows := rfl
@[simp] theorem State.modPx_macs (n : Nat) (f : Px → Px) : (s.modPx n f).macs = s.macs := rfl
@[simp] theorem State.modPx_sessWait (n : Nat) (f : Px → Px) : (s.modPx n f).sessWait = s.sessWait := rfl
@[simp] theorem State.modPx_queues (n : Nat) (f : Px → Px) : (s.modPx n f).queues = s.queues := rfl
@[simp] theorem State.modPx_served (n : Nat) (f : Px → Px) : (s.modPx n f).served = s.served := rfl
@[simp] theorem State.modPx_policers (n : Nat) (f : Px → Px) : (s.modPx n f).policers = s.policers := rfl
@[simp] theorem State.modPx_pool (n : Nat) (f : Px → Px) : (s.modPx n f).pool = s.pool := rfl
@[simp] theorem State.modPx_cuex (n : Nat) (f : Px → Px) : (s.modPx n f).cuex = s.cuex := rfl
@[simp] theorem State.modPx_fifos (n : Nat) (f : Px → Px) : (s.modPx n f).fifos = s.fifos := rfl
@[simp] theorem State.modPx_cvu (n : Nat) (f : Px → Px) : (s.modPx n f).cvu = s.cvu := rfl
@[simp] theorem State.modPx_host (n : Nat) (f : Px → Px) : (s.modPx n f).host = s.host := rfl
@[simp] theorem State.modPx_dma (n : Nat) (f : Px → Px) : (s.modPx n f).dma = s.dma := rfl
@[simp] theorem State.modPx_pcie (n : Nat) (f : Px → Px) : (s.modPx n f).pcie = s.pcie := rfl
@[simp] theorem State.modPx_tap (n : Nat) (f : Px → Px) : (s.modPx n f).tap = s.tap := rfl
@[simp] theorem State.modPx_pair (n : Nat) (f : Px → Px) : (s.modPx n f).pair = s.pair := rfl
@[simp] theorem State.modPx_ptp (n : Nat) (f : Px → Px) : (s.modPx n f).ptp = s.ptp := rfl
@[simp] theorem State.modPx_out (n : Nat) (f : Px → Px) : (s.modPx n f).out = s.out := rfl
@[simp] theorem State.modPx_freeCtr (n : Nat) (f : Px → Px) : (s.modPx n f).freeCtr = s.freeCtr := rfl
@[simp] theorem State.modPx_reg (n : Nat) (f : Px → Px) (j : Nat) : (s.modPx n f).reg j = s.reg j := rfl
@[simp] theorem State.modPx_ctx (n : Nat) (f : Px → Px) (j : Nat) : (s.modPx n f).ctx j = s.ctx j := rfl

@[simp] theorem State.flashWrite_pending (a : Nat) (bs : List Byte) : (s.flashWrite a bs).pending = s.pending := rfl
@[simp] theorem State.flashWrite_regs (a : Nat) (bs : List Byte) : (s.flashWrite a bs).regs = s.regs := rfl
@[simp] theorem State.flashWrite_latches (a : Nat) (bs : List Byte) : (s.flashWrite a bs).latches = s.latches := rfl
@[simp] theorem State.flashWrite_mem (a : Nat) (bs : List Byte) : (s.flashWrite a bs).mem = s.mem := rfl
@[simp] theorem State.flashWrite_scrap (a : Nat) (bs : List Byte) : (s.flashWrite a bs).scrap = s.scrap := rfl
@[simp] theorem State.flashWrite_hostMem (a : Nat) (bs : List Byte) : (s.flashWrite a bs).hostMem = s.hostMem := rfl
@[simp] theorem State.flashWrite_rc (a : Nat) (bs : List Byte) : (s.flashWrite a bs).rc = s.rc := rfl
@[simp] theorem State.flashWrite_fc (a : Nat) (bs : List Byte) : (s.flashWrite a bs).fc = s.fc := rfl
@[simp] theorem State.flashWrite_trust (a : Nat) (bs : List Byte) : (s.flashWrite a bs).trust = s.trust := rfl
@[simp] theorem State.flashWrite_tb (a : Nat) (bs : List Byte) : (s.flashWrite a bs).tb = s.tb := rfl
@[simp] theorem State.flashWrite_ctxs (a : Nat) (bs : List Byte) : (s.flashWrite a bs).ctxs = s.ctxs := rfl
@[simp] theorem State.flashWrite_bays (a : Nat) (bs : List Byte) : (s.flashWrite a bs).bays = s.bays := rfl
@[simp] theorem State.flashWrite_px (a : Nat) (bs : List Byte) : (s.flashWrite a bs).px = s.px := rfl
@[simp] theorem State.flashWrite_ce (a : Nat) (bs : List Byte) : (s.flashWrite a bs).ce = s.ce := rfl
@[simp] theorem State.flashWrite_stores (a : Nat) (bs : List Byte) : (s.flashWrite a bs).stores = s.stores := rfl
@[simp] theorem State.flashWrite_sram (a : Nat) (bs : List Byte) : (s.flashWrite a bs).sram = s.sram := rfl
@[simp] theorem State.flashWrite_bins (a : Nat) (bs : List Byte) : (s.flashWrite a bs).bins = s.bins := rfl
@[simp] theorem State.flashWrite_ledger (a : Nat) (bs : List Byte) : (s.flashWrite a bs).ledger = s.ledger := rfl
@[simp] theorem State.flashWrite_margin (a : Nat) (bs : List Byte) : (s.flashWrite a bs).margin = s.margin := rfl
@[simp] theorem State.flashWrite_sigs (a : Nat) (bs : List Byte) : (s.flashWrite a bs).sigs = s.sigs := rfl
@[simp] theorem State.flashWrite_dpOuts (a : Nat) (bs : List Byte) : (s.flashWrite a bs).dpOuts = s.dpOuts := rfl
@[simp] theorem State.flashWrite_drams (a : Nat) (bs : List Byte) : (s.flashWrite a bs).drams = s.drams := rfl
@[simp] theorem State.flashWrite_refc (a : Nat) (bs : List Byte) : (s.flashWrite a bs).refc = s.refc := rfl
@[simp] theorem State.flashWrite_dpIns (a : Nat) (bs : List Byte) : (s.flashWrite a bs).dpIns = s.dpIns := rfl
@[simp] theorem State.flashWrite_otp (a : Nat) (bs : List Byte) : (s.flashWrite a bs).otp = s.otp := rfl
@[simp] theorem State.flashWrite_flows (a : Nat) (bs : List Byte) : (s.flashWrite a bs).flows = s.flows := rfl
@[simp] theorem State.flashWrite_macs (a : Nat) (bs : List Byte) : (s.flashWrite a bs).macs = s.macs := rfl
@[simp] theorem State.flashWrite_sessWait (a : Nat) (bs : List Byte) : (s.flashWrite a bs).sessWait = s.sessWait := rfl
@[simp] theorem State.flashWrite_queues (a : Nat) (bs : List Byte) : (s.flashWrite a bs).queues = s.queues := rfl
@[simp] theorem State.flashWrite_served (a : Nat) (bs : List Byte) : (s.flashWrite a bs).served = s.served := rfl
@[simp] theorem State.flashWrite_policers (a : Nat) (bs : List Byte) : (s.flashWrite a bs).policers = s.policers := rfl
@[simp] theorem State.flashWrite_pool (a : Nat) (bs : List Byte) : (s.flashWrite a bs).pool = s.pool := rfl
@[simp] theorem State.flashWrite_cuex (a : Nat) (bs : List Byte) : (s.flashWrite a bs).cuex = s.cuex := rfl
@[simp] theorem State.flashWrite_fifos (a : Nat) (bs : List Byte) : (s.flashWrite a bs).fifos = s.fifos := rfl
@[simp] theorem State.flashWrite_cvu (a : Nat) (bs : List Byte) : (s.flashWrite a bs).cvu = s.cvu := rfl
@[simp] theorem State.flashWrite_host (a : Nat) (bs : List Byte) : (s.flashWrite a bs).host = s.host := rfl
@[simp] theorem State.flashWrite_dma (a : Nat) (bs : List Byte) : (s.flashWrite a bs).dma = s.dma := rfl
@[simp] theorem State.flashWrite_pcie (a : Nat) (bs : List Byte) : (s.flashWrite a bs).pcie = s.pcie := rfl
@[simp] theorem State.flashWrite_tap (a : Nat) (bs : List Byte) : (s.flashWrite a bs).tap = s.tap := rfl
@[simp] theorem State.flashWrite_pair (a : Nat) (bs : List Byte) : (s.flashWrite a bs).pair = s.pair := rfl
@[simp] theorem State.flashWrite_ptp (a : Nat) (bs : List Byte) : (s.flashWrite a bs).ptp = s.ptp := rfl
@[simp] theorem State.flashWrite_out (a : Nat) (bs : List Byte) : (s.flashWrite a bs).out = s.out := rfl
@[simp] theorem State.flashWrite_freeCtr (a : Nat) (bs : List Byte) : (s.flashWrite a bs).freeCtr = s.freeCtr := rfl
@[simp] theorem State.flashWrite_reg (a : Nat) (bs : List Byte) (j : Nat) : (s.flashWrite a bs).reg j = s.reg j := rfl
@[simp] theorem State.flashWrite_ctx (a : Nat) (bs : List Byte) (j : Nat) : (s.flashWrite a bs).ctx j = s.ctx j := rfl

@[simp] theorem State.setUcMap_pending (k : Nat) (m : Sparse Nat) : (s.setUcMap k m).pending = s.pending := rfl
@[simp] theorem State.setUcMap_regs (k : Nat) (m : Sparse Nat) : (s.setUcMap k m).regs = s.regs := rfl
@[simp] theorem State.setUcMap_latches (k : Nat) (m : Sparse Nat) : (s.setUcMap k m).latches = s.latches := rfl
@[simp] theorem State.setUcMap_mem (k : Nat) (m : Sparse Nat) : (s.setUcMap k m).mem = s.mem := rfl
@[simp] theorem State.setUcMap_scrap (k : Nat) (m : Sparse Nat) : (s.setUcMap k m).scrap = s.scrap := rfl
@[simp] theorem State.setUcMap_hostMem (k : Nat) (m : Sparse Nat) : (s.setUcMap k m).hostMem = s.hostMem := rfl
@[simp] theorem State.setUcMap_rc (k : Nat) (m : Sparse Nat) : (s.setUcMap k m).rc = s.rc := rfl
@[simp] theorem State.setUcMap_fc (k : Nat) (m : Sparse Nat) : (s.setUcMap k m).fc = s.fc := rfl
@[simp] theorem State.setUcMap_trust (k : Nat) (m : Sparse Nat) : (s.setUcMap k m).trust = s.trust := rfl
@[simp] theorem State.setUcMap_tb (k : Nat) (m : Sparse Nat) : (s.setUcMap k m).tb = s.tb := rfl
@[simp] theorem State.setUcMap_ctxs (k : Nat) (m : Sparse Nat) : (s.setUcMap k m).ctxs = s.ctxs := rfl
@[simp] theorem State.setUcMap_bays (k : Nat) (m : Sparse Nat) : (s.setUcMap k m).bays = s.bays := rfl
@[simp] theorem State.setUcMap_px (k : Nat) (m : Sparse Nat) : (s.setUcMap k m).px = s.px := rfl
@[simp] theorem State.setUcMap_ce (k : Nat) (m : Sparse Nat) : (s.setUcMap k m).ce = s.ce := rfl
@[simp] theorem State.setUcMap_sram (k : Nat) (m : Sparse Nat) : (s.setUcMap k m).sram = s.sram := rfl
@[simp] theorem State.setUcMap_bins (k : Nat) (m : Sparse Nat) : (s.setUcMap k m).bins = s.bins := rfl
@[simp] theorem State.setUcMap_ledger (k : Nat) (m : Sparse Nat) : (s.setUcMap k m).ledger = s.ledger := rfl
@[simp] theorem State.setUcMap_margin (k : Nat) (m : Sparse Nat) : (s.setUcMap k m).margin = s.margin := rfl
@[simp] theorem State.setUcMap_sigs (k : Nat) (m : Sparse Nat) : (s.setUcMap k m).sigs = s.sigs := rfl
@[simp] theorem State.setUcMap_dpOuts (k : Nat) (m : Sparse Nat) : (s.setUcMap k m).dpOuts = s.dpOuts := rfl
@[simp] theorem State.setUcMap_drams (k : Nat) (m : Sparse Nat) : (s.setUcMap k m).drams = s.drams := rfl
@[simp] theorem State.setUcMap_refc (k : Nat) (m : Sparse Nat) : (s.setUcMap k m).refc = s.refc := rfl
@[simp] theorem State.setUcMap_dpIns (k : Nat) (m : Sparse Nat) : (s.setUcMap k m).dpIns = s.dpIns := rfl
@[simp] theorem State.setUcMap_otp (k : Nat) (m : Sparse Nat) : (s.setUcMap k m).otp = s.otp := rfl
@[simp] theorem State.setUcMap_flash (k : Nat) (m : Sparse Nat) : (s.setUcMap k m).flash = s.flash := rfl
@[simp] theorem State.setUcMap_flows (k : Nat) (m : Sparse Nat) : (s.setUcMap k m).flows = s.flows := rfl
@[simp] theorem State.setUcMap_macs (k : Nat) (m : Sparse Nat) : (s.setUcMap k m).macs = s.macs := rfl
@[simp] theorem State.setUcMap_sessWait (k : Nat) (m : Sparse Nat) : (s.setUcMap k m).sessWait = s.sessWait := rfl
@[simp] theorem State.setUcMap_queues (k : Nat) (m : Sparse Nat) : (s.setUcMap k m).queues = s.queues := rfl
@[simp] theorem State.setUcMap_served (k : Nat) (m : Sparse Nat) : (s.setUcMap k m).served = s.served := rfl
@[simp] theorem State.setUcMap_policers (k : Nat) (m : Sparse Nat) : (s.setUcMap k m).policers = s.policers := rfl
@[simp] theorem State.setUcMap_pool (k : Nat) (m : Sparse Nat) : (s.setUcMap k m).pool = s.pool := rfl
@[simp] theorem State.setUcMap_cuex (k : Nat) (m : Sparse Nat) : (s.setUcMap k m).cuex = s.cuex := rfl
@[simp] theorem State.setUcMap_fifos (k : Nat) (m : Sparse Nat) : (s.setUcMap k m).fifos = s.fifos := rfl
@[simp] theorem State.setUcMap_cvu (k : Nat) (m : Sparse Nat) : (s.setUcMap k m).cvu = s.cvu := rfl
@[simp] theorem State.setUcMap_host (k : Nat) (m : Sparse Nat) : (s.setUcMap k m).host = s.host := rfl
@[simp] theorem State.setUcMap_dma (k : Nat) (m : Sparse Nat) : (s.setUcMap k m).dma = s.dma := rfl
@[simp] theorem State.setUcMap_pcie (k : Nat) (m : Sparse Nat) : (s.setUcMap k m).pcie = s.pcie := rfl
@[simp] theorem State.setUcMap_tap (k : Nat) (m : Sparse Nat) : (s.setUcMap k m).tap = s.tap := rfl
@[simp] theorem State.setUcMap_pair (k : Nat) (m : Sparse Nat) : (s.setUcMap k m).pair = s.pair := rfl
@[simp] theorem State.setUcMap_ptp (k : Nat) (m : Sparse Nat) : (s.setUcMap k m).ptp = s.ptp := rfl
@[simp] theorem State.setUcMap_out (k : Nat) (m : Sparse Nat) : (s.setUcMap k m).out = s.out := rfl
@[simp] theorem State.setUcMap_freeCtr (k : Nat) (m : Sparse Nat) : (s.setUcMap k m).freeCtr = s.freeCtr := rfl
@[simp] theorem State.setUcMap_reg (k : Nat) (m : Sparse Nat) (j : Nat) : (s.setUcMap k m).reg j = s.reg j := rfl
@[simp] theorem State.setUcMap_ctx (k : Nat) (m : Sparse Nat) (j : Nat) : (s.setUcMap k m).ctx j = s.ctx j := rfl

@[simp] theorem State.setSram_pending (b : Nat) (a : Nat) (v : Nat) : (s.setSram b a v).pending = s.pending := rfl
@[simp] theorem State.setSram_regs (b : Nat) (a : Nat) (v : Nat) : (s.setSram b a v).regs = s.regs := rfl
@[simp] theorem State.setSram_latches (b : Nat) (a : Nat) (v : Nat) : (s.setSram b a v).latches = s.latches := rfl
@[simp] theorem State.setSram_mem (b : Nat) (a : Nat) (v : Nat) : (s.setSram b a v).mem = s.mem := rfl
@[simp] theorem State.setSram_scrap (b : Nat) (a : Nat) (v : Nat) : (s.setSram b a v).scrap = s.scrap := rfl
@[simp] theorem State.setSram_hostMem (b : Nat) (a : Nat) (v : Nat) : (s.setSram b a v).hostMem = s.hostMem := rfl
@[simp] theorem State.setSram_rc (b : Nat) (a : Nat) (v : Nat) : (s.setSram b a v).rc = s.rc := rfl
@[simp] theorem State.setSram_fc (b : Nat) (a : Nat) (v : Nat) : (s.setSram b a v).fc = s.fc := rfl
@[simp] theorem State.setSram_trust (b : Nat) (a : Nat) (v : Nat) : (s.setSram b a v).trust = s.trust := rfl
@[simp] theorem State.setSram_tb (b : Nat) (a : Nat) (v : Nat) : (s.setSram b a v).tb = s.tb := rfl
@[simp] theorem State.setSram_ctxs (b : Nat) (a : Nat) (v : Nat) : (s.setSram b a v).ctxs = s.ctxs := rfl
@[simp] theorem State.setSram_bays (b : Nat) (a : Nat) (v : Nat) : (s.setSram b a v).bays = s.bays := rfl
@[simp] theorem State.setSram_px (b : Nat) (a : Nat) (v : Nat) : (s.setSram b a v).px = s.px := rfl
@[simp] theorem State.setSram_ce (b : Nat) (a : Nat) (v : Nat) : (s.setSram b a v).ce = s.ce := rfl
@[simp] theorem State.setSram_stores (b : Nat) (a : Nat) (v : Nat) : (s.setSram b a v).stores = s.stores := rfl
@[simp] theorem State.setSram_bins (b : Nat) (a : Nat) (v : Nat) : (s.setSram b a v).bins = s.bins := rfl
@[simp] theorem State.setSram_ledger (b : Nat) (a : Nat) (v : Nat) : (s.setSram b a v).ledger = s.ledger := rfl
@[simp] theorem State.setSram_margin (b : Nat) (a : Nat) (v : Nat) : (s.setSram b a v).margin = s.margin := rfl
@[simp] theorem State.setSram_sigs (b : Nat) (a : Nat) (v : Nat) : (s.setSram b a v).sigs = s.sigs := rfl
@[simp] theorem State.setSram_dpOuts (b : Nat) (a : Nat) (v : Nat) : (s.setSram b a v).dpOuts = s.dpOuts := rfl
@[simp] theorem State.setSram_drams (b : Nat) (a : Nat) (v : Nat) : (s.setSram b a v).drams = s.drams := rfl
@[simp] theorem State.setSram_refc (b : Nat) (a : Nat) (v : Nat) : (s.setSram b a v).refc = s.refc := rfl
@[simp] theorem State.setSram_dpIns (b : Nat) (a : Nat) (v : Nat) : (s.setSram b a v).dpIns = s.dpIns := rfl
@[simp] theorem State.setSram_otp (b : Nat) (a : Nat) (v : Nat) : (s.setSram b a v).otp = s.otp := rfl
@[simp] theorem State.setSram_flash (b : Nat) (a : Nat) (v : Nat) : (s.setSram b a v).flash = s.flash := rfl
@[simp] theorem State.setSram_flows (b : Nat) (a : Nat) (v : Nat) : (s.setSram b a v).flows = s.flows := rfl
@[simp] theorem State.setSram_macs (b : Nat) (a : Nat) (v : Nat) : (s.setSram b a v).macs = s.macs := rfl
@[simp] theorem State.setSram_sessWait (b : Nat) (a : Nat) (v : Nat) : (s.setSram b a v).sessWait = s.sessWait := rfl
@[simp] theorem State.setSram_queues (b : Nat) (a : Nat) (v : Nat) : (s.setSram b a v).queues = s.queues := rfl
@[simp] theorem State.setSram_served (b : Nat) (a : Nat) (v : Nat) : (s.setSram b a v).served = s.served := rfl
@[simp] theorem State.setSram_policers (b : Nat) (a : Nat) (v : Nat) : (s.setSram b a v).policers = s.policers := rfl
@[simp] theorem State.setSram_pool (b : Nat) (a : Nat) (v : Nat) : (s.setSram b a v).pool = s.pool := rfl
@[simp] theorem State.setSram_cuex (b : Nat) (a : Nat) (v : Nat) : (s.setSram b a v).cuex = s.cuex := rfl
@[simp] theorem State.setSram_fifos (b : Nat) (a : Nat) (v : Nat) : (s.setSram b a v).fifos = s.fifos := rfl
@[simp] theorem State.setSram_cvu (b : Nat) (a : Nat) (v : Nat) : (s.setSram b a v).cvu = s.cvu := rfl
@[simp] theorem State.setSram_host (b : Nat) (a : Nat) (v : Nat) : (s.setSram b a v).host = s.host := rfl
@[simp] theorem State.setSram_dma (b : Nat) (a : Nat) (v : Nat) : (s.setSram b a v).dma = s.dma := rfl
@[simp] theorem State.setSram_pcie (b : Nat) (a : Nat) (v : Nat) : (s.setSram b a v).pcie = s.pcie := rfl
@[simp] theorem State.setSram_tap (b : Nat) (a : Nat) (v : Nat) : (s.setSram b a v).tap = s.tap := rfl
@[simp] theorem State.setSram_pair (b : Nat) (a : Nat) (v : Nat) : (s.setSram b a v).pair = s.pair := rfl
@[simp] theorem State.setSram_ptp (b : Nat) (a : Nat) (v : Nat) : (s.setSram b a v).ptp = s.ptp := rfl
@[simp] theorem State.setSram_out (b : Nat) (a : Nat) (v : Nat) : (s.setSram b a v).out = s.out := rfl
@[simp] theorem State.setSram_freeCtr (b : Nat) (a : Nat) (v : Nat) : (s.setSram b a v).freeCtr = s.freeCtr := rfl
@[simp] theorem State.setSram_reg (b : Nat) (a : Nat) (v : Nat) (j : Nat) : (s.setSram b a v).reg j = s.reg j := rfl
@[simp] theorem State.setSram_ctx (b : Nat) (a : Nat) (v : Nat) (j : Nat) : (s.setSram b a v).ctx j = s.ctx j := rfl

@[simp] theorem State.setHostQ_pending (q : Nat) (x : HostQ) : (s.setHostQ q x).pending = s.pending := rfl
@[simp] theorem State.setHostQ_regs (q : Nat) (x : HostQ) : (s.setHostQ q x).regs = s.regs := rfl
@[simp] theorem State.setHostQ_latches (q : Nat) (x : HostQ) : (s.setHostQ q x).latches = s.latches := rfl
@[simp] theorem State.setHostQ_mem (q : Nat) (x : HostQ) : (s.setHostQ q x).mem = s.mem := rfl
@[simp] theorem State.setHostQ_scrap (q : Nat) (x : HostQ) : (s.setHostQ q x).scrap = s.scrap := rfl
@[simp] theorem State.setHostQ_hostMem (q : Nat) (x : HostQ) : (s.setHostQ q x).hostMem = s.hostMem := rfl
@[simp] theorem State.setHostQ_rc (q : Nat) (x : HostQ) : (s.setHostQ q x).rc = s.rc := rfl
@[simp] theorem State.setHostQ_fc (q : Nat) (x : HostQ) : (s.setHostQ q x).fc = s.fc := rfl
@[simp] theorem State.setHostQ_trust (q : Nat) (x : HostQ) : (s.setHostQ q x).trust = s.trust := rfl
@[simp] theorem State.setHostQ_tb (q : Nat) (x : HostQ) : (s.setHostQ q x).tb = s.tb := rfl
@[simp] theorem State.setHostQ_ctxs (q : Nat) (x : HostQ) : (s.setHostQ q x).ctxs = s.ctxs := rfl
@[simp] theorem State.setHostQ_bays (q : Nat) (x : HostQ) : (s.setHostQ q x).bays = s.bays := rfl
@[simp] theorem State.setHostQ_px (q : Nat) (x : HostQ) : (s.setHostQ q x).px = s.px := rfl
@[simp] theorem State.setHostQ_ce (q : Nat) (x : HostQ) : (s.setHostQ q x).ce = s.ce := rfl
@[simp] theorem State.setHostQ_stores (q : Nat) (x : HostQ) : (s.setHostQ q x).stores = s.stores := rfl
@[simp] theorem State.setHostQ_sram (q : Nat) (x : HostQ) : (s.setHostQ q x).sram = s.sram := rfl
@[simp] theorem State.setHostQ_bins (q : Nat) (x : HostQ) : (s.setHostQ q x).bins = s.bins := rfl
@[simp] theorem State.setHostQ_ledger (q : Nat) (x : HostQ) : (s.setHostQ q x).ledger = s.ledger := rfl
@[simp] theorem State.setHostQ_margin (q : Nat) (x : HostQ) : (s.setHostQ q x).margin = s.margin := rfl
@[simp] theorem State.setHostQ_sigs (q : Nat) (x : HostQ) : (s.setHostQ q x).sigs = s.sigs := rfl
@[simp] theorem State.setHostQ_dpOuts (q : Nat) (x : HostQ) : (s.setHostQ q x).dpOuts = s.dpOuts := rfl
@[simp] theorem State.setHostQ_drams (q : Nat) (x : HostQ) : (s.setHostQ q x).drams = s.drams := rfl
@[simp] theorem State.setHostQ_refc (q : Nat) (x : HostQ) : (s.setHostQ q x).refc = s.refc := rfl
@[simp] theorem State.setHostQ_dpIns (q : Nat) (x : HostQ) : (s.setHostQ q x).dpIns = s.dpIns := rfl
@[simp] theorem State.setHostQ_otp (q : Nat) (x : HostQ) : (s.setHostQ q x).otp = s.otp := rfl
@[simp] theorem State.setHostQ_flash (q : Nat) (x : HostQ) : (s.setHostQ q x).flash = s.flash := rfl
@[simp] theorem State.setHostQ_flows (q : Nat) (x : HostQ) : (s.setHostQ q x).flows = s.flows := rfl
@[simp] theorem State.setHostQ_macs (q : Nat) (x : HostQ) : (s.setHostQ q x).macs = s.macs := rfl
@[simp] theorem State.setHostQ_sessWait (q : Nat) (x : HostQ) : (s.setHostQ q x).sessWait = s.sessWait := rfl
@[simp] theorem State.setHostQ_queues (q : Nat) (x : HostQ) : (s.setHostQ q x).queues = s.queues := rfl
@[simp] theorem State.setHostQ_served (q : Nat) (x : HostQ) : (s.setHostQ q x).served = s.served := rfl
@[simp] theorem State.setHostQ_policers (q : Nat) (x : HostQ) : (s.setHostQ q x).policers = s.policers := rfl
@[simp] theorem State.setHostQ_pool (q : Nat) (x : HostQ) : (s.setHostQ q x).pool = s.pool := rfl
@[simp] theorem State.setHostQ_cuex (q : Nat) (x : HostQ) : (s.setHostQ q x).cuex = s.cuex := rfl
@[simp] theorem State.setHostQ_fifos (q : Nat) (x : HostQ) : (s.setHostQ q x).fifos = s.fifos := rfl
@[simp] theorem State.setHostQ_cvu (q : Nat) (x : HostQ) : (s.setHostQ q x).cvu = s.cvu := rfl
@[simp] theorem State.setHostQ_dma (q : Nat) (x : HostQ) : (s.setHostQ q x).dma = s.dma := rfl
@[simp] theorem State.setHostQ_pcie (q : Nat) (x : HostQ) : (s.setHostQ q x).pcie = s.pcie := rfl
@[simp] theorem State.setHostQ_tap (q : Nat) (x : HostQ) : (s.setHostQ q x).tap = s.tap := rfl
@[simp] theorem State.setHostQ_pair (q : Nat) (x : HostQ) : (s.setHostQ q x).pair = s.pair := rfl
@[simp] theorem State.setHostQ_ptp (q : Nat) (x : HostQ) : (s.setHostQ q x).ptp = s.ptp := rfl
@[simp] theorem State.setHostQ_out (q : Nat) (x : HostQ) : (s.setHostQ q x).out = s.out := rfl
@[simp] theorem State.setHostQ_freeCtr (q : Nat) (x : HostQ) : (s.setHostQ q x).freeCtr = s.freeCtr := rfl
@[simp] theorem State.setHostQ_reg (q : Nat) (x : HostQ) (j : Nat) : (s.setHostQ q x).reg j = s.reg j := rfl
@[simp] theorem State.setHostQ_ctx (q : Nat) (x : HostQ) (j : Nat) : (s.setHostQ q x).ctx j = s.ctx j := rfl

@[simp] theorem State.setDma_pending (c : Nat) (x : DmaCh) : (s.setDma c x).pending = s.pending := rfl
@[simp] theorem State.setDma_regs (c : Nat) (x : DmaCh) : (s.setDma c x).regs = s.regs := rfl
@[simp] theorem State.setDma_latches (c : Nat) (x : DmaCh) : (s.setDma c x).latches = s.latches := rfl
@[simp] theorem State.setDma_mem (c : Nat) (x : DmaCh) : (s.setDma c x).mem = s.mem := rfl
@[simp] theorem State.setDma_scrap (c : Nat) (x : DmaCh) : (s.setDma c x).scrap = s.scrap := rfl
@[simp] theorem State.setDma_hostMem (c : Nat) (x : DmaCh) : (s.setDma c x).hostMem = s.hostMem := rfl
@[simp] theorem State.setDma_rc (c : Nat) (x : DmaCh) : (s.setDma c x).rc = s.rc := rfl
@[simp] theorem State.setDma_fc (c : Nat) (x : DmaCh) : (s.setDma c x).fc = s.fc := rfl
@[simp] theorem State.setDma_trust (c : Nat) (x : DmaCh) : (s.setDma c x).trust = s.trust := rfl
@[simp] theorem State.setDma_tb (c : Nat) (x : DmaCh) : (s.setDma c x).tb = s.tb := rfl
@[simp] theorem State.setDma_ctxs (c : Nat) (x : DmaCh) : (s.setDma c x).ctxs = s.ctxs := rfl
@[simp] theorem State.setDma_bays (c : Nat) (x : DmaCh) : (s.setDma c x).bays = s.bays := rfl
@[simp] theorem State.setDma_px (c : Nat) (x : DmaCh) : (s.setDma c x).px = s.px := rfl
@[simp] theorem State.setDma_ce (c : Nat) (x : DmaCh) : (s.setDma c x).ce = s.ce := rfl
@[simp] theorem State.setDma_stores (c : Nat) (x : DmaCh) : (s.setDma c x).stores = s.stores := rfl
@[simp] theorem State.setDma_sram (c : Nat) (x : DmaCh) : (s.setDma c x).sram = s.sram := rfl
@[simp] theorem State.setDma_bins (c : Nat) (x : DmaCh) : (s.setDma c x).bins = s.bins := rfl
@[simp] theorem State.setDma_ledger (c : Nat) (x : DmaCh) : (s.setDma c x).ledger = s.ledger := rfl
@[simp] theorem State.setDma_margin (c : Nat) (x : DmaCh) : (s.setDma c x).margin = s.margin := rfl
@[simp] theorem State.setDma_sigs (c : Nat) (x : DmaCh) : (s.setDma c x).sigs = s.sigs := rfl
@[simp] theorem State.setDma_dpOuts (c : Nat) (x : DmaCh) : (s.setDma c x).dpOuts = s.dpOuts := rfl
@[simp] theorem State.setDma_drams (c : Nat) (x : DmaCh) : (s.setDma c x).drams = s.drams := rfl
@[simp] theorem State.setDma_refc (c : Nat) (x : DmaCh) : (s.setDma c x).refc = s.refc := rfl
@[simp] theorem State.setDma_dpIns (c : Nat) (x : DmaCh) : (s.setDma c x).dpIns = s.dpIns := rfl
@[simp] theorem State.setDma_otp (c : Nat) (x : DmaCh) : (s.setDma c x).otp = s.otp := rfl
@[simp] theorem State.setDma_flash (c : Nat) (x : DmaCh) : (s.setDma c x).flash = s.flash := rfl
@[simp] theorem State.setDma_flows (c : Nat) (x : DmaCh) : (s.setDma c x).flows = s.flows := rfl
@[simp] theorem State.setDma_macs (c : Nat) (x : DmaCh) : (s.setDma c x).macs = s.macs := rfl
@[simp] theorem State.setDma_sessWait (c : Nat) (x : DmaCh) : (s.setDma c x).sessWait = s.sessWait := rfl
@[simp] theorem State.setDma_queues (c : Nat) (x : DmaCh) : (s.setDma c x).queues = s.queues := rfl
@[simp] theorem State.setDma_served (c : Nat) (x : DmaCh) : (s.setDma c x).served = s.served := rfl
@[simp] theorem State.setDma_policers (c : Nat) (x : DmaCh) : (s.setDma c x).policers = s.policers := rfl
@[simp] theorem State.setDma_pool (c : Nat) (x : DmaCh) : (s.setDma c x).pool = s.pool := rfl
@[simp] theorem State.setDma_cuex (c : Nat) (x : DmaCh) : (s.setDma c x).cuex = s.cuex := rfl
@[simp] theorem State.setDma_fifos (c : Nat) (x : DmaCh) : (s.setDma c x).fifos = s.fifos := rfl
@[simp] theorem State.setDma_cvu (c : Nat) (x : DmaCh) : (s.setDma c x).cvu = s.cvu := rfl
@[simp] theorem State.setDma_host (c : Nat) (x : DmaCh) : (s.setDma c x).host = s.host := rfl
@[simp] theorem State.setDma_pcie (c : Nat) (x : DmaCh) : (s.setDma c x).pcie = s.pcie := rfl
@[simp] theorem State.setDma_tap (c : Nat) (x : DmaCh) : (s.setDma c x).tap = s.tap := rfl
@[simp] theorem State.setDma_pair (c : Nat) (x : DmaCh) : (s.setDma c x).pair = s.pair := rfl
@[simp] theorem State.setDma_ptp (c : Nat) (x : DmaCh) : (s.setDma c x).ptp = s.ptp := rfl
@[simp] theorem State.setDma_out (c : Nat) (x : DmaCh) : (s.setDma c x).out = s.out := rfl
@[simp] theorem State.setDma_freeCtr (c : Nat) (x : DmaCh) : (s.setDma c x).freeCtr = s.freeCtr := rfl
@[simp] theorem State.setDma_reg (c : Nat) (x : DmaCh) (j : Nat) : (s.setDma c x).reg j = s.reg j := rfl
@[simp] theorem State.setDma_ctx (c : Nat) (x : DmaCh) (j : Nat) : (s.setDma c x).ctx j = s.ctx j := rfl

@[simp] theorem State.modDma_pending (c : Nat) (f : DmaCh → DmaCh) : (s.modDma c f).pending = s.pending := rfl
@[simp] theorem State.modDma_regs (c : Nat) (f : DmaCh → DmaCh) : (s.modDma c f).regs = s.regs := rfl
@[simp] theorem State.modDma_latches (c : Nat) (f : DmaCh → DmaCh) : (s.modDma c f).latches = s.latches := rfl
@[simp] theorem State.modDma_mem (c : Nat) (f : DmaCh → DmaCh) : (s.modDma c f).mem = s.mem := rfl
@[simp] theorem State.modDma_scrap (c : Nat) (f : DmaCh → DmaCh) : (s.modDma c f).scrap = s.scrap := rfl
@[simp] theorem State.modDma_hostMem (c : Nat) (f : DmaCh → DmaCh) : (s.modDma c f).hostMem = s.hostMem := rfl
@[simp] theorem State.modDma_rc (c : Nat) (f : DmaCh → DmaCh) : (s.modDma c f).rc = s.rc := rfl
@[simp] theorem State.modDma_fc (c : Nat) (f : DmaCh → DmaCh) : (s.modDma c f).fc = s.fc := rfl
@[simp] theorem State.modDma_trust (c : Nat) (f : DmaCh → DmaCh) : (s.modDma c f).trust = s.trust := rfl
@[simp] theorem State.modDma_tb (c : Nat) (f : DmaCh → DmaCh) : (s.modDma c f).tb = s.tb := rfl
@[simp] theorem State.modDma_ctxs (c : Nat) (f : DmaCh → DmaCh) : (s.modDma c f).ctxs = s.ctxs := rfl
@[simp] theorem State.modDma_bays (c : Nat) (f : DmaCh → DmaCh) : (s.modDma c f).bays = s.bays := rfl
@[simp] theorem State.modDma_px (c : Nat) (f : DmaCh → DmaCh) : (s.modDma c f).px = s.px := rfl
@[simp] theorem State.modDma_ce (c : Nat) (f : DmaCh → DmaCh) : (s.modDma c f).ce = s.ce := rfl
@[simp] theorem State.modDma_stores (c : Nat) (f : DmaCh → DmaCh) : (s.modDma c f).stores = s.stores := rfl
@[simp] theorem State.modDma_sram (c : Nat) (f : DmaCh → DmaCh) : (s.modDma c f).sram = s.sram := rfl
@[simp] theorem State.modDma_bins (c : Nat) (f : DmaCh → DmaCh) : (s.modDma c f).bins = s.bins := rfl
@[simp] theorem State.modDma_ledger (c : Nat) (f : DmaCh → DmaCh) : (s.modDma c f).ledger = s.ledger := rfl
@[simp] theorem State.modDma_margin (c : Nat) (f : DmaCh → DmaCh) : (s.modDma c f).margin = s.margin := rfl
@[simp] theorem State.modDma_sigs (c : Nat) (f : DmaCh → DmaCh) : (s.modDma c f).sigs = s.sigs := rfl
@[simp] theorem State.modDma_dpOuts (c : Nat) (f : DmaCh → DmaCh) : (s.modDma c f).dpOuts = s.dpOuts := rfl
@[simp] theorem State.modDma_drams (c : Nat) (f : DmaCh → DmaCh) : (s.modDma c f).drams = s.drams := rfl
@[simp] theorem State.modDma_refc (c : Nat) (f : DmaCh → DmaCh) : (s.modDma c f).refc = s.refc := rfl
@[simp] theorem State.modDma_dpIns (c : Nat) (f : DmaCh → DmaCh) : (s.modDma c f).dpIns = s.dpIns := rfl
@[simp] theorem State.modDma_otp (c : Nat) (f : DmaCh → DmaCh) : (s.modDma c f).otp = s.otp := rfl
@[simp] theorem State.modDma_flash (c : Nat) (f : DmaCh → DmaCh) : (s.modDma c f).flash = s.flash := rfl
@[simp] theorem State.modDma_flows (c : Nat) (f : DmaCh → DmaCh) : (s.modDma c f).flows = s.flows := rfl
@[simp] theorem State.modDma_macs (c : Nat) (f : DmaCh → DmaCh) : (s.modDma c f).macs = s.macs := rfl
@[simp] theorem State.modDma_sessWait (c : Nat) (f : DmaCh → DmaCh) : (s.modDma c f).sessWait = s.sessWait := rfl
@[simp] theorem State.modDma_queues (c : Nat) (f : DmaCh → DmaCh) : (s.modDma c f).queues = s.queues := rfl
@[simp] theorem State.modDma_served (c : Nat) (f : DmaCh → DmaCh) : (s.modDma c f).served = s.served := rfl
@[simp] theorem State.modDma_policers (c : Nat) (f : DmaCh → DmaCh) : (s.modDma c f).policers = s.policers := rfl
@[simp] theorem State.modDma_pool (c : Nat) (f : DmaCh → DmaCh) : (s.modDma c f).pool = s.pool := rfl
@[simp] theorem State.modDma_cuex (c : Nat) (f : DmaCh → DmaCh) : (s.modDma c f).cuex = s.cuex := rfl
@[simp] theorem State.modDma_fifos (c : Nat) (f : DmaCh → DmaCh) : (s.modDma c f).fifos = s.fifos := rfl
@[simp] theorem State.modDma_cvu (c : Nat) (f : DmaCh → DmaCh) : (s.modDma c f).cvu = s.cvu := rfl
@[simp] theorem State.modDma_host (c : Nat) (f : DmaCh → DmaCh) : (s.modDma c f).host = s.host := rfl
@[simp] theorem State.modDma_pcie (c : Nat) (f : DmaCh → DmaCh) : (s.modDma c f).pcie = s.pcie := rfl
@[simp] theorem State.modDma_tap (c : Nat) (f : DmaCh → DmaCh) : (s.modDma c f).tap = s.tap := rfl
@[simp] theorem State.modDma_pair (c : Nat) (f : DmaCh → DmaCh) : (s.modDma c f).pair = s.pair := rfl
@[simp] theorem State.modDma_ptp (c : Nat) (f : DmaCh → DmaCh) : (s.modDma c f).ptp = s.ptp := rfl
@[simp] theorem State.modDma_out (c : Nat) (f : DmaCh → DmaCh) : (s.modDma c f).out = s.out := rfl
@[simp] theorem State.modDma_freeCtr (c : Nat) (f : DmaCh → DmaCh) : (s.modDma c f).freeCtr = s.freeCtr := rfl
@[simp] theorem State.modDma_reg (c : Nat) (f : DmaCh → DmaCh) (j : Nat) : (s.modDma c f).reg j = s.reg j := rfl
@[simp] theorem State.modDma_ctx (c : Nat) (f : DmaCh → DmaCh) (j : Nat) : (s.modDma c f).ctx j = s.ctx j := rfl

@[simp] theorem State.setLatch_pending (k : Nat) (v : Option Word) : (s.setLatch k v).pending = s.pending := rfl
@[simp] theorem State.setLatch_regs (k : Nat) (v : Option Word) : (s.setLatch k v).regs = s.regs := rfl
@[simp] theorem State.setLatch_mem (k : Nat) (v : Option Word) : (s.setLatch k v).mem = s.mem := rfl
@[simp] theorem State.setLatch_scrap (k : Nat) (v : Option Word) : (s.setLatch k v).scrap = s.scrap := rfl
@[simp] theorem State.setLatch_hostMem (k : Nat) (v : Option Word) : (s.setLatch k v).hostMem = s.hostMem := rfl
@[simp] theorem State.setLatch_rc (k : Nat) (v : Option Word) : (s.setLatch k v).rc = s.rc := rfl
@[simp] theorem State.setLatch_fc (k : Nat) (v : Option Word) : (s.setLatch k v).fc = s.fc := rfl
@[simp] theorem State.setLatch_trust (k : Nat) (v : Option Word) : (s.setLatch k v).trust = s.trust := rfl
@[simp] theorem State.setLatch_tb (k : Nat) (v : Option Word) : (s.setLatch k v).tb = s.tb := rfl
@[simp] theorem State.setLatch_ctxs (k : Nat) (v : Option Word) : (s.setLatch k v).ctxs = s.ctxs := rfl
@[simp] theorem State.setLatch_bays (k : Nat) (v : Option Word) : (s.setLatch k v).bays = s.bays := rfl
@[simp] theorem State.setLatch_px (k : Nat) (v : Option Word) : (s.setLatch k v).px = s.px := rfl
@[simp] theorem State.setLatch_ce (k : Nat) (v : Option Word) : (s.setLatch k v).ce = s.ce := rfl
@[simp] theorem State.setLatch_stores (k : Nat) (v : Option Word) : (s.setLatch k v).stores = s.stores := rfl
@[simp] theorem State.setLatch_sram (k : Nat) (v : Option Word) : (s.setLatch k v).sram = s.sram := rfl
@[simp] theorem State.setLatch_bins (k : Nat) (v : Option Word) : (s.setLatch k v).bins = s.bins := rfl
@[simp] theorem State.setLatch_ledger (k : Nat) (v : Option Word) : (s.setLatch k v).ledger = s.ledger := rfl
@[simp] theorem State.setLatch_margin (k : Nat) (v : Option Word) : (s.setLatch k v).margin = s.margin := rfl
@[simp] theorem State.setLatch_sigs (k : Nat) (v : Option Word) : (s.setLatch k v).sigs = s.sigs := rfl
@[simp] theorem State.setLatch_dpOuts (k : Nat) (v : Option Word) : (s.setLatch k v).dpOuts = s.dpOuts := rfl
@[simp] theorem State.setLatch_drams (k : Nat) (v : Option Word) : (s.setLatch k v).drams = s.drams := rfl
@[simp] theorem State.setLatch_refc (k : Nat) (v : Option Word) : (s.setLatch k v).refc = s.refc := rfl
@[simp] theorem State.setLatch_dpIns (k : Nat) (v : Option Word) : (s.setLatch k v).dpIns = s.dpIns := rfl
@[simp] theorem State.setLatch_otp (k : Nat) (v : Option Word) : (s.setLatch k v).otp = s.otp := rfl
@[simp] theorem State.setLatch_flash (k : Nat) (v : Option Word) : (s.setLatch k v).flash = s.flash := rfl
@[simp] theorem State.setLatch_flows (k : Nat) (v : Option Word) : (s.setLatch k v).flows = s.flows := rfl
@[simp] theorem State.setLatch_macs (k : Nat) (v : Option Word) : (s.setLatch k v).macs = s.macs := rfl
@[simp] theorem State.setLatch_sessWait (k : Nat) (v : Option Word) : (s.setLatch k v).sessWait = s.sessWait := rfl
@[simp] theorem State.setLatch_queues (k : Nat) (v : Option Word) : (s.setLatch k v).queues = s.queues := rfl
@[simp] theorem State.setLatch_served (k : Nat) (v : Option Word) : (s.setLatch k v).served = s.served := rfl
@[simp] theorem State.setLatch_policers (k : Nat) (v : Option Word) : (s.setLatch k v).policers = s.policers := rfl
@[simp] theorem State.setLatch_pool (k : Nat) (v : Option Word) : (s.setLatch k v).pool = s.pool := rfl
@[simp] theorem State.setLatch_cuex (k : Nat) (v : Option Word) : (s.setLatch k v).cuex = s.cuex := rfl
@[simp] theorem State.setLatch_fifos (k : Nat) (v : Option Word) : (s.setLatch k v).fifos = s.fifos := rfl
@[simp] theorem State.setLatch_cvu (k : Nat) (v : Option Word) : (s.setLatch k v).cvu = s.cvu := rfl
@[simp] theorem State.setLatch_host (k : Nat) (v : Option Word) : (s.setLatch k v).host = s.host := rfl
@[simp] theorem State.setLatch_dma (k : Nat) (v : Option Word) : (s.setLatch k v).dma = s.dma := rfl
@[simp] theorem State.setLatch_pcie (k : Nat) (v : Option Word) : (s.setLatch k v).pcie = s.pcie := rfl
@[simp] theorem State.setLatch_tap (k : Nat) (v : Option Word) : (s.setLatch k v).tap = s.tap := rfl
@[simp] theorem State.setLatch_pair (k : Nat) (v : Option Word) : (s.setLatch k v).pair = s.pair := rfl
@[simp] theorem State.setLatch_ptp (k : Nat) (v : Option Word) : (s.setLatch k v).ptp = s.ptp := rfl
@[simp] theorem State.setLatch_out (k : Nat) (v : Option Word) : (s.setLatch k v).out = s.out := rfl
@[simp] theorem State.setLatch_freeCtr (k : Nat) (v : Option Word) : (s.setLatch k v).freeCtr = s.freeCtr := rfl
@[simp] theorem State.setLatch_ctx (k : Nat) (v : Option Word) (j : Nat) : (s.setLatch k v).ctx j = s.ctx j := rfl

@[simp] theorem State.setCe_pending (n : Nat) (x : CeEng) : (s.setCe n x).pending = s.pending := rfl
@[simp] theorem State.setCe_regs (n : Nat) (x : CeEng) : (s.setCe n x).regs = s.regs := rfl
@[simp] theorem State.setCe_latches (n : Nat) (x : CeEng) : (s.setCe n x).latches = s.latches := rfl
@[simp] theorem State.setCe_mem (n : Nat) (x : CeEng) : (s.setCe n x).mem = s.mem := rfl
@[simp] theorem State.setCe_scrap (n : Nat) (x : CeEng) : (s.setCe n x).scrap = s.scrap := rfl
@[simp] theorem State.setCe_hostMem (n : Nat) (x : CeEng) : (s.setCe n x).hostMem = s.hostMem := rfl
@[simp] theorem State.setCe_rc (n : Nat) (x : CeEng) : (s.setCe n x).rc = s.rc := rfl
@[simp] theorem State.setCe_fc (n : Nat) (x : CeEng) : (s.setCe n x).fc = s.fc := rfl
@[simp] theorem State.setCe_trust (n : Nat) (x : CeEng) : (s.setCe n x).trust = s.trust := rfl
@[simp] theorem State.setCe_tb (n : Nat) (x : CeEng) : (s.setCe n x).tb = s.tb := rfl
@[simp] theorem State.setCe_ctxs (n : Nat) (x : CeEng) : (s.setCe n x).ctxs = s.ctxs := rfl
@[simp] theorem State.setCe_bays (n : Nat) (x : CeEng) : (s.setCe n x).bays = s.bays := rfl
@[simp] theorem State.setCe_px (n : Nat) (x : CeEng) : (s.setCe n x).px = s.px := rfl
@[simp] theorem State.setCe_stores (n : Nat) (x : CeEng) : (s.setCe n x).stores = s.stores := rfl
@[simp] theorem State.setCe_sram (n : Nat) (x : CeEng) : (s.setCe n x).sram = s.sram := rfl
@[simp] theorem State.setCe_bins (n : Nat) (x : CeEng) : (s.setCe n x).bins = s.bins := rfl
@[simp] theorem State.setCe_ledger (n : Nat) (x : CeEng) : (s.setCe n x).ledger = s.ledger := rfl
@[simp] theorem State.setCe_margin (n : Nat) (x : CeEng) : (s.setCe n x).margin = s.margin := rfl
@[simp] theorem State.setCe_sigs (n : Nat) (x : CeEng) : (s.setCe n x).sigs = s.sigs := rfl
@[simp] theorem State.setCe_dpOuts (n : Nat) (x : CeEng) : (s.setCe n x).dpOuts = s.dpOuts := rfl
@[simp] theorem State.setCe_drams (n : Nat) (x : CeEng) : (s.setCe n x).drams = s.drams := rfl
@[simp] theorem State.setCe_refc (n : Nat) (x : CeEng) : (s.setCe n x).refc = s.refc := rfl
@[simp] theorem State.setCe_dpIns (n : Nat) (x : CeEng) : (s.setCe n x).dpIns = s.dpIns := rfl
@[simp] theorem State.setCe_otp (n : Nat) (x : CeEng) : (s.setCe n x).otp = s.otp := rfl
@[simp] theorem State.setCe_flash (n : Nat) (x : CeEng) : (s.setCe n x).flash = s.flash := rfl
@[simp] theorem State.setCe_flows (n : Nat) (x : CeEng) : (s.setCe n x).flows = s.flows := rfl
@[simp] theorem State.setCe_macs (n : Nat) (x : CeEng) : (s.setCe n x).macs = s.macs := rfl
@[simp] theorem State.setCe_sessWait (n : Nat) (x : CeEng) : (s.setCe n x).sessWait = s.sessWait := rfl
@[simp] theorem State.setCe_queues (n : Nat) (x : CeEng) : (s.setCe n x).queues = s.queues := rfl
@[simp] theorem State.setCe_served (n : Nat) (x : CeEng) : (s.setCe n x).served = s.served := rfl
@[simp] theorem State.setCe_policers (n : Nat) (x : CeEng) : (s.setCe n x).policers = s.policers := rfl
@[simp] theorem State.setCe_pool (n : Nat) (x : CeEng) : (s.setCe n x).pool = s.pool := rfl
@[simp] theorem State.setCe_cuex (n : Nat) (x : CeEng) : (s.setCe n x).cuex = s.cuex := rfl
@[simp] theorem State.setCe_fifos (n : Nat) (x : CeEng) : (s.setCe n x).fifos = s.fifos := rfl
@[simp] theorem State.setCe_cvu (n : Nat) (x : CeEng) : (s.setCe n x).cvu = s.cvu := rfl
@[simp] theorem State.setCe_host (n : Nat) (x : CeEng) : (s.setCe n x).host = s.host := rfl
@[simp] theorem State.setCe_dma (n : Nat) (x : CeEng) : (s.setCe n x).dma = s.dma := rfl
@[simp] theorem State.setCe_pcie (n : Nat) (x : CeEng) : (s.setCe n x).pcie = s.pcie := rfl
@[simp] theorem State.setCe_tap (n : Nat) (x : CeEng) : (s.setCe n x).tap = s.tap := rfl
@[simp] theorem State.setCe_pair (n : Nat) (x : CeEng) : (s.setCe n x).pair = s.pair := rfl
@[simp] theorem State.setCe_ptp (n : Nat) (x : CeEng) : (s.setCe n x).ptp = s.ptp := rfl
@[simp] theorem State.setCe_out (n : Nat) (x : CeEng) : (s.setCe n x).out = s.out := rfl
@[simp] theorem State.setCe_freeCtr (n : Nat) (x : CeEng) : (s.setCe n x).freeCtr = s.freeCtr := rfl
@[simp] theorem State.setCe_reg (n : Nat) (x : CeEng) (j : Nat) : (s.setCe n x).reg j = s.reg j := rfl
@[simp] theorem State.setCe_ctx (n : Nat) (x : CeEng) (j : Nat) : (s.setCe n x).ctx j = s.ctx j := rfl

@[simp] theorem State.modCe_pending (n : Nat) (f : CeEng → CeEng) : (s.modCe n f).pending = s.pending := rfl
@[simp] theorem State.modCe_regs (n : Nat) (f : CeEng → CeEng) : (s.modCe n f).regs = s.regs := rfl
@[simp] theorem State.modCe_latches (n : Nat) (f : CeEng → CeEng) : (s.modCe n f).latches = s.latches := rfl
@[simp] theorem State.modCe_mem (n : Nat) (f : CeEng → CeEng) : (s.modCe n f).mem = s.mem := rfl
@[simp] theorem State.modCe_scrap (n : Nat) (f : CeEng → CeEng) : (s.modCe n f).scrap = s.scrap := rfl
@[simp] theorem State.modCe_hostMem (n : Nat) (f : CeEng → CeEng) : (s.modCe n f).hostMem = s.hostMem := rfl
@[simp] theorem State.modCe_rc (n : Nat) (f : CeEng → CeEng) : (s.modCe n f).rc = s.rc := rfl
@[simp] theorem State.modCe_fc (n : Nat) (f : CeEng → CeEng) : (s.modCe n f).fc = s.fc := rfl
@[simp] theorem State.modCe_trust (n : Nat) (f : CeEng → CeEng) : (s.modCe n f).trust = s.trust := rfl
@[simp] theorem State.modCe_tb (n : Nat) (f : CeEng → CeEng) : (s.modCe n f).tb = s.tb := rfl
@[simp] theorem State.modCe_ctxs (n : Nat) (f : CeEng → CeEng) : (s.modCe n f).ctxs = s.ctxs := rfl
@[simp] theorem State.modCe_bays (n : Nat) (f : CeEng → CeEng) : (s.modCe n f).bays = s.bays := rfl
@[simp] theorem State.modCe_px (n : Nat) (f : CeEng → CeEng) : (s.modCe n f).px = s.px := rfl
@[simp] theorem State.modCe_stores (n : Nat) (f : CeEng → CeEng) : (s.modCe n f).stores = s.stores := rfl
@[simp] theorem State.modCe_sram (n : Nat) (f : CeEng → CeEng) : (s.modCe n f).sram = s.sram := rfl
@[simp] theorem State.modCe_bins (n : Nat) (f : CeEng → CeEng) : (s.modCe n f).bins = s.bins := rfl
@[simp] theorem State.modCe_ledger (n : Nat) (f : CeEng → CeEng) : (s.modCe n f).ledger = s.ledger := rfl
@[simp] theorem State.modCe_margin (n : Nat) (f : CeEng → CeEng) : (s.modCe n f).margin = s.margin := rfl
@[simp] theorem State.modCe_sigs (n : Nat) (f : CeEng → CeEng) : (s.modCe n f).sigs = s.sigs := rfl
@[simp] theorem State.modCe_dpOuts (n : Nat) (f : CeEng → CeEng) : (s.modCe n f).dpOuts = s.dpOuts := rfl
@[simp] theorem State.modCe_drams (n : Nat) (f : CeEng → CeEng) : (s.modCe n f).drams = s.drams := rfl
@[simp] theorem State.modCe_refc (n : Nat) (f : CeEng → CeEng) : (s.modCe n f).refc = s.refc := rfl
@[simp] theorem State.modCe_dpIns (n : Nat) (f : CeEng → CeEng) : (s.modCe n f).dpIns = s.dpIns := rfl
@[simp] theorem State.modCe_otp (n : Nat) (f : CeEng → CeEng) : (s.modCe n f).otp = s.otp := rfl
@[simp] theorem State.modCe_flash (n : Nat) (f : CeEng → CeEng) : (s.modCe n f).flash = s.flash := rfl
@[simp] theorem State.modCe_flows (n : Nat) (f : CeEng → CeEng) : (s.modCe n f).flows = s.flows := rfl
@[simp] theorem State.modCe_macs (n : Nat) (f : CeEng → CeEng) : (s.modCe n f).macs = s.macs := rfl
@[simp] theorem State.modCe_sessWait (n : Nat) (f : CeEng → CeEng) : (s.modCe n f).sessWait = s.sessWait := rfl
@[simp] theorem State.modCe_queues (n : Nat) (f : CeEng → CeEng) : (s.modCe n f).queues = s.queues := rfl
@[simp] theorem State.modCe_served (n : Nat) (f : CeEng → CeEng) : (s.modCe n f).served = s.served := rfl
@[simp] theorem State.modCe_policers (n : Nat) (f : CeEng → CeEng) : (s.modCe n f).policers = s.policers := rfl
@[simp] theorem State.modCe_pool (n : Nat) (f : CeEng → CeEng) : (s.modCe n f).pool = s.pool := rfl
@[simp] theorem State.modCe_cuex (n : Nat) (f : CeEng → CeEng) : (s.modCe n f).cuex = s.cuex := rfl
@[simp] theorem State.modCe_fifos (n : Nat) (f : CeEng → CeEng) : (s.modCe n f).fifos = s.fifos := rfl
@[simp] theorem State.modCe_cvu (n : Nat) (f : CeEng → CeEng) : (s.modCe n f).cvu = s.cvu := rfl
@[simp] theorem State.modCe_host (n : Nat) (f : CeEng → CeEng) : (s.modCe n f).host = s.host := rfl
@[simp] theorem State.modCe_dma (n : Nat) (f : CeEng → CeEng) : (s.modCe n f).dma = s.dma := rfl
@[simp] theorem State.modCe_pcie (n : Nat) (f : CeEng → CeEng) : (s.modCe n f).pcie = s.pcie := rfl
@[simp] theorem State.modCe_tap (n : Nat) (f : CeEng → CeEng) : (s.modCe n f).tap = s.tap := rfl
@[simp] theorem State.modCe_pair (n : Nat) (f : CeEng → CeEng) : (s.modCe n f).pair = s.pair := rfl
@[simp] theorem State.modCe_ptp (n : Nat) (f : CeEng → CeEng) : (s.modCe n f).ptp = s.ptp := rfl
@[simp] theorem State.modCe_out (n : Nat) (f : CeEng → CeEng) : (s.modCe n f).out = s.out := rfl
@[simp] theorem State.modCe_freeCtr (n : Nat) (f : CeEng → CeEng) : (s.modCe n f).freeCtr = s.freeCtr := rfl
@[simp] theorem State.modCe_reg (n : Nat) (f : CeEng → CeEng) (j : Nat) : (s.modCe n f).reg j = s.reg j := rfl
@[simp] theorem State.modCe_ctx (n : Nat) (f : CeEng → CeEng) (j : Nat) : (s.modCe n f).ctx j = s.ctx j := rfl

/-! ### Registers -/

@[simp] theorem State.setReg_reg (k : Nat) (v : Word) (j : Nat) :
    (s.setReg k v).reg j = if j = k then v else s.reg j := Sparse.get_set _ _ _ _ _

@[simp] theorem State.setRegN_reg (k v j : Nat) :
    (s.setRegN k v).reg j = if j = k then BitVec.ofNat 32 v else s.reg j := Sparse.get_set _ _ _ _ _

@[simp] theorem State.setFld_reg (k hi lo v j : Nat) :
    (s.setFld k hi lo v).reg j = if j = k then putBits (s.reg k) hi lo v else s.reg j := Sparse.get_set _ _ _ _ _

@[simp] theorem State.setRbit_reg (k n : Nat) (b : Bool) (j : Nat) :
    (s.setRbit k n b).reg j = if j = k then putBit (s.reg k) n b else s.reg j := Sparse.get_set _ _ _ _ _

@[simp] theorem State.bump_reg (k n j : Nat) :
    (s.bump k n).reg j = if j = k then sat32 (s.regN k + n) else s.reg j := Sparse.get_set _ _ _ _ _

@[simp] theorem State.wrapAdd_reg (k n j : Nat) :
    (s.wrapAdd k n).reg j = if j = k then BitVec.ofNat 32 (s.regN k + n) else s.reg j := Sparse.get_set _ _ _ _ _

theorem State.regN_eq (k : Nat) : s.regN k = (s.reg k).toNat := rfl
theorem State.fld_eq (k hi lo : Nat) : s.fld k hi lo = bits (s.reg k) hi lo := rfl
theorem State.rbit_eq (k n : Nat) : s.rbit k n = bit (s.reg k) n := rfl

/-! ### Records -/

@[simp] theorem State.setCtx_ctx (c : Nat) (x : Ctx) (d : Nat) :
    (s.setCtx c x).ctx d = if d = c then x else s.ctx d := Sparse.get_set _ _ _ _ _

@[simp] theorem State.modCtx_ctx (c : Nat) (f : Ctx → Ctx) (d : Nat) :
    (s.modCtx c f).ctx d = if d = c then f (s.ctx c) else s.ctx d := Sparse.get_set _ _ _ _ _

@[simp] theorem State.setBay_bay (b : Nat) (x : Bay) (d : Nat) :
    (s.setBay b x).bay d = if d = b then x else s.bay d := Sparse.get_set _ _ _ _ _

@[simp] theorem State.modBay_bay (b : Nat) (f : Bay → Bay) (d : Nat) :
    (s.modBay b f).bay d = if d = b then f (s.bay b) else s.bay d := Sparse.get_set _ _ _ _ _

/-! ### Memory -/

theorem State.memWrite_mem8 (a : Nat) (bs : List Byte) (j : Nat) :
    (s.memWrite a bs).mem8 j = if h : a ≤ j ∧ j < a + bs.length then bs[j - a]'(by omega) else s.mem8 j :=
  Sparse.get_setRange _ _ _ _ _

/-! ### Whether a block answers: the registers of its page and the domains held -/

theorem State.ifLive_of (b : Nat) (f : State → State) (h : s.live b = true) : s.ifLive b f = f s := by
  simp [State.ifLive, h]

theorem State.ifWritten_of (b k : Nat) (v : Word) (f : State → State) (h : s.live b = true) : s.ifWritten b k v f = f s := by
  simp [State.ifWritten, h]

theorem State.doIf_true (f : State → State) : s.doIf true f = f s := rfl
theorem State.doIf_false (f : State → State) : s.doIf false f = s := rfl

theorem State.forEach_nil {α : Type} (f : α → State → State) : s.forEach [] f = s := rfl
theorem State.forEach_cons {α : Type} (a : α) (l : List α) (f : α → State → State) :
    s.forEach (a :: l) f = (f a s).forEach l f := rfl

end Sys2Proof.Machine
end

