-- ==== Sys2Proof/WellFormed.lean ====
section
/-! DEFINITION. Which commands are well formed: their operands name something the device has and an event the spec
describes.  The meanings are total; a command that is not well formed stands for nothing the device meets. -/

namespace Sys2Proof

/-- A context (R29). -/
def contextOk (c : Nat) : Bool := Nat.blt c 256

/-- A network port. -/
def portOk (p : Nat) : Bool := Nat.blt p 4

/-- An IPv4 or IPv6 address as a number. -/
def addressOk (a : Nat) : Bool := Nat.blt a (2 ^ 128)

/-- A MAC address as a number. -/
def macOk (a : Nat) : Bool := Nat.blt a (2 ^ 48)

/-- A session identifier, 32 bits (R135). -/
def sessionOk (i : Nat) : Bool := Nat.blt i (2 ^ 32)

/-- A CTU row or a slice number: no more than the smallest CTU of the largest picture gives. -/
def rowOk (r : Nat) : Bool := Nat.blt r 1024

/-- A tile column. -/
def tileOk (t : Nat) : Bool := Nat.blt t 64

/-- A cell index: no table has more than 576 cells (R38). -/
def cellOk (i : Nat) : Bool := Nat.blt i 576

/-- A page of BAR 0: 4,096 pages of 4 KB (R5, R777). -/
def pageOk (p : Nat) : Bool := Nat.blt p 4096

/-- A domain number as the boundary fault names it (R16, R596). -/
def boundaryOk (d : Nat) : Bool := Nat.ble 1 d && Nat.ble d 23

/-- A BAR 0 access of another width or alignment than R5 admits. -/
def badAskOk (q : BadAsk) : Bool := Nat.blt 0 q.bytes && (q.bytes != 4 || q.addr.toNat % 4 != 0)

/-- A request to the window of BAR 2: it stays within 64 MB and within one request of 4 KB. -/
def barAskOk (q : BarAsk) : Bool :=
  let n := (q.write.map (·.length)).getD q.len
  Nat.blt 0 n && Nat.ble n 4096 && Nat.ble (q.off.toNat + n) (2 ^ 26)

/-- A measurement names twelve bays and 24 canaries (R325, R714). -/
def ledgerOk (f : LedgerFacts) : Bool := f.loads.length == 12 && f.canaries.length == 24

/-- An AUX write brings as many bytes as it says. -/
def auxAskOk (q : AuxAsk) : Bool := q.read || q.bytes.length == q.len.val

/-- Of the engines, 16 are Cue Engines and 96 are Pixel Engines. -/
def engineOk (ce : Bool) (n : Fin 96) : Bool := !ce || Nat.blt n.val 16

/-- A store exists: 96 PX micro, 12 nano and 16 CE stores (R350). -/
def storeOk (k : Fin 3) (i : Fin 96) : Bool := Nat.blt i.val ([96, 12, 16].getD k.val 0)

/-- A channel has two or four dies to poll: two sub-channels, one or two ranks (R620). -/
def diesOk (l : List DieMr4) : Bool := l.length == 2 || l.length == 4

/-- The payload of one UDP datagram. -/
def udpOk (m : NetMsg) : Bool := Nat.ble m.bytes.length 65507

/-- A byte of one-time programmable memory that failed to take its bits. -/
def otpFailOk (f : Option (Nat × Byte)) : Bool :=
  match f with
  | some p => Nat.blt p.1 48
  | none => true

/-- Bits shifted through the bypass register. -/
def bypassOk (n v : Nat) : Bool := Nat.blt v (2 ^ n)

/-- Whether a command is well formed. -/
def Instr.wellFormed (i : Instr) : Bool :=
  match i with
  | .registerWrite _ _ _ => true
  | .rcRegisterRead _ _ => true
  | .lowWordRead _ _ => true
  | .bar0BadAccess q => badAskOk q
  | .sheetCommit c => contextOk c
  | .cellFirstLineCheck _ _ cell => cellOk cell
  | .freshMapWrite c port => contextOk c && portOk port
  | .freshMapTimer c => contextOk c
  | .helloRx ms => ms.all udpOk
  | .helloAckRx m => udpOk m
  | .refuseRx m => udpOk m
  | .keepaliveRx m => udpOk m
  | .keepaliveAckRx m => udpOk m
  | .refreshReqRx m => udpOk m
  | .refreshAckRx m => udpOk m
  | .updateRx m => udpOk m
  | .updateAckRx m => udpOk m
  | .byeRx m => udpOk m
  | .helloRetryTimeout c => contextOk c
  | .backoffExpiry c => contextOk c
  | .refusedExpiry c => contextOk c
  | .keepaliveTimer c => contextOk c
  | .encSessionTimeout c id src => contextOk c && sessionOk id && addressOk src
  | .refreshHoldoffExpiry c => contextOk c
  | .refreshReqResend c => contextOk c
  | .updateResend c id src => contextOk c && sessionOk id && addressOk src
  | .sessionMsgResolved port addr mac => portOk port && addressOk addr && macOk mac
  | .arpWaitExpiry port addr => portOk port && addressOk addr
  | .sessCtrlWrite c _ => contextOk c
  | .sessTimingWrite c _ => contextOk c
  | .encPictureStart c _ _ => contextOk c
  | .rowSend c row _ => contextOk c && rowOk row
  | .echoRowCheck c sl _ => contextOk c && rowOk sl
  | .encPictureComplete c _ _ _ => contextOk c
  | .ctxEnable c => contextOk c
  | .ctxStop c => contextOk c
  | .ctxHalt c => contextOk c
  | .decPacketRx c _ => contextOk c
  | .lossWaitExpiry c => contextOk c
  | .decPictureStart c => contextOk c
  | .decPictureComplete c => contextOk c
  | .ledgerUpdate f => ledgerOk f
  | .admissionDecide => true
  | .ctxWorkMeasure c _ _ => contextOk c
  | .rowJobPlace c row tile _ => contextOk c && rowOk row && tileOk tile
  | .ctuStart _ _ _ => true
  | .rowJobComplete _ c row tile _ _ => contextOk c && rowOk row && tileOk tile
  | .entropySegmentStart c => contextOk c
  | .pxNano _ => true
  | .pxImmLo _ => true
  | .pxImmHi _ => true
  | .pxLoop _ => true
  | .pxJump _ => true
  | .pxCall _ => true
  | .pxLoopback _ => true
  | .pxReturn _ => true
  | .pxEnd _ => true
  | .pxWait _ => true
  | .pxWaitWake _ _ => true
  | .pxBreak _ => true
  | .ceAdd _ => true
  | .ceSub _ => true
  | .ceAnd _ => true
  | .ceOr _ => true
  | .ceXor _ => true
  | .ceShl _ => true
  | .ceShr _ => true
  | .ceSar _ => true
  | .ceMul _ => true
  | .ceMulh _ => true
  | .ceMin _ => true
  | .ceMax _ => true
  | .ceCmp _ => true
  | .ceBfx _ => true
  | .ceBfi _ => true
  | .ceClz _ => true
  | .ceAddi _ => true
  | .ceAndi _ => true
  | .ceOri _ => true
  | .ceXori _ => true
  | .ceShli _ => true
  | .ceShri _ => true
  | .ceLi _ => true
  | .ceLui _ => true
  | .ceLd _ => true
  | .ceSt _ => true
  | .ceLdc _ => true
  | .ceStc _ => true
  | .ceLdh _ => true
  | .ceSth _ => true
  | .ceJmp _ => true
  | .ceCall _ => true
  | .ceRet _ => true
  | .ceBr _ => true
  | .ceBz _ => true
  | .ceBnz _ => true
  | .ceReti _ => true
  | .ceHdr _ => true
  | .ceCue _ => true
  | .cePget _ _ => true
  | .cePput _ => true
  | .ceTally _ => true
  | .ceLane _ => true
  | .ceBayjob _ => true
  | .ceCvu _ => true
  | .ceTime _ => true
  | .ceBreak _ => true
  | .ceCueDispatch _ => true
  | .storeReload k i _ => storeOk k i
  | .scrubRead k i _ _ => storeOk k i
  | .ucDebugRead ce n _ => engineOk ce n
  | .dpOutEnable _ => true
  | .dpOutHpdHigh _ => true
  | .dpOutTrainingComplete _ _ => true
  | .dpOutLinkLoss _ _ => true
  | .dpOutStop _ => true
  | .dpOutHalt _ => true
  | .auxTransaction _ _ => true
  | .auxReply _ _ => true
  | .auxTimeout _ => true
  | .dpOutFrameStart _ _ => true
  | .followSheetTimeout _ => true
  | .scanoutUnderrun _ _ => true
  | .cellVerify _ _ cell => cellOk cell
  | .linkCrcCompare _ _ => true
  | .dpInEnable _ => true
  | .dpInLock _ _ => true
  | .dpInLockLoss _ => true
  | .dpInLineCapture _ _ => true
  | .dpInFrameComplete _ => true
  | .dpInStop _ => true
  | .netEnable _ => true
  | .netLinkUp _ => true
  | .netLinkDown _ _ _ => true
  | .netStop _ => true
  | .netHalt _ => true
  | .netFrameRx _ => true
  | .egressFrameSend _ => true
  | .flowRead _ => true
  | .flowWriteNew _ => true
  | .flowUpdate _ => true
  | .flowInvalidate _ => true
  | .shqWrite _ _ _ => true
  | .policerWrite _ _ => true
  | .latSample => true
  | .latSnapshot _ => true
  | .latCtrlWrite _ => true
  | .timeOffsetSample _ => true
  | .sampleTimeout => true
  | .timeStep _ => true
  | .timeIncrWrite _ => true
  | .timeMaxAdjWrite _ => true
  | .timeCtrlWrite _ => true
  | .timeNowRead => true
  | .ppsOutPulse => true
  | .ppsInEdge _ => true
  | .ppsInRead => true
  | .bar2Access q => barAskOk q
  | .winBaseWrite _ => true
  | .poisonedRequest => true
  | .busMasterResume => true
  | .doorbellWrite _ _ => true
  | .cmdFetch => true
  | .nop _ => true
  | .flowCmd _ _ => true
  | .sdpApply _ _ => true
  | .ptpConfig _ => true
  | .hostFlashRead _ _ => true
  | .hostFlashWrite _ _ => true
  | .tallyCountWrite _ => true
  | .tallyAckWrite _ _ => true
  | .tallyEnable _ => true
  | .tallyDisable _ => true
  | .cmdEnable _ => true
  | .cmdDisable _ => true
  | .dmaEnable _ => true
  | .dmaDescFetch _ => true
  | .dmaDescMoveDone _ => true
  | .dmaStop _ => true
  | .dmaHalt _ => true
  | .dmaPaceResume _ => true
  | .targetTimeout _ => true
  | .shadowArm _ => true
  | .shadowDisarm _ => true
  | .handover _ => true
  | .cuexDoorbell _ => true
  | .cuexPost _ _ => true
  | .cuexConsume _ _ => true
  | .cuexAck _ _ _ _ => true
  | .cuexComplete _ _ _ => true
  | .cuexSleep _ _ _ => true
  | .targetWake _ => true
  | .cuexRouteWrite _ _ _ _ => true
  | .holdoffExpiry _ _ => true
  | .poolRequest _ _ => true
  | .poolRefIncrement _ => true
  | .poolRefDecrement _ => true
  | .poolEnable => true
  | .poolStop => true
  | .poolHalt _ _ => true
  | .fifoPush _ _ => true
  | .fifoPop _ _ => true
  | .fifoCfgWrite _ _ => true
  | .boundaryOverrun d => boundaryOk d
  | .cvuJobPost _ => true
  | .cvuJobRun _ => true
  | .cvuCounterCfgWrite _ _ _ => true
  | .dramRequestAccept _ _ => true
  | .dramIssue _ _ _ _ => true
  | .refreshDue _ _ => true
  | .mr4Poll _ dies => diesOk dies
  | .retrainPause _ _ => true
  | .fullRetrainDone _ _ => true
  | .dramTrainingDone _ _ => true
  | .dramStop _ => true
  | .dramHalt _ => true
  | .dramEnable _ => true
  | .compressionRatioUpdate => true
  | .supplyRampDone => true
  | .supplyDip => true
  | .supplyRemove => true
  | .rstNAssert => true
  | .rstNRelease => true
  | .perstNAssert => true
  | .perstNRelease => true
  | .prompterWatchdog => true
  | .prompterLockstep => true
  | .smWatchdog => true
  | .resetPwdKick _ _ => true
  | .resetSmwdKick _ _ => true
  | .softFull _ => true
  | .smReset _ => true
  | .resetPulseEnd _ => true
  | .domainRelease _ => true
  | .swReset _ page => pageOk page
  | .blockResetRelease page => pageOk page
  | .promptCallPost _ _ _ => true
  | .blockReset => true
  | .softReset => true
  | .setOwner => true
  | .setSeverity => true
  | .setLedger => true
  | .setFence => true
  | .setCvuOwner => true
  | .pcFlashRead _ => true
  | .pcFlashWrite => true
  | .otpEnrol fail => otpFailOk fail
  | .otpRevoke fail => otpFailOk fail
  | .otpRaiseVersion fail => otpFailOk fail
  | .setDebug => true
  | .houseRateAlternate => true
  | .houseGroupClaim _ => true
  | .faultTake => true
  | .gltToggle => true
  | .faultHeartbeat _ _ => true
  | .heartbeatTimeout => true
  | .blkForceRaise _ page _ => pageOk page
  | .faultClearFirst => true
  | .faultClearStopRecord => true
  | .rehBay _ _ => true
  | .rehFull _ => true
  | .rehRun _ => true
  | .rehDrainDone => true
  | .rehBistDone _ => true
  | .avsReadback _ _ => true
  | .avsRetry => true
  | .journalWeekEnd _ => true
  | .journalRetry _ => true
  | .pairHelloTimer => true
  | .pairHelloRx _ _ => true
  | .pairHeartbeatTimer => true
  | .pairHeartbeatRx _ _ => true
  | .heartbeatLoss => true
  | .gltPeerEdge => true
  | .peerGltSilent => true
  | .pairLaneLoss _ => true
  | .pairBlockLock _ => true
  | .pairLockLoss => true
  | .pairFrameWaitExpiry => true
  | .xcheckRx _ _ => true
  | .xcheckWaitExpiry => true
  | .pictureRx _ _ => true
  | .digestRx _ _ => true
  | .sessionFrameRx _ _ => true
  | .sessionFrameTimer => true
  | .stateRx _ _ => true
  | .resyncReqRx _ _ => true
  | .switchReqRx _ _ => true
  | .switchAckRx _ _ => true
  | .switchRefuseRx _ _ => true
  | .pairResetRx _ _ => true
  | .takeover => true
  | .pairSwitch => true
  | .resetPeer => true
  | .suspectClear => true
  | .tapReset => true
  | .idcode => true
  | .bypass n v => bypassOk n v
  | .smbusRegisterRead _ _ => true
  | .configRequest _ => true
  | .pcieLinkUp _ => true
  | .dpInAuxRequest _ q => auxAskOk q
  | .boundaryScan _ => true
  | .engineDebug q => engineOk q.ce q.n

end Sys2Proof
end

