-- ==== Sys2Proof/Tests/Slice0.lean ====
section
/-! SUPPORT. Small checks: ill-formed terms refused, single steps against the words of the spec, and for each statement a state
and operands that meet its hypotheses. -/

open Sys2Proof Sys2Proof.Machine

namespace Sys2Proof.Tests
set_option Elab.async false
set_option linter.unusedVariables false
/-- After boot: power-on with no domain held. -/
def up : State := { State.reset with rc := { State.reset.rc with held := [] } }
/-- A state with registers set. -/
def put (s : State) (rs : List (Nat × Nat)) : State := rs.foldl (fun t p => t.setRegN p.1 p.2) s
/-- A version 2 sheet of no entries for a grid. -/
def wSheet (c r : Nat) : HeldSheet :=
  { body := [2, 0] ++ List.replicate 12 0 ++ [BitVec.ofNat 8 c, BitVec.ofNat 8 r] ++ List.replicate 8 0, arrival := 0 }
/-- A picture of 256 × 256 samples in device memory, a reference of one. -/
def wRef : PicRef :=
  { base := 0, fmt := { w := 256, h := 256, chroma := 1, depth := 8 }, winX := 0, winY := 0, winW := 256, winH := 256, num := 1,
    matrix := 1, full := false, bad := [] }
/-- A decoded picture with one sheet. -/
def wPic (c r : Nat) : DecPicture :=
  { au := { ts := 0, ssrc := 0, arrival := 0, slices := [], sets := [], recovery := none, sheets := [wSheet c r],
            lost := false, dropped := false, skipped := false },
    arriving := false, irap := true, recovers := false, trusted := true, concealCopy := false, marks := [], damaged := [],
    slices := [], cover := [], handed := [], done := [], crew := [], pic := wRef, good := (none, none), raw := [], parity := none,
    badCtus := [], holders := [], filled := [], reads := [], jobsDone := [], rowsDone := [] }
/-- A session message. -/
def wMsg (ver typ id ack : Nat) (body : List Byte) : NetMsg :=
  { port := 3, src := 2, srcPort := 5004, mac := 6, arrival := 100, bytes := sessMsg ver typ id 6 ack body }
/-- A HELLO of 48 bytes for stream 77. -/
def wHello : NetMsg := wMsg 1 1 9 0 (beBytes 2 1 ++ beBytes 2 2 ++ beBytes 4 77 ++ beBytes 2 10000 ++ beBytes 2 5 ++ beBytes 2 100 ++
  [0, 0] ++ beBytes 2 10000 ++ beBytes 2 10000 ++ beBytes 2 576 ++ beBytes 2 0)
/-- An open session of an encode context. -/
def wSess : EncSession :=
  { id := 9, src := 2, srcPort := 5000, port := 1, version := 2, dlExact := 10000, dlLossy := 10000, netAllow := 5, kaMs := 100,
    lastSeq := 4, seq := 3, stale := 0, unsourced := 0, updWait := [{ seqs := [2], resends := 0 }] }
/-- An encode context, 5, whose session machine runs; and with an open session. -/
def wEncUp : State := (put up [(blkCtrl (ctxPage 5), 1), (Reg.CTX_MODE 5, 1), (Reg.SESS_CTRL 5, 0x020101), (Reg.ENC_SSRC 5, 77)]).modCtx 5
  fun x => { x with codedW := 256, codedH := 256 }
def wEncOpen : State := wEncUp.modCtx 5 fun x => { x with encs := [wSess] }
/-- A decode context, 3, whose session machine runs. -/
def wDecSess (st : SessState) : DecSession :=
  { DecSession.init with st := st, id := 9, helloSeq := 4, peerAddr := 2, version := 1, kaSent := [(6, 0)], seq := 5, attempts := 4, lastSeq := some 2 }
def wDecSess2 : DecSession :=
  { wDecSess .opened with
    version := 2, refreshWait := [{ wait := { seqs := [5], resends := 0 }, cells := RefreshSet.empty }],
    updWait := [{ seqs := [6], resends := 4 }], pending := { all := false, cells := [1] } }
def wDec (d : DecSession) : State :=
  (put up [(blkCtrl (ctxPage 3), 1), (Reg.SESS_CTRL 3, 0x020121)]).modCtx 3 fun x => { x with dec := d }
def wDecOpen (st : SessState) : State := wDec (wDecSess st)
def wDecOpen2 : State := wDec wDecSess2
/-- A picture in coding, every row but the first four to send. -/
def wEncPicture : EncPicture :=
  { ts := 9, time := some 1000, linePs := 5, idr := false, null := false, allCarried := false, sei := 0, badCells := [], overhead := 0,
    budget := 0, reserve := 0, lead := 0, f := 0, dt := 0, k := 0, spent := 100, exactSpent := 0, qp := 30, starved := false, decided := 16, slices := [(0, { SliceRec.zero with started := true, bits := 40 })], rowsSent := [], outbox := [], crew := [],
    src := wRef, pic := wRef, raw := [], codes := [], waveRows := (0, 0), handed := [], don := 0, pfxBytes := 0, slicesSent := 0, heldSlices := [], echo := [], echoJobs := [],
    echoCells := [] }
/-- An encode context, 5, of 256 × 256 samples that runs, every CTU decided. -/
def wEncPic (p : Option EncPicture) : State :=
  (put up [(blkCtrl (ctxPage 5), 1), (Reg.CTX_MODE 5, 1), (Reg.ENC_SIZE 5, 0x01000100), (Reg.FRESH_CTRL 5, 1)]).modCtx 5 fun x =>
    ({ x with codedW := 256, codedH := 256, winW := 256, winH := 256, pic := p }).mapCtus fun _ r => { r with decided := true }
/-- A small encode context, 5, of 8 × 8 samples that runs, with a captured frame complete at DisplayPort input 2. -/
def wSmallRef : PicRef := { wRef with fmt := { w := 8, h := 8, chroma := 1, depth := 8 }, winW := 8, winH := 8 }
def wEncSmall (p : Option EncPicture) : State :=
  (((put up [(blkCtrl (ctxPage 5), 1), (Reg.CTX_MODE 5, 1), (Reg.ENC_SIZE 5, 0x00080008), (Reg.ENC_FORMAT 5, 1), (Reg.ENC_SOURCE 5, 2),
      (Reg.ENC_REFS 5, 1), (Reg.DP_IN_ACTIVE 2, 0x00080008), (Reg.FRESH_CTRL 5, 1)]).modCtx 5 fun x =>
    ({ x with codedW := 8, codedH := 8, winW := 8, winH := 8, pic := p }).mapCtus fun _ r => { r with decided := true })).modDpIn 2 fun x =>
      { x with ring := [0, 0], count := 1, frames := [(0, { num := 0, times := [(0, some 1000)], lost := [], complete := true })] }
def wSmallPicture : EncPicture := { wEncPicture with src := wSmallRef, pic := wSmallRef, decided := 1 }
def wTinyPicture : EncPicture := { wSmallPicture with pic := { wRef with fmt := { w := 2, h := 2, chroma := 1, depth := 8 } } }
/-- Ready to enable an encode context, 5: its shadow set good, the pools and the ledger with room. -/
def wReady : State := put up <|
  [(Reg.CTX_MODE 5, 1), (Reg.ENC_FORMAT 5, 1 + 93 * 256), (Reg.ENC_SIZE 5, 0x01000100), (Reg.ENC_SOURCE 5, 0), (Reg.ENC_REFS 5, 1), (Reg.ENC_SSRC 5, 7),
   (Reg.ENC_RTP 5, 1000 * 65536), (Reg.RC_BITRATE 5, 8000), (Reg.RC_CPB_SIZE 5, 8000), (Reg.RC_INIT_DELAY 5, 45000), (Reg.RC_ROW 5, 1), (Reg.RC_CTRL 5, 51 * 65536 + 51 * 16777216),
   (Reg.FRESH_CTRL 5, 1), (Reg.FRESH_DEADLINE_EXACT 5, 10000), (Reg.FRESH_DEADLINE_LOSSY 5, 10000)].map (fun p => (shadowOf p.1, p.2)) ++
  [(Reg.CTX_ADMIT_RATE 5, 3000), (Reg.LEDGER_CAPACITY, 20000), (Reg.LEDGER_FLOOR, 20000), (Reg.LEDGER_EL_CAP, 20000), (Reg.LEDGER_STATUS, 2048),
   (blkCtrl 0x018, 1), (Reg.POOL_COUNT 3, 8), (Reg.POOL_FREE 3, 8), (Reg.POOL_LOW 3, 8)] ++
  (List.range 24).map (fun n => (Reg.EL_RATE n, 1000)) ++ (List.range 8).map (fun n => (Reg.MSA_RATE n, 1000)) ++ (List.range 16).flatMap fun n => [(blkCtrl (0x180 + n), 1), (Reg.POOL_QUOTA_PM n, 1000)]
/-- A packet of a stream with nothing in it. -/
def wPkt (q : Nat) : RtpPacket :=
  { port := 3, src := 2, seq := BitVec.ofNat 16 q, ts := 90, ssrc := 7, pt := 96, marker := false, arrival := 5, unsupported := false, nals := [], fu := none }
/-- A decode context, 3, that runs. -/
def wDecCtx : State := put up [(blkCtrl (ctxPage 3), 1), (Reg.DEC_RTP 3, 96)]
/-- A stream of one CTU, an access unit, and the context with it waiting. -/
def wSps : SpsInfo :=
  { h264 := false, id := 0, profile := 1, compat := [], chroma := 1, bitDepth := 8, constraintsOk := true, level := 30, width := 64, height := 64,
    winLeft := 0, winTop := 0, matrix := some 1, fullRange := false, maxFrameNum := 16, winWidth := 64, winHeight := 64, dpb := 1, maxReorder := 0, maxLatency := none, pocType2 := false,
    fieldSeq := false, intraOnly := false, tiles := false, wpp := false,
    mbaff := false, fmo := false, ctuCols := 1, ctuRows := 1, tileStarts := [], tileRows := [] }
def wAu : AccessUnit := { AccessUnit.start 90 7 5 false with slices := [] }
def wDecQ : State := wDecCtx.modCtx 3 fun x =>
  { x with codedW := 64, codedH := 64, winW := 64, winH := 64, sps := some wSps, started := true, queue := [wAu] }
/-- Encode context 5 with a picture whose crew is bay 2, nothing decided. -/
def wJobs : State :=
  ((put up [(blkCtrl (ctxPage 5), 1), (Reg.CTX_MODE 5, 1), (Reg.ENC_SIZE 5, 0x01000100), (Reg.BAY_STATUS 2, 0x100FF)])).modCtx 5 fun x =>
    { x with codedW := 256, codedH := 256, winW := 256, winH := 256, pic := some { wEncPicture with decided := 0, slices := [], crew := [2] } }
def wDispatch : PxDispatch := { entry := 63, slotBase := 16, slotLen := 4, window := none }
def wCtu : CtuFacts := { samples := [], error := 0, reads := [] }
def wEchoJob : RowJob := { ctx := 5, row := 0, tile := 0, kind := .echo, ctus := [0], started := [], on := [] }
/-- The echo job resident in bay 2 with its engines in service. -/
def wBayJob : State := { wJobs with bays := [(2, { Bay.init with jobs := [wEchoJob] })] }
/-- A store word of an instance as given, its parity bits included. -/
def wWord (s : State) (k i a w : Nat) : State :=
  { s with stores := { s.stores with own := Sparse.set (fun _ => none) s.stores.own (ucKey k i a) (some w) } }
/-- Pixel Engine 95 at work at address 7 on a word. -/
def wPx (w : Nat) : State :=
  (wWord (put up [(Reg.PX_STATUS 95, 1), (Reg.UC_FENCE_PX, 0x1800), (Reg.UC_FENCE_NANO, 0xE00)]) 0 95 7 (ucStored 0 w)).modPx 95 fun x =>
    { x with pc := 7, item := some { work := .ctu 5 .encode 0, entry := 0, slotBase := 0, slotLen := 0 } }
/-- The engine at a NANO word that names nanoword 5 of its bay. -/
def wNano (w : Nat) : State :=
  (wWord (wPx 5) 1 11 5 (ucStored 1 w)).modPx 95 fun x => { x with
    s := [(3, 0xFFFFFFFF), (15, 3)], v := [(3, (List.range 32).map (· + 65530)), (31, List.replicate 32 5)] }
/-- A work item of window 15 of compositor 7. -/
def wItem : WinItem := { out := 7, win := 15, x := 0, y := 0, w := 8, h := 8 }
/-- Cue Engine 15 halted, and the check value of the reference copy of its store as memory holds it. -/
@[irreducible] def wCopy : Nat := crc32c (up.memBytes (up.copyBase + copyOffset 2) (copyBytes 2))
def wHalted : State := put up [(Reg.CE_STATUS 15, 6)]
def wCopied (v : Nat) : State := wHalted.setRegN Reg.UC_COPY_CRC_CE v
theorem wHalted_reg (v k : Nat) (h : k ≠ Reg.UC_COPY_CRC_CE) : (wCopied v).reg k = wHalted.reg k := by
  unfold wCopied; rw [State.setRegN_reg, if_neg h]
theorem wCopied_held (v : Nat) : (wCopied v).domainHeld 5 = false := by
  unfold State.domainHeld; rw [show (wCopied v).rc = wHalted.rc from State.setRegN_rc _ _ _]; decide +kernel
theorem wCopied_reloadable (v : Nat) : (wCopied v).reloadable 2 15 = true := by
  have e : (wCopied v).reloadable 2 15 = wHalted.reloadable 2 15 := by
    unfold State.reloadable State.inReset State.rbit
    rw [if_neg (by decide), if_neg (by decide), if_neg (by decide), if_neg (by decide), wHalted_reg _ _ (by decide),
      wHalted_reg _ _ (by decide)]
  rw [e]; decide +kernel
theorem copyBase_of {s t : State} (a : s.reg Reg.UC_COPY_BASE_LO = t.reg Reg.UC_COPY_BASE_LO)
    (b : s.reg Reg.UC_COPY_BASE_HI = t.reg Reg.UC_COPY_BASE_HI) : s.copyBase = t.copyBase := by
  unfold State.copyBase State.regN State.fld; rw [a, b]
theorem wCopied_base (v : Nat) : (wCopied v).copyBase = up.copyBase := by
  have a : wHalted.reg Reg.UC_COPY_BASE_LO = up.reg Reg.UC_COPY_BASE_LO := by decide +kernel
  have b : wHalted.reg Reg.UC_COPY_BASE_HI = up.reg Reg.UC_COPY_BASE_HI := by decide +kernel
  exact copyBase_of ((wHalted_reg _ _ (by decide)).trans a) ((wHalted_reg _ _ (by decide)).trans b)
theorem wCopied_bytes (v a n : Nat) : (wCopied v).memBytes a n = wHalted.memBytes a n := by
  have m1 : (wCopied v).mem = wHalted.mem := State.setRegN_mem _ _ _
  have m2 : (wCopied v).scrap = wHalted.scrap := State.setRegN_scrap _ _ _
  unfold State.memBytes; rw [m1, m2]
theorem wHalted_bytes (a n : Nat) : wHalted.memBytes a n = up.memBytes a n := by
  have m1 : wHalted.mem = up.mem := by decide +kernel
  have m2 : wHalted.scrap = up.scrap := by decide +kernel
  unfold State.memBytes; rw [m1, m2]
theorem wCopied_crc (v : Nat) : (wCopied v).regN Reg.UC_COPY_CRC_CE = v % 2 ^ 32 := by
  unfold State.regN wCopied
  rw [State.setRegN_reg, if_pos rfl, BitVec.toNat_ofNat]
theorem wCopied_judged (v : Nat) : (wCopied v).copyGood 2 = (wCopy == v % 2 ^ 32) := by
  have e : (wCopied v).copyGood 2 = (crc32c ((wCopied v).memBytes ((wCopied v).copyBase + copyOffset 2) (copyBytes 2)) ==
      (wCopied v).regN Reg.UC_COPY_CRC_CE) := by
    unfold State.copyGood State.copyCrc; rfl
  rw [e, wCopied_base, wCopied_bytes, wHalted_bytes, wCopied_crc]
  unfold wCopy; rfl
theorem wCopy_lt : wCopy < 2 ^ 32 := by unfold wCopy; exact crc32c_lt _
theorem wCopied_good : (wCopied wCopy).copyGood 2 = true := by
  rw [wCopied_judged, Nat.mod_eq_of_lt wCopy_lt]; exact beq_self_eq_true _
theorem wCopied_bad : (wCopied (wCopy + 1)).copyGood 2 = false := by
  have := wCopy_lt
  rw [wCopied_judged]; simp only [beq_eq_false_iff_ne]; omega
/-- Cue Engine 15 at work on a task at address 7 on a word, its general registers 3, 5 and 15 set. -/
def wCe (w : Nat) : State :=
  (wWord (put up [(Reg.CE_STATUS 15, 1), (Reg.UC_FENCE_CE, 0xC10), (Reg.UC_HOOK_LIMIT, 100), (blkCtrl 0x018, 1)]) 2 15 7 (ucStored 2 w)).modCe 15
    fun x => { x with pc := 7, level := 1, g := [(3, 0x80000000), (5, 6), (15, 0x40)], outer := 5 }
/-- A Cue Engine's word of an opcode, GD, GA and GB, with FN 3. -/
def wReg (op d a b : Nat) : Nat := op * 2 ^ 26 + d * 2 ^ 17 + a * 2 ^ 12 + b * 2 ^ 7 + 3
/-- A Cue Engine's word of an opcode, GD, GA and the last twelve bits. -/
def wImm (op d a i : Nat) : Nat := op * 2 ^ 26 + d * 2 ^ 17 + a * 2 ^ 12 + i
/-- The engine with a buffer of pool 0 given, its handle in G2 and the offset 4 in G3. -/
def wCeBuf (w : Nat) : State :=
  let s := (wCe w).setPoolBuf 1 { frees := 0, count := 1, owner := 2, span := 1 }
  s.modCe 15 fun x => { x with g := [(2, s.poolHandle 1), (3, 0), (15, 0x40)] }
/-- The frame of a task that yielded, and the engine in its handler with cue 700 in service. -/
def wFrame : YieldFrame := { pc := 30, z := true, n := false, c := true, stack := [8], hook := none }
def wHandler (w : Nat) : State :=
  (wWord (put (wCe w) [(Reg.CUEX_TGT_STATUS 15, 0x100), (Reg.CUEX_TGT_STACK 15 0, 700)]) 2 15 5 (ucStored 2 (wImm 0x27 0 0 3))).modCe 15 fun x =>
    { x with level := 2, frame := some wFrame, count := 254 }
/-- The engine at a level with cue 700 pending and its group's vector good. -/
def wCued (w level : Nat) : State :=
  (wWord (wWord (put (wCe w) [(Reg.CUEX_TGT_PEND 15 21, 2 ^ 28), (Reg.CUEX_ROUTE 350, 0x2F)]) 2 15 21 (ucStored 2 (wImm 0x20 0 0 9)))
    2 15 9 (ucStored 2 (wImm 0x27 0 0 3))).modCe 15 fun x => { x with level := level }
/-- DisplayPort output 7 at a state, with a timing of 1920 × 1080 at 148.5 MHz and HPD high at four lanes. -/
def wOut (st : Nat) : State :=
  put up [(Reg.DP_OUT_STATUS 7, st), (Reg.DP_OUT_CTRL 7, 0xE), (Reg.DP_OUT_H_TIMING 7, 1920 + 65536 * 2200), (Reg.DP_OUT_V_TIMING 7, 1080 + 65536 * 1125),
    (Reg.DP_OUT_H_SYNC 7, 88 + 65536 * 44), (Reg.DP_OUT_V_SYNC 7, 4 + 65536 * 5), (Reg.DP_OUT_FRAME_PERIOD_LO 7, 5), (Reg.DP_OUT_FRAME_PERIOD_HI 7, 16666666)]
/-- The output with an AUX transaction in progress. -/
def wAux (v : Word) (d k : Nat) : State := up.modDpOut 7 fun x => { x with aux := some (v, d, k) }
/-- The output with a window that shows cell 0 of context 3, whole and with a time. -/
def wVerify : State :=
  ((put (wOut 3) [(Reg.COMP_CTRL 7, 1), (Reg.WIN_CTRL 7 15, 0x31), (Reg.WIN_SRC_SIZE 7 15, 0x00080008), (Reg.WIN_DST_SIZE 7 15, 0x00080008)]).modCtx 3 fun x =>
    { x with codedW := 8, codedH := 8, winW := 8, winH := 8, frameStore := 1 }.setCell 0
      { x.cell 0 with picNum := 1, hasTime := true, placeholder := false, unproven := false }).modDpOut 7 fun x =>
        { x with reads := [{ win := 15, cell := 0, pattern := 0, rows := [some wSmallRef] }] }
/-- DisplayPort input 3 at a state, and a timing it supports. -/
def wIn (st : Nat) : State := put up [(Reg.DP_IN_STATUS 3, st)]
def wLock : SinkLock :=
  { width := 1920, height := 1080, hTotal := 2200, vTotal := 1125, clock := 148500, format := 3, lanes := 2, rate := 1, interlaced := false, matrix := 1, fullRange := false }
/-- Network port 3 at a state. -/
def wPort (st : Nat) : State := put up [(Reg.NET_STATUS 3, st)]
/-- The port with a frame in queue 9 and another port's frame in queue 8, samples taken of queue 9. -/
def wQueued (st : Nat) : State :=
  { (put (wPort st) [(Reg.SHQ_CFG 9, 0x0004011F), (Reg.SHQ_RATE 9, 1000), (Reg.SHQ_CFG 8, 0x00040119), (Reg.SHQ_RATE 8, 1000)]) with
    queues := [(8, { SQueue.init with frames := [{ len := 64, at_ := 3, slot := none, ctx := 5, seq := 6 }] }),
      (9, { SQueue.init with frames := [{ len := 100, at_ := 3, slot := none, ctx := 5, seq := 6 }], samples := 4, sent := 5, depthBins := [1] })] }
def wBusy (s : State) : State := { s with queues := [(9, { SQueue.init with wireEnd := 2 ^ 64, frames := [{ len := 100, at_ := 3, slot := none, ctx := 5, seq := 6 }] })] }
/-- A frame for MAC 0 of an EtherType, 60 bytes long. -/
def wFrame0 (et : Nat) (b : List Byte) : RxFrame :=
  { bytes := List.replicate 12 0 ++ beBytes 2 et ++ b ++ List.replicate (46 - b.length) 0, bad := false, corrected := 0, uncorrectable := 0, reading := 77 }
/-- The port up with a receive ring of 64 and the prop room with buffers for the packet engine. -/
def wRing : State :=
  put (wPort 2) [(Reg.NET_MTU 3, 1518), (Reg.PKT_SMRX_SIZE, 64), (Reg.PKT_SMRX_HEAD, 5), (Reg.PKT_SMRX_BASE, 0x1000), (blkCtrl 0x008, 2), (blkCtrl 0x018, 1),
    (Reg.POOL_COUNT 0, 8), (Reg.POOL_FREE 0, 8), (Reg.POOL_LOW 0, 8), (Reg.POOL_QUOTA_PM 25, 100), (Reg.POOL_BASE_LO 0, 0x40000)]
/-- A UDP packet of 10.0.0.2, port 5004, to 10.0.0.1, port 5006, without a UDP checksum; its header read; and the port up
with flow 5, which it matches, of decode context 3. -/
def wUdp : RxFrame := wFrame0 0x0800 ([0x45, 0, 0, 28, 0, 0, 0, 0, 64, 17, 0x66, 0xCF, 10, 0, 0, 2, 10, 0, 0, 1] ++ beBytes 2 5004 ++ beBytes 2 5006 ++ [0, 8, 0, 0])
def wUdpHead : IpHead := { v6 := false, proto := 17, src := v4Mapped 0x0A000002, dst := v4Mapped 0x0A000001, body := 34, total := 8, hop := false, dscp := 0 }
def wFlowUp : State :=
  (put (wPort 2) [(Reg.NET_MTU 3, 1518), (blkCtrl (ctxPage 3), 1), (Reg.DEC_FLOW 3, 0x105)]).setFlow 5
    { words := [1 + 8 * 4 + 3 * 256, 0x0A000001, 0xFFFF, 0, 0, 5006 + 65536 * 5004], gen := 1, ident := 0, overAt := none }
/-- The window with an ingress flow of ports 0 to 3, and the entry it makes. -/
def wWindow : State := put up [(Reg.PKT_FLOW_DATA 0, 0x3C), (Reg.PKT_FLOW_DATA 1, 0x0A000001), (Reg.PKT_FLOW_DATA 2, 0xFFFF), (Reg.PKT_FLOW_DATA 5, 5006)]
def wEntry : Flow := { words := [0x3D, 0x0A000001, 0xFFFF, 0, 0, 5006, 0, 0, 0, 0, 0, 0, 0, 0, 0, 0], gen := 1, ident := 0, overAt := none }
/-- The time base locked. -/
def wLocked : State := put up [(Reg.TIME_STATUS, 1)]
/-- The host reachable, queue 15 with its tally ring of 64 entries and its ring of 256 commands on. -/
def wHost : State :=
  { put up [(Reg.HOSTQ_CTRL 15, 3), (Reg.HOSTQ_TALLY_SIZE 15, 64), (Reg.HOSTQ_CMD_SIZE 15, 256), (Reg.HOSTQ_TALLY_BASE_LO 15 + 4, 1),
      (Reg.HOSTQ_CMD_BASE_LO 15 + 4, 2), (Reg.HOSTQ_COUNT_ADDR_LO 15 + 4, 4)] with
    pcie := { up.pcie with cfg := [(1, 4)] } }
/-- A command of queue 15 that is at work, and the state with it. -/
def wJob (op : Nat) (args : List Byte) : CmdJob :=
  { queue := 15, num := 3, seq := 5, entry := leBytes 2 op ++ [0, 0] ++ leBytes 4 0x12345678 ++ args ++ List.replicate (56 - args.length) 0 }
def wCmd (op : Nat) (args : List Byte) : State := { wHost with host := { wHost.host with jobs := [wJob op args] } }
/-- An SDP_APPLY for context 255 with a text of 30 characters at a host address. -/
def wSdp (t : String) : State :=
  (wCmd 2 ([255, 0, 30, 0, 0, 0, 0, 0] ++ leBytes 8 0x300000000)).hostWrite 0x300000000 (strB t)
/-- PTP settings of port 3. -/
def wPtp : List Byte := [3, 127, 0xF9, 1, 0xFF, 10, 1, 1, 128, 128]
/-- A descriptor that fills four bytes of Pool Memory and ends the chain; DMA channel 31 with a held job of ring 15, the
descriptor next at 0x1000 or in progress. -/
def wDesc : List Byte := [4, 0, 0, 0, 0x34, 0, 7, 1] ++ leBytes 8 0xAABBCCDD ++ leBytes 8 0x800000FFC ++ leBytes 8 0
def wDma (d : Option (List Byte)) : State :=
  let s := put wHost [(Reg.DMA_CTRL 31, 1), (Reg.DMA_CFG 31, 15), (Reg.DMA_STATUS 31, 1), (Reg.DMA_START_LO 31, 0x1000), (Reg.DMA_START_LO 31 + 4, 8),
    (Reg.DMA_NEXT_LO 31, 0x1000), (Reg.DMA_NEXT_LO 31 + 4, 8)]
  (s.memWrite 0x800001000 wDesc).modDma 31 fun x => { x with job := some (15, 5), desc := d, next := 0x800001000 }
/-- Decode context 3, enabled and armed, with shadow registers set, and the charge that its set forms. -/
def wArmed (rs : List (Nat × Nat)) : State := put wDecCtx ((blkShadow (ctxPage 3), 0xFF01) :: rs)
def wCharge : Charge :=
  { enc := false, cls := 1, pwu := 8273, el := 288, smp := 150405120000, dram := 2980, msa := 0, refs := 0, rate := 6000 }
/-- The prop room on, with eight buffers of pools 0 and 1 in Pool Memory and room in the quota of the packet engine. -/
def wPool : State :=
  put up [(blkCtrl 0x018, 1), (Reg.POOL_COUNT 0, 8), (Reg.POOL_FREE 0, 8), (Reg.POOL_COUNT 1, 8), (Reg.POOL_FREE 1, 8), (Reg.POOL_BASE_LO 1, 0x1000),
    (Reg.POOL_QUOTA_PM 25, 4)]
/-- Service FIFO 15, eight items deep, with its banks. -/
def wFifo (fill drain : List Nat) : State := { put up [(Reg.FIFO_CFG 15, 0x801)] with fifos := [(15, { fill := fill, drain := drain })] }
/-- A check-value job over the nine characters 123456789, and channel 15 set to the CRC-32 of that check value. -/
def wCvuDesc : List Byte :=
  [0, 0, 15, 1] ++ List.replicate 12 0 ++ leBytes 5 0x800001000 ++ [0, 0, 0, 9, 0, 0] ++ List.replicate 5 0 ++ leBytes 8 0xCBF43926 ++ List.replicate 24 0
def wCvu : State :=
  (((put up [(Reg.CVU_CFG 15, 0x1A0), (Reg.CVU_POLY_LO 15, 0x04C11DB7), (Reg.CVU_INIT_LO 15, 0xFFFFFFFF), (Reg.CVU_XOROUT_LO 15, 0xFFFFFFFF),
    (Reg.CVU_COUNTER_CFG 15, 8), (Reg.CVU_OWNER 15, 2)]).memWrite (poolBase + 64) wCvuDesc).memWrite 0x800001000 (strB "123456789")).setCvuQueue 15 [⟨2, 64⟩]
/-- DRAM channel 3 serving, with registers set and requests in its queues. -/
def wRead (a : Nat) (cls : Nat) (nb : Bool) (at_ : Nat) : DramReq :=
  { write := false, addr := a, cls := cls, noBreak := nb, source := 931, at_ := at_, promoted := false, data := List.replicate 64 7 }
def wWrite (a : Nat) (at_ : Nat) : DramReq := { wRead a 2 false at_ with write := true, data := [] }
def wDram (rs : List (Nat × Nat)) (x : DramCh) : State :=
  (put up ([(blkCtrl 0x013, 1), (Reg.DRAM_STATUS 3, 3)] ++ rs)).setDram 3 x
/-- After boot, with something in many places. -/
def wLive : State :=
  { wDram [(Reg.CHIP_SCRATCH, 5), (Reg.OPT_LOADS, 3), (Reg.RESET_CAUSE, 1), (Reg.NET_MAC_LO 2, 77), (Reg.ENC_SSRC 3, 2), (Reg.MARGIN_HOURS, 9), (Reg.CUEX_TGT_STACK 19 0, 700)]
      { DramCh.init with reads := [wRead 0x360 3 false 0] } with
    tb := { TimeBase.init with sec := 9 }, latches := [(Reg.NET_MAC_LO 2, some 4)], otp := [(0x108, 2)],
    rc := { up.rc with asserted := [] } }
/-- A reset from a ball, a pulse or a power-on in force, with the domains that it holds. -/
def wHeld (a : List ResetSource) (h : List Nat) : State := { wLive with rc := { wLive.rc with asserted := a, held := h } }
/-- The call of a code with ARGS posted in slot 7 of core 3, over a state. -/
def wCall (code : Nat) (args : List Byte) (s : State) : State :=
  { s.pmWrite (s.callSlot 3 7) (leBytes 4 9 ++ leBytes 2 code ++ [0, 0] ++ leBytes 8 5 ++ args ++ List.replicate (32 - args.length) 0) with
    trust := { s.trust with posts := [(3, 7)], last := [(3, some 8)] } }
/-- After boot, with no source asserted. -/
def wUp : State := { up with rc := { up.rc with asserted := [] } }
/-- A message waiting at the collector. -/
def wFault (src kind sev : Nat) : FaultMsg :=
  { source := src, kind := kind, severity := sev, consequential := false, escalated := false, forced := false, time := 2, addr := 0xAB12345678 }
def wFaults (ms : List FaultMsg) (s : State) : State := { s with fc := { s.fc with inputs := ms } }
/-- The Understudy Link open in a role, encode context 5 running; the bits of PAIR_CTRL beside EN, registers set. -/
def wPair (role ctrl : Nat) (rs : List (Nat × Nat)) : State :=
  { put wEncUp ([(Reg.PAIR_CTRL, 0x447800 + ctrl + 1), (Reg.PAIR_STATUS, 0x10340 + 8 * role + 2), (Reg.CHIP_SERIAL_LO, 7), (Reg.CHIP_SERIAL_LO + 4, 0)] ++ rs) with
    pair := { PairCtl.init with txSeq := 4, rxNext := 9 } }
/-- A frame of the partner, its SEQ 9. -/
def wPairF (typ : Nat) (p : List Byte) : List Byte := linkFrame 1 typ 9 50 p
/-- A HELLO of the partner: version, serial, role configured and in force, LEAD_SINCE. -/
def wPairHello (ver serial cfg role since : Nat) : List Byte :=
  linkFrame 1 1 0 50 (beBytes 2 ver ++ beBytes 2 ver ++ beBytes 8 serial ++ beBytes 1 cfg ++ beBytes 1 role ++ [0, 0] ++ beBytes 8 since)
/-- The HELLO exchange under way: link state 1, 3 or 4. -/
def wHellos (st cfg role : Nat) : State :=
  { wPair role (2 * cfg) [(Reg.PAIR_STATUS, 0x300 + 8 * role + st)] with tb := { TimeBase.init with sec := 3 } }
/-- The check values of the reference copies of the micro and nano stores as memory holds them, and a state that has them recorded. -/
@[irreducible] def wCrc (k : Nat) : Nat := crc32c (up.memBytes (up.copyBase + copyOffset k) (copyBytes k))
theorem wCrc_mod (k : Nat) : wCrc k % 2 ^ 32 = wCrc k := by unfold wCrc; exact Nat.mod_eq_of_lt (crc32c_lt _)
def wCrcs (s : State) (a b : Nat) : State := (s.setRegN Reg.UC_COPY_CRC_PX a).setRegN Reg.UC_COPY_CRC_NANO b
theorem wCrcs_reg (s : State) (a b k : Nat) (h0 : k ≠ Reg.UC_COPY_CRC_PX) (h1 : k ≠ Reg.UC_COPY_CRC_NANO) : (wCrcs s a b).reg k = s.reg k := by
  unfold wCrcs; rw [State.setRegN_reg, if_neg h1, State.setRegN_reg, if_neg h0]
theorem wCrcs_fld (s : State) (a b k hi lo : Nat) (h0 : k ≠ Reg.UC_COPY_CRC_PX) (h1 : k ≠ Reg.UC_COPY_CRC_NANO) :
    (wCrcs s a b).fld k hi lo = s.fld k hi lo := by
  unfold State.fld; rw [wCrcs_reg s a b k h0 h1]
theorem wCrcs_inReset (s : State) (a b p : Nat) (h0 : blkStat p ≠ Reg.UC_COPY_CRC_PX) (h1 : blkStat p ≠ Reg.UC_COPY_CRC_NANO) :
    (wCrcs s a b).inReset p = s.inReset p := by
  unfold State.inReset State.rbit; rw [wCrcs_reg s a b _ h0 h1]
theorem wCrcs_live (s : State) (a b p : Nat) (h0 : blkStat p ≠ Reg.UC_COPY_CRC_PX) (h1 : blkStat p ≠ Reg.UC_COPY_CRC_NANO) :
    (wCrcs s a b).live p = s.live p := by
  unfold State.live; rw [wCrcs_inReset s a b p h0 h1]; rfl
theorem wCrcs_bytes (s : State) (a b x n : Nat) : (wCrcs s a b).memBytes x n = s.memBytes x n := rfl
theorem wCrcs_bay (s : State) (a b n : Nat) : (wCrcs s a b).bay n = s.bay n := rfl
theorem wCrcs_px (s : State) (a b n : Nat) : (wCrcs s a b).pxEng n = s.pxEng n := rfl
theorem wCrcs_sig (s : State) (a b u : Nat) : (wCrcs s a b).expectedSig u = s.expectedSig u := rfl
theorem wCrcs_base (s : State) (a b : Nat) : (wCrcs s a b).copyBase = s.copyBase :=
  copyBase_of (wCrcs_reg s a b _ (by decide) (by decide)) (wCrcs_reg s a b _ (by decide) (by decide))
theorem wCrcs_crc0 (s : State) (a b : Nat) : (wCrcs s a b).copyCrc 0 = a % 2 ^ 32 := by
  show (wCrcs s a b).regN Reg.UC_COPY_CRC_PX = _
  unfold State.regN wCrcs
  rw [State.setRegN_reg, if_neg (by decide), State.setRegN_reg, if_pos rfl, BitVec.toNat_ofNat]
theorem wCrcs_crc1 (s : State) (a b : Nat) : (wCrcs s a b).copyCrc 1 = b % 2 ^ 32 := by
  show (wCrcs s a b).regN Reg.UC_COPY_CRC_NANO = _
  unfold State.regN wCrcs
  rw [State.setRegN_reg, if_pos rfl, BitVec.toNat_ofNat]
theorem bytes_of {s t : State} (m : s.mem = t.mem) (r : s.scrap = t.scrap) (x n : Nat) : s.memBytes x n = t.memBytes x n := by
  unfold State.memBytes; rw [m, r]
theorem wCrcs_good (s : State) (a b : Nat) (hb : s.copyBase = up.copyBase) (hm : s.mem = up.mem) (hs : s.scrap = up.scrap)
    (k : Nat) (h : (wCrcs s a b).copyCrc k = wCrc k) : (wCrcs s a b).copyGood k = true := by
  unfold State.copyGood
  rw [wCrcs_base, wCrcs_bytes, h, hb, bytes_of hm hs]; unfold wCrc; exact beq_self_eq_true _
/-- Bay 11 in its test. -/
def wTest : State := { put up [(Reg.REH_STATUS, 0xB03), (Reg.BAY_STATUS 11, 0x20000)] with otp := [(0x388, 5)], sram := [(0x2C00000, 1)] }
theorem wTest_good0 : (wCrcs wTest (wCrc 0) (wCrc 1)).copyGood 0 = true :=
  wCrcs_good wTest _ _ (by decide +kernel) (by decide +kernel) (by decide +kernel) 0 ((wCrcs_crc0 _ _ _).trans (wCrc_mod 0))
theorem wTest_good1 : (wCrcs wTest (wCrc 0) (wCrc 1)).copyGood 1 = true :=
  wCrcs_good wTest _ _ (by decide +kernel) (by decide +kernel) (by decide +kernel) 1 ((wCrcs_crc1 _ _ _).trans (wCrc_mod 1))
theorem wTest_state (a b : Nat) : (wCrcs wTest a b).live 0x006 = true ∧ (wCrcs wTest a b).fld Reg.REH_STATUS 2 0 = 3 ∧ 11 = (wCrcs wTest a b).fld Reg.REH_STATUS 11 8 ∧
    (wCrcs wTest a b).expectedSig 11 = 5 ∧ ((wCrcs wTest a b).bay 11).stuck = false ∧ (wCrcs wTest a b).inReset 0x08B = false ∧
    ∃ n ∈ enginesOf 11, ((wCrcs wTest a b).pxEng n).stuck = false ∧ (wCrcs wTest a b).inReset (0x100 + n) = false := by
  rw [wCrcs_live _ _ _ _ (by decide) (by decide), wCrcs_fld _ _ _ _ _ _ (by decide) (by decide), wCrcs_fld _ _ _ _ _ _ (by decide) (by decide),
    wCrcs_sig, wCrcs_bay, wCrcs_inReset _ _ _ _ (by decide) (by decide)]
  refine ⟨by decide +kernel, by decide +kernel, by decide +kernel, by decide +kernel, by decide +kernel, by decide +kernel, 88, by decide, ?_, ?_⟩
  · rw [wCrcs_px]; decide +kernel
  · rw [wCrcs_inReset _ _ _ _ (by decide) (by decide)]; decide +kernel


/-! ### Ill-formed commands are refused -/

theorem test_context_ill : Instr.wellFormed (.ctxEnable 256) = false := by decide
theorem test_port_ill : Instr.wellFormed (.freshMapWrite 0 4) = false := by decide
theorem test_address_ill : Instr.wellFormed (.arpWaitExpiry 0 (2 ^ 128)) = false := by decide
theorem test_mac_ill : Instr.wellFormed (.sessionMsgResolved 0 1 (2 ^ 48)) = false := by decide
theorem test_session_ill : Instr.wellFormed (.updateResend 0 (2 ^ 32) 1) = false := by decide
theorem test_row_ill : Instr.wellFormed (.rowSend 0 1024 []) = false := by decide
theorem test_tile_ill : Instr.wellFormed (.rowJobPlace 0 0 64 .encode) = false := by decide
theorem test_cell_ill : Instr.wellFormed (.cellFirstLineCheck 0 0 576) = false := by decide
theorem test_page_ill : Instr.wellFormed (.blockResetRelease 4096) = false := by decide
theorem test_boundary_ill : Instr.wellFormed (.boundaryOverrun 24) = false := by decide
theorem test_bad_ask_ill : Instr.wellFormed (.bar0BadAccess { addr := 8, bytes := 4, write := true }) = false := by decide
theorem test_bar_ask_ill : Instr.wellFormed (.bar2Access { off := 0x3FFFFFF, write := none, len := 2 }) = false := by decide
theorem test_ledger_ill : Instr.wellFormed (.ledgerUpdate { loads := [], canaries := [], temps := [] }) = false := by decide
theorem test_aux_ask_ill :
    Instr.wellFormed (.dpInAuxRequest 0 { i2c := false, read := false, addr := 0, len := 1, bytes := [] }) = false := by decide
theorem test_engine_ill : Instr.wellFormed (.ucDebugRead true 16 0) = false := by decide
theorem test_store_ill : Instr.wellFormed (.storeReload 1 12 []) = false := by decide
theorem test_dies_ill : Instr.wellFormed (.mr4Poll 0 []) = false := by decide
theorem test_udp_ill (m : NetMsg) (h : m.bytes.length = 65508) : Instr.wellFormed (.helloRx [m]) = false := by
  simp only [Instr.wellFormed, List.all_cons, udpOk, h]
  rfl
theorem test_otp_ill : Instr.wellFormed (.otpEnrol (some (48, 0))) = false := by decide
theorem test_bypass_ill : Instr.wellFormed (.bypass 2 4) = false := by decide
theorem test_debug_ill : Instr.wellFormed (.engineDebug { ce := true, n := 16, look := none, resume := false }) = false := by decide

/-! ### No word spells a command -/

theorem test_no_word (n w : Nat) : decodeTableWord n w = none := rfl

/-! ### Numbers the spec works out -/

/-- The example below R13. -/
theorem test_sequence_wraps : later32 3 0xFFFFFFFE = true ∧ later32 0xFFFFFFFE 3 = false := by decide
/-- The overhead of the alarm list's picture: its sheet of 135 cells and 16 bytes of picture timing, 13,464 bits. -/
theorem test_sheet_overhead : sheetMaxBits 135 + 8 * 16 = 13464 := by decide
/-- A row of skips, two slices and 60 CTUs, costs 504 bits (the alarm list at Marrowby). -/
theorem test_row_of_skips : closingCost 60 2 = 504 := by decide
/-- Losing a bay at Marrowby: an encode context of 10 % Exact with echo on is charged 6,461.7 PWU, a Main 10 decode at
2160p60 821.2, at 2160p30 410.6, an 8-bit one 746.5. -/
theorem test_charges :
    pwuCharge (3840 * 2160 * 6000 * 6) (encWeight 10 1 true) = 64617 ∧ pwuCharge (3840 * 2160 * 6000 * 3) (decWeight false 0 10) = 8212 ∧
    pwuCharge (3840 * 2160 * 3000 * 3) (decWeight false 0 10) = 4106 ∧ pwuCharge (3840 * 2160 * 6000 * 3) (decWeight false 0 8) = 7465 := by
  decide
/-- The nanoword of effect 3 at Marrowby, from its bytes: it breaks no rule and its floor is 6 units. -/
theorem test_nanoword :
    let w := 0x0002400000069805 + 2 ^ 128 * 0x0000000020000451
    nanoIllegal w = false ∧ nanoFloor w = 6 := by decide
/-- An access of another width does nothing (R5). -/
theorem test_bad_access : exec (.bar0BadAccess { addr := 0, bytes := 2, write := true }) up = .next up := rfl
/-- The grandmaster changeover at Tollan Junction: a step of 3.2 ms beyond the jump threshold of 1 ms is refused. -/
theorem test_step_refused :
    let s := put up [(Reg.TIME_JUMP_THRESH, 1000000), (Reg.TIME_STEP_LO, 3200000)]
    (s.timeStep 1).tb.step = none ∧ (s.timeStep 1).regN Reg.TIME_JUMPS_REFUSED = 1 := by decide +kernel
/-- The step it asks for with ACCEPT_JUMP is taken. -/
theorem test_step_taken :
    let s := put up [(Reg.TIME_JUMP_THRESH, 1000000), (Reg.TIME_STEP_LO, 3200000)]
    (s.timeStep 3).tb.step = some 3200000 := by decide +kernel
/-- An empty queue: the block idles for one tick of its clock, and the queue stays empty (assumption 1). -/
theorem test_idle : ∃ t, step State.reset = .next t ∧ t.pending = [] := ⟨_, rfl, by decide +kernel⟩

/-! ### Hypotheses that hold somewhere -/

theorem witness_BusReadsAndWrites_2 :
    ∃ (w : Writer) (v : Word) (s : State), (s.live 0x004 = true) ∧ (w = .host → s.domainHeld 9 = false) :=
  ⟨.host, 0xFFFFFFFF, up, by decide +kernel⟩

theorem witness_BusReadsAndWrites_3 :
    ∃ (w : Writer) (p : Fin 4) (s : State), (s.live (0x030 + p.val) = true) ∧ (w = .host → s.domainHeld 9 = false) ∧
      (s.latch (Reg.NET_RX_ERRORS p.val) = none) :=
  ⟨.host, 3, up, by decide +kernel⟩

theorem witness_BusReadsAndWrites_4 :
    ∃ (w : Writer) (n : Fin 8) (s : State), (s.live (0x040 + n.val) = true) ∧ (w = .host → s.domainHeld 9 = false) ∧
      (s.latch (Reg.DP_OUT_FRAME_TIME_LO n.val) = none) :=
  ⟨.host, 7, up, by decide +kernel⟩

theorem witness_BusReadsAndWrites_5 :
    ∃ (w : Writer) (n : Fin 8) (v : Word) (s : State), (s.live (0x040 + n.val) = true) ∧ (w = .host → s.domainHeld 9
      = false) ∧ (s.latch (Reg.DP_OUT_FRAME_TIME_LO n.val + 4) = some v) :=
  ⟨.prompter, 7, 5, up.setLatch (Reg.DP_OUT_FRAME_TIME_LO 7 + 4) (some 5), by decide +kernel⟩

theorem witness_HeldPages_1 :
    ∃ (w : Writer) (a : BitVec 24) (v : Word) (s : State), (pageInfo (pageOf a.toNat) = none) :=
  ⟨.host, 0xFFFFFC, 1, up, by decide +kernel⟩

theorem witness_HeldPages_2 :
    ∃ (w : Writer) (a : BitVec 24) (v : Word) (i : PageInfo) (s : State), (pageInfo (pageOf a.toNat) = some i) ∧
      (s.pageHeld i = true) :=
  ⟨.prompter, 0x00406C, 1, (pageInfo 4).get (by decide), State.reset, by decide +kernel⟩

theorem witness_RaisedMessages_1 :
    ∃ (src : Nat) (kind : Nat) (addr : Nat) (s : State), (kind ≠ 0) ∧ (isSource src = true) ∧ (s.suppressed src =
      true) :=
  ⟨0, 28, 3, State.reset, by decide +kernel⟩

theorem witness_RaisedMessages_2 :
    ∃ (src : Nat) (kind : Nat) (addr : Nat) (s : State), (kind ≠ 0) ∧ (isSource src = true) ∧ (s.suppressed src =
      false) ∧ ((s.fc.inputs.filter fun x => x.source == src).length < 2) :=
  ⟨939, 49, 3, up, by decide +kernel⟩

theorem witness_RaisedMessages_3 :
    ∃ (src : Nat) (kind : Nat) (addr : Nat) (s : State), (kind ≠ 0) ∧ (isSource src = true) ∧ (s.suppressed src =
      false) ∧ (2 ≤ (s.fc.inputs.filter fun x => x.source == src).length) :=
  ⟨0, 28, 3, (up.raise 0 28 1).raise 0 28 2, by decide +kernel⟩

theorem witness_FreshnessCommands_1 :
    ∃ (c : Nat) (p : DecPicture) (rest : List DecPicture) (s : State), (s.live (ctxPage c) = true) ∧ ((s.ctx
      c).commits = p :: rest) ∧ (s.contract c = false ∨ p.au.sheets = []) :=
  ⟨255, wPic 1 1, [], (put up [(Reg.FRESH_CTRL 255, 0)]).modCtx 255 (fun x => { x with commits := [wPic 1 1] }), by decide +kernel⟩

theorem witness_FreshnessCommands_2 :
    ∃ (c : Nat) (p : DecPicture) (rest : List DecPicture) (h : HeldSheet) (hs : List HeldSheet) (sh : Sheet2) (s :
      State), (s.live (ctxPage c) = true) ∧ (s.contract c = true) ∧ ((s.ctx c).commits = p :: rest) ∧ (p.au.sheets =
      h :: hs) ∧ (beAt h.body 0 1 ≠ 1) ∧ (readSheet2 h.body = some sh) ∧ (sh.cols ≠ cellsAcross p.pic.fmt.w ∨
      sh.rows ≠ cellsAcross p.pic.fmt.h) :=
  ⟨255, wPic 2 1, [], wSheet 2 1, [], (readSheet2 (wSheet 2 1).body).get (by decide), (put up [(Reg.FRESH_CTRL 255, 1)]).modCtx 255 (fun x => { x with commits := [wPic 2 1] }), by decide +kernel⟩

theorem witness_FreshnessCommands_3 :
    ∃ (c : Nat) (p : DecPicture) (rest : List DecPicture) (h : HeldSheet) (hs : List HeldSheet) (sh : Sheet2) (s :
      State), (s.live (ctxPage c) = true) ∧ (s.contract c = true) ∧ ((s.ctx c).commits = p :: rest) ∧ (p.au.sheets =
      h :: hs) ∧ (beAt h.body 0 1 ≠ 1) ∧ (readSheet2 h.body = some sh) ∧ (sh.cols = cellsAcross p.pic.fmt.w ∧
      sh.rows = cellsAcross p.pic.fmt.h) ∧ (p.pic.fmt.w = (s.ctx c).codedW ∧ p.pic.fmt.h = (s.ctx c).codedH) :=
  ⟨255, wPic 1 1, [], wSheet 1 1, [], (readSheet2 (wSheet 1 1).body).get (by decide), (put up [(Reg.FRESH_CTRL 255, 1)]).modCtx 255 (fun x => { x with commits := [wPic 1 1], codedW := 256, codedH := 256 }), by decide +kernel⟩

theorem witness_FreshnessCommands_4 :
    ∃ (n : Fin 8) (i : Fin 16) (cell : Nat) (line : Nat) (s : State), (s.live (compPage n.val) = true) ∧ (s.outState
      n.val ≠ 0) ∧ ((s.dpOut n.val).stopped = false) ∧ ((i.val, cell) ∉ (s.dpOut n.val).checked) ∧ (s.rbit
      (Reg.WIN_CTRL n.val i.val) 0 = true ∧ (s.win n.val i.val).kind = 0 ∧ (s.win n.val i.val).hatch = true) ∧
      (s.firstLine n.val i.val cell = some line) ∧ (s.noPicture (s.win n.val i.val).id = false) :=
  ⟨7, 15, 0, 0, (put up [(Reg.DP_OUT_STATUS 7, 3), (Reg.WIN_CTRL 7 15, 0x10001), (Reg.WIN_SRC_SIZE 7 15, 0x1000100), (Reg.WIN_DST_SIZE 7 15, 0x1000100)]).modCtx 0 (fun x => { x with frameStore := 1, codedW := 256, codedH := 256, winW := 256, winH := 256 }), by decide +kernel⟩

theorem witness_FreshnessCommands_5 :
    ∃ (c : Nat) (port : Nat) (k : Nat) (s : State), (s.ctxEnabled c = true) ∧ (s.contract c = true) ∧ (s.rbit
      (Reg.FRESH_CTRL c) 4 = true) ∧ (s.rbit (Reg.FRESH_CTRL c) 11 = false) ∧ (s.fld (Reg.FRESH_CTRL c) 10 8 = port)
      ∧ ((s.ctx c).mapK = k) ∧ (s.firstFenced byHardware (s.mapBase c + 0x100 * (k % 2)) 0x100 = none) :=
  ⟨255, 7, 0, put up [(blkCtrl (ctxPage 255), 1), (Reg.FRESH_CTRL 255, 0x711)], by decide +kernel⟩

theorem witness_FreshnessCommands_6 :
    ∃ (c : Nat) (k : Nat) (s : State), (s.ctxEnabled c = true) ∧ (s.contract c = true) ∧ (s.rbit (Reg.FRESH_CTRL c)
      4 = true) ∧ (s.rbit (Reg.FRESH_CTRL c) 11 = true) ∧ ((s.ctx c).mapK = k) ∧ (s.firstFenced byHardware
      (s.mapBase c + 0x100 * (k % 2)) 0x100 = none) :=
  ⟨255, 0, put up [(blkCtrl (ctxPage 255), 1), (Reg.FRESH_CTRL 255, 0x811)], by decide +kernel⟩

theorem witness_SessionMessagesAtEncoder_1 :
    ∃ (m : NetMsg) (c : Nat) (v : Nat) (s : State), (s.live (0x030 + m.port.val) = true) ∧ (msgFramed m.bytes = true
      ∧ msgSound m.bytes 1 = true ∧ msgId m.bytes ≠ 0) ∧ (s.findEnc (msgId m.bytes) m.src.toNat = none) ∧
      (s.ctxOfStream (readHello m.bytes).stream = some c) ∧ (s.decideHello c (readHello m.bytes) = .inr v) :=
  ⟨wHello, 5, 2, wEncUp, by decide +kernel⟩

theorem witness_SessionMessagesAtEncoder_2 :
    ∃ (m : NetMsg) (c : Nat) (st : Nat) (det : Nat) (s : State), (s.live (0x030 + m.port.val) = true) ∧ (msgFramed
      m.bytes = true ∧ msgSound m.bytes 1 = true ∧ msgId m.bytes ≠ 0) ∧ (s.findEnc (msgId m.bytes) m.src.toNat =
      none) ∧ (s.ctxOfStream (readHello m.bytes).stream = some c) ∧ (s.decideHello c (readHello m.bytes) = .inl (st,
      det)) :=
  ⟨wHello, 5, 3, 9980, wEncUp.setRegN (Reg.FRESH_RENEWAL 5) 20000, by decide +kernel⟩

theorem witness_SessionMessagesAtEncoder_3 :
    ∃ (a : NetMsg) (b : NetMsg) (s : State), (a.arrival ≠ b.arrival) :=
  ⟨{ wHello with arrival := 7 }, wHello, wEncUp, by decide +kernel⟩

theorem witness_SessionMessagesAtEncoder_4 :
    ∃ (m : NetMsg) (c : Nat) (e : EncSession) (s : State), (HeardByEnc s m 4 c e) :=
  ⟨wMsg 2 4 9 2 (List.replicate 20 7), 5, wSess, wEncOpen, by decide +kernel⟩

theorem witness_SessionMessagesAtEncoder_5 :
    ∃ (m : NetMsg) (c : Nat) (e : EncSession) (s : State), (HeardByEnc s m 6 c e) :=
  ⟨wMsg 2 6 9 2 ([1, 0, 0, 0] ++ List.replicate 72 7), 5, wSess, wEncOpen, by decide +kernel⟩

theorem witness_SessionMessagesAtEncoder_6 :
    ∃ (m : NetMsg) (c : Nat) (e : EncSession) (s : State), (HeardByEnc s m 8 c e) ∧ (badDeadline (beAt m.bytes 20 2)
      = false ∧ badDeadline (beAt m.bytes 22 2) = false) ∧ (s.fld (Reg.FRESH_RENEWAL c) 15 0 + max (beAt m.bytes 24
      2) (s.fld (Reg.FRESH_NET_ALLOW c) 15 0) ≤ min (beAt m.bytes 20 2) (beAt m.bytes 22 2)) :=
  ⟨wMsg 2 8 9 2 ([39, 16, 39, 16, 0, 1] ++ List.replicate 10 0), 5, wSess, wEncOpen, by decide +kernel⟩

theorem witness_SessionMessagesAtEncoder_7 :
    ∃ (m : NetMsg) (c : Nat) (e : EncSession) (s : State), (HeardByEnc s m 9 c e) ∧ (∃ a ∈ e.updWait, msgAck m.bytes
      ∈ a.seqs) :=
  ⟨wMsg 2 9 9 2 [0, 3, 0, 0, 0, 0, 0, 0], 5, wSess, wEncOpen, by decide +kernel⟩

theorem witness_SessionMessagesAtEncoder_8 :
    ∃ (m : NetMsg) (c : Nat) (e : EncSession) (s : State), (HeardByEnc s m 10 c e) :=
  ⟨wMsg 2 10 9 2 [0, 8, 0, 0], 5, wSess, wEncOpen, by decide +kernel⟩

theorem witness_SessionMessagesAtDecoder_1 :
    ∃ (m : NetMsg) (c : Nat) (d : DecSession) (s : State), (HeardByDec s m 2 c d) ∧ (d.st = .helloSent ∧ msgAck
      m.bytes = d.helloSeq) :=
  ⟨wMsg 1 2 9 4 (beBytes 2 1 ++ List.replicate 10 0), 3, wDecSess .helloSent, wDecOpen .helloSent, by decide +kernel⟩

theorem witness_SessionMessagesAtDecoder_2 :
    ∃ (m : NetMsg) (c : Nat) (d : DecSession) (s : State), (HeardByDec s m 3 c d) ∧ (d.st = .helloSent ∧ msgAck
      m.bytes = d.helloSeq) :=
  ⟨wMsg 1 3 9 4 (beBytes 2 7 ++ List.replicate 6 0), 3, wDecSess .helloSent, wDecOpen .helloSent, by decide +kernel⟩

theorem witness_SessionMessagesAtDecoder_3 :
    ∃ (m : NetMsg) (c : Nat) (u : Nat) (d : DecSession) (s : State), (HeardByDec s m 5 c d) ∧ (d.st = .opened ∧
      d.kaSent.find? (fun q => q.1 == msgAck m.bytes) = some (msgAck m.bytes, u)) :=
  ⟨wMsg 1 5 9 6 (List.replicate 12 0), 3, 0, wDecSess .opened, wDecOpen .opened, by decide +kernel⟩

theorem witness_SessionMessagesAtDecoder_4 :
    ∃ (m : NetMsg) (c : Nat) (d : DecSession) (s : State), (HeardByDec s m 7 c d) ∧ (∃ w ∈ d.refreshWait, msgAck
      m.bytes ∈ w.wait.seqs) :=
  ⟨wMsg 2 7 9 5 [0, 0, 0, 0], 3, wDecSess2, wDecOpen2, by decide +kernel⟩

theorem witness_SessionTimers_1 :
    ∃ (c : Nat) (s : State), (s.sessRuns c = true) ∧ ((s.ctx c).dec.st = .helloSent) ∧ ((s.ctx c).dec.attempts < 5) :=
  ⟨3, wDecOpen .helloSent, by decide +kernel⟩

theorem witness_SessionTimers_2 :
    ∃ (c : Nat) (s : State), (s.sessRuns c = true) ∧ ((s.ctx c).dec.st = .helloSent) ∧ (5 ≤ (s.ctx c).dec.attempts) :=
  ⟨3, (wDecOpen .helloSent).modCtx 3 fun x => { x with dec := { x.dec with attempts := 5 } }, by decide +kernel⟩

theorem witness_SessionTimers_3 :
    ∃ (c : Nat) (s : State), (s.sessRuns c = true) ∧ ((s.ctx c).dec.st = .backoff) :=
  ⟨3, wDecOpen .backoff, by decide +kernel⟩

theorem witness_SessionTimers_4 :
    ∃ (c : Nat) (s : State), (s.sessRuns c = true) ∧ ((s.ctx c).dec.st = .refused) :=
  ⟨3, wDecOpen .refused, by decide +kernel⟩

theorem witness_SessionTimers_5 :
    ∃ (c : Nat) (s : State), (s.sessRuns c = true) ∧ ((s.ctx c).dec.st = .opened) ∧ ((s.ctx c).dec.misses < s.fld
      (Reg.SESS_TIMING c) 19 16) :=
  ⟨3, wDecOpen .opened, by decide +kernel⟩

theorem witness_SessionTimers_6 :
    ∃ (c : Nat) (s : State), (s.sessRuns c = true) ∧ ((s.ctx c).dec.st = .opened) ∧ (s.fld (Reg.SESS_TIMING c) 19 16
      ≤ (s.ctx c).dec.misses) :=
  ⟨3, (wDecOpen .opened).modCtx 3 fun x => { x with dec := { x.dec with misses := 15 } }, by decide +kernel⟩

theorem witness_SessionTimers_8 :
    ∃ (c : Nat) (s : State), ((s.ctx c).dec.pending.isEmpty = true) :=
  ⟨3, up, by decide +kernel⟩

theorem witness_SessionTimers_9 :
    ∃ (c : Nat) (s : State), ((s.ctx c).dec.st = .opened ∧ (s.ctx c).dec.version = 2) ∧ ((s.ctx
      c).dec.pending.isEmpty = false) :=
  ⟨3, wDecOpen2, by decide +kernel⟩

theorem witness_SessionTimers_10 :
    ∃ (c : Nat) (w : AwaitRefresh) (r : List AwaitRefresh) (s : State), (s.sessRuns c = true) ∧ ((s.ctx c).dec.st =
      .opened) ∧ ((s.ctx c).dec.refreshWait = w :: r) ∧ (w.wait.resends < 3) :=
  ⟨3, { wait := { seqs := [5], resends := 0 }, cells := RefreshSet.empty }, [], wDecOpen2, by decide +kernel⟩

theorem witness_SessionTimers_11 :
    ∃ (c : Nat) (w : AwaitRefresh) (r : List AwaitRefresh) (s : State), (s.sessRuns c = true) ∧ ((s.ctx c).dec.st =
      .opened) ∧ ((s.ctx c).dec.refreshWait = w :: r) ∧ (3 ≤ w.wait.resends) :=
  ⟨3, { wait := { seqs := [5], resends := 3 }, cells := RefreshSet.empty }, [], wDecOpen2.modCtx 3 fun x => { x with dec := { x.dec with refreshWait := [{ wait := { seqs := [5], resends := 3 }, cells := RefreshSet.empty }] } }, by decide +kernel⟩

theorem witness_SessionTimers_12 :
    ∃ (c : Nat) (id : Nat) (src : Nat) (a : Await) (r : List Await) (s : State), (s.isEncode c = false) ∧
      (s.sessRuns c = true) ∧ ((s.ctx c).dec.st = .opened) ∧ ((s.ctx c).dec.updWait = a :: r) ∧ (a.resends < 5) :=
  ⟨3, 0, 0, { seqs := [6], resends := 4 }, [], wDecOpen2, by decide +kernel⟩

theorem witness_SessionTimers_13 :
    ∃ (c : Nat) (id : Nat) (src : Nat) (a : Await) (r : List Await) (e : EncSession) (s : State), (s.isEncode c =
      true) ∧ (((s.ctx c).encs.find? fun e => e.id == id && e.src == src) = some e) ∧ (e.updWait = a :: r) ∧ (5 ≤
      a.resends) :=
  ⟨5, 9, 2, { seqs := [2], resends := 5 }, [], { wSess with updWait := [{ seqs := [2], resends := 5 }] }, wEncUp.modCtx 5 fun x => { x with encs := [{ wSess with updWait := [{ seqs := [2], resends := 5 }] }] }, by decide +kernel⟩

theorem witness_SessionTimers_14 :
    ∃ (port : Nat) (addr : Nat) (mac : Nat) (s : State), (s.live (0x030 + port) = true) :=
  ⟨3, 9, 7, { up with sessWait := [{ ctx := 1, port := 3, addr := 9, dport := 5, bytes := [] }, { ctx := 1, port := 2, addr := 9, dport := 5, bytes := [] }] }, by decide +kernel⟩

theorem witness_SessionTimers_15 :
    ∃ (port : Nat) (addr : Nat) (w : WaitMsg) (pre : List WaitMsg) (post : List WaitMsg) (s : State), (s.sessWait =
      pre ++ w :: post) ∧ (∀ x ∈ pre, ¬ (x.port = port ∧ x.addr = addr)) ∧ (w.port = port ∧ w.addr = addr) :=
  ⟨3, 9, { ctx := 1, port := 3, addr := 9, dport := 5, bytes := [] }, [{ ctx := 1, port := 2, addr := 9, dport := 5, bytes := [] }], [], { up with sessWait := [{ ctx := 1, port := 2, addr := 9, dport := 5, bytes := [] }, { ctx := 1, port := 3, addr := 9, dport := 5, bytes := [] }] }, by decide +kernel⟩

theorem witness_SessionTimers_16 :
    ∃ (c : Nat) (v : Word) (s : State), (s.live (ctxPage c) = true) ∧ (s.isEncode c = false) ∧ (s.rbit
      (Reg.SESS_CTRL c) 0 = false ∧ bit v 0 = false) ∧ ((s.ctx c).dec.st = .idle) :=
  ⟨255, 0xFFFFFFFE, up, by decide +kernel⟩

theorem witness_SessionTimers_17 :
    ∃ (c : Nat) (v : Word) (s : State), (s.live (ctxPage c) = true) ∧ (s.rbit (Reg.SESS_CTRL c) 0 = true) :=
  ⟨3, 0, wDecOpen .opened, by decide +kernel⟩

theorem witness_SessionTiming_1 :
    ∃ (c : Nat) (v : Word) (s : State), (s.live (ctxPage c) = true) ∧ (10 ≤ bits v 15 0 ∧ bits v 15 0 ≤ 10000 ∧ 2 ≤
      bits v 19 16) :=
  ⟨255, 0x0002000A, up, by decide +kernel⟩

theorem witness_SessionTiming_2 :
    ∃ (c : Nat) (v : Word) (s : State), (s.live (ctxPage c) = true) ∧ (bits v 15 0 < 10 ∨ 10000 < bits v 15 0 ∨ bits
      v 19 16 < 2) :=
  ⟨255, 0x00020009, up, by decide +kernel⟩

theorem witness_EncodeCommands_1 :
    ∃ (c : Nat) (pfx : List Byte) (hooks : List (Option Nat)) (src : EncSource) (s : State), (s.live (ctxPage c) =
      true) ∧ (s.pairRole = 0) ∧ (s.ctxEnabled c = true) ∧ (s.isEncode c = true) ∧ ((s.ctx c).pic = none ∧ (s.ctx
      c).stopping = false ∧ s.mayStart c = true ∧ s.goesFirst c = true) ∧ ((s.takeSource c).2 = some src) :=
  ⟨5, [], [], ((wEncSmall none).takeSource 5).2.get (by decide +kernel), wEncSmall none, by decide +kernel, by decide +kernel, by decide +kernel, by decide +kernel, by decide +kernel, (Option.some_get _).symm⟩

theorem witness_EncodeCommands_2 :
    ∃ (c : Nat) (pfx : List Byte) (hooks : List (Option Nat)) (s : State), (s.live (ctxPage c) = true) ∧ (s.pairRole
      = 0) ∧ (s.ctxEnabled c = true) ∧ (s.isEncode c = true ∧ s.contract c = true) ∧ ((s.ctx c).pic = none ∧ (s.ctx
      c).stopping = false ∧ s.goesFirst c = true) ∧ (s.encSel c ≤ 3 ∧ (s.dpIn (s.encSel c)).newest = none) :=
  ⟨5, [], [], ((wEncSmall none).setDpIn 2 DpIn.init).modCtx 5 fun x => (x.setCell 0 { x.cell 0 with issued := some 0 }).setCell 1 { x.cell 1 with issued := some 0 }, by decide +kernel⟩

theorem witness_EncodeCommands_3 :
    ∃ (c : Nat) (row : Nat) (hooks : List (Option Nat)) (p : EncPicture) (s : State), (s.live (ctxPage c) = true) ∧
      ((s.ctx c).pic = some p) ∧ ((s.ctx c).tileCols = 1 ∧ row = p.slicesSent ∧ row < (s.ctx c).ctuRows) ∧
      (s.sliceReady c row p = true) ∧ ((s.ctx c).rtpSeq < 65536) :=
  ⟨5, 0, [], wEncPicture, (wEncPic (some wEncPicture)).setReg (Reg.ENC_RTP 5) 0x03E80000, by decide +kernel⟩

theorem witness_EncodeCommands_4 :
    ∃ (c : Nat) (row : Nat) (hooks : List (Option Nat)) (p : EncPicture) (s : State), (s.live (ctxPage c) = true) ∧
      ((s.ctx c).pic = some p) ∧ (p.slicesSent = row * (s.ctx c).tileCols ∧ row < (s.ctx c).ctuRows) ∧ (∀ k < (s.ctx
      c).tileCols, s.sliceReady c (p.slicesSent + k) p = true) :=
  ⟨5, 0, [], wEncPicture, (wEncPic (some wEncPicture)).setReg (Reg.ENC_RTP 5) 0x03E80000, by decide +kernel⟩

theorem witness_EncodeCommands_5 :
    ∃ (c : Nat) (row : Nat) (hooks : List (Option Nat)) (p : EncPicture) (s : State), (s.live (ctxPage c) = true) ∧
      ((s.ctx c).pic = some p) ∧ (row ≠ p.slicesSent / (s.ctx c).tileCols ∨ s.sliceReady c p.slicesSent p = false) :=
  ⟨5, 1, [], wEncPicture, wEncPic (some wEncPicture), by decide +kernel⟩

theorem witness_EncodeCommands_6 :
    ∃ (c : Nat) (sl : Nat) (diffs : List SampleDiff) (p : EncPicture) (s : State), (s.live (ctxPage c) = true) ∧
      ((s.ctx c).pic = some p) ∧ (s.rbit (Reg.CTX_MODE c) 7 = true ∧ (p.slice sl).passed = false) ∧ ((s.ctx
      c).sliceCtus sl ≠ [] ∧ ∀ a ∈ (s.ctx c).sliceCtus sl, ((s.ctx c).ctu a).decided = true) ∧ (sampleCrc ((s.ctx
      c).sliceSamples p.pic.fmt sl (rawAt p.raw)) = sampleCrc ((s.ctx c).sliceSamples p.pic.fmt sl (diffAt diffs
      (rawAt p.raw)))) :=
  ⟨5, 0, [], wTinyPicture, (wEncSmall (some wTinyPicture)).setRbit (Reg.CTX_MODE 5) 7 true, by decide +kernel⟩

theorem witness_EncodeCommands_7 :
    ∃ (c : Nat) (sl : Nat) (diffs : List SampleDiff) (p : EncPicture) (s : State), (s.live (ctxPage c) = true) ∧
      ((s.ctx c).pic = some p) ∧ (s.rbit (Reg.CTX_MODE c) 7 = true ∧ (p.slice sl).passed = false ∧ (p.slice
      sl).fails = 0) ∧ ((s.ctx c).sliceCtus sl ≠ [] ∧ ∀ a ∈ (s.ctx c).sliceCtus sl, ((s.ctx c).ctu a).decided =
      true) ∧ (sampleCrc ((s.ctx c).sliceSamples p.pic.fmt sl (rawAt p.raw)) ≠ sampleCrc ((s.ctx c).sliceSamples
      p.pic.fmt sl (diffAt diffs (rawAt p.raw)))) :=
  ⟨5, 0, [{ plane := 0, x := 1, y := 1, value := 255 }], wTinyPicture, (wEncSmall (some wTinyPicture)).setRbit (Reg.CTX_MODE 5) 7 true, by decide +kernel⟩

theorem witness_EncodeCommands_8 :
    ∃ (c : Nat) (sfx : List Byte) (hooks : List (Option Nat)) (digest : Word) (p : EncPicture) (s : State),
      (s.pairRole = 0) ∧ ((s.ctx c).pic = some p ∧ (s.ctx c).stopping = false) ∧ (p.rowsSent.length = (s.ctx
      c).ctuRows ∧ s.hasJob c .encode = false ∧ s.echoDone c p = true) ∧ (∀ a ∈ List.range (s.ctx c).ctuCount,
      ((s.ctx c).ctu a).decided = true) :=
  ⟨5, [], [], 0, { wSmallPicture with rowsSent := [0] }, wEncSmall (some { wSmallPicture with rowsSent := [0] }), by decide +kernel⟩

theorem witness_ContextLife_1 :
    ∃ (c : Nat) (g : Charge) (table : Nat) (u : State) (v : State) (s : State), (c < 256) ∧ (s.enabled (ctxPage c) =
      false ∧ s.inReset (ctxPage c) = false ∧ s.domainHeld 6 = false) ∧ (s.ledger.waiting.elem (enableReq c) =
      false) ∧ (s.checkSet c true = none ∧ s.rbit Reg.LEDGER_STATUS 11 = true ∧ bit (s.sh (Reg.CTX_MODE c)) 0 =
      true) ∧ (s.formCharge c = .inr g) ∧ (s.admitCtx c g = (u, 0)) ∧ (u.poolAsk (u.ctx c).ce 9216 = (v, 0, table) ∧
      s.wantsMapBuf c = false) :=
  ⟨5, (wReady.formCharge 5).elim (fun _ => Charge.zero) id, (((wReady.admitCtx 5 ((wReady.formCharge 5).elim (fun _ => Charge.zero) id)).1).poolAsk (((wReady.admitCtx 5 ((wReady.formCharge 5).elim (fun _ => Charge.zero) id)).1).ctx 5).ce 9216).2.2, (wReady.admitCtx 5 ((wReady.formCharge 5).elim (fun _ => Charge.zero) id)).1, (((wReady.admitCtx 5 ((wReady.formCharge 5).elim (fun _ => Charge.zero) id)).1).poolAsk (((wReady.admitCtx 5 ((wReady.formCharge 5).elim (fun _ => Charge.zero) id)).1).ctx 5).ce 9216).1, wReady, by decide +kernel⟩

theorem witness_ContextLife_2 :
    ∃ (c : Nat) (s : State), (s.enabled (ctxPage c) = false ∧ s.inReset (ctxPage c) = false ∧ s.domainHeld 6 =
      false) ∧ (s.ledger.waiting.elem (enableReq c) = false) ∧ (s.checkSet c true = none ∧ s.rbit Reg.LEDGER_STATUS
      11 = false) :=
  ⟨5, wReady.setRbit Reg.LEDGER_STATUS 11 false, by decide +kernel⟩

theorem witness_ContextLife_3 :
    ∃ (c : Nat) (r : SetRefusal) (s : State), (s.enabled (ctxPage c) = false ∧ s.inReset (ctxPage c) = false ∧
      s.domainHeld 6 = false) ∧ (s.ledger.waiting.elem (enableReq c) = false) ∧ (s.checkSet c true = some r) :=
  ⟨255, .config 3, put up [(shadowOf (Reg.CTX_MODE 255), 0x60)], by decide +kernel⟩

theorem witness_ContextLife_4 :
    ∃ (c : Nat) (s : State), (s.live (ctxPage c) = true) ∧ (s.enabled (ctxPage c) = true ∧ s.ledger.waiting.elem
      (enableReq c) = false) ∧ ((s.ctx c).pic = none ∧ (s.ctx c).dpic = none ∧ (s.ctx c).comingAu = false) :=
  ⟨5, wEncPic none, by decide +kernel⟩

theorem witness_ContextLife_5 :
    ∃ (c : Nat) (s : State), (s.live (ctxPage c) = true) ∧ (s.enabled (ctxPage c) = true ∧ s.ledger.waiting.elem
      (enableReq c) = false) ∧ ((s.ctx c).pic ≠ none ∨ (s.ctx c).dpic ≠ none ∨ (s.ctx c).comingAu = true) :=
  ⟨5, wEncPic (some wEncPicture), by decide +kernel⟩

theorem witness_ContextLife_6 :
    ∃ (c : Nat) (s : State), (s.live (ctxPage c) = true) ∧ (s.enabled (ctxPage c) = true ∧ s.ledger.waiting.elem
      (enableReq c) = false) :=
  ⟨5, wEncPic (some wEncPicture), by decide +kernel⟩

theorem witness_DecodeCommands_1 :
    ∃ (c : Nat) (p : RtpPacket) (s : State), (s.live (ctxPage c) = true) ∧ (s.ctxEnabled c = true ∧ s.isEncode c =
      false ∧ s.sessRuns c = false) ∧ (s.rbit (Reg.DEC_RTP c) 7 = true ∨ s.fld (Reg.DEC_RTP c) 6 0 = p.pt.toNat) ∧
      (s.regN (Reg.SESS_STREAM_ID c) = 0 ∨ s.regN (Reg.SESS_STREAM_ID c) = p.ssrc.toNat) ∧ ((s.ctx c).expSeq = none
      ∨ (s.ctx c).expSeq = some p.seq.toNat) ∧ ((s.ctx c).waiting = []) :=
  ⟨3, wPkt 65535, wDecCtx, by decide +kernel⟩

theorem witness_DecodeCommands_2 :
    ∃ (c : Nat) (e : Nat) (p : RtpPacket) (s : State), (s.live (ctxPage c) = true) ∧ (s.ctxEnabled c = true ∧
      s.isEncode c = false ∧ s.sessRuns c = false) ∧ (s.rbit (Reg.DEC_RTP c) 7 = true ∨ s.fld (Reg.DEC_RTP c) 6 0 =
      p.pt.toNat) ∧ (s.regN (Reg.SESS_STREAM_ID c) = 0 ∨ s.regN (Reg.SESS_STREAM_ID c) = p.ssrc.toNat) ∧ ((s.ctx
      c).expSeq = some e) ∧ (later16 p.seq.toNat e = true ∧ p.unsupported = false) ∧ (∀ w ∈ (s.ctx c).waiting, w.seq
      ≠ p.seq ∧ w.seq.toNat ≠ e) :=
  ⟨3, 65533, wPkt 65535, wDecCtx.modCtx 3 fun x => { x with expSeq := some 65533, waiting := [wPkt 65534] }, by decide +kernel⟩

theorem witness_DecodeCommands_3 :
    ∃ (c : Nat) (e : Nat) (p : RtpPacket) (s : State), (s.live (ctxPage c) = true) ∧ ((s.ctx c).expSeq = some e) ∧
      ((s.ctx c).waiting = [p]) :=
  ⟨3, 65533, wPkt 65535, wDecCtx.modCtx 3 fun x => { x with expSeq := some 65533, waiting := [wPkt 65535] }, by decide +kernel⟩

theorem witness_DecodeCommands_4 :
    ∃ (c : Nat) (u : AccessUnit) (rest : List AccessUnit) (i : SpsInfo) (s : State), (s.live (ctxPage c) = true) ∧
      (s.ctxEnabled c = true ∧ s.isEncode c = false) ∧ ((s.ctx c).dpic = none ∧ (s.ctx c).stopping = false ∧ (s.ctx
      c).started = true ∧ (s.ctx c).degrade = 0) ∧ (s.goesFirst c = true) ∧ ((s.ctx c).skipChain = false ∧ (s.ctx
      c).raslSkip = false) ∧ ((s.ctx c).sps = some i ∧ (s.ctx c).refused = none) ∧ ((s.ctx c).queue = u :: rest) ∧
      (u.sets = [] ∧ s.pictureSps c u = some i ∧ u.irap = false) :=
  ⟨3, wAu, [], wSps, wDecQ, by decide +kernel⟩

theorem witness_DecodeCommands_5 :
    ∃ (c : Nat) (p : DecPicture) (i : SpsInfo) (s : State), (s.live (ctxPage c) = true) ∧ ((s.ctx c).dpic = some p ∧
      (s.ctx c).sps = some i) ∧ ((s.ctx c).stopping = false) ∧ (p.arriving = false ∧ s.hasJob c .decode = false) ∧
      (∀ a ∈ List.range (p.ctuCount i), a ∈ p.done ∨ a ∈ p.damaged) :=
  ⟨3, { wPic 0 0 with done := [0] }, wSps, wDecQ.modCtx 3 fun x => { x with dpic := some { wPic 0 0 with done := [0] } }, by decide +kernel⟩

theorem witness_LedgerCommands_1 :
    ∃ (f : LedgerFacts) (s : State), (s.domainHeld 1 = false ∧ s.domainHeld 6 = false) :=
  ⟨{ loads := [5], canaries := [7], temps := [400] }, up, by decide +kernel⟩

theorem witness_LedgerCommands_2 :
    ∃ (r : AdmitReq) (s : State), (s.live 0x007 = true) ∧ (s.rbit Reg.LEDGER_STATUS 11 = true) ∧ (minBy?
      AdmitReq.order s.ledger.waiting = some r) :=
  ⟨compReq 3, { (put up [(Reg.LEDGER_STATUS, 2048)]) with ledger := { Ledger.init with waiting := [compReq 3] } }, by decide +kernel⟩

theorem witness_LedgerCommands_3 :
    ∃ (c : Nat) (samples : Nat) (exact : Nat) (s : State), (s.live (ctxPage c) = true) ∧ ((s.ctx c).admitted = true
      ∧ (s.ctx c).chg.enc = true) :=
  ⟨5, 4000000000, 7, (put up [(Reg.CTX_MODE 5, 1)]).modCtx 5 fun x => { x with admitted := true, chg := { Charge.zero with enc := true, pwu := 95, refs := 1 } }, by decide +kernel⟩

theorem witness_LedgerCommands_4 :
    ∃ (c : Nat) (samples : Nat) (exact : Nat) (s : State), (s.live (ctxPage c) = true) ∧ ((s.ctx c).admitted = true
      ∧ (s.ctx c).chg.enc = false) :=
  ⟨5, 4000000000, 0, up.modCtx 5 fun x => { x with admitted := true, chg := { Charge.zero with pwu := 95 } }, by decide +kernel⟩

theorem witness_LedgerCommands_5 :
    ∃ (c : Nat) (samples : Nat) (exact : Nat) (s : State), (s.live (ctxPage c) = true) ∧ ((s.ctx c).admitted =
      false) :=
  ⟨5, 4000000000, 0, up, by decide +kernel⟩

theorem witness_RowJobCommands_1 :
    ∃ (c : Nat) (row : Nat) (tile : Nat) (b : Nat) (kind : JobKind) (s : State), (s.live (ctxPage c) = true) ∧
      (s.jobWaits c row tile kind = true) ∧ (s.bayFor c none = some b) :=
  ⟨5, 0, 0, 2, .encode, wJobs, by decide +kernel⟩

theorem witness_RowJobCommands_2 :
    ∃ (b : Fin 12) (d : PxDispatch) (f : CtuFacts) (j : RowJob) (a : Nat) (e : Nat) (s : State), (s.live (0x080 +
      b.val) = true) ∧ (d.window = none) ∧ (minBy? (fun p => s.ctuOrder p.1 p.2) ((s.bay b.val).jobs.filterMap fun j
      => (s.readyCtu j).bind fun a => if s.readsReady j f then some (j, a) else none) = some (j, a)) ∧ (s.freeEngine
      b.val = some e) :=
  ⟨2, wDispatch, wCtu, wEchoJob, 0, 0, wBayJob, by decide +kernel⟩

theorem witness_RowJobCommands_3 :
    ∃ (b : Fin 12) (d : PxDispatch) (f : CtuFacts) (i : WinItem) (e : Nat) (s : State), (s.live (0x080 + b.val) =
      true) ∧ (d.window = some i) ∧ (s.bayInService b.val = true ∧ s.runsWindow i = true) ∧ (s.freeEngine b.val =
      some e) :=
  ⟨2, { wDispatch with window := some wItem }, wCtu, wItem, 0, put wBayJob [(Reg.COMP_WIN_STATUS 7 15, 0x200)], by decide +kernel⟩

theorem witness_RowJobCommands_4 :
    ∃ (b : Fin 12) (c : Nat) (row : Nat) (tile : Nat) (kind : JobKind) (e : JobEnd) (j : RowJob) (s : State),
      (s.live (0x080 + b.val) = true) ∧ (((s.bay b.val).jobs.find? fun j => j.same c row tile kind) = some j) ∧
      (j.on = [] ∧ s.edgeReady j = true ∧ ∀ a ∈ j.ctus, a ∈ j.started) :=
  ⟨2, 5, 0, 0, .echo, { bins := 9, edits := [], diffs := [] }, { wEchoJob with started := [0] }, { up with bays := [(2, { Bay.init with jobs := [{ wEchoJob with started := [0] }] })] }, by decide +kernel⟩

theorem witness_RowJobCommands_5 :
    ∃ (c : Nat) (n : Nat) (seg : Nat) (s : State), (s.live (ctxPage c) = true) ∧ (s.ctxEnabled c = true ∧
      (s.isEncode c = true → (s.ctx c).lanes.length < 8)) ∧ (s.nextSegment c = some seg) ∧ (((List.range 24).find?
      fun n => !s.rbit (Reg.EL_STATUS n) 0 && !s.inReset (0x1A0 + n)) = some n) :=
  ⟨5, 1, 0, { (wEncPic (some wEncPicture)).setRegN (Reg.EL_STATUS 0) 1 with bays := [(2, { Bay.init with jobs := [{ wEchoJob with kind := .encode }] })] }, by decide +kernel⟩

theorem witness_MicrocodeStores_1 :
    ∃ (k : Fin 3) (i : Fin 96) (errs : List (Fin 6)) (s : State), (s.domainHeld 5 = false) ∧ (i.val < ucInstances
      k.val) ∧ (s.reloadable k.val i.val = true) ∧ (s.copyGood k.val = true) :=
  ⟨2, 15, [], wCopied wCopy, ⟨wCopied_held _, by decide, wCopied_reloadable _, wCopied_good⟩⟩

theorem witness_MicrocodeStores_2 :
    ∃ (i : Fin 16) (errs : List (Fin 6)) (s : State), (s.domainHeld 5 = false) ∧ (s.reloadable 2 i.val = true) ∧
      (s.copyGood 2 = true) :=
  ⟨15, [], wCopied wCopy, ⟨wCopied_held _, wCopied_reloadable _, wCopied_good⟩⟩

theorem witness_MicrocodeStores_3 :
    ∃ (k : Fin 3) (i : Fin 96) (errs : List (Fin 6)) (s : State), (s.domainHeld 5 = false) ∧ (i.val < ucInstances
      k.val) ∧ (s.reloadable k.val i.val = true) ∧ (s.copyGood k.val = false) :=
  ⟨2, 15, [3], wCopied (wCopy + 1), ⟨wCopied_held _, by decide, wCopied_reloadable _, wCopied_bad⟩⟩

theorem witness_MicrocodeStores_4 :
    ∃ (k : Fin 3) (i : Fin 96) (errs : List (Fin 6)) (s : State), (s.reloadable k.val i.val = false) :=
  ⟨2, 15, [], up, by decide +kernel⟩

theorem witness_MicrocodeStores_5 :
    ∃ (k : Fin 3) (i : Fin 96) (a : BitVec 13) (s : State), (s.domainHeld 5 = false) ∧ (i.val < ucInstances k.val ∧
      a.toNat < ucWords k.val) ∧ (ucGood k.val (s.ucRead k.val i.val a.toNat) = false) :=
  ⟨2, 15, 4095, wWord up 2 15 4095 1, by decide +kernel⟩

theorem witness_MicrocodeStores_6 :
    ∃ (k : Fin 3) (i : Fin 96) (a : BitVec 13) (served : Bool) (s : State), (s.domainHeld 5 = false) ∧ (i.val <
      ucInstances k.val ∧ a.toNat < ucWords k.val) ∧ (served = true ∨ ucGood k.val (s.ucRead k.val i.val a.toNat) =
      true) :=
  ⟨0, 95, 8191, false, up, by decide +kernel⟩

theorem witness_MicrocodeStores_7 :
    ∃ (n : Fin 16) (v : Word) (s : State), (s.live (0x180 + n.val) = true) :=
  ⟨15, 4095, wWord up 2 15 4095 1, by decide +kernel⟩

theorem witness_MicrocodeStores_8 :
    ∃ (n : Fin 96) (v : Word) (s : State), (s.live (0x100 + n.val) = true) ∧ (bit v 16 = false) :=
  ⟨95, 8191, up, by decide +kernel⟩

theorem witness_MicrocodeStores_9 :
    ∃ (n : Fin 96) (v : Word) (s : State), (s.live (0x100 + n.val) = true) ∧ (bit v 16 = true) :=
  ⟨95, 0x10FFF, up, by decide +kernel⟩

theorem witness_PixelWords_1 :
    ∃ (n : Fin 96) (w : Nat) (s : State), (PxWordAt s n.val 1 w) :=
  ⟨95, 0x10FFFF, wPx 0x10FFFF, by decide +kernel⟩

theorem witness_PixelWords_2 :
    ∃ (n : Fin 96) (w : Nat) (s : State), (PxWordAt s n.val 2 w) :=
  ⟨95, 0x20FFFF, wPx 0x20FFFF, by decide +kernel⟩

theorem witness_PixelWords_3 :
    ∃ (n : Fin 96) (w : Nat) (s : State), (PxWordAt s n.val 3 w) :=
  ⟨95, 0x300003, wPx 0x300003, by decide +kernel⟩

theorem witness_PixelWords_4 :
    ∃ (n : Fin 96) (w : Nat) (s : State), (PxWordAt s n.val 4 w) ∧ (PxMay s (s.pxEng n.val) (nbits w 12 0)) :=
  ⟨95, 0x401FFF, wPx 0x401FFF, by decide +kernel⟩

theorem witness_PixelWords_5 :
    ∃ (n : Fin 96) (w : Nat) (s : State), (PxWordAt s n.val 5 w) ∧ (PxMay s (s.pxEng n.val) (nbits w 12 0)) ∧
      ((s.pxEng n.val).stack.length < 4) ∧ ((s.pxEng n.val).cond (nbits w 15 13) = true) :=
  ⟨95, 0x500000, wPx 0x500000, by decide +kernel⟩

theorem witness_PixelWords_6 :
    ∃ (n : Fin 96) (w : Nat) (s : State), (PxWordAt s n.val 6 w) ∧ (PxMay s (s.pxEng n.val) (nbits w 12 0)) :=
  ⟨95, 0x600007, wPx 0x600007, by decide +kernel⟩

theorem witness_PixelWords_7 :
    ∃ (n : Fin 96) (w : Nat) (r : Nat) (rest : List Nat) (s : State), (PxWordAt s n.val 7 w) ∧ ((s.pxEng
      n.val).stack = r :: rest) :=
  ⟨95, 0x700000, 5, [6], (wPx 0x700000).modPx 95 fun x => { x with stack := [5, 6] }, by decide +kernel⟩

theorem witness_PixelWords_8 :
    ∃ (n : Fin 96) (w : Nat) (it : PxItem) (s : State), (PxWordAt s n.val 8 w) ∧ ((s.pxEng n.val).item = some it) ∧
      (nbit w 0 = false ∨ (match it.work with | .ctu _ .decode _ => false | _ => true) = true) ∧ ((s.bay (n.val /
      8)).items = []) :=
  ⟨95, 0x800001, { work := .ctu 5 .encode 0, entry := 0, slotBase := 0, slotLen := 0 }, wPx 0x800001, by decide +kernel⟩

theorem witness_PixelWords_9 :
    ∃ (n : Fin 96) (w : Nat) (s : State), (PxWordAt s n.val 9 w) :=
  ⟨95, 0x90000F, wPx 0x90000F, by decide +kernel⟩

theorem witness_PixelWords_10 :
    ∃ (n : Fin 96) (w : Nat) (s : State), (PxWordAt s n.val 15 w) :=
  ⟨95, 0xF00000, (wPx 0xF00000).setRegN Reg.TRUST_DEBUG 1, by decide +kernel⟩

theorem witness_PixelWords_11 :
    ∃ (n : Fin 96) (e : Fin 4) (s : State), ((s.pxEng n.val).wait = some (2 ^ e.val)) :=
  ⟨95, 3, (wPx 0).modPx 95 fun x => { x with wait := some 8 }, by decide +kernel⟩

theorem witness_PixelWords_12 :
    ∃ (n : Fin 96) (e : Fin 4) (s : State), ((s.pxEng n.val).wait = none) :=
  ⟨95, 0, wPx 0, by decide +kernel⟩

theorem witness_PixelWords_13 :
    ∃ (n : Fin 96) (w : Nat) (nw : Nat) (a : Nat) (b : Nat) (d : Nat) (s : State), (PxWordAt s n.val 0 w) ∧ (nbits w
      15 12 = 0 ∧ (s.pxEng n.val).cust = none ∧ nbits w 11 0 < s.fenceNano) ∧ (ucGood 1 (s.ucRead 1 (n.val / 8)
      (nbits w 11 0)) = true ∧ ucData 1 (s.ucRead 1 (n.val / 8) (nbits w 11 0)) = nw) ∧ (a < 16 ∧ b < 16 ∧ d < 16) ∧
      (nw = 2 ^ 97 + a * 2 ^ 101 + b * 2 ^ 105 + d * 2 ^ 109) :=
  ⟨95, 5, 2 ^ 97 + 3 * 2 ^ 101 + 15 * 2 ^ 105 + 15 * 2 ^ 109, 3, 15, 15, wNano (2 ^ 97 + 3 * 2 ^ 101 + 15 * 2 ^ 105 + 15 * 2 ^ 109), by decide +kernel⟩

theorem witness_PixelWords_14 :
    ∃ (n : Fin 96) (w : Nat) (nw : Nat) (a : Nat) (b : Nat) (d : Nat) (s : State), (PxWordAt s n.val 0 w) ∧ (nbits w
      15 12 = 0 ∧ (s.pxEng n.val).cust = none ∧ nbits w 11 0 < s.fenceNano) ∧ (ucGood 1 (s.ucRead 1 (n.val / 8)
      (nbits w 11 0)) = true ∧ ucData 1 (s.ucRead 1 (n.val / 8) (nbits w 11 0)) = nw) ∧ (a < 32 ∧ b < 32 ∧ d < 32) ∧
      (nw = a + b * 2 ^ 5 + d * 2 ^ 10 + 2 * 2 ^ 16) ∧ (((s.pxEng n.val).vec a).length = 32 ∧ ((s.pxEng n.val).vec
      b).length = 32) :=
  ⟨95, 5, 3 + 31 * 2 ^ 5 + 31 * 2 ^ 10 + 2 * 2 ^ 16, 3, 31, 31, wNano (3 + 31 * 2 ^ 5 + 31 * 2 ^ 10 + 2 * 2 ^ 16), by decide +kernel⟩

theorem witness_CueEngineArithmetic_1_1 :
    CeWordAt (wCe (wReg 0x00 15 3 5)) 15 0x00 (wReg 0x00 15 3 5) :=
  by decide +kernel

theorem witness_CueEngineArithmetic_1_2 :
    CeWordAt (wCe (wReg 0x01 0 3 5)) 15 0x01 (wReg 0x01 0 3 5) :=
  by decide +kernel

theorem witness_CueEngineArithmetic_1_3 :
    CeWordAt (wCe (wReg 0x02 31 3 5)) 15 0x02 (wReg 0x02 31 3 5) :=
  by decide +kernel

theorem witness_CueEngineArithmetic_1_4 :
    CeWordAt (wCe (wReg 0x03 15 3 5)) 15 0x03 (wReg 0x03 15 3 5) :=
  by decide +kernel

theorem witness_CueEngineArithmetic_1_5 :
    CeWordAt (wCe (wReg 0x04 15 3 3)) 15 0x04 (wReg 0x04 15 3 3) :=
  by decide +kernel

theorem witness_CueEngineArithmetic_1_6 :
    CeWordAt (wCe (wReg 0x08 15 3 5)) 15 0x08 (wReg 0x08 15 3 5) :=
  by decide +kernel

theorem witness_CueEngineArithmetic_1_7 :
    CeWordAt (wCe (wReg 0x0F 15 3 5)) 15 0x0F (wReg 0x0F 15 3 5) :=
  by decide +kernel

theorem witness_CueEngineArithmetic_2_1 :
    CeWordAt (wCe (wReg 0x05 15 3 5)) 15 0x05 (wReg 0x05 15 3 5) :=
  by decide +kernel

theorem witness_CueEngineArithmetic_2_2 :
    CeWordAt (wCe (wReg 0x06 15 3 5)) 15 0x06 (wReg 0x06 15 3 5) :=
  by decide +kernel

theorem witness_CueEngineArithmetic_2_3 :
    CeWordAt (wCe (wReg 0x07 15 3 5)) 15 0x07 (wReg 0x07 15 3 5) :=
  by decide +kernel

theorem witness_CueEngineArithmetic_3_1 :
    CeWordAt (wCe (wReg 0x09 15 3 5)) 15 0x09 (wReg 0x09 15 3 5) :=
  by decide +kernel

theorem witness_CueEngineArithmetic_3_2 :
    CeWordAt (wCe (wReg 0x0A 15 3 5)) 15 0x0A (wReg 0x0A 15 3 5) :=
  by decide +kernel

theorem witness_CueEngineArithmetic_3_3 :
    CeWordAt (wCe (wReg 0x0B 15 3 5)) 15 0x0B (wReg 0x0B 15 3 5) :=
  by decide +kernel

theorem witness_CueEngineArithmetic_4_1 :
    CeWordAt (wCe (wReg 0x0D 15 3 5)) 15 0x0D (wReg 0x0D 15 3 5) :=
  by decide +kernel

theorem witness_CueEngineArithmetic_4_2 :
    CeWordAt (wCe (wReg 0x0E 15 3 5)) 15 0x0E (wReg 0x0E 15 3 5) :=
  by decide +kernel

theorem witness_CueEngineArithmetic_5_1 :
    CeWordAt (wCe (wImm 0x10 15 3 0xFFF)) 15 0x10 (wImm 0x10 15 3 0xFFF) :=
  by decide +kernel

theorem witness_CueEngineArithmetic_5_2 :
    CeWordAt (wCe (wImm 0x11 15 3 0x800)) 15 0x11 (wImm 0x11 15 3 0x800) :=
  by decide +kernel

theorem witness_CueEngineArithmetic_5_3 :
    CeWordAt (wCe (wImm 0x12 15 3 0x7FF)) 15 0x12 (wImm 0x12 15 3 0x7FF) :=
  by decide +kernel

theorem witness_CueEngineArithmetic_5_4 :
    CeWordAt (wCe (wImm 0x13 15 3 0xFFF)) 15 0x13 (wImm 0x13 15 3 0xFFF) :=
  by decide +kernel

theorem witness_CueEngineArithmetic_5_5 :
    CeWordAt (wCe (wImm 0x14 15 3 31)) 15 0x14 (wImm 0x14 15 3 31) :=
  by decide +kernel

theorem witness_CueEngineArithmetic_5_6 :
    CeWordAt (wCe (wImm 0x15 15 3 32)) 15 0x15 (wImm 0x15 15 3 32) :=
  by decide +kernel

theorem witness_CueEngineArithmetic_6 :
    ∃ (n : Fin 16) (w : Nat) (s : State), (CeWordAt s n.val 0x0C w) :=
  ⟨15, wReg 0x0C 0 3 5, wCe (wReg 0x0C 0 3 5), by decide +kernel⟩

theorem witness_CueEngineArithmetic_7 :
    ∃ (n : Fin 16) (w : Nat) (s : State), (CeWordAt s n.val 0x16 w) :=
  ⟨15, wImm 0x16 15 31 0xFFF, wCe (wImm 0x16 15 31 0xFFF), by decide +kernel⟩

theorem witness_CueEngineArithmetic_8 :
    ∃ (n : Fin 16) (w : Nat) (s : State), (CeWordAt s n.val 0x17 w) :=
  ⟨15, wImm 0x17 3 31 0xFFF, wCe (wImm 0x17 3 31 0xFFF), by decide +kernel⟩

theorem witness_CueEngineArithmetic_9 :
    ∃ (n : Fin 16) (w : Nat) (s : State), (CeWordAt s n.val 0x2F w) :=
  ⟨15, wImm 0x2F 31 0 0, wCe (wImm 0x2F 31 0 0), by decide +kernel⟩

theorem witness_CueEngineMemory_1 :
    ∃ (n : Fin 16) (w : Nat) (s : State), (CeWordAt s n.val 0x18 w) ∧ (s.cePool n.val w + 4 ≤ 0x800000) ∧ (s.ceBars
      n.val (poolBase + s.cePool n.val w) = false) :=
  ⟨15, wImm 0x18 9 15 0xFFF, wCe (wImm 0x18 9 15 0xFFF), by decide +kernel⟩

theorem witness_CueEngineMemory_2 :
    ∃ (n : Fin 16) (w : Nat) (s : State), (CeWordAt s n.val 0x19 w) ∧ (s.cePool n.val w + 4 ≤ 0x800000) ∧
      (s.ceInside n.val = false ∨ s.ceMayStore n.val (poolBase + s.cePool n.val w) = true) ∧ (∀ i ∈ List.range 4,
      s.fencedOff byCueEngine (poolBase + s.cePool n.val w + i) = false) :=
  ⟨15, wImm 0x19 3 15 0x100, wCe (wImm 0x19 3 15 0x100), by decide +kernel⟩

theorem witness_CueEngineMemory_3 :
    ∃ (n : Fin 16) (w : Nat) (s : State), (CeWordAt s n.val 0x1A w) ∧ (ceY w = false ∧ (s.ceEng n.val).get (ceGa w)
      < 256 ∧ ceTarget w < 1024) :=
  ⟨15, wImm 0x1A 9 5 0x3FF, wCe (wImm 0x1A 9 5 0x3FF), by decide +kernel⟩

theorem witness_CueEngineMemory_4 :
    ∃ (n : Fin 16) (w : Nat) (c : Nat) (k : Nat) (s : State), (CeWordAt s n.val 0x1B w) ∧ (ceY w = false ∧ (s.ceEng
      n.val).get (ceGa w) = c ∧ c < 256 ∧ ceTarget w < 1024) ∧ (s.ceInside n.val = false) ∧ (k = ctxPage c * 0x1000
      + 4 * ceTarget w) :=
  ⟨15, wImm 0x1B 9 5 0x3FF, 6, 0x206FFC, wCe (wImm 0x1B 9 5 0x3FF), by decide +kernel⟩

theorem witness_CueEngineMemory_5 :
    ∃ (n : Fin 16) (w : Nat) (k : Nat) (s : State), (CeWordAt s n.val 0x1C w) ∧ (s.bufOf ((s.ceEng n.val).get (ceGa
      w)) = some k) ∧ (s.ceBufOff n.val w + 4 ≤ s.bufSize k) ∧ (s.ceBars n.val (s.bufAddr k + s.ceBufOff n.val w) =
      false) :=
  ⟨15, wImm 0x1C 9 2 63, 1, wCeBuf (wImm 0x1C 9 2 63), by decide +kernel⟩

theorem witness_CueEngineMemory_6 :
    ∃ (n : Fin 16) (w : Nat) (k : Nat) (s : State), (CeWordAt s n.val 0x1D w) ∧ (s.bufOf ((s.ceEng n.val).get (ceGa
      w)) = some k) ∧ (s.ceBufOff n.val w + 4 ≤ s.bufSize k) ∧ (s.ceInside n.val = false ∨ s.ceMayStore n.val
      (s.bufAddr k + s.ceBufOff n.val w) = true) ∧ (∀ i ∈ List.range 4, s.fencedOff byCueEngine (s.bufAddr k +
      s.ceBufOff n.val w + i) = false) :=
  ⟨15, wImm 0x1D 3 2 63, 1, wCeBuf (wImm 0x1D 3 2 63), by decide +kernel⟩

theorem witness_CueEngineMemory_7 :
    ∃ (n : Fin 16) (i : Fin 16 → Instr) (w : Nat) (s : State), ((CeStands s n.val 0x1B w ∧ i = .ceStc) ∨ (CeStands s
      n.val 0x19 w ∧ i = .ceSt ∧ s.ceMayStore n.val (poolBase + s.cePool n.val w) = false) ∨ (CeStands s n.val 0x1D
      w ∧ i = .ceSth ∧ ((s.bufOf ((s.ceEng n.val).get (ceGa w))).all fun k => !s.ceMayStore n.val (s.bufAddr k +
      s.ceBufOff n.val w)) = true) ∨ (CeStands s n.val 0x18 w ∧ i = .ceLd ∧ s.ceBars n.val (poolBase + s.cePool
      n.val w) = true) ∨ (CeStands s n.val 0x1C w ∧ i = .ceLdh ∧ ((s.bufOf ((s.ceEng n.val).get (ceGa w))).any fun k
      => s.ceBars n.val (s.bufAddr k + s.ceBufOff n.val w)) = true)) ∧ (s.ceInside n.val = true ∧ (s.ceEng
      n.val).hook = none) :=
  ⟨15, .ceSt, wImm 0x19 3 15 0x100, (wCe (wImm 0x19 3 15 0x100)).setRegN Reg.UC_FENCE_CE 7, by decide +kernel⟩

theorem witness_CueEngineUnits_1 :
    ∃ (n : Fin 16) (w : Nat) (src : Nat) (cue : List Byte) (s : State), (CeWordAt s n.val 0x28 w) ∧ (ceY w = false ∧
      s.ceInside n.val = false) ∧ (s.pmBytes ((s.ceEng n.val).get (ceGa w)) 32 = cue) ∧ (src = 512 + 16 * n.val +
      leAt cue 2 1 % 16) ∧ (s.live 0x008 = true ∧ leAt cue 1 1 = s.cueGen src ∧ s.ringWaiting src ≠ 16) :=
  ⟨15, wImm 0x28 0 15 0, 752, List.replicate 32 0, wCe (wImm 0x28 0 15 0), by decide +kernel⟩

theorem witness_CueEngineUnits_2 :
    ∃ (n : Fin 16) (w : Nat) (asks : List PoolAsk) (s : State), (CeWordAt s n.val 0x29 w) ∧ (s.poolShut = false) :=
  ⟨15, wImm 0x29 9 15 0, [PoolAsk.mk 2 64 0], wCe (wImm 0x29 9 15 0), by decide +kernel⟩

theorem witness_CueEngineUnits_3 :
    ∃ (n : Fin 16) (w : Nat) (s : State), (CeWordAt s n.val 0x2A w) ∧ (s.poolShut = false) :=
  ⟨15, wImm 0x2A 9 2 0, wCeBuf (wImm 0x2A 9 2 0), by decide +kernel⟩

theorem witness_CueEngineUnits_4 :
    ∃ (n : Fin 16) (w : Nat) (s : State), (CeWordAt s n.val 0x2B w) ∧ (s.ceInside n.val = false) :=
  ⟨15, wImm 0x2B 3 5 0, wCe (wImm 0x2B 3 5 0), by decide +kernel⟩

theorem witness_CueEngineUnits_5 :
    ∃ (n : Fin 16) (w : Nat) (s : State), (CeWordAt s n.val 0x2C w) ∧ (s.ceInside n.val = false) :=
  ⟨15, wImm 0x2C 3 5 0, wCe (wImm 0x2C 3 5 0), by decide +kernel⟩

theorem witness_CueEngineUnits_6 :
    ∃ (n : Fin 16) (w : Nat) (s : State), (CeWordAt s n.val 0x2D w) ∧ (s.ceInside n.val = false) :=
  ⟨15, wImm 0x2D 3 5 0, wCe (wImm 0x2D 3 5 0), by decide +kernel⟩

theorem witness_CueEngineUnits_7 :
    ∃ (n : Fin 16) (w : Nat) (c : Nat) (off : Nat) (s : State), (CeWordAt s n.val 0x2E w) ∧ (s.live 0x019 = true) ∧
      (off = (s.ceEng n.val).get (ceGa w) % 0x800000 / 64 * 64 ∧ c = s.memLE (poolBase + off + 2) 1 % 16) ∧
      ((s.cvuQueue c).length < 5) :=
  ⟨15, wImm 0x2E 0 15 0, 0, 64, wCe (wImm 0x2E 0 15 0), by decide +kernel⟩

theorem witness_CueEngineFlow_1 :
    ∃ (n : Fin 16) (w : Nat) (s : State), (CeWordAt s n.val 0x20 w) ∧ (CeMay s n.val (ceTarget w)) :=
  ⟨15, wImm 0x20 0 0 0xFFF, wCe (wImm 0x20 0 0 0xFFF), by decide +kernel⟩

theorem witness_CueEngineFlow_2 :
    ∃ (n : Fin 16) (w : Nat) (s : State), (CeWordAt s n.val 0x21 w) ∧ (CeMay s n.val (ceTarget w)) ∧ (isHdr
      (s.ceWordAt n.val (ceTarget w)) = true ∧ (s.ceEng n.val).stack.length < 8) :=
  ⟨15, wImm 0x21 0 0 9, wWord (wCe (wImm 0x21 0 0 9)) 2 15 9 (ucStored 2 (wImm 0x27 0 0 3)), by decide +kernel⟩

theorem witness_CueEngineFlow_3 :
    ∃ (n : Fin 16) (w : Nat) (s : State), (CeWordAt s n.val 0x21 w) ∧ (s.ceInside n.val = false ∧ isHook (ceTarget
      w) = true ∧ ceOp (s.ceWordAt n.val (ceTarget w)) = 0x20) ∧ (isHdr (s.ceWordAt n.val (ceTarget (s.ceWordAt
      n.val (ceTarget w)))) = true) ∧ ((s.ceEng n.val).stack.length < 8 ∧ (s.ceEng n.val).hook = none) :=
  ⟨15, wImm 0x21 0 0 0xC0F, wWord (wWord (wCe (wImm 0x21 0 0 0xC0F)) 2 15 0xC0F (ucStored 2 (wImm 0x20 0 0 0xD00))) 2 15 0xD00 (ucStored 2 (wImm 0x27 0 0 3)), by decide +kernel⟩

theorem witness_CueEngineFlow_4 :
    ∃ (n : Fin 16) (w : Nat) (r : Nat) (rest : List Nat) (s : State), (CeWordAt s n.val 0x22 w) ∧ ((s.ceEng
      n.val).stack = r :: rest) :=
  ⟨15, wImm 0x22 0 0 0, 5, [6], (wCe (wImm 0x22 0 0 0)).modCe 15 fun x => { x with stack := [5, 6], hook := some ([5, 6], 4) }, by decide +kernel⟩

theorem witness_CueEngineFlow_5 :
    ∃ (n : Fin 16) (w : Nat) (s : State), (CeWordAt s n.val 0x23 w) ∧ (CeMay s n.val (ceTarget w)) :=
  ⟨15, wImm 0x23 28 0 9, wCe (wImm 0x23 28 0 9), by decide +kernel⟩

theorem witness_CueEngineFlow_6 :
    ∃ (n : Fin 16) (w : Nat) (s : State), (CeWordAt s n.val 0x24 w) ∧ (CeMay s n.val (ceTarget w)) :=
  ⟨15, wImm 0x24 0 0 9, wCe (wImm 0x24 0 0 9), by decide +kernel⟩

theorem witness_CueEngineFlow_7 :
    ∃ (n : Fin 16) (w : Nat) (s : State), (CeWordAt s n.val 0x25 w) ∧ (CeMay s n.val (ceTarget w)) :=
  ⟨15, wImm 0x25 0 5 9, wCe (wImm 0x25 0 5 9), by decide +kernel⟩

theorem witness_CueEngineFlow_8 :
    ∃ (n : Fin 16) (w : Nat) (src : Nat) (s : State), (CeWordAt s n.val 0x26 w) ∧ (ceY w = false ∧ (s.ceEng
      n.val).level = 1 ∧ s.stackTop n.val = some src) :=
  ⟨15, wImm 0x26 0 0 0, 700, (wHandler (wImm 0x26 0 0 0)).modCe 15 fun x => { x with level := 1 }, by decide +kernel⟩

theorem witness_CueEngineFlow_9 :
    ∃ (n : Fin 16) (w : Nat) (src : Nat) (f : YieldFrame) (s : State), (CeWordAt s n.val 0x26 w) ∧ ((s.ceEng
      n.val).level = 2 ∧ (s.ceEng n.val).frame = some f ∧ s.stackTop n.val = some src) ∧ (hdrResumable (s.ceWordAt
      n.val (s.ceEng n.val).outer) = true ∨ w % 2 = 0) :=
  ⟨15, wImm 0x26 0 0 0, 700, wFrame, wHandler (wImm 0x26 0 0 0), by decide +kernel⟩

theorem witness_CueEngineFlow_10 :
    ∃ (n : Fin 16) (w : Nat) (src : Nat) (f : YieldFrame) (s : State), (CeWordAt s n.val 0x26 w) ∧ ((s.ceEng
      n.val).level = 2 ∧ (s.ceEng n.val).frame = some f ∧ s.stackTop n.val = some src) ∧ (hdrResumable (s.ceWordAt
      n.val (s.ceEng n.val).outer) = false ∧ w % 2 = 1) :=
  ⟨15, wImm 0x26 0 0 1, 700, wFrame, wHandler (wImm 0x26 0 0 1), by decide +kernel⟩

theorem witness_CueEngineFlow_11 :
    ∃ (n : Fin 16) (w : Nat) (s : State), (CeWordAt s n.val 0x27 w) :=
  ⟨15, wImm 0x27 0 0 9, wCe (wImm 0x27 0 0 9), by decide +kernel⟩

theorem witness_CueEngineFlow_12 :
    ∃ (n : Fin 16) (w : Nat) (s : State), (CeStands s n.val 0x3E w) :=
  ⟨15, wImm 0x3E 0 0 9, (wCe (wImm 0x3E 0 0 9)).setRegN Reg.TRUST_DEBUG 1, by decide +kernel⟩

theorem witness_CueEngineFlow_13 :
    ∃ (n : Fin 16) (src : Nat) (a : Nat) (s : State), (s.live (0x180 + n.val) = true ∧ s.ceServes n.val = true ∧
      (s.ceEng n.val).level = 0) ∧ (s.nextSource n.val = some src ∧ s.stackDepth n.val < 8) ∧ (ucGood 2 (s.ucRead 2
      n.val (src / 32)) = true ∧ s.ceVector n.val (src / 32) = some a) :=
  ⟨15, 700, 9, wCued (wImm 0x27 0 0 9) 0, by decide +kernel⟩

theorem witness_CueEngineFlow_14 :
    ∃ (n : Fin 16) (w : Nat) (src : Nat) (a : Nat) (s : State), (CeStands s n.val 0x27 w) ∧ (ceY w = true ∧ (s.ceEng
      n.val).level = 1) ∧ (s.nextSource n.val = some src ∧ s.stackDepth n.val < 8) ∧ (ucGood 2 (s.ucRead 2 n.val
      (src / 32)) = true ∧ s.ceVector n.val (src / 32) = some a) :=
  ⟨15, wImm 0x27 32 0 9, 700, 9, wCued (wImm 0x27 32 0 9) 1, by decide +kernel⟩

theorem witness_CueEngineChecks_1 :
    ∃ (n : Fin 16) (i : Fin 16 → Instr) (s : State), (s.live (0x180 + n.val) = true ∧ s.ceRuns n.val = true ∧
      (s.ceEng n.val).hook = none) ∧ (ucGood 2 (s.ucRead 2 n.val (s.ceEng n.val).pc) = true ∧ s.ceIllegal (ucData 2
      (s.ucRead 2 n.val (s.ceEng n.val).pc)) = true) ∧ (i = .ceAdd ∨ i = .ceHdr ∨ i = .ceLd) :=
  ⟨15, .ceLd, wCe (wImm 0x3F 0 0 0), by decide +kernel⟩

theorem witness_CueEngineChecks_2 :
    ∃ (n : Fin 16) (w : Nat) (s : State), (CeStands s n.val 0x22 w) ∧ ((s.ceEng n.val).stack = [] ∧ (s.ceEng
      n.val).hook = none) :=
  ⟨15, wImm 0x22 0 0 0, wCe (wImm 0x22 0 0 0), by decide +kernel⟩

theorem witness_CueEngineChecks_3 :
    ∃ (n : Fin 16) (w : Nat) (s : State), (CeStands s n.val 0x2B w) ∧ (s.ceInside n.val = true ∧ (s.ceEng
      n.val).hook = none) :=
  ⟨15, wImm 0x2B 0 0 0, (wCe (wImm 0x2B 0 0 0)).setRegN Reg.UC_FENCE_CE 7, by decide +kernel⟩

theorem witness_CueEngineChecks_4 :
    ∃ (n : Fin 16) (w : Nat) (r : Nat) (k : Nat) (rest : List Nat) (s : State), (CeStands s n.val 0x2B w) ∧
      (s.ceInside n.val = true ∧ (s.ceEng n.val).hook = some (r :: rest, k)) :=
  ⟨15, wImm 0x2B 0 0 0, 5, 4, [6], ((wCe (wImm 0x2B 0 0 0)).setRegN Reg.UC_FENCE_CE 7).modCe 15 fun x => { x with stack := [9, 5, 6], hook := some ([5, 6], 4) }, by decide +kernel⟩

theorem witness_DisplayOutputLink_1 :
    ∃ (n : Fin 8) (s : State), (s.live (outPage n.val) = true ∧ s.outState n.val = 0) ∧ (s.outTimingBad n.val =
      false) ∧ (s.linkShort n.val (s.fld (Reg.DP_OUT_CTRL n.val) 1 0) (s.fld (Reg.DP_OUT_CTRL n.val) 3 2) = false) :=
  ⟨7, wOut 0, by decide +kernel⟩

theorem witness_DisplayOutputLink_2 :
    ∃ (n : Fin 8) (s : State), (s.live (outPage n.val) = true ∧ s.outState n.val = 0) ∧ (s.outTimingBad n.val =
      true) :=
  ⟨7, put up [(Reg.DP_OUT_H_TIMING 7, 0)], by decide +kernel⟩

theorem witness_DisplayOutputLink_3 :
    ∃ (n : Fin 8) (s : State), (s.live (outPage n.val) = true ∧ s.outState n.val = 0) ∧ (s.outTimingBad n.val =
      false) ∧ (s.linkShort n.val (s.fld (Reg.DP_OUT_CTRL n.val) 1 0) (s.fld (Reg.DP_OUT_CTRL n.val) 3 2) = true) :=
  ⟨7, put (wOut 0) [(Reg.DP_OUT_CTRL 7, 0)], by decide +kernel⟩

theorem witness_DisplayOutputLink_4 :
    ∃ (n : Fin 8) (s : State), (s.live (outPage n.val) = true) :=
  ⟨7, wOut 4, by decide +kernel⟩

theorem witness_DisplayOutputLink_5 :
    ∃ (n : Fin 8) (ok : List (Nat × Nat)) (l : Nat) (r : Nat) (s : State), (s.live (outPage n.val) = true ∧
      s.outState n.val = 2) ∧ ((s.trainOrder n.val).find? (fun p => ok.elem p) = some (l, r)) :=
  ⟨7, [(1, 3), (2, 2)], 2, 2, put (wOut 2) [(Reg.DP_OUT_CTRL 7, 0x100E)], by decide +kernel⟩

theorem witness_DisplayOutputLink_6 :
    ∃ (n : Fin 8) (ok : List (Nat × Nat)) (s : State), (s.live (outPage n.val) = true ∧ s.outState n.val = 2) ∧ (∀ p
      ∈ s.trainOrder n.val, p ∉ ok) :=
  ⟨7, [(1, 3)], wOut 2, by decide +kernel⟩

theorem witness_DisplayOutputLink_7 :
    ∃ (n : Fin 8) (low : Bool) (s : State), (s.live (outPage n.val) = true) ∧ (s.outState n.val = 2 ∨ s.outState
      n.val = 3) :=
  ⟨7, true, wOut 3, by decide +kernel⟩

theorem witness_DisplayOutputLink_8 :
    ∃ (n : Fin 8) (s : State), (s.live (outPage n.val) = true ∧ s.outState n.val ≠ 0) :=
  ⟨7, wOut 3, by decide +kernel⟩

theorem witness_DisplayOutputLink_9 :
    ∃ (n : Fin 8) (s : State), (s.live (outPage n.val) = true ∧ s.outState n.val ≠ 0) :=
  ⟨7, wOut 3, by decide +kernel⟩

theorem witness_DisplayOutputLink_10 :
    ∃ (n : Fin 8) (v : Word) (s : State), (s.live (outPage n.val) = true ∧ (s.dpOut n.val).aux = none) :=
  ⟨7, 0x1F8, up, by decide +kernel⟩

theorem witness_DisplayOutputLink_11 :
    ∃ (n : Fin 8) (bytes : List Byte) (v : Word) (d : Nat) (k : Nat) (s : State), (s.live (outPage n.val) = true ∧
      (s.dpOut n.val).aux = some (v, d, k)) ∧ (bit v 0 = true ∧ bytes.length ≤ bits v 7 4 + 1) :=
  ⟨7, [1, 2, 3, 4, 5], 0x4F9, 0, 0, wAux 0x4F9 0 0, by decide +kernel⟩

theorem witness_DisplayOutputLink_12 :
    ∃ (n : Fin 8) (v : Word) (d : Nat) (k : Nat) (s : State), (s.live (outPage n.val) = true ∧ (s.dpOut n.val).aux =
      some (v, d, k)) ∧ (d < 7) :=
  ⟨7, 0x4F8, 6, 0, wAux 0x4F8 6 0, by decide +kernel⟩

theorem witness_DisplayOutputLink_13 :
    ∃ (n : Fin 8) (v : Word) (d : Nat) (k : Nat) (s : State), (s.live (outPage n.val) = true ∧ (s.dpOut n.val).aux =
      some (v, d, k)) ∧ (7 ≤ d) :=
  ⟨7, 0x4F8, 7, 0, wAux 0x4F8 7 0, by decide +kernel⟩

theorem witness_DisplayOutputLink_14 :
    ∃ (n : Fin 8) (i2c : Bool) (v : Word) (d : Nat) (k : Nat) (s : State), (s.live (outPage n.val) = true ∧ (s.dpOut
      n.val).aux = some (v, d, k)) :=
  ⟨7, true, 0x4F8, 7, 0, wAux 0x4F8 7 0, by decide +kernel⟩

theorem witness_DisplayOutputLink_15 :
    ∃ (n : Fin 8) (v : Word) (d : Nat) (k : Nat) (s : State), (s.live (outPage n.val) = true ∧ (s.dpOut n.val).aux =
      some (v, d, k)) ∧ (k < 3) :=
  ⟨7, 0x4F8, 6, 2, wAux 0x4F8 6 2, by decide +kernel⟩

theorem witness_DisplayOutputLink_16 :
    ∃ (n : Fin 8) (v : Word) (d : Nat) (k : Nat) (s : State), (s.live (outPage n.val) = true ∧ (s.dpOut n.val).aux =
      some (v, d, k)) ∧ (3 ≤ k) :=
  ⟨7, 0x4F8, 7, 3, wAux 0x4F8 7 3, by decide +kernel⟩

theorem witness_DisplayOutputFrames_1 :
    ∃ (n : Fin 8) (reading : Nat) (s : State), (s.live (outPage n.val) = true ∧ s.outState n.val ≠ 0 ∧ (s.dpOut
      n.val).stopping = false) :=
  ⟨7, 2 ^ 64 - 1, (wOut 2).modDpOut 7 fun x => { x with go := true, composed := some 77 }, by decide +kernel⟩

theorem witness_DisplayOutputFrames_2 :
    ∃ (n : Fin 8) (reading : Nat) (s : State), (s.live (outPage n.val) = true ∧ s.outState n.val ≠ 0 ∧ (s.dpOut
      n.val).stopping = true) :=
  ⟨7, 5, (wOut 3).modDpOut 7 fun x => { x with stopping := true }, by decide +kernel⟩

theorem witness_DisplayOutputFrames_3 :
    ∃ (n : Fin 8) (s : State), (s.live (outPage n.val) = true ∧ s.outState n.val ≠ 0 ∧ s.fld (Reg.DP_OUT_LOCK_CTRL
      n.val) 1 0 = 2) :=
  ⟨7, put (wOut 3) [(Reg.DP_OUT_LOCK_CTRL 7, 2), (Reg.DP_OUT_STATUS 7, 0x23)], by decide +kernel⟩

theorem witness_DisplayOutputFrames_4 :
    ∃ (n : Fin 8) (f : LinkCrc) (s : State), (s.live (outPage n.val) = true ∧ s.outState n.val = 3 ∧ s.rbit
      (Reg.DP_OUT_CTRL n.val) 11 = true) ∧ (f.supported = true ∧ (s.dpOut n.val).testOn = false) :=
  ⟨7, { supported := true, count := 0, sink := (1, 2, 3) }, put (wOut 3) [(Reg.DP_OUT_CTRL 7, 0x80E)], by decide +kernel⟩

theorem witness_DisplayOutputFrames_5 :
    ∃ (n : Fin 8) (f : LinkCrc) (s : State), (s.live (outPage n.val) = true ∧ s.outState n.val = 3 ∧ s.rbit
      (Reg.DP_OUT_CTRL n.val) 11 = true) ∧ (f.supported = true ∧ (s.dpOut n.val).testOn = true) :=
  ⟨7, { supported := true, count := 15, sink := (1, 2, 3) }, (put (wOut 3) [(Reg.DP_OUT_CTRL 7, 0x80E)]).modDpOut 7 fun x => { x with testOn := true, testCount := 0, testCrcs := [(9, 2, 3), (1, 2, 4)] }, by decide +kernel⟩

theorem witness_DisplayOutputFrames_6 :
    ∃ (n : Fin 8) (i : Fin 16) (cell : Nat) (p : PicRef) (s : State), (s.live (compPage n.val) = true ∧ s.outState
      n.val ≠ 0 ∧ s.rbit (Reg.COMP_CTRL n.val) 0 = true) ∧ (s.rbit (Reg.WIN_CTRL n.val i.val) 0 = true ∧ (s.win
      n.val i.val).kind = 0 ∧ (i.val, cell) ∉ (s.dpOut n.val).verified) ∧ ((s.cellScreen (s.win n.val i.val)
      cell).isSome = true ∧ s.cellInside (s.win n.val i.val) cell = true) ∧ ((s.win n.val i.val).src.2.2.1 ≤ (s.win
      n.val i.val).dst.2.2.1 ∧ (s.win n.val i.val).src.2.2.2 ≤ (s.win n.val i.val).dst.2.2.2) ∧ (s.cellPicture n.val
      (s.win n.val i.val) cell = some p ∧ p.num % 65536 = ((s.ctx (s.win n.val i.val).id).cell cell).picNum) ∧
      (((s.ctx (s.win n.val i.val).id).cell cell).hasTime = true ∧ ((s.ctx (s.win n.val i.val).id).cell
      cell).placeholder = false ∧ ((s.ctx (s.win n.val i.val).id).cell cell).unproven = false) :=
  ⟨7, 15, 0, wSmallRef, wVerify, by decide +kernel⟩

theorem witness_DisplayOutputFrames_7 :
    ∃ (n : Fin 8) (i : Fin 16) (cell : Nat) (s : State), (s.live (compPage n.val) = true ∧ s.outState n.val ≠ 0 ∧
      s.rbit (Reg.COMP_CTRL n.val) 0 = true) ∧ (s.rbit (Reg.WIN_CTRL n.val i.val) 0 = true ∧ (s.win n.val
      i.val).kind = 0 ∧ (i.val, cell) ∉ (s.dpOut n.val).verified) ∧ ((s.cellScreen (s.win n.val i.val) cell).isSome
      = true) ∧ (s.cellInside (s.win n.val i.val) cell = false ∨ s.cellPicture n.val (s.win n.val i.val) cell =
      none) :=
  ⟨7, 15, 0, wVerify.modDpOut 7 fun x => { x with reads := [] }, by decide +kernel⟩

theorem witness_DisplayOutputFrames_8 :
    ∃ (n : Fin 8) (at_ : List (Nat × Nat)) (s : State), (s.live (compPage n.val) = true ∧ s.outState n.val ≠ 0 ∧
      (s.dpOut n.val).late = false) ∧ (∀ q ∈ at_, q.1 < s.fld (Reg.DP_OUT_H_TIMING n.val) 15 0 ∧ q.2 < s.fld
      (Reg.DP_OUT_V_TIMING n.val) 15 0) :=
  ⟨7, [(1919, 1079)], wOut 3, by decide +kernel⟩

theorem witness_DisplayInputs_1 :
    ∃ (n : Fin 4) (s : State), (s.live (inPage n.val) = true ∧ s.inState n.val = 0) :=
  ⟨3, up, by decide +kernel⟩

theorem witness_DisplayInputs_2 :
    ∃ (n : Fin 4) (f : SinkLock) (s : State), (s.live (inPage n.val) = true ∧ s.inState n.val ≠ 0) ∧ (SinkLock.fits
      f = true) :=
  ⟨3, wLock, wIn 2, by decide +kernel⟩

theorem witness_DisplayInputs_3 :
    ∃ (n : Fin 4) (f : SinkLock) (s : State), (s.live (inPage n.val) = true ∧ s.inState n.val ≠ 0) ∧ (SinkLock.fits
      f = false) :=
  ⟨3, { wLock with width := 4097 }, wIn 2, by decide +kernel⟩

theorem witness_DisplayInputs_4 :
    ∃ (n : Fin 4) (s : State), (s.live (inPage n.val) = true ∧ s.inState n.val = 3) :=
  ⟨3, wIn 3, by decide +kernel⟩

theorem witness_DisplayInputs_5 :
    ∃ (n : Fin 4) (f : LineFacts) (s : State), (s.live (inPage n.val) = true ∧ s.inState n.val = 3 ∧ s.frameWritten
      n.val = true) ∧ (f.whole = true ∧ s.regN (Reg.DP_IN_RX_LATENCY n.val) ≤ f.reading) :=
  ⟨3, { line := 0, reading := 99, whole := true, rgb := true, depth := 8, pixels := [(255, 255, 0)] }, wIn 3, by decide +kernel⟩

theorem witness_DisplayInputs_6 :
    ∃ (n : Fin 4) (f : LineFacts) (s : State), (s.live (inPage n.val) = true ∧ s.inState n.val = 4 ∧ s.frameWritten
      n.val = true) :=
  ⟨3, { line := 0, reading := 99, whole := true, rgb := true, depth := 8, pixels := [(255, 255, 0)] }, wIn 4, by decide +kernel⟩

theorem witness_DisplayInputs_7 :
    ∃ (n : Fin 4) (s : State), (s.live (inPage n.val) = true) ∧ (s.inState n.val = 3 ∨ s.inState n.val = 4) :=
  ⟨3, wIn 4, by decide +kernel⟩

theorem witness_DisplayInputs_8 :
    ∃ (n : Fin 4) (q : AuxAsk) (s : State), (s.live (inPage n.val) = true ∧ s.inState n.val ≠ 0) ∧ (q.i2c = true ∧
      q.addr = 0x50 ∧ q.read = true) :=
  ⟨3, { i2c := true, read := true, addr := 0x50, len := 16, bytes := [] }, (put (wIn 1) [(Reg.DP_IN_EDID 3 63, 0x12345678)]).modDpIn 3 fun x => { x with ptr := 253 }, by decide +kernel⟩

theorem witness_DisplayInputs_9 :
    ∃ (n : Fin 4) (q : AuxAsk) (s : State), (s.live (inPage n.val) = true ∧ s.inState n.val ≠ 0) ∧ (q.i2c = false ∧
      q.read = false) :=
  ⟨3, { i2c := false, read := false, addr := 0x100, len := 3, bytes := [0x1E, 4, 0x21] }, wIn 1, by decide +kernel⟩

theorem witness_DisplayInputs_10 :
    ∃ (n : Fin 4) (s : State), (s.live (inPage n.val) = true ∧ s.inState n.val ≠ 0) :=
  ⟨3, wIn 3, by decide +kernel⟩

theorem witness_NetworkPorts_1 :
    ∃ (p : Fin 4) (s : State), (s.live (netPage p.val) = true ∧ s.portState p.val = 0) ∧ ((s.rbit (Reg.NET_CTRL
      p.val) 0 && s.rbit (Reg.NET_CTRL p.val) 1) = false) ∧ (1518 ≤ s.fld (Reg.NET_MTU p.val) 13 0 ∧ s.fld
      (Reg.NET_MTU p.val) 13 0 ≤ 9216) :=
  ⟨3, put up [(Reg.NET_MTU 3, 9216), (Reg.NET_CTRL 3, 2)], by decide +kernel⟩

theorem witness_NetworkPorts_2 :
    ∃ (p : Fin 4) (s : State), (s.live (netPage p.val) = true ∧ s.portState p.val = 0) ∧ ((s.rbit (Reg.NET_CTRL
      p.val) 0 = true ∧ s.rbit (Reg.NET_CTRL p.val) 1 = true) ∨ s.fld (Reg.NET_MTU p.val) 13 0 < 1518 ∨ 9216 < s.fld
      (Reg.NET_MTU p.val) 13 0) :=
  ⟨3, put up [(Reg.NET_MTU 3, 9217)], by decide +kernel⟩

theorem witness_NetworkPorts_3 :
    ∃ (p : Fin 4) (s : State), (s.live (netPage p.val) = true) ∧ (s.portState p.val = 1 ∨ s.portState p.val = 3) :=
  ⟨3, wPort 3, by decide +kernel⟩

theorem witness_NetworkPorts_4 :
    ∃ (p : Fin 4) (block : Bool) (fec : Bool) (s : State), (s.live (netPage p.val) = true ∧ s.portState p.val = 2) :=
  ⟨3, true, false, wPort 2, by decide +kernel⟩

theorem witness_NetworkPorts_5 :
    ∃ (p : Fin 4) (s : State), (s.live (netPage p.val) = true) ∧ (∀ q ∈ List.range 256, ∀ f ∈ (s.queue q).frames,
      f.slot = none) :=
  ⟨3, wQueued 2, by decide +kernel⟩

theorem witness_NetworkPorts_6 :
    ∃ (p : Fin 4) (s : State), (s.live (netPage p.val) = true) ∧ (∀ q ∈ List.range 256, ∀ f ∈ (s.queue q).frames,
      f.slot = none) :=
  ⟨3, wQueued 2, by decide +kernel⟩

theorem witness_NetworkFrames_1 :
    ∃ (p : Fin 4) (fr : RxFrame) (s : State), (s.live (netPage p.val) = true ∧ s.portState p.val = 2) ∧ (fr.bad =
      true ∨ (s.rbit (Reg.NET_CTRL p.val) 1 = true ∧ fr.uncorrectable ≠ 0) ∨ fr.bytes.length + 4 < 64 ∨ s.fld
      (Reg.NET_MTU p.val) 13 0 < fr.bytes.length + 4) :=
  ⟨3, { bytes := List.replicate 59 0, bad := false, corrected := 0, uncorrectable := 0, reading := 7 }, wPort 2, by decide +kernel⟩

theorem witness_NetworkFrames_2 :
    ∃ (p : Fin 4) (fr : RxFrame) (s : State), (s.live (netPage p.val) = true ∧ s.portState p.val = 2 ∧ fr.bad =
      false ∧ (s.rbit (Reg.NET_CTRL p.val) 1 = false ∨ fr.uncorrectable = 0)) ∧ (64 ≤ fr.bytes.length + 4 ∧
      fr.bytes.length + 4 ≤ s.fld (Reg.NET_MTU p.val) 13 0) ∧ (frameType fr.bytes = 0x8808) :=
  ⟨3, wFrame0 0x8808 [], put (wPort 2) [(Reg.NET_MTU 3, 1518)], by decide +kernel⟩

theorem witness_NetworkFrames_3 :
    ∃ (p : Fin 4) (fr : RxFrame) (s : State), (s.live (netPage p.val) = true ∧ s.portState p.val = 2 ∧ fr.bad =
      false ∧ (s.rbit (Reg.NET_CTRL p.val) 1 = false ∨ fr.uncorrectable = 0)) ∧ (64 ≤ fr.bytes.length + 4 ∧
      fr.bytes.length + 4 ≤ s.fld (Reg.NET_MTU p.val) 13 0) ∧ (frameType fr.bytes ≠ 0x8808 ∧ s.macOk p.val fr.bytes
      = false) :=
  ⟨3, wFrame0 0x88F7 [], put (wPort 2) [(Reg.NET_MTU 3, 1518), (Reg.NET_MAC_LO 3, 9)], by decide +kernel⟩

theorem witness_NetworkFrames_4 :
    ∃ (p : Fin 4) (fr : RxFrame) (s : State), (s.live (netPage p.val) = true ∧ s.portState p.val = 2 ∧ fr.bad =
      false ∧ (s.rbit (Reg.NET_CTRL p.val) 1 = false ∨ fr.uncorrectable = 0)) ∧ (64 ≤ fr.bytes.length + 4 ∧
      fr.bytes.length + 4 ≤ s.fld (Reg.NET_MTU p.val) 13 0) ∧ (s.macOk p.val fr.bytes = true ∧ frameType fr.bytes =
      0x88F7) ∧ ((s.fld Reg.PKT_SMRX_HEAD 11 0 + 1) % s.smrxSize = s.fld Reg.PKT_SMRX_TAIL 11 0 % s.smrxSize) :=
  ⟨3, wFrame0 0x88F7 [], put (wPort 2) [(Reg.NET_MTU 3, 1518), (Reg.PKT_SMRX_SIZE, 64), (Reg.PKT_SMRX_HEAD, 63), (Reg.PKT_SMRX_TAIL, 0)], by decide +kernel⟩

theorem witness_NetworkFrames_5 :
    ∃ (p : Fin 4) (fr : RxFrame) (hd : Nat) (h : Nat) (s : State), (s.live (netPage p.val) = true ∧ s.portState
      p.val = 2 ∧ fr.bad = false ∧ (s.rbit (Reg.NET_CTRL p.val) 1 = false ∨ fr.uncorrectable = 0)) ∧ (64 ≤
      fr.bytes.length + 4 ∧ fr.bytes.length + 4 ≤ s.fld (Reg.NET_MTU p.val) 13 0) ∧ (s.macOk p.val fr.bytes = true ∧
      frameType fr.bytes = 0x88F7) ∧ (s.fld Reg.PKT_SMRX_HEAD 11 0 = h ∧ (h + 1) % s.smrxSize ≠ s.fld
      Reg.PKT_SMRX_TAIL 11 0 % s.smrxSize) ∧ ((((s.countFec p.val fr).bump (Reg.NET_RX_FRAMES p.val) 1).poolAsk 25
      fr.bytes.length).2 = (0, hd)) :=
  ⟨3, wFrame0 0x88F7 [2], 16777216, 5, wRing, by decide +kernel⟩

theorem witness_NetworkFrames_6 :
    ∃ (p : Fin 4) (fr : RxFrame) (h : IpHead) (f : Nat) (s : State), (s.live (netPage p.val) = true ∧ s.portState
      p.val = 2 ∧ fr.bad = false ∧ (s.rbit (Reg.NET_CTRL p.val) 1 = false ∨ fr.uncorrectable = 0)) ∧ (64 ≤
      fr.bytes.length + 4 ∧ fr.bytes.length + 4 ≤ s.fld (Reg.NET_MTU p.val) 13 0) ∧ (s.macOk p.val fr.bytes = true ∧
      frameType fr.bytes = 0x0800) ∧ (readIpv4 fr.bytes (frameBody fr.bytes) = .inr h ∧ h.proto = 17 ∧ h.v6 = false
      ∧ udpSumOk fr.bytes h = true) ∧ (beAt fr.bytes (h.body + 2) 2 ≠ 319 ∧ beAt fr.bytes (h.body + 2) 2 ≠ 320) ∧
      (s.matchFlow p.val h (beAt fr.bytes h.body 2) (beAt fr.bytes (h.body + 2) 2) = some f ∧ s.flowServes f (s.flow
      f).ctx = true) ∧ (nbit (s.policer f).mode 0 = false) :=
  ⟨3, wUdp, wUdpHead, 5, wFlowUp, by decide +kernel⟩

theorem witness_NetworkFrames_7 :
    ∃ (a : PortFrame) (b : PortFrame) (s : State), (s.arrival a.port.val a.frame ≠ s.arrival b.port.val b.frame ∨
      a.port ≠ b.port) :=
  ⟨{ port := 3, frame := wFrame0 0x8808 [] }, { port := 2, frame := wFrame0 0x8808 [] }, put (wPort 2) [(Reg.NET_MTU 3, 1518)], by decide +kernel⟩

theorem witness_NetworkFrames_8 :
    ∃ (p : Fin 4) (q : Nat) (f : QFrame) (r : List QFrame) (u : State) (s : State), (s.live (netPage p.val) = true ∧
      s.portState p.val = 2) ∧ (u = s.forEach s.queueIds (fun q s => s.settleQueue q)) ∧ (u.chooseQueue p.val = some
      q ∧ (u.queue q).frames = f :: r ∧ f.slot = none) :=
  ⟨3, 9, { len := 100, at_ := 3, slot := none, ctx := 5, seq := 6 }, [], (wQueued 2).forEach (wQueued 2).queueIds (fun q s => s.settleQueue q), wQueued 2, by decide +kernel⟩

theorem witness_FlowTable_1 :
    ∃ (f : Fin 256) (s : State), (s.live 0x034 = true) :=
  ⟨255, wFlowUp, by decide +kernel⟩

theorem witness_FlowTable_2 :
    ∃ (f : Fin 256) (x : Flow) (y : Flow) (s : State), (s.live 0x034 = true ∧ s.flow f.val = x) ∧ (y = { words := validWords s.flowWindow, gen := (x.gen + 1) % 256, ident := 0, overAt := none })
      ∧ (s.flowBad y.ingressView = false ∧ s.flowDup f.val y = false) :=
  ⟨255, Flow.init, wEntry, wWindow, by decide +kernel⟩

theorem witness_FlowTable_3 :
    ∃ (f : Fin 256) (s : State), (s.live 0x034 = true) ∧ (s.flowBad (Flow.ingressView { words := validWords s.flowWindow, gen := ((s.flow f.val).gen + 1) % 256, ident := 0, overAt := none })
      = true) :=
  ⟨255, put wWindow [(Reg.PKT_FLOW_DATA 13, 1)], by decide +kernel⟩

theorem witness_FlowTable_4 :
    ∃ (f : Fin 256) (s : State), (s.live 0x034 = true ∧ (s.flow f.val).valid = true) ∧ (Flow.fixedPart { s.flow f.val with words := validWords s.flowWindow }
      = (s.flow f.val).fixedPart) :=
  ⟨255, wWindow.setFlow 255 wEntry, by decide +kernel⟩

theorem witness_FlowTable_5 :
    ∃ (f : Fin 256) (s : State), (s.live 0x034 = true ∧ (s.flow f.val).valid = false) :=
  ⟨255, wWindow, by decide +kernel⟩

theorem witness_FlowTable_6 :
    ∃ (f : Fin 256) (s : State), (s.live 0x034 = true) :=
  ⟨255, wWindow.setFlow 255 wEntry, by decide +kernel⟩

theorem witness_ShaperHistogram_1 :
    ∃ (q : Fin 256) (v : Word) (s : State), (s.live 0x035 = true ∧ bits v 15 8 ≠ 0) ∧ ((s.queue q.val).wireEnd ≤
      s.nowPs) :=
  ⟨9, 0x00040100, wQueued 2, by decide +kernel⟩

theorem witness_ShaperHistogram_2 :
    ∃ (q : Fin 256) (v : Word) (s : State), (s.live 0x035 = true) ∧ ((s.queue q.val).wireEnd ≤ s.nowPs) :=
  ⟨9, 0xFFFFFFFF, wQueued 2, by decide +kernel⟩

theorem witness_ShaperHistogram_3 :
    ∃ (q : Fin 256) (v : Word) (s : State), (s.live 0x035 = true ∧ bits v 15 8 ≠ 0) ∧ (s.nowPs < (s.queue
      q.val).wireEnd) :=
  ⟨9, 0x00040100, wBusy (wQueued 2), by decide +kernel⟩

theorem witness_ShaperHistogram_4 :
    ∃ (q : Fin 256) (v : Word) (s : State), (s.live 0x035 = true ∧ bits v 15 8 = 0) ∧ ((s.queue q.val).old = none) :=
  ⟨9, 0x00040001, wQueued 2, by decide +kernel⟩

theorem witness_ShaperHistogram_5 :
    ∃ (s : State), (s.live 0x038 = true ∧ s.rbit Reg.LAT_CTRL 0 = true) ∧ (∀ q ∈ List.range 256, (s.queue q).old =
      none) :=
  ⟨put (wQueued 2) [(Reg.LAT_CTRL, 0x80A01)], by decide +kernel⟩

theorem witness_ShaperHistogram_6 :
    ∃ (v : Word) (q : Nat) (s : State), (s.live 0x038 = true ∧ bits v 7 0 = q) :=
  ⟨0x109, 9, wQueued 2, by decide +kernel⟩

theorem witness_ShaperHistogram_7 :
    ∃ (v : Word) (s : State), (s.live 0x038 = true ∧ bits v 12 8 ≠ s.fld Reg.LAT_CTRL 12 8) :=
  ⟨0xFFFFFFFF, wQueued 2, by decide +kernel⟩

theorem witness_PolicerWrites_1 :
    ∃ (which : Fin 5) (v : Word) (x : Policer) (s : State), (s.domainHeld 7 = false) ∧ (x = if which = 0 then { s.policer (s.fld Reg.POL_SEL 7 0) with cir := bits v 24 0 }
      else if which = 1 then { s.policer (s.fld Reg.POL_SEL 7 0) with cbs := bits v 23 0 } else if which = 2 then { s.policer (s.fld Reg.POL_SEL 7 0) with pir := bits v 24 0 }
      else if which = 3 then { s.policer (s.fld Reg.POL_SEL 7 0) with pbs := bits v 23 0 } else { s.policer (s.fld Reg.POL_SEL 7 0) with mode := bits v 2 0 }) :=
  ⟨2, 0xFFFFFFFF, { Policer.init with pir := 0x1FFFFFF }, put up [(Reg.POL_SEL, 255)], by decide +kernel⟩

theorem witness_TimeTick_1 :
    ∃ (s : State), (s.domainHeld 1 = false) ∧ (s.tb.step = none ∧ s.tb.inc = none) ∧ (s.tb.inRange) :=
  ⟨{ up with tb := { up.tb with sec := 2 ^ 64 - 1, ns := 999999999, frac := 2 ^ 32 - 1 } }, by decide +kernel⟩

theorem witness_TimeSmallStep_1 :
    ∃ (v : Word) (d : Int) (s : State), (s.live 0x004 = true ∧ s.domainHeld 1 = false ∧ bit v 0 = true ∧ s.tb.step =
      none) ∧ (d = (BitVec.ofNat 64 (s.reg64 Reg.TIME_STEP_LO)).toInt) ∧ (d.natAbs ≤ s.regN Reg.TIME_JUMP_THRESH) :=
  ⟨1, -5, put up [(Reg.TIME_STEP_LO, 2 ^ 32 - 5), (Reg.TIME_STEP_LO + 4, 2 ^ 32 - 1)], by decide +kernel⟩

theorem witness_TimeServo_1 :
    ∃ (v : Word) (s : State), (s.live 0x004 = true) ∧ (s.fld Reg.TIME_UNLOCK_CFG 15 0 < v.toInt.natAbs) :=
  ⟨0x80000000, wLocked, by decide +kernel⟩

theorem witness_TimeServo_2 :
    ∃ (v : Word) (s : State), (s.live 0x004 = true) ∧ (s.fld Reg.TIME_LOCK_CFG 15 0 < v.toInt.natAbs ∧
      v.toInt.natAbs ≤ s.fld Reg.TIME_UNLOCK_CFG 15 0) :=
  ⟨0xFFFFFF00, put wLocked [(Reg.TIME_LOCK_CFG, 0xFF), (Reg.TIME_UNLOCK_CFG, 0x100)], by decide +kernel⟩

theorem witness_TimeServo_3 :
    ∃ (v : Word) (s : State), (s.live 0x004 = true ∧ s.timeRoleInUse = 1 ∧ s.fld Reg.TIME_STATUS 15 8 < 255) ∧
      (v.toInt.natAbs ≤ s.fld Reg.TIME_LOCK_CFG 15 0 ∧ v.toInt.natAbs ≤ s.fld Reg.TIME_UNLOCK_CFG 15 0) :=
  ⟨0xFFFFFF00, put up [(Reg.TIME_CTRL, 0x10), (Reg.TIME_LOCK_CFG, 0x040100), (Reg.TIME_UNLOCK_CFG, 0x100), (Reg.TIME_STATUS, 0x300)], by decide +kernel⟩

theorem witness_TimeServo_4 :
    ∃ (s : State), (s.live 0x004 = true ∧ s.timeRoleInUse = 1 ∧ s.locked = true) :=
  ⟨put wLocked [(Reg.TIME_CTRL, 0x10)], by decide +kernel⟩

theorem witness_TimeServo_5 :
    ∃ (v : Word) (s : State), (s.live 0x004 = true ∧ bits v 5 4 = 2) :=
  ⟨0xFFFFFFE2, up, by decide +kernel⟩

theorem witness_TimeServo_6 :
    ∃ (v : Word) (s : State), (s.live 0x004 = true ∧ bit v 0 = true ∧ bit v 1 = false) ∧ (s.regN
      Reg.TIME_JUMP_THRESH < (BitVec.ofNat 64 (s.reg64 Reg.TIME_STEP_LO)).toInt.natAbs) :=
  ⟨1, put up [(Reg.TIME_STEP_LO + 4, 2 ^ 31)], by decide +kernel⟩

theorem witness_TimeServo_7 :
    ∃ (v : Word) (d : Int) (s : State), (s.live 0x004 = true ∧ bit v 0 = true ∧ bit v 1 = true ∧ s.tb.step = none) ∧
      (d = (BitVec.ofNat 64 (s.reg64 Reg.TIME_STEP_LO)).toInt) ∧ (s.regN Reg.TIME_JUMP_THRESH < d.natAbs) :=
  ⟨3, 2 ^ 62, put wLocked [(Reg.TIME_STEP_LO + 4, 2 ^ 30)], by decide +kernel⟩

theorem witness_TimeIncrementAndReads_1 :
    ∃ (v : Word) (i : Nat) (lo : Nat) (hi : Nat) (s : State), (s.live 0x004 = true ∧ i = bits v 7 0 * 2 ^ 32 +
      s.regN Reg.TIME_INCR_FRAC) ∧ (s.incrBound = 2 * 2 ^ 32 * s.fld Reg.TIME_MAX_ADJ 9 0 / 1000000 ∧ lo = 2 * 2 ^
      32 - s.incrBound ∧ hi = 2 * 2 ^ 32 + s.incrBound) :=
  ⟨3, 3 * 2 ^ 32, 2 * 2 ^ 32 - 4294967, 2 * 2 ^ 32 + 4294967, up, by decide +kernel⟩

theorem witness_TimeIncrementAndReads_2 :
    ∃ (v : Word) (s : State), (s.live 0x004 = true) ∧ (bits v 9 0 = 0 ∨ 1000 < bits v 9 0) :=
  ⟨1001, up, by decide +kernel⟩

theorem witness_TimeIncrementAndReads_3 :
    ∃ (v : Word) (s : State), (s.live 0x004 = true ∧ 1 ≤ bits v 9 0 ∧ bits v 9 0 ≤ 1000 ∧ s.incrInUse = 2 * 2 ^ 32) :=
  ⟨1000, up, by decide +kernel⟩

theorem witness_TimeIncrementAndReads_4 :
    ∃ (s : State), (s.live 0x004 = true ∧ s.tb.inRange) :=
  ⟨{ up with tb := { up.tb with sec := 2 ^ 64 - 1, ns := 999999999, frac := 2 ^ 32 - 1 } }, by decide +kernel⟩

theorem witness_TimeIncrementAndReads_5 :
    ∃ (s : State), (s.live 0x004 = true) :=
  ⟨put up [(Reg.TIME_CTRL, 1)], by decide +kernel⟩

theorem witness_TimeIncrementAndReads_6 :
    ∃ (t : Nat) (s : State), (s.live 0x004 = true ∧ s.rbit Reg.TIME_CTRL 2 = true) :=
  ⟨12345678901, put up [(Reg.TIME_CTRL, 4)], by decide +kernel⟩

theorem witness_TimeIncrementAndReads_7 :
    ∃ (s : State), (s.live 0x004 = true) :=
  ⟨up, by decide +kernel⟩

theorem witness_HostAccess_1 :
    ∃ (off : BitVec 26) (bs : List Byte) (a : Nat) (s : State), (s.domainHeld 9 = false ∧ a = s.winBase + off.toNat)
      ∧ (s.backed a bs.length = true ∧ pushWindow a bs.length = none ∧ popWindow a bs.length = none) ∧ (∀ i <
      bs.length, s.fencedOff byHost (a + i) = false) :=
  ⟨0x7FFFFC, [1, 2, 0, 3], 0x8007FFFFC, put up [(Reg.HOSTQ_WIN_BASE_HI, 8)], by decide +kernel⟩

theorem witness_HostAccess_2 :
    ∃ (off : BitVec 26) (len : Nat) (a : Nat) (s : State), (s.domainHeld 9 = false ∧ a = s.winBase + off.toNat) ∧
      (s.reaches a len = false) :=
  ⟨0, 4, 0xFFFFF00000, put up [(Reg.HOSTQ_WIN_BASE_HI, 0xFF), (Reg.HOSTQ_WIN_BASE_LO, 0xFFF00000)], by decide +kernel⟩

theorem witness_HostAccess_3 :
    ∃ (off : BitVec 26) (len : Nat) (a : Nat) (s : State), (s.domainHeld 9 = false ∧ a = s.winBase + off.toNat) ∧
      (s.backed a len = true ∧ pushWindow a len = none ∧ popWindow a len = none) ∧ (∀ i < len, s.fencedRead (a + i)
      = false) :=
  ⟨0, 4, 0x800000000, (put up [(Reg.HOSTQ_WIN_BASE_HI, 8)]).memWrite 0x800000000 [9, 8], by decide +kernel⟩

theorem witness_HostAccess_4 :
    ∃ (v : Word) (s : State), (s.domainHeld 10 = false) :=
  ⟨0xFFFFFFFF, up, by decide +kernel⟩

theorem witness_HostAccess_5 :
    ∃ (s : State), (s.domainHeld 9 = false) :=
  ⟨up, by decide +kernel⟩

theorem witness_HostAccess_6 :
    ∃ (q : Nat) (seq : Nat) (e : List Byte) (s : State), (s.busOk = true ∧ s.hostqUp = true ∧ q < 16) ∧
      (s.host.waiting = [(q, seq, e)] ∧ e.length = 64) ∧ (∀ i ∈ List.range 16, (s.hostQ i).countDue = false) ∧ (∀ c
      ∈ List.range 32, s.dmaState c ≠ 5) :=
  ⟨15, 5, List.replicate 64 7, { wHost with host := { wHost.host with waiting := [(15, 5, List.replicate 64 7)] } }, by decide +kernel⟩

theorem witness_CommandQueues_1 :
    ∃ (q : Fin 16) (v : Word) (s : State), (s.hostqUp = true) ∧ (bits v 11 0 < s.fld (Reg.HOSTQ_CMD_SIZE q.val) 12
      0) :=
  ⟨15, 0xFF, put up [(Reg.HOSTQ_CMD_SIZE 15, 256)], by decide +kernel⟩

theorem witness_CommandQueues_2 :
    ∃ (q : Fin 16) (v : Word) (s : State), (s.hostqUp = true) ∧ (s.fld (Reg.HOSTQ_CMD_SIZE q.val) 12 0 ≤ bits v 11
      0) :=
  ⟨15, 0x100, put up [(Reg.HOSTQ_CMD_SIZE 15, 256)], by decide +kernel⟩

theorem witness_CommandQueues_3 :
    ∃ (q : Fin 16) (s : State), (s.hostqUp = true ∧ s.tallyEn q.val = true ∧ s.rbit (Reg.HOSTQ_CTRL q.val) 1 =
      false) :=
  ⟨15, put up [(Reg.HOSTQ_CTRL 15, 1)], by decide +kernel⟩

theorem witness_CommandQueues_4 :
    ∃ (q : Fin 16) (s : State), (s.hostqUp = true) :=
  ⟨15, put up [(Reg.HOSTQ_CTRL 15, 3)], by decide +kernel⟩

theorem witness_CommandQueues_5 :
    ∃ (q : Nat) (e : List Byte) (s : State), (s.hostqUp = true ∧ s.busOk = true) ∧ (((rangeFrom (s.host.last + 1)
      16).map (· % 16)).find? s.fetchable = some q) ∧ (e = s.hostBytes (s.reg64 (Reg.HOSTQ_CMD_BASE_LO q) + 64 *
      s.fld (Reg.HOSTQ_HEAD q) 11 0) 64) ∧ (∀ k ∈ s.host.jobs, k.queue = q → s.cmdStillborn k.entry = none) ∧
      (s.cmdStillborn e = none) :=
  ⟨15, [1, 0] ++ List.replicate 62 0, { (put wHost [(Reg.HOSTQ_HEAD 15, 255), (Reg.HOSTQ_DOORBELL 15, 3)]) with hostMem := [(0x200000000 + 64 * 255, 1)] }, by decide +kernel⟩

theorem witness_CommandQueues_6 :
    ∃ (q : Fin 16) (j : CmdJob) (s : State), (CmdFront s q.val 0 false j) :=
  ⟨15, wJob 0 [], wCmd 0 [], ⟨by decide +kernel, by decide +kernel⟩⟩

theorem witness_HostCommands_1 :
    ∃ (q : Fin 16) (f : Nat) (j : CmdJob) (s : State), (CmdFront s q.val 1 true j) ∧ (f = leAt (cmdArgs j.entry) 0 2
      ∧ f ≤ 255 ∧ leAt (cmdArgs j.entry) 2 1 = 0) :=
  ⟨15, 5, wJob 1 [5], wCmd 1 [5], ⟨by decide +kernel, by decide +kernel⟩, by decide +kernel⟩

theorem witness_HostCommands_2 :
    ∃ (q : Fin 16) (f : Nat) (j : CmdJob) (s : State), (CmdFront s q.val 1 true j) ∧ (f = leAt (cmdArgs j.entry) 0 2
      ∧ f ≤ 255 ∧ leAt (cmdArgs j.entry) 2 1 = 3) :=
  ⟨15, 5, wJob 1 [5, 0, 3], wCmd 1 [5, 0, 3], ⟨by decide +kernel, by decide +kernel⟩, by decide +kernel⟩

theorem witness_HostCommands_3 :
    ∃ (q : Fin 16) (fault : Bool) (j : CmdJob) (s : State), (CmdFront s q.val 1 true j) ∧ (255 < leAt (cmdArgs
      j.entry) 0 2) :=
  ⟨15, false, wJob 1 [0, 1], wCmd 1 [0, 1], ⟨by decide +kernel, by decide +kernel⟩, by decide +kernel⟩

theorem witness_HostCommands_4 :
    ∃ (q : Fin 16) (c : Nat) (v : Nat) (p : List Byte × List Byte) (j : CmdJob) (s : State), (CmdFront s q.val 2
      true j) ∧ (c = leAt (cmdArgs j.entry) 0 2 ∧ c ≤ 255 ∧ leAt (cmdArgs j.entry) 2 2 ≤ 4096) ∧ ((fmtpItems
      (s.hostBytes (leAt (cmdArgs j.entry) 8 8) (leAt (cmdArgs j.entry) 2 2))).filter (fun p => p.1.take 4 == strB
      "uaq-") = [p]) ∧ (p.1 = strB "uaq-dl-exact" ∧ decimalB p.2 = some v ∧ 1 ≤ v ∧ v ≤ 60000) :=
  ⟨15, 255, 60000, (strB "uaq-dl-exact", strB "60000"), wJob 2 ([255, 0, 30, 0, 0, 0, 0, 0] ++ leBytes 8 0x300000000), wSdp "a=fmtp:96 uaq-dl-exact=60000  ", ⟨by decide +kernel, by decide +kernel⟩, by decide +kernel⟩

theorem witness_HostCommands_5 :
    ∃ (q : Fin 16) (p : List Byte × List Byte) (j : CmdJob) (s : State), (CmdFront s q.val 2 true j) ∧ (leAt
      (cmdArgs j.entry) 0 2 ≤ 255 ∧ leAt (cmdArgs j.entry) 2 2 ≤ 4096) ∧ (p ∈ fmtpItems (s.hostBytes (leAt (cmdArgs
      j.entry) 8 8) (leAt (cmdArgs j.entry) 2 2)) ∧ p.1.take 4 = strB "uaq-") ∧ (p.1 = strB "uaq-sheet" ∧ decimalB
      p.2 = some 3) :=
  ⟨15, (strB "uaq-sheet", strB "3"), wJob 2 ([255, 0, 30, 0, 0, 0, 0, 0] ++ leBytes 8 0x300000000), wSdp "a=fmtp:96 uaq-sheet=3          ", ⟨by decide +kernel, by decide +kernel⟩, by decide +kernel⟩

theorem witness_HostCommands_6 :
    ∃ (q : Fin 16) (j : CmdJob) (a : List Byte) (s : State), (CmdFront s q.val 3 false j) ∧ (a = cmdArgs j.entry ∧
      leAt a 0 1 ≤ 3 ∧ leAt a 1 1 ≤ 127) ∧ ((a.getD 2 0).toInt ∈ [-7, -6, -5, -4, -3, -2, -1] ∧ (a.getD 3 0).toInt ∈
      [-3, -2, -1, 0, 1] ∧ (a.getD 4 0).toInt ∈ [-7, -6, -5, -4, -3, -2, -1]) ∧ (2 ≤ leAt a 5 1 ∧ leAt a 5 1 ≤ 10 ∧
      leAt a 6 1 ≤ 1 ∧ leAt a 7 1 ≤ 1) :=
  ⟨15, wJob 3 wPtp, cmdArgs (wJob 3 wPtp).entry, wCmd 3 wPtp, ⟨by decide +kernel, by decide +kernel⟩, by decide +kernel⟩

theorem witness_HostCommands_7 :
    ∃ (q : Fin 16) (j : CmdJob) (slot : Nat) (a : List Byte) (s : State), (CmdFront s q.val 4 true j) ∧ (a = cmdArgs
      j.entry ∧ leAt a 4 4 ≤ 0x100000) ∧ (slot = s.reg64 (Reg.HOSTQ_TALLY_BASE_LO q.val) + 64 * (j.seq % s.tallySize
      q.val) ∧ s.busOk = true) :=
  ⟨15, wJob 4 ([0, 1, 0, 0, 2, 0, 0, 0] ++ leBytes 8 0x300000000), 0x100000000 + 64 * 5, cmdArgs (wJob 4 ([0, 1, 0, 0, 2, 0, 0, 0] ++ leBytes 8 0x300000000)).entry, { wCmd 4 ([0, 1, 0, 0, 2, 0, 0, 0] ++ leBytes 8 0x300000000) with flash := [(0x101, 7)] }, ⟨by decide +kernel, by decide +kernel⟩, by decide +kernel⟩

theorem witness_HostCommands_8 :
    ∃ (q : Fin 16) (j : CmdJob) (a : List Byte) (s : State), (CmdFront s q.val 5 true j) ∧ (a = cmdArgs j.entry ∧
      leAt a 4 4 ≤ 0x100000) :=
  ⟨15, wJob 5 ([0, 1, 0, 0, 2, 0, 0, 0] ++ leBytes 8 0x300000000), cmdArgs (wJob 5 ([0, 1, 0, 0, 2, 0, 0, 0] ++ leBytes 8 0x300000000)).entry, wCmd 5 ([0, 1, 0, 0, 2, 0, 0, 0] ++ leBytes 8 0x300000000), ⟨by decide +kernel, by decide +kernel⟩, by decide +kernel⟩

theorem witness_TallyRings_1 :
    ∃ (q : Fin 16) (s : State), (s.hostqUp = true ∧ s.busOk = true ∧ s.tallyC q.val ≠ (s.hostQ q.val).counted) :=
  ⟨15, put wHost [(Reg.HOSTQ_TALLY_COUNT_LO 15, 5)], by decide +kernel⟩

theorem witness_TallyRings_2 :
    ∃ (q : Fin 16) (v : Word) (s : State), (s.hostqUp = true) :=
  ⟨15, 5, put wHost [(Reg.HOSTQ_TALLY_COUNT_LO 15, 5)], by decide +kernel⟩

theorem witness_TallyRings_3 :
    ∃ (q : Fin 16) (s : State), (s.hostqUp = true ∧ s.tallyEn q.val = false) :=
  ⟨15, up, by decide +kernel⟩

theorem witness_TallyRings_4 :
    ∃ (q : Fin 16) (s : State), (s.hostqUp = true ∧ s.tallyEn q.val = true) ∧ (∀ c ∈ List.range 32, (s.dmaCh
      c).job.map (·.1) ≠ some q.val) :=
  ⟨15, wCmd 0 [], by decide +kernel⟩

theorem witness_DmaChannels_1 :
    ∃ (c : Fin 32) (d : List Byte) (s : State), (s.live 0x020 = true ∧ s.dmaUp = true ∧ s.dmaOn c.val = true) ∧
      ((s.dmaCh c.val).desc = none ∧ s.dmaState c.val ≠ 2 ∧ s.pacePauses c.val = false ∧ s.rbit (Reg.DMA_SHADOW_CTL
      c.val) 0 = false) ∧ ((s.dmaCh c.val).job ≠ none ∧ (s.dmaCh c.val).nextHost = false ∧ (s.dmaCh c.val).next % 32
      = 0) ∧ (s.dmaRange (s.dmaCh c.val).next 32 = none ∧ d = s.memBytes (s.dmaCh c.val).next 32 ∧ descBad d =
      false) :=
  ⟨31, wDesc, wDma none, by decide +kernel⟩

theorem witness_DmaChannels_2 :
    ∃ (c : Fin 32) (s : State), (s.live 0x020 = true ∧ s.dmaUp = true ∧ s.dmaOn c.val = true) ∧ ((s.dmaCh
      c.val).desc = none ∧ s.dmaState c.val ≠ 2 ∧ s.pacePauses c.val = true) :=
  ⟨31, put (wDma none) [(Reg.DMA_PACE 31, 2)], by decide +kernel⟩

theorem witness_DmaChannels_3 :
    ∃ (c : Fin 32) (s : State), (s.live 0x020 = true ∧ s.dmaUp = true ∧ s.dmaOn c.val = false) ∧ (s.rbit
      (Reg.DMA_SHADOW_CTL c.val) 0 = false ∧ s.tallyEn (s.dmaRing c.val) = false) :=
  ⟨31, up, by decide +kernel⟩

theorem witness_DmaChannels_4 :
    ∃ (c : Fin 32) (q : Nat) (d : List Byte) (s : State), (s.live 0x020 = true ∧ s.dmaUp = true ∧ s.dmaOn c.val =
      false) ∧ (s.rbit (Reg.DMA_SHADOW_CTL c.val) 0 = false ∧ s.dmaRing c.val = q ∧ s.tallyEn q = true ∧ s.canIssue
      q 1 = true ∧ s.pacePauses c.val = false) ∧ (s.reg64 (Reg.DMA_START_LO c.val) % 32 = 0 ∧ s.dmaRange (s.reg64
      (Reg.DMA_START_LO c.val)) 32 = none) ∧ (d = s.memBytes (s.reg64 (Reg.DMA_START_LO c.val)) 32 ∧ descBad d =
      false) :=
  ⟨31, 15, wDesc, put (wDma none) [(Reg.DMA_CTRL 31, 0)], by decide +kernel⟩

theorem witness_DmaChannels_5 :
    ∃ (c : Fin 32) (d : List Byte) (q : Nat) (k : Nat) (s : State), (s.live 0x020 = true ∧ s.dmaUp = true ∧ s.dmaOn
      c.val = true) ∧ ((s.dmaCh c.val).desc = some d ∧ descLen d ≠ 0 ∧ descSrcKind d = 3 ∧ descDstKind d = 0 ∧
      descLast d = true) ∧ (s.dmaRange (descDst d) (descLen d) = none ∧ pushWindow (descDst d) (descLen d) = none ∧
      popWindow (descDst d) (descLen d) = none) ∧ ((s.dmaCh c.val).job = some (q, k) ∧ q < 16) :=
  ⟨31, wDesc, 15, 5, wDma (some wDesc), by decide +kernel⟩

theorem witness_DmaChannels_6 :
    ∃ (c : Fin 32) (q : Nat) (k : Nat) (s : State), (s.live 0x020 = true ∧ s.dmaUp = true ∧ s.dmaOn c.val = true) ∧
      ((s.dmaCh c.val).desc = none ∧ (s.dmaCh c.val).job = some (q, k) ∧ q < 16) :=
  ⟨31, 15, 5, wDma none, by decide +kernel⟩

theorem witness_DmaChannels_7 :
    ∃ (c : Fin 32) (s : State), (s.live 0x020 = true ∧ s.dmaUp = true ∧ s.dmaOn c.val = true) ∧ (∀ p ∈ (s.dmaCh
      c.val).job, p.1 < 16) :=
  ⟨31, wDma (some wDesc), by decide +kernel⟩

theorem witness_DmaChannels_8 :
    ∃ (c : Fin 32) (s : State), (s.live 0x020 = true ∧ s.dmaState c.val = 2 ∧ s.paceResumes c.val = true ∧
      s.pacePauses c.val = true) ∧ (s.dmaUp = true ∧ s.dmaOn c.val = true ∧ (s.dmaCh c.val).desc = none) :=
  ⟨31, put (wDma none) [(Reg.DMA_PACE 31, 2), (Reg.DMA_STATUS 31, 2)], by decide +kernel⟩

theorem witness_DmaChannels_9 :
    ∃ (c : Fin 32) (d : List Byte) (s : State), (s.live 0x020 = true ∧ s.dmaState c.val = 2 ∧ s.paceResumes c.val =
      true ∧ s.pacePauses c.val = false) ∧ (s.dmaUp = true ∧ s.dmaOn c.val = true ∧ (s.dmaCh c.val).desc = none ∧
      s.rbit (Reg.DMA_SHADOW_CTL c.val) 0 = false) ∧ ((s.dmaCh c.val).job ≠ none ∧ (s.dmaCh c.val).nextHost = false
      ∧ (s.dmaCh c.val).next % 32 = 0) ∧ (s.dmaRange (s.dmaCh c.val).next 32 = none ∧ d = s.memBytes (s.dmaCh
      c.val).next 32 ∧ descBad d = false) :=
  ⟨31, wDesc, put (wDma none) [(Reg.DMA_PACE 31, 2), (Reg.DMA_PACE_LEVEL 31, 0xFFFF0005), (Reg.DMA_STATUS 31, 2)], by decide +kernel⟩

theorem witness_DmaChannels_10 :
    ∃ (c : Fin 32) (s : State), (s.dmaUp = true ∧ s.dmaOn c.val = true ∧ (s.dmaState c.val = 1 ∨ s.dmaState c.val =
      3)) ∧ ((s.dmaCh c.val).job = none) :=
  ⟨31, (wDma (some wDesc)).modDma 31 fun x => { x with job := none }, by decide +kernel⟩

theorem witness_ShadowControl_1 :
    ∃ (p : ShadowPage) (s : State), (s.live (shadowBlock p) = true) :=
  ⟨.ctx 255, up, by decide +kernel⟩

theorem witness_ShadowControl_2 :
    ∃ (p : ShadowPage) (s : State), (s.live (shadowBlock p) = true) ∧ (s.ledger.decided = [] ∧ s.ledger.waiting =
      []) :=
  ⟨.dma 31, put up [(Reg.DMA_SHADOW_CTL 31, 1)], by decide +kernel⟩

theorem witness_ShadowControl_3 :
    ∃ (c : Fin 32) (s : State), (s.live 0x020 = true ∧ s.dmaOn c.val = true ∧ (s.dmaCh c.val).desc = none) ∧ (s.rbit
      (Reg.DMA_SHADOW_CTL c.val) 0 = true) :=
  ⟨31, put (wDma none) [(Reg.DMA_SHADOW_CTL 31, 0xFF01), (shadowOf (Reg.DMA_CFG 31), 0xF000F), (shadowOf (Reg.DMA_PACE 31), 2), (shadowOf (Reg.DMA_PACE_LEVEL 31), 0x20001)], by decide +kernel⟩

theorem witness_ShadowControl_4 :
    ∃ (n : Fin 8) (s : State), (s.live (compPage n.val) = true ∧ s.outState n.val ≠ 0 ∧ (s.dpOut n.val).stopping =
      false) ∧ (s.armed (compPage n.val) = true ∧ s.badWindow n.val = none ∧ s.decisionOf (compReq n.val) = none) ∧
      (compReq n.val ∉ s.ledger.waiting ∧ s.formWins n.val = s.winCharges n.val) :=
  ⟨7, put (wOut 3) [(blkShadow (compPage 7), 0xFF01), (shadowOf (Reg.COMP_CTRL 7), 1)], by decide +kernel⟩

theorem witness_ShadowControl_5 :
    ∃ (c : Fin 256) (g : Charge) (s : State), (s.live (ctxPage c.val) = true ∧ s.ctxEnabled c.val = true ∧
      s.isEncode c.val = false ∧ (s.ctx c.val).pic = none ∧ (s.ctx c.val).dpic = none) ∧ (s.armed (ctxPage c.val) =
      true ∧ s.checkSet c.val false = none ∧ s.decisionOf (handoverReq c.val) = none ∧ handoverReq c.val ∉
      s.ledger.waiting) ∧ (s.formCharge c.val = .inr g ∧ g.differs (s.ctx c.val).chg = false) ∧ (s.wantsMapBuf c.val
      = false ∧ s.regN (Reg.FRESH_MAP_BUF c.val) = 0 ∧ s.updateChange c.val = false ∧ (s.ctx c.val).degrade = 0) ∧
      (s.sh (Reg.FRESH_MAP_BASE_LO c.val) = 0 ∧ s.sh (Reg.FRESH_MAP_BASE_HI c.val) = 0) :=
  ⟨3, wCharge, (wArmed [(shadowOf (Reg.DEC_RTP 3), 97), (shadowOf (Reg.FRESH_CTRL 3), 1)]).modCtx 3 fun x => { x with chg := wCharge }, by decide +kernel⟩

theorem witness_ShadowControl_6 :
    ∃ (c : Fin 256) (k : Nat) (s : State), (s.live (ctxPage c.val) = true ∧ s.ctxEnabled c.val = true ∧ s.isEncode
      c.val = false ∧ (s.ctx c.val).pic = none ∧ (s.ctx c.val).dpic = none) ∧ (s.armed (ctxPage c.val) = true ∧
      s.checkSet c.val false = some (.config k) ∧ s.decisionOf (handoverReq c.val) = none ∧ handoverReq c.val ∉
      s.ledger.waiting) :=
  ⟨3, 2, wArmed [(shadowOf (Reg.DEC_LOSS 3), 0)], by decide +kernel⟩

theorem witness_CueCompletion_1 :
    ∃ (w : Writer) (t : Fin 20) (v : Word) (s : State), (s.live 0x008 = true ∧ targetOf w = some t.val) :=
  ⟨.stageManager 3, 19, 700, put up [(Reg.CUEX_TGT_STATUS 19, 0x100), (Reg.CUEX_TGT_STACK 19 0, 700)], by decide +kernel⟩

theorem witness_CueExchange_1 :
    ∃ (v : Word) (src : Nat) (t : Nat) (s : State), (s.live 0x008 = true ∧ src = bits v 9 0 ∧ 960 ≤ src ∧ t =
      s.routeTarget src) :=
  ⟨1023, 1023, 19, put up [(Reg.CUEX_ROUTE 511, 0x00330000)], by decide +kernel⟩

theorem witness_CueExchange_2 :
    ∃ (n : Fin 4) (v : Word) (src : Nat) (cue : List Byte) (s : State), (s.live 0x008 = true ∧ src = 768 + 32 *
      n.val + bits v 4 0 ∧ cue = s.pmBytes (bits v 22 5 * 32) 32) ∧ (leAt cue 1 1 = s.cueGen src ∧ s.ringWaiting src
      ≠ 16) :=
  ⟨3, 0x1F, 895, List.replicate 32 0, up, by decide +kernel⟩

theorem witness_CueExchange_3 :
    ∃ (n : Fin 4) (v : Word) (src : Nat) (cue : List Byte) (s : State), (s.live 0x008 = true ∧ src = 768 + 32 *
      n.val + bits v 4 0 ∧ cue = s.pmBytes (bits v 22 5 * 32) 32) ∧ (leAt cue 1 1 = s.cueGen src ∧ s.ringWaiting src
      = 16) :=
  ⟨3, 0x1F, 895, List.replicate 32 0, put up [(Reg.CUEX_RING 447, 0x00100000)], by decide +kernel⟩

theorem witness_CueExchange_4 :
    ∃ (w : Writer) (v : Word) (src : Nat) (n : Nat) (s : State), (s.live 0x008 = true ∧ w ≠ .host ∧ src = bits v 9 0
      ∧ n = bits v 20 16 ∧ n ≤ s.ringWaiting src ∧ n ≤ 16) :=
  ⟨.prompter, 0x1003FF, 1023, 16, put up [(Reg.CUEX_RING 511, 0x00100000)], by decide +kernel⟩

theorem witness_CueExchange_5 :
    ∃ (w : Writer) (t : Fin 20) (v : Word) (src : Nat) (s : State), (s.live 0x008 = true ∧ targetOf w = some t.val ∧
      src = bits v 9 0 ∧ s.pendingAt t.val src = true ∧ s.stackDepth t.val < 8) :=
  ⟨.cueEngine 15, 15, 700, 700, put up [(Reg.CUEX_TGT_PEND 15 21, 2 ^ 28), (Reg.CUEX_HOLDOFF 21, 5), (Reg.CUEX_TGT_STATUS 15, 0x700)], by decide +kernel⟩

theorem witness_CueExchange_6 :
    ∃ (w : Writer) (t : Fin 20) (v : Word) (s : State), (s.live 0x008 = true ∧ s.pendingAt t.val (bits v 9 0) =
      false) :=
  ⟨.stageManager 3, 19, 700, up, by decide +kernel⟩

theorem witness_CueExchange_7 :
    ∃ (w : Writer) (t : Fin 20) (v : Word) (x : Word) (src : Nat) (s : State), (s.live 0x008 = true ∧ targetOf w =
      some t.val ∧ src = bits v 9 0 ∧ s.pendingAt t.val src = true ∧ s.stackDepth t.val < 8) ∧ (bits x 9 0 = src ∧
      960 ≤ src ∧ s.routeTarget src = t.val) :=
  ⟨.stageManager 3, 19, 1023, 1023, 1023, put up [(Reg.CUEX_ROUTE 511, 0x00330000), (Reg.CUEX_TGT_PEND 19 31, 2 ^ 31), (Reg.CUEX_TGT_STATUS 19, 0x700)], by decide +kernel⟩

theorem witness_CueExchange_8 :
    ∃ (w : Writer) (t : Fin 20) (v : Word) (s : State), (s.live 0x008 = true ∧ targetOf w = some t.val ∧ 16 ≤ t.val
      ∧ bit v 0 = true) :=
  ⟨.stageManager 3, 19, 1, up, by decide +kernel⟩

theorem witness_CueExchange_9 :
    ∃ (t : Fin 20) (s : State), (s.live 0x008 = true) :=
  ⟨19, put up [(Reg.CUEX_TGT_STATUS 19, 3)], by decide +kernel⟩

theorem witness_CueExchange_10 :
    ∃ (w : Writer) (k : Fin 512) (v : Word) (src : Nat) (s : State), (s.live 0x008 = true ∧ w ≠ .host ∧ 128 ≤ k.val
      ∧ src = 2 * k.val) ∧ (bits v 4 0 ≤ 19 ∧ 19 < bits v 20 16 ∧ s.routeTarget src ≠ bits v 4 0 ∧ s.routeTarget src
      ≤ 19) :=
  ⟨.stageManager 0, 511, 0x00140033, 1022, put up [(Reg.CUEX_TGT_PEND 0 31, 2 ^ 30)], by decide +kernel⟩

theorem witness_CueExchange_11 :
    ∃ (w : Writer) (k : Fin 512) (v : Word) (x : Word) (src : Nat) (s : State), (s.live 0x008 = true ∧ w ≠ .host ∧
      480 ≤ k.val ∧ src = 2 * k.val ∧ bits x 9 0 = src) ∧ (bits v 4 0 ≤ 19 ∧ 19 < bits v 20 16 ∧ s.routeTarget src ≠
      bits v 4 0 ∧ s.routeTarget src ≤ 19) :=
  ⟨.stageManager 0, 511, 0x00140033, 1022, 1022, up, by decide +kernel⟩

theorem witness_CueExchange_12 :
    ∃ (t : Fin 20) (g : Fin 32) (s : State), (s.live 0x008 = true) :=
  ⟨19, 31, { up with cuex := { up.cuex with holdoff := [(19, 31), (0, 0)] } }, by decide +kernel⟩

theorem witness_PropRoom_1 :
    ∃ (r : Fin 64) (size : BitVec 27) (cls : Fin 8) (p : Nat) (i : Nat) (s : State), (s.poolShut = false ∧ s.enabled
      0x018 = true ∧ windowOf r.val = none) ∧ (1 ≤ size.toNat ∧ size.toNat ≤ 0x400000 ∧ (List.range 8).find? (fun p
      => Nat.ble size.toNat (poolSize p)) = some p) ∧ (s.regN (heldReg r.val (poolInDram p)) + poolCharge p ≤
      s.poolQuota r.val (poolInDram p) ∧ firstFree 1 (s.poolCount p) 0 (s.poolUsed p) = some i) :=
  ⟨25, 257, 7, 1, 0, wPool, by decide +kernel⟩

theorem witness_PropRoom_2 :
    ∃ (r : Fin 64) (size : BitVec 27) (cls : Fin 8) (w : Nat) (s : State), (s.poolShut = false ∧ s.enabled 0x018 =
      true ∧ windowOf r.val = some w) ∧ (size = 0 ∨ 0x4000000 < size.toNat) :=
  ⟨27, 0, 0, 0, wPool, by decide +kernel⟩

theorem witness_PropRoom_3 :
    ∃ (r : Fin 64) (h : Word) (tm : Nat) (so : BitVec 16) (k : Nat) (b : PoolBuf) (s : State), (s.poolShut = false ∧
      s.enabled 0x018 = true ∧ windowOf r.val = none) ∧ (s.bufOf h.toNat = some k ∧ s.poolBuf k = b) :=
  ⟨25, 0x01000001, 7, 9, 1, { frees := 0, count := 255, owner := 2, span := 1 }, wPool.setPoolBuf 1 { frees := 0, count := 255, owner := 2, span := 1 }, by decide +kernel⟩

theorem witness_PropRoom_4 :
    ∃ (r : Fin 64) (h : Word) (tm : Nat) (so : BitVec 16) (k : Nat) (b : PoolBuf) (s : State), (s.poolShut = false ∧
      s.enabled 0x018 = true ∧ windowOf r.val = none) ∧ (s.bufOf h.toNat = some k ∧ s.poolBuf k = b ∧ b.count ≠ 1) :=
  ⟨25, 0x01000001, 7, 9, 1, { frees := 0, count := 255, owner := 2, span := 1 }, wPool.setPoolBuf 1 { frees := 0, count := 255, owner := 2, span := 1 }, by decide +kernel⟩

theorem witness_PropRoom_5 :
    ∃ (r : Fin 64) (h : Word) (tm : Nat) (so : BitVec 16) (k : Nat) (b : PoolBuf) (s : State), (s.poolShut = false ∧
      s.enabled 0x018 = true ∧ windowOf r.val = none) ∧ (s.bufOf h.toNat = some k ∧ s.poolBuf k = b ∧ b.count = 1 ∧
      b.span = 1 ∧ b.owner < 64) :=
  ⟨25, 0x01000001, 7, 9, 1, { frees := 0, count := 1, owner := 2, span := 1 }, wPool.setPoolBuf 1 { frees := 0, count := 1, owner := 2, span := 1 }, by decide +kernel⟩

theorem witness_PropRoom_6 :
    ∃ (r : Fin 64) (h : Word) (tm : Nat) (so : BitVec 16) (s : State), (s.poolShut = false ∧ s.enabled 0x018 = true
      ∧ windowOf r.val = none ∧ s.bufOf h.toNat = none) :=
  ⟨25, 0x01000001, 7, 9, wPool, by decide +kernel⟩

theorem witness_PropRoom_7 :
    ∃ (a : PoolRefAsk) (b : PoolRefAsk) (s : State), (refOrder a ≠ refOrder b) :=
  ⟨⟨25, 0x01000001, 7, 9⟩, ⟨25, 0x01000001, 7, 8⟩, wPool, by decide +kernel⟩

theorem witness_PropRoom_8 :
    ∃ (a : PoolRefAsk) (asks : List PoolAsk) (s : State) (u : State), (exec (.poolRefDecrement [a]) s = .next u) :=
  ⟨⟨25, 0x01000001, 7, 9⟩, [], up, up.refApply false ⟨25, 0x01000001, 7, 9⟩, rfl⟩

theorem witness_PropRoom_9 :
    ∃ (s : State), (s.live 0x018 = true ∧ s.enabled 0x018 = false) :=
  ⟨put wPool [(blkCtrl 0x018, 0)], by decide +kernel⟩

theorem witness_PropRoom_10 :
    ∃ (s : State), (s.live 0x018 = true) :=
  ⟨wPool, by decide +kernel⟩

theorem witness_PropRoom_11 :
    ∃ (s : State), (s.live 0x018 = true) :=
  ⟨wPool, by decide +kernel⟩

theorem witness_PropRoom_12 :
    ∃ (r : Fin 64) (q : Fin 64) (size : BitVec 27) (cls : Fin 8) (s : State), (s.live 0x018 = true ∧ windowOf r.val
      = none ∧ windowOf q.val = none) :=
  ⟨25, 26, 9, 0, wPool, by decide +kernel⟩

theorem witness_FifoFullAndEmpty_1 :
    ∃ (f : Fin 16) (v : Word) (s : State), (s.live 0x018 = true ∧ s.rbit (Reg.FIFO_CFG f.val) 0 = true) ∧ ((s.fifo
      f.val).fill.length = s.fld (Reg.FIFO_CFG f.val) 16 8 ∧ (s.fifo f.val).drain ≠ []) :=
  ⟨15, 3, wFifo (List.replicate 8 9) [1], by decide +kernel⟩

theorem witness_FifoFullAndEmpty_2 :
    ∃ (f : Fin 16) (s : State), (s.live 0x018 = true ∧ (s.fifo f.val).fill = [] ∧ (s.fifo f.val).drain = []) :=
  ⟨15, wFifo [] [], by decide +kernel⟩

theorem witness_FifosAndCheckValues_1 :
    ∃ (f : Fin 16) (v : Word) (s : State), (s.live 0x018 = true ∧ s.rbit (Reg.FIFO_CFG f.val) 0 = true) ∧ ((s.fifo
      f.val).full (s.fifoDepth f.val) = false) :=
  ⟨15, 3, wFifo (List.replicate 7 9) [1], by decide +kernel⟩

theorem witness_FifosAndCheckValues_2 :
    ∃ (f : Fin 16) (v : Nat) (r : List Nat) (s : State), (s.live 0x018 = true ∧ (s.fifo f.val).drain = v :: r) :=
  ⟨15, 1, [], wFifo (List.replicate 7 9) [1], by decide +kernel⟩

theorem witness_FifosAndCheckValues_3 :
    ∃ (f : Fin 16) (v : Nat) (r : List Nat) (x : Word) (s : State), (s.live 0x018 = true ∧ s.rbit (Reg.FIFO_CFG
      f.val) 0 = true ∧ (s.fifo f.val).drain = v :: r ∧ (s.fifo f.val).full (s.fifoDepth f.val) = true) :=
  ⟨15, 1, [], 5, wFifo (List.replicate 8 9) [1], by decide +kernel⟩

theorem witness_FifosAndCheckValues_4 :
    ∃ (f : Fin 16) (v : Nat) (r : List Nat) (x : Word) (s : State), (s.live 0x018 = true ∧ s.rbit (Reg.FIFO_CFG
      f.val) 0 = true ∧ (s.fifo f.val).drain = v :: r ∧ (s.fifo f.val).full (s.fifoDepth f.val) = false ∧
      s.fifoDepth f.val ≠ 0) :=
  ⟨15, 1, [], 5, wFifo (List.replicate 7 9) [1], by decide +kernel⟩

theorem witness_FifosAndCheckValues_5 :
    ∃ (f : Fin 16) (x : Word) (s : State), (s.live 0x018 = true ∧ s.rbit (Reg.FIFO_CFG f.val) 0 = true ∧ (s.fifo
      f.val).drain = [] ∧ (s.fifo f.val).fill = [] ∧ s.fifoDepth f.val ≠ 0) :=
  ⟨15, 5, wFifo [] [], by decide +kernel⟩

theorem witness_FifosAndCheckValues_6 :
    ∃ (f : Fin 16) (v : Word) (s : State), (s.live 0x018 = true ∧ s.rbit (Reg.FIFO_CFG f.val) 0 = true ∧ bit v 0 =
      false) :=
  ⟨15, 0xFFFFFFFE, wFifo (List.replicate 7 9) [1], by decide +kernel⟩

theorem witness_FifosAndCheckValues_7 :
    ∃ (f : Fin 16) (v : Word) (s : State), (s.live 0x018 = true ∧ s.rbit (Reg.FIFO_CFG f.val) 0 = false ∧ bit v 0 =
      false) :=
  ⟨15, 0xFFFFFFFE, up, by decide +kernel⟩

theorem witness_FifosAndCheckValues_9 :
    ∃ (w : Writer) (v : Word) (off : Nat) (c : Nat) (s : State), (s.live 0x019 = true ∧ off = bits v 22 6 * 64 ∧ c =
      s.memLE (poolBase + off + 2) 1 % 16 ∧ (s.cvuQueue c).length < 5) :=
  ⟨.stageManager 1, 0xFFFFFFFF, 0x7FFFC0, 0, up, by decide +kernel⟩

theorem witness_FifosAndCheckValues_10 :
    ∃ (c : Fin 16) (j : CvuJob) (r : List CvuJob) (d : List Byte) (a : Nat) (res : Nat) (st : Nat) (s : State),
      (s.live 0x019 = true ∧ s.cvuQueue c.val = j :: r ∧ d = s.pmBytes j.offset 64) ∧ (cvuDescOk d = true ∧
      s.cvuCfgOk c.val = true ∧ j.poster = s.fld (Reg.CVU_OWNER c.val) 1 0 ∧ nbit (leAt d 3 1) 1 = false) ∧
      (s.cvuData d = .inl a) ∧ (res = crcOf (s.fld (Reg.CVU_CFG c.val) 6 0) (s.reg64 (Reg.CVU_POLY_LO c.val))
      (s.reg64 (Reg.CVU_INIT_LO c.val)) (s.reg64 (Reg.CVU_XOROUT_LO c.val)) (s.rbit (Reg.CVU_CFG c.val) 7) (s.rbit
      (Reg.CVU_CFG c.val) 8) (s.memBytes a (leAt d 24 3))) ∧ (st = (if nbit (leAt d 3 1) 0 = true ∧ res ≠ leAt d 32
      8 % 2 ^ s.fld (Reg.CVU_CFG c.val) 6 0 then 1 else 0)) :=
  ⟨15, ⟨2, 64⟩, [], wCvuDesc, 0x800001000, 0xCBF43926, 0, wCvu, by decide +kernel⟩

theorem witness_FifosAndCheckValues_11 :
    ∃ (w : Writer) (c : Fin 16) (v : Word) (s : State), (s.live 0x019 = true) :=
  ⟨.host, 15, 0xFFFFFFFF, up, by decide +kernel⟩

theorem witness_DramRequests_1 :
    ∃ (n : Fin 4) (q : DramAsk) (a : Nat) (d : List Byte) (s : State), (DramServes s n.val ∧ a = q.addr.toNat / 64 *
      64 ∧ a < s.dramSize ∧ chanOf a = n.val) ∧ (q.write = some d ∧ d.length = 64 ∧ (s.dram n.val).writes.length <
      64) ∧ (∀ i ∈ List.range 64, s.fencedOff q.writer.val (a + i) = false) :=
  ⟨3, ⟨0, 931, 0x377, 3, false, some (List.replicate 64 7), 4⟩, 0x340, List.replicate 64 7, wDram [] DramCh.init, by decide +kernel⟩

theorem witness_DramRequests_2 :
    ∃ (n : Fin 4) (q : DramAsk) (a : Nat) (s : State), (DramServes s n.val ∧ a = q.addr.toNat / 64 * 64 ∧ a <
      s.dramSize ∧ chanOf a = n.val) ∧ (q.write = none ∧ (s.dram n.val).reads.length < 64) :=
  ⟨3, ⟨0, 931, 0x377, 0, true, none, 6⟩, 0x340, wDram [] DramCh.init, by decide +kernel⟩

theorem witness_DramRequests_3 :
    ∃ (n : Fin 4) (q : DramAsk) (r : DramAsk) (s : State), (q.port < r.port) :=
  ⟨3, ⟨0, 931, 0x377, 0, true, none, 6⟩, ⟨1, 930, 0x377, 0, true, none, 6⟩, wDram [] DramCh.init, by decide +kernel⟩

theorem witness_DramRequests_4 :
    ∃ (n : Fin 4) (q : DramAsk) (a : Nat) (s : State), (s.live (0x010 + n.val) = true ∧ s.dramState n.val ≠ 3 ∧ a =
      q.addr.toNat / 64 * 64 ∧ a < s.dramSize ∧ chanOf a = n.val) :=
  ⟨3, ⟨0, 931, 0x377, 0, true, none, 6⟩, 0x340, up, by decide +kernel⟩

theorem witness_DramRequests_5 :
    ∃ (n : Fin 4) (q : DramAsk) (a : Nat) (s : State), (DramServes s n.val ∧ a = q.addr.toNat / 64 * 64 ∧ a <
      s.dramSize ∧ chanOf a = n.val) ∧ (q.write.isSome = true ∧ (s.dram n.val).writes.length < 64) ∧ (∃ f ∈
      List.range 4, s.rbit (Reg.DRAM_FENCE_WRITERS f) 0 = true ∧ s.fld (Reg.DRAM_FENCE_BASE f) 27 0 ≤ a / 4096 ∧ a /
      4096 ≤ s.fld (Reg.DRAM_FENCE_LIMIT f) 27 0 ∧ s.rbit (Reg.DRAM_FENCE_WRITERS f) (8 + q.writer.val) = false) :=
  ⟨3, ⟨0, 931, 0x377, 0, true, some [1], 6⟩, 0x340, wDram [(Reg.DRAM_FENCE_WRITERS 3, 0x3F01)] DramCh.init, by decide +kernel⟩

theorem witness_DramRequests_6 :
    ∃ (n : Fin 4) (sub : Fin 2) (d1 : Bool) (d2 : Bool) (x : DramCh) (s : State), (DramServes s n.val ∧ DramQuiet s
      n.val sub.val ∧ x = s.dram n.val ∧ s.ordered n.val = false) ∧ (sub.val ∉ x.drain ∧ x.writes.length < s.fld
      (Reg.DRAM_WQ n.val) 5 0 ∧ ∃ r ∈ x.reads, s.subOf n.val r = sub.val) :=
  ⟨3, 1, true, true, { DramCh.init with reads := [wRead 0x360 0 false 0], writes := [wWrite 0x380 0] }, wDram [] { DramCh.init with reads := [wRead 0x360 0 false 0], writes := [wWrite 0x380 0] }, by decide +kernel⟩

theorem witness_DramRequests_7 :
    ∃ (n : Fin 4) (sub : Fin 2) (d1 : Bool) (d2 : Bool) (x : DramCh) (l : List DramReq) (s : State), (DramServes s
      n.val ∧ DramQuiet s n.val sub.val ∧ x = s.dram n.val ∧ s.ordered n.val = true ∧ s.retraining n.val = false) ∧
      (l = (x.reads ++ x.writes).filter (fun r => s.subOf n.val r == sub.val) ∧ l ≠ []) :=
  ⟨3, 1, true, true, { DramCh.init with reads := [wRead 0x360 3 false 0], writes := [wWrite 0x3C0 0] }, [wRead 0x360 3 false 0, wWrite 0x3C0 0], wDram [(Reg.DRAM_SERVICE 3, 0x801)] { DramCh.init with reads := [wRead 0x360 3 false 0], writes := [wWrite 0x3C0 0] }, by decide +kernel⟩

theorem witness_DramRefresh_1 :
    ∃ (n : Fin 4) (sub : Fin 2) (s : State), (DramServes s n.val ∧ s.noBreak n.val sub.val = true ∧ s.debt n.val
      sub.val < s.subLimit n.val sub.val) :=
  ⟨3, 1, wDram [(Reg.DRAM_STATUS 3, 0x80003)] { DramCh.init with reads := [wRead 0x360 0 true 0] }, by decide +kernel⟩

theorem witness_DramRefresh_2 :
    ∃ (n : Fin 4) (sub : Fin 2) (s : State), (DramServes s n.val ∧ (s.noBreak n.val sub.val = false ∨ s.subLimit
      n.val sub.val ≤ s.debt n.val sub.val)) :=
  ⟨3, 1, wDram [] { DramCh.init with rows := [(64, some 5)] }, by decide +kernel⟩

theorem witness_DramRefresh_3 :
    ∃ (n : Fin 4) (sub : Fin 2) (d1 : Bool) (d2 : Bool) (s : State), (DramServes s n.val ∧ 0 < s.debt n.val sub.val
      ∧ ∀ r ∈ (s.dram n.val).reads ++ (s.dram n.val).writes, s.subOf n.val r ≠ sub.val) :=
  ⟨3, 1, true, true, wDram [(Reg.DRAM_STATUS 3, 0x8F003)] { DramCh.init with rows := [(64, some 5)] }, by decide +kernel⟩

theorem witness_DramRefresh_4 :
    ∃ (n : Fin 4) (a : DieMr4) (b : DieMr4) (s : State), (DramServes s n.val ∧ s.rbit (Reg.DRAM_CFG n.val) 6 = false
      ∧ s.subRate n.val 0 = 0 ∧ s.subRate n.val 1 = 0) ∧ (a.rate = 1 ∧ b.rate = 0 ∧ s.debt n.val 0 ≤ s.fld
      (Reg.DRAM_STATUS n.val) 19 16) :=
  ⟨3, ⟨0x85, 1⟩, ⟨3, 0⟩, wDram [(Reg.DRAM_STATUS 3, 0x88803)] DramCh.init, by decide +kernel⟩

theorem witness_DramRefresh_5 :
    ∃ (n : Fin 4) (a : DieMr4) (b : DieMr4) (s : State), (DramServes s n.val ∧ s.rbit (Reg.DRAM_CFG n.val) 6 = false
      ∧ s.subRate n.val 0 = 1 ∧ s.subRate n.val 1 = 0) ∧ (a.rate = 0 ∧ b.rate = 0) :=
  ⟨3, ⟨0x85, 0⟩, ⟨3, 0⟩, wDram [(Reg.DRAM_STATUS 3, 0x88703)] { DramCh.init with rates := [(0, 1)] }, by decide +kernel⟩

theorem witness_DramRefresh_6 :
    ∃ (n : Fin 4) (a : DieMr4) (b : DieMr4) (s : State), (DramServes s n.val ∧ s.rbit (Reg.DRAM_CFG n.val) 6 = false
      ∧ s.subRate n.val 0 = 0 ∧ s.subRate n.val 1 ≠ 2) ∧ (a.rate = 0 ∧ b.rate = 2) :=
  ⟨3, ⟨0x85, 0⟩, ⟨3, 2⟩, wDram [(Reg.DRAM_STATUS 3, 0x88803)] DramCh.init, by decide +kernel⟩

theorem witness_DramChannels_1 :
    ∃ (n : Fin 4) (m : Fin 4) (s : State), (s.live (0x010 + n.val) = true ∧ (s.dramState n.val = 1 ∨ s.dramState
      n.val = 2)) ∧ (m ≠ n ∧ (s.dramState m.val = 1 ∨ s.dramState m.val = 2)) :=
  ⟨3, 0, put up [(Reg.DRAM_STATUS 3, 1), (Reg.DRAM_STATUS 0, 2)], by decide +kernel⟩

theorem witness_DramChannels_2 :
    ∃ (n : Fin 4) (s : State), (s.live (0x010 + n.val) = true ∧ (s.dramState n.val = 1 ∨ s.dramState n.val = 2)) ∧
      (∀ m ∈ List.range 4, m ≠ n.val → s.dramState m ≠ 1 ∧ s.dramState m ≠ 2) :=
  ⟨3, { put up [(Reg.DRAM_STATUS 3, 1)] with rc := { up.rc with notReady := [4] } }, by decide +kernel⟩

theorem witness_DramChannels_3 :
    ∃ (n : Fin 4) (s : State), (s.live (0x010 + n.val) = true ∧ (s.dramState n.val = 1 ∨ s.dramState n.val = 2)) :=
  ⟨3, put up [(Reg.DRAM_STATUS 3, 1)], by decide +kernel⟩

theorem witness_DramChannels_4 :
    ∃ (n : Fin 4) (s : State), (s.live (0x010 + n.val) = true ∧ (s.dramState n.val = 1 ∨ s.dramState n.val = 2) ∧
      (s.dram n.val).tries < 3) :=
  ⟨3, put up [(Reg.DRAM_STATUS 3, 2)], by decide +kernel⟩

theorem witness_DramChannels_5 :
    ∃ (n : Fin 4) (s : State), (DramServes s n.val ∧ s.rbit (Reg.DRAM_RETRAIN n.val) 16 = true ∧ s.noBreak n.val 0 =
      false ∧ s.noBreak n.val 1 = false) :=
  ⟨3, wDram [(Reg.DRAM_RETRAIN 3, 0x10020)] DramCh.init, by decide +kernel⟩

theorem witness_DramChannels_6 :
    ∃ (n : Fin 4) (s : State), (DramServes s n.val ∧ s.rbit (Reg.DRAM_RETRAIN n.val) 16 = true ∧ s.noBreak n.val 0 =
      false ∧ s.noBreak n.val 1 = false) :=
  ⟨3, wDram [(Reg.DRAM_RETRAIN 3, 0x10020)] DramCh.init, by decide +kernel⟩

theorem witness_DramChannels_7 :
    ∃ (n : Fin 4) (s : State), (s.live (0x010 + n.val) = true ∧ (s.dram n.val).failed = true ∧ (s.dram n.val).tries
      < 3) :=
  ⟨3, wDram [] { DramCh.init with failed := true, tries := 2 }, by decide +kernel⟩

theorem witness_DramChannels_8 :
    ∃ (n : Fin 4) (ok : Bool) (s : State), (s.live (0x010 + n.val) = true ∧ (s.dram n.val).failed = true ∧ 2 ≤
      (s.dram n.val).tries ∧ (ok = true → 3 ≤ (s.dram n.val).tries)) :=
  ⟨3, false, wDram [] { DramCh.init with failed := true, tries := 2 }, by decide +kernel⟩

theorem witness_DramChannels_9 :
    ∃ (n : Fin 4) (s : State), (DramServes s n.val) :=
  ⟨3, wDram [(Reg.DRAM_STATUS 3, 0x88803)] { DramCh.init with reads := [wRead 0x360 3 false 0], writes := [wWrite 0x380 0] }, by decide +kernel⟩

theorem witness_DramChannels_10 :
    ∃ (n : Fin 4) (s : State), (DramServes s n.val) :=
  ⟨3, wDram [(Reg.DRAM_STATUS 3, 0x88803)] { DramCh.init with reads := [wRead 0x360 3 false 0], writes := [wWrite 0x380 0] }, by decide +kernel⟩

theorem witness_DramChannels_11 :
    ∃ (n : Fin 4) (s : State), (s.live (0x010 + n.val) = true ∧ s.dramState n.val = 4 ∧ s.dramBad n.val = false) :=
  ⟨3, put up [(Reg.DRAM_STATUS 3, 4)], by decide +kernel⟩

theorem witness_DramChannels_12 :
    ∃ (n : Fin 4) (i : Fin 4) (s : State), (s.live (0x010 + n.val) = true ∧ s.dramState n.val = 4 ∧ s.fld
      (Reg.DRAM_CFG i.val) 6 4 ≠ s.fld (Reg.DRAM_CFG 0) 6 4) :=
  ⟨3, 1, put up [(Reg.DRAM_STATUS 3, 4), (Reg.DRAM_CFG 1, 0x40)], by decide +kernel⟩

theorem witness_DramChannels_13 :
    ∃ (s : State), (s.live 0x010 = true ∧ s.admittedCtxs = [] ∧ ∀ n ∈ List.range 4, 0 < (s.dram n).sect ∧ (s.dram
      n).raw ≤ 3 * (s.dram n).sect) :=
  ⟨{ up with drams := (List.range 4).map fun n => (n, { DramCh.init with raw := 64 + 32 * n, sect := 64 }) }, by decide +kernel⟩

theorem witness_CompressedBlocks_1 :
    ∃ (d : Nat) (b : List Nat), (1 ≤ d ∧ d ≤ 12 ∧ b.length = 64 ∧ ∀ v ∈ b, v < 2 ^ d) :=
  ⟨8, List.range 64, by decide +kernel⟩

theorem witness_CompressedBlocks_2 :
    ∃ (d : Nat) (b : List Nat), (1 ≤ d ∧ d ≤ 12 ∧ b.length = 64 ∧ ∀ v ∈ b, v < 2 ^ d) :=
  ⟨8, List.replicate 64 255, by decide +kernel⟩

theorem witness_CompressedBlocks_3 :
    ∃ (a : Nat) (b : Nat), (chanOf a = chanOf b ∧ chanAddr a = chanAddr b) :=
  ⟨0x3FFFFFFFF, 0x3FFFFFFFF, by decide +kernel⟩

theorem witness_CompressedBlocks_4 :
    ∃ (o : Nat) (r : Nat) (two : Bool) (a : Nat) (b : Nat), (o < 3 ∧ 14 ≤ r ∧ r ≤ 17 ∧ a < 2 ^ (16 + r + b2n two) ∧
      b < 2 ^ (16 + r + b2n two)) ∧ (placeOf o r two a = placeOf o r two b) :=
  ⟨2, 17, true, 0x3FFFFFFFF, 0x3FFFFFFC0, by decide +kernel⟩

theorem witness_ResetSources_1 :
    ∃ (s : State), (s.rc.held = [] ∧ s.rc.asserted = []) :=
  ⟨wLive, by decide +kernel⟩

theorem witness_ResetSources_2 :
    ∃ (s : State), (s.rc.held = [] ∧ s.rc.asserted = []) :=
  ⟨wLive, by decide +kernel⟩

theorem witness_ResetSources_3 :
    ∃ (s : State), (s.rc.held = [] ∧ s.rc.asserted = []) :=
  ⟨wLive, by decide +kernel⟩

theorem witness_ResetSources_4 :
    ∃ (s : State), (s.rc.held = [] ∧ s.rc.asserted = [] ∧ s.inReset 0x001 = false) :=
  ⟨wLive, by decide +kernel⟩

theorem witness_ResetSources_5 :
    ∃ (s : State), (ResetSource.powerOn ∉ s.rc.asserted ∧ s.rc.held = []) :=
  ⟨{ wLive with rc := { wLive.rc with asserted := [.pwd, .rstN] } }, by decide +kernel⟩

theorem witness_ResetSources_6 :
    ∃ (s : State), (ResetSource.powerOn ∉ s.rc.asserted ∧ s.rc.held = []) :=
  ⟨wLive, by decide +kernel⟩

theorem witness_ResetSources_7 :
    ∃ (s : State), (s.rc.held = [] ∧ s.rc.asserted = []) :=
  ⟨wLive, by decide +kernel⟩

theorem witness_ResetSources_8 :
    ∃ (s : State), (s.rc.held = [] ∧ s.rc.asserted = [] ∧ s.inReset 0x001 = false ∧ s.fld Reg.REH_STATUS 2 0 = 0) :=
  ⟨wLive, by decide +kernel⟩

theorem witness_ResetSources_9 :
    ∃ (s : State), (s.rc.held = [] ∧ s.rc.asserted = [] ∧ s.fld Reg.REH_STATUS 2 0 = 0) :=
  ⟨wLive, by decide +kernel⟩

theorem witness_ResetSources_10 :
    ∃ (s : State), (ResetSource.powerOn ∈ s.rc.asserted) :=
  ⟨State.reset, by decide +kernel⟩

theorem witness_ResetSources_11 :
    ∃ (s : State), (ResetSource.rstN ∈ s.rc.asserted) :=
  ⟨wHeld [.pwd, .rstN] [1], by decide +kernel⟩

theorem witness_ResetSources_12 :
    ∃ (s : State), (ResetSource.perstN ∈ s.rc.asserted) :=
  ⟨wHeld [.perstN] [9, 10], by decide +kernel⟩

theorem witness_ResetSources_14 :
    ∃ (v : Word) (s : State), (s.live 0x001 = true ∧ s.domainHeld 3 = false) :=
  ⟨0, wLive, by decide +kernel⟩

theorem witness_ResetSources_15 :
    ∃ (n : Fin 4) (v : Word) (s : State), (s.live 0x001 = true ∧ s.domainHeld 11 = false ∧ (bits v 7 0 = 0x5A ∨ bits
      v 7 0 = 0xA5)) :=
  ⟨3, 0x1A5, { wLive with rc := { wLive.rc with smKick := some 0x5A } }, by decide +kernel⟩

theorem witness_ResetSources_16 :
    ∃ (w : Writer) (v : Word) (s : State), ((bits v 7 0 ≠ 0x5A ∧ bits v 7 0 ≠ 0xA5) ∨ w = .host ∨ w = .prompter) :=
  ⟨.host, 0x5A, wLive, by decide +kernel⟩

theorem witness_DomainRelease_1 :
    ∃ (f : ReleaseFacts) (p : Nat) (s : State), (p ∈ s.rc.held ∧ (∀ q ∈ s.rc.held, p ≤ q) ∧ s.rc.notReady = [] ∧
      s.reached p = false ∧ p ≠ 9) :=
  ⟨⟨[], [], 0, false⟩, 8, wHeld [.smReset] [11, 8, 10], by decide +kernel⟩

theorem witness_DomainRelease_2 :
    ∃ (f : ReleaseFacts) (s : State), (9 ∈ s.rc.held ∧ (∀ q ∈ s.rc.held, 9 ≤ q) ∧ 10 ∈ s.rc.held ∧ s.rc.notReady =
      [] ∧ s.reached 9 = false ∧ s.reached 10 = false) :=
  ⟨⟨[], [], 0, false⟩, wHeld [] [9, 10], by decide +kernel⟩

theorem witness_DomainRelease_3 :
    ∃ (f : ReleaseFacts) (s : State), (2 ∉ s.rc.notReady ∧ 5 ∉ s.rc.notReady) ∧ (s.rc.notReady ≠ [] ∨ s.rc.held = []
      ∨ ∃ p ∈ s.rc.held, (∀ q ∈ s.rc.held, p ≤ q) ∧ s.reached p = true) :=
  ⟨⟨[], [], 0, false⟩, wHeld [.smReset] [10, 11], by decide +kernel⟩

theorem witness_DomainRelease_4 :
    ∃ (f : ReleaseFacts) (s : State), (2 ∈ s.rc.held ∧ (∀ q ∈ s.rc.held, 2 ≤ q) ∧ s.rc.notReady = [] ∧ s.reached 2 =
      false ∧ 0 ∈ f.absent) :=
  ⟨⟨[0], [], 0, false⟩, wHeld [] [2, 3, 4, 5, 6, 7, 8, 9, 10, 11], by decide +kernel⟩

theorem witness_DomainRelease_5 :
    ∃ (f : ReleaseFacts) (s : State), (2 ∈ s.rc.notReady ∧ s.fld Reg.OPT_STATUS 5 4 = 2 ∧ 2 ∈ f.absent) :=
  ⟨⟨[2], [], 0, false⟩, { put up [(Reg.OPT_STATUS, 0x21)] with rc := { up.rc with notReady := [2] } }, by decide +kernel⟩

theorem witness_DomainRelease_6 :
    ∃ (f : ReleaseFacts) (s : State), (5 ∈ s.rc.notReady ∧ 2 ∉ s.rc.notReady ∧ s.fld Reg.UC_LOAD_STATUS 3 0 = 3) :=
  ⟨⟨[], [], 0, false⟩, { put up [(Reg.UC_LOAD_STATUS, 3)] with rc := { up.rc with notReady := [5] } }, by decide +kernel⟩

theorem witness_DomainRelease_7 :
    ∃ (f : ReleaseFacts) (s : State), (4 ∈ s.rc.held ∧ (∀ q ∈ s.rc.held, 4 ≤ q) ∧ s.rc.notReady = [] ∧ s.reached 4 =
      false) ∧ (s.fallback = false ∧ s.optN 0x20 4 = 0x200 ∧ s.optN 0x24 4 = 280) :=
  ⟨⟨[], [], 0, false⟩, put (wHeld [] [4, 5]) [(Reg.OPT_FLASH 8, 0x200), (Reg.OPT_FLASH 9, 280)], by decide +kernel⟩

theorem witness_DomainRelease_8 :
    ∃ (f : ReleaseFacts) (s : State), (6 ∈ s.rc.held ∧ (∀ q ∈ s.rc.held, 6 ≤ q) ∧ s.rc.notReady = [] ∧ s.reached 6 =
      false) ∧ (s.px = [] ∧ s.bays = [] ∧ ∀ n ∈ List.range 96, s.inReset (0x100 + n) = false) :=
  ⟨⟨[], [], 0, false⟩, put (wHeld [] [6]) [(Reg.REH_FAILED, 0x800)], by decide +kernel⟩

theorem witness_DomainRelease_9 :
    ∃ (f : ReleaseFacts) (n : Fin 4) (m : List Byte) (s : State), (7 ∈ s.rc.held ∧ (∀ q ∈ s.rc.held, 7 ≤ q) ∧
      s.rc.notReady = [] ∧ s.reached 7 = false ∧ m = s.otpBytes 0x108 6) :=
  ⟨⟨[], [], 0, false⟩, 3, [2, 0, 0, 0, 0, 0], wHeld [] [7], by decide +kernel⟩

theorem witness_DomainRelease_10 :
    ∃ (f : ReleaseFacts) (s : State), (11 ∈ s.rc.held ∧ (∀ q ∈ s.rc.held, 11 ≤ q) ∧ s.rc.notReady = [] ∧ s.reached
      11 = false) ∧ (nbit (s.optByte 8) 0 = true ∧ s.fld Reg.REH_STATUS 2 0 = 0) :=
  ⟨⟨[], [], 0, false⟩, put (wHeld [] [11]) [(Reg.OPT_FLASH 2, 1)], by decide +kernel⟩

theorem witness_BlockResets_1 :
    ∃ (w : Writer) (b : Nat) (s : State), ((resettable b).isSome = true ∧ s.live b = true ∧ s.mayAct w b = true ∧
      s.fld Reg.REH_STATUS 2 0 = 0) :=
  ⟨.stageManager 3, 0x043, put up [(blkOwner 0x043, 1), (blkCtrl 0x043, 1)], by decide +kernel⟩

theorem witness_BlockResets_2 :
    ∃ (c : Fin 256) (k : Nat) (s : State), (s.live (ctxPage c.val) = true ∧ s.fld Reg.REH_STATUS 2 0 = 0 ∧ 0x400 ≤
      offOf k ∧ pageOf k = ctxPage c.val) :=
  ⟨255, shadowOf (Reg.DEC_LOSS 255), put up [(shadowOf (Reg.DEC_LOSS 255), 9)], by decide +kernel⟩

theorem witness_BlockResets_3 :
    ∃ (w : Writer) (b : Nat) (s : State), (resettable b = none ∨ s.inReset b = true ∧ s.mayAct w b = true) :=
  ⟨.prompter, 0x043, put up [(blkStat 0x043, 4)], by decide +kernel⟩

theorem witness_BlockResets_4 :
    ∃ (w : Writer) (b : Nat) (s : State), ((resettable b).isSome = true ∧ s.live b = true ∧ s.mayAct w b = false) :=
  ⟨.host, 0x043, put up [(blkOwner 0x043, 1)], by decide +kernel⟩

theorem witness_BlockResets_5 :
    ∃ (b : Nat) (i : PageInfo) (s : State), (resettable b = some i ∧ s.pageHeld i = false ∧ s.inReset b = true ∧
      s.enabled b = false ∧ b < 0x200) :=
  ⟨0x043, ⟨0x043, 20, 3, 1, 0, 8, true, true, false, 419, 0, 1⟩, put up [(blkStat 0x043, 12)], by decide +kernel⟩

theorem witness_PromptCalls_1 :
    ∃ (n : Fin 4) (v : Word) (s : State), (s.takesCalls = true ∧ s.trust.posts = [] ∧ s.inSequence (n.val, bits v 2
      0) = true ∧ 1 ≤ leAt (s.call n.val (bits v 2 0)) 4 2 ∧ leAt (s.call n.val (bits v 2 0)) 4 2 ≤ 0xD) :=
  ⟨3, 0xF, { wCall 13 [] up with trust := { up.trust with last := [(3, some 8)] } }, by decide +kernel⟩

theorem witness_PromptCalls_2 :
    ∃ (w : Writer) (n : Fin 4) (v : Word) (s : State), (w ≠ .stageManager n) :=
  ⟨.stageManager 2, 3, 7, up, by decide +kernel⟩

theorem witness_PromptCalls_3 :
    ∃ (n : Fin 4) (k : Fin 8) (v : Word) (s : State), (s.takesCalls = true ∧ s.trust.posts = [] ∧ bits v 2 0 = k.val
      ∧ s.inSequence (n.val, k.val) = false) :=
  ⟨3, 7, 0xF, { wCall 13 [] up with trust := { up.trust with last := [(3, some 7)] } }, by decide +kernel⟩

theorem witness_PromptCalls_4 :
    ∃ (n : Fin 4) (k : Fin 8) (v : Word) (s : State), (s.takesCalls = true ∧ s.trust.posts = [] ∧ bits v 2 0 = k.val
      ∧ s.inSequence (n.val, k.val) = true ∧ 0xD < leAt (s.call n.val k.val) 4 2) :=
  ⟨3, 7, 0xF, { wCall 14 [] up with trust := { up.trust with last := [(3, some 8)] } }, by decide +kernel⟩

theorem witness_PromptCalls_5 :
    ∃ (n : Fin 4) (k : Fin 8) (a : List Byte) (i : PageInfo) (s : State), (CallNext s n.val k.val 1 a ∧ pageInfo
      (leAt a 0 2) = some i ∧ i.blockReset = true ∧ s.live i.block = true ∧ s.fld Reg.REH_STATUS 2 0 = 0) :=
  ⟨3, 7, [0x43, 0] ++ List.replicate 30 0, ⟨0x043, 20, 3, 1, 0, 8, true, true, false, 419, 0, 1⟩, wCall 1 [0x43] up, by decide +kernel⟩

theorem witness_PromptCalls_6 :
    ∃ (n : Fin 4) (k : Fin 8) (a : List Byte) (i : PageInfo) (s : State), (CallNext s n.val k.val 1 a ∧ pageInfo
      (leAt a 0 2) = some i ∧ i.blockReset = false) :=
  ⟨3, 7, [0x03, 0] ++ List.replicate 30 0, ⟨0x003, 4, 0, 1, 0, 3, false, false, false, 896, 36, 2⟩, wCall 1 [0x03] up, by decide +kernel⟩

theorem witness_PromptCalls_7 :
    ∃ (n : Fin 4) (k : Fin 8) (a : List Byte) (s : State), (CallNext s n.val k.val 2 a ∧ s.rc.held = [] ∧
      s.rc.asserted = []) :=
  ⟨3, 7, List.replicate 32 0, wCall 2 [] wUp, by decide +kernel⟩

theorem witness_PromptCalls_8 :
    ∃ (n : Fin 4) (k : Fin 8) (a : List Byte) (i : PageInfo) (s : State), (CallNext s n.val k.val 3 a ∧ pageInfo
      (leAt a 0 2) = some i ∧ i.blockReset = true ∧ s.pageHeld i = false ∧ leAt a 2 1 ≤ 3) :=
  ⟨3, 7, [0x43, 0, 3] ++ List.replicate 29 0, ⟨0x043, 20, 3, 1, 0, 8, true, true, false, 419, 0, 1⟩, wCall 3 [0x43, 0, 3] up, by decide +kernel⟩

theorem witness_PromptCalls_9 :
    ∃ (n : Fin 4) (k : Fin 8) (a : List Byte) (src : Nat) (v : Nat) (s : State), (CallNext s n.val k.val 4 a ∧ src =
      leAt a 0 2 ∧ v = leAt a 2 1 ∧ isSource src = true ∧ v ≤ 3 ∧ (v = 2 → mayContain src = true)) ∧ (s.regN
      Reg.TRUST_SEV_POLICY ≠ 1 ∧ (s.regN Reg.TRUST_SEV_POLICY = 0 → s.fld (Reg.FAULT_SEV (src / 16)) (2 * (src % 16)
      + 1) (2 * (src % 16)) ≤ v)) :=
  ⟨3, 7, [0xA2, 1, 3] ++ List.replicate 29 0, 418, 3, wCall 4 [0xA2, 1, 3] up, by decide +kernel⟩

theorem witness_PromptCalls_10 :
    ∃ (n : Fin 4) (k : Fin 8) (a : List Byte) (src : Nat) (v : Nat) (s : State), (CallNext s n.val k.val 4 a ∧ src =
      leAt a 0 2 ∧ v = leAt a 2 1 ∧ isSource src = true ∧ v ≤ 3) ∧ (s.regN Reg.TRUST_SEV_POLICY = 1 ∨ s.regN
      Reg.TRUST_SEV_POLICY = 0 ∧ v < s.fld (Reg.FAULT_SEV (src / 16)) (2 * (src % 16) + 1) (2 * (src % 16))) :=
  ⟨3, 7, [0xA2, 1, 0] ++ List.replicate 29 0, 418, 0, wCall 4 [0xA2, 1, 0] up, by decide +kernel⟩

theorem witness_PromptCalls_11 :
    ∃ (n : Fin 4) (k : Fin 8) (a : List Byte) (s : State), (CallNext s n.val k.val 5 a ∧ leAt a 0 1 ≤ 100 ∧ 1 ≤ leAt
      a 1 1 ∧ leAt a 1 1 ≤ 12) :=
  ⟨3, 7, [0x63, 12] ++ List.replicate 30 0, wCall 5 [0x63, 12] up, by decide +kernel⟩

theorem witness_PromptCalls_12 :
    ∃ (n : Fin 4) (k : Fin 8) (a : List Byte) (f : Nat) (s : State), (CallNext s n.val k.val 6 a ∧ f = leAt a 0 1 ∧
      (f = 2 ∨ f = 3) ∧ leAt a 8 8 < 2 ^ 40 ∧ leAt a 16 8 < 2 ^ 40 ∧ s.domainHeld 4 = false) :=
  ⟨3, 7, [3, 0, 0, 0, 0, 0, 0, 0, 0, 0x20, 0, 0, 7, 0, 0, 0, 0, 0x40, 0, 0, 7, 0, 0, 0, 1, 3, 0, 0] ++ List.replicate 4 0, 3, wCall 6 [3, 0, 0, 0, 0, 0, 0, 0, 0, 0x20, 0, 0, 7, 0, 0, 0, 0, 0x40, 0, 0, 7, 0, 0, 0, 1, 3] up, by decide +kernel⟩

theorem witness_PromptCalls_13 :
    ∃ (n : Fin 4) (k : Fin 8) (a : List Byte) (c : Nat) (s : State), (CallNext s n.val k.val 7 a ∧ c = leAt a 0 1 ∧
      3 ≤ c ∧ c ≤ 15 ∧ 1 ≤ leAt a 1 1 ∧ leAt a 1 1 ≤ 3 ∧ s.live 0x019 = true) :=
  ⟨3, 7, [15, 2] ++ List.replicate 30 0, 15, wCall 7 [15, 2] up, by decide +kernel⟩

theorem witness_PromptCalls_14 :
    ∃ (n : Fin 4) (k : Fin 8) (a : List Byte) (s : State), (CallNext s n.val k.val 13 a ∧ leAt a 0 1 ≤ 1) :=
  ⟨3, 7, [1] ++ List.replicate 31 0, wCall 13 [1] up, by decide +kernel⟩

theorem witness_FlashAndOtpCalls_1 :
    ∃ (n : Fin 4) (k : Fin 8) (a : List Byte) (s : State), (CallNext s n.val k.val 8 a ∧ leAt a 4 4 ≤ 0x100000 ∧
      leAt a 8 8 + leAt a 4 4 ≤ s.dramSize ∧ s.dramSize ≤ poolBase) ∧ (∀ f ∈ List.range 4, s.rbit
      (Reg.DRAM_FENCE_WRITERS f) 0 = true → s.rbit (Reg.DRAM_FENCE_WRITERS f) 8 = true) :=
  ⟨3, 7, [1, 0, 0, 0, 2, 0, 0, 0, 0, 0x20, 0, 0, 0, 0, 0, 0] ++ List.replicate 16 0, wCall 8 [1, 0, 0, 0, 2, 0, 0, 0, 0, 0x20] { up with flash := [(1, 5), (2, 6)] }, by decide +kernel⟩

theorem witness_FlashAndOtpCalls_2 :
    ∃ (n : Fin 4) (k : Fin 8) (a : List Byte) (s : State), (CallNext s n.val k.val 8 a ∧ leAt a 4 4 ≤ 0x100000 ∧
      leAt a 8 8 + leAt a 4 4 ≤ s.dramSize) :=
  ⟨3, 7, [1, 0, 0, 0, 2, 0, 0, 0, 0, 0x20, 0, 0, 0, 0, 0, 0] ++ List.replicate 16 0, wCall 8 [1, 0, 0, 0, 2, 0, 0, 0, 0, 0x20] up, by decide +kernel⟩

theorem witness_FlashAndOtpCalls_3 :
    ∃ (n : Fin 4) (k : Fin 8) (a : List Byte) (s : State), (CallNext s n.val k.val 9 a ∧ leAt a 4 4 ≤ 0x100000 ∧
      leAt a 8 8 + leAt a 4 4 ≤ s.dramSize ∧ leAt a 0 4 + leAt a 4 4 ≤ 0x1000) :=
  ⟨3, 7, [0xFE, 0x0F, 0, 0, 2, 0, 0, 0, 0, 0x20, 0, 0, 0, 0, 0, 0] ++ List.replicate 16 0, wCall 9 [0xFE, 0x0F, 0, 0, 2, 0, 0, 0, 0, 0x20] (up.memWrite 0x2000 [7, 8]), by decide +kernel⟩

theorem witness_FlashAndOtpCalls_4 :
    ∃ (n : Fin 4) (k : Fin 8) (a : List Byte) (s : State), (CallNext s n.val k.val 9 a ∧ leAt a 4 4 ≤ 0x100000 ∧
      leAt a 8 8 + leAt a 4 4 ≤ s.dramSize ∧ 0 < leAt a 4 4) ∧ (0x1000 ≤ leAt a 0 4 ∧ ∀ i ∈ List.range 5, leAt a 0 4
      < (s.slot i).1 ∨ (s.slot i).1 + (s.slot i).2 ≤ leAt a 0 4) :=
  ⟨3, 7, [0, 0, 0, 2, 2, 0, 0, 0, 0, 0x20, 0, 0, 0, 0, 0, 0] ++ List.replicate 16 0, wCall 9 [0, 0, 0, 2, 2, 0, 0, 0, 0, 0x20] up, by decide +kernel⟩

theorem witness_FlashAndOtpCalls_5 :
    ∃ (n : Fin 4) (k : Fin 8) (a : List Byte) (p : Nat) (s : State), (CallNext s n.val k.val 10 a ∧ (leAt a 0 1 = 8
      ∨ leAt a 0 1 = 9) ∧ p = leAt a 0 1 - 4 ∧ leAt a 8 8 + 48 ≤ s.dramSize ∧ s.enrolled p = false ∧ s.rbit
      Reg.TRUST_STATUS 0 = true) :=
  ⟨3, 7, [9, 0, 0, 0, 0, 0, 0, 0, 0, 0x20, 0, 0, 0, 0, 0, 0] ++ List.replicate 16 0, 5, wCall 10 [9, 0, 0, 0, 0, 0, 0, 0, 0, 0x20] ((put up [(Reg.TRUST_STATUS, 1)]).memWrite 0x202F [7]), by decide +kernel⟩

theorem witness_FlashAndOtpCalls_6 :
    ∃ (n : Fin 4) (k : Fin 8) (a : List Byte) (p : Nat) (i : Nat) (g : Byte) (s : State), (CallNext s n.val k.val 10
      a ∧ (leAt a 0 1 = 8 ∨ leAt a 0 1 = 9) ∧ p = leAt a 0 1 - 4 ∧ leAt a 8 8 + 48 ≤ s.dramSize ∧ s.enrolled p =
      false ∧ s.rbit Reg.TRUST_STATUS 0 = true ∧ i < 48) :=
  ⟨3, 7, [9, 0, 0, 0, 0, 0, 0, 0, 0, 0x20, 0, 0, 0, 0, 0, 0] ++ List.replicate 16 0, 5, 47, 3, wCall 10 [9, 0, 0, 0, 0, 0, 0, 0, 0, 0x20] ((put up [(Reg.TRUST_STATUS, 1)]).memWrite 0x202E [7, 7]), by decide +kernel⟩

theorem witness_FlashAndOtpCalls_7 :
    ∃ (n : Fin 4) (k : Fin 8) (a : List Byte) (s : State), (CallNext s n.val k.val 10 a ∧ (leAt a 0 1 = 8 ∨ leAt a 0
      1 = 9) ∧ leAt a 8 8 + 48 ≤ s.dramSize ∧ (s.enrolled (leAt a 0 1 - 4) = true ∨ s.rbit Reg.TRUST_STATUS 0 =
      false)) :=
  ⟨3, 7, [9, 0, 0, 0, 0, 0, 0, 0, 0, 0x20, 0, 0, 0, 0, 0, 0] ++ List.replicate 16 0, wCall 10 [9, 0, 0, 0, 0, 0, 0, 0, 0, 0x20] up, by decide +kernel⟩

theorem witness_FlashAndOtpCalls_8 :
    ∃ (n : Fin 4) (k : Fin 8) (a : List Byte) (p : Nat) (s : State), (CallNext s n.val k.val 11 a ∧ keyPos (leAt a 0
      1) = some p) :=
  ⟨3, 7, [9] ++ List.replicate 31 0, 5, wCall 11 [9] { up with otp := [(0x2F0, 1)] }, by decide +kernel⟩

theorem witness_FlashAndOtpCalls_9 :
    ∃ (n : Fin 4) (k : Fin 8) (a : List Byte) (q : Nat) (m : Nat) (s : State), (CallNext s n.val k.val 12 a ∧ q =
      leAt a 0 1 ∧ m = leAt a 1 1 ∧ q ≤ 3 ∧ m ≤ 64) :=
  ⟨3, 7, [3, 64] ++ List.replicate 30 0, 3, 64, wCall 12 [3, 64] { up with otp := [(0x315, 5)] }, by decide +kernel⟩

theorem witness_FaultCollector_1 :
    ∃ (m : FaultMsg) (q : Nat) (s : State), (s.live 0x005 = true ∧ s.fc.lost = [] ∧ s.nextMsg = some m ∧
      s.suppressed m.source = false ∧ m.severity = 0 ∧ q = s.regN Reg.FAULT_TAKEN) ∧ (m.kind ≠ FaultKind.REQ_ABORTED
      ∧ m.kind ≠ FaultKind.PEER_UNAVAILABLE ∧ m.escalated = false ∧ m.kind < 64) :=
  ⟨wFault 3 36 0, 33, wFaults [{ wFault 3 36 0 with time := 5 }, wFault 3 36 0] (put up [(Reg.FAULT_TAKEN, 33)]), by decide +kernel⟩

theorem witness_FaultCollector_2 :
    ∃ (m : FaultMsg) (q : Nat) (s : State), (s.live 0x005 = true ∧ s.fc.lost = [] ∧ s.nextMsg = some m ∧
      s.suppressed m.source = false ∧ m.severity = 3 ∧ q = s.regN Reg.FAULT_TAKEN) ∧ (m.kind ≠ FaultKind.REQ_ABORTED
      ∧ m.kind ≠ FaultKind.PEER_UNAVAILABLE ∧ m.escalated = false ∧ m.kind < 64 ∧ s.rbit Reg.FAULT_STATUS 0 = false) :=
  ⟨wFault 929 58 3, 2 ^ 32 - 1, wFaults [wFault 929 58 3] (put up [(Reg.FAULT_TAKEN, 2 ^ 32 - 1), (Reg.FAULT_STATUS, 8)]), by decide +kernel⟩

theorem witness_FaultCollector_3 :
    ∃ (m : FaultMsg) (b : Nat) (s : State), (s.live 0x005 = true ∧ s.fc.lost = [] ∧ s.nextMsg = some m ∧
      s.suppressed m.source = false ∧ m.severity = 2 ∧ s.escalates m.source = false) ∧ (m.kind ≠
      FaultKind.REQ_ABORTED ∧ m.kind ≠ FaultKind.PEER_UNAVAILABLE ∧ m.escalated = false ∧ sourceBlock m.source =
      some b ∧ (resettable b).isSome = true ∧ s.live b = true ∧ s.fld Reg.REH_STATUS 2 0 = 0) :=
  ⟨wFault 257 63 2, 0x101, wFaults [wFault 257 63 2] up, by decide +kernel⟩

theorem witness_FaultCollector_4 :
    ∃ (m : FaultMsg) (b : Nat) (s : State), (s.live 0x005 = true ∧ s.fc.lost = [] ∧ s.nextMsg = some m ∧
      s.suppressed m.source = false ∧ m.severity = 2 ∧ s.escalates m.source = true) ∧ (m.kind ≠
      FaultKind.REQ_ABORTED ∧ m.kind ≠ FaultKind.PEER_UNAVAILABLE ∧ sourceBlock m.source = some b ∧ (resettable
      b).isSome = true ∧ s.live b = true ∧ s.fld Reg.REH_STATUS 2 0 = 0) :=
  ⟨wFault 257 63 2, 0x101, { wFaults [wFault 257 63 2] up with fc := { up.fc with inputs := [wFault 257 63 2], containStart := [(0x101, some 0)] } }, by decide +kernel⟩

theorem witness_FaultCollector_5 :
    ∃ (m : FaultMsg) (s : State), (s.live 0x005 = true ∧ s.fc.lost = [] ∧ s.nextMsg = some m ∧ s.suppressed m.source
      = true) :=
  ⟨wFault 257 63 2, wFaults [wFault 257 63 2] (put up [(blkStat 0x101, 4)]), by decide +kernel⟩

theorem witness_FaultCollector_6 :
    ∃ (m : FaultMsg) (q : Nat) (s : State), (s.live 0x005 = true ∧ s.fc.lost = [] ∧ s.nextMsg = some m ∧
      s.suppressed m.source = false ∧ m.kind = FaultKind.REQ_ABORTED ∧ s.otherWindow m = true ∧ m.escalated = false
      ∧ q = s.regN Reg.FAULT_TAKEN) :=
  ⟨wFault 929 2 3, 31, { wFaults [wFault 929 2 3] (put up [(Reg.FAULT_TAKEN, 31)]) with fc := { up.fc with inputs := [wFault 929 2 3], windows := [(0x101, some 3)] } }, by decide +kernel⟩

theorem witness_FaultCollector_7 :
    ∃ (s : State), (s.live 0x005 = true ∧ s.fc.lost = [] ∧ s.fc.inputs = []) :=
  ⟨up, by decide +kernel⟩

theorem witness_FaultCollector_8 :
    ∃ (w : Writer) (page : Nat) (src : Nat) (v : Word) (i : PageInfo) (s : State), (s.live page = true ∧ pageInfo
      page = some i ∧ i.index = 0 ∧ bits v 21 16 < i.srcCount ∧ src = i.srcFirst + bits v 21 16 * i.srcStep ∧
      s.mayAct w page = true) ∧ (bit v 8 = true ∧ bits v 5 0 ≠ 0 ∧ isSource src = true ∧ s.suppressed src = false ∧
      (s.fc.inputs.filter (fun x => x.source == src)).length < 2) :=
  ⟨.prompter, 0x003, 932, 0x1013F, ⟨0x003, 4, 0, 1, 0, 3, false, false, false, 896, 36, 2⟩, up, by decide +kernel⟩

theorem witness_FaultCollector_9 :
    ∃ (w : Writer) (page : Nat) (v : Word) (i : PageInfo) (s : State), (pageInfo page = some i ∧ s.pageHeld i =
      false ∧ i.index = 0 ∧ i.srcCount ≠ 0 ∧ s.mayAct w page = false) :=
  ⟨.host, 0x003, 0x13F, ⟨0x003, 4, 0, 1, 0, 3, false, false, false, 896, 36, 2⟩, up, by decide +kernel⟩

theorem witness_FaultCollector_10 :
    ∃ (s : State), (s.live 0x005 = true) :=
  ⟨put up [(Reg.FAULT_STATUS, 0x30), (Reg.FAULT_FIRST 7, 3)], by decide +kernel⟩

theorem witness_FaultCollector_11 :
    ∃ (s : State), (s.live 0x005 = true) :=
  ⟨put up [(Reg.FAULT_STATUS, 0x30), (Reg.FAULT_STOP 7, 3)], by decide +kernel⟩

theorem witness_FaultCollector_12 :
    ∃ (s : State), (s.live 0x005 = true) :=
  ⟨put up [(Reg.FAULT_STATUS, 2)], by decide +kernel⟩

theorem witness_FaultCollector_13 :
    ∃ (v : Word) (s : State), (s.live 0x005 = true) :=
  ⟨5, up, by decide +kernel⟩

theorem witness_FaultCollector_14 :
    ∃ (s : State), (s.live 0x005 = true ∧ s.rbit Reg.FAULT_STATUS 1 = true) :=
  ⟨put up [(Reg.FAULT_STATUS, 0xE)], by decide +kernel⟩

theorem witness_RehearsalAndMargin_1 :
    ∃ (w : Writer) (b : Fin 16) (s : State), (s.live 0x006 = true ∧ asksRehearsal w = true ∧ s.fld Reg.REH_STATUS 2
      0 = 0 ∧ b.val ≤ 11) :=
  ⟨.host, 11, up, by decide +kernel⟩

theorem witness_RehearsalAndMargin_2 :
    ∃ (w : Writer) (b : Fin 16) (s : State), (s.live 0x006 = true ∧ asksRehearsal w = true ∧ (s.fld Reg.REH_STATUS 2
      0 ≠ 0 ∨ 11 < b.val)) :=
  ⟨.prompter, 12, up, by decide +kernel⟩

theorem witness_RehearsalAndMargin_3 :
    ∃ (w : Writer) (s : State), (s.live 0x006 = true ∧ asksRehearsal w = true ∧ s.fld Reg.REH_STATUS 2 0 = 0 ∧
      s.anyEnabled = true) :=
  ⟨.prompter, put up [(Reg.DMA_CTRL 31, 1)], by decide +kernel⟩

theorem witness_RehearsalAndMargin_4 :
    ∃ (w : Writer) (s : State), (s.live 0x006 = true ∧ asksRehearsal w = true ∧ s.fld Reg.REH_STATUS 2 0 = 0 ∧
      s.anyEnabled = false ∧ s.rc.held = [] ∧ s.rc.asserted = []) :=
  ⟨.stageManager 2, wUp, by decide +kernel⟩

theorem witness_RehearsalAndMargin_5 :
    ∃ (v : Word) (s : State), (s.live 0x006 = true ∧ bits v 1 0 = 1 ∧ bits v 11 8 ≤ 11 ∧ s.fld Reg.REH_STATUS 2 0 =
      0 ∧ s.bayInService (bits v 11 8) = true) :=
  ⟨0xB01, put up [(Reg.BAY_STATUS 11, 0x100FF)], by decide +kernel⟩

theorem witness_RehearsalAndMargin_6 :
    ∃ (b : Nat) (s : State), (s.live 0x006 = true ∧ s.fld Reg.REH_STATUS 2 0 = 2 ∧ b = s.fld Reg.REH_STATUS 11 8 ∧
      (s.bay b).jobs = []) :=
  ⟨11, put up [(Reg.REH_STATUS, 0xB02)], by decide +kernel⟩

theorem witness_RehearsalAndMargin_7 :
    ∃ (sigs : List Nat) (b : Nat) (s : State), (s.live 0x006 = true ∧ s.fld Reg.REH_STATUS 2 0 = 3 ∧ b = s.fld
      Reg.REH_STATUS 11 8 ∧ b ≤ 11 ∧ s.expectedSig b = sigs.getD b 0 % 2 ^ 64) ∧ (s.copyGood 0 = true ∧ s.copyGood 1
      = true) ∧ ((s.bay b).stuck = false ∧ s.inReset (0x080 + b) = false ∧ ∃ n ∈ enginesOf b, (s.pxEng n).stuck =
      false ∧ s.inReset (0x100 + n) = false) :=
  ⟨[0, 0, 0, 0, 0, 0, 0, 0, 0, 0, 0, 5], 11, wCrcs wTest (wCrc 0) (wCrc 1), have h := wTest_state (wCrc 0) (wCrc 1); ⟨⟨h.1, h.2.1, h.2.2.1, by decide, h.2.2.2.1⟩, ⟨wTest_good0, wTest_good1⟩, h.2.2.2.2⟩⟩

theorem witness_RehearsalAndMargin_8 :
    ∃ (sigs : List Nat) (b : Nat) (s : State), (s.live 0x006 = true ∧ s.fld Reg.REH_STATUS 2 0 = 3 ∧ b = s.fld
      Reg.REH_STATUS 11 8 ∧ b ≤ 11 ∧ s.expectedSig b ≠ sigs.getD b 0 % 2 ^ 64) ∧ (s.copyGood 0 = true ∧ s.copyGood 1
      = true) ∧ ((s.bay b).stuck = false ∧ s.inReset (0x080 + b) = false ∧ ∃ n ∈ enginesOf b, (s.pxEng n).stuck =
      false ∧ s.inReset (0x100 + n) = false) :=
  ⟨[], 11, wCrcs wTest (wCrc 0) (wCrc 1), have h := wTest_state (wCrc 0) (wCrc 1); ⟨⟨h.1, h.2.1, h.2.2.1, by decide, by rw [h.2.2.2.1]; decide⟩, ⟨wTest_good0, wTest_good1⟩, h.2.2.2.2⟩⟩

theorem witness_RehearsalAndMargin_9 :
    ∃ (sigs : List Nat) (s : State), (s.live 0x006 = true ∧ s.fld Reg.REH_STATUS 2 0 = 4) :=
  ⟨[5, 5, 5, 5, 5, 5, 5, 5, 5, 5, 5, 4], { put up [(Reg.REH_STATUS, 4)] with otp := [(0x388, 5)], rc := { up.rc with asserted := [.rehearsal], held := [5, 6, 11] } }, by decide +kernel⟩

theorem witness_RehearsalAndMargin_10 :
    ∃ (v : BitVec 10) (s : State), (s.marginLive = true ∧ v.toNat ≤ s.setpoint + 10 ∧ s.setpoint ≤ v.toNat + 10) :=
  ⟨740, put up [(Reg.MARGIN_VDD, 750), (Reg.MARGIN_STATUS, 4)], by decide +kernel⟩

theorem witness_RehearsalAndMargin_11 :
    ∃ (v : BitVec 10) (s : State), (s.marginLive = true ∧ s.setpoint + 10 < v.toNat ∧ s.rbit Reg.MARGIN_STATUS 2 =
      false ∧ s.margin.avsTries < 3) :=
  ⟨761, put up [(Reg.MARGIN_VDD, 750)], by decide +kernel⟩

theorem witness_RehearsalAndMargin_12 :
    ∃ (s : State), (s.marginLive = true ∧ s.rbit Reg.MARGIN_STATUS 2 = false ∧ 3 ≤ s.margin.avsTries) :=
  ⟨{ put up [(Reg.MARGIN_VDD, 750)] with margin := { up.margin with avsTries := 3 } }, by decide +kernel⟩

theorem witness_RehearsalAndMargin_13 :
    ∃ (s : State), (s.marginLive = true) :=
  ⟨put up [(Reg.MARGIN_VDD, 750), (Reg.MARGIN_STATUS, 4)], by decide +kernel⟩

theorem witness_RehearsalAndMargin_14 :
    ∃ (i : Instr) (q : Nat) (a : Nat) (s : State), (i = .journalWeekEnd true ∨ i = .journalRetry true) ∧
      (s.marginLive = true ∧ s.journalSize ≠ 0 ∧ (s.journalNewest = none ∧ q = 0 ∨ ∃ b ∈ s.journalNewest, q = (leAt
      b 4 4 + 1) % 2 ^ 32) ∧ a = (s.slot 5).1 + 256 * (q % s.journalSize)) :=
  ⟨.journalRetry true, 0, 0x1110000, put up [(Reg.OPT_FLASH 26, 0x1110000), (Reg.OPT_FLASH 27, 0x200)], by decide +kernel⟩

theorem witness_RehearsalAndMargin_15 :
    ∃ (i : Instr) (s : State), (i = .journalWeekEnd false ∨ i = .journalRetry false) ∧ (s.marginLive = true) :=
  ⟨.journalWeekEnd false, put up [(Reg.OPT_FLASH 26, 0x1110000), (Reg.OPT_FLASH 27, 0x200)], by decide +kernel⟩

theorem witness_PairLink_1 :
    ∃ (lane : Bool) (s : State), (s.pairOn = true ∧ s.linkState = 0 ∧ s.fld Reg.PAIR_STATUS 9 8 = 0) :=
  ⟨true, wPair 0 4 [(Reg.PAIR_STATUS, 0)], by decide +kernel⟩

theorem witness_PairLink_2 :
    ∃ (s : State), (s.pairOn = true ∧ s.linkState ≠ 2 ∧ s.fld Reg.PAIR_STATUS 9 8 = 3) :=
  ⟨wHellos 1 1 1, by decide +kernel⟩

theorem witness_PairLink_3 :
    ∃ (b : List Byte) (h : PairHello) (tm : Nat) (s : State), (s.pairOn = true ∧ (s.linkState = 1 ∨ s.linkState = 3
      ∨ s.linkState = 4) ∧ s.frameSound b = true ∧ beAt b 1 1 = 1 ∧ h = readPairHello b ∧ h.verMin ≤ 1 ∧ 1 ≤
      h.verMax ∧ nbit h.flags 1 = false ∧ s.pairRole ≠ 1) :=
  ⟨wPairHello 1 6 1 0 0, ⟨1, 1, 6, 1, 0, 0, 0⟩, 57, wHellos 1 1 0, by decide +kernel⟩

theorem witness_PairLink_4 :
    ∃ (b : List Byte) (h : PairHello) (tm : Nat) (s : State), (s.pairOn = true ∧ (s.linkState = 1 ∨ s.linkState = 3
      ∨ s.linkState = 4) ∧ s.frameSound b = true ∧ beAt b 1 1 = 1 ∧ h = readPairHello b ∧ h.verMin ≤ 1 ∧ 1 ≤
      h.verMax ∧ s.pairRole = 1) :=
  ⟨wPairHello 1 6 1 1 9, ⟨1, 1, 6, 1, 1, 0, 9⟩, 57, wHellos 3 1 1, by decide +kernel⟩

theorem witness_PairLink_5 :
    ∃ (b : List Byte) (tm : Nat) (s : State), (s.pairOn = true ∧ (s.linkState = 1 ∨ s.linkState = 3 ∨ s.linkState =
      4) ∧ s.frameSound b = true ∧ beAt b 1 1 = 1 ∧ 1 < beAt b 16 2 ∧ nbit (beAt b 30 1) 1 = false) :=
  ⟨wPairHello 2 6 1 0 0, 57, wHellos 1 1 0, by decide +kernel⟩

theorem witness_PairLink_6 :
    ∃ (s : State), (s.linkOpen = true ∧ s.rbit Reg.FAULT_STATUS 1 = true ∧ s.encCtxs = []) :=
  ⟨put (wPair 1 0 []) [(blkCtrl (ctxPage 5), 0), (Reg.FAULT_STATUS, 2)], by decide +kernel⟩

theorem witness_PairLink_7 :
    ∃ (b : List Byte) (o : Int) (tm : Nat) (s : State), (FrameIn s 2 b ∧ s.linkState = 2 ∧ beAt b 18 1 = 0 ∧
      s.pair.resetSent = none ∧ o = (((beAt b 28 8 : Nat) : Int) - (beAt b 20 8 : Nat) - ((tm : Int) - (beAt b 8 8 :
      Nat))).fdiv 2 ∧ o.natAbs ≤ s.regN Reg.PAIR_TIME_LIMIT ∧ o.natAbs < 2 ^ 31) :=
  ⟨wPairF 2 ([4, 2, 0, 0] ++ beBytes 8 40 ++ beBytes 8 30), -9, 57, { wPair 1 0 [] with tb := { TimeBase.init with ns := 60 } }, by decide +kernel⟩

theorem witness_PairLink_8 :
    ∃ (b : List Byte) (c : Nat) (tm : Nat) (s : State), (FrameIn s 2 b ∧ s.linkState = 2 ∧ beAt b 18 1 = 1 ∧ c =
      beAt b 36 1 ∧ s.pairRole = 2 ∧ (s.pairCtx c).switched = false) :=
  ⟨wPairF 2 ([4, 2, 1, 0] ++ beBytes 16 0 ++ [5, 0, 1, 2]), 5, 57, wPair 2 0 [], by decide +kernel⟩

theorem witness_PairLink_9 :
    ∃ (i : Instr) (b : List Byte) (typ : Nat) (tm : Nat) (s : State), (i = .pairHeartbeatRx b tm ∧ typ = 2 ∨ i =
      .xcheckRx b tm ∧ typ = 3 ∨ i = .pictureRx b tm ∧ typ = 4 ∨ i = .digestRx b tm ∧ typ = 5 ∨ i = .sessionFrameRx
      b tm ∧ typ = 6 ∨ i = .stateRx b tm ∧ typ = 8) ∧ (s.pairOn = true ∧ beAt b 1 1 = typ ∧ (s.frameSound b = false
      ∨ 2 ≤ s.linkState ∧ later32 s.pair.rxNext (beAt b 4 4) = true)) :=
  ⟨.stateRx [1, 8] 57, [1, 8], 8, 57, wPair 2 0 [], by decide +kernel⟩

theorem witness_PairLink_10 :
    ∃ (b : List Byte) (tm : Nat) (s : State), (s.pairOn = true ∧ 2 ≤ s.linkState ∧ s.frameSound b = true ∧ beAt b 1
      1 = 6 ∧ later32 (beAt b 4 4) s.pair.rxNext = true ∧ s.pair.waiting = []) :=
  ⟨linkFrame 1 6 11 50 (List.replicate 44 0), 57, wPair 2 0 [], by decide +kernel⟩

theorem witness_PairLink_11 :
    ∃ (q : Nat) (b : List Byte) (t : Nat) (s : State), (s.live 0x060 = true ∧ s.pair.waiting = [(q, b, t)] ∧ q < 2 ^
      32 ∧ s.pair.rxNext < 2 ^ 32) :=
  ⟨11, linkFrame 1 6 11 50 (List.replicate 44 0), 3, { wPair 2 0 [] with pair := { PairCtl.init with rxNext := 9, waiting := [(11, linkFrame 1 6 11 50 (List.replicate 44 0), 3)] } }, by decide +kernel⟩

theorem witness_PairLink_12 :
    ∃ (lane : Bool) (s : State), (s.pairOn = true ∧ s.fld Reg.PAIR_STATUS 9 8 = 3) :=
  ⟨true, wPair 2 0 [], by decide +kernel⟩

theorem witness_PairLink_13 :
    ∃ (s : State), (s.live 0x060 = true) :=
  ⟨wPair 2 0 [], by decide +kernel⟩

theorem witness_PairLink_14 :
    ∃ (s : State), (s.linkOpen = true ∧ (s.pairRole ≠ 2 ∨ s.peerStopped = false)) :=
  ⟨wPair 2 0x20 [], by decide +kernel⟩

theorem witness_PairLink_15 :
    ∃ (s : State), (s.pairOn = true ∧ s.linkState = 3) :=
  ⟨wHellos 3 1 1, by decide +kernel⟩

theorem witness_PairLink_16 :
    ∃ (s : State), (s.pairOn = true ∧ s.linkState = 4 ∧ s.pairRole = 1) :=
  ⟨put (wHellos 3 1 1) [(Reg.PAIR_STATUS, 0x34C)], by decide +kernel⟩

theorem witness_PairLink_17 :
    ∃ (i : Instr) (s : State), (i = .takeover ∧ s.linkState = 3 ∧ s.peerStopped = true ∨ i = .heartbeatLoss ∧
      s.linkState = 2 ∧ s.peerStopped = true ∨ i = .peerGltSilent ∧ (s.linkState = 3 ∨ s.linkState = 4) ∧
      s.peerStopped = false) ∧ (s.pairOn = true ∧ s.pairRole = 2 ∧ s.rbit Reg.PAIR_CTRL 5 = true ∧ s.rbit
      Reg.FAULT_STATUS 0 = false) :=
  ⟨.peerGltSilent, put (wPair 2 0x20 []) [(Reg.PAIR_STATUS, 0x354)], by decide +kernel⟩

theorem witness_PairLink_18 :
    ∃ (i : Instr) (s : State), (i = .takeover ∨ i = .heartbeatLoss) ∧ (s.pairOn = true ∧ s.linkState = 3 ∧
      (s.pairRole ≠ 2 ∨ s.rbit Reg.PAIR_CTRL 5 = false ∨ s.rbit Reg.FAULT_STATUS 0 = true)) :=
  ⟨.takeover, put (wPair 1 0x20 []) [(Reg.PAIR_STATUS, 0x34B)], by decide +kernel⟩

theorem witness_PairWork_1 :
    ∃ (b : List Byte) (c : Nat) (tm : Nat) (s : State), (FrameIn s 4 b ∧ s.pairRole = 2 ∧ c = beAt b 16 1 ∧
      s.ctxEnabled c = true ∧ s.isEncode c = true ∧ (s.pairCtx c).resync = false) ∧ ((s.pairCtx c).pics.length + 1 <
      s.fld Reg.PAIR_CTRL 19 16) :=
  ⟨wPairF 4 [5, 1, 0, 0], 5, 57, wPair 2 0 [], by decide +kernel⟩

theorem witness_PairWork_2 :
    ∃ (b : List Byte) (c : Nat) (tm : Nat) (s : State), (FrameIn s 4 b ∧ s.linkState = 2 ∧ s.pairRole = 2 ∧ c = beAt
      b 16 1 ∧ s.ctxEnabled c = true ∧ s.isEncode c = true ∧ (s.pairCtx c).resync = false ∧ s.diverged c = false) ∧
      (s.fld Reg.PAIR_CTRL 19 16 ≤ (s.pairCtx c).pics.length + 1) :=
  ⟨wPairF 4 [5, 1, 0, 0], 5, 57, { wPair 2 0 [(Reg.PAIR_CTRL, 0x427801)] with pair := { PairCtl.init with txSeq := 4, rxNext := 9, ctxs := [(5, { PairCtx.init with pics := [⟨1, 0, 0, 2, 3, [], [], []⟩] })] } }, by decide +kernel⟩

theorem witness_PairWork_3 :
    ∃ (b : List Byte) (c : Nat) (d : PairDigest) (e : PairDigest) (tm : Nat) (s : State), (FrameIn s 5 b ∧
      s.linkState = 2 ∧ s.pairRole = 2 ∧ c = beAt b 16 1 ∧ s.pairCtx c = { PairCtx.init with mine := [d] } ∧ e =
      ⟨beAt b 20 4, beAt b 24 2, beAt b 26 2, beAt b 28 4, beAt b 32 4⟩ ∧ d.ts = e.ts) :=
  ⟨wPairF 5 ([5, 0, 0, 0] ++ beBytes 4 90 ++ beBytes 2 1 ++ beBytes 2 2 ++ beBytes 4 300 ++ beBytes 4 77), 5, ⟨90, 1, 2, 300, 76⟩, ⟨90, 1, 2, 300, 77⟩, 57, { wPair 2 0 [] with pair := { PairCtl.init with txSeq := 4, rxNext := 9, ctxs := [(5, { PairCtx.init with mine := [⟨90, 1, 2, 300, 76⟩] })] } }, by decide +kernel⟩

theorem witness_PairWork_4 :
    ∃ (b : List Byte) (l : XEntry) (p : XEntry) (tm : Nat) (s : State), (FrameIn s 3 b ∧ readXcheck b tm = [p] ∧
      s.pair.mine = [l] ∧ s.pair.theirs = [] ∧ l.same p = true ∧ l.outcome ∉ [1, 3, 6] ∧ p.outcome ∉ [1, 3, 6] ∧
      (s.pairRole ≠ 1 ∨ s.rbit Reg.PAIR_CTRL 4 = false)) :=
  ⟨wPairF 3 ([3, 1, 0, 0] ++ beBytes 4 90 ++ beBytes 2 7 ++ [0, 0] ++ beBytes 4 11 ++ beBytes 4 11 ++ beBytes 8 60), ⟨3, 90, 7, 0, 12, 11, 60, 2⟩, ⟨3, 90, 7, 0, 11, 11, 60, 57⟩, 57, { wPair 2 0 [] with pair := { PairCtl.init with txSeq := 4, rxNext := 9, mine := [⟨3, 90, 7, 0, 12, 11, 60, 2⟩] } }, by decide +kernel⟩

theorem witness_PairWork_5 :
    ∃ (s : State), (s.live 0x060 = true) :=
  ⟨{ put (wPair 2 0 []) [(Reg.PAIR_XCHECK_WAIT, 10)] with pair := { PairCtl.init with mine := [⟨3, 90, 7, 0, 12, 11, 60, 2⟩] }, tb := { TimeBase.init with ns := 10000002 } }, by decide +kernel⟩

theorem witness_PairWork_6 :
    ∃ (b : List Byte) (tm : Nat) (s : State), (FrameIn s 6 b ∧ s.pairRole = 2) :=
  ⟨wPairF 6 ([5, 1, 0, 0] ++ List.replicate 40 1), 57, wPair 2 0 [], by decide +kernel⟩

theorem witness_PairWork_7 :
    ∃ (c : Nat) (e : EncSession) (s : State), (s.linkOpen = true ∧ s.pairRole = 1 ∧ s.encCtxs = [c] ∧ (s.ctx c).encs
      = [e]) :=
  ⟨5, wSess, (wPair 1 0 []).modCtx 5 fun x => { x with encs := [wSess] }, by decide +kernel⟩

theorem witness_PairWork_8 :
    ∃ (b : List Byte) (c : Nat) (tm : Nat) (s : State), (FrameIn s 8 b ∧ s.pairRole = 2 ∧ c = beAt b 16 1 ∧
      s.pairCtx c = { PairCtx.init with resync := true } ∧ beAt b 18 2 + b.length < 3488) :=
  ⟨wPairF 8 ([5, 0] ++ beBytes 2 1024 ++ beBytes 2 3488 ++ [0, 0, 7, 8]), 5, 57, { wPair 2 0 [] with pair := { PairCtl.init with txSeq := 4, rxNext := 9, ctxs := [(5, { PairCtx.init with resync := true })] } }, by decide +kernel⟩

theorem witness_PairWork_9 :
    ∃ (b : List Byte) (c : Nat) (tm : Nat) (s : State), (CommandIn s 5 b ∧ s.linkState = 2 ∧ s.pairRole = 1 ∧ c =
      beAt b 17 1 ∧ s.ctxEnabled c = true ∧ s.isEncode c = true ∧ (s.ctx c).pic = none) :=
  ⟨wPairF 7 ([5, 5] ++ List.replicate 10 0), 5, 57, wPair 1 0 [], by decide +kernel⟩

theorem witness_PairWork_10 :
    ∃ (s : State), (s.live 0x060 = true ∧ (s.linkOpen = false ∨ s.rbit Reg.PAIR_CMD_STATUS 0 = true)) :=
  ⟨wPair 1 0 [(Reg.PAIR_CMD_STATUS, 1)], by decide +kernel⟩

theorem witness_PairWork_11 :
    ∃ (s : State), (s.linkOpen = true ∧ s.rbit Reg.PAIR_CMD_STATUS 0 = false ∧ s.pairRole = 1 ∧ ∀ k ∈ List.range 8,
      s.regN (Reg.PAIR_DIVERGED k) = 0) :=
  ⟨wPair 1 0 [], by decide +kernel⟩

theorem witness_PairWork_12 :
    ∃ (b : List Byte) (tm : Nat) (s : State), (CommandIn s 1 b ∧ s.linkState = 2 ∧ s.pairRole = 2 ∧ s.pair.swTime =
      none ∧ s.now < beAt b 20 8 ∧ ∀ k ∈ List.range 8, s.regN (Reg.PAIR_DIVERGED k) = 0) :=
  ⟨wPairF 7 ([1, 0, 0, 0] ++ beBytes 8 60), 57, wPair 2 0 [], by decide +kernel⟩

theorem witness_PairWork_13 :
    ∃ (b : List Byte) (tm : Nat) (s : State), (CommandIn s 1 b ∧ s.linkState = 2 ∧ s.pairRole = 2 ∧
      (s.pair.swTime.isSome = true ∨ ∃ k ∈ List.range 8, s.regN (Reg.PAIR_DIVERGED k) ≠ 0)) :=
  ⟨wPairF 7 ([1, 0, 0, 0] ++ beBytes 8 60), 57, wPair 2 0 [(Reg.PAIR_DIVERGED 7, 1)], by decide +kernel⟩

theorem witness_PairWork_14 :
    ∃ (b : List Byte) (x : Nat) (tm : Nat) (s : State), (CommandIn s 2 b ∧ s.pair.swTime = some x ∧ s.now < x) :=
  ⟨wPairF 7 ([2, 0, 0, 0] ++ beBytes 8 60), 60, 57, { wPair 1 0 [] with pair := { PairCtl.init with rxNext := 9, swTime := some 60 } }, by decide +kernel⟩

theorem witness_PairWork_15 :
    ∃ (b : List Byte) (tm : Nat) (s : State), (CommandIn s 3 b) :=
  ⟨wPairF 7 ([3, 0, 0, 4] ++ beBytes 8 60), 57, wPair 1 0 [], by decide +kernel⟩

theorem witness_PairWork_16 :
    ∃ (s : State), (s.linkOpen = true) :=
  ⟨wPair 1 0 [], by decide +kernel⟩

theorem witness_PairWork_17 :
    ∃ (b : List Byte) (tm : Nat) (s : State), (CommandIn s 4 b ∧ (s.pair.resetSent = none ∨ s.pairRole = 2) ∧ s.rbit
      Reg.RESET_PAIR 0 = false) :=
  ⟨wPairF 7 ([4, 0, 0, 0] ++ beBytes 8 0), 57, wPair 1 0 [], by decide +kernel⟩

theorem witness_PairWork_18 :
    ∃ (b : List Byte) (tm : Nat) (s : State), (CommandIn s 4 b ∧ s.pair.resetSent = none ∧ s.rbit Reg.RESET_PAIR 0 =
      true ∧ s.rc.held = [] ∧ s.rc.asserted = []) :=
  ⟨wPairF 7 ([4, 0, 0, 0] ++ beBytes 8 0), 57, { wPair 1 0 [(Reg.RESET_PAIR, 1)] with rc := wUp.rc }, by decide +kernel⟩

theorem witness_PairWork_19 :
    ∃ (s : State), (s.live 0x060 = true) :=
  ⟨wPair 1 0 [(Reg.PAIR_STATUS, 0x10402)], by decide +kernel⟩

theorem witness_PinsAndHouse_5 :
    ∃ (q : DebugAsk) (s : State), (s.rbit Reg.TRUST_DEBUG 0 = false) :=
  ⟨⟨true, 15, some 31, true⟩, up, by decide +kernel⟩

theorem witness_PinsAndHouse_6 :
    ∃ (n : Fin 16) (g : Fin 32) (q : DebugAsk) (s : State), (s.rbit Reg.TRUST_DEBUG 0 = true ∧ q.ce = true ∧ q.n.val
      = n.val ∧ q.look = some g ∧ q.resume = false ∧ (s.ceEng n.val).broken = true) :=
  ⟨15, 31, ⟨true, 15, some 31, false⟩, { put up [(Reg.TRUST_DEBUG, 1)] with ce := [(15, { CeEng.init with broken := true, pc := 4095 })] }, by decide +kernel⟩

theorem witness_PinsAndHouse_7 :
    ∃ (n : Fin 16) (g : Fin 32) (q : DebugAsk) (w : Nat) (s : State), (s.rbit Reg.TRUST_DEBUG 0 = true ∧ q.ce = true
      ∧ q.n.val = n.val ∧ q.look = some g ∧ q.resume = true ∧ (s.ceEng n.val).broken = true) ∧ (s.ceWordAt n.val
      (s.ceEng n.val).pc = w ∧ (s.ceEng n.val).level ≠ 0 ∧ ∀ h ∈ (s.ceEng n.val).hook, h.2 < s.fld Reg.UC_HOOK_LIMIT
      15 0) ∧ (if ceY w = true ∧ (s.ceEng n.val).level = 1 then s.nextSource n.val = none else (s.ceEng n.val).count
      ≠ 255) :=
  ⟨15, 31, ⟨true, 15, some 31, true⟩, wImm 0x3E 0 0 9, ((wCe (wImm 0x3E 0 0 9)).setRegN Reg.TRUST_DEBUG 1).modCe 15 fun x => { x with broken := true }, by decide +kernel⟩

theorem witness_PinsAndHouse_8 :
    ∃ (n : Fin 96) (q : DebugAsk) (s : State), (s.rbit Reg.TRUST_DEBUG 0 = true ∧ q.ce = false ∧ q.n = n ∧ q.look =
      none ∧ (s.pxEng n.val).broken = true) :=
  ⟨95, ⟨false, 95, none, true⟩, { put up [(Reg.TRUST_DEBUG, 1)] with px := [(95, { Px.init with broken := true, pc := 7 })] }, by decide +kernel⟩

theorem witness_PinsAndHouse_9 :
    ∃ (off : BitVec 24) (s : State), (pageOf off.toNat ≠ 0x000 ∧ pageOf off.toNat ≠ 0x005 ∧ pageOf off.toNat ≠
      0x007) :=
  ⟨0x3040, up, by decide +kernel⟩

theorem witness_PinsAndHouse_10 :
    ∃ (s : State), (s.live 0x000 = true) :=
  ⟨put up [(Reg.CHIP_SCRATCH, 77)], by decide +kernel⟩

theorem witness_PinsAndHouse_11 :
    ∃ (cmd : Byte) (off : BitVec 24) (s : State), (cmd ≠ 0x10) :=
  ⟨0x11, 0x60, up, by decide +kernel⟩

theorem witness_PinsAndHouse_14 :
    ∃ (q : ConfigAsk) (s : State), (s.pcie.up = true ∧ (s.domainHeld 9 = true ∨ s.domainHeld 10 = true ∨
      s.domainHeld 11 = true)) :=
  ⟨⟨0, none⟩, { up with rc := { up.rc with held := [11] }, pcie := { up.pcie with up := true } }, by decide +kernel⟩

theorem witness_PinsAndHouse_15 :
    ∃ (s : State), (s.pcie.up = true ∧ s.domainHeld 9 = false ∧ s.domainHeld 10 = false ∧ s.domainHeld 11 = false) :=
  ⟨{ up with pcie := { up.pcie with up := true } }, by decide +kernel⟩

theorem witness_PinsAndHouse_16 :
    ∃ (d : BitVec 10) (v : Word) (be : BitVec 4) (s : State), (s.pcie.up = true ∧ s.domainHeld 9 = false ∧
      s.domainHeld 10 = false ∧ s.domainHeld 11 = false ∧ d.toNat ≠ 17) :=
  ⟨1, 0xFFFFFFFF, 3, { up with pcie := { up.pcie with up := true } }, by decide +kernel⟩

theorem witness_PinsAndHouse_17 :
    ∃ (s : State), (s.live 0x030 = true ∧ s.houseRuns = true ∧ s.rbit (Reg.NET_STATUS 0) 5 = false ∧ 1518 ≤ s.fld
      (Reg.NET_MTU 0) 13 0 ∧ s.fld (Reg.NET_MTU 0) 13 0 ≤ 9216) :=
  ⟨{ put up [(blkCtrl 0x030, 1), (Reg.NET_CTRL 0, 2)] with rc := { up.rc with house := true } }, by decide +kernel⟩

theorem witness_PinsAndHouse_18 :
    ∃ (heard : Bool) (s : State), (s.live 0x030 = true ∧ s.houseRuns = true) :=
  ⟨true, { up with rc := { up.rc with house := true } }, by decide +kernel⟩

theorem witness_StepRunsTheFront_2 :
    ∃ (s : State), (s.pending = []) :=
  ⟨State.reset, by decide +kernel⟩

end Sys2Proof.Tests
end

namespace Sys2Proof.Machine

/-! SUPPORT. The step and the state after power-on: what every command and every step keeps (R479, R662). -/

/-! ### What every command and every step keeps -/

/-- Every command completes and keeps the queue, the invariant and the programmed bits. -/
theorem exec_kept {s t : State} (i : Instr) (h : Kept s t) : KeptO s (exec i t) :=
  match i with
  | .registerWrite .. => execRegisterWrite_kept h
  | .rcRegisterRead .. => execRcRegisterRead_kept h
  | .lowWordRead .. => execLowWordRead_kept h
  | .bar0BadAccess .. => execBar0BadAccess_kept h
  | .sheetCommit .. => execSheetCommit_kept h
  | .cellFirstLineCheck .. => execCellFirstLineCheck_kept h
  | .freshMapWrite .. => execFreshMapWrite_kept h
  | .freshMapTimer .. => execFreshMapTimer_kept h
  | .helloRx .. => execHelloRx_kept h
  | .helloAckRx .. => execHelloAckRx_kept h
  | .refuseRx .. => execRefuseRx_kept h
  | .keepaliveRx .. => execKeepaliveRx_kept h
  | .keepaliveAckRx .. => execKeepaliveAckRx_kept h
  | .refreshReqRx .. => execRefreshReqRx_kept h
  | .refreshAckRx .. => execRefreshAckRx_kept h
  | .updateRx .. => execUpdateRx_kept h
  | .updateAckRx .. => execUpdateAckRx_kept h
  | .byeRx .. => execByeRx_kept h
  | .helloRetryTimeout .. => execHelloRetryTimeout_kept h
  | .backoffExpiry .. => execBackoffExpiry_kept h
  | .refusedExpiry .. => execRefusedExpiry_kept h
  | .keepaliveTimer .. => execKeepaliveTimer_kept h
  | .encSessionTimeout .. => execEncSessionTimeout_kept h
  | .refreshHoldoffExpiry .. => execRefreshHoldoffExpiry_kept h
  | .refreshReqResend .. => execRefreshReqResend_kept h
  | .updateResend .. => execUpdateResend_kept h
  | .sessionMsgResolved .. => execSessionMsgResolved_kept h
  | .arpWaitExpiry .. => execArpWaitExpiry_kept h
  | .sessCtrlWrite .. => execSessCtrlWrite_kept h
  | .sessTimingWrite .. => execSessTimingWrite_kept h
  | .encPictureStart .. => execEncPictureStart_kept h
  | .rowSend .. => execRowSend_kept h
  | .echoRowCheck .. => execEchoRowCheck_kept h
  | .encPictureComplete .. => execEncPictureComplete_kept h
  | .ctxEnable .. => execCtxEnable_kept h
  | .ctxStop .. => execCtxStop_kept h
  | .ctxHalt .. => execCtxHalt_kept h
  | .decPacketRx .. => execDecPacketRx_kept h
  | .lossWaitExpiry .. => execLossWaitExpiry_kept h
  | .decPictureStart .. => execDecPictureStart_kept h
  | .decPictureComplete .. => execDecPictureComplete_kept h
  | .ledgerUpdate .. => execLedgerUpdate_kept h
  | .admissionDecide .. => execAdmissionDecide_kept h
  | .ctxWorkMeasure .. => execCtxWorkMeasure_kept h
  | .rowJobPlace .. => execRowJobPlace_kept h
  | .ctuStart .. => execCtuStart_kept h
  | .rowJobComplete .. => execRowJobComplete_kept h
  | .entropySegmentStart .. => execEntropySegmentStart_kept h
  | .pxNano .. => execPxNano_kept h
  | .pxImmLo .. => execPxImmLo_kept h
  | .pxImmHi .. => execPxImmHi_kept h
  | .pxLoop .. => execPxLoop_kept h
  | .pxJump .. => execPxJump_kept h
  | .pxCall .. => execPxCall_kept h
  | .pxLoopback .. => execPxLoopback_kept h
  | .pxReturn .. => execPxReturn_kept h
  | .pxEnd .. => execPxEnd_kept h
  | .pxWait .. => execPxWait_kept h
  | .pxWaitWake .. => execPxWaitWake_kept h
  | .pxBreak .. => execPxBreak_kept h
  | .ceAdd .. => execCeAdd_kept h
  | .ceSub .. => execCeSub_kept h
  | .ceAnd .. => execCeAnd_kept h
  | .ceOr .. => execCeOr_kept h
  | .ceXor .. => execCeXor_kept h
  | .ceShl .. => execCeShl_kept h
  | .ceShr .. => execCeShr_kept h
  | .ceSar .. => execCeSar_kept h
  | .ceMul .. => execCeMul_kept h
  | .ceMulh .. => execCeMulh_kept h
  | .ceMin .. => execCeMin_kept h
  | .ceMax .. => execCeMax_kept h
  | .ceCmp .. => execCeCmp_kept h
  | .ceBfx .. => execCeBfx_kept h
  | .ceBfi .. => execCeBfi_kept h
  | .ceClz .. => execCeClz_kept h
  | .ceAddi .. => execCeAddi_kept h
  | .ceAndi .. => execCeAndi_kept h
  | .ceOri .. => execCeOri_kept h
  | .ceXori .. => execCeXori_kept h
  | .ceShli .. => execCeShli_kept h
  | .ceShri .. => execCeShri_kept h
  | .ceLi .. => execCeLi_kept h
  | .ceLui .. => execCeLui_kept h
  | .ceLd .. => execCeLd_kept h
  | .ceSt .. => execCeSt_kept h
  | .ceLdc .. => execCeLdc_kept h
  | .ceStc .. => execCeStc_kept h
  | .ceLdh .. => execCeLdh_kept h
  | .ceSth .. => execCeSth_kept h
  | .ceJmp .. => execCeJmp_kept h
  | .ceCall .. => execCeCall_kept h
  | .ceRet .. => execCeRet_kept h
  | .ceBr .. => execCeBr_kept h
  | .ceBz .. => execCeBz_kept h
  | .ceBnz .. => execCeBnz_kept h
  | .ceReti .. => execCeReti_kept h
  | .ceHdr .. => execCeHdr_kept h
  | .ceCue .. => execCeCue_kept h
  | .cePget .. => execCePget_kept h
  | .cePput .. => execCePput_kept h
  | .ceTally .. => execCeTally_kept h
  | .ceLane .. => execCeLane_kept h
  | .ceBayjob .. => execCeBayjob_kept h
  | .ceCvu .. => execCeCvu_kept h
  | .ceTime .. => execCeTime_kept h
  | .ceBreak .. => execCeBreak_kept h
  | .ceCueDispatch .. => execCeCueDispatch_kept h
  | .storeReload .. => execStoreReload_kept h
  | .scrubRead .. => execScrubRead_kept h
  | .ucDebugRead .. => execUcDebugRead_kept h
  | .dpOutEnable .. => execDpOutEnable_kept h
  | .dpOutHpdHigh .. => execDpOutHpdHigh_kept h
  | .dpOutTrainingComplete .. => execDpOutTrainingComplete_kept h
  | .dpOutLinkLoss .. => execDpOutLinkLoss_kept h
  | .dpOutStop .. => execDpOutStop_kept h
  | .dpOutHalt .. => execDpOutHalt_kept h
  | .auxTransaction .. => execAuxTransaction_kept h
  | .auxReply .. => execAuxReply_kept h
  | .auxTimeout .. => execAuxTimeout_kept h
  | .dpOutFrameStart .. => execDpOutFrameStart_kept h
  | .followSheetTimeout .. => execFollowSheetTimeout_kept h
  | .scanoutUnderrun .. => execScanoutUnderrun_kept h
  | .cellVerify .. => execCellVerify_kept h
  | .linkCrcCompare .. => execLinkCrcCompare_kept h
  | .dpInEnable .. => execDpInEnable_kept h
  | .dpInLock .. => execDpInLock_kept h
  | .dpInLockLoss .. => execDpInLockLoss_kept h
  | .dpInLineCapture .. => execDpInLineCapture_kept h
  | .dpInFrameComplete .. => execDpInFrameComplete_kept h
  | .dpInStop .. => execDpInStop_kept h
  | .netEnable .. => execNetEnable_kept h
  | .netLinkUp .. => execNetLinkUp_kept h
  | .netLinkDown .. => execNetLinkDown_kept h
  | .netStop .. => execNetStop_kept h
  | .netHalt .. => execNetHalt_kept h
  | .netFrameRx .. => execNetFrameRx_kept h
  | .egressFrameSend .. => execEgressFrameSend_kept h
  | .flowRead .. => execFlowRead_kept h
  | .flowWriteNew .. => execFlowWriteNew_kept h
  | .flowUpdate .. => execFlowUpdate_kept h
  | .flowInvalidate .. => execFlowInvalidate_kept h
  | .shqWrite .. => execShqWrite_kept h
  | .policerWrite .. => execPolicerWrite_kept h
  | .latSample .. => execLatSample_kept h
  | .latSnapshot .. => execLatSnapshot_kept h
  | .latCtrlWrite .. => execLatCtrlWrite_kept h
  | .timeOffsetSample .. => execTimeOffsetSample_kept h
  | .sampleTimeout .. => execSampleTimeout_kept h
  | .timeStep .. => execTimeStep_kept h
  | .timeIncrWrite .. => execTimeIncrWrite_kept h
  | .timeMaxAdjWrite .. => execTimeMaxAdjWrite_kept h
  | .timeCtrlWrite .. => execTimeCtrlWrite_kept h
  | .timeNowRead .. => execTimeNowRead_kept h
  | .ppsOutPulse .. => execPpsOutPulse_kept h
  | .ppsInEdge .. => execPpsInEdge_kept h
  | .ppsInRead .. => execPpsInRead_kept h
  | .bar2Access .. => execBar2Access_kept h
  | .winBaseWrite .. => execWinBaseWrite_kept h
  | .poisonedRequest .. => execPoisonedRequest_kept h
  | .busMasterResume .. => execBusMasterResume_kept h
  | .doorbellWrite .. => execDoorbellWrite_kept h
  | .cmdFetch .. => execCmdFetch_kept h
  | .nop .. => execNop_kept h
  | .flowCmd .. => execFlowCmd_kept h
  | .sdpApply .. => execSdpApply_kept h
  | .ptpConfig .. => execPtpConfig_kept h
  | .hostFlashRead .. => execHostFlashRead_kept h
  | .hostFlashWrite .. => execHostFlashWrite_kept h
  | .tallyCountWrite .. => execTallyCountWrite_kept h
  | .tallyAckWrite .. => execTallyAckWrite_kept h
  | .tallyEnable .. => execTallyEnable_kept h
  | .tallyDisable .. => execTallyDisable_kept h
  | .cmdEnable .. => execCmdEnable_kept h
  | .cmdDisable .. => execCmdDisable_kept h
  | .dmaEnable .. => execDmaEnable_kept h
  | .dmaDescFetch .. => execDmaDescFetch_kept h
  | .dmaDescMoveDone .. => execDmaDescMoveDone_kept h
  | .dmaStop .. => execDmaStop_kept h
  | .dmaHalt .. => execDmaHalt_kept h
  | .dmaPaceResume .. => execDmaPaceResume_kept h
  | .targetTimeout .. => execTargetTimeout_kept h
  | .shadowArm .. => execShadowArm_kept h
  | .shadowDisarm .. => execShadowDisarm_kept h
  | .handover .. => execHandover_kept h
  | .cuexDoorbell .. => execCuexDoorbell_kept h
  | .cuexPost .. => execCuexPost_kept h
  | .cuexConsume .. => execCuexConsume_kept h
  | .cuexAck .. => execCuexAck_kept h
  | .cuexComplete .. => execCuexComplete_kept h
  | .cuexSleep .. => execCuexSleep_kept h
  | .targetWake .. => execTargetWake_kept h
  | .cuexRouteWrite .. => execCuexRouteWrite_kept h
  | .holdoffExpiry .. => execHoldoffExpiry_kept h
  | .poolRequest .. => execPoolRequest_kept h
  | .poolRefIncrement .. => execPoolRefIncrement_kept h
  | .poolRefDecrement .. => execPoolRefDecrement_kept h
  | .poolEnable .. => execPoolEnable_kept h
  | .poolStop .. => execPoolStop_kept h
  | .poolHalt .. => execPoolHalt_kept h
  | .fifoPush .. => execFifoPush_kept h
  | .fifoPop .. => execFifoPop_kept h
  | .fifoCfgWrite .. => execFifoCfgWrite_kept h
  | .boundaryOverrun .. => execBoundaryOverrun_kept h
  | .cvuJobPost .. => execCvuJobPost_kept h
  | .cvuJobRun .. => execCvuJobRun_kept h
  | .cvuCounterCfgWrite .. => execCvuCounterCfgWrite_kept h
  | .dramRequestAccept .. => execDramRequestAccept_kept h
  | .dramIssue .. => execDramIssue_kept h
  | .refreshDue .. => execRefreshDue_kept h
  | .mr4Poll .. => execMr4Poll_kept h
  | .retrainPause .. => execRetrainPause_kept h
  | .fullRetrainDone .. => execFullRetrainDone_kept h
  | .dramTrainingDone .. => execDramTrainingDone_kept h
  | .dramStop .. => execDramStop_kept h
  | .dramHalt .. => execDramHalt_kept h
  | .dramEnable .. => execDramEnable_kept h
  | .compressionRatioUpdate .. => execCompressionRatioUpdate_kept h
  | .supplyRampDone .. => execSupplyRampDone_kept h
  | .supplyDip .. => execSupplyDip_kept h
  | .supplyRemove .. => execSupplyRemove_kept h
  | .rstNAssert .. => execRstNAssert_kept h
  | .rstNRelease .. => execRstNRelease_kept h
  | .perstNAssert .. => execPerstNAssert_kept h
  | .perstNRelease .. => execPerstNRelease_kept h
  | .prompterWatchdog .. => execPrompterWatchdog_kept h
  | .prompterLockstep .. => execPrompterLockstep_kept h
  | .smWatchdog .. => execSmWatchdog_kept h
  | .resetPwdKick .. => execResetPwdKick_kept h
  | .resetSmwdKick .. => execResetSmwdKick_kept h
  | .softFull .. => execSoftFull_kept h
  | .smReset .. => execSmReset_kept h
  | .resetPulseEnd .. => execResetPulseEnd_kept h
  | .domainRelease .. => execDomainRelease_kept h
  | .swReset .. => execSwReset_kept h
  | .blockResetRelease .. => execBlockResetRelease_kept h
  | .promptCallPost .. => execPromptCallPost_kept h
  | .blockReset .. => execBlockReset_kept h
  | .softReset .. => execSoftReset_kept h
  | .setOwner .. => execSetOwner_kept h
  | .setSeverity .. => execSetSeverity_kept h
  | .setLedger .. => execSetLedger_kept h
  | .setFence .. => execSetFence_kept h
  | .setCvuOwner .. => execSetCvuOwner_kept h
  | .pcFlashRead .. => execPcFlashRead_kept h
  | .pcFlashWrite .. => execPcFlashWrite_kept h
  | .otpEnrol .. => execOtpEnrol_kept h
  | .otpRevoke .. => execOtpRevoke_kept h
  | .otpRaiseVersion .. => execOtpRaiseVersion_kept h
  | .setDebug .. => execSetDebug_kept h
  | .houseRateAlternate .. => execHouseRateAlternate_kept h
  | .houseGroupClaim .. => execHouseGroupClaim_kept h
  | .faultTake .. => execFaultTake_kept h
  | .gltToggle .. => execGltToggle_kept h
  | .faultHeartbeat .. => execFaultHeartbeat_kept h
  | .heartbeatTimeout .. => execHeartbeatTimeout_kept h
  | .blkForceRaise .. => execBlkForceRaise_kept h
  | .faultClearFirst .. => execFaultClearFirst_kept h
  | .faultClearStopRecord .. => execFaultClearStopRecord_kept h
  | .rehBay .. => execRehBay_kept h
  | .rehFull .. => execRehFull_kept h
  | .rehRun .. => execRehRun_kept h
  | .rehDrainDone .. => execRehDrainDone_kept h
  | .rehBistDone .. => execRehBistDone_kept h
  | .avsReadback .. => execAvsReadback_kept h
  | .avsRetry .. => execAvsRetry_kept h
  | .journalWeekEnd .. => execJournalWeekEnd_kept h
  | .journalRetry .. => execJournalRetry_kept h
  | .pairHelloTimer .. => execPairHelloTimer_kept h
  | .pairHelloRx .. => execPairHelloRx_kept h
  | .pairHeartbeatTimer .. => execPairHeartbeatTimer_kept h
  | .pairHeartbeatRx .. => execPairHeartbeatRx_kept h
  | .heartbeatLoss .. => execHeartbeatLoss_kept h
  | .gltPeerEdge .. => execGltPeerEdge_kept h
  | .peerGltSilent .. => execPeerGltSilent_kept h
  | .pairLaneLoss .. => execPairLaneLoss_kept h
  | .pairBlockLock .. => execPairBlockLock_kept h
  | .pairLockLoss .. => execPairLockLoss_kept h
  | .pairFrameWaitExpiry .. => execPairFrameWaitExpiry_kept h
  | .xcheckRx .. => execXcheckRx_kept h
  | .xcheckWaitExpiry .. => execXcheckWaitExpiry_kept h
  | .pictureRx .. => execPictureRx_kept h
  | .digestRx .. => execDigestRx_kept h
  | .sessionFrameRx .. => execSessionFrameRx_kept h
  | .sessionFrameTimer .. => execSessionFrameTimer_kept h
  | .stateRx .. => execStateRx_kept h
  | .resyncReqRx .. => execResyncReqRx_kept h
  | .switchReqRx .. => execSwitchReqRx_kept h
  | .switchAckRx .. => execSwitchAckRx_kept h
  | .switchRefuseRx .. => execSwitchRefuseRx_kept h
  | .pairResetRx .. => execPairResetRx_kept h
  | .takeover .. => execTakeover_kept h
  | .pairSwitch .. => execPairSwitch_kept h
  | .resetPeer .. => execResetPeer_kept h
  | .suspectClear .. => execSuspectClear_kept h
  | .tapReset .. => execTapReset_kept h
  | .idcode .. => execIdcode_kept h
  | .bypass .. => execBypass_kept h
  | .smbusRegisterRead .. => execSmbusRegisterRead_kept h
  | .configRequest .. => execConfigRequest_kept h
  | .pcieLinkUp .. => execPcieLinkUp_kept h
  | .dpInAuxRequest .. => execDpInAuxRequest_kept h
  | .boundaryScan .. => execBoundaryScan_kept h
  | .engineDebug .. => execEngineDebug_kept h

/-- The invariant does not speak of the queue. -/
theorem State.Inv.withPending {s : State} (h : s.Inv) (q : List Instr) : { s with pending := q }.Inv :=
  ⟨h.regs, h.mem, h.host, h.time⟩

theorem step_of_nil {s : State} (h : s.pending = []) : step s = .next s.tick := by
  unfold step; rw [h]

theorem step_of_cons {s : State} {c : Instr} {rest : List Instr} (h : s.pending = c :: rest) :
    step s = exec c { s with pending := rest } := by
  unfold step; rw [h]

/-- Settles O60: the case split of `exec` lies in `exec_kept`, and a step is a command on the state without its front
command, or a tick. -/
theorem stepKeepsInvariant : Obligations.StepKeepsInvariant := by
  refine ⟨fun s => ?_, fun i s => ?_⟩
  · cases hp : s.pending with
    | nil =>
      have k : Kept s s.tick := State.tick_kept (Kept.refl s)
      exact ⟨s.tick, step_of_nil hp, k.pending.trans hp, k.inv, k.otp⟩
    | cons c rest =>
      obtain ⟨t, ht, k⟩ := exec_kept c (Kept.refl { s with pending := rest })
      exact ⟨t, (step_of_cons hp).trans ht, k.pending, fun h => k.inv (h.withPending rest), k.otp⟩
  · obtain ⟨t, ht, k⟩ := exec_kept i (Kept.refl s)
    exact ⟨t, ht, k.pending, k.inv, k.otp⟩

/-- Settles O58, by the two equations of the step; the table of words is empty. -/
theorem stepRunsTheFront : Obligations.StepRunsTheFront :=
  ⟨fun _ _ _ => step_of_cons rfl, fun _ h => step_of_nil h, fun _ _ _ => ⟨rfl, rfl⟩⟩

/-- The invariant holds at power-on: every map is empty and the time base stands at zero. -/
theorem State.reset_inv : State.reset.Inv :=
  ⟨Sparse.wf_nil _, Sparse.wf_nil _, Sparse.wf_nil _, by decide⟩

/-- Settles O59: nothing is listed in any map, so each register reads its reset value. -/
theorem resetHoldsAll : Obligations.ResetHoldsAll :=
  ⟨State.reset_inv, rfl, rfl, rfl, fun k => Sparse.get_nil regReset k, rfl, rfl, rfl, rfl⟩

end Sys2Proof.Machine

namespace Sys2Proof.Machine

/-! SUPPORT. What an access at a BAR 0 address does where the block of the page answers, and the four rows of BAR 0. -/

/-! ### A BAR 0 access of a register of a live page -/

theorem ble_eq_not_blt (a b : Nat) : Nat.ble a b = !Nat.blt b a := by
  rw [Bool.eq_iff_iff, Nat.ble_eq, Bool.not_eq_true', ← Bool.not_eq_true, Nat.blt_eq]; omega

/-- Only a key of a CTX page has two meanings (R223). -/
theorem State.regKey_of_page_lt {s : State} {a : Nat} (h : pageOf a < 0x200) : s.regKey a = a := by
  have hp : Nat.ble 0x200 (pageOf a) = false := by simpa [ble_eq_not_blt] using Nat.blt_eq.mpr h
  simp [State.regKey, hp]

/-- A live block: its page is assigned, its domain is not held, it is not in block reset. -/
theorem State.live_iff {s : State} {b : Nat} :
    s.live b = true ↔ ∃ i, pageInfo b = some i ∧ s.pageHeld i = false ∧ s.inReset b = false := by
  unfold State.live
  cases pageInfo b <;> simp

/-- Only accesses of the host wait for domain 9a. -/
theorem State.hostStopped_eq_false {s : State} {w : Writer} (hw : w = .host → s.domainHeld 9 = false) :
    (w == .host && s.domainHeld 9) = false := by
  by_cases h : w = .host
  · simp [hw h]
  · simp [h]

/-- A read of a live page is a read of its register (R767, R768). -/
theorem State.busRead_of_live {s : State} {w : Writer} {a : Nat} (ha : a % 4 = 0)
    (hw : w = .host → s.domainHeld 9 = false) (hl : s.live (pageOf a) = true) :
    s.busRead w a = s.readReg (s.regKey a) := by
  obtain ⟨i, hi, hheld, -⟩ := State.live_iff.mp hl
  simp [State.busRead, ha, State.hostStopped_eq_false hw, hi, hheld]

/-- A register whose read has no effect of its own: neither the time of day nor the PPS edge, and off the prop room's
page, where FIFO outputs stand (R486, R488). -/
def plainRead (k : Nat) : Bool :=
  k != Reg.TIME_NOW_FRAC && k != Reg.TIME_PPS_IN_NS && pageOf k != 0x018

theorem plainRead_iff {k : Nat} :
    plainRead k = true ↔ k ≠ Reg.TIME_NOW_FRAC ∧ k ≠ Reg.TIME_PPS_IN_NS ∧ pageOf k ≠ 0x018 := by
  simp [plainRead, and_assoc]

/-- A latched word is shown once (R7). -/
theorem State.readReg_of_latched {s : State} {k : Nat} {v : Word} (hk : plainRead k = true) (h : s.latch k = some v) :
    s.readReg k = (s.setLatch k none, v) := by
  obtain ⟨hfrac, hpps, hpool⟩ := plainRead_iff.mp hk
  simp [State.readReg, hfrac, hpps, hpool, h]

/-- With nothing latched a read shows the register, latches the high word after a low one and clears an RC register
(R7, R10). -/
theorem State.readReg_of_unlatched {s : State} {k : Nat} {r : RegRow} (hk : plainRead k = true) (h : s.latch k = none)
    (hr : regRow k = some r) :
    s.readReg k = ((s.doIf (lowWord k) fun s => s.setLatch (k + 4) (some (s.view (k + 4)))).doIf
      (r.access == .rc && Nat.ble 0x40 (offOf k)) fun s => s.clearRead k, s.view k) := by
  obtain ⟨hfrac, hpps, hpool⟩ := plainRead_iff.mp hk
  simp [State.readReg, hfrac, hpps, hpool, h, hr]

/-- A register that shows what it holds: readable, outside the header and the context pages, and none of those that show
something computed or always read zero (R8, R10). -/
def showsHeld (k : Nat) : Bool :=
  (pageInfo (pageOf k)).any (fun i => i.typ != 0x1E) && (regRow k).any (fun r => r.access != .wo) &&
    !Nat.blt (offOf k) 0x40 && !Nat.ble 0x800 (pageOf k) &&
    !(Nat.ble 0x010 (pageOf k) && Nat.ble (pageOf k) 0x013 && offOf k == 0x05C) && pageOf k != 0x00B &&
    k != Reg.TRUST_OTP_DATA && k != Reg.HOSTQ_PCIE_STATUS && k != Reg.PAIR_CTRL && k != Reg.RESET_CMD

theorem State.view_of_showsHeld {s : State} {k : Nat} (hk : showsHeld k = true) : s.view k = s.reg k := by
  simp only [showsHeld, Bool.and_eq_true, Option.any_eq_true, Bool.not_eq_true', bne_iff_ne] at hk
  obtain ⟨⟨⟨⟨⟨⟨⟨⟨⟨⟨i, hi, htyp⟩, r, hr, hacc⟩, hoff⟩, hpage⟩, hdram⟩, hcue⟩, hotp⟩, hpcie⟩, hpair⟩, hreset⟩ := hk
  simp [State.view, hi, hr, hoff, hpage, hacc, hotp, hpcie, hdram, hcue, hpair, hreset, htyp]

theorem offOf_of_showsHeld {k : Nat} (hk : showsHeld k = true) : Nat.ble 0x40 (offOf k) = true := by
  simp only [showsHeld, Bool.and_eq_true] at hk
  obtain ⟨⟨⟨⟨⟨⟨⟨⟨-, hoff⟩, -⟩, -⟩, -⟩, -⟩, -⟩, -⟩, -⟩ := hk
  rwa [ble_eq_not_blt]

/-- An RC register outside the prop room and the policer window is clear after its read (R10). -/
theorem State.clearRead_of_page {s : State} {k : Nat} (hpool : pageOf k ≠ 0x018) (hpol : pageOf k ≠ 0x037) :
    s.clearRead k = s.setReg k 0 := by
  simp [State.clearRead, hpool, hpol]

/-- An RC register with nothing latched: a read shows it and clears it, and nothing else (R10). -/
theorem State.readReg_of_rc {s : State} {k : Nat} {r : RegRow} (hk : plainRead k = true) (hs : showsHeld k = true)
    (hlow : lowWord k = false) (hr : regRow k = some r) (hrc : r.access = .rc) (hpol : pageOf k ≠ 0x037)
    (h : s.latch k = none) : s.readReg k = (s.setReg k 0, s.reg k) := by
  obtain ⟨-, -, hpool⟩ := plainRead_iff.mp hk
  have hoff : Nat.ble 0x40 (offOf k) = true := offOf_of_showsHeld hs
  rw [State.readReg_of_unlatched hk h hr, State.view_of_showsHeld hs, hlow, hrc, hoff]
  exact congrArg (·, s.reg k) (State.clearRead_of_page hpool hpol)

/-- A low word with nothing latched: a read shows it and latches the high word of that moment (R7). -/
theorem State.readReg_of_lowWord {s : State} {k : Nat} {r : RegRow} (hk : plainRead k = true)
    (hs : showsHeld k = true) (hs4 : showsHeld (k + 4) = true) (hlow : lowWord k = true) (hr : regRow k = some r)
    (hro : r.access = .ro) (h : s.latch k = none) :
    s.readReg k = (s.setLatch (k + 4) (some (s.reg (k + 4))), s.reg k) := by
  rw [State.readReg_of_unlatched hk h hr, State.view_of_showsHeld hs, hlow, hro]
  exact congrArg (fun v => (s.setLatch (k + 4) (some v), s.reg k)) (State.view_of_showsHeld hs4)

/-- A write of a live page that R19 lets pass, off the Cue Exchange and off the header, of a value the register takes
(R4, R5, R8, R19). -/
theorem State.busWrite_of_live {s : State} {w : Writer} {a : Nat} {v : Word} {i : PageInfo} (ha : a % 4 = 0)
    (hw : w = .host → s.domainHeld 9 = false) (hi : pageInfo (pageOf a) = some i) (hb : i.block = pageOf a)
    (hl : s.live (pageOf a) = true) (hoff : offends w a = false)
    (hcue : (Nat.ble 0x008 (pageOf a) && Nat.ble (pageOf a) 0x00B) = false) (hhdr : Nat.blt (offOf a) 0x40 = false)
    (hr : (regRow (s.regKey a)).isSome = true) (ht : s.takes w (s.regKey a) v = true) :
    s.busWrite w a v = s.regEffect w (s.regKey a) v := by
  obtain ⟨j, hj, hheld, hreset⟩ := State.live_iff.mp hl
  obtain rfl : i = j := Option.some.inj (hi.symm.trans hj)
  have hn : (regRow (s.regKey a)).isNone = false := by simpa using hr
  simp only [State.busWrite, ha, State.hostStopped_eq_false hw, hi, hheld, hoff, hcue, hhdr, hn, ht, hb, hreset]
  rfl

/-- A RW register stores what is written in the bits of its row (R8, R10). -/
theorem State.plainWrite_of_rw {s : State} {w : Writer} {k : Nat} {v : Word} {r : RegRow} (hr : regRow k = some r)
    (hrw : r.access = .rw) : s.plainWrite w k v = s.setReg k (v &&& BitVec.ofNat 32 r.mask) := by
  simp [State.plainWrite, State.store, hr, hrw]

/-! ### The rows that read -/

/-- A BAR 0 address that fits 24 bits is itself. -/
theorem barAddr_toNat {k : Nat} (h : k < 2 ^ 24) : (BitVec.ofNat 24 k).toNat = k := by
  rw [BitVec.toNat_ofNat, Nat.mod_eq_of_lt h]

/-- RC_REGISTER_READ and LOW_WORD_READ put out what the register of a live page below the contexts answers. -/
theorem State.answerRead_of_readReg {s t : State} {w : Writer} {k : Nat} {v : Word} (hlt : k < 0x200000)
    (hk : k % 4 = 0) (hw : w = .host → s.domainHeld 9 = false)
    (hl : s.live (pageOf k) = true) (h : s.readReg k = (t, v)) :
    s.answerRead w (BitVec.ofNat 24 k).toNat = t.emit (.readData v) := by
  have hpage : pageOf k < 0x200 := by unfold pageOf; omega
  rw [State.answerRead, barAddr_toNat (by omega), State.busRead_of_live hk hw hl, State.regKey_of_page_lt hpage, h]

/-! ### NET_RX_ERRORS, a counter that clears at its read -/

theorem pageOf_NET_RX_ERRORS (p : Fin 4) : pageOf (Reg.NET_RX_ERRORS p.val) = 0x030 + p.val := by
  revert p; decide

theorem regRow_NET_RX_ERRORS (p : Fin 4) :
    regRow (Reg.NET_RX_ERRORS p.val) = some ⟨0x94, 0x0, 1, .rc, 0x0, 0xFFFFFFFF⟩ := by
  revert p; decide

theorem read_rules_NET_RX_ERRORS (p : Fin 4) :
    plainRead (Reg.NET_RX_ERRORS p.val) = true ∧ showsHeld (Reg.NET_RX_ERRORS p.val) = true ∧
      lowWord (Reg.NET_RX_ERRORS p.val) = false := by
  revert p; decide

theorem readReg_NET_RX_ERRORS {s : State} {p : Fin 4} (h : s.latch (Reg.NET_RX_ERRORS p.val) = none) :
    s.readReg (Reg.NET_RX_ERRORS p.val) = (s.setReg (Reg.NET_RX_ERRORS p.val) 0, s.reg (Reg.NET_RX_ERRORS p.val)) := by
  obtain ⟨hplain, hshows, hlow⟩ := read_rules_NET_RX_ERRORS p
  refine State.readReg_of_rc hplain hshows hlow (regRow_NET_RX_ERRORS p) rfl ?_ h
  rw [pageOf_NET_RX_ERRORS]; omega

theorem exec_rcRegisterRead_NET_RX_ERRORS {w : Writer} {p : Fin 4} {s : State} (hl : s.live (0x030 + p.val) = true)
    (hw : w = .host → s.domainHeld 9 = false) (h : s.latch (Reg.NET_RX_ERRORS p.val) = none) :
    exec (.rcRegisterRead w (BitVec.ofNat 24 (Reg.NET_RX_ERRORS p.val))) s =
      .next ((s.setReg (Reg.NET_RX_ERRORS p.val) 0).emit (.readData (s.reg (Reg.NET_RX_ERRORS p.val)))) := by
  have hpage := pageOf_NET_RX_ERRORS p
  refine congrArg Host.Outcome.next (State.answerRead_of_readReg ?_ ?_ hw (hpage ▸ hl) (readReg_NET_RX_ERRORS h))
  · unfold Reg.NET_RX_ERRORS; omega
  · unfold Reg.NET_RX_ERRORS; omega

/-! ### DP_OUT_FRAME_TIME, a low word that latches its high word -/

theorem pageOf_DP_OUT_FRAME_TIME_LO (n : Fin 8) : pageOf (Reg.DP_OUT_FRAME_TIME_LO n.val) = 0x040 + n.val := by
  revert n; decide

theorem pageOf_DP_OUT_FRAME_TIME_HI (n : Fin 8) : pageOf (Reg.DP_OUT_FRAME_TIME_LO n.val + 4) = 0x040 + n.val := by
  revert n; decide

theorem regRow_DP_OUT_FRAME_TIME_LO (n : Fin 8) :
    regRow (Reg.DP_OUT_FRAME_TIME_LO n.val) = some ⟨0x70, 0x0, 1, .ro, 0x0, 0xFFFFFFFF⟩ := by
  revert n; decide

theorem read_rules_DP_OUT_FRAME_TIME (n : Fin 8) :
    plainRead (Reg.DP_OUT_FRAME_TIME_LO n.val) = true ∧ plainRead (Reg.DP_OUT_FRAME_TIME_LO n.val + 4) = true ∧
      showsHeld (Reg.DP_OUT_FRAME_TIME_LO n.val) = true ∧ showsHeld (Reg.DP_OUT_FRAME_TIME_LO n.val + 4) = true ∧
      lowWord (Reg.DP_OUT_FRAME_TIME_LO n.val) = true := by
  revert n; decide

theorem exec_lowWordRead_DP_OUT_FRAME_TIME_LO {w : Writer} {n : Fin 8} {s : State}
    (hl : s.live (0x040 + n.val) = true) (hw : w = .host → s.domainHeld 9 = false)
    (h : s.latch (Reg.DP_OUT_FRAME_TIME_LO n.val) = none) :
    exec (.lowWordRead w (BitVec.ofNat 24 (Reg.DP_OUT_FRAME_TIME_LO n.val))) s =
      .next ((s.setLatch (Reg.DP_OUT_FRAME_TIME_LO n.val + 4) (some (s.reg (Reg.DP_OUT_FRAME_TIME_LO n.val + 4)))).emit
        (.readData (s.reg (Reg.DP_OUT_FRAME_TIME_LO n.val)))) := by
  obtain ⟨hplain, -, hshows, hshows4, hlow⟩ := read_rules_DP_OUT_FRAME_TIME n
  have hpage := pageOf_DP_OUT_FRAME_TIME_LO n
  have hread := State.readReg_of_lowWord hplain hshows hshows4 hlow (regRow_DP_OUT_FRAME_TIME_LO n) rfl h
  refine congrArg Host.Outcome.next (State.answerRead_of_readReg ?_ ?_ hw (hpage ▸ hl) hread)
  · unfold Reg.DP_OUT_FRAME_TIME_LO; omega
  · unfold Reg.DP_OUT_FRAME_TIME_LO; omega

theorem exec_lowWordRead_DP_OUT_FRAME_TIME_HI {w : Writer} {n : Fin 8} {v : Word} {s : State}
    (hl : s.live (0x040 + n.val) = true) (hw : w = .host → s.domainHeld 9 = false)
    (h : s.latch (Reg.DP_OUT_FRAME_TIME_LO n.val + 4) = some v) :
    exec (.lowWordRead w (BitVec.ofNat 24 (Reg.DP_OUT_FRAME_TIME_LO n.val + 4))) s =
      .next ((s.setLatch (Reg.DP_OUT_FRAME_TIME_LO n.val + 4) none).emit (.readData v)) := by
  obtain ⟨-, hplain, -⟩ := read_rules_DP_OUT_FRAME_TIME n
  have hpage := pageOf_DP_OUT_FRAME_TIME_HI n
  refine congrArg Host.Outcome.next
    (State.answerRead_of_readReg ?_ ?_ hw (hpage ▸ hl) (State.readReg_of_latched hplain h))
  · unfold Reg.DP_OUT_FRAME_TIME_LO; omega
  · unfold Reg.DP_OUT_FRAME_TIME_LO; omega

/-! ### TIME_JUMP_THRESH, a plain register -/

theorem regRow_TIME_JUMP_THRESH : regRow Reg.TIME_JUMP_THRESH = some ⟨0x6C, 0x0, 1, .rw, 0xF4240, 0xFFFFFFFF⟩ := by
  decide

theorem offends_TIME_JUMP_THRESH (w : Writer) : offends w Reg.TIME_JUMP_THRESH = false := by
  have h : trustReg Reg.TIME_JUMP_THRESH = false := by decide
  unfold offends
  rw [h]
  exact Bool.false_and _

/-- A write of TIME_JUMP_THRESH starts no operation (R10). -/
theorem regEffect_TIME_JUMP_THRESH (w : Writer) (v : Word) (s : State) :
    s.regEffect w Reg.TIME_JUMP_THRESH v = s.plainWrite w Reg.TIME_JUMP_THRESH v := rfl

theorem exec_registerWrite_TIME_JUMP_THRESH {w : Writer} {v : Word} {s : State} (hl : s.live 0x004 = true)
    (hw : w = .host → s.domainHeld 9 = false) :
    exec (.registerWrite w (BitVec.ofNat 24 Reg.TIME_JUMP_THRESH) v) s = .next (s.setReg Reg.TIME_JUMP_THRESH v) := by
  have hkey : s.regKey Reg.TIME_JUMP_THRESH = Reg.TIME_JUMP_THRESH := State.regKey_of_page_lt (by decide)
  have hpage : pageInfo (pageOf Reg.TIME_JUMP_THRESH) =
      some ⟨0x004, 0x05, 0, 1, 0, 1, false, false, false, 442, 0, 1⟩ := by decide
  have hwrite : s.busWrite w Reg.TIME_JUMP_THRESH v = s.regEffect w (s.regKey Reg.TIME_JUMP_THRESH) v :=
    State.busWrite_of_live (by decide) hw hpage rfl hl (offends_TIME_JUMP_THRESH w) (by decide) (by decide)
      (by rw [hkey, regRow_TIME_JUMP_THRESH]; rfl) (by rw [hkey]; rfl)
  have hall : v &&& BitVec.ofNat 32 0xFFFFFFFF = v := BitVec.and_allOnes
  refine congrArg Host.Outcome.next ?_
  rw [barAddr_toNat (by decide), hwrite, hkey, regEffect_TIME_JUMP_THRESH,
    State.plainWrite_of_rw regRow_TIME_JUMP_THRESH rfl, hall]

/-- Settles O1: one lemma per row of BAR 0. -/
theorem busReadsAndWrites : Obligations.BusReadsAndWrites :=
  ⟨fun _ _ => rfl, fun _ _ _ => exec_registerWrite_TIME_JUMP_THRESH, fun _ _ _ => exec_rcRegisterRead_NET_RX_ERRORS,
    fun _ _ _ => exec_lowWordRead_DP_OUT_FRAME_TIME_LO, fun _ _ _ _ => exec_lowWordRead_DP_OUT_FRAME_TIME_HI⟩

end Sys2Proof.Machine

namespace Sys2Proof.Machine

/-! SUPPORT. What the shared operations under a committed sheet and under a freshness map can do: a write to device memory,
a raised message, a walk over a list; and the bytes that a little-endian number reads back from (R2, R388, R684). -/

/-! ### Walks -/

/-- What holds before a walk and after each of its steps holds after it. -/
theorem State.forEach_ind {α : Type} {P : State → Prop} {l : List α} {f : α → State → State} (hf : ∀ a u, P u → P (f a u)) :
    ∀ {s : State}, P s → P (s.forEach l f) := by
  induction l with
  | nil => exact fun h => h
  | cons a l ih => exact fun h => ih (hf a _ h)

theorem State.doIf_ind {P : State → Prop} {s : State} {b : Bool} {f : State → State} (h : P s) (hf : P (f s)) :
    P (s.doIf b f) := by
  cases b
  · exact h
  · exact hf

/-! ### Raised messages -/

/-- What raising a message can do: nothing, count a suppressed or a lost one, place it (R684, R687, R695). -/
theorem State.raise_cases (s : State) (src kind addr : Nat) :
    s.raise src kind addr = s ∨ s.raise src kind addr = s.bump Reg.FAULT_SUPPRESSED 1 ∨
      (∃ fc, s.raise src kind addr = { (s.bump Reg.FAULT_OVERFLOWS 1).bump (Reg.FAULT_KIND_COUNT kind) 1 with fc := fc }) ∨
      ∃ fc, s.raise src kind addr = { s with fc := fc } := by
  unfold State.raise State.raiseMsg
  split
  · exact .inl rfl
  split
  · exact .inr (.inl rfl)
  dsimp only
  split
  · exact .inr (.inr (.inl ⟨_, rfl⟩))
  · exact .inr (.inr (.inr ⟨_, rfl⟩))

theorem State.withFc_reg (s : State) (fc : FaultCtl) (j : Nat) : ({ s with fc := fc } : State).reg j = s.reg j := rfl

theorem State.raise_sameRegs (s : State) (src kind addr : Nat) : SameRegs (faultRegs kind) s (s.raise src kind addr) := by
  intro j hj
  simp only [faultRegs, List.mem_cons, List.not_mem_nil, or_false, not_or] at hj
  obtain ⟨hsup, hover, hkind⟩ := hj
  rcases s.raise_cases src kind addr with e | e | ⟨fc, e⟩ | ⟨fc, e⟩ <;> rw [e]
  · rw [State.bump_reg, if_neg hsup]
  · rw [State.withFc_reg, State.bump_reg, if_neg hkind, State.bump_reg, if_neg hover]
  · rfl

theorem State.raise_frame (s : State) (src kind addr : Nat) :
    s.raise src kind addr = { s with regs := (s.raise src kind addr).regs, fc := (s.raise src kind addr).fc } := by
  rcases s.raise_cases src kind addr with e | e | ⟨fc, e⟩ | ⟨fc, e⟩ <;> rw [e] <;> rfl

@[simp] theorem State.raise_ctx (s : State) (src kind addr d : Nat) : (s.raise src kind addr).ctx d = s.ctx d := by
  rw [State.raise_frame]; rfl

@[simp] theorem State.raise_mem8 (s : State) (src kind addr a : Nat) : (s.raise src kind addr).mem8 a = s.mem8 a := by
  rw [State.raise_frame]; rfl

theorem State.raise_memLE (s : State) (src kind addr a n : Nat) : (s.raise src kind addr).memLE a n = s.memLE a n := by
  rw [State.raise_frame]; rfl

/-! ### Writes to device memory -/

/-- From `s` to `t` only device memory, the Reference Cache, registers and the fault collector differ. -/
def OnlyMemory (s t : State) : Prop := t = { s with regs := t.regs, mem := t.mem, refc := t.refc, fc := t.fc }

theorem OnlyMemory.trans {s t u : State} (h : OnlyMemory s t) (k : OnlyMemory t u) : OnlyMemory s u := by
  unfold OnlyMemory at h
  rw [h] at k
  exact k

theorem State.raise_onlyMemory (s : State) (src kind addr : Nat) : OnlyMemory s (s.raise src kind addr) := by
  rw [State.raise_frame]; rfl

theorem State.refUpdate_eq (s : State) (a n : Nat) : s.refUpdate a n = { s with refc := (s.refUpdate a n).refc } := by
  unfold State.refUpdate
  split
  · rfl
  · exact State.forEach_ind (P := fun u => u = { s with refc := u.refc })
      (fun _ _ h => by rw [h]; rfl) rfl

theorem State.dramWrite_eq (s : State) (a : Nat) (bs : List Byte) :
    s.dramWrite a bs = { s.memWrite a bs with refc := (s.dramWrite a bs).refc } := State.refUpdate_eq _ _ _

theorem State.dramWrite_onlyMemory (s : State) (a : Nat) (bs : List Byte) : OnlyMemory s (s.dramWrite a bs) := by
  rw [State.dramWrite_eq]
  rfl

theorem State.fenceViolation_onlyMemory (s : State) (a w : Nat) : OnlyMemory s (s.fenceViolation a w) :=
  OnlyMemory.trans (t := ((s.bump _ _).setRegN _ _).setRegN _ _) rfl (State.raise_onlyMemory _ _ _ _)

theorem State.hwWrite_onlyMemory (s : State) (a : Nat) (bs : List Byte) : OnlyMemory s (s.hwWrite a bs) := by
  unfold State.hwWrite State.devWrite
  split
  · exact s.dramWrite_onlyMemory a bs
  · refine OnlyMemory.trans ?_ (State.fenceViolation_onlyMemory _ _ _)
    exact State.forEach_ind (P := OnlyMemory s) (fun j u h => State.doIf_ind h (h.trans (u.dramWrite_onlyMemory _ _))) rfl

/-- A write that no fence keeps the hardware from is made as it stands (R388). -/
theorem State.hwWrite_of_unfenced {s : State} {a : Nat} {bs : List Byte} (h : s.firstFenced byHardware a bs.length = none) :
    s.hwWrite a bs = s.dramWrite a bs := by
  unfold State.hwWrite State.devWrite
  rw [h]

theorem State.dramWrite_mem8 (s : State) (a : Nat) (bs : List Byte) (j : Nat) :
    (s.dramWrite a bs).mem8 j = if h : a ≤ j ∧ j < a + bs.length then bs[j - a]'(by omega) else s.mem8 j := by
  rw [State.dramWrite_eq]
  exact s.memWrite_mem8 a bs j

theorem State.dramWrite_firstFenced (s : State) (a : Nat) (bs : List Byte) (w b n : Nat) :
    (s.dramWrite a bs).firstFenced w b n = s.firstFenced w b n := by
  rw [State.dramWrite_eq]
  rfl

theorem mem_pagesOf {a n p : Nat} : p ∈ pagesOf a n ↔ 0 < n ∧ a / 4096 ≤ p ∧ p ≤ (a + n - 1) / 4096 := by
  unfold pagesOf rangeFrom
  split
  · next h => simp_all
  · next h =>
    simp only [List.mem_map, List.mem_range]
    have hn : n ≠ 0 := by simpa using h
    have hle : a / 4096 ≤ (a + n - 1) / 4096 := Nat.div_le_div_right (by omega)
    constructor
    · rintro ⟨i, hi, rfl⟩
      omega
    · rintro ⟨-, h1, h2⟩
      exact ⟨p - a / 4096, by omega, by omega⟩

/-- A part of a range that no fence meets meets none. -/
theorem State.firstFenced_part {s : State} {w a n b m : Nat} (h : s.firstFenced w a n = none) (hab : a ≤ b) (hn : b + m ≤ a + n) :
    s.firstFenced w b m = none := by
  unfold State.firstFenced at h ⊢
  rw [Option.map_eq_none_iff, List.find?_eq_none] at h ⊢
  intro p hp
  obtain ⟨hm, h1, h2⟩ := mem_pagesOf.mp hp
  have hlo : a / 4096 ≤ b / 4096 := Nat.div_le_div_right hab
  have hhi : (b + m - 1) / 4096 ≤ (a + n - 1) / 4096 := Nat.div_le_div_right (by omega)
  exact h p (mem_pagesOf.mpr ⟨by omega, hlo.trans h1, h2.trans hhi⟩)

/-! ### Little-endian numbers -/

theorem leBytes_length (k : Nat) : ∀ n, (leBytes k n).length = k := by
  induction k with
  | zero => exact fun _ => rfl
  | succ k ih => exact fun n => congrArg (· + 1) (ih (n / 256))

theorem leNat_leBytes (k : Nat) : ∀ n, leNat (leBytes k n) = n % 256 ^ k := by
  induction k with
  | zero => exact fun n => (Nat.mod_one n).symm
  | succ k ih =>
    intro n
    calc leNat (leBytes (k + 1) n) = n % 256 + 256 * leNat (leBytes k (n / 256)) := rfl
      _ = n % 256 + 256 * (n / 256 % 256 ^ k) := by rw [ih]
      _ = n % 256 ^ (k + 1) := by rw [Nat.pow_succ', Nat.mod_mul]

theorem State.memBytes_of_mem8 {s : State} {a : Nat} {bs : List Byte} (h : ∀ i (hi : i < bs.length), s.mem8 (a + i) = bs[i]) :
    s.memBytes a bs.length = bs :=
  List.ext_getElem (getRange_length _ _ _ _) fun i _ hi => (getRange_getElem _ _ _ _ _ _).trans (h i hi)

/-- A number of `n` bytes reads back modulo 256^n where its bytes stand. -/
theorem State.memLE_of_mem8 {s : State} {a n v : Nat}
    (h : ∀ i (hi : i < (leBytes n v).length), s.mem8 (a + i) = (leBytes n v)[i]) : s.memLE a n = v % 256 ^ n := by
  have e := State.memBytes_of_mem8 h
  rw [leBytes_length] at e
  exact (congrArg leNat e).trans (leNat_leBytes n v)

end Sys2Proof.Machine

namespace Sys2Proof.Machine

/-! SUPPORT. The freshness map as it is stored (R89 to R93). -/

/-- Where the next map of a context is stored (R89). -/
def State.mapBuffer (s : State) (c : Nat) : Nat := s.mapBase c + 0x100 * ((s.ctx c).mapK % 2)

/-- The state after a map is in its buffer and its figures are in their registers, before an onset is reported (R92 to R96). -/
def State.storeMap (s : State) (c : Nat) (body : List Byte) (stale counts age : Nat) : State :=
  let k := (s.ctx c).mapK
  let s := (s.dramWrite (s.mapBuffer c + 4) body).dramWrite (s.mapBuffer c) (leBytes 4 k)
  let s := s.modCtx c fun x => { x with mapK := (k + 1) % 2 ^ 32, mapStale := stale }
  ((s.setRegN (Reg.FRESH_COUNTS c) counts).setRegN (Reg.FRESH_MAX_AGE c) age).setRegN (Reg.FRESH_MAP_SEQ c) k

/-- From `s` to `t` only device memory, the Reference Cache, registers, contexts and the fault collector differ. -/
def MapFrame (s t : State) : Prop := t = { s with regs := t.regs, ctxs := t.ctxs, mem := t.mem, refc := t.refc, fc := t.fc }

theorem OnlyMemory.mapFrame {s t : State} (h : OnlyMemory s t) : MapFrame s t := by
  unfold MapFrame
  rw [h]

theorem MapFrame.trans {s t u : State} (h : MapFrame s t) (k : MapFrame t u) : MapFrame s u := by
  unfold MapFrame at h
  rw [h] at k
  exact k

theorem MapFrame.modCtx (s : State) (c : Nat) (f : Ctx → Ctx) : MapFrame s (s.modCtx c f) := rfl

theorem MapFrame.bump (s : State) (a n : Nat) : MapFrame s (s.bump a n) := rfl

theorem MapFrame.setRegN (s : State) (a v : Nat) : MapFrame s (s.setRegN a v) := rfl

section
variable {s : State} {c : Nat}

/-- No fence keeps the hardware from the parts of a map's buffer when it keeps it from none of it. -/
theorem State.hwWrite_mapBuffer {body : List Byte} (hlen : body.length = 252)
    (hf : s.firstFenced byHardware (s.mapBuffer c) 0x100 = none) (k : Nat) :
    (s.hwWrite (s.mapBuffer c + 4) body).hwWrite (s.mapBuffer c) (leBytes 4 k) =
      (s.dramWrite (s.mapBuffer c + 4) body).dramWrite (s.mapBuffer c) (leBytes 4 k) := by
  rw [State.hwWrite_of_unfenced (a := s.mapBuffer c + 4) (State.firstFenced_part hf (by omega) (by omega)),
    State.hwWrite_of_unfenced]
  rw [State.dramWrite_firstFenced, leBytes_length]
  exact State.firstFenced_part hf (by omega) (by omega)

/-- A map that no fence keeps back is stored, and perhaps an onset is reported; its body is 252 bytes, the evaluation time
first. -/
theorem State.writeMap_cases (hf : s.firstFenced byHardware (s.mapBuffer c) 0x100 = none) (t : Nat) :
    ∃ body stale counts age, body.length = 252 ∧ body.take 8 = leBytes 8 t ∧
      (s.writeMap c t = s.storeMap c body stale counts age ∨ ∃ cell, s.writeMap c t =
        ((s.storeMap c body stale counts age).bump (Reg.FRESH_STALE_ONSETS c) 1).raise c FaultKind.CELL_STALE cell) := by
  unfold State.writeMap
  extract_lets x cells patterns stale unsourced maxAge age k flags cellBytes body a onset s1
  have hlen : body.length = 252 := by
    simp only [body, cellBytes, List.length_append, leBytes_length, List.length_map, List.length_range, List.length_cons,
      List.length_nil]
  have htime : body.take 8 = leBytes 8 t := by
    simp only [body, List.append_assoc]
    exact List.take_left' (leBytes_length 8 t)
  have hs1 : s1 = (s.dramWrite (s.mapBuffer c + 4) body).dramWrite (s.mapBuffer c) (leBytes 4 k) :=
    State.hwWrite_mapBuffer hlen hf k
  clear_value s1
  subst hs1
  refine ⟨body, stale, stale % 1024 + 65536 * (unsourced % 1024), age, hlen, htime, ?_⟩
  cases onset
  · exact .inl rfl
  · exact .inr ⟨_, rfl⟩

variable {body : List Byte} {stale counts age : Nat}

theorem State.storeMap_mem8 (j : Nat) : (s.storeMap c body stale counts age).mem8 j =
    ((s.dramWrite (s.mapBuffer c + 4) body).dramWrite (s.mapBuffer c) (leBytes 4 (s.ctx c).mapK)).mem8 j := by
  simp only [State.storeMap, State.mem8, State.setRegN, State.setReg, State.modCtx, State.setCtx]

theorem State.storeMap_seq {i : Nat} (hi : i < (leBytes 4 (s.ctx c).mapK).length) :
    (s.storeMap c body stale counts age).mem8 (s.mapBuffer c + i) = (leBytes 4 (s.ctx c).mapK)[i] := by
  rw [State.storeMap_mem8, State.dramWrite_mem8, dif_pos ⟨by omega, by omega⟩]
  simp only [Nat.add_sub_cancel_left]

theorem State.storeMap_body {i : Nat} (hi : i < body.length) :
    (s.storeMap c body stale counts age).mem8 (s.mapBuffer c + 4 + i) = body[i] := by
  rw [State.storeMap_mem8, State.dramWrite_mem8, dif_neg (by rw [leBytes_length]; omega), State.dramWrite_mem8,
    dif_pos ⟨by omega, by omega⟩]
  simp only [Nat.add_sub_cancel_left]

theorem State.storeMap_outside (hlen : body.length = 252) :
    SameMemoryOutside (s.mapBuffer c) 0x100 s (s.storeMap c body stale counts age) := by
  intro j hj
  rw [State.storeMap_mem8, State.dramWrite_mem8, dif_neg (by rw [leBytes_length]; omega), State.dramWrite_mem8,
    dif_neg (by omega)]

theorem State.storeMap_frame : MapFrame s (s.storeMap c body stale counts age) :=
  have hmem : MapFrame s ((s.dramWrite (s.mapBuffer c + 4) body).dramWrite (s.mapBuffer c) (leBytes 4 (s.ctx c).mapK)) :=
    ((s.dramWrite_onlyMemory _ _).trans (State.dramWrite_onlyMemory _ _ _)).mapFrame
  (((hmem.trans (MapFrame.modCtx _ _ _)).trans (MapFrame.setRegN _ _ _)).trans (MapFrame.setRegN _ _ _)).trans
    (MapFrame.setRegN _ _ _)

theorem State.storeMap_ctx (d : Nat) : (s.storeMap c body stale counts age).ctx d =
    if d = c then { s.ctx c with mapK := ((s.ctx c).mapK + 1) % 2 ^ 32, mapStale := stale } else s.ctx d := by
  have h : ∀ e, ((s.dramWrite (s.mapBuffer c + 4) body).dramWrite (s.mapBuffer c) (leBytes 4 (s.ctx c).mapK)).ctx e = s.ctx e := by
    intro e
    rw [State.dramWrite_eq, State.dramWrite_eq]
    rfl
  simp only [State.storeMap, State.setRegN_ctx, State.modCtx_ctx, h]

theorem State.storeMap_reg (j : Nat) : (s.storeMap c body stale counts age).reg j =
    if j = Reg.FRESH_MAP_SEQ c then BitVec.ofNat 32 (s.ctx c).mapK else if j = Reg.FRESH_MAX_AGE c then BitVec.ofNat 32 age
    else if j = Reg.FRESH_COUNTS c then BitVec.ofNat 32 counts else s.reg j := by
  have h : ((s.dramWrite (s.mapBuffer c + 4) body).dramWrite (s.mapBuffer c) (leBytes 4 (s.ctx c).mapK)).reg j = s.reg j := by
    rw [State.dramWrite_eq, State.dramWrite_eq]
    rfl
  simp only [State.storeMap, State.setRegN_reg, State.modCtx_reg, h]

end

/-- The next map of a context stands in its buffer with its evaluation time, it is counted, and nothing outside the buffer is
written. -/
def MapStored (c time : Nat) (s u : State) : Prop :=
  (u.ctx c).mapK = ((s.ctx c).mapK + 1) % 2 ^ 32 ∧
    u.memLE (s.mapBuffer c) 4 = (s.ctx c).mapK % 2 ^ 32 ∧ u.memLE (s.mapBuffer c + 4) 8 = time % 2 ^ 64 ∧
    u.regN (Reg.FRESH_MAP_SEQ c) = (s.ctx c).mapK % 2 ^ 32 ∧
    SameMemoryOutside (s.mapBuffer c) 0x100 s u ∧ OnlyCtx c s u ∧
    SameRegs ([Reg.FRESH_COUNTS c, Reg.FRESH_MAX_AGE c, Reg.FRESH_MAP_SEQ c, Reg.FRESH_STALE_ONSETS c] ++ faultRegs
      FaultKind.CELL_STALE) s u ∧
    MapFrame s u

theorem State.storeMap_stored {s : State} {c t : Nat} {body : List Byte} {stale counts age : Nat} (hlen : body.length = 252)
    (htime : body.take 8 = leBytes 8 t) : MapStored c t s (s.storeMap c body stale counts age) := by
  refine ⟨?_, State.memLE_of_mem8 fun i hi => State.storeMap_seq hi, State.memLE_of_mem8 fun i hi => ?_, ?_,
    State.storeMap_outside hlen, fun d hd => ?_, fun j hj => ?_, State.storeMap_frame⟩
  · rw [State.storeMap_ctx, if_pos rfl]
  · have hi8 : i < 8 := by rwa [leBytes_length] at hi
    rw [State.storeMap_body (by omega)]
    simp only [← htime, List.getElem_take]
  · rw [State.regN_eq, State.storeMap_reg, if_pos rfl, BitVec.toNat_ofNat]
  · rw [State.storeMap_ctx, if_neg hd]
  · simp only [List.cons_append, List.mem_cons, not_or] at hj
    obtain ⟨hcounts, hage, hseq, -⟩ := hj
    rw [State.storeMap_reg, if_neg hseq, if_neg hage, if_neg hcounts]

/-- FRESH_MAP_SEQ is none of the registers that an onset writes. -/
theorem FRESH_MAP_SEQ_ne_onset (c : Nat) :
    Reg.FRESH_MAP_SEQ c ≠ Reg.FRESH_STALE_ONSETS c ∧ Reg.FRESH_MAP_SEQ c ∉ faultRegs FaultKind.CELL_STALE := by
  simp only [faultRegs, Reg.FRESH_MAP_SEQ, Reg.FRESH_STALE_ONSETS, Reg.FAULT_SUPPRESSED, Reg.FAULT_OVERFLOWS, Reg.FAULT_KIND_COUNT,
    FaultKind.CELL_STALE, List.mem_cons, List.not_mem_nil, or_false, not_or]
  omega

/-- Reporting an onset leaves a stored map as it is. -/
theorem MapStored.onset {c t cell : Nat} {s v : State} (h : MapStored c t s v) :
    MapStored c t s ((v.bump (Reg.FRESH_STALE_ONSETS c) 1).raise c FaultKind.CELL_STALE cell) := by
  obtain ⟨hk, hseq, htime, hreg, hmem, hctx, hregs, hframe⟩ := h
  have hsame := (v.bump (Reg.FRESH_STALE_ONSETS c) 1).raise_sameRegs c FaultKind.CELL_STALE cell
  have hraise := ((v.bump (Reg.FRESH_STALE_ONSETS c) 1).raise_onlyMemory c FaultKind.CELL_STALE cell).mapFrame
  have hmem8 := (v.bump (Reg.FRESH_STALE_ONSETS c) 1).raise_mem8 c FaultKind.CELL_STALE cell
  have hctxs := (v.bump (Reg.FRESH_STALE_ONSETS c) 1).raise_ctx c FaultKind.CELL_STALE cell
  obtain ⟨hne, hnot⟩ := FRESH_MAP_SEQ_ne_onset c
  have hle : ∀ a n, ((v.bump (Reg.FRESH_STALE_ONSETS c) 1).raise c FaultKind.CELL_STALE cell).memLE a n = v.memLE a n := by
    intro a n
    rw [State.raise_memLE]
    rfl
  generalize (v.bump (Reg.FRESH_STALE_ONSETS c) 1).raise c FaultKind.CELL_STALE cell = u at *
  refine ⟨?_, (hle _ _).trans hseq, (hle _ _).trans htime, ?_, fun j hj => (hmem8 j).trans (hmem j hj),
    fun d hd => (hctxs d).trans (hctx d hd), fun j hj => ?_, ?_⟩
  · rw [hctxs]
    exact hk
  · rw [State.regN_eq, hsame _ hnot, State.bump_reg, if_neg hne]
    exact hreg
  · have hfault : j ∉ faultRegs FaultKind.CELL_STALE := fun h => hj (List.mem_append_right _ h)
    have honset : j ≠ Reg.FRESH_STALE_ONSETS c := fun h =>
      hj (List.mem_append_left _ (by simp only [h, List.mem_cons, true_or, or_true]))
    rw [hsame j hfault, State.bump_reg, if_neg honset]
    exact hregs j hj
  · exact (hframe.trans (MapFrame.bump _ _ _)).trans hraise

/-- A map that no fence keeps back is stored (R89, R92). -/
theorem State.writeMap_stored {s : State} {c : Nat} (hf : s.firstFenced byHardware (s.mapBuffer c) 0x100 = none) (t : Nat) :
    MapStored c t s (s.writeMap c t) := by
  obtain ⟨body, stale, counts, age, hlen, htime, e | ⟨cell, e⟩⟩ := State.writeMap_cases hf t
  · rw [e]
    exact State.storeMap_stored hlen htime
  · rw [e]
    exact (State.storeMap_stored hlen htime).onset

theorem exec_freshMapWrite_stored {c : Nat} {s : State} (hon : s.ctxEnabled c = true) (hc : s.contract c = true)
    (hen : s.rbit (Reg.FRESH_CTRL c) 4 = true) (hnone : s.rbit (Reg.FRESH_CTRL c) 11 = false)
    (hf : s.firstFenced byHardware (s.mapBuffer c) 0x100 = none) :
    Completes (.freshMapWrite c (s.fld (Reg.FRESH_CTRL c) 10 8)) s
      (MapStored c (s.lastLineTime (s.fld (Reg.FRESH_CTRL c) 10 8)) s) := by
  refine ⟨_, ?_, State.writeMap_stored hf _⟩
  show execFreshMapWrite _ _ s = _
  simp only [execFreshMapWrite, hon, hc, hen, hnone, beq_self_eq_true, Bool.and_self, Bool.not_false, State.doIf_true]

theorem exec_freshMapTimer_stored {c : Nat} {s : State} (hon : s.ctxEnabled c = true) (hc : s.contract c = true)
    (hen : s.rbit (Reg.FRESH_CTRL c) 4 = true) (hnone : s.rbit (Reg.FRESH_CTRL c) 11 = true)
    (hf : s.firstFenced byHardware (s.mapBuffer c) 0x100 = none) :
    Completes (.freshMapTimer c) s (MapStored c s.now s) := by
  refine ⟨_, ?_, State.writeMap_stored hf _⟩
  show execFreshMapTimer _ s = _
  simp only [execFreshMapTimer, hon, hc, hen, hnone, Bool.and_self, State.doIf_true]

end Sys2Proof.Machine

namespace Sys2Proof.Machine

/-! SUPPORT. What the rest of a committed sheet can change: registers, device memory, the fault collector, the messages that
leave, and in the sheet's context everything but the commits that wait and the sheet's own figures (R60 to R78, R131). -/

/-- What a context keeps of its last sheet, and its commits that wait. -/
def Ctx.sheetView (x : Ctx) : List DecPicture × Option Nat × Bool × Option Nat := (x.commits, x.sheetTime, x.sheetLocked, x.sheetAt)

/-- From `s` to `t` a sheet of context `c` has been worked on. -/
structure SheetWork (c : Nat) (s t : State) : Prop where
  frame : t = { s with
    regs := t.regs, mem := t.mem, fc := t.fc, ctxs := t.ctxs, refc := t.refc, sessWait := t.sessWait, pair := t.pair
    out := t.out }
  others : OnlyCtx c s t
  view : (t.ctx c).sheetView = (s.ctx c).sheetView

namespace SheetWork

variable {c : Nat} {s t u : State}

theorem refl (c : Nat) (s : State) : SheetWork c s s := ⟨rfl, fun _ _ => rfl, rfl⟩

theorem trans (h : SheetWork c s t) (k : SheetWork c t u) : SheetWork c s u where
  frame := by
    have hk := k.frame
    rw [h.frame] at hk
    exact hk
  others := fun d hd => (k.others d hd).trans (h.others d hd)
  view := k.view.trans h.view

/-! ### One state operation -/

theorem setReg (h : SheetWork c s t) (k : Nat) (v : Word) : SheetWork c s (t.setReg k v) :=
  h.trans ⟨rfl, fun _ _ => rfl, rfl⟩

theorem bump (h : SheetWork c s t) (k n : Nat) : SheetWork c s (t.bump k n) := h.setReg _ _

theorem setRegN (h : SheetWork c s t) (k v : Nat) : SheetWork c s (t.setRegN k v) := h.setReg _ _

theorem emit (h : SheetWork c s t) (o : Output) : SheetWork c s (t.emit o) := h.trans ⟨rfl, fun _ _ => rfl, rfl⟩

theorem withPair (h : SheetWork c s t) (p : PairCtl) : SheetWork c s { t with pair := p } := h.trans ⟨rfl, fun _ _ => rfl, rfl⟩

theorem withSessWait (h : SheetWork c s t) (w : List WaitMsg) : SheetWork c s { t with sessWait := w } :=
  h.trans ⟨rfl, fun _ _ => rfl, rfl⟩

theorem modCtx (h : SheetWork c s t) {f : Ctx → Ctx} (hf : ∀ x, (f x).sheetView = x.sheetView := by intro _; rfl) :
    SheetWork c s (t.modCtx c f) :=
  h.trans ⟨rfl, fun d hd => by rw [State.modCtx_ctx, if_neg hd], by rw [State.modCtx_ctx, if_pos rfl, hf]⟩

theorem onlyMemory (h : SheetWork c s t) (k : OnlyMemory t u) : SheetWork c s u := by
  have hctx : ∀ d, u.ctx d = t.ctx d := fun d => by rw [k]; rfl
  exact h.trans ⟨by rw [k], fun d _ => hctx d, by rw [hctx]⟩

theorem raise (h : SheetWork c s t) (src kind addr : Nat) : SheetWork c s (t.raise src kind addr) :=
  h.onlyMemory (t.raise_onlyMemory _ _ _)

theorem hwWrite (h : SheetWork c s t) (a : Nat) (bs : List Byte) : SheetWork c s (t.hwWrite a bs) :=
  h.onlyMemory (t.hwWrite_onlyMemory _ _)

theorem doIf (h : SheetWork c s t) (b : Bool) {f : State → State} (hf : SheetWork c s (f t)) : SheetWork c s (t.doIf b f) :=
  State.doIf_ind h hf

theorem bumpIf (h : SheetWork c s t) (b : Bool) (k n : Nat) : SheetWork c s (t.doIf b fun u => u.bump k n) :=
  h.doIf b (h.bump k n)

theorem setRbit (h : SheetWork c s t) (k i : Nat) (b : Bool) : SheetWork c s (t.setRbit k i b) := by
  unfold State.setRbit
  exact h.setReg _ _

/-! ### The outputs that follow a sheet's lock (R131) -/

theorem setOutLocked (h : SheetWork c s t) (n : Nat) (b : Bool) : SheetWork c s (t.setOutLocked n b) := by
  unfold State.setOutLocked
  dsimp only
  split
  · exact (h.setRbit _ _ _).raise _ _ _
  · exact h.setRbit _ _ _

/-! ### The cell record (R60 to R78) -/

theorem storeCell (h : SheetWork c s t) (i : Nat) : SheetWork c s (t.storeCell c i) := by
  unfold State.storeCell
  split
  · exact h.doIf _ (h.hwWrite _ _)
  · exact h

theorem storeCells (h : SheetWork c s t) : SheetWork c s (t.storeCells c) := by
  unfold State.storeCells
  split
  · exact h.hwWrite _ _
  · exact h

theorem putCell (h : SheetWork c s t) (i : Nat) (r : CellRec) : SheetWork c s (t.putCell c i r) :=
  h.modCtx.storeCell i

theorem markCell (h : SheetWork c s t) (i : Nat) (b : Bool) : SheetWork c s (t.markCell c i b) := h.putCell _ _

theorem acceptEntry (h : SheetWork c s t) (e : Entry) (tm : Int) (b : Bool) (n : Nat) :
    SheetWork c s (t.acceptEntry c e tm b n) :=
  ((((h.putCell _ _).bump _ _).bumpIf _ _ _).bumpIf _ _ _)

/-- An entry refused with its counter `k`: its cell is marked after it is counted. -/
theorem refuseEntry (h : SheetWork c s t) (i : Nat) (r : CellRec) (k : Nat) :
    SheetWork c s (((t.putCell c i r).bump k 1).markCell c i false) := ((h.putCell _ _).bump _ _).markCell _ _

theorem note (h : SheetWork c s t) (a : CommitAcc) (e : Entry) (outcome time : Nat) :
    SheetWork c s (a.note t e outcome time).st := h

theorem evalEntry {sh : Sheet2} {arrival : Nat} {marks : Nat → CellMark} {crc : Nat → Nat} {a : CommitAcc}
    (h : SheetWork c s a.st) (e : Entry) : SheetWork c s (evalEntry c sh arrival marks crc a e).st := by
  unfold Machine.evalEntry
  dsimp only
  split
  · exact (h.bump _ _).note _ _ _ _
  split
  · exact (h.refuseEntry _ _ _).note _ _ _ _
  split
  · exact (h.refuseEntry _ _ _).note _ _ _ _
  split
  · exact (h.refuseEntry _ _ _).note _ _ _ _
  split
  · exact (h.refuseEntry _ _ _).note _ _ _ _
  split
  · exact ((h.putCell _ _).bump _ _).note _ _ _ _
  · exact ((h.putCell _ _).acceptEntry _ _ _ _).note _ _ _ _

theorem evalEntries {sh : Sheet2} {arrival : Nat} {marks : Nat → CellMark} {crc : Nat → Nat} (es : List Entry) :
    ∀ {a : CommitAcc}, SheetWork c s a.st → SheetWork c s (es.foldl (Machine.evalEntry c sh arrival marks crc) a).st := by
  induction es with
  | nil => exact fun h => h
  | cons e es ih => exact fun h => ih (h.evalEntry e)

theorem freshStatus (h : SheetWork c s t) (peer : Bool) : SheetWork c s (t.freshStatus c peer) :=
  (h.doIf _ h.storeCells).setRegN _ _

/-! ### The refresh request of the session (R145) -/

theorem leaveUdp (h : SheetWork c s t) (d port addr dport mac : Nat) (b : List Byte) :
    SheetWork c s (t.leaveUdp d port addr dport mac b) :=
  have hsent := (h.emit _).bump (Reg.SESS_MSG_TX d) 1
  hsent.bumpIf _ _ _

theorem sendUdp (h : SheetWork c s t) (d port addr dport : Nat) (b : List Byte) :
    SheetWork c s (t.sendUdp d port addr dport b) := by
  unfold State.sendUdp
  split
  · exact h.leaveUdp _ _ _ _ _ _
  · exact (h.withSessWait _).doIf _ ((h.withSessWait _).emit _)

theorem sendDec (h : SheetWork c s t) (ver typ ack : Nat) (body : List Byte) : SheetWork c s (t.sendDec c ver typ ack body) := by
  unfold State.sendDec
  dsimp only
  split
  · exact h.modCtx
  · split
    · exact h.modCtx
    · exact h.modCtx.sendUdp _ _ _ _ _

theorem sendRefreshReq (h : SheetWork c s t) (r : RefreshSet) (old : Option Await) : SheetWork c s (t.sendRefreshReq c r old) := by
  unfold State.sendRefreshReq
  exact (h.sendDec _ _ _ _).modCtx

theorem flushRefresh (h : SheetWork c s t) : SheetWork c s (t.flushRefresh c) := by
  unfold State.flushRefresh
  exact h.doIf _ (h.sendRefreshReq _ _)

theorem wantRefresh (h : SheetWork c s t) (r : RefreshSet) : SheetWork c s (t.wantRefresh c r) := by
  unfold State.wantRefresh
  dsimp only
  split
  · exact h.modCtx.flushRefresh
  · exact h

/-! ### The cross-check of a pair -/

theorem linkSend (h : SheetWork c s t) (typ : Nat) (payload : List Byte) : SheetWork c s (t.linkSend typ payload) := by
  unfold State.linkSend
  split
  · exact h
  · exact ((h.emit _).bump _ _).withPair _

theorem switchStart (h : SheetWork c s t) : SheetWork c s t.switchStart :=
  ((h.setRegN _ _).linkSend _ _).withPair _

theorem suspect (h : SheetWork c s t) : SheetWork c s t.suspect := by
  unfold State.suspect
  dsimp only
  split
  · exact h.withPair _
  · exact ((h.withPair _).setRbit _ _ _).doIf _ ((h.withPair _).setRbit _ _ _).switchStart

theorem xjudge (h : SheetWork c s t) (l p : XEntry) : SheetWork c s (t.xjudge l p) := by
  unfold State.xjudge
  split
  · exact h
  · exact (h.bump _ _).bump _ _
  · exact h.bump _ _
  · exact (h.bump _ _).raise _ _ _
  · exact ((h.bump _ _).raise _ _ _).suspect
  · exact (h.bump _ _).raise _ _ _

theorem xmatch (h : SheetWork c s t) : SheetWork c s t.xmatch :=
  State.forEach_ind (P := SheetWork c s) (fun l u hu => by
    dsimp only
    split
    · exact (hu.withPair _).xjudge _ _
    · exact hu) h

theorem sendXcheck (n d ts : Nat) : ∀ {t : State} (es : List XEntry), SheetWork c s t → SheetWork c s (t.sendXcheck d ts n es) := by
  induction n with
  | zero => exact fun _ h => h
  | succ n ih =>
    intro t es h
    unfold State.sendXcheck
    split
    · exact h
    · exact ih _ (h.linkSend _ _)

theorem xcheckSend (h : SheetWork c s t) (d ts : Nat) (crcs : List Nat) (os : List (Nat × Nat × Nat × Nat)) :
    SheetWork c s (t.xcheckSend d ts crcs os) := by
  unfold State.xcheckSend
  split
  · exact h
  · exact ((sendXcheck _ _ _ _ h).withPair _).xmatch

end SheetWork

end Sys2Proof.Machine

namespace Sys2Proof.Machine

/-! ### SHEET_COMMIT (R60 to R75, R131) -/

/-- The state with the oldest commit that waits taken. -/
def State.takeCommit (s : State) (c : Nat) (rest : List DecPicture) : State := s.modCtx c fun x => { x with commits := rest }

/-- A version 2 sheet of the decoded picture's geometry, the coded size unchanged: its entries are judged, the cells that miss
are asked for again, and the partner gets the outcomes. -/
def State.commitSheet2 (s : State) (c : Nat) (p : DecPicture) (h : HeldSheet) (sh : Sheet2) : State :=
  let crcs := s.cellCrcs p.pic
  let r := s.commit2 c sh h.arrival p crcs
  let n := (r.2.2.filter fun o => o.2.1 == 4).length
  let s := r.1.modCtx c fun x => { x with dec := { x.dec with rejCrc := min 0xFFFFFFFF (x.dec.rejCrc + n) } }
  (s.wantRefresh c { all := false, cells := r.2.1 }).xcheckSend c p.au.ts crcs r.2.2

/-- The state at the first entry of a version 2 sheet: its picture time, its lock and its arrival are the context's. -/
def State.startSheet2 (s : State) (c : Nat) (sh : Sheet2) : State :=
  (s.sheetLock c sh.locked).modCtx c fun x =>
    { x with sheetTime := sh.picTime, sheetLocked := sh.locked, sheetAt := some s.now }

section
variable {c : Nat} {p : DecPicture} {rest : List DecPicture} {h : HeldSheet} {hs : List HeldSheet} {sh : Sheet2} {s : State}

theorem exec_sheetCommit_of_live (hl : s.live (ctxPage c) = true) : exec (.sheetCommit c) s = .next (s.sheetCommit c) := by
  show execSheetCommit c s = _
  rw [execSheetCommit, State.ifLive_of _ _ _ hl]

theorem State.takeCommit_contract (s : State) (c d : Nat) (rest : List DecPicture) :
    (s.takeCommit c rest).contract d = s.contract d := rfl

theorem State.takeCommit_eq (s : State) (c : Nat) (rest : List DecPicture) :
    s.takeCommit c rest = { s with ctxs := (s.takeCommit c rest).ctxs } := rfl

theorem State.takeCommit_now (s : State) (c : Nat) (rest : List DecPicture) : (s.takeCommit c rest).now = s.now := by
  simp only [State.now, State.takeCommit, State.modCtx, State.setCtx]

theorem State.takeCommit_ctx_same (s : State) (c : Nat) (rest : List DecPicture) :
    (s.takeCommit c rest).ctx c = { s.ctx c with commits := rest } := by
  rw [State.takeCommit, State.modCtx_ctx, if_pos rfl]

/-- With MODE Off or without a sheet the commit that waits is taken, and that is all. -/
theorem State.sheetCommit_unfollowed (hcommits : (s.ctx c).commits = p :: rest) (hno : s.contract c = false ∨ p.au.sheets = []) :
    s.sheetCommit c = s.takeCommit c rest := by
  unfold State.sheetCommit
  rw [hcommits]
  dsimp only
  cases hsheets : p.au.sheets with
  | nil => rfl
  | cons h hs =>
    have hoff : s.contract c = false := hno.resolve_right (by rw [hsheets]; exact List.cons_ne_nil h hs)
    exact if_pos (by rw [← State.takeCommit, State.takeCommit_contract, hoff]; rfl)

/-- A version 2 sheet under the contract: by its geometry, then by the picture's coded size. -/
theorem State.sheetCommit_version2 (hcontract : s.contract c = true) (hcommits : (s.ctx c).commits = p :: rest)
    (hsheets : p.au.sheets = h :: hs) (hver : beAt h.body 0 1 ≠ 1) (hread : readSheet2 h.body = some sh) :
    s.sheetCommit c =
      if sh.cols != cellsAcross p.pic.fmt.w || sh.rows != cellsAcross p.pic.fmt.h then
        (s.takeCommit c rest).bump (Reg.SHEET_GEOM_MISMATCH c) 1
      else if p.pic.fmt.w != (s.ctx c).codedW || p.pic.fmt.h != (s.ctx c).codedH then s.takeCommit c rest
      else (s.takeCommit c rest).commitSheet2 c p h sh := by
  have hon : (!(s.takeCommit c rest).contract c) = false := by rw [State.takeCommit_contract, hcontract]; rfl
  have hver' : (beAt h.body 0 1 == 1) = false := beq_false_of_ne hver
  unfold State.sheetCommit
  rw [hcommits]
  dsimp only
  rw [← State.takeCommit, hsheets, State.takeCommit_ctx_same]
  dsimp only
  rw [hon, hver', hread]
  rfl

theorem SheetWork.followSheet (sh : Sheet2) :
    SheetWork c (s.startSheet2 c sh) ((s.sheetLock c sh.locked).followSheet c sh.locked (some sh.picTime)) :=
  State.forEach_ind (P := SheetWork c (s.startSheet2 c sh)) (fun n _ hu => hu.doIf _ (hu.setOutLocked n false)) (SheetWork.refl c _)

theorem SheetWork.commit2 (sh : Sheet2) (arrival : Nat) (p : DecPicture) (crcs : List Nat) :
    SheetWork c (s.startSheet2 c sh) (s.commit2 c sh arrival p crcs).1 := by
  unfold State.commit2
  dsimp only
  have hjudged := (SheetWork.followSheet (c := c) (s := s) sh).evalEntries (sh := sh) (arrival := arrival) (marks := p.mark)
    (crc := fun i => crcs.getD i 0) (a := { st := _, seen := [], crcRej := none, refresh := [], outcomes := [] }) sh.entries
  split
  · exact hjudged.freshStatus _
  · exact (hjudged.raise _ _ _).freshStatus _

theorem SheetWork.commitSheet2 (p : DecPicture) (h : HeldSheet) (sh : Sheet2) :
    SheetWork c (s.startSheet2 c sh) (s.commitSheet2 c p h sh) :=
  (((SheetWork.commit2 sh _ p _).modCtx).wantRefresh _).xcheckSend _ _ _ _

theorem State.sheetLock_commits (s : State) (c : Nat) (b : Bool) : ((s.sheetLock c b).ctx c).commits = (s.ctx c).commits := by
  rw [State.sheetLock, State.modCtx_ctx, if_pos rfl]

theorem State.startSheet2_eq (s : State) (c : Nat) (sh : Sheet2) :
    s.startSheet2 c sh = { s with ctxs := (s.startSheet2 c sh).ctxs } := rfl

theorem State.startSheet2_view (s : State) (c : Nat) (sh : Sheet2) :
    ((s.startSheet2 c sh).ctx c).sheetView = ((s.ctx c).commits, sh.picTime, sh.locked, some s.now) := by
  rw [State.startSheet2, State.modCtx_ctx, if_pos rfl, ← s.sheetLock_commits c sh.locked]
  rfl

theorem State.startSheet2_others (s : State) (c : Nat) (sh : Sheet2) : OnlyCtx c s (s.startSheet2 c sh) := by
  intro d hd
  rw [State.startSheet2, State.modCtx_ctx, if_neg hd, State.sheetLock, State.modCtx_ctx, if_neg hd]

theorem State.takeCommit_others (s : State) (c : Nat) (rest : List DecPicture) : OnlyCtx c s (s.takeCommit c rest) := by
  intro d hd
  rw [State.takeCommit, State.modCtx_ctx, if_neg hd]

/-- What a sheet's work leaves of its context, and what it changes elsewhere. -/
theorem SheetWork.leaves {t : State} (w : SheetWork c ((s.takeCommit c rest).startSheet2 c sh) t) :
    (t.ctx c).sheetView = (rest, sh.picTime, sh.locked, some s.now) ∧ OnlyCtx c s t ∧ t = { s with
      regs := t.regs, mem := t.mem, fc := t.fc, ctxs := t.ctxs, refc := t.refc, sessWait := t.sessWait, pair := t.pair
      out := t.out } := by
  obtain ⟨hframe, hothers, hview⟩ := w
  rw [State.startSheet2_eq, State.takeCommit_eq] at hframe
  refine ⟨hview.trans ?_, fun d hd => ?_, hframe⟩
  · rw [State.startSheet2_view, State.takeCommit_ctx_same, State.takeCommit_now]
  · rw [hothers d hd, State.startSheet2_others _ _ _ d hd, State.takeCommit_others _ _ _ d hd]

end

/-! ### CELL_FIRST_LINE_CHECK (R75 to R78, R412) -/

theorem exec_cellFirstLineCheck_of_live {n : Fin 8} {i : Fin 16} {cell : Nat} {s : State} (hl : s.live (compPage n.val) = true) :
    exec (.cellFirstLineCheck n i cell) s = .next (s.firstLineCheck n.val i.val cell) := by
  show execCellFirstLineCheck n i cell s = _
  rw [execCellFirstLineCheck, State.ifLive_of _ _ _ hl]

/-- A cell with a picture in a window with HATCH_EN takes the pattern of R78 at its first line's time. -/
theorem State.judgeCell_hatched {s : State} {n cell line : Nat} {w : Win} (hhatch : w.hatch = true)
    (hpic : s.noPicture w.id = false) : s.judgeCell n w cell line = s.cellPattern w.id cell (s.lineTime n line) := by
  simp only [State.judgeCell, hhatch, hpic, Bool.not_true, Bool.false_eq_true, if_false]

theorem State.win_num (s : State) (n i : Nat) : (s.win n i).num = i := rfl

theorem exec_cellFirstLineCheck_hatched {n : Fin 8} {i : Fin 16} {cell line : Nat} {s : State}
    (hl : s.live (compPage n.val) = true) (hout : s.outState n.val ≠ 0) (hrun : (s.dpOut n.val).stopped = false)
    (hnew : (i.val, cell) ∉ (s.dpOut n.val).checked) (hen : s.rbit (Reg.WIN_CTRL n.val i.val) 0 = true)
    (hkind : (s.win n.val i.val).kind = 0) (hhatch : (s.win n.val i.val).hatch = true)
    (hline : s.firstLine n.val i.val cell = some line) (hpic : s.noPicture (s.win n.val i.val).id = false) :
    let p := s.cellPattern (s.win n.val i.val).id cell (s.lineTime n.val line)
    exec (.cellFirstLineCheck n i cell) s = .next ((s.setDpOut n.val { s.dpOut n.val with
      checked := (i.val, cell) :: (s.dpOut n.val).checked
      reads := { win := i.val, cell := cell, pattern := p, rows := s.cellRows n.val (s.win n.val i.val) cell } ::
        (s.dpOut n.val).reads
      drew := if p ≠ 0 ∧ nbit (s.dpOut n.val).drew i.val = false then (s.dpOut n.val).drew + 2 ^ i.val
        else (s.dpOut n.val).drew }).emit (.hatch n.val i.val cell p)) := by
  intro p
  have hread : s.readCell n.val (s.win n.val i.val) cell line =
      { win := i.val, cell := cell, pattern := p, rows := s.cellRows n.val (s.win n.val i.val) cell } := by
    rw [State.readCell, State.judgeCell_hatched hhatch hpic, State.win_num]
  have hguard : (s.outState n.val == 0 || (s.dpOut n.val).stopped || (s.dpOut n.val).checked.elem (i.val, cell) ||
      !s.rbit (Reg.WIN_CTRL n.val i.val) 0 || (s.win n.val i.val).kind != 0) = false := by
    simp [hout, hrun, hnew, hen, hkind]
  have hdrew : (p != 0 && !nbit (s.dpOut n.val).drew i.val) = decide (p ≠ 0 ∧ nbit (s.dpOut n.val).drew i.val = false) := by
    rw [Bool.eq_iff_iff]
    simp only [Bool.and_eq_true, bne_iff_ne, Bool.not_eq_true', decide_eq_true_eq]
  rw [exec_cellFirstLineCheck_of_live hl, State.firstLineCheck]
  dsimp only
  rw [hguard, hline]
  dsimp only
  rw [hread]
  dsimp only
  rw [hdrew]
  simp only [decide_eq_true_eq, Bool.false_eq_true, if_false]

/-- Settles O4: each commit's case by its equation and what a sheet's work leaves, the cell's check by its guards, the map by
`MapStored`. -/
theorem freshnessCommands : Obligations.FreshnessCommands := by
  unfold Obligations.FreshnessCommands
  refine ⟨?_, ?_, ?_, ?_, ?_, ?_⟩
  · intro c p rest s hl hcommits hno
    rw [exec_sheetCommit_of_live hl, State.sheetCommit_unfollowed hcommits hno]
    rfl
  · intro c p rest h hs sh s hl hcontract hcommits hsheets hver hread hgeom
    rw [exec_sheetCommit_of_live hl, State.sheetCommit_version2 hcontract hcommits hsheets hver hread,
      if_pos (by simpa only [Bool.or_eq_true, bne_iff_ne] using hgeom)]
    rfl
  · rintro c p rest h hs sh s hl hcontract hcommits hsheets hver hread ⟨hcols, hrows⟩ ⟨hw, hh⟩
    obtain ⟨hview, hothers, hframe⟩ := (SheetWork.commitSheet2 (s := s.takeCommit c rest) p h sh).leaves
    have hcommit : s.sheetCommit c = (s.takeCommit c rest).commitSheet2 c p h sh := by
      rw [State.sheetCommit_version2 hcontract hcommits hsheets hver hread, if_neg (by simp [hcols, hrows]),
        if_neg (by simp [hw, hh])]
    generalize (s.takeCommit c rest).commitSheet2 c p h sh = t at *
    simp only [Ctx.sheetView, Prod.mk.injEq] at hview
    obtain ⟨hrest, htime, hlocked, hat⟩ := hview
    exact ⟨t, by rw [exec_sheetCommit_of_live hl, hcommit], hrest, htime, hlocked, hat, hothers, by rw [hframe]⟩
  · rintro n i cell line s hl hout hrun hnew ⟨hen, hkind, hhatch⟩ hline hpic
    exact exec_cellFirstLineCheck_hatched hl hout hrun hnew hen hkind hhatch hline hpic
  · rintro c _ _ s hon hcontract hen hnone rfl rfl hf
    exact exec_freshMapWrite_stored hon hcontract hen hnone hf
  · rintro c _ s hon hcontract hen hnone rfl hf
    exact exec_freshMapTimer_stored hon hcontract hen hnone hf

end Sys2Proof.Machine

namespace Sys2Proof.Machine

/-! SUPPORT. A picture start that writes CONTENT_CTUS a second time. -/

/-- ENC_PICTURE_START of a live context outside a pair is the start of its next picture. -/
theorem exec_encPictureStart_unpaired {c : Nat} {s : State} (hl : s.live (ctxPage c) = true) (hp : s.pairRole = 0)
    (pfx : List Byte) (hooks : List (Option Nat)) :
    exec (.encPictureStart c pfx hooks) s = .next (s.encPictureStart c pfx hooks) := by
  show execEncPictureStart c pfx hooks s = _
  rw [execEncPictureStart, State.ifLive_of _ _ _ hl, hp]
  rfl

/-- Context 5 encodes from input port 2, where a captured frame waits; CONTENT_CTUS is 9. Its last source stands in a
prop-room buffer whose owner, 0x36F4A, is no requester: POOL_HELD_DRAM of that number would be at 0x18604 + 8 × 0x36F4A, the
address of CONTENT_CTUS. The coded picture is empty, so that the kernel can run the start. -/
def strayOwnerState : State :=
  let s := [(blkCtrl (ctxPage 5), 1), (Reg.CTX_MODE 5, 1), (Reg.ENC_SOURCE 5, 2), (Reg.CONTENT_CTUS, 9), (blkCtrl 0x018, 1)].foldl
    (fun t p => t.setRegN p.1 p.2) { State.reset with rc := { State.reset.rc with held := [] } }
  ((s.modCtx 5 fun x => { x with srcBuf := some 0x01800000 }).setPoolBuf 0x800000
    { frees := 0, count := 1, owner := 0x36F4A, span := 1 }).modDpIn 2 fun x =>
      { x with
        ring := [0], count := 1
        frames := [(0, { num := 0, times := [(0, some 1000)], lost := [], complete := true })] }

theorem strayOwnerState_takeSource : (strayOwnerState.takeSource 5).2.isSome = true := by decide +kernel

/-- The last source goes back to the prop room (R188), and its owner's POOL_HELD_DRAM, one less than 9, lands in
CONTENT_CTUS. -/
theorem strayOwnerState_contentCtus : (strayOwnerState.encPictureStart 5 [] []).reg Reg.CONTENT_CTUS = 8 := by decide +kernel

/-- No CTU is added to the 9 of CONTENT_CTUS: the coded picture is empty. -/
theorem strayOwnerState_counted :
    sat32 (strayOwnerState.regN Reg.CONTENT_CTUS + (strayOwnerState.ctx 5).ctuCount) = 9 := by decide +kernel

/-- Refutes O9: its first clause counts the classified CTUs from CONTENT_CTUS of any state, but the start also gives the
previous source's buffer back (R188), and where the buffer's owner is a number that no requester has, the return writes
POOL_HELD_DRAM of that owner over CONTENT_CTUS. -/
theorem not_encodeCommands : ¬ Obligations.EncodeCommands := by
  unfold Obligations.EncodeCommands
  rintro ⟨hstart, -⟩
  have hl : strayOwnerState.live (ctxPage 5) = true := by decide +kernel
  have hp : strayOwnerState.pairRole = 0 := by decide +kernel
  obtain ⟨t, ht, -, -, hctus, -⟩ := hstart 5 [] [] ((strayOwnerState.takeSource 5).2.get strayOwnerState_takeSource) strayOwnerState
    hl hp (by decide +kernel) (by decide +kernel) (by decide +kernel) (Option.some_get _).symm
  rw [exec_encPictureStart_unpaired hl hp] at ht
  obtain rfl := Host.Outcome.next.inj ht
  rw [strayOwnerState_contentCtus, strayOwnerState_counted] at hctus
  exact absurd hctus (by decide)

end Sys2Proof.Machine

namespace Sys2Proof.Machine

/-! SUPPORT. What the work of a session may change (R135 to R166): the registers of its context's session machine, its context,
the bytes of its context's cell table, and beside them the parts of the state that `SessParts` names. -/

/-! ### Registers left alone -/

theorem SameRegs.refl (ks : List Nat) (s : State) : SameRegs ks s s := fun _ _ => rfl

theorem SameRegs.trans {ks : List Nat} {s t u : State} (h : SameRegs ks s t) (k : SameRegs ks t u) : SameRegs ks s u :=
  fun j hj => (k j hj).trans (h j hj)

theorem SameRegs.mono {ks ls : List Nat} {s t : State} (h : SameRegs ks s t) (hs : ks ⊆ ls) : SameRegs ls s t :=
  fun j hj => h j fun hk => hj (hs hk)

theorem SameMemoryOutside.refl (a n : Nat) (s : State) : SameMemoryOutside a n s s := fun _ _ => rfl

theorem SameMemoryOutside.trans {a n : Nat} {s t u : State} (h : SameMemoryOutside a n s t) (k : SameMemoryOutside a n t u) :
    SameMemoryOutside a n s u :=
  fun b hb => (k b hb).trans (h b hb)

/-- What holds before a walk over a list and after each of its steps holds after it. -/
theorem State.forEach_mem_ind {α : Type} {P : State → Prop} {f : α → State → State} :
    ∀ {l : List α}, (∀ a ∈ l, ∀ u, P u → P (f a u)) → ∀ {s : State}, P s → P (s.forEach l f)
  | [], _, _, h => h
  | a :: _, hf, _, h =>
    State.forEach_mem_ind (fun b hb => hf b (List.mem_cons_of_mem _ hb)) (hf a List.mem_cons_self _ h)

/-! ### A write of the hardware (R388, R633) -/

theorem State.dramWrite_reg (s : State) (a : Nat) (bs : List Byte) (k : Nat) : (s.dramWrite a bs).reg k = s.reg k := by
  rw [State.dramWrite_eq]; rfl

theorem State.fenceViolation_sameRegs (s : State) (a w : Nat) : SameRegs fenceRegs s (s.fenceViolation a w) := by
  intro k hk
  simp only [fenceRegs, List.cons_append, List.nil_append, List.mem_cons, not_or] at hk
  obtain ⟨hcount, hlo, hhi, hfault⟩ := hk
  rw [State.fenceViolation, State.raise_sameRegs _ _ _ _ k hfault, State.setRegN_reg, if_neg hhi, State.setRegN_reg,
    if_neg hlo, State.bump_reg, if_neg hcount]

theorem State.fenceViolation_mem8 (s : State) (a w b : Nat) : (s.fenceViolation a w).mem8 b = s.mem8 b := by
  rw [State.fenceViolation, State.raise_mem8]
  rfl

theorem State.hwWrite_sameRegs (s : State) (a : Nat) (bs : List Byte) : SameRegs fenceRegs s (s.hwWrite a bs) := by
  have hdram : ∀ (u : State) (b : Nat) (cs : List Byte), SameRegs fenceRegs s u → SameRegs fenceRegs s (u.dramWrite b cs) :=
    fun u b cs hu k hk => (u.dramWrite_reg b cs k).trans (hu k hk)
  unfold State.hwWrite State.devWrite
  split
  · exact hdram _ _ _ (SameRegs.refl _ _)
  · exact (State.forEach_ind (P := SameRegs fenceRegs s) (fun j u hu => State.doIf_ind hu (hdram _ _ _ hu))
      (SameRegs.refl _ _)).trans (State.fenceViolation_sameRegs _ _ _)

/-- Whatever a fence keeps back, nothing outside the bytes given is written. -/
theorem State.hwWrite_outside (s : State) (a : Nat) (bs : List Byte) : SameMemoryOutside a bs.length s (s.hwWrite a bs) := by
  have hdram : ∀ (u : State) (b : Nat) (cs : List Byte), a ≤ b → b + cs.length ≤ a + bs.length →
      SameMemoryOutside a bs.length s u → SameMemoryOutside a bs.length s (u.dramWrite b cs) := by
    intro u b cs hlo hhi hu j hj
    rw [State.dramWrite_mem8, dif_neg (by omega)]
    exact hu j hj
  unfold State.hwWrite State.devWrite
  split
  · exact hdram _ _ _ (Nat.le_refl _) (Nat.le_refl _) (SameMemoryOutside.refl _ _ _)
  · have hwalk : SameMemoryOutside a bs.length s (s.forEach (List.range bs.length) fun j s =>
        s.doIf (!s.fencedOff byHardware (a + j)) fun s => s.dramWrite (a + j) [bs.getD j 0]) := by
      refine State.forEach_mem_ind (P := SameMemoryOutside a bs.length s)
        (fun j hj u hu => State.doIf_ind hu (hdram _ _ _ (Nat.le_add_right _ _) ?_ hu))
        (SameMemoryOutside.refl _ _ _)
      have := List.mem_range.mp hj
      rw [List.length_singleton]
      omega
    exact fun j hj => (State.fenceViolation_mem8 _ _ _ j).trans (hwalk j hj)

/-! ### The cell table (R59, R60, R101) -/

theorem CellRec.bytes_length (r : CellRec) (v1 : Bool) : (r.bytes v1).length = 16 := by
  simp only [CellRec.bytes, List.length_append, leBytes_length]

theorem State.storeCells_cases (s : State) (c : Nat) :
    s.storeCells c = s ∨ ∃ bs : List Byte, bs.length = (s.cellTable c).2 ∧ s.storeCells c = s.hwWrite (s.cellTable c).1 bs := by
  unfold State.storeCells State.cellTable
  cases s.bufOf (s.regN (Reg.FRESH_CELL_TABLE c)) with
  | none => exact .inl rfl
  | some k =>
    refine .inr ⟨_, ?_, rfl⟩
    rw [List.length_flatMap, List.map_congr_left (g := fun _ => 16) fun i _ => CellRec.bytes_length _ _]
    simp only [List.map_const', List.length_range, List.sum_replicate, smul_eq_mul, Nat.mul_comm]

theorem State.storeCells_sameRegs (s : State) (c : Nat) : SameRegs fenceRegs s (s.storeCells c) := by
  rcases s.storeCells_cases c with e | ⟨bs, -, e⟩ <;> rw [e]
  · exact SameRegs.refl _ _
  · exact s.hwWrite_sameRegs _ _

theorem State.storeCells_cellsOnly (s : State) (c : Nat) : CellsOnly c s (s.storeCells c) := by
  rcases s.storeCells_cases c with e | ⟨bs, hlen, e⟩ <;> rw [e]
  · exact fun _ _ => rfl
  · have h := s.hwWrite_outside (s.cellTable c).1 bs
    rwa [hlen] at h

theorem State.storeCells_onlyMemory (s : State) (c : Nat) : OnlyMemory s (s.storeCells c) := by
  rcases s.storeCells_cases c with e | ⟨bs, -, e⟩ <;> rw [e]
  · rfl
  · exact s.hwWrite_onlyMemory _ _

theorem State.bufOf_lt {s : State} {h k : Nat} (e : s.bufOf h = some k) : k < 2 ^ 24 := by
  unfold State.bufOf at e
  dsimp only at e
  split at e
  · obtain rfl := Option.some.inj e
    omega
  · exact absurd e (by simp)

/-- The registers that say where the cell table of a context lies. -/
def tableRegs (c : Nat) : List Nat :=
  Reg.FRESH_CELL_TABLE c :: (List.range 8).flatMap fun i => [Reg.POOL_BASE_LO i, Reg.POOL_BASE_HI i]

theorem poolBase_mem_tableRegs (c : Nat) {i : Nat} (hi : i < 8) :
    Reg.POOL_BASE_LO i ∈ tableRegs c ∧ Reg.POOL_BASE_HI i ∈ tableRegs c := by
  constructor
  all_goals
    refine List.mem_cons_of_mem _ (List.mem_flatMap.mpr ⟨i, List.mem_range.mpr hi, ?_⟩)
    simp only [List.mem_cons, true_or, or_true]

theorem State.bufAddr_congr {s t : State} {c k : Nat} (hr : ∀ j ∈ tableRegs c, t.reg j = s.reg j) (hk : k < 2 ^ 24) :
    t.bufAddr k = s.bufAddr k := by
  obtain ⟨hlo, hhi⟩ := poolBase_mem_tableRegs c (i := k / 2 ^ 21) (by omega)
  simp only [State.bufAddr, State.poolAddr, State.poolOrigin, State.regN_eq, State.fld_eq, hr _ hlo, hr _ hhi]

theorem State.cellTable_congr {s t : State} {c : Nat} (hp : t.pool = s.pool) (hr : ∀ j ∈ tableRegs c, t.reg j = s.reg j) :
    t.cellTable c = s.cellTable c := by
  have hbuf : ∀ h, t.bufOf h = s.bufOf h := by
    intro h
    unfold State.bufOf State.poolGen State.poolBuf
    rw [hp]
  unfold State.cellTable
  rw [hbuf, State.regN_eq, State.regN_eq, hr _ List.mem_cons_self]
  split
  · next k e => rw [State.bufAddr_congr hr (State.bufOf_lt e)]
  · rfl

/-! ### What a session command touches -/

/-- The MAC is known of every address that the sessions of an id and a source of a context answer to. -/
def State.AnswersTo (s : State) (c id src : Nat) : Prop :=
  ∀ e ∈ (s.ctx c).encs, e.id = id → e.src = src → (s.macOf e.port e.src).isSome = true

/-- What a session command touches beside the registers of its session machine: the contexts, the MACs seen, what goes out, the
messages that wait, the pair, the cell table with what a write of it raises; SESS_CTRL, and the loss of a session. -/
structure SessParts where
  ctxs : Bool := false
  macs : Bool := false
  out : Bool := false
  wait : Bool := false
  pair : Bool := false
  store : Bool := false
  ctrl : Bool := false
  lost : Bool := false

/-- The registers of a session command. -/
def SessParts.regs (p : SessParts) (c : Nat) : List Nat :=
  cond p.ctrl [Reg.SESS_CTRL c] [] ++ (cond p.pair [Reg.PAIR_FRAMES_TX] [] ++
    (cond p.lost (faultRegs FaultKind.SESSION_LOST) [] ++ sessRegs c))

theorem SessParts.sess_mem (p : SessParts) {c k : Nat} (h : k ∈ sessRegs c) : k ∈ p.regs c :=
  List.mem_append_right _ (List.mem_append_right _ (List.mem_append_right _ h))

theorem SessParts.fence_sub (p : SessParts) (c : Nat) : fenceRegs ⊆ p.regs c :=
  fun _ h => p.sess_mem (List.mem_append_right _ h)

theorem SessParts.pair_mem {p : SessParts} {c : Nat} (h : p.pair = true) : Reg.PAIR_FRAMES_TX ∈ p.regs c := by
  rw [SessParts.regs, h]
  exact List.mem_append_right _ List.mem_cons_self

theorem SessParts.ctrl_mem {p : SessParts} {c : Nat} (h : p.ctrl = true) : Reg.SESS_CTRL c ∈ p.regs c := by
  rw [SessParts.regs, h]
  exact List.mem_cons_self

theorem SessParts.lost_sub {p : SessParts} {c : Nat} (h : p.lost = true) : faultRegs FaultKind.SESSION_LOST ⊆ p.regs c := by
  intro k hk
  rw [SessParts.regs, h]
  exact List.mem_append_right _ (List.mem_append_right _ (List.mem_append_left _ hk))

theorem mem_of_mem_cond {α : Type} {b : Bool} {l : List α} {x : α} (h : x ∈ cond b l []) : x ∈ l := by
  cases b
  · exact absurd h List.not_mem_nil
  · exact h

/-- No session command writes a register that says where the cell table lies. -/
theorem SessParts.tableRegs_notMem (p : SessParts) {c k : Nat} (hk : k ∈ tableRegs c) : k ∉ p.regs c := by
  have hcase : k = Reg.FRESH_CELL_TABLE c ∨ 0x18000 ≤ k ∧ k < 0x19000 := by
    simp only [tableRegs, List.mem_cons, List.mem_flatMap, List.mem_range, List.not_mem_nil, or_false] at hk
    rcases hk with h | ⟨i, hi, h | h⟩
    · exact .inl h
    all_goals
      simp only [Reg.POOL_BASE_LO, Reg.POOL_BASE_HI] at h
      omega
  have hall : p.regs c ⊆ Reg.SESS_CTRL c :: Reg.PAIR_FRAMES_TX :: (faultRegs FaultKind.SESSION_LOST ++ sessRegs c) := by
    intro j hj
    simp only [SessParts.regs, List.mem_append] at hj
    rcases hj with h | h | h | h
    · exact List.mem_cons.mpr (.inl (List.mem_singleton.mp (mem_of_mem_cond h)))
    · exact List.mem_cons_of_mem _ (List.mem_cons.mpr (.inl (List.mem_singleton.mp (mem_of_mem_cond h))))
    · exact List.mem_cons_of_mem _ (List.mem_cons_of_mem _ (List.mem_append_left _ (mem_of_mem_cond h)))
    · exact List.mem_cons_of_mem _ (List.mem_cons_of_mem _ (List.mem_append_right _ h))
  intro hmem
  have hin := hall hmem
  simp only [faultRegs, sessRegs, fenceRegs, List.cons_append, List.nil_append, List.mem_cons, List.not_mem_nil, or_false,
    Reg.SESS_CTRL, Reg.PAIR_FRAMES_TX, Reg.FAULT_SUPPRESSED, Reg.FAULT_OVERFLOWS, Reg.FAULT_KIND_COUNT, Reg.SESS_MSG_RX,
    Reg.SESS_MSG_TX, Reg.SESS_STATUS, Reg.SESS_PEER_TERMS, Reg.SESS_PEER_DEADLINES, Reg.SESS_REMOTE_STALE, Reg.SESS_REFRESH,
    Reg.SESS_LAST_REFUSAL, Reg.SESS_LOSSES, Reg.FRESH_STATUS, Reg.TRUST_FENCE_VIOLATIONS, Reg.TRUST_FENCE_LAST_LO,
    Reg.TRUST_FENCE_LAST_HI, FaultKind.SESSION_LOST, FaultKind.FENCE_VIOLATION] at hin
  simp only [Reg.FRESH_CELL_TABLE] at hcase
  omega

/-- From `s` to `t` session work of context `c` touches only the parts named. -/
structure SessWork (p : SessParts) (c : Nat) (s t : State) : Prop where
  regs : SameRegs (p.regs c) s t
  others : OnlyCtx c s t
  cells : CellsOnly c s t
  frame : t = { s with
    regs := t.regs, ctxs := cond p.ctxs t.ctxs s.ctxs, macs := cond p.macs t.macs s.macs, out := cond p.out t.out s.out
    sessWait := cond p.wait t.sessWait s.sessWait, pair := cond p.pair t.pair s.pair, mem := cond p.store t.mem s.mem
    refc := cond p.store t.refc s.refc, fc := cond (p.store || p.lost) t.fc s.fc }

namespace SessWork

theorem cond_cond {α : Type} (b : Bool) (x y z : α) : cond b x (cond b y z) = cond b x z := by
  cases b <;> rfl

theorem cond_same {α : Type} (b : Bool) (x : α) : cond b x x = x := by
  cases b <;> rfl

variable {p : SessParts} {c : Nat} {s t u : State}

theorem refl (p : SessParts) (c : Nat) (s : State) : SessWork p c s s :=
  ⟨SameRegs.refl _ _, fun _ _ => rfl, fun _ _ => rfl, by simp only [cond_same]⟩

theorem cellTable (h : SessWork p c s t) : t.cellTable c = s.cellTable c :=
  State.cellTable_congr (by rw [h.frame]) fun _ hj => h.regs _ (p.tableRegs_notMem hj)

theorem trans (h : SessWork p c s t) (k : SessWork p c t u) : SessWork p c s u where
  regs := h.regs.trans k.regs
  others := fun d hd => (k.others d hd).trans (h.others d hd)
  cells := by
    have hk := k.cells
    unfold CellsOnly at hk
    rw [h.cellTable] at hk
    exact SameMemoryOutside.trans h.cells hk
  frame := by
    have hk := k.frame
    rw [h.frame] at hk
    simp only [cond_cond] at hk
    exact hk

/-! ### One state operation -/

theorem setReg (h : SessWork p c s t) {k : Nat} (v : Word) (hk : k ∈ p.regs c) : SessWork p c s (t.setReg k v) :=
  h.trans ⟨fun j hj => by rw [State.setReg_reg, if_neg fun e => hj (by rw [e]; exact hk)], fun _ _ => rfl, fun _ _ => rfl,
    by simp only [State.setReg, cond_same]⟩

theorem setRegN (h : SessWork p c s t) {k : Nat} (v : Nat) (hk : k ∈ sessRegs c) : SessWork p c s (t.setRegN k v) :=
  h.setReg _ (p.sess_mem hk)

theorem bump (h : SessWork p c s t) {k : Nat} (n : Nat) (hk : k ∈ sessRegs c) : SessWork p c s (t.bump k n) :=
  h.setReg _ (p.sess_mem hk)

theorem emit (h : SessWork p c s t) (o : Output) (ho : p.out = true := by rfl) : SessWork p c s (t.emit o) :=
  h.trans ⟨SameRegs.refl _ _, fun _ _ => rfl, fun _ _ => rfl, by simp only [State.emit, ho, cond_true, cond_same]⟩

theorem withMacs (h : SessWork p c s t) (l : List MacEntry) (hp : p.macs = true := by rfl) :
    SessWork p c s { t with macs := l } :=
  h.trans ⟨SameRegs.refl _ _, fun _ _ => rfl, fun _ _ => rfl, by simp only [hp, cond_true, cond_same]⟩

theorem withSessWait (h : SessWork p c s t) (l : List WaitMsg) (hp : p.wait = true := by rfl) :
    SessWork p c s { t with sessWait := l } :=
  h.trans ⟨SameRegs.refl _ _, fun _ _ => rfl, fun _ _ => rfl, by simp only [hp, cond_true, cond_same]⟩

theorem withPair (h : SessWork p c s t) (x : PairCtl) (hp : p.pair = true := by rfl) : SessWork p c s { t with pair := x } :=
  h.trans ⟨SameRegs.refl _ _, fun _ _ => rfl, fun _ _ => rfl, by simp only [hp, cond_true, cond_same]⟩

theorem modCtx (h : SessWork p c s t) (f : Ctx → Ctx) (hp : p.ctxs = true := by rfl) : SessWork p c s (t.modCtx c f) :=
  h.trans ⟨SameRegs.refl _ _, fun d hd => by rw [State.modCtx_ctx, if_neg hd], fun _ _ => rfl,
    by simp only [State.modCtx, State.setCtx, hp, cond_true, cond_same]⟩

theorem doIf (h : SessWork p c s t) (b : Bool) {f : State → State} (hf : SessWork p c s (f t)) : SessWork p c s (t.doIf b f) :=
  State.doIf_ind h hf

theorem storeCells (h : SessWork p c s t) (hp : p.store = true := by rfl) : SessWork p c s (t.storeCells c) := by
  have hframe := t.storeCells_onlyMemory c
  unfold OnlyMemory at hframe
  refine h.trans ⟨(t.storeCells_sameRegs c).mono (p.fence_sub c), fun d _ => ?_, t.storeCells_cellsOnly c, ?_⟩
  · rw [hframe]; rfl
  · rw [hframe]
    simp only [hp, Bool.true_or, cond_true, cond_same]

theorem raiseLost (h : SessWork p c s t) (src addr : Nat) (hp : p.lost = true := by rfl) :
    SessWork p c s (t.raise src FaultKind.SESSION_LOST addr) := by
  refine h.trans ⟨(t.raise_sameRegs _ _ _).mono (SessParts.lost_sub hp), fun d _ => t.raise_ctx _ _ _ d,
    fun b _ => t.raise_mem8 _ _ _ b, ?_⟩
  have hframe := t.raise_frame src FaultKind.SESSION_LOST addr
  rw [hframe]
  simp only [hp, Bool.or_true, cond_true, cond_same]

/-! ### The session's own operations -/

theorem showFresh (h : SessWork p c s t) (hp : p.store = true := by rfl) : SessWork p c s (t.showFresh c) :=
  (h.doIf _ (h.storeCells hp)).setRegN _ (by simp [sessRegs])

theorem sessStatus (h : SessWork p c s t) (hp : p.store = true := by rfl) : SessWork p c s (t.sessStatus c) := by
  unfold State.sessStatus
  dsimp only
  split
  · exact ((((h.showFresh hp).setRegN _ (by simp [sessRegs])).setRegN _ (by simp [sessRegs])).setRegN _
      (by simp [sessRegs])).setRegN _ (by simp [sessRegs])
  · exact (h.showFresh hp).setRegN _ (by simp [sessRegs])

theorem lastRefusal (h : SessWork p c s t) (st : Nat) (b : Bool) : SessWork p c s (t.lastRefusal c st b) :=
  h.setRegN _ (by simp [sessRegs])

theorem heard (h : SessWork p c s t) (m : NetMsg) (hp : p.macs = true := by rfl) : SessWork p c s (t.heard m) :=
  h.withMacs _ hp

theorem leaveUdp (h : SessWork p c s t) (port addr dport mac : Nat) (b : List Byte) (ho : p.out = true := by rfl) :
    SessWork p c s (t.leaveUdp c port addr dport mac b) :=
  have hsent := (h.emit _ ho).bump (k := Reg.SESS_MSG_TX c) 1 (by simp [sessRegs])
  hsent.doIf _ (hsent.bump _ (by simp [sessRegs]))

/-- A message leaves at once where its address is known, and waits where it may. -/
theorem sendUdp (h : SessWork p c s t) {port addr : Nat} (dport : Nat) (b : List Byte)
    (hw : p.wait = true ∨ (t.macOf port addr).isSome = true) (ho : p.out = true := by rfl) :
    SessWork p c s (t.sendUdp c port addr dport b) := by
  unfold State.sendUdp
  split
  · exact h.leaveUdp _ _ _ _ _ ho
  · next hmac =>
    have hwait : p.wait = true := hw.resolve_right (by rw [hmac]; exact Bool.false_ne_true)
    exact (h.withSessWait _ hwait).doIf _ ((h.withSessWait _ hwait).emit _ ho)

theorem linkSend (h : SessWork p c s t) (typ : Nat) (payload : List Byte) (ho : p.out = true := by rfl)
    (hp : p.pair = true := by rfl) : SessWork p c s (t.linkSend typ payload) := by
  unfold State.linkSend
  split
  · exact h
  · exact ((h.emit _ ho).setReg _ (SessParts.pair_mem hp)).withPair _ hp

theorem linkSession (h : SessWork p c s t) (d op : Nat) (e : EncSession) (ho : p.out = true := by rfl)
    (hp : p.pair = true := by rfl) : SessWork p c s (t.linkSession d op e) := by
  unfold State.linkSession
  split
  · exact h
  · exact h.linkSend _ _ ho hp

theorem modEnc (h : SessWork p c s t) (id src : Nat) (f : EncSession → EncSession) (hp : p.ctxs = true := by rfl) :
    SessWork p c s (t.modEnc c id src f) := h.modCtx _ hp

theorem dropEnc (h : SessWork p c s t) (id src : Nat) (hc : p.ctxs = true := by rfl) (hs : p.store = true := by rfl) :
    SessWork p c s (t.dropEnc c id src) := (h.modCtx _ hc).sessStatus hs

theorem closeEnc (h : SessWork p c s t) (id src : Nat) (hc : p.ctxs = true := by rfl) (hs : p.store = true := by rfl)
    (ho : p.out = true := by rfl) (hp : p.pair = true := by rfl) : SessWork p c s (t.closeEnc c id src) := by
  unfold State.closeEnc
  split
  · exact (h.dropEnc _ _ hc hs).linkSession _ _ _ ho hp
  · exact h.dropEnc _ _ hc hs

theorem sendDec (h : SessWork p c s t) (ver typ ack : Nat) (body : List Byte) (hc : p.ctxs = true := by rfl)
    (hw : p.wait = true := by rfl) (ho : p.out = true := by rfl) : SessWork p c s (t.sendDec c ver typ ack body) := by
  unfold State.sendDec
  dsimp only
  split
  · exact h.modCtx _ hc
  · split
    · exact h.modCtx _ hc
    · exact (h.modCtx _ hc).sendUdp _ _ (.inl hw) ho

theorem sendHello (h : SessWork p c s t) (newId : Bool) (n : Nat) (hc : p.ctxs = true := by rfl) (hw : p.wait = true := by rfl)
    (ho : p.out = true := by rfl) (hs : p.store = true := by rfl) : SessWork p c s (t.sendHello c newId n) := by
  unfold State.sendHello
  exact (((h.doIf _ (h.modCtx _ hc)).modCtx _ hc).sendDec _ _ _ _ hc hw ho).sessStatus hs

theorem setSess (h : SessWork p c s t) (st : SessState) (hc : p.ctxs = true := by rfl) (hs : p.store = true := by rfl) :
    SessWork p c s (t.setSess c st) := (h.modCtx _ hc).sessStatus hs

theorem sendKeepalive (h : SessWork p c s t) (hc : p.ctxs = true := by rfl) (hw : p.wait = true := by rfl)
    (ho : p.out = true := by rfl) : SessWork p c s (t.sendKeepalive c) := by
  unfold State.sendKeepalive
  exact (h.sendDec _ _ _ _ hc hw ho).modCtx _ hc

theorem sendRefreshReq (h : SessWork p c s t) (r : RefreshSet) (old : Option Await) (hc : p.ctxs = true := by rfl)
    (hw : p.wait = true := by rfl) (ho : p.out = true := by rfl) : SessWork p c s (t.sendRefreshReq c r old) := by
  unfold State.sendRefreshReq
  exact (h.sendDec _ _ _ _ hc hw ho).modCtx _ hc

theorem sendDecUpdate (h : SessWork p c s t) (old : Option Await) (hc : p.ctxs = true := by rfl)
    (hw : p.wait = true := by rfl) (ho : p.out = true := by rfl) : SessWork p c s (t.sendDecUpdate c old) := by
  unfold State.sendDecUpdate
  exact (h.sendDec _ _ _ _ hc hw ho).modCtx _ hc

theorem sessionLost (h : SessWork p c s t) (hc : p.ctxs = true := by rfl) (hw : p.wait = true := by rfl)
    (ho : p.out = true := by rfl) (hs : p.store = true := by rfl) (hl : p.lost = true := by rfl) :
    SessWork p c s (t.sessionLost c) := by
  unfold State.sessionLost
  exact ((h.raiseLost _ _ hl).bump _ (by simp [sessRegs])).sendHello _ _ hc hw ho hs

/-- The next message of a session leaves at once where the address of every session that it may go to is known. -/
theorem sendEncNext (h : SessWork p c s t) {id src : Nat} (typ ack : Nat) (body : List Byte)
    (hw : p.wait = true ∨ t.AnswersTo c id src)
    (hc : p.ctxs = true := by rfl) (ho : p.out = true := by rfl) : SessWork p c s (t.sendEncNext c id src typ ack body) := by
  unfold State.sendEncNext
  dsimp only
  split
  · next e hfind =>
    refine (h.modEnc _ _ _ hc).sendUdp _ _ (hw.imp_right fun hknown => ?_) ho
    have hmem := List.mem_of_find?_eq_some hfind
    have hkey := List.find?_some hfind
    rw [State.modEnc, State.modCtx_ctx, if_pos rfl, List.mem_map] at hmem
    obtain ⟨x, hx, hxe⟩ := hmem
    simp only [Bool.and_eq_true, beq_iff_eq] at hkey hxe
    have hxk : x.id = id ∧ x.src = src := by
      by_contra hno
      rw [if_neg hno] at hxe
      exact hno (hxe ▸ hkey)
    rw [if_pos hxk] at hxe
    obtain rfl := hxe
    exact hknown x hx hxk.1 hxk.2
  · exact h.modEnc _ _ _ hc

theorem byeAll (h : SessWork p c s t) (reason : Nat) (hc : p.ctxs = true := by rfl) (hw : p.wait = true := by rfl)
    (ho : p.out = true := by rfl) (hp : p.pair = true := by rfl) (hs : p.store = true := by rfl) :
    SessWork p c s (t.byeAll c reason) := by
  unfold State.byeAll
  refine SessWork.sessStatus (SessWork.modCtx ?_ _ hc) hs
  exact State.forEach_ind (P := SessWork p c s) (fun e u hu => (hu.sendEncNext _ _ _ (.inl hw) hc ho).linkSession _ _ _ ho hp) h

theorem sendDecBye (h : SessWork p c s t) (reason : Nat) (hc : p.ctxs = true := by rfl) (hw : p.wait = true := by rfl)
    (ho : p.out = true := by rfl) : SessWork p c s (t.sendDecBye c reason) := h.sendDec _ _ _ _ hc hw ho

/-- What starting and stopping the session machine may change (R815). -/
theorem sessSync (h : SessWork p c s t) (hc : p.ctxs = true := by rfl) (hw : p.wait = true := by rfl)
    (ho : p.out = true := by rfl) (hp : p.pair = true := by rfl) (hs : p.store = true := by rfl) :
    SessWork p c s (t.sessSync c) := by
  unfold State.sessSync
  dsimp only
  split
  · split
    · exact h.byeAll _ hc hw ho hp hs
    · exact h.sessStatus hs
  split
  · split
    · split
      · exact (h.modCtx _ hc).sendHello _ _ hc hw ho hs
      · exact (h.modCtx _ hc).setSess _ hc hs
    · exact h.sessStatus hs
  split
  · exact h.sessStatus hs
  · exact ((h.doIf _ (h.sendDecBye _ hc hw ho)).modCtx _ hc).setSess _ hc hs

end SessWork

end Sys2Proof.Machine

namespace Sys2Proof.Machine

/-! SUPPORT. What each operation of the session protocol leaves in its context, in the MACs seen and in the registers of a
session's figures (R135 to R166). -/

/-! ### The registers that show a session, and those that count its messages -/

/-- The registers that `State.sessStatus` writes. -/
def statusRegs (c : Nat) : List Nat :=
  [Reg.SESS_STATUS c, Reg.SESS_PEER_TERMS c, Reg.SESS_PEER_DEADLINES c, Reg.SESS_REMOTE_STALE c, Reg.FRESH_STATUS c] ++ fenceRegs

/-- The registers that a message which leaves is counted in. -/
def sentRegs (c : Nat) : List Nat := [Reg.SESS_MSG_TX c, Reg.SESS_REFRESH c]

/-- The counts and the refusal that the session machine keeps, and its control. -/
def figureRegs (c : Nat) : List Nat :=
  [Reg.SESS_MSG_RX c, Reg.SESS_LAST_REFUSAL c, Reg.SESS_LOSSES c, Reg.SESS_CTRL c, Reg.SESS_REFRESH c]

theorem figureRegs_notMem_statusRegs {c k : Nat} (hk : k ∈ figureRegs c) : k ∉ statusRegs c := by
  simp only [figureRegs, statusRegs, faultRegs, fenceRegs, List.cons_append, List.nil_append, List.mem_cons, List.not_mem_nil,
    or_false, Reg.SESS_CTRL, Reg.FAULT_SUPPRESSED, Reg.FAULT_OVERFLOWS, Reg.FAULT_KIND_COUNT, Reg.SESS_MSG_RX, Reg.SESS_STATUS,
    Reg.SESS_PEER_TERMS, Reg.SESS_PEER_DEADLINES, Reg.SESS_REMOTE_STALE, Reg.SESS_LAST_REFUSAL, Reg.SESS_LOSSES, Reg.FRESH_STATUS,
    Reg.SESS_REFRESH, Reg.TRUST_FENCE_VIOLATIONS, Reg.TRUST_FENCE_LAST_LO, Reg.TRUST_FENCE_LAST_HI,
    FaultKind.FENCE_VIOLATION] at hk ⊢
  omega

theorem figures_notMem_sentRegs (c : Nat) :
    Reg.SESS_MSG_RX c ∉ sentRegs c ∧ Reg.SESS_LAST_REFUSAL c ∉ sentRegs c ∧ Reg.SESS_LOSSES c ∉ sentRegs c := by
  simp only [sentRegs, List.mem_cons, List.not_mem_nil, or_false, Reg.SESS_MSG_RX, Reg.SESS_LAST_REFUSAL, Reg.SESS_LOSSES,
    Reg.SESS_MSG_TX, Reg.SESS_REFRESH]
  omega

theorem SESS_MSG_RX_ne (c : Nat) : Reg.SESS_MSG_RX c ≠ Reg.SESS_LAST_REFUSAL c ∧ Reg.SESS_MSG_RX c ≠ Reg.SESS_REFRESH c ∧
    Reg.SESS_MSG_RX c ≠ Reg.PAIR_FRAMES_TX ∧ Reg.SESS_LAST_REFUSAL c ≠ Reg.SESS_MSG_RX c := by
  simp only [Reg.SESS_MSG_RX, Reg.SESS_LAST_REFUSAL, Reg.SESS_REFRESH, Reg.PAIR_FRAMES_TX]
  omega

/-! ### The status of a session (R163) -/

theorem State.sessStatus_onlyMemory (s : State) (c : Nat) : OnlyMemory s (s.sessStatus c) :=
  ((SessWork.refl { store := true } c s).sessStatus).frame

theorem State.sessStatus_ctx (s : State) (c d : Nat) : (s.sessStatus c).ctx d = s.ctx d := by
  rw [s.sessStatus_onlyMemory c]; rfl

theorem State.sessStatus_macOf (s : State) (c port addr : Nat) : (s.sessStatus c).macOf port addr = s.macOf port addr := by
  rw [s.sessStatus_onlyMemory c]; rfl

theorem State.sessStatus_sameRegs (s : State) (c : Nat) : SameRegs (statusRegs c) s (s.sessStatus c) := by
  have hset : ∀ {u : State} {k : Nat} (v : Nat), k ∈ statusRegs c → SameRegs (statusRegs c) s u →
      SameRegs (statusRegs c) s (u.setRegN k v) :=
    fun v hk hu j hj => by rw [State.setRegN_reg, if_neg fun e => hj (by rw [e]; exact hk), hu j hj]
  have hfresh : SameRegs (statusRegs c) s (s.showFresh c) :=
    hset _ (by simp [statusRegs]) (State.doIf_ind (SameRegs.refl _ _)
      ((s.storeCells_sameRegs c).mono fun _ h => List.mem_append_right _ h))
  unfold State.sessStatus
  dsimp only
  split
  · exact hset _ (by simp [statusRegs]) (hset _ (by simp [statusRegs]) (hset _ (by simp [statusRegs])
      (hset _ (by simp [statusRegs]) hfresh)))
  · exact hset _ (by simp [statusRegs]) hfresh

theorem State.sessStatus_reg {s : State} {c k : Nat} (hk : k ∈ figureRegs c) : (s.sessStatus c).reg k = s.reg k :=
  s.sessStatus_sameRegs c k (figureRegs_notMem_statusRegs hk)

/-! ### Sending (R135, R812) -/

theorem State.sendUdp_ctx (s : State) (c port addr dport : Nat) (b : List Byte) (d : Nat) :
    (s.sendUdp c port addr dport b).ctx d = s.ctx d := by
  rw [((SessWork.refl { out := true, wait := true } c s).sendUdp dport b (.inl rfl)).frame]; rfl

theorem State.sendUdp_macOf (s : State) (c port addr dport : Nat) (b : List Byte) (q a : Nat) :
    (s.sendUdp c port addr dport b).macOf q a = s.macOf q a := by
  rw [((SessWork.refl { out := true, wait := true } c s).sendUdp dport b (.inl rfl)).frame]; rfl

theorem State.leaveUdp_reg {s : State} {c k : Nat} (hk : k ∉ sentRegs c) (port addr dport mac : Nat) (b : List Byte) :
    (s.leaveUdp c port addr dport mac b).reg k = s.reg k := by
  simp only [sentRegs, List.mem_cons, List.not_mem_nil, or_false, not_or] at hk
  have hput : ((s.putUdp (s.isEncode c) port addr dport mac b).bump (Reg.SESS_MSG_TX c) 1).reg k = s.reg k := by
    rw [State.bump_reg, if_neg hk.1]; rfl
  refine State.doIf_ind (P := fun u => u.reg k = s.reg k) hput ?_
  rw [State.bump_reg, if_neg hk.2]
  exact hput

theorem State.sendUdp_reg {s : State} {c k : Nat} (hk : k ∉ sentRegs c) (port addr dport : Nat) (b : List Byte) :
    (s.sendUdp c port addr dport b).reg k = s.reg k := by
  unfold State.sendUdp
  split
  · exact State.leaveUdp_reg hk _ _ _ _ _
  · dsimp only
    refine State.doIf_ind (P := fun u => u.reg k = s.reg k) ?_ ?_
    · simp only [State.reg]
    · simp only [State.reg, State.emit]

theorem State.linkSession_work (s : State) (c d op : Nat) (e : EncSession) :
    SessWork { out := true, pair := true } c s (s.linkSession d op e) := (SessWork.refl _ c s).linkSession d op e

theorem State.linkSession_ctx (s : State) (c op : Nat) (e : EncSession) (d : Nat) : (s.linkSession c op e).ctx d = s.ctx d := by
  rw [(s.linkSession_work c c op e).frame]; rfl

theorem State.linkSession_macOf (s : State) (c op : Nat) (e : EncSession) (q a : Nat) :
    (s.linkSession c op e).macOf q a = s.macOf q a := by
  rw [(s.linkSession_work c c op e).frame]; rfl

theorem State.linkSend_reg {s : State} {k : Nat} (hk : k ≠ Reg.PAIR_FRAMES_TX) (typ : Nat) (payload : List Byte) :
    (s.linkSend typ payload).reg k = s.reg k := by
  have hsent : ∀ (u : State) (x : PairCtl), ({ u.bump Reg.PAIR_FRAMES_TX 1 with pair := x } : State).reg k = u.reg k :=
    fun u x => (u.bump_reg _ _ k).trans (if_neg hk)
  unfold State.linkSend
  split
  · rfl
  · exact hsent (s.emit _) _

theorem State.linkSession_reg {s : State} {k : Nat} (hk : k ≠ Reg.PAIR_FRAMES_TX) (c op : Nat) (e : EncSession) :
    (s.linkSession c op e).reg k = s.reg k := by
  unfold State.linkSession
  split
  · rfl
  · exact State.linkSend_reg hk _ _

/-! ### The sessions of the encoding end (R145) -/

/-- A function applied to a session of an id and a source, and to no other. -/
def EncSession.atKey (id src : Nat) (f : EncSession → EncSession) (e : EncSession) : EncSession :=
  if e.id = id ∧ e.src = src then f e else e

/-- The function keeps the id and the source of a session. -/
def KeepsKey (f : EncSession → EncSession) : Prop := ∀ e, (f e).id = e.id ∧ (f e).src = e.src

theorem KeepsKey.comp {f g : EncSession → EncSession} (hg : KeepsKey g) (hf : KeepsKey f) : KeepsKey (g ∘ f) :=
  fun e => ⟨(hg _).1.trans (hf e).1, (hg _).2.trans (hf e).2⟩

theorem KeepsKey.atKey {f : EncSession → EncSession} (h : KeepsKey f) (id src : Nat) :
    KeepsKey (EncSession.atKey id src f) := by
  intro e
  unfold EncSession.atKey
  split
  · exact h e
  · exact ⟨rfl, rfl⟩

theorem EncSession.atKey_atKey {id src : Nat} {f : EncSession → EncSession} (g : EncSession → EncSession) (h : KeepsKey f)
    (e : EncSession) : EncSession.atKey id src g (EncSession.atKey id src f e) = EncSession.atKey id src (g ∘ f) e := by
  unfold EncSession.atKey
  by_cases hk : e.id = id ∧ e.src = src
  · rw [if_pos hk, if_pos hk, if_pos (by rw [(h e).1, (h e).2]; exact hk)]
    rfl
  · rw [if_neg hk, if_neg hk, if_neg hk]

theorem map_atKey_map_atKey {id src : Nat} {f : EncSession → EncSession} (g : EncSession → EncSession) (h : KeepsKey f)
    (l : List EncSession) :
    (l.map (EncSession.atKey id src f)).map (EncSession.atKey id src g) = l.map (EncSession.atKey id src (g ∘ f)) := by
  rw [List.map_map]
  exact List.map_congr_left fun e _ => EncSession.atKey_atKey g h e

theorem State.modEnc_encs (s : State) (c id src : Nat) (f : EncSession → EncSession) :
    ((s.modEnc c id src f).ctx c).encs = (s.ctx c).encs.map (EncSession.atKey id src f) := by
  rw [State.modEnc, State.modCtx_ctx, if_pos rfl]
  refine List.map_congr_left fun e _ => ?_
  simp only [EncSession.atKey, Bool.and_eq_true, beq_iff_eq]

theorem State.modEnc_reg (s : State) (c id src : Nat) (f : EncSession → EncSession) (k : Nat) :
    (s.modEnc c id src f).reg k = s.reg k := State.modCtx_reg _ _ _ _

/-- A change that keeps where a session answers to. -/
theorem State.AnswersTo.modEnc {s : State} {c id src : Nat} {f : EncSession → EncSession} (h : s.AnswersTo c id src)
    (hk : KeepsKey f) (hp : ∀ e, (f e).port = e.port) : (s.modEnc c id src f).AnswersTo c id src := by
  intro x hx hid hsrc
  rw [State.modEnc_encs, List.mem_map] at hx
  obtain ⟨y, hy, rfl⟩ := hx
  obtain ⟨hyid, hysrc⟩ := hk.atKey id src y
  have hport : (EncSession.atKey id src f y).port = y.port := by
    unfold EncSession.atKey
    split
    · exact hp y
    · rfl
  rw [hport, hysrc]
  exact h y hy (hyid.symm.trans hid) (hysrc.symm.trans hsrc)

theorem State.AnswersTo.linkSession {s : State} {c id src : Nat} (h : s.AnswersTo c id src) (op : Nat) (e : EncSession) :
    (s.linkSession c op e).AnswersTo c id src := by
  intro x hx hid hsrc
  rw [State.linkSession_ctx] at hx
  rw [State.linkSession_macOf]
  exact h x hx hid hsrc

/-- The next SEQ of a session of the encoding end. -/
def EncSession.nextSeq (e : EncSession) : EncSession := { e with seq := (e.seq + 1) % 2 ^ 32 }

theorem State.sendEncNext_ctx (s : State) (c id src typ ack : Nat) (body : List Byte) (d : Nat) :
    (s.sendEncNext c id src typ ack body).ctx d = (s.modEnc c id src EncSession.nextSeq).ctx d := by
  unfold State.sendEncNext
  dsimp only
  split
  · exact State.sendUdp_ctx _ _ _ _ _ _ _
  · rfl

theorem State.sendEncNext_encs (s : State) (c id src typ ack : Nat) (body : List Byte) :
    ((s.sendEncNext c id src typ ack body).ctx c).encs = (s.ctx c).encs.map (EncSession.atKey id src EncSession.nextSeq) := by
  rw [State.sendEncNext_ctx, State.modEnc_encs]

theorem State.sendEncNext_reg {s : State} {c k : Nat} (hk : k ∉ sentRegs c) (id src typ ack : Nat) (body : List Byte) :
    (s.sendEncNext c id src typ ack body).reg k = s.reg k := by
  unfold State.sendEncNext
  dsimp only
  split
  · exact (State.sendUdp_reg hk _ _ _ _).trans (State.modEnc_reg _ _ _ _ _ _)
  · exact State.modEnc_reg _ _ _ _ _ _

theorem State.closeEnc_encs (s : State) (c id src : Nat) :
    ((s.closeEnc c id src).ctx c).encs = (s.ctx c).encs.filter fun e => !(e.id == id && e.src == src) := by
  have hdrop : ((s.dropEnc c id src).ctx c).encs = (s.ctx c).encs.filter fun e => !(e.id == id && e.src == src) := by
    rw [State.dropEnc, State.sessStatus_ctx, State.modCtx_ctx, if_pos rfl]
  unfold State.closeEnc
  split
  · rw [State.linkSession_ctx]
    exact hdrop
  · exact hdrop

/-! ### The session of the decoding end -/

/-- The session has taken its next SEQ (R141). -/
def Ctx.nextSeq (x : Ctx) : Ctx := { x with dec := { x.dec with seq := (x.dec.seq + 1) % 2 ^ 32 } }

theorem State.sendDec_ctx (s : State) (c ver typ ack : Nat) (body : List Byte) (d : Nat) :
    (s.sendDec c ver typ ack body).ctx d = (s.modCtx c Ctx.nextSeq).ctx d := by
  unfold State.sendDec
  dsimp only
  split
  · rfl
  · split
    · rfl
    · exact State.sendUdp_ctx _ _ _ _ _ _ _

theorem State.sendDec_ctx_same (s : State) (c ver typ ack : Nat) (body : List Byte) :
    (s.sendDec c ver typ ack body).ctx c = (s.ctx c).nextSeq := by
  rw [State.sendDec_ctx, State.modCtx_ctx, if_pos rfl]

theorem State.sendDec_reg {s : State} {c k : Nat} (hk : k ∉ sentRegs c) (ver typ ack : Nat) (body : List Byte) :
    (s.sendDec c ver typ ack body).reg k = s.reg k := by
  unfold State.sendDec
  dsimp only
  split
  · exact State.modCtx_reg _ _ _ _
  · split
    · exact State.modCtx_reg _ _ _ _
    · exact (State.sendUdp_reg hk _ _ _ _).trans (State.modCtx_reg _ _ _ _)

theorem State.sendDec_now (s : State) (c ver typ ack : Nat) (body : List Byte) :
    (s.sendDec c ver typ ack body).now = s.now := by
  rw [((SessWork.refl { ctxs := true, out := true, wait := true } c s).sendDec ver typ ack body).frame]; rfl

/-! ### MACs seen (R812) -/

theorem State.learnMac_macOf (s : State) (port addr mac : Nat) : (s.learnMac port addr mac).macOf port addr = some mac := by
  simp only [State.macOf, State.learnMac, List.find?_cons, BEq.rfl, Bool.and_self, Option.map_some]

end Sys2Proof.Machine

namespace Sys2Proof.Machine

/-! ### Messages of an open session at the encoding end (R140 to R160) -/

theorem beNat_lt (bs : List Byte) : beNat bs < 256 ^ bs.length := by
  suffices h : ∀ (l : List Byte) (a : Nat), l.foldl (fun a b => a * 256 + b.toNat) a < (a + 1) * 256 ^ l.length by
    simpa only [Nat.zero_add, Nat.one_mul, beNat] using h bs 0
  intro l
  induction l with
  | nil => intro a; simp
  | cons b l ih =>
    intro a
    have hb := b.isLt
    calc (b :: l).foldl (fun a b => a * 256 + b.toNat) a < (a * 256 + b.toNat + 1) * 256 ^ l.length := ih _
      _ ≤ ((a + 1) * 256) * 256 ^ l.length := Nat.mul_le_mul_right _ (by omega)
      _ = (a + 1) * 256 ^ (b :: l).length := by rw [List.length_cons, Nat.pow_succ', Nat.mul_assoc]

theorem beAt_lt (bs : List Byte) (o n : Nat) : beAt bs o n < 256 ^ n :=
  (beNat_lt _).trans_le (Nat.pow_le_pow_right (by decide) (List.length_take_le _ _))

theorem State.findEnc_key {s : State} {id src c : Nat} {e : EncSession} (h : s.findEnc id src = some (c, e)) :
    e.id = id ∧ e.src = src := by
  obtain ⟨p, -, hp⟩ := List.exists_of_findSome?_eq_some h
  obtain ⟨x, hx, hpair⟩ := Option.map_eq_some_iff.mp hp
  obtain ⟨-, rfl⟩ := Prod.mk.inj hpair
  simpa only [Bool.and_eq_true, beq_iff_eq] using List.find?_some hx

/-- A session has taken a message: its SEQ, and where it came from (R135, R141). -/
def EncSession.hear (m : NetMsg) (e : EncSession) : EncSession :=
  { e with lastSeq := msgSeq m.bytes, srcPort := m.srcPort.toNat, port := m.port.val }

theorem EncSession.hear_keepsKey (m : NetMsg) : KeepsKey (EncSession.hear m) := fun _ => ⟨rfl, rfl⟩

/-- The state after a message is accepted in a session of the encoding end. -/
def State.heardEnc (s : State) (m : NetMsg) (c : Nat) (e : EncSession) : State :=
  ((s.heard m).modEnc c e.id e.src (EncSession.hear m)).bump (Reg.SESS_MSG_RX c) 1

section
variable {s : State} {m : NetMsg} {typ c : Nat} {e : EncSession}

theorem State.judgeEnc_heard (h : HeardByEnc s m typ c e) : s.judgeEnc m typ = (some (c, e), s.heardEnc m c e) := by
  obtain ⟨-, hframed, hsound, hfind, hver, hlater⟩ := h
  have hok : (msgSound m.bytes typ && (msgVer m.bytes == e.version || (typ == 10 && msgVer m.bytes == 1)) &&
      later32 (msgSeq m.bytes) e.lastSeq) = true := by
    rw [hsound, hlater]
    simpa using hver
  unfold State.judgeEnc
  rw [hframed, hfind]
  dsimp only
  rw [if_pos hok]
  rfl

theorem HeardByEnc.found (h : HeardByEnc s m typ c e) :
    (msgFramed m.bytes && (s.findEnc (msgId m.bytes) m.src.toNat).isSome) = true := by
  obtain ⟨-, hframed, -, hfind, -⟩ := h
  rw [hframed, hfind]
  rfl

theorem HeardByEnc.src_eq (h : HeardByEnc s m typ c e) : e.src = m.src.toNat := by
  obtain ⟨-, -, -, hfind, -⟩ := h
  exact (State.findEnc_key hfind).2

theorem State.heardEnc_work (p : SessParts) (hc : p.ctxs = true := by rfl) (hm : p.macs = true := by rfl) :
    SessWork p c s (s.heardEnc m c e) :=
  (((SessWork.refl p c s).heard m hm).modEnc _ _ _ hc).bump _ (by simp [sessRegs])

theorem State.heardEnc_encs :
    ((s.heardEnc m c e).ctx c).encs = (s.ctx c).encs.map (EncSession.atKey e.id e.src (EncSession.hear m)) := by
  rw [State.heardEnc, State.bump_ctx, State.modEnc_encs]
  rfl

theorem State.heardEnc_ctx : (s.heardEnc m c e).ctx c =
    { s.ctx c with encs := (s.ctx c).encs.map (EncSession.atKey e.id e.src (EncSession.hear m)) } := by
  rw [← State.heardEnc_encs (s := s), State.heardEnc, State.bump_ctx, State.modEnc, State.modCtx_ctx, if_pos rfl]
  rfl

theorem State.heardEnc_reg (k : Nat) : (s.heardEnc m c e).reg k =
    if k = Reg.SESS_MSG_RX c then sat32 (s.regN (Reg.SESS_MSG_RX c) + 1) else s.reg k := State.bump_reg _ _ _ _

theorem State.heardEnc_macOf : (s.heardEnc m c e).macOf m.port.val m.src.toNat = some m.mac.toNat :=
  s.learnMac_macOf m.port.val m.src.toNat m.mac.toNat

/-- The MAC of the sender is known, and every session that took the message answers to the sender. -/
theorem State.heardEnc_answersTo (h : HeardByEnc s m typ c e) : (s.heardEnc m c e).AnswersTo c e.id e.src := by
  intro x hx hid hsrc
  rw [State.heardEnc_encs, List.mem_map] at hx
  obtain ⟨y, -, rfl⟩ := hx
  obtain ⟨hyid, hysrc⟩ := (EncSession.hear_keepsKey m).atKey e.id e.src y
  have hport : (EncSession.atKey e.id e.src (EncSession.hear m) y).port = m.port.val := by
    unfold EncSession.atKey
    rw [if_pos ⟨hyid.symm.trans hid, hysrc.symm.trans hsrc⟩]
    rfl
  rw [hport, hsrc, h.src_eq, State.heardEnc_macOf]
  rfl

end

/-! ### KEEPALIVE_RX (R148) -/

/-- A version 2 session takes the counts of a KEEPALIVE. -/
def EncSession.takeCounts (m : NetMsg) (e : EncSession) : EncSession :=
  if e.version == 2 then { e with stale := beAt m.bytes 28 2, unsourced := beAt m.bytes 30 2 } else e

theorem EncSession.takeCounts_keepsKey (m : NetMsg) : KeepsKey (EncSession.takeCounts m) := by
  intro e
  unfold EncSession.takeCounts
  split
  · exact ⟨rfl, rfl⟩
  · exact ⟨rfl, rfl⟩

theorem EncSession.takeCounts_port (m : NetMsg) (e : EncSession) : (EncSession.takeCounts m e).port = e.port := by
  unfold EncSession.takeCounts
  split
  · rfl
  · rfl

/-- What a KEEPALIVE leaves of its session. -/
theorem EncSession.nextSeq_takeCounts_hear (m : NetMsg) (x : EncSession) :
    (EncSession.nextSeq ∘ (EncSession.takeCounts m ∘ EncSession.hear m)) x =
      { x with
        lastSeq := msgSeq m.bytes, srcPort := m.srcPort.toNat, port := m.port.val, seq := (x.seq + 1) % 2 ^ 32
        stale := if x.version = 2 then beAt m.bytes 28 2 else x.stale
        unsourced := if x.version = 2 then beAt m.bytes 30 2 else x.unsourced } := by
  by_cases hv : x.version = 2 <;>
    simp only [Function.comp_apply, EncSession.nextSeq, EncSession.takeCounts, EncSession.hear, beq_iff_eq, hv, if_true, if_false]

section
variable {s : State} {m : NetMsg} {c : Nat} {e : EncSession}

theorem exec_keepaliveRx_heard (h : HeardByEnc s m 4 c e) : ∃ body, exec (.keepaliveRx m) s =
    .next ((((s.heardEnc m c e).modEnc c e.id e.src (EncSession.takeCounts m)).sendEncNext c e.id e.src 5 (msgSeq m.bytes)
      body).sessStatus c) := by
  let u := (s.heardEnc m c e).modEnc c e.id e.src (EncSession.takeCounts m)
  refine ⟨beBytes 8 u.now ++ [BitVec.ofNat 8 (b2n u.locked)] ++ beBytes 3 0, ?_⟩
  show execKeepaliveRx m s = _
  rw [execKeepaliveRx, State.ifLive_of _ _ _ h.1, State.judgeEnc_heard h]
  rfl

theorem keepaliveRx_completes (h : HeardByEnc s m 4 c e) :
    Completes (.keepaliveRx m) s fun t => (t.ctx c).encs = (s.ctx c).encs.map (EncSession.atKey e.id e.src
        (EncSession.nextSeq ∘ (EncSession.takeCounts m ∘ EncSession.hear m))) ∧
      t.reg (Reg.SESS_MSG_RX c) = sat32 (s.regN (Reg.SESS_MSG_RX c) + 1) ∧
      SessWork { ctxs := true, macs := true, out := true, store := true } c s t := by
  obtain ⟨body, hexec⟩ := exec_keepaliveRx_heard h
  have hto := (State.heardEnc_answersTo h).modEnc (EncSession.takeCounts_keepsKey m) (EncSession.takeCounts_port m)
  have hwork := ((State.heardEnc_work { ctxs := true, macs := true, out := true, store := true }).modEnc e.id e.src
    (EncSession.takeCounts m)).sendEncNext 5 (msgSeq m.bytes) body (.inr hto)
  refine ⟨_, hexec, ?_, ?_, hwork.sessStatus⟩
  · rw [State.sessStatus_ctx, State.sendEncNext_encs, State.modEnc_encs, State.heardEnc_encs,
      map_atKey_map_atKey _ (EncSession.hear_keepsKey m),
      map_atKey_map_atKey _ ((EncSession.takeCounts_keepsKey m).comp (EncSession.hear_keepsKey m))]
  · rw [State.sessStatus_reg (by simp [figureRegs]), State.sendEncNext_reg (figures_notMem_sentRegs c).1, State.modEnc_reg,
      State.heardEnc_reg, if_pos rfl]

/-! ### REFRESH_REQ_RX (R157) -/

/-- The cells that a REFRESH_REQ of a context asks for. -/
def refreshAsked (x : Ctx) (b : List Byte) : RefreshSet :=
  { all := nbit (beAt b 20 1) 0, cells := if beAt b 22 2 = x.cellCount then bitmapCells b x.cellCount else [] }

/-- A REFRESH_REQ merged into the pending set of its context. -/
def Ctx.takeRefreshReq (m : NetMsg) (e : EncSession) (x : Ctx) : Ctx :=
  { x with
    encPending := x.encPending.join (refreshAsked x m.bytes)
    refreshAcks := x.refreshAcks ++ [(e.id, e.src, msgSeq m.bytes, m.port.val)] }

theorem exec_refreshReqRx_heard (h : HeardByEnc s m 6 c e) : exec (.refreshReqRx m) s =
    .next (((s.heardEnc m c e).modCtx c (Ctx.takeRefreshReq m e)).bump (Reg.SESS_REFRESH c) 1) := by
  show execRefreshReqRx m s = _
  rw [execRefreshReqRx, State.ifLive_of _ _ _ h.1, State.judgeEnc_heard h]
  simp only [State.modCtx, Ctx.takeRefreshReq, refreshAsked, beq_iff_eq]

theorem refreshReqRx_completes (h : HeardByEnc s m 6 c e) :
    Completes (.refreshReqRx m) s fun t =>
      (t.ctx c).refreshAcks = (s.ctx c).refreshAcks ++ [(e.id, e.src, msgSeq m.bytes, m.port.val)] ∧
      (t.ctx c).encPending = (s.ctx c).encPending.join (refreshAsked (s.ctx c) m.bytes) ∧
      t.reg (Reg.SESS_REFRESH c) = sat32 (s.regN (Reg.SESS_REFRESH c) + 1) ∧
      t.reg (Reg.SESS_MSG_RX c) = sat32 (s.regN (Reg.SESS_MSG_RX c) + 1) ∧ SessWork { ctxs := true, macs := true } c s t := by
  obtain ⟨-, hne, -⟩ := SESS_MSG_RX_ne c
  have hctx : (((s.heardEnc m c e).modCtx c (Ctx.takeRefreshReq m e)).bump (Reg.SESS_REFRESH c) 1).ctx c =
      Ctx.takeRefreshReq m e ((s.heardEnc m c e).ctx c) := by
    rw [State.bump_ctx, State.modCtx_ctx, if_pos rfl]
  refine ⟨_, exec_refreshReqRx_heard h, ?_, ?_, ?_, ?_,
    ((State.heardEnc_work _).modCtx (Ctx.takeRefreshReq m e)).bump _ (by simp [sessRegs])⟩
  · rw [hctx, State.heardEnc_ctx]
    rfl
  · rw [hctx, State.heardEnc_ctx]
    rfl
  · rw [State.bump_reg, if_pos rfl, State.regN_eq, State.modCtx_reg, State.heardEnc_reg, if_neg hne.symm, State.regN_eq]
  · rw [State.bump_reg, if_neg hne, State.modCtx_reg, State.heardEnc_reg, if_pos rfl]

/-! ### UPDATE_RX (R159) -/

/-- A session takes the terms of an UPDATE. -/
def EncSession.takeTerms (m : NetMsg) (e : EncSession) : EncSession :=
  { e with dlExact := beAt m.bytes 20 2, dlLossy := beAt m.bytes 22 2, netAllow := beAt m.bytes 24 2 }

theorem EncSession.takeTerms_keepsKey (m : NetMsg) : KeepsKey (EncSession.takeTerms m) := fun _ => ⟨rfl, rfl⟩

theorem State.heardEnc_fld {k : Nat} (hk : k ≠ Reg.SESS_MSG_RX c) (hi lo : Nat) :
    (s.heardEnc m c e).fld k hi lo = s.fld k hi lo := by
  rw [State.fld_eq, State.heardEnc_reg, if_neg hk, State.fld_eq]

theorem SESS_MSG_RX_ne_terms (c : Nat) :
    Reg.FRESH_RENEWAL c ≠ Reg.SESS_MSG_RX c ∧ Reg.FRESH_NET_ALLOW c ≠ Reg.SESS_MSG_RX c ∧
      Reg.SESS_CTRL c ≠ Reg.SESS_MSG_RX c := by
  simp only [Reg.FRESH_RENEWAL, Reg.FRESH_NET_ALLOW, Reg.SESS_CTRL, Reg.SESS_MSG_RX]
  omega

/-- Terms under R145 rows 2 and 5 are stored, and answered with OK. -/
theorem State.updateAtEnc_accepted (hdl : badDeadline (beAt m.bytes 20 2) = false ∧ badDeadline (beAt m.bytes 22 2) = false)
    (hfit : s.fld (Reg.FRESH_RENEWAL c) 15 0 + max (beAt m.bytes 24 2) (s.fld (Reg.FRESH_NET_ALLOW c) 15 0) ≤
      min (beAt m.bytes 20 2) (beAt m.bytes 22 2)) :
    s.updateAtEnc c e m = ((((s.modEnc c e.id e.src (EncSession.takeTerms m)).linkSession c 3 (e.takeTerms m)).sendEncNext c e.id e.src
      9 (msgSeq m.bytes) (beBytes 2 0 ++ beBytes 2 0 ++ beBytes 4 0)).sessStatus c) := by
  have hlim : ¬ ((s.fld (Reg.FRESH_RENEWAL c) 15 0 : Nat) : Int) > ((min (beAt m.bytes 20 2) (beAt m.bytes 22 2) : Nat) : Int) -
      ((max (beAt m.bytes 24 2) (s.fld (Reg.FRESH_NET_ALLOW c) 15 0) : Nat) : Int) := by
    omega
  unfold State.updateAtEnc
  simp only [hdl.1, hdl.2, hlim, if_false, Bool.false_eq_true]
  rfl

theorem exec_updateRx_heard (h : HeardByEnc s m 8 c e) :
    exec (.updateRx m) s = .next ((s.heardEnc m c e).updateAtEnc c e m) := by
  show execUpdateRx m s = _
  rw [execUpdateRx, State.ifLive_of _ _ _ h.1, if_pos h.found, State.judgeEnc_heard h]

theorem updateRx_completes (h : HeardByEnc s m 8 c e)
    (hdl : badDeadline (beAt m.bytes 20 2) = false ∧ badDeadline (beAt m.bytes 22 2) = false)
    (hfit : s.fld (Reg.FRESH_RENEWAL c) 15 0 + max (beAt m.bytes 24 2) (s.fld (Reg.FRESH_NET_ALLOW c) 15 0) ≤
      min (beAt m.bytes 20 2) (beAt m.bytes 22 2)) :
    Completes (.updateRx m) s fun t => (t.ctx c).encs = (s.ctx c).encs.map (EncSession.atKey e.id e.src
        (EncSession.nextSeq ∘ (EncSession.takeTerms m ∘ EncSession.hear m))) ∧
      SessWork { ctxs := true, macs := true, out := true, pair := true, store := true } c s t := by
  obtain ⟨hrenewal, hallow, -⟩ := SESS_MSG_RX_ne_terms c
  have hexec := exec_updateRx_heard h
  rw [State.updateAtEnc_accepted hdl (by rwa [State.heardEnc_fld hrenewal, State.heardEnc_fld hallow])] at hexec
  have hto := ((State.heardEnc_answersTo h).modEnc (EncSession.takeTerms_keepsKey m) fun _ => rfl).linkSession 3 (e.takeTerms m)
  have hwork := ((((State.heardEnc_work { ctxs := true, macs := true, out := true, pair := true, store := true }).modEnc e.id e.src
    (EncSession.takeTerms m)).linkSession c 3 (e.takeTerms m)).sendEncNext 9 (msgSeq m.bytes)
    (beBytes 2 0 ++ beBytes 2 0 ++ beBytes 4 0) (.inr hto)).sessStatus
  refine ⟨_, hexec, ?_, hwork⟩
  rw [State.sessStatus_ctx, State.sendEncNext_encs, State.linkSession_ctx, State.modEnc_encs, State.heardEnc_encs,
    map_atKey_map_atKey _ (EncSession.hear_keepsKey m),
    map_atKey_map_atKey _ ((EncSession.takeTerms_keepsKey m).comp (EncSession.hear_keepsKey m))]

/-! ### UPDATE_ACK_RX (R161) -/

/-- A session no longer waits for the UPDATEs that an answer is to. -/
def EncSession.answered (m : NetMsg) (e : EncSession) : EncSession :=
  { e with updWait := awaitsAfter e.updWait (msgAck m.bytes) }

theorem exec_updateAckRx_heard (h : HeardByEnc s m 9 c e) (hhit : ∃ a ∈ e.updWait, msgAck m.bytes ∈ a.seqs) :
    exec (.updateAckRx m) s = .next (((s.heardEnc m c e).modEnc c e.id e.src (EncSession.answered m)).doIf
      (beAt m.bytes 20 2 != 0) fun u => u.lastRefusal c (beAt m.bytes 20 2) false) := by
  have hany : (e.updWait.any fun a => a.hit (msgAck m.bytes)) = true := by
    obtain ⟨a, ha, hseq⟩ := hhit
    exact List.any_eq_true.mpr ⟨a, ha, List.elem_eq_true_of_mem hseq⟩
  show execUpdateAckRx m s = _
  rw [execUpdateAckRx, State.ifLive_of _ _ _ h.1, if_pos h.found, State.judgeEnc_heard h]
  dsimp only
  rw [hany]
  rfl

theorem State.lastRefusal_reg (s : State) (c st : Nat) (hst : st < 65536) :
    (s.lastRefusal c st false).reg (Reg.SESS_LAST_REFUSAL c) = BitVec.ofNat 32 st := by
  rw [State.lastRefusal, State.setRegN_reg, if_pos rfl, Nat.mod_eq_of_lt hst]
  rfl

theorem updateAckRx_completes (h : HeardByEnc s m 9 c e) (hhit : ∃ a ∈ e.updWait, msgAck m.bytes ∈ a.seqs) :
    Completes (.updateAckRx m) s fun t => (t.ctx c).encs = (s.ctx c).encs.map (EncSession.atKey e.id e.src
        (EncSession.answered m ∘ EncSession.hear m)) ∧
      t.reg (Reg.SESS_LAST_REFUSAL c) = (if beAt m.bytes 20 2 = 0 then s.reg (Reg.SESS_LAST_REFUSAL c) else
        BitVec.ofNat 32 (beAt m.bytes 20 2)) ∧ SessWork { ctxs := true, macs := true } c s t := by
  obtain ⟨-, -, -, hne⟩ := SESS_MSG_RX_ne c
  have hwork := (State.heardEnc_work (s := s) (m := m) (c := c) (e := e) { ctxs := true, macs := true }).modEnc e.id
    e.src (EncSession.answered m)
  have hencs : (((s.heardEnc m c e).modEnc c e.id e.src (EncSession.answered m)).ctx c).encs = (s.ctx c).encs.map
      (EncSession.atKey e.id e.src (EncSession.answered m ∘ EncSession.hear m)) := by
    rw [State.modEnc_encs, State.heardEnc_encs, map_atKey_map_atKey _ (EncSession.hear_keepsKey m)]
  refine ⟨_, exec_updateAckRx_heard h hhit, ?_, ?_, hwork.doIf _ (hwork.lastRefusal _ _)⟩
  · exact State.doIf_ind (P := fun t => (t.ctx c).encs = _) hencs hencs
  · by_cases hst : beAt m.bytes 20 2 = 0
    · rw [if_pos hst, hst]
      exact (State.modEnc_reg _ _ _ _ _ _).trans ((State.heardEnc_reg _).trans (if_neg hne))
    · rw [if_neg hst, bne_iff_ne.mpr hst]
      exact State.lastRefusal_reg _ _ _ (beAt_lt m.bytes 20 2)

/-! ### BYE_RX (R148) -/

theorem exec_byeRx_heard (h : HeardByEnc s m 10 c e) :
    exec (.byeRx m) s = .next ((s.heardEnc m c e).closeEnc c e.id e.src) := by
  show execByeRx m s = _
  rw [execByeRx, State.ifLive_of _ _ _ h.1, if_pos h.found, State.judgeEnc_heard h]

theorem byeRx_completes (h : HeardByEnc s m 10 c e) :
    Completes (.byeRx m) s fun t => (t.ctx c).encs.map (fun x => (x.id, x.src)) =
        ((s.ctx c).encs.filter (fun x => !(x.id == e.id && x.src == e.src))).map (fun x => (x.id, x.src)) ∧
      SessWork { ctxs := true, macs := true, out := true, pair := true, store := true } c s t := by
  refine ⟨_, exec_byeRx_heard h, ?_, (State.heardEnc_work _).closeEnc _ _⟩
  have hkey := (EncSession.hear_keepsKey m).atKey e.id e.src
  rw [State.closeEnc_encs, State.heardEnc_encs, List.filter_map, List.map_map]
  have hsame : ((fun x : EncSession => !(x.id == e.id && x.src == e.src)) ∘ EncSession.atKey e.id e.src (EncSession.hear m)) =
      fun x => !(x.id == e.id && x.src == e.src) :=
    funext fun x => by rw [Function.comp_apply, (hkey x).1, (hkey x).2]
  rw [hsame]
  exact List.map_congr_left fun x _ => Prod.ext (hkey x).1 (hkey x).2

end

/-! ### HELLO_RX (R145 to R147) -/

/-- The session that a HELLO opens. -/
def helloSession (m : NetMsg) (v : Nat) : EncSession :=
  { id := msgId m.bytes, src := m.src.toNat, srcPort := m.srcPort.toNat, port := m.port.val, version := v
    dlExact := if v = 2 then (readHello m.bytes).dlExact else (readHello m.bytes).dlPic
    dlLossy := if v = 2 then (readHello m.bytes).dlLossy else (readHello m.bytes).dlPic
    netAllow := (readHello m.bytes).netAllow, kaMs := (readHello m.bytes).kaMs, lastSeq := msgSeq m.bytes, seq := 1, stale := 0
    unsourced := 0, updWait := [] }

/-- The state after a HELLO for a stream of context `c` is heard and counted. -/
def State.heardHello (s : State) (m : NetMsg) (c : Nat) : State := (s.heard m).bump (Reg.SESS_MSG_RX c) 1

/-- A HELLO that opens no session anew and whose stream context `c` codes. -/
structure HelloFor (s : State) (m : NetMsg) (c : Nat) : Prop where
  live : s.live (0x030 + m.port.val) = true
  framed : msgFramed m.bytes = true
  sound : msgSound m.bytes 1 = true
  named : msgId m.bytes ≠ 0
  fresh : s.findEnc (msgId m.bytes) m.src.toNat = none
  stream : s.ctxOfStream (readHello m.bytes).stream = some c

/-- R145 reads of a context its figures and three registers. -/
theorem State.decideHello_congr {s t : State} {c : Nat} (hc : t.ctx c = s.ctx c)
    (hctrl : t.reg (Reg.SESS_CTRL c) = s.reg (Reg.SESS_CTRL c))
    (hallow : t.reg (Reg.FRESH_NET_ALLOW c) = s.reg (Reg.FRESH_NET_ALLOW c))
    (hren : t.reg (Reg.FRESH_RENEWAL c) = s.reg (Reg.FRESH_RENEWAL c)) (h : HelloTerms) :
    t.decideHello c h = s.decideHello c h := by
  have hmin : t.verMin c = s.verMin c := by rw [State.verMin, State.fld_eq, hctrl]; rfl
  have hmax : t.verMax c = s.verMax c := by rw [State.verMax, State.fld_eq, hctrl]; rfl
  have hpolicy : t.v1Policy c = s.v1Policy c := by rw [State.v1Policy, State.fld_eq, hctrl]; rfl
  have hown : t.fld (Reg.FRESH_NET_ALLOW c) 15 0 = s.fld (Reg.FRESH_NET_ALLOW c) 15 0 := by rw [State.fld_eq, hallow]; rfl
  have hrenewal : t.fld (Reg.FRESH_RENEWAL c) 15 0 = s.fld (Reg.FRESH_RENEWAL c) 15 0 := by rw [State.fld_eq, hren]; rfl
  unfold State.decideHello
  rw [hc, hmin, hmax, hpolicy, hown, hrenewal]

/-- The state after a HELLO is heard and its session opened, of which the lead tells its partner (R750). -/
def State.openHello (s : State) (m : NetMsg) (c v : Nat) : State :=
  ((s.heardHello m c).modCtx c fun x => { x with encs := x.encs ++ [helloSession m v] }).linkSession c 1 (helloSession m v)

theorem State.lastRefusal_sent (s : State) (c st : Nat) :
    (s.lastRefusal c st true).regN (Reg.SESS_LAST_REFUSAL c) % 65536 = st % 65536 := by
  have hval : (s.lastRefusal c st true).regN (Reg.SESS_LAST_REFUSAL c) = (st % 65536 + 65536) % 2 ^ 32 := by
    rw [State.regN_eq, State.lastRefusal, State.setRegN_reg, if_pos rfl, BitVec.toNat_ofNat]
    rfl
  omega

theorem State.lastRefusal_macOf (s : State) (c st : Nat) (sent : Bool) (q a : Nat) :
    (s.lastRefusal c st sent).macOf q a = s.macOf q a := rfl

section
variable {s : State} {m : NetMsg} {c : Nat}

theorem State.heardHello_reg (k : Nat) : (s.heardHello m c).reg k =
    if k = Reg.SESS_MSG_RX c then sat32 (s.regN (Reg.SESS_MSG_RX c) + 1) else s.reg k := State.bump_reg _ _ _ _

theorem State.heardHello_ctx (d : Nat) : (s.heardHello m c).ctx d = s.ctx d := rfl

theorem State.heardHello_macOf : (s.heardHello m c).macOf m.port.val m.src.toNat = some m.mac.toNat :=
  s.learnMac_macOf m.port.val m.src.toNat m.mac.toNat

theorem State.heardHello_work (p : SessParts) (hm : p.macs = true := by rfl) : SessWork p c s (s.heardHello m c) :=
  ((SessWork.refl p c s).heard m hm).bump _ (by simp [sessRegs])

theorem State.heardHello_decide (h : HelloTerms) : (s.heardHello m c).decideHello c h = s.decideHello c h := by
  obtain ⟨hrenewal, hallow, hctrl⟩ := SESS_MSG_RX_ne_terms c
  apply State.decideHello_congr (State.heardHello_ctx c)
  · rw [State.heardHello_reg, if_neg hctrl]
  · rw [State.heardHello_reg, if_neg hallow]
  · rw [State.heardHello_reg, if_neg hrenewal]

/-- A HELLO that R145 refuses is answered on the state in which it is heard; one that it accepts opens its session there. -/
theorem HelloFor.decided (h : HelloFor s m c) :
    (∀ st det, s.decideHello c (readHello m.bytes) = .inl (st, det) → s.helloAt m = ((s.heardHello m c).sendUdp c m.port.val
      m.src.toNat m.srcPort.toNat ((s.heardHello m c).sendRefuse m st det)).lastRefusal c st true) ∧
    ∀ v, s.decideHello c (readHello m.bytes) = .inr v → s.helloAt m = ((s.openHello m c v).sendEnc c 1 2 (msgSeq m.bytes)
      (helloSession m v) ((s.openHello m c v).helloAckBody c v (readHello m.bytes).stream)).sessStatus c := by
  obtain ⟨hlive, hframed, hsound, hnamed, hfresh, hstream⟩ := h
  have hfresh' : (s.heard m).findEnc (msgId m.bytes) m.src.toNat = none := hfresh
  have hstream' : (s.heard m).ctxOfStream (readHello m.bytes).stream = some c := hstream
  have hdec : ((s.heard m).bump (Reg.SESS_MSG_RX c) 1).decideHello c (readHello m.bytes) = s.decideHello c (readHello m.bytes) :=
    State.heardHello_decide _
  have hguard : (!msgFramed m.bytes || !msgSound m.bytes 1 || msgId m.bytes == 0) = false := by
    rw [hframed, hsound, beq_false_of_ne hnamed]
    rfl
  rw [State.helloAt, State.ifLive_of _ _ _ hlive]
  dsimp only
  rw [hguard, hfresh']
  dsimp only
  rw [hstream']
  dsimp only
  rw [hdec]
  refine ⟨fun st det hv => ?_, fun v hv => ?_⟩
  · rw [hv]
    rfl
  · rw [hv]
    simp only [beq_iff_eq]
    rfl

theorem exec_helloRx_one (m : NetMsg) (s : State) : exec (.helloRx [m]) s = .next (s.helloAt m) := rfl

theorem State.openHello_macOf (v : Nat) : (s.openHello m c v).macOf m.port.val m.src.toNat = some m.mac.toNat :=
  (State.linkSession_macOf _ _ _ _ _ _).trans (State.heardHello_macOf (c := c))

theorem helloRx_accepted {v : Nat} (h : HelloFor s m c) (hv : s.decideHello c (readHello m.bytes) = .inr v) :
    Completes (.helloRx [m]) s fun t => (t.ctx c).encs = (s.ctx c).encs ++ [helloSession m v] ∧
      t.reg (Reg.SESS_MSG_RX c) = sat32 (s.regN (Reg.SESS_MSG_RX c) + 1) ∧
      t.macOf m.port.val m.src.toNat = some m.mac.toNat ∧
      SessWork { ctxs := true, macs := true, out := true, pair := true, store := true } c s t := by
  obtain ⟨-, -, hpair, -⟩ := SESS_MSG_RX_ne c
  have hexec := exec_helloRx_one m s
  rw [h.decided.2 v hv] at hexec
  have hmac := State.openHello_macOf (s := s) (m := m) (c := c) v
  have hknown : ((s.openHello m c v).macOf (helloSession m v).port (helloSession m v).src).isSome = true :=
    Option.isSome_iff_exists.mpr ⟨_, hmac⟩
  have hwork : SessWork { ctxs := true, macs := true, out := true, pair := true, store := true } c s (s.openHello m c v) :=
    ((State.heardHello_work _).modCtx _).linkSession _ _ _
  refine ⟨_, hexec, ?_, ?_, ?_, (hwork.sendUdp _ _ (.inr hknown)).sessStatus⟩
  · rw [State.sessStatus_ctx, State.sendEnc, State.sendUdp_ctx, State.openHello, State.linkSession_ctx,
      State.modCtx_ctx, if_pos rfl]
    rfl
  · rw [State.sessStatus_reg (by simp [figureRegs]), State.sendEnc, State.sendUdp_reg (figures_notMem_sentRegs c).1,
      State.openHello, State.linkSession_reg hpair, State.modCtx_reg, State.heardHello_reg, if_pos rfl]
  · rw [State.sessStatus_macOf, State.sendEnc, State.sendUdp_macOf, hmac]

theorem helloRx_refused {st det : Nat} (h : HelloFor s m c) (hv : s.decideHello c (readHello m.bytes) = .inl (st, det)) :
    Completes (.helloRx [m]) s fun t => (∀ d, t.ctx d = s.ctx d) ∧
      t.reg (Reg.SESS_MSG_RX c) = sat32 (s.regN (Reg.SESS_MSG_RX c) + 1) ∧
      t.regN (Reg.SESS_LAST_REFUSAL c) % 65536 = st % 65536 ∧ t.macOf m.port.val m.src.toNat = some m.mac.toNat ∧
      SessWork { macs := true, out := true } c s t := by
  obtain ⟨hne, -⟩ := SESS_MSG_RX_ne c
  have hexec := exec_helloRx_one m s
  rw [h.decided.1 st det hv] at hexec
  have hmac := State.heardHello_macOf (s := s) (m := m) (c := c)
  have hknown : ((s.heardHello m c).macOf m.port.val m.src.toNat).isSome = true := Option.isSome_iff_exists.mpr ⟨_, hmac⟩
  refine ⟨_, hexec, fun d => ?_, ?_, ?_, ?_, ((State.heardHello_work _).sendUdp _ _ (.inr hknown)).lastRefusal _ _⟩
  · exact (State.setRegN_ctx _ _ _ _).trans ((State.sendUdp_ctx _ _ _ _ _ _ _).trans (State.heardHello_ctx d))
  · refine (State.setRegN_reg _ _ _ _).trans ?_
    rw [if_neg hne, State.sendUdp_reg (figures_notMem_sentRegs c).1, State.heardHello_reg, if_pos rfl]
  · exact State.lastRefusal_sent _ c st
  · rw [State.lastRefusal_macOf, State.sendUdp_macOf]
    exact hmac

end

/-- Two HELLOs are decided in the order of their arrival tokens (R147). -/
theorem sortBy_pair_comm {α : Type} (f : α → Nat) {a b : α} (h : f a ≠ f b) : sortBy f [a, b] = sortBy f [b, a] := by
  rcases Nat.lt_or_gt_of_ne h with hlt | hgt
  · simp [sortBy, insertBy, hlt, Nat.not_lt.mpr hlt.le]
  · simp [sortBy, insertBy, hgt, Nat.not_lt.mpr hgt.le]

/-- Settles O5: each message's case by what it leaves of the session, and what session work may change. -/
theorem sessionMessagesAtEncoder : Obligations.SessionMessagesAtEncoder := by
  unfold Obligations.SessionMessagesAtEncoder
  refine ⟨?_, ?_, ?_, ?_, ?_, ?_, ?_, ?_⟩
  · rintro m c v s hlive ⟨hframed, hsound, hnamed⟩ hfresh hstream hv
    obtain ⟨t, hexec, hencs, hrx, hmac, hwork⟩ := helloRx_accepted ⟨hlive, hframed, hsound, hnamed, hfresh, hstream⟩ hv
    exact ⟨t, hexec, hencs, hrx, hmac, hwork.others, hwork.regs, hwork.cells, hwork.frame⟩
  · rintro m c st det s hlive ⟨hframed, hsound, hnamed⟩ hfresh hstream hv
    obtain ⟨t, hexec, hctx, hrx, hst, hmac, hwork⟩ := helloRx_refused ⟨hlive, hframed, hsound, hnamed, hfresh, hstream⟩ hv
    exact ⟨t, hexec, hctx, hrx, hst, hmac, hwork.regs, hwork.frame⟩
  · intro a b s hne
    show execHelloRx _ _ = execHelloRx _ _
    rw [execHelloRx, execHelloRx, sortBy_pair_comm _ hne]
  · intro m c e s h
    obtain ⟨t, hexec, hencs, hrx, hwork⟩ := keepaliveRx_completes h
    refine ⟨t, hexec, ?_, hrx, hwork.others, hwork.regs, hwork.cells, hwork.frame⟩
    rw [hencs]
    exact List.map_congr_left fun x _ => by rw [EncSession.atKey, EncSession.nextSeq_takeCounts_hear]
  · intro m c e s h
    obtain ⟨t, hexec, hacks, hpending, hrefresh, hrx, hwork⟩ := refreshReqRx_completes h
    exact ⟨t, hexec, hacks, hpending, hrefresh, hrx, hwork.others, hwork.regs, hwork.frame⟩
  · intro m c e s h hdl hfit
    obtain ⟨t, hexec, hencs, hwork⟩ := updateRx_completes h hdl hfit
    exact ⟨t, hexec, hencs, hwork.others, hwork.regs, hwork.cells, hwork.frame⟩
  · intro m c e s h hhit
    obtain ⟨t, hexec, hencs, hrefusal, hwork⟩ := updateAckRx_completes h hhit
    exact ⟨t, hexec, hencs, hrefusal, hwork.others, hwork.regs, hwork.frame⟩
  · intro m c e s h
    obtain ⟨t, hexec, hencs, hwork⟩ := byeRx_completes h
    exact ⟨t, hexec, hencs, hwork.others, hwork.regs, hwork.cells, hwork.frame⟩

end Sys2Proof.Machine

namespace Sys2Proof.Machine

/-! SUPPORT. What the session machine of the decoding end leaves when it sends a message of its own, when a timer ends and when
SESS_CTRL is written (R151, R155, R156, R161, R815). -/

/-! ### Words and numbers -/

theorem bit_eq_getLsbD (w : Word) (n : Nat) : bit w n = w.getLsbD n := by
  rw [BitVec.getLsbD, Nat.testBit_eq_decide_div_mod_eq]
  rfl

theorem blt_false_of_le {m n : Nat} (h : n ≤ m) : Nat.blt m n = false :=
  Bool.eq_false_iff.mpr fun hlt => Nat.not_lt.mpr h (Nat.blt_eq.mp hlt)

theorem sat32_regN (s : State) (k : Nat) : sat32 (s.regN k) = s.reg k := by
  have hle : (s.reg k).toNat ≤ 0xFFFFFFFF := by omega
  rw [State.regN_eq, sat32, Nat.min_eq_left hle, BitVec.ofNat_toNat, BitVec.setWidth_eq]

/-! ### What the session machine sends -/

/-- The context awaits the answer to the HELLO that it sends next (R151). -/
def Ctx.awaitHello (n : Nat) (x : Ctx) : Ctx :=
  { x with dec := { x.dec with
    st := .helloSent, attempts := n, lastSeq := none, helloSeq := (x.dec.seq + 1) % 2 ^ 32, version := 0,
    refreshWait := [], updWait := [], kaSent := [], pending := RefreshSet.empty } }

/-- The context has sent one KEEPALIVE more, at a time (R151, R153). -/
def Ctx.awaitKeepalive (now : Nat) (x : Ctx) : Ctx :=
  { x with dec := { x.dec with kaSent := (x.dec.seq, now) :: x.dec.kaSent, misses := x.dec.misses + 1 } }

/-- The context has asked for a set of cells (R155, R156). -/
def Ctx.awaitRefresh (hold : Bool) (r : RefreshSet) (old : Option Await) (x : Ctx) : Ctx :=
  { x with dec := { x.dec with
    pending := RefreshSet.empty, holdoff := hold
    refreshWait := x.dec.refreshWait ++ [{ wait := Await.next old x.dec.seq, cells := r }] } }

/-- The context has sent an UPDATE (R158, R161). -/
def Ctx.awaitUpdate (old : Option Await) (x : Ctx) : Ctx :=
  { x with dec := { x.dec with updWait := x.dec.updWait ++ [Await.next old x.dec.seq] } }

theorem State.sendHello_ctx (s : State) (c n : Nat) :
    (s.sendHello c false n).ctx c = (Ctx.awaitHello n (s.ctx c)).nextSeq := by
  rw [State.sendHello, State.sessStatus_ctx, State.sendDec_ctx_same, State.modCtx_ctx, if_pos rfl]
  rfl

theorem State.sendKeepalive_ctx (s : State) (c : Nat) :
    (s.sendKeepalive c).ctx c = Ctx.awaitKeepalive s.now (s.ctx c).nextSeq := by
  rw [State.sendKeepalive, State.modCtx_ctx, if_pos rfl, State.sendDec_ctx_same, State.sendDec_now]
  rfl

theorem State.sendRefreshReq_ctx (s : State) (c : Nat) (r : RefreshSet) (old : Option Await) :
    (s.sendRefreshReq c r old).ctx c =
      Ctx.awaitRefresh (s.fld (Reg.SESS_TIMING c) 31 24 != 0) r old (s.ctx c).nextSeq := by
  rw [State.sendRefreshReq, State.modCtx_ctx, if_pos rfl, State.sendDec_ctx_same]
  rfl

theorem State.sendDecUpdate_ctx (s : State) (c : Nat) (old : Option Await) :
    (s.sendDecUpdate c old).ctx c = Ctx.awaitUpdate old (s.ctx c).nextSeq := by
  rw [State.sendDecUpdate, State.modCtx_ctx, if_pos rfl, State.sendDec_ctx_same]
  rfl

theorem State.sessionLost_ctx (s : State) (c : Nat) :
    (s.sessionLost c).ctx c = (Ctx.awaitHello 1 (s.ctx c)).nextSeq := by
  rw [State.sessionLost, State.sendHello_ctx, State.bump_ctx, State.raise_ctx]

/-! ### The figures through what is sent -/

theorem State.doIf_reg {s : State} {k : Nat} {b : Bool} {f : State → State} (hf : ∀ u, (f u).reg k = u.reg k) :
    (s.doIf b f).reg k = s.reg k :=
  State.doIf_ind (P := fun u => u.reg k = s.reg k) rfl (hf s)

theorem State.sendHello_reg {s : State} {c k : Nat} (hs : k ∈ figureRegs c) (hk : k ∉ sentRegs c) (newId : Bool) (n : Nat) :
    (s.sendHello c newId n).reg k = s.reg k := by
  rw [State.sendHello, State.sessStatus_reg hs, State.sendDec_reg hk, State.modCtx_reg,
    State.doIf_reg fun u => State.modCtx_reg _ _ _ _]

theorem State.setSess_reg {s : State} {c k : Nat} (hs : k ∈ figureRegs c) (st : SessState) :
    (s.setSess c st).reg k = s.reg k := by
  rw [State.setSess, State.sessStatus_reg hs, State.modCtx_reg]

theorem State.byeAll_reg {s : State} {c k : Nat} (hs : k ∈ figureRegs c) (hk : k ∉ sentRegs c) (hp : k ≠ Reg.PAIR_FRAMES_TX)
    (reason : Nat) : (s.byeAll c reason).reg k = s.reg k := by
  rw [State.byeAll, State.sessStatus_reg hs, State.modCtx_reg]
  exact State.forEach_ind (P := fun u => u.reg k = s.reg k)
    (fun e u hu => by rw [State.linkSession_reg hp, State.sendEncNext_reg hk, hu]) rfl

/-- Starting and stopping the session machine leaves the figures that it neither shows nor counts. -/
theorem State.sessSync_reg {s : State} {c k : Nat} (hs : k ∈ figureRegs c) (hk : k ∉ sentRegs c) (hp : k ≠ Reg.PAIR_FRAMES_TX) :
    (s.sessSync c).reg k = s.reg k := by
  unfold State.sessSync
  dsimp only
  split
  · split
    · exact State.byeAll_reg hs hk hp _
    · exact State.sessStatus_reg hs
  split
  · split
    · split
      · rw [State.sendHello_reg hs hk, State.modCtx_reg]
      · rw [State.setSess_reg hs, State.modCtx_reg]
    · exact State.sessStatus_reg hs
  split
  · exact State.sessStatus_reg hs
  · rw [State.setSess_reg hs, State.modCtx_reg]
    exact State.doIf_reg fun u => State.sendDec_reg hk _ _ _ _

/-- The state in which no session machine runs at the decoding end: the status alone is shown (R815). -/
theorem State.sessSync_idle {s : State} {c : Nat} (hdec : s.isEncode c = false) (hrun : s.sessRuns c = false)
    (hst : (s.ctx c).dec.st = .idle) : s.sessSync c = s.sessStatus c := by
  unfold State.sessSync
  simp only [hdec, hrun, hst, Bool.false_eq_true, if_false, decide_true, if_true]

theorem SESS_LOSSES_notMem_lost (c : Nat) : Reg.SESS_LOSSES c ∉ faultRegs FaultKind.SESSION_LOST := by
  simp only [faultRegs, List.mem_cons, List.not_mem_nil, or_false, Reg.SESS_LOSSES, Reg.FAULT_SUPPRESSED, Reg.FAULT_OVERFLOWS,
    Reg.FAULT_KIND_COUNT, FaultKind.SESSION_LOST]
  omega

theorem SESS_CTRL_notMem_sentRegs (c : Nat) : Reg.SESS_CTRL c ∉ sentRegs c ∧ Reg.SESS_CTRL c ≠ Reg.PAIR_FRAMES_TX := by
  simp only [sentRegs, List.mem_cons, List.not_mem_nil, or_false, Reg.SESS_CTRL, Reg.SESS_MSG_TX, Reg.SESS_REFRESH,
    Reg.PAIR_FRAMES_TX]
  omega

theorem State.sessionLost_losses (s : State) (c : Nat) :
    (s.sessionLost c).reg (Reg.SESS_LOSSES c) = sat32 (s.regN (Reg.SESS_LOSSES c) + 1) := by
  obtain ⟨-, -, hsent⟩ := figures_notMem_sentRegs c
  rw [State.sessionLost, State.sendHello_reg (by simp [figureRegs]) hsent, State.bump_reg, if_pos rfl, State.regN_eq,
    State.raise_sameRegs _ _ _ _ _ (SESS_LOSSES_notMem_lost c), State.regN_eq]

/-! ### A REFRESH_REQ is counted where it leaves at once (R163) -/

theorem msgType_sessMsg (ver typ id seq ack : Nat) (body : List Byte) :
    msgType (sessMsg ver typ id seq ack body) = typ % 256 := by
  simp [msgType, sessMsg, beAt, sliceB, beNat, beBytes, leBytes]

theorem SESS_REFRESH_ne_tx (c : Nat) : Reg.SESS_REFRESH c ≠ Reg.SESS_MSG_TX c := by
  simp only [Reg.SESS_REFRESH, Reg.SESS_MSG_TX]
  omega

theorem State.leaveUdp_refresh {b : List Byte} (h : msgType b = 6) (s : State) (c port addr dport mac : Nat) :
    (s.leaveUdp c port addr dport mac b).reg (Reg.SESS_REFRESH c) = sat32 (s.regN (Reg.SESS_REFRESH c) + 1) := by
  have hput : ((s.putUdp (s.isEncode c) port addr dport mac b).bump (Reg.SESS_MSG_TX c) 1).reg (Reg.SESS_REFRESH c) =
      s.reg (Reg.SESS_REFRESH c) :=
    (State.bump_reg _ _ _ _).trans (if_neg (SESS_REFRESH_ne_tx c))
  rw [State.leaveUdp, beq_of_eq h, State.doIf_true, State.bump_reg, if_pos rfl, State.regN_eq, hput, State.regN_eq]

theorem State.sendUdp_refresh {b : List Byte} (h : msgType b = 6) (s : State) (c port addr dport : Nat) :
    (s.sendUdp c port addr dport b).reg (Reg.SESS_REFRESH c) =
      sat32 (s.regN (Reg.SESS_REFRESH c) + if (s.macOf port addr).isSome then 1 else 0) := by
  unfold State.sendUdp
  cases hmac : s.macOf port addr with
  | some m => exact State.leaveUdp_refresh h _ _ _ _ _ _
  | none =>
    rw [show sat32 (s.regN (Reg.SESS_REFRESH c) + if (none : Option Nat).isSome then 1 else 0) = s.reg (Reg.SESS_REFRESH c)
      from sat32_regN _ _]
    exact State.doIf_ind (P := fun u => u.reg (Reg.SESS_REFRESH c) = s.reg (Reg.SESS_REFRESH c)) rfl
      (by simp only [State.reg, State.emit])

theorem State.sendDec_refresh (s : State) (c ver ack : Nat) (body : List Byte) :
    (s.sendDec c ver 6 ack body).reg (Reg.SESS_REFRESH c) =
      sat32 (s.regN (Reg.SESS_REFRESH c) + if s.decLeaves c then 1 else 0) := by
  have hflow : ∀ f h, (s.modCtx c f).flowOfHandle h = s.flowOfHandle h := fun _ _ => rfl
  have hmac : ∀ f p a, (s.modCtx c f).macOf p a = s.macOf p a := fun _ _ _ => rfl
  have hstay : ∀ f, (s.modCtx c f).reg (Reg.SESS_REFRESH c) = sat32 (s.regN (Reg.SESS_REFRESH c) + 0) :=
    fun f => (State.modCtx_reg _ _ _ _).trans (sat32_regN _ _).symm
  unfold State.sendDec State.decLeaves
  dsimp only
  rw [hflow, State.fld_eq, State.modCtx_reg, ← State.fld_eq]
  cases s.flowOfHandle (s.fld (Reg.DEC_FLOW c) 15 0) with
  | none => exact hstay _
  | some f =>
    cases heg : f.egress with
    | true =>
      simp only [heg, if_true, Bool.not_true, Bool.false_and, Bool.false_eq_true, if_false]
      exact hstay _
    | false =>
      simp only [heg, Bool.false_eq_true, if_false, Bool.not_false, Bool.true_and]
      rw [State.sendUdp_refresh (msgType_sessMsg _ 6 _ _ _ _), hmac, State.regN_eq, State.modCtx_reg, ← State.regN_eq]

theorem State.sendRefreshReq_refresh (s : State) (c : Nat) (r : RefreshSet) (old : Option Await) :
    (s.sendRefreshReq c r old).reg (Reg.SESS_REFRESH c) =
      sat32 (s.regN (Reg.SESS_REFRESH c) + if s.decLeaves c then 1 else 0) := by
  rw [State.sendRefreshReq, State.modCtx_reg, State.sendDec_refresh]

/-! ### The pending cells of a context (R155) -/

/-- Nothing waits, and nothing leaves. -/
theorem State.flushRefresh_empty {s : State} {c : Nat} (h : (s.ctx c).dec.pending.isEmpty = true) : s.flushRefresh c = s := by
  rw [State.flushRefresh, h, Bool.not_true, Bool.and_false, State.doIf_false]

/-- What waits in an open version 2 session without a hold-off leaves as one request. -/
theorem State.flushRefresh_waiting {s : State} {c : Nat} (hopen : (s.ctx c).dec.st = .opened) (hv : (s.ctx c).dec.version = 2)
    (hhold : (s.ctx c).dec.holdoff = false) (h : (s.ctx c).dec.pending.isEmpty = false) :
    s.flushRefresh c = s.sendRefreshReq c (s.ctx c).dec.pending none := by
  rw [State.flushRefresh, hopen, hv, hhold, h]
  rfl

/-! ### Messages that waited for their address leave (R812) -/

theorem SendTimesOnly.refl (s : State) : SendTimesOnly s s := fun _ => rfl

theorem SendTimesOnly.trans {s t u : State} (h : SendTimesOnly s t) (k : SendTimesOnly t u) : SendTimesOnly s u := by
  intro d
  rw [k d, h d]

theorem State.noteSent_sendTimesOnly (s : State) (c : Nat) (b : List Byte) : SendTimesOnly s (s.noteSent c b) := by
  refine State.doIf_ind (SendTimesOnly.refl s) fun d => ?_
  rw [State.modCtx_ctx]
  split
  · next h => rw [h]
  · rfl

theorem State.noteSent_reg (s : State) (c : Nat) (b : List Byte) (k : Nat) : (s.noteSent c b).reg k = s.reg k :=
  State.doIf_reg fun _ => State.modCtx_reg _ _ _ _

/-- What the sending of the messages that waited changes: the registers that count them, their send times and what goes out. -/
structure Released (ks : List Nat) (s t : State) : Prop where
  regs : SameRegs ks s t
  times : SendTimesOnly s t
  frame : t = { s with regs := t.regs, ctxs := t.ctxs, out := t.out }

theorem Released.refl (ks : List Nat) (s : State) : Released ks s s := ⟨SameRegs.refl _ _, SendTimesOnly.refl _, rfl⟩

theorem Released.trans {ks : List Nat} {s t u : State} (h : Released ks s t) (k : Released ks t u) : Released ks s u where
  regs := h.regs.trans k.regs
  times := h.times.trans k.times
  frame := by
    have hk := k.frame
    rw [h.frame] at hk
    exact hk

theorem State.leaveUdp_released (s : State) (c port addr dport mac : Nat) (b : List Byte) :
    Released (sentRegs c) s (s.leaveUdp c port addr dport mac b) := by
  have hwork := (SessWork.refl { out := true } c s).leaveUdp port addr dport mac b
  have hctx : (s.leaveUdp c port addr dport mac b).ctxs = s.ctxs := by rw [hwork.frame]; rfl
  refine ⟨fun k hk => State.leaveUdp_reg hk _ _ _ _ _, fun d => ?_, ?_⟩
  · simp only [State.ctx, hctx]
  · rw [hctx]
    exact hwork.frame

theorem State.noteSent_released (s : State) (c : Nat) (b : List Byte) (ks : List Nat) : Released ks s (s.noteSent c b) :=
  ⟨fun k _ => s.noteSent_reg c b k, s.noteSent_sendTimesOnly c b,
    State.doIf_ind (P := fun t => t = { s with regs := t.regs, ctxs := t.ctxs, out := t.out }) rfl rfl⟩

/-- A message that waited leaves, and its send time is noted. -/
theorem State.release_released (s : State) (mac : Nat) (w : WaitMsg) : Released (sentRegs w.ctx) s
    ((s.leaveUdp w.ctx w.port w.addr w.dport mac (stampMsg s.now w.bytes)).noteSent w.ctx w.bytes) :=
  (s.leaveUdp_released _ _ _ _ _ _).trans (State.noteSent_released _ _ _ _)

theorem Released.mono {ks ls : List Nat} {s t : State} (h : Released ks s t) (hs : ks ⊆ ls) : Released ls s t :=
  ⟨h.regs.mono hs, h.times, h.frame⟩

theorem State.forEach_released (s : State) (mac : Nat) (l : List WaitMsg) : Released (l.flatMap fun w => sentRegs w.ctx) s
    (s.forEach l fun w s => (s.leaveUdp w.ctx w.port w.addr w.dport mac (stampMsg s.now w.bytes)).noteSent w.ctx w.bytes) :=
  State.forEach_mem_ind (P := Released (l.flatMap fun w => sentRegs w.ctx) s)
    (fun w hw u hu => hu.trans ((u.release_released mac w).mono fun _ hk => List.mem_flatMap.mpr ⟨w, hw, hk⟩))
    (Released.refl _ _)

end Sys2Proof.Machine

namespace Sys2Proof.Machine

/-! ### SESS_TIMING_WRITE (R166) -/

theorem exec_sessTimingWrite (c : Nat) (v : Word) (s : State) (hlive : s.live (ctxPage c) = true) :
    exec (.sessTimingWrite c v) s =
    .next (if sessTimingOk v then s.setReg (Reg.SESS_TIMING c) (v &&& 0xFF0FFFFF) else s) := by
  show execSessTimingWrite c v s = _
  rw [execSessTimingWrite]
  cases hok : sessTimingOk v with
  | true => rw [State.doIf_true, State.ifWritten_of _ _ _ _ _ hlive, State.writeSessTiming, hok]
  | false => rfl

theorem sessTimingOk_iff (v : Word) : sessTimingOk v = true ↔ 10 ≤ bits v 15 0 ∧ bits v 15 0 ≤ 10000 ∧ 2 ≤ bits v 19 16 := by
  simp only [sessTimingOk, Bool.and_eq_true, Nat.ble_eq, and_assoc]

/-- Settles O8: the write takes effect exactly where every field is in its range. -/
theorem sessionTiming : Obligations.SessionTiming := by
  unfold Obligations.SessionTiming
  constructor
  · intro c v s hlive hin
    rw [exec_sessTimingWrite c v s hlive, if_pos ((sessTimingOk_iff v).mpr hin)]
  · intro c v s hlive hout
    rw [exec_sessTimingWrite c v s hlive, if_neg fun hok => by have hin := (sessTimingOk_iff v).mp hok; omega]

/-! ### The timers (R148, R151, R155, R156, R161) -/

section
variable {c : Nat} {s : State}

theorem exec_helloRetryTimeout (hrun : s.sessRuns c = true) (hst : (s.ctx c).dec.st = .helloSent) :
    exec (.helloRetryTimeout c) s = .next (if (s.ctx c).dec.attempts < 5 then s.sendHello c false ((s.ctx c).dec.attempts + 1)
      else (s.bump (Reg.SESS_LOSSES c) 1).setSess c .backoff) := by
  show execHelloRetryTimeout c s = _
  rw [execHelloRetryTimeout, hrun, hst]
  rfl

theorem exec_backoffExpiry (hrun : s.sessRuns c = true) (hst : (s.ctx c).dec.st = .backoff) :
    exec (.backoffExpiry c) s = .next (s.sendHello c false 1) := by
  show execBackoffExpiry c s = _
  rw [execBackoffExpiry, hrun, hst]
  rfl

theorem exec_refusedExpiry (hrun : s.sessRuns c = true) (hst : (s.ctx c).dec.st = .refused) :
    exec (.refusedExpiry c) s = .next (s.sendHello c false 1) := by
  show execRefusedExpiry c s = _
  rw [execRefusedExpiry, hrun, hst]
  rfl

theorem exec_keepaliveTimer (hrun : s.sessRuns c = true) (hst : (s.ctx c).dec.st = .opened) : exec (.keepaliveTimer c) s =
    .next (if s.fld (Reg.SESS_TIMING c) 19 16 ≤ (s.ctx c).dec.misses then s.sessionLost c else s.sendKeepalive c) := by
  show execKeepaliveTimer c s = _
  rw [execKeepaliveTimer, hrun, hst]
  simp only [decide_true, Bool.and_self, Bool.not_true, Bool.false_eq_true, if_false, Nat.ble_eq]

theorem exec_refreshReqResend {w : AwaitRefresh} {r : List AwaitRefresh} (hrun : s.sessRuns c = true)
    (hst : (s.ctx c).dec.st = .opened) (hwait : (s.ctx c).dec.refreshWait = w :: r) : exec (.refreshReqResend c) s =
      .next ((s.modCtx c fun x => { x with dec := { x.dec with refreshWait := r } }).doIf (Nat.blt w.wait.resends 3) fun u =>
        u.sendRefreshReq c (w.cells.join (s.ctx c).dec.pending) (some w.wait)) := by
  show execRefreshReqResend c s = _
  simp only [execRefreshReqResend, hrun, hst, hwait, decide_true, Bool.and_self, Bool.not_true, Bool.false_eq_true, if_false]

theorem exec_updateResend_dec {a : Await} {r : List Await} (id src : Nat) (hdec : s.isEncode c = false) (hrun : s.sessRuns c = true)
    (hst : (s.ctx c).dec.st = .opened) (hwait : (s.ctx c).dec.updWait = a :: r) (hfew : a.resends < 5) :
    exec (.updateResend c id src) s =
      .next ((s.modCtx c fun x => { x with dec := { x.dec with updWait := r } }).sendDecUpdate c (some a)) := by
  show execUpdateResend c id src s = _
  simp only [execUpdateResend, hdec, hrun, hst, hwait, decide_true, Bool.and_self, Bool.not_true, Bool.false_eq_true, if_false,
    Nat.blt_eq, hfew, if_true]

theorem exec_updateResend_enc {a : Await} {r : List Await} {e : EncSession} {id src : Nat} (henc : s.isEncode c = true)
    (hfind : ((s.ctx c).encs.find? fun e => e.id == id && e.src == src) = some e) (hwait : e.updWait = a :: r)
    (hmany : 5 ≤ a.resends) : exec (.updateResend c id src) s = .next (s.closeEnc c id src) := by
  show execUpdateResend c id src s = _
  simp only [execUpdateResend, henc, hfind, hwait, if_true, Nat.blt_eq, Nat.not_lt.mpr hmany, if_false]

/-! ### The work of a timer -/

/-- The next attempt at a HELLO, in the session's own figures. -/
theorem State.sendHello_session (s : State) (c n : Nat) :
    ((s.sendHello c false n).ctx c).dec.st = .helloSent ∧ ((s.sendHello c false n).ctx c).dec.attempts = n ∧
    ((s.sendHello c false n).ctx c).dec.id = (s.ctx c).dec.id ∧
    ((s.sendHello c false n).ctx c).dec.seq = ((s.ctx c).dec.seq + 1) % 2 ^ 32 ∧
    ((s.sendHello c false n).ctx c).dec.helloSeq = ((s.sendHello c false n).ctx c).dec.seq := by
  rw [State.sendHello_ctx]
  exact ⟨rfl, rfl, rfl, rfl, rfl⟩

theorem State.sendHello_work (s : State) (c n : Nat) :
    SessWork { ctxs := true, out := true, wait := true, store := true } c s (s.sendHello c false n) :=
  (SessWork.refl _ c s).sendHello false n

theorem State.closeEnc_work (s : State) (c id src : Nat) :
    SessWork { ctxs := true, out := true, pair := true, store := true } c s (s.closeEnc c id src) :=
  (SessWork.refl _ c s).closeEnc id src

/-- The end of the hold-off with cells that wait: one request for them all. -/
theorem refreshHoldoffExpiry_waiting (hopen : (s.ctx c).dec.st = .opened) (hv : (s.ctx c).dec.version = 2)
    (hwait : (s.ctx c).dec.pending.isEmpty = false) :
    Completes (.refreshHoldoffExpiry c) s fun t =>
      t.ctx c = Ctx.awaitRefresh (s.fld (Reg.SESS_TIMING c) 31 24 != 0) (s.ctx c).dec.pending none (s.ctx c).nextSeq ∧
      t.reg (Reg.SESS_REFRESH c) = sat32 (s.regN (Reg.SESS_REFRESH c) + if s.decLeaves c then 1 else 0) ∧
      SessWork { ctxs := true, out := true, wait := true } c s t := by
  let u := s.modCtx c fun x => { x with dec := { x.dec with holdoff := false } }
  have hctx : u.ctx c = { s.ctx c with dec := { (s.ctx c).dec with holdoff := false } } := by rw [State.modCtx_ctx, if_pos rfl]
  have hflush : u.flushRefresh c = u.sendRefreshReq c (s.ctx c).dec.pending none := by
    have h := State.flushRefresh_waiting (s := u) (c := c) (by rw [hctx, ← hopen]) (by rw [hctx, ← hv]) (by rw [hctx])
      (by rw [hctx, ← hwait])
    rwa [hctx] at h
  have hfld : ∀ k hi lo, u.fld k hi lo = s.fld k hi lo := fun _ _ _ => rfl
  have hleaves : u.decLeaves c = s.decLeaves c := by
    unfold State.decLeaves
    rw [hctx]
    rfl
  refine ⟨_, congrArg Host.Outcome.next hflush, ?_, ?_, ((SessWork.refl _ c s).modCtx _).sendRefreshReq _ _⟩
  · rw [State.sendRefreshReq_ctx, hctx, hfld]
    rfl
  · rw [State.sendRefreshReq_refresh, hleaves]
    rfl

end

/-! ### The message whose address is resolved, and the write of SESS_CTRL (R812, R815) -/

theorem sessionMsgResolved_completes {port : Nat} {s : State} (addr mac : Nat) (hlive : s.live (0x030 + port) = true) :
    Completes (.sessionMsgResolved port addr mac) s fun t =>
      Released ((s.sessWait.filter fun w => w.port == port && w.addr == addr).flatMap fun w => sentRegs w.ctx)
        { s.learnMac port addr mac with sessWait := s.sessWait.filter fun w => !(w.port == port && w.addr == addr) } t := by
  refine ⟨_, ?_, State.forEach_released _ mac _⟩
  show execSessionMsgResolved port addr mac s = _
  rw [execSessionMsgResolved, State.ifLive_of _ _ _ hlive]
  rfl

theorem exec_sessCtrlWrite {c : Nat} {s : State} (v : Word) (hlive : s.live (ctxPage c) = true) : exec (.sessCtrlWrite c v) s =
    .next ((s.setReg (Reg.SESS_CTRL c) (sessCtrlTakes (s.reg (Reg.SESS_CTRL c)) v)).sessSync c) := by
  show execSessCtrlWrite c v s = _
  rw [execSessCtrlWrite, State.ifWritten_of _ _ _ _ _ hlive, State.writeSessCtrl]

/-- A write that leaves ENABLE 0 in an idle decode context. -/
theorem sessCtrlWrite_idle {c : Nat} {v : Word} {s : State} (hlive : s.live (ctxPage c) = true) (hdec : s.isEncode c = false)
    (hoff : s.rbit (Reg.SESS_CTRL c) 0 = false) (hstay : bit v 0 = false) (hst : (s.ctx c).dec.st = .idle) :
    Completes (.sessCtrlWrite c v) s fun t => t.reg (Reg.SESS_CTRL c) = v &&& 0x00FFFF3F ∧
      SessWork { store := true, ctrl := true } c s t := by
  have htakes : sessCtrlTakes (s.reg (Reg.SESS_CTRL c)) v = v &&& 0x00FFFF3F := if_neg (ne_true_of_eq_false hoff)
  have hexec := exec_sessCtrlWrite v hlive
  rw [htakes] at hexec
  have hmode : Reg.CTX_MODE c ≠ Reg.SESS_CTRL c := by
    simp only [Reg.CTX_MODE, Reg.SESS_CTRL]
    omega
  let u := s.setReg (Reg.SESS_CTRL c) (v &&& 0x00FFFF3F)
  have hreg : u.reg (Reg.SESS_CTRL c) = v &&& 0x00FFFF3F := by rw [State.setReg_reg, if_pos rfl]
  have henc : u.isEncode c = false := by rw [State.isEncode, State.rbit_eq, State.setReg_reg, if_neg hmode]; exact hdec
  have hrun : u.sessRuns c = false := by
    rw [bit_eq_getLsbD] at hstay
    rw [State.sessRuns, State.rbit_eq, hreg, bit_eq_getLsbD, BitVec.getLsbD_and, hstay]
    rfl
  have hsync : u.sessSync c = u.sessStatus c := State.sessSync_idle henc hrun hst
  refine ⟨_, hexec.trans (congrArg Host.Outcome.next hsync), ?_,
    ((SessWork.refl _ c s).setReg _ (SessParts.ctrl_mem rfl)).sessStatus⟩
  rw [State.sessStatus_reg (by simp [figureRegs]), hreg]

/-- While ENABLE is 1 only ENABLE takes the value written. -/
theorem sessCtrlWrite_enabled {c : Nat} {s : State} (v : Word) (hlive : s.live (ctxPage c) = true)
    (hon : s.rbit (Reg.SESS_CTRL c) 0 = true) :
    Completes (.sessCtrlWrite c v) s fun t => t.reg (Reg.SESS_CTRL c) = putBit (s.reg (Reg.SESS_CTRL c)) 0 (bit v 0) ∧
      SessWork { ctxs := true, out := true, wait := true, pair := true, store := true, ctrl := true } c s t := by
  obtain ⟨hsent, hpair⟩ := SESS_CTRL_notMem_sentRegs c
  have htakes : sessCtrlTakes (s.reg (Reg.SESS_CTRL c)) v = putBit (s.reg (Reg.SESS_CTRL c)) 0 (bit v 0) := if_pos hon
  have hexec := exec_sessCtrlWrite v hlive
  rw [htakes] at hexec
  refine ⟨_, hexec, ?_, ((SessWork.refl _ c s).setReg _ (SessParts.ctrl_mem rfl)).sessSync⟩
  rw [State.sessSync_reg (by simp [figureRegs]) hsent hpair, State.setReg_reg, if_pos rfl]

/-- Settles O7: each timer by what it sends, and what session work may change. -/
theorem sessionTimers : Obligations.SessionTimers := by
  unfold Obligations.SessionTimers
  refine ⟨?_, ?_, ?_, ?_, ?_, ?_, ?_, ?_, ?_, ?_, ?_, ?_, ?_, ?_, ?_, ?_, ?_⟩
  · intro c s hrun hst hfew
    have hexec := exec_helloRetryTimeout hrun hst
    rw [if_pos hfew] at hexec
    obtain ⟨hopen, hn, hid, hseq, hhello⟩ := s.sendHello_session c ((s.ctx c).dec.attempts + 1)
    have hwork := s.sendHello_work c ((s.ctx c).dec.attempts + 1)
    exact ⟨_, hexec, hopen, hn, hid, hseq, hhello, hwork.others, hwork.regs, hwork.cells, hwork.frame⟩
  · intro c s hrun hst hmany
    rw [exec_helloRetryTimeout hrun hst, if_neg (Nat.not_lt.mpr hmany)]
  · intro c s hrun hst
    obtain ⟨hopen, hn, hid, -⟩ := s.sendHello_session c 1
    have hwork := s.sendHello_work c 1
    exact ⟨_, exec_backoffExpiry hrun hst, hopen, hn, hid, hwork.others, hwork.regs, hwork.cells, hwork.frame⟩
  · intro c s hrun hst
    obtain ⟨hopen, hn, hid, -⟩ := s.sendHello_session c 1
    have hwork := s.sendHello_work c 1
    exact ⟨_, exec_refusedExpiry hrun hst, hopen, hn, hid, hwork.others, hwork.regs, hwork.cells, hwork.frame⟩
  · intro c s hrun hst hfew
    have hexec := exec_keepaliveTimer hrun hst
    rw [if_neg (Nat.not_le.mpr hfew)] at hexec
    have hwork := (SessWork.refl { ctxs := true, out := true, wait := true } c s).sendKeepalive
    refine ⟨_, hexec, ?_, ?_, ?_, hwork.others, hwork.regs, hwork.frame⟩
    · rw [State.sendKeepalive_ctx]
      exact hst
    · rw [State.sendKeepalive_ctx]
      rfl
    · rw [State.sendKeepalive_ctx]
      rfl
  · intro c s hrun hst hmany
    have hexec := exec_keepaliveTimer hrun hst
    rw [if_pos hmany] at hexec
    have hwork := (SessWork.refl { ctxs := true, out := true, wait := true, store := true, lost := true } c s).sessionLost
    refine ⟨_, hexec, ?_, ?_, s.sessionLost_losses c, hwork.others, hwork.regs, hwork.cells, hwork.frame⟩
    · rw [State.sessionLost_ctx]
      rfl
    · rw [State.sessionLost_ctx]
      rfl
  · intro c id src s
    have hwork := s.closeEnc_work c id src
    exact ⟨_, rfl, s.closeEnc_encs c id src, hwork.others, hwork.regs, hwork.cells, hwork.frame⟩
  · intro c s hempty
    exact congrArg Host.Outcome.next (State.flushRefresh_empty (by rw [State.modCtx_ctx, if_pos rfl]; exact hempty))
  · rintro c s ⟨hopen, hv⟩ hwait
    obtain ⟨t, hexec, hctx, hcount, hwork⟩ := refreshHoldoffExpiry_waiting hopen hv hwait
    refine ⟨t, hexec, ?_, ?_, ?_, hcount, hwork.others, hwork.regs, hwork.frame⟩
    · rw [hctx]
      rfl
    · rw [hctx]
      rfl
    · rw [hctx]
      rfl
  · intro c w r s hrun hst hwait hfew
    have hexec := exec_refreshReqResend hrun hst hwait
    rw [Nat.blt_eq.mpr hfew, State.doIf_true] at hexec
    have hwork := ((SessWork.refl { ctxs := true, out := true, wait := true } c s).modCtx
      fun x => { x with dec := { x.dec with refreshWait := r } }).sendRefreshReq (w.cells.join (s.ctx c).dec.pending) (some w.wait)
    refine ⟨_, hexec, ?_, ?_, hwork.others, hwork.regs, hwork.frame⟩
    · rw [State.sendRefreshReq_ctx, State.modCtx_ctx, if_pos rfl]
      rfl
    · rw [State.sendRefreshReq_ctx, State.modCtx_ctx, if_pos rfl]
      rfl
  · intro c w r s hrun hst hwait hmany
    rw [exec_refreshReqResend hrun hst hwait, blt_false_of_le hmany, State.doIf_false]
  · intro c id src a r s hdec hrun hst hwait hfew
    have hwork := ((SessWork.refl { ctxs := true, out := true, wait := true } c s).modCtx
      fun x => { x with dec := { x.dec with updWait := r } }).sendDecUpdate (some a)
    refine ⟨_, exec_updateResend_dec id src hdec hrun hst hwait hfew, ?_, ?_, hwork.others, hwork.regs, hwork.frame⟩
    · rw [State.sendDecUpdate_ctx, State.modCtx_ctx, if_pos rfl]
      rfl
    · rw [State.sendDecUpdate_ctx, State.modCtx_ctx, if_pos rfl]
      rfl
  · intro c id src a r e s henc hfind hwait hmany
    have hwork := s.closeEnc_work c id src
    exact ⟨_, exec_updateResend_enc henc hfind hwait hmany, s.closeEnc_encs c id src, hwork.others, hwork.regs, hwork.cells,
      hwork.frame⟩
  · intro port addr mac s hlive
    obtain ⟨t, hexec, hsent⟩ := sessionMsgResolved_completes addr mac hlive
    have hframe := hsent.frame
    refine ⟨t, hexec, ?_, ?_, hsent.regs, hsent.times, ?_⟩
    · rw [hframe]
      exact s.learnMac_macOf port addr mac
    · rw [hframe]
    · rw [hframe]
      rfl
  · intro port addr w pre post s hlist hpre hw
    show execArpWaitExpiry port addr s = _
    rw [execArpWaitExpiry, hlist, List.eraseP_append_right _ fun x hx => by simpa using hpre x hx,
      List.eraseP_cons_of_pos (by simpa using hw)]
  · rintro c v s hlive hdec ⟨hoff, hstay⟩ hst
    obtain ⟨t, hexec, hreg, hwork⟩ := sessCtrlWrite_idle hlive hdec hoff hstay hst
    exact ⟨t, hexec, hreg, hwork.regs, hwork.cells, hwork.frame⟩
  · intro c v s hlive hon
    obtain ⟨t, hexec, hreg, hwork⟩ := sessCtrlWrite_enabled v hlive hon
    exact ⟨t, hexec, hreg, hwork.others, hwork.regs, hwork.cells, hwork.frame⟩

end Sys2Proof.Machine

namespace Sys2Proof.Machine

/-! ### KEEPALIVE_ACK_RX (R151, R153) -/

section
variable {s : State} {m : NetMsg} {typ c : Nat} {d : DecSession}

theorem State.judgeDec_heard (h : HeardByDec s m typ c d) : s.judgeDec m typ = (some (c, d), s.heard m) := by
  obtain ⟨-, hframed, hsound, hfind, hver, hseq⟩ := h
  have hverOk : (typ == 2 || typ == 3 || msgVer m.bytes == d.version || (typ == 10 && msgVer m.bytes == 1)) = true := by
    rcases hver with h | h | h <;> simp [h]
  unfold State.judgeDec
  simp only [hframed, hfind, hsound, hverOk, Bool.not_true, Bool.false_eq_true, if_false, Bool.true_and]
  cases hlast : d.lastSeq with
  | none => rfl
  | some l => exact if_pos (hseq l hlast)

/-- The SEQ of the message is kept in the context where the context itself, not the session found, has accepted an answer. -/
theorem keepaliveAckRx_lastSeq {t : State} (h : HeardByDec s m 5 c d) (hopen : d.st = .opened)
    (hexec : exec (.keepaliveAckRx m) s = .next t) :
    (t.ctx c).dec.lastSeq = if (s.ctx c).dec.lastSeq.isSome then some (msgSeq m.bytes) else none := by
  have hlive := h.1
  change execKeepaliveAckRx m s = _ at hexec
  rw [execKeepaliveAckRx, State.ifLive_of _ _ _ hlive, State.judgeDec_heard h] at hexec
  obtain rfl := Host.Outcome.next.inj hexec
  simp only [hopen, decide_true, if_true, State.acceptDec, Bool.false_or]
  split
  all_goals
    simp only [State.setReg_ctx, State.modCtx_ctx, State.bump_ctx, if_true]
    rfl

end

/-! ### A context listed twice -/

/-- A KEEPALIVE_ACK of session 9 from address 2, SEQ 6, to the KEEPALIVE of SEQ 6. -/
def strayAck : NetMsg :=
  { port := 3, src := 2, srcPort := 5004, mac := 6, arrival := 100, bytes := sessMsg 1 5 9 6 6 (List.replicate 12 0) }

/-- An open session 9 with the peer 2, which waits for the answer to its KEEPALIVE of SEQ 6 and has accepted none. -/
def straySession : DecSession :=
  { DecSession.init with st := .opened, id := 9, peerAddr := 2, version := 1, seq := 6, kaSent := [(6, 0)] }

/-- Context 3 is listed twice: first idle, with an answer accepted before; then with an open session. `State.findDec` finds the
session of the second entry, `State.ctx` reads the first. -/
def twiceListedState : State :=
  { State.reset with
    rc := { State.reset.rc with held := [] }
    ctxs := [(3, { Ctx.init with dec := { DecSession.init with lastSeq := some 2 } }),
      (3, { Ctx.init with dec := straySession })] }

theorem twiceListedState_heard : HeardByDec twiceListedState strayAck 5 3 straySession := by decide +kernel

theorem straySession_awaits :
    straySession.st = .opened ∧
      straySession.kaSent.find? (fun q => q.1 == msgAck strayAck.bytes) = some (msgAck strayAck.bytes, 0) := by
  decide +kernel

theorem twiceListedState_accepted : (twiceListedState.ctx 3).dec.lastSeq.isSome = true := by decide +kernel

/-- Refutes O6: its third clause says from the session found that no SEQ is kept before the first answer to a HELLO, in any
state, but the SEQ is kept by what the context holds; where a context stands twice in the list, the two differ. -/
theorem not_sessionMessagesAtDecoder : ¬ Obligations.SessionMessagesAtDecoder := by
  unfold Obligations.SessionMessagesAtDecoder
  rintro ⟨-, -, hack, -⟩
  obtain ⟨t, hexec, -, hseq, -⟩ := hack strayAck 3 0 straySession twiceListedState twiceListedState_heard straySession_awaits
  rw [keepaliveAckRx_lastSeq twiceListedState_heard straySession_awaits.1 hexec, twiceListedState_accepted] at hseq
  exact Option.some_ne_none _ hseq

end Sys2Proof.Machine

namespace Sys2Proof.Machine

/-! SUPPORT. How a command of the host ends: its entry on the tally ring, and what the end leaves unchanged (R513, R520, R524 to
R529). -/

/-! ### Bytes and numbers that are written read back -/

theorem getRange_setRange (d : Nat → Byte) (m : Sparse Byte) (a : Nat) (bs : List Byte) :
    Sparse.getRange d (Sparse.setRange d m a bs) a bs.length = bs := by
  refine List.ext_getElem (getRange_length _ _ _ _) fun i _ hi => ?_
  rw [getRange_getElem, Sparse.get_setRange, dif_pos ⟨Nat.le_add_right _ _, Nat.add_lt_add_left hi a⟩]
  congr 1
  omega

theorem State.setReg64_reg (s : State) (k v j : Nat) (hj : j ≠ k) (hj4 : j ≠ k + 4) : (s.setReg64 k v).reg j = s.reg j := by
  rw [State.setReg64, State.setRegN_reg, if_neg hj4, State.setRegN_reg, if_neg hj]

theorem State.setReg64_reg64 (s : State) (k v : Nat) : (s.setReg64 k v).reg64 k = v % 2 ^ 64 := by
  have hne : k ≠ k + 4 := by omega
  rw [State.reg64, State.regN_eq, State.regN_eq, State.setReg64, State.setRegN_reg, if_neg hne, State.setRegN_reg, if_pos rfl,
    State.setRegN_reg, if_pos rfl, BitVec.toNat_ofNat, BitVec.toNat_ofNat]
  omega

theorem bits_putBits_low (w : Word) (v : Nat) : bits (putBits w 15 0 v) 15 0 = v % 65536 := by
  have hw := w.isLt
  simp only [bits, putBits, BitVec.toNat_ofNat, Nat.pow_zero, Nat.div_one, Nat.mul_one, Nat.sub_zero]
  omega

/-! ### The entry of a job (R525, R526, R529) -/

/-- The registers of a ring that its entries are placed by. -/
def tallyRegs (q : Nat) : List Nat :=
  [Reg.HOSTQ_TALLY_BASE_LO q, Reg.HOSTQ_TALLY_BASE_LO q + 4, Reg.HOSTQ_TALLY_SIZE q, Reg.HOSTQ_TALLY_COUNT_LO q,
   Reg.HOSTQ_TALLY_COUNT_LO q + 4]

/-- Where the entry of a job lies in host memory. -/
def State.entryAt (s : State) (q seq : Nat) : Nat := s.reg64 (Reg.HOSTQ_TALLY_BASE_LO q) + 64 * (seq % s.tallySize q)

theorem tallyEntry_length (seq kind source status id time srcSeq : Nat) (result : List Byte) :
    (tallyEntry seq kind source status id time srcSeq result).length = 64 := by
  simp only [tallyEntry, List.length_append, leBytes_length, List.length_take, List.length_replicate]
  omega

/-- What is written for a job: its entry in host memory and C, or the entry among those that wait. -/
structure EntryWritten (q seq : Nat) (s t : State) : Prop where
  regs : SameRegs (ringRegs q) s t
  mem : ∀ a, a < s.entryAt q seq ∨ s.entryAt q seq + 64 ≤ a → Sparse.get memReset t.hostMem a = Sparse.get memReset s.hostMem a
  jobs : t.host.jobs = s.host.jobs
  frame : t = { s with regs := t.regs, hostMem := t.hostMem, host := t.host }

section
variable {q seq : Nat} {s : State} {bs : List Byte}

theorem State.landEntry_reg {k : Nat} (hk : k ∉ ringRegs q) : (s.landEntry q seq bs).reg k = s.reg k := by
  simp only [ringRegs, List.mem_cons, List.not_mem_nil, or_false, not_or] at hk
  exact State.setReg64_reg _ _ _ _ hk.1 hk.2

theorem State.landEntry_written (h : bs.length = 64) : EntryWritten q seq s (s.landEntry q seq bs) := by
  refine ⟨fun k hk => State.landEntry_reg hk, fun a ha => ?_, rfl, rfl⟩
  show Sparse.get memReset (Sparse.setRange memReset s.hostMem (s.entryAt q seq) bs) a = _
  rw [Sparse.get_setRange, dif_neg (by omega)]

theorem State.putEntry_written (h : bs.length = 64) : EntryWritten q seq s (s.putEntry q seq bs) := by
  unfold State.putEntry
  split
  · exact State.landEntry_written h
  · exact ⟨fun _ _ => rfl, fun _ _ => rfl, rfl, rfl⟩

theorem State.putEntry_entryOut (h : bs.length = 64) : EntryOut q seq bs s (s.putEntry q seq bs) := by
  unfold EntryOut State.putEntry
  split
  · refine ⟨?_, State.setReg64_reg64 _ _ _, rfl⟩
    show Sparse.getRange memReset (Sparse.setRange memReset s.hostMem (s.entryAt q seq) bs) (s.entryAt q seq) 64 = bs
    rw [← h]
    exact getRange_setRange _ _ _ _
  · exact ⟨rfl, rfl⟩

end

/-! ### What a command leaves for its end -/

/-- What a command did changed nothing that its end goes by. -/
structure CmdKept (q : Nat) (s u : State) : Prop where
  host : u.host = s.host
  pcie : u.pcie = s.pcie
  rc : u.rc = s.rc
  tb : u.tb = s.tb
  regs : ∀ k ∈ tallyRegs q, u.reg k = s.reg k
  mem : s.busOk = true ∨ u.hostMem = s.hostMem

theorem CmdKept.refl (q : Nat) (s : State) : CmdKept q s s := ⟨rfl, rfl, rfl, rfl, fun _ _ => rfl, .inr rfl⟩

section
variable {q seq : Nat} {s t u : State}

theorem CmdKept.entryAt (h : CmdKept q s u) : u.entryAt q seq = s.entryAt q seq := by
  have hbase := h.regs (Reg.HOSTQ_TALLY_BASE_LO q) (by simp [tallyRegs])
  have hhigh := h.regs (Reg.HOSTQ_TALLY_BASE_LO q + 4) (by simp [tallyRegs])
  have hsize := h.regs (Reg.HOSTQ_TALLY_SIZE q) (by simp [tallyRegs])
  simp only [State.entryAt, State.reg64, State.tallySize, State.regN_eq, State.fld_eq, hbase, hhigh, hsize]

theorem CmdKept.tallyC (h : CmdKept q s u) : u.tallyC q = s.tallyC q := by
  have hlow := h.regs (Reg.HOSTQ_TALLY_COUNT_LO q) (by simp [tallyRegs])
  have hhigh := h.regs (Reg.HOSTQ_TALLY_COUNT_LO q + 4) (by simp [tallyRegs])
  simp only [State.tallyC, State.reg64, State.regN_eq, hlow, hhigh]

theorem CmdKept.busOk (h : CmdKept q s u) : u.busOk = s.busOk := by
  simp only [State.busOk, State.busMaster, State.d3hot, h.pcie]

theorem CmdKept.now (h : CmdKept q s u) : u.now = s.now := by
  simp only [State.now, h.tb]

/-- An entry that is out after what a command did is out after the command. -/
theorem CmdKept.entryOut {e : List Byte} (h : CmdKept q s u) (k : EntryOut q seq e u t) : EntryOut q seq e s t := by
  have hslot := h.entryAt (seq := seq)
  unfold State.entryAt at hslot
  unfold EntryOut at k ⊢
  unfold State.hostQ at k ⊢
  rw [h.busOk, hslot, h.tallyC, h.host] at k
  split
  · next hbus => rwa [if_pos hbus] at k
  · next hbus =>
    rw [if_neg hbus] at k
    exact ⟨k.1, k.2.trans (h.mem.resolve_left hbus)⟩

end

/-! ### The end of a command (R520, R524) -/

theorem mem_of_mem_fencePrefix {j : CmdJob} : ∀ {first : Bool} {l : List CmdJob}, j ∈ fencePrefix first l → j ∈ l
  | first, k :: l, h => by
    rw [fencePrefix] at h
    split at h
    · exact absurd h List.not_mem_nil
    · rcases List.mem_cons.mp h with rfl | h
      · exact List.mem_cons_self
      · exact List.mem_cons_of_mem _ (mem_of_mem_fencePrefix h)

theorem State.mem_cmdReady {s : State} {q : Nat} {j : CmdJob} (h : j ∈ s.cmdReady q) : j ∈ s.host.jobs ∧ j.queue = q := by
  have hmem := mem_of_mem_fencePrefix h
  rw [List.mem_filter, beq_iff_eq] at hmem
  exact hmem

/-- The sweep does nothing where every command of the queue is served. -/
theorem State.cmdSweep_of_served {s : State} {q : Nat} (h : ∀ k ∈ s.host.jobs, k.queue = q → s.cmdStillborn k.entry = none)
    (n : Nat) : s.cmdSweep q n = s := by
  have hnone : (s.cmdReady q).find? (fun j => (s.cmdStillborn j.entry).isSome) = none := by
    refine List.find?_eq_none.mpr fun j hj => ?_
    obtain ⟨hmem, hq⟩ := State.mem_cmdReady hj
    rw [h j hmem hq]
    exact Bool.false_ne_true
  cases n with
  | zero => rfl
  | succ n => rw [State.cmdSweep, hnone]

section
variable {s : State} {q op : Nat} {host : Bool} {j : CmdJob}

theorem CmdFront.mem (h : CmdFront s q op host j) : j ∈ s.cmdReady q := by
  have hnext := h.1
  rw [State.cmdNext] at hnext
  split at hnext
  · exact absurd hnext (by simp)
  · exact List.mem_of_find?_eq_some hnext

theorem CmdFront.queue (h : CmdFront s q op host j) : j.queue = q := (State.mem_cmdReady h.mem).2

/-- A command that reaches the host runs only while the host can be reached (R513). -/
theorem CmdFront.busOk (h : CmdFront s q op true j) : s.busOk = true := by
  have hnext := h.1
  rw [State.cmdNext] at hnext
  split at hnext
  · exact absurd hnext (by simp)
  · next hrun =>
    rw [Bool.not_eq_true, Bool.or_eq_false_iff] at hrun
    simpa using hrun.2

/-- The end of a command, by what the command itself did. -/
structure CmdEnded (q : Nat) (j : CmdJob) (status : Nat) (result : List Byte) (s u t : State) : Prop where
  done : CmdDone j status result s t
  regs : SameRegs (ringRegs q) u t
  mem : ∀ a, a < s.entryAt q j.seq ∨ s.entryAt q j.seq + 64 ≤ a →
    Sparse.get memReset t.hostMem a = Sparse.get memReset u.hostMem a
  frame : t = { u with regs := t.regs, hostMem := t.hostMem, host := t.host }

theorem cmdEnd_ended {u : State} (hkept : CmdKept j.queue s u) (status : Nat) (result : List Byte) :
    CmdEnded j.queue j status result s u (u.cmdEnd j status result) := by
  let v : State := { u with host := { u.host with jobs := u.host.jobs.filter fun k => !(k.queue == j.queue && k.num == j.num) } }
  have hlen := tallyEntry_length j.seq 1 j.queue status (cmdId j.entry) v.now j.num result
  have hput := State.putEntry_written (q := j.queue) (seq := j.seq) (s := v) hlen
  have hout : EntryOut j.queue j.seq _ u (v.putEntry j.queue j.seq _) := State.putEntry_entryOut (s := v) hlen
  have hnow : v.now = s.now := hkept.now
  refine ⟨⟨?_, ?_⟩, hput.regs, fun a ha => hput.mem a ?_, ?_⟩
  · rw [← hkept.host]
    exact hput.jobs
  · rw [← hnow]
    exact hkept.entryOut hout
  · rw [← hkept.entryAt] at ha
    exact ha
  · exact hput.frame

theorem cmdRun_ended {f : List Byte → State → State × Nat × List Byte} {u : State} {status : Nat} {result : List Byte}
    (hfront : CmdFront s q op host j) (hrun : f (cmdArgs j.entry) s = (u, status, result)) (hkept : CmdKept q s u) :
    CmdEnded q j status result s u (s.cmdRun q op host f) := by
  obtain rfl := hfront.queue
  have hend := cmdEnd_ended hkept status result
  have hjobs := hend.done.1
  have hframe := hend.frame
  have hrc : (u.cmdEnd j status result).rc = s.rc := by
    rw [hframe]
    exact hkept.rc
  have hserved : ∀ k ∈ (u.cmdEnd j status result).host.jobs, k.queue = j.queue →
      (u.cmdEnd j status result).cmdStillborn k.entry = none := by
    intro k hk hq
    rw [hjobs] at hk
    have hborn := hfront.2 k (List.mem_filter.mp hk).1 hq
    unfold State.cmdStillborn at hborn ⊢
    rw [hrc]
    exact hborn
  have hstate : s.cmdRun j.queue op host f = u.cmdEnd j status result := by
    rw [State.cmdRun, hfront.1]
    dsimp only
    rw [hrun]
    exact State.cmdSweep_of_served hserved _
  rw [hstate]
  exact hend

end

end Sys2Proof.Machine

namespace Sys2Proof.Machine

/-! ### What the served commands do (R162, R464, R471, R523) -/

/-- The registers that the flow window shows a flow in. -/
def flowWindowRegs : List Nat := Reg.PKT_FLOW_STAT :: (List.range 16).map Reg.PKT_FLOW_DATA

theorem flowWindowRegs_lt {k : Nat} (h : k ∈ flowWindowRegs) : 0x34000 ≤ k := by
  simp only [flowWindowRegs, List.mem_cons, List.mem_map, List.mem_range, Reg.PKT_FLOW_STAT, Reg.PKT_FLOW_DATA] at h
  omega

theorem tallyRegs_lt {q k : Nat} (hq : q < 16) (h : k ∈ tallyRegs q) : k < 0x34000 := by
  simp only [tallyRegs, List.mem_cons, List.not_mem_nil, or_false, Reg.HOSTQ_TALLY_BASE_LO, Reg.HOSTQ_TALLY_SIZE,
    Reg.HOSTQ_TALLY_COUNT_LO] at h
  omega

theorem ringRegs_sub_tallyRegs (q : Nat) : ringRegs q ⊆ tallyRegs q := by
  intro k hk
  simp only [ringRegs, tallyRegs, List.mem_cons, List.not_mem_nil, or_false] at hk ⊢
  omega

/-- From `s` to `t` only registers may differ. -/
def OnlyRegs (s t : State) : Prop := t = { s with regs := t.regs }

theorem OnlyRegs.refl (s : State) : OnlyRegs s s := rfl

theorem OnlyRegs.trans {s t u : State} (h : OnlyRegs s t) (k : OnlyRegs t u) : OnlyRegs s u := by
  unfold OnlyRegs at k
  rw [h] at k
  exact k

theorem State.setRegN_onlyRegs (s : State) (k v : Nat) : OnlyRegs s (s.setRegN k v) := rfl

/-- A walk that writes each register of a list once. -/
theorem State.forEach_setRegN {g v : Nat → Nat} (hg : Function.Injective g) : ∀ (l : List Nat) (s : State),
    (∀ i ∈ l, (s.forEach l fun i u => u.setRegN (g i) (v i)).reg (g i) = BitVec.ofNat 32 (v i)) ∧
    SameRegs (l.map g) s (s.forEach l fun i u => u.setRegN (g i) (v i))
  | [], _ => ⟨fun _ hi => absurd hi List.not_mem_nil, SameRegs.refl _ _⟩
  | a :: l, s => by
    obtain ⟨hval, hsame⟩ := State.forEach_setRegN (v := v) hg l (s.setRegN (g a) (v a))
    refine ⟨fun i hi => ?_, fun k hk => ?_⟩
    · by_cases hl : i ∈ l
      · exact hval i hl
      · obtain rfl := (List.mem_cons.mp hi).resolve_right hl
        refine (hsame (g i) fun hm => hl ?_).trans ?_
        · obtain ⟨j, hj, hji⟩ := List.mem_map.mp hm
          exact hg hji ▸ hj
        · rw [State.setRegN_reg, if_pos rfl]
    · rw [List.map_cons, List.mem_cons, not_or] at hk
      exact (hsame k hk.2).trans (by rw [State.setRegN_reg, if_neg hk.1])

/-- What a flow shows in the window does not depend on what the window held. -/
theorem State.forEach_flowWord (f : Nat) : ∀ (l : List Nat) (s : State),
    (s.forEach l fun i u => u.setRegN (Reg.PKT_FLOW_DATA i) ((u.flow f).word i)) =
      s.forEach l fun i u => u.setRegN (Reg.PKT_FLOW_DATA i) ((s.flow f).word i)
  | [], _ => rfl
  | _ :: l, s => State.forEach_flowWord f l (s.setRegN _ _)

theorem PKT_FLOW_DATA_injective : Function.Injective Reg.PKT_FLOW_DATA := by
  intro i j h
  simp only [Reg.PKT_FLOW_DATA] at h
  omega

theorem State.flowRead_onlyRegs (s : State) (f : Nat) : OnlyRegs s (s.flowRead f) :=
  (State.forEach_ind (P := OnlyRegs s) (fun _ _ hu => hu.trans (State.setRegN_onlyRegs _ _ _)) (OnlyRegs.refl s)).trans
    (State.setRegN_onlyRegs _ _ _)

theorem State.flowRead_flow (s : State) (f g : Nat) : (s.flowRead f).flow g = s.flow g := by
  have hset : ∀ (u : State) (k v : Nat), (u.setRegN k v).flow g = u.flow g := fun _ _ _ => rfl
  rw [State.flowRead, State.flowStat, hset]
  exact State.forEach_ind (P := fun t => t.flow g = s.flow g) (fun _ u hu => (hset u _ _).trans hu) rfl

theorem State.flowRead_window (s : State) (f : Nat) :
    (∀ i ∈ List.range 16, (s.flowRead f).reg (Reg.PKT_FLOW_DATA i) = BitVec.ofNat 32 ((s.flow f).word i)) ∧
    SameRegs flowWindowRegs s (s.flowRead f) := by
  have hwalk := State.forEach_setRegN (v := fun i => (s.flow f).word i) PKT_FLOW_DATA_injective (List.range 16) s
  rw [← State.forEach_flowWord] at hwalk
  obtain ⟨hval, hsame⟩ := hwalk
  refine ⟨fun i hi => ?_, fun k hk => ?_⟩
  · have hne : Reg.PKT_FLOW_DATA i ≠ Reg.PKT_FLOW_STAT := by
      simp only [Reg.PKT_FLOW_DATA, Reg.PKT_FLOW_STAT]
      omega
    rw [State.flowRead, State.flowStat, State.setRegN_reg, if_neg hne]
    exact hval i hi
  · rw [flowWindowRegs, List.mem_cons, not_or] at hk
    rw [State.flowRead, State.flowStat, State.setRegN_reg, if_neg hk.1]
    exact hsame k hk.2

/-- Leaving the groups of a flow only puts reports out. -/
theorem State.leaveGroups_onlyOut (s : State) (x : Flow) : s.leaveGroups x = { s with out := (s.leaveGroups x).out } :=
  State.forEach_ind (P := fun t => t = { s with out := t.out }) (fun p t ht => by rw [State.emit, ht]) rfl

/-- A flow turned off: VALID clear, the generation one on. -/
def Flow.turnedOff (x : Flow) : Flow :=
  { x with words := (x.word 0 / 2 * 2) :: x.words.drop 1, gen := (x.gen + 1) % 256 }

theorem Flow.turnedOff_valid (x : Flow) : x.turnedOff.valid = false := by
  simp only [Flow.turnedOff, Flow.valid, List.getD_cons_zero, beq_eq_false_iff_ne]
  omega

theorem State.setFlow_flow (s : State) (f : Nat) (x : Flow) (g : Nat) :
    (s.setFlow f x).flow g = if g = f then x else s.flow g :=
  Sparse.get_set _ _ _ _ _

/-- The flow is off and its groups are left, before the result is shown. -/
def State.flowLeft (s : State) (f : Nat) : State :=
  (s.setFlow f (s.flow f).turnedOff).doIf (s.flow f).valid fun u => u.leaveGroups (s.flow f)

theorem State.flowInvalidate_eq (s : State) (f : Nat) : s.flowInvalidate f = (s.flowLeft f).flowStat f stFlowOk := rfl

theorem State.flowLeft_frame (s : State) (f : Nat) :
    s.flowLeft f = { s.setFlow f (s.flow f).turnedOff with out := (s.flowLeft f).out } :=
  State.doIf_ind (P := fun t => t = { s.setFlow f (s.flow f).turnedOff with out := t.out }) rfl (State.leaveGroups_onlyOut _ _)

theorem State.flowInvalidate_flow (s : State) (f g : Nat) :
    (s.flowInvalidate f).flow g = if g = f then (s.flow f).turnedOff else s.flow g := by
  have hleft : (s.flowLeft f).flow g = (s.setFlow f (s.flow f).turnedOff).flow g := by rw [s.flowLeft_frame f]; rfl
  exact hleft.trans (State.setFlow_flow _ _ _ _)

theorem State.flowInvalidate_frame (s : State) (f : Nat) : s.flowInvalidate f =
    { s with regs := (s.flowInvalidate f).regs, flows := (s.flowInvalidate f).flows, out := (s.flowInvalidate f).out } := by
  rw [State.flowInvalidate_eq, State.flowLeft_frame]
  rfl

theorem State.flowInvalidate_reg {s : State} {f k : Nat} (hk : k ∉ flowWindowRegs) : (s.flowInvalidate f).reg k = s.reg k := by
  rw [flowWindowRegs, List.mem_cons, not_or] at hk
  rw [State.flowInvalidate_eq, State.flowStat, State.setRegN_reg, if_neg hk.1, s.flowLeft_frame f]
  rfl

section
variable {s : State} {a : List Byte}

theorem State.flowCmd_read (hf : leAt a 0 2 ≤ 255) (hop : leAt a 2 1 = 0) : s.flowCmd false a =
    ((s.flowRead (leAt a 0 2)).hostWrite (leAt a 8 8) ((s.flowRead (leAt a 0 2)).flowWindow.flatMap (leBytes 4)), cmdOk,
      leBytes 1 0 ++ leBytes 1 (s.flow (leAt a 0 2)).gen) := by
  have hgen := s.flowRead_flow (leAt a 0 2) (leAt a 0 2)
  have hin := blt_false_of_le hf
  unfold State.flowCmd
  dsimp only
  rw [hop, hin, ← hgen]
  rfl

theorem State.flowCmd_invalidate (hf : leAt a 0 2 ≤ 255) (hop : leAt a 2 1 = 3) : s.flowCmd false a =
    (s.flowInvalidate (leAt a 0 2), cmdOk, leBytes 1 0 ++ leBytes 1 (((s.flow (leAt a 0 2)).gen + 1) % 256)) := by
  have hgen : ((s.flowInvalidate (leAt a 0 2)).flow (leAt a 0 2)).gen = ((s.flow (leAt a 0 2)).gen + 1) % 256 := by
    rw [State.flowInvalidate_flow, if_pos rfl]
    rfl
  have hin := blt_false_of_le hf
  unfold State.flowCmd
  dsimp only
  rw [hop, hin, ← hgen]
  rfl

theorem State.flowCmd_badArg (fault : Bool) (hf : 255 < leAt a 0 2) : s.flowCmd fault a = (s, cmdBadArg, []) := by
  unfold State.flowCmd
  dsimp only
  rw [Nat.blt_eq.mpr hf]
  rfl

/-! ### SDP_APPLY (R162, R523) -/

theorem sdpParam_dlExact {c v : Nat} {p : List Byte × List Byte} (hname : p.1 = strB "uaq-dl-exact") (hval : decimalB p.2 = some v)
    (hlo : 1 ≤ v) (hhi : v ≤ 60000) :
    sdpParam c p = some fun s => s.setFld (shadowOf (Reg.FRESH_DEADLINE_EXACT c)) 15 0 v := by
  have hother : (strB "uaq-dl-exact" == strB "uaq-sheet") = false := by decide
  have hin : (Nat.ble 1 v && Nat.ble v 60000) = true := by rw [Nat.ble_eq_true_of_le hlo, Nat.ble_eq_true_of_le hhi]; rfl
  unfold sdpParam
  simp only [hname, hother, hval, hin, Bool.false_eq_true, if_false, BEq.rfl, if_true]

theorem sdpParam_sheet3 {c : Nat} {p : List Byte × List Byte} (hname : p.1 = strB "uaq-sheet") (hval : decimalB p.2 = some 3) :
    sdpParam c p = none := by
  unfold sdpParam
  simp only [hname, hval, BEq.rfl, if_true]
  rfl

/-- The uaq parameters of the text that a command points to. -/
def State.sdpItems (s : State) (a : List Byte) : List (List Byte × List Byte) :=
  (fmtpItems (s.hostBytes (leAt a 8 8) (leAt a 2 2))).filter fun p => p.1.take 4 == strB "uaq-"

theorem State.sdpApply_items (hc : leAt a 0 2 ≤ 255) (hlen : leAt a 2 2 ≤ 4096) : s.sdpApply false a =
    if ((s.sdpItems a).map (sdpParam (leAt a 0 2))).any (·.isNone) then (s, cmdBadArg, [])
    else (((s.sdpItems a).map (sdpParam (leAt a 0 2))).foldl (fun s f => f.getD id s) s, cmdOk,
      leBytes 4 (s.sdpItems a).length) := by
  have hin : (Nat.blt 255 (leAt a 0 2) || Nat.blt 4096 (leAt a 2 2)) = false := by
    rw [blt_false_of_le hc, blt_false_of_le hlen]
    rfl
  unfold State.sdpApply
  dsimp only
  rw [hin]
  rfl

/-! ### PTP_CONFIG (R471) -/

theorem leAt_one (a : List Byte) (i : Nat) : leAt a i 1 = (a.getD i 0).toNat := by
  rw [leAt, sliceB, List.getD_eq_getElem?_getD, ← List.head?_drop]
  cases a.drop i with
  | nil => rfl
  | cons b r => rfl

theorem sx_leAt (a : List Byte) (i : Nat) : sx 8 (leAt a i 1) = (a.getD i 0).toInt := by
  have hlt := (a.getD i 0).isLt
  rw [leAt_one, sx, Nat.mod_eq_of_lt hlt, BitVec.toInt_eq_toNat_cond]
  split
  · rw [if_pos (by omega)]
  · rw [if_neg (by omega)]

theorem State.ptpConfig_legal (hport : leAt a 0 1 ≤ 3 ∧ leAt a 1 1 ≤ 127)
    (hlog : (-7 ≤ (a.getD 2 0).toInt ∧ (a.getD 2 0).toInt ≤ -1) ∧ (-3 ≤ (a.getD 3 0).toInt ∧ (a.getD 3 0).toInt ≤ 1) ∧
      -7 ≤ (a.getD 4 0).toInt ∧ (a.getD 4 0).toInt ≤ -1)
    (hrest : 2 ≤ leAt a 5 1 ∧ leAt a 5 1 ≤ 10 ∧ leAt a 6 1 ≤ 1 ∧ leAt a 7 1 ≤ 1) : s.ptpConfig a =
      ({ s with ptp := Sparse.set (fun _ => ptpDefault) s.ptp (leAt a 0 1) (sliceB a 1 9) }, cmdOk, []) := by
  unfold State.ptpConfig
  dsimp only
  rw [if_neg]
  simp only [sx_leAt, Bool.or_eq_true, decide_eq_true_eq, Nat.blt_eq]
  omega

end

end Sys2Proof.Machine

namespace Sys2Proof.Machine

/-! ### The flash commands (R523) -/

section
variable {s : State} {a : List Byte}

theorem State.hostFlashRead_served (hn : leAt a 4 4 ≤ 0x100000) : s.hostFlashRead false a =
    (s.hostWrite (leAt a 8 8) (s.flashBytes (leAt a 0 4) (leAt a 4 4)), cmdOk, []) := by
  rw [State.hostFlashRead, blt_false_of_le hn]
  rfl

theorem State.hostFlashWrite_served (hn : leAt a 4 4 ≤ 0x100000) (hmay : s.hostMayWrite (leAt a 0 4) (leAt a 4 4) = true) :
    s.hostFlashWrite false a = (s.flashWrite (leAt a 0 4) (s.hostBytes (leAt a 8 8) (leAt a 4 4)), cmdOk, []) := by
  unfold State.hostFlashWrite
  dsimp only
  rw [blt_false_of_le hn, hmay]
  rfl

theorem State.hostFlashWrite_protected (hn : leAt a 4 4 ≤ 0x100000)
    (hmay : s.hostMayWrite (leAt a 0 4) (leAt a 4 4) = false) : s.hostFlashWrite false a = (s, cmdProtected, []) := by
  unfold State.hostFlashWrite
  dsimp only
  rw [blt_false_of_le hn, hmay]
  rfl

end

/-! ### What each command keeps for its end -/

section
variable {q : Nat} {s t u : State}

theorem CmdKept.hostWrite (h : CmdKept q s u) (hbus : s.busOk = true) (a : Nat) (bs : List Byte) :
    CmdKept q s (u.hostWrite a bs) :=
  ⟨h.host, h.pcie, h.rc, h.tb, h.regs, .inl hbus⟩

theorem tallyRegs_notMem_flowWindowRegs {k : Nat} (hq : q < 16) (hk : k ∈ tallyRegs q) : k ∉ flowWindowRegs := fun h =>
  absurd (flowWindowRegs_lt h) (Nat.not_le.mpr (tallyRegs_lt hq hk))

theorem State.flowRead_cmdKept (hq : q < 16) (f : Nat) : CmdKept q s (s.flowRead f) := by
  have hregs := (s.flowRead_window f).2
  have honly := s.flowRead_onlyRegs f
  unfold OnlyRegs at honly
  exact ⟨by rw [honly], by rw [honly], by rw [honly], by rw [honly],
    fun k hk => hregs k (tallyRegs_notMem_flowWindowRegs hq hk), .inr (by rw [honly])⟩

theorem State.flowInvalidate_cmdKept (hq : q < 16) (f : Nat) : CmdKept q s (s.flowInvalidate f) := by
  have hframe := s.flowInvalidate_frame f
  exact ⟨by rw [hframe], by rw [hframe], by rw [hframe], by rw [hframe],
    fun k hk => State.flowInvalidate_reg (tallyRegs_notMem_flowWindowRegs hq hk), .inr (by rw [hframe])⟩

theorem shadowDeadline_notMem_tallyRegs (c : Nat) (hq : q < 16) : shadowOf (Reg.FRESH_DEADLINE_EXACT c) ∉ tallyRegs q := by
  intro h
  have hlt := tallyRegs_lt hq h
  simp only [shadowOf, Reg.FRESH_DEADLINE_EXACT] at hlt
  omega

theorem State.setFld_cmdKept {k : Nat} (hk : k ∉ tallyRegs q) (hi lo v : Nat) : CmdKept q s (s.setFld k hi lo v) := by
  refine ⟨rfl, rfl, rfl, rfl, fun j hj => ?_, .inr rfl⟩
  have hne : j ≠ k := fun e => hk (e ▸ hj)
  rw [State.setFld, State.setReg_reg, if_neg hne]

/-- The end of a command that changed registers and host memory. -/
theorem frame_of_onlyRegs {a : Nat} {bs : List Byte} (hu : OnlyRegs s u)
    (ht : t = { u.hostWrite a bs with regs := t.regs, hostMem := t.hostMem, host := t.host }) :
    t = { s with regs := t.regs, hostMem := t.hostMem, host := t.host } := by
  unfold OnlyRegs at hu
  rw [hu] at ht
  exact ht

/-- The end of a command that changed the flow table and put reports out. -/
theorem frame_of_flows (hu : u = { s with regs := u.regs, flows := u.flows, out := u.out })
    (ht : t = { u with regs := t.regs, hostMem := t.hostMem, host := t.host }) :
    t = { s with regs := t.regs, hostMem := t.hostMem, flows := t.flows, queues := t.queues, host := t.host, out := t.out } := by
  rw [hu] at ht
  rw [ht]

end

/-! ### The commands -/

section
variable {q : Fin 16} {j : CmdJob} {s : State}

theorem flowCmd_read_completes (hfront : CmdFront s q.val 1 true j) (hf : leAt (cmdArgs j.entry) 0 2 ≤ 255)
    (hop : leAt (cmdArgs j.entry) 2 1 = 0) :
    Completes (.flowCmd q false) s fun t =>
      CmdDone j 0 (leBytes 1 0 ++ leBytes 1 (s.flow (leAt (cmdArgs j.entry) 0 2)).gen) s t ∧
      (∀ i ∈ List.range 16, t.regN (Reg.PKT_FLOW_DATA i) = (s.flow (leAt (cmdArgs j.entry) 0 2)).word i % 2 ^ 32) ∧
      SameRegs (flowWindowRegs ++ ringRegs q.val) s t ∧
      t = { s with regs := t.regs, hostMem := t.hostMem, host := t.host } := by
  obtain ⟨hword, hsame⟩ := s.flowRead_window (leAt (cmdArgs j.entry) 0 2)
  have hend := cmdRun_ended (f := fun a s => s.flowCmd false a) hfront (State.flowCmd_read hf hop)
    ((State.flowRead_cmdKept q.isLt _).hostWrite hfront.busOk _ _)
  refine ⟨_, rfl, hend.done, fun i hi => ?_, fun k hk => ?_, frame_of_onlyRegs (s.flowRead_onlyRegs _) hend.frame⟩
  · have hmem : Reg.PKT_FLOW_DATA i ∈ flowWindowRegs := List.mem_cons_of_mem _ (List.mem_map_of_mem hi)
    have hring : Reg.PKT_FLOW_DATA i ∉ ringRegs q.val := fun h =>
      tallyRegs_notMem_flowWindowRegs q.isLt (ringRegs_sub_tallyRegs _ h) hmem
    rw [State.regN_eq, hend.regs _ hring]
    exact (congrArg BitVec.toNat (hword i hi)).trans (BitVec.toNat_ofNat _ _)
  · rw [List.mem_append, not_or] at hk
    exact (hend.regs k hk.2).trans (hsame k hk.1)

theorem flowCmd_invalidate_completes (hfront : CmdFront s q.val 1 true j) (hf : leAt (cmdArgs j.entry) 0 2 ≤ 255)
    (hop : leAt (cmdArgs j.entry) 2 1 = 3) :
    Completes (.flowCmd q false) s fun t =>
      CmdDone j 0 (leBytes 1 0 ++ leBytes 1 (((s.flow (leAt (cmdArgs j.entry) 0 2)).gen + 1) % 256)) s t ∧
      (∀ g, t.flow g = if g = leAt (cmdArgs j.entry) 0 2 then (s.flow (leAt (cmdArgs j.entry) 0 2)).turnedOff else s.flow g) ∧
      t = { s with regs := t.regs, hostMem := t.hostMem, flows := t.flows, queues := t.queues, host := t.host, out := t.out } := by
  have hend := cmdRun_ended (f := fun a s => s.flowCmd false a) hfront (State.flowCmd_invalidate hf hop)
    (State.flowInvalidate_cmdKept q.isLt _)
  have hframe := hend.frame
  refine ⟨_, rfl, hend.done, fun g => ?_, frame_of_flows (s.flowInvalidate_frame _) hframe⟩
  rw [← State.flowInvalidate_flow, hframe]
  rfl

/-- A command that changes nothing ends with its status and its result. -/
theorem cmdRun_unchanged {op status : Nat} {host : Bool} {f : List Byte → State → State × Nat × List Byte} {result : List Byte}
    (hfront : CmdFront s q.val op host j) (hrun : f (cmdArgs j.entry) s = (s, status, result)) :
    CmdDone j status result s (s.cmdRun q.val op host f) ∧ SameRegs (ringRegs q.val) s (s.cmdRun q.val op host f) ∧
      s.cmdRun q.val op host f = { s with
        regs := (s.cmdRun q.val op host f).regs, hostMem := (s.cmdRun q.val op host f).hostMem
        host := (s.cmdRun q.val op host f).host } :=
  have hend := cmdRun_ended hfront hrun (CmdKept.refl _ _)
  ⟨hend.done, hend.regs, hend.frame⟩

theorem sdpApply_dlExact_completes {v : Nat} {p : List Byte × List Byte} (hfront : CmdFront s q.val 2 true j)
    (hc : leAt (cmdArgs j.entry) 0 2 ≤ 255) (hlen : leAt (cmdArgs j.entry) 2 2 ≤ 4096) (hitems : s.sdpItems (cmdArgs j.entry) = [p])
    (hname : p.1 = strB "uaq-dl-exact") (hval : decimalB p.2 = some v) (hlo : 1 ≤ v) (hhi : v ≤ 60000) :
    Completes (.sdpApply q false) s fun t =>
      t.fld (shadowOf (Reg.FRESH_DEADLINE_EXACT (leAt (cmdArgs j.entry) 0 2))) 15 0 = v ∧ CmdDone j 0 (leBytes 4 1) s t ∧
      SameRegs (shadowOf (Reg.FRESH_DEADLINE_EXACT (leAt (cmdArgs j.entry) 0 2)) :: ringRegs q.val) s t ∧
      t = { s with regs := t.regs, hostMem := t.hostMem, host := t.host } := by
  let k := shadowOf (Reg.FRESH_DEADLINE_EXACT (leAt (cmdArgs j.entry) 0 2))
  have hk : k ∉ tallyRegs q.val := shadowDeadline_notMem_tallyRegs _ q.isLt
  have hrun : s.sdpApply false (cmdArgs j.entry) = (s.setFld k 15 0 v, cmdOk, leBytes 4 1) := by
    rw [State.sdpApply_items hc hlen, hitems, List.map_singleton, sdpParam_dlExact hname hval hlo hhi]
    rfl
  have hend := cmdRun_ended (f := fun a s => s.sdpApply false a) hfront hrun (State.setFld_cmdKept hk 15 0 v)
  refine ⟨_, rfl, ?_, hend.done, fun i hi => ?_, hend.frame⟩
  · rw [State.fld_eq, hend.regs k fun h => hk (ringRegs_sub_tallyRegs _ h), State.setFld, State.setReg_reg, if_pos rfl,
      bits_putBits_low]
    omega
  · rw [List.mem_cons, not_or] at hi
    rw [hend.regs i hi.2, State.setFld, State.setReg_reg, if_neg hi.1]

theorem State.sdpApply_sheet3 {p : List Byte × List Byte} (hc : leAt (cmdArgs j.entry) 0 2 ≤ 255)
    (hlen : leAt (cmdArgs j.entry) 2 2 ≤ 4096) (hp : p ∈ s.sdpItems (cmdArgs j.entry)) (hname : p.1 = strB "uaq-sheet")
    (hval : decimalB p.2 = some 3) : s.sdpApply false (cmdArgs j.entry) = (s, cmdBadArg, []) := by
  rw [State.sdpApply_items hc hlen, if_pos]
  exact List.any_eq_true.mpr ⟨none, List.mem_map.mpr ⟨p, hp, sdpParam_sheet3 hname hval⟩, rfl⟩

theorem ptpConfig_completes (hfront : CmdFront s q.val 3 false j)
    (hrun : s.ptpConfig (cmdArgs j.entry) = ({ s with
      ptp := Sparse.set (fun _ => ptpDefault) s.ptp (leAt (cmdArgs j.entry) 0 1) (sliceB (cmdArgs j.entry) 1 9) }, cmdOk, [])) :
    Completes (.ptpConfig q) s fun t =>
      (∀ p, Sparse.get (fun _ => ptpDefault) t.ptp p = if p = leAt (cmdArgs j.entry) 0 1 then sliceB (cmdArgs j.entry) 1 9 else
        Sparse.get (fun _ => ptpDefault) s.ptp p) ∧
      CmdDone j 0 [] s t ∧ SameRegs (ringRegs q.val) s t ∧
      t = { s with regs := t.regs, hostMem := t.hostMem, host := t.host, ptp := t.ptp } := by
  have hend := cmdRun_ended (f := fun a s => s.ptpConfig a) hfront hrun ⟨rfl, rfl, rfl, rfl, fun _ _ => rfl, .inr rfl⟩
  have hframe := hend.frame
  refine ⟨_, rfl, fun p => ?_, hend.done, hend.regs, ?_⟩
  · rw [hframe]
    exact Sparse.get_set _ _ _ _ _
  · rw [hframe]

theorem hostFlashRead_completes (hfront : CmdFront s q.val 4 true j) (hn : leAt (cmdArgs j.entry) 4 4 ≤ 0x100000) :
    Completes (.hostFlashRead q false) s fun t => CmdDone j 0 [] s t ∧ t.flash = s.flash ∧
      (∀ i < leAt (cmdArgs j.entry) 4 4, leAt (cmdArgs j.entry) 8 8 + i < s.entryAt q.val j.seq ∨
          s.entryAt q.val j.seq + 64 ≤ leAt (cmdArgs j.entry) 8 8 + i →
        Sparse.get memReset t.hostMem (leAt (cmdArgs j.entry) 8 8 + i) =
          Sparse.get memReset s.flash (leAt (cmdArgs j.entry) 0 4 + i)) ∧
      SameRegs (ringRegs q.val) s t ∧ t = { s with regs := t.regs, hostMem := t.hostMem, host := t.host } := by
  have hend := cmdRun_ended (f := fun a s => s.hostFlashRead false a) hfront (State.hostFlashRead_served hn)
    ((CmdKept.refl _ _).hostWrite hfront.busOk _ _)
  have hframe := hend.frame
  refine ⟨_, rfl, hend.done, ?_, fun i hi hout => (hend.mem _ hout).trans ?_, hend.regs, hframe⟩
  · rw [hframe]
    rfl
  · have hlen := getRange_length memReset s.flash (leAt (cmdArgs j.entry) 4 4) (leAt (cmdArgs j.entry) 0 4)
    refine (Sparse.get_setRange _ _ _ _ _).trans ?_
    rw [dif_pos ⟨Nat.le_add_right _ _, by rw [State.flashBytes, hlen]; omega⟩]
    simp only [State.flashBytes, getRange_getElem, Nat.add_sub_cancel_left]

theorem hostFlashWrite_completes (hfront : CmdFront s q.val 5 true j) (hn : leAt (cmdArgs j.entry) 4 4 ≤ 0x100000) :
    Completes (.hostFlashWrite q false) s fun t =>
      (if s.hostMayWrite (leAt (cmdArgs j.entry) 0 4) (leAt (cmdArgs j.entry) 4 4) then CmdDone j 0 [] s t ∧
        t.flashBytes (leAt (cmdArgs j.entry) 0 4) (leAt (cmdArgs j.entry) 4 4) =
          s.hostBytes (leAt (cmdArgs j.entry) 8 8) (leAt (cmdArgs j.entry) 4 4)
      else CmdDone j 5 [] s t ∧ t.flash = s.flash) ∧
      SameRegs (ringRegs q.val) s t ∧ t = { s with regs := t.regs, hostMem := t.hostMem, host := t.host, flash := t.flash } := by
  cases hmay : s.hostMayWrite (leAt (cmdArgs j.entry) 0 4) (leAt (cmdArgs j.entry) 4 4) with
  | true =>
    have hend := cmdRun_ended (f := fun a s => s.hostFlashWrite false a) hfront (State.hostFlashWrite_served hn hmay)
      ⟨rfl, rfl, rfl, rfl, fun _ _ => rfl, .inr rfl⟩
    have hframe := hend.frame
    refine ⟨_, rfl, ?_, hend.regs, by rw [hframe]; rfl⟩
    rw [if_pos rfl]
    refine ⟨hend.done, ?_⟩
    have hlen : (s.hostBytes (leAt (cmdArgs j.entry) 8 8) (leAt (cmdArgs j.entry) 4 4)).length = leAt (cmdArgs j.entry) 4 4 :=
      getRange_length _ _ _ _
    have hread := getRange_setRange memReset s.flash (leAt (cmdArgs j.entry) 0 4)
      (s.hostBytes (leAt (cmdArgs j.entry) 8 8) (leAt (cmdArgs j.entry) 4 4))
    rw [hlen] at hread
    rw [hframe]
    exact hread
  | false =>
    have hend := cmdRun_ended (f := fun a s => s.hostFlashWrite false a) hfront (State.hostFlashWrite_protected hn hmay)
      (CmdKept.refl _ _)
    have hframe := hend.frame
    refine ⟨_, rfl, ?_, hend.regs, by rw [hframe]⟩
    rw [if_neg Bool.false_ne_true]
    refine ⟨hend.done, ?_⟩
    rw [hframe]

end

/-- Settles O35: what each command does before its end, and the end that all have in common. -/
theorem hostCommands : Obligations.HostCommands := by
  unfold Obligations.HostCommands
  refine ⟨?_, ?_, ?_, ?_, ?_, ?_, ?_, ?_⟩
  · rintro q f j s hfront ⟨rfl, hf, hop⟩
    obtain ⟨t, hexec, hdone, hwindow, hregs, hframe⟩ := flowCmd_read_completes hfront hf hop
    exact ⟨t, hexec, hdone, hwindow, by rw [hframe], hregs, hframe⟩
  · rintro q f j s hfront ⟨rfl, hf, hop⟩
    obtain ⟨t, hexec, hdone, hflow, hframe⟩ := flowCmd_invalidate_completes hfront hf hop
    refine ⟨t, hexec, ?_, ?_, hdone, fun g _ hg => ?_, hframe⟩
    · rw [hflow, if_pos rfl, Flow.turnedOff_valid]
    · rw [hflow, if_pos rfl]
      rfl
    · rw [hflow, if_neg hg]
  · intro q fault j s hfront hf
    obtain ⟨hdone, hregs, hframe⟩ := cmdRun_unchanged (f := fun a s => s.flowCmd fault a) hfront (State.flowCmd_badArg fault hf)
    refine ⟨_, rfl, hdone, ?_, hregs, hframe⟩
    rw [hframe]
  · rintro q c v p j s hfront ⟨rfl, hc, hlen⟩ hitems ⟨hname, hval, hlo, hhi⟩
    exact sdpApply_dlExact_completes hfront hc hlen hitems hname hval hlo hhi
  · rintro q p j s hfront ⟨hc, hlen⟩ ⟨hp, htake⟩ ⟨hname, hval⟩
    exact ⟨_, rfl, cmdRun_unchanged (f := fun a s => s.sdpApply false a) hfront
      (State.sdpApply_sheet3 hc hlen (List.mem_filter.mpr ⟨hp, beq_iff_eq.mpr htake⟩) hname hval)⟩
  · rintro q j a s hfront ⟨rfl, hport⟩ ⟨hannounce, hsync, hdelay⟩ hrest
    simp only [List.mem_cons, List.not_mem_nil, or_false] at hannounce hsync hdelay
    obtain ⟨t, hexec, hptp, hdone, hregs, hframe⟩ := ptpConfig_completes hfront
      (State.ptpConfig_legal hport ⟨by omega, by omega, by omega⟩ hrest)
    refine ⟨t, hexec, ?_, fun p _ hp => ?_, hdone, hregs, hframe⟩
    · rw [hptp, if_pos rfl]
    · rw [hptp, if_neg hp]
  · rintro q j slot a s hfront ⟨rfl, hn⟩ ⟨rfl, -⟩
    obtain ⟨t, hexec, hdone, hflash, hmem, hregs, hframe⟩ := hostFlashRead_completes hfront hn
    exact ⟨t, hexec, hdone, hflash, fun i hi => hmem i (List.mem_range.mp hi), hregs, hframe⟩
  · rintro q j a s hfront ⟨rfl, hn⟩
    exact hostFlashWrite_completes hfront hn

end Sys2Proof.Machine

namespace Sys2Proof.Machine

/-! SUPPORT. A stop that sets ENABLE of its context again. -/

/-- CTX_STOP of a context that runs with no picture in work or arriving takes it to state 0 at once. -/
theorem exec_ctxStop_idle {c : Nat} {s : State} (hl : s.live (ctxPage c) = true) (he : s.enabled (ctxPage c) = true)
    (hw : s.ledger.waiting.elem (enableReq c) = false) (hpic : (s.ctx c).pic = none) (hdpic : (s.ctx c).dpic = none)
    (hau : (s.ctx c).comingAu = false) : exec (.ctxStop c) s = .next (s.ctxStopped c) := by
  show execCtxStop c s = _
  rw [execCtxStop, State.ifLive_of _ _ _ hl, State.ctxStop, hw, he, hpic, hdpic, hau]
  rfl

/-- Encode context 5 runs with no picture, and STOP of its BLK_CTRL reads 1 beside ENABLE. Its last source stands in a prop-room
buffer whose owner, 0x3D941, is no requester: POOL_HELD_DRAM of that number would be at 0x18604 + 8 × 0x3D941, the address of
the context's BLK_CTRL. -/
def strayOwnerIdleState : State :=
  let s := [(blkCtrl (ctxPage 5), 3), (Reg.CTX_MODE 5, 1), (blkCtrl 0x018, 1)].foldl
    (fun t p => t.setRegN p.1 p.2) { State.reset with rc := { State.reset.rc with held := [] } }
  (s.modCtx 5 fun x => { x with srcBuf := some 0x01800000 }).setPoolBuf 0x800000 { frees := 0, count := 1, owner := 0x3D941, span := 1 }

/-- ENABLE is cleared first, which leaves 2 in BLK_CTRL; the last source then goes back to the prop room (R188), and its owner's
POOL_HELD_DRAM, one less than 2, sets ENABLE again. -/
theorem strayOwnerIdleState_ctxStopped_enabled : (strayOwnerIdleState.ctxStopped 5).enabled (ctxPage 5) = true := by
  decide +kernel

/-- Refutes O10: its fourth clause says of CTX_STOP from any state that it clears ENABLE, but the stop also gives the source
buffer back, and where the buffer's owner is a number that no requester has, the return writes POOL_HELD_DRAM of that owner over
BLK_CTRL of the context. -/
theorem not_contextLife : ¬ Obligations.ContextLife := by
  unfold Obligations.ContextLife
  rintro ⟨-, -, -, hstop, -⟩
  have hl : strayOwnerIdleState.live (ctxPage 5) = true := by decide +kernel
  have he : strayOwnerIdleState.enabled (ctxPage 5) = true := by decide +kernel
  have hw : strayOwnerIdleState.ledger.waiting.elem (enableReq 5) = false := by decide +kernel
  have hidle : (strayOwnerIdleState.ctx 5).pic = none ∧ (strayOwnerIdleState.ctx 5).dpic = none ∧
      (strayOwnerIdleState.ctx 5).comingAu = false := by decide +kernel
  obtain ⟨t, ht, hoff, -⟩ := hstop 5 strayOwnerIdleState hl ⟨he, hw⟩ hidle
  obtain ⟨hpic, hdpic, hau⟩ := hidle
  rw [exec_ctxStop_idle hl he hw hpic hdpic hau] at ht
  obtain rfl := Host.Outcome.next.inj ht
  rw [strayOwnerIdleState_ctxStopped_enabled] at hoff
  exact absurd hoff (by decide)

end Sys2Proof.Machine

namespace Sys2Proof.Machine

/-! SUPPORT. Of two changes of a context the state keeps the second applied to the first. -/

theorem Sparse.erase_place {α : Type} (k : Nat) (v : α) (m : Sparse α) :
    Sparse.erase k (Sparse.place k v m) = Sparse.erase k m := by
  induction m with
  | nil => simp [Sparse.erase, Sparse.place]
  | cons q m ih =>
    unfold Sparse.place
    split
    · simp [Sparse.erase]
    · simp only [Sparse.erase, List.filter_cons] at ih ⊢
      rw [ih]

theorem Sparse.erase_erase {α : Type} (k : Nat) (m : Sparse α) : Sparse.erase k (Sparse.erase k m) = Sparse.erase k m := by
  simp only [Sparse.erase, List.filter_filter, Bool.and_self]

/-- Of two writes of a key the second stands. -/
theorem Sparse.set_set {α : Type} [DecidableEq α] (d : Nat → α) (m : Sparse α) (k : Nat) (v w : α) :
    Sparse.set d (Sparse.set d m k v) k w = Sparse.set d m k w := by
  have herase : Sparse.erase k (Sparse.set d m k v) = Sparse.erase k m := by
    unfold Sparse.set
    split
    · exact Sparse.erase_erase k m
    · rw [Sparse.erase_place, Sparse.erase_erase]
  rw [Sparse.set, herase, ← Sparse.set]

theorem State.modCtx_modCtx (s : State) (c : Nat) (f g : Ctx → Ctx) : (s.modCtx c f).modCtx c g = s.modCtx c fun x => g (f x) := by
  rw [State.modCtx, State.modCtx_ctx, if_pos rfl]
  simp only [State.modCtx, State.setCtx, Sparse.set_set]

/-- No number is later than itself (R272). -/
theorem later16_ne {a b : Nat} (ha : a < 2 ^ 16) (h : later16 a b = true) : a ≠ b := by
  rintro rfl
  have hd : (a + 2 ^ 16 - a % 2 ^ 16) % 2 ^ 16 = 0 := by
    rw [Nat.mod_eq_of_lt ha]
    omega
  simp only [later16, hd] at h
  exact absurd h (by decide)

end Sys2Proof.Machine

namespace Sys2Proof.Machine

/-! SUPPORT. What the packets and the pictures of a decode context may change (R265 to R303): registers of the context, the
context itself, device memory with the Reference Cache and the DRAM channels, the fault collector, and what leaves. -/

/-- The registers that packets and pictures of a decode context write beside DEC_PICS and DEC_PKT_LOST. -/
def decodeRegs (c : Nat) : List Nat :=
  [Reg.DEC_STATUS c, Reg.DEC_LAST_ERROR c, Reg.DEC_PICS_OUT c, Reg.DEC_OUT_RTP_TS c, Reg.DEC_CTU_DAMAGED c, Reg.DEC_CTU_CONCEALED c,
   Reg.DEC_PKT_UNSUP c, Reg.DEC_NAL_IGNORED c, Reg.DEC_AU_DROPPED c, Reg.DEC_PLACEHOLDERS c, Reg.DEC_RECOVERIES c,
   Reg.CTX_PLACEMENT c, Reg.SHEET_MALFORMED c, Reg.SHEET_MISSING c, Reg.SHEET_SEQ_GAPS c, Reg.SHEET_IGNORED c] ++
  (faultRegs FaultKind.DECODE_ERROR ++ (faultRegs FaultKind.REF_PLACEHOLDER ++ sessRegs c))

theorem sessRegs_sub_decodeRegs (c : Nat) : sessRegs c ⊆ decodeRegs c :=
  fun _ h => List.mem_append_right _ (List.mem_append_right _ (List.mem_append_right _ h))

theorem fenceRegs_sub_decodeRegs (c : Nat) : fenceRegs ⊆ decodeRegs c :=
  fun _ h => sessRegs_sub_decodeRegs c (List.mem_append_right _ h)

theorem decodeErrorRegs_sub_decodeRegs (c : Nat) : faultRegs FaultKind.DECODE_ERROR ⊆ decodeRegs c :=
  fun _ h => List.mem_append_right _ (List.mem_append_left _ h)

theorem placeholderRegs_sub_decodeRegs (c : Nat) : faultRegs FaultKind.REF_PLACEHOLDER ⊆ decodeRegs c :=
  fun _ h => List.mem_append_right _ (List.mem_append_right _ (List.mem_append_left _ h))

/-- The two counters are written by their own commands alone. -/
theorem decodeCounters_notMem_decodeRegs (c : Nat) : Reg.DEC_PICS c ∉ decodeRegs c ∧ Reg.DEC_PKT_LOST c ∉ decodeRegs c := by
  simp only [decodeRegs, faultRegs, sessRegs, fenceRegs, List.cons_append, List.nil_append, List.mem_cons, List.not_mem_nil,
    or_false, FaultKind.DECODE_ERROR, FaultKind.REF_PLACEHOLDER, FaultKind.FENCE_VIOLATION, Reg.DEC_PICS, Reg.DEC_PKT_LOST,
    Reg.DEC_STATUS, Reg.DEC_LAST_ERROR, Reg.DEC_PICS_OUT, Reg.DEC_OUT_RTP_TS, Reg.DEC_CTU_DAMAGED, Reg.DEC_CTU_CONCEALED,
    Reg.DEC_PKT_UNSUP, Reg.DEC_NAL_IGNORED, Reg.DEC_AU_DROPPED, Reg.DEC_PLACEHOLDERS, Reg.DEC_RECOVERIES, Reg.CTX_PLACEMENT,
    Reg.SHEET_MALFORMED, Reg.SHEET_MISSING, Reg.SHEET_SEQ_GAPS, Reg.SHEET_IGNORED, Reg.FAULT_SUPPRESSED, Reg.FAULT_OVERFLOWS,
    Reg.FAULT_KIND_COUNT, Reg.SESS_MSG_RX, Reg.SESS_MSG_TX, Reg.SESS_STATUS, Reg.SESS_PEER_TERMS, Reg.SESS_PEER_DEADLINES,
    Reg.SESS_REMOTE_STALE, Reg.SESS_REFRESH, Reg.SESS_LAST_REFUSAL, Reg.SESS_LOSSES, Reg.FRESH_STATUS,
    Reg.TRUST_FENCE_VIOLATIONS, Reg.TRUST_FENCE_LAST_LO, Reg.TRUST_FENCE_LAST_HI]
  omega

/-! ### What of a context its packets and its pictures leave alone -/

/-- The order of the packets of a decode context, and the port on which its stream arrives (R135, R272). -/
structure StreamView where
  expSeq : Option Nat
  waiting : List RtpPacket
  port : Nat

def Ctx.streamView (x : Ctx) : StreamView := ⟨x.expSeq, x.waiting, x.dec.port⟩

/-- What of a picture in decoding stands from its start to its end, but for the CTUs that are decoded. -/
def DecPicture.work (p : DecPicture) : AccessUnit × List Nat := (p.au, p.holders)

/-- The stream of a decode context, the access units that wait, what is in decoding, and how far the context is. -/
structure PictureView where
  stream : StreamView
  queue : List AccessUnit
  started : Bool
  stopping : Bool
  degrade : Nat
  lastDerived : Bool
  work : Option (AccessUnit × List Nat)

def Ctx.pictureView (x : Ctx) : PictureView :=
  ⟨x.streamView, x.queue, x.started, x.stopping, x.degrade, x.lastDerived, x.dpic.map DecPicture.work⟩

theorem Ctx.of_streamView {x : Ctx} {v : StreamView} (h : x.streamView = v) :
    x.expSeq = v.expSeq ∧ x.waiting = v.waiting ∧ x.dec.port = v.port := by
  subst h
  exact ⟨rfl, rfl, rfl⟩

theorem Ctx.of_pictureView {x : Ctx} {v : PictureView} (h : x.pictureView = v) :
    x.queue = v.queue ∧ x.started = v.started ∧ x.stopping = v.stopping ∧ x.degrade = v.degrade ∧
      x.lastDerived = v.lastDerived ∧ x.dpic.map DecPicture.work = v.work := by
  subst h
  exact ⟨rfl, rfl, rfl, rfl, rfl, rfl⟩

/-- Nothing of a context. -/
def Ctx.noView (_ : Ctx) : Unit := ()

/-- From `s` to `t` packets or pictures of context `c` have been worked on; of the context a view is as it was. -/
structure DecodeWork {α : Type} (view : Ctx → α) (c : Nat) (s t : State) : Prop where
  regs : SameRegs (decodeRegs c) s t
  others : OnlyCtx c s t
  kept : view (t.ctx c) = view (s.ctx c)
  frame : t = { s with
    regs := t.regs, mem := t.mem, fc := t.fc, ctxs := t.ctxs, drams := t.drams, refc := t.refc, sessWait := t.sessWait
    out := t.out }

namespace DecodeWork

section
variable {α : Type} {view : Ctx → α} {c : Nat} {s t u : State}

theorem refl (view : Ctx → α) (c : Nat) (s : State) : DecodeWork view c s s := ⟨SameRegs.refl _ _, fun _ _ => rfl, rfl, rfl⟩

theorem trans (h : DecodeWork view c s t) (k : DecodeWork view c t u) : DecodeWork view c s u where
  regs := h.regs.trans k.regs
  others := fun d hd => (k.others d hd).trans (h.others d hd)
  kept := k.kept.trans h.kept
  frame := by
    have hk := k.frame
    rw [h.frame] at hk
    exact hk

theorem forget (h : DecodeWork view c s t) : DecodeWork Ctx.noView c s t := ⟨h.regs, h.others, rfl, h.frame⟩

theorem stream (h : DecodeWork Ctx.pictureView c s t) : DecodeWork Ctx.streamView c s t :=
  ⟨h.regs, h.others, congrArg PictureView.stream h.kept, h.frame⟩

/-! ### One state operation -/

theorem setReg (h : DecodeWork view c s t) {k : Nat} (v : Word) (hk : k ∈ decodeRegs c) : DecodeWork view c s (t.setReg k v) :=
  h.trans ⟨fun j hj => by rw [State.setReg_reg, if_neg fun e => hj (by rw [e]; exact hk)], fun _ _ => rfl, rfl, rfl⟩

theorem setRegN (h : DecodeWork view c s t) {k : Nat} (v : Nat) (hk : k ∈ decodeRegs c) : DecodeWork view c s (t.setRegN k v) :=
  h.setReg _ hk

theorem setFld (h : DecodeWork view c s t) {k : Nat} (hi lo v : Nat) (hk : k ∈ decodeRegs c) :
    DecodeWork view c s (t.setFld k hi lo v) := h.setReg _ hk

theorem bump (h : DecodeWork view c s t) {k : Nat} (n : Nat) (hk : k ∈ decodeRegs c) : DecodeWork view c s (t.bump k n) :=
  h.setReg _ hk

theorem emit (h : DecodeWork view c s t) (o : Output) : DecodeWork view c s (t.emit o) :=
  h.trans ⟨SameRegs.refl _ _, fun _ _ => rfl, rfl, rfl⟩

theorem modCtx_at (h : DecodeWork view c s t) {f : Ctx → Ctx} (hf : view (f (t.ctx c)) = view (t.ctx c)) :
    DecodeWork view c s (t.modCtx c f) :=
  h.trans ⟨fun k _ => State.modCtx_reg _ _ _ k, fun d hd => by rw [State.modCtx_ctx, if_neg hd],
    by rw [State.modCtx_ctx, if_pos rfl, hf], rfl⟩

theorem modCtx (h : DecodeWork view c s t) {f : Ctx → Ctx} (hf : ∀ x, view (f x) = view x) :
    DecodeWork view c s (t.modCtx c f) := h.modCtx_at (hf _)

theorem doIf (h : DecodeWork view c s t) (b : Bool) {f : State → State} (hf : DecodeWork view c s (f t)) :
    DecodeWork view c s (t.doIf b f) := State.doIf_ind h hf

theorem walk {β : Type} (h : DecodeWork view c s t) (l : List β) {f : β → State → State}
    (hf : ∀ a u, DecodeWork view c s u → DecodeWork view c s (f a u)) : DecodeWork view c s (t.forEach l f) :=
  State.forEach_ind hf h

theorem onlyMemory (h : DecodeWork view c s t) (hr : SameRegs (decodeRegs c) t u) (k : OnlyMemory t u) : DecodeWork view c s u := by
  have hctx : ∀ d, u.ctx d = t.ctx d := fun d => by rw [k]; rfl
  exact h.trans ⟨hr, fun d _ => hctx d, by rw [hctx], by rw [k]⟩

theorem raise (h : DecodeWork view c s t) (src addr : Nat) {kind : Nat} (hk : faultRegs kind ⊆ decodeRegs c) :
    DecodeWork view c s (t.raise src kind addr) :=
  h.onlyMemory ((t.raise_sameRegs _ _ _).mono hk) (t.raise_onlyMemory _ _ _)

theorem hwWrite (h : DecodeWork view c s t) (a : Nat) (bs : List Byte) : DecodeWork view c s (t.hwWrite a bs) :=
  h.onlyMemory ((t.hwWrite_sameRegs _ _).mono (fenceRegs_sub_decodeRegs c)) (t.hwWrite_onlyMemory _ _)

theorem modDram (h : DecodeWork view c s t) (n : Nat) (f : DramCh → DramCh) : DecodeWork view c s (t.modDram n f) :=
  h.trans ⟨fun k _ => State.modDram_reg _ _ _ k, fun _ _ => rfl, rfl, rfl⟩

theorem lastError (h : DecodeWork view c s t) (code addr : Nat) : DecodeWork view c s (t.lastError c code addr) :=
  h.setRegN _ (by simp [decodeRegs])

theorem setDecState (h : DecodeWork view c s t) (n : Nat) : DecodeWork view c s (t.setDecState c n) :=
  h.setFld _ _ _ (by simp [decodeRegs])

theorem sessStatus (h : DecodeWork view c s t) : DecodeWork view c s (t.sessStatus c) := by
  refine h.onlyMemory ((t.sessStatus_sameRegs c).mono fun k hk => ?_) (t.sessStatus_onlyMemory c)
  rcases List.mem_append.mp hk with hs | hf
  · refine sessRegs_sub_decodeRegs c (List.mem_append_left _ ?_)
    simp only [List.mem_cons, List.not_mem_nil, or_false] at hs ⊢
    tauto
  · exact fenceRegs_sub_decodeRegs c hf

/-! ### Samples (R628) -/

theorem putBlock (h : DecodeWork view c s t) (p : PicRef) (k b : Nat) (v : List Nat) : DecodeWork view c s (t.putBlock p k b v) := by
  unfold State.putBlock
  exact ((h.hwWrite _ _).hwWrite _ _).modDram _ _

theorem putRect (h : DecodeWork view c s t) (p : PicRef) (k x y w m : Nat) (f : Nat → Nat → Nat) :
    DecodeWork view c s (t.putRect p k x y w m f) :=
  h.walk _ fun _ _ hu => hu.putBlock _ _ _ _

end

/-! ### Cells (R68, R154) -/

section
variable {c : Nat} {s t u : State}

theorem storeCell {α : Type} {view : Ctx → α} (h : DecodeWork view c s t) (i : Nat) : DecodeWork view c s (t.storeCell c i) := by
  unfold State.storeCell
  split
  · exact h.doIf _ (h.hwWrite _ _)
  · exact h

theorem markCell (h : DecodeWork Ctx.pictureView c s t) (i : Nat) (b : Bool) :
    DecodeWork Ctx.pictureView c s (t.markCell c i b) := by
  unfold State.markCell State.putCell
  exact (h.modCtx fun _ => by rfl).storeCell i

theorem sendRefreshReq (h : DecodeWork Ctx.pictureView c s t) (r : RefreshSet) (old : Option Await) :
    DecodeWork Ctx.pictureView c s (t.sendRefreshReq c r old) := by
  obtain ⟨hregs, hothers, -, hframe⟩ := (SessWork.refl { ctxs := true, out := true, wait := true } c t).sendRefreshReq r old
  refine h.trans ⟨hregs.mono (sessRegs_sub_decodeRegs c), hothers, ?_, ?_⟩
  · rw [State.sendRefreshReq_ctx]
    rfl
  · rw [hframe]
    rfl

theorem wantRefresh (h : DecodeWork Ctx.pictureView c s t) (r : RefreshSet) :
    DecodeWork Ctx.pictureView c s (t.wantRefresh c r) := by
  unfold State.wantRefresh
  dsimp only
  split
  · unfold State.flushRefresh
    exact (h.modCtx fun _ => by rfl).doIf _ ((h.modCtx fun _ => by rfl).sendRefreshReq _ _)
  · exact h

end

end DecodeWork

end Sys2Proof.Machine

namespace Sys2Proof.Machine

/-! SUPPORT. What each operation on the pictures of a decode context may change (R278 to R296). -/

/-! ### The picture in decoding (R282 to R290) -/

theorem DecPicture.foldl_setMark_work (g : Nat → Nat) (m : CellMark → CellMark) (l : List Nat) :
    ∀ p : DecPicture, (l.foldl (fun p a => p.setMark (g a) m) p).work = p.work := by
  induction l with
  | nil => exact fun _ => rfl
  | cons a l ih => exact fun p => ih _

namespace DecodeWork

variable {c : Nat} {s t : State}

theorem modPic (h : DecodeWork Ctx.pictureView c s t) {f : DecPicture → DecPicture}
    (hf : ∀ p, (f p).work = p.work) : DecodeWork Ctx.pictureView c s (t.modPic c f) := by
  refine h.modCtx fun x => ?_
  have hwork : (x.dpic.map f).map DecPicture.work = x.dpic.map DecPicture.work := by
    rw [Option.map_map]
    exact congrArg (x.dpic.map ·) (funext hf)
  simp only [Ctx.pictureView, hwork]
  rfl

theorem spreadDamage (h : DecodeWork Ctx.pictureView c s t) : DecodeWork Ctx.pictureView c s (t.spreadDamage c) := by
  unfold State.spreadDamage
  exact h.modPic fun p => DecPicture.foldl_setMark_work _ _ _ _

theorem damageCtus (h : DecodeWork Ctx.pictureView c s t) (code : Option Nat) (as : List Nat) :
    DecodeWork Ctx.pictureView c s (t.damageCtus c code as) := by
  unfold State.damageCtus
  split
  · exact h
  · extract_lets new fresh s1 s2 s3
    have hmarked : DecodeWork Ctx.pictureView c s s1 := h.modPic fun p => DecPicture.foldl_setMark_work _ _ _ _
    have hcounted : DecodeWork Ctx.pictureView c s s3 :=
      ((hmarked.walk _ fun i _ hu => hu.markCell i false).bump _ (by simp [decodeRegs])).bump _ (by simp [decodeRegs])
    clear_value new s3
    split
    · exact h
    · refine DecodeWork.spreadDamage ?_
      split
      · exact hcounted.lastError _ _
      · exact hcounted

theorem addSlice (h : DecodeWork Ctx.pictureView c s t) (i : SpsInfo) (lost : Bool) (j : SliceInfo) :
    DecodeWork Ctx.pictureView c s (t.addSlice c i lost j) := by
  unfold State.addSlice
  split
  · exact h
  · extract_lets own gap s1 s2 broken
    have hgap : DecodeWork Ctx.pictureView c s s2 := (h.modPic fun _ => by rfl).damageCtus _ _
    split
    · exact h.lastError _ _
    split
    · exact hgap.damageCtus _ _
    split
    · exact hgap.damageCtus _ _
    · exact hgap.modPic fun _ => rfl

theorem closePicture_stream (h : DecodeWork Ctx.streamView c s t) (i : SpsInfo) (u : AccessUnit) :
    DecodeWork Ctx.streamView c s (t.closePicture c i u) := by
  unfold State.closePicture
  split
  · exact h
  · refine DecodeWork.trans ?_ ((DecodeWork.refl _ c _).damageCtus _ _).stream
    exact h.modCtx fun _ => rfl

/-- The end of an access unit leaves its picture in decoding where the picture is of that access unit. -/
theorem closePicture (h : DecodeWork Ctx.pictureView c s t) (i : SpsInfo) {u : AccessUnit}
    (hu : ∀ p, (t.ctx c).dpic = some p → p.au = u) : DecodeWork Ctx.pictureView c s (t.closePicture c i u) := by
  unfold State.closePicture
  split
  · exact h
  · next p hp =>
    refine DecodeWork.damageCtus (h.modCtx_at ?_) _ _
    simp only [Ctx.pictureView, Ctx.streamView, hp, Option.map_some, DecPicture.work, hu p hp]

/-! ### Concealment (R290 to R293) -/

theorem putDec (h : DecodeWork Ctx.pictureView c s t) (p : DecPicture) (i : SpsInfo) (a : Nat) (f : Nat → Nat → Nat → Nat) :
    DecodeWork Ctx.pictureView c s (t.putDec c p i a f) := by
  unfold State.putDec
  dsimp only
  refine (h.modPic fun _ => by rfl).walk _ fun k u hu => ?_
  split
  · exact hu.putRect _ _ _ _ _ _ _
  · exact hu.walk _ fun v w hw => hw.putRect _ _ _ _ _ _ _

theorem concealCtu (h : DecodeWork Ctx.pictureView c s t) (i : SpsInfo) (a : Nat) :
    DecodeWork Ctx.pictureView c s (t.concealCtu c i a) := by
  unfold State.concealCtu
  split
  · exact h
  · exact (h.modPic fun _ => by rfl).putDec _ _ _ _

theorem concealAll (h : DecodeWork Ctx.pictureView c s t) (i : SpsInfo) (as : List Nat) :
    DecodeWork Ctx.pictureView c s (t.concealAll c i as) :=
  h.walk _ fun a u hu => by
    split
    · exact hu.doIf _ (hu.concealCtu _ _)
    · exact hu

theorem raiseDamage (h : DecodeWork Ctx.pictureView c s t) (p : DecPicture) (i : SpsInfo) :
    DecodeWork Ctx.pictureView c s (t.raiseDamage c p i) := by
  unfold State.raiseDamage
  split
  · exact h.raise _ _ (decodeErrorRegs_sub_decodeRegs c)
  · exact h

/-! ### Output and the decoded picture buffer (R278, R281, R295, R296) -/

theorem outputPicture (h : DecodeWork Ctx.pictureView c s t) (p : DecPicture) :
    DecodeWork Ctx.pictureView c s (t.outputPicture c p) := by
  have hcounted := (((h.bump (k := Reg.DEC_PICS_OUT c) 1 (by simp [decodeRegs])).setRegN (k := Reg.DEC_OUT_RTP_TS c) p.au.ts
    (by simp [decodeRegs])))
  unfold State.outputPicture
  dsimp only
  refine DecodeWork.emit ?_ _
  split
  · exact (hcounted.modCtx fun _ => by rfl).modCtx fun _ => rfl
  · exact hcounted.modCtx fun _ => rfl

theorem tidyDpb (h : DecodeWork Ctx.pictureView c s t) : DecodeWork Ctx.pictureView c s (t.tidyDpb c) := h.modCtx fun _ => rfl

theorem bumpOne (h : DecodeWork Ctx.pictureView c s t) : DecodeWork Ctx.pictureView c s (t.bumpOne c) := by
  unfold State.bumpOne
  split
  · exact h
  · dsimp only
    split
    · exact (h.modCtx fun _ => by rfl).tidyDpb.outputPicture _
    · exact (h.modCtx fun _ => by rfl).tidyDpb

theorem bumpWhile (h : DecodeWork Ctx.pictureView c s t) (f : Ctx → Bool) : DecodeWork Ctx.pictureView c s (t.bumpWhile c f) :=
  h.walk _ fun _ _ hu => hu.doIf _ hu.bumpOne

theorem unmark (h : DecodeWork Ctx.pictureView c s t) (f : Nat → Bool) :
    DecodeWork Ctx.pictureView c s (t.unmark c f) := h.modCtx fun _ => rfl

theorem flushDpb (h : DecodeWork Ctx.pictureView c s t) (output : Bool) :
    DecodeWork Ctx.pictureView c s (t.flushDpb c output) := by
  have hunmarked := h.unmark fun _ => true
  unfold State.flushDpb
  extract_lets s1
  have hout : DecodeWork Ctx.pictureView c s s1 := hunmarked.doIf _ (hunmarked.bumpWhile _)
  exact hout.modCtx fun _ => rfl

theorem settleField (h : DecodeWork Ctx.pictureView c s t) (second : Bool) :
    DecodeWork Ctx.pictureView c s (t.settleField c second) := by
  unfold State.settleField
  split
  · exact h
  split
  · exact h
  · exact h.modCtx fun _ => rfl

theorem usePlace (h : DecodeWork Ctx.pictureView c s t) (base : Nat) :
    DecodeWork Ctx.pictureView c s (t.usePlace c base) := h.modCtx fun _ => rfl

theorem showCrew (h : DecodeWork Ctx.pictureView c s t) (crew : List Nat) :
    DecodeWork Ctx.pictureView c s (t.showCrew c crew) := h.setFld _ _ _ (by simp [decodeRegs])

theorem noteStart (h : DecodeWork Ctx.pictureView c s t) : DecodeWork Ctx.pictureView c s (t.noteStart c) := by
  unfold State.noteStart
  exact h.modCtx fun _ => rfl

theorem placeholder (h : DecodeWork Ctx.pictureView c s t) (i : SpsInfo) (r : Option RefName) (n : Nat) :
    DecodeWork Ctx.pictureView c s (t.placeholder c i r n) := by
  have hraised := ((h.bump (k := Reg.DEC_PLACEHOLDERS c) 1 (by simp [decodeRegs])).raise c 0
    (placeholderRegs_sub_decodeRegs c)).lastError 9 0
  unfold State.placeholder
  dsimp only
  exact (((hraised.modCtx fun _ => by rfl).usePlace _).walk _ fun _ _ hu => hu.putRect _ _ _ _ _ _ _).wantRefresh _

theorem needRef (h : DecodeWork Ctx.pictureView c s t) (i : SpsInfo) (r : RefName) :
    DecodeWork Ctx.pictureView c s (t.needRef c i r) := by
  unfold State.needRef
  dsimp only
  split
  · exact h
  split
  · exact h.modCtx fun _ => rfl
  · exact h.placeholder _ _ _

theorem startDpb (h : DecodeWork Ctx.pictureView c s t) (i : SpsInfo) (u : AccessUnit) (paired : Bool) :
    DecodeWork Ctx.pictureView c s (t.startDpb c i u paired) := by
  have hneeds : ∀ {v : State}, DecodeWork Ctx.pictureView c s v →
      DecodeWork Ctx.pictureView c s ((v.tidyDpb c).forEach u.named fun r s => s.needRef c i r) :=
    fun hv => hv.tidyDpb.walk _ fun r _ hw => hw.needRef i r
  have hmarked : DecodeWork Ctx.pictureView c s (if u.noRasl && !paired then t.flushDpb c !(u.slices.any (·.noPriorOut))
      else if i.h264 then t else t.unmark c fun r => !u.named.any fun n => n.pic == r) := by
    split
    · exact h.flushDpb _
    split
    · exact h
    · exact h.unmark _
  unfold State.startDpb
  exact (hneeds hmarked).doIf _ ((hneeds hmarked).bumpWhile _)

theorem frameGap (h : DecodeWork Ctx.pictureView c s t) (u : AccessUnit) (i : SpsInfo) :
    DecodeWork Ctx.pictureView c s (t.frameGap c u i) := by
  unfold State.frameGap
  split
  · exact h
  split
  · exact h
  · have hgap : ∀ (l : List Nat) (m first : Nat), DecodeWork Ctx.pictureView c s (t.forEach l fun k s =>
        ((s.doIf (Nat.ble i.dpb ((s.ctx c).dpb.filter fun e => e.placeholder && e.ids.isEmpty).length) fun s =>
          s.modCtx c fun x => { x with dpb := x.dpb.eraseP fun e => e.placeholder && e.ids.isEmpty }).placeholder c i none
            ((first + k) % m)).modCtx c fun x => { x with prevFrameNum := some ((first + k) % m) }) :=
      fun l m first => h.walk l fun _ _ hu =>
        ((hu.doIf _ (hu.modCtx fun _ => by rfl)).placeholder _ _ _).modCtx fun _ => by rfl
    exact (hgap _ _ _).doIf _ ((hgap _ _ _).modCtx fun _ => by rfl)

end DecodeWork

end Sys2Proof.Machine

namespace Sys2Proof.Machine

/-! SUPPORT. What each operation on the packets of a decode context may change (R264 to R276). -/

/-! ### Access units (R264 to R276) -/

namespace DecodeWork

variable {c : Nat} {s t : State}

theorem takeSheets (h : DecodeWork Ctx.streamView c s t) (u : AccessUnit) :
    DecodeWork Ctx.streamView c s (t.takeSheets c u).1 := by
  unfold State.takeSheets
  extract_lets empty one two kept s1 v s2 pick
  have hjudged : DecodeWork Ctx.streamView c s s2 :=
    (((h.bump _ (by simp [decodeRegs])).bump _ (by simp [decodeRegs])).modCtx fun _ => by rfl).sessStatus
  clear_value s2 pick
  split
  · exact h
  split
  · exact h.bump _ (by simp [decodeRegs])
  split
  · extract_lets bad
    split
    · exact hjudged.bump _ (by simp [decodeRegs])
    · dsimp only
      split
      · exact hjudged.doIf _ ((hjudged.modCtx fun _ => by rfl).bump _ (by simp [decodeRegs]))
      · exact hjudged
  · dsimp only
    exact hjudged.doIf _ (hjudged.bump _ (by simp [decodeRegs]))

theorem endAu (h : DecodeWork Ctx.streamView c s t) : DecodeWork Ctx.streamView c s (t.endAu c) := by
  unfold State.endAu
  split
  · exact h
  · next u _ =>
    extract_lets s1 r
    have htaken : DecodeWork Ctx.streamView c s s1 := h.modCtx fun _ => rfl
    have hsheets : DecodeWork Ctx.streamView c s r.1 := htaken.takeSheets u
    clear_value s1 r
    split
    · exact htaken
    split
    · exact htaken.modCtx fun _ => rfl
    split
    · exact hsheets
    split
    · split
      · exact hsheets.closePicture_stream _ _
      · exact hsheets.modCtx fun _ => rfl
    · exact hsheets.modCtx fun _ => rfl

theorem modAu (h : DecodeWork Ctx.streamView c s t) (f : AccessUnit → AccessUnit) :
    DecodeWork Ctx.streamView c s (t.modAu c f) := h.modCtx fun _ => rfl

theorem joinAu (h : DecodeWork Ctx.streamView c s t) (ts ssrc arrival : Nat) :
    DecodeWork Ctx.streamView c s (t.joinAu c ts ssrc arrival) := by
  unfold State.joinAu
  split
  · exact h.modAu _
  · exact (h.modCtx fun _ => by rfl).doIf _ (((h.modCtx fun _ => by rfl).bump _ (by simp [decodeRegs])).lastError _ _)

theorem takeSlice (h : DecodeWork Ctx.streamView c s t) (j : SliceInfo) : DecodeWork Ctx.streamView c s (t.takeSlice c j) := by
  unfold State.takeSlice
  dsimp only
  split
  · exact (h.modAu _).doIf _ ((h.modAu _).trans ((DecodeWork.refl _ c _).addSlice _ _ _).stream)
  · exact h.modAu _

theorem passUnit (h : DecodeWork Ctx.streamView c s t) (w : HeldNal) : DecodeWork Ctx.streamView c s (t.passUnit c w) := by
  unfold State.passUnit
  extract_lets other s1 s2
  have hended : DecodeWork Ctx.streamView c s s1 := h.doIf _ h.endAu
  have hjoined : DecodeWork Ctx.streamView c s s2 := hended.joinAu _ _ _
  clear_value s1 s2
  split
  · exact hended
  split
  · exact hended.bump _ (by simp [decodeRegs])
  split
  · exact hjoined
  split
  · exact hjoined.takeSlice _
  · split
    · exact hjoined.lastError _ _
    split
    · exact hjoined.modCtx fun _ => rfl
    · exact hjoined.modAu _
  · exact hjoined.lastError _ _
  · exact hjoined.modAu _
  · split
    · exact hjoined.modAu _
    · exact hjoined.emit _
  · exact hjoined

/-! ### Decoding order (R272) -/

theorem endMarked (h : DecodeWork Ctx.streamView c s t) : DecodeWork Ctx.streamView c s (t.endMarked c) := by
  unfold State.endMarked
  dsimp only
  split
  · exact h.doIf _ h.endAu
  · exact h

theorem drainDon (h : DecodeWork Ctx.streamView c s t) : DecodeWork Ctx.streamView c s (t.drainDon c) :=
  h.walk _ fun _ u hu => by
    dsimp only
    split
    · exact hu
    · exact ((hu.modCtx fun _ => by rfl).passUnit _).endMarked

theorem unitIn (h : DecodeWork Ctx.streamView c s t) (w : HeldNal) : DecodeWork Ctx.streamView c s (t.unitIn c w) := by
  unfold State.unitIn
  split
  · exact (h.modCtx fun _ => by rfl).drainDon
  · exact h.passUnit w

/-! ### Packets (R271 to R275) -/

theorem loseUnit (h : DecodeWork Ctx.streamView c s t) (p : RtpPacket) (arrival : Nat) :
    DecodeWork Ctx.streamView c s (t.loseUnit c p arrival) := by
  unfold State.loseUnit
  split
  · exact h
  · exact (h.joinAu _ _ _).modAu _

theorem packetUnits (h : DecodeWork Ctx.streamView c s t) (p : RtpPacket) (arrival : Nat) :
    DecodeWork Ctx.streamView c s (t.packetUnits c p arrival) :=
  h.walk _ fun _ _ hu => hu.unitIn _

theorem takePacket (h : DecodeWork Ctx.streamView c s t) (p : RtpPacket) :
    DecodeWork Ctx.streamView c s (t.takePacket c p) := by
  unfold State.takePacket
  extract_lets s1 s2
  have hended : DecodeWork Ctx.streamView c s s1 := by
    dsimp only [s1]
    split
    · exact h.doIf _ h.endAu
    · exact h
  have hunits : DecodeWork Ctx.streamView c s s2 := by
    dsimp -zeta only [s2]
    clear_value s1
    split
    · exact (hended.packetUnits _ _).modCtx fun _ => rfl
    · extract_lets s3
      have hfirst : DecodeWork Ctx.streamView c s s3 := hended.doIf _ (hended.modCtx fun _ => by rfl)
      clear_value s3
      split
      · exact (hfirst.loseUnit _ _).doIf _ ((hfirst.loseUnit _ _).modCtx fun _ => by rfl)
      · exact hfirst.doIf _ (hfirst.packetUnits _ _)
  clear_value s2
  split
  · exact h
  · exact hunits.doIf _ (hunits.modCtx fun _ => by rfl).endMarked

end DecodeWork

end Sys2Proof.Machine

namespace Sys2Proof.Machine

/-! SUPPORT. The packets of a decode context: what DEC_PACKET_RX does with one that is expected and one that is early. -/

/-! ### DEC_PACKET_RX (R271 to R273) -/

/-- The stream of a context arrives on a port (R135). -/
def Ctx.fromPort (n : Nat) (x : Ctx) : Ctx := { x with dec := { x.dec with port := n } }

/-- A packet waits for its turn; the first of a stream is the one expected (R272). -/
def Ctx.queuePacket (p : RtpPacket) (x : Ctx) : Ctx :=
  { x with expSeq := some (x.expSeq.getD p.seq.toNat), waiting := x.waiting ++ [p] }

/-- A packet in order is taken, and the next number expected. -/
def Ctx.nextPacket (p : RtpPacket) (x : Ctx) : Ctx :=
  { x with waiting := x.waiting.filter fun q => q.seq != p.seq, expSeq := some ((p.seq.toNat + 1) % 65536) }

section
variable {c e : Nat} {p : RtpPacket} {s : State}

theorem exec_decPacketRx_of_live (hl : s.live (ctxPage c) = true) : exec (.decPacketRx c p) s = .next (s.decPacketRx c p) := by
  show execDecPacketRx c p s = _
  rw [execDecPacketRx, State.ifLive_of _ _ _ hl]

theorem exec_lossWaitExpiry_of_live (hl : s.live (ctxPage c) = true) :
    exec (.lossWaitExpiry c) s = .next (s.lossWaitExpiry c) := by
  show execLossWaitExpiry c s = _
  rw [execLossWaitExpiry, State.ifLive_of _ _ _ hl]

/-- Without a running session a packet of the stream shows its port, and that is all. -/
theorem State.streamPacket_idle (h : s.sessRuns c = false) (port src ssrc : Nat) :
    s.streamPacket c port src ssrc = s.modCtx c (Ctx.fromPort port) := by
  have hoff : (!(s.modCtx c (Ctx.fromPort port)).sessRuns c) = true := congrArg not h
  unfold State.streamPacket
  exact if_pos hoff

/-- A packet that is neither late nor a second one of its number waits, and what is then in order is taken. -/
theorem State.decPacketRx_queued (hctx : s.ctxEnabled c = true ∧ s.isEncode c = false ∧ s.sessRuns c = false)
    (hpt : s.rbit (Reg.DEC_RTP c) 7 = true ∨ s.fld (Reg.DEC_RTP c) 6 0 = p.pt.toNat)
    (hid : s.regN (Reg.SESS_STREAM_ID c) = 0 ∨ s.regN (Reg.SESS_STREAM_ID c) = p.ssrc.toNat)
    (hlate : ∀ e, (s.ctx c).expSeq = some e → p.seq.toNat = e ∨ later16 p.seq.toNat e = true)
    (hnew : ∀ w ∈ (s.ctx c).waiting, w.seq ≠ p.seq) :
    s.decPacketRx c p =
      (((s.modCtx c (Ctx.fromPort p.port.val)).doIf p.unsupported fun s => s.bump (Reg.DEC_PKT_UNSUP c) 1).modCtx c
        (Ctx.queuePacket p)).drainPackets c ((s.ctx c).waiting.length + 1) := by
  obtain ⟨hen, henc, hsess⟩ := hctx
  have hours : (!s.rbit (Reg.DEC_RTP c) 7 && s.fld (Reg.DEC_RTP c) 6 0 != p.pt.toNat || s.regN (Reg.SESS_STREAM_ID c) != 0 &&
      s.regN (Reg.SESS_STREAM_ID c) != p.ssrc.toNat) = false := by
    rcases hpt with h | h <;> rcases hid with k | k <;> simp [h, k]
  have hx : (s.modCtx c (Ctx.fromPort p.port.val)).ctx c = (s.ctx c).fromPort p.port.val := by
    rw [State.modCtx_ctx, if_pos rfl]
  unfold State.decPacketRx
  dsimp only
  rw [hen, henc, hours, State.streamPacket_idle hsess, hx]
  rw [if_neg (by decide), if_neg (by decide)]
  refine if_neg ?_
  rw [Bool.not_eq_true, Bool.or_eq_false_iff]
  refine ⟨?_, by simpa [Ctx.fromPort] using hnew⟩
  split
  · rfl
  · next e he => rcases hlate e he with h | h <;> simp [h]

/-- The one packet that waits and is in order is taken. -/
theorem State.drainPackets_one (hw : (s.ctx c).waiting = [p]) (he : (s.ctx c).expSeq = some p.seq.toNat) :
    s.drainPackets c 1 = (s.modCtx c (Ctx.nextPacket p)).takePacket c p := by
  simp only [State.drainPackets, hw, he, List.find?_cons, BEq.rfl]
  rfl

/-- No packet that waits is in order. -/
theorem State.drainPackets_none (h : ∀ w ∈ (s.ctx c).waiting, (s.ctx c).expSeq ≠ some w.seq.toNat) (n : Nat) :
    s.drainPackets c n = s := by
  cases n with
  | zero => rfl
  | succ n =>
    have hfind : ((s.ctx c).waiting.find? fun p => some p.seq.toNat == (s.ctx c).expSeq) = none := by
      rw [List.find?_eq_none]
      intro w hw heq
      exact h w hw (beq_iff_eq.mp heq).symm
    simp only [State.drainPackets, hfind]

/-- What taking the one packet that waits leaves. -/
theorem DecodeWork.drainPackets_one (hw : (s.ctx c).waiting = [p]) (he : (s.ctx c).expSeq = some p.seq.toNat) :
    DecodeWork Ctx.noView c s (s.drainPackets c 1) ∧
      ((s.drainPackets c 1).ctx c).streamView = ⟨some ((p.seq.toNat + 1) % 65536), [], (s.ctx c).dec.port⟩ := by
  have htaken := (DecodeWork.refl Ctx.streamView c (s.modCtx c (Ctx.nextPacket p))).takePacket p
  rw [State.drainPackets_one hw he]
  refine ⟨((DecodeWork.refl _ c s).modCtx fun _ => by rfl).trans htaken.forget, htaken.kept.trans ?_⟩
  rw [State.modCtx_ctx, if_pos rfl]
  simp only [Ctx.streamView, Ctx.nextPacket, hw, List.filter_cons, bne_self_eq_false, List.filter_nil, Bool.false_eq_true,
    if_false]

theorem exec_decPacketRx_expected (hl : s.live (ctxPage c) = true)
    (hctx : s.ctxEnabled c = true ∧ s.isEncode c = false ∧ s.sessRuns c = false)
    (hpt : s.rbit (Reg.DEC_RTP c) 7 = true ∨ s.fld (Reg.DEC_RTP c) 6 0 = p.pt.toNat)
    (hid : s.regN (Reg.SESS_STREAM_ID c) = 0 ∨ s.regN (Reg.SESS_STREAM_ID c) = p.ssrc.toNat)
    (hseq : (s.ctx c).expSeq = none ∨ (s.ctx c).expSeq = some p.seq.toNat) (hw : (s.ctx c).waiting = []) :
    Completes (.decPacketRx c p) s fun t => DecodeWork Ctx.noView c s t ∧
      (t.ctx c).streamView = ⟨some ((p.seq.toNat + 1) % 65536), [], p.port.val⟩ := by
  have hqueued := State.decPacketRx_queued hctx hpt hid
    (fun e he => .inl (by rcases hseq with h | h <;> simp_all)) (by rw [hw]; exact fun _ h => absurd h List.not_mem_nil)
  have hshown : DecodeWork Ctx.noView c s
      ((s.modCtx c (Ctx.fromPort p.port.val)).doIf p.unsupported fun s => s.bump (Reg.DEC_PKT_UNSUP c) 1) :=
    have hported := (DecodeWork.refl Ctx.noView c s).modCtx (f := Ctx.fromPort p.port.val) fun _ => rfl
    hported.doIf _ (hported.bump _ (by simp [decodeRegs]))
  have hport : ((s.modCtx c (Ctx.fromPort p.port.val)).doIf p.unsupported fun s => s.bump (Reg.DEC_PKT_UNSUP c) 1).ctx c =
      (s.ctx c).fromPort p.port.val := by
    refine State.doIf_ind (P := fun u => u.ctx c = (s.ctx c).fromPort p.port.val) ?_ ?_
    · rw [State.modCtx_ctx, if_pos rfl]
    · rw [State.bump_ctx, State.modCtx_ctx, if_pos rfl]
  generalize (s.modCtx c (Ctx.fromPort p.port.val)).doIf p.unsupported _ = u at *
  have hx : (u.modCtx c (Ctx.queuePacket p)).ctx c = ((s.ctx c).fromPort p.port.val).queuePacket p := by
    rw [State.modCtx_ctx, if_pos rfl, hport]
  obtain ⟨hwork, hview⟩ := DecodeWork.drainPackets_one (c := c) (p := p) (s := u.modCtx c (Ctx.queuePacket p))
    (by rw [hx]; exact congrArg (· ++ [p]) hw)
    (by
      rw [hx]
      have hget : (s.ctx c).expSeq.getD p.seq.toNat = p.seq.toNat := by rcases hseq with h | h <;> rw [h] <;> rfl
      exact congrArg some hget)
  rw [hw] at hqueued
  refine ⟨_, by rw [exec_decPacketRx_of_live hl, hqueued]; rfl, (hshown.modCtx fun _ => by rfl).trans hwork, ?_⟩
  rw [hx] at hview
  exact hview

theorem exec_decPacketRx_early (hl : s.live (ctxPage c) = true)
    (hctx : s.ctxEnabled c = true ∧ s.isEncode c = false ∧ s.sessRuns c = false)
    (hpt : s.rbit (Reg.DEC_RTP c) 7 = true ∨ s.fld (Reg.DEC_RTP c) 6 0 = p.pt.toNat)
    (hid : s.regN (Reg.SESS_STREAM_ID c) = 0 ∨ s.regN (Reg.SESS_STREAM_ID c) = p.ssrc.toNat)
    (he : (s.ctx c).expSeq = some e) (hlater : later16 p.seq.toNat e = true) (hsup : p.unsupported = false)
    (hw : ∀ w ∈ (s.ctx c).waiting, w.seq ≠ p.seq ∧ w.seq.toNat ≠ e) :
    exec (.decPacketRx c p) s = .next (s.modCtx c fun x =>
      { x with dec := { x.dec with port := p.port.val }, waiting := x.waiting ++ [p] }) := by
  have hqueued := State.decPacketRx_queued hctx hpt hid (fun e' he' => .inr (by rw [he] at he'; cases he'; exact hlater))
    fun w hm => (hw w hm).1
  rw [hsup, State.doIf_false, State.modCtx_modCtx] at hqueued
  rw [exec_decPacketRx_of_live hl, hqueued, State.drainPackets_none]
  · simp only [State.modCtx, Ctx.queuePacket, Ctx.fromPort, he, Option.getD_some]
  · intro w hm
    rw [State.modCtx_ctx, if_pos rfl] at hm ⊢
    simp only [Ctx.queuePacket, Ctx.fromPort, he, Option.getD_some, List.mem_append, List.mem_singleton] at hm ⊢
    rcases hm with hold | rfl
    · exact fun h => (hw w hold).2 (Option.some.inj h).symm
    · exact fun h => later16_ne w.seq.isLt hlater (Option.some.inj h).symm

end

end Sys2Proof.Machine

namespace Sys2Proof.Machine

/-! SUPPORT. The end of the wait for a lost packet, the start and the end of a picture of a decode context. -/

/-! ### LOSS_WAIT_EXPIRY (R274) -/

section
variable {c e : Nat} {p : RtpPacket} {s t : State}

/-- What work on packets or pictures leaves after a counter of its own command: the count, the other contexts, the frame. -/
theorem DecodeWork.after_bump {α : Type} {view : Ctx → α} {k n : Nat} (h : DecodeWork view c (s.bump k n) t)
    (hk : k ∉ decodeRegs c) :
    t.reg k = sat32 (s.regN k + n) ∧ OnlyCtx c s t ∧ t = { s with
      regs := t.regs, mem := t.mem, fc := t.fc, ctxs := t.ctxs, drams := t.drams, refc := t.refc, sessWait := t.sessWait
      out := t.out } :=
  ⟨by rw [h.regs k hk, State.bump_reg, if_pos rfl], h.others, h.frame⟩

/-- What is missing before a packet is lost; the packet is the one expected now (R274). -/
def Ctx.loseBefore (p : RtpPacket) (x : Ctx) : Ctx := { x with expSeq := some p.seq.toNat, fuLost := true, lastDon := none }

/-- The end of the wait before the one packet that waits: what is missing is counted, and the packet taken. -/
theorem State.lossWaitExpiry_one (he : (s.ctx c).expSeq = some e) (hw : (s.ctx c).waiting = [p]) :
    let u := s.bump (Reg.DEC_PKT_LOST c) ((p.seq.toNat + 65536 - e) % 65536)
    s.lossWaitExpiry c = (((u.lastError c 6 (u.missingAt c)).modAu c fun a => { a with lost := true }).modCtx c
      (Ctx.loseBefore p)).drainPackets c 1 := by
  simp only [State.lossWaitExpiry, he, hw, minBy?]
  rfl

theorem exec_lossWaitExpiry_one (hl : s.live (ctxPage c) = true) (he : (s.ctx c).expSeq = some e) (hw : (s.ctx c).waiting = [p]) :
    Completes (.lossWaitExpiry c) s fun t =>
      DecodeWork Ctx.noView c (s.bump (Reg.DEC_PKT_LOST c) ((p.seq.toNat + 65536 - e) % 65536)) t ∧
      (t.ctx c).streamView = ⟨some ((p.seq.toNat + 1) % 65536), [], (s.ctx c).dec.port⟩ := by
  have hexp := State.lossWaitExpiry_one he hw
  dsimp only at hexp
  have hctx : (s.bump (Reg.DEC_PKT_LOST c) ((p.seq.toNat + 65536 - e) % 65536)).ctx c = s.ctx c := s.bump_ctx _ _ _
  generalize s.bump (Reg.DEC_PKT_LOST c) _ = u at *
  have hlost : DecodeWork Ctx.streamView c u ((u.lastError c 6 (u.missingAt c)).modAu c fun a => { a with lost := true }) :=
    ((DecodeWork.refl _ c u).lastError _ _).modAu _
  generalize (u.lastError c 6 (u.missingAt c)).modAu c _ = v at *
  obtain ⟨-, hwait, hport⟩ := Ctx.of_streamView (hlost.kept.trans (congrArg Ctx.streamView hctx))
  have hx : (v.modCtx c (Ctx.loseBefore p)).ctx c = (v.ctx c).loseBefore p := by rw [State.modCtx_ctx, if_pos rfl]
  obtain ⟨hwork, hview⟩ := DecodeWork.drainPackets_one (c := c) (p := p) (s := v.modCtx c (Ctx.loseBefore p))
    (by rw [hx]; exact hwait.trans hw) (by rw [hx]; rfl)
  refine ⟨_, by rw [exec_lossWaitExpiry_of_live hl, hexp],
    (hlost.forget.modCtx fun _ => by rfl).trans hwork, hview.trans ?_⟩
  rw [hx]
  exact congrArg (StreamView.mk _ _) hport

end

/-! ### DEC_PICTURE_START (R277, R289, R298) -/

section
variable {c : Nat} {u : AccessUnit} {rest : List AccessUnit} {i : SpsInfo} {s : State}

/-- The view of a context that has begun to decode an access unit. -/
def PictureView.begun (v : PictureView) (u : AccessUnit) : PictureView := { v with started := true, work := some (u, []) }

/-- A picture is in decoding, and what is looked for after it is noted (R289, R298). -/
def Ctx.begin (p : DecPicture) (r : Option RecoveryWait) (x : Ctx) : Ctx := { x with dpic := some p, started := true, recov := r }

/-- The state with a picture of an access unit in decoding, its place, its crew, its start and the status shown. -/
def State.showBegun (s : State) (c : Nat) (p : DecPicture) (r : Option RecoveryWait) (n : Nat) : State :=
  ((((s.modCtx c (Ctx.begin p r)).usePlace c p.pic.base).showCrew c p.crew).noteStart c).setDecState c n

/-- Work on an access unit begins with a new picture of it, of which nothing is decoded, after the buffer has room for it. -/
theorem State.beginDecode_eq (s : State) (c : Nat) (u : AccessUnit) (i : SpsInfo) (ended : Bool) : ∃ p r b n, p.work = (u, []) ∧
    s.beginDecode c u i ended = ((((s.settleField c u.isSecond).startDpb c i u b).showBegun c p r n).forEach u.slices
      fun j s => s.addSlice c i u.lost j).doIf ended fun s => s.closePicture c i u :=
  ⟨_, _, _, _, rfl, rfl⟩

theorem DecodeWork.showBegun (s : State) (c : Nat) (p : DecPicture) (r : Option RecoveryWait) (n : Nat) :
    DecodeWork Ctx.noView c s (s.showBegun c p r n) ∧
      ((s.showBegun c p r n).ctx c).pictureView = { (s.ctx c).pictureView with started := true, work := some p.work } := by
  have hshown : DecodeWork Ctx.pictureView c (s.modCtx c (Ctx.begin p r)) (s.showBegun c p r n) :=
    (((DecodeWork.refl _ c _).usePlace p.pic.base).showCrew p.crew).noteStart.setDecState n
  have hbegun : ((s.modCtx c (Ctx.begin p r)).ctx c).pictureView =
      { (s.ctx c).pictureView with started := true, work := some p.work } := by
    rw [State.modCtx_ctx, if_pos rfl]
    rfl
  exact ⟨((DecodeWork.refl Ctx.noView c s).modCtx (f := Ctx.begin p r) fun _ => rfl).trans hshown.forget,
    hshown.kept.trans hbegun⟩

theorem DecodeWork.beginDecode (s : State) (c : Nat) (u : AccessUnit) (i : SpsInfo) (ended : Bool) :
    DecodeWork Ctx.noView c s (s.beginDecode c u i ended) ∧
      ((s.beginDecode c u i ended).ctx c).pictureView = (s.ctx c).pictureView.begun u := by
  obtain ⟨p, r, b, n, hp, hbegin⟩ := s.beginDecode_eq c u i ended
  have hready := ((DecodeWork.refl Ctx.pictureView c s).settleField u.isSecond).startDpb i u b
  obtain ⟨hshown, hbegun⟩ := DecodeWork.showBegun ((s.settleField c u.isSecond).startDpb c i u b) c p r n
  rw [hready.kept, hp] at hbegun
  rw [hbegin]
  generalize ((s.settleField c u.isSecond).startDpb c i u b).showBegun c p r n = v at *
  have hslices := (DecodeWork.refl Ctx.pictureView c v).walk u.slices (f := fun j s => s.addSlice c i u.lost j)
    fun j _ hu => hu.addSlice i u.lost j
  generalize (v.forEach u.slices fun j s => s.addSlice c i u.lost j) = w at *
  have hau : ∀ q, (w.ctx c).dpic = some q → q.au = u := by
    intro q hq
    obtain ⟨-, -, -, -, -, hwork⟩ := Ctx.of_pictureView (hslices.kept.trans hbegun)
    rw [hq] at hwork
    exact congrArg Prod.fst (Option.some.inj hwork)
  have hclosed := (DecodeWork.refl Ctx.pictureView c w).doIf ended (f := fun s => s.closePicture c i u)
    ((DecodeWork.refl _ c w).closePicture i hau)
  exact ⟨((hready.forget.trans hshown).trans hslices.forget).trans hclosed.forget,
    hclosed.kept.trans (hslices.kept.trans hbegun)⟩

/-- A picture that refers to the set in force, and is no IRAP picture, changes nothing of what is in force (R268). -/
theorem State.activate_inForce (hsps : (s.ctx c).sps = some i) (hnone : (s.ctx c).refused = none) : s.activate c i false = s := by
  unfold State.activate
  dsimp only
  rw [hsps, hnone]
  simp

/-- A picture of a context that skips nothing and is not degraded is begun. -/
theorem State.admitPicture_begins (hirap : u.irap = false) (hskip : (s.ctx c).skipChain = false) (hrasl : (s.ctx c).raslSkip = false)
    (hdeg : (s.ctx c).degrade = 0) (ended : Bool) :
    s.admitPicture c u i ended =
      ((s.frameGap c u i).modCtx c fun x => { x with skipChain := false }).beginDecode c u i ended := by
  obtain ⟨-, -, -, hkept, -⟩ := Ctx.of_pictureView ((DecodeWork.refl Ctx.pictureView c s).frameGap u i).kept
  have hmay : (s.frameGap c u i).mayStart c = true := by
    simp [State.mayStart, hkept.trans hdeg]
  unfold State.admitPicture
  dsimp only
  rw [hrasl, Bool.and_false, hskip, Bool.false_and, hirap, State.doIf_false, hmay]
  rfl

/-- The oldest access unit that waits is taken from the queue. -/
def State.takeAu (s : State) (c : Nat) (u : AccessUnit) : State :=
  (s.modCtx c fun x => { x with queue := x.queue.drop 1 }).storeSets c u.sets

theorem State.takeAu_ctx (hsets : u.sets = []) (hq : (s.ctx c).queue = u :: rest) :
    (s.takeAu c u).ctx c = { s.ctx c with queue := rest } := by
  rw [State.takeAu, State.storeSets, State.modCtx_ctx, if_pos rfl, State.modCtx_ctx, if_pos rfl, hsets, hq]
  rfl

theorem State.pictureSps_congr {t : State} (hr : t.regs = s.regs) (hspss : (t.ctx c).spss = (s.ctx c).spss)
    (hsps : (t.ctx c).sps = (s.ctx c).sps) (u : AccessUnit) : t.pictureSps c u = s.pictureSps c u := by
  simp only [State.pictureSps, State.headerOk, State.rbit, State.reg, hr, hspss, hsps]

theorem DecodeWork.takeAu (s : State) (c : Nat) (u : AccessUnit) : DecodeWork Ctx.noView c s (s.takeAu c u) := by
  unfold State.takeAu State.storeSets
  exact ((DecodeWork.refl _ c s).modCtx fun _ => by rfl).modCtx fun _ => rfl

theorem State.decPictureStart_queued (hon : s.ctxEnabled c = true ∧ s.isEncode c = false) (hidle : (s.ctx c).dpic = none)
    (hstarted : (s.ctx c).started = true) (hfirst : s.goesFirst c = true) (hsps : (s.ctx c).sps = some i)
    (hnone : (s.ctx c).refused = none) (hq : (s.ctx c).queue = u :: rest) (hsets : u.sets = [])
    (hpic : s.pictureSps c u = some i) (hirap : u.irap = false) :
    s.decPictureStart c = (s.takeAu c u).admitPicture c u i true := by
  obtain ⟨hen, henc⟩ := hon
  have hnext : s.nextAu c = some (u, true) := by
    simp only [State.nextAu, hq]
  have hctx := State.takeAu_ctx hsets hq
  have hregs : (s.takeAu c u).regs = s.regs := rfl
  have hpic' : (s.takeAu c u).pictureSps c u = some i := by
    rw [State.pictureSps_congr hregs (by rw [hctx]) (by rw [hctx]), hpic]
  have hact : (s.takeAu c u).activate c i false = s.takeAu c u :=
    State.activate_inForce (by rw [hctx]; exact hsps) (by rw [hctx]; exact hnone)
  unfold State.decPictureStart
  rw [hen, henc, hidle, hfirst, hnext]
  dsimp only
  rw [State.doIf_true, ← State.takeAu, hpic', hirap]
  dsimp only
  rw [hact, hctx, hstarted, hnone]
  rfl

theorem exec_decPictureStart_of_live (hl : s.live (ctxPage c) = true) :
    exec (.decPictureStart c) s = .next ((s.decPictureStart c).stopIfDone c) := by
  show execDecPictureStart c s = _
  rw [execDecPictureStart, State.ifLive_of _ _ _ hl]

theorem State.stopIfDone_running (h : (s.ctx c).stopping = false) : s.stopIfDone c = s := by
  simp only [State.stopIfDone, h, Bool.false_and, Bool.false_eq_true, if_false]

theorem exec_decPictureStart_queued (hl : s.live (ctxPage c) = true) (hon : s.ctxEnabled c = true ∧ s.isEncode c = false)
    (hidle : (s.ctx c).dpic = none) (hrun : (s.ctx c).stopping = false) (hstarted : (s.ctx c).started = true)
    (hdeg : (s.ctx c).degrade = 0) (hfirst : s.goesFirst c = true) (hskip : (s.ctx c).skipChain = false)
    (hrasl : (s.ctx c).raslSkip = false) (hsps : (s.ctx c).sps = some i) (hnone : (s.ctx c).refused = none)
    (hq : (s.ctx c).queue = u :: rest) (hsets : u.sets = []) (hpic : s.pictureSps c u = some i) (hirap : u.irap = false) :
    Completes (.decPictureStart c) s fun t => DecodeWork Ctx.noView c s t ∧
      (t.ctx c).pictureView = ({ (s.ctx c).pictureView with queue := rest }).begun u := by
  have hctx := State.takeAu_ctx hsets hq
  have hgap : DecodeWork Ctx.pictureView c (s.takeAu c u)
      (((s.takeAu c u).frameGap c u i).modCtx c fun x => { x with skipChain := false }) :=
    ((DecodeWork.refl _ c _).frameGap u i).modCtx fun _ => rfl
  obtain ⟨hbegin, hview⟩ := DecodeWork.beginDecode
    (((s.takeAu c u).frameGap c u i).modCtx c fun x => { x with skipChain := false }) c u i true
  have hstart : s.decPictureStart c = (((s.takeAu c u).frameGap c u i).modCtx c fun x =>
      { x with skipChain := false }).beginDecode c u i true := by
    rw [State.decPictureStart_queued hon hidle hstarted hfirst hsps hnone hq hsets hpic hirap]
    exact State.admitPicture_begins hirap (by rw [hctx]; exact hskip) (by rw [hctx]; exact hrasl) (by rw [hctx]; exact hdeg) true
  rw [← hstart] at hbegin hview
  rw [hgap.kept, hctx] at hview
  obtain ⟨-, -, hstays, -⟩ := Ctx.of_pictureView hview
  refine ⟨_, ?_, ((DecodeWork.takeAu s c u).trans hgap.forget).trans hbegin, hview⟩
  rw [exec_decPictureStart_of_live hl, State.stopIfDone_running (hstays.trans hrun)]

end

/-! ### DEC_PICTURE_COMPLETE (R278, R289, R298) -/

/-- From `s` to `t` the jobs and the lanes of context `c` have been given back: the figures of bays, engines and lanes, at offset
0x040 of their pages, and CTX_PLACEMENT, at 0x298 of its page, are all of the registers that may differ. -/
structure JobWork (c : Nat) (s t : State) : Prop where
  regs : ∀ k, k % 0x1000 ≠ 0x040 → k % 0x1000 ≠ 0x298 → t.reg k = s.reg k
  others : OnlyCtx c s t
  kept : (t.ctx c).pictureView = (s.ctx c).pictureView
  frame : t = { s with regs := t.regs, ctxs := t.ctxs, bays := t.bays, px := t.px }

theorem figure_offset (n : Nat) : Reg.PX_STATUS n % 0x1000 = 0x040 ∧ Reg.BAY_STATUS n % 0x1000 = 0x040 ∧
    Reg.EL_STATUS n % 0x1000 = 0x040 ∧ Reg.CTX_PLACEMENT n % 0x1000 = 0x298 := by
  simp only [Reg.PX_STATUS, Reg.BAY_STATUS, Reg.EL_STATUS, Reg.CTX_PLACEMENT]
  omega

namespace JobWork

variable {c : Nat} {s t : State}

theorem refl (c : Nat) (s : State) : JobWork c s s := ⟨fun _ _ _ => rfl, fun _ _ => rfl, rfl, rfl⟩

theorem trans {u : State} (h : JobWork c s t) (k : JobWork c t u) : JobWork c s u where
  regs := fun j h1 h2 => (k.regs j h1 h2).trans (h.regs j h1 h2)
  others := fun d hd => (k.others d hd).trans (h.others d hd)
  kept := k.kept.trans h.kept
  frame := by
    have hk := k.frame
    rw [h.frame] at hk
    exact hk

theorem setReg (h : JobWork c s t) {k : Nat} (v : Word) (hk : k % 0x1000 = 0x040 ∨ k % 0x1000 = 0x298) :
    JobWork c s (t.setReg k v) :=
  h.trans ⟨fun j h1 h2 => by rw [State.setReg_reg, if_neg fun e => (e ▸ hk).elim h1 h2], fun _ _ => rfl, rfl, rfl⟩

theorem modCtx (h : JobWork c s t) {f : Ctx → Ctx} (hf : ∀ x, (f x).pictureView = x.pictureView) :
    JobWork c s (t.modCtx c f) :=
  h.trans ⟨fun k _ _ => State.modCtx_reg _ _ _ k, fun d hd => by rw [State.modCtx_ctx, if_neg hd],
    by rw [State.modCtx_ctx, if_pos rfl, hf], rfl⟩

theorem modBay (h : JobWork c s t) (b : Nat) (f : Bay → Bay) : JobWork c s (t.modBay b f) :=
  h.trans ⟨fun k _ _ => State.modBay_reg _ _ _ k, fun _ _ => rfl, rfl, rfl⟩

theorem modPx (h : JobWork c s t) (n : Nat) (f : Px → Px) : JobWork c s (t.modPx n f) :=
  h.trans ⟨fun k _ _ => State.modPx_reg _ _ _ k, fun _ _ => rfl, rfl, rfl⟩

theorem syncBay (h : JobWork c s t) (b : Nat) : JobWork c s (t.syncBay b) := h.setReg _ (.inl (figure_offset b).2.1)

theorem showPx (h : JobWork c s t) (n : Nat) : JobWork c s (t.showPx n) :=
  (h.setReg (k := Reg.PX_STATUS n) _ (.inl (figure_offset n).1)).setReg _ (.inl (figure_offset n).1)

theorem putItem (h : JobWork c s t) (n : Nat) (it : PxItem) : JobWork c s (t.putItem n it) := (h.modPx _ _).showPx n

theorem nextWindow (h : JobWork c s t) (b : Nat) : JobWork c s (t.nextWindow b) := by
  unfold State.nextWindow
  split
  · exact (h.modBay _ _).putItem _ _
  · exact h

theorem engineDone (h : JobWork c s t) (n : Nat) : JobWork c s (t.engineDone n) :=
  (((h.modPx _ _).modBay _ _).showPx _).nextWindow _

theorem laneDone (h : JobWork c s t) (n : Nat) : JobWork c s (t.laneDone c n) :=
  have hfree := h.setReg (k := Reg.EL_STATUS n) (putBit (t.reg (Reg.EL_STATUS n)) 0 false) (.inl (figure_offset n).2.2.1)
  (hfree.modCtx fun _ => by rfl).setReg _ (.inr (figure_offset c).2.2.2)

theorem dropJobs (h : JobWork c s t) : JobWork c s (t.dropJobs c) := by
  have hbays : ∀ l : List Nat, JobWork c s (t.forEach l fun b s =>
      ((s.forEach (((s.bay b).jobs.filter fun j => j.ctx == c).flatMap fun j => j.on.map (·.1)) fun e s =>
        s.engineDone (8 * b + e)).modBay b fun x => { x with jobs := x.jobs.filter fun j => j.ctx != c }).syncBay b) :=
    fun l => State.forEach_ind (P := JobWork c s) (fun b _ hu => ((State.forEach_ind (P := JobWork c s)
      (fun e _ hv => hv.engineDone _) hu).modBay _ _).syncBay b) h
  unfold State.dropJobs
  exact (State.forEach_ind (P := JobWork c s) (fun l _ hu => hu.laneDone l.1) (hbays _)).modCtx fun _ => rfl

end JobWork

section
variable {c : Nat} {p : DecPicture} {i : SpsInfo} {s : State}

/-- The view of a context whose picture has ended, with placeholder-derived CTUs or without. -/
def PictureView.ended (v : PictureView) (derived : Bool) : PictureView := { v with lastDerived := derived, work := none }

/-- A picture that ends is concealed where it has to be, then counted and taken out of decoding, then output in its turn. -/
theorem DecodeWork.endDecode (hp : (s.ctx c).dpic = some p) (i : SpsInfo) : ∃ u f,
    DecodeWork Ctx.pictureView c s u ∧ (∀ x : Ctx, (f x).pictureView = x.pictureView.ended !p.holders.isEmpty) ∧
      DecodeWork Ctx.pictureView c ((u.bump (Reg.DEC_PICS c) 1).modCtx c f) (s.endDecode c i) := by
  have hconc := (DecodeWork.refl Ctx.pictureView c s).concealAll i
    (List.range (((s.ctx c).dpic.map fun p => p.ctuCount i).getD 0))
  unfold State.endDecode
  extract_lets s1
  have hwork : (s1.ctx c).dpic.map DecPicture.work = some p.work := by
    obtain ⟨-, -, -, -, -, hsame⟩ := Ctx.of_pictureView hconc.kept
    exact hsame.trans (congrArg (Option.map DecPicture.work) hp)
  obtain ⟨q, hq, hqp⟩ := Option.map_eq_some_iff.mp hwork
  have hholders : q.holders = p.holders := congrArg Prod.snd hqp
  rw [hq]
  dsimp only
  rw [← hholders]
  have hended : ∀ u n b (g : Nat → Bool) (h : Ctx → Bool), DecodeWork Ctx.pictureView c u
      ((((u.setDecState c n).doIf b fun s => s.unmark c g).tidyDpb c).bumpWhile c h) :=
    fun u n b g h => ((((DecodeWork.refl _ c u).setDecState n).doIf b
      (((DecodeWork.refl _ c u).setDecState n).unmark g)).tidyDpb).bumpWhile h
  refine ⟨_, _, ?_, ?_, hended _ _ _ _ _⟩
  · have hraised := (hconc.raiseDamage q i).doIf
    refine DecodeWork.doIf ?_ _ (DecodeWork.flushDpb ?_ _)
    · exact hraised _ ((hconc.raiseDamage q i).bump _ (by simp [decodeRegs]))
    · exact hraised _ ((hconc.raiseDamage q i).bump _ (by simp [decodeRegs]))
  · exact fun x => rfl

theorem State.decPictureComplete_ends (hp : (s.ctx c).dpic = some p) (hi : (s.ctx c).sps = some i)
    (harr : p.arriving = false) (hjob : s.hasJob c .decode = false)
    (hall : ∀ a ∈ List.range (p.ctuCount i), a ∈ p.done ∨ a ∈ p.damaged) :
    s.decPictureComplete c = s.endDecode c i := by
  have hdone : ((List.range (p.ctuCount i)).all fun a => p.done.elem a || p.damaged.elem a) = true := by
    simpa [List.all_eq_true] using hall
  unfold State.decPictureComplete
  dsimp only
  rw [hp, hi]
  dsimp only
  rw [harr, hjob, hdone]
  rfl

theorem exec_decPictureComplete_of_live (hl : s.live (ctxPage c) = true) (hp : (s.ctx c).dpic = some p)
    (hended : ((s.decPictureComplete c).ctx c).dpic = none) :
    exec (.decPictureComplete c) s = .next (((s.decPictureComplete c).dropJobs c).stopIfDone c) := by
  show execDecPictureComplete c s = _
  rw [execDecPictureComplete, State.ifLive_of _ _ _ hl]
  exact congrArg Host.Outcome.next (if_pos (by rw [hp, hended]; rfl))

theorem exec_decPictureComplete_ends (hl : s.live (ctxPage c) = true) (hp : (s.ctx c).dpic = some p)
    (hi : (s.ctx c).sps = some i) (hrun : (s.ctx c).stopping = false) (harr : p.arriving = false) (hjob : s.hasJob c .decode = false)
    (hall : ∀ a ∈ List.range (p.ctuCount i), a ∈ p.done ∨ a ∈ p.damaged) :
    ∃ u v t, DecodeWork Ctx.noView c s u ∧ DecodeWork Ctx.noView c (u.bump (Reg.DEC_PICS c) 1) v ∧ JobWork c v t ∧
      (t.ctx c).pictureView = (s.ctx c).pictureView.ended !p.holders.isEmpty ∧ exec (.decPictureComplete c) s = .next t := by
  obtain ⟨u, f, hbefore, hf, hafter⟩ := DecodeWork.endDecode hp i
  have hends := State.decPictureComplete_ends hp hi harr hjob hall
  have hview : ((s.endDecode c i).ctx c).pictureView = (s.ctx c).pictureView.ended !p.holders.isEmpty := by
    rw [hafter.kept, State.modCtx_ctx, if_pos rfl, hf, State.bump_ctx, hbefore.kept]
  have hjobs := (JobWork.refl c (s.endDecode c i)).dropJobs
  obtain ⟨-, -, -, -, -, hnone⟩ := Ctx.of_pictureView hview
  obtain ⟨-, -, hstays, -⟩ := Ctx.of_pictureView (hjobs.kept.trans hview)
  refine ⟨u, s.endDecode c i, _, hbefore.forget,
    ((DecodeWork.refl _ c _).modCtx fun _ => by rfl).trans hafter.forget, hjobs, hjobs.kept.trans hview, ?_⟩
  rw [exec_decPictureComplete_of_live hl hp (by rw [hends]; exact Option.map_eq_none_iff.mp hnone), hends,
    State.stopIfDone_running (hstays.trans hrun)]

end

/-- Settles O11: the packet's order, the picture's start and its end by what each takes and counts, the rest by what work on
packets and pictures may change. -/
theorem decodeCommands : Obligations.DecodeCommands := by
  unfold Obligations.DecodeCommands
  refine ⟨?_, ?_, ?_, ?_, ?_⟩
  · intro c p s hl hctx hpt hid hseq hw
    obtain ⟨t, hexec, ⟨-, hothers, -, hframe⟩, hview⟩ := exec_decPacketRx_expected hl hctx hpt hid hseq hw
    obtain ⟨hexp, hwaiting, hport⟩ := Ctx.of_streamView hview
    exact ⟨t, hexec, hexp, hwaiting, hport, hothers, hframe⟩
  · rintro c e p s hl hctx hpt hid he ⟨hlater, hsup⟩ hw
    exact exec_decPacketRx_early hl hctx hpt hid he hlater hsup hw
  · intro c e p s hl he hw
    obtain ⟨t, hexec, hwork, hview⟩ := exec_lossWaitExpiry_one hl he hw
    obtain ⟨hcount, hothers, hframe⟩ := hwork.after_bump (decodeCounters_notMem_decodeRegs c).2
    obtain ⟨hexp, hwaiting, -⟩ := Ctx.of_streamView hview
    exact ⟨t, hexec, hcount, hexp, hwaiting, hothers, hframe⟩
  · rintro c u rest i s hl hon ⟨hidle, hrun, hstarted, hdeg⟩ hfirst ⟨hskip, hrasl⟩ ⟨hsps, hnone⟩ hq
      ⟨hsets, hpic, hirap⟩
    obtain ⟨t, hexec, ⟨-, hothers, -, hframe⟩, hview⟩ := exec_decPictureStart_queued hl hon hidle hrun hstarted hdeg hfirst
      hskip hrasl hsps hnone hq hsets hpic hirap
    obtain ⟨hqueue, hstart, -, -, -, hwork⟩ := Ctx.of_pictureView hview
    obtain ⟨p, hp, hpu⟩ := Option.map_eq_some_iff.mp hwork
    exact ⟨t, hexec, ⟨p, hp, congrArg Prod.fst hpu⟩, hqueue, hstart, hothers, by rw [hframe]⟩
  · rintro c p i s hl ⟨hp, hi⟩ hrun ⟨harr, hjob⟩ hall
    obtain ⟨u, v, t, hbefore, hafter, hjobs, hview, hexec⟩ := exec_decPictureComplete_ends hl hp hi hrun harr hjob hall
    obtain ⟨hpics, -⟩ := decodeCounters_notMem_decodeRegs c
    obtain ⟨hcount, hothers, hframe⟩ := hafter.after_bump hpics
    obtain ⟨-, -, -, -, hderived, hnone⟩ := Ctx.of_pictureView hview
    refine ⟨t, hexec, Option.map_eq_none_iff.mp hnone, ?_, hderived,
      fun d hd => (hjobs.others d hd).trans ((hothers d hd).trans (hbefore.others d hd)), ?_⟩
    · have hoff : Reg.DEC_PICS c % 0x1000 = 0x210 := by
        simp only [Reg.DEC_PICS]
        omega
      rw [hjobs.regs _ (by omega) (by omega), hcount, State.regN_eq, hbefore.regs _ hpics]
      rfl
    · rw [hbefore.frame] at hframe
      have hlast := hjobs.frame
      rw [hframe] at hlast
      rw [hlast]

end Sys2Proof.Machine

namespace Sys2Proof.Machine

/-! SUPPORT. An update of the ledger whose decision writes BAY_LOAD again. -/

theorem exec_ledgerUpdate (f : LedgerFacts) (s : State) : exec (.ledgerUpdate f) s = .next (s.ledgerUpdate f) := rfl

/-- A load of 5 in bay 0, everything else at rest. -/
def bayZeroLoad : LedgerFacts :=
  { loads := 5 :: List.replicate 11 0, canaries := List.replicate 24 0, temps := List.replicate 12 400 }

/-- Decode context 5 waits to be enabled. Its shadow set passes the checks, and moves the context from class 0, in which it
holds an admission, to class 1, so that it is admitted whatever the ledger measures (R341). Its former cell table stands in a
prop-room buffer whose owner, 0xCF48, is no requester: POOL_HELD_DRAM of that number would be at 0x18604 + 8 × 0xCF48, the address
of BAY_LOAD of bay 0. -/
def strayOwnerLedgerState : State :=
  let shadow : List (Nat × Nat) := [(Reg.CTX_MODE 5, 4), (Reg.DEC_LIMITS 5, 64 + 64 * 2 ^ 16),
    (Reg.DEC_LEVEL 5, 30 + 8 * 2 ^ 8 + 2 ^ 16), (Reg.DEC_RATE 5, 3000 + 2 ^ 16), (Reg.DEC_LOSS 5, 100), (Reg.FRESH_CTRL 5, 1),
    (Reg.FRESH_DEADLINE_EXACT 5, 10000), (Reg.FRESH_DEADLINE_LOSSY 5, 10000)]
  let active : List (Nat × Nat) := [(Reg.FRESH_CELL_TABLE 5, 0x01800000), (blkCtrl 0x018, 1), (Reg.POOL_COUNT 3, 1),
    (Reg.POOL_QUOTA_PM 0, 36)]
  let s := { State.reset with rc := { State.reset.rc with held := [] } }
  let s := (s.forEach shadow fun p s => s.setRegN (shadowOf p.1) p.2).forEach active fun p s => s.setRegN p.1 p.2
  let s := s.modCtx 5 fun x => { x with admitted := true }
  (s.setPoolBuf 0x800000 { frees := 0, count := 1, owner := 0xCF48, span := 1 }).askAdmission (enableReq 5)

/-- The load of bay 0 is written first; the context's former cell table then goes back to the prop room, and its owner's
POOL_HELD_DRAM, one less than 5, is the load that is left. -/
theorem strayOwnerLedgerState_bayLoad : (strayOwnerLedgerState.ledgerUpdate bayZeroLoad).regN (Reg.BAY_LOAD 0) = 4 := by
  decide +kernel

/-- Refutes O12: its first clause says of LEDGER_UPDATE from any state that BAY_LOAD is the load of the interval, but the update
also decides the requests that wait (R342), an enable among them gives the context's former cell table back, and where that
buffer's owner is a number that no requester has, the return writes POOL_HELD_DRAM of that owner over BAY_LOAD. -/
theorem not_ledgerCommands : ¬ Obligations.LedgerCommands := by
  unfold Obligations.LedgerCommands
  rintro ⟨hupdate, -⟩
  obtain ⟨t, ht, -, -, -, hloads, -⟩ := hupdate bayZeroLoad strayOwnerLedgerState (by decide +kernel)
  rw [exec_ledgerUpdate] at ht
  obtain rfl := Host.Outcome.next.inj ht
  have hload := hloads 0 (by decide)
  rw [strayOwnerLedgerState_bayLoad] at hload
  exact absurd hload (by decide)

end Sys2Proof.Machine

namespace Sys2Proof.Machine

/-! SUPPORT. What a work item on a Pixel Engine changes, and what the coding, the decoding and the filtering of the CTUs of a
row job may change (R240 to R255, R282 to R294, R316 to R320). -/

/-! ### States that differ in little -/

namespace OnlyRegs

variable {s t : State}

theorem setReg (h : OnlyRegs s t) (k : Nat) (v : Word) : OnlyRegs s (t.setReg k v) := h.trans rfl

theorem bay (h : OnlyRegs s t) (b : Nat) : t.bay b = s.bay b := by
  rw [h]
  rfl

theorem ctx (h : OnlyRegs s t) (c : Nat) : t.ctx c = s.ctx c := by
  rw [h]
  rfl

theorem pxEng (h : OnlyRegs s t) (n : Nat) : t.pxEng n = s.pxEng n := by
  rw [h]
  rfl

end OnlyRegs

theorem State.withBins_bay (s : State) (m : Sparse Nat) (b : Nat) : ({ s with bins := m } : State).bay b = s.bay b := rfl

theorem State.withBins_ctx (s : State) (m : Sparse Nat) (c : Nat) : ({ s with bins := m } : State).ctx c = s.ctx c := rfl

theorem State.withBins_reg (s : State) (m : Sparse Nat) (k : Nat) : ({ s with bins := m } : State).reg k = s.reg k := rfl

/-! ### Bays and Pixel Engines -/

section
variable (s : State)

theorem State.modCtx_bay (c : Nat) (f : Ctx → Ctx) (b : Nat) : (s.modCtx c f).bay b = s.bay b := rfl

theorem State.modBay_pxEng (b : Nat) (f : Bay → Bay) (n : Nat) : (s.modBay b f).pxEng n = s.pxEng n := rfl

theorem State.modPx_bay (n : Nat) (f : Px → Px) (b : Nat) : (s.modPx n f).bay b = s.bay b := rfl

theorem State.modPx_pxEng (n : Nat) (f : Px → Px) (m : Nat) :
    (s.modPx n f).pxEng m = if m = n then f (s.pxEng n) else s.pxEng m := Sparse.get_set _ _ _ _ _

theorem State.syncBay_onlyRegs (b : Nat) : OnlyRegs s (s.syncBay b) := (OnlyRegs.refl s).setReg _ _

theorem State.syncBay_sameRegs (b : Nat) : SameRegs [Reg.BAY_STATUS b] s (s.syncBay b) := fun k hk => by
  rw [State.syncBay, State.setFld_reg, if_neg (List.ne_of_not_mem_cons hk)]

theorem State.showPx_onlyRegs (n : Nat) : OnlyRegs s (s.showPx n) := ((OnlyRegs.refl s).setReg _ _).setReg _ _

theorem State.showPx_sameRegs (n : Nat) : SameRegs [Reg.PX_STATUS n] s (s.showPx n) := fun k hk => by
  have hne := List.ne_of_not_mem_cons hk
  rw [State.showPx, State.setRbit_reg, if_neg hne, State.setFld_reg, if_neg hne]

/-- A Pixel Engine as it takes up a work item, which starts at its entry (R390). -/
def Px.takeUp (it : PxItem) (x : Px) : Px :=
  { x with item := some it, pc := it.entry, stack := [], wait := none, seen := 0, cust := none, broken := false }

theorem State.putItem_eq (n : Nat) (it : PxItem) : s.putItem n it = (s.modPx n (Px.takeUp it)).showPx n := rfl

theorem State.putItem_pxEng (n : Nat) (it : PxItem) (m : Nat) :
    (s.putItem n it).pxEng m = if m = n then (s.pxEng n).takeUp it else s.pxEng m := by
  rw [State.putItem_eq, (State.showPx_onlyRegs _ n).pxEng, State.modPx_pxEng]

theorem State.putItem_bay (n : Nat) (it : PxItem) (b : Nat) : (s.putItem n it).bay b = s.bay b := by
  rw [State.putItem_eq, (State.showPx_onlyRegs _ n).bay, State.modPx_bay]

theorem State.putItem_ctx (n : Nat) (it : PxItem) (c : Nat) : (s.putItem n it).ctx c = s.ctx c := by
  rw [State.putItem_eq, (State.showPx_onlyRegs _ n).ctx, State.modPx_ctx]

theorem State.putItem_onlyPx (n : Nat) (it : PxItem) : OnlyPx n s (s.putItem n it) := fun m hm => by
  rw [State.putItem_pxEng, if_neg hm]

theorem State.putItem_sameRegs (n : Nat) (it : PxItem) : SameRegs [Reg.PX_STATUS n] s (s.putItem n it) :=
  fun k hk => ((s.modPx n _).showPx_sameRegs n k hk).trans (State.modPx_reg _ _ _ k)

theorem State.putItem_frame (n : Nat) (it : PxItem) :
    s.putItem n it = { s with regs := (s.putItem n it).regs, px := (s.putItem n it).px } := by
  have h := (s.modPx n (Px.takeUp it)).showPx_onlyRegs n
  rw [← State.putItem_eq] at h
  generalize s.putItem n it = t at h
  rw [h]
  rfl

end

/-! ### Work on the CTUs of a context -/

/-- From `s` to `t` CTUs of context `c` have been coded, decoded or filtered, or lanes freed: no register of a bay's page
differs. -/
structure RowWork (c : Nat) (s t : State) : Prop where
  bayRegs : ∀ k, 0x80000 ≤ k → k < 0x8C000 → t.reg k = s.reg k
  others : OnlyCtx c s t
  frame : t = { s with regs := t.regs, mem := t.mem, fc := t.fc, ctxs := t.ctxs, drams := t.drams, refc := t.refc }

namespace RowWork

variable {c : Nat} {s t u : State}

theorem refl (c : Nat) (s : State) : RowWork c s s := ⟨fun _ _ _ => rfl, fun _ _ => rfl, rfl⟩

theorem trans (h : RowWork c s t) (k : RowWork c t u) : RowWork c s u where
  bayRegs := fun j h1 h2 => (k.bayRegs j h1 h2).trans (h.bayRegs j h1 h2)
  others := fun d hd => (k.others d hd).trans (h.others d hd)
  frame := by
    have hk := k.frame
    rw [h.frame] at hk
    exact hk

theorem bay (h : RowWork c s t) (d : Nat) : t.bay d = s.bay d := by
  rw [h.frame]
  rfl

/-! ### One state operation -/

theorem setReg (h : RowWork c s t) {k : Nat} (v : Word) (hk : k < 0x80000 ∨ 0x8C000 ≤ k) : RowWork c s (t.setReg k v) :=
  h.trans ⟨fun j h1 h2 => by rw [State.setReg_reg, if_neg (by omega)], fun _ _ => rfl, rfl⟩

theorem bump (h : RowWork c s t) {k : Nat} (n : Nat) (hk : k < 0x80000 ∨ 0x8C000 ≤ k) : RowWork c s (t.bump k n) :=
  h.setReg _ hk

theorem modCtx (h : RowWork c s t) (f : Ctx → Ctx) : RowWork c s (t.modCtx c f) :=
  h.trans ⟨fun k _ _ => State.modCtx_reg _ _ _ k, fun d hd => by rw [State.modCtx_ctx, if_neg hd], rfl⟩

theorem modDram (h : RowWork c s t) (n : Nat) (f : DramCh → DramCh) : RowWork c s (t.modDram n f) :=
  h.trans ⟨fun k _ _ => State.modDram_reg _ _ _ k, fun _ _ => rfl, rfl⟩

theorem doIf (h : RowWork c s t) (b : Bool) {f : State → State} (hf : RowWork c s (f t)) : RowWork c s (t.doIf b f) :=
  State.doIf_ind h hf

theorem walk {β : Type} (h : RowWork c s t) (l : List β) {f : β → State → State}
    (hf : ∀ a u, RowWork c s u → RowWork c s (f a u)) : RowWork c s (t.forEach l f) :=
  State.forEach_ind hf h

theorem onlyMemory {ks : List Nat} (h : RowWork c s t) (hr : SameRegs ks t u) (hks : ∀ k ∈ ks, k < 0x80000)
    (k : OnlyMemory t u) : RowWork c s u := by
  refine h.trans ⟨fun j h1 _ => hr j fun hj => ?_, fun d _ => by rw [k]; rfl, by rw [k]⟩
  have := hks j hj
  omega

theorem faultRegs_lt {kind : Nat} (hkind : kind < 0x1000) : ∀ k ∈ faultRegs kind, k < 0x80000 := by
  simp only [faultRegs, List.forall_mem_cons, List.not_mem_nil, Reg.FAULT_SUPPRESSED, Reg.FAULT_OVERFLOWS, Reg.FAULT_KIND_COUNT]
  refine ⟨by omega, by omega, by omega, fun _ h => h.elim⟩

theorem fenceRegs_lt : ∀ k ∈ fenceRegs, k < 0x80000 := by
  intro k hk
  rcases List.mem_append.mp hk with h | h
  · simp only [List.mem_cons, List.not_mem_nil, or_false, Reg.TRUST_FENCE_VIOLATIONS, Reg.TRUST_FENCE_LAST_LO,
      Reg.TRUST_FENCE_LAST_HI] at h
    omega
  · exact faultRegs_lt (by decide) k h

theorem raise (h : RowWork c s t) (src addr : Nat) {kind : Nat} (hkind : kind < 0x1000) : RowWork c s (t.raise src kind addr) :=
  h.onlyMemory (t.raise_sameRegs _ _ _) (faultRegs_lt hkind) (t.raise_onlyMemory _ _ _)

theorem hwWrite (h : RowWork c s t) (a : Nat) (bs : List Byte) : RowWork c s (t.hwWrite a bs) :=
  h.onlyMemory (t.hwWrite_sameRegs _ _) fenceRegs_lt (t.hwWrite_onlyMemory _ _)

/-! ### Samples (R628) -/

theorem putBlock (h : RowWork c s t) (p : PicRef) (k b : Nat) (v : List Nat) : RowWork c s (t.putBlock p k b v) := by
  unfold State.putBlock
  exact ((h.hwWrite _ _).hwWrite _ _).modDram _ _

theorem putRect (h : RowWork c s t) (p : PicRef) (k x y w m : Nat) (f : Nat → Nat → Nat) :
    RowWork c s (t.putRect p k x y w m f) :=
  h.walk _ fun _ _ hu => hu.putBlock _ _ _ _

theorem putArea (h : RowWork c s t) (p : PicRef) (x y w m : Nat) (f : Nat → Nat → Nat → Nat) :
    RowWork c s (t.putArea p x y w m f) :=
  h.walk _ fun _ _ hu => hu.putRect _ _ _ _ _ _ _

/-! ### Coding a CTU (R240 to R252) -/

theorem putCtu (h : RowWork c s t) (a : Nat) (f : Nat → Nat → Nat → Nat) : RowWork c s (t.putCtu c a f) := by
  unfold State.putCtu
  extract_lets x
  split
  · exact h
  · exact (h.modCtx _).putArea _ _ _ _ _ _

theorem settleCtu (h : RowWork c s t) (a : Nat) (ch : CtuChoice) (cost : Nat × Nat) (code : CtuCode)
    (f : Nat → Nat → Nat → Nat) : RowWork c s (t.settleCtu c a ch cost code f) := by
  unfold State.settleCtu
  extract_lets x
  split
  · exact h
  · split
    have hput : ∀ g, RowWork c s ((t.modCtx c g).putCtu c a f) := fun g => (h.modCtx g).putCtu _ _
    exact (hput _).doIf _ ((hput _).raise _ _ (by decide))

theorem noteSearch (h : RowWork c s t) (l : List CodeTrial) : RowWork c s (t.noteSearch c l) :=
  h.walk _ fun a _ hu => hu.setReg _ (.inr (by simp only [Reg.MSA_STATUS]; omega))

theorem decideCtu (h : RowWork c s t) (a : Nat) : RowWork c s (t.decideCtu c a) := by
  unfold State.decideCtu
  extract_lets x
  split
  · exact h
  split
  · exact h
  dsimp only
  refine RowWork.settleCtu ?_ _ _ _ _ _
  split
  · exact (h.modCtx _).noteSearch _
  · exact h.modCtx _

/-! ### The end of a row job (R196, R216, R290, R293, R320) -/

theorem filterEnc (h : RowWork c s t) (es : List FilterEdit) : RowWork c s (t.filterEnc c es) := by
  unfold State.filterEnc
  extract_lets x
  split
  · exact h
  · exact h.walk _ fun _ _ hu => hu.doIf _ (hu.putRect _ _ _ _ _ _ _)

theorem echoCellCheck (h : RowWork c s t) (i : Nat) (p : EncPicture) : RowWork c s (t.echoCellCheck c i p) := by
  unfold State.echoCellCheck
  exact h.doIf _ (((h.modCtx _).bump _ (.inr (by simp only [Reg.ENC_ECHO_CELL_FAIL]; omega))).raise _ _ (by decide))

theorem echoJobEnd (h : RowWork c s t) (row tile : Nat) (diffs : List SampleDiff) :
    RowWork c s (t.echoJobEnd c row tile diffs) := by
  unfold State.echoJobEnd
  extract_lets x
  split
  · exact h
  split
  · exact h
  · exact (h.modCtx _).walk _ fun _ _ hu => hu.echoCellCheck _ _

theorem putDec (h : RowWork c s t) (p : DecPicture) (i : SpsInfo) (a : Nat) (f : Nat → Nat → Nat → Nat) :
    RowWork c s (t.putDec c p i a f) := by
  unfold State.putDec
  dsimp only
  refine (h.modCtx _).walk _ fun k u hu => ?_
  split
  · exact hu.putRect _ _ _ _ _ _ _
  · exact hu.walk _ fun v w hw => hw.putRect _ _ _ _ _ _ _

theorem concealAll (h : RowWork c s t) (i : SpsInfo) (as : List Nat) : RowWork c s (t.concealAll c i as) :=
  h.walk _ fun a u hu => by
    have hone : RowWork c s (u.concealCtu c i a) := by
      unfold State.concealCtu
      split
      · exact hu
      · exact (hu.modCtx _).putDec _ _ _ _
    split
    · exact hu.doIf _ hone
    · exact hu

theorem filterDec (h : RowWork c s t) (es : List FilterEdit) : RowWork c s (t.filterDec c es) := by
  unfold State.filterDec
  split
  · exact h.walk _ fun _ _ hu => hu.doIf _ (hu.putRect _ _ _ _ _ _ _)
  · exact h

theorem decodeJobEnd (h : RowWork c s t) (row tile : Nat) (es : List FilterEdit) :
    RowWork c s (t.decodeJobEnd c row tile es) := by
  unfold State.decodeJobEnd
  split
  · next p i _ _ =>
    have hnoted : ∀ f, RowWork c s ((((t.concealAll c i (List.range ((row + 1) * i.ctuCols))).filterDec c es)).modPic c f) :=
      fun f => ((h.concealAll _ _).filterDec _).modCtx _
    exact (hnoted _).doIf _ ((hnoted _).modCtx _)
  · exact h

theorem laneDone (h : RowWork c s t) (n : Nat) : RowWork c s (t.laneDone c n) :=
  have hfree := h.setReg (k := Reg.EL_STATUS n) (putBit (t.reg (Reg.EL_STATUS n)) 0 false)
    (.inr (by simp only [Reg.EL_STATUS]; omega))
  (hfree.modCtx _).setReg _ (.inr (by simp only [Reg.CTX_PLACEMENT]; omega))

/-- After a row job of a context the lanes that worked on it may be free, and the bins of one are counted. -/
theorem jobLanes (c : Nat) (j : RowJob) (n : Nat) (s : State) : ∃ m, RowWork c { s with bins := m } (s.jobLanes c j n) := by
  have hfreed : ∀ (l : List (Nat × Nat)) (m : Sparse Nat) (u : State), RowWork c { s with bins := m } u →
      RowWork c { s with bins := m } (u.forEach l fun l s =>
        s.doIf ((s.laneCtus c l.2).all fun a => s.ctuDone c a) fun s => s.laneDone c l.1) :=
    fun l m u h => h.walk l fun _ _ hv => hv.doIf _ (hv.laneDone _)
  unfold State.jobLanes
  split
  · exact ⟨s.bins, refl _ _⟩
  · dsimp only
    split
    · next l _ _ =>
      exact ⟨_, hfreed _ _ _ ((refl c { s with bins := _ }).bump _ (.inr (by simp only [Reg.EL_BINS]; omega)))⟩
    · exact ⟨s.bins, hfreed _ _ _ (refl c s)⟩

end RowWork

end Sys2Proof.Machine

namespace Sys2Proof.Machine

/-! SUPPORT. The commands of the row jobs and of the Entropy Lanes (R315 to R320, R390, R426). -/

/-! ### ROW_JOB_PLACE (R315, R316, R322) -/

/-- A row job as it is placed: nothing of it is started. -/
def State.freshJob (s : State) (c row tile : Nat) (kind : JobKind) : RowJob :=
  { ctx := c, row := row, tile := tile, kind := kind, ctus := s.jobCtus c row tile, started := [], on := [] }

/-- A row job placed again is counted in its bay. -/
def State.countRerun (s : State) (b : Nat) (again : Bool) : State := s.doIf again fun s => s.bump (Reg.BAY_JOB_RERUN b) 1

/-- The state with a row job of context `c` placed on a bay, and what was to be placed again of the context without it. -/
def State.placeOn (s : State) (b : Nat) (j : RowJob) : State :=
  ((s.putJob b j).countRerun b ((s.ctx j.ctx).reruns.elem (j.row, j.tile, j.kind))).modCtx j.ctx fun x =>
    { x with reruns := x.reruns.erase (j.row, j.tile, j.kind) }

theorem exec_rowJobPlace_waiting {c row tile b : Nat} {kind : JobKind} {s : State} (hl : s.live (ctxPage c) = true)
    (hw : s.jobWaits c row tile kind = true) (hb : s.bayFor c none = some b) :
    exec (.rowJobPlace c row tile kind) s = .next (s.placeOn b (s.freshJob c row tile kind)) := by
  show execRowJobPlace c row tile kind s = _
  rw [execRowJobPlace, State.ifLive_of _ _ _ hl, State.placeJob, hw, hb]
  rfl

section
variable (s : State) (b : Nat)

theorem State.putJob_onlyRegs (j : RowJob) :
    OnlyRegs (s.modBay b fun x => { x with jobs := x.jobs ++ [j] }) (s.putJob b j) := State.syncBay_onlyRegs _ _

theorem State.putJob_bay (j : RowJob) (d : Nat) :
    (s.putJob b j).bay d = if d = b then { s.bay b with jobs := (s.bay b).jobs ++ [j] } else s.bay d := by
  rw [(s.putJob_onlyRegs b j).bay, State.modBay_bay]

theorem State.putJob_ctx (j : RowJob) (c : Nat) : (s.putJob b j).ctx c = s.ctx c := by
  rw [(s.putJob_onlyRegs b j).ctx, State.modBay_ctx]

theorem State.putJob_sameRegs (j : RowJob) : SameRegs [Reg.BAY_STATUS b] s (s.putJob b j) :=
  fun k hk => ((s.modBay b _).syncBay_sameRegs b k hk).trans (State.modBay_reg _ _ _ k)

theorem State.countRerun_onlyRegs (again : Bool) : OnlyRegs s (s.countRerun b again) :=
  State.doIf_ind (OnlyRegs.refl s) ((OnlyRegs.refl s).setReg _ _)

theorem State.countRerun_sameRegs (again : Bool) : SameRegs [Reg.BAY_JOB_RERUN b] s (s.countRerun b again) :=
  State.doIf_ind (P := SameRegs [Reg.BAY_JOB_RERUN b] s) (SameRegs.refl _ _) fun k hk => by
    rw [State.bump_reg, if_neg (List.ne_of_not_mem_cons hk)]

theorem State.placeOn_bay (j : RowJob) (d : Nat) : (s.placeOn b j).bay d = (s.putJob b j).bay d := by
  rw [State.placeOn, State.modCtx_bay, (State.countRerun_onlyRegs _ _ _).bay]

theorem State.placeOn_ctx (j : RowJob) (d : Nat) : (s.placeOn b j).ctx d =
    if d = j.ctx then { s.ctx j.ctx with reruns := (s.ctx j.ctx).reruns.erase (j.row, j.tile, j.kind) } else s.ctx d := by
  have hctx : ∀ c again, ((s.putJob b j).countRerun b again).ctx c = s.ctx c := fun c again => by
    rw [(State.countRerun_onlyRegs _ _ _).ctx, State.putJob_ctx]
  rw [State.placeOn, State.modCtx_ctx, hctx, hctx]

theorem State.placeOn_sameRegs (j : RowJob) : SameRegs [Reg.BAY_STATUS b, Reg.BAY_JOB_RERUN b] s (s.placeOn b j) := by
  have hput := (s.putJob_sameRegs b j).mono (List.subset_append_left _ [Reg.BAY_JOB_RERUN b])
  have hcount := ((s.putJob b j).countRerun_sameRegs b ((s.ctx j.ctx).reruns.elem (j.row, j.tile, j.kind))).mono
    (List.subset_append_right [Reg.BAY_STATUS b] _)
  exact fun k hk => (State.modCtx_reg _ _ _ k).trans (hput.trans hcount k hk)

theorem State.placeOn_frame (j : RowJob) : s.placeOn b j = { s with
    regs := (s.placeOn b j).regs, bays := (s.placeOn b j).bays, ctxs := (s.placeOn b j).ctxs } := by
  have h := (s.putJob_onlyRegs b j).trans
    ((s.putJob b j).countRerun_onlyRegs b ((s.ctx j.ctx).reruns.elem (j.row, j.tile, j.kind)))
  unfold State.placeOn
  generalize (s.putJob b j).countRerun b _ = u at h ⊢
  rw [h]
  rfl

end

/-! ### CTU_START (R317, R390, R426) -/

/-- A bay as the next CTU of a row job goes to an engine. -/
def Bay.startOn (j : RowJob) (e a : Nat) (x : Bay) : Bay :=
  { x with jobs := x.jobs.map fun k => if k == j then { j with started := j.started ++ [a], on := (e, a) :: j.on } else k }

/-- The state with a CTU of a row job on an engine of its bay, its coding or decoding not yet settled. -/
def State.engageCtu (s : State) (b e : Nat) (j : RowJob) (a : Nat) (d : PxDispatch) : State :=
  (s.modBay b (Bay.startOn j e a)).putItem (8 * b + e)
    { work := .ctu j.ctx j.kind a, entry := d.entry.val, slotBase := d.slotBase.toNat, slotLen := d.slotLen }

section
variable (s : State) (b e : Nat) (j : RowJob) (a : Nat) (d : PxDispatch)

theorem State.engageCtu_bay (m : Nat) :
    (s.engageCtu b e j a d).bay m = if m = b then (s.bay b).startOn j e a else s.bay m := by
  rw [State.engageCtu, State.putItem_bay, State.modBay_bay]

theorem State.engageCtu_ctx (c : Nat) : (s.engageCtu b e j a d).ctx c = s.ctx c := by
  rw [State.engageCtu, State.putItem_ctx, State.modBay_ctx]

theorem State.engageCtu_pxEng (m : Nat) : (s.engageCtu b e j a d).pxEng m =
    if m = 8 * b + e then (s.pxEng (8 * b + e)).takeUp
      { work := .ctu j.ctx j.kind a, entry := d.entry.val, slotBase := d.slotBase.toNat, slotLen := d.slotLen }
    else s.pxEng m := by
  rw [State.engageCtu, State.putItem_pxEng, State.modBay_pxEng, State.modBay_pxEng]

theorem State.engageCtu_frame : s.engageCtu b e j a d = { s with
    regs := (s.engageCtu b e j a d).regs, bays := (s.engageCtu b e j a d).bays, px := (s.engageCtu b e j a d).px } := by
  have h := (s.modBay b (Bay.startOn j e a)).putItem_frame (8 * b + e)
    { work := .ctu j.ctx j.kind a, entry := d.entry.val, slotBase := d.slotBase.toNat, slotLen := d.slotLen }
  rw [← State.engageCtu] at h
  generalize s.engageCtu b e j a d = t at h ⊢
  rw [h]
  rfl

end

section
variable {c : Nat} {s t : State}

theorem DecodeWork.ctuError (h : DecodeWork Ctx.pictureView c s t) (i : SpsInfo) (a code : Nat) :
    DecodeWork Ctx.pictureView c s (t.ctuError c i a code) := by
  unfold State.ctuError
  split
  · exact h
  split
  · exact h.damageCtus _ _
  · exact h.damageCtus _ _

theorem DecodeWork.decodeCtu (c a : Nat) (f : CtuFacts) (s : State) : DecodeWork Ctx.noView c s (s.decodeCtu c a f) := by
  have hrefl := DecodeWork.refl Ctx.pictureView c s
  unfold State.decodeCtu
  dsimp only
  split
  · next p i _ _ =>
    split
    · exact hrefl.forget
    split
    · exact (hrefl.ctuError _ _ _).forget
    split
    · have hheld : ∀ g k, DecodeWork Ctx.noView c s ((s.modPic c g).modPic c k) :=
        fun g k => (hrefl.forget.modCtx fun _ => by rfl).modCtx fun _ => by rfl
      exact ((hheld _ _).trans ((DecodeWork.refl _ c _).markCell _ _).forget).bump _ (by simp [decodeRegs])
    · have hput : ∀ g w, DecodeWork Ctx.noView c s ((s.modPic c g).putDec c p i a w) :=
        fun g w => (hrefl.forget.modCtx fun _ => by rfl).trans ((DecodeWork.refl _ c _).putDec _ _ _ _).forget
      exact (hput _ _).doIf _ ((hput _ _).modCtx fun _ => by rfl)
  · exact hrefl.forget

end

/-- What a CTU on an engine comes to: coded by rate control, decoded, or looked at by echo (R240, R282, R212). -/
def State.settleStarted (s : State) (j : RowJob) (a : Nat) (f : CtuFacts) : State :=
  match j.kind with
  | .encode => s.doIf (!((s.ctx j.ctx).ctu a).decided) fun s => s.decideCtu j.ctx a
  | .decode => s.decodeCtu j.ctx a f
  | .echo => s

theorem State.startCtu_eq (s : State) (b e : Nat) (j : RowJob) (a : Nat) (d : PxDispatch) (f : CtuFacts) :
    s.startCtu b e j a d f = (s.engageCtu b e j a d).settleStarted j a f := rfl

/-- Settling a CTU changes its context, device memory, registers, and what its end raises and sends. -/
structure SettleFrame (c : Nat) (s t : State) : Prop where
  others : OnlyCtx c s t
  frame : t = { s with
    regs := t.regs, mem := t.mem, fc := t.fc, ctxs := t.ctxs, drams := t.drams, refc := t.refc, sessWait := t.sessWait
    out := t.out }

theorem RowWork.settleFrame {c : Nat} {s t : State} (h : RowWork c s t) : SettleFrame c s t := ⟨h.others, by rw [h.frame]⟩

theorem SettleFrame.bay {c : Nat} {s t : State} (h : SettleFrame c s t) (m : Nat) : t.bay m = s.bay m := by
  rw [h.frame]
  rfl

theorem SettleFrame.pxEng {c : Nat} {s t : State} (h : SettleFrame c s t) (m : Nat) : t.pxEng m = s.pxEng m := by
  rw [h.frame]
  rfl

/-- A CTU is settled where engines, bays and registers alone were changed before. -/
theorem SettleFrame.after_engage {c : Nat} {s u t : State} (h : SettleFrame c u t)
    (hu : u = { s with regs := u.regs, bays := u.bays, px := u.px }) : t = { s with
      regs := t.regs, mem := t.mem, fc := t.fc, ctxs := t.ctxs, bays := t.bays, px := t.px, drams := t.drams, refc := t.refc
      sessWait := t.sessWait, out := t.out } := by
  have hframe := h.frame
  rw [hu] at hframe
  rw [hframe]

theorem State.settleStarted_frame (s : State) (j : RowJob) (a : Nat) (f : CtuFacts) :
    SettleFrame j.ctx s (s.settleStarted j a f) := by
  unfold State.settleStarted
  cases j.kind with
  | encode => exact ((RowWork.refl j.ctx s).doIf _ ((RowWork.refl j.ctx s).decideCtu a)).settleFrame
  | decode =>
    obtain ⟨-, hothers, -, hframe⟩ := DecodeWork.decodeCtu j.ctx a f s
    exact ⟨hothers, hframe⟩
  | echo => exact (RowWork.refl j.ctx s).settleFrame

section
variable {b : Fin 12} {d : PxDispatch} {f : CtuFacts} {s : State} {e : Nat}

theorem exec_ctuStart_of_live (hl : s.live (0x080 + b.val) = true) : exec (.ctuStart b d f) s = .next (s.ctuStart b.val d f) := by
  show execCtuStart b d f s = _
  rw [execCtuStart, State.ifLive_of _ _ _ hl]

theorem exec_ctuStart_ready {j : RowJob} {a : Nat} (hl : s.live (0x080 + b.val) = true) (hd : d.window = none)
    (hready : minBy? (fun p => s.ctuOrder p.1 p.2) ((s.bay b.val).jobs.filterMap fun j => (s.readyCtu j).bind fun a =>
      if s.readsReady j f then some (j, a) else none) = some (j, a)) (he : s.freeEngine b.val = some e) :
    ∃ t, exec (.ctuStart b d f) s = .next t ∧ SettleFrame j.ctx (s.engageCtu b.val e j a d) t := by
  refine ⟨_, ?_, (s.engageCtu b.val e j a d).settleStarted_frame j a f⟩
  rw [exec_ctuStart_of_live hl, ← State.startCtu_eq]
  unfold State.ctuStart
  rw [hd]
  dsimp only
  rw [hready, he]

theorem exec_ctuStart_window {i : WinItem} (hl : s.live (0x080 + b.val) = true) (hd : d.window = some i)
    (hin : s.bayInService b.val = true) (hruns : s.runsWindow i = true) (he : s.freeEngine b.val = some e) :
    exec (.ctuStart b d f) s = .next (s.putItem (8 * b.val + e)
      { work := .window i, entry := d.entry.val, slotBase := d.slotBase.toNat, slotLen := d.slotLen }) := by
  rw [exec_ctuStart_of_live hl]
  unfold State.ctuStart
  rw [hd]
  dsimp only
  rw [hin, hruns, Bool.and_self, State.doIf_true, State.startWindow, he]

end

/-! ### ROW_JOB_COMPLETE (R316, R318) -/

/-- A row job has left its bay and is counted. -/
def State.retireJob (s : State) (b : Nat) (j : RowJob) : State :=
  ((s.modBay b fun x => { x with jobs := x.jobs.erase j }).syncBay b).bump (Reg.BAY_JOBS b) 1

theorem State.retireJob_onlyRegs (s : State) (b : Nat) (j : RowJob) :
    OnlyRegs (s.modBay b fun x => { x with jobs := x.jobs.erase j }) (s.retireJob b j) :=
  (State.syncBay_onlyRegs _ b).setReg _ _

theorem State.retireJob_bay (s : State) (b : Nat) (j : RowJob) (d : Nat) :
    (s.retireJob b j).bay d = if d = b then { s.bay b with jobs := (s.bay b).jobs.erase j } else s.bay d := by
  rw [(s.retireJob_onlyRegs b j).bay, State.modBay_bay]

theorem State.retireJob_ctx (s : State) (b : Nat) (j : RowJob) (d : Nat) : (s.retireJob b j).ctx d = s.ctx d := by
  rw [(s.retireJob_onlyRegs b j).ctx, State.modBay_ctx]

theorem State.retireJob_frame (s : State) (b : Nat) (j : RowJob) :
    s.retireJob b j = { s with regs := (s.retireJob b j).regs, bays := (s.retireJob b j).bays } := by
  have h := s.retireJob_onlyRegs b j
  generalize s.retireJob b j = t at h
  rw [h]
  rfl

/-- Work on the CTUs of a context where lanes counted their bins and bays and registers alone were changed before. -/
theorem RowWork.after_retire {c : Nat} {m : Sparse Nat} {s u t : State} (h : RowWork c { u with bins := m } t)
    (hu : u = { s with regs := u.regs, bays := u.bays }) : t = { s with
      regs := t.regs, mem := t.mem, fc := t.fc, ctxs := t.ctxs, bays := t.bays, bins := t.bins, drams := t.drams
      refc := t.refc } := by
  have hframe := h.frame
  rw [hu] at hframe
  rw [hframe]

theorem State.retireJob_count (s : State) (b : Nat) (j : RowJob) :
    (s.retireJob b j).reg (Reg.BAY_JOBS b) = sat32 (s.regN (Reg.BAY_JOBS b) + 1) := by
  have hne : Reg.BAY_JOBS b ∉ [Reg.BAY_STATUS b] := by
    simp only [List.mem_singleton, Reg.BAY_JOBS, Reg.BAY_STATUS]
    omega
  rw [State.retireJob, State.bump_reg, if_pos rfl, State.regN_eq, State.syncBay_sameRegs _ _ _ hne]
  rfl

theorem BAY_JOBS_bounds (b : Fin 12) : 0x80000 ≤ Reg.BAY_JOBS b.val ∧ Reg.BAY_JOBS b.val < 0x8C000 := by
  simp only [Reg.BAY_JOBS]
  omega

section
variable {b : Fin 12} {c row tile : Nat} {kind : JobKind} {e : JobEnd} {j : RowJob} {s : State}

/-- A row job whose CTUs are all started and done leaves its bay, and what its end changes is work on its context's CTUs. -/
theorem State.jobComplete_work {n : Nat} (hj : ((s.bay n).jobs.find? fun j => j.same c row tile kind) = some j)
    (hon : j.on = []) (hedge : s.edgeReady j = true) (hall : ∀ a ∈ j.ctus, a ∈ j.started) :
    ∃ m, RowWork c { s.retireJob n j with bins := m } (s.jobComplete n c row tile kind e) := by
  have hdone : (j.ctus.all fun a => j.started.elem a || s.ctuGone c a) = true :=
    List.all_eq_true.mpr fun a ha => by simp [hall a ha]
  obtain ⟨m, hlanes⟩ := RowWork.jobLanes c j e.bins (s.retireJob n j)
  refine ⟨m, ?_⟩
  unfold State.jobComplete
  rw [hj]
  dsimp only
  rw [hon, hedge, hdone, List.isEmpty_nil, Bool.and_self, Bool.and_self, if_pos rfl, ← State.retireJob]
  cases kind with
  | encode => exact hlanes.filterEnc _
  | decode => exact hlanes.decodeJobEnd _ _ _
  | echo => exact hlanes.echoJobEnd _ _ _

theorem exec_rowJobComplete_done (hl : s.live (0x080 + b.val) = true)
    (hj : ((s.bay b.val).jobs.find? fun j => j.same c row tile kind) = some j) (hon : j.on = []) (hedge : s.edgeReady j = true)
    (hall : ∀ a ∈ j.ctus, a ∈ j.started) : ∃ t m, exec (.rowJobComplete b c row tile kind e) s = .next t ∧
      RowWork c { s.retireJob b.val j with bins := m } t := by
  obtain ⟨m, hwork⟩ := State.jobComplete_work (e := e) hj hon hedge hall
  refine ⟨_, m, ?_, hwork⟩
  show execRowJobComplete b c row tile kind e s = _
  rw [execRowJobComplete, State.ifLive_of _ _ _ hl]

end

/-! ### ENTROPY_SEGMENT_START (R320) -/

section
variable {c n seg : Nat} {s : State}

/-- The state with a segment of a context in the hands of lane `n`, the context's lanes not yet shown. -/
def State.engageLane (s : State) (c n seg : Nat) : State :=
  ((s.noteHanded c seg).setRegN (Reg.EL_STATUS n) (1 + 2 * b2n (s.isEncode c) + 256 * c)).modCtx c fun x =>
    { x with lanes := x.lanes ++ [(n, seg)] }

theorem State.engageLane_lanes (s : State) (c n seg : Nat) :
    ((s.engageLane c n seg).ctx c).lanes = (s.ctx c).lanes ++ [(n, seg)] := by
  rw [State.engageLane, State.modCtx_ctx, if_pos rfl, State.setRegN_ctx, State.noteHanded, State.modCtx_ctx, if_pos rfl]

theorem State.engageLane_onlyCtx (s : State) (c n seg : Nat) : OnlyCtx c s (s.engageLane c n seg) := fun d hd => by
  rw [State.engageLane, State.modCtx_ctx, if_neg hd, State.setRegN_ctx, State.noteHanded, State.modCtx_ctx, if_neg hd]

theorem State.engageLane_reg (s : State) (c n seg k : Nat) : (s.engageLane c n seg).reg k =
    if k = Reg.EL_STATUS n then BitVec.ofNat 32 (1 + 2 * b2n (s.isEncode c) + 256 * c) else s.reg k := by
  rw [State.engageLane, State.modCtx_reg, State.setRegN_reg]
  rfl

theorem State.engageLane_frame (s : State) (c n seg : Nat) :
    s.engageLane c n seg = { s with regs := (s.engageLane c n seg).regs, ctxs := (s.engageLane c n seg).ctxs } := by
  have h := (s.noteHanded c seg).setRegN_onlyRegs (Reg.EL_STATUS n) (1 + 2 * b2n (s.isEncode c) + 256 * c)
  unfold State.engageLane
  generalize (s.noteHanded c seg).setRegN _ _ = u at h ⊢
  rw [h]
  rfl

theorem State.showLanes_onlyRegs (s : State) (c : Nat) : OnlyRegs s (s.showLanes c) := (OnlyRegs.refl s).setReg _ _

theorem State.showLanes_sameRegs (s : State) (c : Nat) : SameRegs [Reg.CTX_PLACEMENT c] s (s.showLanes c) := fun k hk => by
  rw [State.showLanes, State.setFld_reg, if_neg (List.ne_of_not_mem_cons hk)]

theorem OnlyRegs.after_lane {u t : State} (h : OnlyRegs u t) (hu : u = { s with regs := u.regs, ctxs := u.ctxs }) :
    t = { s with regs := t.regs, ctxs := t.ctxs } := by
  unfold OnlyRegs at h
  rw [hu] at h
  rw [h]

theorem EL_STATUS_ne_CTX_PLACEMENT (n c : Nat) : Reg.EL_STATUS n ≠ Reg.CTX_PLACEMENT c := by
  simp only [Reg.EL_STATUS, Reg.CTX_PLACEMENT]
  omega

theorem exec_entropySegmentStart_next (hl : s.live (ctxPage c) = true) (hon : s.ctxEnabled c = true)
    (hfew : s.isEncode c = true → (s.ctx c).lanes.length < 8) (hseg : s.nextSegment c = some seg)
    (hn : ((List.range 24).find? fun n => !s.rbit (Reg.EL_STATUS n) 0 && !s.inReset (0x1A0 + n)) = some n) :
    exec (.entropySegmentStart c) s = .next ((s.engageLane c n seg).showLanes c) := by
  have hroom : (s.isEncode c && Nat.ble 8 (s.ctx c).lanes.length) = false := by
    cases henc : s.isEncode c
    · rfl
    · have := hfew henc
      rw [Bool.true_and, ← Bool.not_eq_true, Nat.ble_eq]
      omega
  show execEntropySegmentStart c s = _
  rw [execEntropySegmentStart, State.ifLive_of _ _ _ hl, State.entropyStart, hon, hroom, hseg, hn]
  rfl

end

/-- Settles O13: each command by the state it leaves, and what work on the CTUs of a context may change. -/
theorem rowJobCommands : Obligations.RowJobCommands := by
  unfold Obligations.RowJobCommands
  refine ⟨?_, ?_, ?_, ?_, ?_⟩
  · intro c row tile b kind s hl hw hb
    refine ⟨_, exec_rowJobPlace_waiting hl hw hb, ?_, fun d hd => ?_, ?_, fun d hd => ?_, s.placeOn_sameRegs _ _,
      s.placeOn_frame _ _⟩
    · rw [State.placeOn_bay, State.putJob_bay, if_pos rfl]
      rfl
    · rw [State.placeOn_bay, State.putJob_bay, if_neg hd]
    · exact (s.placeOn_ctx _ _ _).trans (if_pos rfl)
    · exact (s.placeOn_ctx _ _ _).trans (if_neg hd)
  · intro b d f j a e s hl hd hready he
    obtain ⟨t, hexec, hsettled⟩ := exec_ctuStart_ready hl hd hready he
    have hpx := fun m => (hsettled.pxEng m).trans (State.engageCtu_pxEng _ _ _ _ _ _ m)
    have hbay := fun m => (hsettled.bay m).trans (State.engageCtu_bay _ _ _ _ _ _ m)
    refine ⟨t, hexec, ?_, ?_, fun m hm => (hpx m).trans (if_neg hm), ?_, fun m hm => (hbay m).trans (if_neg hm),
      fun c hc => (hsettled.others c hc).trans (State.engageCtu_ctx _ _ _ _ _ _ c),
      hsettled.after_engage (s.engageCtu_frame _ _ _ _ _)⟩
    · rw [hpx, if_pos rfl]
      rfl
    · rw [hpx, if_pos rfl]
      rfl
    · rw [hbay, if_pos rfl]
      simp only [Bay.startOn, beq_iff_eq]
  · rintro b d f i e s hl hd ⟨hin, hruns⟩ he
    refine ⟨_, exec_ctuStart_window hl hd hin hruns he, ?_, ?_, s.putItem_onlyPx _ _, s.putItem_sameRegs _ _,
      s.putItem_frame _ _⟩
    · rw [State.putItem_pxEng, if_pos rfl]
      rfl
    · rw [State.putItem_pxEng, if_pos rfl]
      rfl
  · rintro b c row tile kind e j s hl hj ⟨hon, hedge, hall⟩
    obtain ⟨t, m, hexec, hwork⟩ := exec_rowJobComplete_done (e := e) hl hj hon hedge hall
    have hbay := fun d => (hwork.bay d).trans ((State.withBins_bay _ m d).trans (s.retireJob_bay b.val j d))
    refine ⟨t, hexec, ?_, ?_, fun d hd => (hbay d).trans (if_neg hd),
      fun d hd => (hwork.others d hd).trans ((State.withBins_ctx _ m d).trans (s.retireJob_ctx b.val j d)),
      hwork.after_retire (s.retireJob_frame _ _)⟩
    · rw [hbay, if_pos rfl]
    · obtain ⟨hlo, hhi⟩ := BAY_JOBS_bounds b
      rw [hwork.bayRegs _ hlo hhi, State.withBins_reg, State.retireJob_count]
  · rintro c n seg s hl ⟨hon, hfew⟩ hseg hn
    have hregs := (s.engageLane c n seg).showLanes_sameRegs c
    have honly := (s.engageLane c n seg).showLanes_onlyRegs c
    refine ⟨_, exec_entropySegmentStart_next hl hon hfew hseg hn, ?_, ?_, fun d hd => ?_, fun k hk => ?_,
      honly.after_lane (s.engageLane_frame c n seg)⟩
    · rw [honly.ctx, State.engageLane_lanes]
    · rw [State.regN_eq, hregs _ (by simpa using EL_STATUS_ne_CTX_PLACEMENT n c), State.engageLane_reg, if_pos rfl,
        BitVec.toNat_ofNat]
    · rw [honly.ctx, s.engageLane_onlyCtx c n seg d hd]
    · simp only [List.mem_cons, not_or] at hk
      obtain ⟨hel, hplace⟩ := hk
      rw [hregs k (by simpa using hplace), State.engageLane_reg, if_neg hel]

end Sys2Proof.Machine

namespace Sys2Proof.Machine

/-! SUPPORT. A store of a Cue Engine to DRAM that the Reference Cache holds (R631). -/

theorem exec_ceSth (n : Fin 16) (s : State) : exec (.ceSth n) s = .next (s.ceWord n.val 0x1D (State.ceSth n.val)) := rfl

/-- STH of G3 to the buffer whose handle is in G1, at the offset in G2. -/
def sthWord : Nat := 0x1D * 2 ^ 26 + 3 * 2 ^ 17 + 2 ^ 12

/-- Cue Engine 0 runs and stands at STH, 0xFF in G3, the handle of the first buffer of pool 4 in G1. That buffer lies in DRAM
from address 0, and the Reference Cache holds the first 64 bytes of it, all zero. -/
def cachedBufferState : State :=
  let s := { State.reset with rc := { State.reset.rc with held := [] } }
  let s := { s with stores := { s.stores with ce := [(0x100, sthWord)] }
                    refc := { s.refc with sets := [(0, [{ addr := 0, units := [(0, List.replicate 64 0)] }])] } }
  let s := (s.setRegN (Reg.CE_STATUS 0) 1).modCe 0 fun x => { x with level := 1, pc := 0x100, g := [(1, 0x01800000), (3, 0xFF)] }
  s.setPoolBuf 0x800000 { frees := 0, count := 1, owner := 0, span := 1 }

/-- After the store the cache holds the bytes that are in memory. -/
theorem cachedBufferState_refc :
    (cachedBufferState.ceWord 0 0x1D (State.ceSth 0)).refc.sets =
      [(0, [{ addr := 0, units := [(0, 0xFF :: List.replicate 63 0)] }])] := by
  decide +kernel

/-- Refutes O17: its clause on STH says that a store changes nothing beside the four bytes, the engine and its registers, but
the Reference Cache, which serves DRAM reads, is updated too where it holds the 64 bytes that the store changes (R631). -/
theorem not_cueEngineMemory : ¬ Obligations.CueEngineMemory := by
  unfold Obligations.CueEngineMemory
  rintro ⟨-, -, -, -, -, hsth, -⟩
  obtain ⟨t, ht, -, -, -, -, -, hframe⟩ := hsth 0 sthWord 0x800000 cachedBufferState (by decide +kernel) (by decide +kernel)
    (by decide +kernel) (by decide +kernel) (by decide +kernel)
  rw [exec_ceSth] at ht
  obtain rfl := Host.Outcome.next.inj ht
  have hsets : (cachedBufferState.ceWord 0 0x1D (State.ceSth 0)).refc.sets = cachedBufferState.refc.sets :=
    congrArg (fun s => s.refc.sets) hframe
  rw [cachedBufferState_refc] at hsets
  exact absurd hsets (by decide +kernel)

end Sys2Proof.Machine

namespace Sys2Proof.Machine

/-! SUPPORT. A task of a Cue Engine that ends: CUEX_TGT_NEXT of the engine is made current (R567, R573). -/

theorem exec_ceReti (n : Fin 16) (s : State) : exec (.ceReti n) s = .next (s.ceWord n.val 0x26 (State.ceReti n.val)) := rfl

/-- The word RETI. -/
def retiWord : Nat := 0x26 * 2 ^ 26

/-- Cue Engine 0 runs a task at level 1 and stands at RETI, source 5 on its in-service stack. No source is pending at it, and
CUEX_TGT_NEXT shows source 7 from before. -/
def endingTaskState : State :=
  let s := { State.reset with rc := { State.reset.rc with held := [] } }
  let s := { s with stores := { s.stores with ce := [(0xC00, retiWord)] } }
  let s := (s.setRegN (Reg.CE_STATUS 0) 1).modCe 0 fun x => { x with level := 1, pc := 0xC00 }
  ((s.setRegN (Reg.CUEX_TGT_STATUS 0) 0x100).setRegN (Reg.CUEX_TGT_STACK 0 0) 5).setRegN (Reg.CUEX_TGT_NEXT 0) 7

/-- The engine idle, no source is next. -/
theorem endingTaskState_next :
    (endingTaskState.ceWord 0 0x26 (State.ceReti 0)).reg (Reg.CUEX_TGT_NEXT 0) = 0x400 := by
  decide +kernel

/-- Refutes O19: its clause on RETI at level 1 lists the registers that may change without CUEX_TGT_NEXT of the engine, but the
end of a task makes that register current with the engine's going idle (R567, R573). -/
theorem not_cueEngineFlow : ¬ Obligations.CueEngineFlow := by
  unfold Obligations.CueEngineFlow
  rintro ⟨-, -, -, -, -, -, -, hreti, -⟩
  obtain ⟨t, ht, -, -, -, hregs, -⟩ := hreti 0 retiWord 5 endingTaskState (by decide +kernel) (by decide +kernel)
  rw [exec_ceReti] at ht
  obtain rfl := Host.Outcome.next.inj ht
  have hnext := (hregs (Reg.CUEX_TGT_NEXT 0) (by decide +kernel)).symm.trans endingTaskState_next
  exact absurd hnext (by decide +kernel)

end Sys2Proof.Machine

namespace Sys2Proof.Machine

/-! SUPPORT. A machine check of a Cue Engine that damages a picture in decoding (R68, R392). -/

theorem exec_ceHdr (n : Fin 16) (s : State) :
    exec (.ceHdr n) s = .next (s.ceWord n.val 0x27 fun _ s => s.ceNext n.val) := rfl

/-- An H.265 stream of one CTU of 64 × 64 samples. -/
def oneCtuStream : SpsInfo :=
  { h264 := false, id := 0, profile := 1, compat := [], chroma := 1, bitDepth := 8, constraintsOk := true, level := 30, width := 64,
    height := 64, winLeft := 0, winTop := 0, winWidth := 64, winHeight := 64, matrix := none, fullRange := false, maxFrameNum := 16,
    dpb := 1, maxReorder := 0, maxLatency := none, pocType2 := false, fieldSeq := false, intraOnly := false, tiles := false,
    wpp := false, mbaff := false, fmo := false, ctuCols := 1, ctuRows := 1, tileStarts := [], tileRows := [] }

/-- A picture of that stream in decoding, of which no CTU has been handed to an Entropy Lane. -/
def unhandedPicture : DecPicture :=
  { au := { ts := 0, ssrc := 0, arrival := 0, slices := [], sets := [], recovery := none, sheets := [], lost := false, dropped := false,
            skipped := false },
    arriving := true, irap := true, recovers := false, trusted := true, concealCopy := false, marks := [], damaged := [], slices := [],
    cover := [], handed := [], done := [], crew := [],
    pic := { base := 0, fmt := { w := 64, h := 64, chroma := 1, depth := 8 }, winX := 0, winY := 0, winW := 64, winH := 64, num := 0,
             matrix := 1, full := false, bad := [] },
    good := (none, none), raw := [], parity := none, badCtus := [], holders := [], filled := [], reads := [], jobsDone := [],
    rowsDone := [] }

/-- Cue Engine 0 runs and stands at word 0xC00, where no image has written: the fill word, which is illegal (R384). Decode
context 0 is bound to it, has a picture in decoding, and its cell table stands in buffer 0 of pool 3. -/
def boundDecodeState : State :=
  let s := { State.reset with rc := { State.reset.rc with held := [] } }
  let s := (s.setRegN (Reg.CE_STATUS 0) 1).modCe 0 fun x => { x with level := 1, pc := 0xC00 }
  let s := (s.setRegN (Reg.FRESH_CELL_TABLE 0) 0x01600000).setPoolBuf 0x600000 { frees := 0, count := 1, owner := 0, span := 1 }
  s.modCtx 0 fun x => { x with admitted := true, codedW := 64, codedH := 64, sps := some oneCtuStream, dpic := some unhandedPicture }

/-- The flags of the cell record of that picture's one cell: its content has changed without proof. -/
theorem boundDecodeState_cell :
    (boundDecodeState.ceWord 0 0x27 fun _ s => s.ceNext 0).mem8 (poolBase + 0x50000D) = 8 := by
  decide +kernel

/-- Refutes O20: its clauses on a machine check say that no byte of memory changes, but the check also damages the CTUs of the
engine's decode pictures that no lane has been given (R392), and the records of their cells, marked unproven, are written to the
context's cell table (R68, R101). -/
theorem not_cueEngineChecks : ¬ Obligations.CueEngineChecks := by
  unfold Obligations.CueEngineChecks
  rintro ⟨hillegal, -⟩
  obtain ⟨t, ht, -, -, -, -, -, hmem, -⟩ := hillegal 0 .ceHdr boundDecodeState (by decide +kernel) (by decide +kernel) (.inr (.inl rfl))
  rw [exec_ceHdr] at ht
  obtain rfl := Host.Outcome.next.inj ht
  have hbyte := (hmem (poolBase + 0x50000D)).symm.trans boundDecodeState_cell
  exact absurd hbyte (by decide +kernel)

end Sys2Proof.Machine

namespace Sys2Proof.Machine

/-! SUPPORT. What follows a completed word of a Cue Engine that goes on in its task (R353, R366, R370, R377). -/

/-! ### Engines and registers, each left alone by a change of the other -/

theorem OnlyCe.refl (n : Nat) (s : State) : OnlyCe n s s := fun _ _ => rfl

theorem OnlyCe.trans {n : Nat} {s t u : State} (h : OnlyCe n s t) (k : OnlyCe n t u) : OnlyCe n s u :=
  fun m hm => (k m hm).trans (h m hm)

theorem State.modCe_ceEng (s : State) (n : Nat) (f : CeEng → CeEng) (m : Nat) :
    (s.modCe n f).ceEng m = if m = n then f (s.ceEng n) else s.ceEng m :=
  Sparse.get_set _ _ _ _ _

@[simp] theorem State.modCe_ceEng_same (s : State) (n : Nat) (f : CeEng → CeEng) : (s.modCe n f).ceEng n = f (s.ceEng n) := by
  rw [State.modCe_ceEng, if_pos rfl]

theorem State.modCe_onlyCe (s : State) (n : Nat) (f : CeEng → CeEng) : OnlyCe n s (s.modCe n f) := fun m hm => by
  rw [State.modCe_ceEng, if_neg hm]

@[simp] theorem State.setReg_ceEng (s : State) (k : Nat) (v : Word) (n : Nat) : (s.setReg k v).ceEng n = s.ceEng n := rfl

theorem OnlyRegs.onlyCe {s t : State} (h : OnlyRegs s t) (n : Nat) : OnlyCe n s t := fun m _ => by
  rw [h]
  rfl

theorem OnlyRegs.ceEng {s t : State} (h : OnlyRegs s t) (n : Nat) : t.ceEng n = s.ceEng n := by
  rw [h]
  rfl

namespace CeAlone

variable {n : Nat} {s t u : State}

theorem refl (n : Nat) (s : State) : CeAlone n s s := ⟨OnlyCe.refl n s, SameRegs.refl _ s, rfl⟩

theorem trans (h : CeAlone n s t) (k : CeAlone n t u) : CeAlone n s u := by
  obtain ⟨honly, hregs, hframe⟩ := h
  obtain ⟨konly, kregs, kframe⟩ := k
  refine ⟨honly.trans konly, hregs.trans kregs, ?_⟩
  rw [hframe] at kframe
  exact kframe

theorem modCe (n : Nat) (s : State) (f : CeEng → CeEng) : CeAlone n s (s.modCe n f) :=
  ⟨s.modCe_onlyCe n f, fun _ _ => rfl, rfl⟩

theorem setReg {k : Nat} (v : Word) (s : State) (hk : k ∈ ceRegs n) : CeAlone n s (s.setReg k v) :=
  ⟨fun _ _ => rfl, fun j hj => by rw [State.setReg_reg, if_neg (by rintro rfl; exact hj hk)], rfl⟩

theorem reg (h : CeAlone n s t) {k : Nat} (hk : k ∉ ceRegs n) : t.reg k = s.reg k := h.2.1 k hk

end CeAlone

/-! ### The registers that the end of a word reads -/

/-- The hook call limit, the page of the prop room's reset, and the pages of the Cue Exchange. -/
def watchedByCe (k : Nat) : Bool := k == Reg.UC_HOOK_LIMIT || k == blkStat 0x018 || (Nat.ble 0x8000 k && Nat.blt k 0xC000)

/-- From `s` to `t` the Cue Exchange and the registers that the end of a word reads are as they were. -/
def CueView (s t : State) : Prop :=
  t.cuex = s.cuex ∧ (t.regs.filter fun p => watchedByCe p.1) = s.regs.filter fun p => watchedByCe p.1

theorem Sparse.filter_place {α : Type} (f : Nat → Bool) {k : Nat} (hk : f k = false) (v : α) (m : Sparse α) :
    ((Sparse.place k v m).filter fun p => f p.1) = m.filter fun p => f p.1 := by
  induction m with
  | nil => simp [Sparse.place, hk]
  | cons p r ih =>
    rw [Sparse.place]
    split
    · rw [List.filter_cons_of_neg (by simp [hk])]
    · rw [List.filter_cons, List.filter_cons, ih]

theorem Sparse.filter_set {α : Type} [DecidableEq α] (f : Nat → Bool) (d : Nat → α) {k : Nat} (hk : f k = false) (v : α)
    (m : Sparse α) : ((Sparse.set d m k v).filter fun p => f p.1) = m.filter fun p => f p.1 := by
  have herase : ((Sparse.erase k m).filter fun p => f p.1) = m.filter fun p => f p.1 := by
    rw [Sparse.erase, List.filter_filter]
    refine List.filter_congr fun p _ => ?_
    rw [Bool.and_eq_left_iff_imp]
    intro hp
    rw [bne_iff_ne]
    rintro rfl
    rw [hk] at hp
    exact Bool.false_ne_true hp
  rw [Sparse.set]
  split
  · exact herase
  · rw [Sparse.filter_place f hk, herase]

namespace CueView

variable {s t u : State}

theorem refl (s : State) : CueView s s := ⟨rfl, rfl⟩

theorem trans (h : CueView s t) (k : CueView t u) : CueView s u := ⟨k.1.trans h.1, k.2.trans h.2⟩

theorem setReg {k : Nat} (v : Word) (s : State) (hk : watchedByCe k = false) : CueView s (s.setReg k v) :=
  ⟨rfl, Sparse.filter_set watchedByCe regReset hk v s.regs⟩

theorem reg (h : CueView s t) {k : Nat} (hk : watchedByCe k = true) : t.reg k = s.reg k := by
  have hs := Sparse.get_filter regReset watchedByCe s.regs k
  have ht := Sparse.get_filter regReset watchedByCe t.regs k
  rw [hk, if_pos rfl] at hs ht
  rw [State.reg, State.reg, ← hs, ← ht, h.2]

/-- The registers of the pending bits of a Cue Engine are watched. -/
theorem watchedByCe_pend {n k : Nat} (hn : n < 16)
    (hk : (Nat.ble (Reg.CUEX_TGT_PEND n 0) k && Nat.ble k (Reg.CUEX_TGT_PEND n 31)) = true) : watchedByCe k = true := by
  rw [Bool.and_eq_true, Nat.ble_eq, Nat.ble_eq] at hk
  simp only [Reg.CUEX_TGT_PEND] at hk
  simp only [watchedByCe, Bool.or_eq_true, Bool.and_eq_true, Nat.ble_eq, Nat.blt_eq]
  omega

theorem pendingList (h : CueView s t) {n : Nat} (hn : n < 16) : t.pendingList n = s.pendingList n := by
  have hfilter : ∀ l : List (Nat × Word), (l.filter fun p => Nat.ble (Reg.CUEX_TGT_PEND n 0) p.1 && Nat.ble p.1 (Reg.CUEX_TGT_PEND n 31)) =
      (l.filter fun p => watchedByCe p.1).filter fun p => Nat.ble (Reg.CUEX_TGT_PEND n 0) p.1 && Nat.ble p.1 (Reg.CUEX_TGT_PEND n 31) :=
    fun l => by
      rw [List.filter_filter]
      refine List.filter_congr fun p _ => ?_
      rw [eq_comm, Bool.and_eq_left_iff_imp]
      exact watchedByCe_pend hn
  rw [State.pendingList, State.pendingList, hfilter, h.2, ← hfilter]

end CueView

theorem State.pendingList_lt {s : State} {n src : Nat} (h : src ∈ s.pendingList n) : src < 1024 := by
  simp only [State.pendingList, List.mem_flatMap, List.mem_map, List.mem_filter, List.mem_range, Bool.and_eq_true, Nat.ble_eq,
    Reg.CUEX_TGT_PEND] at h
  obtain ⟨p, ⟨-, hlo, hhi⟩, j, ⟨hj, -⟩, rfl⟩ := h
  omega

namespace CueView

variable {s t : State}

theorem readyFor (h : CueView s t) {n src : Nat} (hn : n < 16) (hsrc : src < 1024) : t.readyFor n src = s.readyFor n src := by
  have hpend : t.reg (Reg.CUEX_TGT_PEND n (src / 32)) = s.reg (Reg.CUEX_TGT_PEND n (src / 32)) := h.reg (by
    simp only [watchedByCe, Reg.CUEX_TGT_PEND, Bool.or_eq_true, Bool.and_eq_true, Nat.ble_eq, Nat.blt_eq]
    omega)
  have hroute : t.reg (Reg.CUEX_ROUTE (src / 2)) = s.reg (Reg.CUEX_ROUTE (src / 2)) := h.reg (by
    simp only [watchedByCe, Reg.CUEX_ROUTE, Bool.or_eq_true, Bool.and_eq_true, Nat.ble_eq, Nat.blt_eq]
    omega)
  have hctrl : t.reg Reg.CUEX_CTRL = s.reg Reg.CUEX_CTRL := h.reg rfl
  simp only [State.readyFor, State.pendingAt, State.routeEnabled, State.route, State.rbit, State.fld, hpend, hroute, hctrl, h.1]

theorem nextSource (h : CueView s t) {n : Nat} (hn : n < 16) : t.nextSource n = s.nextSource n := by
  have hstatus : t.reg (Reg.CUEX_TGT_STATUS n) = s.reg (Reg.CUEX_TGT_STATUS n) := h.reg (by
    simp only [watchedByCe, Reg.CUEX_TGT_STATUS, Bool.or_eq_true, Bool.and_eq_true, Nat.ble_eq, Nat.blt_eq]
    omega)
  have hsleep : t.asleep n = s.asleep n := by rw [State.asleep, State.asleep, State.rbit, State.rbit, hstatus]
  rw [State.nextSource, State.nextSource, h.pendingList hn]
  refine List.find?_congr fun src hsrc => ?_
  rw [State.deliverable, State.deliverable, h.readyFor hn (State.pendingList_lt hsrc), hsleep]

theorem hookLimit (h : CueView s t) : t.fld Reg.UC_HOOK_LIMIT 15 0 = s.fld Reg.UC_HOOK_LIMIT 15 0 := by
  rw [State.fld, State.fld, h.reg rfl]

end CueView

theorem watchedByCe_ceRegs {n k : Nat} (h : k ∈ ceRegs n) : watchedByCe k = false := by
  have hk : 0x180000 ≤ k := by
    simp only [ceRegs, Reg.CE_STATUS, Reg.CE_YIELD_GAP, Reg.CE_DELAY_CLAMPS, List.mem_cons, List.not_mem_nil, or_false] at h
    omega
  have hlt : Nat.blt k 0xC000 = false := blt_false_of_le (by omega)
  have hlimit : k ≠ Reg.UC_HOOK_LIMIT := by rw [Reg.UC_HOOK_LIMIT]; omega
  have hstat : k ≠ blkStat 0x018 := by
    have : blkStat 0x018 = 0x18010 := rfl
    omega
  simp [watchedByCe, hlt, hlimit, hstat]

/-! ### The end of a word -/

/-- The registers of the engine that the end of a word writes: the longest time between two yields, and CE_STATUS. -/
def State.ceShown (s : State) (n k : Nat) : State := (s.keepMax (Reg.CE_YIELD_GAP n) k).showCe n

/-- From `s` to `t` only the registers of engine `n` that a word of it writes may differ. -/
structure CeShown (n : Nat) (s t : State) : Prop where
  regs : OnlyRegs s t
  only : SameRegs (ceRegs n) s t
  view : CueView s t

namespace CeShown

variable {n : Nat} {s t u : State}

theorem refl (n : Nat) (s : State) : CeShown n s s := ⟨OnlyRegs.refl s, SameRegs.refl _ s, CueView.refl s⟩

theorem setReg (h : CeShown n s t) {k : Nat} (v : Word) (hk : k ∈ ceRegs n) : CeShown n s (t.setReg k v) where
  regs := h.regs.setReg k v
  only := h.only.trans fun j hj => by rw [State.setReg_reg, if_neg (by rintro rfl; exact hj hk)]
  view := h.view.trans (CueView.setReg v t (watchedByCe_ceRegs hk))

theorem showCe (h : CeShown n s t) : CeShown n s (t.showCe n) := by
  have hk : Reg.CE_STATUS n ∈ ceRegs n := List.mem_cons_self
  exact (((h.setReg _ hk).setReg _ hk).setReg _ hk).setReg _ hk

theorem keepMax (h : CeShown n s t) {k : Nat} (v : Nat) (hk : k ∈ ceRegs n) : CeShown n s (t.keepMax k v) := by
  rw [State.keepMax]
  split
  · exact h.setReg _ hk
  · exact h

theorem ceAlone (h : CeShown n s t) : CeAlone n s t := by
  refine ⟨h.regs.onlyCe n, h.only, ?_⟩
  rw [h.regs]

end CeShown

theorem State.ceShown_shown (s : State) (n k : Nat) : CeShown n s (s.ceShown n k) :=
  ((CeShown.refl n s).keepMax k (List.mem_cons_of_mem _ List.mem_cons_self)).showCe

theorem State.ceCounted_shown (s : State) (n w : Nat) : CeShown n s (s.ceCounted n w) := by
  rw [State.ceCounted]
  split
  · exact (CeShown.refl n s).setReg _ (List.mem_cons_of_mem _ (List.mem_cons_of_mem _ List.mem_cons_self))
  · exact CeShown.refl n s

/-- What a state, after the action of a word of engine `x0`, must have for the engine to go on in its task: it is at the level, the
count and the hook call in which the word began, neither of the limits is reached, and no cue is taken. -/
structure CeGoesOn (n w : Nat) (x0 : CeEng) (s : State) : Prop where
  level : (s.ceEng n).level = x0.level
  count : (s.ceEng n).count = x0.count
  hook : (s.ceEng n).hook = x0.hook
  busy : x0.level ≠ 0
  limit : ∀ h ∈ x0.hook, h.2 < s.fld Reg.UC_HOOK_LIMIT 15 0
  room : if ceY w = true ∧ x0.level = 1 then s.nextSource n = none else x0.count ≠ 255

/-- The hook call in which an engine is after a word that goes on in its task. -/
theorem CeEng.hook_on {w tgt : Nat} {x x0 : CeEng} (hlevel : x.level = x0.level) (hhook : x.hook = x0.hook) :
    (if (x0.hook.isSome && x.hook.isSome && x0.level == x.level) = true then x0.hook.map fun h => (h.1, h.2 + 1) else x.hook) =
      (x.on w tgt).hook := by
  rw [CeEng.on, hlevel, hhook]
  cases x0.hook with
  | none => rfl
  | some c => simp

theorem State.ceYield_of_none {s : State} {n : Nat} (h : s.nextSource n = none) : s.ceYield n = s := by
  rw [State.ceYield, h]

theorem State.ceDone_goesOn {s : State} {n w : Nat} {x0 : CeEng} (hn : n < 16) (h : CeGoesOn n w x0 s) (tgt : Nat) :
    s.ceDone n w x0 tgt = (s.modCe n (CeEng.on w tgt)).ceShown n ((s.ceEng n).on w tgt).count := by
  obtain ⟨hlevel, hcount, hhook, hbusy, hlimit, hroom⟩ := h
  have hidle : ((s.ceEng n).level == 0) = false := by rw [hlevel]; exact beq_eq_false_iff_ne.mpr hbusy
  have hk : ((s.ceEng n).on w tgt).count = if (ceY w && x0.level == 1) = true then 0 else x0.count + 1 := by
    rw [CeEng.on, hlevel, hcount]
  have hmod : (s.modCe n fun x => { x with
      pc := tgt, count := if (x.level == 0) = true then 0 else ((s.ceEng n).on w tgt).count
      hook := ((s.ceEng n).on w tgt).hook }) = s.modCe n (CeEng.on w tgt) := by
    simp only [State.modCe, hidle, Bool.false_eq_true, if_false]
    rfl
  rw [State.ceDone]
  simp only [hidle, ← hk, CeEng.hook_on (w := w) (tgt := tgt) hlevel hhook, Bool.false_eq_true, if_false, hmod]
  rw [← State.ceShown]
  have hview : CueView s ((s.modCe n (CeEng.on w tgt)).ceShown n ((s.ceEng n).on w tgt).count) :=
    CueView.trans (t := s.modCe n (CeEng.on w tgt)) ⟨rfl, rfl⟩ (State.ceShown_shown _ n _).view
  generalize (s.modCe n (CeEng.on w tgt)).ceShown n ((s.ceEng n).on w tgt).count = v at hview
  have hmax : (((s.ceEng n).on w tgt).count == 256) = false := by
    rw [hk]
    split
    · rfl
    · next hy =>
      rw [Bool.and_eq_true, beq_iff_eq] at hy
      rw [if_neg hy] at hroom
      exact beq_eq_false_iff_ne.mpr (by omega)
  have hyield : (if (ceY w && x0.level == 1) = true then v.ceYield n else v) = v := by
    split
    · next hy =>
      rw [Bool.and_eq_true, beq_iff_eq] at hy
      rw [if_pos hy, ← hview.nextSource hn] at hroom
      exact State.ceYield_of_none hroom
    · rfl
  rw [hmax, hyield]
  cases hx : x0.hook with
  | none => rfl
  | some c =>
    have hin : Nat.blt (s.fld Reg.UC_HOOK_LIMIT 15 0) (c.2 + 1) = false := blt_false_of_le (hlimit c hx)
    simp only [Option.map_some, hview.hookLimit, hin, Bool.false_eq_true, if_false]

/-- A word that goes on changes its engine and the engine's registers. -/
theorem State.ceDone_alone {s : State} {n w : Nat} {x0 : CeEng} (hn : n < 16) (h : CeGoesOn n w x0 s) (tgt : Nat) :
    CeAlone n s (s.ceDone n w x0 tgt) ∧ (s.ceDone n w x0 tgt).ceEng n = (s.ceEng n).on w tgt := by
  have hshown := State.ceShown_shown (s.modCe n (CeEng.on w tgt)) n ((s.ceEng n).on w tgt).count
  rw [State.ceDone_goesOn hn h]
  exact ⟨(CeAlone.modCe n s _).trans hshown.ceAlone, by rw [hshown.regs.ceEng, State.modCe_ceEng_same]⟩

/-! ### A word -/

section
variable {s u : State} {n op w tgt : Nat} {run : Nat → State → CeResult}

theorem State.ceWord_of_stands (h : CeStands s n op w) (hrun : run w (s.ceCounted n w) = (u, some tgt)) :
    s.ceWord n op run = u.ceDone n w (s.ceEng n) tgt := by
  obtain ⟨hlive, hruns, hgood, hdata, hlegal, hop, -⟩ := h
  have hcounted : (s.doIf (Nat.blt (ceDelay w) (ceFloor w)) fun s => s.bump (Reg.CE_DELAY_CLAMPS n) 1) = s.ceCounted n w := by
    rw [State.doIf, State.ceCounted]
    simp only [Nat.blt_eq]
  rw [State.ceWord, hlive, hruns]
  dsimp only
  rw [hgood, hdata, hlegal, hop, hcounted, hrun]
  simp only [Bool.not_true, Bool.or_self, Bool.false_eq_true, if_false, bne_self_eq_false]
  rw [(s.ceCounted_shown n w).regs.ceEng]

/-- The action of a word that goes on leaves a state that goes on, when it leaves the engine's task, the Cue Exchange and the
registers that the end of a word reads. -/
theorem CeGoesOn.of_wordAt (hn : n < 16) (h : CeWordAt s n op w) (hview : CueView s u) (hlevel : (u.ceEng n).level = (s.ceEng n).level)
    (hcount : (u.ceEng n).count = (s.ceEng n).count) (hhook : (u.ceEng n).hook = (s.ceEng n).hook) :
    CeGoesOn n w (s.ceEng n) u := by
  obtain ⟨⟨-, hruns, -, -, -, -, hlimit⟩, hroom⟩ := h
  rw [State.ceRuns, Bool.and_eq_true, Bool.and_eq_true, bne_iff_ne] at hruns
  refine ⟨hlevel, hcount, hhook, hruns.1.2, fun c hc => ?_, ?_⟩
  · rw [hview.hookLimit]
    exact hlimit c hc
  · rw [hview.nextSource hn]
    exact hroom

/-- A word whose action leaves a state that goes on in the task. -/
theorem State.ceWord_ends (hn : n < 16) (h : CeStands s n op w) (hrun : run w (s.ceCounted n w) = u.ceNext n)
    (hgo : CeGoesOn n w (s.ceEng n) u) :
    CeAlone n u (s.ceWord n op run) ∧ (s.ceWord n op run).ceEng n = (u.ceEng n).onward w := by
  rw [State.ceWord_of_stands h hrun]
  exact State.ceDone_alone hn hgo _

/-- A word whose only action is a change of its engine, which leaves the engine's task. -/
theorem State.ceWord_onward (hn : n < 16) (h : CeWordAt s n op w) {f : CeEng → CeEng}
    (hrun : run w (s.ceCounted n w) = ((s.ceCounted n w).modCe n f).ceNext n)
    (hlevel : (f (s.ceEng n)).level = (s.ceEng n).level) (hcount : (f (s.ceEng n)).count = (s.ceEng n).count)
    (hhook : (f (s.ceEng n)).hook = (s.ceEng n).hook) :
    CeAlone n s (s.ceWord n op run) ∧ (s.ceWord n op run).ceEng n = (f (s.ceEng n)).onward w := by
  have hshown := s.ceCounted_shown n w
  have heng : ((s.ceCounted n w).modCe n f).ceEng n = f (s.ceEng n) := by rw [State.modCe_ceEng_same, hshown.regs.ceEng]
  have hgo : CeGoesOn n w (s.ceEng n) ((s.ceCounted n w).modCe n f) :=
    CeGoesOn.of_wordAt hn h (hshown.view.trans ⟨rfl, rfl⟩) (heng ▸ hlevel) (heng ▸ hcount) (heng ▸ hhook)
  obtain ⟨halone, hend⟩ := State.ceWord_ends hn h.1 hrun hgo
  exact ⟨(hshown.ceAlone.trans (CeAlone.modCe n _ f)).trans halone, by rw [hend, heng]⟩

end

end Sys2Proof.Machine

namespace Sys2Proof.Machine

/-! SUPPORT. The arithmetic of a Cue Engine in the operations of bit vectors (R362, R363). -/

/-! ### Shifts, products and bit fields -/

theorem ceShift_zero (v k : Word) : ceShift 0 v k = if k.toNat < 32 then v <<< k else Config.wideShift 0 v k := by
  rw [ceShift, BitVec.shiftLeft_eq']
  by_cases h : k.toNat < 32
  · rw [if_pos h, blt_false_of_le (by omega)]
    rfl
  · rw [if_neg h, if_pos (Nat.blt_eq.mpr (by omega))]

theorem ceShift_one (v k : Word) : ceShift 1 v k = if k.toNat < 32 then v >>> k else Config.wideShift 1 v k := by
  rw [ceShift, BitVec.ushiftRight_eq']
  by_cases h : k.toNat < 32
  · rw [if_pos h, blt_false_of_le (by omega)]
    rfl
  · rw [if_neg h, if_pos (Nat.blt_eq.mpr (by omega))]

theorem ceShift_two (v k : Word) :
    ceShift 2 v k = if k.toNat < 32 then v.sshiftRight k.toNat else Config.wideShift 2 v k := by
  rw [ceShift]
  by_cases h : k.toNat < 32
  · rw [if_pos h, blt_false_of_le (by omega)]
    rfl
  · rw [if_neg h, if_pos (Nat.blt_eq.mpr (by omega))]

/-- The high half of a signed product. -/
theorem w32_mul_high (a b : Word) :
    w32 ((a.toInt * b.toInt).fdiv (2 ^ 32)) = (a.signExtend 64 * b.signExtend 64).extractLsb' 32 32 := by
  have hmul : a.signExtend 64 * b.signExtend 64 = BitVec.ofInt 64 (a.toInt * b.toInt) := by
    rw [BitVec.ofInt_mul, BitVec.signExtend, BitVec.signExtend]
  refine BitVec.eq_of_toNat_eq ?_
  rw [hmul, w32, BitVec.extractLsb'_toNat, BitVec.toNat_ofInt, BitVec.toNat_ofInt, Nat.shiftRight_eq_div_pow,
    Int.fdiv_eq_ediv_of_nonneg _ (by decide)]
  generalize a.toInt * b.toInt = p
  omega

/-- The high half of an unsigned product. -/
theorem ofNat_mul_high (a b : Word) :
    BitVec.ofNat 32 (a.toNat * b.toNat / 2 ^ 32) = (a.zeroExtend 64 * b.zeroExtend 64).extractLsb' 32 32 := by
  have ha := a.isLt
  have hb := b.isLt
  have hlt : a.toNat * b.toNat < 2 ^ 64 := lt_of_lt_of_eq (Nat.mul_lt_mul'' ha hb) (by decide)
  refine BitVec.eq_of_toNat_eq ?_
  rw [BitVec.extractLsb'_toNat, BitVec.toNat_mul, BitVec.toNat_setWidth, BitVec.toNat_setWidth, BitVec.toNat_ofNat,
    Nat.shiftRight_eq_div_pow, Nat.mod_eq_of_lt (a := a.toNat) (by omega), Nat.mod_eq_of_lt (a := b.toNat) (by omega),
    Nat.mod_eq_of_lt hlt]

/-- A choice by the order of two words, signed or not. -/
theorem ceLess_eq (sgn : Bool) (a b p q : Word) :
    (if (if sgn then a.slt b else a.ult b) then p else q) =
      if sgn then (if a.toInt < b.toInt then p else q) else (if a.toNat < b.toNat then p else q) := by
  cases sgn with
  | false => simp only [Bool.false_eq_true, if_false, BitVec.ult_iff_lt, BitVec.lt_def]
  | true => simp only [if_true, BitVec.slt_iff_toInt_lt]

theorem ceAlu_bfx (a b : Word) (fn : Nat) :
    ceAlu 0x0D a b fn = (a.extractLsb' fn (min (Config.fieldWidth fn b) (32 - fn))).zeroExtend 32 := by
  refine BitVec.eq_of_toNat_eq ?_
  rw [BitVec.toNat_setWidth, BitVec.extractLsb'_toNat, Nat.shiftRight_eq_div_pow]
  exact BitVec.toNat_ofNat _ _

theorem ceAlu_bfi (a b : Word) (fn : Nat) :
    let m := (BitVec.allOnes (min (Config.fieldWidth fn b) (32 - fn))).zeroExtend 32 <<< fn
    ceAlu 0x0E a b fn = (a &&& ~~~m) ||| (b <<< fn &&& m) := by
  have hfield : BitVec.ofNat 32 (b.toNat * 2 ^ fn) = b <<< fn :=
    BitVec.eq_of_toNat_eq (by rw [BitVec.toNat_shiftLeft, Nat.shiftLeft_eq, BitVec.toNat_ofNat])
  have hmask : BitVec.ofNat 32 ((2 ^ ceField fn b - 1) * 2 ^ fn) = (BitVec.allOnes (ceField fn b)).zeroExtend 32 <<< fn :=
    BitVec.eq_of_toNat_eq (by
      rw [BitVec.toNat_shiftLeft, Nat.shiftLeft_eq, BitVec.toNat_setWidth, BitVec.toNat_allOnes, BitVec.toNat_ofNat, Nat.mod_mul_mod])
  change (a &&& ~~~BitVec.ofNat 32 ((2 ^ ceField fn b - 1) * 2 ^ fn)) |||
    (BitVec.ofNat 32 (b.toNat * 2 ^ fn) &&& BitVec.ofNat 32 ((2 ^ ceField fn b - 1) * 2 ^ fn)) = _
  rw [hfield, hmask]
  rfl

theorem leadingZeros_eq_clz (a : Word) : BitVec.ofNat 32 (leadingZeros a) = a.clz := by
  rw [leadingZeros]
  by_cases ha : a = 0
  · subst ha
    decide
  have hlt : a.clz.toNat < 32 := BitVec.clz_lt_iff_ne_zero.mpr ha
  have hbit : bit a (31 - a.clz.toNat) = true := (bit_eq_getLsbD _ _).trans (BitVec.getLsbD_true_clz_of_ne_zero (by decide) ha)
  have hfind : ((List.range 32).find? fun i => bit a (31 - i)) = some a.clz.toNat := by
    refine List.find?_range_eq_some.mpr ⟨hbit, List.mem_range.mpr hlt, fun j hj => ?_⟩
    have htop : a.toNat < 2 ^ (31 - j) :=
      lt_of_lt_of_le BitVec.toNat_lt_two_pow_sub_clz (Nat.pow_le_pow_right (by decide) (by omega))
    rw [bit, Nat.div_eq_of_lt htop]
    rfl
  rw [hfind, Option.getD_some, BitVec.ofNat_toNat, BitVec.setWidth_eq]

theorem bit_msb (v : Word) : bit v 31 = v.msb := by
  rw [bit_eq_getLsbD, BitVec.msb_eq_getLsbD_last]

theorem blt_toNat_eq_ult (a b : Word) : Nat.blt a.toNat b.toNat = a.ult b := by
  rw [Bool.eq_iff_iff, Nat.blt_eq, BitVec.ult_iff_lt, BitVec.lt_def]

theorem w32_sx {v : Nat} (hv : 0 < v) (n : Nat) : w32 (sx v n) = (BitVec.ofNat v n).signExtend 32 := by
  rw [w32, BitVec.signExtend, BitVec.toInt_eq_toNat_cond, BitVec.toNat_ofNat, sx]
  have hpow : 2 ^ v = 2 * 2 ^ (v - 1) := by rw [← Nat.pow_succ', Nat.succ_eq_add_one, Nat.sub_add_cancel hv]
  by_cases h : n % 2 ^ v < 2 ^ (v - 1)
  · rw [if_pos h, if_pos (by omega)]
  · rw [if_neg h, if_neg (by omega)]

theorem w32_ceImm12 (w : Nat) : w32 (ceImm12 w) = (BitVec.ofNat 12 w).signExtend 32 := by
  rw [ceImm12, w32_sx (by decide), nbits]
  exact congrArg _ (BitVec.eq_of_toNat_eq (by simp only [BitVec.toNat_ofNat]; omega))

theorem w32_ceImm17 (w : Nat) : w32 (sx 17 (ceImm17 w)) = (BitVec.ofNat 17 w).signExtend 32 := by
  rw [ceImm17, w32_sx (by decide), nbits]
  exact congrArg _ (BitVec.eq_of_toNat_eq (by simp only [BitVec.toNat_ofNat]; omega))

/-- The immediate of LUI above the low 15 bits. -/
theorem ceImm17_shifted (w : Nat) : ceImm17 w * 2 ^ 15 % 2 ^ 32 = w % 2 ^ 17 * 2 ^ 15 := by
  rw [ceImm17, nbits]
  omega

/-! ### The words -/

theorem CeShown.now {n : Nat} {s t : State} (h : CeShown n s t) : t.now = s.now := by
  rw [h.regs]
  rfl

theorem State.modCe_modCe (s : State) (n : Nat) (f g : CeEng → CeEng) : (s.modCe n f).modCe n g = s.modCe n fun x => g (f x) := by
  rw [State.modCe, State.modCe_ceEng_same]
  simp only [State.modCe, State.setCe, Sparse.set_set]

@[simp] theorem CeEng.set_level (x : CeEng) (i v : Nat) : (x.set i v).level = x.level := by
  rw [CeEng.set]
  split <;> rfl

@[simp] theorem CeEng.set_count (x : CeEng) (i v : Nat) : (x.set i v).count = x.count := by
  rw [CeEng.set]
  split <;> rfl

@[simp] theorem CeEng.set_hook (x : CeEng) (i v : Nat) : (x.set i v).hook = x.hook := by
  rw [CeEng.set]
  split <;> rfl

section
variable {s : State} {n op w : Nat} {run : Nat → State → CeResult}

/-- A word whose only action is a write of GD, which goes on at the next word. -/
theorem State.ceWord_put (hn : n < 16) (h : CeWordAt s n op w) {v : Nat}
    (hrun : run w (s.ceCounted n w) = ((s.ceCounted n w).cePut n (ceGd w) v).ceNext n) :
    CeAlone n s (s.ceWord n op run) ∧ (s.ceWord n op run).ceEng n = ((s.ceEng n).set (ceGd w) v).onward w :=
  State.ceWord_onward hn h hrun (CeEng.set_level _ _ _) (CeEng.set_count _ _ _) (CeEng.set_hook _ _ _)

end

/-- A row of the arithmetic unit, by the value of the unit. -/
theorem ceComputes_of_alu {i : Fin 16 → Instr} {op : Nat} {f : Word → Word → Nat → Word}
    (hexec : ∀ n s, exec (i n) s = .next (s.ceWord n.val op (State.ceReg n.val op))) (hf : ∀ a b fn, ceAlu op a b fn = f a b fn) :
    CeComputes i op f := fun n w s h => by
  refine ⟨_, hexec n s, State.ceWord_put n.isLt h ?_⟩
  simp only [State.ceReg, hf, (s.ceCounted_shown n.val w).regs.ceEng]

/-- A row of the immediate unit, by the value of the unit. -/
theorem ceComputesImm_of_imm {i : Fin 16 → Instr} {op : Nat} {f : Word → Word → Word}
    (hexec : ∀ n s, exec (i n) s = .next (s.ceWord n.val op (State.ceImm n.val op)))
    (hf : ∀ n w s, State.ceImm n op w s = (s.cePut n (ceGd w) (f (BitVec.ofNat 32 ((s.ceEng n).get (ceGa w)))
      (w32 (ceImm12 w))).toNat).ceNext n) :
    CeComputesImm i op f := fun n w s h => by
  refine ⟨_, hexec n s, State.ceWord_put n.isLt h ?_⟩
  rw [hf, (s.ceCounted_shown n.val w).regs.ceEng, w32_ceImm12]

/-- Settles O16, from what a word does that goes on in its task, the unit's value taken over into the operations of bit vectors. -/
theorem cueEngineArithmetic : Obligations.CueEngineArithmetic := by
  unfold Obligations.CueEngineArithmetic
  refine ⟨⟨?_, ?_, ?_, ?_, ?_, ?_, ?_⟩, ⟨?_, ?_, ?_⟩, ⟨?_, ?_, ?_⟩, ⟨?_, ?_⟩, ⟨?_, ?_, ?_, ?_, ?_, ?_⟩, ?_, ?_, ?_, ?_⟩
  · exact ceComputes_of_alu (fun _ _ => rfl) fun _ _ _ => rfl
  · exact ceComputes_of_alu (fun _ _ => rfl) fun _ _ _ => rfl
  · exact ceComputes_of_alu (fun _ _ => rfl) fun _ _ _ => rfl
  · exact ceComputes_of_alu (fun _ _ => rfl) fun _ _ _ => rfl
  · exact ceComputes_of_alu (fun _ _ => rfl) fun _ _ _ => rfl
  · exact ceComputes_of_alu (fun _ _ => rfl) fun _ _ _ => rfl
  · exact ceComputes_of_alu (fun _ _ => rfl) fun a _ _ => leadingZeros_eq_clz a
  · exact ceComputes_of_alu (fun _ _ => rfl) fun a _ _ => ceShift_zero a _
  · exact ceComputes_of_alu (fun _ _ => rfl) fun a _ _ => ceShift_one a _
  · exact ceComputes_of_alu (fun _ _ => rfl) fun a _ _ => ceShift_two a _
  · refine ceComputes_of_alu (fun _ _ => rfl) fun a b _ => ?_
    rw [← w32_mul_high, ← ofNat_mul_high]
    rfl
  · refine ceComputes_of_alu (fun _ _ => rfl) fun a b _ => ?_
    rw [ceLess_eq]
    rfl
  · refine ceComputes_of_alu (fun _ _ => rfl) fun a b _ => ?_
    rw [ceLess_eq]
    rfl
  · exact ceComputes_of_alu (fun _ _ => rfl) ceAlu_bfx
  · exact ceComputes_of_alu (fun _ _ => rfl) ceAlu_bfi
  · exact ceComputesImm_of_imm (fun _ _ => rfl) fun _ _ _ => rfl
  · exact ceComputesImm_of_imm (fun _ _ => rfl) fun _ _ _ => rfl
  · exact ceComputesImm_of_imm (fun _ _ => rfl) fun _ _ _ => rfl
  · exact ceComputesImm_of_imm (fun _ _ => rfl) fun _ _ _ => rfl
  · refine ceComputesImm_of_imm (fun _ _ => rfl) fun n w s => ?_
    rw [← BitVec.shiftLeft_eq', ← ceShift_zero]
    rfl
  · refine ceComputesImm_of_imm (fun _ _ => rfl) fun n w s => ?_
    rw [← BitVec.ushiftRight_eq', ← ceShift_one]
    rfl
  · intro n w s h a b
    refine ⟨_, rfl, State.ceWord_onward n.isLt h (f := fun x => { x with
      z := a == b, n := (a - b).msb, c := a.ult b == Config.ceBorrow }) ?_ rfl rfl rfl⟩
    simp only [State.ceCmp, (s.ceCounted_shown n.val w).regs.ceEng, bit_msb, blt_toNat_eq_ult]
    rfl
  · intro n w s h
    refine ⟨_, rfl, State.ceWord_put n.isLt h ?_⟩
    rw [← w32_ceImm17]
    rfl
  · intro n w s h
    refine ⟨_, rfl, State.ceWord_put n.isLt h ?_⟩
    rw [State.ceLui, State.ceGet, (s.ceCounted_shown n.val w).regs.ceEng, ceImm17_shifted]
  · intro n w s h
    refine ⟨_, rfl, State.ceWord_onward n.isLt h (f := fun x => (x.set (ceGd w) s.now).set (ceGd w + 1) (s.now / 2 ^ 32)) ?_
      (by simp only [CeEng.set_level]) (by simp only [CeEng.set_count]) (by simp only [CeEng.set_hook])⟩
    rw [State.ceTime, State.cePut, State.cePut, State.modCe_modCe, (s.ceCounted_shown n.val w).now]

end Sys2Proof.Machine

namespace Sys2Proof.Machine

/-! SUPPORT. Fields and bits of a register after a field or a bit of it is replaced (R8). -/

theorem bit_eq_testBit (w : Word) (n : Nat) : bit w n = w.toNat.testBit n := by
  rw [bit, Nat.testBit_eq_decide_div_mod_eq]
  rfl

theorem bits_testBit (w : Word) (hi lo j : Nat) :
    (bits w hi lo).testBit j = (decide (j < hi - lo + 1) && w.toNat.testBit (lo + j)) := by
  rw [bits, Nat.testBit_mod_two_pow, Nat.testBit_div_two_pow, Nat.add_comm lo j]

/-- A word with a field replaced, from what is above the field, the field and what is below it. -/
theorem putBits_toNat (w : Word) {hi lo : Nat} (hlo : lo ≤ hi) (hhi : hi < 32) (v : Nat) :
    (putBits w hi lo v).toNat =
      2 ^ lo * (2 ^ (hi - lo + 1) * (w.toNat / 2 ^ (hi + 1)) + v % 2 ^ (hi - lo + 1)) + w.toNat % 2 ^ lo := by
  have hpq : 2 ^ (hi + 1) = 2 ^ lo * 2 ^ (hi - lo + 1) := by rw [← Nat.pow_add]; congr 1; omega
  have hword : 2 ^ lo * (2 ^ (hi - lo + 1) * 2 ^ (31 - hi)) = 2 ^ 32 := by
    rw [← Nat.pow_add, ← Nat.pow_add]; congr 1; omega
  have hx := w.isLt
  rw [putBits, BitVec.toNat_ofNat, bits, hpq, ← Nat.div_div_eq_div_mul]
  have hp : 0 < 2 ^ lo := Nat.two_pow_pos lo
  have hq : 0 < 2 ^ (hi - lo + 1) := Nat.two_pow_pos _
  generalize 2 ^ lo = p at *
  generalize 2 ^ (hi - lo + 1) = q at *
  generalize 2 ^ (31 - hi) = r at *
  generalize w.toNat = x at *
  have hlow : x % p < p := Nat.mod_lt _ hp
  have hmid : v % q < q := Nat.mod_lt _ hq
  have htop : x / p / q < r := by
    rw [Nat.div_div_eq_div_mul]
    exact Nat.div_lt_of_lt_mul (by rw [Nat.mul_assoc, hword]; exact hx)
  have hsplit : x = p * (q * (x / p / q)) + x / p % q * p + x % p := by
    rw [Nat.mul_comm (x / p % q) p, ← Nat.mul_add, Nat.div_add_mod, Nat.div_add_mod]
  have hnew : p * (q * (x / p / q) + v % q) + x % p = x - x / p % q * p + v % q * p := by
    rw [Nat.mul_add, Nat.mul_comm p (v % q)]
    omega
  rw [← hnew]
  refine Nat.mod_eq_of_lt ?_
  calc p * (q * (x / p / q) + v % q) + x % p < p * (q * (x / p / q) + v % q) + p := Nat.add_lt_add_left hlow _
    _ = p * (q * (x / p / q) + v % q + 1) := (Nat.mul_succ p _).symm
    _ ≤ p * (q * (x / p / q + 1)) := Nat.mul_le_mul_left p (by rw [Nat.mul_succ]; omega)
    _ ≤ p * (q * r) := Nat.mul_le_mul_left p (Nat.mul_le_mul_left q htop)
    _ = 2 ^ 32 := hword

theorem putBits_testBit (w : Word) {hi lo : Nat} (hlo : lo ≤ hi) (hhi : hi < 32) (v j : Nat) :
    (putBits w hi lo v).toNat.testBit j =
      if j < lo then w.toNat.testBit j else if j ≤ hi then v.testBit (j - lo) else w.toNat.testBit j := by
  have hpos : 0 < 2 ^ (hi - lo + 1) := Nat.two_pow_pos _
  rw [putBits_toNat w hlo hhi, Nat.testBit_two_pow_mul_add _ (Nat.mod_lt _ (Nat.two_pow_pos lo)),
    Nat.testBit_two_pow_mul_add _ (Nat.mod_lt _ hpos)]
  split
  · next h => rw [Nat.testBit_mod_two_pow, decide_eq_true h, Bool.true_and]
  · next h =>
    by_cases hj : j ≤ hi
    · rw [if_pos (by omega), if_pos hj, Nat.testBit_mod_two_pow, decide_eq_true (by omega), Bool.true_and]
    · rw [if_neg (by omega), if_neg hj, Nat.testBit_div_two_pow]
      congr 1
      omega

theorem bits_putBits_same (w : Word) {hi lo : Nat} (hlo : lo ≤ hi) (hhi : hi < 32) (v : Nat) :
    bits (putBits w hi lo v) hi lo = v % 2 ^ (hi - lo + 1) := by
  refine Nat.eq_of_testBit_eq fun j => ?_
  rw [bits_testBit, putBits_testBit w hlo hhi, Nat.testBit_mod_two_pow]
  by_cases hj : j < hi - lo + 1
  · rw [if_neg (by omega), if_pos (by omega), Nat.add_sub_cancel_left]
  · simp only [hj, decide_false, Bool.false_and]

theorem bits_putBits_other (w : Word) {hi lo hi' lo' : Nat} (hlo : lo ≤ hi) (hhi : hi < 32) (v : Nat) (hlo' : lo' ≤ hi')
    (hd : hi' < lo ∨ hi < lo') : bits (putBits w hi lo v) hi' lo' = bits w hi' lo' := by
  refine Nat.eq_of_testBit_eq fun j => ?_
  rw [bits_testBit, bits_testBit, putBits_testBit w hlo hhi]
  by_cases hj : j < hi' - lo' + 1
  · rcases hd with hd | hd
    · rw [if_pos (by omega)]
    · rw [if_neg (by omega), if_neg (by omega)]
  · simp only [hj, decide_false, Bool.false_and]

theorem bit_putBits_other (w : Word) {hi lo n : Nat} (hlo : lo ≤ hi) (hhi : hi < 32) (v : Nat) (hd : n < lo ∨ hi < n) :
    bit (putBits w hi lo v) n = bit w n := by
  rw [bit_eq_testBit, bit_eq_testBit, putBits_testBit w hlo hhi]
  rcases hd with hd | hd
  · rw [if_pos hd]
  · rw [if_neg (by omega), if_neg (by omega)]

theorem bit_putBit (w : Word) {n : Nat} (hn : n < 32) (b : Bool) (m : Nat) :
    bit (putBit w n b) m = if m = n then b else bit w m := by
  by_cases h : m = n
  · subst h
    rw [if_pos rfl, putBit, bit_eq_testBit, putBits_testBit w (Nat.le_refl m) hn, if_neg (Nat.lt_irrefl m), if_pos (Nat.le_refl m),
      Nat.sub_self]
    cases b <;> rfl
  · rw [if_neg h, putBit, bit_putBits_other w (Nat.le_refl n) hn _ (by omega)]

/-! ### Writes of registers -/

/-- From `s` to `t` only the listed registers may differ. -/
structure Writes (ks : List Nat) (s t : State) : Prop where
  regs : OnlyRegs s t
  only : SameRegs ks s t

namespace Writes

variable {ks ls : List Nat} {s t u : State}

theorem refl (ks : List Nat) (s : State) : Writes ks s s := ⟨OnlyRegs.refl s, SameRegs.refl ks s⟩

theorem trans (h : Writes ks s t) (k : Writes ks t u) : Writes ks s u := ⟨h.regs.trans k.regs, h.only.trans k.only⟩

theorem mono (h : Writes ks s t) (hs : ks ⊆ ls) : Writes ls s t := ⟨h.regs, h.only.mono hs⟩

theorem setReg (h : Writes ks s t) {k : Nat} (v : Word) (hk : k ∈ ks) : Writes ks s (t.setReg k v) :=
  ⟨h.regs.setReg k v, h.only.trans fun j hj => by rw [State.setReg_reg, if_neg (by rintro rfl; exact hj hk)]⟩

theorem doIf (h : Writes ks s t) (b : Bool) {f : State → State} (hf : Writes ks s (f t)) : Writes ks s (t.doIf b f) :=
  State.doIf_ind h hf

/-- A bit of a listed register set under a condition. -/
theorem setRbitIf (h : Writes ks s t) (b : Bool) {k : Nat} (n : Nat) (v : Bool) (hk : k ∈ ks) :
    Writes ks s (t.doIf b fun u => u.setRbit k n v) :=
  h.doIf b (h.setReg _ hk)

/-- A listed counter advanced under a condition. -/
theorem bumpIf (h : Writes ks s t) (b : Bool) {k : Nat} (n : Nat) (hk : k ∈ ks) : Writes ks s (t.doIf b fun u => u.bump k n) :=
  h.doIf b (h.setReg _ hk)

theorem reg (h : Writes ks s t) {k : Nat} (hk : k ∉ ks) : t.reg k = s.reg k := h.only k hk

end Writes

theorem State.cuexSync_writes (s : State) (t : Nat) : Writes [Reg.CUEX_TGT_NEXT t, Reg.CUEX_TGT_STATUS t] s (s.cuexSync t) := by
  have hstatus : Reg.CUEX_TGT_STATUS t ∈ [Reg.CUEX_TGT_NEXT t, Reg.CUEX_TGT_STATUS t] := List.mem_cons_of_mem _ List.mem_cons_self
  exact (((Writes.refl _ s).setReg _ List.mem_cons_self).setRbitIf _ 0 true hstatus).setRbitIf _ 1 true hstatus

end Sys2Proof.Machine

namespace Sys2Proof.Machine

/-! SUPPORT. What the prop room's decisions of one handshake step leave alone, and that they do not read the Cue Engines (R585 to
R588). -/

/-! ### The Cue Engines replaced -/

/-- The state with other Cue Engines. -/
def State.withCe (s : State) (m : Sparse CeEng) : State := { s with ce := m }

/-- A buffer given, before its content is undefined: its record, the figures of its pool and of its requester. -/
def State.chargeBuf (s : State) (r p i n : Nat) : State :=
  let k := p * 2 ^ 21 + i
  let s := s.setPoolBuf k { s.poolBuf k with count := 1, owner := r, span := n }
  let free := s.regN (Reg.POOL_FREE p) - n
  let s := (s.setRegN (Reg.POOL_FREE p) free).setRegN (Reg.POOL_LOW p) (min (s.regN (Reg.POOL_LOW p)) free)
  s.wrapAdd (heldReg r (poolInDram p)) (n * poolCharge p)

theorem State.giveBuf_eq (s : State) (r p i n : Nat) :
    s.giveBuf r p i n = ((s.chargeBuf r p i n).bump Reg.POOL_ALLOCS 1).scrapOpen
      ((s.chargeBuf r p i n).bufAddr (p * 2 ^ 21 + i)) (n * poolSize p) := rfl

section
variable (s : State) (m : Sparse CeEng)

theorem State.forEach_withCe {α : Type} {f : α → State → State} (hf : ∀ a u, f a (u.withCe m) = (f a u).withCe m) :
    ∀ (l : List α) (s : State), (s.withCe m).forEach l f = (s.forEach l f).withCe m
  | [], _ => rfl
  | a :: l, s => by
    rw [State.forEach_cons, State.forEach_cons, hf]
    exact forEach_withCe hf l (f a s)

theorem State.scrapOpen_withCe (a n : Nat) : (s.withCe m).scrapOpen a n = (s.scrapOpen a n).withCe m :=
  State.forEach_withCe m (fun _ _ => rfl) _ s

theorem State.giveBuf_withCe (r p i n : Nat) : (s.withCe m).giveBuf r p i n = (s.giveBuf r p i n).withCe m := by
  rw [State.giveBuf_eq, State.giveBuf_eq]
  exact State.scrapOpen_withCe ((s.chargeBuf r p i n).bump Reg.POOL_ALLOCS 1) m _ _

theorem State.tryPools_withCe (r n : Nat) : ∀ ps : List Nat,
    (s.withCe m).tryPools r n ps = ((s.tryPools r n ps).1.withCe m, (s.tryPools r n ps).2)
  | [] => rfl
  | p :: ps => by
    by_cases hq : s.poolQuota r (poolInDram p) < s.regN (heldReg r (poolInDram p)) + n * poolCharge p
    · rw [State.tryPools, State.tryPools, if_pos hq]
      exact if_pos hq
    · rw [State.tryPools, State.tryPools, if_neg hq]
      refine (if_neg hq).trans ?_
      change (match firstFree n (s.poolCount p) 0 (s.poolUsed p) with
        | some i => ((s.withCe m).giveBuf r p i n, stPoolOk, s.poolHandle (p * 2 ^ 21 + i))
        | none => (s.withCe m).tryPools r n ps) = _
      cases firstFree n (s.poolCount p) 0 (s.poolUsed p) with
      | some i => exact congrArg (fun u => (u, _)) (State.giveBuf_withCe s m r p i n)
      | none => exact tryPools_withCe r n ps

theorem State.poolAsk_withCe (r size : Nat) :
    (s.withCe m).poolAsk r size = ((s.poolAsk r size).1.withCe m, (s.poolAsk r size).2) := by
  unfold State.poolAsk
  by_cases hon : (!s.enabled 0x018) = true
  · exact (if_pos hon).trans (by rw [if_pos hon]; rfl)
  refine (if_neg hon).trans ?_
  rw [if_neg hon]
  by_cases hsize : (size == 0 || Nat.blt 0x4000000 size) = true
  · rw [if_pos hsize, if_pos hsize]
  rw [if_neg hsize, if_neg hsize]
  dsimp only
  generalize (if Nat.blt 0x400000 size = true then cdiv size 0x400000 else 1) = n
  cases (if Nat.blt 0x400000 size = true then [7] else (List.range 8).filter fun p => Nat.ble size (poolSize p)) with
  | nil => rfl
  | cons p ps =>
    by_cases hq : s.poolQuota r (poolInDram p) < s.regN (heldReg r (poolInDram p)) + n * poolCharge p
    · exact (if_pos hq).trans (by dsimp only; rw [if_pos hq]; rfl)
    · refine (if_neg hq).trans ?_
      dsimp only
      rw [if_neg hq]
      exact State.tryPools_withCe s m r n (p :: ps)

theorem State.poolReply_withCe (r st h : Nat) : (s.withCe m).poolReply r st h = (s.poolReply r st h).withCe m := by
  rw [State.poolReply, State.poolReply]
  cases windowOf r <;> rfl

theorem State.askApply_withCe (a : PoolAsk) (hs : s.poolShut = false) : (s.withCe m).askApply a = (s.askApply a).withCe m := by
  have hs' : (s.withCe m).poolShut = false := hs
  rw [State.askApply, State.askApply, hs, hs', State.poolAsk_withCe]
  exact State.poolReply_withCe _ m _ _ _

end

/-! ### What the decisions write -/

/-- From `s` to `t` the Cue Engines, the domains and what the end of a word reads are as they were. -/
structure PoolWork (s t : State) : Prop where
  view : CueView s t
  rc : t.rc = s.rc
  ce : t.ce = s.ce

theorem watchedByCe_pool {k : Nat} (h : 0x18040 ≤ k) : watchedByCe k = false := by
  have hlt : Nat.blt k 0xC000 = false := blt_false_of_le (by omega)
  have hlimit : k ≠ Reg.UC_HOOK_LIMIT := by rw [Reg.UC_HOOK_LIMIT]; omega
  have hstat : k ≠ blkStat 0x018 := by
    have : blkStat 0x018 = 0x18010 := rfl
    omega
  simp [watchedByCe, hlt, hlimit, hstat]

namespace PoolWork

variable {s t u : State}

theorem refl (s : State) : PoolWork s s := ⟨CueView.refl s, rfl, rfl⟩

theorem trans (h : PoolWork s t) (k : PoolWork t u) : PoolWork s u := ⟨h.view.trans k.view, k.rc.trans h.rc, k.ce.trans h.ce⟩

theorem setReg (h : PoolWork s t) {k : Nat} (v : Word) (hk : 0x18040 ≤ k) : PoolWork s (t.setReg k v) :=
  h.trans ⟨CueView.setReg v t (watchedByCe_pool hk), rfl, rfl⟩

/-- A change that leaves the registers, the Cue Exchange, the domains and the Cue Engines. -/
theorem keep (h : PoolWork s t) (hregs : u.regs = t.regs) (hcuex : u.cuex = t.cuex) (hrc : u.rc = t.rc) (hce : u.ce = t.ce) :
    PoolWork s u :=
  h.trans ⟨⟨hcuex, by rw [hregs]⟩, hrc, hce⟩

theorem poolShut (h : PoolWork s t) : t.poolShut = s.poolShut := by
  rw [State.poolShut, State.poolShut, State.inReset, State.inReset, State.rbit, State.rbit, h.view.reg rfl, State.domainHeld,
    State.domainHeld, h.rc]

theorem ceEng (h : PoolWork s t) (n : Nat) : t.ceEng n = s.ceEng n := by rw [State.ceEng, State.ceEng, h.ce]

theorem onlyCe (h : PoolWork s t) (n : Nat) : OnlyCe n s t := fun m _ => h.ceEng m

end PoolWork

theorem heldReg_le (r : Nat) (d : Bool) : 0x18040 ≤ heldReg r d := by
  cases d <;> simp only [heldReg, Reg.POOL_HELD_DRAM, Reg.POOL_HELD_PM, if_true, Bool.false_eq_true, if_false] <;> omega

section
variable (s : State)

theorem State.chargeBuf_work (r p i n : Nat) : PoolWork s (s.chargeBuf r p i n) := by
  have hbuf : PoolWork s (s.setPoolBuf (p * 2 ^ 21 + i) { s.poolBuf (p * 2 ^ 21 + i) with count := 1, owner := r, span := n }) :=
    (PoolWork.refl s).keep rfl rfl rfl rfl
  exact ((hbuf.setReg _ (by rw [Reg.POOL_FREE]; omega)).setReg _ (by rw [Reg.POOL_LOW]; omega)).setReg _ (heldReg_le _ _)

theorem State.scrapOpen_work (a n : Nat) : PoolWork s (s.scrapOpen a n) :=
  State.forEach_ind (P := PoolWork s) (f := fun (r : Nat × Nat) s => s.memScrap r.1 r.2) (fun _ _ h => h.keep rfl rfl rfl rfl)
    (PoolWork.refl s)

theorem State.giveBuf_work (r p i n : Nat) : PoolWork s (s.giveBuf r p i n) := by
  rw [State.giveBuf_eq]
  exact ((s.chargeBuf_work r p i n).setReg _ (by decide)).trans (State.scrapOpen_work _ _ _)

theorem State.tryPools_work (r n : Nat) : ∀ ps : List Nat, PoolWork s (s.tryPools r n ps).1
  | [] => (PoolWork.refl s).setReg _ (by decide)
  | p :: ps => by
    rw [State.tryPools]
    split
    · exact (PoolWork.refl s).setReg _ (by decide)
    · split
      · exact s.giveBuf_work r p _ n
      · exact tryPools_work r n ps

theorem State.poolAsk_work (r size : Nat) : PoolWork s (s.poolAsk r size).1 := by
  rw [State.poolAsk]
  split
  · exact (PoolWork.refl s).setReg _ (by decide)
  split
  · exact PoolWork.refl s
  dsimp only
  generalize (if Nat.blt 0x400000 size = true then cdiv size 0x400000 else 1) = n
  cases (if Nat.blt 0x400000 size = true then [7] else (List.range 8).filter fun p => Nat.ble size (poolSize p)) with
  | nil => exact PoolWork.refl s
  | cons p ps =>
    dsimp only
    split
    · exact (PoolWork.refl s).setReg _ (by decide)
    · exact s.tryPools_work r n (p :: ps)

theorem State.poolReply_work (r st h : Nat) : PoolWork s (s.poolReply r st h) := by
  rw [State.poolReply]
  split
  · exact ((PoolWork.refl s).setReg _ (by rw [Reg.POOL_RESULT]; omega)).setReg _ (by rw [Reg.POOL_HANDLE]; omega)
  · exact (PoolWork.refl s).keep rfl rfl rfl rfl

theorem State.askApply_work (a : PoolAsk) (hs : s.poolShut = false) : PoolWork s (s.askApply a) := by
  rw [State.askApply, hs]
  exact (s.poolAsk_work _ _).trans (State.poolReply_work _ _ _ _)

end

/-- The requests of a step decided while the prop room answers. -/
theorem State.decideAsks_work {s : State} (asks : List PoolAsk) (hs : s.poolShut = false) : PoolWork s (s.decideAsks asks) :=
  State.forEach_ind (P := PoolWork s) (fun a u h => h.trans (u.askApply_work a (h.poolShut.trans hs))) (PoolWork.refl s)

theorem State.decideAsks_withCe (m : Sparse CeEng) {s : State} (asks : List PoolAsk) (hs : s.poolShut = false) :
    (s.withCe m).decideAsks asks = (s.decideAsks asks).withCe m := by
  rw [State.decideAsks, State.decideAsks]
  generalize sortBy askOrder asks = l
  induction l generalizing s with
  | nil => rfl
  | cons a l ih =>
    rw [State.forEach_cons, State.forEach_cons, State.askApply_withCe s m a hs]
    exact ih ((s.askApply_work a hs).poolShut.trans hs)

/-- A change of an engine and the requests of a step commute. -/
theorem State.decideAsks_modCe {s : State} (n : Nat) (f : CeEng → CeEng) (asks : List PoolAsk) (hs : s.poolShut = false) :
    (s.modCe n f).decideAsks asks = (s.decideAsks asks).modCe n f := by
  have hwork := State.decideAsks_work asks hs
  have hafter : (s.decideAsks asks).modCe n f =
      (s.decideAsks asks).withCe (Sparse.set (fun _ => CeEng.init) s.ce n (f (s.ceEng n))) := by
    rw [State.modCe, State.setCe, hwork.ce, hwork.ceEng]
    rfl
  rw [hafter]
  exact State.decideAsks_withCe _ asks hs

/-! ### A reference taken from a buffer -/

theorem State.freeBuf_work (s : State) (k : Nat) : PoolWork s (s.freeBuf k) := by
  rw [State.freeBuf]
  refine State.forEach_ind (P := PoolWork s)
    (f := fun j s => s.setPoolBuf j { s.poolBuf j with frees := (s.poolBuf j).frees + 1 }) (fun _ _ h => h.keep rfl rfl rfl rfl) ?_
  exact (((PoolWork.refl s).setReg _ (by rw [Reg.POOL_FREE]; omega)).setReg _ (heldReg_le _ _)).keep rfl rfl rfl rfl

theorem State.poolDrop_work (s : State) (h : Nat) : PoolWork s (s.poolDrop h) := by
  rw [State.poolDrop, State.poolRef]
  split
  · exact PoolWork.refl s
  split
  · exact (PoolWork.refl s).setReg _ (by decide)
  · simp only [Bool.false_eq_true, if_false]
    split
    · exact s.freeBuf_work _
    · exact (PoolWork.refl s).keep rfl rfl rfl rfl

end Sys2Proof.Machine

namespace Sys2Proof.Machine

/-! SUPPORT. The unit words of a Cue Engine (R363, R562 to R565, R585 to R589, R601). -/

section
variable {s u : State} {n op w : Nat} {run : Nat → State → CeResult}

/-- A word whose action is the prop room's work and a change of its engine, which leaves the engine's task. -/
theorem State.ceWord_poolWork (hn : n < 16) (h : CeWordAt s n op w) {f : CeEng → CeEng} (hwork : PoolWork (s.ceCounted n w) u)
    (hrun : run w (s.ceCounted n w) = (u.modCe n f).ceNext n) (hlevel : (f (s.ceEng n)).level = (s.ceEng n).level)
    (hcount : (f (s.ceEng n)).count = (s.ceEng n).count) (hhook : (f (s.ceEng n)).hook = (s.ceEng n).hook) :
    CeAlone n u (s.ceWord n op run) ∧ OnlyCe n s (s.ceWord n op run) ∧
      (s.ceWord n op run).ceEng n = (f (s.ceEng n)).onward w := by
  have hshown := s.ceCounted_shown n w
  have heng : (u.modCe n f).ceEng n = f (s.ceEng n) := by rw [State.modCe_ceEng_same, hwork.ceEng, hshown.regs.ceEng]
  have hview : CueView s (u.modCe n f) := (hshown.view.trans hwork.view).trans ⟨rfl, rfl⟩
  obtain ⟨halone, hend⟩ := State.ceWord_ends hn h.1 hrun
    (CeGoesOn.of_wordAt hn h hview (heng ▸ hlevel) (heng ▸ hcount) (heng ▸ hhook))
  have hmod := (CeAlone.modCe n u f).trans halone
  exact ⟨hmod, ((hshown.regs.onlyCe n).trans (hwork.onlyCe n)).trans hmod.1, by rw [hend, heng]⟩

/-- A word whose action changes neither its engine nor what the end of the word reads. -/
theorem State.ceWord_unmoved (hn : n < 16) (h : CeWordAt s n op w) (hrun : run w (s.ceCounted n w) = u.ceNext n) (hview : CueView s u)
    (heng : u.ceEng n = s.ceEng n) :
    CeAlone n u (s.ceWord n op run) ∧ (s.ceWord n op run).ceEng n = (s.ceEng n).onward w := by
  obtain ⟨halone, hend⟩ := State.ceWord_ends hn h.1 hrun
    (CeGoesOn.of_wordAt hn h hview (congrArg CeEng.level heng) (congrArg CeEng.count heng) (congrArg CeEng.hook heng))
  exact ⟨halone, by rw [hend, heng]⟩

/-! ### The prop room -/

theorem State.poolShut_counted : (s.ceCounted n w).poolShut = s.poolShut := by
  have hshown := s.ceCounted_shown n w
  rw [State.poolShut, State.poolShut, State.inReset, State.inReset, State.rbit, State.rbit, hshown.view.reg rfl, State.domainHeld,
    State.domainHeld, hshown.regs]

/-- PGET's own request between the others of its step. -/
theorem State.cePget_eq (asks : List PoolAsk) (hs : s.poolShut = false) :
    let r := (s.decideAsks (asks.filter fun a => Nat.blt (askOrder a) (pgetOrder n w))).poolAsk n ((s.ceEng n).get (ceGa w))
    State.cePget n asks w s = (((r.1.decideAsks (asks.filter fun a => Nat.ble (pgetOrder n w) (askOrder a))).modCe n fun x =>
      { x with z := r.2.2 == 0 }.set (ceGd w) r.2.2)).ceNext n := by
  intro r
  have hbefore := State.decideAsks_work (asks.filter fun a => Nat.blt (askOrder a) (pgetOrder n w)) hs
  have hopen := hbefore.poolShut.trans hs
  have hask : r.1.poolShut = false := (State.poolAsk_work _ _ _).poolShut.trans hopen
  have hput : ∀ (v : State) (h : Nat), (v.modCe n fun x => { x with z := h == 0 }).cePut n (ceGd w) h =
      v.modCe n fun x => { x with z := h == 0 }.set (ceGd w) h := fun v h => State.modCe_modCe v n _ _
  rw [← State.decideAsks_modCe n _ _ hask]
  simp only [State.cePget, hopen, State.ceGet, hbefore.ceEng, hput]
  rfl

/-! ### Posts to the units -/

theorem fenceCe_notMem_ceRegs (n : Nat) : Reg.UC_FENCE_CE ∉ ceRegs n := by
  simp only [ceRegs, Reg.UC_FENCE_CE, Reg.CE_STATUS, Reg.CE_YIELD_GAP, Reg.CE_DELAY_CLAMPS, List.mem_cons, List.not_mem_nil, or_false]
  omega

theorem CeShown.ceInside {s t : State} (h : CeShown n s t) : t.ceInside n = s.ceInside n := by
  rw [State.ceInside, State.ceInside, State.fenceCe, State.fenceCe, State.fld, State.fld, h.only _ (fenceCe_notMem_ceRegs n),
    h.regs.ceEng]

/-- TALLY, LANE and BAYJOB outside the customer region. -/
theorem State.ceWord_postUnit (hn : n < 16) (h : CeWordAt s n op w) (hin : s.ceInside n = false) (unit : Nat) :
    let t := s.ceWord n op (State.cePostUnit n unit)
    t.ceEng n = (s.ceEng n).onward w ∧
      t.out = .unitReq (512 + n) unit ((s.ceEng n).get (ceGa w)) ((s.ceEng n).get (ceGd w)) :: s.out ∧
      OnlyCe n s t ∧ SameRegs (ceRegs n) s t ∧ t = { s with regs := t.regs, ce := t.ce, out := t.out } := by
  intro t
  have hshown := s.ceCounted_shown n w
  have hrun : State.cePostUnit n unit w (s.ceCounted n w) =
      ((s.ceCounted n w).emit (.unitReq (512 + n) unit ((s.ceEng n).get (ceGa w)) ((s.ceEng n).get (ceGd w)))).ceNext n := by
    rw [State.cePostUnit, hshown.ceInside, hin, State.ceGet, State.ceGet, hshown.regs.ceEng]
    rfl
  obtain ⟨⟨honly, hregs, hframe⟩, hend⟩ := State.ceWord_unmoved hn h hrun (hshown.view.trans ⟨rfl, rfl⟩) (hshown.regs.ceEng n)
  refine ⟨hend, ?_, (hshown.regs.onlyCe n).trans honly, hshown.only.trans hregs, ?_⟩
  · have hout : (s.ceCounted n w).out = s.out := by rw [hshown.regs]
    rw [show t = _ from hframe, ← hout]
    rfl
  · rw [hshown.regs] at hframe
    rw [show t = _ from hframe]
    rfl

/-! ### Check values -/

theorem blkStat_notMem_ceRegs (b n : Nat) : blkStat b ∉ ceRegs n := by
  have : blkStat b = b * 0x1000 + 0x10 := rfl
  simp only [ceRegs, Reg.CE_STATUS, Reg.CE_YIELD_GAP, Reg.CE_DELAY_CLAMPS, List.mem_cons, List.not_mem_nil, or_false]
  omega

theorem CeShown.live {t : State} (h : CeShown n s t) (b : Nat) : t.live b = s.live b := by
  have hstat := h.only _ (blkStat_notMem_ceRegs b n)
  have hrc : t.rc = s.rc := by rw [h.regs]
  rw [State.live, State.live]
  simp only [State.pageHeld, State.domainHeld, hrc, State.inReset, State.rbit, hstat]

theorem State.setCvuQueue_cvuQueue (s : State) (c : Nat) (q : List CvuJob) (d : Nat) :
    (s.setCvuQueue c q).cvuQueue d = if d = c then q else s.cvuQueue d :=
  Sparse.get_set _ _ _ _ _

/-- CVU, where the queue of its channel has room: the job is queued as a Cue Engine's. -/
theorem State.ceCvu_room (hlive : s.live 0x019 = true) {c off : Nat} (hoff : off = (s.ceEng n).get (ceGa w) % 0x800000 / 64 * 64)
    (hc : c = s.memLE (poolBase + off + 2) 1 % 16) (hroom : (s.cvuQueue c).length < 5) :
    State.ceCvu n w s = (s.setCvuQueue c (s.cvuQueue c ++ [CvuJob.mk 2 off])).ceNext n := by
  have hfull : Nat.ble 5 (s.cvuQueue c).length = false := by
    rw [ble_eq_not_blt, Nat.blt_eq.mpr hroom]
    rfl
  rw [State.ceCvu, hlive, State.doIf_true, State.ceGet, ← hoff, State.cvuPost, ← hc, hfull]
  rfl

theorem State.ceWord_cvu (hn : n < 16) (h : CeWordAt s n op w) (hlive : s.live 0x019 = true) {c off : Nat}
    (hoff : off = (s.ceEng n).get (ceGa w) % 0x800000 / 64 * 64) (hc : c = s.memLE (poolBase + off + 2) 1 % 16)
    (hroom : (s.cvuQueue c).length < 5) :
    let t := s.ceWord n op (State.ceCvu n)
    t.ceEng n = (s.ceEng n).onward w ∧ t.cvuQueue c = s.cvuQueue c ++ [CvuJob.mk 2 off] ∧
      (∀ d, d ≠ c → t.cvuQueue d = s.cvuQueue d) ∧ SameMemory s t ∧ OnlyCe n s t ∧
      t = { s with regs := t.regs, ce := t.ce, cvu := t.cvu } := by
  intro t
  have hshown := s.ceCounted_shown n w
  have hlift : ∀ v : State, v = s.ceCounted n w → v.memLE (poolBase + off + 2) 1 = s.memLE (poolBase + off + 2) 1 ∧
      v.cvuQueue c = s.cvuQueue c ∧ v.ceEng n = s.ceEng n := by
    rintro v rfl
    rw [hshown.regs]
    exact ⟨rfl, rfl, rfl⟩
  obtain ⟨hmem, hqueue, heng⟩ := hlift _ rfl
  have hrun := State.ceCvu_room (w := w) ((hshown.live _).trans hlive) (heng ▸ hoff) (hmem ▸ hc) (hqueue ▸ hroom)
  rw [hqueue] at hrun
  have hview : CueView (s.ceCounted n w) ((s.ceCounted n w).setCvuQueue c (s.cvuQueue c ++ [CvuJob.mk 2 off])) :=
    CueView.trans (t := { s.ceCounted n w with cvu := Sparse.set (fun _ => []) (s.ceCounted n w).cvu c _ }) ⟨rfl, rfl⟩
      (CueView.setReg _ _ (watchedByCe_pool (by rw [Reg.CVU_STATUS]; omega)))
  obtain ⟨⟨honly, -, hframe⟩, hend⟩ := State.ceWord_unmoved hn h hrun (hshown.view.trans hview) heng
  have hcvu : t.cvu = Sparse.set (fun _ => []) s.cvu c (s.cvuQueue c ++ [CvuJob.mk 2 off]) := by
    have hcounted : (s.ceCounted n w).cvu = s.cvu := by rw [hshown.regs]
    rw [← hcounted]
    exact congrArg State.cvu hframe
  have hqueues : ∀ d, t.cvuQueue d = if d = c then s.cvuQueue c ++ [CvuJob.mk 2 off] else s.cvuQueue d := fun d => by
    rw [State.cvuQueue, hcvu]
    exact Sparse.get_set _ _ _ _ _
  have hlast : t = { s with regs := t.regs, ce := t.ce, cvu := t.cvu } := by
    rw [hcvu]
    rw [hshown.regs] at hframe
    exact hframe
  refine ⟨hend, by rw [hqueues, if_pos rfl], fun d hd => by rw [hqueues, if_neg hd], ⟨fun a => ?_, fun a => ?_⟩,
    (hshown.regs.onlyCe n).trans honly, hlast⟩
  · rw [hlast]
    rfl
  · rw [hlast]

/-! ### Cues -/

/-- The registers that a cue's becoming pending at a target writes. -/
def pendRegs (t src : Nat) : List Nat := [Reg.CUEX_TGT_PEND t (src / 32), Reg.CUEX_TGT_NEXT t, Reg.CUEX_TGT_STATUS t]

theorem State.cuePend_writes (s : State) (src : Nat) : Writes (pendRegs (s.routeTarget src) src) s (s.cuePend src) :=
  ((Writes.refl _ s).setReg _ List.mem_cons_self).trans ((State.cuexSync_writes _ _).mono (List.subset_cons_self _ _))

theorem State.cuePend_pendingAt (s : State) (src : Nat) :
    (s.cuePend src).pendingAt (s.routeTarget src) src = true := by
  have hne : Reg.CUEX_TGT_PEND (s.routeTarget src) (src / 32) ∉
      [Reg.CUEX_TGT_NEXT (s.routeTarget src), Reg.CUEX_TGT_STATUS (s.routeTarget src)] := by
    simp only [Reg.CUEX_TGT_PEND, Reg.CUEX_TGT_NEXT, Reg.CUEX_TGT_STATUS, List.mem_cons, List.not_mem_nil, or_false]
    omega
  rw [State.pendingAt, State.rbit_eq, State.cuePend, (State.cuexSync_writes _ _).reg hne, State.setRbit_reg, if_pos rfl,
    bit_putBit _ (Nat.mod_lt _ (by decide)), if_pos rfl]

/-- The flags with which a cue is stored (R563, R565). -/
def State.cueFlags (s : State) (src : Nat) (cue : List Byte) : Nat :=
  let old := leAt cue 3 1
  let flags := old / 16 * 16 + old / 2 % 4 * 2
  let flags := flags + b2n (s.cuex.lost.elem src)
  if s.cuex.fresh.elem src && !nbit flags 2 then flags + 4 else flags

/-- A cue as its ring holds it. -/
def State.storedCue (s : State) (src : Nat) (cue : List Byte) : List Byte :=
  cue.take 3 ++ [BitVec.ofNat 8 (s.cueFlags src cue)] ++ cue.drop 4

/-- The state in which BLK_SEQ shows the number of a cue (R776). -/
def State.cueSeqShown (s : State) (src : Nat) (cue : List Byte) : State :=
  match s.seqPage src with
  | some b => s.setRegN (blkSeq b) (leAt cue 4 4)
  | none => s

/-- A cue stored in its ring. -/
def State.cueStore (s : State) (src : Nat) (cue : List Byte) : State :=
  let n := s.ringPosted src
  { (s.pmWrite (s.cueSlot src n) (s.storedCue src cue)).setPosted src (n + 1) with
    cuex := { s.cuex with lost := s.cuex.lost.erase src, fresh := s.cuex.fresh.erase src } }

theorem State.cuePost_room {s : State} {src : Nat} {cue : List Byte} (hlive : s.live 0x008 = true)
    (hgen : leAt cue 1 1 = s.cueGen src) (hroom : (s.cueSeqShown src cue).ringWaiting src ≠ 16) :
    s.cuePost src cue = ((s.cueSeqShown src cue).cueStore src cue).cuePend src := by
  rw [State.cuePost, hlive, hgen, bne_self_eq_false]
  simp only [Bool.not_true, Bool.false_eq_true, if_false]
  change (if ((s.cueSeqShown src cue).ringWaiting src == 16) = true then _ else ((s.cueSeqShown src cue).cueStore src cue).cuePend src) = _
  rw [beq_eq_false_iff_ne.mpr hroom]
  rfl

/-! #### A cue of a Cue Engine -/

/-- The block of a source of a Cue Engine: its page, for the first of its sources (R559, R776). -/
theorem sourceBlock_ce : ∀ k < 256, sourceBlock (512 + k) = if k % 16 = 0 then some (0x180 + k / 16) else none := by
  decide +kernel

theorem State.cueSeqShown_work (s : State) {src : Nat} (hlo : 512 ≤ src) (hhi : src < 768) (cue : List Byte) :
    OnlyRegs s (s.cueSeqShown src cue) ∧ CueView s (s.cueSeqShown src cue) := by
  rw [State.cueSeqShown, State.seqPage, show src = 512 + (src - 512) by omega, sourceBlock_ce _ (by omega)]
  split_ifs
  · dsimp only
    split
    · next b hb =>
      have hpage : 0x180 ≤ b := by
        split at hb
        · rw [← Option.some.inj hb]
          omega
        · exact absurd hb (by simp)
      exact ⟨(OnlyRegs.refl s).setReg _ _, CueView.setReg _ s (watchedByCe_pool (by rw [blkSeq, hdr]; omega))⟩
    · exact ⟨OnlyRegs.refl s, CueView.refl s⟩
  · exact ⟨OnlyRegs.refl s, CueView.refl s⟩

/-- What the Cue Exchange says of a source and of a place of its ring. -/
theorem CueView.source {t : State} (h : CueView s t) {src : Nat} (hsrc : src < 1024) :
    t.cueGen src = s.cueGen src ∧ t.routeTarget src = s.routeTarget src ∧ t.ringPosted src = s.ringPosted src ∧
      t.ringWaiting src = s.ringWaiting src ∧ ∀ i, t.cueSlot src i = s.cueSlot src i := by
  have hroute : t.reg (Reg.CUEX_ROUTE (src / 2)) = s.reg (Reg.CUEX_ROUTE (src / 2)) := h.reg (by
    simp only [watchedByCe, Reg.CUEX_ROUTE, Bool.or_eq_true, Bool.and_eq_true, Nat.ble_eq, Nat.blt_eq]
    omega)
  have hring : t.reg (Reg.CUEX_RING (src / 2)) = s.reg (Reg.CUEX_RING (src / 2)) := h.reg (by
    simp only [watchedByCe, Reg.CUEX_RING, Bool.or_eq_true, Bool.and_eq_true, Nat.ble_eq, Nat.blt_eq]
    omega)
  have hbase : t.reg Reg.CUEX_RING_BASE = s.reg Reg.CUEX_RING_BASE := h.reg rfl
  simp only [State.cueGen, h.1, State.routeTarget, State.route, State.ringWaiting, State.ringPosted, State.ringConsumed, State.cueSlot,
    State.fld_eq, hroute, hring, hbase, implies_true, and_self]

theorem State.storedCue_length {s : State} {src : Nat} {cue : List Byte} (h : cue.length = 32) : (s.storedCue src cue).length = 32 := by
  simp [State.storedCue, h]

/-- Of the bytes of a cue only the flags may differ in its ring. -/
theorem State.storedCue_eraseIdx {s : State} {src : Nat} {cue : List Byte} (h : cue.length = 32) :
    (s.storedCue src cue).eraseIdx 3 = cue.eraseIdx 3 := by
  have htake : (cue.take 3).length = 3 := by rw [List.length_take, h]; rfl
  rw [State.storedCue, List.append_assoc, List.eraseIdx_append_of_length_le (by omega), htake, List.eraseIdx_eq_take_drop_succ,
    List.eraseIdx_eq_take_drop_succ]
  rfl

/-- A cue stored and its source pending: what the ring, its count and the pending bits then say, and what stays. -/
theorem State.cueStored (v : State) {src : Nat} {cue : List Byte} (hsrc : src < 1024) (hcue : cue.length = 32) :
    let u := (v.cueStore src cue).cuePend src
    let slot := v.cueSlot src (v.ringPosted src)
    u.pendingAt (v.routeTarget src) src = true ∧ u.ringPosted src = (v.ringPosted src + 1) % 256 ∧
      (u.pmBytes slot 32).eraseIdx 3 = cue.eraseIdx 3 ∧ SameMemoryOutside (poolBase + slot) 32 v u ∧
      u = { v with regs := u.regs, mem := u.mem, cuex := u.cuex } ∧ u.reg Reg.UC_HOOK_LIMIT = v.reg Reg.UC_HOOK_LIMIT := by
  intro u slot
  have hpend := (v.cueStore src cue).cuePend_writes src
  have hstored : ∀ k, (v.cueStore src cue).reg k = if k = Reg.CUEX_RING (src / 2) then
      putBits (v.reg (Reg.CUEX_RING (src / 2))) (16 * (src % 2) + 7) (16 * (src % 2)) (v.ringPosted src + 1) else v.reg k :=
    fun k => Sparse.get_set _ _ _ _ _
  have htarget : (v.cueStore src cue).routeTarget src = v.routeTarget src := by
    rw [State.routeTarget, State.route, State.fld_eq, hstored, if_neg (by simp only [Reg.CUEX_ROUTE, Reg.CUEX_RING]; omega)]
    rfl
  have hring : Reg.CUEX_RING (src / 2) ∉ pendRegs ((v.cueStore src cue).routeTarget src) src := by
    simp only [pendRegs, Reg.CUEX_RING, Reg.CUEX_TGT_PEND, Reg.CUEX_TGT_NEXT, Reg.CUEX_TGT_STATUS, List.mem_cons, List.not_mem_nil,
      or_false]
    omega
  have hlimit : Reg.UC_HOOK_LIMIT ∉ pendRegs ((v.cueStore src cue).routeTarget src) src := by
    simp only [pendRegs, Reg.UC_HOOK_LIMIT, Reg.CUEX_TGT_PEND, Reg.CUEX_TGT_NEXT, Reg.CUEX_TGT_STATUS, List.mem_cons,
      List.not_mem_nil, or_false]
    omega
  have hframe : u = { v with regs := u.regs, mem := (v.cueStore src cue).mem, cuex := (v.cueStore src cue).cuex } := hpend.regs
  have hmem : ∀ b, u.mem8 b = (v.memWrite (poolBase + slot) (v.storedCue src cue)).mem8 b := fun b => by
    rw [hframe]
    rfl
  have hlength := State.storedCue_length (s := v) (src := src) hcue
  refine ⟨?_, ?_, ?_, fun b hb => ?_, ?_, ?_⟩
  · rw [← htarget]
    exact State.cuePend_pendingAt _ src
  · rw [State.ringPosted, State.fld_eq, hpend.reg hring, hstored, if_pos rfl, bits_putBits_same _ (by omega) (by omega),
      Nat.add_sub_cancel_left]
    rfl
  · have hbytes : u.pmBytes slot 32 = v.storedCue src cue := by
      rw [← hlength]
      refine State.memBytes_of_mem8 fun i hi => ?_
      rw [hmem, State.memWrite_mem8, dif_pos ⟨Nat.le_add_right _ _, Nat.add_lt_add_left hi _⟩]
      congr 1
      omega
    rw [hbytes, State.storedCue_eraseIdx hcue]
  · rw [hmem, State.memWrite_mem8, dif_neg (by omega)]
  · rw [hframe]
  · rw [hpend.reg hlimit, hstored, if_neg (by simp only [Reg.CUEX_RING, Reg.UC_HOOK_LIMIT]; omega)]

/-- A cue of a Cue Engine posted, where its generation is current and its ring has room. -/
theorem State.cuePost_stored {v : State} (hregs : OnlyRegs s v) (hview : CueView s v) (hlive : v.live 0x008 = true) {src : Nat}
    {cue : List Byte} (hlo : 512 ≤ src) (hhi : src < 768) (hcue : cue.length = 32) (hgen : leAt cue 1 1 = s.cueGen src)
    (hroom : s.ringWaiting src ≠ 16) :
    let u := v.cuePost src cue
    let slot := s.cueSlot src (s.ringPosted src)
    u.pendingAt (s.routeTarget src) src = true ∧ u.ringPosted src = (s.ringPosted src + 1) % 256 ∧
      (u.pmBytes slot 32).eraseIdx 3 = cue.eraseIdx 3 ∧ SameMemoryOutside (poolBase + slot) 32 s u ∧
      u = { s with regs := u.regs, mem := u.mem, cuex := u.cuex } ∧ u.fld Reg.UC_HOOK_LIMIT 15 0 = s.fld Reg.UC_HOOK_LIMIT 15 0 := by
  intro u slot
  obtain ⟨hseq, hseqView⟩ := v.cueSeqShown_work hlo hhi cue
  have hregs' : OnlyRegs s (v.cueSeqShown src cue) := hregs.trans hseq
  have hview' := hview.trans hseqView
  obtain ⟨-, htarget, hposted, hwaiting, hslot⟩ := hview'.source (src := src) (by omega)
  have hpost : u = ((v.cueSeqShown src cue).cueStore src cue).cuePend src :=
    State.cuePost_room hlive (hgen.trans (hview.source (by omega)).1.symm) (hwaiting ▸ hroom)
  obtain ⟨hpend, hcount, hbytes, hmem, hframe, hlimit⟩ := (v.cueSeqShown src cue).cueStored (src := src) (by omega) hcue
  rw [← hpost, htarget] at hpend
  rw [← hpost, hposted] at hcount
  rw [← hpost, hposted, hslot] at hbytes hmem
  rw [← hpost] at hframe hlimit
  refine ⟨hpend, hcount, hbytes, fun b hb => (hmem b hb).trans ?_, ?_, ?_⟩
  · rw [hregs']
    rfl
  · rw [hregs'] at hframe
    exact hframe
  · rw [State.fld_eq, hlimit, ← State.fld_eq, hview'.hookLimit]

/-- The pages below those of the Cue Engines hold no register of an engine. -/
theorem CeAlone.lowReg {t : State} (h : CeAlone n u t) {k : Nat} (hk : k < 0x180000) : t.reg k = u.reg k :=
  h.reg (by
    simp only [ceRegs, Reg.CE_STATUS, Reg.CE_YIELD_GAP, Reg.CE_DELAY_CLAMPS, List.mem_cons, List.not_mem_nil, or_false]
    omega)

/-- CUE outside the customer region, with room in the ring of its source. -/
theorem State.ceWord_cue (hn : n < 16) (h : CeWordAt s n op w) (hy : ceY w = false) (hin : s.ceInside n = false) {src : Nat}
    {cue : List Byte} (hcue : s.pmBytes ((s.ceEng n).get (ceGa w)) 32 = cue) (hsrc : src = 512 + 16 * n + leAt cue 2 1 % 16)
    (hlive : s.live 0x008 = true) (hgen : leAt cue 1 1 = s.cueGen src) (hroom : s.ringWaiting src ≠ 16) :
    let t := s.ceWord n op (State.ceCue n)
    t.ceEng n = (s.ceEng n).onward w ∧ t.pendingAt (s.routeTarget src) src = true ∧
      t.ringPosted src = (s.ringPosted src + 1) % 256 ∧
      (t.pmBytes (s.cueSlot src (s.ringPosted src)) 32).eraseIdx 3 = cue.eraseIdx 3 ∧
      SameMemoryOutside (poolBase + s.cueSlot src (s.ringPosted src)) 32 s t ∧ OnlyCe n s t ∧
      t = { s with regs := t.regs, ce := t.ce, mem := t.mem, cuex := t.cuex } := by
  intro t
  have hlen : cue.length = 32 := by rw [← hcue]; exact getRange_length _ _ _ _
  have hshown := s.ceCounted_shown n w
  have hrun : State.ceCue n w (s.ceCounted n w) = ((s.ceCounted n w).cuePost src cue).ceNext n := by
    have hread : (s.ceCounted n w).pmBytes ((s.ceEng n).get (ceGa w)) 32 = cue := by
      rw [hshown.regs]
      exact hcue
    rw [State.ceCue, hshown.ceInside, hin, State.ceGet, hshown.regs.ceEng, hread, hsrc]
    rfl
  have hpost := State.cuePost_stored hshown.regs hshown.view ((hshown.live _).trans hlive) (by omega) (by omega) hlen hgen hroom
  generalize (s.ceCounted n w).cuePost src cue = u at hpost hrun
  obtain ⟨hpend, hcount, hbytes, hmem, hframe, hlimit⟩ := hpost
  have heng : ∀ m, u.ceEng m = s.ceEng m := fun m => by
    rw [hframe]
    rfl
  have hgo : CeGoesOn n w (s.ceEng n) u := by
    obtain ⟨⟨-, hruns, -, -, -, -, hbelow⟩, hroom⟩ := h
    rw [State.ceRuns, Bool.and_eq_true, Bool.and_eq_true, bne_iff_ne] at hruns
    rw [hy] at hroom
    exact ⟨by rw [heng], by rw [heng], by rw [heng], hruns.1.2, fun c hc => hlimit ▸ hbelow c hc, by rw [hy]; exact hroom⟩
  obtain ⟨halone, hend⟩ := State.ceWord_ends hn h.1 hrun hgo
  obtain ⟨honly, -, hlast⟩ := id halone
  have hmemt : t.mem = u.mem := (congrArg State.mem hlast).trans rfl
  have hscrap : t.scrap = u.scrap := (congrArg State.scrap hlast).trans rfl
  refine ⟨hend.trans (by rw [heng]), ?_, ?_, ?_, fun b hb => ?_, fun m hm => (honly m hm).trans (heng m), ?_⟩
  · have hreg : t.reg (Reg.CUEX_TGT_PEND (s.routeTarget src) (src / 32)) = u.reg (Reg.CUEX_TGT_PEND (s.routeTarget src) (src / 32)) :=
      halone.lowReg (by rw [Reg.CUEX_TGT_PEND, State.routeTarget]; omega)
    rw [State.pendingAt, State.rbit_eq, hreg]
    exact hpend
  · have hreg : t.reg (Reg.CUEX_RING (src / 2)) = u.reg (Reg.CUEX_RING (src / 2)) := halone.lowReg (by rw [Reg.CUEX_RING]; omega)
    rw [State.ringPosted, State.fld_eq, hreg]
    exact hcount
  · rw [State.pmBytes, State.memBytes, hmemt, hscrap]
    exact hbytes
  · rw [State.mem8, hmemt, hscrap]
    exact hmem b hb
  · have hcuex : t.cuex = u.cuex := (congrArg State.cuex hlast).trans rfl
    rw [hframe] at hlast
    rw [hmemt, hcuex]
    exact hlast

end

/-- Settles O18: what each unit's operation leaves, under the end of a word that goes on in its task. That PGET sets or clears
Z, and that TALLY, LANE and BAYJOB only record their request, are the model's choices (log entries 12 and 61). -/
theorem cueEngineUnits : Obligations.CueEngineUnits := by
  unfold Obligations.CueEngineUnits
  refine ⟨?_, ?_, ?_, ?_, ?_, ?_, ?_⟩
  · rintro n w src cue s h ⟨hy, hin⟩ hcue hsrc ⟨hlive, hgen, hroom⟩
    exact ⟨_, rfl, State.ceWord_cue n.isLt h hy hin hcue hsrc hlive hgen hroom⟩
  · intro n w asks s h hs r u
    have hs' : (s.ceCounted n.val w).poolShut = false := State.poolShut_counted.trans hs
    have hshown := s.ceCounted_shown n.val w
    have hbefore := State.decideAsks_work (asks.filter fun a => Nat.blt (askOrder a) (pgetOrder n.val w)) hs'
    have hask := hbefore.trans (State.poolAsk_work _ n.val ((s.ceEng n.val).get (ceGa w)))
    have hwork : PoolWork (s.ceCounted n.val w) u :=
      hask.trans (State.decideAsks_work (asks.filter fun a => Nat.ble (pgetOrder n.val w) (askOrder a)) (hask.poolShut.trans hs'))
    have hrun := State.cePget_eq (n := n.val) (w := w) asks hs'
    rw [hshown.regs.ceEng] at hrun
    obtain ⟨⟨-, hregs, hframe⟩, honly, hend⟩ := State.ceWord_poolWork n.isLt h hwork hrun (CeEng.set_level _ _ _)
      (CeEng.set_count _ _ _) (CeEng.set_hook _ _ _)
    exact ⟨_, rfl, hend, (congrArg State.pool hframe).trans rfl, honly, hregs, hframe⟩
  · intro n w s h hs r
    have hshown := s.ceCounted_shown n.val w
    have hwork : PoolWork (s.ceCounted n.val w) r := State.poolDrop_work _ _
    have heng : r.ceEng n.val = s.ceEng n.val := (hwork.ceEng _).trans (hshown.regs.ceEng _)
    have hrun : State.cePput n.val w (s.ceCounted n.val w) = r.ceNext n.val := by
      rw [State.cePput, State.poolShut_counted, hs, State.ceGet, hshown.regs.ceEng]
      rfl
    obtain ⟨⟨honly, hregs, hframe⟩, hend⟩ := State.ceWord_unmoved n.isLt h hrun (hshown.view.trans hwork.view) heng
    exact ⟨_, rfl, hend, (congrArg State.pool hframe).trans rfl, ((hshown.regs.onlyCe _).trans (hwork.onlyCe _)).trans honly, hregs, hframe⟩
  · exact fun n w s h hin => ⟨_, rfl, State.ceWord_postUnit n.isLt h hin 0⟩
  · exact fun n w s h hin => ⟨_, rfl, State.ceWord_postUnit n.isLt h hin 1⟩
  · exact fun n w s h hin => ⟨_, rfl, State.ceWord_postUnit n.isLt h hin 2⟩
  · rintro n w c off s h hlive ⟨hoff, hc⟩ hroom
    exact ⟨_, rfl, State.ceWord_cvu n.isLt h hlive hoff hc hroom⟩

end Sys2Proof.Machine

namespace Sys2Proof.Machine

/-! SUPPORT. The stores of microcode: a store reloaded and its engine back in service, a word scrubbed or read (R324, R351, R393 to R396,
R400). -/

/-! ### Words of a store -/

/-- The words of a store have the keys from `ucKey k i 0` on, 2^13 of them. -/
theorem ucKey_div {a : Nat} (ha : a < 2 ^ 13) (k i : Nat) : ucKey k i a / 2 ^ 13 = ucKey k i 0 / 2 ^ 13 := by
  rw [ucKey, ucKey]
  omega

theorem ucWords_le (k : Nat) : ucWords k ≤ 2 ^ 13 := by
  rw [ucWords]
  rcases k with _ | _ | _ | k
  all_goals simp

theorem State.ucRead_ucReload (s : State) (k i : Nat) {a : Nat} (ha : a < 2 ^ 13) :
    (s.ucReload k i).ucRead k i a = ucStored k (s.ucCommon k a) := by
  have hget := Sparse.get_filter (fun _ => none) (fun key => !(key / 2 ^ 13 == ucKey k i 0 / 2 ^ 13)) s.stores.own (ucKey k i a)
  rw [ucKey_div ha, beq_self_eq_true] at hget
  rw [State.ucRead, State.ucReload]
  dsimp only
  rw [hget]
  rfl

theorem State.ucRead_congr {s t : State} (h : t.stores = s.stores) (k i a : Nat) : t.ucRead k i a = s.ucRead k i a := by
  rw [State.ucRead, State.ucRead, State.ucCommon, State.ucCommon, State.ucMap, State.ucMap, h]

theorem State.ucCommon_congr {s t : State} (h : t.stores = s.stores) (k a : Nat) : t.ucCommon k a = s.ucCommon k a := by
  rw [State.ucCommon, State.ucCommon, State.ucMap, State.ucMap, h]

/-! ### Back in service -/

/-- From `s` to `t` only the listed registers, bays and Pixel Engines may differ. -/
structure InstWork (ks : List Nat) (s t : State) : Prop where
  only : SameRegs ks s t
  frame : t = { s with regs := t.regs, bays := t.bays, px := t.px }

namespace InstWork

variable {ks ls : List Nat} {s t u : State}

theorem refl (ks : List Nat) (s : State) : InstWork ks s s := ⟨SameRegs.refl ks s, rfl⟩

theorem trans (h : InstWork ks s t) (k : InstWork ks t u) : InstWork ks s u := by
  refine ⟨h.only.trans k.only, ?_⟩
  have hk := k.frame
  rw [h.frame] at hk
  exact hk

theorem mono (h : InstWork ks s t) (hs : ks ⊆ ls) : InstWork ls s t := ⟨h.only.mono hs, h.frame⟩

theorem of_writes (h : Writes ks s t) : InstWork ks s t := ⟨h.only, by rw [h.regs]⟩

theorem setReg (h : InstWork ks s t) {k : Nat} (v : Word) (hk : k ∈ ks) : InstWork ks s (t.setReg k v) :=
  h.trans (of_writes ((Writes.refl ks t).setReg v hk))

theorem modBay (h : InstWork ks s t) (b : Nat) (f : Bay → Bay) : InstWork ks s (t.modBay b f) := h.trans ⟨fun _ _ => rfl, rfl⟩

theorem modPx (h : InstWork ks s t) (n : Nat) (f : Px → Px) : InstWork ks s (t.modPx n f) := h.trans ⟨fun _ _ => rfl, rfl⟩

theorem doIf (h : InstWork ks s t) (b : Bool) {f : State → State} (hf : InstWork ks s (f t)) : InstWork ks s (t.doIf b f) :=
  State.doIf_ind h hf

theorem stores (h : InstWork ks s t) : t.stores = s.stores := by rw [h.frame]

end InstWork

/-- The registers that show whether a bay and its engines serve. -/
def serveRegs (b : Nat) : List Nat := Reg.BAY_STATUS b :: (enginesOf b).map Reg.PX_STATUS

theorem mem_enginesOf {b n : Nat} : n ∈ enginesOf b ↔ n / 8 = b := by
  simp only [enginesOf, rangeFrom, List.mem_map, List.mem_range]
  constructor
  · rintro ⟨j, hj, rfl⟩
    omega
  · rintro rfl
    exact ⟨n % 8, by omega, by omega⟩

theorem State.servePx_writes (s : State) {b n : Nat} (hn : n ∈ enginesOf b) : Writes (serveRegs b) s (s.servePx n) := by
  have hpx : Reg.PX_STATUS n ∈ serveRegs b := List.mem_cons_of_mem _ (List.mem_map_of_mem hn)
  have hbay : Reg.BAY_STATUS (n / 8) ∈ serveRegs b := by
    rw [mem_enginesOf.mp hn]
    exact List.mem_cons_self
  exact (((((Writes.refl _ s).setReg _ hpx).setReg _ hpx).setReg _ hpx).setReg _ hpx).setReg _ hbay

theorem State.serveBay_writes (s : State) (b : Nat) : Writes (serveRegs b) s (s.serveBay b) :=
  State.forEach_mem_ind (fun _ hn u h => h.trans (u.servePx_writes hn)) (Writes.refl _ s)

/-- What the return of a bay to service changes beside registers: whether the bay is out. -/
theorem State.bayReturn_work (s : State) (b : Nat) :
    InstWork (serveRegs b) s (s.bayReturn b) ∧ (s.bayReturn b).px = s.px ∧
      ∀ c, ((s.bayReturn b).bay c).reloading = (s.bay c).reloading := by
  have hserve : ∀ u : State, InstWork (serveRegs b) s u → u.px = s.px → (∀ c, (u.bay c).reloading = (s.bay c).reloading) →
      InstWork (serveRegs b) s (u.serveBay b) ∧ (u.serveBay b).px = s.px ∧
        ∀ c, ((u.serveBay b).bay c).reloading = (s.bay c).reloading := fun u hwork hpx hbay => by
    have hwrites := u.serveBay_writes b
    refine ⟨hwork.trans (.of_writes hwrites), ?_, fun c => ?_⟩
    · rw [hwrites.regs]
      exact hpx
    · rw [hwrites.regs.bay]
      exact hbay c
  rw [State.bayReturn, State.doIf]
  split
  · refine hserve ((s.modBay b fun x => { x with out := false }).setRbit (Reg.BAY_STATUS b) 16 true)
      (((InstWork.refl _ s).modBay b _).setReg _ List.mem_cons_self) (by rw [State.setRbit_px, State.modBay_px]) fun c => ?_
    rw [State.bay, State.setRbit_bays, ← State.bay, State.modBay_bay]
    split
    · next h => rw [h]
    · rfl
  · exact hserve s (.refl _ s) rfl fun _ => rfl

/-- The registers of the instances of a bay. -/
def bayRegs (b : Nat) : List Nat := Reg.BAY_STATUS b :: (enginesOf b).flatMap fun n => [Reg.PX_STATUS n, Reg.PX_RELOADS n]

theorem instRegs_pixel (n : Nat) : instRegs 0 n = bayRegs (n / 8) := rfl

theorem instRegs_nano (b : Nat) : instRegs 1 b = bayRegs b := rfl

theorem serveRegs_subset (b : Nat) : serveRegs b ⊆ bayRegs b := by
  refine List.cons_subset_cons _ fun k hk => ?_
  obtain ⟨n, hn, rfl⟩ := List.mem_map.mp hk
  exact List.mem_flatMap.mpr ⟨n, hn, List.mem_cons_self⟩

theorem reloads_mem_bayRegs {b n : Nat} (hn : n ∈ enginesOf b) : Reg.PX_RELOADS n ∈ bayRegs b :=
  List.mem_cons_of_mem _ (List.mem_flatMap.mpr ⟨n, hn, List.mem_cons_of_mem _ List.mem_cons_self⟩)

theorem State.pxLoaded_work (s : State) (n : Nat) (ok : Bool) :
    InstWork (bayRegs (n / 8)) s (s.pxLoaded n ok) ∧ ((s.pxLoaded n ok).pxEng n).reloading = false := by
  have hmod := (InstWork.refl (bayRegs (n / 8)) s).modPx n fun x => { x with down := !ok, reloading := false }
  obtain ⟨hwork, hpx, -⟩ := (s.modPx n fun x => { x with down := !ok, reloading := false }).bayReturn_work (n / 8)
  have hback := hmod.trans (hwork.mono (serveRegs_subset _))
  have hcount : Writes [Reg.PX_RELOADS n] ((s.modPx n fun x => { x with down := !ok, reloading := false }).bayReturn (n / 8))
      (s.pxLoaded n ok) := (Writes.refl _ _).bumpIf ok 1 List.mem_cons_self
  refine ⟨hback.trans (.of_writes (hcount.mono ?_)), ?_⟩
  · exact List.cons_subset.mpr ⟨reloads_mem_bayRegs (mem_enginesOf.mpr rfl), List.nil_subset _⟩
  · rw [hcount.regs.pxEng, State.pxEng, hpx]
    change ((s.modPx n fun x => { x with down := !ok, reloading := false }).pxEng n).reloading = false
    rw [State.modPx_pxEng, if_pos rfl]

theorem State.bayLoaded_work (s : State) (b : Nat) (ok : Bool) :
    InstWork (bayRegs b) s (s.bayLoaded b ok) ∧ ((s.bayLoaded b ok).bay b).reloading = false := by
  have hmod := (InstWork.refl (bayRegs b) s).modBay b fun x => { x with nano := !ok, reloading := false }
  obtain ⟨hwork, -, hbay⟩ := (s.modBay b fun x => { x with nano := !ok, reloading := false }).bayReturn_work b
  have hback := hmod.trans (hwork.mono (serveRegs_subset _))
  have hcount : Writes (bayRegs b) ((s.modBay b fun x => { x with nano := !ok, reloading := false }).bayReturn b) (s.bayLoaded b ok) := by
    rw [State.bayLoaded]
    exact (Writes.refl _ _).doIf ok (State.forEach_mem_ind (fun _ hn _ h => h.bumpIf _ 1 (reloads_mem_bayRegs hn)) (Writes.refl _ _))
  refine ⟨hback.trans (.of_writes hcount), ?_⟩
  rw [hcount.regs.bay, hbay, State.modBay_bay, if_pos rfl]

/-! #### A Cue Engine -/

/-- A Cue Engine in service again, before the Cue Exchange looks at it. -/
def State.ceServed (s : State) (n : Nat) : State :=
  (((s.setRbit (Reg.CE_STATUS n) 0 true).setRbit (Reg.CE_STATUS n) 1 false).setRbit (Reg.CE_STATUS n) 6 true).bump (Reg.CE_RELOADS n) 1

theorem State.ceLoaded_true (s : State) (n : Nat) :
    s.ceLoaded n true = ((s.setRbit (Reg.CE_STATUS n) 2 false).ceServed n).cuexSync n := rfl

theorem State.ceServed_writes (s : State) (n : Nat) : Writes (instRegs 2 n) s (s.ceServed n) := by
  have hstatus : Reg.CE_STATUS n ∈ instRegs 2 n := List.mem_cons_self
  exact ((((Writes.refl _ s).setReg _ hstatus).setReg _ hstatus).setReg _ hstatus).setReg _ (List.mem_cons_of_mem _ List.mem_cons_self)

theorem State.ceLoaded_writes (s : State) (n : Nat) (ok : Bool) : Writes (instRegs 2 n) s (s.ceLoaded n ok) := by
  have hstatus : Reg.CE_STATUS n ∈ instRegs 2 n := List.mem_cons_self
  have hended := (Writes.refl (instRegs 2 n) s).setReg (putBit (s.reg (Reg.CE_STATUS n)) 2 false) hstatus
  cases ok with
  | false => exact hended
  | true =>
    rw [State.ceLoaded_true]
    exact (hended.trans (State.ceServed_writes _ n)).trans ((State.cuexSync_writes _ n).mono
      (List.subset_cons_of_subset _ (List.subset_cons_of_subset _ (List.Subset.refl _))))

/-- The bits of CE_STATUS and the count that a reload leaves. -/
theorem State.ceLoaded_status (s : State) {n : Nat} (hn : n < 16) (ok : Bool) :
    (s.ceLoaded n ok).rbit (Reg.CE_STATUS n) 2 = false ∧
      (ok = true → (s.ceLoaded n ok).rbit (Reg.CE_STATUS n) 0 = true ∧ (s.ceLoaded n ok).rbit (Reg.CE_STATUS n) 1 = false ∧
        (s.ceLoaded n ok).reg (Reg.CE_RELOADS n) = sat32 (s.regN (Reg.CE_RELOADS n) + 1)) := by
  have hne : Reg.CE_STATUS n ≠ Reg.CE_RELOADS n := by simp only [Reg.CE_STATUS, Reg.CE_RELOADS]; omega
  have hstatus : Reg.CE_STATUS n ∉ [Reg.CUEX_TGT_NEXT n, Reg.CUEX_TGT_STATUS n] := by
    simp only [Reg.CE_STATUS, Reg.CUEX_TGT_NEXT, Reg.CUEX_TGT_STATUS, List.mem_cons, List.not_mem_nil, or_false]
    omega
  have hreloads : Reg.CE_RELOADS n ∉ [Reg.CUEX_TGT_NEXT n, Reg.CUEX_TGT_STATUS n] := by
    simp only [Reg.CE_RELOADS, Reg.CUEX_TGT_NEXT, Reg.CUEX_TGT_STATUS, List.mem_cons, List.not_mem_nil, or_false]
    omega
  cases ok with
  | false =>
    refine ⟨?_, fun h => absurd h (by decide)⟩
    change ((s.setRbit (Reg.CE_STATUS n) 2 false).rbit (Reg.CE_STATUS n) 2) = false
    rw [State.rbit_eq, State.setRbit_reg, if_pos rfl, bit_putBit _ (by decide), if_pos rfl]
  | true =>
    have hsync := State.cuexSync_writes ((s.setRbit (Reg.CE_STATUS n) 2 false).ceServed n) n
    rw [State.ceLoaded_true]
    simp only [State.rbit_eq, hsync.reg hstatus, hsync.reg hreloads]
    have h (m : Nat) : bit (((s.setRbit (Reg.CE_STATUS n) 2 false).ceServed n).reg (Reg.CE_STATUS n)) m =
        if m = 6 then true else if m = 1 then false else if m = 0 then true else if m = 2 then false else bit (s.reg (Reg.CE_STATUS n)) m := by
      simp only [State.ceServed, State.bump_reg, State.setRbit_reg, if_neg hne, if_true, bit_putBit _ (show 6 < 32 by decide),
        bit_putBit _ (show 1 < 32 by decide), bit_putBit _ (show 0 < 32 by decide), bit_putBit _ (show 2 < 32 by decide)]
    refine ⟨h 2, fun _ => ⟨h 0, h 1, ?_⟩⟩
    simp only [State.ceServed, State.bump_reg, State.regN_eq, State.setRbit_reg, if_neg hne.symm, if_true]

/-! ### A reload -/

/-- An engine or bay in service again once its store has been reloaded, or out of service when it could not be. -/
def State.loaded (s : State) (k i : Nat) (ok : Bool) : State :=
  if k == 0 then s.pxLoaded i ok else if k == 1 then s.bayLoaded i ok else s.ceLoaded i ok

theorem State.storeBack_eq (s : State) (k i : Nat) (errs : List (Fin 6)) :
    s.storeBack k i errs = (s.loadStore k i errs).1.loaded k i (s.loadStore k i errs).2 := rfl

theorem State.loaded_work (s : State) {k i : Nat} (hk : k < 3) (hi : i < ucInstances k) (ok : Bool) :
    InstWork (instRegs k i) s (s.loaded k i ok) ∧ (s.loaded k i ok).reloadable k i = false := by
  obtain rfl | rfl | rfl : k = 0 ∨ k = 1 ∨ k = 2 := by omega
  · obtain ⟨hwork, hended⟩ := s.pxLoaded_work i ok
    exact ⟨hwork, by rw [State.reloadable, show s.loaded 0 i ok = s.pxLoaded i ok from rfl, hended]; rfl⟩
  · obtain ⟨hwork, hended⟩ := s.bayLoaded_work i ok
    exact ⟨hwork, by rw [State.reloadable, show s.loaded 1 i ok = s.bayLoaded i ok from rfl, hended]; rfl⟩
  · refine ⟨.of_writes (s.ceLoaded_writes i ok), ?_⟩
    rw [State.reloadable, show s.loaded 2 i ok = s.ceLoaded i ok from rfl, (s.ceLoaded_status hi ok).1]
    rfl

/-- A store whose words are again those every store of its kind holds, in service. -/
theorem State.ucReload_loaded {s : State} {k i : Nat} (hk : k < 3) (hi : i < ucInstances k) :
    let t := (s.ucReload k i).loaded k i true
    (∀ a ∈ List.range (ucWords k), t.ucRead k i a = ucStored k (s.ucCommon k a)) ∧ t.reloadable k i = false ∧
      SameRegs (instRegs k i) s t ∧ t = { s with regs := t.regs, stores := t.stores, bays := t.bays, px := t.px } := by
  intro t
  obtain ⟨hwork, hended⟩ := (s.ucReload k i).loaded_work hk hi true
  have hstores : t.stores = (s.ucReload k i).stores := hwork.stores
  refine ⟨fun a ha => ?_, hended, hwork.only, ?_⟩
  · rw [State.ucRead_congr hstores, State.ucRead_ucReload s k i (lt_of_lt_of_le (List.mem_range.mp ha) (ucWords_le k))]
  · rw [hstores]
    exact hwork.frame

/-- The words of a store after a reload whose copy failed its check (R394). -/
theorem State.storeBack_bad {s : State} {k i : Nat} (hk : k < 3) (hi : i < ucInstances k) (hbad : s.copyGood k = false)
    (errs : List (Fin 6)) :
    let t := s.storeBack k i errs
    (∀ a ∈ List.range (ucWords k), t.ucRead k i a =
      if s.rebuilds k i errs = true then ucStored k (s.ucCommon k a) else s.ucRead k i a) ∧
    t.reloadable k i = false ∧
    SameRegs (instRegs k i ++ faultRegs FaultKind.UCODE_COPY_BAD ++ faultRegs FaultKind.UCODE_RELOAD_FAILED) s t ∧
    t = { s with regs := t.regs, mem := t.mem, fc := t.fc, bays := t.bays, px := t.px, stores := t.stores, out := t.out } := by
  intro t
  have ht : t = s.storeBack k i errs := rfl
  have hcopy := s.raise_sameRegs (storeSource k i) FaultKind.UCODE_COPY_BAD (checkAddr 3 k 0)
  have hframe := s.raise_frame (storeSource k i) FaultKind.UCODE_COPY_BAD (checkAddr 3 k 0)
  by_cases hre : s.rebuilds k i errs = true
  · have hload : s.loadStore k i errs = (((s.raise (storeSource k i) FaultKind.UCODE_COPY_BAD (checkAddr 3 k 0)).memWrite
        ((s.raise (storeSource k i) FaultKind.UCODE_COPY_BAD (checkAddr 3 k 0)).copyBase + copyOffset k)
        ((s.raise (storeSource k i) FaultKind.UCODE_COPY_BAD (checkAddr 3 k 0)).rebuiltCopy k errs)).ucReload k i, true) := by
      rw [State.loadStore, hbad]
      exact if_pos hre
    rw [State.storeBack_eq, hload] at ht
    generalize s.raise (storeSource k i) FaultKind.UCODE_COPY_BAD (checkAddr 3 k 0) = r at hcopy hframe ht
    obtain ⟨hwords, hended, hregs, hlast⟩ := State.ucReload_loaded (s := r.memWrite (r.copyBase + copyOffset k) (r.rebuiltCopy k errs))
      hk hi
    have hstores : r.stores = s.stores := by rw [hframe]
    have hmemWrite : SameRegs (instRegs k i) r (r.memWrite (r.copyBase + copyOffset k) (r.rebuiltCopy k errs)) := fun _ _ => rfl
    rw [← ht] at hwords hended hregs hlast
    refine ⟨fun a ha => ?_, hended, ?_, ?_⟩
    · rw [if_pos hre, hwords a ha]
      exact congrArg _ (State.ucCommon_congr hstores k a)
    · exact (hcopy.mono fun _ hm => List.mem_append_left _ (List.mem_append_right _ hm)).trans
        ((hmemWrite.trans hregs).mono fun _ hm => List.mem_append_left _ (List.mem_append_left _ hm))
    · rw [hlast, hframe]
      rfl
  · have hload : s.loadStore k i errs = ((s.raise (storeSource k i) FaultKind.UCODE_COPY_BAD (checkAddr 3 k 0)).raise (storeSource k i)
        FaultKind.UCODE_RELOAD_FAILED
        (checkAddr k i ((s.raise (storeSource k i) FaultKind.UCODE_COPY_BAD (checkAddr 3 k 0)).checkedWord k i)), false) := by
      rw [State.loadStore, hbad]
      exact if_neg hre
    rw [State.storeBack_eq, hload] at ht
    generalize s.raise (storeSource k i) FaultKind.UCODE_COPY_BAD (checkAddr 3 k 0) = r at hcopy hframe ht
    have hfail := r.raise_sameRegs (storeSource k i) FaultKind.UCODE_RELOAD_FAILED (checkAddr k i (r.checkedWord k i))
    have hframe' := r.raise_frame (storeSource k i) FaultKind.UCODE_RELOAD_FAILED (checkAddr k i (r.checkedWord k i))
    dsimp only at ht
    generalize r.raise (storeSource k i) FaultKind.UCODE_RELOAD_FAILED (checkAddr k i (r.checkedWord k i)) = v at hfail hframe' ht
    obtain ⟨⟨hregs, hlast⟩, hended⟩ := v.loaded_work hk hi false
    rw [← ht] at hregs hlast hended
    refine ⟨fun a _ => ?_, hended, ?_, ?_⟩
    · rw [if_neg hre]
      refine State.ucRead_congr ?_ k i a
      rw [hlast, hframe', hframe]
    · exact ((hcopy.mono fun _ hm => List.mem_append_left _ (List.mem_append_right _ hm)).trans
        (hfail.mono fun _ hm => List.mem_append_right _ hm)).trans
        (hregs.mono fun _ hm => List.mem_append_left _ (List.mem_append_left _ hm))
    · rw [hlast, hframe', hframe]

theorem execStoreReload_of_reloadable {k : Fin 3} {i : Fin 96} {s : State} (hheld : s.domainHeld 5 = false)
    (hi : i.val < ucInstances k.val) (hr : s.reloadable k.val i.val = true) (errs : List (Fin 6)) :
    exec (.storeReload k i errs) s = .next (s.storeBack k.val i.val errs) := by
  change Host.Outcome.next (s.doIf (!s.domainHeld 5 && i.val < ucInstances k.val && s.reloadable k.val i.val) _) = _
  rw [hheld, hr, decide_eq_true hi]
  rfl

theorem State.storeBack_good {s : State} {k : Nat} (hgood : s.copyGood k = true) (i : Nat) (errs : List (Fin 6)) :
    s.storeBack k i errs = (s.ucReload k i).loaded k i true := by
  rw [State.storeBack_eq, State.loadStore, if_pos hgood]

/-! ### A word scrubbed, a word read -/

theorem State.ucRead_ucRepair (s : State) (k i a : Nat) : (s.ucRepair k i a).ucRead k i a = ucStored k (s.copyWord k a) := by
  rw [State.ucRead, State.ucRepair]
  dsimp only
  rw [Sparse.get_set, if_pos rfl]
  split
  · next h => exact (beq_iff_eq.mp h).symm
  · rfl

theorem execScrubRead_of_free {k : Fin 3} {i : Fin 96} {a : BitVec 13} {s : State} (hheld : s.domainHeld 5 = false)
    (hi : i.val < ucInstances k.val ∧ a.toNat < ucWords k.val) (served : Bool) :
    exec (.scrubRead k i a served) s = .next (s.scrubRead k.val i.val a.toNat served) := by
  change Host.Outcome.next (s.doIf (!s.domainHeld 5) fun s =>
    if i.val < ucInstances k.val && a.toNat < ucWords k.val then s.scrubRead k.val i.val a.toNat served else s) = _
  rw [hheld, decide_eq_true hi.1, decide_eq_true hi.2]
  rfl

theorem scrubFixes_notMem_faultRegs : Reg.UC_SCRUB_FIXES ∉ faultRegs FaultKind.UCODE_SCRUB := by decide

/-- The scrubber at a word of wrong parity. -/
theorem State.scrubRead_bad {s : State} {k i a : Nat} (h : ucGood k (s.ucRead k i a) = false) :
    let t := s.scrubRead k i a false
    t.ucRead k i a = ucStored k (s.copyWord k a) ∧ t.reg Reg.UC_SCRUB_FIXES = sat32 (s.regN Reg.UC_SCRUB_FIXES + 1) ∧
      SameRegs (Reg.UC_SCRUB_FIXES :: faultRegs FaultKind.UCODE_SCRUB) s t ∧
      t = { s with regs := t.regs, stores := t.stores, fc := t.fc } := by
  have hfix : s.scrubRead k i a false =
      ((s.ucRepair k i a).raise (storeSource k i) FaultKind.UCODE_SCRUB (checkAddr k i a)).bump Reg.UC_SCRUB_FIXES 1 := by
    rw [State.scrubRead, h]
    rfl
  have hregs := (s.ucRepair k i a).raise_sameRegs (storeSource k i) FaultKind.UCODE_SCRUB (checkAddr k i a)
  have hframe := (s.ucRepair k i a).raise_frame (storeSource k i) FaultKind.UCODE_SCRUB (checkAddr k i a)
  intro t
  rw [show t = _ from hfix]
  generalize (s.ucRepair k i a).raise (storeSource k i) FaultKind.UCODE_SCRUB (checkAddr k i a) = r at hregs hframe
  have hstores : (r.bump Reg.UC_SCRUB_FIXES 1).stores = (s.ucRepair k i a).stores := by
    rw [State.bump_stores, hframe]
  refine ⟨?_, ?_, fun j hj => ?_, ?_⟩
  · rw [State.ucRead_congr hstores, State.ucRead_ucRepair]
  · rw [State.bump_reg, if_pos rfl, State.regN_eq, hregs _ scrubFixes_notMem_faultRegs]
    rfl
  · rw [List.mem_cons, not_or] at hj
    rw [State.bump_reg, if_neg hj.1, hregs j hj.2]
    rfl
  · rw [hframe]
    rfl

/-- The status of a debug read: the word is there, and whether its parity is wrong. -/
theorem ucStat_bits (good : Bool) {x : Nat} (hx : x % 4 = 0) :
    bit (BitVec.ofNat 32 (1 + 2 * b2n (!good) + x)) 0 = true ∧ bit (BitVec.ofNat 32 (1 + 2 * b2n (!good) + x)) 1 = !good := by
  cases good
  all_goals
    simp only [bit, BitVec.toNat_ofNat, b2n, Bool.not_true, Bool.not_false, if_true, Bool.false_eq_true, if_false, beq_iff_eq,
      beq_eq_false_iff_ne]
    omega

theorem State.ceDebugRead_word (s : State) (n : Nat) (v : Word) :
    let t := s.ceDebugRead n v
    t.regN (Reg.CE_UC_DATA n) = ucData 2 (s.ucRead 2 n (bits v 11 0)) ∧ t.rbit (Reg.CE_UC_STAT n) 0 = true ∧
      t.rbit (Reg.CE_UC_STAT n) 1 = (!ucGood 2 (s.ucRead 2 n (bits v 11 0))) ∧
      Writes [Reg.CE_UC_ADDR n, Reg.CE_UC_DATA n, Reg.CE_UC_STAT n] s t := by
  intro t
  have hdata : t.reg (Reg.CE_UC_DATA n) = BitVec.ofNat 32 (ucData 2 (s.ucRead 2 n (bits v 11 0))) := by
    have hne : Reg.CE_UC_DATA n ≠ Reg.CE_UC_STAT n := by simp only [Reg.CE_UC_DATA, Reg.CE_UC_STAT]; omega
    simp only [t, State.ceDebugRead, State.setRegN_reg, if_neg hne, if_true]
  have hstat : t.reg (Reg.CE_UC_STAT n) = BitVec.ofNat 32 (1 + 2 * b2n (!ucGood 2 (s.ucRead 2 n (bits v 11 0))) +
      4 * (s.ucRead 2 n (bits v 11 0) / 2 ^ 32 % 2)) := by
    simp only [t, State.ceDebugRead, State.setRegN_reg, if_true]
  obtain ⟨hthere, hbad⟩ := ucStat_bits (ucGood 2 (s.ucRead 2 n (bits v 11 0))) (Nat.mul_mod_right 4 (s.ucRead 2 n (bits v 11 0) / 2 ^ 32 % 2))
  refine ⟨?_, ?_, ?_, ?_⟩
  · rw [State.regN_eq, hdata, BitVec.toNat_ofNat]
    exact Nat.mod_eq_of_lt (Nat.mod_lt _ (Nat.two_pow_pos 32))
  · rw [State.rbit_eq, hstat, hthere]
  · rw [State.rbit_eq, hstat, hbad]
  · exact (((Writes.refl _ s).setReg _ (by simp)).setReg _ (by simp)).setReg _ (by simp)

/-- The registers of a debug read of a Pixel Engine. -/
def pxDebugRegs (n : Nat) : List Nat := [Reg.PX_UC_ADDR n, Reg.PX_UC_STAT n] ++ (List.range 8).map (Reg.PX_UC_DATA n)

theorem PX_UC_DATA_injective (n : Nat) : Function.Injective (Reg.PX_UC_DATA n) := fun i j h => by
  simp only [Reg.PX_UC_DATA] at h
  omega

/-- A word of kind `k` shown to a debug read, its STATUS from bit 2 on as `x` gives it. -/
def State.pxWordShown (s : State) (n addr k w x : Nat) : State :=
  let s := s.setRegN (Reg.PX_UC_ADDR n) addr
  let s := s.forEach (List.range 8) fun j s => s.setRegN (Reg.PX_UC_DATA n j) (ucData k w / 2 ^ (32 * j))
  s.setRegN (Reg.PX_UC_STAT n) (1 + 2 * b2n (!ucGood k w) + x)

theorem State.pxWordShown_word (s : State) (n addr k w : Nat) {x : Nat} (hx : x % 4 = 0) :
    let t := s.pxWordShown n addr k w x
    (∀ j < 8, t.regN (Reg.PX_UC_DATA n j) = ucData k w / 2 ^ (32 * j) % 2 ^ 32) ∧ t.rbit (Reg.PX_UC_STAT n) 0 = true ∧
      t.rbit (Reg.PX_UC_STAT n) 1 = (!ucGood k w) ∧ Writes (pxDebugRegs n) s t := by
  intro t
  obtain ⟨hthere, hbad⟩ := ucStat_bits (ucGood k w) hx
  have hstat : t.reg (Reg.PX_UC_STAT n) = BitVec.ofNat 32 (1 + 2 * b2n (!ucGood k w) + x) := by
    simp only [t, State.pxWordShown, State.setRegN_reg, if_true]
  have hdataMem : ∀ j ∈ List.range 8, Reg.PX_UC_DATA n j ∈ pxDebugRegs n := fun j hj =>
    List.mem_append_right _ (List.mem_map_of_mem hj)
  refine ⟨fun j hj => ?_, by rw [State.rbit_eq, hstat, hthere], by rw [State.rbit_eq, hstat, hbad], ?_⟩
  · have hne : Reg.PX_UC_DATA n j ≠ Reg.PX_UC_STAT n := by simp only [Reg.PX_UC_DATA, Reg.PX_UC_STAT]; omega
    have hval := (State.forEach_setRegN (v := fun j => ucData k w / 2 ^ (32 * j)) (PX_UC_DATA_injective n) (List.range 8)
      (s.setRegN (Reg.PX_UC_ADDR n) addr)).1 j (List.mem_range.mpr hj)
    rw [State.regN_eq, show t.reg _ = _ from State.setRegN_reg _ _ _ _, if_neg hne, hval, BitVec.toNat_ofNat]
  · exact Writes.setReg (State.forEach_mem_ind (fun j hj u h => h.setReg _ (hdataMem j hj))
      ((Writes.refl _ s).setReg _ List.mem_cons_self)) _ (List.mem_cons_of_mem _ List.mem_cons_self)

theorem State.pxDebugRead_micro (s : State) (n : Nat) {v : Word} (h : bit v 16 = false) :
    s.pxDebugRead n v = s.pxWordShown n (bits v 12 0 + 65536 * b2n false) 0 (s.ucRead 0 n (bits v 12 0))
      (256 * (s.ucRead 0 n (bits v 12 0) / 2 ^ ucWidth 0 % 2)) := by
  rw [State.pxDebugRead, h]
  rfl

theorem State.pxDebugRead_nano (s : State) (n : Nat) {v : Word} (h : bit v 16 = true) :
    s.pxDebugRead n v = s.pxWordShown n (bits v 12 0 + 65536 * b2n true) 1 (s.ucRead 1 (n / 8) (bits v 11 0))
      (16 * (s.ucRead 1 (n / 8) (bits v 11 0) / 2 ^ ucWidth 1 % 16)) := by
  rw [State.pxDebugRead, h]
  rfl

theorem execUcDebugRead_ce (n : Fin 16) {v : Word} {s : State} (hl : s.live (0x180 + n.val) = true) :
    exec (.ucDebugRead true (Fin.ofNat 96 n.val) v) s = .next (s.ceDebugRead n.val v) := by
  have hval : (Fin.ofNat 96 n.val).val = n.val := Nat.mod_eq_of_lt (by omega)
  change Host.Outcome.next (if (Fin.ofNat 96 n.val).val < 16 then
    s.ifWritten (0x180 + (Fin.ofNat 96 n.val).val) (Reg.CE_UC_ADDR (Fin.ofNat 96 n.val).val) v
      fun s => s.ceDebugRead (Fin.ofNat 96 n.val).val v else s) = _
  rw [hval, if_pos n.isLt, State.ifWritten_of _ _ _ _ _ hl]

theorem execUcDebugRead_px {n : Fin 96} {v : Word} {s : State} (hl : s.live (0x100 + n.val) = true) :
    exec (.ucDebugRead false n v) s = .next (s.pxDebugRead n.val v) := by
  change Host.Outcome.next (s.ifWritten (0x100 + n.val) (Reg.PX_UC_ADDR n.val) v fun s => s.pxDebugRead n.val v) = _
  rw [State.ifWritten_of _ _ _ _ _ hl]

/-- Settles O14, from what the return of an engine or bay to service changes, and from the walk that shows a word. That the good
copy holds the words every store of its kind holds, and when a reload is under way, are the model's choices (log entry 74). -/
theorem microcodeStores : Obligations.MicrocodeStores := by
  unfold Obligations.MicrocodeStores
  refine ⟨?_, ?_, ?_, ?_, ?_, ?_, ?_, ?_, ?_⟩
  · intro k i errs s hheld hi hr hgood
    refine ⟨_, execStoreReload_of_reloadable hheld hi hr errs, ?_⟩
    rw [State.storeBack_good hgood]
    exact State.ucReload_loaded k.isLt hi
  · intro i errs s hheld hr hgood
    have hval : (Fin.ofNat 96 i.val).val = i.val := Nat.mod_eq_of_lt (by omega)
    have hi : (Fin.ofNat 96 i.val).val < ucInstances 2 := by rw [hval]; exact i.isLt
    refine ⟨s.storeBack 2 (Fin.ofNat 96 i.val).val errs,
      execStoreReload_of_reloadable (k := 2) hheld hi (by rw [hval]; exact hr) errs, ?_⟩
    rw [hval, State.storeBack_good hgood]
    have hstatus := ((s.ucReload 2 i.val).ceLoaded_status i.isLt true).2 rfl
    exact ⟨hstatus.1, hstatus.2.1, hstatus.2.2, ((s.ucReload 2 i.val).ceLoaded_writes i.val true).only⟩
  · intro k i errs s hheld hi hr hbad
    exact ⟨_, execStoreReload_of_reloadable hheld hi hr errs, State.storeBack_bad k.isLt hi hbad errs⟩
  · intro k i errs s hr
    change Host.Outcome.next (s.doIf (!s.domainHeld 5 && i.val < ucInstances k.val && s.reloadable k.val i.val) _) = _
    rw [hr, Bool.and_false]
    rfl
  · intro k i a s hheld hi hbad
    exact ⟨_, execScrubRead_of_free hheld hi false, State.scrubRead_bad hbad⟩
  · intro k i a served s hheld hi hgood
    have hpass : (served || ucGood k.val (s.ucRead k.val i.val a.toNat)) = true := Bool.or_eq_true_iff.mpr hgood
    rw [execScrubRead_of_free hheld hi served, State.scrubRead, if_pos hpass]
  · intro n v s hl
    obtain ⟨hdata, hthere, hbad, hwrites⟩ := s.ceDebugRead_word n.val v
    exact ⟨_, execUcDebugRead_ce n hl, hdata, hthere, hbad, hwrites.only, hwrites.regs⟩
  · intro n v s hl hv
    obtain ⟨hdata, hthere, hbad, hwrites⟩ := s.pxWordShown_word n.val (bits v 12 0 + 65536 * b2n false) 0 (s.ucRead 0 n.val (bits v 12 0))
      (x := 256 * (s.ucRead 0 n.val (bits v 12 0) / 2 ^ ucWidth 0 % 2)) (by omega)
    refine ⟨_, execUcDebugRead_px hl, ?_⟩
    rw [s.pxDebugRead_micro n.val hv]
    refine ⟨(hdata 0 (by decide)).trans ?_, hthere, hbad, hwrites.only, hwrites.regs⟩
    rw [Nat.mul_zero, Nat.pow_zero, Nat.div_one]
    exact Nat.mod_eq_of_lt (lt_of_lt_of_le (Nat.mod_lt _ (Nat.two_pow_pos _)) (by decide))
  · intro n v s hl hv
    obtain ⟨hdata, hthere, hbad, hwrites⟩ := s.pxWordShown_word n.val (bits v 12 0 + 65536 * b2n true) 1
      (s.ucRead 1 (n.val / 8) (bits v 11 0)) (x := 16 * (s.ucRead 1 (n.val / 8) (bits v 11 0) / 2 ^ ucWidth 1 % 16)) (by omega)
    refine ⟨_, execUcDebugRead_px hl, ?_⟩
    rw [s.pxDebugRead_nano n.val hv]
    exact ⟨(hdata 0 (by decide)).trans (by rw [Nat.mul_zero, Nat.pow_zero, Nat.div_one]), hdata 7 (by decide), hthere, hbad,
      hwrites.only, hwrites.regs⟩

end Sys2Proof.Machine

namespace Sys2Proof.Machine

/-! SUPPORT. What follows a word of a Pixel Engine that goes on at an address: the engine itself, and all else as it was (R353,
R355, R374). -/

/-! ### Engines and registers, each left alone by a change of the other -/

theorem OnlyPx.refl (n : Nat) (s : State) : OnlyPx n s s := fun _ _ => rfl

theorem OnlyPx.trans {n : Nat} {s t u : State} (h : OnlyPx n s t) (k : OnlyPx n t u) : OnlyPx n s u :=
  fun m hm => (k m hm).trans (h m hm)

theorem State.modPx_onlyPx (s : State) (n : Nat) (f : Px → Px) : OnlyPx n s (s.modPx n f) := fun m hm => by
  rw [State.modPx_pxEng, if_neg hm]

@[simp] theorem State.modPx_pxEng_same (s : State) (n : Nat) (f : Px → Px) : (s.modPx n f).pxEng n = f (s.pxEng n) := by
  rw [State.modPx_pxEng, if_pos rfl]

@[simp] theorem State.showPx_pxEng (s : State) (n m : Nat) : (s.showPx n).pxEng m = s.pxEng m := (s.showPx_onlyRegs n).pxEng m

/-- A word whose only effects are on its engine. -/
structure PxAlone (n : Nat) (s t : State) : Prop where
  only : OnlyPx n s t
  regs : SameRegs (pxRegs n) s t
  frame : t = { s with regs := t.regs, px := t.px }

namespace PxAlone

variable {n : Nat} {s t u : State}

theorem refl (n : Nat) (s : State) : PxAlone n s s := ⟨OnlyPx.refl n s, SameRegs.refl _ s, rfl⟩

theorem trans (h : PxAlone n s t) (k : PxAlone n t u) : PxAlone n s u := by
  have kframe := k.frame
  rw [h.frame] at kframe
  exact ⟨h.only.trans k.only, h.regs.trans k.regs, kframe⟩

theorem modPx (h : PxAlone n s t) (f : Px → Px) : PxAlone n s (t.modPx n f) :=
  h.trans ⟨t.modPx_onlyPx n f, fun _ _ => rfl, rfl⟩

theorem setReg (h : PxAlone n s t) {k : Nat} (v : Word) (hk : k ∈ pxRegs n) : PxAlone n s (t.setReg k v) :=
  h.trans ⟨fun _ _ => rfl, fun j hj => by rw [State.setReg_reg, if_neg (by rintro rfl; exact hj hk)], rfl⟩

theorem doIf (h : PxAlone n s t) (b : Bool) {f : State → State} (hf : PxAlone n s (f t)) : PxAlone n s (t.doIf b f) :=
  State.doIf_ind h hf

theorem showPx (h : PxAlone n s t) : PxAlone n s (t.showPx n) :=
  (h.setReg _ List.mem_cons_self).setReg _ List.mem_cons_self

theorem pxGo (h : PxAlone n s t) (tgt : Nat) : PxAlone n s (t.pxGo n tgt) := (h.modPx _).showPx

/-- The fence is not a register of an engine. -/
theorem fencePx (h : PxAlone n s t) : t.fencePx = s.fencePx := by
  have hnot : Reg.UC_FENCE_PX ∉ pxRegs n := by
    simp only [pxRegs, Reg.UC_FENCE_PX, Reg.PX_STATUS, Reg.PX_STEPS, Reg.PX_DELAY_CLAMPS, List.mem_cons, List.not_mem_nil, or_false]
    omega
  rw [State.fencePx, State.fencePx, State.fld_eq, State.fld_eq, h.regs _ hnot]

end PxAlone

/-! ### A word counted, and on to an address -/

/-- An engine after one more step. -/
def Px.stepped (x : Px) : Px := { x with steps := (x.steps + 1) % 65536 }

/-- An engine's steps advanced, before a length below the floor is counted. -/
def State.stepPx (s : State) (n k : Nat) : State :=
  (s.modPx n fun x => { x with steps := ((s.pxEng n).steps + k) % 65536 }).bump (Reg.PX_STEPS n) (((s.pxEng n).steps + k) / 65536)

theorem State.stepPx_alone (s : State) (n k : Nat) : PxAlone n s (s.stepPx n k) :=
  ((PxAlone.refl n s).modPx _).setReg _ (List.mem_cons_of_mem _ List.mem_cons_self)

theorem State.countSteps_eq (s : State) (n k floor sel : Nat) : s.countSteps n k floor sel =
    (s.stepPx n k).doIf (Nat.blt (sel + 1) floor) fun s => s.bump (Reg.PX_DELAY_CLAMPS n) k := rfl

/-- A clamped step counted in a register (R353, R399). -/
theorem PxAlone.clamp {n : Nat} {s t : State} (h : PxAlone n s t) (b : Bool) (k : Nat) :
    PxAlone n s (t.doIf b fun s => s.bump (Reg.PX_DELAY_CLAMPS n) k) :=
  h.doIf b (h.setReg _ (List.mem_cons_of_mem _ (List.mem_cons_of_mem _ List.mem_cons_self)))

theorem State.clamp_pxEng (s : State) (n : Nat) (b : Bool) (k m : Nat) :
    (s.doIf b fun s => s.bump (Reg.PX_DELAY_CLAMPS n) k).pxEng m = s.pxEng m :=
  State.doIf_ind (P := fun t : State => t.pxEng m = s.pxEng m) rfl rfl

theorem State.countSteps_alone (s : State) (n k floor sel : Nat) : PxAlone n s (s.countSteps n k floor sel) :=
  (s.stepPx_alone n k).clamp _ k

theorem State.countSteps_one_pxEng (s : State) (n floor sel : Nat) : (s.countSteps n 1 floor sel).pxEng n = (s.pxEng n).stepped := by
  rw [State.countSteps_eq, State.clamp_pxEng]
  exact State.modPx_pxEng_same s n fun x => { x with steps := ((s.pxEng n).steps + 1) % 65536 }

/-- The state in which a word of one step does its work. -/
def State.pxCounted (s : State) (n w : Nat) : State := s.countSteps n 1 1 (nbits w 19 16)

theorem State.pxCounted_pxEng (s : State) (n w : Nat) : (s.pxCounted n w).pxEng n = (s.pxEng n).stepped :=
  s.countSteps_one_pxEng n _ _

theorem State.pxCounted_alone (s : State) (n w : Nat) : PxAlone n s (s.pxCounted n w) := s.countSteps_alone n _ _ _

theorem State.pxWord_nano {n w : Nat} {s : State} (h : PxWordAt s n 0 w) (run : Nat → State → State) :
    s.pxWord n 0 run = run w (s.countSteps n (nbits w 15 12 + 1) 1 (nbits w 19 16)) := by
  obtain ⟨hruns, hgood, hw, hlegal, hclass⟩ := h
  simp only [State.pxWord, hruns, hgood, hw, hlegal, hclass, Bool.not_true, Bool.false_eq_true, if_false, bne_self_eq_false,
    beq_self_eq_true, if_true]

theorem State.pxWord_of {n c w : Nat} {s : State} (h : PxWordAt s n c w) (hc : c ≠ 0) (run : Nat → State → State) :
    s.pxWord n c run = run w (s.pxCounted n w) := by
  obtain ⟨hruns, hgood, hw, hlegal, hclass⟩ := h
  simp only [State.pxWord, hruns, hgood, hw, hlegal, hclass, Bool.not_true, Bool.false_eq_true, if_false, bne_self_eq_false,
    beq_eq_false_iff_ne.mpr hc, State.pxCounted]

/-- An engine that goes on at an address, with the first customer word at `fence`. -/
def Px.goTo (fence tgt : Nat) (x : Px) : Px :=
  { x with
    pc := tgt, cust := if fence ≤ tgt then some (x.cust.getD x.stack) else none
    custEntry := if fence ≤ tgt ∧ x.cust = none then tgt else x.custEntry }

theorem State.pxOn_eq (s : State) (tgt : Nat) (x : Px) : s.pxOn tgt x = x.stepped.goTo s.fencePx tgt := rfl

theorem State.pxGo_pxEng (s : State) (n tgt : Nat) : (s.pxGo n tgt).pxEng n = (s.pxEng n).goTo s.fencePx tgt := by
  rw [State.pxGo, State.showPx_pxEng, State.modPx_pxEng_same, Px.goTo]
  by_cases hf : s.fencePx ≤ tgt
  · cases hc : (s.pxEng n).cust <;> simp [hf]
  · simp [hf]

section
variable {n tgt : Nat} {s u : State} {x : Px}

/-- An engine that has done its word's work goes on at an address. -/
theorem PxAlone.goes (h : PxAlone n s u) (hx : u.pxEng n = x.stepped) (tgt : Nat) :
    (u.pxGo n tgt).pxEng n = s.pxOn tgt x ∧ PxAlone n s (u.pxGo n tgt) :=
  ⟨by rw [State.pxGo_pxEng, hx, h.fencePx, State.pxOn_eq], h.pxGo tgt⟩

theorem PxAlone.goesNext (h : PxAlone n s u) (hx : u.pxEng n = x.stepped) :
    (u.pxNext n).pxEng n = s.pxOn ((x.pc + 1) % 8192) x ∧ PxAlone n s (u.pxNext n) := by
  rw [State.pxNext, hx]
  exact h.goes hx _

/-- The fence's test of a branch (R374), where the fence lets the branch pass. -/
theorem PxMay.unfenced (h : PxAlone n s u) (hx : u.pxEng n = x.stepped) (hmay : PxMay s x tgt) :
    ((u.pxEng n).cust.isSome && Nat.blt tgt u.fencePx && !(Nat.ble 0x1800 (u.pxEng n).pc && Nat.ble (u.pxEng n).pc 0x181F)) =
      false := by
  rw [hx, h.fencePx, Px.stepped]
  rcases hmay with hc | hf | ⟨hlo, hhi⟩
  · rw [hc]
    rfl
  · rw [blt_false_of_le hf, Bool.and_false, Bool.false_and]
  · rw [Nat.ble_eq.mpr hlo, Nat.ble_eq.mpr hhi, Bool.and_true, Bool.not_true, Bool.and_false]

theorem PxAlone.branches (h : PxAlone n s u) (hx : u.pxEng n = x.stepped) (hmay : PxMay s x tgt) :
    (u.pxBranch n tgt).pxEng n = s.pxOn tgt x ∧ PxAlone n s (u.pxBranch n tgt) := by
  have hgo : u.pxBranch n tgt = u.pxGo n tgt := if_neg (by rw [PxMay.unfenced h hx hmay]; exact Bool.false_ne_true)
  rw [hgo]
  exact h.goes hx tgt

end

end Sys2Proof.Machine

namespace Sys2Proof.Machine

/-! SUPPORT. The microwords of a Pixel Engine, and the nanowords in which one unit acts (R355 to R361). -/

/-! ### Microwords -/

/-- The loop count one lower, modulo 2^16. -/
def Px.loopDown (x : Px) : Px := { x with lc := (x.lc + 65535) % 65536 }

section
variable {n w : Nat} {s : State}

/-- A word that changes its engine by `f`, which leaves the count of steps alone, and goes on at the next word. -/
theorem State.pxWord_modNext {c : Nat} {run : Nat → State → State} {f : Px → Px} (h : PxWordAt s n c w) (hc : c ≠ 0)
    (hrun : run w (s.pxCounted n w) = ((s.pxCounted n w).modPx n f).pxNext n)
    (hf : f (s.pxEng n).stepped = (f (s.pxEng n)).stepped) (hpc : (f (s.pxEng n)).pc = (s.pxEng n).pc) :
    (s.pxWord n c run).pxEng n = s.pxOn (((s.pxEng n).pc + 1) % 8192) (f (s.pxEng n)) ∧ PxAlone n s (s.pxWord n c run) := by
  rw [State.pxWord_of h hc, hrun, ← hpc]
  exact ((s.pxCounted_alone n w).modPx f).goesNext (by rw [State.modPx_pxEng_same, State.pxCounted_pxEng, hf])

theorem State.pxCounted_cond (s : State) (n w k : Nat) : ((s.pxCounted n w).pxEng n).cond k = (s.pxEng n).cond k := by
  rw [State.pxCounted_pxEng]
  rfl

theorem State.pxJump_goes (hmay : PxMay s (s.pxEng n) (nbits w 12 0)) :
    let t := if ((s.pxCounted n w).pxEng n).cond (nbits w 15 13) then (s.pxCounted n w).pxBranch n (nbits w 12 0)
      else (s.pxCounted n w).pxNext n
    t.pxEng n = s.pxOn (if (s.pxEng n).cond (nbits w 15 13) then nbits w 12 0 else ((s.pxEng n).pc + 1) % 8192) (s.pxEng n) ∧
      PxAlone n s t := by
  have halone := s.pxCounted_alone n w
  have heng := s.pxCounted_pxEng n w
  rw [State.pxCounted_cond]
  by_cases hc : (s.pxEng n).cond (nbits w 15 13) = true
  · simp only [hc, if_true]
    exact halone.branches heng hmay
  · simp only [hc]
    exact halone.goesNext heng

theorem State.pxCall_goes (hmay : PxMay s (s.pxEng n) (nbits w 12 0)) (hroom : (s.pxEng n).stack.length < 4)
    (hc : (s.pxEng n).cond (nbits w 15 13) = true) :
    ((s.pxCounted n w).pxCall n w).pxEng n =
      s.pxOn (nbits w 12 0) { s.pxEng n with stack := ((s.pxEng n).pc + 1) % 8192 :: (s.pxEng n).stack } ∧
    PxAlone n s ((s.pxCounted n w).pxCall n w) := by
  have halone := s.pxCounted_alone n w
  have heng := s.pxCounted_pxEng n w
  have hfull : Nat.ble 4 ((s.pxCounted n w).pxEng n).stack.length = false := by
    rw [heng]
    exact Bool.eq_false_iff.mpr fun hb => Nat.not_le.mpr hroom (Nat.ble_eq.mp hb)
  have hcall : (s.pxCounted n w).pxCall n w = ((s.pxCounted n w).modPx n fun x =>
      { x with stack := (x.pc + 1) % 8192 :: x.stack }).pxGo n (nbits w 12 0) := by
    simp only [State.pxCall, State.pxCounted_cond, hc, hfull, PxMay.unfenced halone heng hmay, Bool.not_true, Bool.false_eq_true,
      if_false]
  rw [hcall]
  exact (halone.modPx _).goes (by rw [State.modPx_pxEng_same, heng]; rfl) _

theorem State.pxLoopback_eq (s : State) (n w : Nat) : s.pxLoopback n w =
    if ((s.modPx n Px.loopDown).pxEng n).lc == 0 then (s.modPx n Px.loopDown).pxNext n
    else (s.modPx n Px.loopDown).pxBranch n (nbits w 12 0) := rfl

theorem Px.stepped_lc (x : Px) : x.stepped.lc = x.lc := rfl

theorem Px.loopDown_stepped (x : Px) : x.stepped.loopDown = x.loopDown.stepped := by
  cases x
  rfl

theorem Px.loopDown_pc (x : Px) : x.loopDown.pc = x.pc := by simp only [Px.loopDown]

theorem Px.loopDown_cust (x : Px) : x.loopDown.cust = x.cust := by simp only [Px.loopDown]

theorem State.pxLoopback_goes (hmay : PxMay s (s.pxEng n) (nbits w 12 0)) :
    ((s.pxCounted n w).pxLoopback n w).pxEng n =
      s.pxOn (if (s.pxEng n).loopDown.lc = 0 then ((s.pxEng n).pc + 1) % 8192 else nbits w 12 0) (s.pxEng n).loopDown ∧
    PxAlone n s ((s.pxCounted n w).pxLoopback n w) := by
  have halone := (s.pxCounted_alone n w).modPx Px.loopDown
  have heng : ((s.pxCounted n w).modPx n Px.loopDown).pxEng n = (s.pxEng n).loopDown.stepped := by
    rw [State.modPx_pxEng_same, State.pxCounted_pxEng, Px.loopDown_stepped]
  rw [State.pxLoopback_eq, heng, Px.stepped_lc]
  by_cases hl : (s.pxEng n).loopDown.lc = 0
  · simp only [hl, beq_self_eq_true, if_true]
    rw [← Px.loopDown_pc]
    exact halone.goesNext heng
  · simp only [beq_eq_false_iff_ne.mpr hl, if_neg hl, Bool.false_eq_true, if_false]
    refine halone.branches heng ?_
    rw [PxMay, Px.loopDown_pc, Px.loopDown_cust]
    exact hmay

theorem State.pxReturn_goes {r : Nat} {rest : List Nat} (hstack : (s.pxEng n).stack = r :: rest) :
    ((s.pxCounted n w).pxReturn n).pxEng n = s.pxOn r { s.pxEng n with stack := rest } ∧
    PxAlone n s ((s.pxCounted n w).pxReturn n) := by
  have hret : (s.pxCounted n w).pxReturn n = ((s.pxCounted n w).modPx n fun x => { x with stack := rest }).pxGo n r := by
    rw [State.pxReturn, State.pxCounted_pxEng, Px.stepped, hstack]
  rw [hret]
  exact ((s.pxCounted_alone n w).modPx _).goes (by rw [State.modPx_pxEng_same, State.pxCounted_pxEng]; rfl) r

/-- An engine that waits for those of the named events that have not occurred (R355). -/
def Px.waitFor (named : Nat) (x : Px) : Px :=
  { x with
    wait := if named &&& (15 - x.seen % 16) == 0 then none else some (named &&& (15 - x.seen % 16))
    seen := x.seen &&& (15 - named) }

theorem Px.waitFor_eq (named : Nat) (x : Px) : x.waitFor named =
    { x with
      wait := if named &&& (15 - x.seen % 16) = 0 then none else some (named &&& (15 - x.seen % 16))
      seen := x.seen &&& (15 - named) } := by
  simp only [Px.waitFor, beq_iff_eq]

theorem State.modPx_congr {f g : Px → Px} (h : f (s.pxEng n) = g (s.pxEng n)) : s.modPx n f = s.modPx n g := by
  rw [State.modPx, h, State.modPx]

/-! ### The end of a work item -/

/-- An engine without a work item (R355). -/
def Px.idled (x : Px) : Px := { x with item := none, wait := none, cust := none, stack := [] }

/-- The row jobs of a bay without the CTUs on one of its engines. -/
def Bay.left (e : Nat) (x : Bay) : Bay := { x with jobs := x.jobs.map fun j => { j with on := j.on.filter fun p => p.1 != e } }

theorem State.nextWindow_none {b : Nat} (h : (s.bay b).items = []) : s.nextWindow b = s := by
  rw [State.nextWindow, h]

theorem State.engineDone_eq (h : (s.bay (n / 8)).items = []) :
    s.engineDone n = ((s.modPx n Px.idled).modBay (n / 8) (Bay.left (n % 8))).showPx n := by
  have hbay : ((((s.modPx n Px.idled).modBay (n / 8) (Bay.left (n % 8))).showPx n).bay (n / 8)).items = [] := by
    rw [(State.showPx_onlyRegs _ n).bay, State.modBay_bay, if_pos rfl]
    exact h
  exact State.nextWindow_none hbay

/-- An END that damages no CTU: without ERROR, or of a work item that decodes none (R283, R355). -/
theorem State.pxEnd_clean {it : PxItem} (hit : (s.pxEng n).item = some it)
    (h : nbit w 0 = false ∨ ∀ c a, it.work ≠ .ctu c .decode a) : s.pxEnd n w = s.engineDone n := by
  rw [State.pxEnd, hit]
  dsimp only
  split
  · next c a hwork =>
    rw [h.resolve_right fun hno => hno c a hwork]
    rfl
  · rfl

theorem State.pxEnd_ends {it : PxItem} (hit : (s.pxEng n).item = some it)
    (h : nbit w 0 = false ∨ ∀ c a, it.work ≠ .ctu c .decode a) (hitems : (s.bay (n / 8)).items = []) :
    let t := (s.pxCounted n w).pxEnd n w
    t.pxEng n = (s.pxEng n).stepped.idled ∧ t.bay (n / 8) = (s.bay (n / 8)).left (n % 8) ∧ OnlyPx n s t ∧
      SameRegs (pxRegs n) s t ∧ t = { s with regs := t.regs, px := t.px, bays := t.bays } := by
  have halone := s.pxCounted_alone n w
  have hbay : (s.pxCounted n w).bay (n / 8) = s.bay (n / 8) := by
    rw [halone.frame]
    rfl
  have hrun : (s.pxCounted n w).pxEnd n w =
      (((s.pxCounted n w).modPx n Px.idled).modBay (n / 8) (Bay.left (n % 8))).showPx n := by
    rw [State.pxEnd_clean (by rw [State.pxCounted_pxEng]; exact hit) h, State.engineDone_eq (by rw [hbay]; exact hitems)]
  have hidle := halone.modPx Px.idled
  have hshow := State.showPx_onlyRegs (((s.pxCounted n w).modPx n Px.idled).modBay (n / 8) (Bay.left (n % 8))) n
  have hsame := State.showPx_sameRegs (((s.pxCounted n w).modPx n Px.idled).modBay (n / 8) (Bay.left (n % 8))) n
  rw [hrun]
  refine ⟨?_, ?_, fun m hm => ?_, ?_, ?_⟩
  · rw [State.showPx_pxEng, State.modBay_pxEng, State.modPx_pxEng_same, State.pxCounted_pxEng]
  · rw [hshow.bay, State.modBay_bay, if_pos rfl, State.modPx_bay, hbay]
  · rw [State.showPx_pxEng, State.modBay_pxEng]
    exact hidle.only m hm
  · exact (hidle.regs.trans fun _ _ => rfl).trans (hsame.mono (List.cons_subset_cons _ (List.nil_subset _)))
  · have hframe := hidle.frame
    generalize (s.pxCounted n w).modPx n Px.idled = v at hframe hshow ⊢
    rw [hshow, hframe]
    rfl

/-! ### Nanowords in which one unit acts -/

/-- What a nanoword that asks nothing of memory or of another unit makes of its engine: every unit reads what stood before it
(R359). -/
def Px.ranNano (w : Nat) (x : Px) : Px :=
  aluQuarter (nbits w 255 192) x (aluQuarter (nbits w 63 0) x (scalarUnit w x (transform w x (permute w x x))))

/-- A nanoword in which neither the permute, the transform, the memory, the second ALU nor the unit request acts, and whose zero
fields are zero (R358). -/
structure NanoQuiet (w : Nat) : Prop where
  permute : nbits w 67 64 = 0
  transform : nbits w 86 83 = 0
  memory : nbits w 131 128 = 0
  request : nbits w 172 169 = 0
  second : nbits w 255 192 = 0
  zeroLow : nbits w 127 114 = 0
  zeroHigh : nbits w 191 177 = 0

theorem aluQuarter_idle {q : Nat} (h : nbits q 21 16 = 0) (x y : Px) : aluQuarter q x y = y :=
  if_pos (beq_iff_eq.mpr h)

theorem scalarUnit_idle (h : nbits w 100 97 = 0) (x y : Px) : scalarUnit w x y = y :=
  if_pos (beq_iff_eq.mpr h)

/-- The scalar unit adds two registers (R358). -/
theorem scalarUnit_add (hop : nbits w 100 97 = 1) (himm : nbit w 113 = false) (x y : Px) :
    scalarUnit w x y = y.setScalar (nbits w 112 109) (x.scalar (nbits w 104 101) + x.scalar (nbits w 108 105)) := by
  rw [scalarUnit, hop, himm]
  rfl

theorem NanoQuiet.ranNano (h : NanoQuiet w) (x : Px) : x.ranNano w = aluQuarter (nbits w 63 0) x (scalarUnit w x x) := by
  have hsecond : nbits (nbits w 255 192) 21 16 = 0 := by rw [h.second]; rfl
  have hperm : Machine.permute w x x = x := if_pos (beq_iff_eq.mpr h.permute)
  have htx : Machine.transform w x x = x := if_pos (beq_iff_eq.mpr h.transform)
  rw [Px.ranNano, aluQuarter_idle hsecond, hperm, htx]

theorem NanoQuiet.legal (h : NanoQuiet w) (halu : aluIllegal (nbits w 63 0) = false) (hscalar : nbits w 100 97 < 11) :
    nanoIllegal w = false := by
  have hsc : Nat.ble 11 (nbits w 100 97) = false := Bool.eq_false_iff.mpr fun hb => Nat.not_le.mpr hscalar (Nat.ble_eq.mp hb)
  rw [nanoIllegal, halu, h.second, h.permute, h.transform, hsc, h.zeroLow, h.memory, h.request, h.zeroHigh]
  decide

theorem NanoQuiet.nanoStep (h : NanoQuiet w) (s : State) (n : Nat) : s.nanoStep n w = s.modPx n (Px.ranNano w) := by
  simp only [State.nanoStep, h.memory, h.request]
  rfl

theorem PxAlone.fenceNano {t : State} (h : PxAlone n s t) : t.fenceNano = s.fenceNano := by
  have hnot : Reg.UC_FENCE_NANO ∉ pxRegs n := by
    simp only [pxRegs, Reg.UC_FENCE_NANO, Reg.PX_STATUS, Reg.PX_STEPS, Reg.PX_DELAY_CLAMPS, List.mem_cons, List.not_mem_nil, or_false]
    omega
  rw [State.fenceNano, State.fenceNano, State.fld_eq, State.fld_eq, h.regs _ hnot]

theorem PxAlone.ucRead {t : State} (h : PxAlone n s t) (k i a : Nat) : t.ucRead k i a = s.ucRead k i a := by
  rw [h.frame]
  rfl

/-- One step of a quiet nanoword by an engine in the vendor region, which no fence of accesses binds (R374). -/
theorem NanoQuiet.nanoRun_one (h : NanoQuiet w) (hcust : (s.pxEng n).cust = none) :
    State.nanoRun n w 1 s = (s.modPx n (Px.ranNano w)).pxNext n := by
  rw [← h.nanoStep]
  cases hitem : (s.pxEng n).item <;> simp [State.nanoRun, hitem, hcust]

/-- Whether a unit of a nanoword runs below its floor (R353). -/
def nanoShort (w nw : Nat) : Bool := Nat.blt (nbits w 19 16 + 1) (nanoFloor nw)

/-- The state in which a nanoword of one step does its work. -/
def State.nanoCounted (s : State) (n w nw : Nat) : State :=
  (s.pxCounted n w).doIf (nanoShort w nw) fun s => s.bump (Reg.PX_DELAY_CLAMPS n) 1

theorem State.nanoCounted_alone (s : State) (n w nw : Nat) : PxAlone n s (s.nanoCounted n w nw) := (s.pxCounted_alone n w).clamp _ 1

theorem State.nanoCounted_pxEng (s : State) (n w nw : Nat) : (s.nanoCounted n w nw).pxEng n = (s.pxEng n).stepped := by
  rw [State.nanoCounted, State.clamp_pxEng, State.pxCounted_pxEng]

/-- A PX_NANO of one step in the vendor region, of a quiet, good and legal nanoword (R355, R359). -/
theorem State.pxNano_quiet {nw : Nat} (h : PxWordAt s n 0 w) (honce : nbits w 15 12 = 0) (hcust : (s.pxEng n).cust = none)
    (hfence : nbits w 11 0 < s.fenceNano) (hgood : ucGood 1 (s.ucRead 1 (n / 8) (nbits w 11 0)) = true)
    (hnw : ucData 1 (s.ucRead 1 (n / 8) (nbits w 11 0)) = nw) (hquiet : NanoQuiet nw) (hlegal : nanoIllegal nw = false) :
    s.pxNano n = ((s.nanoCounted n w nw).modPx n (Px.ranNano nw)).pxNext n := by
  have halone := s.pxCounted_alone n w
  have hinside : Nat.ble s.fenceNano (nbits w 11 0) = false :=
    Bool.eq_false_iff.mpr fun hb => Nat.not_le.mpr hfence (Nat.ble_eq.mp hb)
  have hcount : s.countSteps n (nbits w 15 12 + 1) 1 (nbits w 19 16) = s.pxCounted n w := by rw [honce]; rfl
  have hrun := hquiet.nanoRun_one (s := s.nanoCounted n w nw) (n := n) (by rw [State.nanoCounted_pxEng]; exact hcust)
  rw [State.pxNano, State.pxWord_nano h, hcount, ← hrun]
  simp only [halone.fenceNano, halone.ucRead, hinside, hgood, hnw, hlegal, honce, Bool.and_false, Bool.not_true, Bool.false_eq_true,
    if_false]
  rfl

theorem State.pxNano_done {nw : Nat} (x : Px) (hpc : (Px.ranNano nw x).pc = x.pc)
    (hx : (s.nanoCounted n w nw).pxEng n = x) :
    let t := ((s.nanoCounted n w nw).modPx n (Px.ranNano nw)).pxNext n
    t.pxEng n = (Px.ranNano nw x).goTo s.fencePx ((x.pc + 1) % 8192) ∧ PxAlone n s t := by
  have halone := (s.nanoCounted_alone n w nw).modPx (Px.ranNano nw)
  refine ⟨?_, halone.pxGo _⟩
  rw [State.pxNext, State.pxGo_pxEng, halone.fencePx, State.modPx_pxEng_same, hx, hpc]

/-! ### The scalar unit's sum -/

/-- The nanoword in which the scalar unit alone acts: it adds two registers into a third. -/
def nanoScalarAdd (a b d : Nat) : Nat := 2 ^ 97 + a * 2 ^ 101 + b * 2 ^ 105 + d * 2 ^ 109

section
variable {a b d : Nat} (ha : a < 16) (hb : b < 16) (hd : d < 16)
include ha hb hd

theorem nanoScalarAdd_quiet : NanoQuiet (nanoScalarAdd a b d) := by
  constructor <;> (simp only [nbits, nanoScalarAdd, Nat.reducePow, Nat.reduceSub, Nat.reduceAdd]; omega)

theorem nanoScalarAdd_fields : nbits (nanoScalarAdd a b d) 63 0 = 0 ∧ nbits (nanoScalarAdd a b d) 100 97 = 1 ∧
    nbits (nanoScalarAdd a b d) 104 101 = a ∧ nbits (nanoScalarAdd a b d) 108 105 = b ∧ nbits (nanoScalarAdd a b d) 112 109 = d := by
  simp only [nbits, nanoScalarAdd, Nat.reducePow, Nat.reduceSub, Nat.reduceAdd]
  omega

theorem nanoScalarAdd_registers : nbit (nanoScalarAdd a b d) 113 = false := by
  rw [nbit, beq_eq_false_iff_ne]
  simp only [nanoScalarAdd, Nat.reducePow]
  omega

theorem nanoScalarAdd_legal : nanoIllegal (nanoScalarAdd a b d) = false := by
  obtain ⟨halu, hop, -⟩ := nanoScalarAdd_fields ha hb hd
  exact (nanoScalarAdd_quiet ha hb hd).legal (by rw [halu]; decide) (by rw [hop]; decide)

theorem ranNano_scalarAdd (x : Px) : x.ranNano (nanoScalarAdd a b d) = x.setScalar d (x.scalar a + x.scalar b) := by
  obtain ⟨halu, hop, ha', hb', hd'⟩ := nanoScalarAdd_fields ha hb hd
  rw [(nanoScalarAdd_quiet ha hb hd).ranNano, halu, aluQuarter_idle (by rfl),
    scalarUnit_add hop (nanoScalarAdd_registers ha hb hd), ha', hb', hd']

end

theorem Px.setScalar_scalar (x : Px) (i v j : Nat) : (x.setScalar i v).scalar j = if j = i then v % 2 ^ 32 else x.scalar j :=
  Sparse.get_set _ _ _ _ _

theorem Px.setVec_vec (x : Px) (i : Nat) (l : List Nat) (j : Nat) : (x.setVec i l).vec j = if j = i then l else x.vec j :=
  Sparse.get_set _ _ _ _ _

theorem Px.goTo_scalar (x : Px) (fence tgt j : Nat) : (x.goTo fence tgt).scalar j = x.scalar j := rfl

theorem Px.goTo_vec (x : Px) (fence tgt j : Nat) : (x.goTo fence tgt).vec j = x.vec j := rfl

/-! ### The first ALU's sum -/

/-- The nanoword in which the first ALU alone acts: it adds two vectors into a third, in 16-bit lanes, without shift or mask. -/
def nanoVectorAdd (a b d : Nat) : Nat := a + b * 2 ^ 5 + d * 2 ^ 10 + 2 * 2 ^ 16

section
variable {a b d : Nat} (ha : a < 32) (hb : b < 32) (hd : d < 32)
include ha hb hd

theorem nanoVectorAdd_quiet : NanoQuiet (nanoVectorAdd a b d) := by
  constructor <;> (simp only [nbits, nanoVectorAdd, Nat.reducePow, Nat.reduceSub, Nat.reduceAdd]; omega)

theorem nanoVectorAdd_first : nbits (nanoVectorAdd a b d) 63 0 = nanoVectorAdd a b d ∧ nbits (nanoVectorAdd a b d) 100 97 = 0 := by
  simp only [nbits, nanoVectorAdd, Nat.reducePow, Nat.reduceSub, Nat.reduceAdd]
  omega

theorem nanoVectorAdd_operands : nbits (nanoVectorAdd a b d) 4 0 = a ∧ nbits (nanoVectorAdd a b d) 9 5 = b ∧
    nbits (nanoVectorAdd a b d) 14 10 = d ∧ nbits (nanoVectorAdd a b d) 21 16 = 2 ∧ nbits (nanoVectorAdd a b d) 23 22 = 0 := by
  simp only [nbits, nanoVectorAdd, Nat.reducePow, Nat.reduceSub, Nat.reduceAdd]
  omega

theorem nanoVectorAdd_above (hi lo : Nat) (hlo : 18 ≤ lo) : nbits (nanoVectorAdd a b d) hi lo = 0 := by
  have hlt : nanoVectorAdd a b d < 2 ^ lo :=
    Nat.lt_of_lt_of_le (by simp only [nanoVectorAdd, Nat.reducePow]; omega) (Nat.pow_le_pow_right (by decide) hlo)
  rw [nbits, Nat.div_eq_of_lt hlt, Nat.zero_mod]

theorem nanoVectorAdd_clear (i : Nat) (hi : i = 15 ∨ 18 ≤ i) : nbit (nanoVectorAdd a b d) i = false := by
  rw [nbit, beq_eq_false_iff_ne]
  rcases hi with rfl | hi
  · simp only [nanoVectorAdd, Nat.reducePow]
    omega
  · have h := nanoVectorAdd_above ha hb hd i i hi
    rw [nbits, Nat.sub_self, Nat.zero_add, Nat.pow_one] at h
    rw [h]
    decide

theorem nanoVectorAdd_legal : nanoIllegal (nanoVectorAdd a b d) = false := by
  obtain ⟨hfirst, hscalar⟩ := nanoVectorAdd_first ha hb hd
  obtain ⟨-, -, -, hop, hfmt⟩ := nanoVectorAdd_operands ha hb hd
  refine (nanoVectorAdd_quiet ha hb hd).legal ?_ (by rw [hscalar]; decide)
  rw [hfirst, aluIllegal]
  simp only [hop, hfmt, nanoVectorAdd_above ha hb hd _ 32 (by decide), nanoVectorAdd_above ha hb hd _ 39 (by decide),
    nanoVectorAdd_above ha hb hd _ 49 (by decide), nanoVectorAdd_above ha hb hd _ 51 (by decide),
    nanoVectorAdd_above ha hb hd _ 58 (by decide)]
  rfl

/-- The steps after a lane's result change nothing that its 16 bits show: no shift, no saturation (R361). -/
theorem finishLane_add (cl : Int × Int) (m : Nat) : finishLane (nanoVectorAdd a b d) cl 16 m = m % 65536 := by
  rw [finishLane, nanoVectorAdd_above ha hb hd 31 27 (by decide), nanoVectorAdd_clear ha hb hd 26 (.inr (by decide)),
    nanoVectorAdd_clear ha hb hd 25 (.inr (by decide))]
  simp only [Bool.false_and, Bool.false_eq_true, if_false, sx]
  split <;> omega

end

theorem getD_map_range {α : Type} (f : Nat → α) (d : α) {i n : Nat} (hi : i < n) : ((List.range n).map f).getD i d = f i := by
  simp [List.getD_eq_getElem?_getD, List.getElem?_range hi]

/-- The sums of two vectors, lane by lane, in 16 bits. -/
def laneSums (a b : List Nat) : List Nat := (List.range a.length).map fun i => (a.getD i 0 + b.getD i 0) % 65536

theorem laneSums_getD {a : List Nat} (b : List Nat) {i : Nat} (hi : i < a.length) :
    (laneSums a b).getD i 0 = (a.getD i 0 + b.getD i 0) % 65536 := by
  rw [laneSums, getD_map_range _ _ hi]

theorem aluQuarter_add {a b d : Nat} (ha : a < 32) (hb : b < 32) (hd : d < 32) (x y : Px) :
    aluQuarter (nanoVectorAdd a b d) x y = y.setVec d (laneSums (x.vec a) (x.vec b)) := by
  obtain ⟨hA, hB, hD, hop, hfmt⟩ := nanoVectorAdd_operands ha hb hd
  simp only [aluQuarter, hA, hB, hD, hop, hfmt, nanoVectorAdd_above ha hb hd _ 39 (by decide),
    nanoVectorAdd_above ha hb hd _ 49 (by decide), nanoVectorAdd_above ha hb hd _ 51 (by decide),
    nanoVectorAdd_clear ha hb hd 15 (.inl rfl), nanoVectorAdd_clear ha hb hd 24 (.inr (by decide))]
  change y.setVec d (((List.range (x.vec a).length).map fun i => (((List.range (x.vec a).length).map fun i =>
    (((x.vec a).getD i 0 : Nat) : Int) + ((x.vec b).getD i 0 : Nat)).map fun r => finishLane (nanoVectorAdd a b d)
      (x.clip (nbits (nanoVectorAdd a b d) 45 42)) 16 r).getD i 0).map fun v => v % 65536) = _
  congr 1
  rw [laneSums, List.map_map, List.map_map]
  refine List.map_congr_left fun i hi => ?_
  have hlane := finishLane_add ha hb hd (x.clip (nbits (nanoVectorAdd a b d) 45 42)) ((x.vec a).getD i 0 + (x.vec b).getD i 0)
  rw [Int.natCast_add] at hlane
  simp only [Function.comp_apply, getD_map_range _ _ (List.mem_range.mp hi), hlane, Nat.mod_mod]

theorem ranNano_vectorAdd {a b d : Nat} (ha : a < 32) (hb : b < 32) (hd : d < 32) (x : Px) :
    x.ranNano (nanoVectorAdd a b d) = x.setVec d (laneSums (x.vec a) (x.vec b)) := by
  obtain ⟨hfirst, hscalar⟩ := nanoVectorAdd_first ha hb hd
  rw [(nanoVectorAdd_quiet ha hb hd).ranNano, hfirst, scalarUnit_idle hscalar, aluQuarter_add ha hb hd]

end

/-- An event of WAIT named alone. -/
theorem nbit_two_pow (e : Fin 4) : nbit (2 ^ e.val) e.val = true := by
  revert e
  decide

/-- A command that runs a word completes with what the word does in the state that counts it. -/
theorem completes_pxWord {i : Instr} {n c w : Nat} {s : State} {run : Nat → State → State} {P : State → Prop}
    (hexec : exec i s = .next (s.pxWord n c run)) (h : PxWordAt s n c w) (hc : c ≠ 0) (hP : P (run w (s.pxCounted n w))) :
    Completes i s P :=
  ⟨_, hexec, by rw [State.pxWord_of h hc]; exact hP⟩

/-- Settles O15: each word is counted, does its work on its engine alone and goes on where the fence lets it. That
an event before its WAIT is remembered and that BREAK stays at its word are the model's choices (log entries 53 and 30). -/
theorem pixelWords : Obligations.PixelWords := by
  unfold Obligations.PixelWords
  refine ⟨?_, ?_, ?_, ?_, ?_, ?_, ?_, ?_, ?_, ?_, ?_, ?_, ?_, ?_⟩
  · intro n w s h
    obtain ⟨heng, honly, hregs, hframe⟩ := State.pxWord_modNext h (by decide) (f := fun x => { x with il := nbits w 15 0 })
      (run := fun w s => (s.modPx n.val fun x => { x with il := nbits w 15 0 }).pxNext n.val) rfl rfl rfl
    exact ⟨_, rfl, heng, honly, hregs, hframe⟩
  · intro n w s h
    obtain ⟨heng, honly, hregs, hframe⟩ := State.pxWord_modNext h (by decide)
      (f := fun x => { x with il := x.il % 65536 + 65536 * nbits w 15 0 })
      (run := fun w s => (s.modPx n.val fun x => { x with il := x.il % 65536 + 65536 * nbits w 15 0 }).pxNext n.val) rfl rfl rfl
    exact ⟨_, rfl, heng, honly, hregs, hframe⟩
  · intro n w s h
    obtain ⟨heng, honly, hregs, hframe⟩ := State.pxWord_modNext h (by decide) (f := fun x => { x with lc := nbits w 15 0 })
      (run := fun w s => (s.modPx n.val fun x => { x with lc := nbits w 15 0 }).pxNext n.val) rfl rfl rfl
    exact ⟨_, rfl, heng, honly, hregs, hframe⟩
  · intro n w s h hmay
    obtain ⟨heng, honly, hregs, hframe⟩ := State.pxJump_goes hmay
    exact completes_pxWord rfl h (by decide) ⟨heng, honly, hregs, hframe⟩
  · intro n w s h hmay hroom hcond
    obtain ⟨heng, honly, hregs, hframe⟩ := State.pxCall_goes hmay hroom hcond
    exact completes_pxWord rfl h (by decide) ⟨heng, honly, hregs, hframe⟩
  · intro n w s h hmay lc
    obtain ⟨heng, honly, hregs, hframe⟩ := State.pxLoopback_goes hmay
    exact completes_pxWord rfl h (by decide) ⟨heng, honly, hregs, hframe⟩
  · intro n w r rest s h hstack
    obtain ⟨heng, honly, hregs, hframe⟩ := State.pxReturn_goes (w := w) hstack
    exact completes_pxWord rfl h (by decide) ⟨heng, honly, hregs, hframe⟩
  · intro n w it s h hit hclean hitems
    have hclean' : nbit w 0 = false ∨ ∀ c a, it.work ≠ .ctu c .decode a :=
      hclean.imp_right fun hmatch c a hwork => by
        rw [hwork] at hmatch
        exact Bool.false_ne_true hmatch
    obtain ⟨heng, hbay, honly, hregs, hframe⟩ := State.pxEnd_ends hit hclean' hitems
    refine completes_pxWord rfl h (by decide) ⟨?_, ?_, ?_, ?_, honly, hregs, hframe⟩
    · rw [heng, Px.idled]
    · rw [heng, Px.idled]
    · rw [heng, Px.idled]
    · rw [hbay, Bay.left]
  · intro n w s h m
    obtain ⟨heng, honly, hregs, hframe⟩ := State.pxWord_modNext h (by decide) (f := Px.waitFor (nbits w 3 0))
      (run := fun w s => (s.modPx n.val (Px.waitFor (nbits w 3 0))).pxNext n.val) rfl rfl rfl
    refine ⟨_, rfl, heng.trans ?_, honly, hregs, hframe⟩
    rw [Px.waitFor_eq]
  · intro n w s h
    have halone := (s.pxCounted_alone n.val w).modPx fun x => { x with broken := true }
    refine completes_pxWord rfl h (by decide) ⟨?_, halone.only, halone.regs, halone.frame⟩
    rw [State.modPx_pxEng_same, State.pxCounted_pxEng]
    rfl
  · intro n e s hwait
    refine congrArg Host.Outcome.next (State.modPx_congr ?_)
    simp only [hwait, nbit_two_pow, if_true, beq_self_eq_true]
  · intro n e s hwait
    refine congrArg Host.Outcome.next (State.modPx_congr ?_)
    simp only [hwait]
  · rintro n w nw a b d s h ⟨honce, hcust, hfence⟩ ⟨hgood, hdata⟩ ⟨ha, hb, hd⟩ hnw
    obtain rfl : nw = nanoScalarAdd a b d := hnw
    have hrun := State.pxNano_quiet h honce hcust hfence hgood hdata (nanoScalarAdd_quiet ha hb hd) (nanoScalarAdd_legal ha hb hd)
    obtain ⟨heng, honly, hregs, hframe⟩ := State.pxNano_done (nw := nanoScalarAdd a b d) (s.pxEng n.val).stepped
      (by rw [ranNano_scalarAdd ha hb hd]; rfl) (s.nanoCounted_pxEng n.val w _)
    rw [ranNano_scalarAdd ha hb hd] at heng
    refine ⟨_, congrArg Host.Outcome.next hrun, ?_, fun k _ hk => ?_, fun k _ => ?_, ?_, honly, hregs, hframe⟩
    · rw [heng, Px.goTo_scalar, Px.setScalar_scalar, if_pos rfl]
      rfl
    · rw [heng, Px.goTo_scalar, Px.setScalar_scalar, if_neg hk]
      rfl
    · rw [heng]
      rfl
    · rw [heng]
      rfl
  · rintro n w nw a b d s h ⟨honce, hcust, hfence⟩ ⟨hgood, hdata⟩ ⟨ha, hb, hd⟩ hnw ⟨hlen, -⟩
    obtain rfl : nw = nanoVectorAdd a b d := hnw
    have hrun := State.pxNano_quiet h honce hcust hfence hgood hdata (nanoVectorAdd_quiet ha hb hd) (nanoVectorAdd_legal ha hb hd)
    obtain ⟨heng, honly, hregs, hframe⟩ := State.pxNano_done (nw := nanoVectorAdd a b d) (s.pxEng n.val).stepped
      (by rw [ranNano_vectorAdd ha hb hd]; rfl) (s.nanoCounted_pxEng n.val w _)
    rw [ranNano_vectorAdd ha hb hd] at heng
    refine ⟨_, congrArg Host.Outcome.next hrun, fun i hi => ?_, fun k _ hk => ?_, ?_, honly, hregs, hframe⟩
    · rw [heng, Px.goTo_vec, Px.setVec_vec, if_pos rfl, laneSums_getD]
      · rfl
      · exact (List.mem_range.mp hi).trans_eq hlen.symm
    · rw [heng, Px.goTo_vec, Px.setVec_vec, if_neg hk]
      rfl
    · rw [heng]
      rfl

end Sys2Proof.Machine

namespace Sys2Proof.Machine

/-! SUPPORT. The release of a domain: which one is released, and what no step of it changes (R645, R646). -/

/-! ### The first held domain -/

theorem minBy?_eq_none {l : List Nat} (h : minBy? id l = none) : l = [] := by
  cases l with
  | nil => rfl
  | cons x r =>
    rw [minBy?] at h
    cases hr : minBy? id r with
    | none => simp [hr] at h
    | some y =>
      simp only [hr] at h
      split at h <;> exact absurd h (by simp)

theorem minBy?_id_mem : ∀ {l : List Nat} {p : Nat}, minBy? id l = some p → p ∈ l ∧ ∀ q ∈ l, p ≤ q
  | [], _, h => by cases h
  | x :: r, p, h => by
    rw [minBy?] at h
    cases hr : minBy? id r with
    | none =>
      obtain rfl : x = p := by simpa [hr] using h
      simp [minBy?_eq_none hr]
    | some y =>
      obtain ⟨hy, hmin⟩ := minBy?_id_mem hr
      simp only [hr, id] at h
      split at h
      · next hlt =>
        obtain rfl := Option.some.inj h
        exact ⟨List.mem_cons_of_mem _ hy, List.forall_mem_cons.mpr ⟨Nat.le_of_lt hlt, hmin⟩⟩
      · next hge =>
        obtain rfl := Option.some.inj h
        exact ⟨List.mem_cons_self, List.forall_mem_cons.mpr ⟨Nat.le_refl _, fun q hq => Nat.le_trans (Nat.not_lt.mp hge) (hmin q hq)⟩⟩

/-- The least member of a list. -/
theorem minBy?_id_eq {l : List Nat} {p : Nat} (hp : p ∈ l) (hmin : ∀ q ∈ l, p ≤ q) : minBy? id l = some p := by
  cases h : minBy? id l with
  | none =>
    rw [minBy?_eq_none h] at hp
    cases hp
  | some m =>
    obtain ⟨hm, hle⟩ := minBy?_id_mem h
    exact congrArg some (Nat.le_antisymm (hle p hp) (hmin m hm))

/-- Some domains no longer held. -/
def State.letGo (s : State) (ps : List Nat) : State := { s with rc := { s.rc with held := s.rc.held.filter fun q => !ps.elem q } }

/-- What a release shows once the domain is up (R401, R679). -/
def State.showRelease (s : State) : State := s.showReset.doIf (!s.domainHeld 1) State.showSums

section
variable {f : ReleaseFacts} {p : Nat} {s : State}

theorem State.domainRelease_busy (h : s.rc.notReady ≠ []) : s.domainRelease f = s.domainStep f := by
  rw [State.domainRelease, if_pos (by simpa using h)]

theorem State.domainRelease_reached (h : s.rc.notReady = []) (hp : p ∈ s.rc.held) (hmin : ∀ q ∈ s.rc.held, p ≤ q)
    (hr : s.reached p = true) : s.domainRelease f = s := by
  rw [State.domainRelease, h, minBy?_id_eq hp hmin]
  simp only [List.isEmpty_nil, Bool.not_true, Bool.false_eq_true, if_false, hr, if_true]

theorem State.domainRelease_first (h : s.rc.notReady = []) (hp : p ∈ s.rc.held) (hmin : ∀ q ∈ s.rc.held, p ≤ q)
    (hr : s.reached p = false) (h9 : p ≠ 9) : s.domainRelease f = ((s.letGo [p]).bootDomain f p).showRelease := by
  rw [State.domainRelease, h, minBy?_id_eq hp hmin]
  simp only [List.isEmpty_nil, Bool.not_true, Bool.false_eq_true, if_false, hr, beq_eq_false_iff_ne.mpr h9, Bool.false_and]
  rfl

/-- 9b goes with 9a. -/
theorem State.domainRelease_host (h : s.rc.notReady = []) (hp : 9 ∈ s.rc.held) (hmin : ∀ q ∈ s.rc.held, 9 ≤ q)
    (hb : 10 ∈ s.rc.held) (hr : s.reached 9 = false) (hrb : s.reached 10 = false) :
    s.domainRelease f = (s.letGo [9, 10]).showPcie.showRelease := by
  have hheld : s.domainHeld 10 = true := List.elem_eq_true_of_mem hb
  rw [State.domainRelease, h, minBy?_id_eq hp hmin]
  simp only [List.isEmpty_nil, Bool.not_true, Bool.false_eq_true, if_false, hr, hheld, hrb, beq_self_eq_true, Bool.not_false,
    Bool.and_self, if_true]
  rfl

end

/-! ### What no release changes -/

/-- What the release of a domain leaves as it was, but for the domains it releases. -/
def State.bootView (s : State) :=
  (s.rc.held, s.rc.asserted, s.tb, s.ctxs, s.host, s.otp, s.flash, s.hostMem)

/-- From `s` to `t` none of it differs. -/
def Boots (s t : State) : Prop := t.bootView = s.bootView

namespace Boots

variable {s t u : State}

theorem refl (s : State) : Boots s s := rfl

theorem trans (h : Boots s t) (k : Boots t u) : Boots s u := Eq.trans k h

theorem setReg (h : Boots s t) (k : Nat) (v : Word) : Boots s (t.setReg k v) := h

theorem writes {ks : List Nat} (h : Boots s t) (k : Writes ks t u) : Boots s u := by
  refine h.trans ?_
  rw [Boots, k.regs]
  rfl

theorem raise (h : Boots s t) (src kind addr : Nat) : Boots s (t.raise src kind addr) := by
  refine h.trans ?_
  rw [Boots, State.raise_frame]
  rfl

theorem doIf (h : Boots s t) (b : Bool) {f : State → State} (hf : Boots s (f t)) : Boots s (t.doIf b f) := State.doIf_ind h hf

theorem forEach {α : Type} (h : Boots s t) (l : List α) {f : α → State → State} (hf : ∀ a u, Boots s u → Boots s (f a u)) :
    Boots s (t.forEach l f) := State.forEach_ind hf h

theorem onlyMemory (h : Boots s t) (k : OnlyMemory t u) : Boots s u := by
  refine h.trans ?_
  rw [Boots, k]
  rfl

end Boots

/-! ### The registers that show a release -/

def resetRegs : List Nat := [Reg.RESET_STATUS, Reg.RESET_ASSERTED]

theorem State.showReset_writes (s : State) : Writes resetRegs s s.showReset :=
  ((Writes.refl _ s).setReg _ List.mem_cons_self).setReg _ (List.mem_cons_of_mem _ List.mem_cons_self)

theorem State.showSums_writes (s : State) : Writes sumRegs s s.showSums := by
  have hmsa {a : Nat} (ha : a ∈ List.range 8) {k : Nat} (hk : k ∈ [Reg.MSA_STATUS a, Reg.MSA_COMMITTED a]) : k ∈ sumRegs :=
    List.mem_append_left _ (List.mem_append_right _ (List.mem_flatMap.mpr ⟨a, ha, hk⟩))
  have hce {e : Nat} (he : e ∈ List.range 16) : Reg.CE_BINDING e ∈ sumRegs := List.mem_append_right _ (List.mem_map_of_mem he)
  refine State.forEach_mem_ind (P := Writes sumRegs s) (fun e he u h => (h.setReg _ (hce he)).setReg _ (hce he)) ?_
  refine State.forEach_mem_ind (P := Writes sumRegs s) (fun a ha u h =>
    (h.setReg _ (hmsa ha List.mem_cons_self)).setReg _ (hmsa ha (List.mem_cons_of_mem _ List.mem_cons_self))) ?_
  exact ((((((((Writes.refl _ s).setReg _ (by decide)).setReg _ (by decide)).setReg _ (by decide)).setReg _ (by decide)).setReg _
    (by decide)).setReg _ (by decide)).setReg _ (by decide)).setReg _ (by decide) |>.setReg _ (by decide)

/-- The registers that a release shows itself in. -/
def shownRegs : List Nat := resetRegs ++ sumRegs

theorem State.showRelease_writes (s : State) : Writes shownRegs s s.showRelease := by
  have hreset := s.showReset_writes.mono (List.subset_append_left resetRegs sumRegs)
  exact hreset.doIf _ (hreset.trans (s.showReset.showSums_writes.mono (List.subset_append_right resetRegs sumRegs)))

end Sys2Proof.Machine

namespace Sys2Proof.Machine

/-! SUPPORT. What the release of each domain leaves as it was (R645). -/

/-! ### The prompt book -/

theorem State.store_writes (s : State) (k : Nat) (v : Word) : Writes [k] s (s.store k v) := by
  rw [State.store]
  split
  · exact (Writes.refl _ s).setReg _ List.mem_cons_self
  · exact Writes.refl _ s

theorem State.applyImage_writes (s : State) (k o : Nat) : Writes [k] s (s.applyImage k o) := by
  rw [State.applyImage]
  exact (Writes.refl _ s).doIf _ (s.store_writes k _)

theorem State.applyWatchdog_writes (s : State) (k o : Nat) : Writes [k] s (s.applyWatchdog k o) := by
  rw [State.applyWatchdog]
  exact (Writes.refl _ s).doIf _ ((Writes.refl _ s).setReg _ List.mem_cons_self)

theorem State.showOtpOptions_writes (s : State) (b : List Byte) :
    Writes ((List.range 64).map Reg.OPT_OTP) s (s.showOtpOptions b) :=
  State.forEach_mem_ind (fun _ hi _ h => h.setReg _ (List.mem_map_of_mem hi)) (Writes.refl _ s)

theorem State.showFlashOptions_writes (s : State) (b : List Byte) :
    Writes ((List.range 128).map Reg.OPT_FLASH) s (s.showFlashOptions b) :=
  State.forEach_mem_ind (fun _ hi _ h => h.setReg _ (List.mem_map_of_mem hi)) (Writes.refl _ s)

/-- A load of the prompt book counted, and what it read shown (R656, R681). -/
def State.bookRead (s : State) (absent : Bool) (otp blk : List Byte) : State :=
  let s := s.setFld Reg.OPT_LOADS 7 0 (min 255 (s.fld Reg.OPT_LOADS 7 0 + 1))
  let s := (s.showOtpOptions otp).setRegN Reg.OPT_OTP_CRC (beAt otp 0xFC 4)
  s.doIf (!absent) fun s => s.setRegN Reg.OPT_FLASH_CRC (beAt blk 0xFFC 4)

/-- Which area failed its check, and whether the flash is there. -/
def State.bookMarked (s : State) (otpBad blkBad absent : Bool) : State :=
  ((s.setRbit Reg.OPT_STATUS 8 otpBad).setRbit Reg.OPT_STATUS 9 blkBad).setRbit Reg.OPT_STATUS 10 absent

def State.bookSeen (s : State) (absent : Bool) (otp blk : List Byte) : State :=
  (s.bookRead absent otp blk).bookMarked (!otpAreaOk otp) (!absent && !(!absent && optionBlockOk blk)) absent

/-- The bytes of the flash option block, none where the flash does not answer. -/
def State.bookBlock (s : State) (absent : Bool) : List Byte := if absent then [] else s.flashBytes 0 0x1000

theorem State.optionLoad_eq (s : State) (absent : Bool) : s.optionLoad absent =
    if otpAreaOk (s.otpBytes 0 256) && (!absent && optionBlockOk (s.bookBlock absent)) then
      ((((s.bookSeen absent (s.otpBytes 0 256) (s.bookBlock absent)).setFld Reg.OPT_STATUS 2 0 3).setFld Reg.OPT_STATUS 5 4
        0).showFlashOptions (s.bookBlock absent), true)
    else ((s.bookSeen absent (s.otpBytes 0 256) (s.bookBlock absent)).setFld Reg.OPT_STATUS 5 4
      ((s.bookSeen absent (s.otpBytes 0 256) (s.bookBlock absent)).fld Reg.OPT_STATUS 5 4 + 1), false) := rfl

/-- The registers beside OPT_STATUS and OPT_LOADS in which a load shows what it read. -/
def readRegs : List Nat := [Reg.OPT_OTP_CRC, Reg.OPT_FLASH_CRC] ++ (List.range 64).map Reg.OPT_OTP

theorem State.bookRead_writes (s : State) (absent : Bool) (otp blk : List Byte) :
    Writes readRegs (s.setFld Reg.OPT_LOADS 7 0 (min 255 (s.fld Reg.OPT_LOADS 7 0 + 1))) (s.bookRead absent otp blk) := by
  have hotp := (State.showOtpOptions_writes (s.setFld Reg.OPT_LOADS 7 0 (min 255 (s.fld Reg.OPT_LOADS 7 0 + 1))) otp).mono
    (List.subset_append_right [Reg.OPT_OTP_CRC, Reg.OPT_FLASH_CRC] _)
  have hcrc := hotp.setReg (k := Reg.OPT_OTP_CRC) (BitVec.ofNat 32 (beAt otp 0xFC 4)) List.mem_cons_self
  have hblock := hcrc.setReg (k := Reg.OPT_FLASH_CRC) (BitVec.ofNat 32 (beAt blk 0xFFC 4)) (List.mem_cons_of_mem _ List.mem_cons_self)
  exact hcrc.doIf (!absent) (f := fun s => s.setRegN Reg.OPT_FLASH_CRC (beAt blk 0xFFC 4)) hblock

theorem State.bookMarked_writes (s : State) (a b c : Bool) : Writes [Reg.OPT_STATUS] s (s.bookMarked a b c) :=
  (((Writes.refl _ s).setReg _ List.mem_cons_self).setReg _ List.mem_cons_self).setReg _ List.mem_cons_self

theorem State.bookSeen_boots (s : State) (absent : Bool) (otp blk : List Byte) : Boots s (s.bookSeen absent otp blk) :=
  (((Boots.refl s).setReg _ _).writes (s.bookRead_writes absent otp blk)).writes (State.bookMarked_writes _ _ _ _)

theorem State.optionLoad_boots (s : State) (absent : Bool) : Boots s (s.optionLoad absent).1 := by
  have hseen := s.bookSeen_boots absent (s.otpBytes 0 256) (s.bookBlock absent)
  rw [State.optionLoad_eq]
  split
  · dsimp only
    exact ((hseen.setReg _ _).setReg _ _).writes (State.showFlashOptions_writes _ _)
  · dsimp only
    exact hseen.setReg _ _

/-- The registers of domain 1 in which the prompt book sets a gap, a watchdog, and what is set beside them (R659, R680). -/
def gapRegs : List Nat := (List.range 9).map Reg.RESET_GAP

def bookRegs : List Nat :=
  [Reg.LEDGER_CTRL, Reg.CHIP_SERIAL_LO, Reg.CHIP_SERIAL_HI, Reg.LEDGER_FLOOR, Reg.RESET_PAIR] ++
    (List.range 24).map Reg.MARGIN_CANARY_REF

/-- The gaps of the prompt book in force. -/
def State.gapsLoaded (s : State) : State :=
  s.forEach (List.range 9) fun i s => s.doIf (s.optN (0x0C + 2 * i) 2 != 0) fun u => u.setRegN (Reg.RESET_GAP i) (s.optN (0x0C + 2 * i) 2)

/-- The serial number and the ledger's floor of the OTP (R662). -/
def State.otpShown (s : State) : State :=
  let s := (s.setRegN Reg.CHIP_SERIAL_LO (s.otpLE 0x100 4)).setRegN Reg.CHIP_SERIAL_HI (s.otpLE 0x104 4)
  s.doIf (s.otpLE 0x380 4 != 0) fun s => s.setRegN Reg.LEDGER_FLOOR (s.otpLE 0x380 4)

/-- The ledger's registers of the prompt book (R346), and those of the OTP. -/
def State.bookLedger (s : State) : State :=
  (s.doIf (ledgerCtrlOk (BitVec.ofNat 32 (s.optN 0x3C 4))) fun s => s.applyImage Reg.LEDGER_CTRL 0x3C).otpShown

/-- What the prompt book and the OTP set beside gaps and watchdogs. -/
def State.bookLoaded (s : State) : State :=
  let s := s.bookLedger.forEach (List.range 24) fun i s => s.setRegN (Reg.MARGIN_CANARY_REF i) (256 * s.otpLE (0x3C0 + 2 * i) 2)
  s.setRegN Reg.RESET_PAIR (b2n (nbit (s.optByte 8) 1 && !nbit (s.otpOpt 0) 1))

theorem State.optionsLoaded_eq (s : State) : s.optionsLoaded =
    ((s.gapsLoaded.applyWatchdog Reg.RESET_PWD_CFG 0x2C).applyWatchdog Reg.RESET_SMWD_CFG 0x2E).bookLoaded := rfl

theorem State.gapsLoaded_writes (s : State) : Writes gapRegs s s.gapsLoaded :=
  State.forEach_mem_ind (fun _ hi _ h => h.doIf _ (h.setReg _ (List.mem_map_of_mem hi))) (Writes.refl _ s)

theorem State.otpShown_writes (s : State) : Writes bookRegs s s.otpShown := by
  have hserial := ((Writes.refl bookRegs s).setReg (k := Reg.CHIP_SERIAL_LO) (BitVec.ofNat 32 (s.otpLE 0x100 4)) (by decide)).setReg
    (k := Reg.CHIP_SERIAL_HI) (BitVec.ofNat 32 (s.otpLE 0x104 4)) (by decide)
  exact hserial.doIf _ (f := fun u => u.setRegN Reg.LEDGER_FLOOR (u.otpLE 0x380 4)) (hserial.setReg _ (by decide))

theorem State.bookLedger_writes (s : State) : Writes bookRegs s s.bookLedger := by
  have hctrl := (Writes.refl bookRegs s).doIf (ledgerCtrlOk (BitVec.ofNat 32 (s.optN 0x3C 4)))
    (f := fun s => s.applyImage Reg.LEDGER_CTRL 0x3C) ((s.applyImage_writes _ _).mono (by decide))
  exact hctrl.trans (State.otpShown_writes _)

theorem State.bookLoaded_writes (s : State) : Writes bookRegs s s.bookLoaded :=
  Writes.setReg (State.forEach_mem_ind (fun _ hi _ h => h.setReg _ (List.mem_append_right _ (List.mem_map_of_mem hi)))
    s.bookLedger_writes) _ (by decide)

theorem State.optionsLoaded_boots (s : State) : Boots s s.optionsLoaded := by
  rw [State.optionsLoaded_eq]
  exact ((((Boots.refl s).writes s.gapsLoaded_writes).writes (State.applyWatchdog_writes _ _ _)).writes
    (State.applyWatchdog_writes _ _ _)).writes (State.bookLoaded_writes _)

theorem State.domainReady_boots (s : State) (p : Nat) : Boots s (s.domainReady p) :=
  Boots.trans (t := { s with rc := { s.rc with notReady := s.rc.notReady.filter (· != p) } }) rfl
    ((Boots.refl _).writes (State.showReset_writes _))

theorem State.optionStep_boots (s : State) (absent : List (Fin 3)) : Boots s (s.optionStep absent) := by
  have hdone (u : State) : Boots u (u.optionsLoaded.domainReady 2) := u.optionsLoaded_boots.trans (State.domainReady_boots _ _)
  rw [State.optionStep]
  dsimp only
  split
  · exact (s.optionLoad_boots _).trans (hdone _)
  split
  · exact (((s.optionLoad_boots _).setReg _ _).writes (State.showFlashOptions_writes _ _)).trans (hdone _)
  · exact s.optionLoad_boots _

/-- Domain 2 at its first load. -/
def State.bookStarted (s : State) : State :=
  ({ s with rc := { s.rc with notReady := s.rc.notReady ++ [2] } }.setFld Reg.OPT_STATUS 5 4 0).setFld Reg.OPT_STATUS 2 0 1

theorem State.bootOptions_eq (s : State) (absent : List (Fin 3)) : s.bootOptions absent = s.bookStarted.optionStep absent := rfl

theorem State.bookStarted_boots (s : State) : Boots s s.bookStarted :=
  Boots.setReg (Boots.setReg (t := { s with rc := { s.rc with notReady := s.rc.notReady ++ [2] } }) rfl _ _) _ _

theorem State.bootOptions_boots (s : State) (absent : List (Fin 3)) : Boots s (s.bootOptions absent) :=
  s.bookStarted_boots.trans (State.optionStep_boots _ _)

/-! ### The Prompter, DRAM, the bays and the ports -/

theorem State.showKeys_boots (s : State) : Boots s s.showKeys :=
  Boots.forEach ((Boots.refl s).setReg _ _) _ fun _ _ h => h.setReg _ _

theorem State.journalStart_boots (s : State) : Boots s s.journalStart := by
  rw [State.journalStart]
  split
  · exact State.doIf_ind (P := Boots s) ((Boots.refl s).setReg _ _) (((Boots.refl s).setReg _ _).setReg _ _)
  · exact Boots.refl s

end Sys2Proof.Machine

namespace Sys2Proof.Machine

namespace Boots

variable {s t : State}

theorem setRegN (h : Boots s t) (k v : Nat) : Boots s (t.setRegN k v) := h

theorem setFld (h : Boots s t) (k hi lo v : Nat) : Boots s (t.setFld k hi lo v) := h

theorem setRbit (h : Boots s t) (k n : Nat) (v : Bool) : Boots s (t.setRbit k n v) := h

theorem bump (h : Boots s t) (k n : Nat) : Boots s (t.bump k n) := h

theorem ite (c : Prop) [Decidable c] {u : State} (h : Boots s t) (k : Boots s u) : Boots s (if c then t else u) := by
  split
  · exact h
  · exact k

theorem emit (h : Boots s t) (o : Output) : Boots s (t.emit o) := h

theorem doIfKeeps (h : Boots s t) {b : Bool} {f : State → State} (hf : ∀ u, Boots s u → Boots s (f u)) : Boots s (t.doIf b f) :=
  h.doIf b (hf t h)

theorem applyImage (h : Boots s t) (k o : Nat) : Boots s (t.applyImage k o) := h.writes (t.applyImage_writes k o)

theorem setFence (h : Boots s t) (f base last writers : Nat) : Boots s (t.setFence f base last writers) :=
  ((h.setReg _ _).setReg _ _).setReg _ _

theorem cuexSync (h : Boots s t) (n : Nat) : Boots s (t.cuexSync n) := h.writes (t.cuexSync_writes n)

end Boots

/-! ### The Prompter -/

theorem State.writeSetpoint_boots (s : State) (mv : Nat) : Boots s (s.writeSetpoint mv) := rfl

theorem State.bootPrompter_boots (s : State) (errs : List (Fin 6)) : Boots s (s.bootPrompter errs) := by
  have hstage : ∀ u, Boots s u → Boots s { u with rc := { u.rc with pwdStart := u.now } } := fun _ h => h
  unfold State.bootPrompter
  refine hstage _ (Boots.trans ?_ (State.journalStart_boots _))
  refine Boots.trans ?_ (State.writeSetpoint_boots _ _)
  refine (((Boots.doIfKeeps ?_ fun _ h => h.raise _ _ _).applyImage _ _).applyImage _ _).applyImage _ _
  refine ((Boots.setFld ?_ _ _ _ _).setRbit _ _ _).setRegN _ _
  refine (((Boots.setRegN ?_ _ _).setRbit _ _ _).setRbit _ _ _).setRbit _ _ _
  exact ((Boots.refl s).doIfKeeps fun _ h => h.raise _ _ _).trans (State.showKeys_boots _)

/-! ### DRAM -/

theorem State.dramStart_boots (s : State) (n : Nat) : Boots s (s.dramStart n) := by
  rw [State.dramStart]
  split
  · exact ((Boots.refl s).setRegN _ _ |>.setRbit _ _ _).setFld _ _ _ _
  · exact (Boots.setRbit (t := s.setDram n DramCh.init) rfl _ _ _).setFld _ _ _ _

theorem State.bootDram_boots (s : State) (f : ReleaseFacts) : Boots s (s.bootDram f) := by
  have hbusy : ∀ u, Boots s u → Boots s (if u.dramBusy then { u with rc := { u.rc with notReady := u.rc.notReady ++ [4] } } else u) := by
    intro u h
    split
    · exact h
    · exact h
  unfold State.bootDram
  refine hbusy _ ?_
  refine Boots.forEach ?_ _ fun n u h => (h.trans (u.dramStart_boots n)).emit _
  refine Boots.forEach ?_ _ fun n u h => (h.applyImage _ _).applyImage _ _
  exact (Boots.refl s).doIfKeeps fun _ h => (h.setRegN _ _).setRegN _ _

/-! ### Microcode, bays, ports -/

theorem State.bootStores_boots (s : State) : Boots s s.bootStores := rfl

theorem State.servePx_boots (s : State) (n : Nat) : Boots s (s.servePx n) :=
  (((((Boots.refl s).setRbit _ _ _).setRbit _ _ _).setRbit _ _ _).setRbit _ _ _).setRbit _ _ _

theorem State.bootBays_boots (s : State) : Boots s s.bootBays := by
  unfold State.bootBays
  refine Boots.forEach ?_ _ fun n u h => ((h.setRbit _ _ _).setRbit _ _ _).cuexSync _
  refine Boots.forEach ?_ _ fun b u h => h.forEach _ fun n v k => k.trans (v.servePx_boots n)
  exact (Boots.refl s).forEach _ fun b u h => (h.setRbit _ _ _).doIfKeeps fun _ h => h

theorem State.bootNet_boots (s : State) : Boots s s.bootNet :=
  (Boots.refl s).forEach _ fun _ _ h => (h.setRegN _ _).setRegN _ _

theorem State.showPcie_boots (s : State) : Boots s s.showPcie := (Boots.refl s).setRegN _ _

/-! ### The Stage Manager -/

theorem State.devWrite_onlyMemory (s : State) (w a : Nat) (bs : List Byte) : OnlyMemory s (s.devWrite w a bs) := by
  rw [State.devWrite]
  split
  · exact s.dramWrite_onlyMemory a bs
  · refine OnlyMemory.trans (State.forEach_ind (P := OnlyMemory s) (fun j u h => ?_)
      (show OnlyMemory s s from rfl)) (State.fenceViolation_onlyMemory _ _ _)
    exact State.doIf_ind h (h.trans (u.dramWrite_onlyMemory _ _))

theorem State.placeImage_boots (s : State) (which : Nat) (l : List Segment) : Boots s (s.placeImage which l) := by
  have hhash : ∀ u h, Boots s u → Boots s { u with trust := { u.trust with smHash := some h } } := fun _ _ h => h
  unfold State.placeImage
  refine hhash _ _ ((Boots.setRegN ?_ _ _).setFld _ _ _ _)
  exact (Boots.refl s).forEach _ fun g u h => h.onlyMemory (u.devWrite_onlyMemory _ _ _)

theorem State.loadImage_boots (s : State) (errs : List (Fin 6)) : Boots s (s.loadImage errs) := by
  have hhash : ∀ u, Boots s u → Boots s { u with trust := { u.trust with smHash := none } } := fun _ h => h
  unfold State.loadImage
  refine Boots.ite _ ((s.placeImage_boots _ _).setFld _ _ _ _) (Boots.ite _ ((s.placeImage_boots _ _).setFld _ _ _ _) ?_)
  exact (hhash _ (((Boots.refl s).setFld _ _ _ _).setFld _ _ _ _)).raise _ _ _

theorem State.putRole_zero (s : State) : s.putRole 0 = (s.setFld Reg.PAIR_STATUS 4 3 0).setRbit Reg.PAIR_STATUS 13 false := rfl

/-- A pair that goes down writes its status register and its own record. -/
theorem State.pairDown_eq (s : State) : ∃ u, Writes [Reg.PAIR_STATUS] s u ∧ s.pairDown = { u with pair := s.pairDown.pair } :=
  ⟨_, ((((((Writes.refl _ s).setReg _ List.mem_cons_self).setReg _ List.mem_cons_self).setReg _ List.mem_cons_self).setReg _
    List.mem_cons_self).setReg _ List.mem_cons_self).setReg _ List.mem_cons_self, rfl⟩

theorem State.pairDown_boots (s : State) : Boots s s.pairDown := by
  obtain ⟨u, hu, hdown⟩ := s.pairDown_eq
  have h := (Boots.refl s).writes hu
  rw [hdown]
  exact h

theorem State.rehEnd_boots (s : State) (ok : Bool) : Boots s (s.rehEnd ok) := by
  have hmargin : ∀ u m, Boots s u → Boots s { u with margin := m } := fun _ _ h => h
  unfold State.rehEnd State.setReg64
  refine hmargin _ _ ((((Boots.setFld ?_ _ _ _ _).setRegN _ _).setRegN _ _).bump _ _)
  exact (Boots.refl s).setFld _ _ _ _

theorem State.bootStageManager_boots (s : State) (errs : List (Fin 6)) : Boots s (s.bootStageManager errs) := by
  have hrc : ∀ u now house, Boots s u →
      Boots s { u with rc := { u.rc with smwdStart := now, smKick := none, house := house, claim := none } } := fun _ _ _ h => h
  unfold State.bootStageManager
  refine hrc _ _ _ (Boots.doIfKeeps ?_ fun u h => h.trans (u.rehEnd_boots _))
  refine (Boots.setFence ?_ _ _ _ _).setRbit _ _ _
  refine (Boots.doIfKeeps ?_ fun u h => h.trans u.pairDown_boots)
  refine (Boots.setRbit ?_ _ _ _).setFld _ _ _ _
  exact (Boots.refl s).doIfKeeps fun u h => h.trans (u.loadImage_boots _)

theorem State.bootDomain_boots (s : State) (f : ReleaseFacts) (p : Nat) : Boots s (s.bootDomain f p) := by
  unfold State.bootDomain
  refine Boots.ite _ (s.bootOptions_boots _) (Boots.ite _ (s.bootPrompter_boots _) (Boots.ite _ (s.bootDram_boots f) (Boots.ite _
    s.bootStores_boots (Boots.ite _ s.bootBays_boots (Boots.ite _ s.bootNet_boots (Boots.ite _ s.showPcie_boots (Boots.ite _
      (s.bootStageManager_boots _) (Boots.refl s))))))))

end Sys2Proof.Machine

namespace Sys2Proof.Machine

/-! SUPPORT. The loads of the prompt book that find no flash, and what the block of FALLBACK sets (R656 to R660). -/

theorem OnlyRegs.rc {s t : State} (h : OnlyRegs s t) : t.rc = s.rc := by
  rw [h]

theorem State.bookSeen_writes (s : State) (absent : Bool) (otp blk : List Byte) :
    Writes (Reg.OPT_STATUS :: Reg.OPT_LOADS :: readRegs) s (s.bookSeen absent otp blk) := by
  have hloads := (Writes.refl (Reg.OPT_STATUS :: Reg.OPT_LOADS :: readRegs) s).setReg (k := Reg.OPT_LOADS)
    (putBits (s.reg Reg.OPT_LOADS) 7 0 (min 255 (s.fld Reg.OPT_LOADS 7 0 + 1))) (List.mem_cons_of_mem _ List.mem_cons_self)
  have hread := (s.bookRead_writes absent otp blk).mono
    (List.subset_cons_of_subset Reg.OPT_STATUS (List.subset_cons_self Reg.OPT_LOADS readRegs))
  exact (hloads.trans hread).trans ((State.bookMarked_writes _ _ _ _).mono (List.cons_subset_cons _ (List.nil_subset _)))

theorem State.bookSeen_loads (s : State) (absent : Bool) (otp blk : List Byte) :
    (s.bookSeen absent otp blk).fld Reg.OPT_LOADS 7 0 = min 255 (s.fld Reg.OPT_LOADS 7 0 + 1) := by
  have hmark := (State.bookMarked_writes (s.bookRead absent otp blk) (!otpAreaOk otp)
    (!absent && !(!absent && optionBlockOk blk)) absent).reg (k := Reg.OPT_LOADS) (by decide)
  rw [State.fld_eq, State.bookSeen, hmark, (s.bookRead_writes absent otp blk).reg (by decide), State.setFld_reg, if_pos rfl,
    bits_putBits_same _ (by decide) (by decide)]
  omega

theorem State.bookSeen_status (s : State) (absent : Bool) (otp blk : List Byte) :
    ∃ a b, (s.bookSeen absent otp blk).reg Reg.OPT_STATUS =
      putBit (putBit (putBit (s.reg Reg.OPT_STATUS) 8 a) 9 b) 10 absent := by
  have hread : (s.bookRead absent otp blk).reg Reg.OPT_STATUS = s.reg Reg.OPT_STATUS := by
    rw [(s.bookRead_writes absent otp blk).reg (by decide), State.setFld_reg, if_neg (by decide)]
  refine ⟨!otpAreaOk otp, !absent && !(!absent && optionBlockOk blk), ?_⟩
  rw [State.bookSeen, State.bookMarked, State.setRbit_reg, if_pos rfl, State.setRbit_reg, if_pos rfl, State.setRbit_reg, if_pos rfl,
    hread]

theorem bits_putBit_other (w : Word) {hi lo n : Nat} (hn : n < 32) (hlo : lo ≤ hi) (hd : hi < n ∨ n < lo) (b : Bool) :
    bits (putBit w n b) hi lo = bits w hi lo :=
  bits_putBits_other w (Nat.le_refl n) hn _ hlo hd

/-- A load that finds no flash fails and is counted (R656). -/
theorem State.optionLoad_absent (s : State) :
    (s.optionLoad true).2 = false ∧ Writes (Reg.OPT_STATUS :: Reg.OPT_LOADS :: readRegs) s (s.optionLoad true).1 ∧
      (s.optionLoad true).1.fld Reg.OPT_STATUS 2 0 = s.fld Reg.OPT_STATUS 2 0 ∧
      (s.optionLoad true).1.fld Reg.OPT_STATUS 5 4 = (s.fld Reg.OPT_STATUS 5 4 + 1) % 4 ∧
      (s.optionLoad true).1.rbit Reg.OPT_STATUS 10 = true ∧
      (s.optionLoad true).1.fld Reg.OPT_LOADS 7 0 = min 255 (s.fld Reg.OPT_LOADS 7 0 + 1) := by
  have hload : s.optionLoad true = ((s.bookSeen true (s.otpBytes 0 256) []).setFld Reg.OPT_STATUS 5 4
      ((s.bookSeen true (s.otpBytes 0 256) []).fld Reg.OPT_STATUS 5 4 + 1), false) := by
    rw [State.optionLoad_eq, if_neg (by simp)]
    rfl
  have hwrites := s.bookSeen_writes true (s.otpBytes 0 256) []
  have hcount := s.bookSeen_loads true (s.otpBytes 0 256) []
  obtain ⟨a, b, hstatus⟩ := s.bookSeen_status true (s.otpBytes 0 256) []
  rw [hload]
  refine ⟨rfl, hwrites.setReg _ List.mem_cons_self, ?_, ?_, ?_, ?_⟩
  · rw [State.fld_eq, State.setFld_reg, if_pos rfl, bits_putBits_other _ (by decide) (by decide) _ (by decide) (by decide), hstatus,
      bits_putBit_other _ (by decide) (by decide) (by decide), bits_putBit_other _ (by decide) (by decide) (by decide),
      bits_putBit_other _ (by decide) (by decide) (by decide), State.fld_eq]
  · rw [State.fld_eq, State.setFld_reg, if_pos rfl, bits_putBits_same _ (by decide) (by decide), State.fld_eq, hstatus,
      bits_putBit_other _ (by decide) (by decide) (by decide), bits_putBit_other _ (by decide) (by decide) (by decide),
      bits_putBit_other _ (by decide) (by decide) (by decide), State.fld_eq]
    rfl
  · rw [State.rbit_eq, State.setFld_reg, if_pos rfl, bit_putBits_other _ (by decide) (by decide) _ (by decide), hstatus,
      bit_putBit _ (by decide), if_pos rfl]
  · rw [State.fld_eq, State.setFld_reg, if_neg (by decide), ← State.fld_eq, hcount]

theorem bookAbsent {absent : List (Fin 3)} {n : Nat} {a : Fin 3} (ha : a ∈ absent) (hn : a.val = n) :
    ((List.range 3).any fun i => i == n && absent.any fun a => a.val == i) = true :=
  List.any_eq_true.mpr ⟨n, List.mem_range.mpr (hn ▸ a.isLt), by
    rw [beq_self_eq_true, Bool.true_and]
    exact List.any_eq_true.mpr ⟨a, ha, beq_iff_eq.mpr hn⟩⟩

section
variable {s : State} {absent : List (Fin 3)} {a : Fin 3}

/-- A load that finds no flash and is not the third in a row leaves the loader at work (R656). -/
theorem State.optionStep_again (ha : a ∈ absent) (hn : a.val = s.fld Reg.OPT_STATUS 5 4) (h2 : a.val < 2) :
    s.optionStep absent = (s.optionLoad true).1 := by
  have hmany : Nat.ble 2 (s.fld Reg.OPT_STATUS 5 4) = false := by
    rw [← hn]
    exact Bool.eq_false_iff.mpr fun hb => Nat.not_le.mpr h2 (Nat.ble_eq.mp hb)
  simp only [State.optionStep, bookAbsent ha hn, s.optionLoad_absent.1, hmany, Bool.false_eq_true, if_false]

/-- The third in a row ends in FALLBACK (R658, R660). -/
theorem State.optionStep_fallback (ha : a ∈ absent) (hn : a.val = s.fld Reg.OPT_STATUS 5 4) (h2 : 2 ≤ a.val) :
    s.optionStep absent =
      ((((s.optionLoad true).1.setFld Reg.OPT_STATUS 2 0 4).showFlashOptions fallbackBlock).optionsLoaded).domainReady 2 := by
  have hmany : Nat.ble 2 (s.fld Reg.OPT_STATUS 5 4) = true := Nat.ble_eq.mpr (hn ▸ h2)
  simp only [State.optionStep, bookAbsent ha hn, s.optionLoad_absent.1, hmany, Bool.false_eq_true, if_false, if_true]

end

theorem State.bookStarted_status (s : State) :
    s.bookStarted.fld Reg.OPT_STATUS 2 0 = 1 ∧ s.bookStarted.fld Reg.OPT_STATUS 5 4 = 0 := by
  constructor
  · rw [State.fld_eq, State.bookStarted, State.setFld_reg, if_pos rfl, bits_putBits_same _ (by decide) (by decide)]
    rfl
  · rw [State.fld_eq, State.bookStarted, State.setFld_reg, if_pos rfl,
      bits_putBits_other _ (by decide) (by decide) _ (by decide) (by decide), State.setFld_reg, if_pos rfl,
      bits_putBits_same _ (by decide) (by decide)]
    rfl

/-! ### The block of FALLBACK -/

/-- The registers that a prompt book in force sets (R659). -/
def optionRegs : List Nat := gapRegs ++ [Reg.RESET_PWD_CFG, Reg.RESET_SMWD_CFG] ++ bookRegs

theorem State.optionsLoaded_writes (s : State) : Writes optionRegs s s.optionsLoaded := by
  have hwatch : [Reg.RESET_PWD_CFG, Reg.RESET_SMWD_CFG] ⊆ optionRegs := fun k hk =>
    List.mem_append_left _ (List.mem_append_right _ hk)
  rw [State.optionsLoaded_eq]
  exact (((s.gapsLoaded_writes.mono fun k hk => List.mem_append_left _ (List.mem_append_left _ hk)).trans
    ((State.applyWatchdog_writes _ _ _).mono (List.cons_subset.mpr ⟨hwatch List.mem_cons_self, List.nil_subset _⟩))).trans
    ((State.applyWatchdog_writes _ _ _).mono (List.cons_subset.mpr ⟨hwatch (List.mem_cons_of_mem _ List.mem_cons_self),
      List.nil_subset _⟩))).trans ((State.bookLoaded_writes _).mono (List.subset_append_right _ _))

/-- A number of an option block, read through the registers that show it (R681). -/
def bookN (b : List Byte) (o n : Nat) : Nat :=
  leNat ((rangeFrom o n).map fun k =>
    BitVec.ofNat 8 (bits (BitVec.ofNat 32 (leAt b (4 * (k / 4)) 4)) (8 * (k % 4) + 7) (8 * (k % 4))))

/-- A state whose registers show an option block. -/
def ShowsBook (b : List Byte) (s : State) : Prop := ∀ i ∈ List.range 128, s.reg (Reg.OPT_FLASH i) = BitVec.ofNat 32 (leAt b (4 * i) 4)

theorem OPT_FLASH_injective : Function.Injective Reg.OPT_FLASH := by
  intro i j h
  simp only [Reg.OPT_FLASH] at h
  omega

theorem State.showFlashOptions_shows (s : State) (b : List Byte) : ShowsBook b (s.showFlashOptions b) :=
  (State.forEach_setRegN (v := fun i => leAt b (4 * i) 4) OPT_FLASH_injective (List.range 128) s).1

theorem ShowsBook.optN {b : List Byte} {s : State} (h : ShowsBook b s) {o n : Nat} (hn : ∀ k ∈ rangeFrom o n, k / 4 < 128) :
    s.optN o n = bookN b o n := by
  rw [State.optN, bookN]
  congr 1
  refine List.map_congr_left fun k hk => ?_
  rw [State.optByte, h _ (List.mem_range.mpr (hn k hk))]

theorem ShowsBook.writes {b : List Byte} {s t : State} {ks : List Nat} (h : ShowsBook b s) (hw : Writes ks s t)
    (hks : ∀ i ∈ List.range 128, Reg.OPT_FLASH i ∉ ks) : ShowsBook b t := fun i hi => (hw.reg (hks i hi)).trans (h i hi)

/-- The gaps and the watchdog times of R660. -/
theorem fallbackBlock_gaps : ∀ i ∈ List.range 9, bookN fallbackBlock (0x0C + 2 * i) 2 = 250 := by decide +kernel

theorem fallbackBlock_watchdogs : bookN fallbackBlock 0x2C 2 = 100 ∧ bookN fallbackBlock 0x2E 2 = 500 := by decide +kernel

/-- A walk whose steps agree on the states it meets. -/
theorem State.forEach_congr_of {α : Type} {P : State → Prop} {f g : α → State → State} :
    ∀ {l : List α} {s : State}, P s → (∀ a ∈ l, ∀ u, P u → f a u = g a u ∧ P (g a u)) → s.forEach l f = s.forEach l g
  | [], _, _, _ => rfl
  | a :: l, s, hs, h => by
    obtain ⟨heq, hP⟩ := h a List.mem_cons_self s hs
    rw [State.forEach_cons, State.forEach_cons, heq]
    exact State.forEach_congr_of hP fun b hb => h b (List.mem_cons_of_mem _ hb)

theorem RESET_GAP_injective : Function.Injective Reg.RESET_GAP := by
  intro i j h
  simp only [Reg.RESET_GAP] at h
  omega

section
variable {s : State} (h : ShowsBook fallbackBlock s)
include h

theorem State.gapsLoaded_fallback : s.gapsLoaded = s.forEach (List.range 9) fun i u => u.setRegN (Reg.RESET_GAP i) 250 := by
  refine State.forEach_congr_of h fun i hi u hu => ⟨?_, ?_⟩
  · have hgap : u.optN (0x0C + 2 * i) 2 = 250 :=
      (hu.optN (by simp only [rangeFrom, List.mem_map, List.mem_range] at hi ⊢; omega)).trans (fallbackBlock_gaps i hi)
    rw [hgap]
    rfl
  · exact hu.writes (ks := [Reg.RESET_GAP i]) ((Writes.refl _ u).setReg _ List.mem_cons_self) fun j _ => by
      simp only [Reg.OPT_FLASH, Reg.RESET_GAP, List.mem_range, List.mem_singleton] at hi ⊢
      omega

theorem State.applyWatchdog_fallback {k o : Nat} (ho : o / 4 < 127) (hv : Nat.ble 10 (bookN fallbackBlock o 2) = true)
    (hv' : Nat.ble (bookN fallbackBlock o 2) 10000 = true) :
    s.applyWatchdog k o = s.setRegN k (bookN fallbackBlock o 2) := by
  have hopt : s.optN o 2 = bookN fallbackBlock o 2 :=
    h.optN (by simp only [rangeFrom, List.mem_map, List.mem_range]; omega)
  rw [State.applyWatchdog, hopt, hv, hv']
  rfl

/-- The gaps and watchdog times once the block of FALLBACK is in force. -/
theorem State.optionsLoaded_fallback : (∀ i ∈ List.range 9, s.optionsLoaded.regN (Reg.RESET_GAP i) = 250) ∧
    s.optionsLoaded.regN Reg.RESET_PWD_CFG = 100 ∧ s.optionsLoaded.regN Reg.RESET_SMWD_CFG = 500 := by
  have hpwd : ShowsBook fallbackBlock s.gapsLoaded := h.writes s.gapsLoaded_writes (by decide +kernel)
  have hsmwd : ShowsBook fallbackBlock (s.gapsLoaded.applyWatchdog Reg.RESET_PWD_CFG 0x2C) :=
    hpwd.writes (State.applyWatchdog_writes _ _ _) (by decide +kernel)
  have hrun : (s.gapsLoaded.applyWatchdog Reg.RESET_PWD_CFG 0x2C).applyWatchdog Reg.RESET_SMWD_CFG 0x2E =
      (s.gapsLoaded.setRegN Reg.RESET_PWD_CFG 100).setRegN Reg.RESET_SMWD_CFG 500 := by
    obtain ⟨h100, h500⟩ := fallbackBlock_watchdogs
    rw [State.applyWatchdog_fallback hsmwd (by decide) (by rw [h500]; rfl) (by rw [h500]; rfl), h500,
      State.applyWatchdog_fallback hpwd (by decide) (by rw [h100]; rfl) (by rw [h100]; rfl), h100]
  have hbook := State.bookLoaded_writes ((s.gapsLoaded.setRegN Reg.RESET_PWD_CFG 100).setRegN Reg.RESET_SMWD_CFG 500)
  rw [State.optionsLoaded_eq, hrun]
  refine ⟨fun i hi => ?_, ?_, ?_⟩
  · have hne : Reg.RESET_GAP i ≠ Reg.RESET_SMWD_CFG ∧ Reg.RESET_GAP i ≠ Reg.RESET_PWD_CFG ∧ Reg.RESET_GAP i ∉ bookRegs := by
      revert i
      decide +kernel
    rw [State.regN_eq, hbook.reg hne.2.2, State.setRegN_reg, if_neg hne.1, State.setRegN_reg, if_neg hne.2.1,
      State.gapsLoaded_fallback h, (State.forEach_setRegN RESET_GAP_injective (List.range 9) s).1 i hi]
    rfl
  · rw [State.regN_eq, hbook.reg (by decide), State.setRegN_reg, if_neg (by decide), State.setRegN_reg, if_pos rfl]
    rfl
  · rw [State.regN_eq, hbook.reg (by decide), State.setRegN_reg, if_pos rfl]
    rfl

end

end Sys2Proof.Machine

namespace Sys2Proof.Machine

/-! SUPPORT. The last step of the microcode load: the reference copies and their fence (R385, R388, R667). -/

/-! ### The reference copies -/

/-- The first page of the reference copies. -/
def copiesPage : Nat := Config.copyPage % 2 ^ 28

/-- The address of the reference copies, and the copies themselves. -/
def State.copiesPlaced (s : State) : State :=
  ((s.setRegN Reg.UC_COPY_BASE_LO (copiesPage * 4096)).setRegN Reg.UC_COPY_BASE_HI (copiesPage / 2 ^ 20)).forEach [0, 1, 2]
    fun k s => s.memWrite (s.copyBase + copyOffset k) (s.copyOf k)

/-- Their CRCs, fence 0 over them, LOCK. -/
def State.copiesFenced (s : State) : State :=
  let s := ((s.setRegN Reg.UC_COPY_CRC_PX (crc32c (s.copyOf 0))).setRegN Reg.UC_COPY_CRC_NANO (crc32c (s.copyOf 1))).setRegN
    Reg.UC_COPY_CRC_CE (crc32c (s.copyOf 2))
  (s.setFence 0 copiesPage (copiesPage + 0x2B) 0x301).setRbit Reg.UC_FENCE_CTRL 0 true

theorem State.loadCopies_eq (s : State) : s.loadCopies = s.copiesPlaced.copiesFenced := rfl

theorem State.forEach_memWrite_kept {α : Type} (s : State) (l : List α) (a : α → State → Nat) (bs : α → State → List Byte) :
    (s.forEach l fun k u => u.memWrite (a k u) (bs k u)).regs = s.regs ∧
      (s.forEach l fun k u => u.memWrite (a k u) (bs k u)).rc = s.rc := by
  refine State.forEach_ind (P := fun u => u.regs = s.regs ∧ u.rc = s.rc) (fun k u h => ?_) ⟨rfl, rfl⟩
  rw [State.memWrite_regs, State.memWrite_rc]
  exact h

theorem State.copiesPlaced_reg (s : State) (k : Nat) : s.copiesPlaced.reg k =
    ((s.setRegN Reg.UC_COPY_BASE_LO (copiesPage * 4096)).setRegN Reg.UC_COPY_BASE_HI (copiesPage / 2 ^ 20)).reg k := by
  rw [State.copiesPlaced, State.reg, (State.forEach_memWrite_kept _ _ _ _).1, State.reg]

/-- The registers of the copies' CRCs and their fence. -/
def copyRegs : List Nat :=
  [Reg.UC_COPY_CRC_PX, Reg.UC_COPY_CRC_NANO, Reg.UC_COPY_CRC_CE, Reg.DRAM_FENCE_BASE 0, Reg.DRAM_FENCE_LIMIT 0,
   Reg.DRAM_FENCE_WRITERS 0, Reg.UC_FENCE_CTRL]

theorem State.copiesFenced_writes (s : State) : Writes copyRegs s s.copiesFenced :=
  (((((((Writes.refl _ s).setReg _ (by decide)).setReg _ (by decide)).setReg _ (by decide)).setReg _ (by decide)).setReg _
    (by decide)).setReg _ (by decide)).setReg _ (by decide)

theorem State.loadCopies_rc (s : State) : s.loadCopies.rc = s.rc := by
  rw [State.loadCopies_eq, (State.copiesFenced_writes _).regs.rc, State.copiesPlaced, (State.forEach_memWrite_kept _ _ _ _).2,
    State.setRegN_rc, State.setRegN_rc]

/-- The registers in which the copies and their fence stand. -/
theorem State.loadCopies_regs (s : State) :
    s.loadCopies.reg Reg.UC_COPY_BASE_LO = BitVec.ofNat 32 (copiesPage * 4096) ∧
    s.loadCopies.reg Reg.UC_COPY_BASE_HI = BitVec.ofNat 32 (copiesPage / 2 ^ 20) ∧
    s.loadCopies.reg (Reg.DRAM_FENCE_BASE 0) = BitVec.ofNat 32 copiesPage ∧
    s.loadCopies.reg (Reg.DRAM_FENCE_LIMIT 0) = BitVec.ofNat 32 (copiesPage + 0x2B) ∧
    s.loadCopies.reg (Reg.DRAM_FENCE_WRITERS 0) = 0x301 ∧ s.loadCopies.rbit Reg.UC_FENCE_CTRL 0 = true := by
  have hlock : s.loadCopies.rbit Reg.UC_FENCE_CTRL 0 = true := by
    rw [State.rbit_eq, State.loadCopies_eq, State.copiesFenced, State.setRbit_reg, if_pos rfl, bit_putBit _ (by decide), if_pos rfl]
  refine ⟨?_, ?_, ?_, ?_, ?_, hlock⟩ <;>
    simp [State.loadCopies_eq, State.copiesFenced, State.setFence, State.copiesPlaced_reg, Reg.UC_COPY_BASE_LO, Reg.UC_COPY_BASE_HI,
      Reg.DRAM_FENCE_BASE, Reg.DRAM_FENCE_LIMIT, Reg.DRAM_FENCE_WRITERS, Reg.UC_FENCE_CTRL, Reg.UC_COPY_CRC_PX, Reg.UC_COPY_CRC_NANO,
      Reg.UC_COPY_CRC_CE]

/-- From `s` to `t` only registers that a REHEARSAL_FAIL may write and the fault collector differ. -/
def RehFaults (s t : State) : Prop := SameRegs (faultRegs FaultKind.REHEARSAL_FAIL) s t ∧ t.rc = s.rc

theorem State.rehFailures_faults (s : State) : RehFaults s s.rehFailures := by
  have hrefl : RehFaults s s := ⟨SameRegs.refl _ _, rfl⟩
  have hraise : ∀ u n, RehFaults s u → RehFaults s (u.raise 499 FaultKind.REHEARSAL_FAIL n) := fun u n h =>
    ⟨h.1.trans (u.raise_sameRegs _ _ _), (congrArg State.rc (u.raise_frame _ _ _)).trans h.2⟩
  exact State.doIf_ind (P := RehFaults s) hrefl
    (State.forEach_ind (P := RehFaults s) (fun n u h => State.doIf_ind h (hraise u n h)) hrefl)

theorem copiesPage_lt : copiesPage < 2 ^ 28 := Nat.mod_lt _ (by decide)

/-- The last step of the microcode load (R385). -/
def State.lastLoad (s : State) : State := ((s.loadCopies.setFld Reg.UC_LOAD_STATUS 3 0 5).rehFailures).domainReady 5

theorem State.loadStep_last {s : State} (errs : List (Fin 6)) (h : s.fld Reg.UC_LOAD_STATUS 3 0 = 3) : s.loadStep errs = s.lastLoad := by
  simp only [State.loadStep, h]
  rfl

section
variable (s : State)

theorem State.domainReady_reg (p : Nat) {k : Nat} (hk : k ∉ resetRegs) : (s.domainReady p).reg k = s.reg k :=
  (State.showReset_writes { s with rc := { s.rc with notReady := s.rc.notReady.filter (· != p) } }).reg hk

theorem State.domainReady_rc (p : Nat) : (s.domainReady p).rc = { s.rc with notReady := s.rc.notReady.filter (· != p) } :=
  (State.showReset_writes { s with rc := { s.rc with notReady := s.rc.notReady.filter (· != p) } }).regs.rc

theorem State.lastLoad_reg {k : Nat} (hk : k ∉ resetRegs ++ faultRegs FaultKind.REHEARSAL_FAIL) (hs : k ≠ Reg.UC_LOAD_STATUS) :
    s.lastLoad.reg k = s.loadCopies.reg k := by
  rw [List.mem_append, not_or] at hk
  rw [State.lastLoad, State.domainReady_reg _ _ hk.1, (State.rehFailures_faults _).1 k hk.2, State.setFld_reg, if_neg hs]

theorem State.lastLoad_rc : s.lastLoad.rc = { s.rc with notReady := s.rc.notReady.filter (· != 5) } := by
  rw [State.lastLoad, State.domainReady_rc, (State.rehFailures_faults _).2, State.setFld_rc, State.loadCopies_rc]

theorem State.lastLoad_status : s.lastLoad.fld Reg.UC_LOAD_STATUS 3 0 = 5 := by
  rw [State.fld_eq, State.lastLoad, State.domainReady_reg _ _ (by decide), (State.rehFailures_faults _).1 _ (by decide),
    State.setFld_reg, if_pos rfl, bits_putBits_same _ (by decide) (by decide)]
  rfl

theorem State.lastLoad_copyBase : s.lastLoad.copyBase = copiesPage * 4096 := by
  obtain ⟨hlo, hhi, -⟩ := s.loadCopies_regs
  have hlt := copiesPage_lt
  rw [State.copyBase, State.regN_eq, State.fld_eq, s.lastLoad_reg (by decide) (by decide), s.lastLoad_reg (by decide) (by decide), hlo,
    hhi, bits, BitVec.toNat_ofNat, BitVec.toNat_ofNat]
  omega

/-- The copies fenced off: every writer but those of R388 is kept out of their pages (R667). -/
theorem State.lastLoad_fence : s.lastLoad.regN (Reg.DRAM_FENCE_BASE 0) = copiesPage ∧
    s.lastLoad.regN (Reg.DRAM_FENCE_LIMIT 0) = copiesPage + 0x2B ∧ s.lastLoad.rbit (Reg.DRAM_FENCE_WRITERS 0) 0 = true ∧
    s.lastLoad.rbit Reg.UC_FENCE_CTRL 0 = true := by
  obtain ⟨-, -, hbase, hlimit, hwriters, hlock⟩ := s.loadCopies_regs
  have hlt := copiesPage_lt
  refine ⟨?_, ?_, ?_, ?_⟩
  · rw [State.regN_eq, s.lastLoad_reg (by decide) (by decide), hbase, BitVec.toNat_ofNat]
    omega
  · rw [State.regN_eq, s.lastLoad_reg (by decide) (by decide), hlimit, BitVec.toNat_ofNat]
    omega
  · rw [State.rbit_eq, s.lastLoad_reg (by decide) (by decide), hwriters]
    rfl
  · rw [State.rbit_eq, s.lastLoad_reg (by decide) (by decide), ← State.rbit_eq, hlock]

end

end Sys2Proof.Machine

namespace Sys2Proof.Machine

/-! SUPPORT. The addresses of the ports (R662) and the Stage Manager's stage (R667, R676). -/

/-- A walk in which each step brings about a fact of its own, which the steps for the others leave standing. -/
theorem State.forEach_each {α : Type} [DecidableEq α] {P : State → Prop} {Q : α → State → Prop} {f : α → State → State} :
    ∀ {l : List α} {s : State}, P s → (∀ a ∈ l, ∀ u, P u → P (f a u) ∧ Q a (f a u)) →
      (∀ a ∈ l, ∀ b ∈ l, b ≠ a → ∀ u, P u → Q a u → Q a (f b u)) →
      P (s.forEach l f) ∧ ∀ a ∈ l, Q a (s.forEach l f)
  | [], _, hs, _, _ => ⟨hs, fun _ ha => absurd ha List.not_mem_nil⟩
  | a :: l, s, hs, hf, hkeep => by
    obtain ⟨hP, hQ⟩ := hf a List.mem_cons_self s hs
    have hrest := State.forEach_each (l := l) (Q := Q) hP (fun b hb => hf b (List.mem_cons_of_mem _ hb))
      fun b hb c hc => hkeep b (List.mem_cons_of_mem _ hb) c (List.mem_cons_of_mem _ hc)
    refine ⟨hrest.1, List.forall_mem_cons.mpr ⟨?_, hrest.2⟩⟩
    refine (State.forEach_mem_ind (P := fun u => P u ∧ Q a u) (fun b hb u hu => ?_) ⟨hP, hQ⟩).2
    have hb' := List.mem_cons_of_mem a hb
    by_cases hab : b = a
    · exact hab ▸ hf b hb' u hu.1
    · exact ⟨(hf b hb' u hu.1).1, hkeep a List.mem_cons_self b hb' hab u hu.1 hu.2⟩

/-! ### The addresses of the ports -/

/-- The address of a port: the one of the OTP, its last byte counted on (R662). -/
def macOfPort (m : List Byte) (n : Nat) : Nat := beNat (m.take 5) * 256 + (beAt m 5 1 + n) % 256

theorem State.bootNet_regs (s : State) : ∀ n ∈ List.range 4,
    s.bootNet.reg (Reg.NET_MAC_LO n) = BitVec.ofNat 32 (macOfPort (s.otpBytes 0x108 6) n) ∧
    s.bootNet.reg (Reg.NET_MAC_HI n) = BitVec.ofNat 32 (macOfPort (s.otpBytes 0x108 6) n / 2 ^ 32 % 65536) := by
  refine (State.forEach_each (P := fun _ => True) (Q := fun n u =>
    u.reg (Reg.NET_MAC_LO n) = BitVec.ofNat 32 (macOfPort (s.otpBytes 0x108 6) n) ∧
    u.reg (Reg.NET_MAC_HI n) = BitVec.ofNat 32 (macOfPort (s.otpBytes 0x108 6) n / 2 ^ 32 % 65536)) trivial
    (fun n _ u _ => ⟨trivial, ?_, ?_⟩) (fun n _ b _ hb u _ hu => ⟨?_, ?_⟩)).2
  · rw [State.setRegN_reg, if_neg (by simp only [Reg.NET_MAC_LO, Reg.NET_MAC_HI]; omega), State.setRegN_reg, if_pos rfl]
    rfl
  · rw [State.setRegN_reg, if_pos rfl]
    rfl
  · rw [State.setRegN_reg, if_neg (by simp only [Reg.NET_MAC_LO, Reg.NET_MAC_HI]; omega), State.setRegN_reg,
      if_neg (by simp only [Reg.NET_MAC_LO]; omega)]
    exact hu.1
  · rw [State.setRegN_reg, if_neg (by simp only [Reg.NET_MAC_HI]; omega), State.setRegN_reg,
      if_neg (by simp only [Reg.NET_MAC_LO, Reg.NET_MAC_HI]; omega)]
    exact hu.2

/-- The two words of an address of six bytes. -/
theorem macOfPort_words {m : List Byte} (hm : m.length = 6) (n : Nat) :
    macOfPort m n % 2 ^ 32 = beNat ((m.drop 2).take 3) * 256 + (beNat (m.drop 5) + n) % 256 ∧
    macOfPort m n / 2 ^ 32 % 65536 = beNat (m.take 2) := by
  match m, hm with
  | [a, b, c, d, e, g], _ =>
    have ha := a.isLt
    have hb := b.isLt
    have hc := c.isLt
    have hd := d.isLt
    have he := e.isLt
    simp only [macOfPort, beAt, sliceB, beNat, List.take, List.drop, List.foldl]
    omega

/-! ### The Stage Manager -/

/-- The options and the pair as a house Stage Manager for a cause of OPT_STATUS leaves them (R676). -/
def State.houseMarked (s : State) (cause : Nat) : State :=
  let s := (s.setRbit Reg.OPT_STATUS 12 true).setFld Reg.OPT_STATUS 15 13 cause
  s.doIf (s.rbit Reg.PAIR_CTRL 0) fun s => s.pairDown

/-- Fence 1 over the code region, the severities locked (R667, R691). -/
def State.codeFenced (s : State) : State :=
  (s.setFence 1 (s.codeBase / 4096) ((s.codeBase + codeSize) / 4096 - 1) 0x101).setRbit Reg.FAULT_CTRL 0 true

/-- A pair that goes down, and no register but its status. -/
structure HouseWork (s t : State) : Prop where
  regs : SameRegs [Reg.OPT_STATUS, Reg.PAIR_STATUS] s t
  frame : t = { s with regs := t.regs, pair := t.pair }

theorem HouseWork.of_writes {s t : State} (h : Writes [Reg.OPT_STATUS, Reg.PAIR_STATUS] s t) (p : PairCtl) :
    HouseWork s t ∧ HouseWork s { t with pair := p } := by
  have hframe := h.regs
  refine ⟨⟨h.only, ?_⟩, h.only, ?_⟩
  · rw [hframe]
  · rw [hframe]

theorem State.houseMarked_work (s : State) (cause : Nat) : HouseWork s (s.houseMarked cause) := by
  have hmark := ((Writes.refl [Reg.OPT_STATUS, Reg.PAIR_STATUS] s).setReg (k := Reg.OPT_STATUS) (putBit (s.reg Reg.OPT_STATUS) 12 true)
    (by decide)).setReg (k := Reg.OPT_STATUS) (putBits ((s.setRbit Reg.OPT_STATUS 12 true).reg Reg.OPT_STATUS) 15 13 cause) (by decide)
  obtain ⟨u, hu, hdown⟩ := ((s.setRbit Reg.OPT_STATUS 12 true).setFld Reg.OPT_STATUS 15 13 cause).pairDown_eq
  have hwork := HouseWork.of_writes (hmark.trans (hu.mono (by decide)))
    ((s.setRbit Reg.OPT_STATUS 12 true).setFld Reg.OPT_STATUS 15 13 cause).pairDown.pair
  rw [State.houseMarked]
  refine State.doIf_ind (P := HouseWork s) (HouseWork.of_writes hmark PairCtl.init).1 ?_
  rw [hdown]
  exact hwork.2

theorem State.houseMarked_status (s : State) (cause : Nat) (hc : cause < 8) :
    (s.houseMarked cause).fld Reg.OPT_STATUS 15 13 = cause ∧ (s.houseMarked cause).rbit Reg.OPT_STATUS 12 = true := by
  have hreg : (s.houseMarked cause).reg Reg.OPT_STATUS = putBits (putBit (s.reg Reg.OPT_STATUS) 12 true) 15 13 cause := by
    have hmark : ((s.setRbit Reg.OPT_STATUS 12 true).setFld Reg.OPT_STATUS 15 13 cause).reg Reg.OPT_STATUS =
        putBits (putBit (s.reg Reg.OPT_STATUS) 12 true) 15 13 cause := by
      rw [State.setFld_reg, if_pos rfl, State.setRbit_reg, if_pos rfl]
    refine State.doIf_ind (P := fun u => u.reg Reg.OPT_STATUS = _) hmark ?_
    obtain ⟨u, hu, hdown⟩ := ((s.setRbit Reg.OPT_STATUS 12 true).setFld Reg.OPT_STATUS 15 13 cause).pairDown_eq
    rw [hdown]
    exact (hu.reg (by decide)).trans hmark
  rw [State.fld_eq, State.rbit_eq, hreg, bits_putBits_same _ (by decide) (by decide), bit_putBits_other _ (by decide) (by decide) _
    (by decide), bit_putBit _ (by decide), if_pos rfl]
  exact ⟨Nat.mod_eq_of_lt hc, rfl⟩

/-- The reset controller as a house Stage Manager starts (R643, R676). -/
def State.houseTakes (s : State) : State :=
  { s with rc := { s.rc with smwdStart := s.now, smKick := none, house := true, claim := none } }

/-- The Stage Manager's stage where an option calls for the house one (R676). -/
def State.houseStarted (s : State) (cause : Nat) : State := (s.houseMarked cause).codeFenced.houseTakes

def codeFenceRegs : List Nat := [Reg.DRAM_FENCE_BASE 1, Reg.DRAM_FENCE_LIMIT 1, Reg.DRAM_FENCE_WRITERS 1, Reg.FAULT_CTRL]

theorem State.codeFenced_writes (s : State) : Writes codeFenceRegs s s.codeFenced :=
  ((((Writes.refl _ s).setReg _ (by decide)).setReg _ (by decide)).setReg _ (by decide)).setReg _ (by decide)

theorem State.codeFenced_regs (s : State) : s.codeFenced.reg (Reg.DRAM_FENCE_BASE 1) = BitVec.ofNat 32 (s.codeBase / 4096) ∧
    s.codeFenced.reg (Reg.DRAM_FENCE_WRITERS 1) = 0x101 ∧ s.codeFenced.rbit Reg.FAULT_CTRL 0 = true := by
  refine ⟨?_, ?_, ?_⟩
  · rw [State.codeFenced, State.setFence, State.setRbit_reg, if_neg (by decide), State.setRegN_reg, if_neg (by decide),
      State.setRegN_reg, if_neg (by decide), State.setRegN_reg, if_pos rfl]
  · rw [State.codeFenced, State.setFence, State.setRbit_reg, if_neg (by decide), State.setRegN_reg, if_pos rfl]
    rfl
  · rw [State.rbit_eq, State.codeFenced, State.setRbit_reg, if_pos rfl, bit_putBit _ (by decide), if_pos rfl]

theorem bits_lt (w : Word) (hi lo : Nat) : bits w hi lo < 2 ^ (hi - lo + 1) := Nat.mod_lt _ (Nat.two_pow_pos _)

/-- The code region lies in the 40 bits of device addresses. -/
theorem State.codeBase_lt (s : State) : s.codeBase < 2 ^ 40 := by
  have hhi := bits_lt (s.reg Reg.TRUST_SM_CODE_BASE_HI) 7 0
  have hlo := bits_lt (s.reg Reg.TRUST_SM_CODE_BASE_LO) 31 20
  have hdie := bits_lt (s.reg (Reg.DRAM_CFG 0)) 5 4
  have hsize : s.dramSize < 2 ^ 40 := by
    have hpow : 2 ^ bits (s.reg (Reg.DRAM_CFG 0)) 5 4 ≤ 2 ^ 3 := Nat.pow_le_pow_right (by decide) (Nat.le_of_lt_succ hdie)
    rw [State.dramSize, State.fld_eq]
    split <;> omega
  rw [State.codeBase, State.fld_eq, State.fld_eq]
  split <;> omega

theorem State.codeBase_congr {s t : State} (h : ∀ k ∈ [Reg.TRUST_SM_CODE_BASE_HI, Reg.TRUST_SM_CODE_BASE_LO, Reg.DRAM_CFG 0],
    t.reg k = s.reg k) : t.codeBase = s.codeBase := by
  simp only [List.forall_mem_cons] at h
  obtain ⟨hhi, hlo, hcfg, -⟩ := h
  have hsize : t.dramSize = s.dramSize := by
    rw [State.dramSize, State.rbit_eq, State.fld_eq, hcfg, State.dramSize, State.rbit_eq, State.fld_eq]
  rw [State.codeBase, hsize, State.fld_eq, State.fld_eq, hhi, hlo, State.codeBase, State.fld_eq, State.fld_eq]

theorem State.houseTakes_reg (s : State) (k : Nat) : s.houseTakes.reg k = s.reg k := rfl

theorem State.houseStarted_reg (s : State) (cause k : Nat) : (s.houseStarted cause).reg k = (s.houseMarked cause).codeFenced.reg k :=
  State.houseTakes_reg _ k

/-- From `s` to `t` the time, the reset controller, the Prompter's records and memory are as they were. -/
def StageKept (s t : State) : Prop := t.now = s.now ∧ t.rc = s.rc ∧ t.trust = s.trust ∧ t.mem = s.mem

theorem OnlyRegs.stageKept {s t : State} (h : OnlyRegs s t) : StageKept s t := by
  rw [h]
  exact ⟨rfl, rfl, rfl, rfl⟩

theorem HouseWork.stageKept {s t : State} (h : HouseWork s t) : StageKept s t := by
  rw [h.frame]
  exact ⟨rfl, rfl, rfl, rfl⟩

theorem StageKept.houseTakes {s t : State} (h : StageKept s t) :
    t.houseTakes.rc = { s.rc with smwdStart := s.now, smKick := none, house := true, claim := none } ∧
      t.houseTakes.trust = s.trust ∧ t.houseTakes.mem = s.mem := by
  obtain ⟨hnow, hrc, htrust, hmem⟩ := h
  refine ⟨?_, htrust, hmem⟩
  rw [State.houseTakes, hnow, hrc]

/-- What the house Stage Manager's start leaves as it was, and what it does to the reset controller. -/
theorem State.houseStarted_kept (s : State) (cause : Nat) :
    (s.houseStarted cause).rc = { s.rc with smwdStart := s.now, smKick := none, house := true, claim := none } ∧
      (s.houseStarted cause).trust = s.trust ∧ (s.houseStarted cause).mem = s.mem := by
  obtain ⟨hnow, hrc, htrust, hmem⟩ := (s.houseMarked_work cause).stageKept
  obtain ⟨know, krc, ktrust, kmem⟩ := (State.codeFenced_writes (s.houseMarked cause)).regs.stageKept
  exact StageKept.houseTakes ⟨know.trans hnow, krc.trans hrc, ktrust.trans htrust, kmem.trans hmem⟩

theorem State.bootStageManager_house {s : State} (errs : List (Fin 6)) (hhouse : nbit (s.optByte 8) 0 = true)
    (hreh : s.fld Reg.REH_STATUS 2 0 = 0) : s.bootStageManager errs = s.houseStarted 1 := by
  have hcause : s.houseCause = 1 := by rw [State.houseCause, hhouse]; rfl
  have hdone : (s.houseMarked 1).codeFenced.fld Reg.REH_STATUS 2 0 = 0 := by
    rw [State.fld_eq, (State.codeFenced_writes _).reg (by decide), (s.houseMarked_work 1).regs _ (by decide), ← State.fld_eq, hreh]
  have hrun : s.bootStageManager errs =
      (let u := (s.houseMarked 1).codeFenced.doIf ((s.houseMarked 1).codeFenced.fld Reg.REH_STATUS 2 0 == 5) fun u =>
        u.rehEnd (u.regN Reg.REH_FAILED == 0)
      u.houseTakes) := by
    rw [State.bootStageManager, hcause]
    rfl
  rw [hrun, hdone]
  rfl

end Sys2Proof.Machine

namespace Sys2Proof.Machine

/-! SUPPORT. The start of the DRAM channels (R608, R634 step 1, R659). -/

theorem State.optN_congr {s t : State} {o n : Nat} (h : ∀ k ∈ rangeFrom o n, t.reg (Reg.OPT_FLASH (k / 4)) = s.reg (Reg.OPT_FLASH (k / 4))) :
    t.optN o n = s.optN o n := by
  rw [State.optN, State.optN]
  congr 1
  refine List.map_congr_left fun k hk => ?_
  rw [State.optByte, State.optByte, h k hk]

/-- Registers of the DRAM channels hold what the prompt book gives them (R659). -/
theorem State.store_dramCfg (s : State) : ∀ n ∈ List.range 4, s.store (Reg.DRAM_CFG n) 0x200 = s.setReg (Reg.DRAM_CFG n) 0x200 ∧
    s.store (Reg.DRAM_TRFC n) 280 = s.setReg (Reg.DRAM_TRFC n) 280 := by
  have hmask : ∀ n ∈ List.range 4, (regRow (Reg.DRAM_CFG n)).map (fun r => (0x200 : Word) &&& BitVec.ofNat 32 r.mask) = some 0x200 ∧
      (regRow (Reg.DRAM_TRFC n)).map (fun r => (280 : Word) &&& BitVec.ofNat 32 r.mask) = some 280 := by decide +kernel
  intro n hn
  obtain ⟨hcfg, htrfc⟩ := hmask n hn
  obtain ⟨r, hr, hrv⟩ := Option.map_eq_some_iff.mp hcfg
  obtain ⟨q, hq, hqv⟩ := Option.map_eq_some_iff.mp htrfc
  constructor
  · simp only [State.store, hr, hrv]
  · simp only [State.store, hq, hqv]

/-- The configuration and the refresh time of a channel as in O49's prompt book. -/
def ChannelSet (n : Nat) (s : State) : Prop := s.reg (Reg.DRAM_CFG n) = 0x200 ∧ s.reg (Reg.DRAM_TRFC n) = 280

/-- A prompt book that gives every channel those. -/
def DramBook (s : State) : Prop := s.optN 0x20 4 = 0x200 ∧ s.optN 0x24 4 = 280

theorem DramBook.writes {s t : State} {ks : List Nat} (h : DramBook s) (hw : Writes ks s t) (h8 : Reg.OPT_FLASH 8 ∉ ks)
    (h9 : Reg.OPT_FLASH 9 ∉ ks) : DramBook t := by
  obtain ⟨hcfg, htrfc⟩ := h
  refine ⟨(State.optN_congr fun k hk => ?_).trans hcfg, (State.optN_congr fun k hk => ?_).trans htrfc⟩
  · have hk : k / 4 = 8 := by
      simp only [rangeFrom, List.mem_map, List.mem_range] at hk
      omega
    rw [hk, hw.reg h8]
  · have hk : k / 4 = 9 := by
      simp only [rangeFrom, List.mem_map, List.mem_range] at hk
      omega
    rw [hk, hw.reg h9]

/-- The images of one channel. -/
def State.channelImages (s : State) (n : Nat) : State := (s.applyImage (Reg.DRAM_CFG n) 0x20).applyImage (Reg.DRAM_TRFC n) 0x24

theorem State.channelImages_writes (s : State) (n : Nat) : Writes [Reg.DRAM_CFG n, Reg.DRAM_TRFC n] s (s.channelImages n) :=
  ((s.applyImage_writes _ _).mono (by simp)).trans ((State.applyImage_writes _ _ _).mono (by simp))

theorem State.channelImages_set {s : State} (h : DramBook s) {n : Nat} (hn : n ∈ List.range 4) :
    DramBook (s.channelImages n) ∧ ChannelSet n (s.channelImages n) := by
  have hlt := List.mem_range.mp hn
  have hfirst : s.applyImage (Reg.DRAM_CFG n) 0x20 = s.setReg (Reg.DRAM_CFG n) 0x200 := by
    rw [State.applyImage, h.1]
    exact (s.store_dramCfg n hn).1
  have hbook : DramBook (s.setReg (Reg.DRAM_CFG n) 0x200) :=
    h.writes (ks := [Reg.DRAM_CFG n]) ((Writes.refl _ s).setReg _ List.mem_cons_self)
      (by simp only [Reg.OPT_FLASH, Reg.DRAM_CFG, List.mem_singleton]; omega)
      (by simp only [Reg.OPT_FLASH, Reg.DRAM_CFG, List.mem_singleton]; omega)
  have hrun : s.channelImages n = (s.setReg (Reg.DRAM_CFG n) 0x200).setReg (Reg.DRAM_TRFC n) 280 := by
    rw [State.channelImages, hfirst, State.applyImage, hbook.2]
    exact (State.store_dramCfg _ n hn).2
  refine ⟨h.writes (s.channelImages_writes n) ?_ ?_, ?_, ?_⟩
  · simp only [Reg.OPT_FLASH, Reg.DRAM_CFG, Reg.DRAM_TRFC, List.mem_cons, List.not_mem_nil, or_false]
    omega
  · simp only [Reg.OPT_FLASH, Reg.DRAM_CFG, Reg.DRAM_TRFC, List.mem_cons, List.not_mem_nil, or_false]
    omega
  · rw [hrun, State.setReg_reg, if_neg (by simp only [Reg.DRAM_CFG, Reg.DRAM_TRFC]; omega), State.setReg_reg, if_pos rfl]
  · rw [hrun, State.setReg_reg, if_pos rfl]

/-- Every channel set, and the reset controller as in `s`. -/
def ChannelsSet (s t : State) : Prop := (∀ n ∈ List.range 4, ChannelSet n t) ∧ t.rc = s.rc

/-- A channel that initialises, its block enabled (R634). -/
def ChannelStarted (n : Nat) (s : State) : Prop := s.dramState n = 1 ∧ s.enabled (0x010 + n) = true

theorem ChannelsSet.sound {s t : State} (h : ChannelsSet s t) {n : Nat} (hn : n ∈ List.range 4) : t.dramBad n = false := by
  have hcfg : ∀ i ∈ List.range 4, t.reg (Reg.DRAM_CFG i) = 0x200 := fun i hi => (h.1 i hi).1
  have hsame : ((List.range 4).any fun i => t.fld (Reg.DRAM_CFG i) 6 4 * 8 + t.fld (Reg.DRAM_CFG i) 2 0 !=
      t.fld (Reg.DRAM_CFG 0) 6 4 * 8 + t.fld (Reg.DRAM_CFG 0) 2 0) = false := by
    refine List.any_eq_false.mpr fun i hi => ?_
    rw [State.fld_eq, State.fld_eq, State.fld_eq, State.fld_eq, hcfg i hi, hcfg 0 (by decide)]
    decide
  rw [State.dramBad, hsame, State.dramSize, State.rbit_eq, State.fld_eq, State.fld_eq, State.fld_eq, hcfg 0 (by decide), hcfg n hn]
  decide

/-- A channel started, its dies out of reset. -/
def State.startChannel (s : State) (n : Nat) : State := (s.dramStart n).emit (.ball (ballDramReset n) true)

theorem State.bootDram_eq {s : State} (f : ReleaseFacts) (h : s.fallback = false) : s.bootDram f =
    let u := (s.forEach (List.range 4) fun n u => u.channelImages n).forEach (List.range 4) fun n u => u.startChannel n
    if u.dramBusy then { u with rc := { u.rc with notReady := u.rc.notReady ++ [4] } } else u := by
  rw [State.bootDram, h]
  rfl

section
variable {s : State} {n : Nat} (h : s.dramBad n = false)
include h

theorem State.startChannel_reg (k : Nat) : (s.startChannel n).reg k =
    (((s.setDram n DramCh.init).setRbit (blkCtrl (dramPage n)) 0 true).setDramState n 1).reg k := by
  rw [State.startChannel, State.emit_reg, State.dramStart, if_neg (by simp [h])]

theorem State.startChannel_rc : (s.startChannel n).rc = s.rc := by
  rw [State.startChannel, State.emit_rc, State.dramStart, if_neg (by simp [h]), State.setDramState, State.setFld_rc, State.setRbit_rc]
  rfl

theorem State.startChannel_started (hn : n ∈ List.range 4) : ChannelStarted n (s.startChannel n) := by
  have hlt := List.mem_range.mp hn
  constructor
  · rw [State.dramState, State.fld_eq, State.startChannel_reg h, State.setDramState, State.setFld_reg, if_pos rfl,
      bits_putBits_same _ (by decide) (by decide)]
    rfl
  · rw [State.enabled, State.rbit_eq, State.startChannel_reg h, State.setDramState, State.setFld_reg,
      if_neg (by simp only [blkCtrl, hdr, Reg.DRAM_STATUS]; omega), State.setRbit_reg, dramPage, if_pos rfl,
      bit_putBit _ (by decide), if_pos rfl]

theorem State.startChannel_other {k : Nat} (hs : k ≠ Reg.DRAM_STATUS n) (hc : k ≠ blkCtrl (dramPage n)) :
    (s.startChannel n).reg k = s.reg k := by
  rw [State.startChannel_reg h, State.setDramState, State.setFld_reg, if_neg hs, State.setRbit_reg, if_neg hc]
  rfl

end

theorem ChannelsSet.start {s t : State} (h : ChannelsSet s t) {n : Nat} (hn : n ∈ List.range 4) :
    ChannelsSet s (t.startChannel n) ∧ ChannelStarted n (t.startChannel n) := by
  have hbad := h.sound hn
  refine ⟨⟨fun i hi => ?_, (State.startChannel_rc hbad).trans h.2⟩, State.startChannel_started hbad hn⟩
  obtain ⟨hcfg, htrfc⟩ := h.1 i hi
  constructor
  · rw [State.startChannel_other hbad (by simp only [Reg.DRAM_CFG, Reg.DRAM_STATUS]; omega)
      (by simp only [Reg.DRAM_CFG, blkCtrl, hdr, dramPage]; omega), hcfg]
  · rw [State.startChannel_other hbad (by simp only [Reg.DRAM_TRFC, Reg.DRAM_STATUS]; omega)
      (by simp only [Reg.DRAM_TRFC, blkCtrl, hdr, dramPage]; omega), htrfc]

theorem ChannelStarted.kept {s t : State} (h : ChannelsSet s t) {a b : Nat} (hb : b ∈ List.range 4) (hne : b ≠ a)
    (ha : ChannelStarted a t) : ChannelStarted a (t.startChannel b) := by
  have hbad := h.sound hb
  obtain ⟨hstate, hon⟩ := ha
  constructor
  · rw [State.dramState, State.fld_eq, State.startChannel_other hbad (by simp only [Reg.DRAM_STATUS]; omega)
      (by simp only [Reg.DRAM_STATUS, blkCtrl, hdr, dramPage]; omega)]
    exact hstate
  · rw [State.enabled, State.rbit_eq, State.startChannel_other hbad (by simp only [Reg.DRAM_STATUS, blkCtrl, hdr]; omega)
      (by simp only [blkCtrl, hdr, dramPage]; omega)]
    exact hon

/-- The start of DRAM with that prompt book: every channel initialises, and domain 4 is not ready yet. -/
theorem State.bootDram_starts {s : State} (f : ReleaseFacts) (hfall : s.fallback = false) (h : DramBook s) :
    (∀ n ∈ List.range 4, ChannelSet n (s.bootDram f) ∧ ChannelStarted n (s.bootDram f)) ∧
      (s.bootDram f).rc = { s.rc with notReady := s.rc.notReady ++ [4] } := by
  have himages := State.forEach_each (P := fun u => DramBook u ∧ u.rc = s.rc) (Q := ChannelSet) (f := fun n u => u.channelImages n)
    (l := List.range 4) ⟨h, rfl⟩ (fun n hn u hu => ⟨⟨(State.channelImages_set hu.1 hn).1,
      (u.channelImages_writes n).regs.rc.trans hu.2⟩, (State.channelImages_set hu.1 hn).2⟩) fun a _ b _ hne u _ hu => by
        have hw := u.channelImages_writes b
        obtain ⟨hcfg, htrfc⟩ := hu
        refine ⟨(hw.reg ?_).trans hcfg, (hw.reg ?_).trans htrfc⟩
        · simp only [Reg.DRAM_CFG, Reg.DRAM_TRFC, List.mem_cons, List.not_mem_nil, or_false]
          omega
        · simp only [Reg.DRAM_CFG, Reg.DRAM_TRFC, List.mem_cons, List.not_mem_nil, or_false]
          omega
  obtain ⟨⟨-, hrc⟩, hset⟩ := himages
  obtain ⟨hdone, hstarted⟩ := State.forEach_each (P := ChannelsSet s) (Q := ChannelStarted) (f := fun n u => u.startChannel n)
    (l := List.range 4) ⟨hset, hrc⟩ (fun n hn u hu => hu.start hn) fun a _ b hb hne u hu ha => ha.kept hu hb hne
  rw [State.bootDram_eq f hfall]
  generalize (s.forEach (List.range 4) fun n u => u.channelImages n).forEach (List.range 4) (fun n u => u.startChannel n) = u
    at hdone hstarted
  have hbusy : u.dramBusy = true := List.any_eq_true.mpr ⟨0, by decide, by rw [(hstarted 0 (by decide)).1]; rfl⟩
  dsimp only
  rw [if_pos hbusy]
  exact ⟨fun n hn => ⟨hdone.1 n hn, hstarted n hn⟩, by rw [hdone.2]⟩

end Sys2Proof.Machine

namespace Sys2Proof.Machine

/-! SUPPORT. Bays and engines as the release of their domain leaves them (R324, R645, R711). -/

theorem State.forEach_flatten {α β : Type} (s : State) (l : List α) (g : α → List β) (f : β → State → State) :
    (s.forEach l fun a u => u.forEach (g a) f) = s.forEach (l.flatMap g) f :=
  List.foldl_flatMap.symm

/-- Whether an engine serves its bay (R324). -/
def State.pxServes (s : State) (n : Nat) : Bool := s.pxUp n && !(s.bay (n / 8)).out

/-- A bay in service or, where it failed the full rehearsal, out (R711). -/
def State.startBay (s : State) (b : Nat) : State :=
  (s.setRbit (Reg.BAY_STATUS b) 16 (!s.rbit Reg.REH_FAILED b)).doIf (s.rbit Reg.REH_FAILED b) fun s =>
    s.modBay b fun x => { x with failed := true, out := true }

/-- A Cue Engine idle, in service and asleep (R573). -/
def State.startCe (s : State) (n : Nat) : State :=
  ((s.setRbit (Reg.CE_STATUS n) 0 true).setRbit (Reg.CE_STATUS n) 6 true).cuexSync n

theorem State.bootBays_eq (s : State) : s.bootBays =
    ((s.forEach (List.range 12) fun b u => u.startBay b).forEach ((List.range 12).flatMap enginesOf) fun n u => u.servePx n).forEach
      (List.range 16) fun n u => u.startCe n := by
  rw [← State.forEach_flatten]
  rfl

/-! ### The bays -/

/-- Bays on their way into service from `s`: none is out but those that failed, no engine is held. -/
structure BaysRising (s t : State) : Prop where
  out : ∀ b, (t.bay b).out = true → s.rbit Reg.REH_FAILED b = true
  failed : t.reg Reg.REH_FAILED = s.reg Reg.REH_FAILED
  engines : t.px = []
  held : ∀ n ∈ List.range 96, t.inReset (0x100 + n) = false

/-- A bay as its stage leaves it. -/
def BayUp (s : State) (b : Nat) (t : State) : Prop :=
  (t.bay b).out = s.rbit Reg.REH_FAILED b ∧ t.rbit (Reg.BAY_STATUS b) 16 = !s.rbit Reg.REH_FAILED b

theorem State.startBay_reg (s : State) (b k : Nat) : (s.startBay b).reg k =
    if k = Reg.BAY_STATUS b then putBit (s.reg k) 16 (!s.rbit Reg.REH_FAILED b) else s.reg k := by
  have hset : (s.setRbit (Reg.BAY_STATUS b) 16 (!s.rbit Reg.REH_FAILED b)).reg k =
      if k = Reg.BAY_STATUS b then putBit (s.reg k) 16 (!s.rbit Reg.REH_FAILED b) else s.reg k := by
    rw [State.setRbit_reg]
    split
    · next h => rw [h]
    · rfl
  exact State.doIf_ind (P := fun u => u.reg k = _) hset hset

theorem State.startBay_out (s : State) (b d : Nat) : ((s.startBay b).bay d).out =
    if d = b then (s.rbit Reg.REH_FAILED b || (s.bay b).out) else (s.bay d).out := by
  have hbay : ∀ v d, (s.setRbit (Reg.BAY_STATUS b) 16 v).bay d = s.bay d := fun v d =>
    ((Writes.refl [Reg.BAY_STATUS b] s).setReg _ List.mem_cons_self).regs.bay d
  rw [State.startBay]
  cases s.rbit Reg.REH_FAILED b
  · rw [State.doIf_false, hbay]
    split
    · next h => rw [h]; rfl
    · rfl
  · rw [State.doIf_true, State.modBay_bay]
    split
    · rfl
    · rw [hbay]

theorem State.startBay_px (s : State) (b : Nat) : (s.startBay b).px = s.px :=
  State.doIf_ind (P := fun u => u.px = s.px) rfl rfl

theorem BaysRising.startBay {s t : State} (h : BaysRising s t) (b : Nat) :
    BaysRising s (t.startBay b) ∧ BayUp s b (t.startBay b) := by
  have hfailed : t.rbit Reg.REH_FAILED b = s.rbit Reg.REH_FAILED b := by rw [State.rbit_eq, h.failed, State.rbit_eq]
  refine ⟨⟨fun d hd => ?_, ?_, (t.startBay_px b).trans h.engines, fun n hn => ?_⟩, ?_, ?_⟩
  · rw [State.startBay_out, hfailed] at hd
    split at hd
    · next hdb =>
      subst hdb
      exact (Bool.or_eq_true _ _ ▸ hd).elim id (h.out d)
    · exact h.out d hd
  · rw [State.startBay_reg, if_neg (by simp only [Reg.REH_FAILED, Reg.BAY_STATUS]; omega), h.failed]
  · rw [State.inReset, State.rbit_eq, State.startBay_reg, if_neg (by simp only [blkStat, hdr, Reg.BAY_STATUS]; omega)]
    exact h.held n hn
  · rw [State.startBay_out, if_pos rfl, hfailed]
    cases hf : s.rbit Reg.REH_FAILED b with
    | true => rfl
    | false => exact Bool.eq_false_iff.mpr fun ho => Bool.false_ne_true (hf ▸ h.out b ho)
  · rw [State.rbit_eq, State.startBay_reg, if_pos rfl, bit_putBit _ (by decide), if_pos rfl, hfailed]

theorem BayUp.startBay {s t : State} {a b : Nat} (hne : b ≠ a) (h : BayUp s a t) : BayUp s a (t.startBay b) := by
  obtain ⟨hout, hbit⟩ := h
  constructor
  · rw [State.startBay_out, if_neg (Ne.symm hne), hout]
  · rw [State.rbit_eq, State.startBay_reg, if_neg (by simp only [Reg.BAY_STATUS]; omega)]
    exact hbit

/-! ### Their engines -/

/-- Every engine serves, or does not with its failed bay, and the bays say so. -/
structure EnginesRising (s t : State) : Prop where
  serves : ∀ n ∈ List.range 96, t.pxServes n = !s.rbit Reg.REH_FAILED (n / 8)
  bays : ∀ b ∈ List.range 12, t.rbit (Reg.BAY_STATUS b) 16 = !s.rbit Reg.REH_FAILED b

/-- An engine as its stage leaves it. -/
def EngineUp (s : State) (n : Nat) (t : State) : Prop :=
  t.rbit (Reg.PX_STATUS n) 0 = (!s.rbit Reg.REH_FAILED (n / 8)) ∧
    t.rbit (Reg.BAY_STATUS (n / 8)) (n % 8) = !s.rbit Reg.REH_FAILED (n / 8)

theorem BaysRising.serves {s t : State} (h : BaysRising s t) (hup : ∀ b ∈ List.range 12, BayUp s b t) : EnginesRising s t := by
  refine ⟨fun n hn => ?_, fun b hb => (hup b hb).2⟩
  have hbay : n / 8 ∈ List.range 12 := by
    rw [List.mem_range] at hn ⊢
    omega
  have hdown : (t.pxEng n).down = false := by
    rw [State.pxEng, h.engines]
    rfl
  rw [State.pxServes, State.pxUp, hdown, h.held n hn, (hup _ hbay).1]
  rfl

/-- An engine's status of its own, but for the bay's (R399). -/
def State.pxShown (s : State) (n : Nat) : State :=
  (((s.setRbit (Reg.PX_STATUS n) 0 (s.pxServes n)).setRbit (Reg.PX_STATUS n) 1 ((s.pxEng n).down || (s.bay (n / 8)).nano)).setRbit
    (Reg.PX_STATUS n) 2 ((s.pxEng n).reloading || (s.bay (n / 8)).reloading)).setRbit (Reg.PX_STATUS n) 3
    ((s.pxEng n).stuck || (s.bay (n / 8)).stuck)

section
variable (s : State) (n : Nat)

theorem State.servePx_eq : s.servePx n = (s.pxShown n).setRbit (Reg.BAY_STATUS (n / 8)) (n % 8) (s.pxServes n) := rfl

theorem State.pxShown_writes : Writes [Reg.PX_STATUS n] s (s.pxShown n) :=
  ((((Writes.refl _ s).setReg _ List.mem_cons_self).setReg _ List.mem_cons_self).setReg _ List.mem_cons_self).setReg _
    List.mem_cons_self

theorem State.servePx_bayReg {b : Nat} (hb : b < 12) : (s.servePx n).reg (Reg.BAY_STATUS b) =
    if b = n / 8 then putBit (s.reg (Reg.BAY_STATUS b)) (n % 8) (s.pxServes n) else s.reg (Reg.BAY_STATUS b) := by
  have hpx : Reg.BAY_STATUS b ∉ [Reg.PX_STATUS n] := by
    simp only [Reg.BAY_STATUS, Reg.PX_STATUS, List.mem_singleton]
    omega
  rw [State.servePx_eq, State.setRbit_reg, (s.pxShown_writes n).reg hpx]
  by_cases hbn : b = n / 8
  · rw [if_pos hbn, if_pos (congrArg _ hbn), ← hbn, (s.pxShown_writes n).reg hpx]
  · rw [if_neg hbn, if_neg (by simp only [Reg.BAY_STATUS]; omega)]

theorem State.servePx_status : (s.servePx n).rbit (Reg.PX_STATUS n) 0 = s.pxServes n := by
  rw [State.rbit_eq, State.servePx_eq, State.setRbit_reg, if_neg (by simp only [Reg.BAY_STATUS, Reg.PX_STATUS]; omega), State.pxShown]
  simp only [State.setRbit_reg, if_true, bit_putBit _ (show 3 < 32 by decide), bit_putBit _ (show 2 < 32 by decide),
    bit_putBit _ (show 1 < 32 by decide), bit_putBit _ (show 0 < 32 by decide)]
  rfl

theorem State.servePx_pxServes (m : Nat) : (s.servePx n).pxServes m = s.pxServes m := by
  have hw := s.servePx_writes (mem_enginesOf.mpr (rfl : n / 8 = n / 8))
  have hstat : blkStat (0x100 + m) ∉ serveRegs (n / 8) := by
    simp only [serveRegs, List.mem_cons, List.mem_map, not_or, not_exists, not_and]
    refine ⟨?_, fun k _ => ?_⟩
    · simp only [blkStat, hdr, Reg.BAY_STATUS]
      omega
    · simp only [blkStat, hdr, Reg.PX_STATUS]
      omega
  rw [State.pxServes, State.pxServes, State.pxUp, State.pxUp, hw.regs.pxEng, hw.regs.bay, State.inReset, State.inReset, State.rbit_eq,
    State.rbit_eq, hw.reg hstat]

end

theorem EnginesRising.servePx {s t : State} (h : EnginesRising s t) {n : Nat} (hn : n ∈ List.range 96) :
    EnginesRising s (t.servePx n) ∧ EngineUp s n (t.servePx n) := by
  have hlt := List.mem_range.mp hn
  refine ⟨⟨fun m hm => (t.servePx_pxServes n m).trans (h.serves m hm), fun b hb => ?_⟩, ?_, ?_⟩
  · rw [State.rbit_eq, State.servePx_bayReg _ _ (List.mem_range.mp hb), ← h.bays b hb, State.rbit_eq]
    split
    · rw [bit_putBit _ (by omega), if_neg (by omega)]
    · rfl
  · rw [State.servePx_status, h.serves n hn]
  · rw [State.rbit_eq, State.servePx_bayReg _ _ (by omega), if_pos rfl, bit_putBit _ (by omega), if_pos rfl, h.serves n hn]

theorem EngineUp.servePx {s t : State} {a b : Nat} (ha : a ∈ List.range 96) (hb : b ∈ List.range 96) (hne : b ≠ a)
    (h : EngineUp s a t) : EngineUp s a (t.servePx b) := by
  rw [List.mem_range] at ha hb
  obtain ⟨hpx, hbay⟩ := h
  constructor
  · rw [State.rbit_eq, State.servePx_eq, State.setRbit_reg, if_neg (by simp only [Reg.BAY_STATUS, Reg.PX_STATUS]; omega),
      (t.pxShown_writes b).reg (by simp only [Reg.PX_STATUS, List.mem_singleton]; omega)]
    exact hpx
  · rw [State.rbit_eq, State.servePx_bayReg _ _ (by omega), ← hbay, State.rbit_eq]
    split
    · rw [bit_putBit _ (by omega), if_neg (by omega)]
    · rfl

/-! ### The Cue Engines -/

/-- The registers in which the Cue Engines come into service. -/
def ceStartRegs : List Nat := (List.range 16).flatMap fun n => [Reg.CE_STATUS n, Reg.CUEX_TGT_NEXT n, Reg.CUEX_TGT_STATUS n]

theorem State.startCe_writes (s : State) {n : Nat} (hn : n ∈ List.range 16) : Writes ceStartRegs s (s.startCe n) := by
  have hsub : ∀ k ∈ [Reg.CE_STATUS n, Reg.CUEX_TGT_NEXT n, Reg.CUEX_TGT_STATUS n], k ∈ ceStartRegs := fun k hk =>
    List.mem_flatMap.mpr ⟨n, hn, hk⟩
  have hstatus := ((Writes.refl ceStartRegs s).setReg (k := Reg.CE_STATUS n) (putBit (s.reg (Reg.CE_STATUS n)) 0 true)
    (hsub _ List.mem_cons_self)).setReg (k := Reg.CE_STATUS n)
      (putBit ((s.setRbit (Reg.CE_STATUS n) 0 true).reg (Reg.CE_STATUS n)) 6 true) (hsub _ List.mem_cons_self)
  exact hstatus.trans ((State.cuexSync_writes _ n).mono fun k hk => hsub k (List.mem_cons_of_mem _ hk))

/-- A Cue Engine started is in service, and stays so as others start. -/
theorem State.startCe_status (s : State) {a b : Nat} (ha : a ∈ List.range 16)
    (h : b = a ∨ s.rbit (Reg.CE_STATUS a) 0 = true) : (s.startCe b).rbit (Reg.CE_STATUS a) 0 = true := by
  rw [List.mem_range] at ha
  have hsync := State.cuexSync_writes ((s.setRbit (Reg.CE_STATUS b) 0 true).setRbit (Reg.CE_STATUS b) 6 true) b
  rw [State.rbit_eq, State.startCe, hsync.reg (by
    simp only [Reg.CE_STATUS, Reg.CUEX_TGT_NEXT, Reg.CUEX_TGT_STATUS, List.mem_cons, List.not_mem_nil, or_false]; omega)]
  by_cases hab : b = a
  · subst hab
    rw [State.setRbit_reg, if_pos rfl, bit_putBit _ (by decide), if_neg (by decide), State.setRbit_reg, if_pos rfl,
      bit_putBit _ (by decide), if_pos rfl]
  · have hne : Reg.CE_STATUS a ≠ Reg.CE_STATUS b := by
      simp only [Reg.CE_STATUS]
      omega
    rw [State.setRbit_reg, if_neg hne, State.setRbit_reg, if_neg hne]
    exact h.resolve_left hab

/-! ### All of them -/

/-- The release of domain 6 from fresh bays and engines that no reset holds. -/
theorem State.bootBays_up {s : State} (hpx : s.px = []) (hbays : s.bays = []) (hheld : ∀ n ∈ List.range 96, s.inReset (0x100 + n) = false) :
    (∀ b ∈ List.range 12, s.bootBays.rbit (Reg.BAY_STATUS b) 16 = !s.rbit Reg.REH_FAILED b) ∧
      (∀ n ∈ List.range 96, EngineUp s n s.bootBays) ∧ ∀ n ∈ List.range 16, s.bootBays.rbit (Reg.CE_STATUS n) 0 = true := by
  have hfresh : BaysRising s s := ⟨fun b hb => by
    rw [State.bay, hbays] at hb
    exact absurd hb Bool.false_ne_true, rfl, hpx, hheld⟩
  obtain ⟨hrising, hup⟩ := State.forEach_each (Q := BayUp s) (f := fun b u => u.startBay b) (l := List.range 12) hfresh
    (fun b _ u hu => hu.startBay b) fun a _ b _ hne u _ hu => hu.startBay hne
  have hall : ∀ n, n ∈ (List.range 12).flatMap enginesOf ↔ n ∈ List.range 96 := fun n => by
    simp only [List.mem_flatMap, mem_enginesOf, List.mem_range]
    constructor
    · rintro ⟨b, hb, rfl⟩
      omega
    · exact fun h => ⟨n / 8, by omega, rfl⟩
  obtain ⟨hengines, heach⟩ := State.forEach_each (Q := EngineUp s) (f := fun n u => u.servePx n)
    (l := (List.range 12).flatMap enginesOf) (hrising.serves hup) (fun n hn u hu => hu.servePx ((hall n).mp hn))
    fun a ha b hb hne u _ hu => hu.servePx ((hall a).mp ha) ((hall b).mp hb) hne
  rw [State.bootBays_eq]
  generalize ((s.forEach (List.range 12) fun b u => u.startBay b).forEach ((List.range 12).flatMap enginesOf) fun n u => u.servePx n) = v
    at hengines heach
  obtain ⟨hwrites, hce⟩ := State.forEach_each (P := Writes ceStartRegs v) (Q := fun n u => u.rbit (Reg.CE_STATUS n) 0 = true)
    (f := fun n u => u.startCe n) (l := List.range 16) (Writes.refl _ v)
    (fun n hn u hu => ⟨hu.trans (u.startCe_writes hn), u.startCe_status hn (.inl rfl)⟩)
    fun a ha b _ _ u _ hu => u.startCe_status ha (.inr hu)
  have hbayReg : ∀ b ∈ List.range 12, Reg.BAY_STATUS b ∉ ceStartRegs := by decide +kernel
  have hpxReg : ∀ n ∈ List.range 96, Reg.PX_STATUS n ∉ ceStartRegs := by decide +kernel
  refine ⟨fun b hb => ?_, fun n hn => ?_, hce⟩
  · rw [State.rbit_eq, hwrites.reg (hbayReg b hb)]
    exact hengines.bays b hb
  · have hbay : n / 8 ∈ List.range 12 := by
      rw [List.mem_range] at hn ⊢
      omega
    obtain ⟨hstatus, hbit⟩ := heach n ((hall n).mpr hn)
    constructor
    · rw [State.rbit_eq, hwrites.reg (hpxReg n hn)]
      exact hstatus
    · rw [State.rbit_eq, hwrites.reg (hbayReg _ hbay)]
      exact hbit

/-- A field of eight bits that are all alike. -/
theorem bits_byte_alike (w : Word) (v : Bool) (h : ∀ j < 8, bit w j = v) : bits w 7 0 = if v then 255 else 0 := by
  refine Nat.eq_of_testBit_eq fun j => ?_
  rw [bits_testBit, Nat.zero_add]
  by_cases hj : j < 8
  · rw [← bit_eq_testBit, h j hj, decide_eq_true (by omega), Bool.true_and]
    cases v
    · rw [if_neg Bool.false_ne_true, Nat.zero_testBit]
    · rw [if_pos rfl, show (255 : Nat) = 2 ^ 8 - 1 from rfl, Nat.testBit_two_pow_sub_one, decide_eq_true hj]
  · rw [decide_eq_false (by omega), Bool.false_and]
    cases v
    · rw [if_neg Bool.false_ne_true, Nat.zero_testBit]
    · rw [if_pos rfl, show (255 : Nat) = 2 ^ 8 - 1 from rfl, Nat.testBit_two_pow_sub_one, decide_eq_false hj]

end Sys2Proof.Machine

namespace Sys2Proof.Machine

/-! SUPPORT. What each release of a domain shows once it is done (R645). -/

section
variable {f : ReleaseFacts} {p : Nat} {s : State}

theorem State.letGo_one (s : State) (p : Nat) : (s.letGo [p]).rc.held = s.rc.held.filter (· != p) := by
  rw [State.letGo]
  exact List.filter_congr fun q _ => Bool.eq_iff_iff.mpr (by simp)

/-- A release leaves as it was what no step of it changes, and releases its domain. -/
theorem State.domainRelease_boots (h : p ∈ s.rc.held ∧ (∀ q ∈ s.rc.held, p ≤ q) ∧ s.rc.notReady = [] ∧ s.reached p = false)
    (h9 : p ≠ 9) : Boots (s.letGo [p]) (s.domainRelease f) ∧
      s.domainRelease f = ((s.letGo [p]).bootDomain f p).showRelease := by
  obtain ⟨hp, hmin, hready, hreach⟩ := h
  have hrun := State.domainRelease_first (f := f) hready hp hmin hreach h9
  rw [hrun]
  exact ⟨((s.letGo [p]).bootDomain_boots f p).writes (State.showRelease_writes _), rfl⟩

/-- A release completes with what it brings up, shown. -/
theorem completes_release {P : State → Prop}
    (h : p ∈ s.rc.held ∧ (∀ q ∈ s.rc.held, p ≤ q) ∧ s.rc.notReady = [] ∧ s.reached p = false) (h9 : p ≠ 9) {u : State}
    (hu : (s.letGo [p]).bootDomain f p = u) (hP : P u.showRelease) : Completes (.domainRelease f) s P :=
  ⟨_, congrArg Host.Outcome.next (State.domainRelease_boots (f := f) h h9).2, hu ▸ hP⟩

/-- The first load of a prompt book without its flash (R656). -/
theorem State.bootOptions_absent (h0 : (0 : Fin 3) ∈ f.absent) :
    let t := s.bootOptions f.absent
    t.fld Reg.OPT_STATUS 2 0 = 1 ∧ t.fld Reg.OPT_STATUS 5 4 = 1 ∧ t.rbit Reg.OPT_STATUS 10 = true ∧
      t.fld Reg.OPT_LOADS 7 0 = min 255 (s.fld Reg.OPT_LOADS 7 0 + 1) ∧ t.rc = { s.rc with notReady := s.rc.notReady ++ [2] } := by
  obtain ⟨hstate, hcount⟩ := s.bookStarted_status
  obtain ⟨-, hwrites, hst, hct, habs, hloads⟩ := s.bookStarted.optionLoad_absent
  have hold : s.bookStarted.fld Reg.OPT_LOADS 7 0 = s.fld Reg.OPT_LOADS 7 0 := by
    rw [State.fld_eq, State.bookStarted, State.setFld_reg, if_neg (by decide), State.setFld_reg, if_neg (by decide)]
    rfl
  rw [State.bootOptions_eq, State.optionStep_again h0 hcount.symm (by decide)]
  exact ⟨hst.trans hstate, by rw [hct, hcount], habs, hloads.trans (by rw [hold]), hwrites.regs.rc⟩

/-- The third load in a row without its flash (R658, R660). -/
theorem State.optionStep_third (h2 : (2 : Fin 3) ∈ f.absent) (hcount : s.fld Reg.OPT_STATUS 5 4 = 2) :
    let t := s.optionStep f.absent
    t.fld Reg.OPT_STATUS 2 0 = 4 ∧ t.rbit Reg.OPT_STATUS 10 = true ∧
      t.fld Reg.OPT_LOADS 7 0 = min 255 (s.fld Reg.OPT_LOADS 7 0 + 1) ∧ t.regN Reg.RESET_PWD_CFG = 100 ∧
      t.regN Reg.RESET_SMWD_CFG = 500 ∧ (∀ i ∈ List.range 9, t.regN (Reg.RESET_GAP i) = 250) ∧
      t.rc = { s.rc with notReady := s.rc.notReady.filter (· != 2) } := by
  obtain ⟨-, hwrites, -, -, habs, hloads⟩ := s.optionLoad_absent
  have hbook := State.showFlashOptions_writes ((s.optionLoad true).1.setFld Reg.OPT_STATUS 2 0 4) fallbackBlock
  have hset := State.optionsLoaded_writes (((s.optionLoad true).1.setFld Reg.OPT_STATUS 2 0 4).showFlashOptions fallbackBlock)
  obtain ⟨hgaps, hpwd, hsmwd⟩ := State.optionsLoaded_fallback
    (State.showFlashOptions_shows ((s.optionLoad true).1.setFld Reg.OPT_STATUS 2 0 4) fallbackBlock)
  rw [State.optionStep_fallback h2 hcount.symm (by decide)]
  refine ⟨?_, ?_, ?_, ?_, ?_, fun i hi => ?_, ?_⟩
  · rw [State.fld_eq, State.domainReady_reg _ _ (by decide), hset.reg (by decide), hbook.reg (by decide), State.setFld_reg, if_pos rfl,
      bits_putBits_same _ (by decide) (by decide)]
    rfl
  · rw [State.rbit_eq, State.domainReady_reg _ _ (by decide), hset.reg (by decide), hbook.reg (by decide), State.setFld_reg,
      if_pos rfl, bit_putBits_other _ (by decide) (by decide) _ (by decide), ← State.rbit_eq, habs]
  · rw [State.fld_eq, State.domainReady_reg _ _ (by decide), hset.reg (by decide), hbook.reg (by decide), State.setFld_reg,
      if_neg (by decide), ← State.fld_eq, hloads]
  · rw [State.regN_eq, State.domainReady_reg _ _ (by decide), ← State.regN_eq, hpwd]
  · rw [State.regN_eq, State.domainReady_reg _ _ (by decide), ← State.regN_eq, hsmwd]
  · have hne : Reg.RESET_GAP i ∉ resetRegs := by
      revert i
      decide
    rw [State.regN_eq, State.domainReady_reg _ _ hne, ← State.regN_eq, hgaps i hi]
  · rw [State.domainReady_rc, hset.regs.rc, hbook.regs.rc, State.setFld_rc, hwrites.regs.rc]

/-! ### What a release shows -/

theorem State.bootOptions_shown (h0 : (0 : Fin 3) ∈ f.absent) (hready : s.rc.notReady = []) (hheld : 2 ∉ s.rc.held) :
    let t := (s.bootOptions f.absent).showRelease
    t.fld Reg.OPT_STATUS 2 0 = 1 ∧ t.fld Reg.OPT_STATUS 5 4 = 1 ∧ t.rbit Reg.OPT_STATUS 10 = true ∧
      t.fld Reg.OPT_LOADS 7 0 = min 255 (s.fld Reg.OPT_LOADS 7 0 + 1) ∧ 2 ∉ t.rc.held ∧ t.rc.notReady = [2] := by
  obtain ⟨hst, hct, habs, hloads, hrc⟩ := State.bootOptions_absent (s := s) h0
  have hshow := State.showRelease_writes (s.bootOptions f.absent)
  refine ⟨?_, ?_, ?_, ?_, ?_, ?_⟩
  · rw [State.fld_eq, hshow.reg (by decide)]
    exact hst
  · rw [State.fld_eq, hshow.reg (by decide)]
    exact hct
  · rw [State.rbit_eq, hshow.reg (by decide)]
    exact habs
  · rw [State.fld_eq, hshow.reg (by decide)]
    exact hloads
  · rw [hshow.regs.rc, hrc]
    exact hheld
  · rw [hshow.regs.rc, hrc, hready]
    rfl

theorem State.bootDram_shown (f : ReleaseFacts) (hready : s.rc.notReady = []) (hfall : s.fallback = false) (hbook : DramBook s) :
    let t := (s.bootDram f).showRelease
    (∀ n ∈ List.range 4, t.dramState n = 1 ∧ t.regN (Reg.DRAM_CFG n) = 0x200 ∧ t.regN (Reg.DRAM_TRFC n) = 280 ∧
      t.enabled (0x010 + n) = true) ∧ t.rc.notReady = [4] ∧ t.dramSize = 2 ^ 32 := by
  obtain ⟨hset, hrc⟩ := State.bootDram_starts f hfall hbook
  have hshow := State.showRelease_writes (s.bootDram f)
  have hnot : ∀ n ∈ List.range 4, Reg.DRAM_STATUS n ∉ shownRegs ∧ Reg.DRAM_CFG n ∉ shownRegs ∧ Reg.DRAM_TRFC n ∉ shownRegs ∧
      blkCtrl (0x010 + n) ∉ shownRegs := by decide +kernel
  refine ⟨fun n hn => ?_, ?_, ?_⟩
  · obtain ⟨hst, hcfgReg, htrfcReg, hctrl⟩ := hnot n hn
    obtain ⟨⟨hcfg, htrfc⟩, hstate, hon⟩ := hset n hn
    refine ⟨?_, ?_, ?_, ?_⟩
    · rw [State.dramState, State.fld_eq, hshow.reg hst]
      exact hstate
    · rw [State.regN_eq, hshow.reg hcfgReg, hcfg]
      rfl
    · rw [State.regN_eq, hshow.reg htrfcReg, htrfc]
      rfl
    · rw [State.enabled, State.rbit_eq, hshow.reg hctrl]
      exact hon
  · rw [hshow.regs.rc, hrc, hready]
    rfl
  · rw [State.dramSize, State.rbit_eq, State.fld_eq, hshow.reg (hnot 0 (by decide)).2.1, (hset 0 (by decide)).1.1]
    decide

theorem State.bootBays_shown (hpx : s.px = []) (hbays : s.bays = []) (hheld : ∀ n ∈ List.range 96, s.inReset (0x100 + n) = false) :
    let t := s.bootBays.showRelease
    (∀ b ∈ List.range 12, t.fld (Reg.BAY_STATUS b) 7 0 = (if s.rbit Reg.REH_FAILED b then 0 else 255) ∧
      t.rbit (Reg.BAY_STATUS b) 16 = !s.rbit Reg.REH_FAILED b) ∧
    (∀ n ∈ List.range 96, t.rbit (Reg.PX_STATUS n) 0 = !s.rbit Reg.REH_FAILED (n / 8)) ∧
      ∀ n ∈ List.range 16, t.rbit (Reg.CE_STATUS n) 0 = true := by
  obtain ⟨hbayUp, hengine, hce⟩ := State.bootBays_up hpx hbays hheld
  have hshow := State.showRelease_writes s.bootBays
  have hbayReg : ∀ b ∈ List.range 12, Reg.BAY_STATUS b ∉ shownRegs := by decide +kernel
  have hpxReg : ∀ n ∈ List.range 96, Reg.PX_STATUS n ∉ shownRegs := by decide +kernel
  have hceReg : ∀ n ∈ List.range 16, Reg.CE_STATUS n ∉ shownRegs := by decide +kernel
  refine ⟨fun b hb => ⟨?_, ?_⟩, fun n hn => ?_, fun n hn => ?_⟩
  · have hbits : ∀ j < 8, s.bootBays.rbit (Reg.BAY_STATUS b) j = !s.rbit Reg.REH_FAILED b := fun j hj => by
      have hmem : 8 * b + j ∈ List.range 96 := by
        rw [List.mem_range] at hb ⊢
        omega
      obtain ⟨-, hbit⟩ := hengine (8 * b + j) hmem
      rwa [show (8 * b + j) / 8 = b by omega, show (8 * b + j) % 8 = j by omega] at hbit
    rw [State.fld_eq, hshow.reg (hbayReg b hb), bits_byte_alike _ _ hbits]
    cases s.rbit Reg.REH_FAILED b <;> rfl
  · rw [State.rbit_eq, hshow.reg (hbayReg b hb)]
    exact hbayUp b hb
  · rw [State.rbit_eq, hshow.reg (hpxReg n hn)]
    exact (hengine n hn).1
  · rw [State.rbit_eq, hshow.reg (hceReg n hn)]
    exact hce n hn

theorem State.bootNet_shown (n : Fin 4) {m : List Byte} (hm : s.otpBytes 0x108 6 = m) :
    let t := s.bootNet.showRelease
    t.regN (Reg.NET_MAC_HI n.val) = beNat (m.take 2) ∧
      t.regN (Reg.NET_MAC_LO n.val) = beNat ((m.drop 2).take 3) * 256 + (beNat (m.drop 5) + n.val) % 256 := by
  have hlen : m.length = 6 := by rw [← hm, State.otpBytes, getRange_length]
  have hmem : n.val ∈ List.range 4 := List.mem_range.mpr n.isLt
  have hnot : ∀ n ∈ List.range 4, Reg.NET_MAC_LO n ∉ shownRegs ∧ Reg.NET_MAC_HI n ∉ shownRegs := by decide +kernel
  obtain ⟨hlo, hhi⟩ := s.bootNet_regs n.val hmem
  rw [hm] at hlo hhi
  have hshow := State.showRelease_writes s.bootNet
  obtain ⟨hwordLo, hwordHi⟩ := macOfPort_words hlen n.val
  constructor
  · rw [State.regN_eq, hshow.reg (hnot _ hmem).2, hhi, BitVec.toNat_ofNat, ← hwordHi, Nat.mod_eq_of_lt]
    exact Nat.lt_of_lt_of_le (Nat.mod_lt _ (by decide)) (by decide)
  · rw [State.regN_eq, hshow.reg (hnot _ hmem).1, hlo, BitVec.toNat_ofNat, hwordLo]

theorem State.houseStarted_shown (s : State) :
    let t := (s.houseStarted 1).showRelease
    t.rc.house = true ∧ t.fld Reg.OPT_STATUS 15 13 = 1 ∧ t.rbit Reg.OPT_STATUS 12 = true ∧ t.rc.smwdStart = s.now ∧
      t.rc.smKick = none ∧ t.regN (Reg.DRAM_FENCE_WRITERS 1) = 0x101 ∧ t.regN (Reg.DRAM_FENCE_BASE 1) = s.codeBase / 4096 ∧
      t.rbit Reg.FAULT_CTRL 0 = true ∧ t.trust = s.trust ∧ t.mem = s.mem := by
  have hmarked := s.houseMarked_work 1
  obtain ⟨hcause, hon⟩ := s.houseMarked_status 1 (by decide)
  have hfence := State.codeFenced_writes (s.houseMarked 1)
  obtain ⟨hbase, hwriters, hlock⟩ := State.codeFenced_regs (s.houseMarked 1)
  have hshow := State.showRelease_writes (s.houseStarted 1)
  have hcode : (s.houseMarked 1).codeBase = s.codeBase :=
    State.codeBase_congr fun k hk => hmarked.regs k fun hmem => by
      revert k
      decide
  have hpage : s.codeBase / 4096 < 2 ^ 32 := by
    have hlt := s.codeBase_lt
    omega
  obtain ⟨hrc, htrust, hmem⟩ := s.houseStarted_kept 1
  refine ⟨?_, ?_, ?_, ?_, ?_, ?_, ?_, ?_, ?_, ?_⟩
  · rw [hshow.regs.rc, hrc]
  · rw [State.fld_eq, hshow.reg (by decide), State.houseStarted_reg, hfence.reg (by decide)]
    exact hcause
  · rw [State.rbit_eq, hshow.reg (by decide), State.houseStarted_reg, hfence.reg (by decide)]
    exact hon
  · rw [hshow.regs.rc, hrc]
  · rw [hshow.regs.rc, hrc]
  · rw [State.regN_eq, hshow.reg (by decide), State.houseStarted_reg, hwriters]
    rfl
  · rw [State.regN_eq, hshow.reg (by decide), State.houseStarted_reg, hbase, hcode, BitVec.toNat_ofNat, Nat.mod_eq_of_lt hpage]
  · rw [State.rbit_eq, hshow.reg (by decide), State.houseStarted_reg]
    exact hlock
  · exact (congrArg State.trust hshow.regs).trans htrust
  · exact (congrArg State.mem hshow.regs).trans hmem

end

/-- Settles O49: the first held domain is released, and what its release brings up is read off the registers it writes. That each
load of the prompt book and each step of the microcode load is a DOMAIN_RELEASE of its own is the model's choice (log entry 39). -/
theorem domainRelease : Obligations.DomainRelease := by
  unfold Obligations.DomainRelease
  refine ⟨?_, ?_, ?_, ?_, ?_, ?_, ?_, ?_, ?_, ?_⟩
  · rintro f p s ⟨hp, hmin, hready, hreach, h9⟩
    obtain ⟨hboots, -⟩ := State.domainRelease_boots (f := f) ⟨hp, hmin, hready, hreach⟩ h9
    simp only [Boots, State.bootView, Prod.mk.injEq] at hboots
    obtain ⟨hheld, hasserted, htb, hctxs, hhost, hotp, hflash, hmem⟩ := hboots
    exact ⟨_, rfl, hheld.trans (s.letGo_one p), hasserted, htb, hctxs, hhost, hotp, hflash, hmem⟩
  · rintro f s ⟨hp, hmin, hb, hready, hreach, hreachb⟩
    have hboots : Boots (s.letGo [9, 10]) (s.domainRelease f) := by
      rw [State.domainRelease_host hready hp hmin hb hreach hreachb]
      exact (State.showPcie_boots _).writes (State.showRelease_writes _)
    simp only [Boots, State.bootView, Prod.mk.injEq] at hboots
    obtain ⟨hheld, hasserted, -⟩ := hboots
    exact ⟨_, rfl, hheld.trans (List.filter_congr fun q _ => Bool.eq_iff_iff.mpr (by simp)), hasserted⟩
  · rintro f s ⟨h2, h5⟩ hstill
    refine congrArg Host.Outcome.next ?_
    by_cases hready : s.rc.notReady = []
    · rcases hstill with hne | hheld | ⟨p, hp, hmin, hreach⟩
      · exact absurd hready hne
      · rw [State.domainRelease, hready, hheld]
        rfl
      · exact State.domainRelease_reached hready hp hmin hreach
    · rw [State.domainRelease_busy hready, State.domainStep, if_neg (by simpa using h2), if_neg (by simpa using h5)]
  · rintro f s ⟨hp, hmin, hready, hreach, h0⟩
    exact completes_release ⟨hp, hmin, hready, hreach⟩ (by decide) (u := (s.letGo [2]).bootOptions f.absent) rfl
      (State.bootOptions_shown h0 hready (by simp [State.letGo]))
  · rintro f s ⟨hbusy, hcount, h2⟩
    have hrun : s.domainRelease f = s.optionStep f.absent := by
      rw [State.domainRelease_busy (List.ne_nil_of_mem hbusy), State.domainStep, if_pos (List.elem_eq_true_of_mem hbusy)]
    exact ⟨_, congrArg Host.Outcome.next hrun, State.optionStep_third h2 hcount⟩
  · rintro f s ⟨hbusy, h2, hstep⟩
    have hrun : s.domainRelease f = s.lastLoad := by
      rw [State.domainRelease_busy (List.ne_nil_of_mem hbusy), State.domainStep, if_neg (by simpa using h2),
        if_pos (List.elem_eq_true_of_mem hbusy), State.loadStep_last _ hstep]
    obtain ⟨hbase, hlimit, hwriters, hlock⟩ := s.lastLoad_fence
    refine ⟨_, congrArg Host.Outcome.next hrun, s.lastLoad_status, ?_, ?_, ?_, hwriters, hlock, s.lastLoad_rc⟩
    · rw [s.lastLoad_copyBase, Nat.mul_mod_left]
    · rw [s.lastLoad_copyBase, hbase, Nat.mul_div_cancel _ (by decide)]
    · rw [s.lastLoad_copyBase, hlimit, Nat.mul_div_cancel _ (by decide)]
  · rintro f s ⟨hp, hmin, hready, hreach⟩ ⟨hfall, hbook⟩
    exact completes_release ⟨hp, hmin, hready, hreach⟩ (by decide) (u := (s.letGo [4]).bootDram f) rfl
      (State.bootDram_shown f hready hfall hbook)
  · rintro f s ⟨hp, hmin, hready, hreach⟩ ⟨hpx, hbays, hheld⟩
    exact completes_release ⟨hp, hmin, hready, hreach⟩ (by decide) (u := (s.letGo [6]).bootBays) rfl
      (State.bootBays_shown (s := s.letGo [6]) hpx hbays hheld)
  · rintro f n m s ⟨hp, hmin, hready, hreach, hm⟩
    exact completes_release ⟨hp, hmin, hready, hreach⟩ (by decide) (u := (s.letGo [7]).bootNet) rfl
      (State.bootNet_shown (s := s.letGo [7]) n hm.symm)
  · rintro f s ⟨hp, hmin, hready, hreach⟩ ⟨hhouse, hreh⟩
    exact completes_release ⟨hp, hmin, hready, hreach⟩ (by decide)
      (State.bootStageManager_house (s := s.letGo [11]) f.readErrors hhouse hreh) (s.letGo [11]).houseStarted_shown

end Sys2Proof.Machine

namespace Sys2Proof.Machine

/-! SUPPORT. What the work of a DisplayPort output may change: its record, its registers and what the block has put out (R403 to
R410, R445). -/

theorem OnlyOut.refl (n : Nat) (s : State) : OnlyOut n s s := fun _ _ => rfl

theorem OnlyOut.trans {n : Nat} {s t u : State} (h : OnlyOut n s t) (k : OnlyOut n t u) : OnlyOut n s u :=
  fun m hm => (k m hm).trans (h m hm)

section
variable (s : State) (n : Nat)

@[simp] theorem State.modDpOut_dpOut (f : DpOut → DpOut) (m : Nat) :
    (s.modDpOut n f).dpOut m = if m = n then f (s.dpOut n) else s.dpOut m := Sparse.get_set _ _ _ _ _

theorem State.modDpOut_onlyOut (f : DpOut → DpOut) : OnlyOut n s (s.modDpOut n f) := fun m hm => by
  rw [State.modDpOut_dpOut, if_neg hm]

theorem State.raise_dpOut (src kind addr : Nat) : (s.raise src kind addr).dpOut n = s.dpOut n := by
  rw [State.raise_frame]; rfl

theorem OnlyRegs.dpOut {s t : State} (h : OnlyRegs s t) (n : Nat) : t.dpOut n = s.dpOut n := by rw [h]; rfl

end

/-- From `s` to `t` only output `n`, the listed registers and what the block has put out may differ. -/
structure OutWork (n : Nat) (ks : List Nat) (s t : State) : Prop where
  others : OnlyOut n s t
  only : SameRegs ks s t
  frame : t = { s with regs := t.regs, dpOuts := t.dpOuts, out := t.out }

namespace OutWork

variable {n : Nat} {ks ls : List Nat} {s t u : State}

theorem refl (n : Nat) (ks : List Nat) (s : State) : OutWork n ks s s := ⟨OnlyOut.refl n s, SameRegs.refl ks s, rfl⟩

theorem trans (h : OutWork n ks s t) (k : OutWork n ks t u) : OutWork n ks s u where
  others := h.others.trans k.others
  only := h.only.trans k.only
  frame := by
    have e := k.frame
    rw [h.frame] at e
    exact e

theorem mono (h : OutWork n ks s t) (hs : ks ⊆ ls) : OutWork n ls s t := ⟨h.others, h.only.mono hs, h.frame⟩

theorem setReg (h : OutWork n ks s t) {k : Nat} (v : Word) (hk : k ∈ ks) : OutWork n ks s (t.setReg k v) :=
  h.trans ⟨fun _ _ => rfl, fun j hj => by rw [State.setReg_reg, if_neg (by rintro rfl; exact hj hk)], rfl⟩

theorem modDpOut (h : OutWork n ks s t) (f : DpOut → DpOut) : OutWork n ks s (t.modDpOut n f) :=
  h.trans ⟨t.modDpOut_onlyOut n f, fun _ _ => rfl, rfl⟩

theorem emit (h : OutWork n ks s t) (o : Output) : OutWork n ks s (t.emit o) := h.trans ⟨fun _ _ => rfl, fun _ _ => rfl, rfl⟩

theorem writes (h : OutWork n ks s t) (k : Writes ks t u) : OutWork n ks s u :=
  h.trans ⟨fun m _ => k.regs.dpOut m, k.only, by rw [k.regs]⟩

end OutWork

/-! ### Registers that the sums and a raised message leave alone -/

theorem notMem_sumRegs {k : Nat} (hlo : 0x40000 ≤ k) (hhi : k < 0x180000) : k ∉ sumRegs := fun h => by
  have hall : ∀ j ∈ sumRegs, j < 0x40000 ∨ 0x180000 ≤ j := by decide
  have := hall k h
  omega

theorem notMem_faultRegs {kind k : Nat} (hkind : kind < 0x1000) (hk : 0x40000 ≤ k) : k ∉ faultRegs kind := by
  simp only [faultRegs, Reg.FAULT_SUPPRESSED, Reg.FAULT_OVERFLOWS, Reg.FAULT_KIND_COUNT, List.mem_cons, List.not_mem_nil, or_false,
    not_or]
  omega

section
variable {n : Nat}

theorem DP_OUT_STATUS_ne_ctrl : Reg.DP_OUT_STATUS n ≠ blkCtrl (outPage n) := by
  simp only [Reg.DP_OUT_STATUS, blkCtrl, hdr, outPage]; omega

theorem DP_OUT_STATUS_notMem_sumRegs (hn : n < 8) : Reg.DP_OUT_STATUS n ∉ sumRegs :=
  notMem_sumRegs (by simp only [Reg.DP_OUT_STATUS]; omega) (by simp only [Reg.DP_OUT_STATUS]; omega)

theorem outCtrl_notMem_sumRegs (hn : n < 8) : blkCtrl (outPage n) ∉ sumRegs :=
  notMem_sumRegs (by simp only [blkCtrl, hdr, outPage]; omega) (by simp only [blkCtrl, hdr, outPage]; omega)

end

/-! ### Training begins, the port turns off -/

section
variable (s : State) {n : Nat}

theorem State.outState_eq (n : Nat) : s.outState n = bits (s.reg (Reg.DP_OUT_STATUS n)) 3 0 := rfl

theorem State.setOutState_outState {v : Nat} (hv : v < 16) : (s.setOutState n v).outState n = v := by
  rw [State.outState_eq, State.setOutState, State.setFld_reg, if_pos rfl, bits_putBits_same _ (by decide) (by decide)]
  exact Nat.mod_eq_of_lt hv

theorem State.setOutState_rbit (v : Nat) {i : Nat} (hi : 3 < i) :
    (s.setOutState n v).rbit (Reg.DP_OUT_STATUS n) i = s.rbit (Reg.DP_OUT_STATUS n) i := by
  rw [State.rbit_eq, State.setOutState, State.setFld_reg, if_pos rfl, bit_putBits_other _ (by decide) (by decide) _ (.inr hi)]
  rfl

theorem State.outTrain_work : OutWork n [Reg.DP_OUT_STATUS n] s (s.outTrain n) :=
  (((OutWork.refl n _ s).setReg _ List.mem_cons_self).modDpOut _).emit _

theorem State.outTrain_state : (s.outTrain n).outState n = 2 := s.setOutState_outState (by decide)

theorem State.outTrain_rbit {i : Nat} (hi : 3 < i) :
    (s.outTrain n).rbit (Reg.DP_OUT_STATUS n) i = s.rbit (Reg.DP_OUT_STATUS n) i := s.setOutState_rbit 2 hi

theorem State.outTrain_dpOut : (s.outTrain n).dpOut n = { s.dpOut n with go := false } :=
  ((s.setOutState n 2).modDpOut_dpOut n (fun x => { x with go := false }) n).trans (if_pos rfl)

/-- The port off, before the sums of the ledger are shown (R408 steps 4 and 5). -/
def State.outIdled (s : State) (n : Nat) : State :=
  (((((s.setOutState n 0).setRbit (Reg.DP_OUT_STATUS n) 5 false).setFld (Reg.DP_OUT_STATUS n) 11 8 0).setRbit
    (blkCtrl (outPage n)) 0 false).modDpOut n fun x => { DpOut.init with aux := x.aux }).emit (.idlePattern n)

theorem State.outOff_eq (n : Nat) : s.outOff n = (s.outIdled n).showSums := rfl

theorem State.outOff_work : OutWork n (blkCtrl (outPage n) :: Reg.DP_OUT_STATUS n :: sumRegs) s (s.outOff n) := by
  have hstatus : Reg.DP_OUT_STATUS n ∈ blkCtrl (outPage n) :: Reg.DP_OUT_STATUS n :: sumRegs :=
    List.mem_cons_of_mem _ List.mem_cons_self
  have hidled : OutWork n (blkCtrl (outPage n) :: Reg.DP_OUT_STATUS n :: sumRegs) s (s.outIdled n) :=
    ((((((OutWork.refl n _ s).setReg _ hstatus).setReg _ hstatus).setReg _ hstatus).setReg _ List.mem_cons_self).modDpOut _).emit _
  exact hidled.writes ((s.outIdled n).showSums_writes.mono fun _ hk => List.mem_cons_of_mem _ (List.mem_cons_of_mem _ hk))

theorem State.outOff_state (hn : n < 8) : (s.outOff n).outState n = 0 := by
  have hstatus : (s.outIdled n).reg (Reg.DP_OUT_STATUS n) =
      putBits (putBit (putBits (s.reg (Reg.DP_OUT_STATUS n)) 3 0 0) 5 false) 11 8 0 := by
    rw [State.outIdled, State.emit_reg, State.modDpOut_reg, State.setRbit_reg, if_neg DP_OUT_STATUS_ne_ctrl, State.setFld_reg,
      if_pos rfl, State.setRbit_reg, if_pos rfl, State.setOutState, State.setFld_reg, if_pos rfl]
  rw [State.outState_eq, State.outOff_eq, (State.showSums_writes _).reg (DP_OUT_STATUS_notMem_sumRegs hn), hstatus,
    bits_putBits_other _ (by decide) (by decide) _ (by decide) (by decide),
    bits_putBit_other _ (by decide) (by decide) (by decide), bits_putBits_same _ (by decide) (by decide), Nat.zero_mod]

theorem State.outOff_enable (hn : n < 8) : (s.outOff n).rbit (blkCtrl (outPage n)) 0 = false := by
  have hctrl : (s.outIdled n).reg (blkCtrl (outPage n)) = putBit (s.reg (blkCtrl (outPage n))) 0 false := by
    rw [State.outIdled, State.emit_reg, State.modDpOut_reg, State.setRbit_reg, if_pos rfl, State.setFld_reg,
      if_neg DP_OUT_STATUS_ne_ctrl.symm, State.setRbit_reg, if_neg DP_OUT_STATUS_ne_ctrl.symm, State.setOutState, State.setFld_reg,
      if_neg DP_OUT_STATUS_ne_ctrl.symm]
  rw [State.rbit_eq, State.outOff_eq, (State.showSums_writes _).reg (outCtrl_notMem_sumRegs hn), hctrl, bit_putBit _ (by decide),
    if_pos rfl]

theorem State.outOff_dpOut : (s.outOff n).dpOut n = { DpOut.init with aux := (s.dpOut n).aux } := by
  rw [State.outOff_eq, (State.showSums_writes _).regs.dpOut]
  exact (State.modDpOut_dpOut _ n (fun x => { DpOut.init with aux := x.aux }) n).trans (if_pos rfl)

end

end Sys2Proof.Machine

namespace Sys2Proof.Machine

/-! SUPPORT. A DisplayPort output's enable, training and link loss (R404 to R408, R446). -/

/-- A command that a live block takes. -/
theorem completes_of_live {i : Instr} {b : Nat} {f : State → State} {s : State} {P : State → Prop}
    (hexec : exec i s = .next (s.ifLive b f)) (hl : s.live b = true) (h : P (f s)) : Completes i s P :=
  ⟨f s, hexec.trans (congrArg Host.Outcome.next (s.ifLive_of b f hl)), h⟩

/-! ### Enable -/

/-- The registers that an enable may write. -/
def outEnableRegs (n : Nat) : List Nat :=
  Reg.DP_OUT_STATUS n :: blkCtrl (outPage n) :: Reg.DP_OUT_FRAME_COUNT n :: sumRegs

/-- The port on, LOCKED as the time base is, its charge not yet formed (R408 step 1). -/
def State.outOn (s : State) (n : Nat) (locked : Bool) : State :=
  ((((s.setRbit (blkCtrl (outPage n)) 0 true).setOutState n 1).setRegN (Reg.DP_OUT_FRAME_COUNT n) 0).setRbit (Reg.DP_OUT_STATUS n) 6
    locked).modDpOut n fun x => { DpOut.init with aux := x.aux }

/-- The port on and its charge shown in the sums. -/
def State.outUp (s : State) (n : Nat) (locked : Bool) : State := ((s.outOn n locked).formPort n).showSums

/-- From `s` to `t` an output is enabled (R408 step 1). -/
structure OutEnabled (n : Nat) (s t : State) : Prop where
  ctrl : t.rbit (blkCtrl (outPage n)) 0 = true
  count : t.reg (Reg.DP_OUT_FRAME_COUNT n) = 0
  port : t.dpOut n = { DpOut.init with aux := (s.dpOut n).aux }
  others : OnlyOut n s t
  only : SameRegs (outEnableRegs n) s t
  frame : t = { s with regs := t.regs, ledger := t.ledger, dpOuts := t.dpOuts, out := t.out }

/-- The work of an output before a change of the ledger that registers show. -/
theorem OutWork.frame_before_ledger {n : Nat} {ks : List Nat} {s t u v : State} (h : OutWork n ks s t)
    (hu : u = { t with ledger := u.ledger }) (hv : OnlyRegs u v) :
    v = { s with regs := v.regs, ledger := v.ledger, dpOuts := v.dpOuts, out := v.out } := by
  rw [hv, hu, h.frame]

/-- The work of an output after a change that moved the ledger too. -/
theorem OutWork.frame_after_ledger {n : Nat} {ks : List Nat} {s t u : State} (k : OutWork n ks t u)
    (h : t = { s with regs := t.regs, ledger := t.ledger, dpOuts := t.dpOuts, out := t.out }) :
    u = { s with regs := u.regs, ledger := u.ledger, dpOuts := u.dpOuts, out := u.out } := by
  have hledger : u.ledger = t.ledger := by rw [k.frame]
  have e := k.frame
  rw [h] at e
  rw [hledger]
  exact e

section
variable {n : Nat} (s : State) (locked : Bool)

theorem DP_OUT_FRAME_COUNT_ne : Reg.DP_OUT_FRAME_COUNT n ≠ Reg.DP_OUT_STATUS n ∧ Reg.DP_OUT_FRAME_COUNT n ≠ blkCtrl (outPage n) := by
  simp only [Reg.DP_OUT_FRAME_COUNT, Reg.DP_OUT_STATUS, blkCtrl, hdr, outPage]; omega

theorem DP_OUT_FRAME_COUNT_notMem_sumRegs (hn : n < 8) : Reg.DP_OUT_FRAME_COUNT n ∉ sumRegs :=
  notMem_sumRegs (by simp only [Reg.DP_OUT_FRAME_COUNT]; omega) (by simp only [Reg.DP_OUT_FRAME_COUNT]; omega)

theorem State.outOn_work : OutWork n (outEnableRegs n) s (s.outOn n locked) := by
  have hstatus : Reg.DP_OUT_STATUS n ∈ outEnableRegs n := List.mem_cons_self
  have hctrl : blkCtrl (outPage n) ∈ outEnableRegs n := List.mem_cons_of_mem _ List.mem_cons_self
  have hcount : Reg.DP_OUT_FRAME_COUNT n ∈ outEnableRegs n := List.mem_cons_of_mem _ (List.mem_cons_of_mem _ List.mem_cons_self)
  exact (((((OutWork.refl n _ s).setReg _ hctrl).setReg _ hstatus).setReg _ hcount).setReg _ hstatus).modDpOut _

theorem State.outOn_status :
    (s.outOn n locked).reg (Reg.DP_OUT_STATUS n) = putBit (putBits (s.reg (Reg.DP_OUT_STATUS n)) 3 0 1) 6 locked := by
  rw [State.outOn, State.modDpOut_reg, State.setRbit_reg, if_pos rfl, State.setRegN_reg, if_neg DP_OUT_FRAME_COUNT_ne.1.symm,
    State.setOutState, State.setFld_reg, if_pos rfl, State.setRbit_reg, if_neg DP_OUT_STATUS_ne_ctrl]

theorem State.outOn_ctrl : (s.outOn n locked).reg (blkCtrl (outPage n)) = putBit (s.reg (blkCtrl (outPage n))) 0 true := by
  rw [State.outOn, State.modDpOut_reg, State.setRbit_reg, if_neg DP_OUT_STATUS_ne_ctrl.symm, State.setRegN_reg,
    if_neg DP_OUT_FRAME_COUNT_ne.2.symm, State.setOutState, State.setFld_reg, if_neg DP_OUT_STATUS_ne_ctrl.symm, State.setRbit_reg,
    if_pos rfl]

theorem State.outOn_count : (s.outOn n locked).reg (Reg.DP_OUT_FRAME_COUNT n) = 0 := by
  rw [State.outOn, State.modDpOut_reg, State.setRbit_reg, if_neg DP_OUT_FRAME_COUNT_ne.1, State.setRegN_reg, if_pos rfl]
  rfl

theorem State.outOn_dpOut : (s.outOn n locked).dpOut n = { DpOut.init with aux := (s.dpOut n).aux } :=
  (State.modDpOut_dpOut _ n (fun x => { DpOut.init with aux := x.aux }) n).trans (if_pos rfl)

theorem State.outUp_reg {k : Nat} (hk : k ∉ sumRegs) : (s.outUp n locked).reg k = (s.outOn n locked).reg k := by
  rw [State.outUp, (State.showSums_writes _).reg hk]
  rfl

theorem State.outUp_dpOut (m : Nat) : (s.outUp n locked).dpOut m = (s.outOn n locked).dpOut m := by
  rw [State.outUp, (State.showSums_writes _).regs.dpOut]
  rfl

theorem State.outUp_enabled (hn : n < 8) : OutEnabled n s (s.outUp n locked) where
  ctrl := by
    rw [State.rbit_eq, s.outUp_reg _ (outCtrl_notMem_sumRegs hn), s.outOn_ctrl, bit_putBit _ (by decide), if_pos rfl]
  count := (s.outUp_reg _ (DP_OUT_FRAME_COUNT_notMem_sumRegs hn)).trans (s.outOn_count _)
  port := (s.outUp_dpOut _ n).trans (s.outOn_dpOut _)
  others := fun m hm => (s.outUp_dpOut _ m).trans ((s.outOn_work _).others m hm)
  only := fun k hk => (s.outUp_reg _ fun h => hk (List.mem_append_right [_, _, _] h)).trans ((s.outOn_work _).only k hk)
  frame := (s.outOn_work locked).frame_before_ledger rfl (State.showSums_writes _).regs

theorem State.outUp_state (hn : n < 8) : (s.outUp n locked).outState n = 1 := by
  rw [State.outState_eq, s.outUp_reg _ (DP_OUT_STATUS_notMem_sumRegs hn), s.outOn_status,
    bits_putBit_other _ (by decide) (by decide) (by decide), bits_putBits_same _ (by decide) (by decide), Nat.mod_eq_of_lt (by decide)]

theorem State.outUp_hpd (hn : n < 8) : (s.outUp n locked).rbit (Reg.DP_OUT_STATUS n) 4 = s.rbit (Reg.DP_OUT_STATUS n) 4 := by
  rw [State.rbit_eq, s.outUp_reg _ (DP_OUT_STATUS_notMem_sumRegs hn), s.outOn_status, bit_putBit _ (by decide), if_neg (by decide),
    bit_putBits_other _ (by decide) (by decide) _ (.inr (by decide))]
  rfl

variable {s}

theorem OutEnabled.train {t : State} (h : OutEnabled n s t) : OutEnabled n s (t.outTrain n) where
  ctrl := (congrArg (bit · 0) (t.outTrain_work.only _ (by simpa using DP_OUT_STATUS_ne_ctrl.symm))).trans h.ctrl
  count := (t.outTrain_work.only _ (by simpa using DP_OUT_FRAME_COUNT_ne.1)).trans h.count
  port := by rw [t.outTrain_dpOut, h.port]; rfl
  others := h.others.trans t.outTrain_work.others
  only := h.only.trans (t.outTrain_work.only.mono (List.cons_subset_cons _ (List.nil_subset _)))
  frame := (t.outTrain_work (n := n)).frame_after_ledger h.frame

theorem State.outEnable_up (hoff : s.outState n = 0) (htiming : s.outTimingBad n = false)
    (hlink : s.linkShort n (s.fld (Reg.DP_OUT_CTRL n) 1 0) (s.fld (Reg.DP_OUT_CTRL n) 3 2) = false) :
    ∃ locked, s.outEnable n =
      if (s.outUp n locked).rbit (Reg.DP_OUT_STATUS n) 4 then (s.outUp n locked).outTrain n else s.outUp n locked := by
  refine ⟨((s.setRbit (blkCtrl (outPage n)) 0 true).setOutState n 1).locked, ?_⟩
  rw [State.fld_eq, State.fld_eq] at hlink
  rw [State.outEnable]
  dsimp only
  rw [hoff, htiming, hlink]
  rfl

theorem State.outEnable_badTiming (hoff : s.outState n = 0) (htiming : s.outTimingBad n = true) :
    s.outEnable n = (s.setRegN (Reg.DP_OUT_CFG_STATUS n) 1).setRbit (blkCtrl (outPage n)) 0 false := by
  rw [State.outEnable]
  dsimp only
  rw [hoff, htiming]
  rfl

theorem State.outEnable_linkShort (hoff : s.outState n = 0) (htiming : s.outTimingBad n = false)
    (hlink : s.linkShort n (s.fld (Reg.DP_OUT_CTRL n) 1 0) (s.fld (Reg.DP_OUT_CTRL n) 3 2) = true) :
    s.outEnable n = (s.setRegN (Reg.DP_OUT_CFG_STATUS n) 2).setRbit (blkCtrl (outPage n)) 0 false := by
  rw [State.fld_eq, State.fld_eq] at hlink
  rw [State.outEnable]
  dsimp only
  rw [hoff, htiming, hlink]
  rfl

end

/-! ### Hot plug -/

/-- HPD shown high. -/
def State.hpdHigh (s : State) (n : Nat) : State := s.setRbit (Reg.DP_OUT_STATUS n) 4 true

section
variable (s : State) (n : Nat)

theorem State.hpdHigh_rbit : (s.hpdHigh n).rbit (Reg.DP_OUT_STATUS n) 4 = true := by
  rw [State.rbit_eq, State.hpdHigh, State.setRbit_reg, if_pos rfl, bit_putBit _ (by decide), if_pos rfl]

theorem State.hpdHigh_state : (s.hpdHigh n).outState n = s.outState n := by
  rw [State.outState_eq, State.hpdHigh, State.setRbit_reg, if_pos rfl, bits_putBit_other _ (by decide) (by decide) (by decide)]
  rfl

theorem State.hpdHigh_auto : (s.hpdHigh n).rbit (Reg.DP_OUT_CTRL n) 10 = s.rbit (Reg.DP_OUT_CTRL n) 10 := by
  have hne : Reg.DP_OUT_CTRL n ≠ Reg.DP_OUT_STATUS n := by simp only [Reg.DP_OUT_CTRL, Reg.DP_OUT_STATUS]; omega
  rw [State.rbit_eq, State.hpdHigh, State.setRbit_reg, if_neg hne]
  rfl

theorem State.hpdHigh_work : OutWork n [Reg.DP_OUT_STATUS n] s (s.hpdHigh n) := (OutWork.refl n _ s).setReg _ List.mem_cons_self

/-- HPD high starts training from STATE 1, and from STATE 4 with AUTO. -/
theorem State.outHpd_eq : s.outHpd n =
    if s.outState n = 1 ∨ (s.outState n = 4 ∧ s.rbit (Reg.DP_OUT_CTRL n) 10 = true) then (s.hpdHigh n).outTrain n
    else s.hpdHigh n := by
  have hhigh : s.outHpd n = if (s.hpdHigh n).outState n == 1 || ((s.hpdHigh n).outState n == 4 && (s.hpdHigh n).rbit (Reg.DP_OUT_CTRL n) 10)
      then (s.hpdHigh n).outTrain n else s.hpdHigh n := rfl
  rw [hhigh, s.hpdHigh_state n, s.hpdHigh_auto n]
  simp only [Bool.or_eq_true, Bool.and_eq_true, beq_iff_eq]

end

end Sys2Proof.Machine

namespace Sys2Proof.Machine

/-! SUPPORT. The end of a DisplayPort output's training, and the loss of its link (R406, R407, R408 steps 3 and 6). -/

/-! ### Training -/

theorem State.tryLinks_eq (s : State) (n : Nat) (l : List (Nat × Nat)) :
    s.tryLinks n l = { s with out := (s.tryLinks n l).out } :=
  State.forEach_ind (P := fun u => u = { s with out := u.out }) (fun _ u h => by rw [State.emit, h]) rfl

theorem State.tryLinks_work (s : State) (n : Nat) (ks : List Nat) (l : List (Nat × Nat)) : OutWork n ks s (s.tryLinks n l) :=
  ⟨fun _ _ => by rw [s.tryLinks_eq]; rfl, fun _ _ => by rw [s.tryLinks_eq]; rfl, by rw [s.tryLinks_eq]⟩

/-- The settings of R406 are codes of two bits. -/
theorem State.trainOrder_lt {s : State} {n l r : Nat} (h : (l, r) ∈ s.trainOrder n) : l < 4 ∧ r < 4 := by
  have hl := bits_lt (s.reg (Reg.DP_OUT_CTRL n)) 1 0
  have hr := bits_lt (s.reg (Reg.DP_OUT_CTRL n)) 3 2
  simp only [State.trainOrder, State.fld_eq] at h
  split at h
  · obtain ⟨a, ha, b, hb, he⟩ : ∃ a ∈ (List.range (bits (s.reg (Reg.DP_OUT_CTRL n)) 1 0 + 1)).reverse,
        ∃ b ∈ (List.range (bits (s.reg (Reg.DP_OUT_CTRL n)) 3 2 + 1)).reverse, (a, b) = (l, r) := by
      simpa only [List.mem_flatMap, List.mem_map] using List.mem_of_mem_filter h
    rw [List.mem_reverse, List.mem_range] at ha hb
    obtain ⟨rfl, rfl⟩ := Prod.mk.inj he
    omega
  · obtain ⟨rfl, rfl⟩ := Prod.mk.inj (List.mem_singleton.mp h)
    exact ⟨hl, hr⟩

/-- The port trained at a setting: its codes, its latency, video from the next frame start. -/
def State.linkUp (s : State) (n l r : Nat) : State :=
  (((s.setFld (Reg.DP_OUT_STATUS n) 9 8 l).setFld (Reg.DP_OUT_STATUS n) 11 10 r).setReg (Reg.DP_OUT_TX_LATENCY n)
    (Config.dpTxLatency r)).modDpOut n fun x => { x with go := true }

section
variable {n : Nat} {ok : List (Nat × Nat)} {s : State} {l r : Nat}

/-- The settings tried before the first at which the link trains, and that one. -/
def State.triedLinks (s : State) (n : Nat) (ok : List (Nat × Nat)) (l r : Nat) : State :=
  (s.tryLinks n ((s.trainOrder n).takeWhile fun p => !ok.elem p)).tryLinks n [(l, r)]

theorem State.outTrained_up (hstate : s.outState n = 2) (hfirst : (s.trainOrder n).find? (fun p => ok.elem p) = some (l, r)) :
    s.outTrained n ok = (s.triedLinks n ok l r).linkUp n l r := by
  rw [State.outTrained, hstate]
  simp only [hfirst]
  rfl

theorem State.outTrained_failed (hstate : s.outState n = 2) (hnone : ∀ p ∈ s.trainOrder n, p ∉ ok) :
    s.outTrained n ok = ((s.tryLinks n (s.trainOrder n)).setRegN (Reg.DP_OUT_CFG_STATUS n) 3).outOff n := by
  have hfind : (s.trainOrder n).find? (fun p => ok.elem p) = none :=
    List.find?_eq_none.mpr fun p hp => by simpa using hnone p hp
  rw [State.outTrained, hstate]
  simp only [hfind]
  rfl

theorem State.triedLinks_work (ks : List Nat) : OutWork n ks s (s.triedLinks n ok l r) :=
  (s.tryLinks_work n ks _).trans (State.tryLinks_work _ n ks _)

theorem State.triedLinks_dpOut : (s.triedLinks n ok l r).dpOut n = s.dpOut n := by
  rw [State.triedLinks, State.tryLinks_eq, State.tryLinks_eq]
  rfl

theorem State.linkUp_work : OutWork n [Reg.DP_OUT_STATUS n, Reg.DP_OUT_TX_LATENCY n] s (s.linkUp n l r) :=
  ((((OutWork.refl n _ s).setReg _ List.mem_cons_self).setReg _ List.mem_cons_self).setReg _
    (List.mem_cons_of_mem _ List.mem_cons_self)).modDpOut _

theorem State.linkUp_status : (s.linkUp n l r).reg (Reg.DP_OUT_STATUS n) =
    putBits (putBits (s.reg (Reg.DP_OUT_STATUS n)) 9 8 l) 11 10 r := by
  have hne : Reg.DP_OUT_STATUS n ≠ Reg.DP_OUT_TX_LATENCY n := by simp only [Reg.DP_OUT_STATUS, Reg.DP_OUT_TX_LATENCY]; omega
  rw [State.linkUp, State.modDpOut_reg, State.setReg_reg, if_neg hne, State.setFld_reg, if_pos rfl, State.setFld_reg, if_pos rfl]

theorem State.linkUp_state : (s.linkUp n l r).outState n = s.outState n := by
  rw [State.outState_eq, State.linkUp_status, bits_putBits_other _ (by decide) (by decide) _ (by decide) (by decide),
    bits_putBits_other _ (by decide) (by decide) _ (by decide) (by decide)]
  rfl

theorem State.linkUp_lanes (hl : l < 4) : (s.linkUp n l r).fld (Reg.DP_OUT_STATUS n) 9 8 = l := by
  rw [State.fld_eq, State.linkUp_status, bits_putBits_other _ (by decide) (by decide) _ (by decide) (by decide),
    bits_putBits_same _ (by decide) (by decide)]
  exact Nat.mod_eq_of_lt hl

theorem State.linkUp_rate (hr : r < 4) : (s.linkUp n l r).fld (Reg.DP_OUT_STATUS n) 11 10 = r := by
  rw [State.fld_eq, State.linkUp_status, bits_putBits_same _ (by decide) (by decide)]
  exact Nat.mod_eq_of_lt hr

theorem State.linkUp_dpOut : (s.linkUp n l r).dpOut n = { s.dpOut n with go := true } :=
  (State.modDpOut_dpOut _ n (fun x => { x with go := true }) n).trans (if_pos rfl)

theorem OutWork.outState {ks : List Nat} {t : State} (h : OutWork n ks s t) (hk : Reg.DP_OUT_STATUS n ∉ ks) :
    t.outState n = s.outState n := congrArg (bits · 3 0) (h.only _ hk)

theorem State.outOff_reg {k : Nat} (hk : k ∉ blkCtrl (outPage n) :: Reg.DP_OUT_STATUS n :: sumRegs) :
    (s.outOff n).reg k = s.reg k := s.outOff_work.only k hk

theorem DP_OUT_CFG_STATUS_notMem (hn : n < 8) :
    Reg.DP_OUT_CFG_STATUS n ∉ blkCtrl (outPage n) :: Reg.DP_OUT_STATUS n :: sumRegs := by
  rw [List.mem_cons, List.mem_cons, not_or, not_or]
  refine ⟨?_, ?_, notMem_sumRegs ?_ ?_⟩ <;> simp only [Reg.DP_OUT_CFG_STATUS, Reg.DP_OUT_STATUS, blkCtrl, hdr, outPage] <;> omega

end

/-! ### Link loss -/

/-- The registers that a link loss may write. -/
def linkLossRegs (n : Nat) : List Nat := Reg.DP_OUT_STATUS n :: Reg.DP_OUT_RETRAINS n :: faultRegs FaultKind.DP_LINK_LOST

/-- HPD as a link loss shows it: low where it was low for more than 2 ms (R407). -/
def State.hpdLow (s : State) (n : Nat) (low : Bool) : State := s.doIf low fun s => s.setRbit (Reg.DP_OUT_STATUS n) 4 false

/-- The port without video, the loss counted. -/
def State.linkDown (s : State) (n : Nat) : State :=
  ((s.setOutState n 4).modDpOut n fun x => { x with go := false }).bump (Reg.DP_OUT_RETRAINS n) 1

/-- From `s` to `t` an output has lost its link. -/
structure LinkLost (n : Nat) (s t : State) : Prop where
  go : (t.dpOut n).go = false
  count : t.reg (Reg.DP_OUT_RETRAINS n) = sat32 (s.regN (Reg.DP_OUT_RETRAINS n) + 1)
  others : OnlyOut n s t
  only : SameRegs (linkLossRegs n) s t
  frame : t = { s with regs := t.regs, fc := t.fc, dpOuts := t.dpOuts, out := t.out }

/-- A message raised after the work of an output. -/
theorem OutWork.frame_before_raise {n : Nat} {ks : List Nat} {s t : State} (h : OutWork n ks s t) (src kind addr : Nat) {u : State}
    (hu : u = t.raise src kind addr) : u = { s with regs := u.regs, fc := u.fc, dpOuts := u.dpOuts, out := u.out } := by
  have hraise := t.raise_frame src kind addr
  rw [← hu] at hraise
  rw [hraise, h.frame]

/-- The work of an output after a message was raised. -/
theorem OutWork.frame_after_raise {n : Nat} {ks : List Nat} {s t u : State} (k : OutWork n ks t u)
    (h : t = { s with regs := t.regs, fc := t.fc, dpOuts := t.dpOuts, out := t.out }) :
    u = { s with regs := u.regs, fc := u.fc, dpOuts := u.dpOuts, out := u.out } := by
  have hfc : u.fc = t.fc := by rw [k.frame]
  have e := k.frame
  rw [h] at e
  rw [hfc]
  exact e

section
variable {n : Nat} (s : State) (low : Bool)

theorem DP_OUT_RETRAINS_ne : Reg.DP_OUT_RETRAINS n ≠ Reg.DP_OUT_STATUS n := by
  simp only [Reg.DP_OUT_RETRAINS, Reg.DP_OUT_STATUS]; omega

theorem DP_OUT_STATUS_notMem_faultRegs : Reg.DP_OUT_STATUS n ∉ faultRegs FaultKind.DP_LINK_LOST :=
  notMem_faultRegs (by decide) (by simp only [Reg.DP_OUT_STATUS]; omega)

theorem DP_OUT_RETRAINS_notMem_faultRegs : Reg.DP_OUT_RETRAINS n ∉ faultRegs FaultKind.DP_LINK_LOST :=
  notMem_faultRegs (by decide) (by simp only [Reg.DP_OUT_RETRAINS]; omega)

theorem State.hpdLow_status :
    (s.hpdLow n low).reg (Reg.DP_OUT_STATUS n) =
      if low then putBit (s.reg (Reg.DP_OUT_STATUS n)) 4 false else s.reg (Reg.DP_OUT_STATUS n) := by
  cases low
  · rfl
  · exact (State.setRbit_reg s _ _ _ _).trans (if_pos rfl)

theorem State.hpdLow_state : (s.hpdLow n low).outState n = s.outState n := by
  rw [State.outState_eq, s.hpdLow_status]
  cases low
  · rfl
  · exact bits_putBit_other _ (by decide) (by decide) (by decide) _

theorem State.hpdLow_work : OutWork n [Reg.DP_OUT_STATUS n, Reg.DP_OUT_RETRAINS n] s (s.hpdLow n low) :=
  State.doIf_ind (P := OutWork n _ s) (OutWork.refl n _ s) ((OutWork.refl n _ s).setReg _ List.mem_cons_self)

theorem State.linkDown_work : OutWork n [Reg.DP_OUT_STATUS n, Reg.DP_OUT_RETRAINS n] s (s.linkDown n) :=
  (((OutWork.refl n _ s).setReg _ List.mem_cons_self).modDpOut _).setReg _ (List.mem_cons_of_mem _ List.mem_cons_self)

theorem State.linkDown_status : (s.linkDown n).reg (Reg.DP_OUT_STATUS n) = putBits (s.reg (Reg.DP_OUT_STATUS n)) 3 0 4 := by
  rw [State.linkDown, State.bump_reg, if_neg DP_OUT_RETRAINS_ne.symm, State.modDpOut_reg, State.setOutState, State.setFld_reg, if_pos rfl]

theorem State.linkDown_count : (s.linkDown n).reg (Reg.DP_OUT_RETRAINS n) = sat32 (s.regN (Reg.DP_OUT_RETRAINS n) + 1) := by
  rw [State.linkDown, State.bump_reg, if_pos rfl, State.regN_eq, State.modDpOut_reg, State.setOutState, State.setFld_reg,
    if_neg DP_OUT_RETRAINS_ne]
  rfl

theorem State.linkDown_go : ((s.linkDown n).dpOut n).go = false :=
  congrArg DpOut.go ((State.modDpOut_dpOut _ n (fun x => { x with go := false }) n).trans (if_pos rfl))

/-- The loss reported (R407). -/
def State.lossRaised (s : State) (n : Nat) (low : Bool) : State :=
  ((s.hpdLow n low).linkDown n).raise (416 + n) FaultKind.DP_LINK_LOST 0

theorem State.lossRaised_work : OutWork n [Reg.DP_OUT_STATUS n, Reg.DP_OUT_RETRAINS n] s ((s.hpdLow n low).linkDown n) :=
  (s.hpdLow_work low).trans (State.linkDown_work _)

theorem State.lossRaised_reg {k : Nat} (hk : k ∉ faultRegs FaultKind.DP_LINK_LOST) :
    (s.lossRaised n low).reg k = ((s.hpdLow n low).linkDown n).reg k := State.raise_sameRegs _ _ _ _ k hk

theorem State.lossRaised_lost : LinkLost n s (s.lossRaised n low) where
  go := by rw [State.lossRaised, State.raise_dpOut, State.linkDown_go]
  count := by
    have hcount : (s.hpdLow n low).reg (Reg.DP_OUT_RETRAINS n) = s.reg (Reg.DP_OUT_RETRAINS n) := by
      cases low
      · rfl
      · exact (State.setRbit_reg s _ _ _ _).trans (if_neg DP_OUT_RETRAINS_ne)
    rw [s.lossRaised_reg low DP_OUT_RETRAINS_notMem_faultRegs, State.linkDown_count, State.regN_eq, hcount]
    rfl
  others := fun m hm => by rw [State.lossRaised, State.raise_dpOut, (s.lossRaised_work low).others m hm]
  only := fun k hk => by
    have hwrites : k ∉ [Reg.DP_OUT_STATUS n, Reg.DP_OUT_RETRAINS n] := fun h => hk (List.mem_append_left (faultRegs _) h)
    rw [s.lossRaised_reg low fun h => hk (List.mem_append_right [_, _] h), (s.lossRaised_work low).only k hwrites]
  frame := (s.lossRaised_work low).frame_before_raise _ _ _ rfl

theorem State.lossRaised_status :
    (s.lossRaised n low).reg (Reg.DP_OUT_STATUS n) = putBits ((s.hpdLow n low).reg (Reg.DP_OUT_STATUS n)) 3 0 4 := by
  rw [s.lossRaised_reg low DP_OUT_STATUS_notMem_faultRegs, State.linkDown_status]

theorem State.lossRaised_state : (s.lossRaised n low).outState n = 4 := by
  rw [State.outState_eq, s.lossRaised_status, bits_putBits_same _ (by decide) (by decide), Nat.mod_eq_of_lt (by decide)]

theorem State.lossRaised_hpd : (s.lossRaised n true).rbit (Reg.DP_OUT_STATUS n) 4 = false := by
  rw [State.rbit_eq, s.lossRaised_status, s.hpdLow_status, bit_putBits_other _ (by decide) (by decide) _ (.inr (by decide)), if_pos rfl,
    bit_putBit _ (by decide), if_pos rfl]

theorem State.lossRaised_auto : (s.lossRaised n low).rbit (Reg.DP_OUT_CTRL n) 10 = s.rbit (Reg.DP_OUT_CTRL n) 10 := by
  have hctrl : Reg.DP_OUT_CTRL n ∉ linkLossRegs n := by
    rw [linkLossRegs, List.mem_cons, List.mem_cons, not_or, not_or]
    refine ⟨?_, ?_, notMem_faultRegs (by decide) ?_⟩ <;> simp only [Reg.DP_OUT_CTRL, Reg.DP_OUT_STATUS, Reg.DP_OUT_RETRAINS] <;> omega
  rw [State.rbit_eq, (s.lossRaised_lost low).only _ hctrl]
  rfl

variable {s low}

theorem LinkLost.train {t : State} (h : LinkLost n s t) : LinkLost n s (t.outTrain n) where
  go := congrArg DpOut.go t.outTrain_dpOut
  count := (t.outTrain_work.only _ (by simpa using DP_OUT_RETRAINS_ne)).trans h.count
  others := h.others.trans t.outTrain_work.others
  only := h.only.trans (t.outTrain_work.only.mono (List.cons_subset_cons _ (List.nil_subset _)))
  frame := (t.outTrain_work (n := n)).frame_after_raise h.frame

theorem State.outLoss_eq (hon : s.outState n = 2 ∨ s.outState n = 3) :
    s.outLoss n low =
      if low = false ∧ s.rbit (Reg.DP_OUT_CTRL n) 10 = true then (s.lossRaised n low).outTrain n else s.lossRaised n low := by
  have hlost : s.outLoss n low = if (s.hpdLow n low).outState n == 2 || (s.hpdLow n low).outState n == 3 then
      (if !low && (s.lossRaised n low).rbit (Reg.DP_OUT_CTRL n) 10 then (s.lossRaised n low).outTrain n else s.lossRaised n low)
      else s.hpdLow n low := rfl
  rw [hlost, s.hpdLow_state low, if_pos (by simpa using hon), s.lossRaised_auto low]
  simp only [Bool.and_eq_true, Bool.not_eq_true']

end

end Sys2Proof.Machine

namespace Sys2Proof.Machine

/-! SUPPORT. The AUX transactions of a DisplayPort output (R410, R445). -/

/-! ### Bytes kept in words, four to a word -/

theorem leNat_lt (bs : List Byte) : leNat bs < 256 ^ bs.length := by
  induction bs with
  | nil => exact Nat.one_pos
  | cons b bs ih =>
    have hb := b.isLt
    have hcons : leNat (b :: bs) = b.toNat + 256 * leNat bs := rfl
    rw [hcons, List.length_cons, Nat.pow_succ']
    omega

theorem leAt_lt (bs : List Byte) (o n : Nat) : leAt bs o n < 256 ^ n :=
  (leNat_lt _).trans_le (Nat.pow_le_pow_right (by decide) (List.length_take_le _ _))

/-- The bytes of a number that was read from a list are those of the list, as far as it goes. -/
theorem take_leBytes_leNat (k : Nat) : ∀ b : List Byte, (leBytes k (leNat (b.take k))).take b.length = b.take k := by
  induction k with
  | zero => exact fun _ => List.take_nil
  | succ k ih =>
    intro b
    cases b with
    | nil => rfl
    | cons x r =>
      have hx := x.isLt
      have hnum : leNat ((x :: r).take (k + 1)) = x.toNat + 256 * leNat (r.take k) := rfl
      have hhead : BitVec.ofNat 8 (x.toNat + 256 * leNat (r.take k)) = x := BitVec.eq_of_toNat_eq (by rw [BitVec.toNat_ofNat]; omega)
      have hrest : (x.toNat + 256 * leNat (r.take k)) / 256 = leNat (r.take k) := by omega
      rw [hnum, leBytes, hhead, hrest, List.length_cons, List.take_succ_cons, List.take_succ_cons, ih]

/-- Words that hold the bytes of a list in turn give the list back. -/
theorem take_flatMap_leBytes {k : Nat} : ∀ {b : List Byte} {w : Nat → Nat}, b.length ≤ 4 * k →
    (∀ i, 4 * i < b.length → w i = leAt b (4 * i) 4) → ((List.range k).flatMap fun i => leBytes 4 (w i)).take b.length = b := by
  induction k with
  | zero =>
    intro b w hlen _
    rw [List.eq_nil_of_length_eq_zero (Nat.le_zero.mp hlen)]
    rfl
  | succ k ih =>
    intro b w hlen hw
    rcases b.eq_nil_or_concat with rfl | ⟨_, _, hb⟩
    · rfl
    have hpos : 0 < b.length := by rw [hb]; simp
    have hfirst : w 0 = leNat (b.take 4) := hw 0 hpos
    have hrest : ((List.range k).flatMap fun i => leBytes 4 (w (i + 1))).take (b.drop 4).length = b.drop 4 := by
      refine ih (by rw [List.length_drop]; omega) fun i hi => ?_
      rw [List.length_drop] at hi
      rw [hw (i + 1) (by omega), leAt, leAt, sliceB, sliceB, List.drop_drop]
      congr 3
      omega
    rw [List.length_drop] at hrest
    rw [List.range_succ_eq_map, List.flatMap_cons, List.flatMap_map, List.take_append, leBytes_length, hfirst, take_leBytes_leNat]
    exact (congrArg (b.take 4 ++ ·) hrest).trans (List.take_append_drop 4 b)

/-! ### What a transaction sends, and its end -/

section
variable {n : Nat} {s : State}

theorem DP_OUT_AUX_DATA_injective (n : Nat) : Function.Injective (Reg.DP_OUT_AUX_DATA n) := fun i j h => by
  simp only [Reg.DP_OUT_AUX_DATA] at h; omega

theorem DP_OUT_AUX_DATA_ne_stat (n i : Nat) : Reg.DP_OUT_AUX_DATA n i ≠ Reg.DP_OUT_AUX_STAT n := by
  simp only [Reg.DP_OUT_AUX_DATA, Reg.DP_OUT_AUX_STAT]; omega

/-- Bit 0 of the command's code is bit 0 of the command: a read. -/
theorem nbit_bits_zero (v : Word) : nbit (bits v 3 0) 0 = bit v 0 := by
  simp only [nbit, bit, bits, Nat.pow_zero, Nat.div_one]
  congr 1
  omega

theorem State.auxSend_eq (s : State) (n : Nat) (v : Word) : s.auxSend n v =
    s.emit (.aux n (bits v 3 0) (bits v 27 8) (if bit v 0 then [] else s.auxData n (bits v 7 4 + 1))) := by
  rw [State.auxSend, nbit_bits_zero]

theorem State.auxData_congr {t : State} (h : ∀ i, t.reg (Reg.DP_OUT_AUX_DATA n i) = s.reg (Reg.DP_OUT_AUX_DATA n i)) (len : Nat) :
    t.auxData n len = s.auxData n len := by
  simp only [State.auxData, State.regN_eq, h]

/-- The transaction in progress changed. -/
def State.setAux (s : State) (n : Nat) (a : Option (Word × Nat × Nat)) : State := s.modDpOut n fun x => { x with aux := a }

theorem State.setAux_dpOut (s : State) (n : Nat) (a : Option (Word × Nat × Nat)) :
    (s.setAux n a).dpOut n = { s.dpOut n with aux := a } :=
  (State.modDpOut_dpOut s n (fun x => { x with aux := a }) n).trans (if_pos rfl)

theorem State.setAux_work (s : State) (n : Nat) (ks : List Nat) (a : Option (Word × Nat × Nat)) : OutWork n ks s (s.setAux n a) :=
  (OutWork.refl n ks s).modDpOut _

/-- A transaction sent again. -/
theorem State.resend_eq (a : Option (Word × Nat × Nat)) (v : Word) : (s.setAux n a).auxSend n v =
    (s.setAux n a).emit (.aux n (bits v 3 0) (bits v 27 8) (if bit v 0 then [] else s.auxData n (bits v 7 4 + 1))) := by
  rw [State.auxSend_eq, State.auxData_congr (t := s.setAux n a) (s := s) fun _ => rfl]

theorem State.auxStart_idle (h : (s.dpOut n).aux = none) (v : Word) : s.auxStart n v =
    (((s.setAux n (some (v, 0, 0))).setRegN (Reg.DP_OUT_AUX_STAT n) 1).emit
      (.aux n (bits v 3 0) (bits v 27 8) (if bit v 0 then [] else s.auxData n (bits v 7 4 + 1)))) := by
  have hdata : ∀ i, ((s.setAux n (some (v, 0, 0))).setRegN (Reg.DP_OUT_AUX_STAT n) 1).reg (Reg.DP_OUT_AUX_DATA n i) =
      s.reg (Reg.DP_OUT_AUX_DATA n i) := fun i => by
    rw [State.setRegN_reg, if_neg (DP_OUT_AUX_DATA_ne_stat n i)]
    rfl
  rw [← State.auxData_congr hdata, State.auxStart, h]
  exact State.auxSend_eq _ n v

/-- The bytes that a read returned, in DP_OUT_AUX_DATA. -/
def State.auxBytes (s : State) (n : Nat) (b : List Byte) : State :=
  s.forEach (List.range (cdiv b.length 4)) fun i s => s.setRegN (Reg.DP_OUT_AUX_DATA n i) (leAt b (4 * i) 4)

/-- A transaction that ends with the bytes of a read. -/
theorem State.auxEnd_bytes (s : State) (n : Nat) {b : List Byte} (hb : b.length ≤ 16) :
    s.auxEnd n 0 b = ((s.setAux n none).setRegN (Reg.DP_OUT_AUX_STAT n) (16 * b.length)).auxBytes n b := by
  rw [State.auxEnd, List.take_of_length_le hb, Nat.mul_zero, Nat.zero_add]
  rfl

theorem State.auxBytes_work (s : State) (n : Nat) {b : List Byte} (hb : b.length ≤ 16) {ks : List Nat}
    (hks : (List.range 4).map (Reg.DP_OUT_AUX_DATA n) ⊆ ks) : OutWork n ks s (s.auxBytes n b) := by
  refine State.forEach_mem_ind (P := OutWork n ks s) (fun i hi u h => h.setReg _ (hks (List.mem_map_of_mem ?_))) (OutWork.refl n ks s)
  have hle : cdiv b.length 4 ≤ 4 := by unfold cdiv; omega
  exact List.mem_range.mpr ((List.mem_range.mp hi).trans_le hle)

theorem State.auxBytes_dpOut (s : State) (n : Nat) (b : List Byte) (m : Nat) : (s.auxBytes n b).dpOut m = s.dpOut m :=
  State.forEach_ind (P := fun u => u.dpOut m = s.dpOut m)
    (f := fun i u => u.setRegN (Reg.DP_OUT_AUX_DATA n i) (leAt b (4 * i) 4)) (fun _ _ h => h) rfl

theorem State.auxBytes_stat (s : State) (n : Nat) (b : List Byte) :
    (s.auxBytes n b).reg (Reg.DP_OUT_AUX_STAT n) = s.reg (Reg.DP_OUT_AUX_STAT n) :=
  State.forEach_ind (P := fun u => u.reg (Reg.DP_OUT_AUX_STAT n) = s.reg (Reg.DP_OUT_AUX_STAT n))
    (fun i u h => by rw [State.setRegN_reg, if_neg (DP_OUT_AUX_DATA_ne_stat n i).symm, h]) rfl

/-- The bytes that a read returned read back. -/
theorem State.auxBytes_auxData (s : State) (n : Nat) {b : List Byte} (hb : b.length ≤ 16) : (s.auxBytes n b).auxData n b.length = b := by
  have hwords := (State.forEach_setRegN (v := fun i => leAt b (4 * i) 4) (DP_OUT_AUX_DATA_injective n)
    (List.range (cdiv b.length 4)) s).1
  refine take_flatMap_leBytes (k := 4) (by omega) fun i hi => ?_
  have hin : i ∈ List.range (cdiv b.length 4) := List.mem_range.mpr (by unfold cdiv; omega)
  rw [State.regN_eq, State.auxBytes, hwords i hin, BitVec.toNat_ofNat]
  exact Nat.mod_eq_of_lt (leAt_lt b (4 * i) 4)

/-! ### Replies -/

theorem State.auxReply_ack {v : Word} {d k : Nat} (h : (s.dpOut n).aux = some (v, d, k)) (hread : bit v 0 = true) {b : List Byte}
    (hb : b.length ≤ bits v 7 4 + 1) : s.auxReply n (.ack b) = s.auxEnd n 0 b := by
  rw [State.auxReply, h]
  simp only [nbit_bits_zero, hread, if_true, List.take_of_length_le hb]

theorem State.auxReply_defer {v : Word} {d k : Nat} (h : (s.dpOut n).aux = some (v, d, k)) : s.auxReply n .defer =
    if d < 7 then (s.setAux n (some (v, d + 1, k))).auxSend n v else s.auxEnd n 2 [] := by
  rw [State.auxReply, h]
  simp only [Nat.blt_eq]
  rfl

theorem State.auxReply_nack {v : Word} {d k : Nat} (h : (s.dpOut n).aux = some (v, d, k)) (i2c : Bool) :
    s.auxReply n (if i2c then .i2cNack else .nack) = s.auxEnd n (if i2c then 4 else 1) [] := by
  rw [State.auxReply, h]
  cases i2c <;> rfl

theorem State.auxTimeout_eq {v : Word} {d k : Nat} (h : (s.dpOut n).aux = some (v, d, k)) : s.auxTimeout n =
    if k < 3 then (s.setAux n (some (v, d, k + 1))).auxSend n v else s.auxEnd n 3 [] := by
  rw [State.auxTimeout, h]
  simp only [Nat.blt_eq]
  rfl

end

/-- Settles O21, one lemma for each way a port's work goes. That DP_TRAIN_FAILED clears ENABLE is the model's choice (log entry
54). -/
theorem displayOutputLink : Obligations.DisplayOutputLink := by
  unfold Obligations.DisplayOutputLink
  refine ⟨?_, ?_, ?_, ?_, ?_, ?_, ?_, ?_, ?_, ?_, ?_, ?_, ?_, ?_, ?_, ?_⟩
  · rintro n s ⟨hl, hoff⟩ htiming hlink
    refine completes_of_live rfl hl ?_
    obtain ⟨locked, hrun⟩ := State.outEnable_up hoff htiming hlink
    have hup := s.outUp_enabled locked n.isLt
    rw [hrun, s.outUp_hpd locked n.isLt]
    split
    · obtain ⟨hctrl, hcount, hport, hothers, honly, hframe⟩ := hup.train
      exact ⟨State.outTrain_state _, hctrl, hcount, hport, hothers, honly, hframe⟩
    · obtain ⟨hctrl, hcount, hport, hothers, honly, hframe⟩ := hup
      exact ⟨s.outUp_state locked n.isLt, hctrl, hcount, hport, hothers, honly, hframe⟩
  · rintro n s ⟨hl, hoff⟩ htiming
    exact congrArg Host.Outcome.next ((s.ifLive_of _ _ hl).trans (State.outEnable_badTiming hoff htiming))
  · rintro n s ⟨hl, hoff⟩ htiming hlink
    exact congrArg Host.Outcome.next ((s.ifLive_of _ _ hl).trans (State.outEnable_linkShort hoff htiming hlink))
  · intro n s hl
    refine completes_of_live rfl hl ?_
    have hhigh := s.hpdHigh_work n.val
    rw [s.outHpd_eq n.val]
    split
    · obtain ⟨hothers, honly, hframe⟩ := hhigh.trans (State.outTrain_work _)
      have hport := State.outTrain_dpOut (s.hpdHigh n.val) (n := n.val)
      exact ⟨(State.outTrain_rbit _ (by decide)).trans (s.hpdHigh_rbit n.val), State.outTrain_state _,
        (congrArg DpOut.aux hport).trans rfl, hothers, honly, hframe⟩
    · exact ⟨s.hpdHigh_rbit n.val, s.hpdHigh_state n.val, rfl, hhigh.others, hhigh.only, hhigh.frame⟩
  · rintro n ok l r s ⟨hl, hstate⟩ hfirst
    refine completes_of_live rfl hl ?_
    obtain ⟨hlanes, hrate⟩ := State.trainOrder_lt (List.mem_of_find?_eq_some hfirst)
    have htried := s.triedLinks_work (n := n.val) (ok := ok) (l := l) (r := r) [Reg.DP_OUT_STATUS n.val, Reg.DP_OUT_TX_LATENCY n.val]
    obtain ⟨hothers, honly, hframe⟩ := htried.trans State.linkUp_work
    rw [State.outTrained_up hstate hfirst]
    refine ⟨?_, State.linkUp_lanes hlanes, State.linkUp_rate hrate, ?_, hothers, honly, hframe⟩
    · rw [State.linkUp_state, (s.triedLinks_work []).outState List.not_mem_nil, hstate]
    · rw [State.linkUp_dpOut, State.triedLinks_dpOut]
  · rintro n ok s ⟨hl, hstate⟩ hnone
    refine completes_of_live rfl hl ?_
    have hfailed : OutWork n.val (Reg.DP_OUT_CFG_STATUS n.val :: blkCtrl (outPage n.val) :: Reg.DP_OUT_STATUS n.val :: sumRegs) s
        ((s.tryLinks n.val (s.trainOrder n.val)).setRegN (Reg.DP_OUT_CFG_STATUS n.val) 3) :=
      (s.tryLinks_work _ _ _).setReg _ List.mem_cons_self
    obtain ⟨hothers, honly, hframe⟩ := hfailed.trans ((State.outOff_work _).mono (List.subset_cons_self _ _))
    rw [State.outTrained_failed hstate hnone]
    refine ⟨State.outOff_state _ n.isLt, State.outOff_enable _ n.isLt, ?_, hothers, honly, hframe⟩
    rw [State.regN_eq, State.outOff_reg (DP_OUT_CFG_STATUS_notMem n.isLt), State.setRegN_reg, if_pos rfl]
    rfl
  · rintro n low s hl hon
    refine completes_of_live rfl hl ?_
    have hlost := s.lossRaised_lost (n := n.val) low
    rw [State.outLoss_eq hon]
    split
    · next hagain =>
      obtain ⟨hgo, hcount, hothers, honly, hframe⟩ := hlost.train
      exact ⟨State.outTrain_state _, hgo, hcount, fun hlow => absurd (hagain.1.symm.trans hlow) (by decide), hothers, honly, hframe⟩
    · obtain ⟨hgo, hcount, hothers, honly, hframe⟩ := hlost
      exact ⟨s.lossRaised_state low, hgo, hcount, fun hlow => hlow ▸ s.lossRaised_hpd, hothers, honly, hframe⟩
  · rintro n s ⟨hl, hon⟩
    refine congrArg Host.Outcome.next ((s.ifLive_of _ _ hl).trans ?_)
    rw [State.outStop, if_neg (by simpa using hon)]
  · rintro n s ⟨hl, hon⟩
    refine completes_of_live rfl hl ?_
    obtain ⟨hothers, honly, hframe⟩ := s.outOff_work (n := n.val)
    rw [State.outHalt, if_neg (by simpa using hon)]
    exact ⟨s.outOff_state n.isLt, s.outOff_enable n.isLt, s.outOff_dpOut, hothers, honly, hframe⟩
  · rintro n v s ⟨hl, hidle⟩
    refine ⟨_, congrArg Host.Outcome.next ((s.ifWritten_of _ _ _ _ hl).trans (State.auxStart_idle hidle v)), ?_, ?_, rfl, ?_⟩
    · exact s.setAux_dpOut n.val (some (v, 0, 0))
    · rw [State.regN_eq, State.emit_reg, State.setRegN_reg, if_pos rfl]
      rfl
    · obtain ⟨hothers, honly, hframe⟩ := ((s.setAux_work n.val [Reg.DP_OUT_AUX_CMD n.val, Reg.DP_OUT_AUX_STAT n.val]
        (some (v, 0, 0))).setReg 1 (List.mem_cons_of_mem _ List.mem_cons_self)).emit
          (.aux n.val (bits v 3 0) (bits v 27 8) (if bit v 0 then [] else s.auxData n.val (bits v 7 4 + 1)))
      exact ⟨hothers, honly, hframe⟩
  · rintro n bytes v d k s ⟨hl, haux⟩ ⟨hread, hlen⟩
    refine completes_of_live rfl hl ?_
    have h16 : bytes.length ≤ 16 := by
      have := bits_lt v 7 4
      omega
    have hstat : 16 * bytes.length < 2 ^ 32 := by omega
    have hended := (s.setAux_work n.val (Reg.DP_OUT_AUX_STAT n.val :: (List.range 4).map (Reg.DP_OUT_AUX_DATA n.val)) none).setReg
      (BitVec.ofNat 32 (16 * bytes.length)) List.mem_cons_self
    obtain ⟨hothers, honly, hframe⟩ := hended.trans (State.auxBytes_work _ n.val h16 (List.subset_cons_self _ _))
    rw [State.auxReply_ack haux hread hlen, State.auxEnd_bytes s n.val h16]
    refine ⟨?_, ?_, State.auxBytes_auxData _ n.val h16, hothers, honly, hframe⟩
    · rw [State.auxBytes_dpOut]
      exact s.setAux_dpOut n.val none
    · rw [State.regN_eq, State.auxBytes_stat, State.setRegN_reg, if_pos rfl, BitVec.toNat_ofNat, Nat.mod_eq_of_lt hstat]
  · rintro n v d k s ⟨hl, haux⟩ hd
    refine completes_of_live rfl hl ?_
    obtain ⟨hothers, honly, hframe⟩ := (s.setAux_work n.val [] (some (v, d + 1, k))).emit
      (.aux n.val (bits v 3 0) (bits v 27 8) (if bit v 0 then [] else s.auxData n.val (bits v 7 4 + 1)))
    rw [State.auxReply_defer haux, if_pos hd, State.resend_eq]
    exact ⟨s.setAux_dpOut n.val (some (v, d + 1, k)), rfl, hothers, honly, hframe⟩
  · rintro n v d k s ⟨hl, haux⟩ hd
    refine congrArg Host.Outcome.next ((s.ifLive_of _ _ hl).trans ?_)
    rw [State.auxReply_defer haux, if_neg (Nat.not_lt.mpr hd)]
    rfl
  · rintro n i2c v d k s ⟨hl, haux⟩
    refine congrArg Host.Outcome.next ((s.ifLive_of _ _ hl).trans ?_)
    rw [State.auxReply_nack haux]
    cases i2c <;> rfl
  · rintro n v d k s ⟨hl, haux⟩ hk
    refine completes_of_live rfl hl ?_
    obtain ⟨hothers, honly, hframe⟩ := (s.setAux_work n.val [] (some (v, d, k + 1))).emit
      (.aux n.val (bits v 3 0) (bits v 27 8) (if bit v 0 then [] else s.auxData n.val (bits v 7 4 + 1)))
    rw [State.auxTimeout_eq haux, if_pos hk, State.resend_eq]
    exact ⟨s.setAux_dpOut n.val (some (v, d, k + 1)), rfl, hothers, honly, hframe⟩
  · rintro n v d k s ⟨hl, haux⟩ hk
    refine congrArg Host.Outcome.next ((s.ifLive_of _ _ hl).trans ?_)
    rw [State.auxTimeout_eq haux, if_neg (Nat.not_lt.mpr hk)]
    rfl

end Sys2Proof.Machine

namespace Sys2Proof.Machine

/-! SUPPORT. A frame start that turns a stopping DisplayPort output off (R408, R449). -/

theorem exec_dpOutFrameStart_of_live {n : Fin 8} {s : State} (hl : s.live (outPage n.val) = true) (reading : Nat) :
    exec (.dpOutFrameStart n reading) s = .next (s.outFrameStart n.val reading) :=
  congrArg Host.Outcome.next (s.ifLive_of _ _ hl)

/-- Output 7 is in STATE 3 and stopping, and its frame in scan-out is composed, with check value 77, which COMP_FRAME_CRC does
not show yet. -/
def stoppingOutState : State :=
  let s := { State.reset with rc := { State.reset.rc with held := [] } }
  (s.setRegN (Reg.DP_OUT_STATUS 7) 3).modDpOut 7 fun x => { x with stopping := true, composed := some 77 }

/-- The frame that has ended shows its check value before the port turns off. -/
theorem stoppingOutState_crc : (stoppingOutState.outFrameStart 7 0).reg (Reg.COMP_FRAME_CRC 7) = 77 := by decide +kernel

/-- Refutes O22: its second clause, on the frame start of a stopping port, lists the registers that may change without those of
the port's compositor, but the frame that ends is shown in COMP_STATUS and COMP_FRAME_CRC first (R449, log entry 54). -/
theorem not_displayOutputFrames : ¬ Obligations.DisplayOutputFrames := by
  unfold Obligations.DisplayOutputFrames
  rintro ⟨-, hstop, -⟩
  have hport : stoppingOutState.live (outPage 7) = true ∧ stoppingOutState.outState 7 ≠ 0 ∧
      (stoppingOutState.dpOut 7).stopping = true := by decide +kernel
  obtain ⟨t, ht, -, -, -, hregs, -⟩ := hstop 7 0 stoppingOutState hport
  rw [exec_dpOutFrameStart_of_live hport.1] at ht
  obtain rfl := Host.Outcome.next.inj ht
  have hcrc := (hregs (Reg.COMP_FRAME_CRC 7) (by decide +kernel)).symm.trans stoppingOutState_crc
  exact absurd hcrc (by decide +kernel)

end Sys2Proof.Machine

namespace Sys2Proof.Machine

/-! SUPPORT. A line written to a source buffer of a DisplayPort input that lies in a DRAM fence (R442, R633). -/

theorem exec_dpInLineCapture_of_live {n : Fin 4} {s : State} (hl : s.live (inPage n.val) = true) (f : LineFacts) :
    exec (.dpInLineCapture n f) s = .next (s.inLine n.val f) :=
  congrArg Host.Outcome.next (s.ifLive_of _ _ hl)

/-- Input 3 has lost its lock on a signal of 8 × 8. The buffer in use of its ring is the first of pool 4, which lies in DRAM from
address 0; fence 0 keeps every writer from that page. -/
def fencedCaptureState : State :=
  let s := [(Reg.DP_IN_STATUS 3, 4), (Reg.DP_IN_ACTIVE 3, 0x00080008), (Reg.DRAM_FENCE_WRITERS 0, 1)].foldl
    (fun t p => t.setRegN p.1 p.2) { State.reset with rc := { State.reset.rc with held := [] } }
  (s.modDpIn 3 fun x => { x with ring := [0x01800000] }).setPoolBuf 0x800000 { frees := 0, count := 1, owner := 24, span := 1 }

/-- Line 0, of which nothing came. -/
def lostLineFacts : LineFacts := { line := 0, reading := 0, whole := false, rgb := true, depth := 8, pixels := [] }

/-- The line is written as it was, and the fence that the write meets counts it. -/
theorem fencedCaptureState_violations :
    (fencedCaptureState.inLine 3 lostLineFacts).reg Reg.TRUST_FENCE_VIOLATIONS = 1 := by decide +kernel

/-- Refutes O23: its sixth clause says that a line in loss changes no register, but the line is written to the source buffer as the
port holds it (R31, R442), and where the buffer lies in a DRAM fence that write is counted in TRUST_FENCE_VIOLATIONS (R633, R682). -/
theorem not_displayInputs : ¬ Obligations.DisplayInputs := by
  unfold Obligations.DisplayInputs
  rintro ⟨-, -, -, -, -, hlost, -⟩
  have hport : fencedCaptureState.live (inPage 3) = true ∧ fencedCaptureState.inState 3 = 4 ∧
      fencedCaptureState.frameWritten 3 = true := by decide +kernel
  obtain ⟨t, ht, -, -, hregs, -⟩ := hlost 3 lostLineFacts fencedCaptureState hport
  rw [exec_dpInLineCapture_of_live hport.1] at ht
  obtain rfl := Host.Outcome.next.inj ht
  have hcount := (hregs Reg.TRUST_FENCE_VIOLATIONS List.not_mem_nil).symm.trans fencedCaptureState_violations
  exact absurd hcount (by decide +kernel)

end Sys2Proof.Machine

namespace Sys2Proof.Machine

/-! SUPPORT. The policers: a write of the rates, sizes or mode of the one that POL_SEL selects (R497). -/

/-- Showing a policer writes the policer window (R506). -/
theorem State.showPolicer_writes (s : State) : Writes polRegs s s.showPolicer :=
  ((((((((Writes.refl _ s).setReg _ (by decide)).setReg _ (by decide)).setReg _ (by decide)).setReg _ (by decide)).setReg _
    (by decide)).setReg _ (by decide)).setReg _ (by decide)).setReg _ (by decide)

section
variable (s : State) (f : Nat) (x : Policer)

theorem State.setPolicer_policer (g : Nat) : (s.setPolicer f x).policer g = if g = f then x else s.policer g := by
  have hshown : (s.setPolicer f x).policers = Sparse.set (fun _ => Policer.init) s.policers f x := by
    rw [State.setPolicer, (State.showPolicer_writes _).regs]
  rw [State.policer, hshown]
  exact Sparse.get_set _ _ _ _ _

theorem State.setPolicer_sameRegs : SameRegs polRegs s (s.setPolicer f x) := (State.showPolicer_writes _).only

theorem State.setPolicer_frame :
    s.setPolicer f x = { s with regs := (s.setPolicer f x).regs, policers := (s.setPolicer f x).policers } :=
  (State.showPolicer_writes _).regs

end

/-- A policer with one of its fields as POLICER_WRITE gives it (R497). -/
def Policer.withField (x : Policer) (which : Fin 5) (v : Word) : Policer :=
  if which = 0 then { x with cir := bits v 24 0 }
  else if which = 1 then { x with cbs := bits v 23 0 }
  else if which = 2 then { x with pir := bits v 24 0 }
  else if which = 3 then { x with pbs := bits v 23 0 }
  else { x with mode := bits v 2 0 }

/-- A policer with both buckets full. -/
def Policer.full (x : Policer) : Policer := { x with cLevel := x.cbs * 8000000, pLevel := x.pbs * 8000000 }

theorem State.policerWrite_eq (s : State) (which : Fin 5) (v : Word) :
    s.policerWrite which.val v =
      let x := (s.policer (s.fld Reg.POL_SEL 7 0)).withField which v
      if Nat.blt x.pir x.cir || Nat.blt x.cbs 64 || Nat.blt x.pbs 64 then s else s.setPolicer (s.fld Reg.POL_SEL 7 0) x.full := by
  match which with
  | 0 | 1 | 2 | 3 | 4 => rfl

theorem exec_policerWrite {which : Fin 5} {v : Word} {s : State} (hd : s.domainHeld 7 = false) :
    exec (.policerWrite which v) s = .next (s.policerWrite which.val v) := by
  show Host.Outcome.next (if s.domainHeld 7 then s else s.policerWrite which.val v) = _
  rw [hd]
  rfl

/-- Settles O28: the write is the selected policer with one field replaced, refused where the result would be illegal. -/
theorem policerWrites : Obligations.PolicerWrites := by
  unfold Obligations.PolicerWrites
  intro which v x s hd hx
  change x = (s.policer (s.fld Reg.POL_SEL 7 0)).withField which v at hx
  have hwrite := s.policerWrite_eq which v
  rw [← hx] at hwrite
  split
  · next hbad =>
    rw [exec_policerWrite hd, hwrite, if_pos (by simpa [or_assoc] using hbad)]
  · next hgood =>
    rw [if_neg (by simpa [or_assoc] using hgood)] at hwrite
    refine ⟨_, (exec_policerWrite hd).trans (congrArg _ hwrite), ?_, fun g _ hg => ?_, s.setPolicer_sameRegs _ _,
      s.setPolicer_frame _ _⟩
    · rw [State.setPolicer_policer, if_pos rfl]
      rfl
    · rw [State.setPolicer_policer, if_neg hg]

end Sys2Proof.Machine

namespace Sys2Proof.Machine

/-! SUPPORT. The ticks of the time base, and the ticks at which a step is applied (R479, R483). -/

/-- The time base as one number of units of 2^-32 ns. -/
def TimeBase.units (t : TimeBase) : Nat := (t.sec * 1000000000 + t.ns) * 2 ^ 32 + t.frac

/-- With neither a step nor a new increment waiting a tick only counts. -/
theorem TimeBase.tick_of_settled {t : TimeBase} (h : t.step = none ∧ t.inc = none) :
    t.tick = { t with
      frac := (t.frac + t.incFrac) % 2 ^ 32
      ns := (t.ns + t.incNs + (t.frac + t.incFrac) / 2 ^ 32) % 1000000000
      sec := (t.sec + (t.ns + t.incNs + (t.frac + t.incFrac) / 2 ^ 32) / 1000000000) % 2 ^ 64 } := by
  simp [TimeBase.tick, h.1, h.2]

theorem TimeBase.tick_units {t : TimeBase} (h : t.step = none ∧ t.inc = none) :
    t.tick.units = (t.units + t.incNs * 2 ^ 32 + t.incFrac) % (2 ^ 64 * 1000000000 * 2 ^ 32) := by
  rw [TimeBase.tick_of_settled h]
  simp only [TimeBase.units]
  omega

theorem State.opTick_tb (s : State) : s.opTick.tb = s.tb := by
  unfold State.opTick
  exact State.doIf_ind (P := fun t => t.tb = s.tb) (State.doIf_ind (P := fun t => t.tb = s.tb) rfl rfl)
    (State.doIf_ind (P := fun t => t.tb = s.tb) rfl rfl)

theorem State.tick_tb {s : State} (h : s.domainHeld 1 = false) : s.tick.tb = s.tb.tick := by
  have hticked : (s.modTb TimeBase.tick).tb = s.tb.tick := rfl
  simp only [State.tick, h, Bool.false_eq_true, if_false]
  split
  · exact (State.opTick_tb _).trans hticked
  · exact hticked

/-- Settles O29: the carries of one tick, read as one number. -/
theorem timeTick : Obligations.TimeTick := by
  unfold Obligations.TimeTick
  intro s hd hsettled hrange
  have htb := State.tick_tb hd
  refine ⟨htb ▸ s.tb.tick_inRange hrange, rfl, ?_, ?_, ?_⟩
  · rw [htb, TimeBase.tick_of_settled hsettled]
  · rw [htb, TimeBase.tick_of_settled hsettled]
  · rw [htb]
    exact TimeBase.tick_units hsettled

/-! ### A step waits for the next tick -/

/-- A tick with a step waiting is the tick of the time base moved by it. -/
theorem TimeBase.tick_of_step {t : TimeBase} (h : t.step = none) (d : Int) :
    ({ t with step := some d } : TimeBase).tick = (t.shift d).tick := by
  simp [TimeBase.tick, TimeBase.shift, h]

theorem TimeBase.shift_ns_total {t : TimeBase} {d : Int} (h : 0 ≤ ((t.sec * 1000000000 + t.ns : Nat) : Int) + d) :
    (((t.shift d).sec * 1000000000 + (t.shift d).ns : Nat) : Int) =
      (((t.sec * 1000000000 + t.ns : Nat) : Int) + d) % (2 ^ 64 * 1000000000) := by
  simp only [TimeBase.shift]
  omega

theorem sx_eq_toInt (n : Nat) : sx 64 n = (BitVec.ofNat 64 n).toInt := by
  rw [BitVec.toInt_eq_toNat_cond, BitVec.toNat_ofNat, sx]
  split <;> split <;> omega

end Sys2Proof.Machine

namespace Sys2Proof.Machine

/-! SUPPORT. A step of the time base that waits for its tick, and the commands of the increment, of the readings and of PPS (R480 to
R488). -/

section
variable {s : State} (hl : s.live 0x004 = true)
include hl

theorem exec_timeStep_of_live (v : Word) : exec (.timeStep v) s = .next (s.timeStep v) := congrArg _ (s.ifLive_of _ _ hl)

theorem exec_timeIncrWrite_of_live (v : Word) : exec (.timeIncrWrite v) s = .next (s.timeIncrWrite v) :=
  congrArg _ (s.ifLive_of _ _ hl)

theorem exec_timeMaxAdjWrite_of_live (v : Word) : exec (.timeMaxAdjWrite v) s = .next (s.timeMaxAdjWrite v) :=
  congrArg _ (s.ifLive_of _ _ hl)

theorem exec_timeNowRead_of_live :
    exec .timeNowRead s = .next (s.latchNow.emit (.readData (BitVec.ofNat 32 s.tb.frac))) := congrArg _ (if_pos hl)

theorem exec_ppsInRead_of_live : exec .ppsInRead s = .next (s.latchPps.emit (.readData (s.reg Reg.TIME_PPS_IN_NS))) :=
  congrArg _ (if_pos hl)

end

/-! ### Steps (R482 to R484) -/

/-- The step that TIME_STEP_LO and TIME_STEP_HI ask for. -/
def State.stepAsked (s : State) : Int := (BitVec.ofNat 64 (s.reg64 Reg.TIME_STEP_LO)).toInt

/-- The state in which a step waits and is counted (R483). -/
def State.stepTaken (s : State) : State :=
  (s.modTb fun t => { t with step := some (t.step.getD 0 + s.stepAsked) }).bump Reg.TIME_STEPS 1

theorem State.timeStep_eq {s : State} {v : Word} (hv : bit v 0 = true) :
    s.timeStep v =
      if s.regN Reg.TIME_JUMP_THRESH < s.stepAsked.natAbs ∧ bit v 1 = false then
        (s.bump Reg.TIME_JUMPS_REFUSED 1).raise 442 FaultKind.TIME_JUMP_REFUSED (min (s.stepAsked.natAbs / 1000) (2 ^ 40 - 1))
      else s.stepTaken.doIf (decide (s.regN Reg.TIME_JUMP_THRESH < s.stepAsked.natAbs)) fun s => (s.setSampleCount 0).clearLocked := by
  have hblt : Nat.blt (s.regN Reg.TIME_JUMP_THRESH) s.stepAsked.natAbs =
      decide (s.regN Reg.TIME_JUMP_THRESH < s.stepAsked.natAbs) := by
    rw [Bool.eq_iff_iff, Nat.blt_eq, decide_eq_true_iff]
  have hasked : sx 64 (s.reg64 Reg.TIME_STEP_LO) = s.stepAsked := sx_eq_toInt _
  simp only [State.timeStep, hv, hasked, hblt, Bool.and_eq_true, Bool.not_eq_true', decide_eq_true_iff]
  rfl

theorem State.stepTaken_tb {s : State} (h : s.tb.step = none) : s.stepTaken.tb = { s.tb with step := some s.stepAsked } := by
  simp [State.stepTaken, State.modTb, h]

theorem State.stepTaken_reg (s : State) (k : Nat) :
    s.stepTaken.reg k = if k = Reg.TIME_STEPS then sat32 (s.regN Reg.TIME_STEPS + 1) else s.reg k :=
  (s.modTb _).bump_reg Reg.TIME_STEPS 1 k

theorem State.stepTaken_frame (s : State) : s.stepTaken = { s with regs := s.stepTaken.regs, tb := s.stepTaken.tb } := rfl

/-- Settles O30: a small step only waits, and the tick that takes it is the tick of the time base moved. -/
theorem timeSmallStep : Obligations.TimeSmallStep := by
  unfold Obligations.TimeSmallStep
  rintro v d s ⟨hl, hd, hv, hnone⟩ rfl hsmall
  change s.stepAsked.natAbs ≤ _ at hsmall
  have hstep : s.timeStep v = s.stepTaken := by
    rw [State.timeStep_eq hv, if_neg (by omega), decide_eq_false (by omega), State.doIf_false]
  refine ⟨s.stepTaken, (exec_timeStep_of_live hl v).trans (congrArg _ hstep), State.stepTaken_tb hnone, ?_, ?_, ?_,
    s.stepTaken_frame, ?_, rfl, TimeBase.shift_ns_total⟩
  · rw [State.stepTaken_reg, if_pos rfl]
  · rw [State.locked, State.rbit_eq, State.stepTaken_reg, if_neg (by decide)]
    rfl
  · exact fun k hk => by rw [State.stepTaken_reg, if_neg (by simpa using hk)]
  · have htick : s.stepTaken.tick.tb = s.stepTaken.tb.tick := State.tick_tb hd
    rw [htick, State.stepTaken_tb hnone]
    exact TimeBase.tick_of_step hnone _

/-! ### The increment (R480) -/

/-- The bound of TIME_MAX_ADJ, at most 1023 parts in a million of 2 ns. -/
theorem State.incrBound_lt (s : State) : s.incrBound < 2 ^ 32 := by
  have hfld : s.fld Reg.TIME_MAX_ADJ 9 0 < 2 ^ 10 := Nat.mod_lt _ (by decide)
  unfold State.incrBound
  omega

theorem State.clampIncr_eq (s : State) (v : Nat) :
    s.clampIncr v = (max (2 * 2 ^ 32 - s.incrBound) (min (2 * 2 ^ 32 + s.incrBound) v),
      decide (v < 2 * 2 ^ 32 - s.incrBound ∨ 2 * 2 ^ 32 + s.incrBound < v)) := by
  unfold State.clampIncr
  dsimp only
  split
  · exact Prod.ext (by omega) (decide_eq_true (by omega)).symm
  split
  · exact Prod.ext (by omega) (decide_eq_true (by omega)).symm
  · exact Prod.ext (by omega) (decide_eq_false (by omega)).symm

theorem State.useIncr_tb (s : State) (v : Nat) : (s.useIncr v).tb = { s.tb with inc := some (v / 2 ^ 32, v % 2 ^ 32) } := rfl

theorem State.useIncr_reg (s : State) (v k : Nat) :
    (s.useIncr v).reg k = if k = Reg.TIME_INCR_FRAC then BitVec.ofNat 32 v
      else if k = Reg.TIME_INCR_NS then BitVec.ofNat 32 (v / 2 ^ 32 % 256) else s.reg k := by
  have hregs : (s.useIncr v).reg k =
      ((s.setRegN Reg.TIME_INCR_NS (v / 2 ^ 32 % 256)).setRegN Reg.TIME_INCR_FRAC v).reg k := rfl
  rw [hregs, State.setRegN_reg, State.setRegN_reg]

/-- The registers read the increment in use. -/
theorem State.useIncr_shows (s : State) {v : Nat} (hv : v < 256 * 2 ^ 32) :
    (s.useIncr v).regN Reg.TIME_INCR_NS * 2 ^ 32 + (s.useIncr v).regN Reg.TIME_INCR_FRAC = v := by
  rw [State.regN_eq, State.regN_eq, State.useIncr_reg, State.useIncr_reg, if_neg (by decide), if_pos rfl, if_pos rfl,
    BitVec.toNat_ofNat, BitVec.toNat_ofNat]
  omega

theorem timeIncrWrite_completes {v : Word} {i lo hi : Nat} {s : State} (hl : s.live 0x004 = true)
    (hi' : i = bits v 7 0 * 2 ^ 32 + s.regN Reg.TIME_INCR_FRAC) (hlo : lo = 2 * 2 ^ 32 - s.incrBound)
    (hhi : hi = 2 * 2 ^ 32 + s.incrBound) :
    Completes (.timeIncrWrite v) s fun t =>
      t.tb = { s.tb with inc := some (max lo (min hi i) / 2 ^ 32, max lo (min hi i) % 2 ^ 32) } ∧
        t.regN Reg.TIME_INCR_NS * 2 ^ 32 + t.regN Reg.TIME_INCR_FRAC = max lo (min hi i) ∧
        t.reg Reg.TIME_ADJ_CLAMPS =
          (if lo ≤ i ∧ i ≤ hi then s.reg Reg.TIME_ADJ_CLAMPS else sat32 (s.regN Reg.TIME_ADJ_CLAMPS + 1)) ∧
        SameRegs [Reg.TIME_INCR_NS, Reg.TIME_INCR_FRAC, Reg.TIME_ADJ_CLAMPS] s t ∧ t = { s with regs := t.regs, tb := t.tb } := by
  have hbound := s.incrBound_lt
  have hwrite : s.timeIncrWrite v =
      (s.doIf (decide (i < lo ∨ hi < i)) fun s => s.bump Reg.TIME_ADJ_CLAMPS 1).useIncr (max lo (min hi i)) := by
    rw [State.timeIncrWrite, ← hi', State.clampIncr_eq, ← hlo, ← hhi]
  have hcounted : Writes [Reg.TIME_INCR_NS, Reg.TIME_INCR_FRAC, Reg.TIME_ADJ_CLAMPS] s
      (s.doIf (decide (i < lo ∨ hi < i)) fun s => s.bump Reg.TIME_ADJ_CLAMPS 1) := (Writes.refl _ s).bumpIf _ 1 (by simp)
  refine ⟨_, (exec_timeIncrWrite_of_live hl v).trans (congrArg _ hwrite), ?_, State.useIncr_shows _ (by omega), ?_,
    fun k hk => ?_, ?_⟩
  · rw [State.useIncr_tb, hcounted.regs]
  · rw [State.useIncr_reg, if_neg (by decide), if_neg (by decide)]
    by_cases hin : lo ≤ i ∧ i ≤ hi
    · rw [if_pos hin, decide_eq_false (by omega), State.doIf_false]
    · rw [if_neg hin, decide_eq_true (by omega), State.doIf_true, State.bump_reg, if_pos rfl]
  · rw [← hcounted.reg hk]
    simp only [List.mem_cons, List.not_mem_nil, or_false, not_or] at hk
    obtain ⟨hns, hfrac, -⟩ := hk
    rw [State.useIncr_reg, if_neg hfrac, if_neg hns]
  · generalize (s.doIf (decide (i < lo ∨ hi < i)) fun s => s.bump Reg.TIME_ADJ_CLAMPS 1) = u at hcounted
    rw [hcounted.regs]
    rfl

theorem State.timeMaxAdjWrite_of_outside {s : State} {v : Word} (h : bits v 9 0 = 0 ∨ 1000 < bits v 9 0) :
    s.timeMaxAdjWrite v = s := by
  have hno : ¬(Nat.ble 1 (bits v 9 0) && Nat.ble (bits v 9 0) 1000) = true := by
    rw [Bool.and_eq_true, Nat.ble_eq, Nat.ble_eq]
    omega
  rw [State.timeMaxAdjWrite]
  exact if_neg hno

/-- The nominal increment lies within every bound. -/
theorem State.timeMaxAdjWrite_of_nominal {s : State} {v : Word} (h1 : 1 ≤ bits v 9 0) (h2 : bits v 9 0 ≤ 1000)
    (hnom : s.incrInUse = 2 * 2 ^ 32) : s.timeMaxAdjWrite v = s.setRegN Reg.TIME_MAX_ADJ (bits v 9 0) := by
  have hyes : (Nat.ble 1 (bits v 9 0) && Nat.ble (bits v 9 0) 1000) = true := by
    rw [Bool.and_eq_true, Nat.ble_eq, Nat.ble_eq]
    exact ⟨h1, h2⟩
  have huse : (s.setRegN Reg.TIME_MAX_ADJ (bits v 9 0)).incrInUse = 2 * 2 ^ 32 := hnom
  unfold State.timeMaxAdjWrite
  dsimp only
  rw [if_pos hyes, huse, State.clampIncr_eq, decide_eq_false (by omega)]

/-! ### Readings (R486, R488) -/

theorem State.setReg64_writes (s : State) (k v : Nat) : Writes [k, k + 4] s (s.setReg64 k v) :=
  ((Writes.refl _ s).setReg _ List.mem_cons_self).setReg _ (List.mem_cons_of_mem _ List.mem_cons_self)

theorem State.latchNow_writes (s : State) :
    Writes [Reg.TIME_NOW_FRAC, Reg.TIME_NOW_NS, Reg.TIME_NOW_SEC_LO, Reg.TIME_NOW_SEC_LO + 4] s s.latchNow :=
  (((Writes.refl _ s).setReg _ (by decide)).setReg _ (by decide)).trans ((State.setReg64_writes _ _ _).mono (by decide))

theorem State.latchNow_ns {s : State} (h : s.tb.ns < 2 ^ 32) : s.latchNow.regN Reg.TIME_NOW_NS = s.tb.ns := by
  rw [State.regN_eq, State.latchNow, State.setReg64_reg _ _ _ _ (by decide) (by decide), State.setRegN_reg, if_pos rfl,
    BitVec.toNat_ofNat, Nat.mod_eq_of_lt h]

theorem State.latchNow_sec {s : State} (h : s.tb.sec < 2 ^ 64) : s.latchNow.reg64 Reg.TIME_NOW_SEC_LO = s.tb.sec := by
  rw [State.latchNow, State.setReg64_reg64, Nat.mod_eq_of_lt h]

/-- Something put out after writes of registers. -/
theorem Writes.emit_frame {ks : List Nat} {s t : State} (h : Writes ks s t) (o : Output) :
    t.emit o = { s with regs := (t.emit o).regs, out := (t.emit o).out } := by
  rw [h.regs]
  rfl

theorem Writes.emit_out {ks : List Nat} {s t : State} (h : Writes ks s t) (o : Output) : (t.emit o).out = o :: s.out := by
  rw [h.regs]
  rfl

/-- Settles O32: what each write stores and each reading latches. -/
theorem timeIncrementAndReads : Obligations.TimeIncrementAndReads := by
  unfold Obligations.TimeIncrementAndReads
  refine ⟨?incr, ?refused, ?bound, ?now, ?pulse, ?edge, ?read⟩
  case incr =>
    rintro v i lo hi s ⟨hl, hi'⟩ ⟨-, hlo, hhi⟩
    exact timeIncrWrite_completes hl hi' hlo hhi
  case refused =>
    intro v s hl hv
    rw [exec_timeMaxAdjWrite_of_live hl, State.timeMaxAdjWrite_of_outside hv]
  case bound =>
    rintro v s ⟨hl, h1, h2, hnom⟩
    rw [exec_timeMaxAdjWrite_of_live hl, State.timeMaxAdjWrite_of_nominal h1 h2 hnom]
  case now =>
    rintro s ⟨hl, hsec, hns, -⟩
    exact ⟨_, exec_timeNowRead_of_live hl, s.latchNow_writes.emit_out _, State.latchNow_ns (by omega), State.latchNow_sec hsec,
      s.latchNow_writes.only, s.latchNow_writes.emit_frame _⟩
  case pulse => exact fun s hl => congrArg _ (s.ifLive_of _ _ hl)
  case edge =>
    rintro t s ⟨hl, hen⟩
    refine congrArg _ ((s.ifLive_of _ _ hl).trans ?_)
    rw [hen]
    rfl
  case read =>
    intro s hl
    exact ⟨_, exec_ppsInRead_of_live hl, (State.setReg64_writes _ _ _).emit_out _, State.setReg64_reg64 _ _ _,
      (State.setReg64_writes _ _ _).only, (State.setReg64_writes _ _ _).emit_frame _⟩

end Sys2Proof.Machine

namespace Sys2Proof.Machine

/-! SUPPORT. What follows the lock of the time base: the contexts, their cell tables and the DisplayPort outputs, and what none of it
changes (R80, R413, R414). -/

/-- From `s` to `t` only registers outside the TIME page, device memory, the Reference Cache, the fault collector and contexts may
differ. -/
structure LockWork (s t : State) : Prop where
  frame : t = { s with regs := t.regs, mem := t.mem, fc := t.fc, ctxs := t.ctxs, refc := t.refc }
  page : ∀ k, 0x4000 ≤ k → k < 0x5000 → t.reg k = s.reg k

theorem timePage_notMem_faultRegs {kind k : Nat} (hk : k < 0x5000) : k ∉ faultRegs kind := by
  simp only [faultRegs, Reg.FAULT_SUPPRESSED, Reg.FAULT_OVERFLOWS, Reg.FAULT_KIND_COUNT, List.mem_cons, List.not_mem_nil, or_false,
    not_or]
  omega

theorem timePage_notMem_fenceRegs {k : Nat} (hlo : 0x4000 ≤ k) (hhi : k < 0x5000) : k ∉ fenceRegs := by
  have hfault := timePage_notMem_faultRegs (kind := FaultKind.FENCE_VIOLATION) hhi
  simp only [fenceRegs, Reg.TRUST_FENCE_VIOLATIONS, Reg.TRUST_FENCE_LAST_LO, Reg.TRUST_FENCE_LAST_HI, List.mem_append, List.mem_cons,
    List.not_mem_nil, or_false, not_or, hfault]
  omega

namespace LockWork

variable {s t u : State}

theorem refl (s : State) : LockWork s s := ⟨rfl, fun _ _ _ => rfl⟩

theorem trans (h : LockWork s t) (k : LockWork t u) : LockWork s u where
  frame := by
    have hk := k.frame
    rw [h.frame] at hk
    exact hk
  page := fun j hlo hhi => (k.page j hlo hhi).trans (h.page j hlo hhi)

theorem setReg (h : LockWork s t) {k : Nat} (v : Word) (hk : 0x5000 ≤ k) : LockWork s (t.setReg k v) :=
  h.trans ⟨rfl, fun j _ hhi => by rw [State.setReg_reg, if_neg (by omega)]⟩

theorem modCtx (h : LockWork s t) (c : Nat) (f : Ctx → Ctx) : LockWork s (t.modCtx c f) := h.trans ⟨rfl, fun _ _ _ => rfl⟩

theorem doIf (h : LockWork s t) (b : Bool) {f : State → State} (hf : LockWork s (f t)) : LockWork s (t.doIf b f) :=
  State.doIf_ind h hf

theorem raise (h : LockWork s t) (src kind addr : Nat) : LockWork s (t.raise src kind addr) :=
  h.trans ⟨by rw [State.raise_frame], fun j _ hhi => t.raise_sameRegs src kind addr j (timePage_notMem_faultRegs hhi)⟩

theorem storeCells (h : LockWork s t) (c : Nat) : LockWork s (t.storeCells c) :=
  h.trans ⟨by rw [t.storeCells_onlyMemory c], fun j hlo hhi => t.storeCells_sameRegs c j (timePage_notMem_fenceRegs hlo hhi)⟩

theorem showFresh (h : LockWork s t) (c : Nat) : LockWork s (t.showFresh c) :=
  (h.doIf _ (h.storeCells c)).setReg _ (by unfold Reg.FRESH_STATUS; omega)

theorem localLockLost (h : LockWork s t) : LockWork s t.localLockLost :=
  State.forEach_ind (fun c _ hu => hu.doIf _ ((hu.doIf _ (hu.modCtx c _)).showFresh c)) h

theorem localLockGained (h : LockWork s t) : LockWork s t.localLockGained :=
  State.forEach_ind (fun c _ hu => hu.doIf _ (hu.showFresh c)) h

theorem dpTimeLock (h : LockWork s t) (b : Bool) : LockWork s (t.dpTimeLock b) := by
  refine State.forEach_ind (fun n u hu => ?_) h
  have hout : 0x5000 ≤ Reg.DP_OUT_STATUS n := by unfold Reg.DP_OUT_STATUS; omega
  have hshown : LockWork s (u.setRbit (Reg.DP_OUT_STATUS n) 6 b) := hu.setReg _ hout
  dsimp only
  split
  · exact hu
  split
  · exact LockWork.raise (hshown.setReg _ hout) _ _ _
  · exact hshown

theorem locked (h : LockWork s t) : t.locked = s.locked := congrArg (bit · 0) (h.page _ (by decide) (by decide))

theorem tb (h : LockWork s t) : t.tb = s.tb := by rw [h.frame]

end LockWork

/-! ### LOCKED set and cleared (R477, R478) -/

/-- From `s` to `t` the time base has locked or lost its lock: of the TIME page only the status and the count of losses may differ, and
of the status not the role. -/
structure LockChange (s t : State) : Prop where
  frame : t = { s with regs := t.regs, mem := t.mem, fc := t.fc, tb := t.tb, ctxs := t.ctxs, refc := t.refc }
  page : ∀ k, 0x4000 ≤ k → k < 0x5000 → k ≠ Reg.TIME_STATUS → k ≠ Reg.TIME_LOCK_LOSSES → t.reg k = s.reg k
  role : t.fld Reg.TIME_STATUS 5 4 = s.fld Reg.TIME_STATUS 5 4
  sec : t.tb.sec = s.tb.sec
  ns : t.tb.ns = s.tb.ns

theorem LockChange.refl (s : State) : LockChange s s := ⟨rfl, fun _ _ _ _ _ => rfl, rfl, rfl, rfl⟩

theorem LockChange.trans {s t u : State} (h : LockChange s t) (k : LockChange t u) : LockChange s u where
  frame := by
    have hk := k.frame
    rw [h.frame] at hk
    exact hk
  page := fun j hlo hhi h1 h2 => (k.page j hlo hhi h1 h2).trans (h.page j hlo hhi h1 h2)
  role := k.role.trans h.role
  sec := k.sec.trans h.sec
  ns := k.ns.trans h.ns

theorem LockWork.change {s t : State} (h : LockWork s t) : LockChange s t where
  frame := by rw [h.frame]
  page := fun k hlo hhi _ _ => h.page k hlo hhi
  role := congrArg (bits · 5 4) (h.page _ (by decide) (by decide))
  sec := by rw [h.tb]
  ns := by rw [h.tb]

/-- LOCKED cleared and counted, before anything follows. -/
def State.unlockedNow (s : State) : State := (s.setRbit Reg.TIME_STATUS 0 false).bump Reg.TIME_LOCK_LOSSES 1

/-- LOCKED set, before anything follows. -/
def State.lockedNow (s : State) : State := (s.setRbit Reg.TIME_STATUS 0 true).modTb fun t => { t with lockedSince := s.now }

section
variable (s : State)

theorem State.unlockedNow_reg (k : Nat) :
    s.unlockedNow.reg k = if k = Reg.TIME_LOCK_LOSSES then sat32 (s.regN Reg.TIME_LOCK_LOSSES + 1)
      else if k = Reg.TIME_STATUS then putBit (s.reg Reg.TIME_STATUS) 0 false else s.reg k := by
  have hloss : (s.setRbit Reg.TIME_STATUS 0 false).regN Reg.TIME_LOCK_LOSSES = s.regN Reg.TIME_LOCK_LOSSES :=
    congrArg BitVec.toNat ((s.setRbit_reg _ _ _ _).trans (if_neg (by decide)))
  rw [State.unlockedNow, State.bump_reg, hloss, State.setRbit_reg]

theorem State.lockedNow_reg (k : Nat) :
    s.lockedNow.reg k = if k = Reg.TIME_STATUS then putBit (s.reg Reg.TIME_STATUS) 0 true else s.reg k :=
  s.setRbit_reg _ _ _ _

theorem State.unlockedNow_change : LockChange s s.unlockedNow where
  frame := rfl
  page := fun k _ _ hstatus hloss => by rw [State.unlockedNow_reg, if_neg hloss, if_neg hstatus]
  role := by
    rw [State.fld_eq, State.unlockedNow_reg, if_neg (by decide), if_pos rfl, bits_putBit_other _ (by decide) (by decide) (by decide)]
    rfl
  sec := rfl
  ns := rfl

theorem State.lockedNow_change : LockChange s s.lockedNow where
  frame := rfl
  page := fun k _ _ hstatus _ => by rw [State.lockedNow_reg, if_neg hstatus]
  role := by
    rw [State.fld_eq, State.lockedNow_reg, if_pos rfl, bits_putBit_other _ (by decide) (by decide) (by decide)]
    rfl
  sec := rfl
  ns := rfl

variable {s}

theorem State.clearLocked_of_unlocked (h : s.locked = false) : s.clearLocked = s := by simp [State.clearLocked, h]

theorem State.clearLocked_work (h : s.locked = true) : LockWork s.unlockedNow s.clearLocked := by
  rw [State.clearLocked, if_pos h]
  exact (((LockWork.refl _).raise _ _ _).localLockLost).dpTimeLock _

theorem State.setLocked_of_locked (h : s.locked = true) : s.setLocked = s := by simp [State.setLocked, h]

theorem State.setLocked_work (h : s.locked = false) : LockWork s.lockedNow s.setLocked := by
  simp only [State.setLocked, h]
  exact ((LockWork.refl _).localLockGained).dpTimeLock _

variable (s)

theorem State.clearLocked_change : LockChange s s.clearLocked := by
  cases h : s.locked
  · rw [State.clearLocked_of_unlocked h]
    exact LockChange.refl s
  · exact s.unlockedNow_change.trans (State.clearLocked_work h).change

theorem State.setLocked_change : LockChange s s.setLocked := by
  cases h : s.locked
  · exact s.lockedNow_change.trans (State.setLocked_work h).change
  · rw [State.setLocked_of_locked h]
    exact LockChange.refl s

theorem State.clearLocked_locked : s.clearLocked.locked = false := by
  cases h : s.locked
  · rwa [State.clearLocked_of_unlocked h]
  · rw [(State.clearLocked_work h).locked, State.locked, State.rbit_eq, State.unlockedNow_reg, if_neg (by decide), if_pos rfl,
      bit_putBit _ (by decide), if_pos rfl]

theorem State.setLocked_locked : s.setLocked.locked = true := by
  cases h : s.locked
  · rw [(State.setLocked_work h).locked, State.locked, State.rbit_eq, State.lockedNow_reg, if_pos rfl, bit_putBit _ (by decide),
      if_pos rfl]
  · rwa [State.setLocked_of_locked h]

theorem State.clearLocked_losses : s.clearLocked.reg Reg.TIME_LOCK_LOSSES =
    if s.locked then sat32 (s.regN Reg.TIME_LOCK_LOSSES + 1) else s.reg Reg.TIME_LOCK_LOSSES := by
  cases h : s.locked
  · rw [State.clearLocked_of_unlocked h, if_neg (by decide)]
  · rw [(State.clearLocked_work h).page _ (by decide) (by decide), State.unlockedNow_reg, if_pos rfl, if_pos rfl]

theorem State.clearLocked_sampleCount : s.clearLocked.sampleCount = s.sampleCount := by
  cases h : s.locked
  · rw [State.clearLocked_of_unlocked h]
  · rw [State.sampleCount, State.fld_eq, (State.clearLocked_work h).page _ (by decide) (by decide), State.unlockedNow_reg,
      if_neg (by decide), if_pos rfl, bits_putBit_other _ (by decide) (by decide) (by decide)]
    rfl

theorem State.setLocked_sampleCount : s.setLocked.sampleCount = s.sampleCount := by
  cases h : s.locked
  · rw [State.sampleCount, State.fld_eq, (State.setLocked_work h).page _ (by decide) (by decide), State.lockedNow_reg, if_pos rfl,
      bits_putBit_other _ (by decide) (by decide) (by decide)]
    rfl
  · rw [State.setLocked_of_locked h]

theorem State.clearLocked_tb : s.clearLocked.tb = s.tb := by
  cases h : s.locked
  · rw [State.clearLocked_of_unlocked h]
  · exact (State.clearLocked_work h).tb

theorem State.clearLocked_frame : s.clearLocked = { s with
    regs := s.clearLocked.regs, mem := s.clearLocked.mem, fc := s.clearLocked.fc, ctxs := s.clearLocked.ctxs
    refc := s.clearLocked.refc } := by
  have h := s.clearLocked_change.frame
  rw [s.clearLocked_tb] at h
  exact h

/-! ### The count of good samples (R477) -/

theorem State.setSampleCount_writes (n : Nat) : Writes [Reg.TIME_STATUS] s (s.setSampleCount n) :=
  (Writes.refl _ s).setReg _ List.mem_cons_self

theorem State.setSampleCount_status (n : Nat) :
    (s.setSampleCount n).reg Reg.TIME_STATUS = putBits (s.reg Reg.TIME_STATUS) 15 8 (min n 255) := by
  rw [State.setSampleCount, State.setFld_reg, if_pos rfl]

theorem State.setSampleCount_sampleCount {n : Nat} (hn : n ≤ 255) : (s.setSampleCount n).sampleCount = n := by
  rw [State.sampleCount, State.fld_eq, State.setSampleCount_status, bits_putBits_same _ (by decide) (by decide)]
  omega

theorem State.setSampleCount_locked (n : Nat) : (s.setSampleCount n).locked = s.locked := by
  rw [State.locked, State.rbit_eq, State.setSampleCount_status, bit_putBits_other _ (by decide) (by decide) _ (by decide)]
  rfl

theorem State.setSampleCount_change (n : Nat) : LockChange s (s.setSampleCount n) where
  frame := rfl
  page := fun k _ _ hstatus _ => (s.setSampleCount_writes n).reg (by simpa using hstatus)
  role := by
    rw [State.fld_eq, State.setSampleCount_status, bits_putBits_other _ (by decide) (by decide) _ (by decide) (by decide)]
    rfl
  sec := rfl
  ns := rfl

/-- The count restarted and LOCKED cleared: what a sample out of bounds, a timeout and a jump have in common (R478, R484). -/
def State.restart (s : State) : State := (s.setSampleCount 0).clearLocked

theorem State.restart_change : LockChange s s.restart := (s.setSampleCount_change 0).trans (State.clearLocked_change _)

theorem State.restart_locked : s.restart.locked = false := State.clearLocked_locked _

theorem State.restart_sampleCount : s.restart.fld Reg.TIME_STATUS 15 8 = 0 :=
  (State.clearLocked_sampleCount _).trans (s.setSampleCount_sampleCount (by decide))

theorem State.restart_losses : s.restart.reg Reg.TIME_LOCK_LOSSES =
    if s.locked then sat32 (s.regN Reg.TIME_LOCK_LOSSES + 1) else s.reg Reg.TIME_LOCK_LOSSES := by
  have hsame := (s.setSampleCount_writes 0).reg (k := Reg.TIME_LOCK_LOSSES) (by decide)
  rw [State.restart, State.clearLocked_losses, State.setSampleCount_locked, State.regN_eq, hsame]
  rfl

theorem State.restart_tb : s.restart.tb = s.tb := State.clearLocked_tb _

theorem State.restart_frame : s.restart = { s with
    regs := s.restart.regs, mem := s.restart.mem, fc := s.restart.fc, ctxs := s.restart.ctxs, refc := s.restart.refc } := by
  have h := (s.setSampleCount 0).clearLocked_frame
  exact h

end

end Sys2Proof.Machine

namespace Sys2Proof.Machine

/-! SUPPORT. The commands of the servo: samples, a timeout, a write of TIME_CTRL, jumps (R477, R478, R484). -/

theorem s32_eq_toInt (v : Word) : s32 v.toNat = v.toInt := by
  rw [BitVec.toInt_eq_toNat_cond, s32]
  split <;> split <;> omega

theorem bits_putBits_fit (w : Word) {hi lo v : Nat} (hlo : lo ≤ hi) (hhi : hi < 32) (hv : v < 2 ^ (hi - lo + 1)) :
    bits (putBits w hi lo v) hi lo = v := (bits_putBits_same w hlo hhi v).trans (Nat.mod_eq_of_lt hv)

theorem bits_and (v m : Word) (hi lo : Nat) : bits (v &&& m) hi lo = bits v hi lo &&& bits m hi lo := by
  refine Nat.eq_of_testBit_eq fun j => ?_
  rw [Nat.testBit_and, bits_testBit, bits_testBit, bits_testBit, BitVec.toNat_and, Nat.testBit_and]
  cases decide (j < hi - lo + 1) <;> rfl

/-! ### A message raised after writes of registers -/

theorem Writes.raise_sameRegs {ks : List Nat} {s t : State} (h : Writes ks s t) (src kind addr : Nat) :
    SameRegs (ks ++ faultRegs kind) s (t.raise src kind addr) := fun k hk => by
  rw [List.mem_append, not_or] at hk
  rw [State.raise_sameRegs _ _ _ _ k hk.2, h.reg hk.1]

theorem Writes.raise_frame {ks : List Nat} {s t : State} (h : Writes ks s t) (src kind addr : Nat) :
    t.raise src kind addr = { s with regs := (t.raise src kind addr).regs, fc := (t.raise src kind addr).fc } := by
  have hraised := t.raise_frame src kind addr
  generalize t.raise src kind addr = u at hraised ⊢
  rw [h.regs] at hraised
  exact hraised

/-! ### A sample (R477, R478) -/

section
variable (s : State) (v : Word)

/-- The sample shown, before it is judged. -/
def State.sampled : State := s.setReg Reg.TIME_LAST_OFFSET v

theorem State.sampled_reg {k : Nat} (hk : k ≠ Reg.TIME_LAST_OFFSET) : (s.sampled v).reg k = s.reg k :=
  (s.setReg_reg _ _ _).trans (if_neg hk)

theorem State.sampled_fld {k : Nat} (hk : k ≠ Reg.TIME_LAST_OFFSET) (hi lo : Nat) : (s.sampled v).fld k hi lo = s.fld k hi lo :=
  congrArg (bits · hi lo) (s.sampled_reg v hk)

theorem State.sampled_sampleCount : (s.sampled v).sampleCount = s.sampleCount := s.sampled_fld v (by decide) 15 8

theorem State.sampled_locked : (s.sampled v).locked = s.locked := congrArg (bit · 0) (s.sampled_reg v (by decide))

theorem State.sampled_reg_same : (s.sampled v).reg Reg.TIME_LAST_OFFSET = v := by
  rw [State.sampled, State.setReg_reg, if_pos rfl]

theorem State.timeSample_eq : s.timeSample v =
    if s.fld Reg.TIME_UNLOCK_CFG 15 0 < v.toInt.natAbs then (s.sampled v).restart
    else if s.fld Reg.TIME_LOCK_CFG 15 0 < v.toInt.natAbs then (s.sampled v).setSampleCount 0
    else ((s.sampled v).setSampleCount (s.sampleCount + 1)).doIf
      (s.timeRoleInUse == 1 && Nat.ble (s.fld Reg.TIME_LOCK_CFG 23 16) (s.sampleCount + 1)) State.setLocked := by
  have hrole : (s.sampled v).timeRoleInUse = s.timeRoleInUse := congrArg timeRole (s.sampled_fld v (by decide) 5 4)
  rw [← s.sampled_fld v (k := Reg.TIME_UNLOCK_CFG) (by decide), ← s.sampled_fld v (k := Reg.TIME_LOCK_CFG) (by decide),
    ← s.sampled_fld v (k := Reg.TIME_LOCK_CFG) (by decide) 23 16, ← hrole, ← s.sampled_sampleCount v, ← s32_eq_toInt]
  rfl

/-- A sample within both thresholds, counted (R477). -/
def State.counted : State := (s.sampled v).setSampleCount (s.sampleCount + 1)

theorem State.counted_sampleCount (h : s.sampleCount < 255) : (s.counted v).sampleCount = s.sampleCount + 1 :=
  State.setSampleCount_sampleCount _ h

theorem State.counted_locked : (s.counted v).locked = s.locked := by
  rw [State.counted, State.setSampleCount_locked, State.sampled_locked]

end

section
variable {s : State} (hl : s.live 0x004 = true)
include hl

theorem exec_timeOffsetSample_of_live (v : Word) : exec (.timeOffsetSample v) s = .next (s.timeSample v) :=
  congrArg _ (s.ifLive_of _ _ hl)

theorem exec_sampleTimeout_of_live (hrole : s.timeRoleInUse = 1) : exec .sampleTimeout s = .next s.restart := by
  refine congrArg _ ((s.ifLive_of _ _ hl).trans ?_)
  rw [hrole]
  rfl

theorem exec_timeCtrlWrite_of_live (v : Word) : exec (.timeCtrlWrite v) s = .next (s.timeCtrlWrite v) :=
  congrArg _ (s.ifLive_of _ _ hl)

end

/-- An accepted sample of a slave: counted, LOCKED at LOCK_COUNT (R477). -/
theorem timeOffsetSample_within {v : Word} {s : State} (hl : s.live 0x004 = true) (hrole : s.timeRoleInUse = 1)
    (hcount : s.sampleCount < 255) (hlock : v.toInt.natAbs ≤ s.fld Reg.TIME_LOCK_CFG 15 0)
    (hunlock : v.toInt.natAbs ≤ s.fld Reg.TIME_UNLOCK_CFG 15 0) :
    Completes (.timeOffsetSample v) s fun t => t.sampleCount = s.sampleCount + 1 ∧
      t.locked = (s.locked || Nat.ble (s.fld Reg.TIME_LOCK_CFG 23 16) (s.sampleCount + 1)) ∧ t.reg Reg.TIME_LAST_OFFSET = v ∧
      LockChange (s.sampled v) t := by
  have hsample := s.timeSample_eq v
  rw [if_neg (by omega), if_neg (by omega), hrole] at hsample
  change s.timeSample v = (s.counted v).doIf (Nat.ble (s.fld Reg.TIME_LOCK_CFG 23 16) (s.sampleCount + 1)) State.setLocked at hsample
  have hchange : LockChange (s.sampled v) (s.counted v) := State.setSampleCount_change _ _
  refine ⟨_, (exec_timeOffsetSample_of_live hl v).trans (congrArg _ hsample), ?_⟩
  cases Nat.ble (s.fld Reg.TIME_LOCK_CFG 23 16) (s.sampleCount + 1)
  · exact ⟨s.counted_sampleCount v hcount, (s.counted_locked v).trans (Bool.or_false _).symm,
      (hchange.page _ (by decide) (by decide) (by decide) (by decide)).trans (s.sampled_reg_same v), hchange⟩
  · have hset := hchange.trans (s.counted v).setLocked_change
    exact ⟨(State.setLocked_sampleCount _).trans (s.counted_sampleCount v hcount),
      (State.setLocked_locked _).trans (Bool.or_true _).symm,
      (hset.page _ (by decide) (by decide) (by decide) (by decide)).trans (s.sampled_reg_same v), hset⟩

/-! ### A write of TIME_CTRL as grandmaster (R477, R478) -/

/-- TIME_CTRL with the role of a grandmaster, shown. -/
def State.grandmaster (s : State) (v : Word) : State := (s.setReg Reg.TIME_CTRL (v &&& 0x37)).setFld Reg.TIME_STATUS 5 4 2

theorem State.timeCtrlWrite_eq {s : State} {v : Word} (hv : bits v 5 4 = 2) :
    s.timeCtrlWrite v =
      let u := (s.grandmaster v).doIf (2 != s.timeRoleInUse) State.restart
      if bit v 1 then u.setLocked else u.clearLocked := by
  have hrole : (s.setReg Reg.TIME_CTRL (v &&& 0x37)).timeRoleInUse = 2 := by
    rw [State.timeRoleInUse, State.fld_eq, State.setReg_reg, if_pos rfl, bits_and, hv]
    decide
  unfold State.timeCtrlWrite
  dsimp only
  rw [hrole]
  rfl

theorem timeCtrlWrite_completes {v : Word} {s : State} (hl : s.live 0x004 = true) (hv : bits v 5 4 = 2) :
    Completes (.timeCtrlWrite v) s fun t => t.locked = bit v 1 ∧ LockChange (s.grandmaster v) t := by
  have hrole : LockChange (s.grandmaster v) ((s.grandmaster v).doIf (2 != s.timeRoleInUse) State.restart) :=
    State.doIf_ind (P := LockChange _) (LockChange.refl _) (State.restart_change _)
  refine ⟨_, (exec_timeCtrlWrite_of_live hl v).trans (congrArg _ (State.timeCtrlWrite_eq hv)), ?_⟩
  cases bit v 1
  · exact ⟨State.clearLocked_locked _, hrole.trans (State.clearLocked_change _)⟩
  · exact ⟨State.setLocked_locked _, hrole.trans (State.setLocked_change _)⟩

/-! ### Jumps (R484) -/

theorem timeStep_refused {v : Word} {s : State} (hl : s.live 0x004 = true) (hv : bit v 0 = true) (hno : bit v 1 = false)
    (hjump : s.regN Reg.TIME_JUMP_THRESH < s.stepAsked.natAbs) :
    Completes (.timeStep v) s fun t => t.tb = s.tb ∧ t.locked = s.locked ∧
      t.reg Reg.TIME_JUMPS_REFUSED = sat32 (s.regN Reg.TIME_JUMPS_REFUSED + 1) ∧
      SameRegs (Reg.TIME_JUMPS_REFUSED :: faultRegs FaultKind.TIME_JUMP_REFUSED) s t ∧ t = { s with regs := t.regs, fc := t.fc } := by
  have hstep := State.timeStep_eq (s := s) hv
  rw [if_pos ⟨hjump, hno⟩] at hstep
  have hwork := (LockWork.refl (s.bump Reg.TIME_JUMPS_REFUSED 1)).raise 442 FaultKind.TIME_JUMP_REFUSED
    (min (s.stepAsked.natAbs / 1000) (2 ^ 40 - 1))
  have hbump : Writes [Reg.TIME_JUMPS_REFUSED] s (s.bump Reg.TIME_JUMPS_REFUSED 1) := (Writes.refl _ s).setReg _ List.mem_cons_self
  have hlocked : (s.bump Reg.TIME_JUMPS_REFUSED 1).locked = s.locked := congrArg (bit · 0) (hbump.reg (by decide))
  refine ⟨_, (exec_timeStep_of_live hl v).trans (congrArg _ hstep), hwork.tb, hwork.locked.trans hlocked,
    (hwork.page _ (by decide) (by decide)).trans ?_, hbump.raise_sameRegs _ _ _, hbump.raise_frame _ _ _⟩
  rw [State.bump_reg, if_pos rfl]

theorem timeStep_jumped {v : Word} {s : State} (hl : s.live 0x004 = true) (hv : bit v 0 = true) (hyes : bit v 1 = true)
    (hnone : s.tb.step = none) (hjump : s.regN Reg.TIME_JUMP_THRESH < s.stepAsked.natAbs) :
    exec (.timeStep v) s = .next s.stepTaken.restart ∧ s.stepTaken.restart.tb = { s.tb with step := some s.stepAsked } := by
  have hstep := State.timeStep_eq (s := s) hv
  rw [if_neg (by rw [hyes]; simp), decide_eq_true hjump] at hstep
  exact ⟨(exec_timeStep_of_live hl v).trans (congrArg _ hstep), (State.restart_tb _).trans (State.stepTaken_tb hnone)⟩

/-- Settles O31: every case sets or clears LOCKED after a count of samples. That a sample outside the unlock threshold clears LOCKED
of a grandmaster too, and that a timeout and an accepted jump restart the count, is the model's choice (log entry 46). -/
theorem timeServo : Obligations.TimeServo := by
  unfold Obligations.TimeServo
  refine ⟨?outside, ?between, ?within, ?timeout, ?ctrl, ?refused, ?jumped⟩
  case outside =>
    intro v s hl hv
    have hsample := s.timeSample_eq v
    rw [if_pos hv] at hsample
    have hchange := (s.sampled v).restart_change
    refine ⟨_, (exec_timeOffsetSample_of_live hl v).trans (congrArg _ hsample),
      (hchange.page _ (by decide) (by decide) (by decide) (by decide)).trans (s.sampled_reg_same v), State.restart_locked _,
      State.restart_sampleCount _, ?_, State.restart_tb _, hchange.frame⟩
    rw [State.restart_losses, State.sampled_locked, State.regN_eq, State.sampled_reg _ _ (by decide)]
    rfl
  case between =>
    rintro v s hl ⟨hlock, hunlock⟩
    have hsample := s.timeSample_eq v
    rw [if_neg (by omega), if_pos hlock] at hsample
    have hwrites : Writes [Reg.TIME_LAST_OFFSET, Reg.TIME_STATUS] s ((s.sampled v).setSampleCount 0) :=
      ((Writes.refl _ s).setReg _ (by decide)).trans ((State.setSampleCount_writes _ 0).mono (by decide))
    exact ⟨_, (exec_timeOffsetSample_of_live hl v).trans (congrArg _ hsample),
      ((State.setSampleCount_writes _ 0).reg (by decide)).trans (s.sampled_reg_same v),
      (State.setSampleCount_locked _ 0).trans (s.sampled_locked v), State.setSampleCount_sampleCount _ (by decide), hwrites.only,
      hwrites.regs⟩
  case within =>
    rintro v s ⟨hl, hrole, hcount⟩ ⟨hlock, hunlock⟩
    obtain ⟨t, ht, hn, hlocked, hlast, hchange⟩ := timeOffsetSample_within hl hrole hcount hlock hunlock
    exact ⟨t, ht, hn, hlocked, hlast, hchange.frame⟩
  case timeout =>
    rintro s ⟨hl, hrole, hlocked⟩
    refine ⟨_, exec_sampleTimeout_of_live hl hrole, s.restart_locked, s.restart_sampleCount, ?_, s.restart_tb, s.restart_frame⟩
    rw [State.restart_losses, if_pos hlocked]
  case ctrl =>
    rintro v s ⟨hl, hv⟩
    obtain ⟨t, ht, hlocked, hchange⟩ := timeCtrlWrite_completes hl hv
    refine ⟨t, ht, ?_, hchange.role.trans ?_, hlocked, hchange.sec, hchange.ns, hchange.frame⟩
    · rw [hchange.page _ (by decide) (by decide) (by decide) (by decide), State.grandmaster, State.setFld_reg, if_neg (by decide),
        State.setReg_reg, if_pos rfl]
    · exact (congrArg (bits · 5 4) ((State.setFld_reg _ _ _ _ _ _).trans (if_pos rfl))).trans
        (bits_putBits_fit _ (by decide) (by decide) (by decide))
  case refused =>
    rintro v s ⟨hl, hv, hno⟩ hjump
    exact timeStep_refused hl hv hno hjump
  case jumped =>
    rintro v d s ⟨hl, hv, hyes, hnone⟩ rfl hjump
    obtain ⟨hexec, htb⟩ := timeStep_jumped hl hv hyes hnone hjump
    have hchange := s.stepTaken.restart_change
    refine ⟨_, hexec, htb, State.restart_locked _, ?_, State.restart_sampleCount _, hchange.frame⟩
    rw [hchange.page _ (by decide) (by decide) (by decide) (by decide), State.stepTaken_reg, if_pos rfl]

end Sys2Proof.Machine

namespace Sys2Proof.Machine

/-! SUPPORT. What a change of shaper queues leaves alone, and a walk that changes each of its queues alike (R489 to R492). -/

theorem Sparse.get_of_forall_ne {α : Type} (d : Nat → α) {m : Sparse α} {k : Nat} (h : ∀ p ∈ m, p.1 ≠ k) : Sparse.get d m k = d k := by
  induction m with
  | nil => rfl
  | cons p m ih =>
    rw [Sparse.get_cons, if_neg (h p List.mem_cons_self)]
    exact ih fun q hq => h q (List.mem_cons_of_mem _ hq)

/-- From `s` to `t` only the listed registers and the shaper queues may differ. -/
structure QueueWork (ks : List Nat) (s t : State) : Prop where
  frame : t = { s with regs := t.regs, queues := t.queues }
  only : SameRegs ks s t

theorem QueueWork.refl (ks : List Nat) (s : State) : QueueWork ks s s := ⟨rfl, SameRegs.refl ks s⟩

theorem QueueWork.trans {ks : List Nat} {s t u : State} (h : QueueWork ks s t) (k : QueueWork ks t u) : QueueWork ks s u where
  frame := by
    have hk := k.frame
    rw [h.frame] at hk
    exact hk
  only := h.only.trans k.only

theorem QueueWork.mono {ks ls : List Nat} {s t : State} (h : QueueWork ks s t) (hs : ks ⊆ ls) : QueueWork ls s t :=
  ⟨h.frame, h.only.mono hs⟩

theorem Writes.queueWork {ks : List Nat} {s t : State} (h : Writes ks s t) : QueueWork ks s t := ⟨by rw [h.regs], h.only⟩

theorem Writes.queue {ks : List Nat} {s t : State} (h : Writes ks s t) (q : Nat) : t.queue q = s.queue q := by
  rw [h.regs]
  rfl

theorem mem_queueRegs {k : Nat} : k ∈ queueRegs ↔ ∃ q < 256, k = Reg.SHQ_CREDIT q ∨ k = Reg.SHQ_DEPTH q := by
  simp [queueRegs]

section
variable (s : State) (q : Nat) (x : SQueue)

theorem State.setQueue_queue (k : Nat) : (s.setQueue q x).queue k = if k = q then x else s.queue k := Sparse.get_set _ _ _ _ _

theorem State.setQueue_work {ks : List Nat} (hq : q < 256) (hks : queueRegs ⊆ ks) : QueueWork ks s (s.setQueue q x) where
  frame := rfl
  only := fun k hk => by
    have hcredit : k ≠ Reg.SHQ_CREDIT q := fun e => hk (hks (mem_queueRegs.mpr ⟨q, hq, .inl e⟩))
    have hdepth : k ≠ Reg.SHQ_DEPTH q := fun e => hk (hks (mem_queueRegs.mpr ⟨q, hq, .inr e⟩))
    rw [State.setQueue, State.setRegN_reg, if_neg hdepth, State.setReg_reg, if_neg hcredit]
    rfl

end

theorem State.mem_queueIds {s : State} {q : Nat} (h : q ∈ s.queueIds) : q < 256 := Nat.blt_eq.mp (List.mem_filter.mp h).2

/-- A queue of the device that is not listed is as at reset. -/
theorem State.queue_of_unlisted {s : State} {q : Nat} (hq : q < 256) (h : q ∉ s.queueIds) : s.queue q = SQueue.init :=
  Sparse.get_of_forall_ne _ fun p hp e =>
    h (List.mem_filter.mpr ⟨List.mem_map.mpr ⟨p, hp, e⟩, Nat.blt_eq.mpr hq⟩)

/-- A walk whose every step changes its own queue by one function, which done twice is done once. -/
theorem State.forEach_queue {f : Nat → State → State} {g : SQueue → SQueue} {P : State → Prop} (hg : ∀ x, g (g x) = g x) :
    ∀ {l : List Nat}, (∀ q ∈ l, ∀ t, P t → P (f q t) ∧ ∀ k, (f q t).queue k = if k = q then g (t.queue q) else t.queue k) →
      ∀ {s : State}, P s →
        P (s.forEach l f) ∧ ∀ k, (s.forEach l f).queue k = if k ∈ l then g (s.queue k) else s.queue k
  | [], _, _, h => ⟨h, fun _ => (if_neg List.not_mem_nil).symm⟩
  | q :: l, hf, s, h => by
    obtain ⟨hstep, hqueue⟩ := hf q List.mem_cons_self s h
    obtain ⟨hend, hall⟩ := State.forEach_queue hg (fun k hk => hf k (List.mem_cons_of_mem _ hk)) hstep
    refine ⟨hend, fun k => (hall k).trans ?_⟩
    rw [hqueue]
    by_cases hkq : k = q
    · subst hkq
      rw [if_pos rfl, hg, ite_self, if_pos List.mem_cons_self]
    · rw [if_neg hkq]
      simp only [List.mem_cons, hkq, false_or]

/-- The same, over the queues of a port: those that are not listed are as at reset. -/
theorem State.forEach_portQueues {s : State} {f : Nat → State → State} {g : SQueue → SQueue} {P : State → Prop} (p : Nat)
    (hg : ∀ x, g (g x) = g x) (hinit : g SQueue.init = SQueue.init) (hP : P s)
    (hf : ∀ q < 256, ∀ t, P t → P (f q t) ∧ ∀ k, (f q t).queue k = if k = q then g (t.queue q) else t.queue k) :
    P (s.forEach (s.queueIds.filter fun q => cfgPort (s.qCfg q) == p) f) ∧
      ∀ q < 256, (s.forEach (s.queueIds.filter fun q => cfgPort (s.qCfg q) == p) f).queue q =
        if cfgPort (s.qCfg q) = p then g (s.queue q) else s.queue q := by
  obtain ⟨hend, hall⟩ := State.forEach_queue hg (P := P) (f := f) (l := s.queueIds.filter fun q => cfgPort (s.qCfg q) == p)
    (fun q hq => hf q (State.mem_queueIds (List.mem_filter.mp hq).1)) hP
  refine ⟨hend, fun q hq => (hall q).trans ?_⟩
  simp only [List.mem_filter, beq_iff_eq]
  by_cases hport : cfgPort (s.qCfg q) = p
  · by_cases hlisted : q ∈ s.queueIds
    · rw [if_pos ⟨hlisted, hport⟩, if_pos hport]
    · rw [if_neg fun h => hlisted h.1, if_pos hport, State.queue_of_unlisted hq hlisted, hinit]
  · rw [if_neg fun h => hport h.2, if_neg hport]

end Sys2Proof.Machine

namespace Sys2Proof.Machine

/-! SUPPORT. A network port: its status, its enable and its link (R453 to R455, R475). -/

/-- A port whose link is lost, counted, before the message is raised; `block` and `fec` are the locks that are left (R454). -/
def State.portLost (s : State) (p : Nat) (block fec : Bool) : State :=
  ((s.setPortState p 3).setFld (Reg.NET_STATUS p) 6 4 (2 * b2n block + 4 * b2n fec)).bump (Reg.NET_LINK_LOSSES p) 1

section
variable {s : State} {p : Fin 4} (hl : s.live (netPage p.val) = true)
include hl

theorem exec_netEnable_of_live : exec (.netEnable p) s = .next (s.netEnable p.val) := congrArg _ (s.ifLive_of _ _ hl)

theorem exec_netLinkUp_of_state (hstate : s.portState p.val = 1 ∨ s.portState p.val = 3) :
    exec (.netLinkUp p) s = .next (((s.setPortState p.val 2).setFld (Reg.NET_STATUS p.val) 5 4 3).setRbit (Reg.NET_STATUS p.val) 6
      (((s.setPortState p.val 2).setFld (Reg.NET_STATUS p.val) 5 4 3).rbit (Reg.NET_CTRL p.val) 1)) := by
  refine congrArg _ ((s.ifLive_of _ _ hl).trans ?_)
  have hgo : (s.portState p.val == 1 || s.portState p.val == 3) = true := by simpa using hstate
  rw [hgo]
  rfl

theorem exec_netLinkDown_of_state (hstate : s.portState p.val = 2) (block fec : Bool) :
    exec (.netLinkDown p block fec) s =
      .next ((s.portLost p.val block fec).raise (netSource p.val) FaultKind.NET_LINK_LOST 0) := by
  refine congrArg _ ((s.ifLive_of _ _ hl).trans ?_)
  rw [hstate]
  rfl

theorem exec_netStop_of_live : exec (.netStop p) s = .next (s.netStop p.val) := congrArg _ (s.ifLive_of _ _ hl)

theorem exec_netHalt_of_live : exec (.netHalt p) s = .next (s.netHalt p.val) := congrArg _ (s.ifLive_of _ _ hl)

end

theorem State.portState_eq (s : State) (p : Nat) : s.portState p = bits (s.reg (Reg.NET_STATUS p)) 3 0 := rfl

/-- The registers of a port that its commands write stand apart, and apart from NET_CTRL. -/
theorem portRegs_apart (p : Nat) :
    Reg.NET_STATUS p ≠ blkCtrl (netPage p) ∧ Reg.NET_STATUS p ≠ Reg.NET_TX_LATENCY p ∧ Reg.NET_STATUS p ≠ Reg.NET_RX_LATENCY p ∧
      blkCtrl (netPage p) ≠ Reg.NET_TX_LATENCY p ∧ blkCtrl (netPage p) ≠ Reg.NET_RX_LATENCY p ∧
      Reg.NET_TX_LATENCY p ≠ Reg.NET_RX_LATENCY p ∧ Reg.NET_CTRL p ≠ blkCtrl (netPage p) ∧ Reg.NET_CTRL p ≠ Reg.NET_STATUS p := by
  unfold Reg.NET_STATUS Reg.NET_TX_LATENCY Reg.NET_RX_LATENCY Reg.NET_CTRL blkCtrl hdr netPage
  omega

/-! ### Enable (R453, R475) -/

/-- A port in STATE 1 with ENABLE set, before the latencies are shown (R455 step 1). -/
def State.portOn (s : State) (p : Nat) : State :=
  ((s.setFld (Reg.NET_STATUS p) 15 8 0).setRbit (blkCtrl (netPage p)) 0 true).setPortState p 1

section
variable (s : State) (p : Nat)

theorem State.portOn_reg (k : Nat) : (s.portOn p).reg k =
    if k = Reg.NET_STATUS p then putBits (putBits (s.reg (Reg.NET_STATUS p)) 15 8 0) 3 0 1
    else if k = blkCtrl (netPage p) then putBit (s.reg (blkCtrl (netPage p))) 0 true else s.reg k := by
  obtain ⟨hstatus, -⟩ := portRegs_apart p
  rw [State.portOn, State.setPortState, State.setFld_reg, State.setRbit_reg, State.setRbit_reg, if_neg hstatus, State.setFld_reg,
    State.setFld_reg, State.setFld_reg, if_pos rfl, if_neg hstatus.symm]
  split <;> rfl

theorem State.syncLatency_reg (k : Nat) : (s.syncLatency p).reg k =
    if k = Reg.NET_RX_LATENCY p then BitVec.ofNat 32 (s.portLatency p).2
    else if k = Reg.NET_TX_LATENCY p then BitVec.ofNat 32 (s.portLatency p).1 else s.reg k := by
  rw [State.syncLatency, State.setRegN_reg, State.setRegN_reg]

end

theorem State.netEnable_of_good {s : State} {p : Nat} (hstate : s.portState p = 0)
    (hrate : (s.rbit (Reg.NET_CTRL p) 0 && s.rbit (Reg.NET_CTRL p) 1) = false)
    (hmtu : 1518 ≤ s.fld (Reg.NET_MTU p) 13 0 ∧ s.fld (Reg.NET_MTU p) 13 0 ≤ 9216) :
    s.netEnable p = (s.portOn p).syncLatency p := by
  have hlo : Nat.blt (s.fld (Reg.NET_MTU p) 13 0) 1518 = false := by rw [← Bool.not_eq_true, Nat.blt_eq]; omega
  have hhi : Nat.blt 9216 (s.fld (Reg.NET_MTU p) 13 0) = false := by rw [← Bool.not_eq_true, Nat.blt_eq]; omega
  simp only [State.netEnable, hstate, hrate, hlo, hhi]
  rfl

theorem State.netEnable_of_bad {s : State} {p : Nat} (hstate : s.portState p = 0)
    (hbad : (s.rbit (Reg.NET_CTRL p) 0 = true ∧ s.rbit (Reg.NET_CTRL p) 1 = true) ∨ s.fld (Reg.NET_MTU p) 13 0 < 1518 ∨
      9216 < s.fld (Reg.NET_MTU p) 13 0) :
    s.netEnable p = (s.setFld (Reg.NET_STATUS p) 15 8 1).setRbit (blkCtrl (netPage p)) 0 false := by
  have hrefused : ((s.rbit (Reg.NET_CTRL p) 0 && s.rbit (Reg.NET_CTRL p) 1) || Nat.blt (s.fld (Reg.NET_MTU p) 13 0) 1518 ||
      Nat.blt 9216 (s.fld (Reg.NET_MTU p) 13 0)) = true := by
    rw [Bool.or_eq_true, Bool.or_eq_true, Bool.and_eq_true, Nat.blt_eq, Nat.blt_eq, or_assoc]
    exact hbad
  simp only [State.netEnable, hstate, hrefused]
  rfl

theorem State.portOn_portLatency (s : State) (p : Nat) : (s.portOn p).portLatency p = s.portLatency p := by
  obtain ⟨-, -, -, -, -, -, hctrl, hstatus⟩ := portRegs_apart p
  rw [State.portLatency, State.rbit_eq, State.rbit_eq, State.portOn_reg, if_neg hstatus, if_neg hctrl]
  rfl

theorem netEnable_completes {p : Fin 4} {s : State} (hl : s.live (netPage p.val) = true) (hstate : s.portState p.val = 0)
    (hrate : (s.rbit (Reg.NET_CTRL p.val) 0 && s.rbit (Reg.NET_CTRL p.val) 1) = false)
    (hmtu : 1518 ≤ s.fld (Reg.NET_MTU p.val) 13 0 ∧ s.fld (Reg.NET_MTU p.val) 13 0 ≤ 9216) :
    Completes (.netEnable p) s fun t => t.portState p.val = 1 ∧ t.rbit (blkCtrl (netPage p.val)) 0 = true ∧
      t.fld (Reg.NET_STATUS p.val) 15 8 = 0 ∧ t.regN (Reg.NET_TX_LATENCY p.val) = (s.portLatency p.val).1 ∧
      t.regN (Reg.NET_RX_LATENCY p.val) = (s.portLatency p.val).2 ∧
      Writes [Reg.NET_STATUS p.val, blkCtrl (netPage p.val), Reg.NET_TX_LATENCY p.val, Reg.NET_RX_LATENCY p.val] s t := by
  have henable := State.netEnable_of_good hstate hrate hmtu
  obtain ⟨hsc, hst, hsr, hct, hcr, htr, -⟩ := portRegs_apart p.val
  have hstatus : ((s.portOn p.val).syncLatency p.val).reg (Reg.NET_STATUS p.val) =
      putBits (putBits (s.reg (Reg.NET_STATUS p.val)) 15 8 0) 3 0 1 := by
    rw [State.syncLatency_reg, if_neg hsr, if_neg hst, State.portOn_reg, if_pos rfl]
  have hlatency : (s.portLatency p.val).1 < 2 ^ 32 ∧ (s.portLatency p.val).2 < 2 ^ 32 := by
    unfold State.portLatency
    split
    · decide
    · split <;> decide
  refine ⟨_, (exec_netEnable_of_live hl).trans (congrArg _ henable), ?_, ?_, ?_, ?_, ?_, ?_⟩
  · rw [State.portState_eq, hstatus, bits_putBits_fit _ (by decide) (by decide) (by decide)]
  · rw [State.rbit_eq, State.syncLatency_reg, if_neg hcr, if_neg hct, State.portOn_reg, if_neg hsc.symm, if_pos rfl,
      bit_putBit _ (by decide), if_pos rfl]
  · rw [State.fld_eq, hstatus, bits_putBits_other _ (by decide) (by decide) _ (by decide) (by decide),
      bits_putBits_fit _ (by decide) (by decide) (by decide)]
  · rw [State.regN_eq, State.syncLatency_reg, if_neg htr, if_pos rfl, State.portOn_portLatency, BitVec.toNat_ofNat,
      Nat.mod_eq_of_lt hlatency.1]
  · rw [State.regN_eq, State.syncLatency_reg, if_pos rfl, State.portOn_portLatency, BitVec.toNat_ofNat,
      Nat.mod_eq_of_lt hlatency.2]
  · exact (((((Writes.refl _ s).setReg _ (by simp)).setReg _ (by simp)).setReg _ (by simp)).setReg _ (by simp)).setReg _ (by simp)

/-! ### The link (R454) -/

theorem netLinkUp_completes {p : Fin 4} {s : State} (hl : s.live (netPage p.val) = true)
    (hstate : s.portState p.val = 1 ∨ s.portState p.val = 3) :
    Completes (.netLinkUp p) s fun t => t.portState p.val = 2 ∧ t.fld (Reg.NET_STATUS p.val) 5 4 = 3 ∧
      t.rbit (Reg.NET_STATUS p.val) 6 = s.rbit (Reg.NET_CTRL p.val) 1 ∧ Writes [Reg.NET_STATUS p.val] s t := by
  obtain ⟨-, -, -, -, -, -, -, hctrl⟩ := portRegs_apart p.val
  have hfec : ((s.setPortState p.val 2).setFld (Reg.NET_STATUS p.val) 5 4 3).rbit (Reg.NET_CTRL p.val) 1 =
      s.rbit (Reg.NET_CTRL p.val) 1 := by
    rw [State.rbit_eq, State.setFld_reg, if_neg hctrl, State.setPortState, State.setFld_reg, if_neg hctrl]
    rfl
  have hexec := exec_netLinkUp_of_state hl hstate
  rw [hfec] at hexec
  have hstatus (b : Bool) : (((s.setPortState p.val 2).setFld (Reg.NET_STATUS p.val) 5 4 3).setRbit (Reg.NET_STATUS p.val) 6 b).reg
      (Reg.NET_STATUS p.val) = putBit (putBits (putBits (s.reg (Reg.NET_STATUS p.val)) 3 0 2) 5 4 3) 6 b := by
    rw [State.setRbit_reg, if_pos rfl, State.setFld_reg, if_pos rfl, State.setPortState, State.setFld_reg, if_pos rfl]
  refine ⟨_, hexec, ?_, ?_, ?_, ?_⟩
  · rw [State.portState_eq, hstatus, bits_putBit_other _ (by decide) (by decide) (by decide),
      bits_putBits_other _ (by decide) (by decide) _ (by decide) (by decide), bits_putBits_fit _ (by decide) (by decide) (by decide)]
  · rw [State.fld_eq, hstatus, bits_putBit_other _ (by decide) (by decide) (by decide), bits_putBits_fit _ (by decide) (by decide) (by decide)]
  · rw [State.rbit_eq, hstatus, bit_putBit _ (by decide), if_pos rfl]
  · exact (((Writes.refl _ s).setReg _ List.mem_cons_self).setReg _ List.mem_cons_self).setReg _ List.mem_cons_self

/-- NET_STATUS and NET_LINK_LOSSES of a port stand outside the fault page. -/
theorem portRegs_notMem_faultRegs (p : Nat) :
    Reg.NET_STATUS p ∉ faultRegs FaultKind.NET_LINK_LOST ∧ Reg.NET_LINK_LOSSES p ∉ faultRegs FaultKind.NET_LINK_LOST ∧
      Reg.NET_STATUS p ≠ Reg.NET_LINK_LOSSES p := by
  simp only [faultRegs, Reg.FAULT_SUPPRESSED, Reg.FAULT_OVERFLOWS, Reg.FAULT_KIND_COUNT, FaultKind.NET_LINK_LOST, Reg.NET_STATUS,
    Reg.NET_LINK_LOSSES, List.mem_cons, List.not_mem_nil, or_false, not_or]
  omega

/-- The two locks as a link's loss shows them. -/
theorem bit_putBits_locks (w : Word) (block fec : Bool) :
    bit (putBits w 6 4 (2 * b2n block + 4 * b2n fec)) 5 = block ∧ bit (putBits w 6 4 (2 * b2n block + 4 * b2n fec)) 6 = fec := by
  rw [bit_eq_testBit, bit_eq_testBit, putBits_testBit _ (by decide) (by decide), putBits_testBit _ (by decide) (by decide),
    if_neg (by decide), if_pos (by decide), if_neg (by decide), if_pos (by decide)]
  revert block fec
  decide

theorem netLinkDown_completes {p : Fin 4} {s : State} (hl : s.live (netPage p.val) = true) (hstate : s.portState p.val = 2)
    (block fec : Bool) :
    Completes (.netLinkDown p block fec) s fun t => t.portState p.val = 3 ∧ t.rbit (Reg.NET_STATUS p.val) 5 = block ∧
      t.rbit (Reg.NET_STATUS p.val) 6 = fec ∧ t.reg (Reg.NET_LINK_LOSSES p.val) = sat32 (s.regN (Reg.NET_LINK_LOSSES p.val) + 1) ∧
      SameRegs (Reg.NET_STATUS p.val :: Reg.NET_LINK_LOSSES p.val :: faultRegs FaultKind.NET_LINK_LOST) s t ∧
      t = { s with regs := t.regs, fc := t.fc } := by
  obtain ⟨hfaultStatus, hfaultLosses, hapart⟩ := portRegs_notMem_faultRegs p.val
  have hlost : Writes [Reg.NET_STATUS p.val, Reg.NET_LINK_LOSSES p.val] s (s.portLost p.val block fec) :=
    (((Writes.refl _ s).setReg _ List.mem_cons_self).setReg _ List.mem_cons_self).setReg _
      (List.mem_cons_of_mem _ List.mem_cons_self)
  have hstatus : ((s.portLost p.val block fec).raise (netSource p.val) FaultKind.NET_LINK_LOST 0).reg (Reg.NET_STATUS p.val) =
      putBits (putBits (s.reg (Reg.NET_STATUS p.val)) 3 0 3) 6 4 (2 * b2n block + 4 * b2n fec) := by
    rw [State.raise_sameRegs _ _ _ _ _ hfaultStatus, State.portLost, State.bump_reg, if_neg hapart, State.setFld_reg, if_pos rfl,
      State.setPortState, State.setFld_reg, if_pos rfl]
  obtain ⟨hblock, hfec⟩ := bit_putBits_locks (putBits (s.reg (Reg.NET_STATUS p.val)) 3 0 3) block fec
  refine ⟨_, exec_netLinkDown_of_state hl hstate block fec, ?_, ?_, ?_, ?_, hlost.raise_sameRegs _ _ _, hlost.raise_frame _ _ _⟩
  · rw [State.portState_eq, hstatus, bits_putBits_other _ (by decide) (by decide) _ (by decide) (by decide),
      bits_putBits_fit _ (by decide) (by decide) (by decide)]
  · rw [State.rbit_eq, hstatus, hblock]
  · rw [State.rbit_eq, hstatus, hfec]
  · rw [State.raise_sameRegs _ _ _ _ _ hfaultLosses, State.portLost, State.bump_reg, if_pos rfl, State.regN_eq, State.setFld_reg,
      if_neg hapart.symm, State.setPortState, State.setFld_reg, if_neg hapart.symm]
    rfl

/-! ### STOP and HALT (R455) -/

/-- A queue without its frames. -/
def SQueue.emptied (x : SQueue) : SQueue := { x with frames := [] }

/-- A queue whose frame on the wire ends by a time. -/
def SQueue.cutAt (t : Nat) (x : SQueue) : SQueue := { x with wireEnd := min x.wireEnd t }

/-- No frame of a queue of the device waits in a slot of the transmit ring (R459). -/
def State.noSlots (s : State) : Prop := ∀ q < 256, ∀ f ∈ (s.queue q).frames, f.slot = none

/-- The registers that the end of a port writes. -/
def portEndRegs (p : Nat) : List Nat := Reg.NET_STATUS p :: blkCtrl (netPage p) :: Reg.NET_TX_LINK_DOWN p :: queueRegs

theorem queueRegs_sub_portEndRegs (p : Nat) : queueRegs ⊆ portEndRegs p := fun _ h =>
  List.mem_cons_of_mem _ (List.mem_cons_of_mem _ (List.mem_cons_of_mem _ h))

/-- The frames of a queue discarded and counted. -/
def State.dropQueue (s : State) (p q : Nat) : State :=
  (s.bump (Reg.NET_TX_LINK_DOWN p) (s.queue q).frames.length).setQueue q (s.queue q).emptied

theorem State.dropQueue_queue (s : State) (p q k : Nat) :
    (s.dropQueue p q).queue k = if k = q then (s.queue q).emptied else s.queue k := State.setQueue_queue _ _ _ _

theorem State.dropQueue_work (s : State) (p : Nat) {q : Nat} (hq : q < 256) : QueueWork (portEndRegs p) s (s.dropQueue p q) := by
  have hbump : Writes (portEndRegs p) s (s.bump (Reg.NET_TX_LINK_DOWN p) (s.queue q).frames.length) :=
    (Writes.refl _ s).setReg _ (List.mem_cons_of_mem _ (List.mem_cons_of_mem _ List.mem_cons_self))
  exact hbump.queueWork.trans (State.setQueue_work _ _ _ hq (queueRegs_sub_portEndRegs p))

/-- The queues of a port emptied; none of their frames stands in a slot. -/
theorem State.dropPortQueues_spec {s : State} (p : Nat) (h : s.noSlots) :
    (QueueWork (portEndRegs p) s (s.dropPortQueues p) ∧ (s.dropPortQueues p).noSlots) ∧
      ∀ q < 256, (s.dropPortQueues p).queue q = if cfgPort (s.qCfg q) = p then (s.queue q).emptied else s.queue q := by
  refine State.forEach_portQueues p (P := fun t => QueueWork (portEndRegs p) s t ∧ t.noSlots) (g := SQueue.emptied) (fun _ => rfl) rfl
    ⟨QueueWork.refl _ s, h⟩ fun q hq t ⟨hwork, hslots⟩ => ?_
  have hnil : (t.queue q).frames.filterMap (·.slot) = [] := List.filterMap_eq_nil_iff.mpr (hslots q hq)
  dsimp only
  rw [hnil, State.forEach_nil]
  change (QueueWork (portEndRegs p) s (t.dropQueue p q) ∧ (t.dropQueue p q).noSlots) ∧ ∀ k, (t.dropQueue p q).queue k = _
  refine ⟨⟨hwork.trans (t.dropQueue_work p hq), fun k hk f hf => ?_⟩, t.dropQueue_queue p q⟩
  rw [State.dropQueue_queue] at hf
  split at hf
  · exact absurd hf List.not_mem_nil
  · exact hslots k hk f hf

/-- A port stopped: its queues emptied, the port off (R455 step 4). -/
theorem State.netStop_spec {s : State} (p : Nat) (h : s.noSlots) :
    (s.netStop p).portState p = 0 ∧ (s.netStop p).rbit (blkCtrl (netPage p)) 0 = false ∧
      (∀ q < 256, (s.netStop p).queue q = if cfgPort (s.qCfg q) = p then (s.queue q).emptied else s.queue q) ∧
      QueueWork (portEndRegs p) s (s.netStop p) := by
  obtain ⟨⟨hwork, -⟩, hqueue⟩ := State.dropPortQueues_spec p h
  have hctrl : Reg.NET_STATUS p ≠ blkCtrl (netPage p) := (portRegs_apart p).1
  have hoff : Writes (portEndRegs p) (s.dropPortQueues p) (s.netStop p) :=
    (((Writes.refl _ _).setReg _ List.mem_cons_self).setReg _ List.mem_cons_self).setReg _
      (List.mem_cons_of_mem _ List.mem_cons_self)
  refine ⟨?_, ?_, fun q hq => (hoff.queue q).trans (hqueue q hq), hwork.trans hoff.queueWork⟩
  · rw [State.portState_eq, State.netStop, State.setRbit_reg, if_neg hctrl, State.setFld_reg, if_pos rfl, State.setPortState,
      State.setFld_reg, if_pos rfl, bits_putBits_other _ (by decide) (by decide) _ (by decide) (by decide),
      bits_putBits_fit _ (by decide) (by decide) (by decide)]
  · rw [State.rbit_eq, State.netStop, State.setRbit_reg, if_pos rfl, bit_putBit _ (by decide), if_pos rfl]

/-- The frames in transmission on a port cut (R455 step 5). -/
def State.cutWires (s : State) (p : Nat) : State :=
  s.forEach (s.queueIds.filter fun q => cfgPort (s.qCfg q) == p) fun q s =>
    s.setQueue q { s.queue q with wireEnd := min (s.queue q).wireEnd s.nowPs }

theorem QueueWork.nowPs {ks : List Nat} {s t : State} (h : QueueWork ks s t) : t.nowPs = s.nowPs := by
  rw [h.frame]
  rfl

theorem State.cutWires_spec {s : State} (p : Nat) (h : s.noSlots) :
    (QueueWork queueRegs s (s.cutWires p) ∧ (s.cutWires p).noSlots) ∧
      ∀ q < 256, (s.cutWires p).queue q = if cfgPort (s.qCfg q) = p then (s.queue q).cutAt s.nowPs else s.queue q := by
  refine State.forEach_portQueues p (P := fun t => QueueWork queueRegs s t ∧ t.noSlots) (g := SQueue.cutAt s.nowPs) (fun x => ?_)
    ?_ ⟨QueueWork.refl _ s, h⟩ fun q hq t ⟨hwork, hslots⟩ => ?_
  · simp [SQueue.cutAt]
  · simp [SQueue.cutAt, SQueue.init]
  · rw [hwork.nowPs]
    refine ⟨⟨hwork.trans (State.setQueue_work _ _ _ hq (List.Subset.refl _)), fun k hk f hf => ?_⟩,
      State.setQueue_queue t q ((t.queue q).cutAt s.nowPs)⟩
    rw [State.setQueue_queue] at hf
    split at hf
    · exact hslots q hq f hf
    · exact hslots k hk f hf

/-- What is in force of a queue does not change as its frame on the wire is cut. -/
theorem State.cutWires_qCfg {s : State} (p : Nat) (h : s.noSlots) {q : Nat} (hq : q < 256) : (s.cutWires p).qCfg q = s.qCfg q := by
  obtain ⟨⟨hwork, -⟩, hqueue⟩ := State.cutWires_spec p h
  have hold : ((s.cutWires p).queue q).old = (s.queue q).old := by
    rw [hqueue q hq]
    split <;> rfl
  have hcfg : Reg.SHQ_CFG q ∉ queueRegs := fun hmem => by
    obtain ⟨k, -, hk⟩ := mem_queueRegs.mp hmem
    simp only [Reg.SHQ_CFG, Reg.SHQ_CREDIT, Reg.SHQ_DEPTH] at hk
    omega
  rw [State.qCfg, hold, State.regN_eq, hwork.only _ hcfg]
  rfl

theorem State.netHalt_spec {s : State} (p : Nat) (h : s.noSlots) :
    (s.netHalt p).portState p = 0 ∧ (s.netHalt p).rbit (blkCtrl (netPage p)) 0 = false ∧
      (∀ q < 256, (s.netHalt p).queue q =
        if cfgPort (s.qCfg q) = p then ((s.queue q).cutAt s.nowPs).emptied else s.queue q) ∧
      QueueWork (portEndRegs p) s (s.netHalt p) := by
  obtain ⟨⟨hcut, hslots⟩, hqueue⟩ := State.cutWires_spec p h
  obtain ⟨hstate, hctrl, hempty, hwork⟩ := State.netStop_spec p hslots
  refine ⟨hstate, hctrl, fun q hq => (hempty q hq).trans ?_, (hcut.mono (queueRegs_sub_portEndRegs p)).trans hwork⟩
  rw [State.cutWires_qCfg p h hq, hqueue q hq]
  split <;> rfl

/-- Settles O24: the status of the port after each command, and over its queues a walk that empties each of them. That a halted port
drops what waits in its queues is the model's choice (log entry 45). -/
theorem networkPorts : Obligations.NetworkPorts := by
  unfold Obligations.NetworkPorts
  refine ⟨?enable, ?refused, ?up, ?down, ?stop, ?halt⟩
  case enable =>
    rintro p s ⟨hl, hstate⟩ hrate hmtu
    obtain ⟨t, ht, hone, hctrl, herror, htx, hrx, hwrites⟩ := netEnable_completes hl hstate hrate hmtu
    refine ⟨t, ht, hone, hctrl, herror, htx.trans ?_, hrx.trans ?_, hwrites.only, hwrites.regs⟩
    · rw [State.portLatency, apply_ite Prod.fst, apply_ite Prod.fst]
    · rw [State.portLatency, apply_ite Prod.snd, apply_ite Prod.snd]
  case refused =>
    rintro p s ⟨hl, hstate⟩ hbad
    rw [exec_netEnable_of_live hl, State.netEnable_of_bad hstate hbad]
  case up =>
    intro p s hl hstate
    obtain ⟨t, ht, htwo, hlocks, hfec, hwrites⟩ := netLinkUp_completes hl hstate
    exact ⟨t, ht, htwo, hlocks, hfec, hwrites.only, hwrites.regs⟩
  case down =>
    rintro p block fec s ⟨hl, hstate⟩
    exact netLinkDown_completes hl hstate block fec
  case stop =>
    intro p s hl hslots
    obtain ⟨hstate, hctrl, hqueue, hwork⟩ := State.netStop_spec p.val fun q hq => hslots q (List.mem_range.mpr hq)
    refine ⟨_, exec_netStop_of_live hl, hstate, hctrl, fun q hq => ?_, hwork.only, hwork.frame⟩
    rw [hqueue q (List.mem_range.mp hq), apply_ite SQueue.frames]
    rfl
  case halt =>
    intro p s hl hslots
    obtain ⟨hstate, hctrl, hqueue, hwork⟩ := State.netHalt_spec p.val fun q hq => hslots q (List.mem_range.mpr hq)
    refine ⟨_, exec_netHalt_of_live hl, hstate, hctrl, fun q hq => ?_, fun q hq => ?_, hwork.only, hwork.frame⟩
    · rw [hqueue q (List.mem_range.mp hq), apply_ite SQueue.frames]
      rfl
    · rw [hqueue q (List.mem_range.mp hq), apply_ite SQueue.wireEnd]
      rfl

end Sys2Proof.Machine

namespace Sys2Proof.Machine

/-! SUPPORT. A received PTP frame whose buffer lies in a DRAM fence (R388, R460, R633). -/

/-- NET_FRAME_RX of one frame on a port that is up (R457). -/
theorem exec_netFrameRx_single {p : Fin 4} {fr : RxFrame} {s : State} (hl : s.live (netPage p.val) = true)
    (hup : s.portState p.val = 2) :
    exec (.netFrameRx [{ port := p, frame := fr }]) s = .next ((s.countFec p.val fr).frameIn p.val fr) := by
  have hone : exec (.netFrameRx [{ port := p, frame := fr }]) s =
      .next (s.ifLive (netPage p.val) fun s => s.frameRx p.val fr) := rfl
  rw [hone, s.ifLive_of _ _ hl, State.frameRx, hup]
  rfl

/-- Port 0 is up, and its frames find a receive ring of 16 places. Of the pools only the fifth has a buffer, in DRAM from address 0;
fence 0 keeps every writer from that page. -/
def fencedRingState : State :=
  [(Reg.NET_STATUS 0, 2), (Reg.NET_MTU 0, 1518), (Reg.PKT_SMRX_SIZE, 16), (blkCtrl 0x018, 1), (Reg.POOL_COUNT 0, 0), (Reg.POOL_COUNT 1, 0),
    (Reg.POOL_COUNT 2, 0), (Reg.POOL_COUNT 3, 0), (Reg.POOL_COUNT 4, 1), (Reg.POOL_QUOTA_PM 25, 256), (Reg.POOL_QUOTA_DRAM 25, 1),
    (Reg.DRAM_FENCE_WRITERS 0, 1)].foldl (fun t p => t.setRegN p.1 p.2) { State.reset with rc := { State.reset.rc with held := [] } }

/-- A PTP frame of EtherType 88F7 to a group address. -/
def ptpGroupFrame : RxFrame :=
  { bytes := [0x01, 0x1B, 0x19, 0, 0, 0] ++ List.replicate 6 2 ++ [0x88, 0xF7] ++ List.replicate 46 0, bad := false, corrected := 0,
    uncorrectable := 0, reading := 0 }

/-- The write of the frame to its buffer meets the fence, which raises FENCE_VIOLATION. -/
theorem fencedRingState_raised :
    ((fencedRingState.countFec (0 : Fin 4).val ptpGroupFrame).frameIn (0 : Fin 4).val ptpGroupFrame).fc.inputs.map (·.kind) =
      [FaultKind.FENCE_VIOLATION] := by
  decide +kernel

/-- Refutes O25: its fifth clause leaves the fault collector out of what a PTP frame with a buffer may change, but a buffer that the
prop room gives from DRAM may lie in a fence, and the write to it then raises FENCE_VIOLATION (R388, R633, R682). -/
theorem not_networkFrames : ¬ Obligations.NetworkFrames := by
  unfold Obligations.NetworkFrames
  rintro ⟨-, -, -, -, hposted, -⟩
  have hport : fencedRingState.live (netPage 0) = true ∧ fencedRingState.portState 0 = 2 := by decide +kernel
  obtain ⟨t, ht, -, -, -, -, -, hframe⟩ := hposted 0 ptpGroupFrame 0x01800000 0 fencedRingState (by decide +kernel) (by decide +kernel)
    (by decide +kernel) (by decide +kernel) (by decide +kernel)
  have hfc : t.fc = fencedRingState.fc := by rw [hframe]
  rw [exec_netFrameRx_single hport.1 hport.2] at ht
  have hkinds := fencedRingState_raised
  rw [Host.Outcome.next.inj ht, hfc] at hkinds
  exact absurd hkinds (by decide +kernel)

end Sys2Proof.Machine

namespace Sys2Proof.Machine

/-! SUPPORT. A write of SHQ_CFG to a queue for which an earlier write has just become due (R492). -/

theorem exec_shqWrite_of_live {q : Fin 256} {rate : Bool} {v : Word} {s : State} (hl : s.live 0x035 = true) :
    exec (.shqWrite q rate v) s = .next (s.shqWrite q.val rate v) := congrArg Host.Outcome.next (s.ifWritten_of _ _ _ _ hl)

/-- Queue 0 holds a frame and was on with a rate of 1 Gb/s; SHQ_CFG was written with EN 0 while a frame was on the wire, and that
frame has left it. -/
def dueQueueState : State :=
  ({ State.reset with rc := { State.reset.rc with held := [] } } : State).setQueue 0
    { SQueue.init with old := some (0x01001001, 1000000), frames := [{ len := 100, at_ := 0, slot := none, ctx := 0, seq := 0 }] }

/-- The write that turned the queue off takes effect first, and drops the frame. -/
theorem dueQueueState_frames : ((dueQueueState.shqWrite 0 false 0x101).queue 0).frames = [] := by decide +kernel

/-- Refutes O27: its first clause says that a write that leaves a queue on keeps the queue's frames, but where an earlier write that
turned the queue off has waited for the wire, that one takes effect first and drops them (R492). -/
theorem not_shaperHistogram : ¬ Obligations.ShaperHistogram := by
  unfold Obligations.ShaperHistogram
  rintro ⟨hwrite, -⟩
  have hqueue : (dueQueueState.live 0x035 = true ∧ bits 0x101 15 8 ≠ 0) ∧ (dueQueueState.queue 0).wireEnd ≤ dueQueueState.nowPs := by
    decide +kernel
  obtain ⟨t, ht, -, -, hframes, -⟩ := hwrite 0 0x101 dueQueueState hqueue.1 hqueue.2
  rw [exec_shqWrite_of_live hqueue.1.1] at ht
  obtain rfl := Host.Outcome.next.inj ht
  exact absurd (hframes.symm.trans dueQueueState_frames) (by decide +kernel)

end Sys2Proof.Machine
